-- ==== Sys2Proof/Word.lean ====
section
/-!
DEFINITION. The words Molwegon computes with: bytes, 32-bit register words (R381), and sparse tables kept in one
canonical form.
-/

namespace Sys2Proof

/-- One byte. -/
abbrev Byte := BitVec 8

/-- One register word, 32 bits (R381). -/
abbrev Word := BitVec 32

/-- A sparse table: keys strictly rising, and no entry that equals what an unlisted key reads as. -/
abbrev Tbl (α : Type) := List (Nat × α)

end Sys2Proof
end

