-- ==== Sys2Proof/Syntax.lean ====
section
/-!
DEFINITION. The commands of Molwegon: one constructor per row of spec/opcode_table.json, with the operands of what
comes from outside the block. `dt` is the time in nanoseconds since the command before; rows that the turn schedule
fixes (turn boundary, capture point, end of the agreement window, twist window start, release point) carry none. `edges` are
the falling edges at CHn_RXD after the edge from FDF to res of a frame this device begins, in bit-timing clock cycles after the
edge at CHn_TXD, rising (R79). `ovl` says that an overload frame follows a frame, with the steps of eight of ISO 11898-1 that its
flag brings (R74).
-/

namespace Sys2Proof

/-- Host ports A and B (chapter 11). -/
inductive Port where
  | a | b
  deriving DecidableEq, Repr

/-- One 32-bit word of a register write: the port, the byte enables and the data (R382). -/
structure Wr where
  port : Port
  be : BitVec 4
  data : Word
  deriving DecidableEq, Repr

/-- One 32-bit word of a register read: the port, and whether all four byte enables are set (R383). -/
structure Rd where
  port : Port
  full : Bool
  deriving DecidableEq, Repr

/-- A frame on a channel's wire, or to be sent (Table 4.5 without the timestamps). For a data frame `data` holds the
payload bytes; for a remote frame it is empty. -/
structure Frame where
  id : BitVec 29
  ide : Bool
  rtr : Bool
  fdf : Bool
  brs : Bool
  esi : Bool
  dlc : BitVec 4
  data : List Byte
  deriving DecidableEq, Repr

/-- What a bobbin records of its frame besides the frame (Table 4.5): DUR, POISON, ERRT and TIME. -/
structure FrameTag where
  dur : Nat
  poison : Bool
  errt : Bool
  time : BitVec 64
  deriving DecidableEq, Repr

/-- Error classes of Table 3.10. -/
inductive ErrClass where
  | stuff | form | ack | bitRecessive | bitDominant | crc | pex
  deriving DecidableEq, Repr

/-- One conversion of both taps of a channel (R187): the 12-bit codes of TAPH and TAPL. -/
structure TapPair where
  h : BitVec 12
  l : BitVec 12
  deriving DecidableEq, Repr

/-- A bit on the wire with the sample pairs that fall in it: its level, and whether it is of the nominal phase. -/
structure BitWave where
  dom : Bool
  nominal : Bool
  pairs : List TapPair
  deriving DecidableEq, Repr

/-- What the sample path brings of a frame (R189): the RTR or RRS bit that ends the arbitration field, the attributed bits from
the next one to the last of the CRC field, and the acknowledge slot. -/
structure Wave where
  prev : BitWave
  bits : List BitWave
  ack : List TapPair
  deriving DecidableEq, Repr

/-- A bit before an error flag: its level, whether it is of the nominal phase, and how many sample pairs fall in it. -/
structure BitSpan where
  dom : Bool
  nominal : Bool
  len : Nat
  deriving DecidableEq, Repr

/-- What is seen of an error on a channel: its class, the frame in flight as far as it was received if its identifier was
known (of another node's frame), the transmitter exceptions and the further steps of eight of ISO 11898-1, and the 4,096 sample
pairs of R196. The class `pex` stands for a recessive FDF or res bit, which R89 makes a protocol exception event or a form error. -/
structure ErrInfo where
  cls : ErrClass
  frame : Option Frame
  exempt : Bool
  eights : Nat
  rxEight : Bool
  pairs : List TapPair
  deriving DecidableEq, Repr

/-- A falling edge of start of frame (R97): its channel, and the edges of the frame on the transceiver's receive pin, which its loop
delay is measured on (R79). -/
structure FrameStart where
  ch : Fin 16
  edges : List Nat
  deriving DecidableEq, Repr

/-- What the wire brings with the end of a received frame: what the sample path measured, and the overload frames that follow. -/
structure FrameEnd where
  lw : Option Wave := none
  ovl : Option Nat := none
  deriving DecidableEq, Repr

/-- Header of a descriptor as it reaches acceptance (Table 10.6) with its place (port, distaff, index). `resv` is 1
when some reserved field of the descriptor is not 0 (R15, R334). -/
structure Desc where
  port : Port
  distaff : Fin 128
  index : Word
  cmpl : Bool
  tag : Word
  resv : Bool
  deriving DecidableEq, Repr

/-- SEND body (Table 10.8) with its payload bytes resolved (inline or read from PAY_ADDR). -/
structure SendBody where
  id : BitVec 29
  ide : Bool
  rtr : Bool
  fdf : Bool
  ch : Fin 16
  dlc : BitVec 4
  brs : Bool
  indirect : Bool
  payAddr : BitVec 64
  data : List Byte
  deriving DecidableEq, Repr

/-- STREAM_OPEN body (Table 10.9, Table 5.1). -/
structure OpenBody where
  stream : Fin 4096
  ch : Fin 16
  format : BitVec 2
  kind : BitVec 2
  source : BitVec 2
  auth : Bool
  vport : Port
  keySlot : BitVec 6
  id : BitVec 29
  ide : Bool
  len : BitVec 7
  vlead : BitVec 8
  period : BitVec 16
  offIa : Word
  deadline : Word
  jitter : Word
  stale : BitVec 16
  vaddr : BitVec 64
  deriving DecidableEq, Repr

/-- STREAM_DATA body (Table 10.8). -/
structure DataBody where
  stream : Fin 4096
  len : BitVec 7
  indirect : Bool
  payAddr : BitVec 64
  data : List Byte
  deriving DecidableEq, Repr

/-- FOREIGN_DECLARE body (Table 10.9 with bytes 0x00 to 0x13 of Table 5.14). -/
structure ForeignBody where
  index : Fin 8192
  withdraw : Bool
  id : BitVec 29
  ide : Bool
  rtr : Bool
  ch : Fin 16
  format : BitVec 2
  sporadic : Bool
  len : BitVec 7
  node : Fin 32
  feed : BitVec 4
  period : Word
  jitter : Word
  deadline : Word
  deriving DecidableEq, Repr

/-- One set of feed measurements (R282): current in mA, voltages in mV, VGS in mV. -/
structure FeedMeas where
  i : Int := 0
  vout : Nat := 0
  vcom : Nat := 0
  va : Nat := 0
  vb : Nat := 0
  vgs : Int := 0
  deriving DecidableEq, Repr

/-- The voltages of a set of feed measurements, in mV: V_OUT, V_COM and the two supplies (R282). -/
structure FeedVolts where
  vout : Nat := 0
  vcom : Nat := 0
  va : Nat := 0
  vb : Nat := 0
  deriving DecidableEq, Repr

/-- The voltages of a set. -/
def FeedMeas.volts (m : FeedMeas) : FeedVolts := { vout := m.vout, vcom := m.vcom, va := m.va, vb := m.vb }

/-- A current in mA through the pass gate of a feed (R292). -/
structure FeedCurrent where
  feed : Fin 8
  i : Int
  deriving DecidableEq, Repr

/-- Supply B or A of a feed with its voltage and V_COM, in mV (R281). -/
structure FeedDrop where
  sideB : Bool
  v : Nat
  vcom : Nat
  deriving DecidableEq, Repr

/-- The words of the descriptor k places behind the consumer index (R331). -/
structure DescRead where
  k : Nat
  words : List Word
  deriving DecidableEq, Repr

/-- A relayed frame with what its bobbin records (Table 15.4, bytes 0x00 to 0x0F of Table 4.5). -/
structure Relayed where
  frame : Frame
  tag : FrameTag
  deriving DecidableEq, Repr

/-- Readings of a capture point (R24, R25, R254, R263, R264): voltages across the sixteen sense resistors and the eight
readback resistors in µV, currents of half-drivers A and B in µA, headrooms and VLOOP in mV. -/
structure LioReadings where
  ins : List Int
  rbs : List Int
  halfA : List Nat
  halfB : List Nat
  heads : List Nat
  vloop : Nat
  deriving DecidableEq, Repr

/-- LOOP_MODE body (Table 10.9). -/
structure LoopModeBody where
  loop : Fin 256
  mode : BitVec 2
  man : Word
  deriving DecidableEq, Repr

/-- LOOP_PARAM body (Table 10.9): stage, the opcode it must hold, P0 to P3 and FB. -/
structure LoopParamBody where
  loop : Fin 256
  stage : Fin 16
  expect : BitVec 8
  p0 : Word
  p1 : Word
  p2 : Word
  p3 : Word
  fb : Word
  deriving DecidableEq, Repr

/-- LINE_CAPTURE body (Table 10.9). -/
structure CaptureBody where
  ch : Fin 16
  trigger : BitVec 2
  timeout : BitVec 16
  key : Word
  addr : BitVec 64
  deriving DecidableEq, Repr

/-- KEY_LOAD body (Tables 10.9, 18.1): wrapped key C and tag T, byte 0 in the lowest bits. -/
structure KeyBody where
  slot : BitVec 6
  blobLen : BitVec 8
  c : BitVec 128
  t : BitVec 64
  deriving DecidableEq, Repr

/-- Heartbeat payload (Table 14.2), version 1. -/
structure Beat where
  member : Nat
  role : Nat
  releasing : Bool
  holder : Nat
  vote : Nat
  view : Nat
  demoted : Nat
  shadowBad : Bool
  epoch : BitVec 16
  leaseEnd : BitVec 16
  turn : BitVec 48
  tag : BitVec 16
  deriving DecidableEq, Repr

/-- Value of one sink in an output set: loop, sink, the loop's mode and the binary32 value (chapter 14). -/
structure SinkVal where
  loop : Nat
  sink : Nat
  mode : Nat
  val : Word
  deriving DecidableEq, Repr

/-- A loop's state as R464 sends it: mode, fallback cause, counts, and for each stage its history words. With it go the
freshness counters of the streams its sinks feed. -/
structure LoopImage where
  loop : Nat
  mode : Nat
  cause : Nat
  counts : List Nat
  stages : List (List Word)
  streams : List (Nat × Nat)
  deriving DecidableEq, Repr

/-- TRAIN cell body (Table 15.4) and the lanes of the pair chosen, bit i for lane i. -/
structure TrainInfo where
  vmin : Nat
  vmax : Nat
  pos : Nat
  member : Nat
  ply : Bool
  tag : BitVec 16
  lanes : Nat
  deriving DecidableEq, Repr

/-- TRAIN cells alike, n in a row (R478). -/
structure TrainRun where
  info : TrainInfo
  n : Nat
  deriving DecidableEq, Repr

/-- Header of a received cell (Table 15.3) with the link it came in on; `crcOk` says that its CRC matched, `kindOk` that
its KIND is listed. -/
structure CellHdr where
  link : Fin 4
  crcOk : Bool
  kindOk : Bool
  acting : Bool
  ack : Nat
  tag : BitVec 16
  turn16 : BitVec 16
  deriving DecidableEq, Repr

/-- One AGREE cell's part of a set (Table 15.4): taps and COMP flags of the agreement set, or values of the output set. -/
inductive AgreeBody where
  | taps (l : List (Word × Bool)) (comps : List Bool)
  | outs (l : List SinkVal)
  deriving DecidableEq, Repr

/-- What the scrubber or a consumer finds in one row of the SRAM (R432, R435): corrected reads, whether a word was
uncorrectable, dropped write-backs, the region of Table 13.4 and the unit of it that holds the word (a bobbin, a sliver,
a channel, a loop, a stream). -/
structure RowErr where
  row : Fin 32768
  ce : Nat
  ue : Bool
  dropped : Nat
  region : Fin 11
  item : Nat
  deriving DecidableEq, Repr

/-- What the power-up test finds (R520): spindles and lanes whose self-check fails, rows with a fault, and columns
(macro, column) with a fault in more than one row. -/
structure SelfTest where
  spindles : List (Fin 18)
  lanes : List (Fin 5)
  rows : List (Fin 32768)
  cols : List (Fin 32 × Fin 8192)
  deriving DecidableEq, Repr

/-- What a ply-wide descriptor asks for (R467). -/
inductive PlyAct where
  | open_ (b : OpenBody)
  | close (n : Fin 4096)
  | foreign (b : ForeignBody)
  | loopParam (b : LoopParamBody)
  | loopMode (b : LoopModeBody)
  | cmd (action : Nat) (member : Nat)
  deriving DecidableEq, Repr

/-- MGMT cell bodies (Table 15.4). A ply-wide descriptor comes in two cells with the turn in which the
acting member accepted it; other MTYPE values are
dropped. -/
inductive MgmtBody where
  | desc (turn : BitVec 48) (act : PlyAct)
  | loop (l : LoopImage)
  | doorbell (src : Nat)
  | other
  deriving DecidableEq, Repr

/-- Which read of host memory a completion, a timeout or an error belongs to (R325 to R336). A descriptor read is that of the
descriptor `k` places behind the distaff's consumer index. -/
inductive HostRead where
  | summary
  | dsProd (d : Fin 128)
  | skCons (k : Fin 128)
  | desc (d : Fin 128) (k : Nat)
  | payload (d : Fin 128)
  deriving DecidableEq, Repr

/-- The commands of Molwegon, one per row of spec/opcode_table.json. -/
inductive Instr where
  /-- TURN_BOUNDARY (R31): At each turn boundary the committed configuration is applied, the turn number advances and TURN_OUT pulses. -/
  | turnBoundary
  /-- CAPTURE_POINT (R30): At the capture point one snapshot of receive-stream values, loop inputs, feed measurements and line-watch summaries is latched. -/
  | capturePoint (tripIn : BitVec 4)
  /-- CAPTURE_READINGS_ARRIVAL (R25): The readings latched by a capture strobe arrive at the core die over the field bridge. -/
  | captureReadingsArrival (dt : Nat) (x : LioReadings)
  /-- CAPTURE_READINGS_TIMEOUT (R25): Readings not arrived 10 µs after the capture point are replaced by the previous turn's readings and marked stale. -/
  | captureReadingsTimeout (dt : Nat)
  /-- AGREEMENT_WINDOW_END (R457): At the end of the agreement window each ply member forms the agreed tap values from the contributing sets. -/
  | agreementWindowEnd
  /-- TWIST_WINDOW_START (R220): The twist engine issues the due loops to the lanes in ascending loop number. -/
  | twistWindowStart
  /-- LOOP_EVALUATION_COMPLETE (R221): A lane completes a loop's evaluation and its state and unpublished outputs are written. -/
  | loopEvaluationComplete (dt : Nat) (loop : Fin 256)
  /-- RELEASE_POINT (R30): At the release point loop outputs are published to sinks, loop outputs, trip lines and loop-sourced streams. -/
  | releasePoint
  /-- TURN_OUT_PULSE_END (R71): OUT_WIDTH_US after the boundary TURN_OUTP is driven below TURN_OUTN. -/
  | turnOutPulseEnd (dt : Nat)
  /-- PPS_EVENT (R63): A rising edge of PPS_IN is a reference event that updates the phase and frequency terms. -/
  | ppsEvent (dt : Nat)
  /-- TURN_IN_EVENT (R63): A rising edge of TURN_INP against TURN_INN is a reference event marking a boundary. -/
  | turnInEvent (dt : Nat)
  /-- TIME_CELL (R486): A TIME cell received on a Wilist link gives a round trip and, on the up link in use, a reference event. -/
  | timeCell (dt : Nat) (h : CellHdr) (tTx : BitVec 64) (turn : BitVec 48) (echo : BitVec 64) (residence : Word)
  /-- HOLDOVER_ENTRY (R68): No accepted event for 2 reference periods puts the device into holdover. -/
  | holdoverEntry (dt : Nat)
  /-- CASCADE_ALARM (R69): 64 turns of holdover on a cascade follower set CASCADE_ALARM. -/
  | cascadeAlarm (dt : Nat)
  /-- LOAD_TIME (R55): TB_CMD.LOAD_TIME sets the time base to TB_SET in SET-UP. -/
  | loadTime (dt : Nat) (w : Wr)
  /-- LOAD_TURN (R57): TB_CMD.LOAD_TURN arms the load of TB_TURN_SET at a boundary in SET-UP. -/
  | loadTurn (dt : Nat) (w : Wr)
  /-- TB_NOW_LO_READ (R48): A read of TB_NOW_LO returns time base bits [31:0] and latches bits [63:32] into the port's TB_NOW_HI. -/
  | tbNowLoRead (dt : Nat) (r : Rd)
  /-- TB_TURN_LO_READ (R48): A read of TB_TURN_LO returns the low turn bits and latches the high bits. -/
  | tbTurnLoRead (dt : Nat) (r : Rd)
  /-- TB_BOUND_LO_READ (R48): A read of TB_BOUND_LO returns the low boundary time and latches the high bits. -/
  | tbBoundLoRead (dt : Nat) (r : Rd)
  /-- START_OF_FRAME (R97): A spindle detects the falling edge of start of frame and takes its timestamp. -/
  | startOfFrame (dt : Nat) (x : FrameStart)
  /-- FRAME_RECEIVED (R113): A correctly received frame is pushed whole into the spindle's receive sliver. -/
  | frameReceived (dt : Nat) (ch : Fin 16) (f : Frame) (x : FrameEnd)
  /-- FRAME_SENT (R94): A transmitted frame's end of frame completes and its bobbin leaves the ready set. -/
  | frameSent (dt : Nat) (ch : Fin 16) (lw : Option Wave) (ovl : Option Nat)
  /-- ARBITRATION_LOST (R93): A frame losing arbitration stays in the ready set and the transmit sliver rewinds. -/
  | arbitrationLost (dt : Nat) (ch : Fin 16)
  /-- ERROR_FLAG (R99): An error is detected, an error flag starts and TEC and REC change. -/
  | errorFlag (dt : Nat) (ch : Fin 16) (e : ErrInfo)
  /-- FRAME_CHOICE (R91): The spindle chooses the head of the ready set at an interframe opportunity. -/
  | frameChoice (dt : Nat) (ch : Fin 16) (poison : Bool)
  /-- BUS_INTEGRATION_COMPLETE (R87): After 11 consecutive recessive bits the channel completes bus integration. -/
  | busIntegrationComplete (dt : Nat) (ch : Fin 16)
  /-- HOLDOFF_END (R106): The bus-off hold-off ends and the channel moves to RECOVERING or BUS_OFF_WAIT. -/
  | holdoffEnd (dt : Nat) (ch : Fin 16)
  /-- RECOVERY_COMPLETE (R109): The 128th occurrence of 11 recessive bits completes and the channel becomes ERROR_ACTIVE. -/
  | recoveryComplete (dt : Nat) (ch : Fin 16)
  /-- MODE_TAKES_EFFECT (R86): A committed channel mode takes effect at the first intermission bit after the frame on the wire. -/
  | modeTakesEffect (dt : Nat) (ch : Fin 16)
  /-- TRANSMIT_TIMEOUT (R95): A bobbin still in the ready set at the fourth boundary after entry is aborted. -/
  | transmitTimeout (dt : Nat) (ch : Fin 16)
  /-- RECOVER (R108): SP_CHn_CMD.RECOVER moves a channel in BUS_OFF_WAIT to RECOVERING. -/
  | recover (dt : Nat) (ch : Fin 16) (w : Wr)
  /-- RELEASE (R110): SP_CHn_CMD.RELEASE takes a QUARANTINED channel to INTEGRATING. -/
  | release (dt : Nat) (ch : Fin 16) (w : Wr)
  /-- CARDING (R118): A frame taken from a receive sliver is carded and delivered to its route's destinations. -/
  | carding (dt : Nat) (sp : Fin 18) (hdrBad : Bool) (payBad : Bool)
  /-- EM_INSERT (R122): An exact-match INSERT command inserts or updates an entry. -/
  | emInsert (dt : Nat) (w : Wr)
  /-- EM_DELETE (R123): An exact-match DELETE command invalidates the entry of a key. -/
  | emDelete (dt : Nat) (w : Wr)
  /-- EM_READ (R123): An exact-match READ command loads an entry into the CR_EM_ registers. -/
  | emRead (dt : Nat) (w : Wr)
  /-- ROUTE_WRITE (R124): A route WRITE command stores DATA0 and DATA1 into a route. -/
  | routeWrite (dt : Nat) (w : Wr)
  /-- ROUTE_READ (R124): A route READ command loads a route into DATA0 and DATA1. -/
  | routeRead (dt : Nat) (w : Wr)
  /-- TABLE_COMMAND_COMPLETE (R124): An exact-match or route command completes and its result is shown. -/
  | tableCommandComplete (dt : Nat)
  /-- NOP (R335): A NOP descriptor completes OK at acceptance. -/
  | nop (dt : Nat) (d : Desc)
  /-- SEND (R337): A SEND descriptor takes a bobbin from the shared pool for a best-effort frame. -/
  | send (dt : Nat) (d : Desc) (b : SendBody)
  /-- SEND_READY_ENTRY (R155): A SEND bobbin enters the ready set no earlier than BE_PERIOD_US after the previous one. -/
  | sendReadyEntry (dt : Nat) (ch : Fin 16)
  /-- STREAM_OPEN (R161): A STREAM_OPEN descriptor is checked and drafted. -/
  | streamOpen (dt : Nat) (d : Desc) (b : OpenBody)
  /-- STREAM_CLOSE (R165): A STREAM_CLOSE descriptor closes a stream from the next boundary. -/
  | streamClose (dt : Nat) (d : Desc) (stream : Fin 4096)
  /-- STREAM_DATA (R149): A STREAM_DATA descriptor supplies a payload or holds a sporadic release. -/
  | streamData (dt : Nat) (d : Desc) (b : DataBody)
  /-- FOREIGN_DECLARE (R166): A FOREIGN_DECLARE adds or withdraws a foreign declaration. -/
  | foreignDeclare (dt : Nat) (d : Desc) (b : ForeignBody)
  /-- DRAFT_COMPLETE (R162): A draft completes and its descriptor completes OK or DRAFT_REFUSED. -/
  | draftComplete (dt : Nat) (acting : Option Nat)
  /-- DRAFT_TIMEOUT (R164): A draft not complete after TMO_US completes TIMEOUT. -/
  | draftTimeout (dt : Nat)
  /-- STREAM_RELEASE (R147): At a cyclic stream's release instant a bobbin is filled and entered into the ready set. -/
  | streamRelease (dt : Nat) (stream : Fin 4096)
  /-- SPORADIC_ACCEPTANCE (R149): A held sporadic STREAM_DATA is accepted at its acceptance instant and released. -/
  | sporadicAcceptance (dt : Nat) (stream : Fin 4096)
  /-- VALUE_LINE_READ_START (R148): VLEAD_US before a release the ring engine issues the value line read. -/
  | valueLineReadStart (dt : Nat) (stream : Fin 4096)
  /-- VALUE_LINE_READ_COMPLETE (R148): A value line read completes and its data becomes the current value line. -/
  | valueLineReadComplete (dt : Nat) (stream : Fin 4096) (nth : Nat) (ok : Bool) (data : List Byte)
  /-- VALUE_LINE_READ_TIMEOUT (R346): A value line read not completed within CPL_TMO is abandoned without retry. -/
  | valueLineReadTimeout (dt : Nat) (stream : Fin 4096)
  /-- RELEASE_DEADLINE (R181): A release's deadline passes and its miss is judged covered or uncovered. -/
  | releaseDeadline (dt : Nat) (stream : Fin 4096)
  /-- ATTRIBUTION (R199): Line watch attributes an error flag to a node and queues a LINE_RECORD. -/
  | attribution (dt : Nat) (ch : Fin 16) (arb : Option BitSpan) (bits : List BitSpan)
  /-- QUARANTINE_REQUEST_LAPSE (R206): A quarantine request lapses after REQ_TURNS turns. -/
  | quarantineRequestLapse (dt : Nat) (ch : Fin 16)
  /-- QUARANTINE_RESTART (R207): After OFF_MS a CYCLE quarantine restarts the feed. -/
  | quarantineRestart (dt : Nat) (ch : Fin 16)
  /-- SHORT_EVALUATION (R202): Every 100 µs on a recessive bus each tap is averaged and the short bits evaluated. -/
  | shortEvaluation (dt : Nat) (ch : Fin 16) (tapH : Int) (tapL : Int)
  /-- TREND_INTERVAL_END (R203): At the end of a trend interval node means are stored and trend alarms evaluated. -/
  | trendIntervalEnd (dt : Nat) (ch : Fin 16)
  /-- BASELINE (R203): LW_CMD.BASELINE copies each node's current means to its baseline. -/
  | baseline (dt : Nat) (w : Wr)
  /-- LINE_CAPTURE (R213): A LINE_CAPTURE descriptor arms a host capture with a trigger. -/
  | lineCapture (dt : Nat) (d : Desc) (b : CaptureBody)
  /-- LINE_CAPTURE_TRIGGER (R213): The capture trigger occurs and the samples are written to the host buffer. -/
  | lineCaptureTrigger (dt : Nat) (ch : Fin 16) (pairs : List TapPair)
  /-- LINE_CAPTURE_TIMEOUT (R213): A capture whose trigger has not occurred within its timeout completes TIMEOUT. -/
  | lineCaptureTimeout (dt : Nat) (ch : Fin 16)
  /-- LOOP_MODE (R241): A LOOP_MODE descriptor sets a loop's mode at the next boundary. -/
  | loopMode (dt : Nat) (d : Desc) (b : LoopModeBody)
  /-- LOOP_PARAM (R241): A LOOP_PARAM descriptor replaces a stage's parameters at the next boundary. -/
  | loopParam (dt : Nat) (d : Desc) (b : LoopParamBody)
  /-- LANE_FAILURE (R251): A twist lane fails its self-check, leaves service and its loop is restarted. -/
  | laneFailure (dt : Nat) (lane : Fin 5)
  /-- LIMITER_OPEN (R258): An input's current exceeds the overload threshold and the limiter opens. -/
  | limiterOpen (dt : Nat) (input : Fin 16)
  /-- LIMITER_TEST (R258): The field die closes an open limiter 20 µs after the test conversion. -/
  | limiterTest (dt : Nat) (input : Fin 16) (exceeds : Bool)
  /-- OUTPUT_COMMAND_ARRIVAL (R262): An output command reaches the field die after the release point. -/
  | outputCommandArrival (dt : Nat) (output : Fin 8)
  /-- COMPLIANCE_CHANGE (R268): An output's headroom crosses a threshold and COMP changes. -/
  | complianceChange (dt : Nat) (output : Fin 8) (headMv : Nat)
  /-- OUTPUT_MISWIRING (R269): ABOVE_SUPPLY or REVERSE arises or clears on an output. -/
  | outputMiswiring (dt : Nat) (output : Fin 8) (vout : Int) (vrtn : Int) (vloop : Int)
  /-- OUTPUT_WATCHDOG (R270): No command for WD_MS ms puts the output into its failure state. -/
  | outputWatchdog (dt : Nat) (output : Fin 8)
  /-- LO_CLEAR (R272): LO_CMD.CLEAR clears the latched failure causes of the named outputs. -/
  | loClear (dt : Nat) (w : Wr)
  /-- LO_LOCK (R277): A write of 1 to LO_LOCK.LOCK guards output ranges, failure currents and watchdogs. -/
  | loLock (dt : Nat) (w : Wr)
  /-- FEED_MEASUREMENT (R282): Every 10 µs a feed measurement set is taken and the integrator and energy updated. -/
  | feedMeasurement (dt : Nat) (feed : Fin 8) (i : Int) (v : FeedVolts) (vgs : Int)
  /-- FEED_SUPERVISION_TICK (R293): Each 1 µs supervision tick evaluates the fault timers and the ramp. -/
  | feedSupervisionTick (dt : Nat) (feed : Fin 8) (i : Int) (vout vcom : Nat) (vgs : Int) (supplies : Nat × Nat)
  /-- FEED_SUPPLY_QUALIFIED (R286): A supply in window for INS_MS qualifies and a waiting feed enters RAMP. -/
  | feedSupplyQualified (dt : Nat) (feed : Fin 8)
  /-- FEED_QUALIFY_COMPLETE (R294): 2,000 clear ticks in QUALIFY assert power good and the feed enters ON. -/
  | feedQualifyComplete (dt : Nat) (feed : Fin 8)
  /-- FEED_START_TIMEOUT (R291): No power good START_MS after RAMP began turns the pass gate off. -/
  | feedStartTimeout (dt : Nat) (feed : Fin 8)
  /-- FEED_FAST_TRIP (R292): The fast-trip comparator pulls the pass gate down. -/
  | feedFastTrip (dt : Nat) (x : FeedCurrent)
  /-- FEED_GATE_FAIL (R300): VGS below 2 V for 5 ms of full charging current turns the gate off with GATE_FAIL. -/
  | feedGateFail (dt : Nat) (feed : Fin 8)
  /-- FEED_QP_SHORT (R301): V_OUT above SHORT_MV at 10 measurements with the gate off latches QP_SHORT. -/
  | feedQpShort (dt : Nat) (feed : Fin 8)
  /-- FEED_SUPPLY_LOSS (R287): No supply in window for 10 measurements turns the feed off with SUPPLY. -/
  | feedSupplyLoss (dt : Nat) (feed : Fin 8)
  /-- FEED_OVERVOLT (R287): A supply above OV_MV for 3 measurements turns the feed off with OVERVOLT. -/
  | feedOvervolt (dt : Nat) (feed : Fin 8)
  /-- FEED_COOLING_END (R303): COOLING ends and the feed enters RAMP, HELD or WAIT. -/
  | feedCoolingEnd (dt : Nat) (feed : Fin 8)
  /-- FEED_RETRY_CLEAR (R304): Power good held for RETRY_CLR_S resets the retry count. -/
  | feedRetryClear (dt : Nat) (feed : Fin 8)
  /-- FEED_CYCLE_END (R306): The OFF_MS of a CYCLE expires and the hold ends. -/
  | feedCycleEnd (dt : Nat) (feed : Fin 8)
  /-- ORING_REVERSE (R281): Fn_COM above a supply pulls that supply's ORing gate down. -/
  | oringReverse (dt : Nat) (feed : Fin 8) (x : FeedDrop)
  /-- FEED_CMD_ON (R306): A FEED_CMD of action ON ends the hold. -/
  | feedCmdOn (dt : Nat) (d : Desc) (feed : Fin 8)
  /-- FEED_CMD_OFF (R306): A FEED_CMD of action OFF holds the feed off. -/
  | feedCmdOff (dt : Nat) (d : Desc) (feed : Fin 8)
  /-- FEED_CMD_CYCLE (R306): A FEED_CMD of action CYCLE turns the feed off for OFF_MS. -/
  | feedCmdCycle (dt : Nat) (d : Desc) (feed : Fin 8) (offMs : BitVec 16)
  /-- FEED_CMD_QUARANTINE (R306): A FEED_CMD of action QUARANTINE approves a pending request or acts as OFF. -/
  | feedCmdQuarantine (dt : Nat) (d : Desc) (feed : Fin 8)
  /-- FEED_CMD_CLEAR (R306): A FEED_CMD of action CLEAR leaves LATCHED with retry count 0. -/
  | feedCmdClear (dt : Nat) (d : Desc) (feed : Fin 8)
  /-- FD_CMD_ON (R306): FD_Fn_CMD.ON ends the feed's hold. -/
  | fdCmdOn (dt : Nat) (feed : Fin 8) (w : Wr)
  /-- FD_CMD_OFF (R306): FD_Fn_CMD.OFF holds the feed off. -/
  | fdCmdOff (dt : Nat) (feed : Fin 8) (w : Wr)
  /-- FD_CMD_CLEAR (R306): FD_Fn_CMD.CLEAR leaves LATCHED. -/
  | fdCmdClear (dt : Nat) (feed : Fin 8) (w : Wr)
  /-- FD_LOCK (R312): A write of 1 to FD_LOCK.LOCK guards the feeds' curves, fold-back, fast trip and cooling. -/
  | fdLock (dt : Nat) (w : Wr)
  /-- FIELD_COMMIT_ARRIVAL (R309): A committed change reaches the field die and applies from the next tick. -/
  | fieldCommitArrival (dt : Nat)
  /-- FEED_ENERGY_LO_READ (R283): A read of FD_Fn_E_LO latches the high energy bits into the port's E_HI. -/
  | feedEnergyLoRead (dt : Nat) (feed : Fin 8) (r : Rd)
  /-- SUMMARY_POLL (R325): Every POLL interval the summary line of the doorbell page is read. -/
  | summaryPoll (dt : Nat) (port : Port)
  /-- SUMMARY_READ_COMPLETE (R325): The summary line arrives and DS_PROD reads are issued for changed distaffs. -/
  | summaryReadComplete (dt : Nat) (port : Port) (summary : BitVec 128) (generation : Word)
  /-- DS_PROD_READ_COMPLETE (R328): A DS_PROD arrives and descriptor reads are issued or the distaff stalls. -/
  | dsProdReadComplete (dt : Nat) (port : Port) (ds : Fin 128) (prod : Word)
  /-- SK_CONS_READ_COMPLETE (R327): An SK_CONS read arrives and updates the cached skein space. -/
  | skConsReadComplete (dt : Nat) (port : Port) (sk : Fin 128) (cons : Word)
  /-- DESCRIPTOR_FETCHED (R334): A descriptor arrives from host memory and is checked and accepted. -/
  | descriptorFetched (dt : Nat) (port : Port) (ds : Fin 128) (r : DescRead)
  /-- PAYLOAD_READ_COMPLETE (R336): An indirect payload read arrives for a SEND or STREAM_DATA. -/
  | payloadReadComplete (dt : Nat) (port : Port) (ds : Fin 128) (data : List Byte)
  /-- READ_TIMEOUT (R347): A host read fails CPL_TMO and is retried or the ring stalls. -/
  | readTimeout (dt : Nat) (port : Port) (what : HostRead)
  /-- READ_ERROR (R347): A host read ends in an error or poisoned completion and is retried or the ring stalls. -/
  | readError (dt : Nat) (port : Port) (what : HostRead)
  /-- FENCE (R342): A FENCE completes at the boundary opening its turn and may hold later descriptors. -/
  | fence (dt : Nat) (d : Desc) (turn : BitVec 48) (hold : Bool)
  /-- SKEIN_NOTIFY_COALESCE (R323): COALESCE µs after the last raising a skein raises its deferred NOTIFY source. -/
  | skeinNotifyCoalesce (dt : Nat) (port : Port) (sk : Fin 128)
  /-- LINK_DOWN (R349): A PCI Express link goes down and every ring of the port stalls. -/
  | linkDown (dt : Nat) (port : Port)
  /-- BUS_MASTER_DISABLE (R314): Bus Master Enable is cleared and the port's rings stop. -/
  | busMasterDisable (dt : Nat) (port : Port)
  /-- FUNCTION_LEVEL_RESET (R349): A function level reset stalls the port's rings and resets its settings. -/
  | functionLevelReset (dt : Nat) (port : Port)
  /-- PERST_ASSERT (R349): Assertion of a port's PERST_N resets that port. -/
  | perstAssert (dt : Nat) (port : Port)
  /-- PORT_EN_WRITE (R321): A write of PP_CTL.PORT_EN enables or disables polling and ring service. -/
  | portEnWrite (dt : Nat) (w : Wr)
  /-- RING_ENABLE (R322): A write of EN = 1 enables a ring. -/
  | ringEnable (dt : Nat) (w : Wr)
  /-- RING_DISABLE (R348): A write of EN = 0 to a RUNNING ring stalls it with cause DISABLE. -/
  | ringDisable (dt : Nat) (w : Wr)
  /-- PLY_SWITCH (R470): A PLY_CMD SWITCH passes the flyer to the named standby. -/
  | plySwitch (dt : Nat) (d : Desc) (member : Fin 4)
  /-- PLY_DEMOTE (R470): A PLY_CMD DEMOTE makes the named member DEMOTED. -/
  | plyDemote (dt : Nat) (d : Desc) (member : Fin 4)
  /-- PLY_REINSTATE (R470): A PLY_CMD REINSTATE makes a DEMOTED member JOINING. -/
  | plyReinstate (dt : Nat) (d : Desc) (member : Fin 4)
  /-- PLY_FORCE (R470): A PLY_CMD FORCE makes the named member take the flyer without votes. -/
  | plyForce (dt : Nat) (d : Desc) (member : Fin 4)
  /-- CHANNEL_CMD_RECOVER (R341): A CHANNEL_CMD of action RECOVER acts as SP_CHn_CMD.RECOVER. -/
  | channelCmdRecover (dt : Nat) (d : Desc) (ch : Fin 16)
  /-- CHANNEL_CMD_RELEASE (R341): A CHANNEL_CMD of action RELEASE acts as SP_CHn_CMD.RELEASE. -/
  | channelCmdRelease (dt : Nat) (d : Desc) (ch : Fin 16)
  /-- KEY_LOAD (R540): A KEY_LOAD descriptor unwraps and checks a key blob for a slot. -/
  | keyLoad (dt : Nat) (d : Desc) (b : KeyBody)
  /-- KEY_LOAD_COMPLETE (R541): A key load completes and later fills use the new key. -/
  | keyLoadComplete (dt : Nat)
  /-- CANDIDACY (R357): A write of PP_CAND.CAND declares or withdraws a port's candidacy. -/
  | candidacy (dt : Nat) (w : Wr)
  /-- ACCEPT (R362): A write of PP_CAND.ACCEPT makes the handover target owner. -/
  | accept (dt : Nat) (w : Wr)
  /-- ELECTION_WINDOW_END (R358): At the end of the election window the candidate port becomes owner. -/
  | electionWindowEnd (dt : Nat)
  /-- HANDOVER_GO (R361): OW_HANDOVER.GO starts a handover to the other port. -/
  | handoverGo (dt : Nat) (w : Wr)
  /-- HANDOVER_TIMEOUT (R363): A handover not accepted within 100 ms is cancelled. -/
  | handoverTimeout (dt : Nat)
  /-- GENERATION_LAPSE (R365): GENERATION unchanged for LAPSE_MS lapses the owner. -/
  | generationLapse (dt : Nat)
  /-- WH_DOORBELL (R355): A write of WH_DOORBELL fires the source number written. -/
  | whDoorbell (dt : Nat) (w : Wr)
  /-- WH_CLAIM (R371): A read of WH_CLAIM claims the highest-priority pending source. -/
  | whClaim (dt : Nat) (r : Rd) (conditionFalse : Bool)
  /-- WH_COMPLETE (R373): A write of WH_COMPLETE pops the top stack entry. -/
  | whComplete (dt : Nat) (w : Wr)
  /-- WH_HOLD (R376): A write of WH_HOLD.HOLD suspends or resumes request messages. -/
  | whHold (dt : Nat) (w : Wr)
  /-- STACK_AGE_EXPIRY (R378): The oldest stack entry older than AGE_MS force-completes the port. -/
  | stackAgeExpiry (dt : Nat) (port : Port)
  /-- REGISTER_WRITE (R386): A register write without behaviour of its own is applied to shadow or live state or discarded. -/
  | registerWrite (dt : Nat) (off : Nat) (w : Wr)
  /-- DV_COMMIT (R390): A write of DV_COMMIT starts a commit of the named groups. -/
  | dvCommit (dt : Nat) (w : Wr)
  /-- DV_COMMIT_NOW (R395): A write of DV_COMMIT_NOW in SET-UP starts a commit applied without a boundary. -/
  | dvCommitNow (dt : Nat) (w : Wr)
  /-- COMMIT_ACCEPTANCE (R391): The last check of a commit completes and its groups are accepted or refused. -/
  | commitAcceptance (dt : Nat)
  /-- REANALYSIS_TIMEOUT (R393): A re-analysis not finished in TMO_US refuses DRAFT and the causing groups. -/
  | reanalysisTimeout (dt : Nat)
  /-- DV_LOCK (R398): A write of 1 to a DV_LOCK bit guards DV_CRC_CFG or DV_PINSAFE. -/
  | dvLock (dt : Nat) (w : Wr)
  /-- PL_LOCK (R398): A write of 1 to a PL_LOCK bit guards PL_IDENT or PL_POLICY. -/
  | plLock (dt : Nat) (w : Wr)
  /-- KS_LOCK (R541): A write of 1 to a KS_LOCK bit makes its slot refuse KEY_LOAD. -/
  | ksLock (dt : Nat) (half : Fin 2) (w : Wr)
  /-- FIELD_WRITE_ACK (R400): The field die acknowledges a posted write and FIELD_BUSY clears. -/
  | fieldWriteAck (dt : Nat)
  /-- CT_CLEAR_GO (R413): CT_CLEAR.GO clears every counter of the named bank. -/
  | ctClearGo (dt : Nat) (w : Wr)
  /-- CT_CLEAR_ALL (R413): CT_CLEAR.ALL clears every counter bank. -/
  | ctClearAll (dt : Nat) (w : Wr)
  /-- CT_SNAP_NOW (R414): CT_SNAP.NOW copies every counter into its holding register. -/
  | ctSnapNow (dt : Nat) (w : Wr)
  /-- CT_SNAP_AT_BOUNDARY (R414): CT_SNAP.AT_BOUNDARY arms a counter copy at the next boundary. -/
  | ctSnapAtBoundary (dt : Nat) (w : Wr)
  /-- COUNTER_LO_READ (R411): A read of a counter LO word latches bits [47:32] for the port. -/
  | counterLoRead (dt : Nat) (c : Nat) (r : Rd)
  /-- HOLDING_LO_READ (R411): A read of a holding register LO word latches its high bits for the port. -/
  | holdingLoRead (dt : Nat) (c : Nat) (r : Rd)
  /-- CT_SNAP_TIME_LO_READ (R48): A read of CT_SNAP_TIME_LO latches the high snapshot time bits. -/
  | ctSnapTimeLoRead (dt : Nat) (r : Rd)
  /-- DV_CMD_RUN (R578): DV_CMD.RUN in SET-UP enters RUN at the next boundary. -/
  | dvCmdRun (dt : Nat) (w : Wr)
  /-- SLIVER_FLUSH (R430): SV_n_CMD.FLUSH requests a flush of the sliver's unbegun records. -/
  | sliverFlush (dt : Nat) (sl : Fin 36) (w : Wr)
  /-- SLIVER_FLUSH_EFFECT (R430): At the next frame boundary the requested flush discards whole records. -/
  | sliverFlushEffect (dt : Nat) (sl : Fin 36)
  /-- SCRUB (R433): In the rest of the turn the scrubber reads SCRUB_ROWS rows and corrects them. -/
  | scrub (dt : Nat) (errs : List RowErr)
  /-- HEART_CELL (R440): A HEART cell on a ply link is a heartbeat heard from a member. -/
  | heartCell (dt : Nat) (h : CellHdr) (b : Beat) (crc : Word) (syncNext : Fin 256) (syncDone : Fin 256)
  /-- AGREE_CELL (R456): An AGREE cell delivers part of a member's agreement or output set. -/
  | agreeCell (dt : Nat) (h : CellHdr) (b : AgreeBody) (cont : Bool)
  /-- MGMT_CELL (R482): A MGMT cell received in SEQ order is acknowledged and taken. -/
  | mgmtCell (dt : Nat) (h : CellHdr) (seq : Fin 256) (m : MgmtBody)
  /-- RELAY_CELL (R490): A RELAY cell delivers a relayed frame to a relay entry. -/
  | relayCell (dt : Nat) (h : CellHdr) (entry : Fin 4096) (second : Bool) (r : Relayed)
  /-- TRAIN_CELL (R478): TRAIN cells received on a lane pair during Wilist training. -/
  | trainCell (dt : Nat) (h : CellHdr) (t : TrainRun)
  /-- WILIST_TRAINING_COMPLETE (R479): Training completes and the peer is checked, giving UP or INCOMPATIBLE. -/
  | wilistTrainingComplete (dt : Nat) (link : Fin 4)
  /-- WILIST_CELL_TIMEOUT (R480): No valid cell for 8 µs returns an UP link to TRAINING. -/
  | wilistCellTimeout (dt : Nat) (link : Fin 4)
  /-- WILIST_LINK_FAILED (R480): A link not UP 100 ms after leaving UP enters FAILED. -/
  | wilistLinkFailed (dt : Nat) (link : Fin 4)
  /-- RETRAIN (R480): WL_l_CMD.RETRAIN starts link training at once. -/
  | retrain (dt : Nat) (link : Fin 4) (w : Wr)
  /-- WILIST_SLOT_START (R483): A slot table entry begins and its cells are sent on the link. -/
  | wilistSlotStart (dt : Nat) (slot : Fin 32)
  /-- CS_PEERDB_GO (R495): CS_PEERDB.GO sends a DOORBELL cell on each UP link named. -/
  | csPeerdbGo (dt : Nat) (w : Wr)
  /-- JOIN_SYNC_TIMEOUT (R465): A joining member not STANDBY within 64 turns of the last installation restarts synchronisation. -/
  | joinSyncTimeout (dt : Nat)
  /-- BRIDGE_TIMEOUT (R503): A field-bridge transfer not acknowledged within BRIDGE_US is retried or a field-die reset begins. -/
  | bridgeTimeout (dt : Nat)
  /-- FIELD_RESET_HOLD_END (R504): The 100 µs field-die reset hold ends and the bridge trains. -/
  | fieldResetHoldEnd (dt : Nat)
  /-- FIELD_RESET_END (R506): The restore completes, the field-die reset ends and lost writes are reported. -/
  | fieldResetEnd (dt : Nat)
  /-- FIELD_RESET_RESTART (R507): A field-die reset not ended in 1 ms is started again or SAFE is entered. -/
  | fieldResetRestart (dt : Nat)
  /-- SPINDLE_PROGRESS_TIMEOUT (R508): A spindle without progress for PROG_TURNS turns is doffed or reset. -/
  | spindleProgressTimeout (dt : Nat) (ch : Fin 16)
  /-- SPINDLE_RESET_COMPLETE (R509): A spindle reset completes and slub 0x0221 is written. -/
  | spindleResetComplete (dt : Nat) (ch : Fin 16)
  /-- ROW_COPY_COMPLETE (R524): The copy of a retiring row into its spare completes. -/
  | rowCopyComplete (dt : Nat)
  /-- RP_DOFF_GO (R526): RP_DOFF.GO starts a doff of a channel to a spare spindle. -/
  | rpDoffGo (dt : Nat) (w : Wr)
  /-- DOFF_PREPARED (R527): The target spindle is loaded with the channel's configuration and ready set. -/
  | doffPrepared (dt : Nat)
  /-- DOFF_SWITCH (R528): At a switch opportunity the channel's pins pass to the target spindle. -/
  | doffSwitch (dt : Nat)
  /-- DOFF_ABANDON (R531): A doff without a switch opportunity within 64 turns is abandoned. -/
  | doffAbandon (dt : Nat)
  /-- AGING_CHECK (R534): Every AGE_TURNS turns every aging monitor is measured. -/
  | agingCheck (dt : Nat) (margins : List Nat)
  /-- RP_CMD_BURN (R536): RP_CMD.BURN starts burning queued repairs into fuse entries. -/
  | rpCmdBurn (dt : Nat) (w : Wr)
  /-- FUSE_DATA_WORD_WRITTEN (R536): The data word of a fuse entry is burned and the valid word follows. -/
  | fuseDataWordWritten (dt : Nat)
  /-- FUSE_BURN_COMPLETE (R536): The valid word is burned and the fuse entry is complete. -/
  | fuseBurnComplete (dt : Nat)
  /-- KS_WRITE_TAKEN (R551): The key store takes a posted KS_ write and KS_BUSY clears. -/
  | ksWriteTaken (dt : Nat)
  /-- KS_FR_LO_READ (R48): A read of KS_FR_LO latches the stream's high freshness bits into KS_FR_HI. -/
  | ksFrLoRead (dt : Nat) (r : Rd)
  /-- HANK_OUTPUT (R556): A hank is taken from the queue and sent on the hank port. -/
  | hankOutput (dt : Nat)
  /-- TRACE_BUFFER_FREEZE (R557): POST hanks after the stopping slub the trace buffer freezes. -/
  | traceBufferFreeze (dt : Nat)
  /-- RESTART (R557): HK_CMD.RESTART empties the trace buffer and clears STOPPED. -/
  | restart (dt : Nat) (w : Wr)
  /-- TAP_IDCODE (R561): The IDCODE instruction selects the identification register. -/
  | tapIdcode (dt : Nat)
  /-- TAP_SAMPLE_PRELOAD (R561): The SAMPLE/PRELOAD instruction samples the boundary register. -/
  | tapSamplePreload (dt : Nat)
  /-- TAP_BYPASS (R561): Any other instruction selects BYPASS. -/
  | tapBypass (dt : Nat)
  /-- TRST_ASSERT (R566): TRST_N resets the boundary-scan TAP only. -/
  | trstAssert (dt : Nat)
  /-- SUPPLY_LOSS (R564): Loss of a required supply puts Molwegon into RESET. -/
  | supplyLoss (dt : Nat) (supply : Fin 7)
  /-- RESET_ASSERT (R566): RST_N low for at least 1 µs resets Molwegon. -/
  | resetAssert (dt : Nat)
  /-- LEAVE_RESET (R565): With RST_N high, supplies present and the core clock locked Molwegon enters SELF-TEST. -/
  | leaveReset (dt : Nat) (plyId : Fin 4) (pos : Fin 32) (ownPrio : Bool)
  /-- SELF_TEST_COMPLETE (R520): The power-up test and repair end and Molwegon enters SET-UP or stays in SELF-TEST. -/
  | selfTestComplete (dt : Nat) (t : SelfTest)
  /-- IMAGE_MAGIC_READ (R572): The first 4 flash bytes arrive and are checked for the image magic. -/
  | imageMagicRead (dt : Nat) (magic : Word)
  /-- IMAGE_READ_COMPLETE (R574): The image has been read and is checked and accepted or rejected. -/
  | imageReadComplete (dt : Nat) (image : List Byte)
  /-- LOADING_END (R577): Loading ends, PHASE becomes DONE, READY rises and AUTO_RUN is judged. -/
  | loadingEnd (dt : Nat)
  /-- SPINDLE_SELF_CHECK_FAILED (R526): A serving spindle's self-check fails in service, raising spindle source offset 0xA and doffing the channel to a spare or resetting the spindle. -/
  | spindleSelfCheckFailed (dt : Nat) (sp : Fin 18)
  /-- BUS_MASTER_ENABLE (R559): A port's Bus Master Enable returns to 1 and the paused hank drain and memory requests on that port may resume. -/
  | busMasterEnable (dt : Nat) (port : Port)
  /-- SUPPLY_PRESENT (R564): A required supply rises above its power-good threshold, taking Molwegon from OFF into RESET. -/
  | supplyPresent (dt : Nat) (supply : Fin 7)
  /-- VLOOP_BELOW_3_V (R269): VLOOP falls below 3 V, or rises again, so that outputs in SOURCE mode block or unblock. -/
  | vloopBelow3V (dt : Nat) (mv : Nat)
  deriving DecidableEq, Repr

end Sys2Proof
end

