-- ==== Sys2Proof/Decode.lean ====
section
/-!
DEFINITION. Words of the opcode table. No row of the table gives bits: Molwegon's commands are events and register
accesses, so no word spells one.
-/

namespace Sys2Proof

/-- The command that a word spells by the table's bits: none, as no row has bits. -/
def decodeTableWord (nbits w : Nat) : Option Instr :=
  match nbits, w with
  | _, _ => none

end Sys2Proof
end

