-- ==== Sys2Proof/Machine/Table.lean ====
section
/-!
DEFINITION. The operations on sparse tables and on bit fields. Every table of the state is read by `Tbl.lookD` with
the value an unlisted key has, and written by `Tbl.put` with the same value, which keeps the canonical form.
-/

namespace Sys2Proof

/-- The listed value of a key, if any. -/
def Tbl.look {α : Type} : Tbl α → Nat → Option α
  | [], _ => none
  | (j, v) :: t, k => if k = j then some v else Tbl.look t k

/-- The value of a key: what is listed, or `d` where nothing is. -/
def Tbl.lookD {α : Type} (t : Tbl α) (k : Nat) (d : α) : α := (Tbl.look t k).getD d

/-- List a value for a key at its place in the order. -/
def Tbl.ins {α : Type} : Tbl α → Nat → α → Tbl α
  | [], k, v => [(k, v)]
  | (j, x) :: t, k, v =>
    if k < j then (k, v) :: (j, x) :: t
    else if k = j then (k, v) :: t
    else (j, x) :: Tbl.ins t k v

/-- Unlist a key. -/
def Tbl.del {α : Type} : Tbl α → Nat → Tbl α
  | [], _ => []
  | (j, x) :: t, k => if k = j then Tbl.del t k else (j, x) :: Tbl.del t k

/-- Write a value; the value `d` of an unlisted key is not listed. -/
def Tbl.put {α : Type} [DecidableEq α] (t : Tbl α) (k : Nat) (d v : α) : Tbl α :=
  if v = d then Tbl.del t k else Tbl.ins t k v

/-- Keys strictly rising, all at least `lo`. -/
def Tbl.sortedFrom {α : Type} : Nat → Tbl α → Bool
  | _, [] => true
  | lo, (j, _) :: t => decide (lo ≤ j) && Tbl.sortedFrom (j + 1) t

/-- The canonical form: keys strictly rising and no entry equal to the value of an unlisted key. -/
def Tbl.wf {α : Type} [DecidableEq α] (d : α) (t : Tbl α) : Bool :=
  Tbl.sortedFrom 0 t && t.all (fun e => decide (e.2 ≠ d))

/-- The smallest key not listed, at least `k`, in a table with rising keys. -/
def Tbl.firstFree {α : Type} : Tbl α → Nat → Nat
  | [], k => k
  | (j, _) :: t, k => if j = k then Tbl.firstFree t (k + 1) else if k < j then k else Tbl.firstFree t k

/-- Apply a function to every listed value. -/
def Tbl.mapVal {α β : Type} (f : Nat → α → β) (t : Tbl α) : Tbl β := t.map (fun e => (e.1, f e.1 e.2))

/-- Field [lo + w − 1 : lo] of a register word, as a number. -/
def fieldOf (x : Word) (lo w : Nat) : Nat := (x.toNat / 2 ^ lo) % 2 ^ w

/-- One bit of a register word. -/
def bitOf (x : Word) (i : Nat) : Bool := x.getLsbD i

/-- Mask of the field [lo + w − 1 : lo]. -/
def fieldMask (lo w : Nat) : Word := BitVec.ofNat 32 ((2 ^ w - 1) * 2 ^ lo)

/-- Replace the masked bits of `old` by those of `new`. -/
def mergeBits (mask old new : Word) : Word := (old &&& ~~~mask) ||| (new &&& mask)

/-- Two's complement value of the low `w` bits of a number. -/
def signedOf (w v : Nat) : Int := if v < 2 ^ (w - 1) then (v : Int) else (v : Int) - 2 ^ w

/-- The number a Bool stands for. -/
def b01 (b : Bool) : Nat := if b then 1 else 0

/-- A word from fields: (lowest bit, value). Values are taken as they are; callers keep them in their width. -/
def packWord (fs : List (Nat × Nat)) : Word := BitVec.ofNat 32 (fs.foldl (fun a f => a + f.2 * 2 ^ f.1) 0)

/-- Saturate an integer to the two's complement range of 32 bits without its lowest value (TB_ERROR: ±(2^31 − 1)). -/
def satErr (e : Int) : Int := max (-(2 ^ 31 - 1)) (min (2 ^ 31 - 1) e)

/-- Two's complement of an integer in 32 bits, saturating (R182, Table 10.12 LATENESS_NS). -/
def sat32 (e : Int) : Word := BitVec.ofInt 32 (max (-(2 ^ 31)) (min (2 ^ 31 - 1) e))

/-- Ceiling division. -/
def ceilDiv (a b : Nat) : Nat := (a + b - 1) / b

end Sys2Proof
end

