-- ==== Sys2Proof/Machine/RegMap.lean ====
section
/-!
DEFINITION. The register map of chapter 12 and of every block's own register tables: one row per register (or array
of registers), with its offset, its array strides and counts, its commit group, and its fields (lowest bit, width,
type of Table 12.1, reset value). A field the tables give no reset value (—) has 0 here; what such a field reads is
computed from the state. The rows follow the register tables of spec/02 to spec/20.
-/

namespace Sys2Proof.Machine

/-- Field types of Table 12.1. -/
inductive FieldType where
  | ro | rw | rwi | wm | cmd | lk | cnt | snap
  deriving DecidableEq, Repr

/-- The commit group a register's buffered fields belong to (R388, Table 12.3). -/
inductive RegGroup where
  | none | chan | group (n : Nat)
  deriving DecidableEq, Repr

/-- One field of a register. -/
structure RegField where
  lo : Nat
  w : Nat
  ty : FieldType
  reset : Nat
  deriving DecidableEq, Repr

/-- One register, or an array of registers alike. -/
structure RegDef where
  base : Nat
  arr : List (Nat × Nat)
  grp : RegGroup
  fields : List RegField
  deriving DecidableEq, Repr

/-- Registers of block 0x00_0000, part 0. -/
def regsIdDvPpOwWh0 : List RegDef := [
  -- ID_DEVICE
  ⟨0x00000, [], .none, [⟨0, 16, .ro, 5656⟩, ⟨16, 1, .ro, 0⟩, ⟨20, 4, .ro, 0⟩, ⟨24, 4, .ro, 0⟩]⟩,
  -- ID_VENDOR
  ⟨0x00004, [], .none, [⟨0, 16, .ro, 0⟩]⟩,
  -- ID_CAP0
  ⟨0x00008, [], .none, [⟨0, 8, .ro, 16⟩, ⟨8, 8, .ro, 18⟩, ⟨16, 16, .ro, 256⟩]⟩,
  -- ID_CAP1
  ⟨0x0000C, [], .none, [⟨0, 8, .ro, 16⟩, ⟨8, 8, .ro, 8⟩, ⟨16, 8, .ro, 8⟩, ⟨24, 8, .ro, 4⟩]⟩,
  -- ID_CAP2
  ⟨0x00010, [], .none, [⟨0, 16, .ro, 4096⟩, ⟨16, 16, .ro, 8192⟩]⟩,
  -- ID_CAP3
  ⟨0x00014, [], .none, [⟨0, 16, .ro, 2048⟩, ⟨16, 16, .ro, 7680⟩]⟩,
  -- ID_RING_FMT
  ⟨0x00020, [], .none, [⟨0, 8, .ro, 1⟩, ⟨8, 8, .ro, 1⟩]⟩,
  -- ID_WL_VER
  ⟨0x00024, [], .none, [⟨0, 8, .ro, 1⟩, ⟨8, 8, .ro, 1⟩]⟩,
  -- ID_BORNOV_VER
  ⟨0x00028, [], .none, [⟨0, 8, .ro, 1⟩, ⟨8, 8, .ro, 1⟩]⟩,
  -- ID_SERIAL_LO
  ⟨0x00030, [], .none, [⟨0, 32, .ro, 0⟩]⟩,
  -- ID_SERIAL_HI
  ⟨0x00034, [], .none, [⟨0, 32, .ro, 0⟩]⟩,
  -- DV_STATE
  ⟨0x01000, [], .none, [⟨0, 3, .ro, 2⟩]⟩,
  -- DV_CMD
  ⟨0x01004, [], .none, [⟨0, 1, .cmd, 0⟩]⟩,
  -- DV_COMMIT
  ⟨0x01008, [], .none, [⟨0, 32, .cmd, 0⟩]⟩,
  -- DV_COMMIT_NOW
  ⟨0x0100C, [], .none, [⟨0, 32, .cmd, 0⟩]⟩,
  -- DV_COMMIT_STATUS
  ⟨0x01010, [], .none, [⟨0, 1, .ro, 0⟩, ⟨1, 2, .ro, 0⟩]⟩,
  -- DV_COMMIT_PEND
  ⟨0x01014, [], .none, [⟨0, 32, .ro, 0⟩]⟩,
  -- DV_COMMIT_REFUSED
  ⟨0x01018, [], .none, [⟨0, 32, .ro, 0⟩]⟩,
  -- DV_DIRTY
  ⟨0x0101C, [], .none, [⟨0, 32, .ro, 0⟩]⟩,
  -- DV_CRC_CFG
  ⟨0x01020, [], .group 31, [⟨0, 1, .rw, 0⟩, ⟨1, 2, .rw, 0⟩, ⟨4, 4, .rw, 2⟩]⟩]

/-- Registers of block 0x00_0000, part 1. -/
def regsIdDvPpOwWh1 : List RegDef := [
  -- DV_CRC_REF
  ⟨0x01024, [], .none, [⟨0, 32, .rwi, 0⟩]⟩,
  -- DV_CRC_LAST
  ⟨0x01028, [], .none, [⟨0, 32, .ro, 0⟩]⟩,
  -- DV_CRC_STATUS
  ⟨0x0102C, [], .none, [⟨0, 1, .ro, 0⟩, ⟨1, 1, .ro, 0⟩, ⟨2, 4, .ro, 0⟩, ⟨6, 1, .ro, 0⟩]⟩,
  -- DV_LOCK
  ⟨0x01030, [], .none, [⟨0, 1, .lk, 0⟩, ⟨1, 1, .lk, 0⟩]⟩,
  -- DV_PINSAFE
  ⟨0x01034, [], .group 31, [⟨0, 4, .rw, 0⟩, ⟨8, 8, .rw, 0⟩]⟩,
  -- DV_SLOW
  ⟨0x01038, [], .none, [⟨0, 1, .ro, 0⟩, ⟨16, 16, .ro, 0⟩]⟩,
  -- DV_DISCARD
  ⟨0x0103C, [], .none, [⟨0, 21, .ro, 0⟩, ⟨21, 1, .ro, 0⟩, ⟨24, 4, .ro, 0⟩]⟩,
  -- DV_SWFLAG
  ⟨0x01040, [], .none, [⟨0, 16, .wm, 0⟩]⟩,
  -- DV_BOOT
  ⟨0x01050, [], .none, [⟨0, 2, .ro, 0⟩, ⟨4, 4, .ro, 0⟩, ⟨8, 2, .ro, 0⟩, ⟨16, 16, .ro, 0⟩]⟩,
  -- DV_BOOT_ERR
  ⟨0x01054, [], .none, [⟨0, 8, .ro, 255⟩, ⟨8, 24, .ro, 0⟩]⟩,
  -- DV_BOOT_ID
  ⟨0x01058, [], .none, [⟨0, 32, .ro, 0⟩]⟩,
  -- PP_CAND
  ⟨0x02000, [], .none, [⟨0, 1, .rwi, 0⟩, ⟨1, 1, .cmd, 0⟩]⟩,
  -- PP_CTL
  ⟨0x02004, [], .none, [⟨0, 1, .rwi, 0⟩, ⟨1, 2, .ro, 0⟩, ⟨8, 8, .rwi, 0⟩]⟩,
  -- PP_DB_LO
  ⟨0x02008, [], .none, [⟨0, 32, .rwi, 0⟩]⟩,
  -- PP_DB_HI
  ⟨0x0200C, [], .none, [⟨0, 32, .rwi, 0⟩]⟩,
  -- PP_ST_LO
  ⟨0x02010, [], .none, [⟨0, 32, .rwi, 0⟩]⟩,
  -- PP_ST_HI
  ⟨0x02014, [], .none, [⟨0, 32, .rwi, 0⟩]⟩,
  -- PP_POLL
  ⟨0x02018, [], .none, [⟨0, 9, .rwi, 20⟩, ⟨16, 11, .rwi, 64⟩]⟩,
  -- PP_TMO
  ⟨0x0201C, [], .none, [⟨0, 16, .rwi, 1000⟩]⟩,
  -- PP_REPORT
  ⟨0x02020, [], .none, [⟨0, 16, .rwi, 0⟩, ⟨16, 7, .rwi, 0⟩]⟩]

/-- Registers of block 0x00_0000, part 2. -/
def regsIdDvPpOwWh2 : List RegDef := [
  -- PP_RING_SEL
  ⟨0x02040, [], .none, [⟨0, 7, .rwi, 0⟩, ⟨7, 1, .rwi, 0⟩]⟩,
  -- PP_RING_BASE_LO
  ⟨0x02044, [], .none, [⟨0, 32, .rwi, 0⟩]⟩,
  -- PP_RING_BASE_HI
  ⟨0x02048, [], .none, [⟨0, 32, .rwi, 0⟩]⟩,
  -- PP_RING_CFG
  ⟨0x0204C, [], .none, [⟨0, 5, .rwi, 6⟩, ⟨5, 1, .rwi, 0⟩, ⟨8, 7, .rwi, 0⟩, ⟨16, 10, .rwi, 0⟩]⟩,
  -- PP_RING_COAL
  ⟨0x02050, [], .none, [⟨0, 8, .rwi, 0⟩]⟩,
  -- PP_RING_STATE
  ⟨0x02054, [], .none, [⟨0, 2, .ro, 0⟩, ⟨4, 4, .ro, 0⟩]⟩,
  -- PP_RING_ERRIDX
  ⟨0x02058, [], .none, [⟨0, 32, .ro, 0⟩]⟩,
  -- OW_STATUS
  ⟨0x03000, [], .none, [⟨0, 2, .ro, 0⟩, ⟨2, 1, .ro, 0⟩, ⟨3, 1, .ro, 0⟩, ⟨4, 1, .ro, 0⟩, ⟨5, 1, .ro, 0⟩, ⟨6, 1, .ro, 0⟩, ⟨8, 4, .ro, 0⟩]⟩,
  -- OW_CFG
  ⟨0x03004, [], .group 23, [⟨0, 10, .rw, 50⟩]⟩,
  -- OW_HANDOVER
  ⟨0x03008, [], .none, [⟨0, 1, .rwi, 0⟩, ⟨8, 1, .cmd, 0⟩]⟩,
  -- OW_EPOCH
  ⟨0x0300C, [], .none, [⟨0, 32, .ro, 0⟩]⟩,
  -- WH_DOORBELL
  ⟨0x04000, [], .none, [⟨0, 10, .cmd, 0⟩]⟩,
  -- WH_CLAIM
  ⟨0x04004, [], .none, [⟨0, 10, .ro, 1023⟩]⟩,
  -- WH_COMPLETE
  ⟨0x04008, [], .none, [⟨0, 10, .cmd, 0⟩]⟩,
  -- WH_HOLD
  ⟨0x0400C, [], .none, [⟨0, 1, .rwi, 0⟩]⟩,
  -- WH_RUN
  ⟨0x04010, [], .none, [⟨0, 6, .ro, 0⟩, ⟨6, 1, .ro, 0⟩, ⟨8, 7, .ro, 0⟩, ⟨16, 1, .ro, 0⟩, ⟨17, 1, .ro, 0⟩]⟩,
  -- WH_PENDi
  ⟨0x04100, [(4, 32)], .none, [⟨0, 32, .ro, 0⟩]⟩,
  -- WH_ACTi
  ⟨0x04180, [(4, 32)], .none, [⟨0, 32, .ro, 0⟩]⟩,
  -- WH_STKj
  ⟨0x04200, [(4, 64)], .none, [⟨0, 10, .ro, 0⟩, ⟨16, 6, .ro, 0⟩, ⟨31, 1, .ro, 0⟩]⟩,
  -- WH_CFG
  ⟨0x04400, [], .group 24, [⟨0, 10, .rw, 100⟩]⟩]

/-- Registers of block 0x00_0000, part 3. -/
def regsIdDvPpOwWh3 : List RegDef := [
  -- WH_SRCi, i below 0x3F0
  ⟨0x05000, [(4, 1008)], .group 24, [⟨0, 6, .rw, 0⟩, ⟨8, 2, .rw, 3⟩, ⟨12, 1, .rw, 0⟩, ⟨16, 1, .ro, 0⟩]⟩,
  -- WH_SRCi, i from 0x3F0: all RO, read 0
  ⟨0x05FC0, [(4, 16)], .none, [⟨0, 6, .ro, 0⟩, ⟨8, 2, .ro, 0⟩, ⟨12, 1, .ro, 0⟩, ⟨16, 1, .ro, 0⟩]⟩]

/-- Registers of block 0x00_0000. -/
def regsIdDvPpOwWh : List RegDef := regsIdDvPpOwWh0 ++ regsIdDvPpOwWh1 ++ regsIdDvPpOwWh2 ++ regsIdDvPpOwWh3

/-- Registers of block 0x01_0000, part 0. -/
def regsTb0 : List RegDef := [
  -- TB_CFG
  ⟨0x10000, [], .group 16, [⟨0, 2, .rw, 0⟩, ⟨4, 1, .rw, 0⟩]⟩,
  -- TB_LENGTH
  ⟨0x10004, [], .group 16, [⟨0, 14, .rw, 1000⟩]⟩,
  -- TB_PHASE
  ⟨0x10008, [], .group 16, [⟨0, 14, .rw, 0⟩, ⟨16, 8, .rw, 30⟩, ⟨24, 7, .rw, 10⟩]⟩,
  -- TB_RELEASE
  ⟨0x1000C, [], .group 16, [⟨0, 10, .rw, 400⟩]⟩,
  -- TB_DISC
  ⟨0x10010, [], .group 16, [⟨0, 9, .rw, 100⟩, ⟨16, 8, .rw, 10⟩]⟩,
  -- TB_TRIM
  ⟨0x10014, [], .group 16, [⟨0, 20, .rw, 0⟩]⟩,
  -- TB_SET_LO
  ⟨0x10020, [], .none, [⟨0, 32, .rwi, 0⟩]⟩,
  -- TB_SET_HI
  ⟨0x10024, [], .none, [⟨0, 32, .rwi, 0⟩]⟩,
  -- TB_TURN_SET_LO
  ⟨0x10028, [], .none, [⟨0, 32, .rwi, 0⟩]⟩,
  -- TB_TURN_SET_HI
  ⟨0x1002C, [], .none, [⟨0, 16, .rwi, 0⟩]⟩,
  -- TB_CMD
  ⟨0x10030, [], .none, [⟨0, 1, .cmd, 0⟩, ⟨1, 1, .cmd, 0⟩]⟩,
  -- TB_NOW_LO
  ⟨0x10040, [], .none, [⟨0, 32, .snap, 0⟩]⟩,
  -- TB_NOW_HI
  ⟨0x10044, [], .none, [⟨0, 32, .snap, 0⟩]⟩,
  -- TB_TURN_LO
  ⟨0x10048, [], .none, [⟨0, 32, .snap, 0⟩]⟩,
  -- TB_TURN_HI
  ⟨0x1004C, [], .none, [⟨0, 16, .snap, 0⟩]⟩,
  -- TB_BOUND_LO
  ⟨0x10050, [], .none, [⟨0, 32, .snap, 0⟩]⟩,
  -- TB_BOUND_HI
  ⟨0x10054, [], .none, [⟨0, 32, .snap, 0⟩]⟩,
  -- TB_STATUS
  ⟨0x10060, [], .none, [⟨0, 2, .ro, 0⟩, ⟨2, 1, .ro, 0⟩, ⟨3, 1, .ro, 0⟩, ⟨4, 1, .ro, 0⟩, ⟨5, 1, .ro, 0⟩, ⟨6, 1, .ro, 0⟩, ⟨7, 1, .ro, 0⟩, ⟨8, 1, .ro, 0⟩]⟩,
  -- TB_ERROR
  ⟨0x10064, [], .none, [⟨0, 32, .ro, 0⟩]⟩,
  -- TB_RATE
  ⟨0x10068, [], .none, [⟨0, 20, .ro, 0⟩]⟩]

/-- Registers of block 0x01_0000. -/
def regsTb : List RegDef := regsTb0

/-- Registers of block 0x02_0000, part 0. -/
def regsSpState0 : List RegDef := [
  -- SP_STATE
  ⟨0x20000, [(4096, 18)], .none, [⟨0, 2, .ro, 0⟩, ⟨2, 1, .ro, 0⟩, ⟨3, 1, .ro, 0⟩, ⟨4, 4, .ro, 0⟩, ⟨16, 11, .ro, 0⟩]⟩]

/-- Registers of block 0x02_0000. -/
def regsSpState : List RegDef := regsSpState0

/-- Registers of block 0x03_0000, part 0. -/
def regsSpCh0 : List RegDef := [
  -- SP_CHn_MODE
  ⟨0x38000, [(1024, 16)], .chan, [⟨0, 3, .rw, 0⟩, ⟨4, 1, .rw, 0⟩, ⟨5, 1, .rw, 0⟩, ⟨6, 1, .rw, 0⟩, ⟨8, 1, .rw, 1⟩]⟩,
  -- SP_CHn_NBT
  ⟨0x38004, [(1024, 16)], .chan, [⟨0, 9, .rw, 1⟩, ⟨9, 8, .rw, 126⟩, ⟨17, 7, .rw, 31⟩, ⟨24, 7, .rw, 31⟩]⟩,
  -- SP_CHn_DBT
  ⟨0x38008, [(1024, 16)], .chan, [⟨0, 5, .rw, 1⟩, ⟨5, 5, .rw, 28⟩, ⟨10, 4, .rw, 9⟩, ⟨14, 4, .rw, 9⟩]⟩,
  -- SP_CHn_TDC
  ⟨0x3800C, [(1024, 16)], .chan, [⟨0, 1, .rw, 0⟩, ⟨8, 8, .rw, 60⟩, ⟨16, 8, .rw, 8⟩]⟩,
  -- SP_CHn_ERRCFG
  ⟨0x38010, [(1024, 16)], .chan, [⟨0, 8, .rw, 96⟩]⟩,
  -- SP_CHn_BOFF
  ⟨0x38014, [(1024, 16)], .chan, [⟨0, 2, .rw, 0⟩, ⟨8, 8, .rw, 10⟩, ⟨16, 4, .rw, 3⟩]⟩,
  -- SP_CHn_QWIN
  ⟨0x38018, [(1024, 16)], .chan, [⟨0, 16, .rw, 1000⟩]⟩,
  -- SP_CHn_CMD
  ⟨0x38020, [(1024, 16)], .none, [⟨0, 1, .cmd, 0⟩, ⟨1, 1, .cmd, 0⟩]⟩,
  -- SP_CHn_STATUS
  ⟨0x38030, [(1024, 16)], .none, [⟨0, 4, .ro, 0⟩, ⟨4, 1, .ro, 0⟩, ⟨5, 1, .ro, 0⟩, ⟨6, 1, .ro, 0⟩, ⟨8, 4, .ro, 0⟩, ⟨16, 5, .ro, 0⟩, ⟨24, 8, .ro, 0⟩]⟩,
  -- SP_CHn_ERRCNT
  ⟨0x38034, [(1024, 16)], .none, [⟨0, 9, .ro, 0⟩, ⟨16, 8, .ro, 0⟩, ⟨24, 8, .ro, 0⟩]⟩,
  -- SP_CHn_TDCV
  ⟨0x38038, [(1024, 16)], .none, [⟨0, 8, .ro, 0⟩, ⟨8, 8, .ro, 0⟩]⟩]

/-- Registers of block 0x03_0000. -/
def regsSpCh : List RegDef := regsSpCh0

/-- Registers of block 0x04_0000, part 0. -/
def regsCdCr0 : List RegDef := [
  -- CD_CARDk_ID
  ⟨0x40000, [(16, 2048)], .group 17, [⟨0, 29, .rw, 0⟩, ⟨31, 1, .rw, 0⟩]⟩,
  -- CD_CARDk_MASK
  ⟨0x40004, [(16, 2048)], .group 17, [⟨0, 29, .rw, 0⟩]⟩,
  -- CD_CARDk_CTL
  ⟨0x40008, [(16, 2048)], .group 17, [⟨0, 16, .rw, 0⟩, ⟨16, 2, .rw, 2⟩, ⟨18, 2, .rw, 0⟩, ⟨20, 2, .rw, 0⟩]⟩,
  -- CD_CARDk_ROUTE
  ⟨0x4000C, [(16, 2048)], .group 17, [⟨0, 12, .rw, 0⟩]⟩,
  -- CR_EM_KEY
  ⟨0x48000, [], .none, [⟨0, 29, .rwi, 0⟩, ⟨29, 1, .rwi, 0⟩]⟩,
  -- CR_EM_ARG
  ⟨0x48004, [], .none, [⟨0, 4, .rwi, 0⟩, ⟨4, 2, .rwi, 0⟩, ⟨16, 12, .rwi, 0⟩]⟩,
  -- CR_EM_INDEX
  ⟨0x48008, [], .none, [⟨0, 15, .rwi, 0⟩]⟩,
  -- CR_EM_CMD
  ⟨0x4800C, [], .none, [⟨0, 1, .cmd, 0⟩, ⟨1, 1, .cmd, 0⟩, ⟨2, 1, .cmd, 0⟩]⟩,
  -- CR_TBL_STATUS
  ⟨0x48010, [], .none, [⟨0, 1, .ro, 0⟩, ⟨1, 3, .ro, 0⟩, ⟨4, 1, .ro, 0⟩, ⟨5, 2, .ro, 0⟩, ⟨16, 15, .ro, 0⟩]⟩,
  -- CR_EM_HITS
  ⟨0x48014, [], .none, [⟨0, 32, .ro, 0⟩]⟩,
  -- CR_RT_INDEX
  ⟨0x48020, [], .none, [⟨0, 12, .rwi, 0⟩]⟩,
  -- CR_RT_DATA0
  ⟨0x48024, [], .none, [⟨0, 12, .rwi, 0⟩, ⟨15, 1, .rwi, 0⟩, ⟨16, 7, .rwi, 0⟩, ⟨23, 1, .rwi, 0⟩, ⟨24, 7, .rwi, 0⟩, ⟨31, 1, .rwi, 0⟩]⟩,
  -- CR_RT_DATA1
  ⟨0x48028, [], .none, [⟨0, 8, .rwi, 0⟩, ⟨8, 1, .rwi, 0⟩, ⟨16, 12, .rwi, 0⟩, ⟨31, 1, .rwi, 0⟩]⟩,
  -- CR_RT_CMD
  ⟨0x4802C, [], .none, [⟨0, 1, .cmd, 0⟩, ⟨1, 1, .cmd, 0⟩]⟩,
  -- CR_LOW
  ⟨0x48030, [], .group 17, [⟨0, 17, .rw, 4096⟩]⟩,
  -- CR_STATUS
  ⟨0x48034, [], .none, [⟨0, 17, .ro, 65536⟩, ⟨31, 1, .ro, 0⟩]⟩,
  -- CR_SHARED
  ⟨0x48038, [], .none, [⟨0, 17, .ro, 61440⟩]⟩,
  -- CR_CHn_MISS
  ⟨0x48100, [(32, 16)], .group 17, [⟨0, 1, .rw, 0⟩, ⟨1, 1, .rw, 0⟩, ⟨8, 7, .rw, 0⟩]⟩,
  -- CR_CHn_QUOTA
  ⟨0x48104, [(32, 16)], .group 17, [⟨0, 16, .rw, 256⟩, ⟨16, 16, .rw, 4096⟩]⟩,
  -- CR_CHn_SEND
  ⟨0x48108, [(32, 16)], .group 17, [⟨0, 16, .rw, 256⟩]⟩]

/-- Registers of block 0x04_0000, part 1. -/
def regsCdCr1 : List RegDef := [
  -- CR_CHn_USE
  ⟨0x4810C, [(32, 16)], .none, [⟨0, 16, .ro, 0⟩, ⟨16, 16, .ro, 0⟩]⟩,
  -- CR_CHn_SRES
  ⟨0x48110, [(32, 16)], .none, [⟨0, 16, .ro, 0⟩, ⟨16, 16, .ro, 0⟩]⟩]

/-- Registers of block 0x04_0000. -/
def regsCdCr : List RegDef := regsCdCr0 ++ regsCdCr1

/-- Registers of block 0x05_0000, part 0. -/
def regsDr0 : List RegDef := [
  -- DR_CFG
  ⟨0x50000, [], .group 18, [⟨0, 16, .rw, 2000⟩]⟩,
  -- DR_NOTIFY
  ⟨0x50004, [], .group 18, [⟨0, 7, .rw, 0⟩, ⟨7, 1, .rw, 0⟩, ⟨8, 7, .rw, 0⟩, ⟨15, 1, .rw, 0⟩]⟩,
  -- DR_STATUS
  ⟨0x50008, [], .none, [⟨0, 13, .ro, 0⟩, ⟨13, 1, .ro, 0⟩, ⟨16, 16, .ro, 0⟩]⟩,
  -- DR_FOREIGN
  ⟨0x5000C, [], .none, [⟨0, 14, .ro, 0⟩]⟩,
  -- DR_ST_INDEX
  ⟨0x50010, [], .none, [⟨0, 12, .rwi, 0⟩]⟩,
  -- DR_FD_INDEX
  ⟨0x50014, [], .none, [⟨0, 13, .rwi, 0⟩]⟩,
  -- DR_ST_DATAi
  ⟨0x50100, [(4, 32)], .none, [⟨0, 32, .ro, 0⟩]⟩,
  -- DR_FD_DATAi
  ⟨0x50180, [(4, 8)], .none, [⟨0, 32, .ro, 0⟩]⟩,
  -- DR_CHn_ERR
  ⟨0x51000, [(64, 16)], .group 18, [⟨0, 8, .rw, 0⟩, ⟨8, 24, .rw, 10000⟩]⟩,
  -- DR_CHn_BE
  ⟨0x51004, [(64, 16)], .group 18, [⟨0, 24, .rw, 10000⟩, ⟨24, 7, .rw, 8⟩]⟩,
  -- DR_CHn_BEKEY
  ⟨0x51008, [(64, 16)], .group 18, [⟨0, 32, .rw, 0⟩]⟩,
  -- DR_CHn_CFG
  ⟨0x5100C, [(64, 16)], .group 18, [⟨0, 2, .rw, 0⟩, ⟨8, 8, .rw, 2⟩]⟩,
  -- DR_CHn_STATUS
  ⟨0x51010, [(64, 16)], .none, [⟨0, 1, .ro, 0⟩, ⟨1, 6, .ro, 0⟩, ⟨16, 11, .ro, 0⟩]⟩,
  -- DR_CHn_KEYFROM
  ⟨0x51014, [(64, 16)], .none, [⟨0, 32, .ro, 4294967295⟩]⟩,
  -- DR_CHn_LOAD
  ⟨0x51018, [(64, 16)], .none, [⟨0, 11, .ro, 0⟩]⟩]

/-- Registers of block 0x05_0000. -/
def regsDr : List RegDef := regsDr0

/-- Registers of block 0x06_0000, part 0. -/
def regsLw0 : List RegDef := [
  -- LW_NOTIFY
  ⟨0x60000, [], .group 19, [⟨0, 7, .rw, 0⟩, ⟨7, 1, .rw, 0⟩, ⟨8, 7, .rw, 0⟩, ⟨15, 1, .rw, 0⟩]⟩,
  -- LW_QFEED
  ⟨0x60004, [], .group 19, [⟨0, 8, .rw, 0⟩]⟩,
  -- LW_CMD
  ⟨0x60008, [], .none, [⟨0, 16, .cmd, 0⟩]⟩,
  -- LW_SIG_INDEX
  ⟨0x60010, [], .none, [⟨0, 5, .rwi, 0⟩, ⟨8, 4, .rwi, 0⟩]⟩,
  -- LW_SIG_DATAi
  ⟨0x60100, [(4, 16)], .none, [⟨0, 16, .ro, 0⟩, ⟨0, 16, .ro, 0⟩, ⟨0, 16, .ro, 0⟩, ⟨0, 16, .ro, 0⟩, ⟨0, 32, .ro, 0⟩]⟩,
  -- LW_CHn_CFG
  ⟨0x61000, [(64, 16)], .group 19, [⟨0, 1, .rw, 0⟩, ⟨1, 5, .rw, 0⟩, ⟨8, 8, .rw, 0⟩, ⟨16, 16, .rw, 1000⟩]⟩,
  -- LW_CHn_TERM
  ⟨0x61004, [(64, 16)], .group 19, [⟨0, 5, .rw, 0⟩, ⟨5, 13, .rw, 450⟩, ⟨18, 13, .rw, 900⟩]⟩,
  -- LW_CHn_XCVR
  ⟨0x61008, [(64, 16)], .group 19, [⟨0, 16, .rw, 3000⟩, ⟨16, 16, .rw, 300⟩]⟩,
  -- LW_CHn_SHORT
  ⟨0x6100C, [(64, 16)], .group 19, [⟨0, 16, .rw, 5000⟩, ⟨16, 16, .rw, 500⟩]⟩,
  -- LW_CHn_BABBLE
  ⟨0x61010, [(64, 16)], .group 19, [⟨0, 4, .rw, 3⟩, ⟨4, 7, .rw, 60⟩, ⟨16, 16, .rw, 100⟩]⟩,
  -- LW_CHn_QPOL
  ⟨0x61014, [(64, 16)], .group 19, [⟨0, 2, .rw, 0⟩, ⟨2, 1, .rw, 0⟩, ⟨3, 13, .rw, 500⟩, ⟨16, 16, .rw, 1000⟩]⟩,
  -- LW_CHn_TREND
  ⟨0x61018, [(64, 16)], .group 19, [⟨0, 24, .rw, 60000⟩, ⟨24, 8, .rw, 20⟩]⟩,
  -- LW_CHn_HEALTH
  ⟨0x61020, [(64, 16)], .none, [⟨0, 16, .ro, 0⟩, ⟨16, 1, .ro, 0⟩, ⟨17, 1, .ro, 0⟩, ⟨18, 4, .ro, 0⟩]⟩,
  -- LW_CHn_TRENDMAP
  ⟨0x61024, [(64, 16)], .none, [⟨0, 32, .ro, 0⟩]⟩,
  -- LW_CHn_CONFLICT
  ⟨0x61028, [(64, 16)], .none, [⟨0, 32, .ro, 0⟩]⟩,
  -- LW_CHn_QSTATE
  ⟨0x6102C, [(64, 16)], .none, [⟨0, 2, .ro, 0⟩, ⟨2, 3, .ro, 0⟩]⟩]

/-- Registers of block 0x06_0000. -/
def regsLw : List RegDef := regsLw0

/-- Registers of block 0x07_0000, part 0. -/
def regsTw0 : List RegDef := [
  -- TW_CFG
  ⟨0x70000, [], .group 20, [⟨0, 8, .rw, 50⟩]⟩,
  -- TW_STATUS
  ⟨0x70004, [], .none, [⟨0, 3, .ro, 4⟩, ⟨3, 1, .ro, 1⟩, ⟨4, 1, .ro, 0⟩]⟩,
  -- TW_BUDGET
  ⟨0x70008, [], .none, [⟨0, 23, .ro, 0⟩]⟩,
  -- TW_WINDOW
  ⟨0x7000C, [], .none, [⟨0, 23, .ro, 0⟩]⟩,
  -- TW_LAST
  ⟨0x70010, [], .none, [⟨0, 23, .ro, 0⟩, ⟨31, 1, .ro, 0⟩]⟩,
  -- TW_REFUSE
  ⟨0x70014, [], .none, [⟨0, 8, .ro, 0⟩, ⟨8, 4, .ro, 0⟩, ⟨12, 4, .ro, 0⟩]⟩,
  -- TW_LSTk_STATUS
  ⟨0x71000, [(8, 256)], .none, [⟨0, 2, .ro, 0⟩, ⟨2, 2, .ro, 0⟩, ⟨4, 1, .ro, 0⟩, ⟨5, 1, .ro, 0⟩, ⟨6, 1, .ro, 0⟩, ⟨7, 1, .ro, 0⟩, ⟨8, 2, .ro, 0⟩, ⟨10, 1, .ro, 0⟩]⟩,
  -- TW_LSTk_OUT
  ⟨0x71004, [(8, 256)], .none, [⟨0, 32, .ro, 0⟩]⟩,
  -- TW_SLOTs_CFG
  ⟨0x72000, [(4, 256)], .group 20, [⟨0, 16, .rw, 2⟩]⟩,
  -- TW_TBLt_Xi
  ⟨0x74000, [(256, 64), (8, 32)], .group 20, [⟨0, 32, .rw, 0⟩]⟩,
  -- TW_TBLt_Yi
  ⟨0x74004, [(256, 64), (8, 32)], .group 20, [⟨0, 32, .rw, 0⟩]⟩,
  -- TW_Lk_HDR
  ⟨0x78000, [(512, 256)], .group 20, [⟨0, 3, .rw, 0⟩, ⟨3, 6, .rw, 0⟩, ⟨9, 2, .rw, 0⟩, ⟨11, 2, .rw, 0⟩, ⟨13, 4, .rw, 0⟩, ⟨17, 4, .rw, 1⟩, ⟨21, 8, .rw, 0⟩]⟩,
  -- TW_Lk_SAFE
  ⟨0x78004, [(512, 256)], .group 20, [⟨0, 32, .rw, 0⟩]⟩,
  -- TW_Lk_RATE
  ⟨0x78008, [(512, 256)], .group 20, [⟨0, 32, .rw, 0⟩]⟩,
  -- TW_Lk_MAN
  ⟨0x7800C, [(512, 256)], .group 20, [⟨0, 32, .rw, 0⟩]⟩,
  -- TW_Lk_TAPi_CFG
  ⟨0x78010, [(512, 256), (8, 8)], .group 20, [⟨0, 4, .rw, 0⟩, ⟨4, 1, .rw, 0⟩, ⟨5, 5, .rw, 0⟩, ⟨10, 9, .rw, 0⟩, ⟨19, 1, .rw, 0⟩, ⟨20, 12, .rw, 0⟩]⟩,
  -- TW_Lk_TAPi_K
  ⟨0x78014, [(512, 256), (8, 8)], .group 20, [⟨0, 32, .rw, 0⟩]⟩,
  -- TW_Lk_SNKj_CFG
  ⟨0x78050, [(512, 256), (12, 4)], .group 20, [⟨0, 4, .rw, 0⟩, ⟨4, 4, .rw, 0⟩, ⟨8, 1, .rw, 0⟩, ⟨9, 5, .rw, 0⟩, ⟨14, 9, .rw, 0⟩]⟩,
  -- TW_Lk_SNKj_IDX
  ⟨0x78054, [(512, 256), (12, 4)], .group 20, [⟨0, 12, .rw, 0⟩]⟩,
  -- TW_Lk_SNKj_K
  ⟨0x78058, [(512, 256), (12, 4)], .group 20, [⟨0, 32, .rw, 0⟩]⟩]

/-- Registers of block 0x07_0000, part 1. -/
def regsTw1 : List RegDef := [
  -- TW_Lk_Ss_OP
  ⟨0x78080, [(512, 256), (24, 16)], .group 20, [⟨0, 8, .rw, 0⟩, ⟨8, 6, .rw, 63⟩, ⟨14, 2, .rw, 0⟩, ⟨16, 6, .rw, 63⟩, ⟨24, 6, .rw, 63⟩]⟩,
  -- TW_Lk_Ss_P0
  ⟨0x78084, [(512, 256), (24, 16)], .group 20, [⟨0, 32, .rw, 0⟩]⟩,
  -- TW_Lk_Ss_P1
  ⟨0x78088, [(512, 256), (24, 16)], .group 20, [⟨0, 32, .rw, 0⟩]⟩,
  -- TW_Lk_Ss_P2
  ⟨0x7808C, [(512, 256), (24, 16)], .group 20, [⟨0, 32, .rw, 0⟩]⟩,
  -- TW_Lk_Ss_P3
  ⟨0x78090, [(512, 256), (24, 16)], .group 20, [⟨0, 32, .rw, 0⟩]⟩,
  -- TW_Lk_Ss_FB
  ⟨0x78094, [(512, 256), (24, 16)], .group 20, [⟨0, 32, .rw, 0⟩]⟩]

/-- Registers of block 0x07_0000. -/
def regsTw : List RegDef := regsTw0 ++ regsTw1

/-- Registers of block 0x0A_0000, part 0. -/
def regsLioFd0 : List RegDef := [
  -- LI_INn_CFG
  ⟨0xA0000, [(16, 16)], .group 21, [⟨0, 2, .rw, 0⟩, ⟨8, 16, .rw, 4990⟩]⟩,
  -- LI_INn_VAL
  ⟨0xA0004, [(16, 16)], .none, [⟨0, 32, .ro, 0⟩]⟩,
  -- LI_INn_STATUS
  ⟨0xA0008, [(16, 16)], .none, [⟨0, 3, .ro, 0⟩, ⟨3, 1, .ro, 0⟩, ⟨4, 1, .ro, 0⟩]⟩,
  -- LO_OUTn_CFG
  ⟨0xA1000, [(64, 8)], .group 21, [⟨0, 2, .rw, 0⟩, ⟨16, 16, .rw, 2490⟩]⟩,
  -- LO_OUTn_RANGE
  ⟨0xA1004, [(64, 8)], .group 21, [⟨0, 16, .rw, 4000⟩, ⟨16, 16, .rw, 20000⟩]⟩,
  -- LO_OUTn_FAIL
  ⟨0xA1008, [(64, 8)], .group 21, [⟨0, 2, .rw, 1⟩, ⟨8, 8, .rw, 10⟩]⟩,
  -- LO_OUTn_CHECK
  ⟨0xA100C, [(64, 8)], .group 21, [⟨0, 12, .rw, 200⟩, ⟨12, 4, .rw, 3⟩, ⟨16, 16, .rw, 100⟩]⟩,
  -- LO_OUTn_CMDV
  ⟨0xA1010, [(64, 8)], .none, [⟨0, 32, .ro, 0⟩]⟩,
  -- LO_OUTn_RBV
  ⟨0xA1014, [(64, 8)], .none, [⟨0, 32, .ro, 0⟩]⟩,
  -- LO_OUTn_STATUS
  ⟨0xA1018, [(64, 8)], .none, [⟨0, 3, .ro, 0⟩, ⟨3, 1, .ro, 0⟩, ⟨4, 1, .ro, 0⟩, ⟨5, 1, .ro, 0⟩, ⟨6, 1, .ro, 0⟩, ⟨7, 1, .ro, 0⟩, ⟨8, 4, .ro, 0⟩, ⟨12, 4, .ro, 0⟩]⟩,
  -- LO_OUTn_HEAD
  ⟨0xA101C, [(64, 8)], .none, [⟨0, 16, .ro, 0⟩]⟩,
  -- LO_CMD
  ⟨0xA1800, [], .none, [⟨0, 8, .cmd, 0⟩]⟩,
  -- LO_LOCK
  ⟨0xA1804, [], .none, [⟨0, 1, .lk, 0⟩]⟩,
  -- LO_VLOOP
  ⟨0xA1808, [], .none, [⟨0, 16, .ro, 0⟩]⟩,
  -- FD_Fn_CFG
  ⟨0xA8000, [(256, 8)], .group 22, [⟨0, 1, .rw, 0⟩, ⟨1, 2, .rw, 0⟩, ⟨4, 4, .rw, 3⟩, ⟨8, 14, .rw, 200⟩, ⟨24, 8, .rw, 50⟩]⟩,
  -- FD_Fn_WIN
  ⟨0xA8004, [(256, 8)], .group 22, [⟨0, 16, .rw, 20000⟩, ⟨16, 16, .rw, 30000⟩]⟩,
  -- FD_Fn_SENSE
  ⟨0xA8008, [(256, 8)], .group 22, [⟨0, 16, .rw, 2000⟩, ⟨16, 16, .rw, 6000⟩]⟩,
  -- FD_Fn_SHORT
  ⟨0xA800C, [(256, 8)], .group 22, [⟨0, 16, .rw, 5000⟩]⟩,
  -- FD_Fn_FOLD
  ⟨0xA8010, [(256, 8)], .group 22, [⟨0, 16, .rw, 800⟩]⟩,
  -- FD_Fn_FT
  ⟨0xA8014, [(256, 8)], .group 22, [⟨0, 16, .rw, 30000⟩, ⟨16, 16, .rw, 15000⟩]⟩]

/-- Registers of block 0x0A_0000, part 1. -/
def regsLioFd1 : List RegDef := [
  -- FD_Fn_COOL
  ⟨0xA8018, [(256, 8)], .group 22, [⟨0, 16, .rw, 1000⟩, ⟨16, 8, .rw, 10⟩]⟩,
  -- FD_Fn_CURVEk
  ⟨0xA8020, [(256, 8), (4, 8)], .group 22, [⟨0, 12, .rw, 0⟩, ⟨12, 20, .rw, 0⟩]⟩,
  -- FD_Fn_CMD
  ⟨0xA8040, [(256, 8)], .none, [⟨0, 1, .cmd, 0⟩, ⟨1, 1, .cmd, 0⟩, ⟨2, 1, .cmd, 0⟩]⟩,
  -- FD_Fn_STATUS
  ⟨0xA8080, [(256, 8)], .none, [⟨0, 4, .ro, 0⟩, ⟨4, 1, .ro, 0⟩, ⟨5, 1, .ro, 0⟩, ⟨6, 1, .ro, 0⟩, ⟨7, 1, .ro, 0⟩, ⟨8, 1, .ro, 0⟩, ⟨9, 1, .ro, 0⟩, ⟨10, 1, .ro, 0⟩, ⟨11, 1, .ro, 0⟩, ⟨12, 4, .ro, 0⟩, ⟨16, 4, .ro, 0⟩]⟩,
  -- FD_Fn_I
  ⟨0xA8084, [(256, 8)], .none, [⟨0, 32, .ro, 0⟩]⟩,
  -- FD_Fn_V
  ⟨0xA8088, [(256, 8)], .none, [⟨0, 16, .ro, 0⟩, ⟨16, 16, .ro, 0⟩]⟩,
  -- FD_Fn_VSUP
  ⟨0xA808C, [(256, 8)], .none, [⟨0, 16, .ro, 0⟩, ⟨16, 16, .ro, 0⟩]⟩,
  -- FD_Fn_P
  ⟨0xA8090, [(256, 8)], .none, [⟨0, 32, .ro, 0⟩]⟩,
  -- FD_Fn_E_LO
  ⟨0xA8094, [(256, 8)], .none, [⟨0, 32, .snap, 0⟩]⟩,
  -- FD_Fn_E_HI
  ⟨0xA8098, [(256, 8)], .none, [⟨0, 32, .snap, 0⟩]⟩,
  -- FD_Fn_BRK
  ⟨0xA809C, [(256, 8)], .none, [⟨0, 17, .ro, 0⟩]⟩,
  -- FD_Fn_TIMES
  ⟨0xA80A0, [(256, 8)], .none, [⟨0, 20, .ro, 0⟩]⟩,
  -- FD_Fn_GATE
  ⟨0xA80A4, [(256, 8)], .none, [⟨0, 16, .ro, 0⟩]⟩,
  -- FD_LOCK
  ⟨0xA8800, [], .none, [⟨0, 1, .lk, 0⟩]⟩,
  -- FD_MAP
  ⟨0xA8804, [], .none, [⟨0, 8, .ro, 0⟩, ⟨8, 8, .ro, 0⟩]⟩]

/-- Registers of block 0x0A_0000. -/
def regsLioFd : List RegDef := regsLioFd0 ++ regsLioFd1

/-- Registers of block 0x0B_0000, part 0. -/
def regsPlCs0 : List RegDef := [
  -- PL_CFG
  ⟨0xB0000, [], .group 25, [⟨0, 1, .rw, 0⟩, ⟨1, 2, .rw, 2⟩, ⟨4, 4, .rw, 3⟩, ⟨8, 4, .rw, 4⟩, ⟨12, 2, .rw, 1⟩, ⟨16, 4, .rw, 3⟩, ⟨20, 8, .rw, 32⟩]⟩,
  -- PL_IDENT
  ⟨0xB0004, [], .group 25, [⟨0, 16, .rw, 0⟩]⟩,
  -- PL_POLICY
  ⟨0xB0008, [], .group 25, [⟨0, 1, .rw, 0⟩]⟩,
  -- PL_VOTE
  ⟨0xB000C, [], .group 25, [⟨0, 8, .rw, 0⟩]⟩,
  -- PL_HB
  ⟨0xB0010, [], .group 25, [⟨0, 4, .rw, 0⟩, ⟨4, 1, .rw, 0⟩, ⟨6, 2, .rw, 2⟩, ⟨16, 12, .rw, 4093⟩]⟩,
  -- PL_HBID
  ⟨0xB0014, [], .group 25, [⟨0, 29, .rw, 0⟩, ⟨29, 1, .rw, 0⟩]⟩,
  -- PL_HBTIME
  ⟨0xB0018, [], .group 25, [⟨0, 14, .rw, 600⟩, ⟨16, 16, .rw, 200⟩]⟩,
  -- PL_STATUS
  ⟨0xB0020, [], .none, [⟨0, 2, .ro, 0⟩, ⟨2, 3, .ro, 0⟩, ⟨5, 2, .ro, 3⟩, ⟨8, 3, .ro, 0⟩, ⟨12, 3, .ro, 0⟩, ⟨16, 3, .ro, 0⟩, ⟨20, 4, .ro, 0⟩]⟩,
  -- PL_EPOCH
  ⟨0xB0024, [], .none, [⟨0, 32, .ro, 0⟩]⟩,
  -- PL_PATH
  ⟨0xB0028, [], .none, [⟨0, 3, .ro, 0⟩, ⟨4, 3, .ro, 0⟩, ⟨8, 3, .ro, 0⟩]⟩,
  -- PL_DEV
  ⟨0xB002C, [], .none, [⟨0, 4, .ro, 0⟩, ⟨4, 4, .ro, 0⟩, ⟨8, 4, .ro, 0⟩, ⟨12, 4, .ro, 0⟩, ⟨16, 4, .ro, 0⟩]⟩,
  -- PL_TRIP
  ⟨0xB0030, [], .none, [⟨0, 4, .ro, 15⟩, ⟨4, 4, .ro, 0⟩, ⟨8, 4, .ro, 0⟩]⟩,
  -- PL_LOCK
  ⟨0xB0034, [], .none, [⟨0, 1, .lk, 0⟩, ⟨1, 1, .lk, 0⟩]⟩,
  -- CS_CFG
  ⟨0xB8000, [], .group 26, [⟨0, 1, .rw, 0⟩, ⟨1, 1, .rw, 0⟩]⟩,
  -- CS_STATUS
  ⟨0xB8004, [], .none, [⟨0, 5, .ro, 0⟩, ⟨5, 1, .ro, 0⟩, ⟨6, 2, .ro, 0⟩]⟩,
  -- CS_HOP
  ⟨0xB8008, [], .none, [⟨0, 16, .ro, 0⟩, ⟨16, 16, .ro, 0⟩]⟩,
  -- CS_RLY_INDEX
  ⟨0xB8010, [], .none, [⟨0, 12, .rwi, 0⟩]⟩,
  -- CS_RLY_DATA0
  ⟨0xB8014, [], .group 26, [⟨0, 1, .rw, 0⟩, ⟨1, 2, .rw, 0⟩, ⟨4, 12, .rw, 0⟩, ⟨16, 7, .rw, 8⟩, ⟨24, 4, .rw, 1⟩]⟩,
  -- CS_RLY_DATA1
  ⟨0xB8018, [], .group 26, [⟨0, 24, .rw, 10000⟩]⟩,
  -- CS_RLY_DATA2
  ⟨0xB801C, [], .group 26, [⟨0, 20, .rw, 0⟩]⟩]

/-- Registers of block 0x0B_0000, part 1. -/
def regsPlCs1 : List RegDef := [
  -- CS_BORNOV
  ⟨0xB8020, [], .group 26, [⟨0, 11, .rw, 2016⟩, ⟨11, 1, .rw, 0⟩]⟩,
  -- CS_BVER_INDEX
  ⟨0xB8024, [], .none, [⟨0, 5, .rwi, 0⟩, ⟨8, 4, .rwi, 0⟩]⟩,
  -- CS_BVER_DATA
  ⟨0xB8028, [], .none, [⟨0, 8, .ro, 0⟩, ⟨8, 8, .ro, 0⟩, ⟨16, 8, .ro, 0⟩]⟩,
  -- CS_PEERDB
  ⟨0xB8030, [], .none, [⟨0, 10, .rwi, 0⟩, ⟨10, 4, .rwi, 0⟩, ⟨16, 1, .cmd, 0⟩]⟩,
  -- WL_SLOTk
  ⟨0xB8100, [(4, 32)], .group 26, [⟨0, 3, .rw, 0⟩, ⟨4, 14, .rw, 0⟩, ⟨20, 12, .rw, 0⟩]⟩,
  -- WL_l_CFG
  ⟨0xB8400, [(64, 4)], .group 26, [⟨0, 1, .rw, 0⟩]⟩,
  -- WL_l_STATUS
  ⟨0xB8404, [(64, 4)], .none, [⟨0, 3, .ro, 0⟩, ⟨4, 4, .ro, 0⟩, ⟨8, 3, .ro, 0⟩, ⟨11, 1, .ro, 0⟩, ⟨12, 8, .ro, 0⟩, ⟨20, 5, .ro, 0⟩, ⟨25, 2, .ro, 0⟩, ⟨27, 1, .ro, 0⟩, ⟨28, 1, .ro, 0⟩]⟩,
  -- WL_l_DELAY
  ⟨0xB8408, [(64, 4)], .none, [⟨0, 32, .ro, 0⟩]⟩,
  -- WL_l_CMD
  ⟨0xB840C, [(64, 4)], .none, [⟨0, 1, .cmd, 0⟩]⟩]

/-- Registers of block 0x0B_0000. -/
def regsPlCs : List RegDef := regsPlCs0 ++ regsPlCs1

/-- Registers of block 0x0C_0000, part 0. -/
def regsSvMm0 : List RegDef := [
  -- SV_n_COUNT
  ⟨0xC0000, [(16, 36)], .none, [⟨0, 13, .ro, 0⟩, ⟨13, 1, .ro, 0⟩, ⟨14, 1, .ro, 0⟩]⟩,
  -- SV_n_CMD
  ⟨0xC0004, [(16, 36)], .none, [⟨0, 1, .cmd, 0⟩]⟩,
  -- SV_n_PTR
  ⟨0xC0008, [(16, 36)], .none, [⟨0, 13, .ro, 0⟩, ⟨16, 13, .ro, 0⟩]⟩,
  -- MM_CFG
  ⟨0xC8000, [], .group 27, [⟨0, 13, .rw, 256⟩, ⟨16, 8, .rw, 16⟩]⟩,
  -- MM_LAST_CE
  ⟨0xC8004, [], .none, [⟨0, 15, .ro, 0⟩]⟩,
  -- MM_LAST_UE
  ⟨0xC8008, [], .none, [⟨0, 15, .ro, 0⟩, ⟨16, 4, .ro, 0⟩]⟩,
  -- MM_SCRUB
  ⟨0xC800C, [], .none, [⟨0, 15, .ro, 0⟩, ⟨16, 16, .ro, 0⟩]⟩,
  -- MM_ROW_INDEX
  ⟨0xC8010, [], .none, [⟨0, 15, .rwi, 0⟩]⟩,
  -- MM_ROW_DATA
  ⟨0xC8014, [], .none, [⟨0, 8, .ro, 0⟩, ⟨8, 1, .ro, 0⟩, ⟨9, 1, .ro, 0⟩]⟩]

/-- Registers of block 0x0C_0000. -/
def regsSvMm : List RegDef := regsSvMm0

/-- Registers of block 0x0D_0000, part 0. -/
def regsCtCnt0 : List RegDef := [
  -- CT_SNAP
  ⟨0xD0000, [], .none, [⟨0, 1, .cmd, 0⟩, ⟨1, 1, .cmd, 0⟩]⟩,
  -- CT_CLEAR
  ⟨0xD0004, [], .none, [⟨0, 7, .rwi, 0⟩, ⟨8, 1, .cmd, 0⟩, ⟨9, 1, .cmd, 0⟩]⟩,
  -- CT_SNAP_STATUS
  ⟨0xD0008, [], .none, [⟨0, 1, .ro, 0⟩]⟩,
  -- CT_SNAP_TIME_LO
  ⟨0xD0010, [], .none, [⟨0, 32, .snap, 0⟩]⟩,
  -- CT_SNAP_TIME_HI
  ⟨0xD0014, [], .none, [⟨0, 32, .snap, 0⟩]⟩,
  -- CT_SNAP_TURN_LO
  ⟨0xD0018, [], .none, [⟨0, 32, .snap, 0⟩]⟩,
  -- CT_SNAP_TURN_HI
  ⟨0xD001C, [], .none, [⟨0, 16, .snap, 0⟩]⟩,
  -- CT_SATi
  ⟨0xD0100, [(4, 4)], .none, [⟨0, 32, .ro, 0⟩]⟩,
  -- CT_CNTc_LO
  ⟨0xD1000, [(8, 7680)], .none, [⟨0, 32, .cnt, 0⟩]⟩,
  -- CT_CNTc_HI
  ⟨0xD1004, [(8, 7680)], .none, [⟨0, 16, .cnt, 0⟩]⟩]

/-- Registers of block 0x0D_0000. -/
def regsCtCnt : List RegDef := regsCtCnt0

/-- Registers of block 0x0E_0000, part 0. -/
def regsCtHld0 : List RegDef := [
  -- CT_HLDc_LO
  ⟨0xE1000, [(8, 7680)], .none, [⟨0, 32, .snap, 0⟩]⟩,
  -- CT_HLDc_HI
  ⟨0xE1004, [(8, 7680)], .none, [⟨0, 16, .snap, 0⟩]⟩]

/-- Registers of block 0x0E_0000. -/
def regsCtHld : List RegDef := regsCtHld0

/-- Registers of block 0x0F_0000, part 0. -/
def regsSlRp0 : List RegDef := [
  -- SL_CFG
  ⟨0xF0000, [], .group 29, [⟨0, 7, .rw, 0⟩, ⟨7, 1, .rw, 0⟩, ⟨8, 7, .rw, 0⟩, ⟨15, 1, .rw, 0⟩, ⟨16, 3, .rw, 1⟩, ⟨20, 3, .rw, 3⟩]⟩,
  -- SL_TMO
  ⟨0xF0004, [], .group 29, [⟨0, 8, .rw, 20⟩, ⟨8, 3, .rw, 3⟩, ⟨16, 12, .rw, 16⟩, ⟨28, 2, .rw, 1⟩]⟩,
  -- SL_STATUS
  ⟨0xF0008, [], .none, [⟨0, 4, .ro, 0⟩, ⟨4, 2, .ro, 0⟩, ⟨6, 2, .ro, 0⟩]⟩,
  -- SL_HEAD
  ⟨0xF000C, [], .none, [⟨0, 32, .ro, 0⟩]⟩,
  -- SL_LOST
  ⟨0xF0010, [], .none, [⟨0, 16, .ro, 65535⟩, ⟨16, 16, .ro, 65535⟩]⟩,
  -- SL_LOG_INDEX
  ⟨0xF0020, [], .none, [⟨0, 12, .rwi, 0⟩]⟩,
  -- SL_LOG_DATAi
  ⟨0xF0040, [(4, 8)], .none, [⟨0, 32, .ro, 0⟩]⟩,
  -- RP_CFG
  ⟨0xF8000, [], .group 28, [⟨0, 1, .rw, 1⟩, ⟨1, 1, .rw, 1⟩, ⟨16, 16, .rw, 1000⟩]⟩,
  -- RP_AGE
  ⟨0xF8004, [], .group 28, [⟨0, 10, .rw, 80⟩, ⟨16, 10, .rw, 50⟩]⟩,
  -- RP_CMD
  ⟨0xF8008, [], .none, [⟨0, 1, .cmd, 0⟩]⟩,
  -- RP_DOFF
  ⟨0xF800C, [], .none, [⟨0, 4, .rwi, 0⟩, ⟨4, 5, .rwi, 31⟩, ⟨16, 1, .cmd, 0⟩]⟩,
  -- RP_INV0
  ⟨0xF8010, [], .none, [⟨0, 2, .ro, 0⟩, ⟨8, 2, .ro, 0⟩, ⟨16, 1, .ro, 0⟩, ⟨24, 4, .ro, 0⟩]⟩,
  -- RP_INV1
  ⟨0xF8014, [], .none, [⟨0, 9, .ro, 0⟩, ⟨16, 7, .ro, 0⟩]⟩,
  -- RP_INV2
  ⟨0xF8018, [], .none, [⟨0, 16, .ro, 0⟩]⟩,
  -- RP_SHIP0
  ⟨0xF8020, [], .none, [⟨0, 2, .ro, 0⟩, ⟨8, 2, .ro, 0⟩, ⟨16, 1, .ro, 0⟩]⟩,
  -- RP_SHIP1
  ⟨0xF8024, [], .none, [⟨0, 9, .ro, 0⟩, ⟨16, 7, .ro, 0⟩]⟩,
  -- RP_FUSE
  ⟨0xF8030, [], .none, [⟨0, 9, .ro, 0⟩, ⟨16, 9, .ro, 0⟩, ⟨28, 1, .ro, 0⟩, ⟨29, 1, .ro, 0⟩]⟩,
  -- RP_BIST
  ⟨0xF8034, [], .none, [⟨0, 2, .ro, 0⟩, ⟨8, 16, .ro, 0⟩]⟩,
  -- RP_AGE_INDEX
  ⟨0xF8040, [], .none, [⟨0, 8, .rwi, 0⟩]⟩,
  -- RP_AGE_DATA
  ⟨0xF8044, [], .none, [⟨0, 10, .ro, 0⟩, ⟨16, 5, .ro, 0⟩, ⟨24, 8, .ro, 0⟩]⟩]

/-- Registers of block 0x0F_0000, part 1. -/
def regsSlRp1 : List RegDef := [
  -- RP_FUSE_INDEX
  ⟨0xF8048, [], .none, [⟨0, 8, .rwi, 0⟩]⟩,
  -- RP_FUSE_DATA
  ⟨0xF804C, [], .none, [⟨0, 32, .ro, 0⟩]⟩,
  -- RP_FUSE_STATE
  ⟨0xF8050, [], .none, [⟨0, 2, .ro, 0⟩]⟩]

/-- Registers of block 0x0F_0000. -/
def regsSlRp : List RegDef := regsSlRp0 ++ regsSlRp1

/-- Registers of block 0x10_0000, part 0. -/
def regsKs0 : List RegDef := [
  -- KS_STATUS
  ⟨0x100000, [], .none, [⟨0, 1, .ro, 0⟩, ⟨1, 1, .ro, 0⟩, ⟨4, 6, .ro, 0⟩, ⟨16, 16, .ro, 0⟩]⟩,
  -- KS_LOADED0
  ⟨0x100004, [], .none, [⟨0, 32, .ro, 0⟩]⟩,
  -- KS_LOADED1
  ⟨0x100008, [], .none, [⟨0, 32, .ro, 0⟩]⟩,
  -- KS_LOCK0
  ⟨0x100010, [], .none, [⟨0, 32, .lk, 0⟩]⟩,
  -- KS_LOCK1
  ⟨0x100014, [], .none, [⟨0, 32, .lk, 0⟩]⟩,
  -- KS_FR_INDEX
  ⟨0x100020, [], .none, [⟨0, 12, .rwi, 0⟩]⟩,
  -- KS_FR_LO
  ⟨0x100024, [], .none, [⟨0, 32, .snap, 0⟩]⟩,
  -- KS_FR_HI
  ⟨0x100028, [], .none, [⟨0, 16, .snap, 0⟩]⟩]

/-- Registers of block 0x10_0000. -/
def regsKs : List RegDef := regsKs0

/-- Registers of block 0x11_0000, part 0. -/
def regsHk0 : List RegDef := [
  -- HK_CFG
  ⟨0x110000, [], .group 30, [⟨0, 1, .rw, 0⟩, ⟨1, 1, .rw, 0⟩, ⟨2, 1, .rw, 0⟩, ⟨4, 3, .rw, 4⟩, ⟨8, 3, .rw, 1⟩, ⟨16, 16, .rw, 1024⟩]⟩,
  -- HK_SEL
  ⟨0x110004, [], .group 30, [⟨0, 8, .rw, 0⟩, ⟨8, 8, .rw, 0⟩, ⟨16, 16, .rw, 0⟩]⟩,
  -- HK_LOOPSEL
  ⟨0x110008, [], .group 30, [⟨0, 8, .rw, 1⟩, ⟨8, 8, .rw, 0⟩, ⟨16, 8, .rw, 0⟩]⟩,
  -- HK_DRAIN_LO
  ⟨0x110010, [], .group 30, [⟨0, 32, .rw, 0⟩]⟩,
  -- HK_DRAIN_HI
  ⟨0x110014, [], .group 30, [⟨0, 32, .rw, 0⟩]⟩,
  -- HK_DRAIN_CFG
  ⟨0x110018, [], .group 30, [⟨0, 5, .rw, 8⟩, ⟨5, 1, .rw, 0⟩, ⟨6, 1, .rw, 0⟩]⟩,
  -- HK_TOTAL
  ⟨0x110020, [], .none, [⟨0, 32, .ro, 0⟩]⟩,
  -- HK_BUF_STATUS
  ⟨0x110024, [], .none, [⟨0, 1, .ro, 0⟩, ⟨1, 18, .ro, 0⟩]⟩,
  -- HK_DRAIN_PROD
  ⟨0x110028, [], .none, [⟨0, 32, .ro, 0⟩]⟩,
  -- HK_CMD
  ⟨0x11002C, [], .none, [⟨0, 1, .cmd, 0⟩]⟩,
  -- HK_BUF_INDEX
  ⟨0x110030, [], .none, [⟨0, 17, .rwi, 0⟩]⟩,
  -- HK_BUF_DATAi
  ⟨0x110040, [(4, 4)], .none, [⟨0, 32, .ro, 0⟩]⟩]

/-- Registers of block 0x11_0000. -/
def regsHk : List RegDef := regsHk0

/-- The registers whose offsets lie in block `b` (offset / 0x10000), under Table 12.9. TW_ spans blocks 7 to 9. -/
def regsOfBlock (b : Nat) : List RegDef :=
  match b with
  | 0 => regsIdDvPpOwWh
  | 1 => regsTb
  | 2 => regsSpState
  | 3 => regsSpState ++ regsSpCh
  | 4 => regsCdCr
  | 5 => regsDr
  | 6 => regsLw
  | 7 => regsTw
  | 8 => regsTw
  | 9 => regsTw
  | 10 => regsLioFd
  | 11 => regsPlCs
  | 12 => regsSvMm
  | 13 => regsCtCnt
  | 14 => regsCtHld ++ regsCtCnt
  | 15 => regsSlRp ++ regsCtHld
  | 16 => regsKs
  | 17 => regsHk
  | _ => []

/-- Every register of the map, in ascending offset of its first element. -/
def allRegs : List RegDef :=
  regsIdDvPpOwWh ++ regsTb ++ regsSpState ++ regsSpCh ++ regsCdCr ++ regsDr ++ regsLw ++ regsTw ++ regsLioFd ++ regsPlCs ++ regsSvMm ++ regsCtCnt ++ regsCtHld ++ regsSlRp ++ regsKs ++ regsHk

/-- The indexes that a distance from an array's base stands for, if it is one of its elements. -/
def arrIndex : List (Nat × Nat) → Nat → Option (List Nat)
  | [], rest => if rest = 0 then some [] else none
  | (st, cnt) :: t, rest =>
    if rest / st < cnt then (arrIndex t (rest % st)).map (fun l => rest / st :: l) else none

/-- Find a register by its offset, in a list of rows. -/
def findReg : List RegDef → Nat → Option (RegDef × List Nat)
  | [], _ => none
  | d :: ds, off =>
    if d.base ≤ off then
      match arrIndex d.arr (off - d.base) with
      | some ix => some (d, ix)
      | none => findReg ds off
    else findReg ds off

/-- The register at an offset, with its array indexes; none where nothing is mapped (R384, R416). -/
def regAt (off : Nat) : Option (RegDef × List Nat) := findReg (regsOfBlock (off / 0x10000)) off

/-- Point k of the reset breaker curve: current in 10 mA and time in 10 µs (Table 9.5). -/
def curveReset (k : Nat) : Nat × Nat :=
  match k with
  | 0 => (500, 1000000) | 1 => (600, 500000) | 2 => (800, 100000) | 3 => (1000, 20000)
  | 4 => (1200, 5000) | 5 => (1500, 1000) | 6 => (2000, 200) | _ => (2500, 50)

/-- Reset word of a register from its fields. -/
def RegDef.resetWord (d : RegDef) (ix : List Nat) : Word :=
  if d.base = 0xA8020 then
    let p := curveReset (ix.getD 1 0)
    packWord [(0, p.1), (12, p.2)]
  else packWord (d.fields.map (fun f => (f.lo, f.reset)))

/-- Reset word of the register at an offset; 0 where nothing is mapped. -/
def resetAt (off : Nat) : Word :=
  match regAt off with
  | some (d, ix) => d.resetWord ix
  | none => 0

/-- The commit group number of the register at an offset (Table 12.3), if it belongs to one. -/
def groupOf (off : Nat) : Option Nat :=
  match regAt off with
  | some (d, ix) =>
    match d.grp with
    | .none => none
    | .chan => some (ix.getD 0 0)
    | .group n => some n
  | none => none

/-- Mask of the fields of given types of a register. -/
def RegDef.maskOf (d : RegDef) (p : FieldType → Bool) : Word :=
  d.fields.foldl (fun m f => if p f.ty then m ||| fieldMask f.lo f.w else m) 0

end Sys2Proof.Machine
end

