-- ==== Sys2Proof/Machine/State.lean ====
section
/-!
DEFINITION. The state of Molwegon as plain data: every register, table, queue, counter, mode and pin the spec gives
the block, the queue of waiting commands, and what has left the device. Arrays are sparse tables in canonical form;
what an unlisted key reads as is the reset value of that array.
-/

namespace Sys2Proof.Machine

/-! ## Why a step may stop -/

/-- A fault of the model. No command of this block stops the machine by a fault (log 4): the block's own faults are
slubs and state. The one constructor is raised by no meaning; it is safe. -/
inductive Fault where
  /-- Raised by nobody: kept so that the type is inhabited data. Safe. -/
  | never
  deriving DecidableEq, Repr

/-- A refusal of the model. -/
inductive Refusal where
  /-- Raised by an arm of `exec` whose command has no meaning yet, by name. Safe: the model stops. -/
  | notModelled (mnemonic : String)
  deriving DecidableEq, Repr

/-! ## Slubs, hanks, skein entries: what the device reports -/

/-- A slub record (Table 16.1). -/
structure Slub where
  time : BitVec 64
  turn : BitVec 48
  block : Nat
  sev : Nat
  code : Nat
  seq : Nat
  d0 : Word
  d1 : Word
  d2 : Word
  deriving DecidableEq, Repr

/-- A hank (Table 19.1). -/
structure Hank where
  kind : Nat
  sub : Nat
  seq : Nat
  aux : Nat
  time : Word
  body : BitVec 64
  deriving DecidableEq, Repr

/-- COMPLETION body (Table 10.12). Fields an opcode does not name stay 0. -/
structure Compl where
  opcode : Nat
  distaff : Nat
  status : Nat
  tag : Word
  index : Word
  reason : Nat := 0
  stream : Nat := 0
  effect : Bool := false
  fstate : Nat := 0
  capture : Nat := 0
  covered : Bool := false
  rNs : Nat := 0
  reserve : Nat := 0
  lateness : Word := 0
  turn : BitVec 48 := 0
  timeA : BitVec 64 := 0
  timeB : BitVec 64 := 0
  errt : Bool := false
  plyResult : List Word := []
  deriving DecidableEq, Repr

/-- A bobbin with its tag (Table 4.5 and "Bobbins" of chapter 4). `cls` is the holding class and `holders` the count of
destinations still holding it. -/
inductive BobClass where
  | rx | send | stream | relay
  deriving DecidableEq, Repr

/-- A bobbin (R130). -/
structure Bobbin where
  frame : Frame
  dur : Nat
  poison : Bool
  errt : Bool
  time : BitVec 64
  ch : Nat
  loopback : Bool
  cls : BobClass
  holders : Nat
  deriving DecidableEq, Repr

/-- What a bobbin records of its frame (Table 4.5). -/
def Bobbin.tag (b : Bobbin) : FrameTag := { dur := b.dur, poison := b.poison, errt := b.errt, time := b.time }

/-- LINE_RECORD body (Table 6.6). -/
structure LineRec where
  kind : Nat
  ch : Nat
  node : Nat := 0x3F
  conf : Nat := 0
  reason : Nat := 0
  key : Word := 0xFFFFFFFF
  time : BitVec 64 := 0
  turn : BitVec 48 := 0
  levels : List (BitVec 16) := []
  expNode : Nat := 0
  second : Nat := 0
  dBest : Nat := 0
  dSecond : Nat := 0
  capture : Nat := 0
  feed : Nat := 0
  action : Bool := false
  term : Nat := 0
  flags : Nat := 0
  trend : Word := 0
  deriving DecidableEq, Repr

/-- Bodies of skein entries (Tables 10.12 to 10.15, R344). -/
inductive EntryBody where
  | completion (c : Compl)
  | rxFrame (b : Bobbin) (ch : Nat) (catchAll loopback : Bool) (route spindle : Nat) (turn : BitVec 48)
  | slub (r : Slub)
  | lineRecord (r : LineRec)
  | turnReport (turn : BitVec 48) (bound : BitVec 64) (breachMap tbFlags lastCyc pgMap fallback : Nat)
      (uncovered slubs : Nat)
  | streamStatus (event ch cause stream : Nat) (keyFrom : Word) (turn : BitVec 48) (total : Nat) (listed : List Nat)
      (count : Nat) (maxLate : Word)
  deriving DecidableEq, Repr

/-- Header of a skein entry (Table 10.11). -/
structure EntryHdr where
  phase : Bool
  lost : Bool
  lostCount : Nat
  wtime : BitVec 64
  deriving DecidableEq, Repr

/-- Status page header (Table 10.5). -/
structure StatusHdr where
  turn : BitVec 48
  time : BitVec 64
  dstate : Nat
  owner : Bool
  owned : Bool
  fmt : Nat
  dsStalled : List Nat
  skStalled : List Nat
  deriving DecidableEq, Repr

/-- Header of a sent cell (Table 15.3), without the fields that its body gives. -/
structure CellHead where
  acting : Bool
  ack : Nat
  tag : BitVec 16
  turn16 : BitVec 16
  deriving DecidableEq, Repr

/-- Bodies of the cells that the device sends (Table 15.4): time, agreement set, output set, heartbeat with the
configuration CRC and the joining progress, one relayed frame, MGMT. -/
inductive CellOut where
  | time (tTx : BitVec 64) (turn : BitVec 48) (echo : BitVec 64) (residence : Nat)
  | agree (taps : List (Word × Bool)) (comps : List Bool)
  | outputs (vals : List SinkVal)
  | heart (b : Beat) (crc : Word) (syncNext syncDone : Nat)
  | relay (entry : Nat) (f : Frame) (tag : FrameTag)
  | mgmt (seq : Nat) (body : MgmtBody)
  deriving DecidableEq, Repr

/-- What leaves the device, oldest first: answers to register reads, entries and index writes to host memory, reads
of host memory issued, interrupt messages, hanks on the port and in the drain ring, cells on the Wilist links, and
frames chosen for the wire. `addr` is where in host memory a write or a read begins; Render.lean gives the bytes of what is
written. -/
inductive Output where
  | regRead (port : Port) (off : Nat) (val : Word)
  | entry (port : Port) (skein : Nat) (index : Word) (addr : BitVec 64) (hdr : EntryHdr) (body : EntryBody)
  | skProd (port : Port) (skein : Nat) (index : Word) (addr : BitVec 64)
  | dsCons (port : Port) (distaff : Nat) (index : Word) (addr : BitVec 64)
  | header (port : Port) (addr : BitVec 64) (h : StatusHdr)
  | hostRead (port : Port) (what : HostRead) (addr : BitVec 64)
  | valueRead (port : Port) (stream : Nat) (addr : BitVec 64)
  | msix (port : Port) (addr : BitVec 64) (data : Word)
  | hank (h : Hank)
  | drain (port : Port) (slot : Nat) (addr : BitVec 64) (h : Hank)
  | samples (port : Port) (addr : BitVec 64) (pairs : List Word)
  | cell (link : Fin 4) (head : CellHead) (body : CellOut)
  | tap (bits : Word)
  | offer (ch : Nat) (f : Frame)
  deriving DecidableEq, Repr

/-! ## Time (chapter 2) -/

/-- Turn and time base, chapter 2, without the time base itself. `bound` is TB_BOUND; `origin` is the same instant as the time
base counts now, which a load or a step of the time base moves on with it (R52); `prevTurn` is the turn before the one in
progress; `cut` is the cut-off of the latest capture point (R34); `loadClk` the clock of the latest LOAD_TIME (R70); `pulse` says
that OUT_WIDTH_US have not passed since the boundary (R71). -/
structure TurnSt where
  turn : BitVec 48 := 0
  prevTurn : BitVec 48 := 0
  bound : BitVec 64 := 0
  origin : BitVec 64 := 0
  cut : Option (BitVec 64) := none
  loadClk : Option Nat := none
  nextBound : BitVec 64 := 1000000
  stretch : Bool := false
  turnLoad : Bool := false
  cellTurn : Option (BitVec 48) := none
  srcActive : BitVec 2 := 0
  plyFollow : Bool := false
  phaseTerm : Rat := 0
  freqTerm : Rat := 0
  locked : Bool := false
  goodRun : Nat := 0
  holdover : Bool := false
  acceptedAt : Nat := 0
  holdTurns : Nat := 0
  cascadeAlarm : Bool := false
  mismatch : Bool := false
  devLimit : Bool := false
  rejRun : Nat := 0
  stepped : Bool := false
  phaseErr : Int := 0
  pulse : Bool := false
  capDone : Bool := true
  agreeDone : Bool := true
  twistDone : Bool := true
  releaseDone : Bool := true
  deriving DecidableEq, Repr

/-! ## Register file, commit, locks, configuration CRC (chapter 12) -/

/-- DV_COMMIT_STATUS.PHASE. -/
inductive CommitPhase where
  | idle | checking | accepted
  deriving DecidableEq, Repr

/-- Shadow and live images of the buffered fields, the fields written at once, and the commit in flight. Unlisted
registers stand at their reset words. -/
structure RegSt where
  shadow : Tbl Word := []
  live : Tbl Word := []
  rwi : Tbl Word := []
  dirty : Word := 0
  phase : CommitPhase := .idle
  commitNow : Bool := false
  pend : Word := 0
  refused : Word := 0
  reanStart : Nat := 0
  discOff : Nat := 0
  discPort : Port := .a
  discReason : Nat := 0
  crcLast : Word := 0
  crcMismatch : Bool := false
  graceOn : Bool := false
  graceLeft : Nat := 0
  passOn : Bool := false
  passValid : Bool := false
  fieldShadow : Tbl Word := []
  ctTime : BitVec 64 := 0
  ctTurn : BitVec 48 := 0
  ctPending : Bool := false
  held : Tbl Nat := []
  deriving DecidableEq, Repr

/-! ## Host rings, whorl, slub log, counters, trace: the reporting plane (chapters 10, 11, 16, 19) -/

/-- STATE of a ring (Table 10.3). -/
inductive RingState where
  | stopped | running | stalled
  deriving DecidableEq, Repr

/-- A fetched descriptor that is not accepted: its index and its 16 words. `wantsPay` marks one whose indirect payload
read is in flight, `pay` the payload that has arrived. -/
structure Fetched where
  index : Word
  words : List Word
  wantsPay : Bool
  pay : List Byte := []
  deriving DecidableEq, Repr

/-- A descriptor read that was issued (R331): when, how many of its tries have failed, and its words once they have arrived while
a descriptor before it has not. -/
structure Flight where
  at_ : Nat
  tries : Nat := 0
  words : Option (List Word) := none
  deriving DecidableEq, Repr

/-- A FENCE accepted and not yet complete (R342). -/
structure FenceSt where
  desc : Desc
  turn : BitVec 48
  hold : Bool
  deriving DecidableEq, Repr

/-- One distaff or skein: settings of Table 10.3 and working state. `own` is Molwegon's index, `peer` the cached index
of the host, `reading` the issue times of the index reads in flight, `wantProd` one that waits to be issued, `flight` the
descriptor reads from `own` on, `payAt` the issue time of a payload read, `claims` the skein in which each descriptor not yet
completed reserved its entry (R332), by its index, and `owes` an index not yet written to the status page (R319). -/
structure Ring where
  base : BitVec 64 := 0
  log2 : Nat := 6
  en : Bool := false
  cskein : Nat := 0
  notify : Nat := 0
  coal : Nat := 0
  st : RingState := .stopped
  err : Nat := 0
  errIdx : Word := 0
  own : Word := 0
  peer : Word := 0
  reserved : Nat := 0
  lost : Nat := 0
  lastNotify : Option Nat := none
  deferred : Bool := false
  waiting : List EntryBody := []
  fetched : List Fetched := []
  flight : List Flight := []
  payTries : Nat := 0
  payAt : Option Nat := none
  reading : List Nat := []
  wantProd : Bool := false
  claims : List (Word × Nat) := []
  owes : Bool := false
  deriving DecidableEq, Repr

/-- A whorl source in one port (R368). -/
inductive SrcState where
  | inactive | pending | active | activePending
  deriving DecidableEq, Repr

/-- One entry of a port's priority stack (R371). -/
structure StackEntry where
  src : Nat
  prio : Nat
  at_ : Nat
  deriving DecidableEq, Repr

/-- One host port: link, settings, rings, doorbell polling, whorl presentation, read latches. `fresh` are the sources that a
firing of the instant `freshAt` presented, which no claim of that instant sees (R375). -/
structure PortSt where
  linkUp : Bool := true
  busMaster : Bool := false
  portEn : Bool := false
  portErr : Nat := 0
  ringFmt : Nat := 0
  dbAddr : BitVec 64 := 0
  stAddr : BitVec 64 := 0
  poll : Nat := 20
  sweep : Nat := 64
  cplTmo : Nat := 1000
  reportEvery : Nat := 0
  reportSkein : Nat := 0
  reportCount : Nat := 0
  ringSel : Nat := 0
  ringKind : Bool := false
  ds : Tbl Ring := []
  sk : Tbl Ring := []
  summary : BitVec 128 := 0
  polls : Nat := 0
  pollAt : Nat := 0
  sumBusy : Bool := false
  sumAt : Nat := 0
  visit : Nat := 0
  valueWait : List (Nat × Nat) := []
  sumFails : Nat := 0
  gen : Word := 0
  genAt : Nat := 0
  src : Tbl SrcState := []
  stack : List StackEntry := []
  outstanding : Bool := false
  fresh : List Nat := []
  freshAt : Nat := 0
  hold : Bool := false
  msixAddr : BitVec 64 := 0
  msixData : Word := 0
  msixMask : Bool := true
  msixPend : Bool := false
  nowHi : Word := 0
  turnHi : Word := 0
  boundHi : Word := 0
  ctLatch : Word := 0
  snapTimeHi : Word := 0
  frHi : Word := 0
  eHi : Tbl Word := []
  deriving DecidableEq, Repr

/-- A slub of the instant in progress, before its place in the order of R499 is known. -/
structure SlubReq where
  time : BitVec 64
  turn : BitVec 48
  code : Nat
  d0 : Word
  d1 : Word
  d2 : Word
  deriving DecidableEq, Repr

/-- A hank of the instant in progress, before its place in the order of R554 is known. -/
structure HankReq where
  kind : Nat
  sub : Nat
  aux : Nat
  body : BitVec 64
  deriving DecidableEq, Repr

/-- The reporting plane: what slubs, sources, counters, skein entries and hanks read and write. `whOld` is the configuration
before a commit of this instant, under which the firings of the instant still act, and `whDue` says that REQ and OUTSTANDING
are to be evaluated at its end (R375). -/
structure Rep where
  out : List Output := []
  ports : Tbl PortSt := []
  ct : Tbl Nat := []
  satSeen : List Nat := []
  log : Tbl Slub := []
  total : Word := 0
  slubsTurn : Nat := 0
  slubsPrev : Nat := 0
  first : List Nat := []
  hanks : List Hank := []
  hkTotal : Word := 0
  hkDropped : Nat := 0
  hkTurnDrops : Nat := 0
  trace : Tbl Hank := []
  fill : Nat := 0
  stopSeen : Bool := false
  post : Nat := 0
  frozen : Bool := false
  drainProd : Word := 0
  undrained : List Nat := []
  slubReqs : List SlubReq := []
  hankReqs : List HankReq := []
  whOld : Option (Tbl Word) := none
  whDue : Bool := false
  nextPort : Port := .a
  deriving DecidableEq, Repr

/-- Ownership (chapter 11). Of the cycle in progress: `start` is the owner at its start where that has changed (R356), `soon` a
candidacy written while no port was owner (R359), `taker` the port whose ACCEPT was written (R362), and `lost` the target of a
handover that a lapse cancelled (R366). -/
structure OwnSt where
  owner : Option Port := none
  start : Option (Option Port) := none
  soon : Bool := false
  taker : Option Port := none
  lost : Option Port := none
  electing : Bool := false
  electEnd : Nat := 0
  handover : Option Port := none
  handAt : Nat := 0
  candA : Bool := false
  candB : Bool := false
  lapse : Nat := 0
  epoch : Word := 0
  deriving DecidableEq, Repr

/-- The body of a descriptor (Tables 10.8, 10.9). `bad` is an opcode of 0x0E to 0xFF; `act` is an ACTION code. -/
inductive DescBody where
  | nop
  | send (b : SendBody)
  | open_ (b : OpenBody)
  | close (n : Fin 4096)
  | data (b : DataBody)
  | foreign (b : ForeignBody)
  | loopParam (b : LoopParamBody)
  | loopMode (b : LoopModeBody)
  | feedCmd (act : Nat) (feed : Fin 8) (offMs : BitVec 16)
  | capture (b : CaptureBody)
  | plyCmd (act : Nat) (member : Fin 4)
  | fence (turn : BitVec 48) (hold : Bool)
  | keyLoad (b : KeyBody)
  | chCmd (act : Nat) (ch : Fin 16)
  | bad (opcode : Nat)
  deriving DecidableEq, Repr

/-- A descriptor fetched and not accepted, behind a FENCE with HOLD in its distaff (R342). -/
structure HeldDesc where
  desc : Desc
  body : DescBody
  deriving DecidableEq, Repr

/-! ## Channels and spindles (chapter 3) -/

/-- Channel modes of Table 3.4. -/
inductive ChMode where
  | off | normal | listenOnly | restricted | loopback
  deriving DecidableEq, Repr

/-- Channel states of Table 3.6. -/
inductive ChState where
  | off | integrating | errorActive | errorPassive | boHold | boWait | recovering | quarantined
  deriving DecidableEq, Repr

/-- What is on a channel's wire; `gap` is the interframe space after a frame, before the next choice. -/
inductive Wire where
  | idle | ownFrame | otherFrame | errorFrame | overload | gap
  deriving DecidableEq, Repr

/-- What a ready-set entry is to become when it leaves: a SEND with its descriptor, or a stream's release. -/
inductive ReadyKind where
  | send (d : Desc)
  | stream (n : Nat) (rel : Nat)
  deriving DecidableEq, Repr

/-- One bobbin in a ready set (R90, R95). `age` counts boundaries since entry; `doomed` marks one whose frame was on the
wire at the fourth boundary; `errT` is the time of the error flag that ended its latest attempt (R99). -/
structure Ready where
  bob : Nat
  key : Word
  kind : ReadyKind
  age : Nat
  doomed : Bool
  sofT : BitVec 64
  errT : Option (BitVec 64)
  deriving DecidableEq, Repr

/-- A channel: mode, error confinement, ready set, wire. `heldMode` says that `pendMode` was committed in a bus-off state
(R111). `sof`, `sofClk`, `sofTurn` and `sofAge` are the time base value, the clock and the turn of the latest start of frame and
the boundaries since; `edges` are the edges the loop delay of that frame is measured on (R79). `denials` are those of the turn. -/
structure Channel where
  mode : ChMode := .off
  pendMode : Option ChMode := none
  heldMode : Bool := false
  st : ChState := .off
  tec : Nat := 0
  recn : Nat := 0
  warn : Bool := false
  lec : Nat := 0
  integWait : Bool := false
  recov : Nat := 0
  holdLeft : Nat := 0
  heldRecover : Bool := false
  boHist : List Nat := []
  wire : Wire := .idle
  chosen : Option Nat := none
  offered : Bool := false
  sof : BitVec 64 := 0
  sofClk : Nat := 0
  sofTurn : BitVec 48 := 0
  sofAge : Nat := 0
  edges : List Nat := []
  ready : List Ready := []
  tdcv : Nat := 0
  ssp : Nat := 0
  idleTurns : Nat := 0
  sendQueue : List (Nat × Desc) := []
  lastSend : Option Nat := none
  errTimes : List Nat := []
  retrans : List Word := []
  denials : Nat := 0
  denyTime : BitVec 64 := 0
  denyTurn : BitVec 48 := 0
  deriving DecidableEq, Repr

/-- Role of a spindle (SP_STATE.ROLE). -/
inductive SpRole where
  | active | spare | retired
  deriving DecidableEq, Repr

/-- A spindle: whether its self-check passes, and the channel it served when its reset in progress began. Its two slivers
are elsewhere. -/
structure Spindle where
  role : SpRole
  selfOk : Bool := false
  inReset : Option Nat := none
  deriving DecidableEq, Repr

/-! ## Slivers and SRAM (chapter 13) -/

/-- A whole record in a sliver (Table 13.1): the frame with its timestamps, the channel, the loop-back mark, the bobbin
of a transmit record, and poison of its header and of its payload. -/
structure SlvRec where
  words : Nat
  frame : Frame
  ch : Nat
  loopback : Bool
  errt : Bool
  sof : BitVec 64
  eof : BitVec 64
  bob : Nat
  poisonHdr : Bool
  poisonPay : Bool
  deriving DecidableEq, Repr

/-- A sliver's pointers and records (R422, R428 to R430). -/
structure Sliver where
  w : BitVec 13 := 0
  r : BitVec 13 := 0
  m : BitVec 13 := 0
  recs : List SlvRec := []
  flight : Option SlvRec := none
  underrun : Bool := false
  flushing : Bool := false
  deriving DecidableEq, Repr

/-- Per-row state of the SRAM (MM_ROW_DATA). -/
structure RowSt where
  ce : Nat := 0
  ue : Bool := false
  retired : Bool := false
  deriving DecidableEq, Repr

/-- Memory protection (chapter 13). `emBad` are the exact-match entries with an uncorrectable word, each with its row. -/
structure MemSt where
  slv : Tbl Sliver := []
  rows : Tbl RowSt := []
  lastCe : Nat := 0
  lastUeRow : Nat := 0
  lastUeRegion : Nat := 0
  nextRow : Nat := 0
  passes : BitVec 16 := 0
  emBad : Tbl Nat := []
  deriving DecidableEq, Repr

/-! ## Cards and creel (chapter 4) -/

/-- An exact-match entry. -/
structure EmEntry where
  ch : Nat
  ide : Bool
  id : BitVec 29
  fdf : Nat
  route : Nat
  hits : Nat
  deriving DecidableEq, Repr

/-- An exact-match (`em`) or route command in progress (R124), with the result and the index its completion will show. -/
structure TblCmd where
  em : Bool
  result : Nat
  index : Option Nat
  deriving DecidableEq, Repr

/-- Bobbin use of a channel. -/
structure ChUse where
  rx : Nat := 0
  send : Nat := 0
  res : Nat := 0
  stream : Nat := 0
  deriving DecidableEq, Repr

/-- Cards' tables and the creel. -/
structure CreelSt where
  em : Tbl EmEntry := []
  rt : Tbl (Word × Word) := []
  cmd : Option TblCmd := none
  emResult : Nat := 0
  rtResult : Nat := 0
  emIndex : Nat := 0
  emHits : Nat := 0
  bobs : Tbl Bobbin := []
  use : Tbl ChUse := []
  low : Bool := false
  deriving DecidableEq, Repr

/-! ## Streams, drafting, breaches (chapter 5) -/

/-- STATE of a stream (Table 5.13). -/
inductive StrState where
  | closed | pending | live | closing
  deriving DecidableEq, Repr

/-- One release of a transmit stream that is not yet settled (R181). `left` is the lateness in ns once the frame's end is
known; `gone` is set when the bobbin left without an end of frame, or never existed. `inBreach` says that it was made while the
breach of its channel was in force; `ch` is that channel, and `old` marks a release of an earlier life of its stream number. `shadow` is the frame the release
carries, which a member that does not act compares with the wire (R462); `byWire` marks a release that this member judges
by a frame another member sends (R454). -/
structure Rel where
  id : Nat
  ch : Nat
  old : Bool
  at_ : BitVec 64
  due : BitVec 64
  inBreach : Bool
  cov : Bool
  past : Bool
  late : Option Int
  gone : Bool
  errTime : Option (BitVec 64)
  sofT : BitVec 64
  eofT : BitVec 64
  status : Nat
  desc : Option Desc
  byWire : Bool
  shadow : Option Frame
  compared : Bool
  deriving DecidableEq, Repr

/-- A stream (Table 5.13) with the release scheduler's and the value slot's state. `turnMiss`, `turnLate` and `turnCh` are the
uncovered misses of the turn, their largest lateness and their channel (R182). `vFor` lists the value line reads started for
releases to come, none for one that was not issued. `held` is a sporadic STREAM_DATA that
waits for its acceptance; one that a relay entry made has no descriptor (R490). -/
structure Stream where
  cfg : OpenBody
  key : Word
  cNs : Nat
  rNs : Nat
  reserve : Nat
  q : Nat
  liveTurn : BitVec 48
  st : StrState
  toLive : Nat
  breach : Bool := false
  stale : Bool := false
  minSlack : Int := 0x7FFFFFFF
  releases : Nat := 0
  misses : Nat := 0
  uncovered : Nat := 0
  maxResp : Nat := 0
  valueLate : Nat := 0
  closeDesc : Option Desc := none
  closeSoon : Bool := false
  held : Option (Option Desc × DataBody) := none
  heldAt : Nat := 0
  lastAcc : Option Nat := none
  payload : List Byte := []
  image : List Byte := []
  vline : List Byte := []
  vSeq : Nat := 0
  vFor : List (Option Nat) := []
  vPre : List ((Port × Fin 128 × Word) × Option Nat) := []
  vDone : Nat := 0
  vFlight : List (Nat × Nat) := []
  relIn : Option Nat := none
  relDone : Bool := false
  nextRel : Nat := 0
  fresh : Nat := 0
  exhausted : Bool := false
  hb : Option Nat := none
  rels : List Rel := []
  used : Nat := 0
  turnMiss : Nat := 0
  turnLate : Int := 0
  turnCh : Nat := 0
  slot : List (BitVec 64 × List Byte) := []
  snapEof : Option (BitVec 64) := none
  snap : List Byte := []
  age : Nat := 65535
  deriving DecidableEq, Repr

/-- A foreign declaration (Table 5.14). `toLive` counts boundaries until an addition applies, `leaving` marks a
withdrawal that has completed and not yet applied. -/
structure Foreign where
  cfg : ForeignBody
  key : Word
  rNs : Nat
  overdrafts : Nat
  toLive : Nat
  leaving : Bool
  tat : Option Int
  deriving DecidableEq, Repr

/-- Where a request for a draft came from: a descriptor of this device, a ply-wide descriptor accepted on another member
(R468), or an entry of a section of the configuration image (R168). -/
inductive Origin where
  | host (d : Desc)
  | ply
  | image (section_ entry : Nat)
  deriving DecidableEq, Repr

/-- A request waiting for, or in, its draft, and a STREAM_CLOSE that waits behind one (R160). -/
inductive DraftReq where
  | open_ (o : Origin) (b : OpenBody)
  | close (o : Origin) (n : Nat)
  | foreign (o : Origin) (b : ForeignBody)
  deriving DecidableEq, Repr

/-- A channel's breach (R177 to R179). -/
structure Breach where
  on : Bool := false
  causes : List Nat := []
  keyFrom : Word := 0xFFFFFFFF
  clear : Nat := 0
  covered : Nat := 0
  deriving DecidableEq, Repr

/-- Drafting engine and stream table. -/
structure DraftSt where
  streams : Tbl Stream := []
  foreign : Tbl Foreign := []
  queue : List DraftReq := []
  startAt : Nat := 0
  breach : Tbl Breach := []
  noActor : Bool := false
  quarFeeds : List Nat := []
  uncovTurn : Nat := 0
  uncovPrev : Nat := 0
  deriving DecidableEq, Repr

/-! ## Segment feeds (chapter 9) -/

/-- FD_Fn_STATUS.STATE (Table 9.2). -/
inductive FeedMode where
  | disabled | wait | ramp | qualify | on | held | cooling | latched
  deriving DecidableEq, Repr

/-- What drives the pass gate: nothing, in RAMP the slew limit or the power limit (R288), or it is fully driven. -/
inductive PassDrive where
  | off | slew | power | full
  deriving DecidableEq, Repr

/-- Gate of an ORing FET (R280, R281): pulled down, regulated to a drop of 25 mV, or fully driven. -/
inductive OrGate where
  | off | regulated | full
  deriving DecidableEq, Repr

/-- A feed on the field die: Table 9.2 with what supervision counts. Times are of the interval clock; `acc` is the trip
integrator, `eFrac` the part of the energy below 1 µJ in 10^−5 µJ, `metAt` the instant and the row of the latest event of rows
1 to 7 of Table 9.8, `tickOut` V_OUT at the latest supervision tick. -/
structure Feed where
  st : FeedMode := .disabled
  pg : Bool := false
  aOk : Bool := false
  bOk : Bool := false
  drive : PassDrive := .off
  ftimer : Bool := false
  aGate : OrGate := .off
  bGate : OrGate := .off
  eWrap : Bool := false
  cause : Nat := 0
  retries : Nat := 0
  meas : FeedMeas := {}
  pub : FeedMeas := {}
  energy : BitVec 64 := 0
  eFrac : Nat := 0
  acc : Rat := 0
  onTime : Nat := 0
  rampAt : Nat := 0
  coolEnd : Nat := 0
  offSince : Nat := 0
  hold : Bool := false
  cycleEnd : Option Nat := none
  quar : Bool := false
  aSince : Option Nat := none
  bSince : Option Nat := none
  aQual : Bool := false
  bQual : Bool := false
  outRun : Nat := 0
  overA : Nat := 0
  overB : Nat := 0
  shortRun : Nat := 0
  qTicks : Nat := 0
  pgSince : Nat := 0
  chargeSince : Option Nat := none
  metAt : Option (Nat × Nat) := none
  tickOut : Nat := 0
  deriving DecidableEq, Repr

/-- Feeds, and the configuration in force on the field die, which follows a commit (R309). -/
structure FieldSt where
  cfg : Tbl Word := []
  feeds : Tbl Feed := []
  deriving DecidableEq, Repr

/-! ## Line watch (chapter 6) -/

/-- A node signature (R193): mean and mean deviation of DOM_MV, REC_MV, CM_MV, RISE, FALL and RING_MV, with the trend
sums of the interval, the stored history and the baseline (R203). -/
structure Signature where
  n : Nat := 0
  mu : List Rat := []
  dev : List Rat := []
  sum : List Rat := [0, 0]
  cnt : Nat := 0
  hist : List (Rat × Rat) := []
  base : Option (Rat × Rat) := none
  mean : Option (Rat × Rat) := none
  every : Nat := 0
  blames : List Nat := []
  deriving DecidableEq, Repr

/-- A capture (R196): its sample pairs, and boundaries since it was filled. -/
structure Capture where
  pairs : List TapPair := []
  age : Nat := 2
  order : Nat := 0
  deriving DecidableEq, Repr

/-- An error flag whose capture waits for its attribution (R197, R199), with the samples of that capture. -/
structure Blame where
  time : BitVec 64
  turn : BitVec 48
  key : Option Word
  expect : Nat
  cap : Nat
  pairs : List TapPair
  deriving DecidableEq, Repr

/-- A quarantine request (R206): feed, ACTION, OFF_MS, boundaries left. -/
structure QuarReq where
  feed : Nat
  action : Bool
  offMs : Nat
  left : Nat
  node : Nat
  deriving DecidableEq, Repr

/-- A quarantine of a feed (R207, R208); `restart` is when a CYCLE restarts it. -/
structure Quar where
  feed : Nat
  action : Bool
  restart : Nat
  restarted : Bool
  deriving DecidableEq, Repr

/-- The trigger of a LINE_CAPTURE: when it occurred, and the key of the frame concerned. -/
structure Trig where
  time : BitVec 64
  turn : BitVec 48
  key : Word
  deriving DecidableEq, Repr

/-- A LINE_CAPTURE (R213): `left` counts boundaries to its timeout, `hit` is its trigger once it has occurred. -/
structure Armed where
  desc : Desc
  body : CaptureBody
  left : Nat
  hit : Option Trig
  deriving DecidableEq, Repr

/-- Line watch of a channel. `rEst` is R_EST in 0.1 Ω and `estimated` tells that a frame has given one; `shortAt` is the local
time of the last evaluation of R202. `reqs` are the quarantine requests pending, `quars` the quarantines it started, one for a feed,
oldest first. -/
structure LineCh where
  sig : Tbl Signature := []
  rEst : Int := 0
  estimated : Bool := false
  termLow : Bool := false
  termHigh : Bool := false
  short : List Bool := [false, false, false, false]
  badRun : List Nat := [0, 0, 0, 0]
  okRun : List Nat := [0, 0, 0, 0]
  shortAt : Option Nat := none
  trendMap : Word := 0
  trendTurns : Nat := 0
  conflict : Word := 0
  healthTurns : Nat := 0
  caps : Tbl Capture := []
  capCount : Nat := 0
  blames : List Blame := []
  errs : Nat := 0
  reqs : List QuarReq := []
  quars : List Quar := []
  armed : Option Armed := none
  deriving DecidableEq, Repr

/-! ## Faults and the field bridge (chapter 16) -/

/-- SL_STATUS.FIELD_STATE. -/
inductive FieldState where
  | normal | retrying | inReset
  deriving DecidableEq, Repr

/-- What crosses the field bridge on the register path and must be acknowledged (R503). -/
inductive XferKind where
  | posted | commit | strobe | output (n : Nat)
  deriving DecidableEq, Repr

/-- A transfer not yet acknowledged: when it was last sent, and how often it was sent again. -/
structure Xfer where
  kind : XferKind
  at_ : Nat
  tries : Nat := 0
  deriving DecidableEq, Repr

/-- A posted transfer to the field die: its sequence number and the register write it carries. -/
structure Posted where
  seq : BitVec 16
  off : Nat
  data : Word
  deriving DecidableEq, Repr

/-- Field bridge and SAFE. `xfers` are the transfers not yet acknowledged, `upAt` is when the last field-die reset ended. -/
structure FaultSt where
  safeCause : Nat := 0
  field : FieldState := .normal
  attempts : Nat := 0
  resetAt : Nat := 0
  holdDone : Bool := false
  xfers : List Xfer := []
  upAt : Nat := 0
  seq : BitVec 16 := 0
  posted : Option Posted := none
  lost : List (BitVec 16) := []
  lostFirst : BitVec 16 := 0xFFFF
  lostLast : BitVec 16 := 0xFFFF
  deriving DecidableEq, Repr

/-! ## Key store (chapter 18) -/

/-- A KEY_LOAD accepted and running (R540): the key that its completion will store. -/
structure KeyLoad where
  desc : Desc
  slot : Nat
  key : BitVec 128
  deriving DecidableEq, Repr

/-- Key store. `posted` is a KS_ write not yet taken (KS_BUSY); a slot not listed in `slots` is empty; `lockPend` holds
lock bits written while a load into their slot runs (R541). -/
structure KeySt where
  posted : Option (Nat × Word) := none
  slots : Tbl (BitVec 128) := []
  base : Tbl Nat := []
  loads : List KeyLoad := []
  lockPend : List (Nat × Word) := []
  lastSlot : Nat := 0
  lastResult : Nat := 0
  deriving DecidableEq, Repr

/-! ## Cascade (chapter 15) -/

/-- States of a Wilist link (Table 15.2). -/
inductive LinkState where
  | down | training | up | incompatible | failed
  deriving DecidableEq, Repr

/-- A MGMT cell waiting for its acknowledgement (R482). -/
structure MgmtOut where
  seq : Nat
  body : MgmtBody
  sent : Bool := false
  deriving DecidableEq, Repr

/-- One Wilist link. `leftUp` is the clock when it left UP, `lastCell` that of the last valid cell, `trained` what the last TRAIN
cell without error said and `trainRun` how many have come in a row on its pair (R478). -/
structure LinkSt where
  st : LinkState := .down
  reason : Nat := 0
  lanes : Nat := 0
  ver : Nat := 0
  peerPos : Nat := 0
  peerMember : Nat := 0
  peerPly : Bool := false
  peerActing : Bool := false
  trained : Option TrainInfo := none
  trainRun : Nat := 0
  rtt : Word := 0
  lastCell : Nat := 0
  leftUp : Option Nat := none
  lastTx : BitVec 64 := 0
  lastRx : BitVec 64 := 0
  ackIn : Nat := 0
  seqOut : Nat := 0
  mgmt : List MgmtOut := []
  deriving DecidableEq, Repr

/-- Version record of a node that announced itself (R494). -/
structure BVer where
  ver : Nat := 0
  lo : Nat := 0
  hi : Nat := 0
  deriving DecidableEq, Repr

/-- Cascade and Wilist. A relay entry is three words, DATA0 to DATA2; a relay queue holds bobbins in order of arrival;
`relPart` is the first cell of a two-cell relayed frame. -/
structure CascSt where
  rlyShadow : Tbl (List Word) := []
  rlyLive : Tbl (List Word) := []
  links : Tbl LinkSt := []
  upLink : Nat := 0
  hopUs : Nat := 0
  gapUs : Nat := 0
  queue : List (Nat × Nat) := []
  relPart : Tbl (Frame × FrameTag) := []
  bver : Tbl BVer := []
  deriving DecidableEq, Repr

/-! ## Ply (chapter 14) -/

/-- Roles of Table 14.1. -/
inductive PlyRole where
  | out | joining | standby | acting | demoted
  deriving DecidableEq, Repr

/-- A member's agreement set: value and stale flag of every agreed tap, and its COMP flags. -/
structure AgreeSet where
  taps : List (Word × Bool) := []
  comps : List Bool := []
  deriving DecidableEq, Repr

/-- What a member knows of a member of its ply. `link` and `bus` are the heartbeats heard in the turn in progress on the
two paths; `last` is the last one heard, `lease` the lease end in the last one it sent as the holder. -/
structure PlyMem where
  link : Option Beat := none
  bus : Option Beat := none
  prevLink : Bool := false
  prevBus : Bool := false
  inView : Bool := false
  heardRun : Nat := 0
  silent : Nat := 0
  last : Option Beat := none
  lease : Option (BitVec 16) := none
  demoted : Bool := false
  dev : Nat := 0
  badRun : Nat := 0
  oneRun : Nat := 0
  twoRun : Nat := 0
  degraded : Bool := false
  crc : Word := 0
  syncNext : Nat := 0
  syncDone : Nat := 0
  agreePart : AgreeSet := {}
  agree : Option AgreeSet := none
  outPart : List SinkVal := []
  outs : Option (List SinkVal) := none
  deriving DecidableEq, Repr

/-- A ply-wide descriptor: the turn in which the acting member accepted it, its descriptor on that member, and what it
asks for. -/
structure PlyDesc where
  turn : BitVec 48
  desc : Option Desc
  act : PlyAct
  sent : Bool
  deriving DecidableEq, Repr

/-- Ply block. `stopAs` is the role that an acting member takes after the turn in whose heartbeat it sends RELEASING. -/
structure PlySt where
  role : PlyRole := .out
  holder : Nat := 3
  mems : Tbl PlyMem := []
  leaseEnd : BitVec 48 := 0
  vote : Nat := 3
  stopAs : Option PlyRole := none
  releasing : Bool := false
  epoch : Word := 0
  beat : Option Beat := none
  shadowNow : Bool := false
  shadowPrev : Bool := false
  orphan : Nat := 0
  lapsed : Bool := false
  hadActor : Bool := false
  switchTo : Option Nat := none
  force : Option Desc := none
  descs : List PlyDesc := []
  agreed : Tbl (Word × Bool) := []
  agreedComp : List Bool := []
  tripOut : Nat := 15
  tripIn : Nat := 0
  differ : Nat := 0
  differRun : List Nat := [0, 0, 0, 0]
  install : List LoopImage := []
  installed : List Nat := []
  syncFails : Nat := 0
  syncTurns : Nat := 0
  agreeRun : Nat := 0
  syncNext : Nat := 0
  lastHolder : Nat := 3
  sentAgree : Bool := false
  sentOuts : Bool := false
  sentSync : Bool := false
  deriving DecidableEq, Repr

/-! ## Twist engine (chapter 7) -/

/-- Loop modes (Table 7.6). -/
inductive LoopMd where
  | off | auto | manual | fallback
  deriving DecidableEq, Repr

/-- A twist slot (R225): the bobbin held since the last capture point, end of frame and frame of the newest unpoisoned one that
it replaced, the snapshot's frame and its age. -/
structure TwistSlot where
  held : Option Nat := none
  prior : Option (BitVec 64 × Frame) := none
  snap : Option Frame := none
  age : Nat := 65535
  deriving DecidableEq, Repr

/-- What a stage keeps from one evaluation to the next (R231): whether it has history, y and a of the previous evaluation,
I, D and b of a PID stage, count and latch of TRIP_CMP, and its saturation flags. -/
structure StageSt where
  has : Bool := false
  y : Word := 0
  a : Word := 0
  i : Word := 0
  d : Word := 0
  b : Word := 0
  cnt : Nat := 0
  latch : Bool := false
  hi : Bool := false
  lo : Bool := false
  deriving DecidableEq, Repr

/-- A sink: the value it last published, its saturation flags (R235, R237), and whether this device's own value votes trip
(R455). -/
structure SinkSt where
  pub : Option Word := none
  vote : Bool := false
  hi : Bool := false
  lo : Bool := false
  deriving DecidableEq, Repr

/-- The result of an evaluation that has completed and is not published yet: the stages as they will stand, each stage's
value and stale flag, and whether a result was replaced (R233). -/
structure LoopEval where
  stages : Tbl StageSt
  vals : List (Word × Bool)
  replaced : Nat
  deriving DecidableEq, Repr

/-- A loop (Tables 7.6, TW_LSTk). `due` says that it is due in this turn; `dead` that an SRAM fault took its
evaluation away (R435); `taps` holds the last quantity read by each tap; the counts are those of R243, R245, R248 and R461. -/
structure Loop where
  mode : LoopMd := .off
  man : Word := 0
  cause : Nat := 0
  out : Word := 0
  outStale : Bool := true
  stale : Bool := false
  replaced : Bool := false
  ovrRun : Nat := 0
  staleRun : Nat := 0
  freshRun : Nat := 0
  noMaj : Nat := 0
  stages : Tbl StageSt := []
  sinks : Tbl SinkSt := []
  taps : Tbl Word := []
  due : Bool := false
  dead : Bool := false
  eval : Option LoopEval := none
  deriving DecidableEq, Repr

/-- The twist engine. `lanes` are the lanes in service, `spare` the lane that may enter; `leaving` leaves at the next
boundary when the spare enters; `joining` is the spare that enters then. `cmds` are LOOP_MODE and LOOP_PARAM descriptors
accepted and waiting for their boundary (R241). -/
structure TwistSt where
  slots : Tbl TwistSlot := []
  loops : Tbl Loop := []
  lanes : List Nat := [0, 1, 2, 3]
  spare : Option Nat := some 4
  leaving : Option Nat := none
  joining : Option Nat := none
  over_ : Bool := false
  need : Nat := 0
  win : Nat := 0
  cyc : Nat := 0
  lastCyc : Nat := 0
  abandoned : Bool := false
  lastAbandoned : Bool := false
  refLoop : Nat := 0
  refReason : Nat := 0
  refStage : Nat := 0
  feeds : Tbl FeedMeas := []
  feedMissing : Bool := false
  lines : Tbl (List Int) := []
  startAt : Nat := 0
  opened : Bool := false
  running : Tbl Nat := []
  cmds : List (Desc × PlyAct) := []
  deriving DecidableEq, Repr

/-! ## Loop I/O (chapter 8) -/

/-- A loop input: reading, class, the clock at which its limiter opened, and whether its test is due 20 µs after a
conversion (R254 to R260). -/
structure LoopIn where
  reading : Word := 0
  cls : Nat := 0
  openAt : Option Nat := none
  test : Bool := false
  missing : Bool := false
  deriving DecidableEq, Repr

/-- An output as it stands at a capture point (R263, R265): the command in force while it drives, COMP, whether one half-driver
carries the command alone, and whether the command has been in force for SETTLE_US. -/
structure OutCap where
  cmd : Option Word := none
  comp : Bool := false
  single : Bool := false
  settled : Bool := false
  deriving DecidableEq, Repr

/-- A loop output (R261 to R274). `cmd` is the command in force with the clocks of its arrival and of its last change, `code` its
DAC code, `sent` the one sent at the release point and not arrived; `cap` is the output at the last capture point; `causes` are
the failure causes recorded, oldest first, and `failAct` what the output's latch makes it drive in failure (R271); `clearWait`
says that a CLEAR waits for the release point, `run` counts disagreeing comparisons, `latAt` is the instant of the latest latched
cause. -/
structure LoopOut where
  cmd : Option Word := none
  code : BitVec 16 := 0
  sent : Option (Option Word) := none
  cap : OutCap := {}
  cmdAt : Nat := 0
  changedAt : Nat := 0
  modeWait : Bool := false
  causes : List Nat := []
  comp : Bool := false
  compLatched : Bool := false
  halfA : Bool := false
  halfB : Bool := false
  runA : Nat := 0
  runB : Nat := 0
  single : Bool := false
  above : Bool := false
  reverse : Bool := false
  run : Nat := 0
  rbv : Word := 0
  head : Nat := 0
  failed : Bool := false
  failAct : Nat := 1
  clearWait : Bool := false
  latAt : Option Nat := none
  deriving DecidableEq, Repr

/-- Loop inputs and outputs. `capAt` is the clock of the last capture point, `wait` says that its readings have not
arrived. -/
structure LioSt where
  ins : Tbl LoopIn := []
  outs : Tbl LoopOut := []
  vloop : Nat := 0
  vlow : Bool := false
  capAt : Nat := 0
  wait : Bool := false
  missing : Bool := false
  deriving DecidableEq, Repr

/-! ## Repair (chapter 17) -/

/-- A burn in progress: entry, data word, and whether the data word is written (R536). -/
structure Burn where
  entry : Nat
  data : Word
  half : Bool
  deriving DecidableEq, Repr

/-- A doff in progress (R526 to R531): channel, target, why (1 timeout, 2 RP_DOFF, 0 a fault of the spindle), and the
boundaries since it began. -/
structure Doff where
  ch : Nat
  target : Nat
  soft : Bool
  ready : Bool
  turns : Nat
  deriving DecidableEq, Repr

/-- A row retirement (R523 to R525): the row, its spare, and whether the copy has ended. -/
structure RowCopy where
  row : Nat
  spare : Nat
  copied : Bool
  deriving DecidableEq, Repr

/-- Repair. `fuses` lists entries that are not blank: valid or half-written, with the data word; `margins` the latest
margins with the thresholds reported; `rows` the spare rows taken with the row each serves, key macro × 8 + spare; `cols`
likewise. -/
structure RepairSt where
  fuses : Tbl (Bool × Word) := []
  queue : List Word := []
  burn : Option Burn := none
  burnNow : Bool := false
  margins : Tbl Nat := []
  warned : List Nat := []
  acted : List Nat := []
  result : Nat := 0
  soft : Nat := 0
  doff : Option Doff := none
  exhausted : List (Nat × Nat) := []
  rows : Tbl Nat := []
  cols : Tbl Nat := []
  rowQueue : List Nat := []
  copy : Option RowCopy := none
  deriving DecidableEq, Repr

/-! ## Boundary scan (chapter 19) -/

/-- Instruction of the TAP (R561). -/
inductive TapInstr where
  | idcode | sample | bypass
  deriving DecidableEq, Repr

/-! ## Device state (chapter 20) -/

/-- Device states of chapter 20. -/
inductive DevState where
  | off | reset | selfTest | setUp | run | safe
  deriving DecidableEq, Repr

/-- What an accepted image has left once its registers, tables and commit are in (R575): the CRC reference, and the
entries of its LOCKS sections with section and entry number. -/
structure BootLeft where
  crcRef : Word
  locks : List (Nat × Nat × Word × Word)
  deriving DecidableEq, Repr

/-- Device state machine, supplies, straps and boot loader (chapter 20). `supplies` has one bit for each required supply
of R562 (VDD_CORE, VDD_PHY, VDD_PHYH, VDD_IO, VDD_33, VFA, VFH, bit 0 to 6); `magic` says that the flash holds the image
magic. -/
structure DevSt where
  st : DevState := .selfTest
  runPend : Bool := false
  supplies : Nat := 127
  rstN : Bool := true
  plyId : Nat := 3
  pos : Nat := 0
  ownPrio : Bool := false
  phase : Nat := 0
  result : Nat := 0
  cause : Nat := 0
  refused : Nat := 0
  errSection : Nat := 0xFF
  errEntry : Nat := 0
  build : Word := 0
  autoRun : Bool := false
  forceRun : Bool := false
  magic : Bool := false
  boot : Option BootLeft := none
  tap : TapInstr := .idcode
  scan : Option Nat := none
  deriving DecidableEq, Repr

/-- The whole state. `now` is the time base, `frac` the part of a nanosecond it has run beyond that count, `clock` the
nanoseconds of the reference, which neither a load nor the correction moves. -/
structure State where
  pending : List Instr := []
  now : BitVec 64 := 0
  frac : Rat := 0
  clock : Nat := 0
  free : Nat := 0
  dev : DevSt := {}
  tm : TurnSt := {}
  regs : RegSt := {}
  locks : Tbl Word := []
  rep : Rep := {}
  fences : List FenceSt := []
  holds : List HeldDesc := []
  ow : OwnSt := {}
  chs : Tbl Channel := []
  chSp : Tbl Nat := []
  sps : Tbl Spindle := []
  mm : MemSt := {}
  cr : CreelSt := {}
  dr : DraftSt := {}
  fa : FaultSt := {}
  fd : FieldSt := {}
  lw : Tbl LineCh := []
  ks : KeySt := {}
  cs : CascSt := {}
  pl : PlySt := {}
  tw : TwistSt := {}
  lio : LioSt := {}
  rp : RepairSt := {}
  deriving DecidableEq, Repr

/-- The machine right after it leaves RESET (R567, R42): every field at the value the spec states for reset; what the
spec leaves unstated is named in the log. -/
def State.reset : State := {}

end Sys2Proof.Machine
end

