-- ==== Sys2Proof/Machine/DescDecode.lean ====
section
/-!
DEFINITION. The layouts of the descriptors (Tables 5.14, 10.6, 10.8, 10.9, 18.1): from the sixteen 32-bit words of a
descriptor to its header, its body, and whether a reserved field is not 0 (R15, R334, R335).
-/

namespace Sys2Proof.Machine

/-- A word of a descriptor: `w` 0 stands at offset 0x00, 1 at 0x04, and so on to 15 at 0x3C. -/
def descWord (ws : List Word) (w : Nat) : Word := ws.getD w 0

/-- A 64-bit field that begins at a word. -/
def descWide (ws : List Word) (w : Nat) : BitVec 64 := descWord ws (w + 1) ++ descWord ws w

/-- Four bytes of a word, lowest first. -/
def wordBytes (x : Word) : List Byte :=
  [0, 8, 16, 24].map (fun i => BitVec.extractLsb' i 8 x)

/-- The bytes of the words from `w` to the end of the descriptor. -/
def descBytes (ws : List Word) (w : Nat) : List Byte :=
  (List.range (16 - w)).flatMap (fun i => wordBytes (descWord ws (w + i)))

/-- A field of a word as an index below a bound. -/
def finOf (n : Nat) (h : 0 < n) (x : Nat) : Fin n := ⟨x % n, Nat.mod_lt x h⟩

/-- OPCODE of a descriptor. -/
def descOp (ws : List Word) : Nat := fieldOf (descWord ws 0) 0 8

/-- INDIRECT of a SEND or a STREAM_DATA (Table 10.8). -/
def descIndirect (ws : List Word) : Bool :=
  if descOp ws = 1 then bitOf (descWord ws 3) 9 else if descOp ws = 4 then bitOf (descWord ws 2) 23 else false

/-- The reserved bits of word `w` of the body of an opcode (Tables 10.8, 10.9, 18.1): fields that a layout does not name
are reserved. -/
def descReserved (op : Nat) (indirect : Bool) (w : Nat) : Word :=
  let pay : Word := if indirect ∧ 6 ≤ w then 0xFFFFFFFF else 0
  if op = 1 then (if w = 3 then 0xFFFFFC00 else if w < 4 then 0 else pay)
  else if op = 2 then
    (if w = 2 ∨ w = 3 then 0xC0000000 else if w = 4 then 0x80 else if w = 8 then 0xFFFF0000
     else if w = 9 ∨ 12 ≤ w then 0xFFFFFFFF else 0)
  else if op = 3 then (if w = 2 then 0xFFFFF000 else 0xFFFFFFFF)
  else if op = 4 then (if w = 2 then 0xFF00F000 else if w = 3 then 0xFFFFFFFF else pay)
  else if op = 5 then
    (if w = 2 then 0xFFFEE000 else if w = 3 ∨ 9 ≤ w then 0xFFFFFFFF else if w = 4 then 0x80000000
     else if w = 5 then 0xF0E08080 else 0)
  else if op = 6 then (if w = 2 then 0xFF00F000 else if 8 ≤ w then 0xFFFFFFFF else 0)
  else if op = 7 then (if w = 2 then 0xFFFFFC00 else if w = 3 then 0 else 0xFFFFFFFF)
  else if op = 8 then (if w = 2 then 0x0000F0F8 else 0xFFFFFFFF)
  else if op = 9 then (if w = 2 then 0x0000FFC0 else if w ≤ 5 then 0 else 0xFFFFFFFF)
  else if op = 10 then (if w = 2 then 0xFFFFFC00 else if w ≤ 6 then 0 else 0xFFFFFFFF)
  else if op = 11 then
    (if w = 2 then 0 else if w = 3 then 0xFFFF0000 else if w = 4 then 0xFFFFFFFE else 0xFFFFFFFF)
  else if op = 12 then
    (if w = 2 then 0xFFFF00C0 else if w = 3 then 0xFFFFFFFF else if w ≤ 9 then 0 else 0xFFFFFFFF)
  else if op = 13 then (if w = 2 then 0xFFFFF0F0 else 0xFFFFFFFF)
  else 0xFFFFFFFF

/-- Is a reserved field of the descriptor not 0 (R15, R334)? -/
def descResv (ws : List Word) : Bool :=
  decide (descWord ws 0 &&& 0xFFFFFE00 ≠ 0) ||
  (List.range 14).any (fun i => decide (descWord ws (i + 2) &&& descReserved (descOp ws) (descIndirect ws) (i + 2) ≠ 0))

/-- SEND body; an indirect payload is given by the bytes read. -/
def sendOf (ws : List Word) (pay : List Byte) : SendBody :=
  let a := descWord ws 2
  let b := descWord ws 3
  { id := a.setWidth 29, ide := bitOf a 29, rtr := bitOf a 30, fdf := bitOf a 31, ch := finOf 16 (by decide) (fieldOf b 0 4),
    dlc := BitVec.ofNat 4 (fieldOf b 4 4), brs := bitOf b 8, indirect := bitOf b 9,
    payAddr := if bitOf b 9 then descWide ws 4 else 0, data := if bitOf b 9 then pay else descBytes ws 4 }

/-- STREAM_DATA body. -/
def dataOf (ws : List Word) (pay : List Byte) : DataBody :=
  let a := descWord ws 2
  { stream := finOf 4096 (by decide) (fieldOf a 0 12), len := BitVec.ofNat 7 (fieldOf a 16 7), indirect := bitOf a 23,
    payAddr := if bitOf a 23 then descWide ws 4 else 0, data := if bitOf a 23 then pay else descBytes ws 4 }

/-- STREAM_OPEN body. -/
def openOf (ws : List Word) : OpenBody :=
  let a := descWord ws 2
  let b := descWord ws 3
  let c := descWord ws 4
  { stream := finOf 4096 (by decide) (fieldOf a 0 12), ch := finOf 16 (by decide) (fieldOf a 12 4),
    format := BitVec.ofNat 2 (fieldOf a 16 2), kind := BitVec.ofNat 2 (fieldOf a 18 2),
    source := BitVec.ofNat 2 (fieldOf a 20 2), auth := bitOf a 22, vport := if bitOf a 23 then .b else .a,
    keySlot := BitVec.ofNat 6 (fieldOf a 24 6), id := b.setWidth 29, ide := bitOf b 29, len := BitVec.ofNat 7 (fieldOf c 0 7),
    vlead := BitVec.ofNat 8 (fieldOf c 8 8), period := BitVec.ofNat 16 (fieldOf c 16 16), offIa := descWord ws 5,
    deadline := descWord ws 6, jitter := descWord ws 7, stale := BitVec.ofNat 16 (fieldOf (descWord ws 8) 0 16),
    vaddr := descWide ws 10 }

/-- FOREIGN_DECLARE body: words 4 to 8 are bytes 0x00 to 0x13 of Table 5.14. -/
def foreignOf (ws : List Word) : ForeignBody :=
  let a := descWord ws 2
  let b := descWord ws 4
  let c := descWord ws 5
  { index := finOf 8192 (by decide) (fieldOf a 0 13), withdraw := bitOf a 16, id := b.setWidth 29, ide := bitOf b 29,
    rtr := bitOf b 30, ch := finOf 16 (by decide) (fieldOf c 0 4), format := BitVec.ofNat 2 (fieldOf c 4 2),
    sporadic := bitOf c 6, len := BitVec.ofNat 7 (fieldOf c 8 7), node := finOf 32 (by decide) (fieldOf c 16 5),
    feed := BitVec.ofNat 4 (fieldOf c 24 4), period := descWord ws 6, jitter := descWord ws 7, deadline := descWord ws 8 }

/-- The body of a descriptor by its opcode (Table 10.7). -/
def descBody (ws : List Word) (pay : List Byte) : DescBody :=
  let a := descWord ws 2
  match descOp ws with
  | 0 => .nop
  | 1 => .send (sendOf ws pay)
  | 2 => .open_ (openOf ws)
  | 3 => .close (finOf 4096 (by decide) (fieldOf a 0 12))
  | 4 => .data (dataOf ws pay)
  | 5 => .foreign (foreignOf ws)
  | 6 => .loopParam {
      loop := finOf 256 (by decide) (fieldOf a 0 8), stage := finOf 16 (by decide) (fieldOf a 8 4),
      expect := BitVec.ofNat 8 (fieldOf a 16 8), p0 := descWord ws 3, p1 := descWord ws 4, p2 := descWord ws 5,
      p3 := descWord ws 6, fb := descWord ws 7 }
  | 7 => .loopMode {
      loop := finOf 256 (by decide) (fieldOf a 0 8), mode := BitVec.ofNat 2 (fieldOf a 8 2), man := descWord ws 3 }
  | 8 => .feedCmd (fieldOf a 8 4) (finOf 8 (by decide) (fieldOf a 0 3)) (BitVec.ofNat 16 (fieldOf a 16 16))
  | 9 => .capture {
      ch := finOf 16 (by decide) (fieldOf a 0 4), trigger := BitVec.ofNat 2 (fieldOf a 4 2),
      timeout := BitVec.ofNat 16 (fieldOf a 16 16), key := descWord ws 3, addr := descWide ws 4 }
  | 10 => .plyCmd (fieldOf a 0 8) (finOf 4 (by decide) (fieldOf a 8 2))
  | 11 => .fence (BitVec.ofNat 48 (a.toNat + fieldOf (descWord ws 3) 0 16 * 2 ^ 32)) (bitOf (descWord ws 4) 0)
  | 12 => .keyLoad {
      slot := BitVec.ofNat 6 (fieldOf a 0 6), blobLen := BitVec.ofNat 8 (fieldOf a 8 8),
      c := descWide ws 6 ++ descWide ws 4, t := descWide ws 8 }
  | 13 => .chCmd (fieldOf a 8 4) (finOf 16 (by decide) (fieldOf a 0 4))
  | n => .bad n

/-- Header of a descriptor fetched from a place (Table 10.6). -/
def descHead (p : Port) (d : Fin 128) (index : Word) (ws : List Word) : Desc :=
  { port := p, distaff := d, index := index, cmpl := bitOf (descWord ws 0) 8, tag := descWord ws 1, resv := descResv ws }

end Sys2Proof.Machine
end

