-- ==== Sys2Proof/Config.lean ====
section
/-!
DEFINITION. What an implementation fixes and the spec leaves open. Every constant here has no body: nothing can
evaluate it, so a claim that mentions one holds for every value of it.
-/

namespace Sys2Proof.Config

/-- A value the spec leaves open; applied to a counter of the state that every use advances (log 2). -/
opaque freeNat : Nat → Nat

/-- Vendor ID of the configuration space and of ID_VENDOR (R313: "Farnadin's identifier"). -/
opaque vendorId : BitVec 16

/-- ID_DEVICE.GRADE, CORE_STEP and FIELD_STEP, and the serial number: values of the device (chapter 12). -/
opaque grade : BitVec 1
/-- Core die stepping. -/
opaque coreStep : BitVec 4
/-- Field die stepping. -/
opaque fieldStep : BitVec 4
/-- Device serial number. -/
opaque serial : BitVec 64
/-- Farnadin's JEDEC manufacturer code (R561). -/
opaque jedec : BitVec 11

/-- The device-unique key that wraps key blobs (R539). -/
opaque deviceKey : BitVec 128

/-- WH_SRCi.LEVEL: which sources are level-like (R377: "set by the source's owning block"). -/
opaque levelLike : Nat → Bool

/-- What a shown number is a figure of, where no rule says how it is rounded to its unit: times in ns (C_NS, R_NS, MIN_SLACK
and the like), DR_CHn_LOAD.UTIL, DUR of Table 4.5, the figures of line watch, a sample in mV, D_BEST and D_SECOND, CONF at half
way, P_MW, ACC and ONTIME_MS of a feed, TB_RATE.APPLIED_PPB, a DAC code half way. -/
inductive Figure where
  | ns | util | dur | line | sample | dist | conf | feed | ppb | dac
  deriving DecidableEq, Repr

/-- Is a value that is no whole number of its unit (a numerator and a denominator) shown rounded up? The spec states no rounding:
either whole number beside it may be shown (log 13). -/
opaque roundUp : Figure → Int → Nat → Bool

/-- CONF of an attribution where both distances are 0, so that Table 6.2 gives it no value. -/
opaque confTie : Nat
/-- D_SECOND of an attribution with no second signature, and a level of a capture that did not yield it. -/
opaque unmeasured : Nat → Int
/-- What a 16-bit figure of line watch shows of a value it cannot hold (R188, R200). -/
opaque misfit : Int → BitVec 16

/-- In RAMP, does the power limit allow less current than the slew limit where the segment is at both (R288)? Both allow the
current that flows; applied to the drop in mV and the current in mA. -/
opaque foldTie : Int → Int → Bool

/-- Field value that a STREAM_INT sink writes when y / SCALE is a NaN: SCALE has no limit but not 0.0, and no rule gives
the result. -/
opaque nanField : Word → Int
/-- Command of a LOOP_OUT sink when y × SCALE is a NaN. -/
opaque nanCommand : Word → Word

end Sys2Proof.Config
end

