-- ==== Sys2Proof/Machine/Report.lean ====
section
/-!
DEFINITION. The reporting plane as operations on `Rep`: counters (R410 to R412), whorl firings and request messages
(R367 to R379), skein entries (R316 to R318, R332, R344, R345), hanks (R552 to R557) and slubs (R496 to R501), which
wait for the end of their instant to be put in order. They
read the rest of the machine through `Ctx` and change nothing but `Rep`.
-/

namespace Sys2Proof

/-- Index of a port's table entry. -/
def Port.idx (p : Port) : Nat := match p with | .a => 0 | .b => 1

/-- The other port. -/
def Port.other (p : Port) : Port := match p with | .a => .b | .b => .a

end Sys2Proof

namespace Sys2Proof.Machine

/-- What the reporting plane reads of the rest of the machine. -/
structure Ctx where
  live : Tbl Word
  now : BitVec 64
  clock : Nat
  turn : BitVec 48
  st : DevState
  owner : Option Port

/-- Live word of the register at an offset. -/
def Ctx.reg (c : Ctx) (off : Nat) : Word := Tbl.lookD c.live off (resetAt off)

/-- Live field of a register. -/
def Ctx.fld (c : Ctx) (off lo w : Nat) : Nat := fieldOf (c.reg off) lo w

/-- A port's state. -/
def Rep.port (r : Rep) (p : Port) : PortSt := Tbl.lookD r.ports p.idx {}

/-- Replace a port's state. -/
def Rep.setPort (r : Rep) (p : Port) (v : PortSt) : Rep := { r with ports := Tbl.put r.ports p.idx {} v }

/-- Something leaves the device. -/
def Rep.emit (r : Rep) (o : Output) : Rep := { r with out := r.out ++ [o] }

/-! ## Counters -/

/-- The value at which a counter stops (R412). -/
def ctMax : Nat := 2 ^ 48 - 1

/-- Counter c. -/
def Rep.counter (r : Rep) (c : Nat) : Nat := Tbl.lookD r.ct c 0

/-- Add to a counter, saturating. The second component says that its bank saturated for the first time since it was
last cleared (R412). -/
def Rep.bump (r : Rep) (c n : Nat) : Rep × Bool :=
  let v := min ctMax (r.counter c + n)
  let r' := { r with ct := Tbl.put r.ct c 0 v }
  if v = ctMax ∧ r.satSeen.contains (c / 64) = false then
    ({ r' with satSeen := r.satSeen ++ [c / 64] }, true)
  else (r', false)

/-! ## Whorl -/

/-- WH_SRCi, live. -/
def Ctx.src (c : Ctx) (i : Nat) : Word := c.reg (0x5000 + 4 * i)

/-- PRIO of a source. -/
def Ctx.prio (c : Ctx) (i : Nat) : Nat := fieldOf (c.src i) 0 6

/-- Running priority of a port: the highest priority on its stack; none while the stack is empty (R372). -/
def PortSt.running (q : PortSt) : Option Nat :=
  q.stack.foldl (fun m e => match m with | none => some e.prio | some x => some (max x e.prio)) none

/-- The source of highest priority in state pending, the lower number among equals (R371). -/
def Ctx.bestOf (c : Ctx) (l : Tbl SrcState) : Option Nat :=
  l.foldl (fun m e =>
    match e.2 with
    | .pending =>
      match m with
      | none => some e.1
      | some b => if c.prio e.1 > c.prio b then some e.1 else some b
    | _ => m) none

/-- The highest source in state pending of a port. -/
def Ctx.best (c : Ctx) (q : PortSt) : Option Nat := c.bestOf q.src

/-- The source that a claim takes: one that a firing of its own cycle presented is not seen (R371, R375). -/
def Ctx.claimed (c : Ctx) (q : PortSt) : Option Nat :=
  c.bestOf (q.src.filter (fun e => !(decide (q.freshAt = c.clock) && q.fresh.contains e.1)))

/-- REQ of R374. -/
def Ctx.req (c : Ctx) (q : PortSt) : Bool :=
  match c.best q with
  | none => false
  | some b =>
    !q.hold && (match q.running with | none => true | some x => decide (c.prio b > x))

/-- May the port issue memory requests now (R314, R349)? -/
def PortSt.canWrite (q : PortSt) : Bool := q.linkUp && q.busMaster

/-- Send the request message when REQ is 1 and OUTSTANDING is 0 (R374); a masked vector holds it as pending. -/
def Rep.evalReq (r : Rep) (c : Ctx) (p : Port) : Rep :=
  let q := r.port p
  if c.req q && !q.outstanding && q.canWrite then
    if q.msixMask then r.setPort p { q with outstanding := true, msixPend := true }
    else (r.setPort p { q with outstanding := true }).emit (.msix p q.msixAddr q.msixData)
  else r

/-- The state a firing gives an enabled source; `none` when the firing is merged (R369). -/
def SrcState.fired : SrcState → Option SrcState
  | .inactive => some .pending
  | .active => some .activePending
  | _ => none

/-- Counter base of the whorl, port p (Table 19.3, bank 83). -/
def whCounter (p : Port) (i : Nat) : Nat := 5312 + 32 * p.idx + i

/-- WH_SRCi under which a firing of this instant acts: as it was before a commit of the instant (R375). -/
def Rep.srcReg (r : Rep) (c : Ctx) (i : Nat) : Word :=
  match r.whOld with
  | none => c.src i
  | some t => Tbl.lookD t (0x5000 + 4 * i) (resetAt (0x5000 + 4 * i))

/-- REQ and OUTSTANDING are evaluated at the end of the instant (R375). -/
def Rep.askReq (r : Rep) : Rep := { r with whDue := true }

/-- A port's view of a source after a firing of this instant that presents it. -/
def PortSt.present (q : PortSt) (clock i : Nat) (x : SrcState) : PortSt :=
  { q with
    src := Tbl.put q.src i .inactive x
    fresh := if q.freshAt = clock then q.fresh ++ [i] else [i], freshAt := clock }

/-- A source fires (R369): it acts in each port that its TGT names. The first argument bounds the chain of 0x05E
firings that saturating whorl counters may start; the chain has at most three links. -/
def Rep.fireN : Nat → Ctx → Rep → Nat → Rep
  | 0, _, r, _ => r
  | n + 1, c, r, i =>
    let w := r.srcReg c i
    let one := fun (r : Rep) (p : Port) =>
      let q := r.port p
      if bitOf w 12 then
        match (Tbl.lookD q.src i .inactive).fired with
        | some x => (r.setPort p (q.present c.clock i x)).askReq
        | none =>
          let b := r.bump (whCounter p 0) 1
          if b.2 then Rep.fireN n c b.1 0x05E else b.1
      else
        let b := r.bump (whCounter p 1) 1
        if b.2 then Rep.fireN n c b.1 0x05E else b.1
    if i < 0x3F0 then
      let r1 := if bitOf w 8 then one r .a else r
      if bitOf w 9 then one r1 .b else r1
    else r

/-- A source fires. -/
def Rep.fire (r : Rep) (c : Ctx) (i : Nat) : Rep := Rep.fireN 4 c r i

/-- Count: add n to counter i; the first saturation of its bank raises 0x05E (R412). -/
def Rep.count (r : Rep) (c : Ctx) (i n : Nat) : Rep :=
  let b := r.bump i n
  if b.2 then b.1.fire c 0x05E else b.1

/-- A source raised at most once in a turn; `tag` is the flag the next boundary clears. -/
def Rep.fireOnce (r : Rep) (c : Ctx) (tag i : Nat) : Rep :=
  if r.first.contains tag then r else ({ r with first := r.first ++ [tag] }).fire c i

/-! ## Skeins -/

/-- A ring of a port. -/
def PortSt.dsr (q : PortSt) (d : Nat) : Ring := Tbl.lookD q.ds d {}
/-- A skein of a port. -/
def PortSt.skn (q : PortSt) (k : Nat) : Ring := Tbl.lookD q.sk k {}
/-- Replace a distaff of a port. -/
def Rep.setDs (r : Rep) (p : Port) (d : Nat) (v : Ring) : Rep :=
  r.setPort p { r.port p with ds := Tbl.put (r.port p).ds d {} v }
/-- Replace a skein of a port. -/
def Rep.setSk (r : Rep) (p : Port) (k : Nat) (v : Ring) : Rep :=
  r.setPort p { r.port p with sk := Tbl.put (r.port p).sk k {} v }

/-- Entries a ring holds: producer minus consumer, modulo 2^32 (R317), for a skein. -/
def Ring.used (g : Ring) : Nat := (g.own - g.peer).toNat

/-- A ring that Molwegon may serve: the port enabled and able to issue requests, the ring RUNNING. -/
def PortSt.serves (q : PortSt) (g : Ring) : Bool :=
  q.portEn && q.canWrite && g.en && decide (g.st = .running)

/-- Unreserved space of a skein (R332). -/
def Ring.free (g : Ring) : Nat := 2 ^ g.log2 - g.used - g.reserved

/-- DSTATE of the status page (Table 10.5). -/
def DevState.dstate : DevState → Nat
  | .setUp => 1
  | .run => 2
  | .safe => 3
  | _ => 0

/-- Numbers of the rings of a table that are STALLED. -/
def stalledOf (t : Tbl Ring) : List Nat := (t.filter (fun e => decide (e.2.st = .stalled))).map (·.1)

/-- Where the entry of an index lies in its ring: slots of `size` bytes (R316). -/
def Ring.slotAddr (g : Ring) (i : Word) (size : Nat) : BitVec 64 := g.base + BitVec.ofNat 64 (i.toNat % 2 ^ g.log2 * size)

/-- Where DS_CONS of a distaff lies in the status page (Table 10.5). -/
def PortSt.consAddr (q : PortSt) (d : Nat) : BitVec 64 := q.stAddr + BitVec.ofNat 64 (0x40 + 4 * d)
/-- Where SK_PROD of a skein lies in the status page. -/
def PortSt.prodAddr (q : PortSt) (k : Nat) : BitVec 64 := q.stAddr + BitVec.ofNat 64 (0x240 + 4 * k)

/-- The status page header of a port (R330). It is written only in SET-UP, RUN and SAFE (DSTATE 0 is never written). -/
def Rep.writeHeader (r : Rep) (c : Ctx) (p : Port) : Rep :=
  let q := r.port p
  if q.portEn && q.canWrite && decide (c.st.dstate ≠ 0) then
    r.emit (.header p q.stAddr {
      turn := c.turn, time := c.now, dstate := c.st.dstate,
      owner := decide (c.owner = some p), owned := c.owner.isSome, fmt := q.ringFmt,
      dsStalled := stalledOf q.ds, skStalled := stalledOf q.sk })
  else r

/-- PHASE of a skein entry: 1 XOR bit N of its index (R318). -/
def phaseOf (log2 : Nat) (i : Word) : Bool := !(i.getLsbD log2)

/-- Raise a skein's NOTIFY source under its COALESCE interval (R323). -/
def Rep.notify (r : Rep) (c : Ctx) (p : Port) (k : Nat) : Rep :=
  let g := (r.port p).skn k
  if g.notify = 0 then r
  else if (match g.lastNotify with | none => true | some t => decide (t + g.coal * 1000 ≤ c.clock)) then
    (r.setSk p k { g with lastNotify := some c.clock, deferred := false }).fire c g.notify
  else r.setSk p k { g with deferred := true }

/-- Write one entry at a skein's index and its index after it (R318, R330, R344). -/
def Rep.writeEntry (r : Rep) (c : Ctx) (p : Port) (k : Nat) (body : EntryBody) : Rep :=
  let g := (r.port p).skn k
  let hdr : EntryHdr := {
    phase := phaseOf g.log2 g.own, lost := decide (g.lost > 0), lostCount := min g.lost 65535, wtime := c.now }
  let r1 := (r.setSk p k { g with own := g.own + 1, lost := 0 }).emit (.entry p k g.own (g.slotAddr g.own 128) hdr body)
  ((r1.emit (.skProd p k (g.own + 1) ((r.port p).prodAddr k))).writeHeader c p).notify c p k

/-- An entry that is no completion (R345): written into unreserved space, else dropped, counted and remembered as lost.
The second component says whether it was written. -/
def Rep.entry (r : Rep) (c : Ctx) (p : Port) (k : Nat) (body : EntryBody) : Rep × Bool :=
  let q := r.port p
  let g := q.skn k
  if q.serves g && decide (g.free > 0) then (r.writeEntry c p k body, true)
  else ((r.setSk p k { g with lost := g.lost + 1 }).count c (5184 + 64 * p.idx + 2) 1, false)

/-- A completion (R332, R347, R349): written into its reserved entry; it waits while its skein is not RUNNING or is
full, and is discarded and counted while the port can write nothing. -/
def Rep.complete (r : Rep) (c : Ctx) (p : Port) (k : Nat) (body : EntryBody) : Rep :=
  let q := r.port p
  let g := q.skn k
  let g1 := { g with reserved := g.reserved - 1 }
  if !q.canWrite then (r.setSk p k g1).count c (5184 + 64 * p.idx + 5) 1
  else if q.serves g && decide (g.used < 2 ^ g.log2) then (r.setSk p k g1).writeEntry c p k body
  else r.setSk p k { g with waiting := g.waiting ++ [body] }

/-- Write waiting completions of a skein while it has room; each gives its reserved entry back. -/
def Rep.flushWaiting : Nat → Ctx → Rep → Port → Nat → Rep
  | 0, _, r, _, _ => r
  | n + 1, c, r, p, k =>
    let q := r.port p
    let g := q.skn k
    match g.waiting with
    | [] => r
    | b :: bs =>
      if q.serves g && decide (g.used < 2 ^ g.log2) then
        Rep.flushWaiting n c
          ((r.setSk p k { g with waiting := bs, reserved := g.reserved - 1 }).writeEntry c p k b) p k
      else r

/-! ## Hanks and slubs -/

/-- Is a hank KIND enabled in HK_SEL.KINDS (Table 19.2)? -/
def Ctx.hankOn (c : Ctx) (kind : Nat) : Bool :=
  if kind = 1 ∨ kind = 8 then decide (c.fld 0x110004 1 6 ≠ 0) else bitOf (c.reg 0x110004) (kind - 1)

/-- A hank enters the queue of 512 (R554). After drops a LOST hank precedes it. The second component says that this was
the first drop of the turn. -/
def Rep.pushHank (r : Rep) (c : Ctx) (kind sub aux : Nat) (body : BitVec 64) : Rep × Bool :=
  let mk := fun (kind sub aux : Nat) (body : BitVec 64) (n : Word) =>
    ({ kind := kind, sub := sub, seq := n.toNat % 256, aux := aux, time := c.now.setWidth 32, body := body } : Hank)
  if r.hanks.length < 512 then
    if r.hkDropped > 0 then
      if r.hanks.length + 1 < 512 then
        ({ r with hanks := r.hanks ++ [mk 8 0 (min r.hkDropped 65535) 0 (r.hkTotal + 1),
                                       mk kind sub aux body (r.hkTotal + 2)],
                  hkTotal := r.hkTotal + 2, hkDropped := 0 }, false)
      else
        let b := ({ r with hkDropped := r.hkDropped + 1, hkTurnDrops := r.hkTurnDrops + 1,
                           hkTotal := r.hkTotal + 1 }).count c 5840 1
        (b, decide (r.hkTurnDrops = 0))
    else
      ({ r with hanks := r.hanks ++ [mk kind sub aux body (r.hkTotal + 1)], hkTotal := r.hkTotal + 1 }, false)
  else
    let b := ({ r with hkDropped := r.hkDropped + 1, hkTurnDrops := r.hkTurnDrops + 1,
                       hkTotal := r.hkTotal + 1 }).count c 5840 1
    (b, decide (r.hkTurnDrops = 0))

/-- Severity of a slub by its code (Table 16.4); D2 gives the feed cause of 0x0802. -/
def slubSev (code : Nat) (d2 : Word) : Nat :=
  if code = 0x0002 ∨ code = 0x0B02 then 4
  else if code % 256 = 1 then 2
  else if 0x0210 ≤ code ∧ code ≤ 0x021F then
    (if code = 0x210 ∨ code = 0x215 ∨ code = 0x218 ∨ code = 0x219 ∨ code = 0x21A then 3
     else if code = 0x211 ∨ code = 0x216 ∨ code = 0x217 then 2 else 1)
  else if code = 0x0802 then
    (if d2 = 7 ∨ d2 = 8 ∨ d2 = 9 then 2 else if d2 = 10 then 1 else 3)
  else if [0x0102, 0x0302, 0x0402, 0x0605, 0x0702, 0x0703, 0x0903, 0x0A03, 0x0A04, 0x0A05, 0x0E03, 0x0F06, 0x0F08,
      0x1102, 0x1202, 0x1205].contains code then 2
  else if [0x0003, 0x0221, 0x0A02, 0x0F02, 0x0F03, 0x0F04, 0x0F05, 0x0F07].contains code then 1
  else 3

/-- Deliver a slub to the skeins SL_CFG enables (R501). -/
def Rep.slubSkeins (r : Rep) (c : Ctx) (x : Slub) : Rep :=
  if c.fld 0xF0000 16 3 ≤ x.sev then
    let r1 := if bitOf (c.reg 0xF0000) 7 then (r.entry c .a (c.fld 0xF0000 0 7) (.slub x)).1 else r
    if bitOf (c.reg 0xF0000) 15 then (r1.entry c .b (c.fld 0xF0000 8 7) (.slub x)).1 else r1
  else r

/-- Write one slub to the log (R500), deliver it (R501) and ask for its hank (R555). -/
def Rep.writeSlub (r : Rep) (c : Ctx) (q : SlubReq) : Rep :=
  let sev := slubSev q.code q.d2
  let n := r.total + 1
  let x : Slub := {
    time := q.time, turn := q.turn, block := q.code / 256, sev := sev, code := q.code, seq := n.toNat % 65536,
    d0 := q.d0, d1 := q.d1, d2 := q.d2 }
  let slot := r.total.toNat % 4096
  let r1 : Rep := { r with log := Tbl.ins r.log slot x, total := n, slubsTurn := r.slubsTurn + 1,
                           stopSeen := r.stopSeen || (bitOf (c.reg 0x110000) 1 && bitOf (c.reg 0x110000) 2 &&
                             decide (c.fld 0x110000 4 3 ≤ sev) && !r.frozen) }
  let r2 := if (Tbl.look r.log slot).isSome then r1.count c 5765 1 else r1
  let r3 := r2.slubSkeins c x
  let r4 := if c.fld 0xF0000 20 3 ≤ sev then r3.fire c 0x004 else r3
  if c.hankOn 3 && decide (c.fld 0x110000 8 3 ≤ sev) then
    { r4 with hankReqs := r4.hankReqs ++ [{ kind := 3, sub := sev, aux := q.code, body := (q.d1 ++ q.d0).setWidth 64 }] }
  else r4

/-- A slub with its own time and turn. -/
def Rep.slubAt (r : Rep) (time : BitVec 64) (turn : BitVec 48) (code : Nat) (d0 d1 d2 : Word) : Rep :=
  { r with slubReqs := r.slubReqs ++ [{ time := time, turn := turn, code := code, d0 := d0, d1 := d1, d2 := d2 }] }

/-- A slub of an event of this instant (R499). -/
def Rep.slub (r : Rep) (c : Ctx) (code : Nat) (d0 d1 d2 : Word) : Rep := r.slubAt c.now c.turn code d0 d1 d2

/-- A hank of an enabled KIND (R553 to R555). -/
def Rep.hank (r : Rep) (c : Ctx) (kind sub aux : Nat) (body : BitVec 64) : Rep :=
  if c.hankOn kind then
    { r with hankReqs := r.hankReqs ++ [{ kind := kind, sub := sub, aux := aux, body := body }] }
  else r

/-- Does one slub stand before another in the order of R499: by code, which ascends with the block, then by D0? -/
def SlubReq.before (a b : SlubReq) : Bool := decide (a.code < b.code) || (decide (a.code = b.code) && decide (a.d0.toNat < b.d0.toNat))

/-- Put a slub behind those that do not stand after it. -/
def insSlub (a : SlubReq) : List SlubReq → List SlubReq
  | [] => [a]
  | b :: l => if a.before b then a :: b :: l else b :: insSlub a l

/-- Put a hank behind those of no higher KIND. -/
def insHank (a : HankReq) : List HankReq → List HankReq
  | [] => [a]
  | b :: l => if a.kind < b.kind then a :: b :: l else b :: insHank a l

/-- The slubs of an instant are written in the order of R499. -/
def Rep.writeSlubs (r : Rep) (c : Ctx) : Rep :=
  (r.slubReqs.foldl (fun l a => insSlub a l) []).foldl (fun a q => a.writeSlub c q) { r with slubReqs := [] }

/-- The hanks of an instant enter the queue in ascending KIND (R554). The second component says that one of them was the
first dropped in its turn. -/
def Rep.pushHanks (r : Rep) (c : Ctx) : Rep × Bool :=
  (r.hankReqs.foldl (fun l a => insHank a l) []).foldl (fun (a : Rep × Bool) q =>
    let x := a.1.pushHank c q.kind q.sub q.aux q.body
    (x.1, a.2 || x.2)) ({ r with hankReqs := [] }, false)

/-- The report of the first dropped hank of a turn: slub 0x1102 and source 0x028 (R554). -/
def Rep.lossSlub (r : Rep) (c : Ctx) : Rep :=
  (r.writeSlub c { time := c.now, turn := c.turn, code := 0x1102, d0 := 1, d1 := 0, d2 := 0 }).fire c 0x028

/-- The slubs of an instant are written in the order of R499, and its hanks enter the queue in ascending KIND (R554). A first
dropped hank of the turn is reported, and that slub's hank follows. -/
def Rep.writeAll (r : Rep) (c : Ctx) : Rep :=
  let x := (r.writeSlubs c).pushHanks c
  if x.2 then ((x.1.lossSlub c).pushHanks c).1 else x.1

/-- A port's view under the committed WH_SRC registers (R370). -/
def PortSt.whorlView (q : PortSt) (c : Ctx) (p : Port) : PortSt :=
  let keep := fun (i : Nat) => bitOf (c.src i) 12 && bitOf (c.src i) (8 + p.idx)
  { q with
    src := (q.src.map (fun (e : Nat × SrcState) =>
      if keep e.1 then e
      else (e.1, match e.2 with | .pending => .inactive | .activePending => .active | x => x))).filter
        (fun e => decide (e.2 ≠ .inactive)) }

/-- Behind the firings of an instant, committed configuration acts on both ports' views (R370, R375). -/
def Rep.whorlViews (r : Rep) (c : Ctx) : Rep :=
  if r.whOld.isSome then
    let r1 := r.setPort .a ((r.port .a).whorlView c .a)
    { r1.setPort .b ((r1.port .b).whorlView c .b) with whOld := none, whDue := true }
  else r

/-- Last of all the whorl evaluates REQ and OUTSTANDING, where an event of the instant may have changed them (R375). -/
def Rep.whorlReqs (r : Rep) (c : Ctx) : Rep :=
  if r.whDue then { (r.evalReq c .a).evalReq c .b with whDue := false } else r

/-- The end of an instant (R375, R499, R554). -/
def Rep.flush (r : Rep) (c : Ctx) : Rep := ((r.writeAll c).whorlViews c).whorlReqs c

end Sys2Proof.Machine
end

