-- ==== Sys2Proof/Machine/Ops.lean ====
section
/-!
DEFINITION. The named operations over the state that every family shares: time, live configuration, sources, slubs,
counters, skein entries and completions, first-in-the-turn flags, the checks a register write passes (R353, R382 to
R386, R390, R398, R400), and the ready set of a channel.
-/

namespace Sys2Proof.Machine

/-- A quotient as a whole number of its unit. -/
def roundDiv (k : Config.Figure) (n d : Nat) : Nat :=
  n / d + b01 (decide (n % d ≠ 0) && Config.roundUp k n d)

/-- A rational as a whole number of its unit. -/
def wholeOr (k : Config.Figure) (x : Rat) : Int :=
  x.floor + if x.den = 1 then 0 else if Config.roundUp k x.num x.den then 1 else 0

/-- What the reporting plane sees of the state. -/
def State.ctx (s : State) : Ctx :=
  { live := s.regs.live, now := s.now, clock := s.clock, turn := s.tm.turn, st := s.dev.st, owner := s.ow.owner }

/-- Live word of the register at an offset (R388). -/
def State.live (s : State) (off : Nat) : Word := Tbl.lookD s.regs.live off (resetAt off)
/-- Live field of a register. -/
def State.fld (s : State) (off lo w : Nat) : Nat := fieldOf (s.live off) lo w
/-- Live bit of a register. -/
def State.bit (s : State) (off i : Nat) : Bool := bitOf (s.live off) i
/-- A register written at once (RWI). -/
def State.rwi (s : State) (off : Nat) : Word := Tbl.lookD s.regs.rwi off (resetAt off)
/-- Store a register written at once. -/
def State.setRwi (s : State) (off : Nat) (v : Word) : State :=
  { s with regs := { s.regs with rwi := Tbl.put s.regs.rwi off (resetAt off) v } }
/-- Lock word at an offset (R398). -/
def State.lock (s : State) (off : Nat) : Word := Tbl.lookD s.locks off 0

/-- Out of OFF and RESET: the device runs (R564, R565). -/
def State.up (s : State) : Bool := decide (s.dev.st ≠ .off) && decide (s.dev.st ≠ .reset)

/-- DEV_MAX_PPM as a ratio. -/
def State.devMax (s : State) : Rat := (s.fld 0x10010 0 9 : Rat) / 1000000

/-- The unlimited sum of R43, as a ratio. On the free-running source the trim stands alone (Table 2.2). -/
def State.rateSum (s : State) : Rat :=
  (signedOf 20 (s.fld 0x10014 0 20) : Rat) / 1000000000 +
    (if s.tm.srcActive = 0 then 0 else s.tm.freqTerm + s.tm.phaseTerm)

/-- The applied correction of R43: the sum limited to DEV_MAX_PPM. -/
def State.rateApplied (s : State) : Rat :=
  if s.rateSum > s.devMax then s.devMax else if s.rateSum < -s.devMax then -s.devMax else s.rateSum

/-- What the time base counts, with fractions of a nanosecond, while the reference counts dt ns (R43). -/
def State.counted (s : State) (dt : Nat) : Rat := s.frac + dt * (1 + s.rateApplied)

/-- The end of an instant: slubs and hanks take their order (R499, R554), and the whorl's request messages follow (R375). -/
def State.flush (s : State) : State := { s with rep := s.rep.flush s.ctx }

/-- A source fires (R369). -/
def State.raise (s : State) (i : Nat) : State := { s with rep := s.rep.fire s.ctx i }
/-- A source raised at most once in a turn. -/
def State.raiseOnce (s : State) (tag i : Nat) : State := { s with rep := s.rep.fireOnce s.ctx tag i }
/-- A slub is written (R499). -/
def State.slub (s : State) (code : Nat) (d0 d1 d2 : Nat) : State :=
  { s with rep := s.rep.slub s.ctx code (BitVec.ofNat 32 d0) (BitVec.ofNat 32 d1) (BitVec.ofNat 32 d2) }
/-- A slub of an event of an earlier instant: its time and its turn. -/
def State.slubAt (s : State) (t : BitVec 64) (turn : BitVec 48) (code : Nat) (d0 d1 d2 : Nat) : State :=
  { s with rep := s.rep.slubAt t turn code (BitVec.ofNat 32 d0) (BitVec.ofNat 32 d1) (BitVec.ofNat 32 d2) }
/-- A slub written at most once in a turn. -/
def State.slubOnce (s : State) (tag code : Nat) (d0 d1 d2 : Nat) : State :=
  { s with
    rep :=
      if s.rep.first.contains tag then s.rep
      else ({ s.rep with first := s.rep.first ++ [tag] }).slub s.ctx code (BitVec.ofNat 32 d0) (BitVec.ofNat 32 d1)
        (BitVec.ofNat 32 d2) }
/-- A counter of Table 19.3 advances. -/
def State.count (s : State) (c : Nat) : State := { s with rep := s.rep.count s.ctx c 1 }
/-- A counter of Table 19.3 advances by n. -/
def State.countN (s : State) (c n : Nat) : State := { s with rep := s.rep.count s.ctx c n }
/-- Something leaves the device. -/
def State.emit (s : State) (o : Output) : State := { s with rep := s.rep.emit o }
/-- A hank of an enabled kind. -/
def State.hank (s : State) (kind sub aux : Nat) (body : BitVec 64) : State :=
  { s with rep := s.rep.hank s.ctx kind sub aux body }
/-- A port. -/
def State.port (s : State) (p : Port) : PortSt := s.rep.port p
/-- Replace a port. -/
def State.setPort (s : State) (p : Port) (v : PortSt) : State := { s with rep := s.rep.setPort p v }
/-- An entry that is no completion goes to a skein (R345). -/
def State.entry (s : State) (p : Port) (k : Nat) (b : EntryBody) : State :=
  { s with rep := (s.rep.entry s.ctx p k b).1 }
/-- Deliver an entry to the skeins that a notify register names: SKA [6:0] with enable [7], SKB [14:8] with enable [15]
(DR_NOTIFY, LW_NOTIFY). -/
def State.notifyBoth (s : State) (off : Nat) (b : EntryBody) : State :=
  { s with
    rep :=
      let r1 := if s.bit off 7 then (s.rep.entry s.ctx .a (s.fld off 0 7) b).1 else s.rep
      if s.bit off 15 then (r1.entry s.ctx .b (s.fld off 8 7) b).1 else r1 }
/-- REQ and OUTSTANDING of the ports are evaluated at the end of the instant (R374, R375). -/
def State.askReq (s : State) : State := { s with rep := s.rep.askReq }
/-- Use up one free value (log 2). -/
def State.useFree (s : State) : State := { s with free := s.free + 1 }

/-! ## Ownership, which the next cycle settles -/

/-- Code of an owner in OW_STATUS.OWNER. -/
def ownerCode (o : Option Port) : Nat := match o with | none => 0 | some .a => 1 | some .b => 2

/-- OW_STATUS. -/
def State.owStatus (s : State) : Word :=
  packWord [(0, ownerCode s.ow.owner), (2, b01 s.ow.electing), (3, b01 s.ow.handover.isSome), (4, b01 s.ow.candA),
    (5, b01 s.ow.candB), (6, b01 s.dev.ownPrio), (8, s.ow.lapse)]

/-- The owner at the start of the cycle, which decides writes and acceptances in it (R356). -/
def State.ownerStart (s : State) : Option Port := s.ow.start.getD s.ow.owner

/-- The owner changes (R360). -/
def State.setOwner (s : State) (o : Option Port) : State :=
  if s.ow.owner = o then s
  else
    let s1 := { s with ow := { s.ow with start := some s.ownerStart, owner := o, epoch := s.ow.epoch + 1 } }
    let s2 := s1.slub 0x0A02 s1.owStatus.toNat s1.ow.epoch.toNat 0
    if o.isSome then s2.raise 0x051 else s2

/-- The port that the OWN_PRIO strap names (R358). -/
def State.prioPort (s : State) : Port := if s.dev.ownPrio then .b else .a

/-- The candidate that becomes owner, if any (R358, R359). -/
def State.elected (s : State) : Option Port :=
  if s.ow.candA && s.ow.candB then some s.prioPort
  else if s.ow.candA then some .a
  else if s.ow.candB then some .b
  else none

/-- A candidate becomes owner while no port is (R359), outside the election window and the time before it. -/
def State.fillOwner (s : State) : State :=
  if s.ow.owner.isNone && !s.ow.electing && decide (s.dev.st ≠ .selfTest) then s.setOwner s.elected else s

/-- What a cycle leaves to the next: the port that accepted becomes owner (R362), or else a candidate where a candidacy was written
while no port was (R359). -/
def State.nextOwner (s : State) : State :=
  match s.ow.taker with
  | some p => (s.setOwner (some p)).flush
  | none => if s.ow.soon then s.fillOwner.flush else s

/-- A new cycle begins: what the last one left is settled, and its record of ownership goes. -/
def State.newCycle (s : State) : State :=
  { s.nextOwner with ow := { s.nextOwner.ow with start := none, soon := false, taker := none, lost := none } }

/-- No change of ownership of the cycle in progress waits or has been made. -/
abbrev State.steady (s : State) : Prop :=
  s.ow.start = none ∧ s.ow.soon = false ∧ s.ow.taker = none ∧ s.ow.lost = none

/-! ## Time and commands -/

/-- Time goes on by dt ns of the reference: the time base counts them at its corrected rate (R43) and wraps at 2^64 (R42); the
clock of intervals counts the reference (log 3). -/
def State.tick (s : State) (dt : Nat) : State :=
  { s with
    now := s.now + BitVec.ofNat 64 (s.counted dt).floor.toNat
    frac := s.counted dt - (s.counted dt).floor
    clock := s.clock + dt }

/-- Time goes on by dt ns; with dt 0 a command acts in the cycle of the one before it. -/
def State.elapse (s : State) (dt : Nat) : State := if dt = 0 then s else s.newCycle.tick dt

/-- Nanoseconds of the reference in which the time base counts d on (R43), rounded up. -/
def State.refTime (s : State) (d : Nat) : Nat := ((d - s.frac) / (1 + s.rateApplied)).ceil.toNat

/-- Time goes on to a time base value that the turn schedule fixes; nothing where it has come or passed. -/
def State.advanceTo (s : State) (t : BitVec 64) : State :=
  let d := (t - s.now).toNat
  if d ≠ 0 ∧ d < 2 ^ 63 then { s.newCycle with now := t, frac := 0, clock := s.clock + s.refTime d } else s

/-- A command at a free instant: nothing happens in OFF and RESET; otherwise time goes on by dt and the command acts. -/
def State.at_ (s : State) (dt : Nat) (f : State → State) : Host.Outcome State Fault Refusal :=
  .next (if s.up then (f (s.elapse dt)).flush else s)

/-- A command at an instant of the turn schedule. -/
def State.sched (s : State) (t : BitVec 64) (f : State → State) : Host.Outcome State Fault Refusal :=
  .next (if s.up then (f (s.advanceTo t)).flush else s)

/-- The covered image changes: a running CRC pass is discarded and counted, and the grace is armed (R406, R407). -/
def State.coverChange (s : State) : State :=
  let r := { s.regs with passValid := false, graceOn := true, graceLeft := s.fld 0x1020 4 4 }
  let s1 := { s with regs := r }
  if s.regs.passOn && s.regs.passValid then s1.count 5729 else s1

/-- The field die answers: not in reset. -/
def State.fieldUp (s : State) : Bool := decide (s.fa.field ≠ .inReset)

/-- A transfer starts across the field bridge and waits for its acknowledgement (R503); in a field-die reset none does. -/
def State.sendOver (s : State) (k : XferKind) : State :=
  if s.fieldUp then
    { s with
      fa := { s.fa with
        xfers := s.fa.xfers.filter (fun x => decide (x.kind ≠ k)) ++ [{ kind := k, at_ := s.clock }] } }
  else s

/-- A transfer is acknowledged, be it after a timeout; with none left that was sent again the bridge is normal (R503). -/
def State.acked (s : State) (k : XferKind) : State :=
  let l := s.fa.xfers.filter (fun x => decide (x.kind ≠ k))
  { s with
    fa := { s.fa with
      xfers := l
      field := if s.fa.field = .retrying ∧ l.all (fun x => decide (x.tries = 0)) = true then .normal else s.fa.field } }

/-! ## Completions -/

/-- A completion for a descriptor, with the fields every completion has (Table 10.12). -/
def complOf (d : Desc) (opcode status : Nat) : Compl :=
  { opcode := opcode, distaff := d.distaff.val, status := status, tag := d.tag, index := d.index }

/-- The skein in which the descriptor of an index reserved its entry (R332); the CSKEIN where none is recorded. -/
def Ring.claimed (g : Ring) (i : Word) : Nat :=
  match g.claims.find? (fun e => decide (e.1 = i)) with | some e => e.2 | none => g.cskein

/-- Without the oldest reservation of an index. -/
def Ring.unclaim (g : Ring) (i : Word) : Ring := { g with claims := g.claims.eraseP (fun e => decide (e.1 = i)) }

/-- A descriptor completes (R335, R343): a completion is written when CMPL is 1 or the status is not OK; otherwise only
its reserved entry is given back. It goes to the CSKEIN of the descriptor's own distaff (R364), in which it reserved its entry. -/
def State.complete (s : State) (d : Desc) (c : Compl) : State :=
  { s with
    rep :=
      let g := (s.rep.port d.port).dsr d.distaff.val
      let k := g.claimed d.index
      let r := s.rep.setDs d.port d.distaff.val (g.unclaim d.index)
      if d.cmpl || decide (c.status ≠ 0) then r.complete s.ctx d.port k (.completion c)
      else
        let h := (r.port d.port).skn k
        r.setSk d.port k { h with reserved := h.reserved - 1 } }

/-- A descriptor completes with a status and nothing more. -/
def State.completeSt (s : State) (d : Desc) (opcode status : Nat) : State := s.complete d (complOf d opcode status)

/-- Reserve one entry of the CSKEIN of a distaff for the descriptor of an index (R332). -/
def State.reserve (s : State) (p : Port) (d : Nat) (i : Word) : State :=
  { s with
    rep :=
      let g := (s.rep.port p).dsr d
      let h := (s.rep.port p).skn g.cskein
      (s.rep.setSk p g.cskein { h with reserved := h.reserved + 1 }).setDs p d
        { g with claims := g.claims ++ [(i, g.cskein)] } }

/-- Give back the entry reserved for the descriptor of an index whose read is given up. -/
def State.unreserve (s : State) (p : Port) (d : Nat) (i : Word) : State :=
  { s with
    rep :=
      let g := (s.rep.port p).dsr d
      let k := g.claimed i
      let h := (s.rep.port p).skn k
      (s.rep.setSk p k { h with reserved := h.reserved - 1 }).setDs p d (g.unclaim i) }

/-! ## Register writes -/

/-- Reasons of Table 12.2. -/
def reasonPartial : Nat := 1
/-- NOT_OWNER. -/
def reasonNotOwner : Nat := 2
/-- LOCKED. -/
def reasonLocked : Nat := 3
/-- BUSY. -/
def reasonBusy : Nat := 4
/-- FROZEN. -/
def reasonFrozen : Nat := 5
/-- UNMAPPED. -/
def reasonUnmapped : Nat := 6
/-- STATE. -/
def reasonState : Nat := 7
/-- ENABLED. -/
def reasonEnabled : Nat := 8
/-- COMMIT_BUSY. -/
def reasonCommitBusy : Nat := 9
/-- INVALID. -/
def reasonInvalid : Nat := 10

/-- Record a discarded write in DV_DISCARD, count it for its port, and raise 0x05B for the first in the turn (R386). -/
def State.discard (s : State) (off : Nat) (p : Port) (reason : Nat) : State :=
  { s with
    regs := { s.regs with discOff := off, discPort := p, discReason := reason },
    rep := (s.rep.count s.ctx (5184 + 64 * p.idx) 1).fireOnce s.ctx 0x05B 0x05B }

/-- Is the boot loader at work (PHASE READING or APPLYING)? -/
def State.loading (s : State) : Bool := decide (s.dev.phase = 1 ∨ s.dev.phase = 2)

/-- An offset of the port-private set of R352: the PP_ block with the MSI-X table and array, and the banked WH_
registers. -/
def portPrivate (off : Nat) : Bool := decide (0x2000 ≤ off ∧ off < 0x3000) || decide (0x4000 ≤ off ∧ off < 0x4400)

/-- An offset of the MSI-X table entry or pending-bit array (Table 12.9); their layout is PCI Express's (log 7). -/
def msixOff (off : Nat) : Bool := decide (0x2800 ≤ off ∧ off < 0x2810) || decide (0x2C00 ≤ off ∧ off < 0x2C08)

/-- Is a register mapped at an offset (R384)? -/
def mapped (off : Nat) : Bool := (regAt off).isSome || (msixOff off && decide (off % 4 = 0))

/-- Registers of the field die (R400): LI_, LO_ and FD_. -/
def fieldReg (off : Nat) : Bool := decide (0xA0000 ≤ off ∧ off < 0xB0000)

/-- Registers of the key store (R551). -/
def ksReg (off : Nat) : Bool := decide (0x100000 ≤ off ∧ off < 0x110000)

/-- DV_SLOW.FIELD_BUSY: a posted write is not acknowledged, or the field die is in reset (R400, R505). -/
def State.fieldBusy (s : State) : Bool := s.fa.posted.isSome || decide (s.fa.field = .inReset)

/-- Does a commit in flight freeze the registers of the group an offset belongs to (R390)? -/
def State.frozen (s : State) (off : Nat) : Bool :=
  decide (s.regs.phase ≠ .idle) && (match groupOf off with | some g => bitOf s.regs.pend g | none => false)

/-- The reason for which a register write is discarded whole before its own rule is looked at; none when it passes. The
checks stand in this order: byte enables (R382), mapping (R384), loading (R573), ownership (R353, R356), freeze (R390), slow register
busy (R400, R551). -/
def State.wrReason (s : State) (off : Nat) (w : Wr) : Option Nat :=
  if w.be ≠ 15 then some reasonPartial
  else if mapped off = false then some reasonUnmapped
  else if portPrivate off then none
  else if s.loading then some reasonState
  else if s.ownerStart ≠ some w.port then some reasonNotOwner
  else if s.frozen off then some reasonFrozen
  else if fieldReg off && s.fieldBusy then some reasonBusy
  else if ksReg off && s.ks.posted.isSome then some reasonBusy
  else none

/-- Drop a write to a slow register while it is busy: the first to the field die in a turn raises 0x060 (R400), every
one to the key store raises 0x026 and counts as dropped (R551). -/
def State.dropBusy (s : State) (off : Nat) (p : Port) : State :=
  if ksReg off then ((s.discard off p reasonBusy).count 5836).raise 0x026
  else (s.discard off p reasonBusy).raiseOnce 0x060 0x060

/-- A register write with behaviour of its own: discarded for a reason of `wrReason`, or else given to that behaviour. -/
def State.wr (s : State) (off : Nat) (w : Wr) (f : State → State) : State :=
  match s.wrReason off w with
  | some r => if r = reasonBusy then s.dropBusy off w.port else s.discard off w.port r
  | none => f s

/-! ## Ply and cascade facts other blocks read -/

/-- A ply member: PL_CFG.EN is 1 on a device whose PLY_ID straps are not 0b11 (R436). -/
def State.plyMember (s : State) : Bool := s.bit 0xB0000 0 && decide (s.dev.plyId ≠ 3)
/-- The device acts: a single device always, a ply member while its role is ACTING (R439, R452). -/
def State.acts (s : State) : Bool := !s.plyMember || decide (s.pl.role = .acting)

/-! ## Channels -/

/-- A channel. -/
def State.ch (s : State) (c : Nat) : Channel := Tbl.lookD s.chs c {}
/-- Replace a channel. -/
def State.setCh (s : State) (c : Nat) (v : Channel) : State := { s with chs := Tbl.put s.chs c {} v }
/-- The spindle serving a channel; spindle n serves channel n until a doff (log 5). -/
def State.spOf (s : State) (c : Nat) : Nat := Tbl.lookD s.chSp c c
/-- What a spindle is when nothing is listed: 0 to 15 active, 16 and 17 spare (log 5). -/
def spindleReset (n : Nat) : Spindle := { role := if n < 16 then .active else .spare }
/-- A spindle. -/
def State.spindle (s : State) (n : Nat) : Spindle := Tbl.lookD s.sps n (spindleReset n)
/-- Replace a spindle. -/
def State.setSpindle (s : State) (n : Nat) (v : Spindle) : State :=
  { s with sps := Tbl.put s.sps n (spindleReset n) v }
/-- Detail words of a spindle-block slub (0x0210 of Table 16.4): channel in [3:0], spindle in [12:8]. -/
def State.spD0 (s : State) (c : Nat) : Nat := c + 256 * s.spOf c
/-- TEC in [8:0], REC in [23:16]. -/
def State.spD1 (s : State) (c : Nat) : Nat := (s.ch c).tec % 512 + 65536 * ((s.ch c).recn % 256)
/-- Raise a source offset of the spindle that serves a channel (R115), with its slub 0x0210 + offset (R498). -/
def State.spEvent (s : State) (c off : Nat) : State :=
  (s.slub (0x0210 + off) (s.spD0 c) (s.spD1 c) 0).raise (0x080 + 16 * s.spOf c + off)
/-- Count at an offset of a channel's bank (Table 19.4). -/
def State.chCount (s : State) (c off : Nat) : State := s.count (64 * c + off)

end Sys2Proof.Machine
end

