-- ==== Sys2Proof/Machine/RegWrite.lean ====
section
/-!
DEFINITION. Register writes: shadow and live fields (R380, R388), fields written at once, locks (R398, R399), posted
writes to the field die and the key store (R400, R551), the port-private block (R320 to R322), the MSI-X entry, and
the row REGISTER_WRITE.
-/

namespace Sys2Proof.Machine

/-- The bits of a register that set lock bits guard now (Table 12.5, R277, R312). -/
def State.guardMask (s : State) (off : Nat) : Word :=
  if 0xA8000 ≤ off ∧ off < 0xA8800 then
    let o := off % 256
    if bitOf (s.lock 0xA8800) 0 && decide ((0x10 ≤ o ∧ o < 0x1C) ∨ (0x20 ≤ o ∧ o < 0x40)) then 0xFFFFFFFF else 0
  else if 0xA1000 ≤ off ∧ off < 0xA1200 then
    if bitOf (s.lock 0xA1804) 0 && decide (off % 64 = 4 ∨ off % 64 = 8) then 0xFFFFFFFF else 0
  else if off = 0x1020 then if bitOf (s.lock 0x1030) 0 then 0x7 else 0
  else if off = 0x1034 then if bitOf (s.lock 0x1030) 1 then 0xFFFFFFFF else 0
  else if off = 0xB0004 then if bitOf (s.lock 0xB0034) 0 then 0xFFFFFFFF else 0
  else if off = 0xB0008 then if bitOf (s.lock 0xB0034) 1 then 0xFFFFFFFF else 0
  else 0

/-- Shadow word of a register (R388). -/
def State.shadow (s : State) (off : Nat) : Word := Tbl.lookD s.regs.shadow off (resetAt off)

/-- Write the masked bits of a register's shadow and mark its group dirty (R388). -/
def State.setShadow (s : State) (off : Nat) (mask v : Word) : State :=
  { s with
    regs := { s.regs with
      shadow := Tbl.put s.regs.shadow off (resetAt off) (mergeBits mask (s.shadow off) v)
      dirty := match groupOf off with
        | some g => s.regs.dirty ||| BitVec.ofNat 32 (2 ^ g)
        | none => s.regs.dirty } }

/-- Copy the live value of the masked bits of a register into its shadow (R398), without marking its group; the mirror of a
field-die register follows (R402). -/
def RegSt.restoreShadow (r : RegSt) (off : Nat) (mask : Word) : RegSt :=
  let v := mergeBits mask (Tbl.lookD r.shadow off (resetAt off)) (Tbl.lookD r.live off (resetAt off))
  { r with
    shadow := Tbl.put r.shadow off (resetAt off) v
    fieldShadow := if fieldReg off then Tbl.put r.fieldShadow off (resetAt off) v else r.fieldShadow }

/-- Post a write to the field die: FIELD_SEQ advances and FIELD_BUSY is 1 until the acknowledgement (R400). -/
def State.post (s : State) (off : Nat) (data : Word) : State :=
  { s.sendOver .posted with
    fa := { (s.sendOver .posted).fa with
      seq := s.fa.seq + 1
      posted := some { seq := s.fa.seq + 1, off := off, data := data } } }

/-- Offsets that a lock bit of a lock register guards, with the guarded bits (Table 12.5). -/
def lockGuards (lockOff bit : Nat) : List (Nat × Word) :=
  if lockOff = 0xA8800 then
    (List.range 8).flatMap (fun f =>
      [0x10, 0x14, 0x18, 0x20, 0x24, 0x28, 0x2C, 0x30, 0x34, 0x38, 0x3C].map (fun o => (0xA8000 + 256 * f + o, 0xFFFFFFFF)))
  else if lockOff = 0xA1804 then
    (List.range 8).flatMap (fun n => [(0xA1004 + 64 * n, 0xFFFFFFFF), (0xA1008 + 64 * n, 0xFFFFFFFF)])
  else if lockOff = 0x1030 then (if bit = 0 then [(0x1020, 0x7)] else [(0x1034, 0xFFFFFFFF)])
  else if lockOff = 0xB0034 then (if bit = 0 then [(0xB0004, 0xFFFFFFFF)] else [(0xB0008, 0xFFFFFFFF)])
  else []

/-- Set lock bits of a lock register: each newly set bit copies the live value of what it guards into the shadow and
raises 0x05F (R398). A lock is covered by the configuration CRC (R403). -/
def State.setLock (s : State) (off : Nat) (bits : Word) : State :=
  let fresh := bits &&& ~~~(s.lock off)
  let gs := (List.range 32).flatMap (fun i => if bitOf fresh i then lockGuards off i else [])
  let s1 := { s with
    locks := Tbl.put s.locks off 0 (s.lock off ||| bits)
    regs := gs.foldl (fun r g => r.restoreShadow g.1 g.2) s.regs }
  if fresh = 0 then s1 else (s1.raise 0x05F).coverChange

/-- An offset of a CR_EM_ or CR_RT_ register (R124); CR_TBL_STATUS, which lies among them, is none. -/
def tblReg (off : Nat) : Bool := decide (0x48000 ≤ off ∧ off < 0x48030 ∧ off ≠ 0x48010)

/-- A write to one of the port settings of Table 10.2, or to the ring-select group (R320 to R322). -/
def PortSt.ppWrite (q : PortSt) (off : Nat) (v : Word) : PortSt × Option Nat :=
  let setting := fun (q' : PortSt) => if q.portEn then (q, some reasonEnabled) else (q', none)
  let ring := if q.ringKind then q.skn q.ringSel else q.dsr q.ringSel
  let put := fun (g : Ring) =>
    if q.ringKind then { q with sk := Tbl.put q.sk q.ringSel {} g } else { q with ds := Tbl.put q.ds q.ringSel {} g }
  let ringSet := fun (g : Ring) => if ring.en then (q, some reasonEnabled) else (put g, none)
  if off = 0x2008 then setting { q with dbAddr := (BitVec.extractLsb' 32 32 q.dbAddr) ++ v }
  else if off = 0x200C then setting { q with dbAddr := v ++ (q.dbAddr.setWidth 32) }
  else if off = 0x2010 then setting { q with stAddr := (BitVec.extractLsb' 32 32 q.stAddr) ++ v }
  else if off = 0x2014 then setting { q with stAddr := v ++ (q.stAddr.setWidth 32) }
  else if off = 0x2018 then setting { q with poll := fieldOf v 0 9, sweep := fieldOf v 16 11 }
  else if off = 0x201C then setting { q with cplTmo := fieldOf v 0 16 }
  else if off = 0x2020 then setting { q with reportEvery := fieldOf v 0 16, reportSkein := fieldOf v 16 7 }
  else if off = 0x2040 then ({ q with ringSel := fieldOf v 0 7, ringKind := bitOf v 7 }, none)
  else if off = 0x2044 then ringSet { ring with base := (BitVec.extractLsb' 32 32 ring.base) ++ v }
  else if off = 0x2048 then ringSet { ring with base := v ++ (ring.base.setWidth 32) }
  else if off = 0x204C then
    if ring.en then (q, some reasonEnabled)
    else if q.ringKind then (put { ring with log2 := fieldOf v 0 5, notify := fieldOf v 16 10 }, none)
    else (put { ring with log2 := fieldOf v 0 5, cskein := fieldOf v 8 7 }, none)
  else if off = 0x2050 then
    if q.ringKind then ringSet { ring with coal := fieldOf v 0 8 } else (q, none)
  else (q, none)

/-- A write to the MSI-X entry: address, data, vector control (bit 0 masks). The pending-bit array is read only (log 7). -/
def PortSt.msixWrite (q : PortSt) (off : Nat) (v : Word) : PortSt :=
  if off = 0x2800 then { q with msixAddr := (BitVec.extractLsb' 32 32 q.msixAddr) ++ v }
  else if off = 0x2804 then { q with msixAddr := v ++ (q.msixAddr.setWidth 32) }
  else if off = 0x2808 then { q with msixData := v }
  else if off = 0x280C then { q with msixMask := bitOf v 0 }
  else q

/-- Deliver a pending message once its vector is not masked (R374). -/
def Rep.deliverMsix (r : Rep) (p : Port) : Rep :=
  let q := r.port p
  if q.msixPend && !q.msixMask && q.canWrite then (r.setPort p { q with msixPend := false }).emit (.msix p q.msixAddr q.msixData) else r

/-- A write to fields that a set lock guards: discarded, and counted for the feed whose registers they are (R312, R398,
Table 19.3). -/
def State.lockedWrite (s : State) (off : Nat) (p : Port) : State :=
  let s1 := s.discard off p reasonLocked
  if 0xA8000 ≤ off ∧ off < 0xA8800 then s1.count (5376 + 8 * ((off - 0xA8000) / 256) + 7) else s1

/-- A write to a buffered or immediate register that passed the checks, under its fields' types (R380, R385, R398). -/
def State.regStore (s : State) (off : Nat) (w : Wr) : State :=
  if msixOff off then
    let r := (s.rep.setPort w.port ((s.port w.port).msixWrite off w.data)).deliverMsix w.port
    { s with rep := r }
  else if 0x2000 ≤ off ∧ off < 0x3000 then
    match (s.port w.port).ppWrite off w.data with
    | (q, none) => s.setPort w.port q
    | (_, some r) => s.discard off w.port r
  else if tblReg off && s.cr.cmd.isSome then s.discard off w.port reasonBusy
  else if off = 0xB8014 ∨ off = 0xB8018 ∨ off = 0xB801C then
    let i := fieldOf (s.rwi 0xB8010) 0 12
    let dflt := [resetAt 0xB8014, resetAt 0xB8018, resetAt 0xB801C]
    let old := Tbl.lookD s.cs.rlyShadow i dflt
    let m := match regAt off with | some (d, _) => d.maskOf (fun t => decide (t = .rw)) | none => 0
    let k := (off - 0xB8014) / 4
    { s with
      cs := { s.cs with rlyShadow := Tbl.put s.cs.rlyShadow i dflt (old.set k (mergeBits m (old.getD k 0) w.data)) }
      regs := { s.regs with dirty := s.regs.dirty ||| BitVec.ofNat 32 (2 ^ 26) } }
  else
    match regAt off with
    | none => s
    | some (d, _) =>
      if ksReg off then { s with ks := { s.ks with posted := some (off, w.data) } }
      else
        let rw := d.maskOf (fun t => decide (t = .rw))
        let im := d.maskOf (fun t => decide (t = .rwi))
        let wm := d.maskOf (fun t => decide (t = .wm))
        let g := s.guardMask off &&& rw
        let s1 := if g ≠ 0 then s.lockedWrite off w.port else s
        let s2 := if rw &&& ~~~g ≠ 0 then s1.setShadow off (rw &&& ~~~g) w.data else s1
        let s3 := if fieldReg off && decide (rw &&& ~~~g ≠ 0) then s2.post off w.data else s2
        let s4 := if im ≠ 0 then s3.setRwi off (mergeBits im (s3.rwi off) w.data) else s3
        if wm ≠ 0 then
          let mask := BitVec.ofNat 32 (fieldOf w.data 16 16)
          s4.setRwi off (mergeBits mask (s4.rwi off) (w.data &&& 0xFFFF))
        else s4

/-- REGISTER_WRITE (R386): a write to a register without behaviour of its own. -/
def execRegisterWrite (dt off : Nat) (w : Wr) (s : State) : Host.Outcome State Fault Refusal :=
  s.at_ dt (fun s => s.wr off w (fun s => s.regStore off w))

end Sys2Proof.Machine
end

