-- ==== Sys2Proof/Machine/Timing.lean ====
section
/-!
DEFINITION. Turn and time base (chapter 2): the boundary schedule, reference events and discipline, holdover, loads of
the time base and of the turn number, and the latching reads of R48.
-/

namespace Sys2Proof.Machine

/-- L, the turn length in µs in force. -/
def State.lenUs (s : State) : Nat := s.fld 0x10004 0 14
/-- Capture point offset c in µs (R59). -/
def State.capUs (s : State) : Nat := s.fld 0x10008 0 14
/-- AGREE_US. -/
def State.agreeUs (s : State) : Nat := s.fld 0x10008 16 8
/-- OUT_WIDTH_US. -/
def State.outWidthUs (s : State) : Nat := s.fld 0x10008 24 7
/-- Start of the twist window w in µs (R59). -/
def State.twistUs (s : State) : Nat := s.capUs + (if s.plyMember then s.agreeUs else 10)
/-- Release point r in µs (R59). -/
def State.releaseUs (s : State) : Nat := s.lenUs * s.fld 0x1000C 0 10 / 1000
/-- TB_CFG.TSRC. -/
def State.tsrc (s : State) : Nat := s.fld 0x10000 0 2

/-- The first time base value that is a whole multiple of L µs and lies at least L µs after b (R49, R50), counted on without
the wrap of the time base: past the wrap, multiples count from 0 again (R42). -/
def boundaryAfter (lenUs b : Nat) : Nat :=
  let p := lenUs * 1000
  let n := ceilDiv (b + p) p * p
  if p = 0 then b
  else if n < 2 ^ 64 then n
  else if b + p ≤ 2 ^ 64 then 2 ^ 64
  else 2 ^ 64 + ceilDiv (b + p - 2 ^ 64) p * p

/-- A time base instant at an offset in µs from the boundary that opened the turn (R18), in a turn that a load of the time base
stretches too (R52). -/
def State.offsetAt (s : State) (us : Nat) : BitVec 64 := s.tm.origin + BitVec.ofNat 64 (us * 1000)

/-- The boundary schedule is laid anew from the present time base value (R54, R55): the turn in progress ends at the
first multiple of L at least L from now. A turn that thereby becomes longer than L is stretched (R51). -/
def State.reschedule (s : State) : State :=
  let n := boundaryAfter s.lenUs s.now.toNat
  let long := decide ((s.now - s.tm.origin).toNat + (n - s.now.toNat) > s.lenUs * 1000)
  let s1 := { s with
    tm := { s.tm with nextBound := BitVec.ofNat 64 n, stretch := s.tm.stretch || long } }
  if long && !s.tm.stretch then (s1.count 5121).raise 0x043 else s1

/-! ## Source in use -/

/-- Does the device follow another one (R61)? A ply member that does not hold the flyer follows the holder; a device or
flyer holder at a position other than P0 follows the cascade up link. -/
def State.follows (s : State) : Bool :=
  (s.plyMember && decide (s.pl.role ≠ .acting)) || decide (s.dev.pos ≠ 0)

/-- DEV_LIMIT follows the sum (R44); 0x048 is raised when it becomes 1. -/
def State.refreshLimit (s : State) : State :=
  let lim := decide (s.rateSum > s.devMax) || decide (s.rateSum < -s.devMax)
  let s1 := { s with tm := { s.tm with devLimit := lim } }
  if lim && !s.tm.devLimit then s1.raise 0x048 else s1

/-- SRC_ACTIVE and PLY_FOLLOW follow TSRC, the role and the position (R61). A change of the source in use restarts the
count of R68, and a device on TSRC 0b00 that follows nobody leaves holdover: a commit does so by R68, a change of role or of
link by the model's choice (log 76). -/
def State.refreshSource (s : State) : State :=
  let src : Nat := if s.follows then 3 else s.tsrc
  let ply := s.plyMember && decide (s.pl.role ≠ .acting)
  ({ s with
    tm := { s.tm with
      srcActive := BitVec.ofNat 2 src
      plyFollow := ply
      acceptedAt := if s.tm.srcActive.toNat = src then s.tm.acceptedAt else s.clock
      holdover := s.tm.holdover && decide (src ≠ 0)
      holdTurns := if src = 0 then 0 else s.tm.holdTurns } } : State).refreshLimit

/-- Reference period T of the source in use, in ns (R62); none for the free-running source. -/
def State.refPeriod (s : State) : Option Nat :=
  if s.tm.srcActive = 3 then some (s.lenUs * 1000)
  else if s.tm.srcActive = 1 then some 1000000000
  else if s.tm.srcActive = 2 then some (s.lenUs * 1000)
  else none

/-! ## Reference events -/

/-- What a reference event is: an edge, or a time cell with the sender's turn and time base value at its transmit instant. -/
inductive RefKind where
  | pps | turnIn | cell (turn : BitVec 48) (sent : BitVec 64)
  deriving DecidableEq, Repr

/-- LOCKED follows an accepted event (R67). -/
def TurnSt.lockStep (t : TurnSt) (e : Int) : TurnSt :=
  let run := if e.natAbs < 1000 then t.goodRun + 1 else 0
  { t with
    goodRun := run
    locked := if e.natAbs ≥ 2000 then false else t.locked || decide (run ≥ 8) }

/-- The terms, LOCKED, holdover and the record of the error of an accepted event (R63, R67 to R69). The frequency term asks for
LOCKED as it stood before the event, not as R67 leaves it: the model's choice (log 76). -/
def TurnSt.accept (t : TurnSt) (isCell : Bool) (e : Int) (T clock : Nat) : TurnSt :=
  ({ t with
    phaseTerm := (e : Rat) / (16 * T)
    freqTerm := if t.locked then t.freqTerm + (e : Rat) / (256 * T) else t.freqTerm
    phaseErr := satErr e
    rejRun := 0
    holdover := false
    holdTurns := 0
    acceptedAt := clock
    stepped := true
    cascadeAlarm := t.cascadeAlarm && !isCell }).lockStep e

/-- Is a reference event a time cell? -/
def RefKind.isCell : RefKind → Bool
  | .cell _ _ => true
  | _ => false

/-- The time base takes a value (R55, R64). The boundary that opened the turn moves with it, so that the phases to come keep
their offsets (R52); a snapshot after it has no lower bound (log 34). -/
def State.setTime (s : State) (t : BitVec 64) : State :=
  { s with now := t, frac := 0, tm := { s.tm with origin := s.tm.origin + (t - s.now), cut := none } }

/-- An accepted event in SET-UP steps the time base to its target (R64); a time cell's step also names the turn that the next
boundary takes and clears MISMATCH (R487). -/
def State.stepTime (s : State) (k : RefKind) (target : BitVec 64) : State :=
  let s1 := s.setTime target
  ({ s1 with
    tm := { s1.tm with
      cellTurn := match k with | .cell n _ => some n | _ => s.tm.cellTurn
      mismatch := s.tm.mismatch && !k.isCell } }).reschedule

/-- An event is accepted (R63, R64, R67 to R69): terms, LOCKED, holdover and the record of the error; in SET-UP the first
accepted event, when its error is above 1 µs, steps the time base to its target. "First" is counted once from reset: a change of
source, a commit or a load does not arm the step again, by the model's choice (log 76). -/
def State.acceptEvent (s : State) (k : RefKind) (target : BitVec 64) (e : Int) (T : Nat) : State :=
  let s1 := { s with tm := s.tm.accept k.isCell e T s.clock }
  let s2 := if s1.tm.locked && !s.tm.locked then s1.raise 0x044 else s1
  let s3 := if decide (s.dev.st = .setUp) && !s.tm.stepped && decide (e.natAbs > 1000) then s2.stepTime k target else s2
  s3.refreshLimit

/-- An event that is not used (R66) changes no term; with an error of 2 µs or more it ends LOCKED, and it breaks the run of
accepted events (R67). -/
def TurnSt.unused (t : TurnSt) (e : Int) : TurnSt :=
  { t with goodRun := 0, locked := t.locked && decide (e.natAbs < 2000), mismatch := true }

/-- A rejected event changes no term; with an error of 2 µs or more it ends LOCKED, and it breaks the run of accepted events
(R65, R67). -/
def TurnSt.reject (t : TurnSt) (e : Int) : TurnSt :=
  { t with goodRun := 0, locked := t.locked && decide (e.natAbs < 2000), rejRun := if t.rejRun + 1 = 3 then 0 else t.rejRun + 1 }

/-- The local number of the turn in which a time base value lies: the turn before the boundary that opened the present one, the
turn in progress, or the one that the next boundary opens (R66). -/
def State.turnAt (s : State) (t : BitVec 64) : BitVec 48 :=
  if decide (t ≠ s.tm.bound) && decide ((s.tm.bound - t).toNat < 2 ^ 63) then s.tm.prevTurn
  else if decide ((t - s.tm.nextBound).toNat < 2 ^ 63) then s.tm.turn + 1
  else s.tm.turn

/-- A reference event (R62 to R70); one in the cycle of a LOAD_TIME is discarded (R70). In RUN (and in SAFE, where the time base also never jumps) a PPS or TURN_IN event
beyond the window is rejected, and a time cell of another turn number or half a turn off is not used. -/
def State.refEvent (s : State) (k : RefKind) (target : BitVec 64) (T : Nat) : State :=
  let e : Int := (target - s.now).toInt
  let running := decide (s.dev.st = .run) || decide (s.dev.st = .safe)
  if s.tm.loadClk = some s.clock then s
  else match k with
  | .cell n sent =>
    if running && (decide (n ≠ s.turnAt sent) || decide (2 * e.natAbs ≥ s.lenUs * 1000)) then
      let s1 := ({ s with tm := s.tm.unused e }).count 5122
      if s.tm.mismatch then s1 else s1.raise 0x049
    else s.acceptEvent k target e T
  | _ =>
    if running && decide (e.natAbs > s.fld 0x10010 16 8 * 1000) then
      let s1 := { s.count 5120 with tm := s.tm.reject e }
      if s.tm.rejRun + 1 = 3 then (s1.slub 0x0103 (BitVec.ofInt 32 e).toNat 0 0).raise 0x046 else s1
    else s.acceptEvent k target e T

/-- The whole multiple of p ns nearest to a time base value, the later of two at the same distance: which multiple an edge marks
(Table 2.2) is the model's choice (log 76). -/
def nearestMultiple (p : Nat) (t : BitVec 64) : BitVec 64 :=
  if p = 0 then t else BitVec.ofNat 64 ((t.toNat + p / 2) / p * p)

/-- PPS_EVENT: a rising edge of PPS_IN marks a whole second (R61 to R65); ignored unless TSRC is 0b01 and the device
follows nobody (R72). -/
def execPpsEvent (dt : Nat) (s : State) : Host.Outcome State Fault Refusal :=
  s.at_ dt (fun s =>
    if s.tm.srcActive = 1 then s.refEvent .pps (nearestMultiple 1000000000 s.now) 1000000000 else s)

/-- TURN_IN_EVENT: a rising edge of TURN_IN marks a boundary (R61 to R65); ignored unless TSRC is 0b10 (R72). -/
def execTurnInEvent (dt : Nat) (s : State) : Host.Outcome State Fault Refusal :=
  s.at_ dt (fun s =>
    if s.tm.srcActive = 2 then
      s.refEvent .turnIn (nearestMultiple (s.lenUs * 1000) s.now) (s.lenUs * 1000)
    else s)

/-- HOLDOVER_ENTRY (R68): no event accepted for 2 reference periods. -/
def execHoldoverEntry (dt : Nat) (s : State) : Host.Outcome State Fault Refusal :=
  s.at_ dt (fun s =>
    match s.refPeriod with
    | none => s
    | some T =>
      if !s.tm.holdover && decide (s.clock - s.tm.acceptedAt ≥ 2 * T) then
        let s1 := { s with
          tm := { s.tm with holdover := true, phaseTerm := 0, locked := false, goodRun := 0, holdTurns := 0 } }
        ((s1.count 5123).raise 0x045).refreshLimit
      else s)

/-- CASCADE_ALARM (R69): a follower of the cascade up link 64 turns in holdover. -/
def execCascadeAlarm (dt : Nat) (s : State) : Host.Outcome State Fault Refusal :=
  s.at_ dt (fun s =>
    if decide (s.tm.srcActive = 3) && !s.tm.plyFollow && s.tm.holdover && decide (s.tm.holdTurns ≥ 64) &&
        !s.tm.cascadeAlarm then
      (({ s with tm := { s.tm with cascadeAlarm := true } }).slub 0x0104 0 0 0).raise 0x047
    else s)

/-- LOAD_TIME (R55, R58): in SET-UP the time base takes TB_SET and the schedule is laid anew; in RUN nothing but a slub. -/
def execLoadTime (dt : Nat) (w : Wr) (s : State) : Host.Outcome State Fault Refusal :=
  s.at_ dt (fun s => s.wr 0x10030 w (fun s =>
    if bitOf w.data 0 then
      if s.dev.st = .setUp then
        let s1 := s.setTime (s.rwi 0x10024 ++ s.rwi 0x10020)
        ({ s1 with tm := { s1.tm with loadClk := some s1.clock } }).reschedule
      else if s.dev.st = .run then s.slub 0x0102 0 0 0
      else s
    else s))

/-- LOAD_TURN (R56 to R58): in SET-UP the next boundary takes TB_TURN_SET. -/
def execLoadTurn (dt : Nat) (w : Wr) (s : State) : Host.Outcome State Fault Refusal :=
  s.at_ dt (fun s => s.wr 0x10030 w (fun s =>
    if bitOf w.data 1 then
      if s.dev.st = .setUp then { s with tm := { s.tm with turnLoad := true } }
      else if s.dev.st = .run then s.slub 0x0102 0 0 0
      else s
    else s))

/-- TURN_OUT_PULSE_END (R71): OUT_WIDTH_US after the boundary TURN_OUTP goes below TURN_OUTN. -/
def execTurnOutPulseEnd (dt : Nat) (s : State) : Host.Outcome State Fault Refusal :=
  s.at_ dt (fun s =>
    if decide ((s.now - s.tm.origin).toNat ≥ s.outWidthUs * 1000) then
      { s with tm := { s.tm with pulse := false } }
    else s)

/-! ## Latching reads (R48, R383) -/

/-- The high 32 bits of a 64-bit value. -/
def hi32 (x : BitVec 64) : Word := BitVec.extractLsb' 32 32 x
/-- The low 32 bits of a 64-bit value. -/
def lo32 (x : BitVec 64) : Word := x.setWidth 32

/-- A read that returns a low word and, when it is a full word read, latches the high word in the reading port. -/
def State.latchRead (s : State) (off : Nat) (r : Rd) (lo : Word) (latch : PortSt → PortSt) : State :=
  let s1 := s.emit (.regRead r.port off lo)
  if r.full then s1.setPort r.port (latch (s1.port r.port)) else s1

/-- TB_NOW_LO_READ (R48). -/
def execTbNowLoRead (dt : Nat) (r : Rd) (s : State) : Host.Outcome State Fault Refusal :=
  s.at_ dt (fun s => s.latchRead 0x10040 r (lo32 s.now) (fun q => { q with nowHi := hi32 s.now }))

/-- TB_TURN_LO_READ (R48). -/
def execTbTurnLoRead (dt : Nat) (r : Rd) (s : State) : Host.Outcome State Fault Refusal :=
  s.at_ dt (fun s => s.latchRead 0x10048 r (lo32 (s.tm.turn.setWidth 64))
    (fun q => { q with turnHi := hi32 (s.tm.turn.setWidth 64) }))

/-- TB_BOUND_LO_READ (R48). -/
def execTbBoundLoRead (dt : Nat) (r : Rd) (s : State) : Host.Outcome State Fault Refusal :=
  s.at_ dt (fun s => s.latchRead 0x10050 r (lo32 s.tm.bound) (fun q => { q with boundHi := hi32 s.tm.bound }))

end Sys2Proof.Machine
end

