-- ==== Sys2Proof/Machine/Creel.lean ====
section
/-!
DEFINITION. The creel (R130 to R141), the exact-match table and the routes (R121 to R126), with their commands.
-/

namespace Sys2Proof.Machine

/-- Bobbins of the device (chapter 4). -/
def bobbinCount : Nat := 65536

/-- Use of a channel. -/
def State.use (s : State) (c : Nat) : ChUse := Tbl.lookD s.cr.use c {}
/-- Replace the use of a channel. -/
def State.setUse (s : State) (c : Nat) (u : ChUse) : State :=
  { s with cr := { s.cr with use := Tbl.put s.cr.use c {} u } }
/-- CR_CHn_QUOTA.RESERVE. -/
def State.rxReserve (s : State) (c : Nat) : Nat := s.fld (0x48104 + 32 * c) 0 16
/-- CR_CHn_QUOTA.LIMIT. -/
def State.rxLimit (s : State) (c : Nat) : Nat := s.fld (0x48104 + 32 * c) 16 16
/-- CR_CHn_SEND.SEND_LIMIT. -/
def State.sendLimit (s : State) (c : Nat) : Nat := s.fld (0x48108 + 32 * c) 0 16
/-- The sixteen channels. -/
def channels : List Nat := List.range 16
/-- CR_STATUS.FREE. -/
def State.bobFree (s : State) : Nat := bobbinCount - s.cr.bobs.length
/-- Σ RESERVE + Σ STREAM_RES. -/
def State.reservedSum (s : State) : Nat :=
  (channels.map (fun c => s.rxReserve c + (s.use c).res)).sum
/-- Bobbins of frames that only pass through this position of a cascade (R489). -/
def State.passing (s : State) : Nat := (s.cr.bobs.filter (fun e => decide (e.2.cls = .relay))).length
/-- Free bobbins of the shared pool (R132). Frames that only pass through count as its use, so that no reserve is eaten (DESIGN
CHOICE, log 37). -/
def State.sharedFree (s : State) : Nat :=
  bobbinCount - s.reservedSum - (channels.map (fun c => ((s.use c).rx - s.rxReserve c) + (s.use c).send)).sum - s.passing

/-- CR_STATUS.LOW follows FREE; 0x021 is raised when it becomes 1 (R141). -/
def State.refreshLow (s : State) : State :=
  let low := decide (s.bobFree < s.fld 0x48030 0 17)
  let s1 := { s with cr := { s.cr with low := low } }
  if low && !s.cr.low then s1.raise 0x021 else s1

/-- Use of a class of bobbin, changed by a function. A frame that only passes through a position is charged to no channel
(log 37). -/
def ChUse.upd (u : ChUse) (k : BobClass) (f : Nat → Nat) : ChUse :=
  match k with
  | .rx => { u with rx := f u.rx }
  | .send => { u with send := f u.send }
  | .stream => { u with stream := f u.stream }
  | .relay => u

/-- May a received frame of a channel take a bobbin (R133)? None can be taken while FREE is 0, as after a commit that raised a
reserve over bobbins in use (R136, log 37). -/
def State.rxOk (s : State) (c : Nat) : Bool :=
  decide (s.bobFree > 0) &&
  (decide ((s.use c).rx < s.rxReserve c) ||
    (decide ((s.use c).rx < s.rxLimit c) && decide (s.sharedFree > 0)))
/-- May a SEND of a channel take a bobbin (R133)? -/
def State.sendOk (s : State) (c : Nat) : Bool :=
  decide (s.bobFree > 0) && decide ((s.use c).send < s.sendLimit c) && decide (s.sharedFree > 0)

/-- The index the next bobbin gets: the lowest free one. -/
def State.nextBob (s : State) : Nat := Tbl.firstFree s.cr.bobs 0

/-- Take the next bobbin for a channel and class. -/
def State.takeBob (s : State) (b : Bobbin) : State :=
  let s1 := { s with
    cr := { s.cr with
      bobs := Tbl.ins s.cr.bobs s.nextBob b
      use := Tbl.put s.cr.use b.ch {} ((s.use b.ch).upd b.cls (· + 1)) } }
  s1.refreshLow

/-- A bobbin. -/
def State.bob (s : State) (i : Nat) : Option Bobbin := Tbl.look s.cr.bobs i

/-- A bobbin returns to the free pool (R131). -/
def State.freeBob (s : State) (i : Nat) : State :=
  match s.bob i with
  | none => s
  | some b =>
    let s1 := { s with
      cr := { s.cr with
        bobs := Tbl.del s.cr.bobs i
        use := Tbl.put s.cr.use b.ch {} ((s.use b.ch).upd b.cls (· - 1)) } }
    s1.refreshLow

/-- One destination releases a bobbin; the last one frees it (R27, R131). -/
def State.dropHolder (s : State) (i : Nat) : State :=
  match s.bob i with
  | none => s
  | some b =>
    if b.holders ≤ 1 then s.freeBob i
    else { s with cr := { s.cr with bobs := Tbl.ins s.cr.bobs i { b with holders := b.holders - 1 } } }

/-! ## Uncorrectable reads of the SRAM (R432, R435) -/

/-- A row's state. -/
def State.row (s : State) (r : Nat) : RowSt := Tbl.lookD s.mm.rows r {}
/-- Replace a row's state. -/
def State.setRow (s : State) (r : Nat) (v : RowSt) : State := { s with mm := { s.mm with rows := Tbl.put s.mm.rows r {} v } }

/-- An uncorrectable read is reported (R432, R435): the row's UE bit, MM_LAST_UE, the region's counter, the slub and the source. -/
def State.ueReport (s : State) (row region : Nat) : State :=
  let s1 := s.setRow row { s.row row with ue := true }
  (((({ s1 with mm := { s1.mm with lastUeRow := row, lastUeRegion := region } }).count (5712 + region - 1)).slub 0x0C04 row region
    0).raise 0x009)

/-- An exact-match entry is written anew: what made its word uncorrectable is gone. -/
def State.emMend (s : State) (i : Nat) : State := { s with mm := { s.mm with emBad := Tbl.del s.mm.emBad i } }

/-! ## Exact-match table -/

/-- The 34-bit key value k of R121. -/
def emKey (ch : Nat) (ide : Bool) (id : BitVec 29) : Nat := id.toNat + b01 ide * 2 ^ 29 + ch * 2 ^ 30

/-- Bucket of a key (R121). -/
def emBucket (ch : Nat) (ide : Bool) (id : BitVec 29) : Nat :=
  let k := emKey ch ide id
  (k % 8192) ^^^ ((k / 2 ^ 13) % 8192) ^^^ ((k / 2 ^ 26) % 256)

/-- Does an entry carry a key? -/
def EmEntry.hasKey (e : EmEntry) (ch : Nat) (ide : Bool) (id : BitVec 29) : Bool :=
  decide (e.ch = ch) && decide (e.ide = ide) && decide (e.id = id)

/-- The index of the entry with a key, if any. -/
def State.emFind (s : State) (ch : Nat) (ide : Bool) (id : BitVec 29) : Option Nat :=
  ((List.range 4).map (fun w => emBucket ch ide id * 4 + w)).find? (fun i =>
    match Tbl.look s.cr.em i with
    | some e => e.hasKey ch ide id
    | none => false)

/-- The first invalid way of a key's bucket (R122). -/
def State.emFree (s : State) (ch : Nat) (ide : Bool) (id : BitVec 29) : Option Nat :=
  ((List.range 4).map (fun w => emBucket ch ide id * 4 + w)).find? (fun i => (Tbl.look s.cr.em i).isNone)

/-- Start a table command whose result and index will be shown at its completion. -/
def State.tblStart (s : State) (em : Bool) (result : Nat) (index : Option Nat) : State :=
  { s with cr := { s.cr with cmd := some { em := em, result := result, index := index } } }

/-- CR_EM_KEY.ID. -/
def State.emId (s : State) : BitVec 29 := (s.rwi 0x48000).setWidth 29
/-- CR_EM_KEY.IDE. -/
def State.emIde (s : State) : Bool := bitOf (s.rwi 0x48000) 29
/-- CR_EM_ARG.CHANNEL. -/
def State.emCh (s : State) : Nat := fieldOf (s.rwi 0x48004) 0 4

/-- INSERT (R122): replace, or write the first invalid way, or BUCKET_FULL. A FDF of 0b11 ends MALFORMED (Table 4.2). -/
def State.emInsert (s : State) : State :=
  let fdf := fieldOf (s.rwi 0x48004) 4 2
  let route := fieldOf (s.rwi 0x48004) 16 12
  if fdf = 3 then s.tblStart true 7 none
  else
    match s.emFind s.emCh s.emIde s.emId with
    | some i =>
      let old := Tbl.lookD s.cr.em i ⟨s.emCh, s.emIde, s.emId, 0, 0, 0⟩
      (({ s.emMend i with cr := { s.cr with em := Tbl.ins s.cr.em i { old with fdf := fdf, route := route } } }).tblStart true 2
        (some i)).coverChange
    | none =>
      match s.emFree s.emCh s.emIde s.emId with
      | some i =>
        (({ s.emMend i with cr := { s.cr with em := Tbl.ins s.cr.em i ⟨s.emCh, s.emIde, s.emId, fdf, route, 0⟩ } }).tblStart true 1
          (some i)).coverChange
      | none => s.tblStart true 5 none

/-- DELETE (R123). -/
def State.emDelete (s : State) : State :=
  if fieldOf (s.rwi 0x48004) 4 2 = 3 then s.tblStart true 7 none
  else
    match s.emFind s.emCh s.emIde s.emId with
    | some i => (({ s.emMend i with cr := { s.cr with em := Tbl.del s.cr.em i } }).tblStart true 3 (some i)).coverChange
    | none => s.tblStart true 6 none

/-- An exact-match entry appears in the registers (R124). -/
def State.emShow (s : State) (e : EmEntry) : State :=
  let s1 := s.setRwi 0x48000 (packWord [(0, e.id.toNat), (29, b01 e.ide)])
  let s2 := s1.setRwi 0x48004 (packWord [(0, e.ch), (4, e.fdf), (16, e.route)])
  { s2 with cr := { s2.cr with emHits := e.hits } }

/-- READ (R123): load CR_EM_KEY, CR_EM_ARG and CR_EM_HITS from the entry at CR_EM_INDEX. Table 4.2 ends a command that carries
FDF 0b11 MALFORMED; a READ carries what CR_EM_ARG holds (DESIGN CHOICE, log 81). -/
def State.emRead (s : State) : State :=
  let i := fieldOf (s.rwi 0x48008) 0 15
  if fieldOf (s.rwi 0x48004) 4 2 = 3 then s.tblStart true 7 none
  else
    match Tbl.look s.cr.em i with
    | none => s.tblStart true 6 none
    | some e => (s.emShow e).tblStart true 4 (some i)

/-- Number of command bits set in the low n bits of a word. -/
def bitsSet (x : Word) (n : Nat) : Nat := ((List.range n).filter (fun i => bitOf x i)).length

/-- A write of CR_EM_CMD: BUSY while a table command runs, MALFORMED with more than one bit set (R124). -/
def State.emCmd (s : State) (bit : Nat) (w : Wr) (f : State → State) : State :=
  s.wr 0x4800C w (fun s =>
    if s.cr.cmd.isSome then s.discard 0x4800C w.port reasonBusy
    else if bitsSet w.data 3 > 1 then s.tblStart true 7 none
    else if bitOf w.data bit then f s else s)

/-- EM_INSERT. -/
def execEmInsert (dt : Nat) (w : Wr) (s : State) : Host.Outcome State Fault Refusal :=
  s.at_ dt (fun s => s.emCmd 0 w State.emInsert)
/-- EM_DELETE. -/
def execEmDelete (dt : Nat) (w : Wr) (s : State) : Host.Outcome State Fault Refusal :=
  s.at_ dt (fun s => s.emCmd 1 w State.emDelete)
/-- EM_READ. -/
def execEmRead (dt : Nat) (w : Wr) (s : State) : Host.Outcome State Fault Refusal :=
  s.at_ dt (fun s => s.emCmd 2 w State.emRead)

/-! ## Routes -/

/-- A route's DATA0 and DATA1; after reset every destination is disabled. -/
def State.route (s : State) (i : Nat) : Word × Word := Tbl.lookD s.cr.rt i (0, 0)

/-- A write of CR_RT_CMD (R124). -/
def State.rtCmd (s : State) (bit : Nat) (w : Wr) (f : State → State) : State :=
  s.wr 0x4802C w (fun s =>
    if s.cr.cmd.isSome then s.discard 0x4802C w.port reasonBusy
    else if bitsSet w.data 2 > 1 then s.tblStart false 3 none
    else if bitOf w.data bit then f s else s)

/-- Store DATA0 and DATA1 into route INDEX. -/
def State.rtWrite (s : State) : State :=
  let i := fieldOf (s.rwi 0x48020) 0 12
  (({ s with
    cr := { s.cr with rt := Tbl.put s.cr.rt i (0, 0) (s.rwi 0x48024, s.rwi 0x48028) } }).tblStart false 1
      none).coverChange

/-- Load DATA0 and DATA1 from route INDEX. -/
def State.rtRead (s : State) : State :=
  let v := s.route (fieldOf (s.rwi 0x48020) 0 12)
  ((s.setRwi 0x48024 v.1).setRwi 0x48028 v.2).tblStart false 2 none

/-- ROUTE_WRITE. -/
def execRouteWrite (dt : Nat) (w : Wr) (s : State) : Host.Outcome State Fault Refusal :=
  s.at_ dt (fun s => s.rtCmd 0 w State.rtWrite)
/-- ROUTE_READ. -/
def execRouteRead (dt : Nat) (w : Wr) (s : State) : Host.Outcome State Fault Refusal :=
  s.at_ dt (fun s => s.rtCmd 1 w State.rtRead)

/-- TABLE_COMMAND_COMPLETE (R124): EM_BUSY or RT_BUSY returns to 0 and the result is shown. EM_INDEX keeps its value after a
command that acted on no entry (DESIGN CHOICE, log 81). -/
def execTableCommandComplete (dt : Nat) (s : State) : Host.Outcome State Fault Refusal :=
  s.at_ dt (fun s =>
    match s.cr.cmd with
    | none => s
    | some k =>
      { s with
        cr :=
          if k.em then { s.cr with cmd := none, emResult := k.result, emIndex := k.index.getD s.cr.emIndex }
          else { s.cr with cmd := none, rtResult := k.result } })

end Sys2Proof.Machine
end

