-- ==== Sys2Proof/Machine/Drafting.lean ====
section
/-!
DEFINITION. The drafting engine's analysis (R154 to R167): arbitration keys, frame times, the bus model of a channel, the
response time, and the checks of Table 5.7. Times are whole numbers of picoseconds: tn is a multiple of 6,250 ps, and
f = 1 − DEV_MAX_PPM × 10^−6 turns a microsecond into 10^6 − DEV_MAX_PPM ps, so that nothing is rounded.
-/

namespace Sys2Proof

/-- Arbitration key (Table 3.5). -/
def arbKey (id : BitVec 29) (ide rtr : Bool) : Word :=
  if ide then BitVec.ofNat 32 ((id.toNat / 2 ^ 18) * 2 ^ 21 + 2 ^ 20 + 2 ^ 19 + (id.toNat % 2 ^ 18) * 2 + b01 rtr)
  else BitVec.ofNat 32 ((id.toNat % 2 ^ 11) * 2 ^ 21 + b01 rtr * 2 ^ 20)

/-- Key of a frame. -/
def Frame.key (f : Frame) : Word := arbKey f.id f.ide f.rtr

/-- FORMAT of a frame (Table 5.2). -/
def Frame.format (f : Frame) : Nat := if f.fdf then (if f.brs then 2 else 1) else 0

/-- Key of a foreign declaration. -/
def ForeignBody.key (b : ForeignBody) : Word := arbKey b.id b.ide b.rtr

end Sys2Proof

namespace Sys2Proof.Machine

/-- Nominal and data-phase bits of the worst-case frame (R158). -/
def frameBits (fmt : Nat) (ide : Bool) (s : Nat) : Nat × Nat :=
  if fmt = 0 then
    let g := if ide then 54 else 34
    (g + 8 * s + 13 + (g + 8 * s - 1) / 4, 0)
  else
    let a := if ide then 36 else 17
    let nom := a + (a - 1) / 4 + 13
    let d := 5 + 8 * s
    let dat := d + ceilDiv d 4 + (if s ≤ 16 then 27 else 32)
    if fmt = 2 then (nom, dat) else (nom + dat, 0)

/-- A view of committed registers: the live ones, or those a commit would make live. -/
abbrev CfgView := Nat → Word

/-- Window of a channel's SP_CHn registers. -/
def spChBase (ch : Nat) : Nat := 0x38000 + 0x400 * ch
/-- Window of a channel's DR_CHn registers. -/
def drChBase (ch : Nat) : Nat := 0x51000 + 0x40 * ch

/-- Nominal bit time of a channel in ps (R76, R77). -/
def tnPs (v : CfgView) (ch : Nat) : Nat :=
  let w := v (spChBase ch + 4)
  (fieldOf w 0 9 + 1) * (1 + (fieldOf w 9 8 + 1) + (fieldOf w 17 7 + 1)) * 6250
/-- Data-phase bit time of a channel in ps. -/
def tdPs (v : CfgView) (ch : Nat) : Nat :=
  let w := v (spChBase ch + 8)
  (fieldOf w 0 5 + 1) * (1 + (fieldOf w 5 5 + 1) + (fieldOf w 10 4 + 1)) * 6250

/-- Frame time in ps (R158). -/
def frameTime (v : CfgView) (ch fmt : Nat) (ide : Bool) (s : Nat) : Nat :=
  let b := frameBits fmt ide s
  b.1 * tnPs v ch + b.2 * tdPs v ch

/-- Nanoseconds of a time in ps. -/
def nsOf (ps : Nat) : Nat := roundDiv .ns ps 1000

/-- 10^6 − DEV_MAX_PPM: f in millionths. -/
def fMillion (v : CfgView) : Nat := 1000000 - fieldOf (v 0x10010) 0 9
/-- L in µs. -/
def lenOf (v : CfgView) : Nat := fieldOf (v 0x10004) 0 14

/-- What an item of the bus model is. -/
inductive ItemId where
  | stream (n : Nat)
  | foreign (i : Nat)
  | bestEffort
  deriving DecidableEq, Repr

/-- An item of the bus model with its parameters in ps (Table 5.6); `d` is none where the deadline is not checked. -/
structure Item where
  id : ItemId
  key : Nat
  c : Nat
  t : Nat
  j : Nat
  d : Option Nat
  deriving DecidableEq, Repr

/-- The relay entry with OUT LOCAL that names a stream, if any: its HOPS (R491). -/
def State.relayHops (s : State) (n : Nat) : Option Nat :=
  (s.cs.rlyLive.find? (fun e =>
    let d0 := e.2.getD 0 0
    bitOf d0 0 && decide (fieldOf d0 1 2 = 2) && decide (fieldOf d0 4 12 = n))).map (fun e => fieldOf (e.2.getD 0 0) 24 4)

/-- Jitter of a local stream in ps (Table 5.6, R491). -/
def State.jitterPs (s : State) (b : OpenBody) : Nat :=
  let extra := match s.relayHops b.stream.val with | some h => h * s.cs.hopUs | none => 0
  (b.jitter.toNat + extra + 1) * 1000000

/-- The item of a transmit stream. -/
def State.streamItem (s : State) (v : CfgView) (b : OpenBody) : Item :=
  { id := .stream b.stream.val
    key := (arbKey b.id b.ide false).toNat
    c := frameTime v b.ch.val b.format.toNat b.ide b.len.toNat
    t := (if b.kind = 0 then b.period.toNat * lenOf v else b.offIa.toNat) * fMillion v
    j := s.jitterPs b
    d := some (b.deadline.toNat * fMillion v) }

/-- The item of a foreign declaration. -/
def foreignItem (v : CfgView) (b : ForeignBody) : Item :=
  { id := .foreign b.index.val
    key := b.key.toNat
    c := frameTime v b.ch.val b.format.toNat b.ide b.len.toNat
    t := b.period.toNat * 1000000
    j := b.jitter.toNat * 1000000
    d := if b.deadline = 0 then none else some (b.deadline.toNat * 1000000) }

/-- BE_PERIOD_US. -/
def bePeriod (v : CfgView) (ch : Nat) : Nat := fieldOf (v (drChBase ch + 4)) 0 24
/-- BE_KEY. -/
def beKey (v : CfgView) (ch : Nat) : Word := v (drChBase ch + 8)
/-- Frame time of the best-effort pseudo-stream (R155). -/
def beTime (v : CfgView) (ch : Nat) : Nat :=
  frameTime v ch (fieldOf (v (drChBase ch + 12)) 0 2) (bitOf (beKey v ch) 19) (fieldOf (v (drChBase ch + 4)) 24 7)

/-- The best-effort pseudo-stream; none where BE_PERIOD_US of 0 disables SEND. -/
def beItem (v : CfgView) (ch : Nat) : List Item :=
  if bePeriod v ch = 0 then []
  else [{ id := .bestEffort, key := (beKey v ch).toNat, c := beTime v ch, t := bePeriod v ch * fMillion v,
          j := 1000000, d := none }]

/-- Is a stream of the table open (any state but CLOSED)? -/
def Stream.isOpen (x : Stream) : Bool := decide (x.st ≠ .closed)
/-- Is it a transmit stream? -/
def Stream.isTx (x : Stream) : Bool := decide (x.cfg.kind ≠ 2)

/-- Open streams of a channel, with their numbers. -/
def State.chStreams (s : State) (ch : Nat) : List (Nat × Stream) :=
  s.dr.streams.filter (fun e => e.2.isOpen && decide (e.2.cfg.ch.val = ch))
/-- Foreign declarations of a channel. -/
def State.chForeign (s : State) (ch : Nat) : List (Nat × Foreign) :=
  s.dr.foreign.filter (fun e => decide (e.2.cfg.ch.val = ch))

/-- A declaration in force: applied, or withdrawn and not yet out (R166). -/
def Foreign.inForce (f : Foreign) : Bool := f.leaving || decide (f.toLive = 0)
/-- Declarations of a channel that are in force. -/
def State.declared (s : State) (ch : Nat) : List (Nat × Foreign) := (s.chForeign ch).filter (fun e => e.2.inForce)

/-- The bus model of a channel (chapter 5, "The bus model"). -/
def State.model (s : State) (v : CfgView) (ch : Nat) : List Item :=
  ((s.chStreams ch).filter (fun e => e.2.isTx)).map (fun e => s.streamItem v e.2.cfg) ++
  (s.chForeign ch).map (fun e => foreignItem v e.2.cfg) ++ beItem v ch

/-! ## Response time (R159) -/

/-- The channel's figures the response time uses, in ps. -/
structure Bus where
  tn : Nat
  e : Nat
  w : Nat
  limit : Nat

/-- Figures of a channel. -/
def busOf (v : CfgView) (ch : Nat) : Bus :=
  { tn := tnPs v ch, e := fieldOf (v (drChBase ch)) 0 8, w := fieldOf (v (drChBase ch)) 8 24,
    limit := 3 * lenOf v * 1000000 }

/-- Largest frame time of a list of items. -/
def maxC (l : List Item) : Nat := l.foldl (fun m i => max m i.c) 0

/-- errors(t). -/
def Bus.errors (b : Bus) (t : Nat) : Nat := if b.e = 0 then 0 else b.e * (t / (b.w * b.tn) + 1)

/-- err_cost(t, i), given the largest frame time of hep(i). -/
def Bus.errCost (b : Bus) (t mx : Nat) : Nat := b.errors t * (31 * b.tn + mx)

/-- Iterate a non-decreasing function to its fixed point; none above the limit. The fuel is more than the iterations
there can be: each adds a frame time, and 3 turns hold fewer. -/
def fixPoint (f : Nat → Nat) (past : Nat → Bool) : Nat → Nat → Option Nat
  | 0, _ => none
  | n + 1, t =>
    let t' := f t
    if past t' then none else if t' = t then some t else fixPoint f past n t'

/-- response(i) over a model, with Q; none for infinity. -/
def response (b : Bus) (items : List Item) (i : Item) : Option (Nat × Nat) :=
  let others := items.filter (fun k => decide (k.id ≠ i.id))
  let hp := others.filter (fun k => decide (k.key ≤ i.key))
  let lp := others.filter (fun k => decide (k.key > i.key))
  let hep := i :: hp
  let mx := maxC hep
  let bl := maxC lp
  match fixPoint (fun t => bl + b.errCost t mx + (hep.map (fun k => ceilDiv (t + k.j) k.t * k.c)).sum)
      (fun t => decide (t > b.limit)) 4096 i.c with
  | none => none
  | some t =>
    let q := ceilDiv (t + i.j) i.t
    let r := (List.range q).foldl (fun (acc : Option Nat) n =>
      match acc with
      | none => none
      | some best =>
        let base := bl + n * i.c
        match fixPoint
            (fun w => base + b.errCost (w + i.c) mx + (hp.map (fun k => ceilDiv (w + k.j + b.tn) k.t * k.c)).sum)
            (fun w => decide (i.j + w + i.c > b.limit + n * i.t)) 4096 base with
        | none => none
        | some w => some (max best (i.j + w + i.c - n * i.t))) (some 0)
    r.map (fun x => (x, q))

/-- reserve (R163). -/
def reserveOf (i : Item) (r : Nat) : Nat := ceilDiv (r + i.j) i.t

/-! ## Checks of Table 5.7 -/

/-- The source declaration of a receive stream: the cyclic foreign declaration with its channel and key. -/
def State.sourceOf (s : State) (ch : Nat) (key : Word) : Option Foreign :=
  ((s.chForeign ch).find? (fun e => decide (e.2.key = key) && !e.2.cfg.sporadic)).map (·.2)

/-- Check 0x02: FORMAT against the committed FD_EN and BRS_EN. -/
def formatOk (v : CfgView) (ch fmt : Nat) : Bool :=
  let m := v (spChBase ch)
  decide (fmt = 0) || (bitOf m 4 && (decide (fmt ≠ 2) || bitOf m 5))

/-- An item's response lies within its deadline, where one is checked. -/
def meets (i : Item) (r : Nat) : Bool := match i.d with | none => true | some d => decide (r ≤ d)

/-- Check 0x06 for one item: a deadline passed, or for a checked item the turn limit reached. -/
def itemOk (b : Bus) (items : List Item) (i : Item) : Bool :=
  match i.d with
  | none => true
  | some _ => match response b items i with | none => false | some (r, _) => meets i r

/-- Check 0x07 for a receive stream and the response of its source: T + J + R − C ≤ S × L × f. -/
def staleOk (v : CfgView) (b : Bus) (items : List Item) (x : OpenBody) (src : Foreign) : Bool :=
  let i := foreignItem v src.cfg
  match response b items i with
  | none => false
  | some (r, _) => decide (i.t + i.j + r - i.c ≤ x.stale.toNat * lenOf v * fMillion v)

/-- Check 0x07 over the receive streams of a channel. -/
def State.allStaleOk (s : State) (v : CfgView) (ch : Nat) (items : List Item) (extra : List OpenBody) : Bool :=
  (extra ++ ((s.chStreams ch).filter (fun e => !e.2.isTx)).map (·.2.cfg)).all (fun x =>
    match s.sourceOf ch (arbKey x.id x.ide false) with
    | none => true
    | some f => staleOk v (busOf v ch) items x f)

/-- Ready-set places of a channel that drafts have reserved (R96). -/
def State.places (s : State) (ch : Nat) : Nat := ((s.chStreams ch).map (·.2.reserve)).sum

/-- SEND bobbins in a channel's ready set. -/
def Channel.sends (c : Channel) : Nat :=
  (c.ready.filter (fun r => match r.kind with | .send _ => true | _ => false)).length

/-- Can the ready set of a channel grant the places of a reserve (R96)? -/
def State.canPlace (s : State) (ch n : Nat) : Bool := decide (s.places ch + (s.ch ch).sends + n ≤ 1024)

/-- What a draft decides: the first check of Table 5.7 that fails, with the status of the refusal, or 0 with R in ps, the reserve
and Q. -/
structure Verdict where
  reason : Nat
  status : Nat := 1
  r : Nat := 0
  reserve : Nat := 0
  q : Nat := 0
  deriving DecidableEq, Repr

/-- Does a stream or declaration of the channel carry a key? -/
def State.keyUsed (s : State) (ch : Nat) (key : Word) (stream foreign : Bool) : Bool :=
  (s.chStreams ch).any (fun e => decide (e.2.key = key) && (e.2.isTx || stream)) ||
  (s.chForeign ch).any (fun e => decide (e.2.key = key) && (e.2.cfg.sporadic || foreign))

/-- The draft of a stream (R161, Table 5.7). A reserve that the shared pool cannot cover ends it NO_RESOURCE (R134, log 50). -/
def State.judgeStream (s : State) (b : OpenBody) : Verdict :=
  let v := s.live
  let ch := b.ch.val
  let key := arbKey b.id b.ide false
  let bus := busOf v ch
  let tx := decide (b.kind ≠ 2)
  if s.keyUsed ch key true tx then { reason := 1 }
  else if formatOk v ch b.format.toNat = false then { reason := 2 }
  else if tx then
    let i := s.streamItem v b
    let items := s.model v ch ++ [i]
    match response bus items i with
    | none => { reason := 4 }
    | some (r, q) =>
      if meets i r = false then { reason := 5 }
      else if (items.all (fun k => itemOk bus items k)) = false then { reason := 6 }
      else if s.allStaleOk v ch items [] = false then { reason := 7 }
      else if s.sharedFree < reserveOf i r then { reason := 8, status := 7 }
      else if s.canPlace ch (reserveOf i r) = false then { reason := 8 }
      else { reason := 0, r := r, reserve := reserveOf i r, q := q }
  else
    match s.sourceOf ch key with
    | none => { reason := 3 }
    | some f =>
      let items := s.model v ch
      if (items.all (fun k => itemOk bus items k)) = false then { reason := 6 }
      else if s.allStaleOk v ch items [b] = false then { reason := 7 }
      else
        match response bus items (foreignItem v f.cfg) with
        | none => { reason := 7 }
        | some (r, _) => { reason := 0, r := r }

/-- The draft of an added foreign declaration. -/
def State.judgeForeign (s : State) (b : ForeignBody) : Verdict :=
  let v := s.live
  let ch := b.ch.val
  let bus := busOf v ch
  let i := foreignItem v b
  let items := s.model v ch ++ [i]
  if s.keyUsed ch b.key b.sporadic true then { reason := 1 }
  else if formatOk v ch b.format.toNat = false then { reason := 2 }
  else
    match response bus items i with
    | none => { reason := 4 }
    | some (r, _) =>
      if meets i r = false then { reason := 5 }
      else if (items.all (fun k => itemOk bus items k)) = false then { reason := 6 }
      else if s.allStaleOk v ch items [] = false then { reason := 7 }
      else { reason := 0, r := r }

/-- Is a declaration the source of a PENDING or LIVE receive stream (R166)? -/
def State.isSource (s : State) (f : Foreign) : Bool :=
  !f.cfg.sporadic && (s.chStreams f.cfg.ch.val).any (fun e =>
    !e.2.isTx && decide (e.2.key = f.key) && decide (e.2.st = .pending ∨ e.2.st = .live))

/-! ## Figures of the latest analysis -/

/-- R in ps that a response gives, 0 where it is infinite (an item that is not checked). -/
def respPs (b : Bus) (items : List Item) (i : Item) : Nat :=
  match response b items i with | none => 0 | some (r, _) => r

/-- R_NS and Q of every item of a channel from an analysis of its model (Tables 5.13, 5.14). -/
def State.refreshR (s : State) (ch : Nat) : State :=
  let v := s.live
  let b := busOf v ch
  let items := s.model v ch
  { s with
    dr := { s.dr with
      streams := s.dr.streams.map (fun e =>
        if e.2.isOpen && decide (e.2.cfg.ch.val = ch) then
          if e.2.isTx then
            match response b items (s.streamItem v e.2.cfg) with
            | none => e
            | some (r, q) => (e.1, { e.2 with rNs := nsOf r, q := q })
          else
            match s.sourceOf ch e.2.key with
            | none => e
            | some f => (e.1, { e.2 with rNs := nsOf (respPs b items (foreignItem v f.cfg)) })
        else e)
      foreign := s.dr.foreign.map (fun e =>
        if e.2.cfg.ch.val = ch then (e.1, { e.2 with rNs := nsOf (respPs b items (foreignItem v e.2.cfg)) }) else e) } }

/-! ## Re-analysis at a commit (R167) -/

/-- Would a live or pending item of a channel fail a check of Table 5.7 under a view? Check 0x08 is judged over all
channels together by `reservesUnder`. -/
def State.reanalysisOk (s : State) (v : CfgView) (ch : Nat) : Bool :=
  let b := busOf v ch
  let items := s.model v ch
  ((s.chStreams ch).filter (fun e => decide (e.2.st ≠ .closing))).all (fun e =>
      formatOk v ch e.2.cfg.format.toNat &&
      (!e.2.isTx || itemOk b items (s.streamItem v e.2.cfg))) &&
  (s.chForeign ch).all (fun e => formatOk v ch e.2.cfg.format.toNat && itemOk b items (foreignItem v e.2.cfg)) &&
  ((s.chStreams ch).filter (fun e => !e.2.isTx && decide (e.2.st ≠ .closing))).all (fun e =>
    match s.sourceOf ch e.2.key with | none => true | some f => staleOk v b items e.2.cfg f)

/-- The reserve of a live or pending transmit stream under a view; other streams keep theirs. -/
def State.reserveUnder (s : State) (v : CfgView) (chs : List Nat) (x : Stream) : Nat :=
  if x.isTx && decide (x.st = .pending ∨ x.st = .live) && chs.contains x.cfg.ch.val then
    let ch := x.cfg.ch.val
    let i := s.streamItem v x.cfg
    match response (busOf v ch) (s.model v ch) i with
    | none => x.reserve
    | some (r, _) => reserveOf i r
  else x.reserve

/-- Check 0x08 at a re-analysis: the pool and every ready set can hold the new reserves. -/
def State.reservesOk (s : State) (v : CfgView) (chs : List Nat) : Bool :=
  let opn := s.dr.streams.filter (fun e => e.2.isOpen)
  let old := (opn.map (·.2.reserve)).sum
  let new := (opn.map (fun e => s.reserveUnder v chs e.2)).sum
  decide (new ≤ old + s.sharedFree) &&
  chs.all (fun ch =>
    decide ((((s.chStreams ch).map (fun e => s.reserveUnder v chs e.2)).sum) + (s.ch ch).sends ≤ 1024))

/-- Re-analysis of channels under a view. -/
def State.reanalyse (s : State) (v : CfgView) (chs : List Nat) : Bool :=
  chs.all (fun ch => s.reanalysisOk v ch) && s.reservesOk v chs

end Sys2Proof.Machine
end

