-- ==== Sys2Proof/Machine/Promise.lean ====
section
/-!
DEFINITION. The promise (R169 to R182, R604, R605): releases and their judgement, misses, and breaches with their
reports.
-/

namespace Sys2Proof.Machine

/-- A stream's table entry; none where the number has never been opened. -/
def State.stream (s : State) (n : Nat) : Option Stream := Tbl.look s.dr.streams n
/-- Replace a stream's entry. -/
def State.setStream (s : State) (n : Nat) (x : Stream) : State :=
  { s with dr := { s.dr with streams := Tbl.ins s.dr.streams n x } }
/-- Change a stream's entry, where there is one. -/
def State.modStream (s : State) (n : Nat) (f : Stream → Stream) : State :=
  match s.stream n with
  | some x => s.setStream n (f x)
  | none => s

/-- A channel's breach. -/
def State.breach (s : State) (ch : Nat) : Breach := Tbl.lookD s.dr.breach ch {}
/-- Replace a channel's breach. -/
def State.setBreach (s : State) (ch : Nat) (b : Breach) : State :=
  { s with dr := { s.dr with breach := Tbl.put s.dr.breach ch {} b } }

/-- A STREAM_STATUS entry goes to each skein that DR_NOTIFY enables (R180). -/
def State.status (s : State) (b : EntryBody) : State := s.notifyBoth 0x50004 b

/-- Has the time base reached an instant? -/
def State.reached (s : State) (t : BitVec 64) : Bool := decide ((s.now - t).toNat < 2 ^ 63)

/-! ## Judgement of a release -/

/-- Stream counts hold 48 bits and saturate (R184). -/
def satCount (n : Nat) : Nat := min (2 ^ 48 - 1) n

/-- Counts of a stream after one of its releases is judged (R181): its lateness in ns, none without an end of frame. A release
of an earlier life of the number counts in the MISS entry of its turn alone (R182). -/
def Stream.judged (x : Stream) (r : Rel) (late : Option Int) (cov : Bool) : Stream :=
  let miss := match late with | none => true | some l => decide (l > 0)
  let lateNs : Int := late.getD (2 ^ 31 - 1)
  let bad := miss && !cov
  let y := if r.old then x
    else { x with
      misses := if miss then satCount (x.misses + 1) else x.misses
      uncovered := if bad then satCount (x.uncovered + 1) else x.uncovered
      minSlack := min x.minSlack (match late with | none => -(2 ^ 31) | some l => max (-(2 ^ 31)) (min (2 ^ 31 - 1) (-l)))
      maxResp := match late with
        | none => x.maxResp
        | some _ => max x.maxResp (min (2 ^ 32 - 1) (r.eofT - r.at_).toNat) }
  { y with
    turnCh := if bad then r.ch else x.turnCh
    turnMiss := if bad then x.turnMiss + 1 else x.turnMiss
    turnLate := if bad then (if x.turnMiss = 0 then lateNs else max x.turnLate lateNs) else x.turnLate
    rels := x.rels.filter (fun k => decide (k.id ≠ r.id)) }

/-- Status of the completion of a sporadic STREAM_DATA (R339): TIMEOUT when aborted, BREACH when a miss, else OK. -/
def Rel.complStatus (r : Rel) (miss : Bool) : Nat := if r.status ≠ 0 then r.status else if miss then 6 else 0

/-- A release is judged: counts, the report of an uncovered miss (R182), the breach's count of covered misses (R179), and
the completion of a sporadic STREAM_DATA (R150, R339). -/
def State.judge (s : State) (n : Nat) (r : Rel) (late : Option Int) : State :=
  match s.stream n with
  | none => s
  | some x =>
    let miss := match late with | none => true | some l => decide (l > 0)
    let lateNs : Int := late.getD (2 ^ 31 - 1)
    let s1 := s.setStream n (x.judged r late r.cov)
    let s2 :=
      if miss && !r.cov then
        let a := { s1 with dr := { s1.dr with uncovTurn := s1.dr.uncovTurn + 1 } }
        (a.slub 0x0405 n (sat32 lateNs).toNat 0).raise 0x1A6
      else if miss && (s1.breach r.ch).on then
        let b := s1.breach r.ch
        s1.setBreach r.ch { b with covered := b.covered + 1 }
      else s1
    match r.desc with
    | none => s2
    | some d =>
      s2.complete d { complOf d 4 (r.complStatus miss) with
        stream := n, covered := miss && r.cov, lateness := sat32 lateNs
        timeA := r.sofT, timeB := (r.errTime.getD r.eofT), errt := r.errTime.isSome && late.isNone }

/-- A release of a stream. -/
def Stream.rel (x : Stream) (id : Nat) : Option Rel := x.rels.find? (fun r => decide (r.id = id))
/-- Change a release of a stream. -/
def Stream.modRel (x : Stream) (id : Nat) (f : Rel → Rel) : Stream :=
  { x with rels := x.rels.map (fun r => if r.id = id then f r else r) }

/-- The frame of a release ended at `eof` (R181). -/
def State.relEnd (s : State) (n id : Nat) (sof eof : BitVec 64) : State :=
  match s.stream n with
  | none => s
  | some x =>
    match x.rel id with
    | none => s
    | some r => s.judge n { r with sofT := sof, eofT := eof, errTime := none } (some (eof - r.due).toInt)

/-- A release left without an end of frame, with the status of its completion (0 for none of its own). It is judged at
once when it is covered or its deadline has passed, else at the deadline or at a breach (R150, R181). -/
def State.relGone (s : State) (n id status : Nat) : State :=
  match s.stream n with
  | none => s
  | some x =>
    match x.rel id with
    | none => s
    | some r =>
      let r' := { r with gone := true, status := status }
      if r.cov || r.past || s.reached r.due then s.judge n r' none else s.setStream n (x.modRel id (fun _ => r'))

/-- Judge the releases of a list. -/
def State.judgeGone (s : State) (n : Nat) : List Rel → State
  | [] => s
  | r :: rs => State.judgeGone (s.judge n r none) n rs

/-- A release that its deadline settles as a miss: its frame is gone, or another member's has not been heard (R454). -/
def Rel.unheard (r : Rel) : Bool := r.gone || r.byWire

/-- Deadlines of a stream pass (R181): releases whose deadline is reached are final; those without a frame are judged. -/
def State.deadline (s : State) (n : Nat) : State :=
  match s.stream n with
  | none => s
  | some x =>
    let due := x.rels.filter (fun r => s.reached r.due)
    let s1 := s.setStream n { x with rels := x.rels.map (fun r => if s.reached r.due then { r with past := true } else r) }
    s1.judgeGone n (due.filter (fun r => r.unheard))

/-- RELEASE_DEADLINE (R181). -/
def execReleaseDeadline (dt : Nat) (stream : Fin 4096) (s : State) : Host.Outcome State Fault Refusal :=
  s.at_ dt (fun s => s.deadline stream.val)

/-! ## Breaches -/

/-- Which streams a cause affects (Table 5.8, R175, R176). -/
def State.affects (s : State) (cause : Nat) (kf : Word) (feed : Nat) (x : Stream) : Bool :=
  if cause = 1 then decide (kf.toNat ≤ x.key.toNat)
  else if cause = 5 then
    !x.isTx && (match s.sourceOf x.cfg.ch.val x.key with | some f => decide (f.cfg.feed.toNat = feed) | none => false)
  else if cause = 6 then x.isTx && x.hb.isNone
  else true

/-- Put a stream number in key order into a list. -/
def insByKey (a : Nat × Nat) : List (Nat × Nat) → List (Nat × Nat)
  | [] => [a]
  | b :: l => if a.1 < b.1 then a :: b :: l else b :: insByKey a l

/-- Stream numbers of a list of table entries, in key order. -/
def inKeyOrder (l : List (Nat × Stream)) : List Nat :=
  (l.foldl (fun acc e => insByKey (e.2.key.toNat, e.1) acc) []).map (·.2)

/-- Does an instant of the time base lie at or after another? -/
def notBefore (t u : BitVec 64) : Bool := decide ((t - u).toNat < 2 ^ 63)

/-- A breach begins at an instant to affect a stream: BREACH is set, and releases whose deadline had not passed are covered;
those that have already left without a frame are judged now (R150). A release whose deadline is that very instant is not covered
(DESIGN CHOICE, log 82). -/
def State.cover (s : State) (t : BitVec 64) (n : Nat) : State :=
  match s.stream n with
  | none => s
  | some x =>
    let open_ := fun (r : Rel) => !notBefore t r.due
    let s1 := s.setStream n { x with
      breach := true, rels := x.rels.map (fun r => if open_ r then { r with cov := true } else r) }
    s1.judgeGone n ((x.rels.filter (fun r => open_ r && r.gone)).map (fun r => { r with cov := true }))

/-- Cover each stream of a list. -/
def State.coverAll (s : State) (t : BitVec 64) (l : List Nat) : State := l.foldl (fun (a : State) n => a.cover t n) s

/-- Change every release of a channel's streams. -/
def State.mapRels (s : State) (ch : Nat) (f : Rel → Rel) : State :=
  { s with
    dr := { s.dr with
      streams := s.dr.streams.map (fun (e : Nat × Stream) =>
        (e.1, { e.2 with rels := e.2.rels.map (fun r => if r.ch = ch then f r else r) })) } }

/-- When a broken assumption was detected (R177): the time, its turn, and the boundaries since. -/
structure Instant where
  time : BitVec 64
  turn : BitVec 48
  ago : Nat

/-- The present instant. -/
def State.instant (s : State) : Instant := { time := s.now, turn := s.tm.turn, ago := 0 }

/-- A STREAM_STATUS entry of a breach that begins (0x02) or widens (0x03). -/
def breachEntry (event ch cause : Nat) (kf : Word) (turn : BitVec 48) (l : List Nat) : EntryBody :=
  .streamStatus event ch cause 0 kf turn l.length (l.take 24) 0 0

/-- A breach begins on a channel (R177, R604). Releases made since are releases of the breach (R179). -/
def State.breachBegin (s : State) (i : Instant) (ch cause : Nat) (kf : Word) (l : List Nat) : State :=
  let s0 := s.setBreach ch { on := true, causes := [cause], keyFrom := kf, clear := i.ago, covered := 0 }
  let s1 := (s0.mapRels ch (fun r => { r with inBreach := notBefore r.at_ i.time })).coverAll i.time l
  ((((s1.slubAt i.time i.turn 0x0403 ch cause kf.toNat).chCount ch 26).status (breachEntry 2 ch cause kf i.turn l))).raise 0x1A2

/-- A detection joins a breach in force (R178): what adds a cause or lowers KEY_FROM is reported. -/
def State.breachWiden (s : State) (i : Instant) (ch cause : Nat) (kf : Word) (l : List Nat) : State :=
  let b := s.breach ch
  let low := if kf.toNat < b.keyFrom.toNat then kf else b.keyFrom
  let wider := !b.causes.contains cause || decide (kf.toNat < b.keyFrom.toNat)
  let causes := if b.causes.contains cause then b.causes else b.causes ++ [cause]
  let s1 := (s.setBreach ch { b with causes := causes, keyFrom := low, clear := min b.clear i.ago }).coverAll i.time l
  if wider then (s1.slubAt i.time i.turn 0x0404 ch cause low.toNat).status (breachEntry 3 ch cause low i.turn l) else s1

/-- A broken assumption detected on a channel at an instant: cause, its KEY_FROM, and the feed of cause 0x5. -/
def State.detectAt (s : State) (i : Instant) (ch cause : Nat) (kf : Word) (feed : Nat) : State :=
  let hit := (s.chStreams ch).filter (fun e => !e.2.breach && s.affects cause kf feed e.2)
  let l := inKeyOrder hit
  let s1 := if cause = 1 ∨ cause = 2 then (s.chCount ch 24).raise 0x1A4
    else if cause = 3 then (s.chCount ch 25).raise 0x1A5 else s
  if (s1.breach ch).on then s1.breachWiden i ch cause kf l else s1.breachBegin i ch cause kf l

/-- A broken assumption is detected now. -/
def State.detect (s : State) (ch cause : Nat) (kf : Word) (feed : Nat) : State := s.detectAt s.instant ch cause kf feed

/-- The assumption of spindle state is broken (R174): a mode in effect other than NORMAL, or a state other than
ERROR_ACTIVE and ERROR_PASSIVE. -/
def Channel.broken (c : Channel) : Bool :=
  decide (c.mode ≠ .normal) || !(decide (c.st = .errorActive) || decide (c.st = .errorPassive))

/-- Does a declaration of a channel name a feed that is quarantined (R175)? -/
def State.quarHere (s : State) (ch : Nat) : Bool :=
  (s.declared ch).any (fun e => s.dr.quarFeeds.contains e.2.cfg.feed.toNat)

/-- Does a channel have a local transmit stream (R176)? -/
def State.hasTx (s : State) (ch : Nat) : Bool := (s.chStreams ch).any (fun e => e.2.isTx)

/-- The causes of states that persist on a channel, lowest first (R174 to R176). -/
def State.persisting (s : State) (ch : Nat) : List Nat :=
  (if (s.ch ch).broken then [4] else []) ++ (if s.quarHere ch then [5] else []) ++
  (if s.dr.noActor && s.hasTx ch then [6] else [])

/-- Does a cause of the breach in force affect a stream? For cause 0x5, any quarantined feed counts. -/
def State.causeHits (s : State) (kf : Word) (x : Stream) (cause : Nat) : Bool :=
  if cause = 5 then s.dr.quarFeeds.any (fun f => s.affects 5 kf f x) else s.affects cause kf 0 x

/-- A stream that has just passed its draft joins a breach in force, or begins one for a state that persists (R605). -/
def State.joinBreach (s : State) (n : Nat) : State :=
  match s.stream n with
  | none => s
  | some x =>
    let ch := x.cfg.ch.val
    let b := s.breach ch
    if b.on then
      match [1, 2, 3, 4, 5, 6].filter (fun c => b.causes.contains c && s.causeHits b.keyFrom x c) with
      | [] => s
      | c :: _ =>
        ((s.cover s.now n).slub 0x0404 ch c b.keyFrom.toNat).status (breachEntry 3 ch c b.keyFrom s.tm.turn [n])
    else
      (s.persisting ch).foldl (fun a c =>
        if c = 5 then a.dr.quarFeeds.foldl (fun a f =>
            if (a.declared ch).any (fun e => decide (e.2.cfg.feed.toNat = f)) then a.detect ch 5 0xFFFFFFFF f else a) a
        else a.detect ch c 0 0) s

/-- Is a bobbin of a release made while the breach was in force, by a stream that the breach affects by now, still in the ready
set (R179)? -/
def State.breachPending (s : State) (ch : Nat) : Bool :=
  (s.ch ch).ready.any (fun e =>
    match e.kind with
    | .stream n r =>
      match s.stream n with
      | some x => x.breach && (match x.rel r with | some k => k.inBreach | none => false)
      | none => false
    | _ => false)

/-- A boundary passes for a channel's breach in force (R17, R179). -/
def State.breachTick (s : State) (ch : Nat) : State :=
  let b := s.breach ch
  if b.on then s.setBreach ch { b with clear := b.clear + 1 } else s

/-- A channel's breach at a boundary, once the boundary's changes are done (R179): it ends when CLEAR_TURNS boundaries have
passed since the last detection, nothing persists and no bobbin of it is pending. `last` is the last turn of the breach. -/
def State.breachBoundary (s : State) (ch : Nat) (last : BitVec 48) : State :=
  let b := s.breach ch
  if b.on = false then s
  else if decide (b.clear ≥ fieldOf (s.live (drChBase ch + 12)) 8 8) && (s.persisting ch).isEmpty && !s.breachPending ch then
      let s1 := s.setBreach ch {}
      let s2 := { s1 with
        dr := { s1.dr with
          streams := s1.dr.streams.map (fun (e : Nat × Stream) =>
            if e.2.cfg.ch.val = ch then (e.1, { e.2 with breach := false }) else e) } }.mapRels ch (fun r => { r with inBreach := false })
      (s2.status (.streamStatus 4 ch (b.causes.foldl min 15) 0 b.keyFrom last 0 [] b.covered 0)).raise 0x1A3
    else s

/-- MISS entries of the turn just ended, one per stream (R182): count of uncovered misses and the largest lateness. -/
def State.missReports (s : State) (turn : BitVec 48) : State :=
  s.dr.streams.foldl (fun (a : State) (e : Nat × Stream) =>
    if e.2.turnMiss = 0 then a
    else
      (a.modStream e.1 (fun x => { x with turnMiss := 0, turnLate := 0 })).status
        (.streamStatus 5 e.2.turnCh 0 e.1 0 turn 0 [] e.2.turnMiss (sat32 e.2.turnLate))) s

end Sys2Proof.Machine
end

