-- ==== Sys2Proof/Machine/Wire.lean ====
section
/-!
DEFINITION. The send side of a channel: its ready set (R90 to R96), the transmit sliver (R417 to R426, R430, R431), the
choice of a frame, and how a bobbin leaves the set, with the completions that follow.
-/

namespace Sys2Proof.Machine

/-! ## Slivers -/

/-- Words of a record with n payload bytes (R419). -/
def recWords (n : Nat) : Nat := 2 + ceilDiv n 16

/-- A sliver. -/
def State.sliver (s : State) (n : Nat) : Sliver := Tbl.lookD s.mm.slv n {}
/-- Replace a sliver. -/
def State.setSliver (s : State) (n : Nat) (v : Sliver) : State :=
  { s with mm := { s.mm with slv := Tbl.put s.mm.slv n {} v } }

/-- A pointer moved on by n words; it wraps at 8,192. -/
def adv (p : BitVec 13) (n : Nat) : BitVec 13 := p + BitVec.ofNat 13 n

/-- Free words as the producer judges them (R422). -/
def Sliver.freeWords (v : Sliver) : Nat := 4096 - (v.w - v.m).toNat
/-- Words the consumer may pop (R422). -/
def Sliver.avail (v : Sliver) : Nat := (v.w - v.r).toNat

/-- Push a whole record. -/
def Sliver.push (v : Sliver) (x : SlvRec) : Sliver := { v with w := adv v.w x.words, recs := v.recs ++ [x] }
/-- Pop the oldest record of a receive sliver; the mark follows. -/
def Sliver.pop (v : Sliver) : Sliver :=
  match v.recs with
  | [] => v
  | x :: l => { v with r := adv v.r x.words, m := adv v.r x.words, recs := l, underrun := false }
/-- The spindle reads the oldest record of a transmit sliver into its frame buffer. -/
def Sliver.begin_ (v : Sliver) : Sliver :=
  match v.recs with
  | [] => v
  | x :: l => { v with r := adv v.r x.words, recs := l, flight := some x, underrun := false }
/-- The frame in flight completed: the mark advances to r (R426). -/
def Sliver.done (v : Sliver) : Sliver := { v with m := v.r, flight := none }
/-- The frame in flight goes back: r returns to the mark (R426). -/
def Sliver.rewind (v : Sliver) : Sliver :=
  match v.flight with
  | none => v
  | some x => { v with r := v.m, recs := x :: v.recs, flight := none }
/-- Flush the oldest record not begun: mark and r move past it. -/
def Sliver.flushHead (v : Sliver) : Sliver :=
  match v.recs with
  | [] => v
  | x :: l => { v with r := adv v.r x.words, m := adv v.r x.words, recs := l }
/-- Flush the record of a bobbin, in flight or waiting at the head. -/
def Sliver.drop (v : Sliver) (bob : Nat) : Sliver :=
  let v' := match v.flight with
    | some x => if x.bob = bob then v.rewind else v
    | none => v
  match v'.recs with
  | x :: _ => if x.bob = bob then v'.flushHead else v'
  | [] => v'

/-- Transmit sliver of the spindle that serves a channel (R417). -/
def State.txSliver (s : State) (ch : Nat) : Nat := 2 * s.spOf ch + 1

/-! ## The ready set -/

/-- Change a channel. -/
def State.modCh (s : State) (ch : Nat) (f : Channel → Channel) : State := s.setCh ch (f (s.ch ch))

/-- Put a bobbin into a ready set: ordered by key, and by entry among equal keys (R90). -/
def insReady (e : Ready) : List Ready → List Ready
  | [] => [e]
  | a :: l => if e.key.toNat < a.key.toNat then e :: a :: l else a :: insReady e l

/-- May the spindle send: a mode that transmits, ERROR_ACTIVE or ERROR_PASSIVE, and no wait for bus integration? -/
def Channel.maySend (c : Channel) : Bool :=
  decide (c.mode = .normal ∨ c.mode = .loopback) && decide (c.st = .errorActive ∨ c.st = .errorPassive) && !c.integWait

/-- The frame of a bobbin as it goes on the wire: ESI tells error passive (R74). -/
def sentFrame (c : Channel) (f : Frame) : Frame := { f with esi := f.fdf && decide (c.st = .errorPassive) }

/-- A transmit record (Table 13.1). -/
def txRec (ch bob : Nat) (f : Frame) : SlvRec :=
  { words := recWords f.data.length, frame := f, ch := ch, loopback := false, errt := false, sof := 0, eof := 0,
    bob := bob, poisonHdr := false, poisonPay := false }

/-- A stream that is CLOSING and holds no bobbin becomes CLOSED (R165, R545). -/
def State.closeDone (s : State) (n : Nat) : State :=
  match s.stream n with
  | none => s
  | some x =>
    if decide (x.st = .closing) && decide (x.used = 0) then
      let ch := x.cfg.ch.val
      let u := s.use ch
      let slot := x.cfg.keySlot.toNat
      let s1 := s.setStream n { x with st := .closed, reserve := 0, closeDesc := none, breach := false, stale := false }
      let s2 := s1.setUse ch { u with res := u.res - x.reserve }
      let s3 :=
        if x.cfg.auth then
          { s2 with ks := { s2.ks with base := Tbl.put s2.ks.base slot 0 (max (Tbl.lookD s2.ks.base slot 0) x.fresh) } }
        else s2
      let s4 := (s3.status (.streamStatus 8 ch 0 n 0 s.tm.turn 0 [] 0 0)).coverChange
      match x.closeDesc with
      | none => s4
      | some d => s4.complete d { complOf d 3 0 with stream := n, turn := s.tm.turn }
    else s

/-- A bobbin goes from a ready set: its record leaves the transmit sliver and the bobbin returns to the creel. -/
def State.dropReady (s : State) (ch : Nat) (e : Ready) : State :=
  let c := s.ch ch
  let s1 := s.setCh ch { c with
    ready := c.ready.filter (fun x => decide (x.bob ≠ e.bob))
    chosen := if c.chosen = some e.bob then none else c.chosen }
  let s2 := s1.setSliver (s1.txSliver ch) ((s1.sliver (s1.txSliver ch)).drop e.bob)
  s2.freeBob e.bob

/-- A stream holds one bobbin less; a CLOSING stream may become CLOSED. -/
def State.releaseUsed (s : State) (n : Nat) : State :=
  (s.modStream n (fun x => { x with used := x.used - 1 })).closeDone n

/-- A SEND completes with a status and timestamps. -/
def State.sendCompl (s : State) (d : Desc) (status : Nat) (sof eof : BitVec 64) (errt : Bool) : State :=
  s.complete d { complOf d 1 status with timeA := sof, timeB := eof, errt := errt }

/-- A bobbin leaves unsent, SEND bobbins with a status, releases as misses with the status of their completion. -/
def State.leaveUnsent (s : State) (ch : Nat) (e : Ready) (sendStatus relStatus : Nat) : State :=
  let s1 := s.dropReady ch e
  match e.kind with
  | .send d => s1.sendCompl d sendStatus e.sofT (e.errT.getD 0) e.errT.isSome
  | .stream n r =>
    let s2 := s1.modStream n (fun x => x.modRel r (fun k => { k with sofT := e.sofT, errTime := e.errT }))
    (s2.relGone n r relStatus).releaseUsed n

/-- A bobbin is aborted (R95): counted, source offset 0x8, TIMEOUT for a SEND, a miss for a release. -/
def State.abort (s : State) (ch : Nat) (e : Ready) : State :=
  (((s.leaveUnsent ch e 5 5).chCount ch 14).spEvent ch 8)

/-- Abort each bobbin of a list. -/
def State.abortAll (s : State) (ch : Nat) (l : List Ready) : State := l.foldl (fun a e => a.abort ch e) s

/-- Bits of a frame on the wire with their stuff bits (R74): a bit of the opposite value follows five equal ones. -/
def stuffedLen (last : Bool) (run : Nat) : List Bool → Nat
  | [] => 0
  | b :: l =>
    let r := if b = last then run + 1 else 1
    if r = 5 then 2 + stuffedLen (!b) 1 l else 1 + stuffedLen b r l

/-- The bits of an FD frame from start of frame to the FDF bit (ISO 11898-1); true is recessive. -/
def fdHead (f : Frame) : List Bool :=
  let bits := fun (hi n : Nat) => (List.range n).map (fun i => f.id.getLsbD (hi - i))
  if f.ide then [false] ++ bits 28 11 ++ [true, true] ++ bits 17 18 ++ [false, true]
  else [false] ++ bits 10 11 ++ [false, false, true]

/-- Has the frame on a channel's wire come to the edge from FDF to res, on which the loop delay is measured (R79)? -/
def State.pastRes (s : State) (ch : Nat) (f : Frame) : Bool :=
  decide (stuffedLen true 0 (fdHead f) * tnPs s.live ch ≤ (s.clock - (s.ch ch).sofClk) * 1000)

/-- TDCV (R79, R83): the first edge at CHn_RXD not earlier than TDCF cycles; 255 where none comes within 255. -/
def measuredDelay (tdcf : Nat) (edges : List Nat) : Nat :=
  ((edges.find? (fun e => decide (tdcf ≤ e))).filter (fun e => decide (e ≤ 255))).getD 255

/-- Transmitter delay compensation of a frame of this device (R79 to R83): TDCV and TDCV + TDCO; none where the frame has no
measurement. -/
def State.delayOf (s : State) (ch : Nat) (f : Frame) : Option (Nat × Nat) :=
  let r := spChBase ch + 0xC
  if f.fdf && f.brs && s.bit r 0 then
    let v := measuredDelay (s.fld r 16 8) (s.ch ch).edges
    some (v, v + s.fld r 8 8)
  else none

/-- The entry of a ready set with a bobbin. -/
def Channel.readyOf (c : Channel) (bob : Nat) : Option Ready := c.ready.find? (fun e => decide (e.bob = bob))

/-- First poisoned word of a sliver in a turn: counted, slub 0x0C03 (R431). -/
def State.poisoned (s : State) (sl n : Nat) : State :=
  (s.countN (5504 + 4 * sl + 1) n).slubOnce (0x10000 + sl) 0x0C03 sl 0 0

/-- A pop made while a sliver is empty (R429): it marks a fault, moves no pointer and brings no whole record; counted, and the
first of a sliver in a turn writes a slub. -/
def State.underrun (s : State) (sl : Nat) : State :=
  ((s.setSliver sl { s.sliver sl with underrun := true }).count (5504 + 4 * sl)).slubOnce (0x30000 + sl) 0x0C02 sl 0 0

/-- The spindle chooses the head of its ready set (R91, R421, R426): the record of another bobbin left in the transmit
sliver is flushed, the chosen one's is pushed unless it is still there, and read whole. A poisoned record is never
started: it is flushed and its bobbin aborted (R431). -/
def State.choose (s : State) (ch : Nat) (poison : Bool) : State :=
  let c := s.ch ch
  let bad := fun (s : State) (e : Ready) => (s.poisoned (s.txSliver ch) 1).abort ch e
  if !c.maySend || decide (c.wire ≠ .idle) then s
  else
    match c.chosen with
    | some b =>
      match c.readyOf b with
      | some e => if poison && !c.offered then bad s e else s
      | none => s
    | none =>
      match c.ready.find? (fun e => !e.doomed) with
      | none => s
      | some e =>
        match s.bob e.bob with
        | none => s
        | some b =>
          let k := s.txSliver ch
          let v := s.sliver k
          let v1 := match v.recs with
            | x :: _ => if x.bob = e.bob then v else v.flushHead.push (txRec ch e.bob b.frame)
            | [] => v.push (txRec ch e.bob b.frame)
          let s1 := (s.setCh ch { c with chosen := some e.bob, offered := false }).setSliver k v1.begin_
          if poison then bad s1 e else if c.mode = .loopback then s1 else s1.emit (.offer ch (sentFrame c b.frame))

/-- The frame in flight of this device, with its ready-set entry. -/
def State.inFlight (s : State) (ch : Nat) : Option (Ready × Frame) :=
  match (s.ch ch).chosen with
  | none => none
  | some b =>
    match (s.ch ch).readyOf b, s.bob b with
    | some e, some x => some (e, sentFrame (s.ch ch) x.frame)
    | _, _ => none

/-- SP_CHn_STATUS.TDC_SAT (R81): from the measurement to the end of the frame. -/
def State.tdcSat (s : State) (ch : Nat) : Bool :=
  decide ((s.ch ch).wire = .ownFrame) &&
    (match s.inFlight ch with
    | some (_, f) => s.pastRes ch f && (match s.delayOf ch f with | some d => decide (d.2 > 255) | none => false)
    | none => false)

/-- A bobbin enters a ready set; on an idle bus a bobbin that enters an empty set is chosen at once (R91). -/
def State.enterReady (s : State) (ch bob : Nat) (key : Word) (kind : ReadyKind) : State :=
  let c := s.ch ch
  let e : Ready := { bob := bob, key := key, kind := kind, age := 0, doomed := false, sofT := 0, errT := none }
  let s1 := s.setCh ch { c with ready := insReady e c.ready }
  if c.ready.isEmpty then s1.choose ch false else s1

/-- Units of 6.25 ns of a duration in ns. -/
def durOf (ns : Nat) : Nat := roundDiv .dur (ns * 4) 25 % 2 ^ 24

/-- A FRAME hank of a channel that HK_SEL.CH traces (Table 19.2, R555). -/
def State.frameHank (s : State) (ch : Nat) (sent : Bool) (f : Frame) (dur : Nat) (errt poison : Bool) : State :=
  if s.bit 0x110004 (16 + ch) then
    s.hank 2 (b01 sent) (ch + 16 * s.spOf ch) (BitVec.ofNat 64
      (f.key.toNat + f.dlc.toNat * 2 ^ 32 + b01 f.fdf * 2 ^ 36 + b01 f.brs * 2 ^ 37 + b01 errt * 2 ^ 38 +
        b01 poison * 2 ^ 39 + dur * 2 ^ 40))
  else s

/-- Stream bobbins of a channel are removed and their releases are misses (R103). -/
def State.removeStreams (s : State) (ch : Nat) : State :=
  ((s.ch ch).ready.filter (fun e => match e.kind with | .stream _ _ => true | .send _ => false)).foldl
    (fun a e => a.leaveUnsent ch e 5 0) s

end Sys2Proof.Machine
end

