-- ==== Sys2Proof/Machine/HostReads.lean ====
section
/-!
DEFINITION. Reads of host memory: where each lies (R316, R324), how many are outstanding (R313), and the ring engine that
issues them (R331, R332), with the reads of value lines (R346).
-/

namespace Sys2Proof.Machine

/-- Change a distaff. -/
def State.modDs (s : State) (p : Port) (d : Nat) (f : Ring → Ring) : State :=
  { s with rep := s.rep.setDs p d (f ((s.port p).dsr d)) }
/-- Change a skein. -/
def State.modSk (s : State) (p : Port) (k : Nat) (f : Ring → Ring) : State :=
  { s with rep := s.rep.setSk p k (f ((s.port p).skn k)) }

/-- Where a read of host memory begins: the doorbell page (Table 10.4), a slot of a distaff (R316), or the PAY_ADDR of the
distaff's first fetched descriptor (Table 10.8). -/
def PortSt.readAddr (q : PortSt) : HostRead → BitVec 64
  | .summary => q.dbAddr
  | .dsProd d => q.dbAddr + BitVec.ofNat 64 (0x40 + 4 * d.val)
  | .skCons k => q.dbAddr + BitVec.ofNat 64 (0x240 + 4 * k.val)
  | .desc d k => (q.dsr d.val).slotAddr ((q.dsr d.val).own + BitVec.ofNat 32 k) 64
  | .payload d => match (q.dsr d.val).fetched with | [] => 0 | x :: _ => descWide x.words 4

/-- How many bytes a read of host memory takes (R325, R327, R331, R336). -/
def HostRead.bytes : HostRead → Nat
  | .summary | .desc _ _ | .payload _ => 64
  | .dsProd _ | .skCons _ => 4

/-- A read of host memory is issued. -/
def State.issue (s : State) (p : Port) (r : HostRead) : State := s.emit (.hostRead p r ((s.port p).readAddr r))

/-- Reads of a port that are outstanding (R313): the summary line, index, descriptor and payload reads, and value lines. -/
def State.outReads (s : State) (p : Port) : Nat :=
  let q := s.port p
  b01 q.sumBusy +
  (q.ds.map (fun e => e.2.reading.length + e.2.flight.countP (fun x => x.words.isNone) + b01 e.2.payAt.isSome)).sum +
  (q.sk.map (fun e => e.2.reading.length)).sum +
  (s.dr.streams.map (fun e => if e.2.cfg.vport = p then e.2.vFlight.length else 0)).sum

/-- May a port issue one more read (R313)? -/
def State.readRoom (s : State) (p : Port) : Bool := decide (s.outReads p < 64)

/-! ## Value lines (R148, R346) -/

/-- The read of a stream's value line is issued while VPORT's PORT_EN is 1 and the port can read (R346); with 64 reads outstanding
it waits for one of them. The second component is its number, none where it is not made. -/
def State.startValue (s : State) (n : Nat) (x : Stream) : State × Option Nat :=
  let p := x.cfg.vport
  let q := s.port p
  if q.portEn && q.canWrite then
    if s.readRoom p then
      ((s.setStream n { x with vSeq := x.vSeq + 1, vFlight := x.vFlight ++ [(x.vSeq, s.clock)] }).emit
        (.valueRead p n x.cfg.vaddr), some x.vSeq)
    else
      ((s.setStream n { x with vSeq := x.vSeq + 1 }).setPort p { q with valueWait := q.valueWait ++ [(n, x.vSeq)] }, some x.vSeq)
  else (s, none)

/-- A read of a stream's value line for its next release. -/
def State.valueRead (s : State) (n : Nat) : State :=
  match s.stream n with
  | none => s
  | some x =>
    let r := s.startValue n x
    r.1.modStream n (fun y => { y with vFor := y.vFor ++ [r.2] })

/-- Does a STREAM_DATA take its payload from its stream's value line (R338)? -/
def fromValueLine (x : Stream) (b : DataBody) : Bool :=
  decide (x.cfg.kind = 1) && decide (x.cfg.source = 2) && decide (b.len = 0)

/-- The value line read of a STREAM_DATA starts when the descriptor is fetched (R338). -/
def State.prefetch (s : State) (d : Desc) (b : DescBody) : State :=
  match b with
  | .data b =>
    match s.stream b.stream.val with
    | none => s
    | some x =>
      if fromValueLine x b then
        let r := s.startValue b.stream.val x
        let key := (d.port, d.distaff, d.index)
        r.1.modStream b.stream.val (fun y => { y with vPre := y.vPre.filter (fun e => decide (e.1 ≠ key)) ++ [(key, r.2)] })
      else s
  | _ => s

/-! ## The ring engine -/

/-- Descriptors of a distaff that are announced and not yet being read. -/
def Ring.unread (g : Ring) : Nat := (g.peer - g.own).toNat - g.flight.length

/-- May one more descriptor of a distaff be fetched now (R331, R332)? None is fetched while the boot loader works (R573). -/
def State.mayFetch (s : State) (p : Port) (d : Nat) : Bool :=
  let q := s.port p
  let g := q.dsr d
  let k := q.skn g.cskein
  !s.loading && q.serves g && q.serves k && decide (g.unread > 0) && decide (k.free > 0) && s.readRoom p

/-- Issue one descriptor read, with one entry of the CSKEIN reserved (R332). -/
def State.fetchOne (s : State) (p : Port) (d : Fin 128) : State :=
  if s.mayFetch p d.val then
    let g := (s.port p).dsr d.val
    let k := g.flight.length
    ((s.reserve p d.val (g.own + BitVec.ofNat 32 k)).modDs p d.val (fun g => { g with
      flight := g.flight ++ [{ at_ := s.clock }] })).issue p (.desc d k)
  else s

/-- One visit of a distaff: up to 8 descriptors (R331). -/
def State.fetchRing (s : State) (p : Port) (d : Fin 128) : State :=
  (List.range 8).foldl (fun (a : State) _ => a.fetchOne p d) s

/-- The distaff that the engine visits next on a port: the next in ascending number, after the highest the lowest again (R331). -/
def State.nextDs (s : State) (p : Port) : Option Nat :=
  let l := ((s.port p).ds.map (·.1)).filter (fun d => s.mayFetch p d)
  match l.find? (fun d => decide ((s.port p).visit ≤ d)) with
  | some d => some d
  | none => l.head?

/-- The port and the distaff that the engine visits next: the ports alternately, a port with nothing to fetch passed over (R331). -/
def State.nextVisit (s : State) : Option (Port × Nat) :=
  match s.nextDs s.rep.nextPort with
  | some d => some (s.rep.nextPort, d)
  | none => (s.nextDs s.rep.nextPort.other).map (fun d => (s.rep.nextPort.other, d))

/-- Visits of the ring engine while there is something to fetch; n at most. -/
def State.visits : Nat → State → State
  | 0, s => s
  | n + 1, s =>
    match s.nextVisit with
    | none => s
    | some (p, d) =>
      let s1 := s.fetchRing p (finOf 128 (by decide) d)
      let s2 := s1.setPort p { s1.port p with visit := d + 1 }
      State.visits n { s2 with rep := { s2.rep with nextPort := p.other } }

/-- Issue the value line reads of a port that wait (R313); n at most. -/
def State.issueValues : Nat → State → Port → State
  | 0, s, _ => s
  | n + 1, s, p =>
    match (s.port p).valueWait with
    | [] => s
    | (m, k) :: rest =>
      if s.readRoom p then
        let s1 := s.setPort p { s.port p with valueWait := rest }
        State.issueValues n
          (match s.stream m with
          | none => s1
          | some x => (s1.setStream m { x with vFlight := x.vFlight ++ [(k, s.clock)] }).emit (.valueRead p m x.cfg.vaddr)) p
      else s

/-- Issue the read of DS_PROD of a distaff, or let it wait for room (R313, R325). -/
def State.readProd (s : State) (p : Port) (d : Nat) : State :=
  if (s.port p).serves ((s.port p).dsr d) then
    if s.readRoom p then
      (s.modDs p d (fun g => { g with reading := g.reading ++ [s.clock], wantProd := false })).issue p
        (.dsProd (finOf 128 (by decide) d))
    else s.modDs p d (fun g => { g with wantProd := true })
  else s

/-- Issue the payload read of the first fetched descriptor of a distaff, where it waits for one (R336). -/
def State.readPay (s : State) (p : Port) (d : Fin 128) : State :=
  let g := (s.port p).dsr d.val
  match g.fetched with
  | [] => s
  | x :: _ =>
    if (s.port p).serves g && x.wantsPay && g.payAt.isNone && s.readRoom p then
      (s.modDs p d.val (fun g => { g with payAt := some s.clock })).issue p (.payload d)
    else s

/-- Reads of a port that waited for room. -/
def State.issueWaiting (s : State) (p : Port) : State :=
  let s1 := State.issueValues (s.port p).valueWait.length s p
  let s2 := (s1.port p).ds.foldl (fun (a : State) e => if e.2.wantProd then a.readProd p e.1 else a) s1
  (s2.port p).ds.foldl (fun (a : State) e => a.readPay p (finOf 128 (by decide) e.1)) s2

/-- The ring engine goes on: what waited is issued, then descriptors are fetched (R331). -/
def State.serve (s : State) : State := State.visits 128 ((s.issueWaiting .a).issueWaiting .b)

end Sys2Proof.Machine
end

