-- ==== Sys2Proof/Machine/Descs.lean ====
section
/-!
DEFINITION. Acceptance of a descriptor (R334, R342, R356, R467, R513): the checks every descriptor passes before its own
rules, and the queue behind a FENCE with HOLD.
-/

namespace Sys2Proof.Machine

/-- Opcodes that complete MALFORMED in SAFE (R513): all but NOP, STREAM_CLOSE, LINE_CAPTURE and FENCE. -/
def refusedInSafe (op : Nat) : Bool := [1, 2, 4, 5, 6, 7, 8, 10, 12, 13].contains op

/-- A descriptor completes with a status and the stream or declaration that it names (Table 10.12). -/
def State.refuse (s : State) (d : Desc) (op n status : Nat) : State := s.complete d { complOf d op status with stream := n }

/-- Acceptance of a descriptor that names stream or declaration n: NOT_OWNER, then VERSION, then MALFORMED for a reserved field
(R334, R356), MALFORMED in SAFE (R513); then the descriptor's own rules. -/
def State.acceptFor (s : State) (d : Desc) (op n : Nat) (f : State → State) : State :=
  if decide (op ≠ 0) && decide (s.ownerStart ≠ some d.port) then s.refuse d op n 3
  else if op ≥ 14 then s.refuse d op n 8
  else if d.resv then s.refuse d op n 2
  else if decide (s.dev.st = .safe) && refusedInSafe op then s.refuse d op n 2
  else f s

/-- Acceptance of a descriptor that names none. -/
def State.accept (s : State) (d : Desc) (op : Nat) (f : State → State) : State := s.acceptFor d op 0 f

/-- Does a FENCE with HOLD stand before later descriptors of a distaff (R342)? -/
def State.fenced (s : State) (p : Port) (d : Fin 128) : Bool :=
  s.fences.any (fun x => x.hold && decide (x.desc.port = p) && decide (x.desc.distaff = d))

/-- A descriptor that arrives: held behind a FENCE with HOLD, or accepted. -/
def State.offerDesc (s : State) (d : Desc) (b : DescBody) (f : State → State) : State :=
  if s.fenced d.port d.distaff then { s with holds := s.holds ++ [{ desc := d, body := b }] } else f s

/-- A row of the table that names a descriptor: it is fetched, one entry is reserved for its completion (R332), and it is
offered for acceptance. -/
def State.descRow (s : State) (dt : Nat) (d : Desc) (b : DescBody) (f : State → State) : Host.Outcome State Fault Refusal :=
  s.at_ dt (fun s => ((s.reserve d.port d.distaff.val d.index).prefetch d b).offerDesc d b f)

/-- NOP completes OK (R335). -/
def State.acceptNop (s : State) (d : Desc) : State := s.accept d 0 (fun s => s.completeSt d 0 0)

/-- NOP. -/
def execNop (dt : Nat) (d : Desc) (s : State) : Host.Outcome State Fault Refusal :=
  s.descRow dt d .nop (fun s => s.acceptNop d)

/-- A ply-wide descriptor (R467, R468): on a member that does not act it completes NOT_OWNER; the acting member keeps it
for the boundary two turns on; a single device executes it at once. -/
def State.plyWide (s : State) (d : Desc) (op : Nat) (act : PlyAct) (f : State → State) : State :=
  if s.plyMember then
    if s.pl.role = .acting then
      { s with pl := { s.pl with
          descs := s.pl.descs ++ [{ turn := s.tm.turn, desc := some d, act := act, sent := false }] } }
    else s.completeSt d op 3
  else f s

end Sys2Proof.Machine
end

