-- ==== Sys2Proof/Machine/LwBase.lean ====
section
/-!
DEFINITION. Line watch as the feeds see it: its registers and records (R214), and the start and the end of a segment
quarantine (R175, R207 to R210).
-/

namespace Sys2Proof.Machine

/-- Base of the LW_CHn registers. -/
def lwBase (ch : Nat) : Nat := 0x61000 + 64 * ch
/-- Line watch of a channel. -/
def State.line (s : State) (ch : Nat) : LineCh := Tbl.lookD s.lw ch {}
/-- Replace the line watch of a channel. -/
def State.setLine (s : State) (ch : Nat) (v : LineCh) : State := { s with lw := Tbl.put s.lw ch {} v }
/-- Change the line watch of a channel. -/
def State.modLine (s : State) (ch : Nat) (f : LineCh → LineCh) : State := s.setLine ch (f (s.line ch))
/-- Is line watch enabled on a channel? -/
def State.lineOn (s : State) (ch : Nat) : Bool := s.bit (lwBase ch) 0

/-- A LINE_RECORD goes to each skein that LW_NOTIFY enables (R195, R199, R206). -/
def State.lineRecord (s : State) (r : LineRec) : State := s.notifyBoth 0x60000 (.lineRecord r)

/-- Feed of a node (R191): that of the lowest-indexed declaration of the channel that names it; 15 for none. -/
def State.nodeFeed (s : State) (ch node : Nat) : Nat :=
  match (s.declared ch).find? (fun e => decide (e.2.cfg.node.val = node)) with
  | some e => e.2.cfg.feed.toNat
  | none => 15

/-- Does another declaration of a node name a different feed (R191)? One with FEED 0xF, "none" (Table 5.11), names no feed. -/
def State.nodeConflict (s : State) (ch node : Nat) : Bool :=
  (s.declared ch).any (fun e =>
    decide (e.2.cfg.node.val = node) && decide (e.2.cfg.feed.toNat ≠ 15) && decide (e.2.cfg.feed.toNat ≠ s.nodeFeed ch node))

/-- LW_CHn_CONFLICT follows the declarations; 0x1CA is raised when a bit becomes 1 (R191). -/
def State.refreshConflict (s : State) (ch : Nat) : State :=
  let m := BitVec.ofNat 32 (((List.range 32).filter (fun k => s.nodeConflict ch k)).map (fun k => 2 ^ k)).sum
  let old := (s.line ch).conflict
  let s1 := s.modLine ch (fun v => { v with conflict := m })
  if m &&& ~~~old ≠ 0 then s1.raise 0x1CA else s1

/-- A QUARANTINE record (Table 6.6): event, feed, ACTION and the node named, at this instant. -/
def State.quarRecord (s : State) (ch event feed : Nat) (action : Bool) (node : Nat) : State :=
  s.lineRecord {
    kind := 4, ch := ch, node := node, reason := event, time := s.now, turn := s.tm.turn, feed := feed, action := action }

/-- Channels with a declaration that names a feed (R175). -/
def State.namesFeed (s : State) (feed ch : Nat) : Bool :=
  (s.declared ch).any (fun e => decide (e.2.cfg.feed.toNat = feed))

/-- The breach of a quarantine is detected on every channel with a declaration that names the feed (R175, R208). -/
def State.quarBreach (s : State) (feed : Nat) : State :=
  let s1 := { s with
    dr := { s.dr with
      quarFeeds := if s.dr.quarFeeds.contains feed then s.dr.quarFeeds else s.dr.quarFeeds ++ [feed] } }
  (channels.filter (fun c => s1.namesFeed feed c)).foldl (fun (a : State) c => a.detect c 5 0xFFFFFFFF feed) s1

/-- May this device's line watch request or start a quarantine: not in SAFE (R513), and on a ply member only as STANDBY
or ACTING (chapter 14)? -/
def State.mayQuar (s : State) : Bool :=
  decide (s.dev.st ≠ .safe) && (!s.plyMember || decide (s.pl.role = .standby ∨ s.pl.role = .acting))

/-- Is a feed in quarantine, by whichever channel? -/
def State.inQuar (s : State) (feed : Nat) : Bool :=
  channels.any (fun c => (s.line c).quars.any (fun q => decide (q.feed = feed)))
/-- The channel whose request for a feed is pending (R209). -/
def State.reqFor (s : State) (feed : Nat) : Option Nat :=
  channels.find? (fun c => (s.line c).reqs.any (fun q => decide (q.feed = feed)))

/-- The quarantine of a feed ends with event END (3) or FAILED (6): record, source 0x1C6 (R208, R210). -/
def State.quarEnd (s : State) (feed event : Nat) : State :=
  channels.foldl (fun (a : State) c =>
    match (a.line c).quars.find? (fun q => decide (q.feed = feed)) with
    | some q =>
      ((a.modLine c (fun v => { v with quars := v.quars.filter (fun q => decide (q.feed ≠ feed)) })).quarRecord c event feed
        q.action 0x3F).raise 0x1C6
    | none => a) s

/-- A feed in the restart of its quarantine trips or fails to start: event FAILED (R210). -/
def State.quarFail (s : State) (feed : Nat) : State :=
  if channels.any (fun c => (s.line c).quars.any (fun q => decide (q.feed = feed) && q.restarted)) then
    s.quarEnd feed 6
  else s

/-- A feed's power good returns: its quarantine ends (R208), and with it the state of R175. -/
def State.quarPg (s : State) (feed : Nat) : State :=
  let s1 := s.quarEnd feed 3
  { s1 with dr := { s1.dr with quarFeeds := s1.dr.quarFeeds.filter (fun f => decide (f ≠ feed)) } }

end Sys2Proof.Machine
end

