-- ==== Sys2Proof/Machine/Feeds.lean ====
section
/-!
DEFINITION. Segment feeds (chapter 9): measurements, energy and breaker, the states of Table 9.2 with their causes,
retries and holds, and the commands that reach them.
-/

namespace Sys2Proof.Machine

/-- A feed. -/
def State.feed (s : State) (n : Nat) : Feed := Tbl.lookD s.fd.feeds n {}
/-- Replace a feed. -/
def State.setFeed (s : State) (n : Nat) (f : Feed) : State :=
  { s with fd := { s.fd with feeds := Tbl.put s.fd.feeds n {} f } }
/-- Change a feed. -/
def State.modFeed (s : State) (n : Nat) (f : Feed → Feed) : State := s.setFeed n (f (s.feed n))
/-- Base of the registers of a feed. -/
def fdBase (n : Nat) : Nat := 0xA8000 + 256 * n
/-- A register of a feed as the field die has it (R22, R309). -/
def State.fcfg (s : State) (n o : Nat) : Word := Tbl.lookD s.fd.cfg (fdBase n + o) (resetAt (fdBase n + o))

/-- Is the register path to the field die in service (R22)? -/
def State.path (s : State) : Bool := decide (s.fa.field ≠ .inReset)

/-- Is the pass gate on? -/
def FeedMode.gateOn : FeedMode → Bool
  | .ramp => true
  | .qualify => true
  | .on => true
  | _ => false

/-- STATE of Table 9.2. -/
def FeedMode.code : FeedMode → Nat
  | .disabled => 0
  | .wait => 1
  | .ramp => 2
  | .qualify => 3
  | .on => 4
  | .held => 5
  | .cooling => 6
  | .latched => 7

/-- Is a hold in force (R305, R306, R307)? -/
def Feed.isHeld (f : Feed) : Bool := f.hold || f.cycleEnd.isSome || f.quar

/-- Is a supply qualified (R286)? -/
def Feed.qualified (f : Feed) : Bool := f.aQual || f.bQual

/-- Counter of the turn-offs of a feed with a cause (Table 19.3, bank 84). -/
def feedCounter (n cause : Nat) : Nat := 5376 + 8 * n + (if 1 ≤ cause ∧ cause ≤ 4 then cause - 1 else 4)

/-- Row of Table 9.8 of a turn-off with a cause, and with a commit of EN = 0 or not. -/
def rowOf (cause : Nat) (en0 : Bool) : Nat :=
  if en0 then 6 else
  if cause = 2 ∨ cause = 3 then 1 else if cause = 5 ∨ cause = 6 then 2 else if cause = 1 then 3
  else if cause = 7 ∨ cause = 8 then 4 else if cause = 4 then 5 else 7

/-- An event of a row above this one of Table 9.8 has met the feed in this instant: events of lower rows are counted (R308).
The events of one instant are given in the order of the table. -/
def State.feedMet (s : State) (n row : Nat) : Bool :=
  match (s.feed n).metAt with | some (t, r) => decide (t = s.clock) && decide (r < row) | none => false

/-- An event of R285: CAUSE is recorded, and slub 0x0802 names the feed, its state and the cause (R310). -/
def State.feedCause (s : State) (n cause : Nat) : State :=
  (s.modFeed n (fun f => { f with cause := cause })).slub 0x0802 n (s.feed n).st.code cause

/-- The pass gate turns off with a cause into a state: power good falls (R296), the on-time is taken (R303), and the
event is reported and counted (R285, R310, Table 19.3). -/
def State.gateOff (s : State) (n cause : Nat) (st : FeedMode) : State :=
  let f := s.feed n
  let s1 := s.setFeed n { f with
    st := st, pg := false, drive := .off, onTime := s.clock - f.rampAt, offSince := s.clock
    coolEnd := s.clock + 10 * (s.clock - f.rampAt), metAt := some (s.clock, rowOf cause (decide (st = .disabled))) }
  let s2 := (s1.feedCause n cause).count (feedCounter n cause)
  let s3 := if f.pg then s2.raise (0x1E0 + 4 * n) else s2
  let s4 := if 1 ≤ cause ∧ cause ≤ 6 then s3.raise (0x1E1 + 4 * n)
    else if cause = 7 ∨ cause = 8 then s3.raise (0x1E2 + 4 * n) else s3
  if st = .latched then s4.raise (0x1E3 + 4 * n) else s4

/-- A turn-off that consumes a retry (R302, Table 9.6), or latches at once (GATE_FAIL). -/
def State.trip (s : State) (n cause : Nat) : State :=
  let f := s.feed n
  let again := decide (cause ≤ 4) && decide (fieldOf (s.fcfg n 0) 1 2 = 1) && decide (f.retries < fieldOf (s.fcfg n 0) 4 4)
  let s1 := if again then (s.setFeed n { f with retries := f.retries + 1 }).gateOff n cause .cooling
    else s.gateOff n cause .latched
  s1.quarFail n

/-- A feed enters RAMP. -/
def State.enterRamp (s : State) (n : Nat) : State :=
  s.modFeed n (fun f => { f with
    st := .ramp, drive := .slew, rampAt := s.clock, chargeSince := some s.clock, qTicks := 0, outRun := 0, overA := 0
    overB := 0, shortRun := 0 })

/-- The state after a cool-down, a hold or a CLEAR (R303, R305): HELD under a hold, RAMP with a qualified supply and the
register path in service (R22), else WAIT. -/
def State.leaveOff (s : State) (n : Nat) : State :=
  let f := s.feed n
  if f.isHeld then s.setFeed n { f with st := .held }
  else if f.qualified && s.path then s.enterRamp n
  else s.setFeed n { f with st := .wait }

/-- A hold is applied with a cause: the gate turns off into HELD, or the hold is kept and the cause recorded (R285, R305). In
the instant of an event of a higher row it is kept and counted (R308). -/
def State.feedHold (s : State) (n cause : Nat) : State :=
  let f := s.feed n
  if f.st.gateOn then s.gateOff n cause .held
  else if s.feedMet n 7 then s.count (feedCounter n cause)
  else if f.st = .disabled then s
  else (s.setFeed n { f with st := if f.st = .wait then .held else f.st }).feedCause n cause

/-- A hold ends: a feed in HELD with no other hold goes on. -/
def State.holdEnds (s : State) (n : Nat) : State :=
  let f := s.feed n
  if decide (f.st = .held) && !f.isHeld then s.leaveOff n else s

/-! ## Measurements -/

/-- Current of breaker point k in mA (R297). -/
def State.curveI (s : State) (n k : Nat) : Int := ((fieldOf (s.fcfg n (0x20 + 4 * k)) 0 12 * 10 : Nat) : Int)
/-- Rate of breaker point k for each measurement (R298). -/
def State.curveR (s : State) (n k : Nat) : Rat := 1 / (fieldOf (s.fcfg n (0x20 + 4 * k)) 12 20 : Rat)

/-- Rate of the breaker curve at a current at or above the pickup (R298). -/
def State.breakerRate (s : State) (n : Nat) (i : Int) : Rat :=
  if s.curveI n 7 ≤ i then s.curveR n 7
  else
    let k := (List.range 7).foldl (fun a j => if s.curveI n j ≤ i then j else a) 0
    let d := s.curveI n (k + 1) - s.curveI n k
    s.curveR n k + ((i - s.curveI n k : Int) : Rat) * (s.curveR n (k + 1) - s.curveR n k) / (d : Rat)

/-- The trip integrator after a measurement of current i (R298). -/
def State.integrate (s : State) (n : Nat) (i : Int) (acc : Rat) : Rat :=
  let j := max i 0
  if s.curveI n 0 ≤ j then acc + s.breakerRate n j
  else acc - acc / (100 * (fieldOf (s.fcfg n 0x18) 0 16 : Rat))

/-- Is a supply voltage in window (R286)? -/
def State.inWindow (s : State) (n v : Nat) : Bool :=
  decide (fieldOf (s.fcfg n 4) 0 16 ≤ v) && decide (v ≤ fieldOf (s.fcfg n 4) 16 16)

/-- Energy after a measurement (R283): 10 µs at the power given, in steps of 10^−5 µJ; each wrap toggles E_WRAP. -/
def Feed.addEnergy (f : Feed) (m : FeedMeas) : Feed :=
  let e := f.eFrac + ((m.vout : Int) * m.i).toNat
  let t := f.energy.toNat + e / 100000
  { f with energy := BitVec.ofNat 64 t, eFrac := e % 100000, eWrap := f.eWrap ^^ decide (t ≥ 2 ^ 64) }

/-- The counts of R286, R287 and R301 after a measurement. Those of R287 go on in the instant in which the gate turned off, so that
an event of a lower row is found and counted (R308). -/
def State.measured (s : State) (n : Nat) (f : Feed) (m : FeedMeas) : Feed :=
  let a := s.inWindow n m.va
  let b := s.inWindow n m.vb
  let ins := fieldOf (s.fcfg n 0) 8 14 * 1000000
  let ov := fieldOf (s.fcfg n 4) 16 16
  let since := fun (ok : Bool) (o : Option Nat) => if ok then some (o.getD s.clock) else none
  let qual := fun (o : Option Nat) => match o with | some t => decide (s.clock - t ≥ ins) | none => false
  let on := f.st.gateOn || decide (f.offSince = s.clock ∧ f.metAt.isSome)
  { f with
    meas := m, pub := if s.path then m else f.pub
    aOk := a, bOk := b, aSince := since a f.aSince, bSince := since b f.bSince
    aQual := qual (since a f.aSince), bQual := qual (since b f.bSince)
    outRun := if on && !a && !b then f.outRun + 1 else 0
    overA := if on && decide (m.va > ov) then f.overA + 1 else 0
    overB := if on && decide (m.vb > ov) then f.overB + 1 else 0
    shortRun :=
      if !f.st.gateOn && decide (s.clock - f.offSince ≥ 100000000) && decide (m.vout > fieldOf (s.fcfg n 0xC) 0 16) then
        f.shortRun + 1 else 0 }

/-- FEED_MEASUREMENT (R282, R283, R286, R287, R298): one set of values, every 10 µs. -/
def State.feedMeasure (s : State) (n : Nat) (m : FeedMeas) : State :=
  let f := s.feed n
  let f1 := (s.measured n (f.addEnergy m) m)
  let acc := if f.st.gateOn || decide (f.acc > 0) then s.integrate n m.i f.acc else f.acc
  let s1 := s.setFeed n { f1 with acc := acc }
  let full := decide (s.curveI n 0 ≤ m.i) && decide (acc ≥ 1)
  let left := (if f.aOk && !f1.aOk then 1 else 0) + (if f.bOk && !f1.bOk then 1 else 0)
  let s2 := if left > 0 then (s1.countN (5376 + 8 * n + 6) left).raise (0x1E2 + 4 * n) else s1
  if full && f.st.gateOn then s2.trip n 1
  else if full && decide (f.acc < 1) && s.feedMet n 3 then s2.count (feedCounter n 1)
  else s2

/-- FEED_MEASUREMENT. -/
def execFeedMeasurement (dt : Nat) (feed : Fin 8) (i : Int) (v : FeedVolts) (vgs : Int) (s : State) :
    Host.Outcome State Fault Refusal :=
  s.at_ dt (fun s =>
    s.feedMeasure feed.val { i := i, vout := v.vout, vcom := v.vcom, va := v.va, vb := v.vb, vgs := vgs })

/-- ORing gate of a supply of v mV at a supervision tick (R280, R281): pulled down until the supply exceeds Fn_COM again;
regulated to a drop of 25 mV; fully driven where the drop is more. -/
def OrGate.tick (g : OrGate) (v vcom : Nat) : OrGate :=
  if g = .off ∧ v ≤ vcom then .off else if v > vcom + 25 then .full else .regulated

/-- What drives the pass gate of a feed in RAMP (R288): the limit that allows less current. The power limit does where the
dissipation has come to PMAX (0.1 W; mV times mA are µW) and the output rises slower than SLEW_MV_MS; the slew limit where the
dissipation is below PMAX. -/
def State.rampDrive (s : State) (n : Nat) (f : Feed) (m : FeedMeas) : PassDrive :=
  let drop : Int := (m.vcom : Int) - m.vout
  let hot := decide (drop * m.i ≥ (fieldOf (s.fcfg n 0x10) 0 16 * 100000 : Nat))
  let steep := decide (((m.vout : Int) - f.tickOut) * 1000 ≥ (fieldOf (s.fcfg n 8) 16 16 : Nat))
  if hot && (!steep || Config.foldTie drop m.i) then .power else .slew

/-- One supervision tick (R280, R281, R288, R290, R293 to R295, R300). -/
def State.feedTick (s : State) (n : Nat) (m : FeedMeas) : State :=
  let f := s.feed n
  let ends := decide (f.st = .ramp) && decide (m.vout + 300 ≥ m.vcom)
  let drive := if ends then .full else if f.st = .ramp then s.rampDrive n f m else f.drive
  let timer := decide (s.curveI n 0 ≤ m.i) || decide (drive = .power)
  let weak := decide (m.vgs < 2000)
  let charge :=
    match f.st with
    | .ramp => if weak then f.chargeSince else none
    | .qualify => if weak then some (f.chargeSince.getD s.clock) else none
    | .on => if weak then some (f.chargeSince.getD s.clock) else none
    | _ => none
  let counting := decide (f.st = .qualify)
  let withheld := counting && timer && decide (f.qTicks = 1999)
  let s1 := s.setFeed n { f with
    st := if ends then .qualify else f.st
    drive := drive
    ftimer := timer
    chargeSince := charge
    aGate := f.aGate.tick m.va m.vcom, bGate := f.bGate.tick m.vb m.vcom
    tickOut := m.vout
    qTicks := if ends then 0 else if counting then (if timer || f.ftimer then 0 else f.qTicks + 1) else f.qTicks }
  if withheld then s1.count (5376 + 8 * n + 5) else s1

/-- FEED_SUPERVISION_TICK. -/
def execFeedSupervisionTick (dt : Nat) (feed : Fin 8) (i : Int) (vout vcom : Nat) (vgs : Int) (supplies : Nat × Nat) (s : State) :
    Host.Outcome State Fault Refusal :=
  s.at_ dt (fun s =>
    s.feedTick feed.val { i := i, vout := vout, vcom := vcom, va := supplies.1, vb := supplies.2, vgs := vgs })

/-! ## Events of supervision -/

/-- An event of a feed under a condition on it. -/
def State.feedRow (s : State) (dt n : Nat) (p : State → Feed → Bool) (f : State → State) : Host.Outcome State Fault Refusal :=
  s.at_ dt (fun s => if p s (s.feed n) then f s else s)

/-- An event that turns the pass gate off when its condition holds; in the instant of an event of a higher row it is counted
(R308). -/
def State.feedOffRow (s : State) (dt n cause : Nat) (p : State → Feed → Bool) (f : State → State) :
    Host.Outcome State Fault Refusal :=
  s.at_ dt (fun s =>
    if p s (s.feed n) && (s.feed n).st.gateOn then f s
    else if p s (s.feed n) && s.feedMet n (rowOf cause false) then s.count (feedCounter n cause)
    else s)

/-- FEED_SUPPLY_QUALIFIED (R286): a feed in WAIT enters RAMP. -/
def execFeedSupplyQualified (dt : Nat) (feed : Fin 8) (s : State) : Host.Outcome State Fault Refusal :=
  s.feedRow dt feed.val (fun s f => decide (f.st = .wait) && f.qualified && s.path) (fun s => s.leaveOff feed.val)

/-- Power good is asserted: ON, source 0x0, and the end of a quarantine (R294, R208). -/
def State.powerGood (s : State) (n : Nat) : State :=
  ((s.modFeed n (fun f => { f with st := .on, pg := true, pgSince := s.clock })).raise (0x1E0 + 4 * n)).quarPg n

/-- FEED_QUALIFY_COMPLETE (R294, R295). In the instant in which the gate turned off it is counted as a power good withheld
(R308). -/
def execFeedQualifyComplete (dt : Nat) (feed : Fin 8) (s : State) : Host.Outcome State Fault Refusal :=
  s.feedRow dt feed.val (fun _ f => decide (f.qTicks ≥ 2000) && !f.ftimer)
    (fun s =>
      if (s.feed feed.val).st = .qualify then s.powerGood feed.val
      else if s.feedMet feed.val 8 && decide ((s.feed feed.val).offSince = s.clock) then
        (s.modFeed feed.val (fun f => { f with qTicks := 0 })).count (5376 + 8 * feed.val + 5)
      else s)

/-- FEED_START_TIMEOUT (R291). -/
def execFeedStartTimeout (dt : Nat) (feed : Fin 8) (s : State) : Host.Outcome State Fault Refusal :=
  s.feedOffRow dt feed.val 4
    (fun s f => decide (f.st ≠ .on) && decide (s.clock - f.rampAt ≥ fieldOf (s.fcfg feed.val 0) 24 8 * 1000000))
    (fun s => s.trip feed.val 4)

/-- Level at which the fast-trip comparator acts in a state in mA (R292; the field's description names QUALIFY with ON, log 86). -/
def State.tripLevel (s : State) (n : Nat) : Nat :=
  if (s.feed n).st = .on then fieldOf (s.fcfg n 0x14) 0 16 else fieldOf (s.fcfg n 0x14) 16 16

/-- FEED_FAST_TRIP (R292): the current has come to the level of the state. -/
def execFeedFastTrip (dt : Nat) (x : FeedCurrent) (s : State) : Host.Outcome State Fault Refusal :=
  s.feedRow dt x.feed.val (fun s f => f.st.gateOn && decide (x.i ≥ (s.tripLevel x.feed.val : Nat)))
    (fun s => s.trip x.feed.val (if (s.feed x.feed.val).st = .ramp then 3 else 2))

/-- FEED_GATE_FAIL (R300). -/
def execFeedGateFail (dt : Nat) (feed : Fin 8) (s : State) : Host.Outcome State Fault Refusal :=
  s.feedOffRow dt feed.val 5
    (fun s f => match f.chargeSince with | some t => decide (s.clock - t ≥ 5000000) | none => false)
    (fun s => s.trip feed.val 5)

/-- QP_SHORT is found: LATCHED from any state but DISABLED; a quarantine of the feed ends, and its hold with it (R301, R307,
R210). -/
def State.qpShort (s : State) (n : Nat) : State :=
  let was := (s.feed n).st
  let s1 := (s.modFeed n (fun f => { f with
    st := .latched, shortRun := 0, quar := false, metAt := some (s.clock, rowOf 6 false) })).feedCause n 6
  let s2 := (s1.count (feedCounter n 6)).raise (0x1E1 + 4 * n)
  let s3 := if was = .latched then s2 else s2.raise (0x1E3 + 4 * n)
  if s3.inQuar n then s3.quarEnd n 6 else s3

/-- FEED_QP_SHORT. -/
def execFeedQpShort (dt : Nat) (feed : Fin 8) (s : State) : Host.Outcome State Fault Refusal :=
  s.feedRow dt feed.val (fun _ f => decide (f.st ≠ .disabled) && !f.st.gateOn && decide (f.shortRun ≥ 10))
    (fun s => s.qpShort feed.val)

/-- FEED_SUPPLY_LOSS (R287): WAIT with cause SUPPLY; no retry is consumed. -/
def execFeedSupplyLoss (dt : Nat) (feed : Fin 8) (s : State) : Host.Outcome State Fault Refusal :=
  s.feedOffRow dt feed.val 7 (fun _ f => decide (f.outRun ≥ 10)) (fun s => s.gateOff feed.val 7 .wait)

/-- FEED_OVERVOLT (R287): WAIT with cause OVERVOLT. -/
def execFeedOvervolt (dt : Nat) (feed : Fin 8) (s : State) : Host.Outcome State Fault Refusal :=
  s.feedOffRow dt feed.val 8 (fun _ f => decide (f.overA ≥ 3 ∨ f.overB ≥ 3)) (fun s => s.gateOff feed.val 8 .wait)

/-- FEED_COOLING_END (R303, R22). -/
def execFeedCoolingEnd (dt : Nat) (feed : Fin 8) (s : State) : Host.Outcome State Fault Refusal :=
  s.feedRow dt feed.val (fun s f => decide (f.st = .cooling) && decide (f.coolEnd ≤ s.clock) && s.path)
    (fun s => s.leaveOff feed.val)

/-- FEED_RETRY_CLEAR (R304). -/
def execFeedRetryClear (dt : Nat) (feed : Fin 8) (s : State) : Host.Outcome State Fault Refusal :=
  s.feedRow dt feed.val
    (fun s f => f.pg && decide (s.clock - f.pgSince ≥ fieldOf (s.fcfg feed.val 0x18) 16 8 * 1000000000))
    (fun s => s.modFeed feed.val (fun f => { f with retries := 0 }))

/-- FEED_CYCLE_END (R306). -/
def execFeedCycleEnd (dt : Nat) (feed : Fin 8) (s : State) : Host.Outcome State Fault Refusal :=
  s.feedRow dt feed.val (fun s f => match f.cycleEnd with | some t => decide (t ≤ s.clock) | none => false)
    (fun s => (s.modFeed feed.val (fun f => { f with cycleEnd := none })).holdEnds feed.val)

/-- ORING_REVERSE (R281): Fn_COM is above supply A or B by more than 10 mV, and its ORing gate is pulled down. -/
def execOringReverse (dt : Nat) (feed : Fin 8) (x : FeedDrop) (s : State) : Host.Outcome State Fault Refusal :=
  s.at_ dt (fun s =>
    if x.vcom > x.v + 10 then
      s.modFeed feed.val (fun f => if x.sideB then { f with bGate := .off } else { f with aGate := .off })
    else s)

/-! ## Commands and holds -/

/-- Does SAFE hold a feed off (DV_PINSAFE.FEED_OFF, R513)? -/
def State.safeHold (s : State) (n : Nat) : Bool := decide (s.dev.st = .safe) && s.bit 0x1034 (8 + n)

/-- ON: the hold ends (R305), but not one of SAFE; of a CYCLE or a quarantine too, which then counts as restarted. -/
def State.feedOn (s : State) (n : Nat) : State :=
  let s1 := channels.foldl (fun (a : State) c =>
    a.modLine c (fun v => { v with
      quars := v.quars.map (fun q => if q.feed = n then { q with restarted := true } else q) })) s
  (s1.modFeed n (fun f => { f with hold := s.safeHold n, cycleEnd := none, quar := false })).holdEnds n

/-- OFF: a hold with cause COMMAND (R305). -/
def State.feedOff (s : State) (n : Nat) : State := (s.modFeed n (fun f => { f with hold := true })).feedHold n 9

/-- CYCLE: a hold of OFF_MS with cause COMMAND. -/
def State.feedCycle (s : State) (n offMs : Nat) : State :=
  (s.modFeed n (fun f => { f with cycleEnd := some (s.clock + offMs * 1000000) })).feedHold n 9

/-- CLEAR: leave LATCHED, retry count 0; elsewhere it is counted (R304, R306). -/
def State.feedClear (s : State) (n : Nat) : State :=
  let f := s.feed n
  if f.st = .latched then (s.setFeed n { f with retries := 0 }).leaveOff n else s.count (5376 + 8 * n + 7)

/-- A quarantine starts (R207, R208): the off command, source 0x1C5, event START and the breach of R175. In the instant of a
feed event of a higher row of Table 9.8 none starts, with event SKIPPED (R308). -/
def State.quarStart (s : State) (ch : Nat) (q : QuarReq) : State :=
  if s.feedMet q.feed 7 then
    ((s.modLine ch (fun v => { v with reqs := v.reqs.filter (fun r => decide (r.feed ≠ q.feed)) })).count (feedCounter q.feed 10)).quarRecord ch 5 q.feed q.action q.node
  else
  let s1 := s.modLine ch (fun v => { v with
    reqs := v.reqs.filter (fun r => decide (r.feed ≠ q.feed))
    quars := v.quars ++ [{ feed := q.feed, action := q.action, restart := s.clock + q.offMs * 1000000, restarted := false }] })
  let s2 := (s1.modFeed q.feed (fun f => { f with quar := true })).feedHold q.feed 10
  (((s2.raise 0x1C5).count (64 * ch + 31)).quarRecord ch 2 q.feed q.action q.node).quarBreach q.feed

/-- QUARANTINE: the pending request is approved, or the feed is held off (R207, R306). Where line watch may start no quarantine
now (R212, R513), the command acts as OFF (log 86). -/
def State.feedQuar (s : State) (n : Nat) : State :=
  match (if s.mayQuar then s.reqFor n else none) with
  | some c =>
    match (s.line c).reqs.find? (fun q => decide (q.feed = n)) with
    | some q => s.quarStart c q
    | none => s.feedOff n
  | none => s.feedOff n

/-- The action of Table 9.7. -/
def State.feedAct (s : State) (n act offMs : Nat) : State :=
  if act = 1 then s.feedOn n
  else if act = 2 then s.feedOff n
  else if act = 3 then s.feedCycle n offMs
  else if act = 4 then s.feedQuar n
  else s.feedClear n

/-- FEED_CMD (R306): MALFORMED for an action, an OFF_MS or a feed that allows it not; TIMEOUT while the field die is in
reset (R506); else applied. -/
def State.acceptFeed (s : State) (d : Desc) (act n offMs : Nat) : State :=
  s.accept d 8 (fun s =>
    if decide (act = 0) || decide (act > 5) || (if act = 3 then decide (offMs < 10) else decide (offMs ≠ 0)) ||
        !bitOf (s.fcfg n 0) 0 then
      s.complete d { complOf d 8 2 with fstate := (s.feed n).st.code }
    else if s.path = false then s.complete d { complOf d 8 5 with fstate := (s.feed n).st.code }
    else
      let s1 := s.feedAct n act offMs
      s1.complete d { complOf d 8 0 with fstate := (s1.feed n).st.code })

/-- FEED_CMD_ON. -/
def execFeedCmdOn (dt : Nat) (d : Desc) (feed : Fin 8) (s : State) : Host.Outcome State Fault Refusal :=
  s.descRow dt d (.feedCmd 1 feed 0) (fun s => s.acceptFeed d 1 feed.val 0)
/-- FEED_CMD_OFF. -/
def execFeedCmdOff (dt : Nat) (d : Desc) (feed : Fin 8) (s : State) : Host.Outcome State Fault Refusal :=
  s.descRow dt d (.feedCmd 2 feed 0) (fun s => s.acceptFeed d 2 feed.val 0)
/-- FEED_CMD_CYCLE. -/
def execFeedCmdCycle (dt : Nat) (d : Desc) (feed : Fin 8) (offMs : BitVec 16) (s : State) :
    Host.Outcome State Fault Refusal :=
  s.descRow dt d (.feedCmd 3 feed offMs) (fun s => s.acceptFeed d 3 feed.val offMs.toNat)
/-- FEED_CMD_QUARANTINE. -/
def execFeedCmdQuarantine (dt : Nat) (d : Desc) (feed : Fin 8) (s : State) : Host.Outcome State Fault Refusal :=
  s.descRow dt d (.feedCmd 4 feed 0) (fun s => s.acceptFeed d 4 feed.val 0)
/-- FEED_CMD_CLEAR. -/
def execFeedCmdClear (dt : Nat) (d : Desc) (feed : Fin 8) (s : State) : Host.Outcome State Fault Refusal :=
  s.descRow dt d (.feedCmd 5 feed 0) (fun s => s.acceptFeed d 5 feed.val 0)

/-- A write of FD_Fn_CMD: with at most one bit set it is posted, and its action is taken when the field die has it (R400,
R506); with more it is discarded (R306). -/
def State.fdCmd (s : State) (n : Nat) (w : Wr) : State :=
  s.wr (fdBase n + 0x40) w (fun s =>
    if bitsSet w.data 3 > 1 then s.discard (fdBase n + 0x40) w.port reasonInvalid else s.post (fdBase n + 0x40) w.data)

/-- The action of a delivered write of FD_Fn_CMD (R305, R306). -/
def State.fdDelivered (s : State) (n : Nat) (data : Word) : State :=
  if bitOf data 0 then s.feedOn n else if bitOf data 1 then s.feedOff n else if bitOf data 2 then s.feedClear n else s

/-- FD_CMD_ON. -/
def execFdCmdOn (dt : Nat) (feed : Fin 8) (w : Wr) (s : State) : Host.Outcome State Fault Refusal :=
  s.at_ dt (fun s => s.fdCmd feed.val w)
/-- FD_CMD_OFF. -/
def execFdCmdOff (dt : Nat) (feed : Fin 8) (w : Wr) (s : State) : Host.Outcome State Fault Refusal :=
  s.at_ dt (fun s => s.fdCmd feed.val w)
/-- FD_CMD_CLEAR. -/
def execFdCmdClear (dt : Nat) (feed : Fin 8) (w : Wr) (s : State) : Host.Outcome State Fault Refusal :=
  s.at_ dt (fun s => s.fdCmd feed.val w)

/-- FD_LOCK (R312, R398): posted; the lock is set when the field die has it. -/
def execFdLock (dt : Nat) (w : Wr) (s : State) : Host.Outcome State Fault Refusal :=
  s.at_ dt (fun s => s.wr 0xA8800 w (fun s => s.post 0xA8800 w.data))

/-- EN as committed takes effect on a feed (R284, R285). -/
def State.feedEn (s : State) (n : Nat) : State :=
  let f := s.feed n
  if bitOf (s.fcfg n 0) 0 then
    if f.st = .disabled then s.setFeed n { f with st := if f.isHeld then .held else .wait } else s
  else if f.st = .disabled then s
  else if f.st.gateOn then s.gateOff n 9 .disabled
  else if s.feedMet n 6 then (s.setFeed n { f with st := .disabled }).count (feedCounter n 9)
  else (s.setFeed n { f with st := .disabled, metAt := some (s.clock, rowOf 9 true) }).feedCause n 9

/-- The committed FD_ configuration, which the field die is to hold. -/
def State.fdLive (s : State) : Tbl Word := s.regs.live.filter (fun e => decide (0xA8000 ≤ e.1) && decide (e.1 < 0xA8800))

/-- The committed FD_ configuration applies on the field die (R309). -/
def State.fdRestore (s : State) : State :=
  (List.range 8).foldl State.feedEn { s with fd := { s.fd with cfg := s.fdLive } }

/-- FIELD_COMMIT_ARRIVAL (R309). -/
def execFieldCommitArrival (dt : Nat) (s : State) : Host.Outcome State Fault Refusal :=
  s.at_ dt (fun s => if s.path then (s.acked .commit).fdRestore else s)

/-- FEED_ENERGY_LO_READ (R283, R48). -/
def execFeedEnergyLoRead (dt : Nat) (feed : Fin 8) (r : Rd) (s : State) : Host.Outcome State Fault Refusal :=
  s.at_ dt (fun s => s.latchRead (fdBase feed.val + 0x94) r (lo32 (s.feed feed.val).energy)
    (fun q => { q with eHi := Tbl.put q.eHi feed.val 0 (hi32 (s.feed feed.val).energy) }))

end Sys2Proof.Machine
end

