-- ==== Sys2Proof/Machine/Crypto.lean ====
section
/-!
DEFINITION. The checks and codes the spec names by standard: CRC-32 as R404 gives it, AES-128 (FIPS 197) and AES-CMAC
(NIST SP 800-38B), which R538 to R544 use. Byte strings are lists, byte 0 first.
-/

namespace Sys2Proof

/-- Bytes of a number, little-endian. -/
def leBytes : Nat → Nat → List Byte
  | 0, _ => []
  | n + 1, v => BitVec.ofNat 8 v :: leBytes n (v / 256)

/-- Bytes of a number, big-endian. -/
def beBytes (n v : Nat) : List Byte := (leBytes n v).reverse

/-- A list of bytes cut or filled with zeros to n bytes. -/
def fitBytes (n : Nat) (l : List Byte) : List Byte := (l ++ List.replicate n 0).take n

/-- Number that bytes spell, little-endian. -/
def leNat (l : List Byte) : Nat := l.foldr (fun b a => b.toNat + 256 * a) 0

/-! ## CRC-32 -/

/-- One bit of the reflected CRC-32 register. -/
def crcBit (c : Word) : Word := if c.getLsbD 0 then (c >>> 1) ^^^ 0xEDB88320 else c >>> 1

/-- One byte through the register. -/
def crcByte (c : Word) (b : Byte) : Word :=
  crcBit (crcBit (crcBit (crcBit (crcBit (crcBit (crcBit (crcBit (c ^^^ b.setWidth 32))))))))

/-- Register after a list of bytes. -/
def crcAdd (c : Word) (l : List Byte) : Word := l.foldl crcByte c

/-- CRC-32 of a list of bytes. -/
def crc32 (l : List Byte) : Word := ~~~(crcAdd 0xFFFFFFFF l)

/-! ## AES-128 -/

/-- Multiplication by x in the field of FIPS 197. -/
def gfDouble (a : Byte) : Byte := if a.getLsbD 7 then (a <<< 1) ^^^ 0x1B else a <<< 1

/-- Product in that field, over the low n bits of b. -/
def gfMulN : Nat → Byte → Byte → Byte
  | 0, _, _ => 0
  | n + 1, a, b => (if b.getLsbD 0 then a else 0) ^^^ gfMulN n (gfDouble a) (b >>> 1)

/-- Product in that field. -/
def gfMul (a b : Byte) : Byte := gfMulN 8 a b

/-- Inverse (0 for 0): the 254th power. -/
def gfInv (a : Byte) : Byte :=
  let a2 := gfMul a a
  let a4 := gfMul a2 a2
  let a8 := gfMul a4 a4
  let a16 := gfMul a8 a8
  let a32 := gfMul a16 a16
  let a64 := gfMul a32 a32
  let a128 := gfMul a64 a64
  gfMul (gfMul (gfMul a2 a4) (gfMul a8 a16)) (gfMul (gfMul a32 a64) a128)

/-- Substitution box: inverse, then the affine map. -/
def aesSub (a : Byte) : Byte :=
  let b := gfInv a
  b ^^^ b.rotateLeft 1 ^^^ b.rotateLeft 2 ^^^ b.rotateLeft 3 ^^^ b.rotateLeft 4 ^^^ 0x63

/-- Byte i of a list. -/
def byteAt (l : List Byte) (i : Nat) : Byte := l.getD i 0

/-- Exclusive or of two lists. -/
def xorBytes (a b : List Byte) : List Byte := List.zipWith (· ^^^ ·) a b

/-- Next round key from the last, with its round constant. -/
def aesNextKey (k : List Byte) (rc : Byte) : List Byte :=
  let t := [aesSub (byteAt k 13) ^^^ rc, aesSub (byteAt k 14), aesSub (byteAt k 15), aesSub (byteAt k 12)]
  let w0 := xorBytes (k.take 4) t
  let w1 := xorBytes ((k.drop 4).take 4) w0
  let w2 := xorBytes ((k.drop 8).take 4) w1
  let w3 := xorBytes (k.drop 12) w2
  w0 ++ w1 ++ w2 ++ w3

/-- Substitute and shift rows; the state is column by column. -/
def aesSubShift (s : List Byte) : List Byte :=
  (List.range 16).map (fun i => aesSub (byteAt s ((i + 4 * (i % 4)) % 16)))

/-- Mix one column. -/
def aesMixCol (a b c d : Byte) : List Byte :=
  [gfDouble a ^^^ gfDouble b ^^^ b ^^^ c ^^^ d, a ^^^ gfDouble b ^^^ gfDouble c ^^^ c ^^^ d,
   a ^^^ b ^^^ gfDouble c ^^^ gfDouble d ^^^ d, gfDouble a ^^^ a ^^^ b ^^^ c ^^^ gfDouble d]

/-- Mix columns. -/
def aesMix (s : List Byte) : List Byte :=
  (List.range 4).flatMap (fun c =>
    aesMixCol (byteAt s (4 * c)) (byteAt s (4 * c + 1)) (byteAt s (4 * c + 2)) (byteAt s (4 * c + 3)))

/-- The rounds left to do, with the round key before, the round constant and the state. -/
def aesRounds : Nat → List Byte → Byte → List Byte → List Byte
  | 0, _, _, s => s
  | 1, k, rc, s => xorBytes (aesSubShift s) (aesNextKey k rc)
  | n + 2, k, rc, s =>
    let k' := aesNextKey k rc
    aesRounds (n + 1) k' (gfDouble rc) (xorBytes (aesMix (aesSubShift s)) k')

/-- AES-128 of a block of 16 bytes. -/
def aes128 (key block : List Byte) : List Byte := aesRounds 10 key 1 (xorBytes block key)

/-! ## The inverse cipher, for key blobs -/

/-- Inverse of the substitution box. -/
def aesInvSub (a : Byte) : Byte :=
  let b := a.rotateLeft 1 ^^^ a.rotateLeft 3 ^^^ a.rotateLeft 6 ^^^ 0x05
  gfInv b

/-- Inverse of the row shift and substitution. -/
def aesInvSubShift (s : List Byte) : List Byte :=
  (List.range 16).map (fun i => aesInvSub (byteAt s ((i + 16 - 4 * (i % 4)) % 16)))

/-- Inverse of one mixed column. -/
def aesInvMixCol (a b c d : Byte) : List Byte :=
  [gfMul 14 a ^^^ gfMul 11 b ^^^ gfMul 13 c ^^^ gfMul 9 d, gfMul 9 a ^^^ gfMul 14 b ^^^ gfMul 11 c ^^^ gfMul 13 d,
   gfMul 13 a ^^^ gfMul 9 b ^^^ gfMul 14 c ^^^ gfMul 11 d, gfMul 11 a ^^^ gfMul 13 b ^^^ gfMul 9 c ^^^ gfMul 14 d]

/-- Inverse of the column mix. -/
def aesInvMix (s : List Byte) : List Byte :=
  (List.range 4).flatMap (fun c =>
    aesInvMixCol (byteAt s (4 * c)) (byteAt s (4 * c + 1)) (byteAt s (4 * c + 2)) (byteAt s (4 * c + 3)))

/-- Round keys 0 to n, the last one first. -/
def aesKeys : Nat → List (List Byte) → Byte → List (List Byte)
  | 0, ks, _ => ks
  | n + 1, ks, rc =>
    match ks with
    | [] => []
    | k :: r => aesKeys n (aesNextKey k rc :: k :: r) (gfDouble rc)

/-- Inverse of AES-128 on a block of 16 bytes. -/
def aes128Inv (key block : List Byte) : List Byte :=
  match aesKeys 10 [key] 1 with
  | [] => block
  | k10 :: ks =>
    let step := fun (s : List Byte) (k : List Byte) => aesInvSubShift (aesInvMix (xorBytes s k))
    match ks.reverse with
    | [] => block
    | k0 :: mid => xorBytes (mid.reverse.foldl step (aesInvSubShift (xorBytes block k10))) k0

/-! ## AES-CMAC -/

/-- Doubling in the field of SP 800-38B. -/
def cmacDouble (l : List Byte) : List Byte :=
  let v : BitVec 128 := BitVec.ofNat 128 (leNat l.reverse)
  let d := if v.getLsbD 127 then (v <<< 1) ^^^ 0x87 else v <<< 1
  beBytes 16 d.toNat

/-- Chaining over whole blocks of 16 bytes, n at most. -/
def cmacChain : Nat → List Byte → List Byte → List Byte → List Byte
  | 0, _, x, _ => x
  | n + 1, key, x, m => if m.length < 16 then x else cmacChain n key (aes128 key (xorBytes x (m.take 16))) (m.drop 16)

/-- AES-CMAC of a message. -/
def aesCmac (key msg : List Byte) : List Byte :=
  let k1 := cmacDouble (aes128 key (List.replicate 16 0))
  let k2 := cmacDouble k1
  let full := decide (msg.length ≠ 0) && decide (msg.length % 16 = 0)
  let n := if full then msg.length / 16 - 1 else msg.length / 16
  let last := msg.drop (16 * n)
  let lastBlock := if full then xorBytes last k1 else xorBytes (fitBytes 16 (last ++ [0x80])) k2
  cmacChain (n + 1) key (List.replicate 16 0) (msg.take (16 * n) ++ lastBlock)

end Sys2Proof
end

