-- ==== Sys2Proof/Machine/PlyBase.lean ====
section
/-!
DEFINITION. What a ply member hears (R438 to R440, R443, R444), and its registers.
-/

namespace Sys2Proof.Machine

/-- PL_IDENT.TAG. -/
def State.plTag (s : State) : BitVec 16 := BitVec.ofNat 16 (s.fld 0xB0004 0 16)
/-- What this member knows of member j. -/
def State.mem (s : State) (j : Nat) : PlyMem := Tbl.lookD s.pl.mems j {}
/-- Replace what this member knows of member j. -/
def State.setMem (s : State) (j : Nat) (m : PlyMem) : State :=
  { s with pl := { s.pl with mems := Tbl.put s.pl.mems j {} m } }
/-- Change what this member knows of member j. -/
def State.modMem (s : State) (j : Nat) (f : PlyMem → PlyMem) : State := s.setMem j (f (s.mem j))
/-- This device's member number. -/
def State.own (s : State) : Nat := s.dev.plyId
/-- The other two members of the ply. -/
def State.others (s : State) : List Nat := [0, 1, 2].filter (fun j => decide (j ≠ s.dev.plyId))

/-- A message of the ply is ignored and counted (R438). -/
def State.plyIgnore (s : State) : State := s.count 5888

/-- R438 on a message's tag and turn: does it pass, and the state after a message that does not. -/
def State.plyCheck (s : State) (tag : BitVec 16) (turnOk : Bool) (f : State → State) : State :=
  if tag ≠ s.plTag then s.plyIgnore.raise 0x30F
  else if !turnOk then s.plyIgnore
  else f s

/-- A heartbeat of another member is heard on a path (R438 to R440). -/
def State.hear (s : State) (bus : Bool) (b : Beat) : State :=
  s.plyCheck b.tag (decide (b.turn = s.tm.turn)) (fun s =>
    if decide (b.role > 4) || !(s.others.contains b.member) then s.plyIgnore
    else s.modMem b.member (fun m =>
      let x := { m with last := some b, lease := if b.role = 3 then some b.leaseEnd else m.lease }
      if bus then { x with bus := some b } else { x with link := some b }))

/-- A run of bytes of a payload. -/
def bytesAt (l : List Byte) (i n : Nat) : Nat := leNat ((l.drop i).take n)

/-- The heartbeat that a payload spells (Table 14.2); none unless it is 16 bytes of Bornov profile version 1. -/
def parseBeat (l : List Byte) : Option Beat :=
  if l.length = 16 ∧ bytesAt l 0 1 = 1 then
    let x := bytesAt l 1 1
    let y := bytesAt l 2 1
    let z := bytesAt l 3 1
    some { member := x % 4, role := x / 4 % 8, releasing := decide (x / 32 % 2 = 1), holder := y % 4, vote := y / 4 % 4,
           view := y / 16 % 8, demoted := z % 8, shadowBad := decide (z / 8 % 2 = 1), epoch := BitVec.ofNat 16 (bytesAt l 4 2),
           leaseEnd := BitVec.ofNat 16 (bytesAt l 6 2), turn := BitVec.ofNat 48 (bytesAt l 8 6),
           tag := BitVec.ofNat 16 (bytesAt l 14 2) }
  else none

/-- A heartbeat frame from the bus (R443). -/
def State.hearFrame (s : State) (l : List Byte) : State :=
  match parseBeat l with
  | some b => s.hear true b
  | none => s.plyIgnore

/-- Does a frame belong to the heartbeats of the ply (R443)? -/
def State.isBeat (s : State) (ch : Nat) (f : Frame) : Bool :=
  s.plyMember && s.bit 0xB0010 4 && decide (ch = s.fld 0xB0010 0 4) && !f.rtr && decide (f.ide = s.bit 0xB0014 29) &&
  decide (s.fld 0xB0014 0 29 ≤ f.id.toNat) && decide (f.id.toNat ≤ s.fld 0xB0014 0 29 + 2)

end Sys2Proof.Machine
end

