-- ==== Sys2Proof/Machine/Streams.lean ====
section
/-!
DEFINITION. Streams: opening, drafting and closing (R142 to R145, R160 to R168, R442, R542), foreign declarations (R166,
R185), payloads and releases (R146 to R150, R88, R139, R452, R543 to R547), value lines (R148, R346).
-/

namespace Sys2Proof.Machine

/-! ## Limits of a declaration -/

/-- Payload lengths of a format (Table 5.1). -/
def lenValid (fmt n : Nat) : Bool := if fmt = 0 then decide (n ≤ 8) else decide (n ≤ 8) || [12, 16, 20, 24, 32, 48, 64].contains n

/-- Identifier limit of Table 5.1. -/
def idValid (ide : Bool) (id : BitVec 29) : Bool := ide || decide (id.toNat < 2048)

/-- Is a value between two bounds? -/
def within (lo hi n : Nat) : Bool := decide (lo ≤ n) && decide (n ≤ hi)

/-- Does a key slot hold a key? -/
def State.hasKey (s : State) (slot : Nat) : Bool := (Tbl.look s.ks.slots slot).isSome

/-- Limits of Table 5.1 and of Table 10.9 (R142), and the cases of R542. -/
def State.openOk (s : State) (b : OpenBody) : Bool :=
  let tx := decide (b.kind ≠ 2)
  decide (b.kind ≠ 3) && decide (b.format ≠ 3) && idValid b.ide b.id && lenValid b.format.toNat b.len.toNat &&
  (if b.kind = 0 then decide (b.period ≠ 0) && decide (b.offIa.toNat < b.period.toNat * s.lenUs) else decide (b.period = 0)) &&
  (if b.kind = 1 then within 10 10000000 b.offIa.toNat else true) && (if b.kind = 2 then decide (b.offIa = 0) else true) &&
  (if tx then within 10 10000000 b.deadline.toNat && within 0 1000000 b.jitter.toNat && decide (b.stale = 0) &&
      decide (b.source ≠ 0)
    else decide (b.deadline = 0) && decide (b.jitter = 0) && decide (b.stale ≠ 0) && decide (b.source = 0)) &&
  (if b.source = 2 then decide (b.vlead ≠ 0) && decide (b.vaddr.toNat % 64 = 0)
    else decide (b.vlead = 0) && decide (b.vport = .a) && decide (b.vaddr = 0)) &&
  (if b.auth then decide (b.format ≠ 0) && tx && decide (8 ≤ b.len.toNat) && s.hasKey b.keySlot.toNat
    else decide (b.keySlot = 0))

/-- Is a stream number free (R143)? -/
def State.isClosed (s : State) (n : Nat) : Bool := match s.stream n with | none => true | some x => !x.isOpen

/-- Is there room for one more open stream (R144)? -/
def State.roomFor (s : State) (ch : Nat) : Bool :=
  decide ((s.dr.streams.filter (fun e => e.2.isOpen)).length < 4096) && decide ((s.chStreams ch).length < 1024)

/-- Limits of a foreign declaration (R185, Table 5.14); a withdrawal names no more than the index (Table 10.9). -/
def foreignOk (b : ForeignBody) : Bool :=
  if b.withdraw then
    decide (b.id = 0) && !b.ide && !b.rtr && decide (b.ch = 0) && decide (b.format = 0) && !b.sporadic &&
    decide (b.len = 0) && decide (b.node = 0) && decide (b.feed = 0) && decide (b.period = 0) && decide (b.jitter = 0) &&
    decide (b.deadline = 0)
  else
    decide (b.format ≠ 3) && !(b.rtr && decide (b.format ≠ 0)) && idValid b.ide b.id &&
    lenValid b.format.toNat b.len.toNat && (decide (b.feed.toNat < 8) || decide (b.feed = 15)) &&
    within 10 10000000 b.period.toNat && within 0 1000000 b.jitter.toNat

/-! ## The draft queue -/

/-- A request joins the drafts in order (R160). -/
def State.enqueue (s : State) (q : DraftReq) : State :=
  { s with
    dr := { s.dr with
      queue := s.dr.queue ++ [q], startAt := if s.dr.queue.isEmpty then s.clock else s.dr.startAt } }

/-- The draft in progress ends and the next one starts. -/
def State.nextDraft (s : State) : State :=
  { s with dr := { s.dr with queue := s.dr.queue.tail, startAt := s.clock } }

/-- STREAM_OPEN (R142 to R144, R160). -/
def State.acceptOpen (s : State) (d : Desc) (b : OpenBody) : State :=
  let n := b.stream.val
  s.acceptFor d 2 n (fun s =>
    if s.plyMember && decide (s.pl.role ≠ .acting) then s.refuse d 2 n 3
    else if s.openOk b = false ∨ s.isClosed n = false then s.refuse d 2 n 2
    else if s.roomFor b.ch.val = false then s.refuse d 2 n 7
    else s.plyWide d 2 (.open_ b) (fun s => s.enqueue (.open_ (.host d) b)))

/-- STREAM_OPEN. -/
def execStreamOpen (dt : Nat) (d : Desc) (b : OpenBody) (s : State) : Host.Outcome State Fault Refusal :=
  s.descRow dt d (.open_ b) (fun s => s.acceptOpen d b)

/-- FOREIGN_DECLARE (R166, R185). -/
def State.acceptForeign (s : State) (d : Desc) (b : ForeignBody) : State :=
  let n := b.index.val
  s.acceptFor d 5 n (fun s =>
    if s.plyMember && decide (s.pl.role ≠ .acting) then s.refuse d 5 n 3
    else if foreignOk b = false then s.refuse d 5 n 2
    else s.plyWide d 5 (.foreign b) (fun s => s.enqueue (.foreign (.host d) b)))

/-- FOREIGN_DECLARE. -/
def execForeignDeclare (dt : Nat) (d : Desc) (b : ForeignBody) (s : State) : Host.Outcome State Fault Refusal :=
  s.descRow dt d (.foreign b) (fun s => s.acceptForeign d b)

/-- May a STREAM_CLOSE of a stream be accepted: PENDING or LIVE, no close accepted before, no heartbeat (R165, R442)? -/
def Stream.mayClose (x : Stream) : Bool :=
  decide (x.st = .pending ∨ x.st = .live) && !x.closeSoon && x.hb.isNone

/-- A STREAM_CLOSE in its turn (R160): it takes effect at the next boundary, or completes MALFORMED (R165, R442). -/
def State.judgeClose (s : State) (o : Origin) (n : Nat) : State :=
  let d : Option Desc := match o with | .host d => some d | _ => none
  if (match s.stream n with | some x => x.mayClose | none => false) then
    s.modStream n (fun x => { x with closeSoon := true, closeDesc := d })
  else
    match d with
    | some d => s.refuse d 3 n 2
    | none => s

/-- A STREAM_CLOSE joins the requests before it (R160): behind a draft it waits, else it is taken at once. -/
def State.takeClose (s : State) (o : Origin) (n : Nat) : State :=
  if s.dr.queue.isEmpty then s.judgeClose o n else s.enqueue (.close o n)

/-- The STREAM_CLOSEs that stand at the head of a list of requests are taken. -/
def State.runCloses : List DraftReq → State → State
  | .close o n :: l, s => State.runCloses l (({ s with dr := { s.dr with queue := l } }).judgeClose o n)
  | _, s => s

/-- STREAM_CLOSE (R165, R340, R442). -/
def State.acceptClose (s : State) (d : Desc) (n : Fin 4096) : State :=
  s.acceptFor d 3 n.val (fun s =>
    if s.plyMember && decide (s.pl.role ≠ .acting) then s.refuse d 3 n.val 3
    else s.plyWide d 3 (.close n) (fun s => s.takeClose (.host d) n.val))

/-- STREAM_CLOSE. -/
def execStreamClose (dt : Nat) (d : Desc) (stream : Fin 4096) (s : State) : Host.Outcome State Fault Refusal :=
  s.descRow dt d (.close stream) (fun s => s.acceptClose d stream)

/-! ## Decisions -/

/-- A refused entry of the configuration image is counted and the first one recorded (R576). -/
def State.imageRefuse (s : State) (section_ entry : Nat) : State :=
  { s with
    dev := { s.dev with
      refused := min 65535 (s.dev.refused + 1)
      errSection := if s.dev.refused = 0 then section_ else s.dev.errSection
      errEntry := if s.dev.refused = 0 then entry else s.dev.errEntry } }

/-- A decision reaches where its request came from: a completion, nothing (another member's descriptor), or for a
refused image entry slub 0x0402 and the count of R576. -/
def State.answer (s : State) (o : Origin) (opcode n status reason rNs reserve : Nat) (turn : BitVec 48) : State :=
  match o with
  | .host d =>
    s.complete d { complOf d opcode status with
      reason := if status = 1 then reason else 0, stream := n, rNs := rNs, reserve := reserve, turn := turn }
  | .ply => s
  | .image sec e => if status = 0 then s else (s.slub 0x0402 n reason 0).imageRefuse sec e

/-- A DRAFT hank (Table 19.2). -/
def State.draftHank (s : State) (n status reason rNs : Nat) : State :=
  s.hank 4 0 n (BitVec.ofNat 64 (rNs % 2 ^ 32 + status * 2 ^ 32 + reason * 2 ^ 48))

/-- A draft was decided: source 0x1A0, and 0x1A1 when refused (Table 5.12). -/
def State.decided (s : State) (refused : Bool) : State :=
  if refused then (s.raise 0x1A0).raise 0x1A1 else s.raise 0x1A0

/-- Boundaries until a passing stream or declaration goes live: one, on a ply member two (R162, R469). -/
def State.liveIn (s : State) : Nat := if s.plyMember then 2 else 1

/-- Turn number that the next boundary opens (R56, R64). Where a time cell's turn and a LOAD_TURN are both pending, the cell's is
taken (DESIGN CHOICE, log 76). -/
def State.nextTurn (s : State) : BitVec 48 :=
  match s.tm.cellTurn with
  | some n => n
  | none => if s.tm.turnLoad then (s.rwi 0x1002C).setWidth 16 ++ s.rwi 0x10028 else s.tm.turn + 1

/-- A stream's table entry as a passing draft makes it: PENDING. RELEASES, MISSES, MISSES_UNCOVERED, MAX_RESP_NS and VALUE_LATE
start at 0 with each opening (DESIGN CHOICE, log 82). Releases of an earlier life that are not judged yet stay, and so do the
misses of the turn that its MISS entry is to carry. -/
def newStream (b : OpenBody) (key : Word) (cNs rNs reserve q toLive : Nat) (turn : BitVec 48) (old : Option Stream)
    (hb : Option Nat) : Stream :=
  { cfg := b, key := key, cNs := cNs, rNs := rNs, reserve := reserve, q := q, liveTurn := turn, st := .pending,
    toLive := toLive, hb := hb, rels := ((old.map (·.rels)).getD []).map (fun r => { r with old := true })
    nextRel := (old.map (·.nextRel)).getD 0, turnMiss := (old.map (·.turnMiss)).getD 0
    turnLate := (old.map (·.turnLate)).getD 0, turnCh := (old.map (·.turnCh)).getD 0 }

/-- A stream that passed its draft enters the table with its reserve (R162, R163), joins a breach (R605), and the figures
of its channel follow. -/
def State.admitStream (s : State) (b : OpenBody) (v : Verdict) (hb : Option Nat) : State :=
  let ch := b.ch.val
  let n := b.stream.val
  let x := newStream b (arbKey b.id b.ide false) (nsOf (frameTime s.live ch b.format.toNat b.ide b.len.toNat)) (nsOf v.r)
    v.reserve v.q s.liveIn (s.nextTurn + BitVec.ofNat 48 (s.liveIn - 1)) (s.stream n) hb
  let u := s.use ch
  ((((s.setUse ch { u with res := u.res + v.reserve }).setStream n x).refreshR ch).joinBreach n).coverChange

/-- The draft of a STREAM_OPEN is decided (R161, R162); the number and the room are judged again, since earlier drafts may
have taken them (R143, R144). -/
def State.decideOpen (s : State) (o : Origin) (b : OpenBody) : State :=
  let n := b.stream.val
  if s.isClosed n = false ∨ s.openOk b = false then (s.answer o 2 n 2 0 0 0 0).draftHank n 2 0 0
  else if s.roomFor b.ch.val = false then (s.answer o 2 n 7 0 0 0 0).draftHank n 7 0 0
  else
    let v := s.judgeStream b
    if v.reason = 0 then
      let turn := s.nextTurn + BitVec.ofNat 48 (s.liveIn - 1)
      (((s.admitStream b v none).answer o 2 n 0 0 (nsOf v.r) v.reserve turn).draftHank n 0 0 (nsOf v.r)).decided false
    else ((s.answer o 2 n v.status v.reason 0 0 0).draftHank n v.status v.reason 0).decided true

/-- The draft of a FOREIGN_DECLARE is decided (R161, R166). -/
def State.decideForeign (s : State) (o : Origin) (b : ForeignBody) : State :=
  let i := b.index.val
  if foreignOk b = false then (s.answer o 5 i 2 0 0 0 0).draftHank i 2 0 0
  else
  match Tbl.look s.dr.foreign i with
  | some f =>
    if !b.withdraw || f.leaving then (s.answer o 5 i 2 0 0 0 0).draftHank i 2 0 0
    else if s.isSource f then ((s.answer o 5 i 1 3 0 0 0).draftHank i 1 3 0).decided true
    else
      let s1 := { s with dr := { s.dr with foreign := Tbl.ins s.dr.foreign i { f with leaving := true, toLive := s.liveIn } } }
      ((s1.answer o 5 i 0 0 0 0 0).draftHank i 0 0 0).decided false
  | none =>
    if b.withdraw then (s.answer o 5 i 2 0 0 0 0).draftHank i 2 0 0
    else
      let v := s.judgeForeign b
      if v.reason = 0 then
        let f : Foreign := {
          cfg := b, key := b.key, rNs := nsOf v.r, overdrafts := 0, toLive := s.liveIn, leaving := false, tat := none }
        let s1 := { s with dr := { s.dr with foreign := Tbl.ins s.dr.foreign i f } }
        (((((s1.refreshR b.ch.val).coverChange).refreshConflict b.ch.val).answer o 5 i 0 0 (nsOf v.r) 0 0).draftHank i 0 0 (nsOf v.r)).decided false
      else ((s.answer o 5 i 1 v.reason 0 0 0).draftHank i 1 v.reason 0).decided true

/-- This member's decision on the draft in progress: the reason of Table 5.7, 0 when it passes, 255 when it is
malformed here alone (R542). -/
def State.ownReason (s : State) : Nat :=
  match s.dr.queue with
  | .open_ _ b :: _ => if s.openOk b = false then 255 else (s.judgeStream b).reason
  | .foreign _ b :: _ => if b.withdraw then 0 else (s.judgeForeign b).reason
  | _ => 0

/-- The STREAM_CLOSEs behind a draft that has ended are taken, up to the next draft (R160). -/
def State.takeCloses (s : State) : State := State.runCloses s.dr.queue s

/-- The draft in progress is decided. -/
def State.decideDraft (s : State) : State :=
  match s.dr.queue with
  | .open_ o b :: _ => ((s.nextDraft).decideOpen o b).takeCloses
  | .foreign o b :: _ => ((s.nextDraft).decideForeign o b).takeCloses
  | _ => s

/-- A draft ends in TIMEOUT (R164). -/
def State.timeoutDraft (s : State) : State :=
  match s.dr.queue with
  | .open_ o b :: _ =>
    (((s.nextDraft.answer o 2 b.stream.val 5 0 0 0 0).draftHank b.stream.val 5 0 0).raise 0x1A9).takeCloses
  | .foreign o b :: _ =>
    (((s.nextDraft.answer o 5 b.index.val 5 0 0 0 0).draftHank b.index.val 5 0 0).raise 0x1A9).takeCloses
  | _ => s

/-- DRAFT_TIMEOUT (R164): TMO_US after the draft started. -/
def execDraftTimeout (dt : Nat) (s : State) : Host.Outcome State Fault Refusal :=
  s.at_ dt (fun s => if s.clock - s.dr.startAt ≥ s.fld 0x50000 0 16 * 1000 then s.timeoutDraft else s)

/-! ## Payloads -/

/-- Heartbeat payload (Table 14.2), Bornov profile version 1. -/
def beatBytes (b : Beat) : List Byte :=
  leBytes 1 1 ++ leBytes 1 (b.member + b.role * 4 + b01 b.releasing * 32) ++ leBytes 1 (b.holder + b.vote * 4 + b.view * 16) ++
  leBytes 1 (b.demoted + b01 b.shadowBad * 8) ++ leBytes 2 b.epoch.toNat ++ leBytes 2 b.leaseEnd.toNat ++
  leBytes 6 b.turn.toNat ++ leBytes 2 b.tag.toNat

/-- The Bornov tail of a release (R543, R544): the tag of the message, then F's low 16 bits. -/
def bornovTail (key : BitVec 128) (id : BitVec 29) (ide : Bool) (f : Nat) (body : List Byte) : List Byte :=
  (aesCmac (beBytes 16 key.toNat) (leBytes 4 (id.toNat + b01 ide * 2 ^ 29) ++ leBytes 6 f ++ body)).take 4 ++ leBytes 2 f

/-- Payload of a release under SOURCE (R147): the image, the value line, or the latest STREAM_DATA; the ply block's own
for a heartbeat. -/
def State.sourceBytes (s : State) (x : Stream) : List Byte :=
  match x.hb with
  | some _ => match s.pl.beat with | some b => beatBytes { b with shadowBad := s.pl.shadowPrev } | none => []
  | none => if x.cfg.source = 1 then x.image else if x.cfg.source = 2 then x.vline else x.payload

/-- The payload of a release, with the tail of an authenticated stream over its last 6 bytes. -/
def State.fillBytes (s : State) (x : Stream) (given : Option (List Byte)) : List Byte :=
  let n := x.cfg.len.toNat
  let raw := fitBytes n (given.getD (s.sourceBytes x))
  if x.cfg.auth then
    raw.take (n - 6) ++ bornovTail (Tbl.lookD s.ks.slots x.cfg.keySlot.toNat 0) x.cfg.id x.cfg.ide x.fresh (raw.take (n - 6))
  else raw

/-- Data length code of a payload length. -/
def dlcOf (n : Nat) : BitVec 4 :=
  if n ≤ 8 then BitVec.ofNat 4 n else if n ≤ 12 then 9 else if n ≤ 16 then 10 else if n ≤ 20 then 11
  else if n ≤ 24 then 12 else if n ≤ 32 then 13 else if n ≤ 48 then 14 else 15

/-- The frame of a release. -/
def Stream.frame (x : Stream) (bytes : List Byte) : Frame :=
  { id := x.cfg.id, ide := x.cfg.ide, rtr := false, fdf := decide (x.cfg.format ≠ 0), brs := decide (x.cfg.format = 2),
    esi := false, dlc := dlcOf x.cfg.len.toNat, data := bytes }

/-- A bobbin not yet sent. -/
def txBobbin (ch : Nat) (f : Frame) (k : BobClass) : Bobbin :=
  { frame := f, dur := 0, poison := false, errt := false, time := 0, ch := ch, loopback := false, cls := k, holders := 1 }

/-! ## Releases -/

/-- Does a channel make releases without a bobbin (R88)? -/
def Channel.noBobbin (c : Channel) : Bool :=
  decide (c.mode = .off ∨ c.mode = .listenOnly ∨ c.mode = .restricted) ||
  decide (c.st = .boHold ∨ c.st = .boWait ∨ c.st = .recovering ∨ c.st = .quarantined)

/-- Does this device send a stream's frames (R442, R452)? -/
def State.sends (s : State) (x : Stream) : Bool :=
  match x.hb with
  | some m => decide (m = s.dev.plyId) && decide (s.pl.role ≠ .out)
  | none => s.acts

/-- Was the value line of this release late (R148)? -/
def Stream.valueLater (x : Stream) : Bool :=
  match x.vFor with | some k :: _ => decide (x.vDone ≤ k) | _ => true

/-- A release of a stream at an instant (R147), with the payload of its STREAM_DATA where it has one. -/
def State.makeRelease (s : State) (n : Nat) (at_ : BitVec 64) (given : Option (List Byte)) (d : Option Desc) : State :=
  match s.stream n with
  | none => s
  | some x =>
    let ch := x.cfg.ch.val
    let id := x.nextRel
    let r : Rel := {
      id := id, ch := ch, old := false, at_ := at_, due := at_ + BitVec.ofNat 64 (x.cfg.deadline.toNat * 1000)
      inBreach := (s.breach ch).on, cov := x.breach
      past := false, late := none, gone := false, errTime := none, sofT := 0, eofT := 0, status := 0, desc := d,
      byWire := false, shadow := none, compared := false }
    if x.cfg.auth && decide (x.fresh = 2 ^ 48 - 1) then
      let s1 := s.setStream n { x with nextRel := id + 1, rels := x.rels ++ [r], exhausted := true }
      let s2 := if x.exhausted then s1 else (s1.count 5835).raise 0x024
      s2.relGone n id 0
    else
      let late := decide (x.cfg.source = 2) && given.isNone && x.valueLater
      let x1 := { x with
        releases := satCount (x.releases + 1), nextRel := id + 1
        fresh := if x.cfg.auth then x.fresh + 1 else x.fresh
        valueLate := if late then min (2 ^ 32 - 1) (x.valueLate + 1) else x.valueLate
        vFor := if given.isNone then x.vFor.tail else x.vFor }
      let f := x1.frame (s.fillBytes x1 given)
      let s0 := if late then s.count (5184 + 64 * x.cfg.vport.idx + 4) else s
      if (s.ch ch).noBobbin then
        (s0.setStream n { x1 with rels := x1.rels ++ [r] }).relGone n id 0
      else if s.sends x = false then
        s0.setStream n { x1 with
          rels := x1.rels ++ [{ r with byWire := true, shadow := if x.hb.isSome then none else some f }] }
      else if x.used ≥ x.reserve then
        ((s0.setStream n { x1 with rels := x1.rels ++ [r] }).slub 0x0303 n 0 0).relGone n id 0
      else
        let bob := s0.nextBob
        ((s0.setStream n { x1 with rels := x1.rels ++ [r], used := x1.used + 1 }).takeBob (txBobbin ch f .stream)).enterReady
          ch bob x.key (.stream n id)

/-- A cyclic release offset within its turn, in ns (R146). -/
def State.relOffset (s : State) (b : OpenBody) : Nat := if s.lenUs = 0 then 0 else (b.offIa.toNat % s.lenUs) * 1000

/-- STREAM_RELEASE (R147): the release of a cyclic stream that is due in this turn, at its instant. -/
def execStreamRelease (dt : Nat) (stream : Fin 4096) (s : State) : Host.Outcome State Fault Refusal :=
  s.at_ dt (fun s =>
    match s.stream stream.val with
    | none => s
    | some x =>
      let t := s.tm.bound + BitVec.ofNat 64 (s.relOffset x.cfg)
      if decide (s.dev.st = .run) && decide (x.st = .live) && decide (x.cfg.kind = 0) && decide (x.relIn = some 0) &&
          !x.relDone && s.reached t then
        (s.setStream stream.val { x with relDone := true }).makeRelease stream.val t none none
      else s)

/-! ## STREAM_DATA and sporadic releases -/

/-- A sporadic acceptance: the release of the held STREAM_DATA (R149). -/
def State.acceptHeld (s : State) (n : Nat) : State :=
  match s.stream n with
  | none => s
  | some x =>
    match x.held with
    | none => s
    | some (d, b) =>
      let given := if b.len = 0 ∧ x.cfg.source ≠ 3 then none else some b.data
      (s.setStream n { x with held := none, lastAcc := some s.clock }).makeRelease n s.now given d

/-- Instant from which a sporadic STREAM_DATA fetched now may be accepted (R149). -/
def State.acceptAt (s : State) (x : Stream) : Nat :=
  match x.lastAcc with | none => s.clock | some t => max s.clock (t + x.cfg.offIa.toNat * 1000)

/-- The value line read that started when a STREAM_DATA was fetched, if one did (R338). -/
def State.prefetched (s : State) (d : Desc) (n : Nat) : Option (Option Nat) :=
  match s.stream n with
  | none => none
  | some x => (x.vPre.find? (fun e => decide (e.1 = (d.port, d.distaff, d.index)))).map (·.2)

/-- A STREAM_DATA for a sporadic stream is held, and accepted at once where its instant has come and the device is in
RUN (R149, R568). `pre` is the value line read that started with its fetch; where none did, it starts now. -/
def State.holdData (s : State) (n : Nat) (x : Stream) (d : Option Desc) (b : DataBody) (pre : Option (Option Nat)) : State :=
  let at_ := s.acceptAt x
  let s1 := s.setStream n { x with held := some (d, b), heldAt := at_ }
  let s2 :=
    if fromValueLine x b then
      match pre with
      | some r => s1.modStream n (fun y => { y with vFor := y.vFor ++ [r] })
      | none => s1.valueRead n
    else s1
  if decide (at_ ≤ s.clock) && decide (s.dev.st = .run) then s2.acceptHeld n else s2

/-- Is a STREAM_DATA malformed for its stream (R149, R338, R442)? -/
def dataBad (x : Stream) (b : DataBody) : Bool :=
  x.hb.isSome || decide (x.st ≠ .live) || decide (x.cfg.kind = 2) || (decide (x.cfg.kind = 0) && decide (x.cfg.source ≠ 3)) ||
  (decide (b.len ≠ x.cfg.len) && !(decide (b.len = 0) && decide (x.cfg.kind = 1) && decide (x.cfg.source ≠ 3))) ||
  (decide (b.len.toNat > 48) && !b.indirect) || (b.indirect && decide (b.payAddr.toNat % 64 ≠ 0))

/-- STREAM_DATA (R149, R150, R338, R452). -/
def State.acceptData (s : State) (d : Desc) (b : DataBody) : State :=
  let n := b.stream.val
  let pre := s.prefetched d n
  let s0 := s.modStream n (fun y => { y with vPre := y.vPre.filter (fun e => decide (e.1 ≠ (d.port, d.distaff, d.index))) })
  s0.acceptFor d 4 n (fun s =>
    let fin := fun (s : State) (st : Nat) => s.refuse d 4 n st
    match s.stream n with
    | none => fin s 2
    | some x =>
      if dataBad x b then fin s 2
      else if x.cfg.kind = 0 then fin (s.setStream n { x with payload := fitBytes x.cfg.len.toNat b.data }) 0
      else if s.acts = false then fin s 7
      else if x.held.isSome then fin s 7
      else s.holdData n x (some d) b pre)

/-- STREAM_DATA. -/
def execStreamData (dt : Nat) (d : Desc) (b : DataBody) (s : State) : Host.Outcome State Fault Refusal :=
  s.descRow dt d (.data b) (fun s => s.acceptData d b)

/-- SPORADIC_ACCEPTANCE (R149): the held STREAM_DATA at its instant, in RUN, while its stream is LIVE. -/
def execSporadicAcceptance (dt : Nat) (stream : Fin 4096) (s : State) : Host.Outcome State Fault Refusal :=
  s.at_ dt (fun s =>
    match s.stream stream.val with
    | none => s
    | some x =>
      if x.held.isSome && decide (x.heldAt ≤ s.clock) && decide (s.dev.st = .run) && decide (x.st = .live) then
        s.acceptHeld stream.val
      else s)

/-! ## Value lines -/

/-- Turns from the one in progress to the next release of a cyclic stream that is still to be made (R146, R568): where the
stream's count has not begun, the first turn of its pattern among the next two. -/
def State.turnsToRelease (s : State) (x : Stream) : Option Nat :=
  match x.relIn with
  | some 0 => some (if x.relDone then x.cfg.period.toNat else 0)
  | some k => some k
  | none =>
    if s.lenUs = 0 ∨ x.cfg.period = 0 then none
    else [1, 2].find? (fun k => decide (x.toLive ≤ k) && (decide (s.dev.st = .run) || s.dev.runPend) &&
      decide ((s.nextTurn + BitVec.ofNat 48 (k - 1)).toNat % x.cfg.period.toNat = x.cfg.offIa.toNat / s.lenUs))

/-- The instant of a cyclic release k turns ahead (R146). -/
def State.releaseInstant (s : State) (x : Stream) (k : Nat) : BitVec 64 :=
  (if k = 0 then s.tm.bound else s.tm.nextBound + BitVec.ofNat 64 ((k - 1) * s.lenUs * 1000)) +
    BitVec.ofNat 64 (s.relOffset x.cfg)

/-- Is the instant VLEAD_US before the next release for which no read has started reached, and the release not (R148)? VLEAD_US
may exceed the time between two releases. -/
def State.readDue (s : State) (x : Stream) : Bool :=
  match s.turnsToRelease x with
  | none => false
  | some k =>
    let t := s.releaseInstant x (k + x.vFor.length * x.cfg.period.toNat)
    s.reached (t - BitVec.ofNat 64 (x.cfg.vlead.toNat * 1000)) && !s.reached t

/-- VALUE_LINE_READ_START (R148): VLEAD_US before a release of a cyclic stream. -/
def execValueLineReadStart (dt : Nat) (stream : Fin 4096) (s : State) : Host.Outcome State Fault Refusal :=
  s.at_ dt (fun s =>
    match s.stream stream.val with
    | none => s
    | some x =>
      if decide (x.st = .live ∨ x.st = .pending) && decide (x.cfg.source = 2) && decide (x.cfg.kind = 0) &&
          s.readDue x then
        s.valueRead stream.val
      else s)

/-- VALUE_LINE_READ_COMPLETE (R148, R346): the nth read in flight ends. Within CPL_TMO and without error its data becomes
the value line, unless a read started later has completed already. -/
def execValueLineReadComplete (dt : Nat) (stream : Fin 4096) (nth : Nat) (ok : Bool) (data : List Byte) (s : State) :
    Host.Outcome State Fault Refusal :=
  s.at_ dt (fun s =>
    match s.stream stream.val with
    | none => s
    | some x =>
      match x.vFlight[nth]? with
      | none => s
      | some (k, t) =>
        let good := ok && decide (s.clock - t ≤ (s.port x.cfg.vport).cplTmo * 1000) && decide (x.vDone ≤ k)
        (s.setStream stream.val { x with
          vFlight := x.vFlight.eraseIdx nth
          vline := if good then fitBytes 64 data else x.vline
          vDone := if good then k + 1 else x.vDone }).serve)

/-- VALUE_LINE_READ_TIMEOUT (R346): a read older than CPL_TMO is abandoned. -/
def execValueLineReadTimeout (dt : Nat) (stream : Fin 4096) (s : State) : Host.Outcome State Fault Refusal :=
  s.at_ dt (fun s =>
    (s.modStream stream.val (fun x => { x with
      vFlight := x.vFlight.filter (fun e => decide (s.clock - e.2 < (s.port x.cfg.vport).cplTmo * 1000)) })).serve)

end Sys2Proof.Machine
end

