-- ==== Sys2Proof/Machine/Relay.lean ====
section
/-!
DEFINITION. Relay entries (R488 to R492) at the arrival of a frame, and the announcements of R494.
-/

namespace Sys2Proof.Machine

/-- Words of a relay entry after reset. -/
def relayReset : List Word := [resetAt 0xB8014, resetAt 0xB8018, resetAt 0xB801C]
/-- A live relay entry. -/
def State.relay (s : State) (r : Nat) : List Word := Tbl.lookD s.cs.rlyLive r relayReset
/-- DATA0 of a live relay entry. -/
def State.rly0 (s : State) (r : Nat) : Word := (s.relay r).getD 0 0
/-- Is a relay stream admitted: its entry enabled? -/
def State.relayOn (s : State) (r : Nat) : Bool := bitOf (s.rly0 r) 0

/-- A Wilist link. -/
def State.link (s : State) (l : Nat) : LinkSt := Tbl.lookD s.cs.links l {}
/-- Replace a Wilist link. -/
def State.setLink (s : State) (l : Nat) (v : LinkSt) : State :=
  { s with cs := { s.cs with links := Tbl.put s.cs.links l {} v } }
/-- Change a Wilist link. -/
def State.modLink (s : State) (l : Nat) (f : LinkSt → LinkSt) : State := s.setLink l (f (s.link l))
/-- Is a link UP? -/
def State.linkIsUp (s : State) (l : Nat) : Bool := decide ((s.link l).st = .up)
/-- Link of CS_STATUS.UP_LINK: 1 CU, 2 PL, 3 PR (R475). -/
def upLinkOf (n : Nat) : Option Nat := if n = 1 then some 2 else if n = 2 then some 0 else if n = 3 then some 1 else none

/-- A relayed frame is dropped (R492): counted at a link; the first of its entry in a turn is reported. -/
def State.relayDrop (s : State) (r link why : Nat) : State :=
  let s1 := s.count (5952 + 16 * link + 4)
  if s1.rep.first.contains (0x20000 + r) then s1 else (s1.slubOnce (0x20000 + r) 0x0E03 r why 0).raise 0x325

/-- A frame that a LOCAL entry makes a STREAM_DATA (R490): refused as 2, without a bobbin as 1 (R134, R492). -/
def State.relayLocal (s : State) (r link : Nat) (f : Frame) : State :=
  let n := fieldOf (s.rly0 r) 4 12
  let len := fieldOf (s.rly0 r) 16 7
  if s.acts = false then s
  else
    match s.stream n with
    | none => s.relayDrop r link 2
    | some x =>
      if decide (x.st ≠ .live) || decide (x.cfg.kind ≠ 1) || decide (x.cfg.source ≠ 3) || x.hb.isSome ||
          decide (x.cfg.len.toNat ≠ len) || decide (f.data.length ≠ len) || x.held.isSome then s.relayDrop r link 2
      else if x.used ≥ x.reserve then s.relayDrop r link 1
      else s.holdData n x none {
        stream := BitVec.toFin (BitVec.ofNat 12 n), len := x.cfg.len, indirect := false, payAddr := 0, data := f.data } none

/-- Out link of an entry that sends (R489): the up link in use or CD; none while there is none, or it is not UP. -/
def State.relayOut (s : State) (r : Nat) : Option Nat :=
  let l := if fieldOf (s.rly0 r) 1 2 = 0 then upLinkOf s.cs.upLink else some 3
  match l with
  | some k => if s.linkIsUp k then some k else none
  | none => none

/-- The link a drop of an entry counts at where it has none in use: CU or CD. -/
def State.relaySide (s : State) (r : Nat) : Nat := if fieldOf (s.rly0 r) 1 2 = 0 then 2 else 3

/-- A frame joins the queue of a relay entry that sends (R489). -/
def State.relayQueue (s : State) (r bob : Nat) : State :=
  { s with cs := { s.cs with queue := s.cs.queue ++ [(r, bob)] } }

/-! ## Announcements -/

/-- The highest version in both ranges; 0 for none (R493). -/
def sharedVer (lo hi lo' hi' : Nat) : Nat := if max lo lo' ≤ min hi hi' then min hi hi' else 0

/-- Does a frame go to the cascade block as an announcement (R494)? -/
def State.isAnnounce (s : State) (f : Frame) : Bool :=
  s.bit 0xB8020 11 && !f.ide && !f.rtr && decide (f.id.toNat = s.fld 0xB8020 0 11) && decide (4 ≤ f.data.length)

/-- An announcement (R494): the shared version of its channel and node is recorded; others are counted. -/
def State.announce (s : State) (ch : Nat) (f : Frame) : State :=
  let b := fun i => (f.data.getD i 0).toNat
  if b 0 = 1 ∧ b 1 < 32 then
    let v := sharedVer 1 1 (b 2) (b 3)
    let s1 := { s with cs := { s.cs with bver := Tbl.put s.cs.bver (ch * 32 + b 1) {} { ver := v, lo := b 2, hi := b 3 } } }
    if v = 0 then s1.raise 0x326 else s1
  else s.count 5957

end Sys2Proof.Machine
end

