-- ==== Sys2Proof/Machine/Carding.lean ====
section
/-!
DEFINITION. Carding (R116 to R120, R125 to R129, R137, R151): the fate of each frame that leaves a receive sliver.
-/

namespace Sys2Proof.Machine

/-- Does a card at its base offset hit a frame (R116, R117)? -/
def State.cardHits (s : State) (base ch : Nat) (f : Frame) : Bool :=
  let ctl := base + 8
  let fmt := s.fld ctl 16 2
  let fdf := s.fld ctl 18 2
  let x := (f.id ^^^ (s.live base).setWidth 29) &&& (s.live (base + 4)).setWidth 29
  let y := if fmt = 0 then x &&& 0x7FF else x
  s.bit base 31 && s.bit ctl ch &&
  (decide (fmt = 2) || (decide (fmt = 0) && !f.ide) || (decide (fmt = 1) && f.ide)) &&
  (decide (fdf = 0) || (decide (fdf = 1) && !f.fdf) || (decide (fdf = 2) && f.fdf)) && decide (y = 0)

/-- The lowest-numbered card a frame hits. Only cards whose ID register is listed can be enabled. -/
def State.firstCard (s : State) (ch : Nat) (f : Frame) : Option Nat :=
  match s.regs.live.find? (fun e =>
    decide (0x40000 ≤ e.1) && decide (e.1 < 0x48000) && decide (e.1 % 16 = 0) && s.cardHits e.1 ch f) with
  | some e => some ((e.1 - 0x40000) / 16)
  | none => none

/-- The row of the uncorrectable word that a frame's lookup of the exact-match table reads, if it reads one (Table 13.4). -/
def State.emUe (s : State) (ch : Nat) (f : Frame) : Option Nat := (s.emFind ch f.ide f.id).bind (Tbl.look s.mm.emBad)

/-- The exact-match entry usable by a frame: found, with its FDF condition met; one with an uncorrectable word is not found. -/
def State.emUsable (s : State) (ch : Nat) (f : Frame) : Option (Nat × EmEntry) :=
  match s.emFind ch f.ide f.id with
  | none => none
  | some i =>
    match if (Tbl.look s.mm.emBad i).isSome then none else Tbl.look s.cr.em i with
    | none => none
    | some e =>
      if e.fdf = 0 ∨ (e.fdf = 1 ∧ f.fdf = false) ∨ (e.fdf = 2 ∧ f.fdf = true) then some (i, e) else none

/-- A destination is skipped: counted for the channel, and for a route below 1,024 (R128). -/
def State.skipDest (s : State) (ch r : Nat) : State :=
  let s1 := s.chCount ch 20
  if r < 1024 then s1.count (3072 + r) else s1

/-- The bobbin of a record (Table 4.5); poisoned when some word of it was. -/
def rxBobbin (x : SlvRec) (poison : Bool) (n : Nat) : Bobbin :=
  { frame := x.frame, dur := durOf (x.eof - x.sof).toNat, poison := poison, errt := x.errt, time := x.eof, ch := x.ch,
    loopback := x.loopback, cls := .rx, holders := n }

/-- Turn in which a timestamp lies: the present one, or the one before. -/
def State.turnOf (s : State) (t : BitVec 64) : BitVec 48 := if s.now - t ≤ s.now - s.tm.bound then s.tm.turn else s.tm.turn - 1

/-- An RX_FRAME entry (Table 10.13); says whether it was written. -/
def State.rxEntry (s : State) (p : Port) (k : Nat) (b : Bobbin) (catchAll : Bool) (r sp : Nat) : State × Bool :=
  let e := s.rep.entry s.ctx p k (.rxFrame b b.ch catchAll b.loopback r sp (s.turnOf b.time))
  ({ s with rep := e.1 }, e.2)

/-- A receive allocation is denied (R137): counted; the first of a channel in a turn raises 0x020 and is remembered for
the slub at the next boundary. -/
def State.deny (s : State) (ch : Nat) (t : BitVec 64) : State :=
  let c := s.ch ch
  let s1 := (s.setCh ch (if c.denials = 0 then { c with denials := 1, denyTime := t, denyTurn := s.tm.turn }
    else { c with denials := c.denials + 1 })).chCount ch 21
  if c.denials = 0 then s1.raise 0x020 else s1

/-- A skein of a route takes the frame and releases the bobbin; one that is full is skipped (R129, R345). -/
def State.toSkein (s : State) (on : Bool) (p : Port) (k bob r sp : Nat) : State :=
  if on then
    match s.bob bob with
    | none => s
    | some b =>
      let e := s.rxEntry p k b false r sp
      (if e.2 then e.1 else e.1.skipDest b.ch r).dropHolder bob
  else s

/-- A catch-all delivery (R119, R120). -/
def State.catchAll (s : State) (x : SlvRec) (poison : Bool) (sp : Nat) : State :=
  let b := 0x48100 + 32 * x.ch
  if s.bit b 0 then
    let s1 := s.chCount x.ch 18
    if s1.rxOk x.ch then
      let i := s1.nextBob
      let s2 := s1.takeBob (rxBobbin x poison 1)
      let e := s2.rxEntry (if s.bit b 1 then .b else .a) (s.fld b 8 7) (rxBobbin x poison 1) true 0 sp
      (if e.2 then e.1 else e.1.chCount x.ch 20).freeBob i
    else s1.deny x.ch s1.now
  else s

/-- A value slot takes a frame (R151, R152): it keeps the two newest. -/
def State.slotWrite (s : State) (n : Nat) (x : SlvRec) (poison : Bool) : State :=
  match s.stream n with
  | none => s
  | some v =>
    let f := x.frame
    if decide (v.cfg.kind = 2) && decide (v.st = .live) && decide (v.cfg.ch.val = x.ch) && decide (v.cfg.ide = f.ide) &&
        decide (v.cfg.id = f.id) && !f.rtr && decide (f.format = v.cfg.format.toNat) &&
        decide (f.data.length = v.cfg.len.toNat) && !poison then
      s.setStream n { v with slot := ((x.eof, f.data) :: v.slot).take 2 }
    else s.chCount x.ch 23

/-- The stream destination of a route: a stream that is not open is a skipped destination (R128). -/
def State.toStream (s : State) (d0 : Word) (r : Nat) (x : SlvRec) (poison : Bool) : State :=
  if bitOf d0 15 then
    let n := fieldOf d0 0 12
    if x.frame.rtr ∨ s.isClosed n then s.skipDest x.ch r else s.slotWrite n x poison
  else s

/-- A twist slot. -/
def State.twSlot (s : State) (k : Nat) : TwistSlot := Tbl.lookD s.tw.slots k {}
/-- Replace a twist slot. -/
def State.setTwSlot (s : State) (k : Nat) (v : TwistSlot) : State :=
  { s with tw := { s.tw with slots := Tbl.put s.tw.slots k {} v } }

/-- A twist slot holds a bobbin; an older one is released and counted (R225). An older one without poison leaves its frame for
the snapshot, which takes the newest unpoisoned frame before the cut-off. -/
def State.toTwist (s : State) (k bob : Nat) : State :=
  let v := s.twSlot k
  match v.held with
  | none => s.setTwSlot k { v with held := some bob }
  | some o =>
    let older := match s.bob o with
      | some b => if b.poison then v.prior else some (b.time, b.frame)
      | none => v.prior
    ((s.setTwSlot k { v with held := some bob, prior := older }).count (6016 + k)).dropHolder o

/-- The relay destination of a route that names an admitted entry (R127, R489 to R492). -/
def State.toRelay (s : State) (r bob : Nat) (f : Frame) : State :=
  if fieldOf (s.rly0 r) 1 2 = 2 then (s.relayLocal r (s.relaySide r) f).dropHolder bob
  else
    match s.relayOut r with
    | some _ => s.relayQueue r bob
    | none => (s.relayDrop r (s.relaySide r) 0).dropHolder bob

/-- A frame is delivered to every enabled destination of a route (R127 to R129, R137). -/
def State.deliver (s : State) (r : Nat) (x : SlvRec) (poison : Bool) (sp : Nat) : State :=
  let d := s.route r
  let ska := bitOf d.1 23
  let skb := bitOf d.1 31
  let tw := bitOf d.2 8
  let rl := bitOf d.2 31
  let rn := fieldOf d.2 16 12
  if !(bitOf d.1 15 || ska || skb || tw || rl) then s.skipDest x.ch r
  else
    let s1 := s.toStream d.1 r x poison
    let rlOk := rl && !x.frame.rtr && s1.relayOn rn
    let twOk := tw && !x.frame.rtr
    let s2 := if rl && !rlOk then s1.skipDest x.ch r else s1
    let s3 := if tw && x.frame.rtr then s2.skipDest x.ch r else s2
    let n := b01 ska + b01 skb + b01 twOk + b01 rlOk
    if n = 0 then s3
    else if s3.rxOk x.ch = false then s3.deny x.ch s3.now
    else
      let i := s3.nextBob
      let s4 := s3.takeBob (rxBobbin x poison n)
      let s5 := (s4.toSkein ska .a (fieldOf d.1 16 7) i r sp).toSkein skb .b (fieldOf d.1 24 7) i r sp
      let s6 := if twOk then s5.toTwist (fieldOf d.2 0 8) i else s5
      if rlOk then s6.toRelay rn i x.frame else s6

/-- A lookup of the exact-match table reports an uncorrectable word that it reads (R435). -/
def State.emReport (s : State) (ch : Nat) (f : Frame) : State :=
  match s.emUe ch f with | some row => s.ueReport row 7 | none => s

/-- The procedure of R118 on a frame. -/
def State.card (s : State) (x : SlvRec) (poison : Bool) (sp : Nat) : State :=
  let c := s.firstCard x.ch x.frame
  let s0 := match c with | some k => s.count (1024 + k) | none => s
  let act := match c with | some k => s.fld (0x40008 + 16 * k) 20 2 | none => 0
  let cr := match c with | some k => s.fld (0x4000C + 16 * k) 0 12 | none => 0
  if act = 2 then s0.chCount x.ch 16
  else if act = 1 then s0.deliver cr x poison sp
  else
    let s1 := s0.emReport x.ch x.frame
    match s1.emUsable x.ch x.frame with
    | some (i, e) =>
      ({ s1 with cr := { s1.cr with em := Tbl.ins s1.cr.em i { e with hits := min (2 ^ 32 - 1) (e.hits + 1) } } }).deliver
        e.route x poison sp
    | none =>
      match c with
      | some _ => s1.deliver cr x poison sp
      | none => (s1.chCount x.ch 17).catchAll x poison sp

/-- A record popped from a receive sliver (R118 to R120, R443, R494). -/
def State.cardRecord (s : State) (x : SlvRec) (hdrBad payBad : Bool) (sp : Nat) : State :=
  if hdrBad then (s.chCount x.ch 19).catchAll x true sp
  else
    let s1 := if s.isBeat x.ch x.frame && !payBad then s.hearFrame x.frame.data else s
    let s2 := if s1.isAnnounce x.frame && !payBad then s1.announce x.ch x.frame else s1
    s2.card x payBad sp

/-- Does a spindle that served a channel before still hold frames of it, which carding takes first (R529)? -/
def State.olderHeld (s : State) (sp ch : Nat) : Bool :=
  decide (s.spOf ch = sp) && (List.range 18).any (fun n => decide (n ≠ sp) && (s.sliver (2 * n)).recs.any (fun x => decide (x.ch = ch)))

/-- The core pops the oldest record of a spindle's receive sliver and cards it; `hdrBad` and `payBad` say that its header
or its payload came with poison (R431). A pop of an empty sliver is an underrun (R429). -/
def State.carding (s : State) (sp : Nat) (hdrBad payBad : Bool) : State :=
  let k := 2 * sp
  match (s.sliver k).recs with
  | [] => s.underrun k
  | x :: _ =>
    if s.olderHeld sp x.ch then s
    else
      let h := hdrBad || x.poisonHdr
      let p := payBad || x.poisonPay
      let s1 := s.setSliver k (s.sliver k).pop
      let s2 := if h || p then s1.poisoned k (b01 h + b01 p) else s1
      s2.cardRecord x h p sp

/-- CARDING. -/
def execCarding (dt : Nat) (sp : Fin 18) (hdrBad payBad : Bool) (s : State) : Host.Outcome State Fault Refusal :=
  s.at_ dt (fun s => s.carding sp.val hdrBad payBad)

end Sys2Proof.Machine
end

