-- ==== Sys2Proof/WellFormed.lean ====
section
/-!
DEFINITION. Well-formed commands: operands that the hardware's own formats allow. `exec` is total on every command; a
check here refuses operand values that nothing outside the block can send.
-/

namespace Sys2Proof

/-- Data length in bytes of a data length code (ISO 11898-1, as chapter 4 uses it): codes above 8 stand for 8 in a
classical frame and for 12 to 64 in an FD frame. -/
def dlcBytes (fdf : Bool) (dlc : Nat) : Nat :=
  if dlc ≤ 8 then dlc
  else if fdf then [12, 16, 20, 24, 32, 48, 64].getD (dlc - 9) 64 else 8

/-- A frame: an 11-bit identifier unless extended, no remote FD frame, no bit rate switch or ESI without FD, and as many
payload bytes as its code says. -/
def Frame.ok (f : Frame) : Bool :=
  (f.ide || decide (f.id.toNat < 2048)) && !(f.fdf && f.rtr) && (f.fdf || (!f.brs && !f.esi)) &&
  decide (f.data.length = if f.rtr then 0 else dlcBytes f.fdf f.dlc.toNat)

/-- A register offset: a whole word inside the 2 MiB window (R381). -/
def offOk (off : Nat) : Bool := decide (off < 0x200000) && decide (off % 4 = 0)

/-- Operands that the formats allow. -/
def Instr.wellFormed : Instr → Bool
  | .frameReceived _ _ f _ => f.ok
  | .errorFlag _ _ e => decide (e.pairs.length = 4096)
  | .lineCaptureTrigger _ _ x => decide (x.length = 4096)
  | .registerWrite _ off _ => offOk off
  | .counterLoRead _ c _ => decide (c < 8192)
  | .holdingLoRead _ c _ => decide (c < 8192)
  | .send _ _ b => decide (b.data.length ≤ 64)
  | .streamData _ _ b => decide (b.data.length ≤ 64)
  | .descriptorFetched _ _ _ r => decide (r.words.length = 16)
  | .payloadReadComplete _ _ _ d => decide (d.length ≤ 64)
  | .valueLineReadComplete _ _ _ _ d => decide (d.length = 64)
  | _ => true

end Sys2Proof
end

