-- ==== Sys2Proof/Machine/Cascade.lean ====
section
/-!
DEFINITION. Wilist links and the cascade (chapter 15): training and states of a link, the cells a link takes, time over the
cascade, relayed frames, doorbells of other positions, and the slots in which this device sends its cells.
-/

namespace Sys2Proof.Machine

/-! ## Links -/

/-- Link enabled: CS_CFG.EN and WL_l_CFG.EN (Table 15.2). -/
def State.linkOn (s : State) (l : Nat) : Bool := s.bit 0xB8000 0 && s.bit (0xB8400 + 64 * l) 0
/-- A link that joins the members of a ply: PL or PR of a ply member. -/
def State.plyLink (s : State) (l : Nat) : Bool := s.plyMember && decide (l < 2)
/-- CS_CFG.UPX on a device that is no ply member (R474). -/
def State.upx (s : State) : Bool := s.bit 0xB8000 1 && !s.plyMember

/-- The up links in the order of R475: CU, PL, PR with their codes of CS_STATUS.UP_LINK. -/
def State.upLinks (s : State) : List (Nat × Nat) := if s.upx then [(1, 2), (2, 0), (3, 1)] else [(1, 2)]

/-- The up link that R475 chooses, as its code; 0 for none. One connected up link is used; of several, the first whose peer
reports ACTING. -/
def State.chooseUp (s : State) : Nat :=
  match s.upLinks.filter (fun e => s.linkIsUp e.2) with
  | [] => 0
  | [e] => e.1
  | l => ((l.find? (fun e => (s.link e.2).peerActing)).map (fun e => e.1)).getD 0

/-- CS_STATUS.UP_LINK follows the links (R475); a change raises 0x324. -/
def State.refreshUp (s : State) : State :=
  let n := s.chooseUp
  if n = s.cs.upLink then s else ({ s with cs := { s.cs with upLink := n } }).raise 0x324

/-- Drop the first cells of relayed frames that came on a link: the frame is lost (R511, Table 16.8). -/
def State.dropParts (s : State) (l : Nat) : State :=
  { s with cs := { s.cs with relPart := s.cs.relPart.filter (fun e => decide (e.1 / 4096 ≠ l)) } }

/-- A link starts training (R478, R480). `left` says that it leaves UP. -/
def State.train (s : State) (l : Nat) : State :=
  let v := s.link l
  let s1 := (s.setLink l { v with
    st := .training, reason := 0, lanes := 0, trained := none, trainRun := 0
    leftUp := if v.st = .up then some s.clock else v.leftUp }).count (5952 + 16 * l + 3)
  (s1.dropParts l).refreshUp

/-- A link goes DOWN (Table 15.2). -/
def State.linkDown (s : State) (l : Nat) : State :=
  ((s.setLink l { s.link l with st := .down, reason := 0, lanes := 0, trained := none, trainRun := 0, leftUp := none }).dropParts l).refreshUp

/-- Cells received in a row without error on the pair of lanes that a TRAIN cell names (R478). -/
def LinkSt.trainCells (v : LinkSt) (t : TrainInfo) (n : Nat) : Nat :=
  if v.trained.map (fun x => x.lanes) = some t.lanes then min 8 (v.trainRun + n) else min 8 n

/-- TRAIN_CELL (R477, R478): n alike in a row; a signal is present, so an enabled link that is DOWN trains. The last cell counts,
and one with an error ends the row of cells without error. -/
def execTrainCell (dt : Nat) (h : CellHdr) (t : TrainRun) (s : State) : Host.Outcome State Fault Refusal :=
  s.at_ dt (fun s =>
    let l := h.link.val
    if s.linkOn l = false then s
    else
      let s1 := if (s.link l).st = .down then s.train l else s
      if h.crcOk = false then (s1.modLink l (fun v => { v with trainRun := 0 })).countN (5952 + 16 * l) t.n
      else
        match (s1.link l).st with
        | .training | .failed => s1.modLink l (fun v => { v with trained := some t.info, trainRun := v.trainCells t.info t.n })
        | .up => (s1.modLink l (fun v => { v with lastCell := s1.clock, peerActing := h.acting })).refreshUp
        | _ => s1)

/-- The check of R479 that a peer fails first, as REASON of Table 15.2's register: 1 version, 2 position, 3 tag, 4 member;
0 when it passes. -/
def State.peerReason (s : State) (l : Nat) (t : TrainInfo) : Nat :=
  if sharedVer 1 1 t.vmin t.vmax = 0 then 1
  else if l = 2 ∧ t.pos + 1 ≠ s.dev.pos then 2
  else if l = 3 ∧ t.pos ≠ s.dev.pos + 1 then 2
  else if l < 2 ∧ s.upx = true ∧ t.pos + 1 ≠ s.dev.pos then 2
  else if s.plyLink l = true ∧ t.pos ≠ s.dev.pos then 2
  else if s.plyLink l = true ∧ t.tag ≠ s.plTag then 3
  else if s.plyLink l = true ∧ t.member ≠ (s.own + (if l = 1 then 1 else 2)) % 3 then 4
  else 0

/-- Training completes (R479, R480): UP, or INCOMPATIBLE. -/
def State.trained (s : State) (l : Nat) (t : TrainInfo) : State :=
  let r := s.peerReason l t
  let s1 := s.modLink l (fun v => { v with
    st := if r = 0 then .up else .incompatible, reason := r, lanes := t.lanes % 8, ver := sharedVer 1 1 t.vmin t.vmax,
    peerPos := t.pos, peerMember := t.member, peerPly := t.ply, trained := none, trainRun := 0
    leftUp := if r = 0 then none else v.leftUp, lastCell := s.clock })
  let s2 := if r = 0 then s1.raise 0x320 else s1.raise 0x322
  let s3 := if t.lanes / 4 % 2 = 1 then (s2.slub 0x0F05 l 0 0).raise 0x323 else s2
  s3.refreshUp

/-- Does a link's training end: 8 TRAIN cells in a row without error on a pair of its three lanes (R478)? -/
def LinkSt.pairFound (v : LinkSt) (t : TrainInfo) : Bool :=
  decide (v.trainRun ≥ 8) && decide (t.lanes % 8 = 3 ∨ t.lanes % 8 = 5 ∨ t.lanes % 8 = 6)

/-- WILIST_TRAINING_COMPLETE (R478, R479). -/
def execWilistTrainingComplete (dt : Nat) (link : Fin 4) (s : State) : Host.Outcome State Fault Refusal :=
  s.at_ dt (fun s =>
    let v := s.link link.val
    match v.trained with
    | some t => if s.linkOn link.val && decide (v.st = .training ∨ v.st = .failed) && v.pairFound t then s.trained link.val t else s
    | none => s)

/-- WILIST_CELL_TIMEOUT (R480): no valid cell for 8 µs. -/
def execWilistCellTimeout (dt : Nat) (link : Fin 4) (s : State) : Host.Outcome State Fault Refusal :=
  s.at_ dt (fun s =>
    let v := s.link link.val
    if decide (v.st = .up) && decide (s.clock - v.lastCell ≥ 8000) then s.train link.val else s)

/-- WILIST_LINK_FAILED (R480): not UP 100 ms after it left UP. -/
def execWilistLinkFailed (dt : Nat) (link : Fin 4) (s : State) : Host.Outcome State Fault Refusal :=
  s.at_ dt (fun s =>
    let v := s.link link.val
    match v.leftUp with
    | some t =>
      if decide (v.st = .training) && decide (s.clock - t ≥ 100000000) then
        ((s.setLink link.val { v with st := .failed }).slub 0x0E02 link.val 0 0).raise 0x321
      else s
    | none => s)

/-- RETRAIN (R480): training starts at once from any state but DOWN; a FAILED link stays FAILED while it trains. -/
def execRetrain (dt : Nat) (link : Fin 4) (w : Wr) (s : State) : Host.Outcome State Fault Refusal :=
  s.at_ dt (fun s => s.wr (0xB840C + 64 * link.val) w (fun s =>
    if bitOf w.data 0 && decide ((s.link link.val).st ≠ .down) then
      if (s.link link.val).st = .failed then
        (s.modLink link.val (fun v => { v with trained := none, trainRun := 0 })).count (5952 + 16 * link.val + 3)
      else s.train link.val
    else s))

/-! ## Cells received -/

/-- MGMT cells that an ACK covers leave the queue (R482): all up to the one whose SEQ it names. -/
def ackMgmt (a : Nat) (l : List MgmtOut) : List MgmtOut :=
  if l.any (fun m => decide (m.seq = a)) then (l.dropWhile (fun m => decide (m.seq ≠ a))).tail else l

/-- Low 16 bits of the receiver's turn when a cell left its sender: arrival less the one-way delay (R438, R481, R486). -/
def State.turnSent (s : State) (l : Nat) : BitVec 16 :=
  (s.turnAt (s.now - BitVec.ofNat 64 ((s.link l).rtt.toNat / 2))).setWidth 16

/-- A cell on an UP link (R481, R482): its CRC and KIND, the sender's ACTING and ACK, and on a ply link R438. -/
def State.cell (s : State) (h : CellHdr) (f : State → State) : State :=
  let l := h.link.val
  if (s.link l).st ≠ .up then s
  else if h.crcOk = false then s.count (5952 + 16 * l)
  else if h.kindOk = false then s.count (5952 + 16 * l + 1)
  else
    let s1 := (s.modLink l (fun v => { v with
      lastCell := s.clock, peerActing := h.acting, mgmt := ackMgmt h.ack v.mgmt })).refreshUp
    if s1.plyLink l then s1.plyCheck h.tag (decide (h.turn16 = s1.turnSent l)) f else f s1

/-- Is a link the source of the reference events of a follower (R61, R486): the up link in use, or for a ply member that
does not hold the flyer the link of the member that acts? -/
def State.timeLink (s : State) (l : Nat) (acting : Bool) : Bool :=
  decide (s.tm.srcActive = 3) &&
  (if s.tm.plyFollow then decide (l < 2) && acting else decide (upLinkOf s.cs.upLink = some l))

/-- TIME_CELL (R486, R487): the round trip, and on the link in use a reference event. -/
def execTimeCell (dt : Nat) (h : CellHdr) (tTx : BitVec 64) (turn : BitVec 48) (echo : BitVec 64) (residence : Word) (s : State) :
    Host.Outcome State Fault Refusal :=
  s.at_ dt (fun s => s.cell h (fun s =>
    let l := h.link.val
    let rtt := (s.now - echo).toNat - residence.toNat
    let s1 := s.modLink l (fun v => { v with
      lastTx := tTx, lastRx := s.now, rtt := if echo = 0 then v.rtt else BitVec.ofNat 32 rtt })
    if decide (echo ≠ 0) && s1.timeLink l h.acting then
      s1.refEvent (.cell turn tTx) (tTx + BitVec.ofNat 64 (rtt / 2)) (s1.lenUs * 1000)
    else s1))

/-! ### Relayed frames -/

/-- A relayed frame has arrived whole (R489, R490, R492): for a local stream, or into the queue of its out link with a
bobbin, which keeps what the cell says of the frame (Tables 4.5, 15.4). -/
def State.relayArrive (s : State) (r link : Nat) (f : Frame) (tag : FrameTag) : State :=
  if s.relayOn r = false then s.relayDrop r link 2
  else if fieldOf (s.rly0 r) 1 2 = 2 then s.relayLocal r link f
  else
    match s.relayOut r with
    | none => s.relayDrop r (s.relaySide r) 0
    | some _ =>
      if s.sharedFree > 0 ∧ s.bobFree > 0 then
        let i := s.nextBob
        (s.takeBob { frame := f, dur := tag.dur, poison := tag.poison, errt := tag.errt, time := tag.time, ch := 0
                     loopback := false, cls := .relay, holders := 1 }).relayQueue r i
      else s.relayDrop r link 1

/-- RELAY_CELL (Table 15.4, R490): a frame of more than 32 payload bytes comes in two cells. -/
def execRelayCell (dt : Nat) (h : CellHdr) (entry : Fin 4096) (second : Bool) (r : Relayed) (s : State) :
    Host.Outcome State Fault Refusal :=
  s.at_ dt (fun s => s.cell h (fun s =>
    let f := r.frame
    let l := h.link.val
    let key := 4096 * l + entry.val
    let total := if f.rtr then 0 else dlcBytes f.fdf f.dlc.toNat
    if s.plyLink l then s
    else if second then
      match Tbl.look s.cs.relPart key with
      | none => s
      | some g =>
        ({ s with cs := { s.cs with relPart := Tbl.del s.cs.relPart key } }).relayArrive entry.val l
          { g.1 with data := (g.1.data ++ f.data).take 64 } g.2
    else if total > 32 then { s with cs := { s.cs with relPart := Tbl.ins s.cs.relPart key (f, r.tag) } }
    else s.relayArrive entry.val l f r.tag))

/-! ### Cells of the ply -/

/-- HEART_CELL (R440, R443, R481): a heartbeat with the sender's configuration CRC and its joining progress. -/
def execHeartCell (dt : Nat) (h : CellHdr) (b : Beat) (crc : Word) (syncNext syncDone : Fin 256) (s : State) :
    Host.Outcome State Fault Refusal :=
  s.at_ dt (fun s => s.cell h (fun s =>
    if s.plyLink h.link.val then
      let s1 := s.hear false b
      if s1.others.contains b.member then
        s1.modMem b.member (fun m => { m with crc := crc, syncNext := syncNext.val, syncDone := syncDone.val })
      else s1
    else s))

/-- The member at the other end of a ply link (R437): PL leads to member m − 1, PR to member m + 1. -/
def State.peerOf (s : State) (l : Nat) : Nat := (s.own + (if l = 1 then 1 else 2)) % 3

/-- A set that arrives too late is discarded (R456). -/
def State.lateSet (s : State) : State := (s.count 5889).raiseOnce 0x30B 0x30B

/-- AGREE_CELL (R456): a part of the sender's agreement set or output set; the last part completes it. -/
def execAgreeCell (dt : Nat) (h : CellHdr) (b : AgreeBody) (cont : Bool) (s : State) : Host.Outcome State Fault Refusal :=
  s.at_ dt (fun s => s.cell h (fun s =>
    if s.plyLink h.link.val = false then s
    else
      let j := s.peerOf h.link.val
      match b with
      | .taps l c =>
        if s.tm.agreeDone then (if cont then s else s.lateSet)
        else
          s.modMem j (fun m =>
            let p : AgreeSet := { taps := m.agreePart.taps ++ l, comps := m.agreePart.comps ++ c }
            if cont then { m with agreePart := p } else { m with agreePart := {}, agree := some p })
      | .outs l =>
        if s.tm.releaseDone then (if cont then s else s.lateSet)
        else
          s.modMem j (fun m =>
            let p := m.outPart ++ l
            if cont then { m with outPart := p } else { m with outPart := [], outs := some p })))

/-- A DOORBELL fires its source within 0x380 to 0x3EF (R495). -/
def State.peerDoorbell (s : State) (l src : Nat) : State :=
  if 0x380 ≤ src ∧ src ≤ 0x3EF then s.raise src else s.count (5952 + 16 * l + 1)

/-- What a MGMT cell taken in order asks for (Table 15.4, R464, R468, R495). -/
def State.takeMgmt (s : State) (l : Nat) (m : MgmtBody) : State :=
  match m with
  | .doorbell src => s.peerDoorbell l src
  | .other => s.count (5952 + 16 * l + 1)
  | .desc turn a =>
    if s.plyLink l && decide (s.pl.role ≠ .acting) then
      { s with pl := { s.pl with descs := s.pl.descs ++ [{ turn := turn, desc := none, act := a, sent := true }] } }
    else s
  | .loop x =>
    if s.plyLink l && decide (s.pl.role = .joining) then { s with pl := { s.pl with install := s.pl.install ++ [x] } } else s

/-- MGMT_CELL (R482): taken only in SEQ order. -/
def execMgmtCell (dt : Nat) (h : CellHdr) (seq : Fin 256) (m : MgmtBody) (s : State) : Host.Outcome State Fault Refusal :=
  s.at_ dt (fun s => s.cell h (fun s =>
    let l := h.link.val
    if seq.val = ((s.link l).ackIn + 1) % 256 then
      (s.modLink l (fun v => { v with ackIn := seq.val })).takeMgmt l m
    else s))

/-! ## Cells sent -/

/-- Header of a cell sent on a link (Table 15.3). -/
def State.cellHead (s : State) (l : Nat) : CellHead :=
  { acting := s.acts, ack := (s.link l).ackIn, tag := if s.plyMember then s.plTag else 0, turn16 := s.tm.turn.setWidth 16 }

/-- A cell leaves on a link. -/
def State.sendCell (s : State) (l : Nat) (c : CellOut) : State := s.emit (.cell (finOf 4 (by decide) l) (s.cellHead l) c)

/-- A MGMT message joins the queue of a link with the next SEQ and goes out in the next cell time (R482, R483). -/
def State.sendMgmt (s : State) (l : Nat) (m : MgmtBody) : State :=
  let v := s.link l
  let n := (v.seqOut + 1) % 256
  let s1 := s.setLink l { v with seqOut := n, mgmt := v.mgmt ++ [{ seq := n, body := m, sent := true }] }
  s1.sendCell l (.mgmt n m)

/-- MGMT cells that wait for their acknowledgement are sent again (R482). -/
def State.resendMgmt (s : State) (l n : Nat) : State :=
  ((s.link l).mgmt.take n).foldl (fun (a : State) m =>
    let b := if m.sent then a.count (5952 + 16 * l + 2) else a
    b.sendCell l (.mgmt m.seq m.body)) s

/-- CS_PEERDB_GO (R495): a DOORBELL cell on each UP link of LINKS. -/
def execCsPeerdbGo (dt : Nat) (w : Wr) (s : State) : Host.Outcome State Fault Refusal :=
  s.at_ dt (fun s => s.wr 0xB8030 w (fun s =>
    let s1 := s.regStore 0xB8030 w
    if bitOf w.data 16 then
      ((List.range 4).filter (fun l => bitOf w.data (10 + l) && s1.linkIsUp l)).foldl
        (fun (a : State) l => a.sendMgmt l (.doorbell (fieldOf w.data 0 10))) s1
    else s1))

/-- The links. -/
def links : List Nat := [0, 1, 2, 3]
/-- The UP links that join this ply. -/
def State.plyUp (s : State) : List Nat := [0, 1].filter (fun l => s.plyLink l && s.linkIsUp l)

/-- A TIME cell on every UP link (R486): its own time, the echo of the last one received and the time since. -/
def State.sendTime (s : State) : State :=
  (links.filter (fun l => s.linkIsUp l)).foldl (fun (a : State) l =>
    let v := a.link l
    a.sendCell l (.time a.now a.tm.turn v.lastTx (if v.lastTx = 0 then 0 else (a.now - v.lastRx).toNat % 2 ^ 32))) s

/-- Cells that a relayed frame takes (R488). -/
def relayCells (f : Frame) : Nat := if f.data.length ≤ 32 then 1 else 2

/-- Frames queued for a link that fit into a number of cells, in arrival order (R489). -/
def State.fitting (s : State) (l : Nat) : Nat → List (Nat × Nat) → List (Nat × Nat)
  | _, [] => []
  | n, (r, b) :: q =>
    if s.relayOut r = some l then
      let c := match s.bob b with | some x => relayCells x.frame | none => 0
      if c ≤ n then (r, b) :: State.fitting s l (n - c) q else []
    else State.fitting s l n q

/-- One queued frame leaves on its link; its bobbin is released. A ply member that does not act sends no RELAY cell: the frame
leaves its queue with the acting member's (R489, log 37). -/
def State.relaySend (s : State) (l : Nat) (e : Nat × Nat) : State :=
  match s.bob e.2 with
  | none => s
  | some b => if s.acts = false then s.dropHolder e.2 else (s.sendCell l (.relay e.1 b.frame b.tag)).dropHolder e.2

/-- Queued frames whose out link is not UP are dropped (R489, R492). -/
def State.relayLost (s : State) : State :=
  let lost := s.cs.queue.filter (fun e => (s.relayOut e.1).isNone)
  let s1 := { s with cs := { s.cs with queue := s.cs.queue.filter (fun e => (s.relayOut e.1).isSome) } }
  lost.foldl (fun (a : State) e => (a.relayDrop e.1 (a.relaySide e.1) 0).dropHolder e.2) s1

/-- A RELAY entry of a number of cells (R489). -/
def State.sendRelay (s : State) (cells : Nat) : State :=
  links.foldl (fun (a : State) l =>
    let out := a.fitting l cells a.cs.queue
    let b := { a with cs := { a.cs with queue := a.cs.queue.filter (fun e => !out.contains e) } }
    out.foldl (fun (c : State) e => c.relaySend l e) b) s.relayLost

end Sys2Proof.Machine
end

