-- ==== Sys2Proof/Machine/Measure.lean ====
section
/-!
DEFINITION. What line watch measures of the samples of a channel's taps (R187 to R189, R192, R197): the quantities of
Table 6.1 over attributed bits.
-/

namespace Sys2Proof

open Sys2Proof.Machine

/-! ## Samples -/

/-- Voltage at a tap in mV for a code: 19.53125 mV a step from −40 V (R187; offset binary DEDUCED, log 85). -/
def tapMv (c : BitVec 12) : Rat := (c.toNat : Rat) * (625 / 32) - 40000
/-- VDIFF of a sample pair (R188). -/
def TapPair.diff (p : TapPair) : Rat := tapMv p.h - tapMv p.l
/-- VCM of a sample pair (R188). -/
def TapPair.common (p : TapPair) : Rat := (tapMv p.h + tapMv p.l) / 2

/-- A level as line watch reports it, a signed 16-bit value in mV (R188). -/
def sWord (x : Int) : BitVec 16 := if -32768 ≤ x ∧ x ≤ 32767 then BitVec.ofInt 16 x else Config.misfit x
/-- A figure without a sign in 16 bits. -/
def uWord (x : Int) : BitVec 16 := if 0 ≤ x ∧ x < 65536 then BitVec.ofInt 16 x else Config.misfit x

/-- A sample pair as the host buffer of R213 holds it: TAPH, then TAPL. -/
def TapPair.word (p : TapPair) : Word := sWord (wholeOr .sample (tapMv p.l)) ++ sWord (wholeOr .sample (tapMv p.h))

/-! ## Bits and edges -/

/-- The samples of the middle half of a bit. -/
def BitWave.middle (b : BitWave) : List TapPair :=
  (b.pairs.drop (b.pairs.length / 4)).take (b.pairs.length - 2 * (b.pairs.length / 4))

/-- Mean of a list; none of an empty one. -/
def meanOf (l : List Rat) : Option Rat := if l.isEmpty then none else some (l.sum / l.length)

/-- Mean of a figure over the middle half of each bit of a list. -/
def middleMean (f : TapPair → Rat) (l : List BitWave) : Option Rat := meanOf (l.flatMap (fun b => b.middle.map f))

/-- The bits that follow an edge, each with the bit before it. -/
def edgesOf (prev : Option BitWave) (bits : List BitWave) : List (BitWave × BitWave) :=
  (match prev with
    | some p => (p :: bits).zip bits
    | none => bits.zip bits.tail).filter (fun e => decide (e.1.dom ≠ e.2.dom))

/-- Place, in samples, at which a list first rises through a level, by linear interpolation; `i` is the place of its head. -/
def riseAt (level : Rat) (i : Nat) : List Rat → Option Rat
  | a :: b :: l => if a < level ∧ level ≤ b then some (i + (level - a) / (b - a)) else riseAt level (i + 1) (b :: l)
  | _ => none

/-- VDIFF from the middle of the bit before an edge to the middle of the bit after it. -/
def edgeSamples (e : BitWave × BitWave) : List Rat :=
  (e.1.pairs.drop (e.1.pairs.length / 2) ++ e.2.pairs.take (e.2.pairs.length / 2)).map (fun p => p.diff)

/-- Time of an edge in units of 0.1 ns between 10 % and 90 % of the way from REC_MV to DOM_MV (Table 6.1); a sample is 12.5 ns. -/
def edgeTime (dom rec : Rat) (e : BitWave × BitWave) : Option Rat :=
  let lo := rec + (dom - rec) / 10
  let hi := rec + (dom - rec) * 9 / 10
  let v := edgeSamples e
  let ends := if e.2.dom then (riseAt lo 0 v, riseAt hi 0 v)
    else (riseAt (-hi) 0 (v.map (fun x => -x)), riseAt (-lo) 0 (v.map (fun x => -x)))
  match ends with
  | (some a, some b) => some ((b - a) * 125)
  | _ => none

/-- Square of the deviations of VDIFF from a bit's settled level, the mean of its middle half, over its first quarter. -/
def ringSquares (b : BitWave) : List Rat :=
  match meanOf (b.middle.map (fun p => p.diff)) with
  | none => []
  | some m => (b.pairs.take (b.pairs.length / 4)).map (fun p => (p.diff - m) * (p.diff - m))

/-- Root of a mean square, as a whole number of mV. -/
def rootOf (x : Rat) : Int :=
  let n := x.floor.toNat.sqrt
  if x = ((n * n : Nat) : Rat) then n else n + b01 (Config.roundUp .line x.num x.den)

/-! ## Quantities -/

/-- The quantities of Table 6.1 but ACK_MV, in its order, over attributed bits; none for one that the bits do not yield. -/
def quantities (prev : Option BitWave) (bits : List BitWave) : List (Option Int) :=
  let dom := middleMean (fun p => p.diff) (bits.filter (fun b => b.dom))
  let rec_ := middleMean (fun p => p.diff) (bits.filter (fun b => !b.dom))
  let es := edgesOf prev bits
  let time := fun (d : Bool) =>
    match dom, rec_ with
    | some x, some y => meanOf ((es.filter (fun (e : BitWave × BitWave) => e.2.nominal && decide (e.2.dom = d))).filterMap (edgeTime x y))
    | _, _ => none
  [dom.map (wholeOr .line), rec_.map (wholeOr .line), (middleMean (fun p => p.common) bits).map (wholeOr .line)
  , (time true).map (wholeOr .line), (time false).map (wholeOr .line)
  , (meanOf (es.flatMap (fun e => ringSquares e.2))).map rootOf]

/-- ACK_MV (Table 6.1). -/
def ackLevel (ack : List TapPair) : Option Int :=
  (middleMean (fun p => p.diff) [{ dom := true, nominal := true, pairs := ack }]).map (wholeOr .line)

/-- What line watch measures of a frame (R192): the six quantities of a signature, and ACK_MV. -/
structure SigMeas where
  x : List Int
  ack : Option Int
  deriving DecidableEq, Repr

/-- Bits of a frame from the one after RTR or RRS to the last of the CRC field (R189, ISO 11898-1): the fewest, and with as many
stuff bits as fit, the most. -/
def attributedBits (f : Frame) : Nat × Nat :=
  let data := (if f.fdf then (if f.ide then 8 else 9) else 6) + 8 * f.data.length
  let stuffed := if f.fdf then data else data + 15
  let rest := if f.fdf then (if f.data.length ≤ 16 then 28 else 33) else 1
  (stuffed + rest, stuffed + rest + (stuffed + 3) / 4)

/-- Are these the attributed bits of a frame (R189): as many as it has, and of the data phase only with bit rate switching? -/
def Wave.fits (w : Wave) (f : Frame) : Bool :=
  decide ((attributedBits f).1 ≤ w.bits.length ∧ w.bits.length ≤ (attributedBits f).2) &&
    (f.brs || w.bits.all (fun b => b.nominal))

/-- The measurement of a frame; none where its samples do not yield every quantity of a signature. -/
def Wave.measure (w : Wave) : Option SigMeas :=
  let l := quantities (some w.prev) w.bits
  if l.all (·.isSome) then some { x := l.filterMap id, ack := ackLevel w.ack } else none

/-! ## Captures -/

/-- The bits, latest first, that lie whole in the samples before the flag, latest first. -/
def cutBack : List BitSpan → List TapPair → List BitWave
  | [], _ => []
  | b :: l, p =>
    if b.len ≤ p.length then
      { dom := b.dom, nominal := b.nominal, pairs := (p.take b.len).reverse } :: cutBack l (p.drop b.len)
    else []

/-- Sample pairs of a capture before the first bit of the error flag (R196). -/
def capBefore : Nat := 3072

/-- The quantities that a capture yields of at most the last 16 attributed bits before the error flag (R197). -/
def capQuantities (spans : List BitSpan) (pairs : List TapPair) : List (Option Int) :=
  let n := min 16 (spans.length - 1)
  let l := cutBack (spans.reverse.take (n + 1)) ((pairs.take capBefore).reverse)
  quantities (l[n]?) ((l.take n).reverse)

end Sys2Proof
end

