-- ==== Sys2Proof/Machine/LineWatch.lean ====
section
/-!
DEFINITION. Line watch (chapter 6): signatures, captures and attribution, termination, shorts and trends, quarantine
requests, and host captures.
-/

namespace Sys2Proof.Machine

/-! ## Figures -/

/-- R_EST as shown, in 0.1 Ω. -/
def LineCh.rShown (v : LineCh) : Nat := (uWord v.rEst).toNat

/-- FLAGS of Table 6.3: TERM_LOW, TERM_HIGH, the four short bits and the OR of TRENDMAP, from bit 0 up. -/
def LineCh.flags (v : LineCh) : Nat :=
  b01 v.termLow + 2 * b01 v.termHigh + 4 * ((List.range 4).map (fun i => b01 (v.short.getD i false) * 2 ^ i)).sum +
  64 * b01 (decide (v.trendMap ≠ 0))

/-- QSTATE of a channel. -/
def LineCh.qstate (v : LineCh) : Nat := if v.quars.isEmpty then (if v.reqs.isEmpty then 0 else 1) else 2

/-- Node that R190 credits a frame to; none when it is unattributed. -/
def State.nodeOf (s : State) (ch : Nat) (own : Bool) (key : Word) : Option Nat :=
  if own then some (s.fld (lwBase ch) 1 5)
  else ((s.declared ch).find? (fun e => decide (e.2.key = key))).map (fun e => e.2.cfg.node.val)

/-! ## Signatures -/

/-- One frame more in a signature (R193), and in the means of the trend interval. -/
def Signature.add (g : Signature) (m : SigMeas) : Signature :=
  let x := m.x.map (fun v => (v : Rat))
  let n := min 65535 (g.n + 1)
  let a : Rat := 1 / (min n 16 : Nat)
  let first := decide (g.n = 0)
  { g with
    n := n
    mu := if first then x else List.zipWith (fun mu x => mu + a * (x - mu)) g.mu x
    dev := if first then x.map (fun _ => 0)
      else List.zipWith (fun (d : Rat) (p : Rat × Rat) => d + a * ((if p.1 < p.2 then p.2 - p.1 else p.1 - p.2) - d)) g.dev
        (g.mu.zip x)
    sum := [g.sum.getD 0 0 + x.getD 3 0, g.sum.getD 1 0 + x.getD 4 0]
    cnt := g.cnt + 1 }

/-- A mature signature (R193). -/
def Signature.mature (g : Signature) : Bool := decide (g.n ≥ 64)

/-- The TERM bits follow R_EST, TERM_LO and TERM_HI once a frame has given an R_EST (R201). -/
def State.judgeTerm (s : State) (ch : Nat) : State :=
  let v := s.line ch
  let lo := v.estimated && decide (v.rEst < (s.fld (lwBase ch + 4) 5 13 : Nat))
  let hi := v.estimated && decide (v.rEst > (s.fld (lwBase ch + 4) 18 13 : Nat))
  let s1 := s.setLine ch { v with termLow := lo, termHigh := hi }
  if (lo && !v.termLow) || (hi && !v.termHigh) then s1.raise 0x1C1 else s1

/-- R_EST after a frame of the reference node (R200), and the TERM bits. -/
def State.estimate (s : State) (ch : Nat) (dom : Int) : State :=
  let voc : Int := (s.fld (lwBase ch + 8) 0 16 : Nat)
  let rs : Rat := (s.fld (lwBase ch + 8) 16 16 : Nat)
  (s.modLine ch (fun v => { v with
    estimated := true
    rEst := if voc ≤ dom then 65535
      else wholeOr .line ((v.rEst : Rat) + (rs * (dom : Rat) / ((voc - dom : Int) : Rat) - (v.rEst : Rat)) / 16) })).judgeTerm ch

/-- The levels of a record as it holds them (Table 6.6): RISE and FALL are times. A figure that was not measured is open. -/
def shownLevels (x : List (Option Int)) (ack : Option Int) : List (BitVec 16) :=
  (List.range 7).map (fun i =>
    let v := (if i = 6 then ack else x.getD i none).getD (Config.unmeasured i)
    if i = 3 ∨ i = 4 then uWord v else sWord v)

/-- Was the line sampled all through the frame on the wire: no field-die reset since its start (R505)? -/
def State.sampled (s : State) (ch : Nat) : Bool := s.fieldUp && decide (s.fa.upAt ≤ (s.ch ch).sofClk)

/-- A frame that ends without error (R190, R192 to R195, R200): `own` for one this device sent; `w` is what the sample path
brought, none where a sample word was poisoned. -/
def State.lineFrame (s : State) (ch : Nat) (own : Bool) (f : Frame) (eof : BitVec 64) (w : Option Wave) : State :=
  if !s.lineOn ch || decide ((s.ch ch).mode = .loopback) then s
  else
    let key := f.key
    match s.nodeOf ch own key, (if s.sampled ch then w else none).bind (fun w => if w.fits f then w.measure else none) with
    | none, _ => s.count (64 * ch + 27)
    | some _, none => s
    | some k, some m =>
      let g := (Tbl.lookD (s.line ch).sig k {}).add m
      let every := s.fld (lwBase ch) 8 8
      let due := decide (every ≠ 0) && decide (g.every + 1 ≥ every)
      let g1 := { g with every := if due then 0 else g.every + 1 }
      let s1 := s.modLine ch (fun v => { v with sig := Tbl.put v.sig k {} g1 })
      let s2 := if s.fld (lwBase ch + 4) 0 5 = k then s1.estimate ch (m.x.headD 0) else s1
      if due then
        s2.lineRecord {
          kind := 1, ch := ch, node := k, key := key, time := eof, turn := s.tm.turn
          levels := shownLevels (m.x.map some) m.ack }
      else s2

/-! ## Captures -/

/-- The capture to fill: the oldest one not filled within 2 turns (R196). -/
def LineCh.freeCap (v : LineCh) : Option Nat :=
  (List.range 8).foldl (fun (a : Option Nat) i =>
    let c := Tbl.lookD v.caps i {}
    if c.age < 2 then a
    else
      match a with
      | none => some i
      | some j => if c.order < (Tbl.lookD v.caps j {}).order then some i else some j) none

/-- Fill a capture. -/
def LineCh.fill (v : LineCh) (i : Nat) (pairs : List TapPair) : LineCh :=
  { v with
    caps := Tbl.put v.caps i {} { pairs := pairs, age := 0, order := v.capCount + 1 }
    capCount := v.capCount + 1 }

/-- The first bit of an error flag (R196, R199): a capture is filled and waits for its attribution. `key` is the key of
the frame in flight where its identifier is known, `own` says that this device sent it. -/
def State.lineError (s : State) (ch : Nat) (own : Bool) (key : Option Word) (e : ErrInfo) : State :=
  if !s.lineOn ch then s
  else
    let s0 := s.modLine ch (fun v => { v with errs := v.errs + 1 })
    if !s.sampled ch then s0
    else
    let v := s0.line ch
    match v.freeCap with
    | none => s0.count (64 * ch + 28)
    | some i =>
      let expect := match key with
        | some k => (s.nodeOf ch own k).getD 0x3F
        | none => if own then s.fld (lwBase ch) 1 5 else 0x3F
      let v1 := v.fill i e.pairs
      s0.setLine ch { v1 with
        blames := v1.blames ++ [{
          time := s.now, turn := s.tm.turn, key := key, expect := expect, cap := i, pairs := e.pairs }] }

/-! ## Attribution -/

/-- Floors of R197: 20 mV for levels, 2 ns for edge times (in 0.1 ns), 5 mV for ringing. -/
def distFloors : List Rat := [20, 20, 20, 20, 20, 5]

/-- Distance of a signature from the quantities a capture yields (R197). -/
def Signature.distance (g : Signature) (x : List (Option Int)) : Rat :=
  let terms := (List.range 6).filterMap (fun i =>
    match x.getD i none with
    | none => none
    | some v =>
      let d : Rat := (v : Rat) - g.mu.getD i 0
      some ((if d < 0 then -d else d) / max (g.dev.getD i 0) (distFloors.getD i 1)))
  terms.sum / terms.length

/-- The smallest distance of a list, the lower-numbered node among equals. -/
def nearest (l : List (Nat × Rat)) : Option (Nat × Rat) :=
  l.foldl (fun a e => match a with | none => some e | some b => if e.2 < b.2 then some e else some b) none

/-- round(100 × (1 − a / b)) of Table 6.2. -/
def confOf (a b : Rat) : Nat :=
  if b = 0 then Config.confTie % 101
  else
    let x := 100 * (1 - a / b) + 1 / 2
    x.floor.toNat - b01 (decide (x.den = 1) && !Config.roundUp .conf (a / b).num (a / b).den)

/-- Outcome of an attribution (Table 6.2). -/
structure Verdict6 where
  node : Nat
  conf : Nat
  reason : Nat
  second : Nat
  dBest : Option Rat
  dSecond : Option Rat
  deriving DecidableEq, Repr

/-- The attribution of a capture that yields `x` from `bits` attributed bits (R197, R198). -/
def LineCh.attribute (v : LineCh) (bits : Nat) (x : List (Option Int)) : Verdict6 :=
  let ds := (v.sig.filter (fun e => e.2.mature)).map (fun e => (e.1, e.2.distance x))
  if bits < 2 ∨ (x.filter (·.isSome)).length = 0 then ⟨0x3F, 0, 3, 0x3F, none, none⟩
  else
    match nearest ds with
    | none => ⟨0x3F, 0, 4, 0x3F, none, none⟩
    | some b =>
      let second := nearest (ds.filter (fun e => decide (e.1 ≠ b.1)))
      if b.2 > 4 then ⟨0x3E, 0, 2, (second.map (·.1)).getD 0x3F, some b.2, second.map (·.2)⟩
      else
        match second with
        | some c => ⟨b.1, confOf b.2 c.2, 0, c.1, some b.2, some c.2⟩
        | none => ⟨b.1, confOf b.2 4, 1, 0x3F, some b.2, none⟩

/-- A distance in units of 1/256, saturating (Table 6.6); open where there is none. -/
def distShown (d : Option Rat) : Nat :=
  match d with
  | none => (Config.unmeasured 16).toNat % 65536
  | some x => min 65535 (wholeOr .dist (x * 256)).toNat

/-- A quarantine candidate (R205, R206, R209). -/
def State.candidate (s : State) (ch node : Nat) : State :=
  let feed := s.nodeFeed ch node
  let q := lwBase ch + 0x14
  let policy := s.fld q 0 2
  let r : QuarReq := {
    feed := feed, action := s.bit q 2, offMs := s.fld q 3 13, left := s.fld q 16 16, node := node }
  if feed ≥ 8 ∨ s.bit 0x60004 feed = false ∨ s.nodeConflict ch node = true then s
  else if policy = 0 ∨ s.mayQuar = false ∨ s.inQuar feed = true ∨ (s.reqFor feed).isSome = true then s.count (64 * ch + 30)
  else if (s.feed feed).st.gateOn = false then s.quarRecord ch 5 feed r.action node
  else if policy = 1 then
    ((s.modLine ch (fun v => { v with reqs := v.reqs ++ [r] })).raise 0x1C4).quarRecord ch 1 feed r.action node
  else s.quarStart ch r

/-- Count an attribution against a node (R205). -/
def State.blame (s : State) (ch node : Nat) (turn : BitVec 48) : State :=
  let g := Tbl.lookD (s.line ch).sig node {}
  let win := s.fld (lwBase ch + 0x10) 16 16
  let l := (g.blames ++ [turn.toNat]).filter (fun t => decide (t + win > turn.toNat))
  let s1 := s.modLine ch (fun v => { v with sig := Tbl.put v.sig node {} { g with blames := l } })
  if l.length ≥ s.fld (lwBase ch + 0x10) 0 4 then s1.candidate ch node else s1

/-- The quantities that the capture of an error flag yields (R197), given the RTR or RRS bit, none where the arbitration field had
not ended, and the attributed bits between it and the flag. -/
def Blame.measured (b : Blame) (arb : Option BitSpan) (bits : List BitSpan) : List (Option Int) :=
  match arb with | some a => capQuantities (a :: bits) b.pairs | none => capQuantities [] b.pairs
/-- The number of attributed bits before the flag. -/
def flagBits (arb : Option BitSpan) (bits : List BitSpan) : Nat := if arb.isSome then bits.length else 0

/-- ATTRIBUTION (R197 to R199, R205): the oldest capture that waits for it. -/
def State.attributed (s : State) (ch : Nat) (arb : Option BitSpan) (bits : List BitSpan) : State :=
  match (s.line ch).blames with
  | [] => s
  | b :: rest =>
    let x := b.measured arb bits
    let o := (s.line ch).attribute (flagBits arb bits) x
    let s1 := (s.modLine ch (fun v => { v with blames := rest })).count (64 * ch + 29)
    let s2 := (s1.lineRecord {
      kind := 2, ch := ch, node := o.node, conf := o.conf, reason := o.reason, key := b.key.getD 0xFFFFFFFF
      time := b.time, turn := b.turn
      levels := shownLevels x none
      expNode := b.expect, second := o.second, dBest := distShown o.dBest, dSecond := distShown o.dSecond
      capture := b.cap }).raise 0x1C0
    if decide (o.reason ≤ 1) && decide (o.conf ≥ s.fld (lwBase ch + 0x10) 4 7) then s2.blame ch o.node b.turn else s2

/-- ATTRIBUTION. -/
def execAttribution (dt : Nat) (ch : Fin 16) (arb : Option BitSpan) (bits : List BitSpan) (s : State) :
    Host.Outcome State Fault Refusal :=
  s.at_ dt (fun s => s.attributed ch.val arb bits)

/-! ## Quarantine -/

/-- A request lapses (R206): source 0x1C7, event LAPSED. -/
def State.lapseRequest (s : State) (ch : Nat) (q : QuarReq) : State :=
  ((s.modLine ch (fun v => { v with reqs := v.reqs.filter (fun r => decide (r.feed ≠ q.feed)) })).raise 0x1C7).quarRecord ch 4
    q.feed q.action q.node

/-- QUARANTINE_REQUEST_LAPSE (R206, R211): the requests of a channel whose turns have passed. -/
def execQuarantineRequestLapse (dt : Nat) (ch : Fin 16) (s : State) : Host.Outcome State Fault Refusal :=
  s.at_ dt (fun s =>
    ((s.line ch.val).reqs.filter (fun q => decide (q.left = 0))).foldl (fun (a : State) q => a.lapseRequest ch.val q) s)

/-- Is a CYCLE due to restart its feed (R207)? -/
def State.restartDue (s : State) (q : Quar) : Bool := !q.action && !q.restarted && decide (q.restart ≤ s.clock)

/-- A CYCLE's feed may start (R207). -/
def State.restartFeed (s : State) (ch feed : Nat) : State :=
  ((s.modLine ch (fun v => { v with
    quars := v.quars.map (fun q => if q.feed = feed then { q with restarted := true } else q) })).modFeed feed
      (fun f => { f with quar := false })).holdEnds feed

/-- QUARANTINE_RESTART (R207): after OFF_MS a CYCLE lets the feed start. -/
def execQuarantineRestart (dt : Nat) (ch : Fin 16) (s : State) : Host.Outcome State Fault Refusal :=
  s.at_ dt (fun s =>
    ((s.line ch.val).quars.filter (fun q => s.restartDue q)).foldl (fun (a : State) q => a.restartFeed ch.val q.feed) s)

/-! ## Shorts and trends -/

/-- One evaluation of the taps (R202). -/
def State.shortEval (s : State) (ch : Nat) (h l : Int) : State :=
  let v := s.line ch
  let hi : Int := (s.fld (lwBase ch + 12) 0 16 : Nat)
  let lo : Int := (s.fld (lwBase ch + 12) 16 16 : Nat)
  let bad := [decide (h > hi), decide (h < lo), decide (l > hi), decide (l < lo)]
  let ok := [decide (lo ≤ h ∧ h ≤ hi), decide (lo ≤ h ∧ h ≤ hi), decide (lo ≤ l ∧ l ≤ hi), decide (lo ≤ l ∧ l ≤ hi)]
  let run := fun (b : List Bool) (r : List Nat) => List.zipWith (fun (b : Bool) (n : Nat) => if b then min 8 (n + 1) else 0) b r
  let br : List Nat := run bad v.badRun
  let kr : List Nat := run ok v.okRun
  let short := (List.range 4).map (fun i =>
    if br.getD i 0 ≥ 8 then true else if kr.getD i 0 ≥ 8 then false else v.short.getD i false)
  let s1 := s.setLine ch { v with badRun := br, okRun := kr, short := short, shortAt := some s.clock }
  if (List.range 4).any (fun i => short.getD i false && !v.short.getD i false) then s1.raise 0x1C2 else s1

/-- Is an evaluation of R202 due: the channel recessive for at least 11 nominal bits, which the end of a frame and its
intermission are, and 100 µs since the last one? -/
def State.shortDue (s : State) (ch : Nat) : Bool :=
  s.lineOn ch && decide ((s.ch ch).wire = .idle) &&
    (match (s.line ch).shortAt with | some t => decide (t + 100000 ≤ s.clock) | none => true)

/-- SHORT_EVALUATION. -/
def execShortEvaluation (dt : Nat) (ch : Fin 16) (tapH tapL : Int) (s : State) : Host.Outcome State Fault Refusal :=
  s.at_ dt (fun s => if s.shortDue ch.val then s.shortEval ch.val tapH tapL else s)

/-- Excess of an interval mean over a baseline in percent; none without a baseline. -/
def Signature.excess (g : Signature) : Option Rat :=
  match g.base, g.mean with
  | some b, some m => some (max ((m.1 - b.1) * 100 / b.1) ((m.2 - b.2) * 100 / b.2))
  | _, _ => none

/-- Does an interval mean exceed the baseline by more than p percent (R203)? -/
def Signature.alarm (g : Signature) (p : Nat) : Bool :=
  match g.base, g.mean with
  | some b, some m => decide (m.1 * 100 > b.1 * (100 + p : Nat)) || decide (m.2 * 100 > b.2 * (100 + p : Nat))
  | _, _ => false

/-- The end of a trend interval for one signature: its means join the history of 64 (R203). -/
def Signature.endInterval (g : Signature) : Signature :=
  if g.mature && decide (g.cnt > 0) then
    let m := (g.sum.getD 0 0 / g.cnt, g.sum.getD 1 0 / g.cnt)
    { g with hist := (g.hist ++ [m]).drop ((g.hist.length + 1) - 64), mean := some m, sum := [0, 0], cnt := 0 }
  else { g with mean := none, sum := [0, 0], cnt := 0 }

/-- The end of a trend interval of a channel (R203). -/
def State.trendEnd (s : State) (ch : Nat) : State :=
  let v := s.line ch
  let sig := v.sig.map (fun e => (e.1, e.2.endInterval))
  let hits := (sig.filter (fun e => e.2.alarm (s.fld (lwBase ch + 0x18) 24 8))).map (·.1)
  let s1 := s.setLine ch { v with
    sig := sig, trendTurns := 0
    trendMap := hits.foldl (fun m k => m ||| BitVec.ofNat 32 (2 ^ k)) v.trendMap }
  if hits.isEmpty then s1 else s1.raise 0x1C3

/-- TREND_INTERVAL_END (R203). -/
def execTrendIntervalEnd (dt : Nat) (ch : Fin 16) (s : State) : Host.Outcome State Fault Refusal :=
  s.at_ dt (fun s =>
    if s.lineOn ch.val && decide ((s.line ch.val).trendTurns ≥ s.fld (lwBase ch.val + 0x18) 0 24) then s.trendEnd ch.val
    else s)

/-- Take the baselines of a channel (R203). -/
def State.takeBase (s : State) (ch : Nat) : State :=
  s.modLine ch (fun v => { v with
    sig := v.sig.map (fun e => (e.1, { e.2 with base := some (e.2.mu.getD 3 0, e.2.mu.getD 4 0) })) })

/-- BASELINE (R203): LW_CMD. -/
def execBaseline (dt : Nat) (w : Wr) (s : State) : Host.Outcome State Fault Refusal :=
  s.at_ dt (fun s => s.wr 0x60008 w (fun s =>
    (channels.filter (fun c => bitOf w.data c)).foldl State.takeBase s))

/-! ## Host captures -/

/-- LINE_CAPTURE (R213, Table 10.9): MALFORMED, NO_RESOURCE while one is pending on the channel, TIMEOUT while the field
die is in reset; else armed. -/
def State.acceptCapture (s : State) (d : Desc) (b : CaptureBody) : State :=
  s.accept d 9 (fun s =>
    if decide (b.trigger = 3) || decide (b.timeout = 0) || decide (b.addr.toNat % 4096 ≠ 0) ||
        (decide (b.trigger ≠ 1) && decide (b.key ≠ 0)) then s.completeSt d 9 2
    else if (s.line b.ch.val).armed.isSome then s.completeSt d 9 7
    else if s.path = false then s.completeSt d 9 5
    else s.modLine b.ch.val (fun v => { v with armed := some {
      desc := d, body := b, left := b.timeout.toNat
      hit := if b.trigger = 0 then some { time := s.now, turn := s.tm.turn, key := 0xFFFFFFFF } else none } }))

/-- LINE_CAPTURE. -/
def execLineCapture (dt : Nat) (d : Desc) (b : CaptureBody) (s : State) : Host.Outcome State Fault Refusal :=
  s.descRow dt d (.capture b) (fun s => s.acceptCapture d b)

/-- An event that a host capture may wait for (R213): an error flag, or a frame that carries a key, at its end or its error
flag. -/
def State.noteTrigger (s : State) (ch : Nat) (key : Option Word) (err : Bool) : State :=
  match (s.line ch).armed with
  | none => s
  | some a =>
    if decide (a.hit = none) &&
        ((decide (a.body.trigger = 1) && decide (key = some a.body.key)) || (decide (a.body.trigger = 2) && err)) then
      s.modLine ch (fun v => { v with armed := some { a with
        hit := some { time := s.now, turn := s.tm.turn, key := key.getD 0xFFFFFFFF } } })
    else s

/-- The trigger of a host capture has occurred and its samples are there (R213): they go to the host, with a CAPTURE record.
Where every capture is protected it is counted, and waits for its next trigger (R196; log 85). -/
def State.captureTrigger (s : State) (ch : Nat) (pairs : List TapPair) : State :=
  match (s.line ch).armed with
  | none => s
  | some a =>
    match a.hit, (s.line ch).freeCap with
    | none, _ => s
    | some _, none =>
      (s.modLine ch (fun v => { v with armed := some { a with hit := if a.body.trigger = 0 then a.hit else none } })).count
        (64 * ch + 28)
    | some h, some i =>
      let s1 := s.modLine ch (fun v => { v.fill i pairs with armed := none })
      let s2 := if (s.port a.desc.port).canWrite then
        s1.emit (.samples a.desc.port a.body.addr (pairs.map (fun p => p.word))) else s1
      let s3 := (s2.lineRecord {
        kind := 5, ch := ch, key := h.key, time := h.time, turn := h.turn, capture := i }).raise 0x1C9
      s3.complete a.desc { complOf a.desc 9 0 with capture := i, turn := h.turn, timeA := h.time }

/-- LINE_CAPTURE_TRIGGER. -/
def execLineCaptureTrigger (dt : Nat) (ch : Fin 16) (pairs : List TapPair) (s : State) : Host.Outcome State Fault Refusal :=
  s.at_ dt (fun s => s.captureTrigger ch.val pairs)

/-- A host capture ends in TIMEOUT. -/
def State.captureTimeout (s : State) (ch : Nat) : State :=
  match (s.line ch).armed with
  | none => s
  | some a => (s.modLine ch (fun v => { v with armed := none })).completeSt a.desc 9 5

/-- LINE_CAPTURE_TIMEOUT (R213): the turns of TIMEOUT_TURNS have passed. -/
def execLineCaptureTimeout (dt : Nat) (ch : Fin 16) (s : State) : Host.Outcome State Fault Refusal :=
  s.at_ dt (fun s =>
    match (s.line ch.val).armed with
    | some a => if a.left = 0 ∧ a.hit = none then s.captureTimeout ch.val else s
    | none => s)

/-- One boundary of a channel's line watch: ages, turn counts of requests, host captures and trends, and the HEALTH record
of R215. -/
def State.lineBoundary (s : State) (ch : Nat) : State :=
  let v := s.line ch
  let every := s.fld (lwBase ch) 16 16
  let due := s.lineOn ch && decide (every ≠ 0) && decide (v.healthTurns + 1 ≥ every)
  let v1 := { v with
    caps := v.caps.map (fun e => (e.1, { e.2 with age := min 2 (e.2.age + 1) }))
    reqs := v.reqs.map (fun q => { q with left := q.left - 1 })
    armed := v.armed.map (fun a => { a with left := a.left - 1 })
    trendTurns := if s.lineOn ch then v.trendTurns + 1 else v.trendTurns
    healthTurns := if due then 0 else if s.lineOn ch then v.healthTurns + 1 else v.healthTurns }
  let s1 := s.setLine ch v1
  if due then
    s1.lineRecord {
      kind := 3, ch := ch, node := 0x3F, time := s.now, turn := s.tm.turn, term := v1.rShown, flags := v1.flags
      trend := v1.trendMap }
  else s1

end Sys2Proof.Machine
end

