-- ==== Sys2Proof/Machine/Fp.lean ====
section
/-!
DEFINITION. IEEE 754 binary32 on register words (R9): round to nearest with ties to even, subnormals kept, no traps.
Every operation is computed exactly and rounded once.
-/

namespace Sys2Proof.Machine

/-- Sign bit. -/
def fSign (x : Word) : Bool := bitOf x 31
/-- Biased exponent. -/
def fExp (x : Word) : Nat := fieldOf x 23 8
/-- Fraction field. -/
def fFrac (x : Word) : Nat := fieldOf x 0 23
/-- A NaN. -/
def fIsNan (x : Word) : Bool := decide (fExp x = 255) && decide (fFrac x ≠ 0)
/-- An infinity. -/
def fIsInf (x : Word) : Bool := decide (fExp x = 255) && decide (fFrac x = 0)
/-- A finite number. -/
def fFinite (x : Word) : Bool := decide (fExp x ≠ 255)
/-- The NaN that an operation gives. -/
def fNan : Word := 0x7FC00000
/-- An infinity. -/
def fInf (neg : Bool) : Word := if neg then 0xFF800000 else 0x7F800000

/-- 2^k for an integer k, as a ratio. -/
def two (k : Int) : Rat := if k ≥ 0 then (2 ^ k.toNat : Nat) else 1 / ((2 ^ (-k).toNat : Nat) : Rat)

/-- Value of a finite number. -/
def fVal (x : Word) : Rat :=
  let m : Nat := if fExp x = 0 then fFrac x else 2 ^ 23 + fFrac x
  let e : Int := (max 1 (fExp x) : Nat) - 150
  if fSign x then -((m : Rat) * two e) else (m : Rat) * two e

/-- Magnitude of a ratio. -/
def ratAbs (q : Rat) : Rat := if q < 0 then -q else q

/-- A ratio rounded to an integer, ties to even. -/
def roundEven (q : Rat) : Int :=
  let f := q.floor
  let r := q - f
  if r < 1 / 2 then f else if r > 1 / 2 then f + 1 else if f % 2 = 0 then f else f + 1

/-- Exponent of a positive ratio: the largest k with 2^k at most it. -/
def log2Rat (q : Rat) : Int :=
  let k : Int := (Nat.log2 q.num.natAbs : Int) - (Nat.log2 q.den : Int)
  if q < two k then k - 1 else k

/-- The magnitude q rounded to binary32, with a sign. -/
def fEnc (neg : Bool) (q : Rat) : Word :=
  let s : Nat := if neg then 2 ^ 31 else 0
  if q = 0 then BitVec.ofNat 32 s
  else
    let e := max (log2Rat q) (-126)
    let n := (roundEven (q / two (e - 23))).toNat
    let bits := (e + 126).toNat * 2 ^ 23 + n
    if bits ≥ 0x7F800000 then fInf neg else BitVec.ofNat 32 (s + bits)

/-- A ratio rounded to binary32. -/
def fOf (q : Rat) : Word := if q < 0 then fEnc true (-q) else fEnc false q

/-- Negation. -/
def fNeg (x : Word) : Word := x ^^^ 0x80000000

/-- Sum. -/
def fAdd (a b : Word) : Word :=
  if fIsNan a ∨ fIsNan b then fNan
  else if fIsInf a then (if fIsInf b ∧ fSign a ≠ fSign b then fNan else a)
  else if fIsInf b then b
  else
    let q := fVal a + fVal b
    if q = 0 then (if fSign a && fSign b then 0x80000000 else 0) else fOf q

/-- Difference. -/
def fSub (a b : Word) : Word := fAdd a (fNeg b)

/-- Product. -/
def fMul (a b : Word) : Word :=
  let s := fSign a != fSign b
  if fIsNan a ∨ fIsNan b then fNan
  else if fIsInf a then (if fFinite b && decide (fVal b = 0) then fNan else fInf s)
  else if fIsInf b then (if fVal a = 0 then fNan else fInf s)
  else fEnc s (ratAbs (fVal a * fVal b))

/-- Quotient. -/
def fDiv (a b : Word) : Word :=
  let s := fSign a != fSign b
  if fIsNan a ∨ fIsNan b then fNan
  else if fIsInf a then (if fIsInf b then fNan else fInf s)
  else if fIsInf b then fEnc s 0
  else if fVal b = 0 then (if fVal a = 0 then fNan else fInf s)
  else fEnc s (ratAbs (fVal a / fVal b))

/-- Monotone integer order of binary32 (R459); both zeros map to 0. -/
def fOrd (x : Word) : Int := if fSign x then -((x.toNat % 2 ^ 31 : Nat) : Int) else ((x.toNat % 2 ^ 31 : Nat) : Int)

/-- a < b; false with a NaN. -/
def fLt (a b : Word) : Bool := !fIsNan a && !fIsNan b && decide (fOrd a < fOrd b)
/-- a ≤ b; false with a NaN. -/
def fLe (a b : Word) : Bool := !fIsNan a && !fIsNan b && decide (fOrd a ≤ fOrd b)
/-- The smaller; NaN with a NaN (R233). -/
def fMin (a b : Word) : Word := if fIsNan a ∨ fIsNan b then fNan else if fLt b a then b else a
/-- The larger; NaN with a NaN (R233). -/
def fMax (a b : Word) : Word := if fIsNan a ∨ fIsNan b then fNan else if fLt a b then b else a
/-- Magnitude. -/
def fAbs (x : Word) : Word := x &&& 0x7FFFFFFF
/-- The median of three; NaN with a NaN. -/
def fMid (a b c : Word) : Word := fMax (fMin a b) (fMin (fMax a b) c)

/-- 1.0. -/
def fOne : Word := 0x3F800000
/-- 0.5. -/
def fHalf : Word := 0x3F000000
/-- 2.0. -/
def fTwo : Word := 0x40000000
/-- An integer as binary32. -/
def fInt (n : Int) : Word := fOf (n : Rat)

end Sys2Proof.Machine
end

