-- ==== Sys2Proof/Machine/TwistCfg.lean ====
section
/-!
DEFINITION. The configuration of the twist engine as it stands in an image of the registers: fields of a loop's slot, the
operands a stage uses (R228, R606), the budget of R249 and the checks of R252.
-/

namespace Sys2Proof.Machine

/-- An image of the buffered registers: unlisted ones stand at their reset words. -/
abbrev Img := Tbl Word
/-- A word of an image. -/
def Img.at_ (t : Img) (off : Nat) : Word := Tbl.lookD t off (resetAt off)

/-- Slot of loop k. -/
def loopBase (k : Nat) : Nat := 0x78000 + 512 * k
/-- TW_Lk_HDR. -/
def hdrOf (t : Img) (k : Nat) : Word := t.at_ (loopBase k)
/-- PERIOD. -/
def periodOf (t : Img) (k : Nat) : Nat := fieldOf (hdrOf t k) 0 3
/-- PHASE. -/
def phaseOfLoop (t : Img) (k : Nat) : Nat := fieldOf (hdrOf t k) 3 6
/-- INIT_MODE. -/
def initOf (t : Img) (k : Nat) : Nat := fieldOf (hdrOf t k) 9 2
/-- FB_KIND. -/
def fbKindOf (t : Img) (k : Nat) : Nat := fieldOf (hdrOf t k) 11 2
/-- OUT_STAGE. -/
def outStageOf (t : Img) (k : Nat) : Nat := fieldOf (hdrOf t k) 13 4
/-- STALE_EVALS. -/
def staleEvalsOf (t : Img) (k : Nat) : Nat := fieldOf (hdrOf t k) 17 4
/-- RECOVER_EVALS. -/
def recoverOf (t : Img) (k : Nat) : Nat := fieldOf (hdrOf t k) 21 8
/-- TW_Lk_TAPi_CFG. -/
def tapCfg (t : Img) (k i : Nat) : Word := t.at_ (loopBase k + 0x10 + 8 * i)
/-- TW_Lk_TAPi_K. -/
def tapK (t : Img) (k i : Nat) : Word := t.at_ (loopBase k + 0x14 + 8 * i)
/-- KIND of a tap. -/
def tapKind (t : Img) (k i : Nat) : Nat := fieldOf (tapCfg t k i) 0 4
/-- INDEX of a tap. -/
def tapIndex (t : Img) (k i : Nat) : Nat := fieldOf (tapCfg t k i) 20 12
/-- TW_Lk_SNKj_CFG. -/
def snkCfg (t : Img) (k j : Nat) : Word := t.at_ (loopBase k + 0x50 + 12 * j)
/-- KIND of a sink. -/
def snkKind (t : Img) (k j : Nat) : Nat := fieldOf (snkCfg t k j) 0 4
/-- SRC of a sink. -/
def snkSrc (t : Img) (k j : Nat) : Nat := fieldOf (snkCfg t k j) 4 4
/-- INDEX of a sink. -/
def snkIdx (t : Img) (k j : Nat) : Nat := fieldOf (t.at_ (loopBase k + 0x54 + 12 * j)) 0 12
/-- SCALE of a sink. -/
def snkK (t : Img) (k j : Nat) : Word := t.at_ (loopBase k + 0x58 + 12 * j)
/-- TW_Lk_Ss_OP. -/
def opWord (t : Img) (k s : Nat) : Word := t.at_ (loopBase k + 0x80 + 24 * s)
/-- Opcode of a stage. -/
def opOf (t : Img) (k s : Nat) : Nat := fieldOf (opWord t k s) 0 8
/-- OPT of a stage. -/
def optOf (t : Img) (k s : Nat) : Nat := fieldOf (opWord t k s) 14 2
/-- Operand selectors A, B and C of a stage. -/
def selOf (t : Img) (k s x : Nat) : Nat := fieldOf (opWord t k s) (if x = 0 then 8 else if x = 1 then 16 else 24) 6
/-- Parameter i of a stage; 4 is FB. -/
def parOf (t : Img) (k s i : Nat) : Word := t.at_ (loopBase k + 0x84 + 24 * s + 4 * i)

/-- Stages in use: those before the first NONE (R229). -/
def stagesOf (t : Img) (k : Nat) : Nat := ((List.range 16).takeWhile (fun s => decide (opOf t k s ≠ 0))).length

/-- Is a loop configured? -/
def loopOn (t : Img) (k : Nat) : Bool := decide (opOf t k 0 ≠ 0)

/-- Loops configured in an image, ascending: those whose stage 0 is listed and not NONE. -/
def loopsOf (t : Img) : List Nat :=
  (t.filter (fun e => decide (0x78000 ≤ e.1) && decide (e.1 < 0x98000) && decide ((e.1 - 0x78000) % 512 = 0x80) &&
    decide (fieldOf e.2 0 8 ≠ 0))).map (fun e => (e.1 - 0x78000) / 512)

/-- Slots with some register away from its reset word, ascending. -/
def slotsOf (t : Img) : List Nat :=
  t.foldl (fun l e =>
    if 0x78000 ≤ e.1 ∧ e.1 < 0x98000 then
      let k := (e.1 - 0x78000) / 512
      if l.contains k then l else l ++ [k]
    else l) []

/-- Is a loop due in a turn (R218)? -/
def loopDue (t : Img) (k turn : Nat) : Bool := decide (turn % 2 ^ periodOf t k = phaseOfLoop t k)

/-! ## Operands -/

/-- Does a stage with an opcode use its operand A, B or C (R606)? -/
def opUses (op x : Nat) : Bool :=
  if x = 0 then decide (1 ≤ op) && decide (op ≤ 0x12)
  else if x = 1 then [7, 8, 9, 10, 11, 12, 14, 15].contains op
  else [7, 8, 10, 11, 12, 15, 17, 18].contains op

/-- Must that operand be selected (R606)? -/
def opNeeds (op x : Nat) : Bool :=
  if x = 0 then [1, 2, 3, 4, 5, 6, 7, 9, 12, 13, 14, 15, 16, 17, 18].contains op
  else if x = 1 then [7, 12, 14, 15].contains op
  else [12, 15, 17, 18].contains op

/-- Is an operand used and selected? -/
def opHas (t : Img) (k s x : Nat) : Bool := opUses (opOf t k s) x && decide (selOf t k s x ≠ 0x3F)

/-- Does stage j select stage s by an operand it uses? -/
def selects (t : Img) (k j s : Nat) : Bool := [0, 1, 2].any (fun x => opHas t k j x && decide (selOf t k j x = 0x10 + s))

/-- Stages downstream of stage s, itself first (R235). -/
def downstream (t : Img) (k s : Nat) : List Nat :=
  (List.range (stagesOf t k)).foldl (fun l j => if decide (s < j) && l.any (fun i => selects t k j i) then l ++ [j] else l) [s]

/-- Loops whose same-turn output loop k reads: taps of kind LOOP on lower loops (R226). -/
def readsOf (t : Img) (k : Nat) : List Nat :=
  ((List.range 8).filter (fun i => decide (tapKind t k i = 8) && decide (tapIndex t k i % 256 < k))).map
    (fun i => tapIndex t k i % 256)

/-! ## Budget (R249) -/

/-- Longest path over due loops, each weighted by its stages. The list holds (loop, path ending there). -/
def longestPath (t : Img) (due : List Nat) : Nat :=
  let l := due.foldl (fun (acc : List (Nat × Nat)) k =>
    let rs := readsOf t k
    let best := (acc.filter (fun e => rs.contains e.1)).foldl (fun m e => max m e.2) 0
    acc ++ [(k, best + stagesOf t k)]) []
  l.foldl (fun m e => max m e.2) 0

/-- Need of R249 in cycles for one residue of the turn number. -/
def needAt (t : Img) (lanes x : Nat) : Nat :=
  let due := (loopsOf t).filter (fun k => loopDue t k x)
  let s := (due.map (stagesOf t)).sum
  ceilDiv (s * 48) lanes + 48 * longestPath t due

/-- NEED_CYC: the largest need over x. -/
def needOf (t : Img) (lanes : Nat) : Nat := (List.range 64).foldl (fun m x => max m (needAt t lanes x)) 0

/-- The window of R249 in cycles, with r and w of R59 from the image; an exchange reserve longer than r − w leaves less than none. -/
def windowOf (t : Img) (member : Bool) : Int :=
  let cap := fieldOf (t.at_ 0x10008) 0 14
  let w := cap + (if member then fieldOf (t.at_ 0x10008) 16 8 else 10)
  let r := fieldOf (t.at_ 0x10004) 0 14 * fieldOf (t.at_ 0x1000C) 0 10 / 1000
  ((r : Int) - w - (if member then fieldOf (t.at_ 0x70000) 0 8 else 0 : Nat)) * 600

/-- Does the budget fit? -/
def budgetOk (t : Img) (member : Bool) (lanes : Nat) : Bool :=
  if lanes = 0 then (loopsOf t).isEmpty else decide ((needOf t lanes : Int) ≤ windowOf t member)

/-! ## Checks at commit (R252) -/

/-- Reasons of Table 7.8. -/
def twBudget : Nat := 1
/-- ENCODING. -/
def twEncoding : Nat := 2
/-- CHAIN. -/
def twChain : Nat := 3
/-- SINK_CONFLICT. -/
def twSink : Nat := 4
/-- TABLE. -/
def twTable : Nat := 5

/-- The first refusal in a list of (failed, reason). -/
def firstBad (l : List (Bool × Nat)) : Option Nat :=
  match l.find? (fun e => e.1) with
  | some e => some e.2
  | none => none

/-- Points of a table. -/
def tblX (t : Img) (n i : Nat) : Word := t.at_ (0x74000 + 256 * n + 8 * i)
/-- Ordinates of a table. -/
def tblY (t : Img) (n i : Nat) : Word := t.at_ (0x74004 + 256 * n + 8 * i)

/-- Are the first m points of a table strictly ascending? -/
def ascending (t : Img) (n m : Nat) : Bool := (List.range (m - 1)).all (fun i => fLt (tblX t n i) (tblX t n (i + 1)))

/-- Is a number not negative? -/
def fNonneg (x : Word) : Bool := fLe 0 x
/-- Is a finite number an integer? -/
def fWhole (x : Word) : Bool := fFinite x && decide ((fVal x).den = 1)

/-- Limits of a stage's parameters (Table 7.4, R233): P0 to P3 and FB as given. -/
def parsOk (op opt : Nat) (p : Nat → Word) : Bool :=
  [0, 1, 2, 3, 4].all (fun i => fFinite (p i)) &&
  (if op = 2 then fNonneg (p 1)
   else if op = 3 then fNonneg (p 0)
   else if op = 4 ∨ op = 5 then fNonneg (p 0) && fNonneg (p 1)
   else if op = 6 then fLe (p 0) (p 1)
   else if op = 7 then fNonneg (p 1) && fNonneg (p 2) && fNonneg (p 3)
   else if op = 12 then decide (opt ≠ 3)
   else if op = 15 then fWhole (p 0)
   else if op = 16 then fNonneg (p 1) && fWhole (p 2) && fLe fOne (p 2) && decide (fVal (p 2) ≤ 65535)
   else if op = 18 then fLt 0 (p 0)
   else true)

/-- Check of one operand of a stage: a refused selector, a required one missing, a tap of kind NONE, a stage not below. -/
def operandBad (t : Img) (k s x : Nat) : Option Nat :=
  let op := opOf t k s
  let v := selOf t k s x
  if !opUses op x then none
  else if v = 0x3F then (if opNeeds op x then some twEncoding else none)
  else if v < 8 then (if tapKind t k v = 0 then some twEncoding else none)
  else if 0x10 ≤ v ∧ v ≤ 0x1F then (if v - 0x10 < s then none else some twChain)
  else if v = 0x20 ∨ v = 0x21 then none
  else some twEncoding

/-- Check of one stage. -/
def stageBad (t : Img) (k s : Nat) : Option Nat :=
  let op := opOf t k s
  if op = 0 then (if [0, 1, 2, 3, 4].all (fun i => fFinite (parOf t k s i)) then none else some twEncoding)
  else if op > 0x12 then some twEncoding
  else if s > 0 ∧ stagesOf t k < s then some twChain
  else if parsOk op (optOf t k s) (parOf t k s) = false then some twEncoding
  else
    match [0, 1, 2].findSome? (fun x => operandBad t k s x) with
    | some r => some r
    | none =>
      if (op = 10 ∨ op = 11) ∧ ([0, 1, 2].filter (fun x => opHas t k s x)).length < 2 then some twEncoding
      else if op = 13 then
        let m := selOf t k s 2
        if m < 2 ∨ m > 32 ∨ ascending t (selOf t k s 1) m = false then some twTable else none
      else none

/-- Check of one tap. -/
def tapBad (t : Img) (k i : Nat) : Bool :=
  let kd := tapKind t k i
  decide (kd > 9) || ((decide (kd = 2) || decide (kd = 4)) && decide (fieldOf (tapCfg t k i) 5 5 ≠ 31)) ||
  (decide (kd = 6) && decide (tapIndex t k i / 16 % 8 > 4))

/-- Check of one sink. The sinks of a slot that a commit leaves unconfigured publish nothing more, and their SRC is free (R240). -/
def sinkBad (t : Img) (k j : Nat) : Bool :=
  let kd := snkKind t k j
  decide (kd > 5) ||
  (decide (kd ≠ 0) &&
    ((loopOn t k && decide (snkSrc t k j ≥ stagesOf t k)) || (decide (kd = 2) && decide (fieldOf (snkCfg t k j) 9 5 ≠ 31)) ||
     ((decide (kd = 1) || decide (kd = 3)) && decide (fOrd (snkK t k j) = 0)) ||
     (decide (kd = 5) && decide (snkIdx t k j > 175))))

/-- Bits of a stream that a sink writes: first bit and number. -/
def snkBits (t : Img) (k j : Nat) : Nat × Nat := (fieldOf (snkCfg t k j) 14 9, fieldOf (snkCfg t k j) 9 5 + 1)

/-- Do two sinks conflict (R239)? -/
def sinksClash (t : Img) (k j k' j' : Nat) : Bool :=
  let a := snkKind t k j
  let b := snkKind t k' j'
  let st := fun (x : Nat) => decide (x = 1) || decide (x = 2)
  let p := snkBits t k j
  let q := snkBits t k' j'
  (st a && st b && decide (snkIdx t k j = snkIdx t k' j') && decide (p.1 < q.1 + q.2) && decide (q.1 < p.1 + p.2)) ||
  (decide (a = 3) && decide (b = 3) && decide (snkIdx t k j % 8 = snkIdx t k' j' % 8))

/-- Does a loop's sink conflict with another one, in its slot or in another? -/
def loopClash (t : Img) (k : Nat) : Bool :=
  (List.range 4).any (fun j => (slotsOf t).any (fun k' => (List.range 4).any (fun j' =>
    decide (k' ≠ k ∨ j' ≠ j) && sinksClash t k j k' j')))

/-- Checks of a loop's header. -/
def headBad (t : Img) (k : Nat) : Option Nat :=
  let on := loopOn t k
  firstBad [
    (decide (periodOf t k = 7) || decide (initOf t k = 3) || decide (fbKindOf t k = 3) || decide (staleEvalsOf t k = 0) ||
      decide (phaseOfLoop t k ≥ 2 ^ periodOf t k), twEncoding),
    (!fFinite (t.at_ (loopBase k + 4)) || !fFinite (t.at_ (loopBase k + 8)) || !fFinite (t.at_ (loopBase k + 12)), twEncoding),
    (on && decide (fbKindOf t k = 1) && !fLt 0 (t.at_ (loopBase k + 8)), twEncoding),
    (on && decide (outStageOf t k ≥ stagesOf t k), twChain)]

/-- The first failure of a loop: (reason, stage). -/
def loopBad (t : Img) (k : Nat) : Option (Nat × Nat) :=
  match headBad t k with
  | some r => some (r, 0)
  | none =>
    if (List.range 8).any (fun i => tapBad t k i) then some (twEncoding, 0)
    else
      match (List.range 16).findSome? (fun s => (stageBad t k s).map (fun r => (r, s))) with
      | some x => some x
      | none => if (List.range 4).any (fun j => sinkBad t k j) then some (twEncoding, 0) else none

/-- The first failure of a slot: of its loop's checks, then a conflict of its sinks (R239). -/
def slotBad (t : Img) (k : Nat) : Option (Nat × Nat) :=
  match loopBad t k with
  | some x => some x
  | none => if loopClash t k then some (twSink, 0) else none

/-- Are the registers of group TWIST outside the loops within their limits? -/
def twRegsOk (t : Img) : Bool :=
  decide (10 ≤ fieldOf (t.at_ 0x70000) 0 8) && decide (fieldOf (t.at_ 0x70000) 0 8 ≤ 200) &&
  t.all (fun e =>
    (if 0x72000 ≤ e.1 ∧ e.1 < 0x72400 then decide (fieldOf e.2 0 16 ≠ 0) else true) &&
    (if 0x74000 ≤ e.1 ∧ e.1 < 0x78000 then fFinite e.2 else true))

/-- The first failing loop, reason and stage of a commit of group TWIST (R252); none when every check passes. -/
def twistBad (t : Img) (member : Bool) (lanes : Nat) : Option (Nat × Nat × Nat) :=
  if twRegsOk t = false then some (0, twEncoding, 0)
  else
    match (slotsOf t).findSome? (fun k => (slotBad t k).map (fun r => (k, r.1, r.2))) with
    | some x => some x
    | none => if budgetOk t member lanes then none else some (0, twBudget, 0)

end Sys2Proof.Machine
end

