-- ==== Sys2Proof/Machine/TwistEval.lean ====
section
/-!
DEFINITION. Stages of a loop (Table 7.4, R230 to R236): one evaluation of a stage and of a chain. Products and sums are
rounded one operation at a time, from left to right as the formulas stand.
-/

namespace Sys2Proof.Machine

/-- A value with its stale flag. -/
abbrev Val := Word × Bool

/-- What a stage's evaluation is given: parameters and FB, Δt, the operands that are used and selected, the history, and
for a PID stage the mode, the track value when C is not selected, and the flags of R235. -/
structure StageIn where
  op : Nat
  opt : Nat
  p : Nat → Word
  dt : Word
  a : Option Val
  b : Option Val
  c : Option Val
  st : StageSt
  auto : Bool
  track : Word
  comp : Bool
  hi : Bool
  lo : Bool

/-- Value of an operand, with the value that its absence counts as. -/
def valOr (x : Option Val) (d : Word) : Word := match x with | some v => v.1 | none => d
/-- Is an operand stale? -/
def staleOf (x : Option Val) : Bool := match x with | some v => v.2 | none => false

/-- y' of a stage: its last result, or a without history. -/
def StageIn.y' (i : StageIn) : Word := if i.st.has then i.st.y else valOr i.a 0
/-- a' of a stage. -/
def StageIn.a' (i : StageIn) : Word := if i.st.has then i.st.a else valOr i.a 0

/-- A step towards a target limited to lo and hi: y' + min(max(d, lo), hi). -/
def slew (y d lo hi : Word) : Word := fAdd y (fMin (fMax d lo) hi)

/-- Value of MID3 over the fresh operands (Table 7.4). -/
def mid3 (opt : Nat) (l : List Word) (y : Word) : Word :=
  match l with
  | [a, b, c] => fMid a b c
  | [a, b] => if opt = 0 then fMin a b else if opt = 1 then fMax a b else fDiv (fAdd a b) fTwo
  | [a] => a
  | _ => y

/-- Value of a TABLE between its points: the first interval that holds a. -/
def tableAt : List (Word × Word) → Word → Word
  | (x, y) :: (x', y') :: l, a =>
    if fLe x a && fLt a x' then fAdd y (fDiv (fMul (fSub a x) (fSub y' y)) (fSub x' x))
    else tableAt ((x', y') :: l) a
  | [(_, y)], _ => y
  | [], _ => fNan

/-- Value of a TABLE stage. -/
def tableVal (pts : List (Word × Word)) (a : Word) : Word :=
  match pts with
  | [] => fNan
  | (x, y) :: _ => if fIsNan a then fNan else if fLe a x then y else tableAt pts a

/-- Is the anti-windup of a PID stage acting on a step di (R235)? -/
def StageIn.frozen (i : StageIn) (di : Word) : Bool :=
  let up := if i.opt % 2 = 0 then fLt 0 di else fLt di 0
  let down := if i.opt % 2 = 0 then fLt di 0 else fLt 0 di
  i.comp || (if i.opt ≥ 2 then i.hi || i.lo else (i.hi && up) || (i.lo && down))

/-- A PID stage (R234): result and the stage's new I and D. -/
def StageIn.pid (i : StageIn) : Word × Word × Word :=
  let a := valOr i.a 0
  let b := valOr i.b 0
  let bp := if i.st.has then i.st.b else b
  let dp := if i.st.has then i.st.d else 0
  let e := fSub a b
  let p := fMul (i.p 0) e
  let d := fDiv (fSub (fMul (i.p 3) dp) (fMul (fMul (i.p 0) (i.p 2)) (fSub b bp))) (fAdd (i.p 3) i.dt)
  let tr := valOr i.c i.track
  let raw := if fLt 0 (i.p 1) then fDiv (fMul (fMul (i.p 0) i.dt) e) (i.p 1) else 0
  let di := if !i.st.has || i.frozen raw then 0 else raw
  let tracked := fSub (fSub tr p) d
  if i.auto then
    if i.st.has then
      let s := fAdd i.st.i di
      (fAdd (fAdd p s) d, s, d)
    else (tr, tracked, d)
  else (tr, tracked, d)

/-- A TRIP_CMP stage with a fresh operand: result, count, latch (Table 7.4, R231). -/
def StageIn.trip (i : StageIn) (a : Word) : Word × Nat × Bool :=
  let low := decide (i.opt % 2 = 1)
  let latches := decide (i.opt ≥ 2)
  let was := (i.st.has && decide (i.st.y = fOne)) || i.st.latch
  let cond := if low then fLt a (i.p 0) else fLt (i.p 0) a
  let back := if low then fLt (fAdd (i.p 0) (i.p 1)) a else fLt a (fSub (i.p 0) (i.p 1))
  let cnt := if cond then min 65535 ((if i.st.has then i.st.cnt else 0) + 1) else 0
  if fIsNan a then (fNan, (if i.st.has then i.st.cnt else 0), i.st.latch)
  else if was then
    if i.st.latch && latches then (fOne, cnt, true)
    else if back then (0, cnt, false)
    else (fOne, cnt, latches)
  else if cond && decide ((cnt : Rat) ≥ fVal (i.p 2)) then (fOne, cnt, latches)
  else (0, cnt, false)

/-- The operands that are selected. -/
def StageIn.sel (i : StageIn) : List Val := [i.a, i.b, i.c].filterMap id

/-- Result of a stage by Table 7.4, before R233, for the stages other than PID and TRIP_CMP. -/
def StageIn.calc (i : StageIn) (pts : List (Word × Word)) : Word :=
  let a := valOr i.a 0
  let y := i.y'
  let p := i.p
  if i.op = 1 then fAdd (fMul (p 0) a) (p 1)
  else if i.op = 2 then
    let e := fSub a (p 0)
    if fIsNan e then fNan
    else if fLe (fAbs e) (p 1) then 0
    else fSub e (fMul (p 1) (if fLt e 0 then fNeg fOne else fOne))
  else if i.op = 3 then fAdd y (fMul (fDiv i.dt (fAdd (p 0) i.dt)) (fSub a y))
  else if i.op = 4 then
    let t0 := fMul fTwo (p 0)
    let t1 := fMul fTwo (p 1)
    let n := fAdd (fMul (fAdd i.dt t0) a) (fMul (fSub i.dt t0) i.a')
    fDiv (fSub (fMul (p 2) n) (fMul (fSub i.dt t1) y)) (fAdd i.dt t1)
  else if i.op = 5 then slew y (fSub a y) (fMul (fNeg (p 1)) i.dt) (fMul (p 0) i.dt)
  else if i.op = 6 then fMin (fMax a (p 0)) (p 1)
  else if i.op = 8 then
    fAdd (fAdd (fAdd (fMul (p 0) a) (fMul (p 1) (valOr i.b 0))) (fMul (p 2) (valOr i.c 0))) (p 3)
  else if i.op = 9 then fMul (fMul (p 0) a) (valOr i.b fOne)
  else if i.op = 10 then (match i.sel with | x :: l => l.foldl (fun m v => fMin m v.1) x.1 | [] => fNan)
  else if i.op = 11 then (match i.sel with | x :: l => l.foldl (fun m v => fMax m v.1) x.1 | [] => fNan)
  else if i.op = 12 then mid3 i.opt ((i.sel.filter (fun v => !v.2)).map (·.1)) y
  else if i.op = 13 then tableVal pts a
  else if i.op = 14 then (if staleOf i.a then valOr i.b 0 else a)
  else if i.op = 15 then
    let c := valOr i.c 0
    if !staleOf i.c && fFinite c && decide ((roundEven (fVal c) : Rat) = fVal (p 0)) then a else valOr i.b 0
  else if i.op = 17 then (if staleOf i.c || fLe fHalf (valOr i.c 0) || staleOf i.a then y else a)
  else if i.op = 18 then
    if staleOf i.c || fLe fHalf (valOr i.c 0) then
      slew y (fSub (p 1) y) (fMul (fNeg (p 0)) i.dt) (fMul (p 0) i.dt)
    else a
  else fNan

/-- Staleness of a stage's output (R232, Table 7.4). -/
def StageIn.outStale (i : StageIn) : Bool :=
  if i.op = 12 then i.sel.all (fun v => v.2)
  else if i.op = 14 then staleOf i.a && staleOf i.b
  else if i.op = 15 then staleOf i.a || staleOf i.b
  else if i.op = 16 then false
  else if i.op = 17 ∨ i.op = 18 then staleOf i.a
  else i.sel.any (fun v => v.2)

/-- One evaluation of a stage: its value with its stale flag, its state after, and whether R233 replaced the result. -/
def StageIn.eval (i : StageIn) (pts : List (Word × Word)) : Val × StageSt × Bool :=
  let a := valOr i.a 0
  let b := valOr i.b 0
  let fb := i.p 4
  if i.op = 16 ∧ staleOf i.a = true then
    ((fb, false), { i.st with has := true, y := if (i.st.has && decide (i.st.y = fOne)) || i.st.latch then fOne else 0,
                              cnt := if i.st.has then i.st.cnt else 0 }, false)
  else
    let pd := i.pid
    let tp := i.trip a
    let y := if i.op = 7 then pd.1 else if i.op = 16 then tp.1 else i.calc pts
    let base : StageSt := { i.st with has := true, a := a, b := b, hi := false, lo := false }
    if fFinite y then
      let d := fSub a i.y'
      let hi := if i.op = 5 then fLt (fMul (i.p 0) i.dt) d else if i.op = 6 then fLt (i.p 1) a else false
      let lo := if i.op = 5 then fLt d (fMul (fNeg (i.p 1)) i.dt) else if i.op = 6 then fLt a (i.p 0) else false
      ((y, i.outStale), { base with
        y := y, i := if i.op = 7 then pd.2.1 else base.i, d := if i.op = 7 then pd.2.2 else base.d
        cnt := if i.op = 16 then tp.2.1 else base.cnt, latch := if i.op = 16 then tp.2.2 else base.latch
        hi := hi, lo := lo }, false)
    else
      ((fb, i.outStale), { base with
        y := fb, i := if i.op = 7 then fb else base.i, d := if i.op = 7 then 0 else base.d }, true)

/-- What an evaluation of a loop is given beside the image: Δt, the taps, the stage states, the mode, the track value, and
the flags that limiters downstream of a stage showed (COMP, SAT_HI, SAT_LO). -/
structure LoopIn_ where
  dt : Word
  taps : List Val
  stages : Tbl StageSt
  auto : Bool
  track : Word
  flags : Nat → Bool × Bool × Bool

/-- The value that an operand selector names (Table 7.3). -/
def operand (taps vals : List Val) (v : Nat) : Val :=
  if v < 8 then taps.getD v (0, true)
  else if 0x10 ≤ v ∧ v ≤ 0x1F then vals.getD (v - 0x10) (0, true)
  else if v = 0x21 then (fOne, false)
  else (0, false)

/-- Operand x of a stage, where it is used and selected. -/
def operandOf (t : Img) (k s x : Nat) (taps vals : List Val) : Option Val :=
  if opHas t k s x then some (operand taps vals (selOf t k s x)) else none

/-- Points of the table that a TABLE stage names. -/
def tablePts (t : Img) (k s : Nat) : List (Word × Word) :=
  if opOf t k s = 13 then
    (List.range (selOf t k s 2)).map (fun i => (tblX t (selOf t k s 1) i, tblY t (selOf t k s 1) i))
  else []

/-- One evaluation of a loop: its stages in order. -/
def evalLoop (t : Img) (k : Nat) (x : LoopIn_) : LoopEval :=
  (List.range (stagesOf t k)).foldl (fun (e : LoopEval) s =>
    let fl := x.flags s
    let i : StageIn := {
      op := opOf t k s, opt := optOf t k s, p := parOf t k s, dt := x.dt
      a := operandOf t k s 0 x.taps e.vals, b := operandOf t k s 1 x.taps e.vals, c := operandOf t k s 2 x.taps e.vals
      st := Tbl.lookD x.stages s {}, auto := x.auto, track := x.track, comp := fl.1, hi := fl.2.1, lo := fl.2.2 }
    let r := i.eval (tablePts t k s)
    { stages := Tbl.put e.stages s {} r.2.1, vals := e.vals ++ [r.1], replaced := e.replaced + b01 r.2.2 })
    { stages := x.stages, vals := [], replaced := 0 }

end Sys2Proof.Machine
end

