-- ==== Sys2Proof/Machine/Twist.lean ====
section
/-!
DEFINITION. The twist engine (chapter 7): taps, the evaluation of due loops, the release of a loop with its fallback and
sinks, modes and parameters, lanes.
-/

namespace Sys2Proof.Machine

/-- A loop. -/
def State.loop (s : State) (k : Nat) : Loop := Tbl.lookD s.tw.loops k {}
/-- Replace a loop. -/
def State.setLoop (s : State) (k : Nat) (v : Loop) : State :=
  { s with tw := { s.tw with loops := Tbl.put s.tw.loops k {} v } }
/-- Change a loop. -/
def State.modLoop (s : State) (k : Nat) (f : Loop → Loop) : State := s.setLoop k (f (s.loop k))
/-- A loop input. -/
def State.loopIn (s : State) (n : Nat) : LoopIn := Tbl.lookD s.lio.ins n {}
/-- Replace a loop input. -/
def State.setLoopIn (s : State) (n : Nat) (v : LoopIn) : State :=
  { s with lio := { s.lio with ins := Tbl.put s.lio.ins n {} v } }
/-- A loop output. -/
def State.loopOut (s : State) (n : Nat) : LoopOut := Tbl.lookD s.lio.outs n {}
/-- Replace a loop output. -/
def State.setLoopOut (s : State) (n : Nat) (v : LoopOut) : State :=
  { s with lio := { s.lio with outs := Tbl.put s.lio.outs n {} v } }
/-- Change a loop output. -/
def State.modLoopOut (s : State) (n : Nat) (f : LoopOut → LoopOut) : State := s.setLoopOut n (f (s.loopOut n))

/-- Sample interval of a loop, rounded to binary32 (R219). -/
def State.loopDt (s : State) (k : Nat) : Word := fOf (((2 ^ periodOf s.regs.live k * s.lenUs : Nat) : Rat) / 1000000)

/-! ## Taps -/

/-- An integer field of a payload as binary32 (R223); none where it reaches beyond the payload. -/
def fieldVal (l : List Byte) (cfg : Word) (isInt : Bool) : Option Word :=
  let off := fieldOf cfg 10 9
  let w := fieldOf cfg 5 5 + 1
  if off + w ≤ 8 * l.length then
    let n := leNat l / 2 ^ off % 2 ^ w
    some (if !isInt then BitVec.ofNat 32 n else if bitOf cfg 4 then fInt (signedOf w n) else fInt (n : Int))
  else none

/-- Classes of a failed input (R257). -/
def classFailed (c : Nat) : Bool := [0, 4, 5, 6].contains c

/-- The four items of the line-watch summary of a channel (Table 6.3). -/
def State.lineItems (s : State) (ch : Nat) : List Int :=
  let v := s.line ch
  let worst := v.sig.foldl (fun (m : Rat) e => match e.2.excess with | some x => max m x | none => m) 0
  [(v.rShown : Int), (v.flags : Int), (v.errs : Int), min 255 (wholeOr .line worst)]

/-- Quantity of a FEED tap (Table 7.1) in A, V or W. -/
def feedQuantity (m : FeedMeas) (q : Nat) : Rat :=
  if q = 0 then (m.i : Rat) / 1000 else if q = 1 then (m.vout : Rat) / 1000 else if q = 2 then (m.va : Rat) / 1000
  else if q = 3 then (m.vb : Rat) / 1000 else ((m.i * (m.vout : Int) : Int) : Rat) / 1000000

/-- The output a LOOP tap reads, with its staleness (R224): `cur` gives the outputs of this turn (R226). -/
def State.loopOutput (s : State) (cur : Nat → Option Val) (k j : Nat) : Val :=
  match (if j < k then cur j else none) with
  | some v => (v.1, v.2 || decide ((s.loop j).mode = .off))
  | none => ((s.loop j).out, (s.loop j).outStale || decide ((s.loop j).mode = .off))

/-- What tap i of loop k reads: the quantity, none where none is read now, and the stale flag (Tables 7.1, 7.2). -/
def State.tapRead (s : State) (cur : Nat → Option Val) (k i : Nat) : Option Word × Bool :=
  let t := s.regs.live
  let cfg := tapCfg t k i
  let kd := tapKind t k i
  let ix := tapIndex t k i
  if kd = 1 ∨ kd = 2 then
    match s.stream ix with
    | none => (none, true)
    | some x =>
      if x.cfg.kind = 2 ∧ x.st = .live then
        match fieldVal (fitBytes x.cfg.len.toNat x.snap) cfg (decide (kd = 1)) with
        | some w => (some w, x.stale)
        | none => (none, true)
      else (none, true)
  else if kd = 3 ∨ kd = 4 then
    let v := s.twSlot (ix % 256)
    match v.snap with
    | none => (none, true)
    | some f =>
      match fieldVal f.data cfg (decide (kd = 3)) with
      | some w => (some w, decide (v.age ≥ s.fld (0x72000 + 4 * (ix % 256)) 0 16))
      | none => (none, true)
  else if kd = 5 then
    let v := s.loopIn (ix % 16)
    (some v.reading, v.missing || classFailed v.cls)
  else if kd = 6 then
    (some (fOf (feedQuantity (Tbl.lookD s.tw.feeds (ix % 8) {}) (ix / 16 % 8))), s.tw.feedMissing)
  else if kd = 7 then
    (some (fInt ((Tbl.lookD s.tw.lines (ix % 16) []).getD (ix / 16 % 4) 0)), !s.lineOn (ix % 16))
  else if kd = 8 then
    let v := s.loopOutput cur k (ix % 256)
    (some v.1, v.2)
  else (none, false)

/-- A tap's value and stale flag, and the quantity it keeps. -/
def State.tapVal (s : State) (cur : Nat → Option Val) (k i : Nat) : Val × Word :=
  let t := s.regs.live
  if tapKind t k i = 9 then ((tapK t k i, false), 0)
  else
    let r := s.tapRead cur k i
    let q := r.1.getD (Tbl.lookD (s.loop k).taps i 0)
    ((fMul q (tapK t k i), r.2), q)

/-- Key of an agreed tap. -/
def tapKey (k i : Nat) : Nat := 8 * k + i

/-- Taps with AGREE 1, in ascending loop and tap order. -/
def agreeTaps (t : Img) : List (Nat × Nat) :=
  (loopsOf t).flatMap (fun k => ((List.range 8).filter (fun i => decide (tapKind t k i ≠ 0) && bitOf (tapCfg t k i) 19)).map
    (fun i => (k, i)))

/-- The eight taps of a loop as its stages see them: agreed ones on a ply member (R227). -/
def State.taps (s : State) (cur : Nat → Option Val) (k : Nat) : List Val :=
  (List.range 8).map (fun i =>
    if s.plyMember && bitOf (tapCfg s.regs.live k i) 19 then Tbl.lookD s.pl.agreed (tapKey k i) (0, true)
    else (s.tapVal cur k i).1)

/-- Keep the quantities that a loop's taps have read. -/
def State.keepTaps (s : State) (cur : Nat → Option Val) (k : Nat) (l : List Nat) : State :=
  s.modLoop k (fun v => { v with taps := l.foldl (fun a i => Tbl.put a i 0 (s.tapVal cur k i).2) v.taps })

/-! ## The release of a loop -/

/-- FALLBACK output of a loop (Table 7.7), one release point on. -/
def State.fbOut (s : State) (k : Nat) (v : Loop) : Word :=
  let t := s.regs.live
  let safe := Img.at_ t (loopBase k + 4)
  let step := fMul (Img.at_ t (loopBase k + 8)) (s.loopDt k)
  if fbKindOf t k = 1 then (if v.due then slew v.out (fSub safe v.out) (fNeg step) step else v.out)
  else if fbKindOf t k = 2 then safe
  else v.out

/-- Value of a stage in a completed evaluation. -/
def LoopEval.val (e : LoopEval) (i : Nat) : Val := e.vals.getD i (0, true)

/-- Counts and mode of a loop at its release point (R243, R245, R248), without what the ply orders: the loop after, and
whether it has just left FALLBACK. A loop whose evaluation has not completed is abandoned. -/
def State.loopStep (s : State) (k : Nat) : Loop × Bool :=
  let t := s.regs.live
  let v := s.loop k
  match v.eval with
  | some e =>
    let st := (e.val (outStageOf t k)).2
    let v1 : Loop := { v with
      stages := e.stages, stale := st, replaced := decide (e.replaced > 0), ovrRun := 0
      staleRun := if st then v.staleRun + 1 else 0
      freshRun := if v.mode = .fallback ∧ v.cause ≠ 3 then (if st then 0 else v.freshRun + 1) else v.freshRun }
    if v.mode = .auto ∧ v1.staleRun ≥ staleEvalsOf t k ∧ st = true then
      ({ v1 with mode := .fallback, cause := 1, freshRun := 0 }, false)
    else if v.mode = .fallback ∧ v.cause ≠ 3 ∧ recoverOf t k ≠ 0 ∧ v1.freshRun ≥ recoverOf t k then
      ({ v1 with mode := .auto, cause := 0, freshRun := 0 }, true)
    else (v1, false)
  | none =>
    if v.due then
      let n := min 3 (v.ovrRun + 1)
      let v1 : Loop := { v with ovrRun := n, freshRun := if v.cause = 3 then v.freshRun else 0 }
      if v.mode = .auto ∧ n = 3 then ({ v1 with mode := .fallback, cause := 2, freshRun := 0 }, false) else (v1, false)
    else (v, false)

/-- The output that a loop publishes at this turn's release point with its staleness, as far as it is known (R226). -/
def State.soonOut (s : State) (k : Nat) : Option Val :=
  let t := s.regs.live
  let v := s.loop k
  match v.eval with
  | none => none
  | some e =>
    let v1 := (s.loopStep k).1
    if v1.mode = .auto then some (e.val (outStageOf t k))
    else if v1.mode = .manual then some (v1.man, false)
    else if v1.mode = .fallback then some (s.fbOut k v1, false)
    else none

/-- Write a field of n bits at a bit offset into a run of bytes. -/
def putBits (l : List Byte) (off w n : Nat) : List Byte :=
  let old := leNat l
  leBytes l.length (old - old / 2 ^ off % 2 ^ w * 2 ^ off + n % 2 ^ w * 2 ^ off)

/-- An integer limited to a field's range: the number, and whether an upper or a lower limit acts. -/
def limitField (w : Nat) (signed : Bool) (n : Int) : Int × Bool × Bool :=
  let hi : Int := if signed then 2 ^ (w - 1) - 1 else 2 ^ w - 1
  let lo : Int := if signed then -(2 ^ (w - 1)) else 0
  if n > hi then (hi, true, false) else if n < lo then (lo, false, true) else (n, false, false)

/-- y / SCALE as a number for a STREAM_INT field; an infinite quotient is beyond every range, a NaN gives a free value. -/
def sinkInt (q : Word) : Int :=
  if fIsNan q then Config.nanField q else if fFinite q then roundEven (fVal q) else if fSign q then -(2 ^ 200) else 2 ^ 200

/-- Bytes of a stream's image that a sink may write: the Bornov tail is left out (R238, R543). -/
def Stream.sinkLen (x : Stream) : Nat := if x.cfg.auth then x.cfg.len.toNat - 6 else x.cfg.len.toNat

/-- A sink writes its field into the image of its stream (R237, R238); a sink that cannot is skipped and counted. -/
def State.sinkStream (s : State) (k j : Nat) (y : Word) : State × Bool × Bool :=
  let t := s.regs.live
  let cfg := snkCfg t k j
  let b := snkBits t k j
  let n := snkIdx t k j
  let lim : Int × Bool × Bool :=
    if snkKind t k j = 1 then limitField b.2 (bitOf cfg 8) (sinkInt (fDiv y (snkK t k j))) else ((y.toNat : Int), false, false)
  match s.stream n with
  | none => (s.count (4096 + 4 * k + 3), lim.2)
  | some x =>
    if decide (x.st = .live) && x.isTx && decide (x.cfg.source = 1) && decide (b.1 + b.2 ≤ 8 * x.sinkLen) then
      (s.setStream n { x with image := putBits (fitBytes 64 x.image) b.1 b.2 (lim.1 % 2 ^ b.2).toNat }, lim.2)
    else (s.count (4096 + 4 * k + 3), lim.2)

/-- Command of an output in mA for a value (R237, R262): y × SCALE limited to MIN_UA to MAX_UA, and the flags. -/
def State.outCmd (s : State) (k j : Nat) (y : Word) : Word × Bool × Bool :=
  let t := s.regs.live
  let r := 0xA1004 + 64 * (snkIdx t k j % 8)
  let v := fMul y (snkK t k j)
  let hi := fOf ((s.fld r 16 16 : Rat) / 1000)
  let lo := fOf ((s.fld r 0 16 : Rat) / 1000)
  if fIsNan v then (Config.nanCommand v, false, false) else if fLt hi v then (hi, true, false) else if fLt v lo then (lo, false, true) else (v, false, false)

/-- A sink publishes a value (R237, Table 7.5). -/
def State.sinkPub (s : State) (k j : Nat) (y : Word) : State :=
  let t := s.regs.live
  let kd := snkKind t k j
  let old := Tbl.lookD (s.loop k).sinks j {}
  let r : State × Bool × Bool :=
    if kd = 1 ∨ kd = 2 then s.sinkStream k j y
    else if kd = 3 then (s, (s.outCmd k j y).2)
    else if kd = 5 ∧ fLe fHalf y = true ∧ (match old.pub with | none => true | some o => fLt o fHalf) = true then
      (s.raise (0x250 + snkIdx t k j), false, false)
    else (s, false, false)
  r.1.modLoop k (fun v => { v with
    sinks := Tbl.put v.sinks j {} { (Tbl.lookD v.sinks j {}) with pub := some y, hi := r.2.1, lo := r.2.2 } })

/-- A loop enters FALLBACK: slub, source and count (R243). -/
def State.fellBack (s : State) (k cause : Nat) : State :=
  ((s.count (4096 + 4 * k + 2)).slub 0x0603 k cause 0).raise (0x230 + k / 8)

/-- Mode code of a loop (Table 7.6). -/
def LoopMd.code : LoopMd → Nat
  | .off => 0
  | .auto => 1
  | .manual => 2
  | .fallback => 3

/-- A vote of the ply on a sink (R459): no majority, or the voted value and the mode it was sent with. -/
abbrev Vote := Option (Word × Nat)

/-- What a loop's own mode makes of a value `y` of a sink's SRC stage (Tables 7.6 and 7.7, R244); none where nothing is
published. -/
def ownValue (t : Img) (k j : Nat) (v : Loop) (done : Bool) (fb : Word) (y : Option Word) : Option Word :=
  let isOut := decide (snkSrc t k j = outStageOf t k)
  match v.mode with
  | .auto => y
  | .manual => if isOut then (if done then some v.man else none) else y
  | .fallback => if isOut && (decide (fbKindOf t k ≠ 0) || (Tbl.lookD v.sinks j {}).pub.isSome) then some fb else none
  | .off => none

/-- Value that a loop's sink publishes at its release; none where it keeps its previous one. A member of a ply publishes what was
voted, whatever its own mode; where the majority has the loop in that mode too, the mode makes its value of it (R459, R244). -/
def sinkValue (t : Img) (k j : Nat) (v : Loop) (e : Option LoopEval) (fb : Word) (votes : Nat → Option Vote) : Option Word :=
  match (if v.mode = .off then none else votes j) with
  | none => ownValue t k j v e.isSome fb (e.map (fun e => (e.val (snkSrc t k j)).1))
  | some none => none
  | some (some (w, m)) => if m = v.mode.code then ownValue t k j v true fb (some w) else some w

/-- Output of a loop after its release with its staleness; the vote of a sink that publishes OUT_STAGE decides it too. -/
def loopOutNow (t : Img) (k : Nat) (v : Loop) (e : Option LoopEval) (fb : Word) (votes : Nat → Option Vote) : Val :=
  let kept : Val := (v.out, v.outStale)
  let mine : Val := match e with | some e => e.val (outStageOf t k) | none => kept
  let own := fun (y : Val) (done : Bool) =>
    match v.mode with
    | .auto => y
    | .manual => if done then (v.man, false) else kept
    | .fallback => (fb, false)
    | .off => kept
  match (if v.mode = .off then none else
      ((List.range 4).filter (fun j => decide (snkKind t k j ≠ 0) && decide (snkSrc t k j = outStageOf t k))).findSome?
        (fun j => votes j)) with
  | none => own mine e.isSome
  | some none => kept
  | some (some (w, m)) => if m = v.mode.code then own (w, mine.2) true else (w, mine.2)

/-- Does this device's own value of a sink vote trip (R237, R244, R455)? It keeps its vote while nothing new is computed. -/
def ownVote (t : Img) (k j : Nat) (v : Loop) (e : Option LoopEval) (fb : Word) : Bool :=
  match sinkValue t k j v e fb (fun _ => none) with
  | some y => fLe fHalf y
  | none => (Tbl.lookD v.sinks j {}).vote

/-- The release of one loop once its mode is settled: output, sinks, votes. -/
def State.publish (s : State) (k : Nat) (votes : Nat → Option Vote) : State :=
  let t := s.regs.live
  let v := s.loop k
  let fb := s.fbOut k v
  let js := (List.range 4).filter (fun j => decide (snkKind t k j ≠ 0))
  let o := loopOutNow t k v v.eval fb votes
  let s1 := js.foldl (fun (a : State) j =>
    match sinkValue t k j v v.eval fb votes with
    | some y => a.sinkPub k j y
    | none => a) s
  s1.modLoop k (fun w => { w with
    out := o.1, outStale := o.2, eval := none, due := false, dead := false
    sinks := js.foldl (fun (a : Tbl SinkSt) j =>
      Tbl.put a j {} { (Tbl.lookD a j {}) with vote := ownVote t k j v v.eval fb }) w.sinks })

/-- Counts and mode of a loop at its release point take effect, with what they report. -/
def State.settleLoop (s : State) (k : Nat) : State :=
  let v := s.loop k
  if v.mode = .off then s
  else
    let r := s.loopStep k
    let s1 := s.setLoop k r.1
    let s2 := if v.due && v.eval.isNone then s1.count (4096 + 4 * k + 1) else s1
    let s3 := if r.1.mode = .fallback ∧ v.mode ≠ .fallback then s2.fellBack k r.1.cause else s2
    if r.2 then s3.raise 0x225 else s3

/-! ## Evaluation -/

/-- COMP of an output as the twist engine takes it (R235, R268, R458). -/
def State.compOf (s : State) (n : Nat) : Bool :=
  if s.plyMember then s.pl.agreedComp.getD n true else (s.loopOut n).compLatched

/-- The flags that the limiters downstream of a stage showed at the last completed evaluation (R235). -/
def State.downFlags (s : State) (k st : Nat) : Bool × Bool × Bool :=
  let t := s.regs.live
  let v := s.loop k
  let d := downstream t k st
  let lim := (d.filter (fun j => decide (j ≠ st) && (decide (opOf t k j = 5) || decide (opOf t k j = 6)))).map (fun j =>
    let x := Tbl.lookD v.stages j {}
    (x.hi, x.lo))
  let snk := ((List.range 4).filter (fun j =>
      (decide (snkKind t k j = 1) || decide (snkKind t k j = 3)) && d.contains (snkSrc t k j))).map (fun j =>
    let x := Tbl.lookD v.sinks j {}
    (x.hi, x.lo))
  let comp := (List.range 4).any (fun j =>
    decide (snkKind t k j = 3) && d.contains (snkSrc t k j) && s.compOf (snkIdx t k j % 8))
  (comp, (lim ++ snk).any (fun e => e.1), (lim ++ snk).any (fun e => e.2))

/-- Is a loop ready: every lower loop that is due and evaluated, and whose output it reads, has finished (R220)? -/
def State.loopReady (s : State) (k : Nat) : Bool :=
  (readsOf s.regs.live k).all (fun j => !(s.loop j).due || decide ((s.loop j).mode = .off) || (s.loop j).eval.isSome)

/-- Loops that are abandoned at the release point (R248): due and not completed, or reading a same-turn output of one that
is abandoned. -/
def State.abandonedLoops (s : State) : List Nat :=
  (loopsOf s.regs.live).foldl (fun l k =>
    let v := s.loop k
    if v.due && decide (v.mode ≠ .off) && (v.eval.isNone || (readsOf s.regs.live k).any (fun j => l.contains j)) then l ++ [k]
    else l) []

/-- An abandoned loop leaves its state as it was (R221). -/
def State.dropAbandoned (s : State) : State :=
  s.abandonedLoops.foldl (fun (a : State) k => a.modLoop k (fun v => { v with eval := none })) s

/-- Does a lane run a loop? -/
def State.runs (s : State) (k : Nat) : Bool := s.tw.running.any (fun e => decide (e.2 = k))

/-- May a loop be issued now (R220): due, not started, and ready? A loop in OFF is not evaluated. -/
def State.mayStart (s : State) (k : Nat) : Bool :=
  let v := s.loop k
  v.due && !v.dead && decide (v.mode ≠ .off) && v.eval.isNone && !s.runs k && s.loopReady k

/-- The engine issues loops to its idle lanes in ascending loop number, and leaves none idle while one is ready (R220). -/
def State.issueLoops (s : State) : State :=
  if decide (s.dev.st = .run) && s.tw.opened then
    s.tw.lanes.foldl (fun (a : State) l =>
      if (Tbl.look a.tw.running l).isSome then a
      else
        match (loopsOf a.regs.live).find? (fun k => a.mayStart k) with
        | some k => { a with tw := { a.tw with running := Tbl.ins a.tw.running l k } }
        | none => a) s
  else s

/-- The result of a loop's evaluation (R221, R230); each stage result replaced is counted (R233). -/
def State.evaluate (s : State) (k : Nat) : State :=
  let v := s.loop k
  let cur := s.soonOut
  let e := evalLoop s.regs.live k {
    dt := s.loopDt k, taps := s.taps cur k, stages := v.stages, auto := decide (v.mode = .auto), track := v.out
    flags := s.downFlags k }
  let s1 := (s.keepTaps cur k (List.range 8)).modLoop k (fun v => { v with eval := some e })
  let s2 := { s1 with tw := { s1.tw with cyc := (s1.clock - s1.tw.startAt) * 3 / 5 } }
  if e.replaced > 0 then (s2.countN (4096 + 4 * k) e.replaced).raiseOnce 0x222 0x222 else s2

/-- The evaluation of a loop that a lane runs completes (R220, R221): the lane takes the next one that is ready. -/
def State.evalDone (s : State) (k : Nat) : State :=
  if s.runs k then
    let s1 := { s with tw := { s.tw with running := s.tw.running.filter (fun e => decide (e.2 ≠ k)) } }
    (if (s1.loop k).dead then s1 else s1.evaluate k).issueLoops
  else s

/-- LOOP_EVALUATION_COMPLETE. -/
def execLoopEvaluationComplete (dt : Nat) (loop : Fin 256) (s : State) : Host.Outcome State Fault Refusal :=
  s.at_ dt (fun s => s.evalDone loop.val)

/-- TWIST_WINDOW_START (R218, R220): the loops due in this turn are issued, in RUN. -/
def execTwistWindowStart (s : State) : Host.Outcome State Fault Refusal :=
  s.sched (s.offsetAt s.twistUs) (fun s =>
    if s.tm.twistDone then s
    else
      let s1 := { s with
        tm := { s.tm with twistDone := true }, tw := { s.tw with startAt := s.clock, opened := true, cyc := 0, running := [] } }
      if s.dev.st = .run then
        (((loopsOf s.regs.live).filter (fun k => loopDue s.regs.live k s.tm.turn.toNat)).foldl
          (fun (a : State) k => a.modLoop k (fun v => { v with due := true, dead := false, eval := none })) s1).issueLoops
      else s1)

/-! ## Modes and parameters (R240, R241) -/

/-- A loop's history is gone; latches stay (R231). -/
def dropHistory (t : Tbl StageSt) : Tbl StageSt :=
  (Tbl.mapVal (fun _ (x : StageSt) => { ({} : StageSt) with latch := x.latch, hi := x.hi, lo := x.lo }) t).filter
    (fun e => decide (e.2 ≠ {}))

/-- A LOOP_MODE clears the latches (R231). -/
def clearLatches (t : Tbl StageSt) : Tbl StageSt :=
  (Tbl.mapVal (fun _ (x : StageSt) => if x.latch then { x with latch := false, y := 0, cnt := 0 } else x) t).filter
    (fun e => decide (e.2 ≠ {}))

/-- The mode that a code of Table 7.6 names. -/
def loopMdOf (n : Nat) : LoopMd := if n = 1 then .auto else if n = 2 then .manual else .off

/-- A LOOP_MODE is applied at its boundary (R241, R245): the status of its completion. -/
def State.applyLoopMode (s : State) (b : LoopModeBody) : State × Nat :=
  let k := b.loop.val
  if loopOn s.regs.live k = false ∨ b.mode = 3 ∨ fFinite b.man = false then (s, 2)
  else
    let m := loopMdOf b.mode.toNat
    (s.modLoop k (fun v => { v with
      mode := m, cause := 0, man := if m = .manual then b.man else v.man, freshRun := 0, noMaj := 0
      staleRun := if v.mode = .off then 0 else v.staleRun
      stages := if v.mode = .off then dropHistory (clearLatches v.stages) else clearLatches v.stages }), 0)

/-- Write one word of a loop's slot into the live and the shadow image (R242). -/
def State.putBoth (s : State) (off : Nat) (w : Word) : State :=
  { s with
    regs := { s.regs with
      live := Tbl.put s.regs.live off (resetAt off) w
      shadow := Tbl.put s.regs.shadow off (resetAt off) w } }

/-- A LOOP_PARAM is applied at its boundary (R241, R242): the status of its completion. -/
def State.applyLoopParam (s : State) (b : LoopParamBody) : State × Nat :=
  let t := s.regs.live
  let k := b.loop.val
  let st := b.stage.val
  let p := fun i => [b.p0, b.p1, b.p2, b.p3, b.fb].getD i 0
  if decide (opOf t k st ≠ b.expect.toNat) || !parsOk (opOf t k st) (optOf t k st) p then (s, 2)
  else
    (([0, 1, 2, 3, 4].foldl (fun (a : State) i => a.putBoth (loopBase k + 0x84 + 24 * st + 4 * i) (p i)) s).coverChange, 0)

/-- An accepted LOOP_MODE or LOOP_PARAM waits for its boundary (R241). -/
def State.queueLoop (s : State) (d : Desc) (a : PlyAct) : State :=
  { s with tw := { s.tw with cmds := s.tw.cmds ++ [(d, a)] } }

/-- LOOP_MODE at acceptance. -/
def State.acceptLoopMode (s : State) (d : Desc) (b : LoopModeBody) : State :=
  s.accept d 7 (fun s => s.plyWide d 7 (.loopMode b) (fun s => s.queueLoop d (.loopMode b)))
/-- LOOP_PARAM at acceptance. -/
def State.acceptLoopParam (s : State) (d : Desc) (b : LoopParamBody) : State :=
  s.accept d 6 (fun s => s.plyWide d 6 (.loopParam b) (fun s => s.queueLoop d (.loopParam b)))

/-- LOOP_MODE. -/
def execLoopMode (dt : Nat) (d : Desc) (b : LoopModeBody) (s : State) : Host.Outcome State Fault Refusal :=
  s.descRow dt d (.loopMode b) (fun s => s.acceptLoopMode d b)
/-- LOOP_PARAM. -/
def execLoopParam (dt : Nat) (d : Desc) (b : LoopParamBody) (s : State) : Host.Outcome State Fault Refusal :=
  s.descRow dt d (.loopParam b) (fun s => s.acceptLoopParam d b)

/-- A LOOP_MODE or LOOP_PARAM is executed; its completion carries the boundary's time (Table 10.12). -/
def State.runLoopCmd (s : State) (d : Option Desc) (a : PlyAct) : State :=
  let r : State × Nat × Nat := match a with
    | .loopMode b => ((s.applyLoopMode b).1, 7, (s.applyLoopMode b).2)
    | .loopParam b => ((s.applyLoopParam b).1, 6, (s.applyLoopParam b).2)
    | _ => (s, 7, 0)
  match d with
  | some d => r.1.complete d { complOf d r.2.1 r.2.2 with timeA := s.tm.bound, turn := s.tm.turn }
  | none => r.1

/-- Does a commit make the change of R231 to a loop? -/
def loopChanged (o n : Img) (k : Nat) : Bool :=
  decide (periodOf o k ≠ periodOf n k) || !((List.range 8).all (fun i => decide (tapCfg o k i = tapCfg n k i) && decide (tapK o k i = tapK n k i))) ||
  !((List.range 16).all (fun st => decide (opOf o k st = opOf n k st) &&
    [0, 1, 2].all (fun x => !opUses (opOf n k st) x || decide (selOf o k st x = selOf n k st x))))

/-- A commit of group TWIST acts on the modes and histories of the loops (R231, R240). -/
def State.commitLoops (s : State) (o : Img) : State :=
  let n := s.regs.live
  let ks := (loopsOf n) ++ ((loopsOf o).filter (fun k => !loopOn n k))
  ks.foldl (fun (a : State) k =>
    if loopOn n k = false then a.modLoop k (fun v => { v with mode := .off, cause := 0 })
    else if loopOn o k = false ∨ loopChanged o n k = true then
      a.modLoop k (fun v => { v with
        mode := loopMdOf (initOf n k), cause := 0, man := if initOf n k = 2 then Img.at_ n (loopBase k + 12) else v.man
        stages := dropHistory v.stages, staleRun := 0, freshRun := 0, noMaj := 0, ovrRun := 0 })
    else a) s

/-- NEED_CYC and WIN_CYC follow the live configuration. -/
def State.refreshBudget (s : State) : State :=
  { s with
    tw := { s.tw with need := needOf s.regs.live s.tw.lanes.length, win := (windowOf s.regs.live s.plyMember).toNat } }

/-! ## Lanes (R250, R251, R532) -/

/-- After a loss of lanes the budget is checked again (R250). -/
def State.recheckBudget (s : State) : State :=
  let s1 := s.refreshBudget
  if budgetOk s.regs.live s.plyMember s.tw.lanes.length then s1
  else (({ s1 with tw := { s1.tw with over_ := true } }).slub 0x0604 0 0 0).raise 0x223

/-- Slub 0x0F09 and source 0x018, once per unit (R518). -/
def State.spareOut (s : State) (kind unit_ : Nat) : State :=
  if s.rp.exhausted.contains (kind, unit_) then s
  else (({ s with rp := { s.rp with exhausted := s.rp.exhausted ++ [(kind, unit_)] } }).slub 0x0F09 kind 0 0).raise 0x018

/-- The next queued repair goes into the lowest blank fuse entry (R536): in SET-UP and RUN, while AUTO_BURN is 1 or after
RP_CMD.BURN. Without a blank entry the repair stays soft (R537). -/
def State.burnNext (s : State) : State :=
  let go := s.bit 0xF8000 0 || s.rp.burnNow
  match s.rp.queue with
  | [] => { s with rp := { s.rp with burnNow := false } }
  | w :: rest =>
    if decide (s.dev.st = .setUp ∨ s.dev.st = .run) && go && s.rp.burn.isNone then
      let e := Tbl.firstFree s.rp.fuses 0
      if e < 256 then { s with rp := { s.rp with queue := rest, burn := some { entry := e, data := w, half := false } } }
      else ({ s with rp := { s.rp with queue := rest } }).spareOut 7 w.toNat
    else s

/-- A repair joins the queue for burning (R536). -/
def State.queueBurn (s : State) (data : Word) : State :=
  ({ s with rp := { s.rp with queue := s.rp.queue ++ [data] } }).burnNext

/-- Fuse data word of a spindle or lane retired (Table 17.3). -/
def fuseWord (kind target spare : Nat) : Word := packWord [(0, kind), (8, target), (26, spare)]

/-- LANE_FAILURE (R251): a lane in service fails its self-check and leaves at once; its loop is evaluated on another lane.
The spare enters at the next boundary, or the inventory has none (R518). -/
def State.laneFails (s : State) (lane : Nat) : State :=
  if s.tw.lanes.contains lane then
    let s1 := { s with tw := { s.tw with
      lanes := s.tw.lanes.filter (fun x => decide (x ≠ lane)), running := Tbl.del s.tw.running lane } }
    let s2 := ((s1.slub 0x0605 lane 0 0).raise 0x224).queueBurn (fuseWord 4 lane 0)
    let s3 := match s2.tw.spare with
      | some x => { s2 with tw := { s2.tw with spare := none, joining := some x, leaving := some lane } }
      | none => s2.spareOut 4 lane
    s3.recheckBudget.issueLoops
  else s

/-- LANE_FAILURE. -/
def execLaneFailure (dt : Nat) (lane : Fin 5) (s : State) : Host.Outcome State Fault Refusal :=
  s.at_ dt (fun s => s.laneFails lane.val)

/-- A spare lane enters service at a boundary; a weak lane leaves it then (R251, R253, R532). -/
def State.laneBoundary (s : State) : State :=
  match s.tw.joining with
  | none => s
  | some x =>
    let out := s.tw.leaving
    let keep := s.tw.lanes.filter (fun l => decide (some l ≠ out))
    let s1 := { s with tw := { s.tw with lanes := keep ++ [x], joining := none, leaving := none } }
    let s2 := if s.tw.lanes.any (fun l => decide (some l = out)) then s1.raise 0x224 else s1
    ((s2.slub 0x0F04 (out.getD 0) 0 0).raise 0x013).refreshBudget

end Sys2Proof.Machine
end

