-- ==== Sys2Proof/Machine/LoopIo.lean ====
section
/-!
DEFINITION. Current loop inputs and outputs (chapter 8): classes and limiters of inputs, the state of an output, its
readback, half-drivers, compliance and failure, and the commands of the release point.
-/

namespace Sys2Proof.Machine

/-! ## Outputs -/

/-- Base of an output's registers. -/
def loBase (n : Nat) : Nat := 0xA1000 + 64 * n
/-- LO_OUTn_CFG.MODE. -/
def State.loMode (s : State) (n : Nat) : Nat := s.fld (loBase n) 0 2

/-- LO_OUTn_STATUS.STATE: OFF, DRIVING, FAIL_HELD, BLOCKED. -/
inductive OutState where
  | off | driving | failHeld | blocked
  deriving DecidableEq, Repr

/-- State of an output (R261, R262, R269, R273, R274, R568). -/
def State.outState (s : State) (n : Nat) : OutState :=
  let o := s.loopOut n
  let m := s.loMode n
  if m = 0 ∨ o.modeWait = true ∨ s.acts = false then .off
  else if (s.dev.st ≠ .run ∧ s.dev.st ≠ .safe) ∨ (m = 1 ∧ (o.above = true ∨ s.lio.vlow = true)) ∨ (m = 2 ∧ o.reverse = true) then
    .blocked
  else if o.failed then .failHeld
  else if o.cmd.isNone then .off
  else .driving

/-- A cause of failure is recorded (R270): entry writes slub 0x0705 and raises 0x210 + n; a field-die reset does so on
every output (R505). -/
def State.outFail (s : State) (n cause : Nat) : State :=
  let o := s.loopOut n
  let fresh := !o.causes.contains cause
  let s1 := s.setLoopOut n { o with
    causes := if fresh then o.causes ++ [cause] else o.causes, failed := true
    failAct := if o.failed then o.failAct else s.fld (loBase n + 8) 0 2
    latAt := if cause ≤ 2 then some s.clock else o.latAt }
  if fresh && (o.causes.isEmpty || decide (cause = 4)) then (s1.slub 0x0705 n cause 0).raise (0x210 + n) else s1

/-- The outputs. -/
def outputs : List Nat := List.range 8

/-- The sink that drives an output, if one does (R239); that of a loop left unconfigured keeps the value it published (R240). -/
def driverOf (t : Img) (n : Nat) : Option (Nat × Nat) :=
  (slotsOf t).findSome? (fun k =>
    ((List.range 4).find? (fun j => decide (snkKind t k j = 3) && decide (snkIdx t k j % 8 = n))).map (fun j => (k, j)))

/-- Command of an output as published (R262); none where nothing drives it or its loop has never published. -/
def State.command (s : State) (n : Nat) : Option Word :=
  match driverOf s.regs.live n with
  | none => none
  | some (k, j) => ((Tbl.lookD (s.loop k).sinks j {}).pub).map (fun y => (s.outCmd k j y).1)

/-- DAC code of a command in mA (R262): round(I × 65,535 / 24 mA); half way is open. -/
def dacOf (w : Word) : BitVec 16 :=
  let x := fVal w * 65535 / 24 + 1 / 2
  BitVec.ofInt 16 (if x.den = 1 then x.num - b01 (!Config.roundUp .dac x.num 1) else x.floor)

/-- Current in mA that an output's regulator is set to, none while it blocks (R262, R269, R270, R273, Table 8.4): a code that is to
be the command's, or the failure current that its latch holds. HALVES blocks whatever FAIL_ACT says. -/
def State.outTarget (s : State) (n : Nat) : Option Rat :=
  let o := s.loopOut n
  match s.outState n with
  | .driving => some ((o.code.toNat : Rat) * 24 / 65535)
  | .failHeld =>
    if o.causes.contains 2 then none else if o.failAct = 1 then some (7 / 2) else if o.failAct = 2 then some 22 else none
  | _ => none

/-- Current in mA at the terminal of an output into a loop that supports at most `most` (R267). -/
def State.outCurrent (s : State) (n : Nat) (most : Rat) : Option Rat := (s.outTarget n).map (fun x => min x most)

/-- The command of every output is sent across the field bridge (R262); in a field-die reset none is delivered. An output
whose latched causes were cleared leaves its failure state (R272), and a lone half-driver carries the command (R263). -/
def State.sendCommands (s : State) : State :=
  outputs.foldl (fun (a : State) n => (a.sendOver (.output n)).modLoopOut n (fun o => { o with
    sent := if s.fieldUp then some (s.command n) else none, modeWait := false, failed := !o.causes.isEmpty
    run := if o.clearWait then 0 else o.run, clearWait := false, single := o.halfA || o.halfB })) s

/-- OUTPUT_COMMAND_ARRIVAL (R262): the command reaches the output; WATCHDOG and FIELD_RESET clear (Table 8.3). -/
def State.cmdArrives (s : State) (n : Nat) : State :=
  let o := s.loopOut n
  match o.sent with
  | none => s
  | some c =>
    let l := o.causes.filter (fun x => decide (x ≠ 3) && decide (x ≠ 4))
    s.setLoopOut n { o with
      cmd := c, code := match c with | some w => dacOf w | none => 0
      sent := none, cmdAt := s.clock, changedAt := if c = o.cmd then o.changedAt else s.clock
      causes := l, failed := if l.length < o.causes.length then !l.isEmpty || o.clearWait else o.failed }

/-- OUTPUT_COMMAND_ARRIVAL. -/
def execOutputCommandArrival (dt : Nat) (output : Fin 8) (s : State) : Host.Outcome State Fault Refusal :=
  s.at_ dt (fun s => if s.fieldUp then (s.acked (.output output.val)).cmdArrives output.val else s)

/-- COMPLIANCE_CHANGE (R268): the headroom crosses 1.5 V or 2.0 V. -/
def execComplianceChange (dt : Nat) (output : Fin 8) (headMv : Nat) (s : State) : Host.Outcome State Fault Refusal :=
  s.at_ dt (fun s =>
    let o := s.loopOut output.val
    if headMv < 1500 then
      if o.comp then s
      else ((s.setLoopOut output.val { o with comp := true }).count (5474 + 4 * output.val)).raiseOnce 0x218 0x218
    else if headMv ≥ 2000 then s.setLoopOut output.val { o with comp := false }
    else s)

/-- OUTPUT_MISWIRING (R269): voltages at LOn_OUT and LOn_RTN and of VLOOP, in mV. -/
def execOutputMiswiring (dt : Nat) (output : Fin 8) (vout vrtn vloop : Int) (s : State) : Host.Outcome State Fault Refusal :=
  s.at_ dt (fun s =>
    let n := output.val
    let o := s.loopOut n
    let m := s.loMode n
    let above := if vout > vloop + 300 then decide (m = 1) || o.above else if vout ≤ vloop - 300 then false else o.above
    let rev := if vout < vrtn then decide (m = 2) else false
    let s1 := s.setLoopOut n { o with above := above, reverse := rev }
    let s2 := if above && !o.above then (s1.slub 0x0704 n 0 0).raise (0x210 + n) else s1
    if rev && !o.reverse then (s2.slub 0x0704 n 1 0).raise (0x210 + n) else s2)

/-- VLOOP_BELOW_3_V (R269). -/
def execVloopBelow3V (dt : Nat) (mv : Nat) (s : State) : Host.Outcome State Fault Refusal :=
  s.at_ dt (fun s => { s with lio := { s.lio with vlow := decide (mv < 3000) } })

/-- OUTPUT_WATCHDOG (R270, Table 8.3): no command for WD_MS ms. -/
def execOutputWatchdog (dt : Nat) (output : Fin 8) (s : State) : Host.Outcome State Fault Refusal :=
  s.at_ dt (fun s =>
    let n := output.val
    let o := s.loopOut n
    if decide (s.clock - o.cmdAt ≥ s.fld (loBase n + 8) 8 8 * 1000000) && !o.causes.contains 3 then
      (s.count (5475 + 4 * n)).outFail n 3
    else s)

/-- LO_CLEAR (R272): latched causes of the named outputs clear, but for one found in the same instant; HALVES stays while
both halves are failed. -/
def State.loClear (s : State) (bits : Word) : State :=
  (outputs.filter (fun n => bitOf bits n)).foldl (fun (a : State) n => a.modLoopOut n (fun o =>
    let l := o.causes.filter (fun x => decide (x ≠ 1) && (decide (x ≠ 2) || (o.halfA && o.halfB)))
    if o.latAt = some s.clock ∨ l.length = o.causes.length then o else { o with causes := l, clearWait := true })) s

/-- LO_CLEAR: posted; it acts when the field die has it (R400, R506). -/
def execLoClear (dt : Nat) (w : Wr) (s : State) : Host.Outcome State Fault Refusal :=
  s.at_ dt (fun s => s.wr 0xA1800 w (fun s => s.post 0xA1800 w.data))

/-- LO_LOCK (R277, R398): posted; the lock is set when the field die has it. -/
def execLoLock (dt : Nat) (w : Wr) (s : State) : Host.Outcome State Fault Refusal :=
  s.at_ dt (fun s => s.wr 0xA1804 w (fun s => s.post 0xA1804 w.data))

/-! ### At a capture point -/

/-- A half-driver fails (R263). -/
def State.halfFails (s : State) (n : Nat) (b : Bool) : State :=
  let o := s.loopOut n
  let s1 := s.setLoopOut n (if b then { o with halfB := true } else { o with halfA := true })
  let s2 := (s1.slub 0x0703 n (b01 b) 0).raise (0x210 + n)
  if (if b then o.halfA else o.halfB) then (s2.outFail n 2).spareOut 6 n else s2

/-- Does a half-driver's current in µA differ from its share in mA by more than R263 allows? -/
def halfBad (share : Rat) (ua : Nat) : Bool :=
  let d := (ua : Rat) / 1000 - share
  decide (ratAbs d > share / 4 + 1 / 5)

/-- Self-measurement of the two half-drivers of an output that drove at the capture point (R263). -/
def State.checkHalves (s : State) (n a b : Nat) : State :=
  let o := s.loopOut n
  match o.cap.cmd with
  | none => s.setLoopOut n { o with runA := 0, runB := 0 }
  | some w =>
    let share := if o.cap.single then fVal w else fVal w / 2
    let ra := if !o.halfA && halfBad share a then o.runA + 1 else 0
    let rb := if !o.halfB && halfBad share b then o.runB + 1 else 0
    let s1 := s.setLoopOut n { o with runA := ra, runB := rb }
    let s2 := if ra ≥ 2 then s1.halfFails n false else s1
    if rb ≥ 2 then s2.halfFails n true else s2

/-- Current in mA through a resistor of r × 0.01 Ω that drops v µV (R254, R264). -/
def currentMa (v : Int) (r : Nat) : Rat := (v : Rat) / (10 * r)
/-- The same in binary32. -/
def currentOf (v : Int) (r : Nat) : Word := fOf (currentMa v r)

/-- The readback comparison of an output, as it stood at the capture point (R265, R266). -/
def State.compareReadback (s : State) (n : Nat) : State :=
  let o := s.loopOut n
  let b := loBase n + 12
  match (if o.cap.settled then o.cap.cmd else none) with
  | none => s.count (5472 + 4 * n)
  | some w =>
    let d := fVal o.rbv - fVal w
    let tol := (s.fld b 0 12 : Rat) / 1000
    let bad := if o.cap.comp then decide (d > tol) else decide (ratAbs d > tol)
    if bad then
      let s1 := (s.setLoopOut n { o with run := min 15 (o.run + 1) }).count (5473 + 4 * n)
      if o.run + 1 ≥ s.fld b 12 4 then s1.outFail n 1 else s1
    else s.setLoopOut n { o with run := 0 }

/-- The readings of one output arrive. -/
def State.outReadings (s : State) (x : LioReadings) (n : Nat) : State :=
  let o := s.loopOut n
  let s1 := s.setLoopOut n { o with
    rbv := currentOf (x.rbs.getD n 0) (s.fld (loBase n) 16 16), head := min 65535 (x.heads.getD n 0) }
  (s1.compareReadback n).checkHalves n (x.halfA.getD n 0) (x.halfB.getD n 0)

/-! ## Inputs -/

/-- Class of a reading of x mA (Table 8.1): the current as measured, before its rounding to binary32 (log 51). -/
def classOf (mode : Nat) (isOpen : Bool) (x : Rat) : Nat :=
  if mode = 0 then 0
  else if isOpen then 6
  else if mode = 2 then 1
  else if x ≤ 18 / 5 then 4
  else if x < 19 / 5 then 2
  else if x ≤ 41 / 2 then 1
  else if x < 21 then 3
  else 5

/-- An input takes a class; entering or leaving the failed set is reported (R260). -/
def State.setClass (s : State) (n c : Nat) : State :=
  let v := s.loopIn n
  let s1 := s.setLoopIn n { v with cls := c }
  if classFailed c != classFailed v.cls then (s1.slub 0x0702 n c 0).raise (0x200 + n) else s1

/-- LI_INn_CFG. -/
def liBase (n : Nat) : Nat := 0xA0000 + 16 * n

/-- The reading of one input arrives (R254 to R257). -/
def State.inReading (s : State) (x : LioReadings) (n : Nat) : State :=
  let v := s.loopIn n
  let c := currentMa (x.ins.getD n 0) (s.fld (liBase n) 8 16)
  (s.setLoopIn n { v with reading := fOf c, missing := false }).setClass n (classOf (s.fld (liBase n) 0 2) v.openAt.isSome c)

/-- The sixteen inputs. -/
def inputs : List Nat := List.range 16

/-- CAPTURE_READINGS_ARRIVAL (R25): the readings of the last capture point, within 10 µs of it. -/
def State.readings (s : State) (x : LioReadings) : State :=
  let s1 := { s with lio := { s.lio with wait := false, missing := false, vloop := min 65535 x.vloop } }
  let s2 := { s1 with tw := { s1.tw with feedMissing := false } }
  outputs.foldl (fun (a : State) n => a.outReadings x n) (inputs.foldl (fun (a : State) n => a.inReading x n) s2)

/-- CAPTURE_READINGS_ARRIVAL: the strobe is acknowledged (R503); readings later than 10 µs are not taken (R25). -/
def execCaptureReadingsArrival (dt : Nat) (x : LioReadings) (s : State) : Host.Outcome State Fault Refusal :=
  s.at_ dt (fun s =>
    if s.fieldUp then
      let s1 := s.acked .strobe
      if s.lio.wait && decide (s.clock - s.lio.capAt ≤ 10000) then s1.readings x else s1
    else s)

/-- CAPTURE_READINGS_TIMEOUT (R25, R260, R265): readings missing; the feeds' set is missing while the field die is in
reset. -/
def State.readingsMissing (s : State) : State :=
  if s.lio.wait then
    let fm := !s.fieldUp
    let s1 := { s with
      lio := { s.lio with wait := false, missing := true }, tw := { s.tw with feedMissing := fm } }
    let s2 := inputs.foldl (fun (a : State) n =>
      (a.setLoopIn n { a.loopIn n with missing := true }).count (5441 + 2 * n)) s1
    let s3 := outputs.foldl (fun (a : State) n =>
      (a.modLoopOut n (fun o => { o with runA := 0, runB := 0 })).count (5472 + 4 * n)) s2
    (s3.slub 0x1205 (1 + 2 * b01 fm) 0 0).raise 0x21A
  else s

/-- CAPTURE_READINGS_TIMEOUT. -/
def execCaptureReadingsTimeout (dt : Nat) (s : State) : Host.Outcome State Fault Refusal :=
  s.at_ dt (fun s => if s.clock - s.lio.capAt ≥ 10000 then s.readingsMissing else s)

/-- MISSING is of one turn (R260). -/
def State.missingOver (s : State) : State :=
  inputs.foldl (fun (a : State) n => a.setLoopIn n { a.loopIn n with missing := false }) s

/-- An input's limiter opens (R258). -/
def State.limiterOpens (s : State) (n : Nat) : State :=
  let s1 := (s.setLoopIn n { s.loopIn n with openAt := some s.clock, test := false }).count (5440 + 2 * n)
  if s.fld (liBase n) 0 2 = 0 then s1 else s1.setClass n 6

/-- LIMITER_OPEN. -/
def execLimiterOpen (dt : Nat) (input : Fin 16) (s : State) : Host.Outcome State Fault Refusal :=
  s.at_ dt (fun s => if (s.loopIn input.val).openAt.isNone then s.limiterOpens input.val else s)

/-- LIMITER_TEST (R258): the limiter closes, and opens again when the current still exceeds the threshold. -/
def execLimiterTest (dt : Nat) (input : Fin 16) (exceeds : Bool) (s : State) : Host.Outcome State Fault Refusal :=
  s.at_ dt (fun s =>
    let v := s.loopIn input.val
    if v.test then
      let s1 := s.setLoopIn input.val { v with openAt := none, test := false }
      if exceeds then s1.limiterOpens input.val else s1
    else s)

/-- A capture point begins a conversion (R24, R254, R258, R268): limiters open for 100 ms are tested after it, COMP is
latched, and each output is held as it stands. -/
def State.strobe (s : State) : State :=
  let s1 := { s.sendOver .strobe with lio := { s.lio with wait := true, capAt := s.clock } }
  let s2 := s1.lio.ins.foldl (fun (a : State) e =>
    match e.2.openAt with
    | some t => if s.clock - t ≥ 100000000 then a.setLoopIn e.1 { a.loopIn e.1 with test := true } else a
    | none => a) s1
  outputs.foldl (fun (a : State) n =>
    let on := decide (s.outState n = .driving)
    a.modLoopOut n (fun o => { o with
      compLatched := o.comp || !on
      cap := {
        cmd := if on then o.cmd else none, comp := o.comp, single := o.single
        settled := decide (s.clock - o.changedAt ≥ s.fld (loBase n + 12) 16 16 * 1000) } })) s2

/-- A commit of group LIO acts: an output whose mode changes is OFF until the next release point (R261); the latch of a stage takes
the committed FAIL_ACT while the field die answers (R270, R271; log 87). -/
def State.commitOutputs (s : State) (o : Img) : State :=
  outputs.foldl (fun (a : State) n =>
    let act := a.fld (loBase n + 8) 0 2
    a.modLoopOut n (fun v => { v with
      modeWait := v.modeWait || decide (fieldOf (Img.at_ o (loBase n)) 0 2 ≠ s.loMode n)
      failAct := if s.fieldUp then act else v.failAct })) s

end Sys2Proof.Machine
end

