-- ==== Sys2Proof/Machine/Sends.lean ====
section
/-!
DEFINITION. Best-effort frames: SEND (R96, R133, R138, R155, R336, R337, R452) and its entry into the ready set.
-/

namespace Sys2Proof.Machine

/-- The frame a SEND asks for. -/
def SendBody.frame (b : Sys2Proof.SendBody) : Frame :=
  { id := b.id, ide := b.ide, rtr := b.rtr, fdf := b.fdf, brs := b.brs, esi := false, dlc := b.dlc,
    data := if b.rtr then [] else fitBytes (dlcBytes b.fdf b.dlc.toNat) b.data }

/-- Is a SEND malformed (R155, R337)? -/
def State.sendBad (s : State) (b : SendBody) : Bool :=
  let v := s.live
  let ch := b.ch.val
  let m := v (spChBase ch)
  let f := SendBody.frame b
  decide (bePeriod v ch = 0) || decide (f.key.toNat < (beKey v ch).toNat) ||
  decide (frameTime v ch f.format b.ide f.data.length > beTime v ch) ||
  (b.rtr && b.fdf) || !idValid b.ide b.id || (b.fdf && !bitOf m 4) || (b.brs && (!b.fdf || !bitOf m 5)) ||
  (decide (dlcBytes b.fdf b.dlc.toNat > 48) && !b.indirect) || (b.indirect && decide (b.payAddr.toNat % 64 ≠ 0))

/-- Would a SEND take a reserved place, or a place in a full set (R96)? SENDs that wait for their entry count. -/
def State.setFull (s : State) (ch : Nat) : Bool :=
  decide ((s.ch ch).sends + (s.ch ch).sendQueue.length + s.places ch ≥ 1024)

/-- May the next SEND bobbin of a channel enter its ready set now (R155)? -/
def State.sendDue (s : State) (ch : Nat) : Bool :=
  match (s.ch ch).lastSend with
  | none => true
  | some t => decide (t + bePeriod s.live ch * 1000 ≤ s.clock)

/-- A SEND bobbin enters the ready set. -/
def State.enterSend (s : State) (ch bob : Nat) (d : Desc) : State :=
  match s.bob bob with
  | none => s
  | some b => (s.modCh ch (fun c => { c with lastSend := some s.clock })).enterReady ch bob b.frame.key (.send d)

/-- SEND without room: NO_RESOURCE, counted (R96, R138). -/
def State.sendNone (s : State) (ch : Nat) (d : Desc) : State := (s.chCount ch 22).completeSt d 1 7

/-- SEND (R337): its bobbin from the shared pool, its entry under BE_PERIOD_US. -/
def State.acceptSend (s : State) (d : Desc) (b : SendBody) : State :=
  s.accept d 1 (fun s =>
    let ch := b.ch.val
    if s.sendBad b then s.completeSt d 1 2
    else if s.acts = false then s.completeSt d 1 7
    else if s.setFull ch ∨ s.sendOk ch = false then s.sendNone ch d
    else
      let bob := s.nextBob
      let s1 := s.takeBob (txBobbin ch (SendBody.frame b) .send)
      if s1.sendDue ch && (s1.ch ch).sendQueue.isEmpty then s1.enterSend ch bob d
      else s1.modCh ch (fun c => { c with sendQueue := c.sendQueue ++ [(bob, d)] }))

/-- SEND. -/
def execSend (dt : Nat) (d : Desc) (b : SendBody) (s : State) : Host.Outcome State Fault Refusal :=
  s.descRow dt d (.send b) (fun s => s.acceptSend d b)

/-- SEND_READY_ENTRY (R155): the oldest waiting SEND bobbin enters the ready set when BE_PERIOD_US has passed. -/
def execSendReadyEntry (dt : Nat) (ch : Fin 16) (s : State) : Host.Outcome State Fault Refusal :=
  s.at_ dt (fun s =>
    match (s.ch ch.val).sendQueue with
    | [] => s
    | (bob, d) :: q =>
      if s.sendDue ch.val then (s.modCh ch.val (fun c => { c with sendQueue := q })).enterSend ch.val bob d else s)

end Sys2Proof.Machine
end

