-- ==== Sys2Proof/Machine/Spindles.lean ====
section
/-!
DEFINITION. Spindles (chapter 3): modes and states of a channel, fault confinement, frames on the wire, the checks of
received frames (R171 to R173, R454, R462), and RECOVER and RELEASE.
-/

namespace Sys2Proof.Machine

/-! ## States and modes -/

/-- The spindle takes part in frames: ERROR_ACTIVE or ERROR_PASSIVE. -/
def ChState.part (c : ChState) : Bool := decide (c = .errorActive) || decide (c = .errorPassive)
/-- A bus-off state. -/
def ChState.busOff (c : ChState) : Bool :=
  decide (c = .boHold) || decide (c = .boWait) || decide (c = .recovering) || decide (c = .quarantined)
/-- Does the spindle receive and send now: it takes part, and waits for no bus integration (R87, R89)? -/
def Channel.taking (c : Channel) : Bool := c.st.part && !c.integWait && decide (c.mode ≠ .off)

/-- The spindle's report of a change (R104, R174): a detection when the channel is not as the promise assumes. -/
def State.report (s : State) (ch : Nat) : State := if (s.ch ch).broken then s.detect ch 4 0 0 else s

/-- WARN follows TEC and REC (R101). -/
def State.warnUpd (s : State) (ch : Nat) : State :=
  let c := s.ch ch
  let w := decide (max c.tec c.recn ≥ s.fld (spChBase ch + 0x10) 0 8)
  let s1 := s.setCh ch { c with warn := w }
  if w && !c.warn then s1.spEvent ch 2 else s1

/-- The frame chosen and not begun goes back: it stays in the ready set, and the transmit sliver rewinds (R86, R93). -/
def State.unchoose (s : State) (ch : Nat) : State :=
  let s1 := s.modCh ch (fun c => { c with chosen := none, offered := false })
  s1.setSliver (s1.txSliver ch) (s1.sliver (s1.txSliver ch)).rewind

/-- A channel enters a state: sources of Table 3.9 and the report of R104. -/
def State.enterSt (s : State) (ch : Nat) (st : ChState) : State :=
  let c := s.ch ch
  if c.st = st then s
  else
    let s1 := s.setCh ch { c with st := st }
    let s2 := match st with
      | .errorPassive => s1.spEvent ch 1
      | .errorActive => s1.spEvent ch 3
      | .quarantined => s1.spEvent ch 5
      | _ => s1
    if c.st.part != st.part then s2.report ch else s2

/-- A mode takes effect (R84 to R88, R104, R111). -/
def State.setMode (s : State) (ch : Nat) (m : ChMode) : State :=
  let c := s.ch ch
  if c.mode = m then s.setCh ch { c with pendMode := none, heldMode := false }
  else
    let s0 := if m = .normal ∨ m = .loopback then s else s.unchoose ch
    let s1 :=
      if m = .off then
        ((s0.modCh ch (fun c => { c with
          mode := m, pendMode := none, heldMode := false, tec := 0, recn := 0, boHist := [], holdLeft := 0, heldRecover := false
          integWait := false, recov := 0, wire := .idle })).enterSt ch .off).warnUpd ch
      else if c.mode = .off then
        (s0.modCh ch (fun c => { c with mode := m, pendMode := none, heldMode := false, lec := 0 })).enterSt ch .integrating
      else s0.modCh ch (fun c => { c with mode := m, pendMode := none, heldMode := false })
    s1.report ch

/-- Return to ERROR_ACTIVE: a mode committed in a bus-off state takes effect (R111). -/
def State.enterActive (s : State) (ch : Nat) : State :=
  let s1 := s.enterSt ch .errorActive
  match (if (s1.ch ch).heldMode then (s1.ch ch).pendMode else none) with
  | some m => s1.setMode ch m
  | none => s1

/-- The mode that MODE names (Table 3.4). -/
def modeOf (n : Nat) : ChMode :=
  if n = 1 then .normal else if n = 2 then .listenOnly else if n = 3 then .restricted else if n = 4 then .loopback else .off

/-- A committed mode at the boundary that applies it (R86, R111). In the interframe space after a frame, which is neither idle
nor a frame on the wire, it takes effect at once (DESIGN CHOICE, log 80). -/
def State.commitMode (s : State) (ch : Nat) (m : ChMode) : State :=
  let c := s.ch ch
  if c.mode = m then s.setCh ch { c with pendMode := none, heldMode := false }
  else if c.st.busOff then
    if m = .off then s.setMode ch m else s.setCh ch { c with pendMode := some m, heldMode := true }
  else if !c.st.part || decide (c.wire = .idle ∨ c.wire = .gap) then s.setMode ch m
  else s.setCh ch { c with pendMode := some m, heldMode := false }

/-- MODE_TAKES_EFFECT (R86): the first intermission bit after the frame, error frame or overload frame on the wire; nothing while
this device sends or receives a frame. A spindle that waits for bus integration sees no end of frame. A mode committed in a
bus-off state waits for ERROR_ACTIVE (R111). -/
def execModeTakesEffect (dt : Nat) (ch : Fin 16) (s : State) : Host.Outcome State Fault Refusal :=
  s.at_ dt (fun s =>
    let c := s.ch ch.val
    match c.pendMode with
    | some m =>
      if !c.heldMode && (decide (c.wire ≠ .ownFrame ∧ c.wire ≠ .otherFrame) || c.integWait) then
        (s.modCh ch.val (fun c => { c with wire := .gap })).setMode ch.val m
      else s
    | none => s)

/-! ## Bus-off -/

/-- The hold-off ends (R106, R108, R112). -/
def State.holdEnd (s : State) (ch : Nat) : State :=
  let c := s.ch ch
  if decide (s.fld (spChBase ch + 0x14) 0 2 = 1) && !c.heldRecover then
    (s.setCh ch { c with holdLeft := 0 }).enterSt ch .boWait
  else (s.setCh ch { c with holdLeft := 0, heldRecover := false, recov := 0 }).enterSt ch .recovering

/-- Entry to bus-off (R102 to R107, R112). The count takes every recorded entry of turn t − QWIN + 1 or later; one recorded under
a turn number above the present, which a load or a time cell has lowered since, counts too (DESIGN CHOICE, log 80). -/
def State.busOffEntry (s : State) (ch : Nat) : State :=
  let b := spChBase ch + 0x14
  let hist := (s.ch ch).boHist ++ [s.tm.turn.toNat]
  let count := (hist.filter (fun t => decide (t + s.fld (spChBase ch + 0x18) 0 16 > s.tm.turn.toNat))).length
  let s1 := (s.modCh ch (fun c => { c with boHist := hist, heldRecover := false, wire := .idle })).unchoose ch
  let s2 := (((s1.chCount ch 10).spEvent ch 0)).removeStreams ch
  if decide (s.fld b 0 2 = 2) && decide (count ≥ s.fld b 16 4) then s2.enterSt ch .quarantined
  else
    let s3 := (s2.modCh ch (fun c => { c with holdLeft := s.fld b 8 8 })).enterSt ch .boHold
    if s.fld b 8 8 = 0 then s3.holdEnd ch else s3

/-- WARN and the error state follow the counters (R100, R101). -/
def State.confine (s : State) (ch : Nat) : State :=
  let s1 := s.warnUpd ch
  let c := s1.ch ch
  if c.st.part then
    if c.tec > 255 then s1.busOffEntry ch
    else if c.tec > 127 ∨ c.recn > 127 then s1.enterSt ch .errorPassive
    else s1.enterActive ch
  else s1

/-- HOLDOFF_END (R106): the boundaries of the hold-off have passed. -/
def execHoldoffEnd (dt : Nat) (ch : Fin 16) (s : State) : Host.Outcome State Fault Refusal :=
  s.at_ dt (fun s =>
    if decide ((s.ch ch.val).st = .boHold) && decide ((s.ch ch.val).holdLeft = 0) then s.holdEnd ch.val else s)

/-- RECOVERY_COMPLETE (R109): the occurrence of 11 recessive bits after the 127 that RECOV counts. -/
def execRecoveryComplete (dt : Nat) (ch : Fin 16) (s : State) : Host.Outcome State Fault Refusal :=
  s.at_ dt (fun s =>
    if (s.ch ch.val).st = .recovering ∧ (s.ch ch.val).recov = 127 then
      ((((s.modCh ch.val (fun c => { c with tec := 0, recn := 0, recov := 0, wire := .idle, idleTurns := 0 })).warnUpd
        ch.val).spEvent ch.val 4)).enterActive ch.val
    else s)

/-- BUS_INTEGRATION_COMPLETE (R87, R89): 11 consecutive recessive bits. In RECOVERING they are one of the first 127 occurrences
that RECOV counts (R74, R109; log 80). -/
def execBusIntegrationComplete (dt : Nat) (ch : Fin 16) (s : State) : Host.Outcome State Fault Refusal :=
  s.at_ dt (fun s =>
    let c := s.ch ch.val
    if c.st = .integrating then
      let s1 := (s.setCh ch.val { c with integWait := false, wire := .idle, idleTurns := 0 }).spEvent ch.val 4
      if c.tec > 127 ∨ c.recn > 127 then s1.enterSt ch.val .errorPassive else s1.enterActive ch.val
    else if c.st = .recovering then s.setCh ch.val { c with recov := min 127 (c.recov + 1) }
    else if c.integWait then (s.setCh ch.val { c with integWait := false, wire := .idle, idleTurns := 0 }).spEvent ch.val 4
    else s)

/-! ## RECOVER and RELEASE -/

/-- A command without effect is counted and raises source offset 0xD (R108, R110). -/
def State.noEffect (s : State) (ch : Nat) : State := (s.chCount ch 15).spEvent ch 0xD

/-- Would a RECOVER have effect (R108)? -/
def State.recovers (s : State) (ch : Nat) : Bool :=
  decide ((s.ch ch).st = .boWait) || (decide ((s.ch ch).st = .boHold) && decide (s.fld (spChBase ch + 0x14) 0 2 = 1))

/-- RECOVER (R108). -/
def State.recoverCmd (s : State) (ch : Nat) : State :=
  let c := s.ch ch
  if c.st = .boWait then (s.setCh ch { c with recov := 0 }).enterSt ch .recovering
  else if s.recovers ch then s.setCh ch { c with heldRecover := true }
  else s.noEffect ch

/-- RELEASE (R110). -/
def State.releaseCmd (s : State) (ch : Nat) : State :=
  let c := s.ch ch
  if c.st = .quarantined then
    ((s.setCh ch { c with tec := 0, recn := 0, boHist := [] }).warnUpd ch).enterSt ch .integrating
  else s.noEffect ch

/-- RECOVER. -/
def execRecover (dt : Nat) (ch : Fin 16) (w : Wr) (s : State) : Host.Outcome State Fault Refusal :=
  s.at_ dt (fun s => s.wr (spChBase ch.val + 0x20) w (fun s => if bitOf w.data 0 then s.recoverCmd ch.val else s))

/-- RELEASE. -/
def execRelease (dt : Nat) (ch : Fin 16) (w : Wr) (s : State) : Host.Outcome State Fault Refusal :=
  s.at_ dt (fun s => s.wr (spChBase ch.val + 0x20) w (fun s => if bitOf w.data 1 then s.releaseCmd ch.val else s))

/-- CHANNEL_CMD (R341, Table 10.9): action 1 RECOVER, 2 RELEASE; other actions are malformed. -/
def State.acceptChCmd (s : State) (d : Desc) (act ch : Nat) : State :=
  s.accept d 13 (fun s =>
    if act = 1 then (s.recoverCmd ch).complete d { complOf d 13 0 with effect := s.recovers ch }
    else if act = 2 then
      (s.releaseCmd ch).complete d { complOf d 13 0 with effect := decide ((s.ch ch).st = .quarantined) }
    else s.completeSt d 13 2)

/-- CHANNEL_CMD_RECOVER. -/
def execChannelCmdRecover (dt : Nat) (d : Desc) (ch : Fin 16) (s : State) : Host.Outcome State Fault Refusal :=
  s.descRow dt d (.chCmd 1 ch) (fun s => s.acceptChCmd d 1 ch.val)
/-- CHANNEL_CMD_RELEASE. -/
def execChannelCmdRelease (dt : Nat) (d : Desc) (ch : Fin 16) (s : State) : Host.Outcome State Fault Refusal :=
  s.descRow dt d (.chCmd 2 ch) (fun s => s.acceptChCmd d 2 ch.val)

/-! ## Frames on the wire -/

/-- START_OF_FRAME (R97): a frame begins; it is this device's where one is chosen. The row's instant is that of the edge at the
CHn_RXD ball, the two cycles of the synchroniser taken off (DESIGN CHOICE, log 80). -/
def State.startFrame (s : State) (ch : Nat) (edges : List Nat) : State :=
  let c := s.ch ch
  let own := c.chosen.isSome && c.maySend
  if !c.taking || decide (c.wire = .ownFrame ∨ c.wire = .otherFrame) || (decide (c.mode = .loopback) && !own) then s
  else s.setCh ch { c with
    sof := s.now, sofClk := s.clock, sofTurn := s.tm.turn, sofAge := 0, edges := edges
    wire := if own then .ownFrame else .otherFrame, offered := own }

/-- START_OF_FRAME. -/
def execStartOfFrame (dt : Nat) (x : FrameStart) (s : State) : Host.Outcome State Fault Refusal :=
  s.at_ dt (fun s => s.startFrame x.ch.val x.edges)

/-- A record for the receive sliver of the spindle that serves a channel (R113, Table 13.1): dropped whole when it does not
fit. -/
def State.pushRx (s : State) (ch : Nat) (f : Frame) (sof eof : BitVec 64) (loopback : Bool) : State :=
  let k := 2 * s.spOf ch
  let r : SlvRec := {
    words := recWords f.data.length, frame := f, ch := ch, loopback := loopback, errt := false, sof := sof, eof := eof
    bob := 0, poisonHdr := false, poisonPay := false }
  if r.words ≤ (s.sliver k).freeWords then s.setSliver k ((s.sliver k).push r)
  else ((s.chCount ch 13).count (5504 + 4 * k + 3)).spEvent ch 9

/-! ### Checks of frames of other nodes -/

/-- R171: does a start of frame conform, and the arrival time after it? -/
def Foreign.arrive (f : Foreign) (a : Int) : Bool × Option Int :=
  let T : Int := f.cfg.period.toNat * 1000
  match f.tat with
  | none => (true, some (a + T))
  | some t => if a ≥ t - (f.cfg.jitter.toNat * 1000 : Nat) then (true, some (max t a + T)) else (false, some t)

/-- The start of frame of the frame on a channel, which is when an overdraft of it is detected (R177). -/
def Channel.sofInstant (c : Channel) : Instant := { time := c.sof, turn := c.sofTurn, ago := c.sofAge }

/-- The checks of R171 and R172 on a frame of another node, or on as much of one as came before its error flag. -/
def State.checkForeign (s : State) (ch : Nat) (f : Frame) : State :=
  let at_ := (s.ch ch).sofInstant
  match (s.declared ch).find? (fun e => decide (e.2.key = f.key)) with
  | none => s.detectAt at_ ch 2 0 0
  | some (i, d) =>
    let again := (s.ch ch).retrans.contains f.key
    let chk := if again then (true, d.tat) else d.arrive (at_.time.toNat : Int)
    let long := decide (frameTime s.live ch f.format f.ide f.data.length >
      frameTime s.live ch d.cfg.format.toNat d.cfg.ide (if d.cfg.rtr then 0 else d.cfg.len.toNat))
    let bad := !chk.1 || long
    let s1 := { s with
      dr := { s.dr with
        foreign := Tbl.ins s.dr.foreign i { d with
          tat := chk.2, overdrafts := if bad then satCount (d.overdrafts + 1) else d.overdrafts } } }
    if long then s1.detectAt at_ ch 2 0 0
    else if !chk.1 then s1.detectAt at_ ch 1 (f.key + 1) 0 else s1

/-- The open local transmit stream of a channel with a key (R454). -/
def State.txWithKey (s : State) (ch : Nat) (key : Word) : Option (Nat × Stream) :=
  (s.chStreams ch).find? (fun e => e.2.isTx && decide (e.2.key = key))

/-- A frame of another node is checked (R171, R172), but on a ply member one with the key of a local transmit stream is not
(R454). -/
def State.judgeOther (s : State) (ch : Nat) (f : Frame) : State :=
  if s.plyMember && (s.txWithKey ch f.key).isSome then s else s.checkForeign ch f

/-- Does a frame agree with a shadow bobbin (R462)? -/
def shadowMatch (source : Nat) (w f : Frame) : Bool :=
  decide (w.id = f.id) && decide (w.ide = f.ide) && decide (w.format = f.format) && decide (w.dlc = f.dlc) &&
  (if source = 1 then decide (w.brs = f.brs) && decide (w.data = f.data) else true)

/-- The shadow comparison of a frame from the wire with the oldest release whose window holds its end (R462). -/
def State.shadowCompare (s : State) (n : Nat) (x : Stream) (f : Frame) (eof : BitVec 64) : State :=
  match x.rels.find? (fun r => r.shadow.isSome && !r.compared && decide ((eof - r.at_).toNat < 2 ^ 63) &&
      decide ((eof - r.at_).toNat ≤ x.cfg.deadline.toNat * 1000)) with
  | none => s
  | some r =>
    let s1 := s.setStream n (x.modRel r.id (fun k => { k with compared := true }))
    match r.shadow with
    | none => s1
    | some w =>
      if shadowMatch x.cfg.source.toNat w f then s1
      else
        (({ s1 with pl := { s1.pl with shadowNow := true } }.count 5892).slub 0x0D02 n 0 0).raiseOnce 0x309 0x309

/-- A frame from the wire with the key of a local transmit stream is that stream's own frame (R454): it is compared with
the shadow bobbin, and it settles the oldest release that waits for it. -/
def State.ownByWire (s : State) (n : Nat) (f : Frame) (sof eof : BitVec 64) : State :=
  match s.stream n with
  | none => s
  | some x =>
    let s1 := s.shadowCompare n x f eof
    match x.rels.find? (fun r => r.byWire && !r.past) with
    | some r => s1.relEnd n r.id sof eof
    | none => s1

/-- TEC after n steps of eight; it stops at the value that takes the channel to bus-off (R102). -/
def tecSteps : Nat → Nat → Nat
  | 0, t => t
  | n + 1, t => if t > 255 then t else tecSteps n (t + 8)

/-- What follows a frame on the wire: an overload frame or the interframe space. -/
def wireAfter (ovl : Option Nat) : Wire := if ovl.isSome then .overload else .gap

/-- The steps of eight that the flag of an overload frame brings (R74); none in the modes that leave TEC and REC unchanged. -/
def Channel.overloaded (c : Channel) (own : Bool) (ovl : Option Nat) : Channel :=
  if c.mode = .listenOnly ∨ c.mode = .restricted then c
  else if own then { c with tec := tecSteps (ovl.getD 0) c.tec }
  else { c with recn := min 255 (c.recn + 8 * ovl.getD 0) }

/-- A correctly received frame of another node at its end of frame (R98, R113, R171, R172, R192, R454). -/
def State.takeFrame (s : State) (ch : Nat) (f : Frame) (lw : Option Wave) (ovl : Option Nat) : State :=
  let c := s.ch ch
  if !c.taking || decide (c.wire ≠ .otherFrame) || decide (c.mode = .loopback) then s
  else
    let counts := decide (c.mode = .normal)
    let s1 := (s.setCh ch { (({ c with
      recn := if !counts then c.recn else if c.recn > 127 then 120 else c.recn - 1 } : Channel).overloaded false ovl) with
      wire := wireAfter ovl, idleTurns := 0 }).chCount ch 0
    let s2 := s1.pushRx ch f c.sof s.now false
    let s3 := match (if s.plyMember then s.txWithKey ch f.key else none) with
      | some e => s2.ownByWire e.1 f c.sof s.now
      | none => s2.checkForeign ch f
    let s4 := s3.modCh ch (fun c => { c with retrans := c.retrans.filter (fun k => decide (k ≠ f.key)) })
    let s5 := (s4.lineFrame ch false f s.now lw).noteTrigger ch (some f.key) false
    (s5.frameHank ch false f (durOf (s.now - c.sof).toNat) false false).confine ch

/-! ### Frames of this device -/

/-- The delay measured in a frame of this device with bit rate switching is shown; a saturated sample point is counted and
raises source offset 0x7 (R79 to R83, R81). -/
def State.tdc (s : State) (ch : Nat) (f : Frame) : State :=
  match s.delayOf ch f with
  | none => s
  | some (v, sum) =>
    let s1 := s.modCh ch (fun c => { c with tdcv := v, ssp := min sum 255 })
    if sum > 255 then (s1.chCount ch 12).spEvent ch 7 else s1

/-- A frame of this device ends without error (R94, R98): its bobbin leaves the ready set and is settled. -/
def State.sent (s : State) (ch : Nat) (lw : Option Wave) (ovl : Option Nat) : State :=
  let c := s.ch ch
  match (if c.wire = .ownFrame then s.inFlight ch else none) with
  | none => s
  | some (e, f) =>
    let s1 := (s.tdc ch f).chCount ch 1
    let s2 := s1.modCh ch (fun c => { (({ c with tec := c.tec - 1 } : Channel).overloaded true ovl) with
      wire := wireAfter ovl, idleTurns := 0, chosen := none, offered := false
      ready := c.ready.filter (fun x => decide (x.bob ≠ e.bob)) })
    let s3 := (s2.setSliver (s2.txSliver ch) (s2.sliver (s2.txSliver ch)).done).freeBob e.bob
    let s4 := match e.kind with
      | .send d => s3.sendCompl d 0 c.sof s.now false
      | .stream n r => (s3.relEnd n r c.sof s.now).releaseUsed n
    let s5 := if c.mode = .loopback then (s4.chCount ch 0).pushRx ch f c.sof s.now true else s4
    let s6 := (s5.lineFrame ch true f s.now lw).noteTrigger ch (some f.key) false
    (s6.frameHank ch true f (durOf (s.now - c.sof).toNat) false false).confine ch

/-- FRAME_SENT. -/
def execFrameSent (dt : Nat) (ch : Fin 16) (lw : Option Wave) (ovl : Option Nat) (s : State) :
    Host.Outcome State Fault Refusal :=
  s.at_ dt (fun s => s.sent ch.val lw ovl)

/-- An attempt that failed: the bobbin stays, or is aborted when it is doomed (R93, R95). -/
def State.attemptFailed (s : State) (ch : Nat) (e : Ready) : State :=
  let s1 := s.unchoose ch
  if e.doomed then s1.abort ch e else s1

/-- ARBITRATION_LOST (R93). -/
def execArbitrationLost (dt : Nat) (ch : Fin 16) (s : State) : Host.Outcome State Fault Refusal :=
  s.at_ dt (fun s =>
    if (s.ch ch.val).wire = .ownFrame then
      match s.inFlight ch.val with
      | none => s
      | some (e, _) =>
        ((s.modCh ch.val (fun c => { c with wire := .otherFrame })).chCount ch.val 9).attemptFailed ch.val e
    else s)

/-- FRAME_CHOICE (R91): an interframe opportunity, or an idle bus. -/
def execFrameChoice (dt : Nat) (ch : Fin 16) (poison : Bool) (s : State) : Host.Outcome State Fault Refusal :=
  s.at_ dt (fun s =>
    let c := s.ch ch.val
    if c.wire = .ownFrame ∨ c.wire = .otherFrame then s
    else (s.setCh ch.val { c with wire := .idle }).choose ch.val poison)

/-- TRANSMIT_TIMEOUT (R92, R95): bobbins at their fourth boundary are aborted; the one on the wire is not cut. -/
def execTransmitTimeout (dt : Nat) (ch : Fin 16) (s : State) : Host.Outcome State Fault Refusal :=
  s.at_ dt (fun s =>
    let c := s.ch ch.val
    let onWire := fun (e : Ready) => decide (c.wire = .ownFrame) && decide (c.chosen = some e.bob)
    let s1 := s.setCh ch.val { c with
      ready := c.ready.map (fun e => if decide (e.age ≥ 4) && onWire e then { e with doomed := true } else e) }
    s1.abortAll ch.val (c.ready.filter (fun e => decide (e.age ≥ 4) && !onWire e)))

/-! ### Errors -/

/-- LEC of a class (Table 3.10). -/
def lecOf : ErrClass → Nat
  | .stuff => 1
  | .form => 2
  | .ack => 3
  | .bitRecessive => 4
  | .bitDominant => 5
  | .crc => 6
  | .pex => 7

/-- TEC and REC after an error (R74, ISO 11898-1:2015; log 20). -/
def Channel.errored (c : Channel) (own : Bool) (e : ErrInfo) : Channel :=
  if c.mode = .listenOnly ∨ c.mode = .restricted then c
  else if own then { c with tec := tecSteps ((if e.exempt then 0 else 1) + e.eights) c.tec }
  else { c with recn := min 255 (c.recn + 1 + (if e.rxEight then 8 else 0) + 8 * e.eights) }

/-- The error model of R173: the flag is remembered, and one too soon after the E-th before it is an exceedance. -/
def State.errorModel (s : State) (ch : Nat) : State :=
  let b := busOf s.live ch
  let l := (s.ch ch).errTimes
  let soon := if b.e = 0 then true
    else match l[l.length - b.e]? with
      | some t => decide (b.e ≤ l.length) && decide ((s.clock - t) * 1000 < b.w * b.tn)
      | none => false
  let l1 := l ++ [s.clock]
  let s1 := s.modCh ch (fun c => { c with errTimes := l1.drop (l1.length - b.e) })
  if soon then s1.detect ch 3 0 0 else s1

/-- A protocol exception event (R89): counted, source offset 0x6, and a wait for bus integration, in which the other node's frame
goes on. -/
def State.pexEvent (s : State) (ch : Nat) : State :=
  ((s.modCh ch (fun c => { c with lec := 7, integWait := true, wire := .otherFrame })).chCount ch 11).spEvent ch 6

/-- The class of an error under the channel's configuration (R89): a recessive FDF or res bit of another node's frame is a protocol
exception event only with PEX_EN at 1, else a form error. -/
def State.classOf (s : State) (ch : Nat) (own : Bool) (c : ErrClass) : ErrClass :=
  if c = .pex ∧ (own ∨ s.bit (spChBase ch) 6 = false) then .form else c

/-- An error and its flag (R99, R101 to R107, R173, R196). As much of another node's frame as came is checked (R171, R172). -/
def State.errorFlag (s : State) (ch : Nat) (e : ErrInfo) : State :=
  let c := s.ch ch
  let fl := if c.wire = .ownFrame then s.inFlight ch else none
  let own := fl.isSome
  let frame : Option Frame := match fl with | some x => some x.2 | none => e.frame
  let key := frame.map (fun f => f.key)
  let cls := s.classOf ch own e.cls
  let s0 := match (if own || decide (c.wire ≠ .otherFrame) then none else e.frame) with
    | some f => s.judgeOther ch f
    | none => s
  if !c.taking || (decide (c.mode = .loopback) && !own) then s
  else if cls = .pex then s0.pexEvent ch
  else
    let s1 := ((((s0.chCount ch (lecOf cls + 1)).chCount ch 8).spEvent ch 0xE).lineError ch own key e).noteTrigger ch key true
    let s2 := s1.errorModel ch
    let s3 := s2.modCh ch (fun c => { (c.errored own e) with
      lec := lecOf cls, wire := .errorFrame, idleTurns := 0
      integWait := decide (c.mode = .restricted)
      retrans := match own, key with
        | false, some k => if c.retrans.contains k then c.retrans else c.retrans ++ [k]
        | _, _ => c.retrans
      ready := c.ready.map (fun r => if own && decide (c.chosen = some r.bob) then
        { r with sofT := c.sof, errT := some s.now } else r) })
    let s4 := match frame with
      | some f => s3.frameHank ch own f (durOf (s.now - c.sof).toNat) true false
      | none => s3
    let s5 := match fl with
      | some (r, f) =>
        (if s.pastRes ch f then s4.tdc ch f else s4).attemptFailed ch { r with sofT := c.sof, errT := some s.now }
      | none => s4
    s5.confine ch

/-- A frame of another node has come whole (R113). With FD_EN at 0 a frame of FD format does not: its recessive FDF bit is a form
error or a protocol exception event (R75, R89). -/
def State.received (s : State) (ch : Nat) (f : Frame) (lw : Option Wave) (ovl : Option Nat) : State :=
  if f.fdf && !s.bit (spChBase ch) 4 then
    s.errorFlag ch {
      cls := .pex, frame := some f, exempt := false, eights := 0, rxEight := false
      pairs := match lw with | some w => w.prev.pairs ++ w.bits.flatMap (fun b => b.pairs) | none => [] }
  else s.takeFrame ch f lw ovl

/-- FRAME_RECEIVED. -/
def execFrameReceived (dt : Nat) (ch : Fin 16) (f : Frame) (x : FrameEnd) (s : State) : Host.Outcome State Fault Refusal :=
  s.at_ dt (fun s => s.received ch.val f x.lw x.ovl)

/-- ERROR_FLAG. -/
def execErrorFlag (dt : Nat) (ch : Fin 16) (e : ErrInfo) (s : State) : Host.Outcome State Fault Refusal :=
  s.at_ dt (fun s => s.errorFlag ch.val e)

end Sys2Proof.Machine
end

