-- ==== Sys2Proof/Machine/Ply.lean ====
section
/-!
DEFINITION. Ply operation (chapter 14): roles, view and heartbeats, the flyer, agreement and votes, demotion, joining,
ply-wide descriptors and PLY_CMD, and the slots in which a member sends its cells.
-/

namespace Sys2Proof.Machine

/-! ## Roles and trip lines -/

/-- Code of a role (Table 14.1). -/
def PlyRole.code : PlyRole → Nat
  | .out => 0
  | .joining => 1
  | .standby => 2
  | .acting => 3
  | .demoted => 4

/-- Does a loop's sink vote trip now (R237, R244, R455)? A loop in OFF does not vote; one in FALLBACK under TRIP does. -/
def State.sinkTrips (s : State) (k j : Nat) : Bool :=
  let v := s.loop k
  decide (v.mode ≠ .off) &&
  ((Tbl.lookD v.sinks j {}).vote || (decide (v.mode = .fallback) && decide (fbKindOf s.regs.live k = 2)))

/-- Does a TRIP_VOTE sink of this device vote trip on a trip function? -/
def State.tripVoted (s : State) (t : Nat) : Bool :=
  (loopsOf s.regs.live).any (fun k => (List.range 4).any (fun j =>
    decide (snkKind s.regs.live k j = 4) && decide (snkIdx s.regs.live k j % 4 = t) && s.sinkTrips k j))

/-- Is TRIP_OUT[t] released to its trip state (R455, R513)? -/
def State.tripReleased (s : State) (t : Nat) : Bool :=
  match s.dev.st with
  | .run => (s.plyMember && decide (s.pl.role = .out ∨ s.pl.role = .demoted)) || s.tripVoted t
  | .safe => if s.bit 0x1034 t then decide (s.pl.tripOut / 2 ^ t % 2 = 1) else true
  | _ => true

/-- PL_TRIP.OUT follows the votes, the role and the device state (R455). -/
def State.refreshTrip (s : State) : State :=
  { s with pl := { s.pl with tripOut := ((List.range 4).map (fun t => b01 (s.tripReleased t) * 2 ^ t)).sum } }

/-- A change of role: the time source and the trip lines follow it, leaving ACTING raises 0x302, entering it raises 0x301
and sends the commands published last (R448, R449, R453). -/
def State.setRole (s : State) (r : PlyRole) : State :=
  let was := s.pl.role
  let s1 := ({ s with pl := { s.pl with role := r } }).refreshSource.refreshTrip
  let s2 := if was = .acting ∧ r ≠ .acting then
      ({ s1 with pl := { s1.pl with releasing := false, stopAs := none } }).raise 0x302 else s1
  if r = .acting ∧ was ≠ .acting then (s2.raise 0x301).sendCommands else s2

/-- A synchronisation begins (R441, R465). -/
def State.startSync (s : State) : State :=
  ({ s with pl := { s.pl with install := [], installed := [], syncTurns := 0, agreeRun := 0 } }).count 5895

/-- The member becomes JOINING (R441). -/
def State.join (s : State) : State := ((({ s with pl := { s.pl with syncFails := 0 } }).setRole .joining).startSync)

/-- Does this member count member j DEMOTED? -/
def State.isDemoted (s : State) (j : Nat) : Bool :=
  if j = s.own then decide (s.pl.role = .demoted)
  else (s.mem j).demoted || (match (s.mem j).last with | some b => decide (b.role = 4) | none => false)

/-- Role of a member as this member knows it, as its code; 0 for one never heard. -/
def State.roleOf (s : State) (j : Nat) : Nat :=
  if j = s.own then s.pl.role.code else match (s.mem j).last with | some b => b.role | none => 0

/-- A member is demoted (R449, R460, R463, R470): marked, or this member itself, which gives up the flyer first when it
acts. -/
def State.demote (s : State) (j : Nat) : State :=
  if j = s.own then
    if s.pl.role = .acting then
      if s.pl.stopAs = some .demoted then s
      else (({ s with pl := { s.pl with stopAs := some .demoted } }).count 5894).raise 0x303
    else if s.pl.role = .demoted then s
    else ((s.setRole .demoted).count 5894).raise 0x303
  else if (s.mem j).demoted then s
  else ((s.modMem j (fun m => { m with demoted := true })).count 5894).raise 0x303

/-! ### Drafts of a member (R469) -/

/-- A member's decision differs from the acting member's (R469): 0x30C, and the member becomes DEMOTED. -/
def State.disagrees (s : State) (acting : Option Nat) : State :=
  match acting with
  | none => s
  | some r =>
    if s.plyMember && decide (s.pl.role ≠ .acting) && decide (s.ownReason ≠ r) then
      (s.raise 0x30C).demote s.own
    else s

/-- DRAFT_COMPLETE (R162): the draft at the head is decided. `acting` is the acting member's decision as a member of its
ply has it, 0 for a pass, none where it has none. -/
def execDraftComplete (dt : Nat) (acting : Option Nat) (s : State) : Host.Outcome State Fault Refusal :=
  s.at_ dt (fun s => (s.disagrees acting).decideDraft)

/-! ## View and heartbeats -/

/-- Members. -/
def plyMembers : List Nat := [0, 1, 2]
/-- The view, itself included (R440). -/
def State.view (s : State) : List Nat := plyMembers.filter (fun j => decide (j = s.own) || (s.mem j).inView)
/-- Was a member heard on either path in the turn in progress? This member hears itself. -/
def State.heard (s : State) (j : Nat) : Bool := decide (j = s.own) || (s.mem j).link.isSome || (s.mem j).bus.isSome
/-- A heartbeat heard from a member in the turn in progress. -/
def PlyMem.beatNow (m : PlyMem) : Option Beat := match m.link with | some b => some b | none => m.bus
/-- Acting member of the view (Table 14.2, HOLDER); none where there is none. -/
def State.actor (s : State) : Option Nat := s.view.find? (fun j => decide (s.roleOf j = 3))
/-- LEASE. -/
def State.plLease (s : State) : Nat := s.fld 0xB0000 8 4
/-- GUARD. -/
def State.plGuard (s : State) : Nat := s.fld 0xB0000 12 2

/-- Has another member's lease expired with its guard in this member's count (R447)? The last heartbeat it sent as the
holder names the lease end. -/
def State.leaseOver (s : State) (j : Nat) : Bool :=
  if j = s.own then false
  else
    match (s.mem j).lease with
    | none => true
    | some e => decide ((s.tm.turn.setWidth 16 - (e + BitVec.ofNat 16 s.plGuard)).toNat < 2 ^ 15)

/-- Have the lease and guard of the latest holder of the view expired in this member's count (R450)? A view that never
had a holder has no lease to wait for. -/
def State.lastLeaseOver (s : State) : Bool :=
  if s.pl.lastHolder = s.own then
    decide ((s.tm.turn - (s.pl.leaseEnd + BitVec.ofNat 48 s.plGuard)).toNat < 2 ^ 47)
  else decide (s.pl.lastHolder = 3) || s.leaseOver s.pl.lastHolder

/-- Losses and admissions of one member (R440), and its path alarm (R445). -/
def State.viewStep (s : State) (j : Nat) : State :=
  let m := s.mem j
  let h := s.heard j
  let run := if h then m.heardRun + 1 else 0
  let quiet := if h then 0 else m.silent + 1
  let enters := !m.inView && decide (run ≥ 2)
  let lost := m.inView && decide (quiet ≥ s.plLease + s.plGuard)
  let one := m.link.isSome != m.bus.isSome && m.inView && s.bit 0xB0010 4
  let both := m.link.isSome && m.bus.isSome
  let oneRun := if one then m.oneRun + 1 else 0
  let twoRun := if both then m.twoRun + 1 else 0
  let deg := if oneRun ≥ 2 then true else if twoRun ≥ 2 then false else m.degraded
  let s1 := s.setMem j { m with
    heardRun := run, silent := quiet, inView := (m.inView || enters) && !lost, oneRun := oneRun, twoRun := twoRun
    degraded := deg, prevLink := m.link.isSome, prevBus := m.bus.isSome }
  let s2 := if enters then s1.raise 0x305 else s1
  let s3 := if lost then s2.raise 0x304 else s2
  let s4 := if deg && !m.degraded then s3.raise 0x306 else if !deg && m.degraded then s3.raise 0x307 else s3
  if enters && decide (s.roleOf j = 3) && !s.pl.hadActor && decide (s.pl.role = .standby ∨ s.pl.role = .joining) then s4.join
  else s4

/-- Did this member hear an acting member of its view in the turn just ended (R176)? -/
def State.heardActing (s : State) : Bool :=
  s.others.any (fun j => (s.mem j).inView &&
    (match (s.mem j).beatNow with | some b => decide (b.role = 3) | none => false))

/-- The runs of R463: SHADOW_BAD in each member's heartbeat of the turn just ended, this member's own included. -/
def State.shadowRuns (s : State) : State :=
  plyMembers.foldl (fun (a : State) j =>
    let beat := if j = a.own then a.pl.beat else (a.mem j).beatNow
    let bad := match beat with | some b => b.shadowBad | none => false
    a.modMem j (fun m => { m with badRun := if bad then min 15 (m.badRun + 1) else 0 })) s

/-! ## The flyer -/

/-- The flyer is granted to this member (R446, R448). -/
def State.grant (s : State) : State :=
  let s1 := { s with
    pl := { s.pl with
      epoch := s.pl.epoch + 1, leaseEnd := s.tm.turn + BitVec.ofNat 48 s.plLease, lastHolder := s.own, releasing := false
      stopAs := none, switchTo := none } }
  (s1.count 5893).setRole .acting

/-- Renewal and end of the lease at a boundary, and the end of a release (R446, R449). -/
def State.leaseStep (s : State) : State :=
  if s.pl.role ≠ .acting then s
  else if s.pl.releasing then s.setRole (s.pl.stopAs.getD .standby)
  else
    let voted := s.others.any (fun j =>
      match (s.mem j).beatNow with | some b => decide (b.vote = s.own) | none => false)
    let alone := decide (s.view.length < 3) && !s.bit 0xB0008 0
    if voted || alone then
      { s with pl := { s.pl with leaseEnd := s.tm.turn + BitVec.ofNat 48 s.plLease } }
    else if (s.tm.turn - s.pl.leaseEnd).toNat < 2 ^ 47 then s.setRole (s.pl.stopAs.getD .standby)
    else s

/-- Has the previous holder given up the flyer in this member's count (R448)? -/
def State.holderGone (s : State) : Bool :=
  let p := s.pl.lastHolder
  if p = 3 then true
  else if p = s.own then true
  else
    s.leaseOver p ||
    (match (s.mem p).beatNow with | some b => b.releasing || decide (b.role ≠ 3) | none => false)

/-- Does this member take the flyer at this boundary (R448, FORCE of Table 14.4)? -/
def State.takes (s : State) : Bool :=
  decide (s.pl.role = .standby ∨ s.pl.role = .joining) && decide (s.dev.st = .run) && decide (s.pl.vote = s.own) &&
  s.others.any (fun j =>
    match (s.mem j).beatNow with
    | some b => decide (b.vote = s.own) && decide (b.role ≠ 0) && decide (b.role ≠ 4) && !(s.mem j).demoted
    | none => false) &&
  s.holderGone

/-- PLY_RESULT (R470). -/
def State.plyResult (s : State) : List Word :=
  let bits := fun (p : Nat → Bool) => (plyMembers.map (fun j => b01 (p j) * 2 ^ j)).sum
  [packWord [(0, bits (fun j => s.view.contains j)), (4, bits s.isDemoted), (8, bits (fun j => decide (s.roleOf j = 1))),
    (12, s.actor.getD 3)], s.pl.epoch, 0, 0]

/-- The completion of a PLY_CMD. -/
def State.plyDone (s : State) (o : Option Desc) (status : Nat) : State :=
  match o with
  | none => s
  | some d => s.complete d { complOf d 10 status with turn := s.tm.turn, plyResult := s.plyResult }

/-- Step 6 of R471: the flyer is taken, by votes or by FORCE. -/
def State.takeStep (s : State) : State :=
  match s.pl.force with
  | some d =>
    let s1 := { s with pl := { s.pl with force := none } }
    if decide (s.dev.st = .run) && decide (s.pl.role = .standby ∨ s.pl.role = .joining) && s.actor.isNone then
      (s1.grant.raise 0x30E).plyDone (some d) 0
    else s1.plyDone (some d) 2
  | none => if s.takes then s.grant else s

/-- VOTE (R447). -/
def State.chooseVote (s : State) : Nat :=
  let ok := match s.actor with
    | none => none
    | some a =>
      let rel := if a = s.own then s.pl.releasing else
        match (s.mem a).last with | some b => b.releasing | none => false
      if s.leaseOver a || rel || s.isDemoted a then none else some a
  match ok with
  | some a => a
  | none =>
    match s.pl.switchTo with
    | some x => x
    | none =>
      let pick := fun (r : Nat) => s.view.find? (fun j => decide (s.roleOf j = r) && s.heard j && !s.isDemoted j)
      match pick 2 with
      | some j => j
      | none => (pick 1).getD 3

/-- Lease end in the holder's heartbeat, or this member's own (Table 14.2). -/
def State.leaseShown (s : State) : BitVec 16 :=
  match s.actor with
  | none => 0
  | some a =>
    if a = s.own then s.pl.leaseEnd.setWidth 16 else match (s.mem a).last with | some b => b.leaseEnd | none => 0

/-- Step 7 of R471: VOTE, and the heartbeat of the turn from the state at its boundary (R444). -/
def State.buildBeat (s : State) : State :=
  let v := s.chooseVote
  let bits := fun (p : Nat → Bool) => (plyMembers.map (fun j => b01 (p j) * 2 ^ j)).sum
  let b : Beat := {
    member := s.own, role := s.pl.role.code, releasing := s.pl.releasing, holder := s.actor.getD 3, vote := v
    view := bits (fun j => s.view.contains j), demoted := bits s.isDemoted, shadowBad := s.pl.shadowPrev
    epoch := s.pl.epoch.setWidth 16, leaseEnd := s.leaseShown, turn := s.tm.turn, tag := s.plTag }
  { s with pl := { s.pl with vote := v, beat := some b } }

/-- The holder of the view, its change (R448, source 0x300), and what a lapse of the lease reports (0x308). -/
def State.holderStep (s : State) : State :=
  let h := s.actor.getD 3
  let seen := decide (h ≠ 3) && decide (h ≠ s.own) && decide (h ≠ s.pl.holder)
  let s1 := if h = s.pl.holder then s else s.raise 0x300
  let s2 := { s1 with
    pl := { s1.pl with
      holder := h, hadActor := decide (h ≠ 3), lastHolder := if h = 3 then s1.pl.lastHolder else h
      epoch := if seen then s1.pl.epoch + 1 else s1.pl.epoch
      switchTo := if seen then none else s1.pl.switchTo } }
  let bare := (match s2.actor with | none => true | some a => s2.leaseOver a) && s2.lastLeaseOver
  let gone := bare && decide (s2.pl.lastHolder ≠ 3)
  let n := if bare then min 15 (s2.pl.orphan + 1) else 0
  let s3 := { s2 with pl := { s2.pl with lapsed := gone, orphan := n } }
  if gone && !s2.pl.lapsed then s3.raise 0x308 else s3

/-- The cause NO_ACTOR at a boundary (R176): `acted` says that this member acted throughout the turn just ended. -/
def State.noActorStep (s : State) (acted heard : Bool) : State :=
  let acts := decide (s.pl.role = .acting)
  if (!acted && !heard) || (!acts && s.actor.isNone) then
    (channels.filter (fun c => s.hasTx c)).foldl (fun (a : State) c => a.detect c 6 0 0)
      { s with dr := { s.dr with noActor := true } }
  else { s with dr := { s.dr with noActor := false } }

/-! ## Joining -/

/-- The mode of a code. -/
def loopMdFrom (n : Nat) : LoopMd := if n = 1 then .auto else if n = 2 then .manual else if n = 3 then .fallback else .off

/-- A stage's history as words (R464). -/
def StageSt.words (x : StageSt) : List Word :=
  [BitVec.ofNat 32 (b01 x.has), x.y, x.a, x.i, x.d, x.b, BitVec.ofNat 32 x.cnt, BitVec.ofNat 32 (b01 x.latch)]

/-- The history that words give a stage; its flags stay. -/
def StageSt.ofWords (x : StageSt) (w : List Word) : StageSt :=
  { x with
    has := decide (w.getD 0 0 ≠ 0), y := w.getD 1 0, a := w.getD 2 0, i := w.getD 3 0, d := w.getD 4 0, b := w.getD 5 0
    cnt := (w.getD 6 0).toNat, latch := decide (w.getD 7 0 ≠ 0) }

/-- Streams that a loop's sinks feed. -/
def sinkStreams (t : Img) (k : Nat) : List Nat :=
  ((List.range 4).filter (fun j => decide (snkKind t k j = 1) || decide (snkKind t k j = 2))).map (fun j => snkIdx t k j)

/-- The state of a loop as the acting member sends it (R464). -/
def State.loopImage (s : State) (k : Nat) : LoopImage :=
  let v := s.loop k
  { loop := k, mode := v.mode.code, cause := v.cause, counts := [v.ovrRun, v.staleRun, v.freshRun, v.noMaj]
    stages := (List.range 16).map (fun i => (Tbl.lookD v.stages i {}).words)
    streams := (sinkStreams s.regs.live k).map (fun n => (n, match s.stream n with | some x => x.fresh | none => 0)) }

/-- One loop's state is installed (R464). The 64 turns of R465 count from the last loop installed for the first time: the
acting member goes on sending states that this member has. -/
def State.installLoop (s : State) (x : LoopImage) : State :=
  let s1 := s.modLoop x.loop (fun v => { v with
    mode := loopMdFrom x.mode, cause := x.cause, ovrRun := x.counts.getD 0 0, staleRun := x.counts.getD 1 0
    freshRun := x.counts.getD 2 0, noMaj := x.counts.getD 3 0
    stages := (List.range 16).foldl (fun (t : Tbl StageSt) i =>
      Tbl.put t i {} ((Tbl.lookD v.stages i {}).ofWords (x.stages.getD i []))) v.stages })
  let s2 := x.streams.foldl (fun (a : State) e => a.modStream e.1 (fun y => { y with fresh := e.2 })) s1
  if s2.pl.installed.contains x.loop then s2
  else { s2 with pl := { s2.pl with installed := s2.pl.installed ++ [x.loop], syncTurns := 0 } }

/-- Step 3 of R471: a JOINING member installs the loop state that has arrived. -/
def State.installStep (s : State) : State :=
  let l := s.pl.install
  let s1 := { s with pl := { s.pl with install := [], syncTurns := s.pl.syncTurns + 1 } }
  if s.pl.role = .joining then l.foldl State.installLoop s1 else s1

/-- Has every configured loop been installed? -/
def State.allInstalled (s : State) : Bool := (loopsOf s.regs.live).all (fun k => s.pl.installed.contains k)

/-- JOIN_SYNC_TIMEOUT (R465): 64 turns after the last installation synchronisation starts again; after the third failure
the member is DEMOTED. -/
def execJoinSyncTimeout (dt : Nat) (s : State) : Host.Outcome State Fault Refusal :=
  s.at_ dt (fun s =>
    if decide (s.pl.role = .joining) && !s.pl.installed.isEmpty && decide (s.pl.syncTurns ≥ 64) then
      let n := s.pl.syncFails + 1
      let s1 := { s with pl := { s.pl with syncFails := n } }
      if n ≥ 3 then s1.demote s1.own else s1.startSync
    else s)

/-! ## Ply-wide descriptors (R467 to R470) -/

/-- Is a PLY_CMD malformed on the acting member (Table 14.4)? -/
def State.plyCmdBad (s : State) (act m : Nat) : Bool :=
  decide (m > 2) || (decide (act = 1) && (decide (s.roleOf m ≠ 2) || !s.view.contains m || s.isDemoted m)) ||
  (decide (act = 3) && !s.isDemoted m)

/-- PLY_CMD at acceptance (R341, R467, R470). -/
def State.acceptPly (s : State) (d : Desc) (act : Nat) (m : Nat) : State :=
  s.accept d 10 (fun s =>
    if s.plyMember = false ∨ act = 0 ∨ act > 4 then s.plyDone (some d) 2
    else if act = 4 then
      if decide (m = s.own) && decide (s.dev.st = .run) && decide (s.pl.role = .standby ∨ s.pl.role = .joining) &&
          s.actor.isNone && s.pl.force.isNone then
        { s with pl := { s.pl with force := some d } }
      else s.plyDone (some d) 2
    else if s.pl.role ≠ .acting then s.plyDone (some d) 3
    else if s.plyCmdBad act m then s.plyDone (some d) 2
    else s.plyWide d 10 (.cmd act m) (fun s => s))

/-- PLY_SWITCH. -/
def execPlySwitch (dt : Nat) (d : Desc) (member : Fin 4) (s : State) : Host.Outcome State Fault Refusal :=
  s.descRow dt d (.plyCmd 1 member) (fun s => s.acceptPly d 1 member.val)
/-- PLY_DEMOTE. -/
def execPlyDemote (dt : Nat) (d : Desc) (member : Fin 4) (s : State) : Host.Outcome State Fault Refusal :=
  s.descRow dt d (.plyCmd 2 member) (fun s => s.acceptPly d 2 member.val)
/-- PLY_REINSTATE. -/
def execPlyReinstate (dt : Nat) (d : Desc) (member : Fin 4) (s : State) : Host.Outcome State Fault Refusal :=
  s.descRow dt d (.plyCmd 3 member) (fun s => s.acceptPly d 3 member.val)
/-- PLY_FORCE. -/
def execPlyForce (dt : Nat) (d : Desc) (member : Fin 4) (s : State) : Host.Outcome State Fault Refusal :=
  s.descRow dt d (.plyCmd 4 member) (fun s => s.acceptPly d 4 member.val)

/-- A PLY_CMD action is executed at its boundary (Table 14.4). -/
def State.plyAction (s : State) (o : Option Desc) (act m : Nat) : State :=
  let s1 :=
    if act = 1 then
      let a := { s with pl := { s.pl with switchTo := some m } }
      if s.pl.role = .acting ∧ s.pl.stopAs.isNone = true then { a with pl := { a.pl with stopAs := some .standby } }
      else a
    else if act = 2 then s.demote m
    else if m = s.own then (if s.pl.role = .demoted then s.join else s)
    else s.modMem m (fun x => { x with demoted := false })
  (s1.raise 0x30E).plyDone o 0

/-- A ply-wide descriptor is executed at its boundary (R468, R469). -/
def State.runPly (s : State) (p : PlyDesc) : State :=
  let o : Origin := match p.desc with | some d => .host d | none => .ply
  match p.act with
  | .open_ b => s.enqueue (.open_ o b)
  | .foreign b => s.enqueue (.foreign o b)
  | .close n => s.takeClose o n.val
  | .loopParam _ | .loopMode _ => s.runLoopCmd p.desc p.act
  | .cmd a m => s.plyAction p.desc a m

/-- Step 2 of R471: the ply-wide descriptors of two turns ago. Those accepted here and not sent are lost once this member
no longer acts; a member that gets one after its boundary is demoted (R469); a PLY_CMD not executed by the boundary
opening t + 10 ends in TIMEOUT. -/
def State.plyDescStep (s : State) : State :=
  let age := fun (p : PlyDesc) => (s.tm.turn - p.turn).toNat
  let s1 := { s with pl := { s.pl with descs := s.pl.descs.filter (fun p => decide (age p < 2)) } }
  (s.pl.descs.filter (fun p => decide (age p ≥ 2))).foldl (fun (a : State) p =>
    match p.desc with
    | none => if age p = 2 then a.runPly p else (a.raise 0x30C).demote a.own
    | some d =>
      if p.sent = false ∧ a.pl.role ≠ .acting then a
      else if age p ≥ 10 then
        match p.act with
        | .cmd _ _ => a.plyDone (some d) 5
        | _ => a.runPly p
      else a.runPly p) s1

/-! ## A boundary (R471) -/

/-- What a member sent and heard in the turn just ended is cleared. -/
def State.clearTurn (s : State) : State :=
  let s1 := plyMembers.foldl (fun (a : State) j => a.modMem j (fun m => { m with
    link := none, bus := none, agreePart := {}, agree := none, outPart := [], outs := none })) s
  { s1 with pl := { s1.pl with sentAgree := false, sentOuts := false, sentSync := false } }

/-- A stop ordered in the turn just ended shows RELEASING in the heartbeat of the turn that begins (R449). Done before the
boundary orders new ones. -/
def State.releasingStep (s : State) (s0 : PlySt) : State :=
  if s.pl.role = .acting ∧ s0.stopAs.isSome = true ∧ s0.releasing = false then { s with pl := { s.pl with releasing := true } } else s

/-- The steps 2 to 7 of R471 at a boundary whose configuration is applied; a member in RUN is not OUT. -/
def State.plyBoundary (s : State) : State :=
  if s.plyMember then
    let s0 := { s with pl := { s.pl with shadowPrev := s.pl.shadowNow, shadowNow := false } }
    let s1 := if s0.dev.st = .run ∧ s0.pl.role = .out then s0.join else s0
    let acted := decide (s1.pl.role = .acting)
    let s2 := s1.plyDescStep.installStep
    let s3 := s2.others.foldl State.viewStep s2.shadowRuns
    let heard := s3.heardActing
    let s4 := (s3.leaseStep.releasingStep s.pl).takeStep
    let s5 := (s4.holderStep.noActorStep acted heard).buildBeat
    s5.clearTurn
  else s

/-! ## Agreement (R456 to R458) -/

/-- Contributing members with what `f` gives of each: this member's own by `own`, another's once its set has arrived. -/
def State.contributors {α : Type} (s : State) (own : α) (f : PlyMem → Option α) : List (Nat × α) :=
  plyMembers.filterMap (fun j =>
    if j = s.own then (if s.pl.role = .standby ∨ s.pl.role = .acting then some (j, own) else none)
    else if (s.roleOf j = 2 ∨ s.roleOf j = 3) ∧ s.isDemoted j = false then (f (s.mem j)).map (fun x => (j, x)) else none)

/-- This member's own agreement set: agreed taps in loop and tap order, and COMP of its eight outputs. -/
def State.ownAgree (s : State) : AgreeSet :=
  { taps := (agreeTaps s.regs.live).map (fun e => (s.tapVal (fun _ => none) e.1 e.2).1)
    comps := outputs.map (fun n => (s.loopOut n).compLatched) }

/-- The agreed value of fresh ones (R457); none where there is none. -/
def agreedOf (mid2 : Nat) : List Word → Option Word
  | [a, b, c] => some (fMid a b c)
  | [a, b] =>
    some (if mid2 = 0 then fMin a b else if mid2 = 1 then fMax a b else fOf ((fVal a + fVal b) / 2))
  | [a] => some a
  | _ => none

/-- The agreed values of a turn (R457, R458). -/
def State.agree (s : State) : State :=
  let keys := agreeTaps s.regs.live
  let s0 := keys.foldl (fun (a : State) e => a.keepTaps (fun _ => none) e.1 [e.2]) s
  let own := s.ownAgree
  let sets := s.contributors own (fun m => m.agree)
  let step := fun (t : Tbl (Word × Bool)) (i : Nat) (e : Nat × Nat) =>
    let fresh := (sets.filterMap (fun x => x.2.taps[i]?)).filter (fun x => !x.2 && fFinite x.1)
    let old := Tbl.lookD t (tapKey e.1 e.2) (0, true)
    Tbl.put t (tapKey e.1 e.2) (0, true)
      (match agreedOf (s.fld 0xB0000 1 2) (fresh.map (fun x => x.1)) with | some w => (w, false) | none => (old.1, true))
  let comp := match s.actor with
    | none => List.replicate 8 true
    | some a => if a = s.own then own.comps else match (s.mem a).agree with | some x => x.comps | none => List.replicate 8 true
  { s0 with
    pl := { s0.pl with
      agreed := (keys.zipIdx).foldl (fun (t : Tbl (Word × Bool)) (e : (Nat × Nat) × Nat) => step t e.2 e.1) s0.pl.agreed
      agreedComp := comp } }

/-- AGREEMENT_WINDOW_END (R457). -/
def execAgreementWindowEnd (s : State) : Host.Outcome State Fault Refusal :=
  s.sched (s.offsetAt (s.capUs + s.agreeUs)) (fun s =>
    if s.tm.agreeDone then s
    else
      let s1 := { s with tm := { s.tm with agreeDone := true } }
      if s1.plyMember && decide (s1.dev.st = .run) then s1.agree else s1)

/-! ## Votes (R459 to R463) -/

/-- This member's own output set: the SRC value of every sink of every due loop it has evaluated. -/
def State.ownOuts (s : State) : List SinkVal :=
  let t := s.regs.live
  (loopsOf t).flatMap (fun k =>
    match (s.loop k).eval with
    | some e =>
      ((List.range 4).filter (fun j => decide (snkKind t k j ≠ 0))).map (fun j =>
        { loop := k, sink := j, mode := (s.loop k).mode.code, val := (e.val (snkSrc t k j)).1 })
    | none => [])

/-- A sink's value in a set. -/
def sinkIn (l : List SinkVal) (k j : Nat) : Option SinkVal := l.find? (fun x => decide (x.loop = k) && decide (x.sink = j))

/-- Do two values of a sink agree (R459)? -/
def State.valsAgree (s : State) (a b : SinkVal) : Bool :=
  decide (a.mode = b.mode) && decide ((fOrd a.val - fOrd b.val).natAbs ≤ s.fld 0xB000C 0 8)

/-- Do two sets agree on a sink? -/
def State.setsAgree (s : State) (x y : List SinkVal) (k j : Nat) : Bool :=
  match sinkIn x k j, sinkIn y k j with
  | some a, some b => s.valsAgree a b
  | _, _ => false

/-- The contributing output sets in member order. -/
def State.outSets (s : State) : List (Nat × List SinkVal) := s.contributors s.ownOuts (fun m => m.outs)

/-- The voted value of a sink with the mode it was sent with (R459); none without a majority. -/
def State.voteSink (s : State) (sets : List (Nat × List SinkVal)) (k j : Nat) : Vote :=
  match sets.filterMap (fun x => sinkIn x.2 k j) with
  | [] => none
  | [a] => some (a.val, a.mode)
  | [a, b] => if s.valsAgree a b then some (a.val, a.mode) else none
  | a :: b :: c :: _ =>
    if s.valsAgree a b || s.valsAgree a c then some (a.val, a.mode)
    else if s.valsAgree b c then some (b.val, b.mode) else none

/-- Loops due in this turn that a ply votes on, with their sinks. -/
def State.dueSinks (s : State) : List (Nat × Nat) :=
  let t := s.regs.live
  ((loopsOf t).filter (fun k => (s.loop k).due && decide ((s.loop k).mode ≠ .off))).flatMap (fun k =>
    ((List.range 4).filter (fun j => decide (snkKind t k j ≠ 0))).map (fun j => (k, j)))

/-- Does member j deviate in this turn (R460)? -/
def State.deviates (s : State) (sets : List (Nat × List SinkVal)) (j : Nat) : Bool :=
  let late := decide (j ≠ s.own) && (s.mem j).outs.isNone &&
    (match (s.mem j).beatNow with | some b => decide (b.role = 2 ∨ b.role = 3) | none => false)
  let outvoted := match sets.find? (fun x => decide (x.1 = j)), sets.filter (fun x => decide (x.1 ≠ j)) with
    | some me, [a, b] =>
      s.dueSinks.all (fun e => s.setsAgree a.2 b.2 e.1 e.2) &&
      s.dueSinks.any (fun e => !s.setsAgree me.2 a.2 e.1 e.2 && !s.setsAgree me.2 b.2 e.1 e.2)
    | _, _ => false
  !s.isDemoted j && (late || outvoted)

/-- The counts of R460 for one member; its K-th deviating turn demotes it. -/
def State.devStep (s : State) (sets : List (Nat × List SinkVal)) (j : Nat) : State :=
  if s.deviates sets j then
    let n := (s.mem j).dev + 1
    let s1 := (s.modMem j (fun m => { m with dev := min 15 n })).count 5890
    if n ≥ s.fld 0xB0000 4 4 then s1.demote j else s1
  else s.modMem j (fun m => { m with dev := 0 })

/-- Do all other members of the view that are not demoted count this member DEMOTED (R460)? -/
def State.outcast (s : State) : Bool :=
  let l := s.view.filter (fun j => decide (j ≠ s.own) && !s.isDemoted j)
  !l.isEmpty && l.all (fun j =>
    match (s.mem j).last with | some b => decide (b.demoted / 2 ^ s.own % 2 = 1) | none => false)

/-- The shadow demotion of R463. -/
def State.shadowDemotion (s : State) : State :=
  match s.actor with
  | none => s
  | some a =>
    let l := s.view.filter (fun j => decide (j ≠ a) && decide (s.roleOf j = 2) && !s.isDemoted j)
    if decide (2 ≤ l.length) && l.all (fun j => decide ((s.mem j).badRun ≥ s.fld 0xB0000 16 4)) then s.demote a else s

/-- Demotions at a release point (R460, R463). -/
def State.demotions (s : State) (sets : List (Nat × List SinkVal)) : State :=
  let s1 := plyMembers.foldl (fun (a : State) j => a.devStep sets j) s
  let s2 := if s1.outcast then s1.demote s1.own else s1
  s2.shadowDemotion

/-- Sinks without majority are counted and the first of the turn reported (R459). -/
def State.noMajority (s : State) (sets : List (Nat × List SinkVal)) : State :=
  let n := (s.dueSinks.filter (fun e => (s.voteSink sets e.1 e.2).isNone)).length
  if n = 0 then s else (s.countN 5891 n).raiseOnce 0x30A 0x30A

/-- Fallbacks of cause PLY at a release point (R450, R461), and the way out of them (R245): `hit` says that some sink of
the loop had no majority. -/
def State.plyLoop (s : State) (k : Nat) (hit : Bool) : State :=
  let v := s.loop k
  let t := s.regs.live
  let n := if !v.due then v.noMaj else if hit then v.noMaj + 1 else 0
  let s1 := s.setLoop k { v with noMaj := n }
  if v.mode = .auto ∧ ((v.due ∧ n ≥ s.fld 0xB0000 4 4) ∨ s.pl.orphan ≥ 2) then
    (s1.modLoop k (fun v => { v with mode := .fallback, cause := 3, freshRun := 0, noMaj := 0 })).fellBack k 3
  else if v.mode = .fallback ∧ v.cause = 3 ∧ v.due = true then
    let r := if s.actor.isSome && !hit && v.eval.isSome then v.freshRun + 1 else 0
    if recoverOf t k ≠ 0 ∧ r ≥ recoverOf t k then
      (s1.modLoop k (fun v => { v with mode := .auto, cause := 0, freshRun := 0 })).raise 0x225
    else s1.modLoop k (fun v => { v with freshRun := r })
  else s1

/-- A JOINING member at a release point (R465): agreement with every voted value in K turns makes it STANDBY. -/
def State.joinStep (s : State) (sets : List (Nat × List SinkVal)) : State :=
  if s.pl.role = .joining ∧ s.allInstalled = true then
    let own := s.ownOuts
    let ok := s.dueSinks.all (fun e =>
      match s.voteSink sets e.1 e.2, sinkIn own e.1 e.2 with
      | some w, some x => s.valsAgree { x with val := w.1, mode := w.2 } x
      | _, _ => false)
    let n := if ok then s.pl.agreeRun + 1 else 0
    let s1 := { s with pl := { s.pl with agreeRun := n } }
    if n ≥ s.fld 0xB0000 4 4 then (s1.setRole .standby).raise 0x305 else s1
  else s

/-! ## Slots (R464, R483, R485) -/

/-- Has this member's evaluation of the turn completed? -/
def State.evalComplete (s : State) : Bool :=
  s.tm.twistDone && (loopsOf s.regs.live).all (fun k =>
    !(s.loop k).due || decide ((s.loop k).mode = .off) || (s.loop k).eval.isSome)

/-- A cell on every UP link of the ply. -/
def State.toPly (s : State) (c : CellOut) : State :=
  s.plyUp.foldl (fun (a : State) l => a.sendCell l c) s

/-- An AGREE entry: the agreement set in the agreement window, the output set once the evaluation is complete (R456,
R485). -/
def State.sendAgree (s : State) : State :=
  if s.dev.st ≠ .run then s
  else if s.tm.capDone && !s.tm.agreeDone && !s.pl.sentAgree then
    ({ s with pl := { s.pl with sentAgree := true } }).toPly (.agree s.ownAgree.taps s.ownAgree.comps)
  else if s.evalComplete && !s.tm.releaseDone && !s.pl.sentOuts then
    ({ s with pl := { s.pl with sentOuts := true } }).toPly (.outputs s.ownOuts)
  else s

/-- The next loop that this member installs or sends (Table 15.4, SYNC_NEXT). -/
def State.syncNextShown (s : State) : Nat :=
  if s.pl.role = .joining then ((loopsOf s.regs.live).find? (fun k => !s.pl.installed.contains k)).getD 0 else s.pl.syncNext

/-- A HEART entry. -/
def State.sendHeart (s : State) : State :=
  match s.pl.beat with
  | none => s
  | some b => s.toPly (.heart b s.regs.crcLast s.syncNextShown (s.pl.installed.length % 256))

/-- The loops to send next: up to n configured loops in ascending number from `a`, wrapping (R464). -/
def nextLoops (t : Img) (a n : Nat) : List Nat :=
  ((loopsOf t).filter (fun k => decide (a ≤ k)) ++ (loopsOf t).filter (fun k => decide (k < a))).take n

/-- Ply-wide descriptors accepted in the turn before and not sent leave in acceptance order (R468). -/
def State.sendDescs (s : State) : State :=
  let l := s.pl.descs.filter (fun p => !p.sent && decide (p.turn + 1 = s.tm.turn))
  let s1 := { s with pl := { s.pl with descs := s.pl.descs.map (fun p =>
    if !p.sent && decide (p.turn + 1 = s.tm.turn) then { p with sent := true } else p) } }
  l.foldl (fun (a : State) p => a.plyUp.foldl (fun (b : State) k => b.sendMgmt k (.desc p.turn p.act)) a) s1

/-- Loop states for a JOINING member of the view (R464). -/
def State.sendSync (s : State) : State :=
  if s.tm.releaseDone && !s.pl.sentSync && s.view.any (fun j => decide (s.roleOf j = 1)) then
    let l := nextLoops s.regs.live s.pl.syncNext (s.fld 0xB0000 20 8)
    let next := match l.getLast? with
      | some k => (k + 1) % 256
      | none => s.pl.syncNext
    let s1 := { s with pl := { s.pl with sentSync := true, syncNext := next } }
    l.foldl (fun (a : State) k => a.plyUp.foldl (fun (b : State) i => b.sendMgmt i (.loop (b.loopImage k))) a) s1
  else s

/-- A MGMT entry of a number of cells: cells not acknowledged again, then what the acting member has to send. -/
def State.sendMgmtSlot (s : State) (cells : Nat) : State :=
  let s1 := (links.filter (fun l => s.linkIsUp l)).foldl (fun (a : State) l => a.resendMgmt l cells) s
  if s1.plyMember && decide (s1.pl.role = .acting) then s1.sendDescs.sendSync else s1

/-- WILIST_SLOT_START (R483): the cells of a used entry of the slot table whose offset has come. -/
def execWilistSlotStart (dt : Nat) (slot : Fin 32) (s : State) : Host.Outcome State Fault Refusal :=
  s.at_ dt (fun s =>
    let e := s.live (0xB8100 + 4 * slot.val)
    let kind := fieldOf e 0 3
    if s.reached (s.offsetAt (fieldOf e 4 14)) = false then s
    else if kind = 1 then s.sendTime
    else if kind = 2 then s.sendAgree
    else if kind = 3 then s.sendHeart
    else if kind = 4 then s.sendRelay (fieldOf e 20 12)
    else if kind = 5 then s.sendMgmtSlot (fieldOf e 20 12)
    else s)

end Sys2Proof.Machine
end

