-- ==== Sys2Proof/Machine/Faults.lean ====
section
/-!
DEFINITION. The field bridge and the field-die reset (R400, R503 to R507), transitions of the device state (R565), and
entry to SAFE (R512, R513).
-/

namespace Sys2Proof.Machine

/-! ## Device state -/

/-- DV_STATE of a device state; OFF and RESET are never read. -/
def DevState.code : DevState → Nat
  | .off => 0
  | .reset => 1
  | .selfTest => 2
  | .setUp => 3
  | .run => 4
  | .safe => 5

/-- A transition after SELF-TEST: slub 0x0003 and source 0x05A (R565). -/
def State.toState (s : State) (d : DevState) : State :=
  (({ s with dev := { s.dev with st := d } }).slub 0x0003 s.dev.st.code d.code 0).raise 0x05A

/-- SAFE is entered with a cause (R512, R513): spindles go to LISTEN_ONLY, outputs to their failure state, the named feeds
are held off, and a ply member becomes OUT. -/
def State.enterSafe (s : State) (cause : Nat) : State :=
  if s.dev.st = .setUp ∨ s.dev.st = .run then
    let s1 := { s with fa := { s.fa with safeCause := cause }, dev := { s.dev with runPend := false } }
    let s2 := ((s1.toState .safe).slub 0x0002 cause 0 0).raise 0x000
    let s3 := channels.foldl (fun (a : State) c => a.commitMode c .listenOnly) s2
    let s4 := outputs.foldl (fun (a : State) n => a.outFail n 5) s3
    let s5 := ((List.range 8).filter (fun n => s4.bit 0x1034 (8 + n))).foldl State.feedOff s4
    (if s5.plyMember && decide (s5.pl.role ≠ .out) then s5.setRole .out else s5).refreshTrip
  else s

/-! ## Posted writes -/

/-- What a posted write does when the field die has it, beyond its register value (R398, R400). -/
def State.delivered (s : State) (p : Posted) : State :=
  if p.off = 0xA8800 ∨ p.off = 0xA1804 then s.setLock p.off (p.data &&& 1)
  else if p.off = 0xA1800 then s.loClear p.data
  else if 0xA8000 ≤ p.off ∧ p.off < 0xA8800 ∧ p.off % 256 = 0x40 then s.fdDelivered ((p.off - 0xA8000) / 256) p.data
  else s

/-- FIELD_WRITE_ACK (R400, R402): the write is in the field die, its shadow value is acknowledged, FIELD_BUSY is 0. -/
def execFieldWriteAck (dt : Nat) (s : State) : Host.Outcome State Fault Refusal :=
  s.at_ dt (fun s =>
    match s.fa.posted with
    | some p =>
      if s.fieldUp then
        let s1 := s.acked .posted
        let s2 := { s1 with
          fa := { s1.fa with posted := none }
          regs := { s1.regs with
            fieldShadow := Tbl.put s1.regs.fieldShadow p.off (resetAt p.off) (s1.shadow p.off) } }
        s2.delivered p
      else s
    | none => s)

/-! ## Timeouts and the field-die reset -/

/-- Commands to outputs in transit are lost. -/
def State.dropSent (s : State) : State :=
  outputs.foldl (fun (a : State) n => a.modLoopOut n (fun o => { o with sent := none })) s

/-- A posted write that is lost: counted and remembered; its shadow returns to the acknowledged value (R504, R506). -/
def State.losePosted (s : State) : State :=
  match s.fa.posted with
  | none => s
  | some p =>
    let s1 := { s with
      fa := { s.fa with posted := none, lost := s.fa.lost ++ [p.seq] }
      regs := { s.regs with
        shadow := Tbl.put s.regs.shadow p.off (resetAt p.off) (Tbl.lookD s.regs.fieldShadow p.off (resetAt p.off)) } }
    s1.count 5762

/-- A field-die reset begins, or is started again (R503 to R505, R507). -/
def State.fieldReset (s : State) : State :=
  let n := s.fa.attempts + 1
  let s1 := { s with
    fa := { s.fa with field := .inReset, attempts := n, resetAt := s.clock, holdDone := false, xfers := [] } }
  let s2 := ((s1.slub 0x1203 n 0 0).raise 0x006).count 5761
  let s3 := outputs.foldl (fun (a : State) k => a.outFail k 4) (s2.losePosted.dropSent)
  (channels.filter (fun c => (s3.line c).armed.isSome)).foldl State.captureTimeout s3

/-- The transfer that has waited BRIDGE_US for its acknowledgement, the one sent first where there are several (R503). -/
def State.bridgeLate (s : State) : Option Xfer :=
  s.fa.xfers.find? (fun x => decide (s.clock - x.at_ ≥ s.fld 0xF0004 0 8 * 1000))

/-- Sequence number that the report of a retry names: that of a posted write; only those have one (log 88). -/
def State.retrySeq (s : State) (k : XferKind) : Nat :=
  match k, s.fa.posted with
  | .posted, some p => p.seq.toNat
  | _, _ => Config.freeNat s.free

/-- A transfer is sent again (R503). -/
def State.resend (s : State) (x : Xfer) : State :=
  let s1 := { s.useFree with
    fa := { s.fa with
      field := .retrying
      xfers := s.fa.xfers.filter (fun y => decide (y ≠ x)) ++ [{ x with at_ := s.clock, tries := x.tries + 1 }] } }
  ((s1.count 5760).slubOnce 0x20005 0x1202 (s.retrySeq x.kind) 0 0).raiseOnce 0x005 0x005

/-- BRIDGE_TIMEOUT (R503): the transfer is sent again, or after the last try the field-die reset begins. -/
def execBridgeTimeout (dt : Nat) (s : State) : Host.Outcome State Fault Refusal :=
  s.at_ dt (fun s =>
    match s.fieldUp, s.bridgeLate with
    | true, some x => if x.tries < s.fld 0xF0004 8 3 then s.resend x else s.fieldReset
    | _, _ => s)

/-- FIELD_RESET_HOLD_END (R504): the reset was held for 100 µs. -/
def execFieldResetHoldEnd (dt : Nat) (s : State) : Host.Outcome State Fault Refusal :=
  s.at_ dt (fun s =>
    if decide (s.fa.field = .inReset) && decide (s.clock - s.fa.resetAt ≥ 100000) then
      { s with fa := { s.fa with holdDone := true } }
    else s)

/-- A feed whose cool-down ended while its register path was out of service moves on (R303). -/
def State.coolOn (s : State) (n : Nat) : State :=
  let f := s.feed n
  if f.st = .cooling ∧ f.coolEnd ≤ s.clock then s.leaveOff n else s

/-- FIELD_RESET_END (R504, R506): the restore is complete and the lost writes are named. -/
def State.fieldEnd (s : State) : State :=
  let l := s.fa.lost
  let a := l.headD 0xFFFF
  let b := l.getLastD 0xFFFF
  let s1 := { s with
    fa := { s.fa with field := .normal, attempts := 0, upAt := s.clock, holdDone := false, lost := [], lostFirst := a, lostLast := b } }
  (((List.range 8).foldl State.coolOn s1.fdRestore).slub 0x1204 (a.toNat + 65536 * b.toNat) l.length 0).raise 0x007

/-- FIELD_RESET_END. -/
def execFieldResetEnd (dt : Nat) (s : State) : Host.Outcome State Fault Refusal :=
  s.at_ dt (fun s => if decide (s.fa.field = .inReset) && s.fa.holdDone then s.fieldEnd else s)

/-- FIELD_RESET_RESTART (R507): 1 ms without an end. -/
def execFieldResetRestart (dt : Nat) (s : State) : Host.Outcome State Fault Refusal :=
  s.at_ dt (fun s =>
    if decide (s.fa.field = .inReset) && decide (s.clock - s.fa.resetAt ≥ 1000000) then
      if s.fa.attempts < 3 then s.fieldReset else s.enterSafe 2
    else s)

end Sys2Proof.Machine
end

