-- ==== Sys2Proof/Machine/Crc.lean ====
section
/-!
DEFINITION. The configuration CRC (R403 to R409): the covered image and the passes over it.
-/

namespace Sys2Proof.Machine

/-! ## The covered image (R403) -/

/-- Live value of a register's RW, WM and LK fields (R403). The window on the relay table contributes the entry that
CS_RLY_INDEX selects (log 45). -/
def State.coveredWord (s : State) (off : Nat) (d : RegDef) : Word :=
  let rw := d.maskOf (fun t => decide (t = .rw))
  let wm := d.maskOf (fun t => decide (t = .wm))
  let lk := d.maskOf (fun t => decide (t = .lk))
  let v := if off = 0xB8014 ∨ off = 0xB8018 ∨ off = 0xB801C then
      (s.relay (fieldOf (s.rwi 0xB8010) 0 12)).getD ((off - 0xB8014) / 4) 0
    else s.live off
  (v &&& rw) ||| (s.rwi off &&& wm) ||| (s.lock off &&& lk)

/-- Does a register contribute (R403)? -/
def covered (off : Nat) (d : RegDef) : Bool :=
  !portPrivate off && decide (off ≠ 0x1040) && decide (d.maskOf (fun t => decide (t = .rw ∨ t = .wm ∨ t = .lk)) ≠ 0)

/-- The CRC register after the register at an offset. -/
def State.crcReg (s : State) (c : Word) (off : Nat) : Word :=
  match regAt off with
  | some (d, _) => if covered off d then crcAdd c (wordBytes (s.coveredWord off d)) else c
  | none => c

/-- An exact-match entry in the covered image: KEY, then ARG with bit 31 set. -/
def EmEntry.bytes (e : EmEntry) : List Byte :=
  wordBytes (packWord [(0, e.id.toNat), (29, b01 e.ide)]) ++
  wordBytes (packWord [(0, e.ch), (4, e.fdf), (16, e.route), (31, 1)])

/-- Bytes 0x00 to 0x27 of a stream table entry (Table 5.13). -/
def Stream.cfgBytes (x : Stream) : List Byte :=
  let b := x.cfg
  wordBytes (packWord [(0, b.id.toNat), (29, b01 b.ide)]) ++
  wordBytes (packWord [(0, b.ch.val), (4, b.format.toNat), (6, b.kind.toNat), (8, b.source.toNat), (16, b.len.toNat),
    (23, b01 b.auth), (24, b.keySlot.toNat)]) ++
  wordBytes (packWord [(0, b.period.toNat), (16, b.vlead.toNat), (24, b.vport.idx)]) ++ wordBytes b.offIa ++
  wordBytes b.deadline ++ wordBytes b.jitter ++ wordBytes (packWord [(0, b.stale.toNat)]) ++ wordBytes 0 ++
  leBytes 8 b.vaddr.toNat

/-- Bytes 0x00 to 0x13 of a foreign declaration (Table 5.14). -/
def Foreign.cfgBytes (f : Foreign) : List Byte :=
  let b := f.cfg
  wordBytes (packWord [(0, b.id.toNat), (29, b01 b.ide), (30, b01 b.rtr)]) ++
  wordBytes (packWord [(0, b.ch.val), (4, b.format.toNat), (6, b01 b.sporadic), (8, b.len.toNat), (16, b.node.val),
    (24, b.feed.toNat)]) ++
  wordBytes b.period ++ wordBytes b.jitter ++ wordBytes b.deadline

/-- The CRC register after n elements of a table, each of which is what `f` gives for its number. -/
def crcTable (c : Word) (n : Nat) (f : Nat → List Byte) : Word := (List.range n).foldl (fun a i => crcAdd a (f i)) c

/-- CRC-32 of the covered image (R403, R404). -/
def State.cfgCrc (s : State) : Word :=
  let c1 := (List.range 0x44000).foldl (fun a i => s.crcReg a (0x1000 + 4 * i)) 0xFFFFFFFF
  let c2 := crcTable c1 4096 (fun i => wordBytes (s.route i).1 ++ wordBytes (s.route i).2)
  let c3 := crcTable c2 32768 (fun i => match Tbl.look s.cr.em i with | some e => e.bytes | none => List.replicate 8 0)
  let c4 := crcTable c3 4096 (fun i =>
    match s.stream i with | some x => if x.isOpen then x.cfgBytes else List.replicate 40 0 | none => List.replicate 40 0)
  ~~~(crcTable c4 8192 (fun i => match Tbl.look s.dr.foreign i with | some f => f.cfgBytes | none => List.replicate 20 0))

/-! ## Passes -/

/-- DV_CRC_CFG.EN. -/
def State.crcOn (s : State) : Bool := s.bit 0x1020 0

/-- The action of DV_CRC_CFG.ACTION on a mismatch (Table 12.6). -/
def State.crcAct (s : State) : State :=
  let a := s.fld 0x1020 1 2
  if a = 1 then
    if s.plyMember && decide (s.pl.role = .acting) && decide (s.pl.stopAs ≠ some .demoted) then
      { s with pl := { s.pl with stopAs := some .demoted } }
    else s
  else if a = 2 then s.enterSafe 1
  else s

/-- A completed pass mismatches (R407, R408). -/
def State.crcMiss (s : State) (crc : Word) : State :=
  if s.regs.graceOn then
    let n := s.regs.graceLeft - 1
    ({ s with
      regs := { s.regs with crcMismatch := true, graceLeft := n, graceOn := decide (n ≠ 0) } }).raise 0x059
  else
    let s1 := { s with regs := { s.regs with crcMismatch := true } }
    ((s1.slub 0x0B02 crc.toNat (s.rwi 0x1024).toNat (s.fld 0x1020 1 2)).raise 0x050).crcAct

/-- A pass that no change of the image has broken ends with a CRC (R405, R409). -/
def State.crcEnd (s : State) (crc : Word) : State :=
  let s1 := { s with regs := { s.regs with crcLast := crc } }
  if crc = s.rwi 0x1024 then
    { s1 with regs := { s1.regs with crcMismatch := false, graceOn := false, graceLeft := 0 } }
  else s1.crcMiss crc

/-- Is the boundary that opens a turn one at which passes end and start (R405)? -/
def crcTurn (turn : BitVec 48) : Bool := decide (turn.toNat % 64 = 0)

/-- The pass in progress at the boundary that opens `turn`, before its configuration applies; `loaded` says that the
boundary takes a LOAD_TURN (R405, R406). -/
def State.crcStop (s : State) (turn : BitVec 48) (loaded : Bool) : State :=
  let s1 :=
    if loaded && s.regs.passOn && s.regs.passValid then
      ({ s with regs := { s.regs with passValid := false } }).count 5729
    else s
  if crcTurn turn && s1.regs.passOn then
    let s2 := { s1 with regs := { s1.regs with passOn := false } }
    if s1.regs.passValid then s2.crcEnd s1.cfgCrc else s2
  else s1

/-- The next pass starts under the configuration that the boundary has applied. -/
def State.crcStart (s : State) (turn : BitVec 48) : State :=
  if crcTurn turn && s.crcOn then { s with regs := { s.regs with passOn := true, passValid := true } } else s

end Sys2Proof.Machine
end

