-- ==== Sys2Proof/Machine/CommitChecks.lean ====
section
/-!
DEFINITION. The checks of a commit (R390 to R393): the configuration that named groups would give, the limits of each
group's chapter, and the checks that span groups (R33, R60, R167, R249, R276, R442, R484, R488).
-/

namespace Sys2Proof.Machine

/-! ## The configuration a commit would give -/

/-- The buffered registers as they would stand after applying the groups of a mask: their shadow values, but for fields a
lock guards (R392, R398). -/
def State.candImg (s : State) (mask : Word) : Img :=
  let named := fun (off : Nat) => match groupOf off with | some g => bitOf mask g | none => false
  ((s.regs.live ++ s.regs.shadow).map (·.1)).foldl (fun (t : Img) off =>
    if named off then Tbl.put t off (resetAt off) (mergeBits (~~~(s.guardMask off)) (s.live off) (s.shadow off)) else t)
    s.regs.live

/-- The relay entries as they would stand. -/
def State.candRly (s : State) (mask : Word) : Tbl (List Word) := if bitOf mask 26 then s.cs.rlyShadow else s.cs.rlyLive

/-- A field of an image. -/
def Img.fld (t : Img) (off lo w : Nat) : Nat := fieldOf (t.at_ off) lo w

/-- Would the device be a ply member under an image (R436)? -/
def State.memberUnder (s : State) (t : Img) : Bool := bitOf (t.at_ 0xB0000) 0 && decide (s.dev.plyId ≠ 3)

/-! ## Limits by group -/

/-- Limits of a channel (Tables 3.2, 3.4, 3.7, R78). -/
def chOk (live t : Img) (ch : Nat) : Bool :=
  let b := spChBase ch
  let n1 := t.fld (b + 4) 9 8 + 1
  let n2 := t.fld (b + 4) 17 7 + 1
  let nj := t.fld (b + 4) 24 7 + 1
  let nc := (t.fld (b + 4) 0 9 + 1) * (1 + n1 + n2)
  let d1 := t.fld (b + 8) 5 5 + 1
  let d2 := t.fld (b + 8) 10 4 + 1
  let dj := t.fld (b + 8) 14 4 + 1
  let dc := (t.fld (b + 8) 0 5 + 1) * (1 + d1 + d2)
  let fd := bitOf (t.at_ b) 4
  let brs := bitOf (t.at_ b) 5
  let same := decide (t.at_ (b + 4) = live.at_ (b + 4)) && decide (t.at_ (b + 8) = live.at_ (b + 8)) &&
    decide (t.at_ (b + 12) = live.at_ (b + 12)) && decide (t.fld b 4 2 = live.fld b 4 2)
  decide (t.fld b 0 3 ≤ 4) && decide (2 ≤ n2) && decide (nj ≤ n1) && decide (nj ≤ n2) && within 8 385 (1 + n1 + n2) &&
  within 160 16000 nc && decide (2 ≤ d2) && decide (dj ≤ d1) && decide (dj ≤ d2) && within 5 49 (1 + d1 + d2) &&
  (!(fd && brs) || within 16 nc dc) && (!brs || fd) && (same || decide (live.fld b 0 3 = 0)) &&
  decide (t.fld (b + 0x10) 0 8 ≠ 0) && decide (t.fld (b + 0x14) 0 2 ≠ 3) && decide (t.fld (b + 0x14) 16 4 ≠ 0) &&
  decide (t.fld (b + 0x18) 0 16 ≠ 0)

/-- The order of the phases (R53) and the longest twist window, 60 % of the turn (R33), under an image of group TIME and
PL_CFG.EN: the twist phase starts AGREE_US after the capture point on a ply member, else 10 µs after it. -/
def State.windowOk (s : State) (t : Img) : Bool :=
  let len := t.fld 0x10004 0 14
  let w := t.fld 0x10008 0 14 + (if s.memberUnder t then t.fld 0x10008 16 8 else 10)
  let r := len * t.fld 0x1000C 0 10 / 1000
  decide (w < r) && decide ((r - w) * 10 ≤ len * 6)

/-- Limits of group TIME (Table 2.1), but for those that group PLY shares. -/
def State.timeOk (s : State) (t : Img) : Bool :=
  let len := t.fld 0x10004 0 14
  within 250 10000 len && within 1 999 (t.fld 0x1000C 0 10) && within 20 200 (t.fld 0x10008 16 8) &&
  within 1 100 (t.fld 0x10008 24 7) && within 1 500 (t.fld 0x10010 0 9) && within 1 255 (t.fld 0x10010 16 8) &&
  decide (t.fld 0x10000 0 2 ≠ 3) &&
  (decide (s.dev.st ≠ .run) || decide (len = s.lenUs))

/-- Limits of group CARD (R135, Tables 4.1 to 4.3). -/
def State.cardOk (s : State) (t : Img) : Bool :=
  channels.all (fun c => decide (t.fld (0x48104 + 32 * c) 0 16 ≤ t.fld (0x48104 + 32 * c) 16 16)) &&
  decide ((channels.map (fun c => t.fld (0x48104 + 32 * c) 0 16 + (s.use c).res)).sum ≤ bobbinCount) &&
  t.all (fun e =>
    !(decide (0x40000 ≤ e.1) && decide (e.1 < 0x48000) && decide (e.1 % 16 = 8)) ||
    (decide (fieldOf e.2 16 2 ≠ 3) && decide (fieldOf e.2 18 2 ≠ 3) && decide (fieldOf e.2 20 2 ≠ 3)))

/-- Limits of group DRAFT. -/
def draftOk (t : Img) : Bool :=
  decide (100 ≤ t.fld 0x50000 0 16) &&
  channels.all (fun c =>
    let b := drChBase c
    let fmt := t.fld (b + 12) 0 2
    decide (t.fld b 8 24 ≠ 0) && decide (fmt ≠ 3) && lenValid fmt (t.fld (b + 4) 24 7) && decide (t.fld (b + 12) 8 8 ≠ 0))

/-- Limits of group LWATCH (R217). -/
def lwOk (t : Img) : Bool :=
  channels.all (fun c =>
    let b := lwBase c
    decide (t.fld (b + 4) 5 13 < t.fld (b + 4) 18 13) && decide (t.fld (b + 8) 0 16 ≠ 0) && decide (t.fld (b + 8) 16 16 ≠ 0) &&
    decide (t.fld (b + 12) 16 16 < t.fld (b + 12) 0 16) && decide (t.fld (b + 16) 0 4 ≠ 0) &&
    decide (t.fld (b + 16) 4 7 ≤ 100) && decide (t.fld (b + 16) 16 16 ≠ 0) && decide (t.fld (b + 20) 0 2 ≠ 3) &&
    decide (10 ≤ t.fld (b + 20) 3 13) && decide (t.fld (b + 20) 16 16 ≠ 0) && decide (1000 ≤ t.fld (b + 24) 0 24) &&
    decide (t.fld (b + 24) 24 8 ≠ 0))

/-- Limits of group LIO (R276), but for the check that group TIME shares. -/
def lioOk (t : Img) : Bool :=
  (List.range 16).all (fun n =>
    decide (t.fld (0xA0000 + 16 * n) 0 2 ≠ 3) && within 1000 25000 (t.fld (0xA0000 + 16 * n) 8 16)) &&
  (List.range 8).all (fun n =>
    let b := 0xA1000 + 64 * n
    decide (t.fld b 0 2 ≠ 3) && within 500 10000 (t.fld b 16 16) && decide (t.fld (b + 4) 16 16 ≤ 24000) &&
    decide (t.fld (b + 8) 0 2 ≠ 3) &&
    decide (t.fld (b + 4) 0 16 ≤ t.fld (b + 4) 16 16) && decide (t.fld (b + 8) 8 8 ≠ 0) && within 50 4000 (t.fld (b + 12) 0 12) &&
    decide (t.fld (b + 12) 12 4 ≠ 0) && within 20 5000 (t.fld (b + 12) 16 16))

/-- R276: WD_MS × 1,000 is at least 2 × L for every output. -/
def wdOk (t : Img) : Bool :=
  (List.range 8).all (fun n => decide (2 * t.fld 0x10004 0 14 ≤ t.fld (0xA1008 + 64 * n) 8 8 * 1000))

/-- Limits of group FEED (R297, R311). -/
def feedOk (t : Img) : Bool :=
  (List.range 8).all (fun n =>
    let b := 0xA8000 + 256 * n
    let ik := fun k => t.fld (b + 0x20 + 4 * k) 0 12
    let tk := fun k => t.fld (b + 0x20 + 4 * k) 12 20
    decide (t.fld b 1 2 < 2) && decide (t.fld b 4 4 ≠ 0) && within 10 10000 (t.fld b 8 14) && decide (10 ≤ t.fld b 24 8) &&
    decide (t.fld (b + 4) 0 16 < t.fld (b + 4) 16 16) && decide (t.fld (b + 4) 16 16 ≤ 36000) &&
    within 500 20000 (t.fld (b + 8) 0 16) && within 100 50000 (t.fld (b + 8) 16 16) && within 1000 20000 (t.fld (b + 12) 0 16) &&
    within 10 5000 (t.fld (b + 16) 0 16) && decide (ik 7 * 10 < t.fld (b + 20) 0 16) &&
    decide (t.fld (b + 20) 16 16 ≤ t.fld (b + 20) 0 16) && within 10 60000 (t.fld (b + 24) 0 16) &&
    decide (t.fld (b + 24) 16 8 ≠ 0) && decide (10 ≤ ik 0) && decide (1 ≤ tk 7) &&
    (List.range 7).all (fun k => decide (ik k < ik (k + 1)) && decide (tk (k + 1) < tk k)))

/-- Limits of group WHORL. -/
def whorlOk (t : Img) : Bool :=
  within 10 1000 (t.fld 0x4400 0 10) &&
  t.all (fun e => !(decide (0x5000 ≤ e.1) && decide (e.1 < 0x5FC0)) || decide (fieldOf e.2 8 2 ≠ 0))

/-- Limits of group PLY (R436 and the PL_ registers), but for checks that other groups share. -/
def State.plyOk (s : State) (t : Img) : Bool :=
  let en := bitOf (t.at_ 0xB0000) 0
  let hb := 0xB0010
  !(en && decide (s.dev.plyId = 3)) && decide (t.fld 0xB0000 1 2 ≠ 3) && decide (t.fld 0xB0000 4 4 ≠ 0) &&
  decide (2 ≤ t.fld 0xB0000 8 4) && decide (t.fld 0xB0000 12 2 ≠ 0) && decide (t.fld 0xB0000 16 4 ≠ 0) &&
  decide (t.fld 0xB0000 20 8 ≠ 0) && (!en || decide (t.fld 0xB0004 0 16 ≠ 0)) &&
  (!bitOf (t.at_ hb) 4 || (decide (t.fld hb 6 2 ≠ 0) && decide (t.fld hb 6 2 ≠ 3))) && decide (t.fld hb 16 12 ≤ 4093) &&
  decide (10 ≤ t.fld 0xB0018 16 16)

/-- Limits of group MEM. -/
def memOk (t : Img) : Bool := within 16 4096 (t.fld 0xC8000 0 13) && decide (t.fld 0xC8000 16 8 ≠ 0)

/-- Limits of group REPAIR. -/
def repairOk (t : Img) : Bool :=
  decide (16 ≤ t.fld 0xF8000 16 16) && within 10 500 (t.fld 0xF8004 0 10) && within 10 500 (t.fld 0xF8004 16 10) &&
  decide (t.fld 0xF8004 16 10 < t.fld 0xF8004 0 10)

/-- Limits of group FAULT (R516). -/
def faultOk (t : Img) : Bool :=
  decide (t.fld 0xF0000 16 3 ≤ 4) && decide (t.fld 0xF0000 20 3 ≤ 4) && within 10 200 (t.fld 0xF0004 0 8) &&
  decide (t.fld 0xF0004 8 3 ≠ 0) && decide (4 ≤ t.fld 0xF0004 16 12) && decide (t.fld 0xF0004 28 2 ≤ 1)

/-- Limits of group TRACE. -/
def traceOk (t : Img) : Bool :=
  decide (t.fld 0x110000 4 3 ≤ 4) && decide (t.fld 0x110000 8 3 ≤ 4) && decide (t.fld 0x110008 0 8 ≠ 0) &&
  decide (t.fld 0x110008 8 8 ≤ t.fld 0x110008 16 8) && decide (t.fld 0x110010 0 12 = 0) && within 8 20 (t.fld 0x110018 0 5)

/-- Limits of group DEVICE. -/
def deviceOk (t : Img) : Bool := decide (t.fld 0x1020 1 2 ≠ 3) && decide (t.fld 0x1020 4 4 ≠ 0)

/-! ## Slots and relay entries (R484, R488) -/

/-- An entry of the slot table: kind, start in µs and cells. -/
structure SlotEnt where
  kind : Nat
  start : Nat
  cells : Nat

/-- The used entries of the slot table in index order. -/
def slotEnts (t : Img) : List SlotEnt :=
  (List.range 32).filterMap (fun k =>
    let o := 0xB8100 + 4 * k
    if t.fld o 0 3 = 0 then none else some { kind := t.fld o 0 3, start := t.fld o 4 14, cells := t.fld o 20 12 })

/-- Length of an entry in µs (R484). -/
def slotLen (cells : Nat) : Nat := ceilDiv (cells * 1024) 10000

/-- Do used entries ascend without overlap (R484)? -/
def slotsAscend : List SlotEnt → Bool
  | a :: b :: l => decide (a.start < b.start) && decide (a.start + slotLen a.cells ≤ b.start) && slotsAscend (b :: l)
  | _ => true

/-- GAP_US (R488): the longest interval between the starts of consecutive RELAY entries, wrapping across the turn; 0
without any. -/
def gapOf (t : Img) : Nat :=
  let l := ((slotEnts t).filter (fun e => decide (e.kind = 4))).map (·.start)
  match l with
  | [] => 0
  | a :: rest =>
    let r := rest.foldl (fun (m : Nat × Nat) x => (max m.1 (x - m.2), x)) (0, a)
    max r.1 (t.fld 0x10004 0 14 - r.2 + a)

/-- The smallest CELLS of any RELAY entry; 0 without any. -/
def relayCellsMin (t : Img) : Nat :=
  let l := ((slotEnts t).filter (fun e => decide (e.kind = 4))).map (·.cells)
  l.foldl min (l.headD 0)

/-- HOP_US (R488). -/
def hopOf (t : Img) : Nat := if gapOf t = 0 then 0 else gapOf t + slotLen (relayCellsMin t) + 2

/-- Limits of a relay entry. -/
def rlyOk (e : List Word) : Bool :=
  decide (fieldOf (e.getD 0 0) 1 2 ≠ 3) && lenValid 1 (fieldOf (e.getD 0 0) 16 7) && decide (fieldOf (e.getD 0 0) 24 4 ≠ 0) &&
  decide (10 ≤ fieldOf (e.getD 1 0) 0 24)

/-- Cells that the entries out on a link need in one gap (R488). -/
def relayNeed (t : Img) (rly : Tbl (List Word)) (out : Nat) : Nat :=
  ((rly.filter (fun e => bitOf (e.2.getD 0 0) 0 && decide (fieldOf (e.2.getD 0 0) 1 2 = out))).map (fun e =>
    (if fieldOf (e.2.getD 0 0) 16 7 ≤ 32 then 1 else 2) *
      ceilDiv (gapOf t + fieldOf (e.2.getD 2 0) 0 20) (fieldOf (e.2.getD 1 0) 0 24))).sum

/-- The check of R484, with that of R488. -/
def State.slotsOk (s : State) (t : Img) (rly : Tbl (List Word)) : Bool :=
  let l := slotEnts t
  let c := t.fld 0x10008 0 14
  let w := c + t.fld 0x10008 16 8
  let r := t.fld 0x10004 0 14 * t.fld 0x1000C 0 10 / 1000
  let agree := fun (lo hi : Nat) => l.any (fun e => decide (e.kind = 2) && decide (lo ≤ e.start) && decide (e.start < hi))
  l.all (fun e => decide (e.kind ≤ 5) && decide (e.cells ≠ 0) && decide (e.start + slotLen e.cells ≤ t.fld 0x10004 0 14)) &&
  slotsAscend l && (!bitOf (t.at_ 0xB8000) 0 || l.any (fun e => decide (e.kind = 1))) &&
  (!s.memberUnder t || agree c w || agree w r) && rly.all (fun e => rlyOk e.2) &&
  decide (relayNeed t rly 0 ≤ relayCellsMin t) && decide (relayNeed t rly 1 ≤ relayCellsMin t)

/-! ## Re-analysis (R167) and heartbeat streams (R442) -/

/-- Channels that a commit re-analyses (R167): changed error models and pseudo-streams, changed bit timing, and all when
DEV_MAX_PPM or, outside RUN, LEN_US changes. -/
def State.affected (s : State) (t : Img) : List Nat :=
  let o : Img := s.regs.live
  if t.fld 0x10010 0 9 ≠ o.fld 0x10010 0 9 ∨ t.fld 0x10004 0 14 ≠ o.fld 0x10004 0 14 then channels
  else channels.filter (fun c =>
    let b := drChBase c
    decide (t.at_ b ≠ o.at_ b) || decide (t.at_ (b + 4) ≠ o.at_ (b + 4)) || decide (t.at_ (b + 8) ≠ o.at_ (b + 8)) ||
    decide (t.fld (b + 12) 0 2 ≠ o.fld (b + 12) 0 2) || decide (t.at_ (spChBase c + 4) ≠ o.at_ (spChBase c + 4)) ||
    decide (t.at_ (spChBase c + 8) ≠ o.at_ (spChBase c + 8)))

/-- Mask of the groups whose registers a re-analysis of channels reads: DRAFT, TIME and the channels' own. -/
def reanMask (chs : List Nat) : Word :=
  chs.foldl (fun (m : Word) c => m ||| BitVec.ofNat 32 (2 ^ c)) (BitVec.ofNat 32 (2 ^ 16 + 2 ^ 18))

/-- The limit of Table 5.1 on OFFSET_US under a new L (R167). -/
def State.offsetsOk (s : State) (t : Img) : Bool :=
  s.dr.streams.all (fun e =>
    !(e.2.isOpen && decide (e.2.cfg.kind = 0)) || decide (e.2.cfg.offIa.toNat < e.2.cfg.period.toNat * t.fld 0x10004 0 14))

/-- Does a configuration want heartbeat streams (R442)? -/
def State.hbWanted (s : State) (t : Img) : Bool := s.memberUnder t && bitOf (t.at_ 0xB0010) 4

/-- Declaration of member m's heartbeat stream (R442). -/
def hbBody (t : Img) (m : Nat) : OpenBody :=
  { stream := finOf 4096 (by decide) (t.fld 0xB0010 16 12 + m), ch := finOf 16 (by decide) (t.fld 0xB0010 0 4)
    format := BitVec.ofNat 2 (t.fld 0xB0010 6 2), kind := 0, source := 3, auth := false, vport := .a, keySlot := 0
    id := BitVec.ofNat 29 (t.fld 0xB0014 0 29 + m), ide := bitOf (t.at_ 0xB0014) 29, len := 16, vlead := 0, period := 1
    offIa := BitVec.ofNat 32 (t.fld 0xB0018 0 14), deadline := BitVec.ofNat 32 (t.fld 0xB0018 16 16), jitter := 0
    stale := 0, vaddr := 0 }

/-- Are the heartbeat streams open as a configuration wants them? -/
def State.hbOpen (s : State) (t : Img) : Bool :=
  [0, 1, 2].all (fun m =>
    match s.stream (t.fld 0xB0010 16 12 + m) with
    | some x => decide (x.hb = some m) && x.isOpen && decide (x.cfg = hbBody t m)
    | none => false)

/-- The draft of a heartbeat stream (R161, R442). A number that is not free or a body that is malformed is status 2 and a channel
without room status 7, as for a STREAM_OPEN (R143, R144); neither is judged further. -/
def State.hbVerdict (s : State) (b : OpenBody) : Verdict :=
  if s.isClosed b.stream.val = false ∨ s.openOk b = false then { reason := 255, status := 2 }
  else if s.roomFor b.ch.val = false then { reason := 255, status := 7 }
  else s.judgeStream b

/-- The drafts of the three heartbeat streams, up to the first that is refused: the state with those that pass in the table, their
verdicts by stream number, and whether all three passed. -/
structure HbTry where
  st : State
  drafts : List (Nat × Verdict) := []
  ok : Bool := true

/-- Draft the three heartbeat streams in member order under the live configuration (R442). -/
def State.openHb (s : State) : HbTry :=
  [0, 1, 2].foldl (fun (a : HbTry) m =>
    let b := hbBody a.st.regs.live m
    let v := a.st.hbVerdict b
    if a.ok = false then a
    else if v.reason = 0 then { a with st := a.st.admitStream b v (some m), drafts := a.drafts ++ [(b.stream.val, v)] }
    else { a with drafts := a.drafts ++ [(b.stream.val, v)], ok := false }) { st := s }

/-- The state with a configuration in force, to judge drafts by. -/
def State.underCfg (s : State) (t : Img) (rly : Tbl (List Word)) : State :=
  { s with regs := { s.regs with live := t }, cs := { s.cs with rlyLive := rly } }

/-- Does a commit of group PLY find its heartbeat streams admissible (R442)? -/
def State.hbOk (s : State) (t : Img) (rly : Tbl (List Word)) : Bool :=
  !s.hbWanted t || s.hbOpen t || ((s.underCfg t rly).openHb).ok

/-- The heartbeat drafts that a commit of group PLY runs (R442); none where the streams are not wanted or stand open. -/
def State.hbDrafts (s : State) (t : Img) (rly : Tbl (List Word)) : List (Nat × Verdict) :=
  if s.hbWanted t && !s.hbOpen t then (s.underCfg t rly).openHb.drafts else []

/-! ## All checks of a set of groups -/

/-- What the checks of one round find: groups to refuse, whether re-analysis failed (R167), the failure of group TWIST,
whether the check of R484 failed, and whether that of R276 on WD_MS did. -/
structure ChkRes where
  bad : Word := 0
  rean : Bool := false
  tw : Option (Nat × Nat × Nat) := none
  slots : Bool := false
  wd : Bool := false
  deriving DecidableEq, Repr

/-- Mask of one group. -/
def grp (g : Nat) : Word := BitVec.ofNat 32 (2 ^ g)

/-- One round of checks of the groups of a mask (R392). `late` says that the re-analysis did not finish (R393). -/
def State.checkRound (s : State) (mask : Word) (late : Bool) : ChkRes :=
  let t := s.candImg mask
  let rly := s.candRly mask
  let member := s.memberUnder t
  let need := fun (groups : Word) (ok : Bool) => if (mask &&& groups ≠ 0) ∧ ok = false then groups else (0 : Word)
  let chs := s.affected t
  let rean := !chs.isEmpty && decide (mask &&& reanMask chs ≠ 0) && (late || !(s.underCfg t rly).reanalyse t.at_ chs)
  let offs := s.offsetsOk t
  let wd := wdOk t
  let budget := (mask &&& (grp 16 ||| grp 20) ≠ 0 : Bool) && !budgetOk t member s.tw.lanes.length
  let tw := if bitOf mask 20 then twistBad t member s.tw.lanes.length else none
  let twOwn := match tw with | some x => decide (x.2.1 ≠ twBudget) | none => false
  let slots := s.slotsOk t rly
  let l : List Word := channels.map (fun c => need (grp c) (chOk s.regs.live t c)) ++ [
    need (grp 16) (s.timeOk t), need (grp 16 ||| grp 25) (s.windowOk t), need (grp 16) offs, need (grp 17) (s.cardOk t), need (grp 18) (draftOk t),
    need (grp 19) (lwOk t), need (grp 20) (!twOwn), need (grp 16 ||| grp 20) (!budget), need (grp 21) (lioOk t),
    need (grp 16 ||| grp 21) wd, need (grp 22) (feedOk t), need (grp 23) (within 10 1000 (t.fld 0x3004 0 10)),
    need (grp 24) (whorlOk t), need (grp 25) (s.plyOk t), need (grp 25) (s.hbOk t rly),
    need (grp 16 ||| grp 25) (decide (t.fld 0xB0018 0 14 < t.fld 0x10004 0 14)),
    need (grp 25 ||| grp 26) (!(bitOf (t.at_ 0xB8000) 1 && bitOf (t.at_ 0xB0000) 0)), need (grp 16 ||| grp 26) slots,
    need (grp 27) (memOk t), need (grp 28) (repairOk t), need (grp 29) (faultOk t), need (grp 30) (traceOk t),
    need (grp 31) (deviceOk t), if rean then reanMask chs else 0]
  { bad := l.foldl (fun m x => m ||| x) 0 &&& mask, rean := rean || (bitOf mask 16 && !offs), tw := tw
    wd := (mask &&& (grp 16 ||| grp 21) ≠ 0 : Bool) && !wd
    slots := (mask &&& (grp 16 ||| grp 26) ≠ 0 : Bool) && !slots }

/-- The outcome of the checks: the accepted groups, and what was found on the way. -/
structure ChkOut where
  acc : Word
  rean : Bool := false
  tw : Option (Nat × Nat × Nat) := none
  slots : Bool := false
  wd : Bool := false
  deriving DecidableEq, Repr

/-- Rounds of checks until no further group is refused (R392). -/
def State.checkAll (s : State) (late : Bool) : Nat → Word → ChkOut
  | 0, mask => { acc := mask }
  | n + 1, mask =>
    let r := s.checkRound mask late
    if r.bad = 0 then { acc := mask }
    else
      let o := s.checkAll late n (mask &&& ~~~r.bad)
      { acc := o.acc, rean := r.rean || o.rean, slots := r.slots || o.slots, wd := r.wd || o.wd
        tw := match r.tw with | some x => some x | none => o.tw }

end Sys2Proof.Machine
end

