-- ==== Sys2Proof/Machine/Owner.lean ====
section
/-!
DEFINITION. Ownership (R353 to R366) and the whorl's presentation to the ports (R369 to R379): candidacy, election,
handover, lapse, doorbells, claims, completions,
and what a commit of group WHORL does to a port's view.
-/

namespace Sys2Proof.Machine

/-! ## Ownership -/

/-- Candidacy of a port. -/
def OwnSt.cand (o : OwnSt) (p : Port) : Bool := match p with | .a => o.candA | .b => o.candB
/-- Set a port's candidacy. -/
def OwnSt.setCand (o : OwnSt) (p : Port) (v : Bool) : OwnSt :=
  match p with | .a => { o with candA := v } | .b => { o with candB := v }

/-- The owner's ownership lapses with a cause of Table 11.1 (R366). An ACCEPT written in the same cycle has made its port a candidate. -/
def State.lapse (s : State) (cause : Nat) : State :=
  match s.ow.owner with
  | none => s
  | some p =>
    let s1 := { s with
      ow := { (s.ow.setCand p false) with lapse := cause, handover := none, taker := none, lost := s.ow.handover } }
    let s2 := (s1.slub 0x0A04 p.idx cause 0).raise 0x054
    if s2.ow.cand p.other then s2.setOwner (some p.other) else (s2.setOwner none).raise 0x055

/-- The CAND field of PP_CAND is written (R357, R359): the owner that writes 0 relinquishes; a port becomes owner in the next cycle
where none is. -/
def State.takeCand (s : State) (p : Port) (v : Bool) : State :=
  if v = false ∧ s.ow.owner = some p then s.lapse 3
  else { s with ow := { (s.ow.setCand p v) with soon := s.ow.soon || (v && s.ow.owner.isNone) } }

/-- CANDIDACY (R357). -/
def execCandidacy (dt : Nat) (w : Wr) (s : State) : Host.Outcome State Fault Refusal :=
  s.at_ dt (fun s => s.wr 0x2000 w (fun s => s.takeCand w.port (bitOf w.data 0)))

/-- Length of the time in which a handover must be accepted, in ns (R362). -/
def handoverNs : Nat := 100000000

/-- Is a handover to a port pending and still open (R362)? -/
def State.offered (s : State) (p : Port) : Bool :=
  decide (s.ow.handover = some p) && decide (s.clock ≤ s.ow.handAt + handoverNs)

/-- ACCEPT (R362, R363): the target becomes owner in the next cycle. Where the owner's lapse came before it in the same cycle, the
lapse hands it the device (R366). -/
def execAccept (dt : Nat) (w : Wr) (s : State) : Host.Outcome State Fault Refusal :=
  s.at_ dt (fun s => s.wr 0x2000 w (fun s =>
    if bitOf w.data 1 = false then s.takeCand w.port (bitOf w.data 0)
    else if s.offered w.port then
      { s with ow := { (s.ow.setCand w.port true) with handover := none, taker := some w.port } }.raise 0x052
    else if s.ow.lost = some w.port ∧ s.ow.owner = none then
      { s with ow := { (s.ow.setCand w.port true) with lost := none } }.setOwner (some w.port)
    else (s.discard 0x2000 w.port reasonState).takeCand w.port (bitOf w.data 0)))

/-- ELECTION_WINDOW_END (R358): 2 ms after Molwegon left SELF-TEST. -/
def execElectionWindowEnd (dt : Nat) (s : State) : Host.Outcome State Fault Refusal :=
  s.at_ dt (fun s =>
    if s.ow.electing && decide (s.ow.electEnd ≤ s.clock) then
      ({ s with ow := { s.ow with electing := false } }).fillOwner
    else s)

/-- HANDOVER_GO (R361). -/
def execHandoverGo (dt : Nat) (w : Wr) (s : State) : Host.Outcome State Fault Refusal :=
  s.at_ dt (fun s => s.wr 0x3008 w (fun s =>
    let target : Port := if bitOf w.data 0 then .b else .a
    if bitOf w.data 8 = false then s.regStore 0x3008 w
    else if s.ow.owner = some target then s.discard 0x3008 w.port reasonInvalid
    else if s.ow.handover.isSome then s.discard 0x3008 w.port reasonState
    else
      let s1 := s.setRwi 0x3008 (w.data &&& 1)
      { s1 with ow := { s1.ow with handover := some target, handAt := s.clock } }))

/-- HANDOVER_TIMEOUT (R363). -/
def execHandoverTimeout (dt : Nat) (s : State) : Host.Outcome State Fault Refusal :=
  s.at_ dt (fun s =>
    if s.ow.handover.isSome && decide (s.ow.handAt + handoverNs ≤ s.clock) then
      (({ s with ow := { s.ow with handover := none } }).slub 0x0A03 0 0 0).raise 0x053
    else s)

/-- GENERATION_LAPSE (R365): LAPSE_MS since the later of the last change seen and the owner's write of PORT_EN. -/
def execGenerationLapse (dt : Nat) (s : State) : Host.Outcome State Fault Refusal :=
  s.at_ dt (fun s =>
    match s.ow.owner with
    | none => s
    | some p =>
      let q := s.port p
      if q.portEn && decide (q.genAt + s.fld 0x3004 0 10 * 1000000 ≤ s.clock) then s.lapse 1 else s)

/-! ## Whorl -/

/-- WH_DOORBELL (R355, R367). -/
def execWhDoorbell (dt : Nat) (w : Wr) (s : State) : Host.Outcome State Fault Refusal :=
  s.at_ dt (fun s => s.wr 0x4000 w (fun s =>
    let n := fieldOf w.data 0 10
    let may := if s.ow.owner = some w.port then decide (n < 0x3F0) else decide (0x380 ≤ n ∧ n < 0x3F0)
    if may then s.raise n else s.count (whCounter w.port 1)))

/-- A port's view of a source. -/
def PortSt.srcSt (q : PortSt) (i : Nat) : SrcState := Tbl.lookD q.src i .inactive
/-- Set a port's view of a source. -/
def PortSt.setSrc (q : PortSt) (i : Nat) (v : SrcState) : PortSt := { q with src := Tbl.put q.src i .inactive v }

/-- What completing a source makes of its state (R373). -/
def SrcState.completed : SrcState → SrcState
  | .active => .inactive
  | .activePending => .pending
  | x => x

/-- WH_CLAIM (R371, R374, R377): a word read with all byte enables claims; any other form returns 0. -/
def execWhClaim (dt : Nat) (r : Rd) (conditionFalse : Bool) (s : State) : Host.Outcome State Fault Refusal :=
  s.at_ dt (fun s =>
    let answer := fun (s : State) (n : Nat) => s.emit (.regRead r.port 0x4004 (BitVec.ofNat 32 n))
    if r.full = false then answer s 0
    else
      let s0 := s.setPort r.port { s.port r.port with outstanding := false }
      let q := s0.port r.port
      let done : State :=
        match s0.ctx.claimed q with
        | none => answer (s0.count (whCounter r.port 2)) 0x3FF
        | some i =>
          if q.stack.length ≥ 64 then answer ((s0.count (whCounter r.port 6)).slub 0x0A05 r.port.idx 0 0) 0x3FF
          else
            let s1 := answer (s0.setPort r.port { (q.setSrc i .active) with
              stack := q.stack ++ [{ src := i, prio := s0.ctx.prio i, at_ := s0.clock }] }) i
            let s2 := if conditionFalse && Config.levelLike i then s1.count (whCounter r.port 4) else s1
            if q.stack.length = 63 then s2.raise 0x003 else s2
      done.askReq)

/-- WH_COMPLETE (R373). -/
def execWhComplete (dt : Nat) (w : Wr) (s : State) : Host.Outcome State Fault Refusal :=
  s.at_ dt (fun s => s.wr 0x4008 w (fun s =>
    let q := s.port w.port
    let n := fieldOf w.data 0 10
    match q.stack.getLast? with
    | none => ((s.count (whCounter w.port 3)).slub 0x0A06 w.port.idx n 0x3FF).raise 0x001
    | some e =>
      if e.src = n then
        (s.setPort w.port { (q.setSrc n (q.srcSt n).completed) with stack := q.stack.dropLast }).askReq
      else ((s.count (whCounter w.port 3)).slub 0x0A06 w.port.idx n e.src).raise 0x001))

/-- WH_HOLD (R376). -/
def execWhHold (dt : Nat) (w : Wr) (s : State) : Host.Outcome State Fault Refusal :=
  s.at_ dt (fun s => s.wr 0x400C w (fun s =>
    (s.setPort w.port { s.port w.port with hold := bitOf w.data 0 }).askReq))

/-- A port's stack is emptied: every source on it is completed (R378, R379). -/
def PortSt.emptyStack (q : PortSt) : PortSt :=
  { q with
    src := (q.src.map (fun (e : Nat × SrcState) => (e.1, e.2.completed))).filter (fun e => decide (e.2 ≠ .inactive))
    stack := [] }

/-- STACK_AGE_EXPIRY (R378). -/
def execStackAgeExpiry (dt : Nat) (port : Port) (s : State) : Host.Outcome State Fault Refusal :=
  s.at_ dt (fun s =>
    let q := s.port port
    match q.stack with
    | [] => s
    | e :: _ =>
      if e.at_ + s.fld 0x4400 0 10 * 1000000 < s.clock then
        ((((s.setPort port q.emptyStack).count (whCounter port 5)).slub 0x0A07 port.idx q.stack.length 0).raise
          0x002).askReq
      else s)

/-- A commit of group WHORL acts on both ports' views at the end of the instant, behind its firings (R370, R375). `old` is the
live configuration before it. -/
def State.whorlCommit (s : State) (old : Tbl Word) : State := { s with rep := { s.rep with whOld := some old } }

end Sys2Proof.Machine
end

