-- ==== Sys2Proof/Machine/Commit.lean ====
section
/-!
DEFINITION. A commit from its write to its application (R388 to R396), the locks of the register interface (R398, R399),
and DV_CMD.RUN (R578).
-/

namespace Sys2Proof.Machine

/-! ## Starting a commit -/

/-- A commit of groups starts (R390, R395): BUSY is 1 and the checks begin. -/
def State.startCommit (s : State) (groups : Word) (now : Bool) : State :=
  { s with
    regs := { s.regs with phase := .checking, commitNow := now, pend := groups, refused := 0, reanStart := s.clock } }

/-- A write of DV_COMMIT (R390, R395, R396). -/
def State.commitWrite (s : State) (w : Wr) : State :=
  s.wr 0x1008 w (fun s =>
    if s.dev.st = .safe then s.discard 0x1008 w.port reasonState
    else if s.regs.phase ≠ .idle then s.discard 0x1008 w.port reasonCommitBusy
    else if w.data = 0 then s
    else s.startCommit w.data false)

/-- DV_COMMIT. -/
def execDvCommit (dt : Nat) (w : Wr) (s : State) : Host.Outcome State Fault Refusal :=
  s.at_ dt (fun s => s.commitWrite w)

/-- A write of DV_COMMIT_NOW: taken in SET-UP only (R395, R396). -/
def State.commitNowWrite (s : State) (w : Wr) : State :=
  s.wr 0x100C w (fun s =>
    if s.dev.st ≠ .setUp then s.discard 0x100C w.port reasonState
    else if s.regs.phase ≠ .idle then s.discard 0x100C w.port reasonCommitBusy
    else if w.data = 0 then s
    else s.startCommit w.data true)

/-- DV_COMMIT_NOW. -/
def execDvCommitNow (dt : Nat) (w : Wr) (s : State) : Host.Outcome State Fault Refusal :=
  s.at_ dt (fun s => s.commitNowWrite w)

/-! ## Refusals -/

/-- Slub code of a refused group (Tables 16.2, 16.4). -/
def refusalCode (g : Nat) : Nat :=
  if g < 16 then 0x0201
  else [0x0101, 0x0301, 0x0401, 0x0501, 0x0601, 0x0701, 0x0801, 0x0A01, 0x0A01, 0x0D01, 0x0E01, 0x0C01, 0x0F01, 0x1301, 0x1101,
    0x0B01].getD (g - 16) 0

/-- Source of a refused group (Table 12.3). -/
def State.refusalSource (s : State) (g : Nat) : Nat :=
  if g < 16 then 0x080 + 16 * s.spOf g + 0xC
  else [0x04A, 0x05C, 0x1A8, 0x1C8, 0x221, 0x219, 0x05D, 0x056, 0x056].getD (g - 16) 0x058

/-- Groups of a mask, in ascending bit. -/
def groupsOf (mask : Word) : List Nat := (List.range 32).filter (fun g => bitOf mask g)

/-- TW_REFUSE as a word: LOOP, REASON, STAGE. -/
def State.twRefuse (s : State) : Word := packWord [(0, s.tw.refLoop), (8, s.tw.refReason), (12, s.tw.refStage)]

/-- One refused group: its slub and its source (R389, R497). -/
def State.refuseGroup (s : State) (g : Nat) : State :=
  (s.slub (refusalCode g) s.regs.refused.toNat (if g = 20 then s.twRefuse.toNat else 0) 0).raise (s.refusalSource g)

/-- What the checks refuse of the named groups is shown and reported (R389, R392, R393, R252, R484). -/
def State.reportRefusals (s : State) (o : ChkOut) : State :=
  let refused := s.regs.pend &&& ~~~o.acc
  let tw : TwistSt :=
    match o.tw with
    | some (k, r, st) => if bitOf refused 20 then { s.tw with refLoop := k, refReason := r, refStage := st } else s.tw
    | none => s.tw
  let s1 := { s with regs := { s.regs with refused := refused }, tw := tw }
  let s2 := (groupsOf refused).foldl State.refuseGroup s1
  let s3 := if o.rean && !bitOf refused 18 then s2.raise 0x1A8 else s2
  let s4 := if o.slots && !bitOf refused 26 then s3.raise 0x058 else s3
  if o.wd && !bitOf refused 21 then s4.raise 0x219 else s4

/-- A heartbeat draft is reported like any other (R442, R183, R555): its DRAFT hank and, where it was judged, its sources. -/
def State.hbReport (s : State) (d : Nat × Verdict) : State :=
  if d.2.reason = 255 then s.draftHank d.1 d.2.status 0 0
  else if d.2.reason = 0 then (s.draftHank d.1 0 0 (nsOf d.2.r)).decided false
  else (s.draftHank d.1 d.2.status d.2.reason 0).decided true

/-- The heartbeat drafts of a commit that names group PLY, under the groups that passed the checks, or under all the groups named
where PLY did not pass (log 83). -/
def State.reportHb (s : State) (acc : Word) : State :=
  let mask := if bitOf acc 25 then acc else s.regs.pend
  if bitOf mask 25 then (s.hbDrafts (s.candImg mask) (s.candRly mask)).foldl State.hbReport s else s

/-! ## Application (R394) -/

/-- The reserves and frame times of the streams of re-analysed channels under the live configuration (R163, R167). -/
def State.newReserves (s : State) (chs : List Nat) : State :=
  let v := s.live
  let s1 := { s with
    dr := { s.dr with
      streams := s.dr.streams.map (fun e =>
        if e.2.isOpen && chs.contains e.2.cfg.ch.val then
          (e.1, { e.2 with
            reserve := s.reserveUnder v chs e.2
            cNs := nsOf (frameTime v e.2.cfg.ch.val e.2.cfg.format.toNat e.2.cfg.ide e.2.cfg.len.toNat) })
        else e) } }
  chs.foldl (fun (a : State) c => (a.setUse c { a.use c with res := a.places c }).refreshR c) s1

/-- A link that a commit disables goes DOWN (Table 15.2). -/
def State.dropLinks (s : State) : State :=
  (List.range 4).foldl (fun (a : State) l =>
    if !a.linkOn l && decide ((a.link l).st ≠ .down) then a.linkDown l else a) s

/-- A device that is no member has role OUT (R436). -/
def State.outIfNoMember (s : State) : State :=
  if s.plyMember || decide (s.pl.role = .out) then s else s.setRole .out

/-- The heartbeat streams open where the configuration wants them and they are not open (R442). -/
def State.hbOpenStep (s : State) : State :=
  if s.hbWanted s.regs.live && !s.hbOpen s.regs.live && s.openHb.ok then s.openHb.st else s

/-- The heartbeat streams close where the configuration does not want them (R442). -/
def State.hbCloseStep (s : State) : State :=
  if s.hbWanted s.regs.live then s
  else
    { s with
      dr := { s.dr with
        streams := s.dr.streams.map (fun e =>
          if e.2.hb.isSome && e.2.isOpen then (e.1, { e.2 with closeSoon := true }) else e) } }

/-- A commit of group PLY or CASC acts: the role of a device that is no member, heartbeat streams (R442), links, and the
up link (R436, R475, R488). -/
def State.plyCommit (s : State) : State :=
  let t : Img := s.regs.live
  let s1 := { s with cs := { s.cs with gapUs := gapOf t, hopUs := hopOf t } }
  (s1.outIfNoMember.hbOpenStep.hbCloseStep.dropLinks.refreshUp).refreshSource.refreshTrip

/-- The groups of a mask take effect one by one after the images are live. `o` is the configuration before. In SAFE a
committed mode has no effect (R513). -/
def State.groupEffects (s : State) (mask : Word) (o : Img) (now : Bool) : State :=
  let on := fun (g : Nat) => bitOf mask g
  let s1 := channels.foldl (fun (a : State) c =>
    if on c then
      (if s.dev.st = .safe then a else a.commitMode c (modeOf (a.fld (spChBase c) 0 3))).warnUpd c
    else a) s
  let s2 := if on 16 then s1.refreshSource.refreshBudget else s1
  let s3 := if on 16 && now && decide (s2.lenUs ≠ o.fld 0x10004 0 14) then s2.reschedule else s2
  let s4a := if on 17 then s3.refreshLow else s3
  let s4 := if on 19 then channels.foldl State.judgeTerm s4a else s4a
  let s5 := if on 20 then (s4.commitLoops o).refreshBudget else s4
  let s6 :=
    if (on 16 || on 20 || on 25) && budgetOk s5.regs.live s5.plyMember s5.tw.lanes.length then
      { s5.refreshBudget with tw := { s5.refreshBudget.tw with over_ := false } }
    else s5
  let s7 := if on 21 then s6.commitOutputs o else s6
  let s8 := if on 24 then s7.whorlCommit o else s7
  let s9a := if on 16 || on 25 || on 26 then s8.plyCommit else s8
  let s9 := if on 21 || on 22 then s9a.sendOver .commit else s9a
  if on 31 && !s9.bit 0x1020 0 then
    { (if s9.regs.passOn && s9.regs.passValid then s9.count 5729 else s9) with
      regs := { s9.regs with passOn := false, passValid := false } }
  else s9

/-- The images of a mask's groups become live; their DV_DIRTY bits clear and the commit ends (R388, R394). -/
def State.makeLive (s : State) (mask : Word) : State :=
  { s with
    regs := { s.regs with
      live := s.candImg mask, dirty := s.regs.dirty &&& ~~~mask, pend := 0, phase := .idle, commitNow := false }
    cs := { s.cs with rlyLive := s.candRly mask } }

/-- Channels that the application of a mask re-analyses. -/
def State.reanChannels (s : State) (mask : Word) : List Nat :=
  let chs := s.affected (s.candImg mask)
  if mask &&& reanMask chs = 0 then [] else chs

/-- The covered image changes where an application changed a live value (R406). -/
def State.coverIfChanged (s old : State) : State :=
  if decide (s.regs.live = old.regs.live) && decide (s.cs.rlyLive = old.cs.rlyLive) then s else s.coverChange

/-- The accepted groups become live (R394): images, DV_DIRTY, the re-analysed reserves, what each group changes, and
source 0x057. -/
def State.applyGroups (s : State) (mask : Word) : State :=
  let s2 := ((s.makeLive mask).newReserves (s.reanChannels mask)).groupEffects mask s.regs.live s.regs.commitNow
  ((s2.coverIfChanged s).refreshTrip).raise 0x057

/-- The checks of a commit have completed (R391, R392): refused groups are reported, the accepted ones wait for the
boundary, or apply at once after DV_COMMIT_NOW (R395). -/
def State.finishChecks (s : State) (late : Bool) : State :=
  let o := s.checkAll late 33 s.regs.pend
  let s1 := (s.reportHb o.acc).reportRefusals o
  let s2 := { s1 with
    regs := { s1.regs with pend := o.acc, phase := if o.acc = 0 then .idle else .accepted } }
  if s2.regs.commitNow && decide (o.acc ≠ 0) then s2.applyGroups o.acc else s2

/-- COMMIT_ACCEPTANCE (R391). -/
def execCommitAcceptance (dt : Nat) (s : State) : Host.Outcome State Fault Refusal :=
  s.at_ dt (fun s => if s.regs.phase = .checking then s.finishChecks false else s)

/-- Does the commit in flight re-analyse a channel (R167)? -/
def State.reanalyses (s : State) : Bool :=
  let chs := s.affected (s.candImg s.regs.pend)
  !chs.isEmpty && decide (s.regs.pend &&& reanMask chs ≠ 0)

/-- REANALYSIS_TIMEOUT (R393): a re-analysis not finished DR_CFG.TMO_US after it started. -/
def execReanalysisTimeout (dt : Nat) (s : State) : Host.Outcome State Fault Refusal :=
  s.at_ dt (fun s =>
    if decide (s.regs.phase = .checking) && s.reanalyses &&
        decide (s.clock - s.regs.reanStart ≥ s.fld 0x50000 0 16 * 1000) then
      s.finishChecks true
    else s)

/-- The commit of a boundary: the accepted groups of a DV_COMMIT (R31, R394). -/
def State.commitBoundary (s : State) : State :=
  if s.regs.phase = .accepted then s.applyGroups s.regs.pend else s

/-! ## Locks and RUN -/

/-- DV_LOCK (R398, R399). -/
def execDvLock (dt : Nat) (w : Wr) (s : State) : Host.Outcome State Fault Refusal :=
  s.at_ dt (fun s => s.wr 0x1030 w (fun s => s.setLock 0x1030 (w.data &&& 3)))

/-- PL_LOCK (R398, R399). -/
def execPlLock (dt : Nat) (w : Wr) (s : State) : Host.Outcome State Fault Refusal :=
  s.at_ dt (fun s => s.wr 0xB0034 w (fun s => s.setLock 0xB0034 (w.data &&& 3)))

/-- DV_CMD_RUN (R565, R578): RUN from the next boundary; with a commit in flight, from the boundary that applies it. Out of
SET-UP the write is discarded. -/
def execDvCmdRun (dt : Nat) (w : Wr) (s : State) : Host.Outcome State Fault Refusal :=
  s.at_ dt (fun s => s.wr 0x1004 w (fun s =>
    if bitOf w.data 0 then
      if s.dev.st = .setUp then { s with dev := { s.dev with runPend := true } } else s.discard 0x1004 w.port reasonState
    else s))

end Sys2Proof.Machine
end

