-- ==== Sys2Proof/Machine/Counters.lean ====
section
/-!
DEFINITION. Counter access (R410 to R414): clearing, snapshots, and the latching reads of counters, holding registers
and snapshot time.
-/

namespace Sys2Proof.Machine

/-- Number of counters (R410). -/
def counterCount : Nat := 7680

/-- Every counter of a bank is set to 0 and its source is armed again (R413). -/
def State.clearBank (s : State) (b : Nat) : State :=
  { s with
    rep := { s.rep with
      ct := s.rep.ct.filter (fun e => decide (e.1 / 64 ≠ b)), satSeen := s.rep.satSeen.filter (fun x => decide (x ≠ b)) } }

/-- Every counter of every bank is set to 0 (R413), and with them the 48-bit counts of the stream table, which lie in no bank
(R184; log 48). -/
def State.clearAll (s : State) : State :=
  { s with
    rep := { s.rep with ct := [], satSeen := [] }
    dr := { s.dr with
      streams := s.dr.streams.map (fun e => (e.1, { e.2 with releases := 0, misses := 0, uncovered := 0 })) } }

/-- CT_CLEAR is written: BANK is stored (RWI); a GO naming a bank beyond 119 is discarded (R386). -/
def State.ctClear (s : State) (w : Wr) (f : State → State) : State :=
  s.wr 0xD0004 w (fun s =>
    if bitOf w.data 8 && decide (fieldOf w.data 0 7 ≥ 120) then s.discard 0xD0004 w.port reasonInvalid
    else f (s.setRwi 0xD0004 (BitVec.ofNat 32 (fieldOf w.data 0 7))))

/-- CT_CLEAR_GO (R413). -/
def execCtClearGo (dt : Nat) (w : Wr) (s : State) : Host.Outcome State Fault Refusal :=
  s.at_ dt (fun s => s.ctClear w (fun s => if bitOf w.data 8 then s.clearBank (fieldOf w.data 0 7) else s))

/-- CT_CLEAR_ALL (R413). -/
def execCtClearAll (dt : Nat) (w : Wr) (s : State) : Host.Outcome State Fault Refusal :=
  s.at_ dt (fun s => s.ctClear w (fun s => if bitOf w.data 9 then s.clearAll else s))

/-- Every counter is copied into its holding register, with the time and the turn of the copy (R414). -/
def State.snapshot (s : State) : State :=
  { s with
    regs := { s.regs with held := s.rep.ct, ctTime := s.now, ctTurn := s.tm.turn, ctPending := false } }

/-- CT_SNAP_NOW (R414): a pending AT_BOUNDARY copy is cancelled and counted. -/
def execCtSnapNow (dt : Nat) (w : Wr) (s : State) : Host.Outcome State Fault Refusal :=
  s.at_ dt (fun s => s.wr 0xD0000 w (fun s =>
    if bitOf w.data 0 then
      (if s.regs.ctPending then s.count (5184 + 64 * w.port.idx + 7) else s).snapshot
    else s))

/-- CT_SNAP_AT_BOUNDARY (R414). -/
def execCtSnapAtBoundary (dt : Nat) (w : Wr) (s : State) : Host.Outcome State Fault Refusal :=
  s.at_ dt (fun s => s.wr 0xD0000 w (fun s =>
    if bitOf w.data 1 then { s with regs := { s.regs with ctPending := true } } else s))

/-- The pending copy of a boundary (R414). -/
def State.snapBoundary (s : State) : State := if s.regs.ctPending then s.snapshot else s

/-- A read of a LO word: bits 31:0 are answered and bits 47:32 latched in the reading port (R411). -/
def State.ctRead (s : State) (off : Nat) (r : Rd) (v : Nat) : State :=
  s.latchRead off r (BitVec.ofNat 32 v) (fun q => { q with ctLatch := BitVec.ofNat 32 (v / 2 ^ 32 % 2 ^ 16) })

/-- COUNTER_LO_READ (R411); no counter lies at c of 7,680 and above. -/
def execCounterLoRead (dt : Nat) (c : Nat) (r : Rd) (s : State) : Host.Outcome State Fault Refusal :=
  s.at_ dt (fun s => if c < counterCount then s.ctRead (0xD1000 + 8 * c) r (s.rep.counter c) else s)

/-- HOLDING_LO_READ (R411). -/
def execHoldingLoRead (dt : Nat) (c : Nat) (r : Rd) (s : State) : Host.Outcome State Fault Refusal :=
  s.at_ dt (fun s => if c < counterCount then s.ctRead (0xE1000 + 8 * c) r (Tbl.lookD s.regs.held c 0) else s)

/-- CT_SNAP_TIME_LO_READ (R48). -/
def execCtSnapTimeLoRead (dt : Nat) (r : Rd) (s : State) : Host.Outcome State Fault Refusal :=
  s.at_ dt (fun s => s.latchRead 0xD0010 r (lo32 s.regs.ctTime) (fun q => { q with snapTimeHi := hi32 s.regs.ctTime }))

end Sys2Proof.Machine
end

