-- ==== Sys2Proof/Machine/Repair.lean ====
section
/-!
DEFINITION. Self-repair in service (chapter 17): retirement of SRAM rows, doffs, spindle resets (R508, R509), aging
monitors, and the burning of fuse entries.
-/

namespace Sys2Proof.Machine

/-! ## SRAM rows (R523 to R525) -/

/-- Lowest free spare row of the macro of a row. -/
def State.freeSpareRow (s : State) (row : Nat) : Option Nat :=
  (List.range 8).find? (fun k => (Tbl.look s.rp.rows (row / 1024 * 8 + k)).isNone)

/-- The copy of a row into a spare begins, or there is no spare (R518, R523). -/
def State.startRow (s : State) (row : Nat) : State :=
  match s.freeSpareRow row with
  | some k => { s with rp := { s.rp with copy := some { row := row, spare := k, copied := false } } }
  | none => s.spareOut 2 row

/-- Put a row number into a rising list. -/
def insRow (r : Nat) : List Nat → List Nat
  | [] => [r]
  | a :: l => if r < a then r :: a :: l else if r = a then a :: l else a :: insRow r l

/-- A row has reached its threshold (R434, R523): retired now, or after the rows before it. -/
def State.retireRow (s : State) (row : Nat) : State :=
  match s.rp.copy with
  | some c => if c.row = row then s else { s with rp := { s.rp with rowQueue := insRow row s.rp.rowQueue } }
  | none =>
    if s.rp.rowQueue.isEmpty then s.startRow row else { s with rp := { s.rp with rowQueue := insRow row s.rp.rowQueue } }

/-- ROW_COPY_COMPLETE (R524). -/
def execRowCopyComplete (dt : Nat) (s : State) : Host.Outcome State Fault Refusal :=
  s.at_ dt (fun s =>
    match s.rp.copy with
    | some c => { s with rp := { s.rp with copy := some { c with copied := true } } }
    | none => s)

/-- Row retirement at a boundary (R523, R525): a copied row's address moves to its spare; with none in progress the next
waiting row starts. -/
def State.rowBoundary (s : State) : State :=
  match s.rp.copy with
  | some c =>
    if c.copied then
      let s1 := { s with
        rp := { s.rp with copy := none, rows := Tbl.ins s.rp.rows (c.row / 1024 * 8 + c.spare) c.row } }
      let s2 := s1.setRow c.row { s1.row c.row with ce := 0, retired := true }
      (((s2.slub 0x0F02 c.row c.spare 0).raise 0x010).count 5826).queueBurn (fuseWord 2 c.row c.spare)
    else s
  | none =>
    match s.rp.rowQueue with
    | [] => s
    | r :: l => ({ s with rp := { s.rp with rowQueue := l } }).startRow r

/-! ## Spindle reset (R509) -/

/-- Discard every record of a transmit sliver, with the frame in flight, and count them (R430, R509). -/
def State.clearTx (s : State) (sl : Nat) : State :=
  let v := (s.sliver sl).rewind
  (s.setSliver sl { v with w := v.w, r := v.w, m := v.w, recs := [], flushing := false }).countN (5504 + 4 * sl + 2)
    v.recs.length

/-- A spindle that serves a channel is reset: its bobbins leave, a frame in reception is lost, and the channel integrates
again (R509). Its error counters and histories stay. -/
def State.resetServing (s : State) (ch : Nat) : State :=
  let sp := s.spOf ch
  let c := s.ch ch
  let sends := c.ready.filter (fun e => match e.kind with | .send _ => true | .stream _ _ => false)
  let lost := decide (c.wire = .otherFrame)
  let s1 := (s.setSpindle sp { s.spindle sp with inReset := some ch }).modCh ch (fun c => { c with
    wire := .idle, chosen := none, offered := false, idleTurns := 0, integWait := false })
  let s2 := sends.foldl (fun (a : State) e => a.leaveUnsent ch e 4 0) (s1.removeStreams ch)
  let s3 := s2.clearTx (2 * sp + 1)
  let s4 := if lost then (s3.chCount ch 13).count (5504 + 8 * sp + 3) else s3
  if c.st.part then s4.enterSt ch .integrating else s4

/-- SPINDLE_RESET_COMPLETE (R509): the spindle that was reset while, or after, it served the channel. -/
def execSpindleResetComplete (dt : Nat) (ch : Fin 16) (s : State) : Host.Outcome State Fault Refusal :=
  s.at_ dt (fun s =>
    match (List.range 18).find? (fun n => decide ((s.spindle n).inReset = some ch.val)) with
    | some n =>
      ((s.setSpindle n { s.spindle n with inReset := none }).slub 0x0221 (ch.val + 256 * n) 0 0).count 5764
    | none => s)

/-! ## Doffs (R526 to R531) -/

/-- Is a spindle a spare that can take a channel? -/
def State.isSpare (s : State) (n : Nat) : Bool :=
  decide ((s.spindle n).role = .spare) && (s.spindle n).inReset.isNone

/-- The lowest-numbered spare spindle. -/
def State.lowestSpare (s : State) : Option Nat := (List.range 18).find? (fun n => s.isSpare n)

/-- A doff begins. `soft` says that its cause is a timeout or RP_DOFF (R530). -/
def State.startDoff (s : State) (ch target : Nat) (soft : Bool) : State :=
  { s with rp := { s.rp with doff := some { ch := ch, target := target, soft := soft, ready := false, turns := 0 } } }

/-- RP_DOFF.GO (R526, R531): discarded while a doff is in progress, and for a TARGET that is no spare. -/
def State.doffGo (s : State) (w : Wr) : State :=
  s.wr 0xF800C w (fun s =>
    let tgt := fieldOf w.data 4 5
    let store := fun (s : State) => s.setRwi 0xF800C (w.data &&& 0x1FF)
    if !bitOf w.data 16 then store s
    else if s.rp.doff.isSome then s.discard 0xF800C w.port reasonState
    else if decide (tgt ≠ 0x1F) && !s.isSpare tgt then s.discard 0xF800C w.port reasonInvalid
    else
      let ch := fieldOf w.data 0 4
      match (if tgt = 0x1F then s.lowestSpare else some tgt) with
      | some t => (store s).startDoff ch t true
      | none => (store s).spareOut 1 (s.spOf ch))

/-- RP_DOFF_GO. -/
def execRpDoffGo (dt : Nat) (w : Wr) (s : State) : Host.Outcome State Fault Refusal :=
  s.at_ dt (fun s => s.doffGo w)

/-- DOFF_PREPARED (R527). -/
def execDoffPrepared (dt : Nat) (s : State) : Host.Outcome State Fault Refusal :=
  s.at_ dt (fun s =>
    match s.rp.doff with
    | some d => { s with rp := { s.rp with doff := some { d with ready := true } } }
    | none => s)

/-- The switch (R528 to R530): the channel's pins pass to the target, the old spindle is reset and becomes a spare or is
retired. Nothing of the channel's state changes. -/
def State.doffSwitch (s : State) (d : Doff) : State :=
  let old := s.spOf d.ch
  let stay := d.soft && (s.spindle old).selfOk
  let s0 := (s.unchoose d.ch).clearTx (2 * old + 1)
  let s1 := { s0 with
    chSp := Tbl.put s0.chSp d.ch d.ch d.target
    rp := { s0.rp with doff := none } }
  let s2 := (s1.setSpindle d.target { s1.spindle d.target with role := .active }).setSpindle old {
    s1.spindle old with role := if stay then .spare else .retired, inReset := some d.ch }
  let s3 := ((s2.slub 0x0F03 d.ch old d.target).raise 0x011).count 5824
  let ev := fun (a : State) (n : Nat) => (a.slub 0x021B (d.ch + 256 * n) (a.spD1 d.ch) 0).raise (0x080 + 16 * n + 0xB)
  let s4 := (ev (ev s3 old) d.target).hank 7 0 d.ch (BitVec.ofNat 64 (old + 256 * d.target))
  if stay then s4 else s4.queueBurn (fuseWord 1 old 0)

/-- DOFF_SWITCH (R528): an opportunity. A channel in OFF or a bus-off state switches at once, a participating one with no
frame of it on the wire; one in bus integration has had no 11 recessive bits and waits. -/
def execDoffSwitch (dt : Nat) (s : State) : Host.Outcome State Fault Refusal :=
  s.at_ dt (fun s =>
    match s.rp.doff with
    | some d =>
      let c := s.ch d.ch
      if d.ready && (decide (c.st = .off) || c.st.busOff || (c.st.part && decide (c.wire = .idle ∨ c.wire = .gap))) then s.doffSwitch d else s
    | none => s)

/-- DOFF_ABANDON (R531): 64 turns without an opportunity. -/
def execDoffAbandon (dt : Nat) (s : State) : Host.Outcome State Fault Refusal :=
  s.at_ dt (fun s =>
    match s.rp.doff with
    | some d =>
      if d.turns ≥ 64 then (({ s with rp := { s.rp with doff := none } }).raise 0x012).count 5825 else s
    | none => s)

/-- A boundary passes in a doff. -/
def State.doffBoundary (s : State) : State :=
  match s.rp.doff with
  | some d => { s with rp := { s.rp with doff := some { d with turns := d.turns + 1 } } }
  | none => s

/-- A serving spindle is to be relieved: by a doff where a spare is free and no other doff runs, else by a reset in place
(R508, R526). The second component says that it was a doff. -/
def State.relieve (s : State) (ch : Nat) (soft : Bool) : State × Bool :=
  match s.lowestSpare with
  | some t => if s.rp.doff.isNone then (s.startDoff ch t soft, true) else (s.resetServing ch, false)
  | none => ((s.spareOut 1 (s.spOf ch)).resetServing ch, false)

/-- SPINDLE_PROGRESS_TIMEOUT (R508). -/
def execSpindleProgressTimeout (dt : Nat) (ch : Fin 16) (s : State) : Host.Outcome State Fault Refusal :=
  s.at_ dt (fun s =>
    let c := s.ch ch.val
    let counts := decide (c.st ≠ .off) && decide (c.st ≠ .boHold) && decide (c.st ≠ .boWait) && decide (c.st ≠ .quarantined)
    if counts && decide (c.idleTurns ≥ s.fld 0xF0004 16 12) then
      let d0 := s.spD0 ch.val
      let s1 := s.modCh ch.val (fun c => { c with idleTurns := 0 })
      let r := if s1.fld 0xF0004 28 2 = 1 then s1.relieve ch.val true else (s1.resetServing ch.val, false)
      ((r.1.slub 0x0220 d0 (b01 r.2) 0).raise 0x008).count 5763
    else s)

/-- SPINDLE_SELF_CHECK_FAILED (R508, R526, R115): source offset 0xA; a serving spindle is relieved, a spare is retired. The slub of
a spindle that serves no channel names a channel and error counters that the spec leaves open (log 65). -/
def State.selfCheckFails (s : State) (n : Nat) : State :=
  let s1 := s.setSpindle n { s.spindle n with selfOk := false }
  match channels.find? (fun c => decide (s.spOf c = n)) with
  | some c => ((s1.spEvent c 0xA).relieve c false).1
  | none =>
    let s2 := (s1.slub 0x021A (Config.freeNat s1.free % 16 + 256 * n) (Config.freeNat (s1.free + 1)) 0).raise (0x080 + 16 * n + 0xA)
    let s3 := s2.useFree.useFree
    if (s3.spindle n).role = .spare then
      (s3.setSpindle n { s3.spindle n with role := .retired }).queueBurn (fuseWord 1 n 0)
    else s3

/-- SPINDLE_SELF_CHECK_FAILED. -/
def execSpindleSelfCheckFailed (dt : Nat) (sp : Fin 18) (s : State) : Host.Outcome State Fault Refusal :=
  s.at_ dt (fun s => s.selfCheckFails sp.val)

/-! ## Aging monitors (R534) -/

/-- Block and instance of a monitor. -/
def monitorOf (i : Nat) : Nat × Nat :=
  if i < 18 then (0x02, i) else if i < 23 then (0x06, i - 18) else if i < 27 then (0x0E, i - 23) else (i - 27, 0)

/-- One margin is taken: crossings of the two thresholds are reported once (R534). -/
def State.margin (s : State) (i m : Nat) : State :=
  let b := monitorOf i
  let low := decide (m < s.fld 0xF8004 0 10)
  let act := decide (m < s.fld 0xF8004 16 10)
  let s1 := { s with
    rp := { s.rp with
      margins := Tbl.put s.rp.margins i 0 m
      warned := if low then (if s.rp.warned.contains i then s.rp.warned else s.rp.warned ++ [i]) else s.rp.warned.filter (· ≠ i)
      acted := if act then (if s.rp.acted.contains i then s.rp.acted else s.rp.acted ++ [i]) else s.rp.acted.filter (· ≠ i) } }
  let s2 := if low && !s.rp.warned.contains i then (s1.slub 0x0F06 b.1 b.2 m).raise 0x014 else s1
  if act && !s.rp.acted.contains i then (s2.slub 0x0F06 b.1 b.2 m).raise 0x015 else s2

/-- A weak serving spindle or a weak lane in service is replaced (R526, R532). -/
def State.ageAct (s : State) (i : Nat) : State :=
  if i < 18 then
    match channels.find? (fun c => decide (s.spOf c = i)) with
    | none => s
    | some c =>
      if s.rp.doff.isSome then s
      else match s.lowestSpare with
        | some t => s.startDoff c t false
        | none => s.spareOut 1 i
  else if i < 23 then
    if s.tw.lanes.contains (i - 18) && s.tw.joining.isNone then
      match s.tw.spare with
      | some x =>
        ({ s with tw := { s.tw with spare := none, joining := some x, leaving := some (i - 18) } }).queueBurn
          (fuseWord 4 (i - 18) 0)
      | none => s.spareOut 4 (i - 18)
    else s
  else s

/-- AGING_CHECK (R534): the 46 margins in 0.1 %. -/
def execAgingCheck (dt : Nat) (margins : List Nat) (s : State) : Host.Outcome State Fault Refusal :=
  s.at_ dt (fun s =>
    let s1 := (List.range 46).foldl (fun (a : State) i => a.margin i (min 1023 (margins.getD i 0))) s
    if s1.bit 0xF8000 1 then s1.rp.acted.foldl State.ageAct s1 else s1)

/-! ## Fuses (R535 to R537) -/

/-- RP_CMD_BURN (R536). -/
def execRpCmdBurn (dt : Nat) (w : Wr) (s : State) : Host.Outcome State Fault Refusal :=
  s.at_ dt (fun s => s.wr 0xF8008 w (fun s =>
    if bitOf w.data 0 then ({ s with rp := { s.rp with burnNow := true } }).burnNext else s))

/-- FUSE_DATA_WORD_WRITTEN (R536): the entry is half-written until its valid word follows. -/
def execFuseDataWordWritten (dt : Nat) (s : State) : Host.Outcome State Fault Refusal :=
  s.at_ dt (fun s =>
    match s.rp.burn with
    | some b =>
      if b.half then s
      else { s with
        rp := { s.rp with burn := some { b with half := true }, fuses := Tbl.ins s.rp.fuses b.entry (false, b.data) } }
    | none => s)

/-- FUSE_BURN_COMPLETE (R536). -/
def execFuseBurnComplete (dt : Nat) (s : State) : Host.Outcome State Fault Refusal :=
  s.at_ dt (fun s =>
    match s.rp.burn with
    | some b =>
      if b.half then
        let s1 := { s with
          rp := { s.rp with burn := none, fuses := Tbl.ins s.rp.fuses b.entry (true, b.data) } }
        (((s1.raise 0x016).slub 0x0F07 b.entry 0 0).count 5827).burnNext
      else s
    | none => s)

end Sys2Proof.Machine
end

