-- ==== Sys2Proof/Machine/Memory.lean ====
section
/-!
DEFINITION. Sliver flushes (R430) and the protection of the SRAM: the scrubber and what corrected and uncorrectable reads
do (R432 to R435).
-/

namespace Sys2Proof.Machine

/-! ## Flushes (R430) -/

/-- SLIVER_FLUSH: SV_n_CMD.FLUSH. -/
def execSliverFlush (dt : Nat) (sl : Fin 36) (w : Wr) (s : State) : Host.Outcome State Fault Refusal :=
  s.at_ dt (fun s => s.wr (0xC0004 + 16 * sl.val) w (fun s =>
    if bitOf w.data 0 then s.setSliver sl.val { s.sliver sl.val with flushing := true } else s))

/-- A flush of a receive sliver: every whole record goes (carding has begun none). -/
def State.flushRx (s : State) (sl : Nat) : State :=
  let v := s.sliver sl
  (s.setSliver sl { v with r := v.w, m := v.w, recs := [], flushing := false }).countN (5504 + 4 * sl + 2) v.recs.length

/-- A flush of a transmit sliver with no frame in flight: every record goes and aborts its bobbin. -/
def State.flushTx (s : State) (sl : Nat) : State :=
  let v := s.sliver sl
  v.recs.foldl (fun (a : State) x =>
    match (a.ch x.ch).readyOf x.bob with
    | some e => a.abort x.ch e
    | none => a) (s.clearTx sl)

/-- SLIVER_FLUSH_EFFECT: the next frame boundary of the sliver. -/
def execSliverFlushEffect (dt : Nat) (sl : Fin 36) (s : State) : Host.Outcome State Fault Refusal :=
  s.at_ dt (fun s =>
    let v := s.sliver sl.val
    if v.flushing = false then s
    else if sl.val % 2 = 0 then s.flushRx sl.val
    else if v.flight.isNone then s.flushTx sl.val
    else s)

/-! ## Uncorrectable reads (R435) -/

/-- A poisoned bobbin: a received one takes POISON, a transmit one is aborted. -/
def State.creelUe (s : State) (bob : Nat) : State :=
  match s.bob bob with
  | none => s
  | some b =>
    match b.cls with
    | .rx | .relay => { s with cr := { s.cr with bobs := Tbl.ins s.cr.bobs bob { b with poison := true } } }
    | _ =>
      match channels.findSome? (fun c => ((s.ch c).readyOf bob).map (fun e => (c, e))) with
      | some (c, e) => s.abort c e
      | none => s

/-- The oldest record of a sliver gets a poisoned word. -/
def State.sliverUe (s : State) (sl : Nat) : State :=
  let v := s.sliver sl
  match v.recs with
  | [] => s
  | x :: l => s.setSliver sl { v with recs := { x with poisonPay := true } :: l }

/-- A node's signature restarts, or a capture is discarded and counted: items below 512 are the signatures, 32 for each
channel, the others the captures, 8 for each channel. -/
def State.signatureUe (s : State) (item : Nat) : State :=
  if item < 512 then s.modLine (item / 32) (fun v => { v with sig := Tbl.put v.sig (item % 32) {} {} })
  else
    let ch := (item - 512) / 8 % 16
    (s.modLine ch (fun v => { v with caps := Tbl.put v.caps ((item - 512) % 8) {} {} })).count (64 * ch + 28)

/-- A hank of the trace buffer is dropped and counted. -/
def State.traceUe (s : State) (slot : Nat) : State :=
  if (Tbl.look s.rep.trace slot).isSome then ({ s with rep := { s.rep with trace := Tbl.del s.rep.trace slot } }).count 5840
  else s

/-- A loop's evaluation is abandoned in this turn (R221, R248). -/
def State.loopUe (s : State) (k : Nat) : State :=
  if (s.loop k).due then s.modLoop k (fun v => { v with dead := true, eval := none }) else s

/-- The release of a cyclic stream in this turn is not made and counts as a miss. -/
def State.streamUe (s : State) (n : Nat) : State :=
  match s.stream n with
  | none => s
  | some x =>
    if decide (s.dev.st = .run) && decide (x.st = .live) && decide (x.cfg.kind = 0) && decide (x.relIn = some 0) && !x.relDone then
      let t := s.tm.bound + BitVec.ofNat 64 (s.relOffset x.cfg)
      let r : Rel := {
        id := x.nextRel, at_ := t, due := t + BitVec.ofNat 64 (x.cfg.deadline.toNat * 1000)
        ch := x.cfg.ch.val, old := false, inBreach := (s.breach x.cfg.ch.val).on, cov := x.breach, past := false, late := none, gone := false, errTime := none, sofT := 0, eofT := 0, status := 0
        desc := none, byWire := false, shadow := none, compared := false }
      (s.setStream n { x with relDone := true, nextRel := x.nextRel + 1, rels := x.rels ++ [r] }).relGone n r.id 0
    else s

/-- Cached ring words are fetched again (Table 13.4): of a distaff that is served, the descriptors fetched and not yet accepted,
those that have arrived out of order, and the index. -/
def State.cacheUe (s : State) (p : Port) (d : Fin 128) : State :=
  let g := (s.port p).dsr d.val
  if (s.port p).serves g then
    let back := g.fetched.map (fun _ => ({ at_ := s.clock } : Flight))
    let l := g.flight.map (fun x => if x.words.isSome then { x with words := none, at_ := s.clock, tries := 0 } else x)
    let s1 := s.modDs p d.val (fun g => { g with
      own := g.own - BitVec.ofNat 32 g.fetched.length, fetched := [], payTries := 0, payAt := none, flight := back ++ l })
    let again := (List.range g.fetched.length) ++
      ((List.range g.flight.length).filter (fun k => (g.flight[k]?).any (fun x => x.words.isSome))).map (· + g.fetched.length)
    (again.foldl (fun (a : State) k => a.issue p (.desc d k)) s1).readProd p d.val
  else s

/-- What an uncorrectable read does in its region (Table 13.4). An exact-match entry is not found from then on, until it is written
anew; a distaff's item is its number, with 128 for port B (log 67). -/
def State.ueEffect (s : State) (row region item : Nat) : State :=
  match region with
  | 1 => s.creelUe item
  | 2 => s.sliverUe (item % 36)
  | 3 => s.signatureUe item
  | 4 => s.traceUe item
  | 5 => s.loopUe (item % 256)
  | 6 => s.streamUe item
  | 7 => { s with mm := { s.mm with emBad := Tbl.ins s.mm.emBad (item % 32768) row } }
  | 8 => s.detect (item % 16) 2 0 0
  | 9 => s.timeoutDraft
  | 10 => s.cacheUe (if item / 128 % 2 = 0 then .a else .b) (finOf 128 (by decide) item)
  | _ => s

/-- One row's findings (R432, R434, R435). Region 0 is no region. -/
def State.rowErr (s : State) (e : RowErr) : State :=
  let r := e.row.val
  let reg := e.region.val
  if reg = 0 then s
  else
    let v := s.row r
    let s1 := s.setRow r { v with ce := min 255 (v.ce + e.ce) }
    let s2 := if e.ce > 0 then
        ({ s1 with mm := { s1.mm with lastCe := r } }).countN (5696 + reg - 1) e.ce else s1
    let s3 := s2.countN 5728 e.dropped
    let s4 := if e.ue then (s3.ueReport r reg).ueEffect r reg e.item else s3
    if 0 < e.ce ∧ s.fld 0xC8000 16 8 ≤ min 255 (v.ce + e.ce) then s4.retireRow r else s4

/-- SCRUB (R433): SCRUB_ROWS rows are read in ascending row number, wrapping. -/
def execScrub (dt : Nat) (errs : List RowErr) (s : State) : Host.Outcome State Fault Refusal :=
  s.at_ dt (fun s =>
    let n := s.fld 0xC8000 0 13
    let a := s.mm.nextRow
    let s1 := (errs.filter (fun e => decide ((e.row.val + 32768 - a) % 32768 < n))).foldl State.rowErr s
    { s1 with
      mm := { s1.mm with
        nextRow := (a + n) % 32768, passes := s1.mm.passes + BitVec.ofNat 16 ((a + n) / 32768) } })

end Sys2Proof.Machine
end

