-- ==== Sys2Proof/Machine/Keys.lean ====
section
/-!
DEFINITION. The key store (R538 to R541, R551): KEY_LOAD and its completion, lock bits, posted KS_ writes, and the
freshness shown.
-/

namespace Sys2Proof.Machine

/-- A key-encryption or key-check key: the device-unique key applied to a block that begins with `b` (Table 18.1). -/
def wrapKey (b : Byte) : List Byte :=
  aes128 (leBytes 16 Config.deviceKey.toNat) (b :: List.replicate 15 0)

/-- The tag that a blob for a slot must carry: over the byte SLOT followed by C (Table 18.1). -/
def blobTag (b : KeyBody) : List Byte :=
  (aesCmac (wrapKey 2) (BitVec.ofNat 8 b.slot.toNat :: leBytes 16 b.c.toNat)).take 8

/-- The key that a blob wraps. -/
def blobKey (b : KeyBody) : BitVec 128 := BitVec.ofNat 128 (leNat (aes128Inv (wrapKey 1) (leBytes 16 b.c.toNat)))

/-- Lock register of a key slot. -/
def ksLockOff (slot : Nat) : Nat := if slot < 32 then 0x100010 else 0x100014
/-- Lock bit of a slot in its register. -/
def ksLockBit (slot : Nat) : Nat := slot % 32

/-- Does the KS_LOCK bit of a slot stand (R540)? -/
def State.ksLocked (s : State) (slot : Nat) : Bool := bitOf (s.lock (ksLockOff slot)) (ksLockBit slot)

/-- The result of a KEY_LOAD is shown in KS_STATUS. -/
def State.ksResult (s : State) (slot st : Nat) : State :=
  { s with ks := { s.ks with lastSlot := slot, lastResult := st } }

/-- KEY_LOAD (R540): the first failing check decides; a load that passes runs until its completion. -/
def State.acceptKeyLoad (s : State) (d : Desc) (b : KeyBody) : State :=
  s.accept d 12 (fun s =>
    let slot := b.slot.toNat
    if b.blobLen.toNat ≠ 24 then (s.ksResult slot 2).completeSt d 12 2
    else if s.ksLocked slot then (((s.ksResult slot 10).count 5834).raise 0x025).completeSt d 12 10
    else if blobTag b ≠ leBytes 8 b.t.toNat then
      ((((s.ksResult slot 11).count 5833).slub 0x1002 slot 0 0).raise 0x023).completeSt d 12 11
    else { s with ks := { s.ks with loads := s.ks.loads ++ [{ desc := d, slot := slot, key := blobKey b }] } })

/-- KEY_LOAD. -/
def execKeyLoad (dt : Nat) (d : Desc) (b : KeyBody) (s : State) : Host.Outcome State Fault Refusal :=
  s.descRow dt d (.keyLoad b) (fun s => s.acceptKeyLoad d b)

/-- Is a load into a slot running? -/
def State.loadingKey (s : State) (slot : Nat) : Bool := s.ks.loads.any (fun x => decide (x.slot = slot))

/-- The slots that a KS_LOCK write names. -/
def ksLockSlots (half : Nat) (w : Word) : List Nat :=
  ((List.range 32).filter (fun i => bitOf w i)).map (fun i => 32 * half + i)

/-- KEY_LOAD_COMPLETE (R540, R541): the oldest load replaces its slot's key; lock bits that waited for it are set. -/
def execKeyLoadComplete (dt : Nat) (s : State) : Host.Outcome State Fault Refusal :=
  s.at_ dt (fun s =>
    match s.ks.loads with
    | [] => s
    | x :: rest =>
      let s1 := { s with
        ks := { s.ks with
          loads := rest, slots := Tbl.ins s.ks.slots x.slot x.key, base := Tbl.del s.ks.base x.slot
          lastSlot := x.slot, lastResult := 0, lockPend := s.ks.lockPend.filter (fun e => decide (e.1 ≠ x.slot)) } }
      let s2 := (s.ks.lockPend.filter (fun e => decide (e.1 = x.slot))).foldl
        (fun (a : State) (e : Nat × Word) => a.setLock (ksLockOff e.1) e.2) s1
      ((s2.count 5832).raise 0x022).completeSt x.desc 12 0)

/-- KS_LOCK (R541, R551): bits of a slot into which a load runs wait for it; the write is posted. -/
def execKsLock (dt : Nat) (half : Fin 2) (w : Wr) (s : State) : Host.Outcome State Fault Refusal :=
  let off := 0x100010 + 4 * half.val
  s.at_ dt (fun s => s.wr off w (fun s =>
    let wait := (ksLockSlots half.val w.data).filter (fun i => s.loadingKey i && !s.ksLocked i)
    let bits := wait.map (fun i => (i, BitVec.ofNat 32 (2 ^ ksLockBit i)))
    let now := bits.foldl (fun (m : Word) e => m &&& ~~~e.2) w.data
    let s1 := s.setLock off now
    { s1 with ks := { s1.ks with lockPend := s1.ks.lockPend ++ bits, posted := some (off, w.data) } }))

/-- KS_WRITE_TAKEN (R551): the key store takes the posted write and KS_BUSY clears. -/
def execKsWriteTaken (dt : Nat) (s : State) : Host.Outcome State Fault Refusal :=
  s.at_ dt (fun s =>
    match s.ks.posted with
    | none => s
    | some (off, v) =>
      let s1 := { s with ks := { s.ks with posted := none } }
      if off = 0x100020 then s1.setRwi off (v &&& 0xFFF) else s1)

/-- F of the stream that KS_FR_INDEX shows; 0 for a number never opened. -/
def State.shownFresh (s : State) : Nat :=
  match s.stream (fieldOf (s.rwi 0x100020) 0 12) with
  | some x => x.fresh
  | none => 0

/-- KS_FR_LO_READ (R48): bits [31:0] of F are read and bits [47:32] latched for the port. -/
def execKsFrLoRead (dt : Nat) (r : Rd) (s : State) : Host.Outcome State Fault Refusal :=
  s.at_ dt (fun s =>
    let f := BitVec.ofNat 64 s.shownFresh
    s.latchRead 0x100024 r (lo32 f) (fun q => { q with frHi := hi32 f }))

end Sys2Proof.Machine
end

