-- ==== Sys2Proof/Machine/Trace.lean ====
section
/-!
DEFINITION. Trace (R556 to R559): hanks leave the queue for the port, the trace buffer and its drain; freezing and
RESTART; and the boundary-scan TAP (R561, R566).
-/

namespace Sys2Proof.Machine

/-- Hanks the trace buffer holds at most (R557). -/
def traceSize : Nat := 131072

/-- Slot of the oldest hank of the queue: hank n of HK_TOTAL belongs to slot n − 1 (R558). Dropped hanks are counted
too; the LOST hank before a gap tells how many. -/
def Rep.headSlot (r : Rep) : Nat :=
  let after := (r.hanks.tail.map (fun h => if h.kind = 8 then 1 + h.aux else 1)).sum
  (r.hkTotal.toNat + 2 ^ 32 - r.hkDropped - after - 1) % traceSize

/-- HK_CFG.POST. -/
def State.post_ (s : State) : Nat := s.fld 0x110000 16 16

/-- Port of the drain. -/
def State.drainPort (s : State) : Port := if s.bit 0x110018 5 then .b else .a

/-- Where in host memory hank number n of the drain is written (R559): the ring of 2^LOG2 hanks of 16 bytes at HK_DRAIN. -/
def State.drainAddr (s : State) (n : Word) : BitVec 64 :=
  (s.live 0x110014 ++ s.live 0x110010) + BitVec.ofNat 64 (16 * (n.toNat % 2 ^ (s.fld 0x110018 0 5)))

/-- Copy the hanks that wait for the drain to the host ring, oldest first, while its port can write (R559). -/
def State.drainHanks (s : State) : State :=
  let p := s.drainPort
  if (s.port p).canWrite && !s.rep.undrained.isEmpty then
    let s1 := s.rep.undrained.foldl (fun (a : State) slot =>
      match Tbl.look a.rep.trace slot with
      | some h =>
        let b := a.emit (.drain p (a.rep.drainProd.toNat % 2 ^ (a.fld 0x110018 0 5)) (a.drainAddr a.rep.drainProd) h)
        { b with rep := { b.rep with drainProd := b.rep.drainProd + 1 } }
      | none => a) s
    ({ s1 with rep := { s1.rep with undrained := [] } }).raiseOnce 0x02B 0x02B
  else s

/-- A hank enters the trace buffer; one that is overwritten before it was drained is counted (R557, R559). -/
def State.traceHank (s : State) (slot : Nat) (h : Hank) : State :=
  let lost := s.rep.undrained.contains slot
  let s1 := { s with
    rep := { s.rep with
      trace := Tbl.ins s.rep.trace slot h
      fill := min traceSize (s.rep.fill + 1)
      post := if s.rep.stopSeen then s.rep.post + 1 else s.rep.post
      undrained := (s.rep.undrained.filter (fun x => decide (x ≠ slot))) ++ (if s.bit 0x110018 6 then [slot] else []) } }
  let s2 := if lost then (s1.count 5841).raise 0x02A else s1
  s2.drainHanks

/-- HANK_OUTPUT (R556, R557): the oldest hank leaves the queue, for the port while OUT_EN is 1 and for the trace buffer
while BUF_EN is 1 and the buffer takes hanks. -/
def execHankOutput (dt : Nat) (s : State) : Host.Outcome State Fault Refusal :=
  s.at_ dt (fun s =>
    match s.rep.hanks with
    | [] => s
    | h :: l =>
      let slot := s.rep.headSlot
      let s1 := { s with rep := { s.rep with hanks := l } }
      let s2 := if s1.bit 0x110000 0 then s1.emit (.hank h) else s1
      let open_ := !s2.rep.frozen && !(s2.rep.stopSeen && decide (s2.rep.post ≥ s2.post_))
      if s2.bit 0x110000 1 && open_ then s2.traceHank slot h else s2)

/-- TRACE_BUFFER_FREEZE (R557): POST hanks after the stopping slub. -/
def execTraceBufferFreeze (dt : Nat) (s : State) : Host.Outcome State Fault Refusal :=
  s.at_ dt (fun s =>
    if s.rep.stopSeen && !s.rep.frozen && decide (s.rep.post ≥ s.post_) then
      ({ s with rep := { s.rep with frozen := true } }).raise 0x029
    else s)

/-- The trace buffer is empty and takes hanks again. -/
def State.clearTrace (s : State) : State :=
  { s with
    rep := { s.rep with trace := [], fill := 0, stopSeen := false, post := 0, frozen := false, undrained := [] } }

/-- RESTART (R557): hanks not drained yet are lost and counted. -/
def execRestart (dt : Nat) (w : Wr) (s : State) : Host.Outcome State Fault Refusal :=
  s.at_ dt (fun s => s.wr 0x11002C w (fun s =>
    if bitOf w.data 0 then
      let n := s.rep.undrained.length
      let s1 := s.clearTrace
      if n = 0 then s1 else (s1.countN 5841 n).raise 0x02A
    else s))

/-! ## Boundary scan -/

/-- IDCODE (R561). -/
def idcode : Word :=
  packWord [(0, 1), (1, Config.jedec.toNat), (12, 0x1618), (28, Config.coreStep.toNat)]

/-- A command at the TAP, which a reset of Molwegon does not stop (R566); in OFF there is none. -/
def State.tapRow (s : State) (dt : Nat) (f : State → State) : Host.Outcome State Fault Refusal :=
  if s.up then s.at_ dt f else .next (if s.dev.st = .off then s else f s)

/-- TAP_IDCODE: the identification register is selected and read. -/
def execTapIdcode (dt : Nat) (s : State) : Host.Outcome State Fault Refusal :=
  s.tapRow dt (fun s => ({ s with dev := { s.dev with tap := .idcode } }).emit (.tap idcode))

/-- TAP_SAMPLE_PRELOAD: the boundary register samples the balls. Its order is Farnadin's, so what it holds is a free value
(log 2); a PRELOAD value reaches no ball. -/
def execTapSamplePreload (dt : Nat) (s : State) : Host.Outcome State Fault Refusal :=
  s.tapRow dt (fun s =>
    ({ s with dev := { s.dev with tap := .sample, scan := some (Config.freeNat s.free) } }).useFree)

/-- TAP_BYPASS. -/
def execTapBypass (dt : Nat) (s : State) : Host.Outcome State Fault Refusal :=
  s.tapRow dt (fun s => { s with dev := { s.dev with tap := .bypass } })

/-- TRST_ASSERT (R566): the TAP is reset and IDCODE selected (R561). -/
def execTrstAssert (dt : Nat) (s : State) : Host.Outcome State Fault Refusal :=
  s.tapRow dt (fun s => { s with dev := { s.dev with tap := .idcode } })

end Sys2Proof.Machine
end

