-- ==== Sys2Proof/Machine/Rings.lean ====
section
/-!
DEFINITION. Host rings (chapter 10): polling of the doorbell page, fetching and acceptance, FENCE, stalls, and the port
and ring settings with what resets them.
-/

namespace Sys2Proof.Machine

/-! ## FENCE and acceptance by body -/

/-- Has a turn begun (R342): TURN − current turn is 0 or at least 2^47? -/
def State.turnBegun (s : State) (turn : BitVec 48) : Bool :=
  decide (turn = s.tm.turn) || decide ((turn - s.tm.turn).toNat ≥ 2 ^ 47)

/-- A FENCE completes OK with the boundary's time and its turn (R342, Table 10.12). -/
def State.fenceOk (s : State) (d : Desc) (turn : BitVec 48) : State :=
  s.complete d { complOf d 11 0 with turn := turn, timeA := s.tm.bound }

/-- FENCE (R342). -/
def State.acceptFence (s : State) (d : Desc) (turn : BitVec 48) (hold : Bool) : State :=
  s.accept d 11 (fun s =>
    if s.turnBegun turn then s.fenceOk d turn
    else if (turn - s.tm.turn).toNat ≤ 2 ^ 32 then
      { s with fences := s.fences ++ [{ desc := d, turn := turn, hold := hold }] }
    else s.completeSt d 11 2)

/-- FENCE. -/
def execFence (dt : Nat) (d : Desc) (turn : BitVec 48) (hold : Bool) (s : State) : Host.Outcome State Fault Refusal :=
  s.descRow dt d (.fence turn hold) (fun s => s.acceptFence d turn hold)

/-- The stream or declaration that a body names in its completion (Table 10.12). -/
def DescBody.subject : DescBody → Nat
  | .open_ b => b.stream.val
  | .close n => n.val
  | .data b => b.stream.val
  | .foreign b => b.index.val
  | _ => 0

/-- Opcode of a body (Table 10.7). -/
def DescBody.opcode : DescBody → Nat
  | .nop => 0
  | .send _ => 1
  | .open_ _ => 2
  | .close _ => 3
  | .data _ => 4
  | .foreign _ => 5
  | .loopParam _ => 6
  | .loopMode _ => 7
  | .feedCmd _ _ _ => 8
  | .capture _ => 9
  | .plyCmd _ _ => 10
  | .fence _ _ => 11
  | .keyLoad _ => 12
  | .chCmd _ _ => 13
  | .bad n => n

/-- Acceptance of a descriptor by its body. -/
def State.acceptAny (s : State) (d : Desc) : DescBody → State
  | .nop => s.acceptNop d
  | .send b => s.acceptSend d b
  | .open_ b => s.acceptOpen d b
  | .close n => s.acceptClose d n
  | .data b => s.acceptData d b
  | .foreign b => s.acceptForeign d b
  | .loopParam b => s.acceptLoopParam d b
  | .loopMode b => s.acceptLoopMode d b
  | .feedCmd act f off => s.acceptFeed d act f.val off.toNat
  | .capture b => s.acceptCapture d b
  | .plyCmd act m => s.acceptPly d act m.val
  | .fence turn hold => s.acceptFence d turn hold
  | .keyLoad b => s.acceptKeyLoad d b
  | .chCmd act ch => s.acceptChCmd d act ch.val
  | .bad n => s.accept d n id

/-- Offer a descriptor of any body. -/
def State.offerAny (s : State) (d : Desc) (b : DescBody) : State := s.offerDesc d b (fun s => s.acceptAny d b)

/-- At a boundary, FENCEs whose turn has begun complete, and what they held is offered again in its order (R342). -/
def State.fenceBoundary (s : State) : State :=
  let due := s.fences.filter (fun x => s.turnBegun x.turn)
  let s1 := { s with fences := s.fences.filter (fun x => !s.turnBegun x.turn), holds := [] }
  let s2 := due.foldl (fun (a : State) x => a.fenceOk x.desc x.turn) s1
  s.holds.foldl (fun (a : State) h => a.offerAny h.desc h.body) s2

/-! ## Stalls -/

/-- Detail word D0 of slub 0x0902. -/
def stallD0 (p : Port) (skein : Bool) (n : Nat) : Nat := n + 128 * b01 skein + 256 * p.idx

/-- A completion of a descriptor that was fetched and not accepted. -/
def State.unaccepted (s : State) (d : Desc) (b : DescBody) (status : Nat) : State :=
  let s1 := if status = 9 then s.count (5184 + 64 * d.port.idx + 6) else s
  s1.refuse d b.opcode b.subject status

/-- The descriptor reads of a distaff in flight are given up, with the entries that they reserved. -/
def State.dropFlight (s : State) (p : Port) (d : Nat) : State :=
  let g := (s.port p).dsr d
  let s1 := (List.range g.flight.length).foldl (fun (a : State) k => a.unreserve p d (g.own + BitVec.ofNat 32 k)) s
  s1.modDs p d (fun g => { g with flight := [], payTries := 0, payAt := none, reading := [], wantProd := false })

/-- A ring stalls (R347). For a distaff, reads in flight give their reserved entries back, and descriptors fetched and not
accepted complete with `status`. -/
def State.stall (s : State) (p : Port) (skein : Bool) (n err : Nat) (idx : Word) (status : Nat) : State :=
  let q := s.port p
  let g := if skein then q.skn n else q.dsr n
  if g.st ≠ .running then s
  else
    let mark := fun (s : State) => (s.slub 0x0902 (stallD0 p skein n) err idx.toNat).raise 0x340
    let header := fun (s : State) => { s with rep := s.rep.writeHeader s.ctx p }
    if skein then
      header (mark (s.modSk p n (fun g => { g with st := .stalled, err := err, errIdx := idx, reading := [] })))
    else
      let s2 := (s.dropFlight p n).modDs p n (fun g => { g with st := .stalled, err := err, errIdx := idx, fetched := [] })
      let mine := fun (h : HeldDesc) => decide (h.desc.port = p) && decide (h.desc.distaff.val = n)
      let s3 := header (mark { s2 with holds := s2.holds.filter (fun h => !mine h) })
      let s4 := (s2.holds.filter mine).foldl (fun (a : State) h => a.unaccepted h.desc h.body status) s3
      g.fetched.foldl (fun (a : State) x =>
        a.unaccepted (descHead p (finOf 128 (by decide) n) x.index x.words) (descBody x.words x.pay) status) s4

/-! ## Polling -/

/-- Has a read issued at a time stayed within CPL_TMO of its port (R320)? -/
def PortSt.inTime (q : PortSt) (clock at_ : Nat) : Bool := decide (clock - at_ ≤ q.cplTmo * 1000)

/-- The reads of SK_CONS that a poll brings: of each skein whose cached copy shows no unreserved entry (R327). -/
def State.pollSkeins (s : State) (p : Port) : State :=
  (s.port p).sk.foldl (fun (a : State) (e : Nat × Ring) =>
    if (a.port p).serves e.2 && e.2.reading.isEmpty && decide (e.2.free = 0) && a.readRoom p then
      (a.modSk p e.1 (fun g => { g with reading := [a.clock] })).issue p (.skCons (finOf 128 (by decide) e.1))
    else a) s

/-- The reads of DS_PROD of the distaffs of a port that a test names (R325). -/
def State.readProds (s : State) (p : Port) (want : Nat → Bool) : State :=
  (s.port p).ds.foldl (fun (a : State) (e : Nat × Ring) => if want e.1 then a.readProd p e.1 else a) s

/-- SUMMARY_POLL (R325): the summary line is read, and at every SWEEP-th poll DS_PROD of every enabled distaff; with it, SK_CONS
where R327 asks for it. -/
def execSummaryPoll (dt : Nat) (port : Port) (s : State) : Host.Outcome State Fault Refusal :=
  s.at_ dt (fun s =>
    let q := s.port port
    if q.portEn && q.canWrite && !q.sumBusy && (decide (q.polls = 0) || decide (q.pollAt + q.poll * 100 ≤ s.clock)) &&
        s.readRoom port then
      let s1 := (s.setPort port { q with
        polls := q.polls + 1, pollAt := s.clock, sumBusy := true, sumAt := s.clock }).issue port .summary
      let s2 := s1.pollSkeins port
      if (q.polls + 1) % q.sweep = 0 then s2.readProds port (fun _ => true) else s2
    else s)

/-- SUMMARY_READ_COMPLETE (R325): DS_PROD reads of the enabled distaffs whose bit differs; GENERATION is compared (R365). -/
def execSummaryReadComplete (dt : Nat) (port : Port) (summary : BitVec 128) (generation : Word) (s : State) :
    Host.Outcome State Fault Refusal :=
  s.at_ dt (fun s =>
    let q := s.port port
    if q.portEn && q.canWrite && q.sumBusy && q.inTime s.clock q.sumAt then
      let diff := summary ^^^ q.summary
      let s1 := s.setPort port { q with
        sumBusy := false, sumFails := 0, summary := summary, gen := generation
        genAt := if generation = q.gen then q.genAt else s.clock }
      (s1.readProds port (fun d => diff.getLsbD d)).serve
    else s)

/-- DS_PROD_READ_COMPLETE (R328): the distaff stalls with cause INDEX, or its new descriptors are fetched. -/
def execDsProdReadComplete (dt : Nat) (port : Port) (ds : Fin 128) (prod : Word) (s : State) :
    Host.Outcome State Fault Refusal :=
  s.at_ dt (fun s =>
    let q := s.port port
    let g := q.dsr ds.val
    match g.reading with
    | [] => s
    | t :: rest =>
      if q.serves g && q.inTime s.clock t then
        let s1 := s.modDs port ds.val (fun g => { g with reading := rest })
        if (prod - g.own).toNat > 2 ^ g.log2 then (s1.stall port false ds.val 3 prod 5).serve
        else (s1.modDs port ds.val (fun g => { g with peer := prod })).serve
      else s)

/-- Write what waits for a skein (R332, R347). -/
def State.flushSkein (s : State) (p : Port) (k : Nat) : State :=
  { s with rep := Rep.flushWaiting (((s.port p).skn k).waiting.length) s.ctx s.rep p k }

/-- SK_CONS_READ_COMPLETE (R327): an index below the cached copy or beyond the producer index is ignored and counted. -/
def execSkConsReadComplete (dt : Nat) (port : Port) (sk : Fin 128) (cons : Word) (s : State) :
    Host.Outcome State Fault Refusal :=
  s.at_ dt (fun s =>
    let q := s.port port
    let g := q.skn sk.val
    match g.reading with
    | [] => s
    | t :: _ =>
      if q.serves g && q.inTime s.clock t then
        let s1 := s.modSk port sk.val (fun g => { g with reading := [] })
        if (cons - g.peer).toNat ≤ g.used then
          ((s1.modSk port sk.val (fun g => { g with peer := cons })).flushSkein port sk.val).serve
        else (s1.count (5184 + 64 * port.idx + 3)).serve
      else s)

/-! ## Descriptors arrive -/

/-- Does a fetched descriptor need its payload read before acceptance (R336)? An address that is not aligned is refused at
acceptance (R337). -/
def Fetched.needsPay (x : Fetched) : Bool :=
  descIndirect x.words && x.pay.isEmpty && decide ((descWide x.words 4).toNat % 64 = 0)

/-- The head of a distaff's fetched descriptors is checked and offered, in index order, until one waits for its payload
(R331, R334, R336); n at most. -/
def State.drain : Nat → State → Port → Fin 128 → State
  | 0, s, _, _ => s
  | n + 1, s, p, d =>
    match ((s.port p).dsr d.val).fetched with
    | [] => s
    | x :: rest =>
      if x.wantsPay then s
      else if x.needsPay then
        (s.modDs p d.val (fun g => { g with payTries := 0, payAt := none, fetched := { x with wantsPay := true } :: rest })).readPay p d
      else
        State.drain n ((s.modDs p d.val (fun g => { g with fetched := rest })).offerAny (descHead p d x.index x.words)
          (descBody x.words x.pay)) p d

/-- Drain all that a distaff has fetched. -/
def State.drainAll (s : State) (p : Port) (d : Fin 128) : State :=
  State.drain (((s.port p).dsr d.val).fetched.length) s p d

/-- The descriptors at the front of a distaff's reads whose words have arrived. -/
def arrived : List Flight → List (List Word)
  | { words := some ws, .. } :: l => ws :: arrived l
  | _ => []

/-- Descriptors that arrived in index order are fetched (R331, R333). -/
def Ring.takeArrived (g : Ring) : Ring :=
  let l := arrived g.flight
  { g with
    own := g.own + BitVec.ofNat 32 l.length, flight := g.flight.drop l.length
    fetched := g.fetched ++ (List.range l.length).map (fun k =>
      { index := g.own + BitVec.ofNat 32 k, words := l.getD k [], wantsPay := false }) }

/-- What fetching brings: DS_CONS and the header (R330), and the value line reads of R338. -/
def State.noteFetched (s : State) (p : Port) (d : Fin 128) (new : List Fetched) : State :=
  let g := (s.port p).dsr d.val
  let s1 := s.emit (.dsCons p d.val g.own ((s.port p).consAddr d.val))
  let s2 := { s1 with rep := s1.rep.writeHeader s1.ctx p }
  new.foldl (fun (a : State) x => a.prefetch (descHead p d x.index x.words) (descBody x.words [])) s2

/-- DESCRIPTOR_FETCHED (R330, R334): the words of the descriptor k places behind the consumer index arrive. -/
def execDescriptorFetched (dt : Nat) (port : Port) (ds : Fin 128) (r : DescRead) (s : State) :
    Host.Outcome State Fault Refusal :=
  s.at_ dt (fun s =>
    let q := s.port port
    let g := q.dsr ds.val
    match g.flight[r.k]? with
    | none => s
    | some x =>
      if q.serves g && x.words.isNone && q.inTime s.clock x.at_ then
        let g1 := { g with flight := g.flight.set r.k { x with words := some r.words } }
        let g2 := g1.takeArrived
        let s1 := s.modDs port ds.val (fun _ => g2)
        if g2.own = g.own then s1.serve
        else ((s1.noteFetched port ds (g2.fetched.drop g.fetched.length)).drainAll port ds).serve
      else s)

/-- PAYLOAD_READ_COMPLETE (R336). -/
def execPayloadReadComplete (dt : Nat) (port : Port) (ds : Fin 128) (data : List Byte) (s : State) :
    Host.Outcome State Fault Refusal :=
  s.at_ dt (fun s =>
    let q := s.port port
    let g := q.dsr ds.val
    match g.fetched, g.payAt with
    | x :: rest, some t =>
      if q.serves g && x.wantsPay && q.inTime s.clock t then
        ((s.modDs port ds.val (fun g => { g with
          payTries := 0, payAt := none, fetched := { x with wantsPay := false, pay := fitBytes 64 data } :: rest })).drainAll port
            ds).serve
      else s
    | _, _ => s)

/-- A failed summary-line read is not retried, and counted; the third in a row writes a slub (R350). -/
def State.failSummary (s : State) (p : Port) : State :=
  let q := s.port p
  let n := q.sumFails + 1
  let s1 := (s.setPort p { q with sumBusy := false, sumFails := if n = 3 then 0 else n }).count (5184 + 64 * p.idx + 1)
  if n = 3 then s1.slub 0x0903 p.idx 0 0 else s1

/-- A failed descriptor read is tried again; the third failure of one descriptor stalls its distaff (R347). -/
def State.failDesc (s : State) (p : Port) (d : Fin 128) (k : Nat) (x : Flight) (err : Nat) : State :=
  let g := (s.port p).dsr d.val
  let s1 := (s.modDs p d.val (fun g => { g with
    flight := g.flight.set k { x with tries := x.tries + 1, at_ := s.clock } })).count (5184 + 64 * p.idx + 1)
  if x.tries + 1 ≥ 3 then s1.stall p false d.val err (g.own + BitVec.ofNat 32 k) 5 else s1.issue p (.desc d k)

/-- A failed payload read is tried again; the third failure stalls the distaff (R336). -/
def State.failPay (s : State) (p : Port) (d : Fin 128) (index : Word) (err : Nat) : State :=
  let g := (s.port p).dsr d.val
  let s1 := (s.modDs p d.val (fun g => { g with payTries := g.payTries + 1, payAt := some s.clock })).count (5184 + 64 * p.idx + 1)
  if g.payTries + 1 ≥ 3 then s1.stall p false d.val err index 5 else s1.issue p (.payload d)

/-- A read of host memory fails with a cause of Table 10.16 (1 timeout, 2 error). A timeout fails only a read that CPL_TMO has run out
for (R320). Summary, DS_PROD and SK_CONS reads are not retried (R350); a descriptor or payload read is tried three times in all, then its
distaff stalls (R336, R347). -/
def State.readFail (s : State) (p : Port) (what : HostRead) (err : Nat) : State :=
  let q := s.port p
  let fails := fun (t : Nat) => decide (err = 2) || decide (t + q.cplTmo * 1000 ≤ s.clock)
  match what with
  | .summary => if q.sumBusy && fails q.sumAt then s.failSummary p else s
  | .dsProd d =>
    match (q.dsr d.val).reading with
    | [] => s
    | t :: rest =>
      if fails t then (s.modDs p d.val (fun g => { g with reading := rest })).count (5184 + 64 * p.idx + 1) else s
  | .skCons k =>
    match (q.skn k.val).reading with
    | [] => s
    | t :: _ => if fails t then (s.modSk p k.val (fun g => { g with reading := [] })).count (5184 + 64 * p.idx + 1) else s
  | .desc d k =>
    match (q.dsr d.val).flight[k]? with
    | none => s
    | some x => if x.words.isNone && fails x.at_ then s.failDesc p d k x err else s
  | .payload d =>
    match (q.dsr d.val).fetched, (q.dsr d.val).payAt with
    | x :: _, some t => if x.wantsPay && fails t then s.failPay p d x.index err else s
    | _, _ => s

/-- READ_TIMEOUT (R347, R350). -/
def execReadTimeout (dt : Nat) (port : Port) (what : HostRead) (s : State) : Host.Outcome State Fault Refusal :=
  s.at_ dt (fun s => (s.readFail port what 1).serve)

/-- READ_ERROR (R347, R350). -/
def execReadError (dt : Nat) (port : Port) (what : HostRead) (s : State) : Host.Outcome State Fault Refusal :=
  s.at_ dt (fun s => (s.readFail port what 2).serve)

/-- SKEIN_NOTIFY_COALESCE (R323). -/
def execSkeinNotifyCoalesce (dt : Nat) (port : Port) (sk : Fin 128) (s : State) : Host.Outcome State Fault Refusal :=
  s.at_ dt (fun s =>
    let g := (s.port port).skn sk.val
    if g.deferred && (match g.lastNotify with | none => true | some t => decide (t + g.coal * 1000 ≤ s.clock)) then
      (s.modSk port sk.val (fun g => { g with lastNotify := some s.clock, deferred := false })).raise g.notify
    else s)

/-! ## The port leaves service -/

/-- Reads in flight on a port are given up, with the entries that descriptor reads reserved. A fetched descriptor that waits for its
payload asks for it again. -/
def State.dropReads (s : State) (p : Port) : State :=
  let s1 := s.setPort p { s.port p with sumBusy := false, valueWait := [] }
  let s2 := (s.port p).ds.foldl (fun (a : State) (e : Nat × Ring) =>
    (a.dropFlight p e.1).modDs p e.1 (fun g => { g with
      fetched := g.fetched.map (fun x => { x with wantsPay := false }) })) s1
  (s.port p).sk.foldl (fun (a : State) (e : Nat × Ring) => a.modSk p e.1 (fun g => { g with reading := [] })) s2

/-- Every running ring of a port stalls with cause LINK; completions that wait are discarded and counted (R349). -/
def State.stallPort (s : State) (p : Port) (status : Nat) : State :=
  let s1 := s.dropReads p
  let s2 := (s1.port p).sk.foldl (fun (a : State) (e : Nat × Ring) =>
    let b := a.stall p true e.1 5 e.2.own status
    (b.modSk p e.1 (fun g => { g with waiting := [], reserved := g.reserved - g.waiting.length })).countN
      (5184 + 64 * p.idx + 5) (((b.port p).skn e.1).waiting.length)) s1
  (s2.port p).ds.foldl (fun (a : State) (e : Nat × Ring) => a.stall p false e.1 5 e.2.own status) s2

/-- The owner's link is gone: its ownership lapses (R365). -/
def State.linkLapse (s : State) (p : Port) : State := if s.ow.owner = some p then s.lapse 2 else s

/-- The stack of a port is emptied, OUTSTANDING and HOLD are 0 (R379). -/
def State.clearWhorl (s : State) (p : Port) : State :=
  (s.setPort p { (s.port p).emptyStack with outstanding := false, hold := false }).askReq

/-- A ring with its settings at their reset values; what R347 recorded stays until the ring is enabled again. -/
def Ring.resetSettings (g : Ring) : Ring :=
  { g with base := 0, log2 := 6, en := false, cskein := 0, notify := 0, coal := 0, deferred := false }

/-- Port and ring settings return to their reset values (R349); the MSI-X entry is PCI Express's (log 7). -/
def PortSt.resetSettings (q : PortSt) : PortSt :=
  { q with
    portEn := false, portErr := 0, ringFmt := 0, dbAddr := 0, stAddr := 0, poll := 20, sweep := 64, cplTmo := 1000
    reportEvery := 0, reportSkein := 0, reportCount := 0, ringSel := 0, ringKind := false
    ds := (Tbl.mapVal (fun _ g => Ring.resetSettings g) q.ds).filter (fun e => decide (e.2 ≠ {}))
    sk := (Tbl.mapVal (fun _ g => Ring.resetSettings g) q.sk).filter (fun e => decide (e.2 ≠ {}))
    msixMask := true, msixPend := false }

/-- LINK_DOWN (R349, R365, R379): the function of a port whose link is down holds no Bus Master Enable (log 7). -/
def execLinkDown (dt : Nat) (port : Port) (s : State) : Host.Outcome State Fault Refusal :=
  s.at_ dt (fun s =>
    let s1 := s.setPort port { s.port port with linkUp := false, busMaster := false }
    ((s1.stallPort port 5).clearWhorl port).linkLapse port)

/-- BUS_MASTER_DISABLE (R314, R349, R365). -/
def execBusMasterDisable (dt : Nat) (port : Port) (s : State) : Host.Outcome State Fault Refusal :=
  s.at_ dt (fun s =>
    let s1 := s.setPort port { s.port port with busMaster := false }
    (s1.stallPort port 5).linkLapse port)

/-- What a reset of one port does (R349, R357, R365, R379). -/
def State.portReset (s : State) (p : Port) : State :=
  let s1 := (s.stallPort p 9).clearWhorl p
  let s2 := s1.setPort p (s1.port p).resetSettings
  (if s2.ow.owner = some p then s2.lapse 2 else { s2 with ow := s2.ow.setCand p false })

/-- FUNCTION_LEVEL_RESET (R349): the command register returns to its reset value with it (log 7). -/
def execFunctionLevelReset (dt : Nat) (port : Port) (s : State) : Host.Outcome State Fault Refusal :=
  s.at_ dt (fun s => (s.setPort port { s.port port with busMaster := false }).portReset port)

/-- PERST_ASSERT (R349, R566): the link is down while PERST_N is asserted. -/
def execPerstAssert (dt : Nat) (port : Port) (s : State) : Host.Outcome State Fault Refusal :=
  s.at_ dt (fun s => (s.setPort port { s.port port with linkUp := false, busMaster := false }).portReset port)

/-! ## Port and ring enables -/

/-- Reason for which PORT_EN = 1 is refused (R321): 1 address, 2 limit, 3 version. -/
def PortSt.enErr (q : PortSt) : Nat :=
  if q.dbAddr = 0 ∨ q.stAddr = 0 ∨ q.dbAddr.toNat % 4096 ≠ 0 ∨ q.stAddr.toNat % 4096 ≠ 0 then 1
  else if q.poll < 5 ∨ q.poll > 500 ∨ q.sweep < 8 ∨ q.sweep > 1024 ∨ q.cplTmo < 100 ∨ q.cplTmo > 50000 then 2
  else if q.ringFmt ≠ 1 then 3
  else 0

/-- Write to the status page the indexes of rings that were enabled while their port could write none (R319). -/
def State.payIndexes (s : State) (p : Port) : State :=
  let q := s.port p
  if q.portEn && q.canWrite then
    let s1 := q.ds.foldl (fun (a : State) (e : Nat × Ring) =>
      if e.2.owes then (a.modDs p e.1 (fun g => { g with owes := false })).emit (.dsCons p e.1 ((a.port p).dsr e.1).own (q.consAddr e.1))
      else a) s
    let s2 := q.sk.foldl (fun (a : State) (e : Nat × Ring) =>
      if e.2.owes then (a.modSk p e.1 (fun g => { g with owes := false })).emit (.skProd p e.1 ((a.port p).skn e.1).own (q.prodAddr e.1))
      else a) s1
    { s2 with rep := s2.rep.writeHeader s2.ctx p }
  else s

/-- PORT_EN_WRITE (R321): PP_CTL. -/
def execPortEnWrite (dt : Nat) (w : Wr) (s : State) : Host.Outcome State Fault Refusal :=
  s.at_ dt (fun s => s.wr 0x2004 w (fun s =>
    let p := w.port
    let q := s.port p
    let fmt := fieldOf w.data 8 8
    if q.portEn then
      let s1 := if fmt ≠ q.ringFmt then s.discard 0x2004 p reasonEnabled else s
      if bitOf w.data 0 then s1 else (s1.dropReads p).setPort p { (s1.dropReads p).port p with portEn := false }
    else
      let q1 := { q with ringFmt := fmt }
      if bitOf w.data 0 = false then s.setPort p q1
      else
        let e := q1.enErr
        if e ≠ 0 then (s.setPort p { q1 with portErr := e }).discard 0x2004 p reasonInvalid
        else
          let s1 := s.setPort p { q1 with portErr := 0, portEn := true, polls := 0, genAt := s.clock }
          let s2 := q.sk.foldl (fun (a : State) (e : Nat × Ring) => a.flushSkein p e.1) s1
          let s3 := q.ds.foldl (fun (a : State) (e : Nat × Ring) => a.drainAll p (finOf 128 (by decide) e.1)) s2
          (s3.payIndexes p).serve))

/-- The settings of PP_RING_CFG for a ring, all but EN. -/
def Ring.cfgWith (g : Ring) (skein : Bool) (v : Word) : Ring :=
  if skein then { g with log2 := fieldOf v 0 5, notify := fieldOf v 16 10 }
  else { g with log2 := fieldOf v 0 5, cskein := fieldOf v 8 7 }

/-- The ring that PP_RING_SEL names. -/
def PortSt.selected (q : PortSt) : Ring := if q.ringKind then q.skn q.ringSel else q.dsr q.ringSel

/-- Change the ring that PP_RING_SEL names. -/
def State.setSelected (s : State) (p : Port) (g : Ring) : State :=
  if (s.port p).ringKind then s.modSk p (s.port p).ringSel (fun _ => g) else s.modDs p (s.port p).ringSel (fun _ => g)

/-- A ring enabled: both indexes 0, no error, and Molwegon's index written to the status page (R319, R348), as soon as the port can
write. Entries lost before stay to be reported (R345). While Bus Master Enable is 0 it stalls at once (R314). -/
def State.ringStart (s : State) (p : Port) (g : Ring) : State :=
  let q := s.port p
  let s1 := s.setSelected p { g with
    en := true, st := .running, err := 0, errIdx := 0, own := 0, peer := 0, flight := [], payTries := 0, payAt := none
    fetched := [], reading := [], wantProd := false, lastNotify := none, deferred := false, owes := true }
  let s2 := s1.payIndexes p
  if q.canWrite = false then s2.stall p q.ringKind q.ringSel 5 0 5
  else if q.ringKind then (s2.flushSkein p q.ringSel).serve
  else s2

/-- RING_ENABLE (R322): a write of PP_RING_CFG with EN = 1. -/
def execRingEnable (dt : Nat) (w : Wr) (s : State) : Host.Outcome State Fault Refusal :=
  s.at_ dt (fun s => s.wr 0x204C w (fun s =>
    let q := s.port w.port
    let g := q.selected
    let g1 := g.cfgWith q.ringKind w.data
    if bitOf w.data 5 = false then s
    else if g.en then (if g1 = g then s else s.discard 0x204C w.port reasonEnabled)
    else if g1.base.toNat % 4096 ≠ 0 ∨ g1.log2 < 6 ∨ g1.log2 > 16 then
      (s.setSelected w.port g1).discard 0x204C w.port reasonInvalid
    else s.ringStart w.port g1))

/-- RING_DISABLE (R348): a write of PP_RING_CFG with EN = 0. A RUNNING ring takes the stall actions of cause DISABLE and
reads STOPPED after them; a STALLED one stays STALLED. -/
def execRingDisable (dt : Nat) (w : Wr) (s : State) : Host.Outcome State Fault Refusal :=
  s.at_ dt (fun s => s.wr 0x204C w (fun s =>
    let p := w.port
    let q := s.port p
    let g := q.selected
    let g1 := g.cfgWith q.ringKind w.data
    if bitOf w.data 5 then s
    else if g.en = false then s.setSelected p g1
    else
      let s1 := if g1 = g then s else s.discard 0x204C p reasonEnabled
      let s2 := if g.st = .running then s1.stall p q.ringKind q.ringSel 4 g.own 9 else s1
      let h := (s2.port p).selected
      s2.setSelected p { h with en := false, st := if g.st = .running then .stopped else h.st }))

/-- BUS_MASTER_ENABLE (R314, R559): requests may go out again; a request message that waited is sent (R374). -/
def execBusMasterEnable (dt : Nat) (port : Port) (s : State) : Host.Outcome State Fault Refusal :=
  s.at_ dt (fun s =>
    let s1 := s.setPort port { s.port port with linkUp := true, busMaster := true }
    ({ s1 with rep := (s1.rep.deliverMsix port).askReq }).payIndexes port |>.drainHanks)

/-! ## At a boundary -/

/-- TURN_REPORT at every REPORT_EVERY-th boundary (Table 10.14), and the header of the status page (R330). -/
def State.portBoundary (s : State) (p : Port) (body : EntryBody) : State :=
  let q := s.port p
  let n := q.reportCount + 1
  let due := q.portEn && decide (q.reportEvery ≠ 0) && decide (n ≥ q.reportEvery)
  let s1 := s.setPort p { q with reportCount := if due ∨ q.reportEvery = 0 ∨ q.portEn = false then 0 else n }
  let s2 := if due then s1.entry p q.reportSkein body else s1
  { s2 with rep := s2.rep.writeHeader s2.ctx p }

end Sys2Proof.Machine
end

