-- ==== Sys2Proof/Machine/StartUp.lean ====
section
/-!
DEFINITION. Power-up, reset and configuration image (chapter 20), with the power-up test and repair (R520 to R522, R537).
-/

namespace Sys2Proof.Machine

/-! ## Resets (R562 to R567) -/

/-- Fuse entries after a burn that a reset cuts off (R537): with its data word written the entry is half-written; before
that it is half-written or blank, as a free value says. -/
def State.cutBurn (s : State) : Tbl (Bool × Word) :=
  match s.rp.burn with
  | some b => if Config.freeNat s.free % 2 = 1 then Tbl.ins s.rp.fuses b.entry (false, b.data) else s.rp.fuses
  | none => s.rp.fuses

/-- A state in which everything stands at its reset value but what a reset leaves: fuses, the TAP, straps and supplies, the
waiting commands, and what has left the device (R567). -/
def State.wiped (s : State) (st : DevState) (cause : Nat) : State :=
  { State.reset with
    pending := s.pending
    free := s.free + 1
    rep := { out := s.rep.out }
    rp := { fuses := s.cutBurn }
    dev := {
      st := st, supplies := s.dev.supplies, rstN := s.dev.rstN, plyId := s.dev.plyId, pos := s.dev.pos
      ownPrio := s.dev.ownPrio, cause := cause, tap := if st = .off then .idcode else s.dev.tap } }

/-- Supplies that are present, with the bit of one set or cleared. -/
def supplyBits (all n : Nat) (on : Bool) : Nat :=
  let w := BitVec.ofNat 7 all
  let m := BitVec.ofNat 7 (2 ^ n)
  (if on then w ||| m else w &&& ~~~m).toNat

/-- SUPPLY_PRESENT (R562, R564): out of OFF the first supply leads into RESET. -/
def State.supplyUp (s : State) (n : Nat) : State :=
  let s1 := { s with dev := { s.dev with supplies := supplyBits s.dev.supplies n true } }
  if s.dev.st = .off then s1.wiped .reset 0 else s1

/-- SUPPLY_PRESENT. -/
def execSupplyPresent (dt : Nat) (supply : Fin 7) (s : State) : Host.Outcome State Fault Refusal :=
  .next ((if s.up then s.elapse dt else s).supplyUp supply.val)

/-- SUPPLY_LOSS (R564): RESET, or OFF once no supply is left. -/
def State.supplyDown (s : State) (n : Nat) : State :=
  let s1 := { s with dev := { s.dev with supplies := supplyBits s.dev.supplies n false } }
  if s.dev.st = .off then s1
  else if s1.dev.supplies = 0 then s1.wiped .off s.dev.cause
  else if s.up then s1.wiped .reset 2
  else s1

/-- SUPPLY_LOSS. -/
def execSupplyLoss (dt : Nat) (supply : Fin 7) (s : State) : Host.Outcome State Fault Refusal :=
  .next ((if s.up then s.elapse dt else s).supplyDown supply.val)

/-- RESET_ASSERT (R564, R566): RST_N low for at least 1 µs. -/
def State.resetPin (s : State) : State :=
  let s1 := { s with dev := { s.dev with rstN := false } }
  if s.up then s1.wiped .reset 1 else s1

/-- RESET_ASSERT. -/
def execResetAssert (dt : Nat) (s : State) : Host.Outcome State Fault Refusal :=
  .next ((if s.up then s.elapse dt else s).resetPin)

/-- LEAVE_RESET (R42, R565): with RST_N high, every supply present and the clock locked, SELF-TEST begins; the time base
and the turn number start from 0, and the straps are taken. -/
def State.leaveReset (s : State) (plyId : Fin 4) (pos : Fin 32) (ownPrio : Bool) : State :=
  if decide (s.dev.st = .reset) && decide (s.dev.supplies = 127) then
    let s1 := s.wiped .selfTest s.dev.cause
    ({ s1 with dev := { s1.dev with rstN := true, plyId := plyId.val, pos := pos.val, ownPrio := ownPrio } }).refreshSource
  else s

/-- LEAVE_RESET. -/
def execLeaveReset (_dt : Nat) (plyId : Fin 4) (pos : Fin 32) (ownPrio : Bool) (s : State) :
    Host.Outcome State Fault Refusal :=
  .next (s.leaveReset plyId pos ownPrio)

/-! ## SELF-TEST (R520 to R522) -/

/-- A valid fuse entry is applied (Table 17.3); a half-written one is reported (R520, R537). -/
def State.applyFuse (s : State) (e : Nat × Bool × Word) : State :=
  let w := e.2.2
  let t := fieldOf w 8 18
  if e.2.1 = false then (s.slub 0x0F08 e.1 0 0).raise 0x017
  else if fieldOf w 0 4 = 1 then s.setSpindle t { s.spindle t with role := .retired }
  else if fieldOf w 0 4 = 2 then
    ({ s with rp := { s.rp with rows := Tbl.ins s.rp.rows (t / 1024 * 8 + fieldOf w 26 4) t } }).setRow t
      { s.row t with retired := true }
  else if fieldOf w 0 4 = 3 then
    { s with rp := { s.rp with cols := Tbl.ins s.rp.cols (t / 8192 * 2 + fieldOf w 26 4) t } }
  else if fieldOf w 0 4 = 4 then { s with tw := { s.tw with lanes := s.tw.lanes.filter (· ≠ t) } }
  else s

/-- A soft repair is counted and queued for burning (R520). -/
def State.softRepair (s : State) (w : Word) : State :=
  ({ s with rp := { s.rp with soft := s.rp.soft + 1 } }).queueBurn w

/-- A row found faulty takes a spare row of its macro; the second component says that there was none. -/
def State.softRow (a : State × Bool) (row : Nat) : State × Bool :=
  match a.1.freeSpareRow row with
  | some k =>
    let s1 := { a.1 with rp := { a.1.rp with rows := Tbl.ins a.1.rp.rows (row / 1024 * 8 + k) row } }
    ((s1.setRow row { s1.row row with retired := true }).softRepair (fuseWord 2 row k), a.2)
  | none => (a.1.spareOut 2 row, true)

/-- A column found faulty takes a spare column of its macro. -/
def State.softCol (a : State × Bool) (mc : Nat) : State × Bool :=
  match (List.range 2).find? (fun k => (Tbl.look a.1.rp.cols (mc / 8192 * 2 + k)).isNone) with
  | some k =>
    ({ a.1 with rp := { a.1.rp with cols := Tbl.ins a.1.rp.cols (mc / 8192 * 2 + k) mc } }.softRepair (fuseWord 3 mc k), a.2)
  | none => (a.1.spareOut 3 mc, true)

/-- A spindle found faulty in SELF-TEST is retired; one that a fuse retires is not checked (R520). DESIGN CHOICE: Table 3.9's
offset 0xA and slub 0x021A are for a check in service, and the power-up test raises neither (log 65). -/
def State.softSpindle (s : State) (n : Nat) : State :=
  if (s.spindle n).role = .retired then s
  else (s.setSpindle n { s.spindle n with role := .retired, selfOk := false }).softRepair (fuseWord 1 n 0)

/-- A twist lane found faulty is retired. -/
def State.softLane (s : State) (n : Nat) : State :=
  if s.tw.lanes.contains n then
    ({ s with tw := { s.tw with lanes := s.tw.lanes.filter (· ≠ n) } }).softRepair (fuseWord 4 n 0)
  else s

/-- Channel n is served by the n-th serviceable spindle; the rest are spares (R521). -/
def State.mapSpindles (s : State) : State :=
  let ok := (List.range 18).filter (fun n => decide ((s.spindle n).role ≠ .retired))
  let s1 := (List.range ok.length).foldl (fun (a : State) i =>
    let n := ok.getD i 0
    let b := a.setSpindle n { a.spindle n with role := if i < 16 then .active else .spare }
    if i < 16 then { b with chSp := Tbl.put b.chSp i i n } else b) s
  if ok.length < 16 then s1.spareOut 1 18 else s1

/-- Four serviceable lanes are in service and a fifth is the spare. -/
def State.mapLanes (s : State) : State :=
  let l := s.tw.lanes
  let s1 := { s with tw := { s.tw with lanes := l.take 4, spare := (l.drop 4).head? } }
  if l.length < 4 then s1.spareOut 4 5 else s1

/-- The power-up test and repair (R520 to R522). RESULT 3 keeps the device in SELF-TEST. -/
def State.selfTest (s : State) (t : SelfTest) : State :=
  let s' := { s with tw := { s.tw with lanes := [0, 1, 2, 3, 4], spare := none } }
  let s0 := (List.range 18).foldl (fun (b : State) n => b.setSpindle n { b.spindle n with selfOk := true }) s'
  let s1 := s0.rp.fuses.foldl State.applyFuse s0
  let cols := (t.cols.map (fun e => e.1.val * 8192 + e.2.val)).eraseDups.filter (fun c => !s1.rp.cols.any (fun e => decide (e.2 = c)))
  let rows := (t.rows.map (fun r => r.val)).eraseDups.filter (fun r => !(s1.row r).retired)
  let a := rows.foldl State.softRow (cols.foldl State.softCol (s1, false))
  let s2 := t.lanes.foldl (fun (b : State) n => b.softLane n.val) (t.spindles.foldl (fun (b : State) n => b.softSpindle n.val) a.1)
  let fail := a.2 || decide (((List.range 18).filter (fun n => decide ((s2.spindle n).role ≠ .retired))).length < 16) ||
    decide (s2.tw.lanes.length < 4)
  let s3 := s2.mapSpindles.mapLanes
  { s3 with rp := { s3.rp with result := if fail then 3 else if s3.rp.soft > 0 then 2 else 1 } }

/-- SET-UP is entered: the boot loader reads, and the election window opens (R358, R565, R572). -/
def State.enterSetUp (s : State) : State :=
  let s1 := s.toState .setUp
  ({ s1 with
    dev := { s1.dev with phase := 1 }
    ow := { s1.ow with electing := true, electEnd := s1.clock + 2000000 } }).burnNext

/-- SELF_TEST_COMPLETE. -/
def execSelfTestComplete (dt : Nat) (t : SelfTest) (s : State) : Host.Outcome State Fault Refusal :=
  s.at_ dt (fun s =>
    if decide (s.dev.st = .selfTest) && decide (s.rp.result = 0) then
      let s1 := s.selfTest t
      if s1.rp.result = 3 then s1 else s1.enterSetUp
    else s)

/-! ## The configuration image (R572 to R577) -/

/-- The image magic of Table 20.4. -/
def imageMagic : Word := 0x4947574D

/-- Loading ends with a RESULT of Table 20.6. -/
def State.loadEnds (s : State) (result : Nat) : State :=
  { s with dev := { s.dev with phase := 3, result := result, boot := none } }

/-- IMAGE_MAGIC_READ (R572): without the magic there is no image, and loading ends. -/
def execImageMagicRead (dt : Nat) (magic : Word) (s : State) : Host.Outcome State Fault Refusal :=
  s.at_ dt (fun s =>
    if decide (s.dev.phase = 1) && !s.dev.magic then
      if magic = imageMagic then { s with dev := { s.dev with magic := true } } else s.loadEnds 1
    else s)

/-- The 32-bit word at an offset of an image. -/
def imgWord (l : List Byte) (o : Nat) : Word := BitVec.ofNat 32 (leNat ((l.drop o).take 4))

/-- One entry of the section table: KIND, OFFSET, LENGTH, and whether a reserved field is not 0. -/
structure Section where
  kind : Nat
  off : Nat
  len : Nat
  resv : Bool
  deriving DecidableEq, Repr

/-- The section table of an image. -/
def sectionsOf (l : List Byte) : List Section :=
  (List.range (fieldOf (imgWord l 4) 16 16)).map (fun i =>
    let b := 0x40 + 16 * i
    { kind := fieldOf (imgWord l b) 0 8, off := (imgWord l (b + 4)).toNat, len := (imgWord l (b + 8)).toNat
      resv := decide (fieldOf (imgWord l b) 8 24 ≠ 0) || decide (imgWord l (b + 12) ≠ 0) })

/-- Entry size of a section KIND (Table 20.5). -/
def entrySize (kind : Nat) : Nat := if kind = 2 then 12 else if kind = 4 ∨ kind = 5 then 56 else 8

/-- The index of the first section with a fault. -/
def firstSec (l : List Section) (p : Section → Bool) : Option Nat :=
  ((List.range l.length).find? (fun i => p (l.getD i ⟨0, 0, 0, false⟩)))

/-- Reserved fields of the header that are not 0. -/
def headerResv (l : List Byte) : Bool :=
  decide (fieldOf (imgWord l 4) 8 8 ≠ 0) || decide (fieldOf (imgWord l 0xC) 2 30 ≠ 0) || decide (fieldOf (imgWord l 0x10) 16 16 ≠ 0) ||
  (List.range 8).any (fun i => decide (imgWord l (0x1C + 4 * i) ≠ 0))

/-- The first case of R574 that holds: the RESULT, and the section it lies in (0xFF for none). -/
def imageBad (l : List Byte) : Option (Nat × Nat) :=
  let len := (imgWord l 8).toNat
  let crc := crc32 (l.take 0x3C ++ (l.drop 0x40).take (len - 0x40))
  let secs := sectionsOf l
  let n := fieldOf (imgWord l 4) 16 16
  if fieldOf (imgWord l 0x10) 0 16 ≠ 0x1618 then some (4, 0xFF)
  else if fieldOf (imgWord l 4) 0 8 ≠ 1 then some (5, 0xFF)
  else if len < 0x80 ∨ len > 0x200000 then some (7, 0xFF)
  else if crc ≠ imgWord l 0x3C then some (6, 0xFF)
  else if n = 0 ∨ n > 64 then some (7, 0xFF)
  else match firstSec secs (fun x => decide (x.off + x.len > len) || decide (x.off % 4 ≠ 0)) with
  | some i => some (7, i)
  | none =>
    match firstSec secs (fun x => decide (x.len % entrySize x.kind ≠ 0)) with
    | some i => some (7, i)
    | none =>
      match firstSec secs (fun x => decide (x.kind = 0) || decide (x.kind > 6)) with
      | some i => some (7, i)
      | none =>
        if headerResv l then some (7, 0xFF)
        else (firstSec secs (fun x => x.resv)).map (fun i => (7, i))

/-- Entries of a section as lists of words, with section and entry number. -/
def entriesOf (l : List Byte) (kind : Nat) : List (Nat × Nat × List Word) :=
  let secs := sectionsOf l
  (List.range secs.length).flatMap (fun i =>
    let x := secs.getD i ⟨0, 0, 0, false⟩
    if x.kind = kind then
      let body := (l.drop x.off).take x.len
      (List.range (x.len / entrySize kind)).map (fun e =>
        (i, e, (List.range (entrySize kind / 4)).map (fun k => imgWord body (e * entrySize kind + 4 * k))))
    else [])

/-- The state that the outcome of a command gives. -/
def outcomeState (s : State) (o : Host.Outcome State Fault Refusal) : State :=
  match o with
  | .next t => t
  | _ => s

/-- Commands that a write of a command register of the map is, one for each of its command bits. -/
def cmdRows (off : Nat) (w : Wr) : List (State → Host.Outcome State Fault Refusal) :=
  if off = 0x10030 then [execLoadTime 0 w, execLoadTurn 0 w]
  else if 0x38000 ≤ off ∧ off < 0x3C000 ∧ off % 0x400 = 0x20 then
    [execRecover 0 (finOf 16 (by decide) ((off - 0x38000) / 0x400)) w, execRelease 0 (finOf 16 (by decide) ((off - 0x38000) / 0x400)) w]
  else if off = 0x4800C then [execEmInsert 0 w, execEmDelete 0 w, execEmRead 0 w]
  else if off = 0x4802C then [execRouteWrite 0 w, execRouteRead 0 w]
  else if off = 0x60008 then [execBaseline 0 w]
  else if 0xA8000 ≤ off ∧ off < 0xA8800 ∧ off % 256 = 0x40 then [execFdCmdOn 0 (finOf 8 (by decide) ((off - 0xA8000) / 256)) w]
  else if off = 0xA1800 then [execLoClear 0 w]
  else if off = 0xB8030 then [execCsPeerdbGo 0 w]
  else if 0xB8400 ≤ off ∧ off < 0xB8500 ∧ off % 0x40 = 0xC then [execRetrain 0 (finOf 4 (by decide) ((off - 0xB8400) / 0x40)) w]
  else if 0xC0000 ≤ off ∧ off < 0xC0240 ∧ off % 16 = 4 then [execSliverFlush 0 (finOf 36 (by decide) ((off - 0xC0000) / 16)) w]
  else if off = 0xD0000 then [execCtSnapNow 0 w, execCtSnapAtBoundary 0 w]
  else if off = 0xD0004 then [execCtClearGo 0 w, execCtClearAll 0 w]
  else if off = 0xF8008 then [execRpCmdBurn 0 w]
  else if off = 0xF800C then [execRpDoffGo 0 w]
  else if off = 0x11002C then [execRestart 0 w]
  else []

/-- The boot loader waits for a slow register, or a table command, to be ready again (R575). -/
def State.settleSlow (s : State) : State :=
  let s1 := outcomeState s (execFieldWriteAck 0 s)
  let s2 := outcomeState s1 (execKsWriteTaken 0 s1)
  outcomeState s2 (execTableCommandComplete 0 s2)

/-- Act as the boot loader does: writes are taken whoever owns the device (R573, R575). -/
def State.asLoader (s : State) (f : State → State) : State :=
  let s1 := f { s with ow := { s.ow with start := some (some .a) }, dev := { s.dev with phase := 0 } }
  { s1 with ow := { s1.ow with start := s.ow.start }, dev := { s1.dev with phase := s.dev.phase } }

/-- Bits of the LK fields of the register at an offset. -/
def lockMask (off : Nat) : Word := match regAt off with | some (d, _) => d.maskOf (fun t => decide (t = .lk)) | none => 0

/-- Is an entry of a REGISTERS section refused (R575)? -/
def bootRefused (off : Nat) : Bool :=
  portPrivate off || decide (lockMask off ≠ 0) || decide (off = 0x1004 ∨ off = 0x1008 ∨ off = 0x100C) || decide (off < 0x1000) ||
  decide (off > 0x11FFFF) || (regAt off).isNone

/-- One entry of a REGISTERS section. -/
def State.bootWrite (s : State) (e : Nat × Nat × List Word) : State :=
  let off := (e.2.2.getD 0 0).toNat
  let w : Wr := { port := .a, be := 15, data := e.2.2.getD 1 0 }
  if bootRefused off then s.imageRefuse e.1 e.2.1
  else
    s.asLoader (fun s =>
      (match cmdRows off w with
        | [] => s.regStore off w
        | l => l.foldl (fun (a : State) (r : State → Host.Outcome State Fault Refusal) => outcomeState a (r a)) s).settleSlow)

/-- One entry of a ROUTES section: a WRITE command (R575). -/
def State.bootRoute (s : State) (e : Nat × Nat × List Word) : State :=
  let i := fieldOf (e.2.2.getD 0 0) 0 12
  let m := fun (off : Nat) => match regAt off with | some (d, _) => d.maskOf (fun t => decide (t = .rwi)) | none => 0
  ({ s with
    cr := { s.cr with
      rt := Tbl.put s.cr.rt i (0, 0) (e.2.2.getD 1 0 &&& m 0x48024, e.2.2.getD 2 0 &&& m 0x48028) } }).coverChange

/-- One entry of an EXACT_MATCH section: an INSERT command, whose registers keep their values (R575). One that the table
cannot take, or that is malformed, is refused. -/
def State.bootExact (s : State) (e : Nat × Nat × List Word) : State :=
  let s1 := ((s.setRwi 0x48000 (e.2.2.getD 0 0)).setRwi 0x48004 (e.2.2.getD 1 0)).emInsert
  let r := match s1.cr.cmd with | some c => c.result | none => 0
  let s2 := ({ s1 with cr := { s1.cr with cmd := s.cr.cmd } }).setRwi 0x48000 (s.rwi 0x48000)
  let s3 := s2.setRwi 0x48004 (s.rwi 0x48004)
  if r = 5 ∨ r = 7 then s3.imageRefuse e.1 e.2.1 else s3

/-- The one commit of an image (R575): every dirty group, applied at once; each refused group counts as one refusal. -/
def State.bootCommit (s : State) : State :=
  if s.regs.dirty = 0 then s
  else
    let s1 := (s.startCommit s.regs.dirty true).finishChecks false
    (groupsOf s1.regs.refused).foldl (fun (a : State) g => a.imageRefuse 0xFE g) s1

/-- Requests for drafts of the FOREIGN and STREAMS sections, in table order (R168, R575). -/
def bootDrafts (l : List Byte) : List DraftReq :=
  let secs := sectionsOf l
  let all := (entriesOf l 4).map (fun e => (e, false)) ++ (entriesOf l 5).map (fun e => (e, true))
  (List.range secs.length).flatMap (fun i =>
    (all.filter (fun e => decide (e.1.1 = i))).map (fun e =>
      let ws : List Word := [0, 0] ++ e.1.2.2
      if e.2 then .open_ (.image e.1.1 e.1.2.1) (openOf ws) else .foreign (.image e.1.1 e.1.2.1) (foreignOf ws)))

/-- An accepted image is applied up to its drafts (R575, steps 1 to 4). -/
def State.applyImage (s : State) (l : List Byte) : State :=
  let f := imgWord l 0xC
  let s1 := { s with
    dev := { s.dev with
      phase := 2, build := imgWord l 0x18, autoRun := bitOf f 0, forceRun := bitOf f 1
      boot := some {
        crcRef := imgWord l 0x14
        locks := (entriesOf l 6).map (fun e => (e.1, e.2.1, e.2.2.getD 0 0, e.2.2.getD 1 0)) } } }
  let s2 := (entriesOf l 1).foldl State.bootWrite s1
  let s3 := (entriesOf l 3).foldl State.bootExact ((entriesOf l 2).foldl State.bootRoute s2)
  (bootDrafts l).foldl State.enqueue s3.bootCommit

/-- IMAGE_READ_COMPLETE (R573, R574, R575): the image has been copied into the trace buffer's SRAM, is checked, and is
rejected or applied. -/
def execImageReadComplete (dt : Nat) (image : List Byte) (s : State) : Host.Outcome State Fault Refusal :=
  s.at_ dt (fun s =>
    if decide (s.dev.phase = 1) && s.dev.magic then
      let s1 := s.clearTrace
      match imageBad image with
      | some (r, sec) => ({ s1 with dev := { s1.dev with errSection := sec } }).loadEnds r
      | none => s1.applyImage image
    else s)

/-- Is a draft of the image still to be decided? -/
def State.bootDrafting (s : State) : Bool :=
  s.dr.queue.any (fun q => match q with
    | .open_ (.image _ _) _ => true
    | .foreign (.image _ _) _ => true
    | _ => false)

/-- One entry of a LOCKS section (R575). -/
def State.bootLock (s : State) (e : Nat × Nat × Word × Word) : State :=
  let off := e.2.2.1.toNat
  if lockMask off = 0 then s.imageRefuse e.1 e.2.1 else s.setLock off (e.2.2.2 &&& lockMask off)

/-- LOADING_END (R575, R577): CRC_REF, the locks, DONE, and RUN from the next boundary under AUTO_RUN. -/
def execLoadingEnd (dt : Nat) (s : State) : Host.Outcome State Fault Refusal :=
  s.at_ dt (fun s =>
    match s.dev.boot with
    | some b =>
      if decide (s.dev.phase = 2) && !s.bootDrafting then
        let s1 := (b.locks.foldl State.bootLock (s.setRwi 0x1024 b.crcRef)).clearTrace
        let go := s1.dev.autoRun && (decide (s1.dev.refused = 0) || s1.dev.forceRun) && decide (s1.dev.st = .setUp)
        let s2 := { s1 with dev := { s1.dev with runPend := s1.dev.runPend || go } }
        s2.loadEnds (if s2.dev.refused = 0 then 2 else 3)
      else s
    | none => s)

end Sys2Proof.Machine
end

