-- ==== Sys2Proof/Machine/Boundary.lean ====
section
/-!
DEFINITION. The three phases of a turn that act on every block (R30, Table 1.3): the boundary, the capture point and the
release point.
-/

namespace Sys2Proof.Machine

/-! ## What a boundary counts -/

/-- What was counted for the turn just ended is closed: reports that come at most once in a turn may come again, and the
figures of TURN_REPORT are taken (Table 10.14, TW_LAST). -/
def State.closeTurn (s : State) : State :=
  { s with
    rep := { s.rep with first := [], hkTurnDrops := 0, slubsPrev := s.rep.slubsTurn, slubsTurn := 0 }
    dr := { s.dr with uncovPrev := s.dr.uncovTurn, uncovTurn := 0 }
    tw := { s.tw with
      lastCyc := s.tw.cyc, lastAbandoned := s.tw.abandoned, cyc := 0, abandoned := false, opened := false } }

/-- The slub of a channel's denied receive allocations in the turn just ended (R137). -/
def State.denySlub (s : State) (ch : Nat) : State :=
  let c := s.ch ch
  if c.denials = 0 then s
  else
    let s1 := s.setCh ch { c with denials := 0 }
    { s1 with
      rep := s1.rep.slubAt c.denyTime c.denyTurn 0x0302 (BitVec.ofNat 32 ch) (BitVec.ofNat 32 c.denials) 0 }

/-- A boundary passes for a channel: ages of its ready set (R95), hold-off (R106), turns without progress (R508), boundaries since
the start of the frame on the wire (R179). An idle bus is progress: its recessive bits are counted (R508). -/
def Channel.boundary (c : Channel) : Channel :=
  { c with
    ready := c.ready.map (fun e => { e with age := e.age + 1 })
    holdLeft := c.holdLeft - 1
    idleTurns := if decide (c.wire = .idle) && c.st.part then 0 else c.idleTurns + 1
    sofAge := c.sofAge + 1 }

/-- A boundary passes for every channel: what counts boundaries advances. -/
def State.chBoundary (s : State) : State :=
  channels.foldl (fun (a : State) c => ((a.denySlub c).modCh c Channel.boundary).breachTick c) s

/-- The turn that the boundary opens: its number (R56, R57, R64), the boundary itself, and no phase of it passed yet. -/
def State.openTurn (s : State) : State :=
  { s with
    tm := { s.tm with
      turn := s.nextTurn, prevTurn := s.tm.turn, turnLoad := false, cellTurn := none
      bound := s.tm.nextBound, origin := s.tm.nextBound
      capDone := false, agreeDone := false, twistDone := false, releaseDone := false
      holdTurns := if s.tm.holdover then s.tm.holdTurns + 1 else s.tm.holdTurns } }

/-- The schedule of the turn from the configuration in force (R50, R51, R71): its end, whether it is stretched, and the
pulse at its opening. -/
def State.layTurn (s : State) : State :=
  let n := boundaryAfter s.lenUs s.tm.bound.toNat
  let long := decide (n - s.tm.bound.toNat > s.lenUs * 1000)
  let s1 := { s with
    tm := { s.tm with nextBound := BitVec.ofNat 64 n, stretch := long, pulse := true } }
  if long then (s1.count 5121).raise 0x043 else s1

/-! ## Streams and declarations at a boundary -/

/-- A PENDING stream nears its boundary, or goes LIVE at it (R162, R469): the entry of event LIVE names the turn. -/
def State.liveStep (s : State) (n : Nat) : State :=
  match s.stream n with
  | none => s
  | some x =>
    if x.st = .pending then
      if x.toLive ≤ 1 ∧ x.closeSoon = false then
        (s.setStream n { x with st := .live, toLive := 0, liveTurn := s.tm.turn, image := [], minSlack := 0x7FFFFFFF }).status
          (.streamStatus 1 x.cfg.ch.val 0 n 0 s.tm.turn 0 [] 0 0)
      else s.setStream n { x with toLive := x.toLive - 1 }
    else s

/-- A close that has been accepted takes effect (R165): a held STREAM_DATA completes CANCELLED, and a stream without
bobbins is CLOSED at once. -/
def State.closeStep (s : State) (n : Nat) : State :=
  match s.stream n with
  | none => s
  | some x =>
    if x.closeSoon && decide (x.st = .pending ∨ x.st = .live) then
      let s1 := s.setStream n { x with st := .closing, closeSoon := false, held := none }
      let s2 := match x.held with
        | some (some d, _) => (s1.count (5184 + 64 * d.port.idx + 6)).complete d { complOf d 4 9 with stream := n }
        | _ => s1
      s2.closeDone n
    else s

/-- Numbers of the streams of the table. -/
def State.streamNums (s : State) : List Nat := s.dr.streams.map (fun e => e.1)

/-- Declarations that apply from this boundary, or leave at it (R166). -/
def State.foreignStep (s : State) : State :=
  let gone := (s.dr.foreign.filter (fun e => e.2.leaving && decide (e.2.toLive ≤ 1))).map (fun e => e.2.cfg.ch.val)
  let s1 := { s with
    dr := { s.dr with
      foreign := (s.dr.foreign.filter (fun e => !(e.2.leaving && decide (e.2.toLive ≤ 1)))).map (fun e =>
        (e.1, { e.2 with toLive := e.2.toLive - 1 })) } }
  let new := (s.dr.foreign.filter (fun e => !e.2.leaving && decide (e.2.toLive = 1))).map (fun e => e.2.cfg.ch.val)
  let s2 := (channels.filter (fun c => gone.contains c || new.contains c)).foldl State.refreshConflict s1
  if gone.isEmpty then s2
  else ((channels.filter (fun c => gone.contains c)).foldl State.refreshR s2).coverChange

/-- The count of a cyclic stream to its next release (R146, R568): none before the first, 0 in a turn that has one. -/
def Stream.countDown (x : Stream) (lenUs : Nat) (turn : BitVec 48) : Option Nat :=
  let p := x.cfg.period.toNat
  match x.relIn with
  | none => if lenUs ≠ 0 ∧ p ≠ 0 ∧ turn.toNat % p = x.cfg.offIa.toNat / lenUs then some 0 else none
  | some 0 => some (p - 1)
  | some (k + 1) => some k

/-- The releases of the turn that opens, in RUN. -/
def State.releaseStep (s : State) : State :=
  if s.dev.st = .run then
    { s with
      dr := { s.dr with
        streams := s.dr.streams.map (fun (e : Nat × Stream) =>
          if decide (e.2.st = .live) && decide (e.2.cfg.kind = 0) then
            (e.1, { e.2 with relIn := e.2.countDown s.lenUs s.tm.turn, relDone := false })
          else e) } }
  else s

/-! ## RUN -/

/-- RUN begins (R565, R569, R578): after the configuration, unless a commit in flight still waits for its boundary. Loops
start without history; the watchdogs of the outputs start. -/
def State.runEntry (s : State) : State :=
  if s.dev.runPend && decide (s.dev.st = .setUp) && decide (s.regs.phase = .idle) then
    let s1 := ({ s with dev := { s.dev with runPend := false } }).toState .run
    let s2 := (loopsOf s1.regs.live).foldl (fun (a : State) k => a.modLoop k (fun v => { v with
      stages := dropHistory v.stages })) s1
    (outputs.foldl (fun (a : State) n => a.modLoopOut n (fun o => { o with cmdAt := a.clock })) s2).refreshTrip
  else s

/-- LOOP_MODE and LOOP_PARAM descriptors accepted before the boundary apply and complete in their order (R241). -/
def State.loopCmds (s : State) : State :=
  s.tw.cmds.foldl (fun (a : State) e => a.runLoopCmd (some e.1) e.2) { s with tw := { s.tw with cmds := [] } }

/-! ## Hanks and reports of a boundary -/

/-- Bits [10:0] of TW_LSTk_STATUS. -/
def State.loopStatus (s : State) (k : Nat) : Nat :=
  let t := s.regs.live
  let v := s.loop k
  let lim := ((List.range 16).filter (fun j => decide (opOf t k j = 5) || decide (opOf t k j = 6))).map (fun j =>
    let x := Tbl.lookD v.stages j {}
    (x.hi, x.lo))
  let snk := ((List.range 4).filter (fun j => decide (snkKind t k j = 1) || decide (snkKind t k j = 3))).map (fun j =>
    let x := Tbl.lookD v.sinks j {}
    (x.hi, x.lo))
  let comp := (List.range 4).any (fun j => decide (snkKind t k j = 3) && s.compOf (snkIdx t k j % 8))
  v.mode.code + v.cause * 4 + b01 v.stale * 16 + b01 ((lim ++ snk).any (fun e => e.1)) * 32 +
  b01 ((lim ++ snk).any (fun e => e.2)) * 64 + b01 comp * 128 + v.ovrRun * 256 + b01 v.replaced * 1024

/-- The TURN hank (Table 19.2). -/
def State.turnHank (s : State) : State :=
  s.hank 1 0 (s.now.toNat / 2 ^ 32 % 65536) (BitVec.ofNat 64 (s.tm.turn.toNat + s.now.toNat / 2 ^ 48 * 2 ^ 48))

/-- LOOP and LO_SAMPLE hanks at every LOOP_EVERY-th turn number (R555). -/
def State.sampleHanks (s : State) : State :=
  let every := s.fld 0x110008 0 8
  if every ≠ 0 ∧ s.tm.turn.toNat % every = 0 then
    let loops := (List.range 256).filter (fun k => decide (s.fld 0x110008 8 8 ≤ k) && decide (k ≤ s.fld 0x110008 16 8))
    let s1 := loops.foldl (fun (a : State) k =>
      a.hank 5 0 k (BitVec.ofNat 64 ((s.loop k).out.toNat + s.loopStatus k * 2 ^ 32))) s
    (outputs.filter (fun n => s.bit 0x110004 (8 + n))).foldl (fun (a : State) n =>
      a.hank 6 0 n (BitVec.ofNat 64 (((s.loopOut n).cmd.getD 0).toNat + (s.loopOut n).rbv.toNat * 2 ^ 32))) s1
  else s

/-- TB_STATUS. -/
def State.tbStatus (s : State) : Nat :=
  s.tm.srcActive.toNat + b01 s.tm.locked * 4 + b01 s.tm.holdover * 8 + b01 s.tm.cascadeAlarm * 16 + b01 s.tm.devLimit * 32 +
  b01 s.tm.mismatch * 64 + b01 s.tm.stretch * 128 + b01 s.tm.plyFollow * 256

/-- DR_STATUS.BREACH_MAP. -/
def State.breachMap (s : State) : Nat := (channels.map (fun c => b01 (s.breach c).on * 2 ^ c)).sum

/-- FD_MAP. -/
def State.fdMap (s : State) : Nat :=
  ((List.range 8).map (fun n => b01 (s.feed n).pg * 2 ^ n + b01 (decide ((s.feed n).st = .latched)) * 2 ^ (8 + n))).sum

/-- TURN_REPORT body (Table 10.14). -/
def State.turnReport (s : State) : EntryBody :=
  .turnReport s.tm.turn s.tm.bound s.breachMap s.tbStatus (s.tw.lastCyc % 2 ^ 23 + b01 s.tw.lastAbandoned * 2 ^ 31) s.fdMap
    (min 255 (s.tw.loops.filter (fun e => decide (e.2.mode = .fallback))).length) s.dr.uncovPrev s.rep.slubsPrev

/-! ## The boundary -/

/-- Time and configuration (R31, R405, R569): the CRC pass that ends is judged on the image that it covered, then the
committed configuration applies, and what the boundary does and reports stands under it: the misses of the turn that ends,
streams and declarations that go live, RUN. The turn number stands at the turn that opens from the start, because the instant
lies in that turn and every report of it is stamped so (Table 16.1, log 47); the configuration does not depend on it. -/
def State.boundConfig (s : State) : State :=
  let last := s.tm.turn
  let loaded := s.tm.turnLoad || s.tm.cellTurn.isSome
  let s1 := s.closeTurn.missingOver.openTurn.chBoundary
  let s2 := (s1.crcStop s1.tm.turn loaded).commitBoundary
  let s3 := (s2.missReports last).raise 0x040
  let s4 := (s3.streamNums.foldl State.liveStep s3).foreignStep
  (s4.runEntry.crcStart s4.tm.turn).layTurn

/-- Blocks: the ply (R471), descriptors, closes, line watch, lanes, rows, doffs, fuses, breaches that end. -/
def State.boundBlocks (s : State) : State :=
  let s1 := s.plyBoundary.loopCmds
  let s2 := (s1.streamNums.foldl State.closeStep s1).releaseStep
  let s3 := channels.foldl State.lineBoundary s2
  let s4 := s3.laneBoundary.rowBoundary.doffBoundary.burnNext
  channels.foldl (fun (a : State) c => a.breachBoundary c (s.tm.turn - 1)) s4

/-- Reports: FENCEs, the trip lines, hanks, TURN_REPORT and status pages, and the copy of the counters (R330, R342, R414). -/
def State.boundReports (s : State) : State :=
  let s1 := s.fenceBoundary.refreshSource.refreshTrip
  let s2 := s1.turnHank.sampleHanks
  ((s2.portBoundary .a s2.turnReport).portBoundary .b s2.turnReport).snapBoundary

/-- TURN_BOUNDARY (R30, R31). -/
def execTurnBoundary (s : State) : Host.Outcome State Fault Refusal :=
  s.sched s.tm.nextBound (fun s => s.boundConfig.boundBlocks.boundReports)

/-! ## The capture point -/

/-- Is one time base value earlier than another? -/
def earlier (a b : BitVec 64) : Bool := decide (a ≠ b) && decide ((b - a).toNat < 2 ^ 63)

/-- Does an end of frame belong to a snapshot (R34): before its cut-off, and not before that of the turn before? -/
def inSnapshot (low : Option (BitVec 64)) (cut t : BitVec 64) : Bool :=
  earlier t cut && (match low with | none => true | some l => !earlier t l)

/-- The snapshot of a value slot (R34, R152): the newest accepted frame that belongs to it and is newer than the one taken last,
with age 0; else the age rises. -/
def Stream.snapshot (x : Stream) (low : Option (BitVec 64)) (cut : BitVec 64) : Stream :=
  match x.slot.find? (fun e => inSnapshot low cut e.1 && (match x.snapEof with | none => true | some t => earlier t e.1)) with
  | some e => { x with snap := e.2, snapEof := some e.1, age := 0 }
  | none => { x with age := if x.snapEof.isNone then 65535 else min 65535 (x.age + 1) }

/-- The snapshot of a receive stream with the reports of R153. -/
def State.snapStream (s : State) (cut : BitVec 64) (n : Nat) : State :=
  match s.stream n with
  | none => s
  | some x =>
    if decide (x.cfg.kind = 2) && decide (x.st = .live) then
      let y := x.snapshot s.tm.cut cut
      let st := decide (y.age ≥ x.cfg.stale.toNat)
      let s1 := s.setStream n { y with stale := st }
      if st && !x.stale then
        (s1.status (.streamStatus 6 x.cfg.ch.val 0 n 0 s.tm.turn 0 [] 0 0)).raise 0x1A7
      else if !st && x.stale then s1.status (.streamStatus 7 x.cfg.ch.val 0 n 0 s.tm.turn 0 [] 0 0)
      else s1
    else s

/-- A twist slot after a capture point that does not copy its held bobbin: the newest unpoisoned frame that the bobbin replaced
is taken where it belongs to the snapshot; else the snapshot stays and ages (R225). -/
def TwistSlot.older (v : TwistSlot) (low : Option (BitVec 64)) (cut : BitVec 64) (held : Option Nat) : TwistSlot :=
  match v.prior.filter (fun e => inSnapshot low cut e.1) with
  | some e => { held := held, snap := some e.2, age := 0 }
  | none => { held := held, snap := v.snap, age := if v.snap.isNone then 65535 else min 65535 (v.age + 1) }

/-- The snapshot of a twist slot (R34, R131, R225): the newest unpoisoned frame that belongs to it is copied. A held bobbin that
ended before the cut-off is released, copied or not; one that ended after it stays for the next capture point. -/
def State.snapSlot (s : State) (cut : BitVec 64) (k : Nat) : State :=
  let v := s.twSlot k
  match v.held.bind (fun i => (s.bob i).map (fun b => (i, b))) with
  | none => s.setTwSlot k (v.older s.tm.cut cut v.held)
  | some (i, b) =>
    if earlier b.time cut = false then s.setTwSlot k (v.older s.tm.cut cut (some i))
    else if b.poison || !inSnapshot s.tm.cut cut b.time then (s.setTwSlot k (v.older s.tm.cut cut none)).dropHolder i
    else (s.setTwSlot k { held := none, snap := some b.frame, age := 0 }).dropHolder i

/-- Feed measurements and line-watch summaries of the snapshot (R26, R204). -/
def State.snapField (s : State) : State :=
  let fs := (List.range 8).foldl (fun (t : Tbl FeedMeas) n => Tbl.put t n {} (s.feed n).pub) s.tw.feeds
  let ls := channels.foldl (fun (t : Tbl (List Int)) c => Tbl.put t c [] (s.lineItems c)) s.tw.lines
  let s1 := { s with tw := { s.tw with feeds := fs, lines := ls } }
  channels.foldl (fun (a : State) c => a.modLine c (fun v => { v with errs := 0 })) s1

/-- TRIP_IN is read and compared with TRIP_OUT (R455): a line that differs at two consecutive capture points raises
0x30D. -/
def State.snapTrip (s : State) (pins : BitVec 4) : State :=
  let run := (List.range 4).map (fun t =>
    if pins.getLsbD t = decide (s.pl.tripOut / 2 ^ t % 2 = 1) then 0 else min 2 (s.pl.differRun.getD t 0 + 1))
  let d := ((List.range 4).map (fun t => b01 (decide (run.getD t 0 = 2)) * 2 ^ t)).sum
  let new := (List.range 4).any (fun t => decide (run.getD t 0 = 2) && decide (s.pl.differRun.getD t 0 < 2))
  let s1 := { s with pl := { s.pl with tripIn := pins.toNat, differ := d, differRun := run } }
  if new then s1.raise 0x30D else s1

/-- The snapshot of a turn (R30, R34, R35). -/
def State.capture (s : State) (pins : BitVec 4) : State :=
  let cut := s.offsetAt s.capUs - 2000
  let s1 := ({ s with tm := { s.tm with capDone := true } }).raise 0x041
  let s2 := s1.streamNums.foldl (fun (a : State) n => a.snapStream cut n) s1
  let s3 := (s2.tw.slots.map (fun e => e.1)).foldl (fun (a : State) k => a.snapSlot cut k) s2
  ({ s3 with tm := { s3.tm with cut := some cut } }.snapField.strobe).snapTrip pins

/-- CAPTURE_POINT (R30): c µs into the turn (R59), once in a turn. -/
def execCapturePoint (tripIn : BitVec 4) (s : State) : Host.Outcome State Fault Refusal :=
  s.sched (s.offsetAt s.capUs) (fun s => if s.tm.capDone then s else s.capture tripIn)

/-! ## The release point -/

/-- The overrun of a turn is reported (R38, R248). -/
def State.overrun (s : State) : State :=
  let n := s.abandonedLoops.length
  if n = 0 then s else (({ s with tw := { s.tw with abandoned := true } }).slub 0x0602 n 0 0).raise 0x220

/-- The ply's part before the loops (R459, R460, R463, R465). -/
def State.plyRelease (s : State) (sets : List (Nat × List SinkVal)) : State :=
  if s.plyMember then ((s.noMajority sets).demotions sets).joinStep sets else s

/-- Sinks of loops due in this turn that no majority backs. -/
def State.unbacked (s : State) (sets : List (Nat × List SinkVal)) : List (Nat × Nat) :=
  if s.plyMember then s.dueSinks.filter (fun e => (s.voteSink sets e.1 e.2).isNone) else []

/-- What the ply voted for a loop's sinks; a single device publishes its own values. The fallback output of a loop that no set
lists goes on (R244). -/
def State.votesOf (s : State) (sets : List (Nat × List SinkVal)) (k : Nat) : Nat → Option Vote :=
  fun j =>
    if s.plyMember && !(decide ((s.loop k).mode = .fallback) && sets.all (fun x => (sinkIn x.2 k j).isNone)) then
      some (s.voteSink sets k j)
    else none

/-- The release of the loops in RUN: votes, modes, fallbacks, published outputs (R30, R237, R243, R245, R248, R471). -/
def State.releaseLoops (s : State) : State :=
  let ks := loopsOf s.regs.live
  let s0 := s.dropAbandoned
  let sets := s0.outSets
  let hits := s0.unbacked sets
  let s1 := (s0.plyRelease sets).overrun
  let s2 := ks.foldl State.settleLoop s1
  let s3 := if s2.plyMember then ks.foldl (fun (a : State) k => a.plyLoop k (hits.any (fun e => decide (e.1 = k)))) s2 else s2
  ks.foldl (fun (a : State) k => a.publish k (a.votesOf sets k)) s3

/-- The release point (R30, R262, R455). -/
def State.releasePoint (s : State) : State :=
  let s1 := ({ s with tm := { s.tm with releaseDone := true }, tw := { s.tw with opened := false, running := [] } }).raise 0x042
  let s2 := if s1.dev.st = .run then s1.releaseLoops else s1
  s2.refreshTrip.sendCommands

/-- RELEASE_POINT (R30): r µs into the turn (R59), once in a turn. -/
def execReleasePoint (s : State) : Host.Outcome State Fault Refusal :=
  s.sched (s.offsetAt s.releaseUs) (fun s => if s.tm.releaseDone then s else s.releasePoint)

end Sys2Proof.Machine
end

