-- ==== Sys2Proof/Machine/Dispatch.lean ====
section
/-!
DEFINITION. One arm per constructor of Instr, each a direct call of that command's meaning.
-/

namespace Sys2Proof.Machine

def exec (i : Instr) (s : State) : Host.Outcome State Fault Refusal :=
  match i with
  | .turnBoundary => Sys2Proof.Machine.execTurnBoundary s
  | .capturePoint tripIn => Sys2Proof.Machine.execCapturePoint tripIn s
  | .captureReadingsArrival dt x => Sys2Proof.Machine.execCaptureReadingsArrival dt x s
  | .captureReadingsTimeout dt => Sys2Proof.Machine.execCaptureReadingsTimeout dt s
  | .agreementWindowEnd => Sys2Proof.Machine.execAgreementWindowEnd s
  | .twistWindowStart => Sys2Proof.Machine.execTwistWindowStart s
  | .loopEvaluationComplete dt loop => Sys2Proof.Machine.execLoopEvaluationComplete dt loop s
  | .releasePoint => Sys2Proof.Machine.execReleasePoint s
  | .turnOutPulseEnd dt => Sys2Proof.Machine.execTurnOutPulseEnd dt s
  | .ppsEvent dt => Sys2Proof.Machine.execPpsEvent dt s
  | .turnInEvent dt => Sys2Proof.Machine.execTurnInEvent dt s
  | .timeCell dt h tTx turn echo residence => Sys2Proof.Machine.execTimeCell dt h tTx turn echo residence s
  | .holdoverEntry dt => Sys2Proof.Machine.execHoldoverEntry dt s
  | .cascadeAlarm dt => Sys2Proof.Machine.execCascadeAlarm dt s
  | .loadTime dt w => Sys2Proof.Machine.execLoadTime dt w s
  | .loadTurn dt w => Sys2Proof.Machine.execLoadTurn dt w s
  | .tbNowLoRead dt r => Sys2Proof.Machine.execTbNowLoRead dt r s
  | .tbTurnLoRead dt r => Sys2Proof.Machine.execTbTurnLoRead dt r s
  | .tbBoundLoRead dt r => Sys2Proof.Machine.execTbBoundLoRead dt r s
  | .startOfFrame dt x => Sys2Proof.Machine.execStartOfFrame dt x s
  | .frameReceived dt ch f x => Sys2Proof.Machine.execFrameReceived dt ch f x s
  | .frameSent dt ch lw ovl => Sys2Proof.Machine.execFrameSent dt ch lw ovl s
  | .arbitrationLost dt ch => Sys2Proof.Machine.execArbitrationLost dt ch s
  | .errorFlag dt ch e => Sys2Proof.Machine.execErrorFlag dt ch e s
  | .frameChoice dt ch poison => Sys2Proof.Machine.execFrameChoice dt ch poison s
  | .busIntegrationComplete dt ch => Sys2Proof.Machine.execBusIntegrationComplete dt ch s
  | .holdoffEnd dt ch => Sys2Proof.Machine.execHoldoffEnd dt ch s
  | .recoveryComplete dt ch => Sys2Proof.Machine.execRecoveryComplete dt ch s
  | .modeTakesEffect dt ch => Sys2Proof.Machine.execModeTakesEffect dt ch s
  | .transmitTimeout dt ch => Sys2Proof.Machine.execTransmitTimeout dt ch s
  | .recover dt ch w => Sys2Proof.Machine.execRecover dt ch w s
  | .release dt ch w => Sys2Proof.Machine.execRelease dt ch w s
  | .carding dt sp hdrBad payBad => Sys2Proof.Machine.execCarding dt sp hdrBad payBad s
  | .emInsert dt w => Sys2Proof.Machine.execEmInsert dt w s
  | .emDelete dt w => Sys2Proof.Machine.execEmDelete dt w s
  | .emRead dt w => Sys2Proof.Machine.execEmRead dt w s
  | .routeWrite dt w => Sys2Proof.Machine.execRouteWrite dt w s
  | .routeRead dt w => Sys2Proof.Machine.execRouteRead dt w s
  | .tableCommandComplete dt => Sys2Proof.Machine.execTableCommandComplete dt s
  | .nop dt d => Sys2Proof.Machine.execNop dt d s
  | .send dt d b => Sys2Proof.Machine.execSend dt d b s
  | .sendReadyEntry dt ch => Sys2Proof.Machine.execSendReadyEntry dt ch s
  | .streamOpen dt d b => Sys2Proof.Machine.execStreamOpen dt d b s
  | .streamClose dt d stream => Sys2Proof.Machine.execStreamClose dt d stream s
  | .streamData dt d b => Sys2Proof.Machine.execStreamData dt d b s
  | .foreignDeclare dt d b => Sys2Proof.Machine.execForeignDeclare dt d b s
  | .draftComplete dt acting => Sys2Proof.Machine.execDraftComplete dt acting s
  | .draftTimeout dt => Sys2Proof.Machine.execDraftTimeout dt s
  | .streamRelease dt stream => Sys2Proof.Machine.execStreamRelease dt stream s
  | .sporadicAcceptance dt stream => Sys2Proof.Machine.execSporadicAcceptance dt stream s
  | .valueLineReadStart dt stream => Sys2Proof.Machine.execValueLineReadStart dt stream s
  | .valueLineReadComplete dt stream nth ok data => Sys2Proof.Machine.execValueLineReadComplete dt stream nth ok data s
  | .valueLineReadTimeout dt stream => Sys2Proof.Machine.execValueLineReadTimeout dt stream s
  | .releaseDeadline dt stream => Sys2Proof.Machine.execReleaseDeadline dt stream s
  | .attribution dt ch arb bits => Sys2Proof.Machine.execAttribution dt ch arb bits s
  | .quarantineRequestLapse dt ch => Sys2Proof.Machine.execQuarantineRequestLapse dt ch s
  | .quarantineRestart dt ch => Sys2Proof.Machine.execQuarantineRestart dt ch s
  | .shortEvaluation dt ch tapH tapL => Sys2Proof.Machine.execShortEvaluation dt ch tapH tapL s
  | .trendIntervalEnd dt ch => Sys2Proof.Machine.execTrendIntervalEnd dt ch s
  | .baseline dt w => Sys2Proof.Machine.execBaseline dt w s
  | .lineCapture dt d b => Sys2Proof.Machine.execLineCapture dt d b s
  | .lineCaptureTrigger dt ch pairs => Sys2Proof.Machine.execLineCaptureTrigger dt ch pairs s
  | .lineCaptureTimeout dt ch => Sys2Proof.Machine.execLineCaptureTimeout dt ch s
  | .loopMode dt d b => Sys2Proof.Machine.execLoopMode dt d b s
  | .loopParam dt d b => Sys2Proof.Machine.execLoopParam dt d b s
  | .laneFailure dt lane => Sys2Proof.Machine.execLaneFailure dt lane s
  | .limiterOpen dt input => Sys2Proof.Machine.execLimiterOpen dt input s
  | .limiterTest dt input exceeds => Sys2Proof.Machine.execLimiterTest dt input exceeds s
  | .outputCommandArrival dt output => Sys2Proof.Machine.execOutputCommandArrival dt output s
  | .complianceChange dt output headMv => Sys2Proof.Machine.execComplianceChange dt output headMv s
  | .outputMiswiring dt output vout vrtn vloop => Sys2Proof.Machine.execOutputMiswiring dt output vout vrtn vloop s
  | .outputWatchdog dt output => Sys2Proof.Machine.execOutputWatchdog dt output s
  | .loClear dt w => Sys2Proof.Machine.execLoClear dt w s
  | .loLock dt w => Sys2Proof.Machine.execLoLock dt w s
  | .feedMeasurement dt feed ma v vgs => Sys2Proof.Machine.execFeedMeasurement dt feed ma v vgs s
  | .feedSupervisionTick dt feed ma vout vcom vgs supplies => Sys2Proof.Machine.execFeedSupervisionTick dt feed ma vout vcom vgs supplies s
  | .feedSupplyQualified dt feed => Sys2Proof.Machine.execFeedSupplyQualified dt feed s
  | .feedQualifyComplete dt feed => Sys2Proof.Machine.execFeedQualifyComplete dt feed s
  | .feedStartTimeout dt feed => Sys2Proof.Machine.execFeedStartTimeout dt feed s
  | .feedFastTrip dt x => Sys2Proof.Machine.execFeedFastTrip dt x s
  | .feedGateFail dt feed => Sys2Proof.Machine.execFeedGateFail dt feed s
  | .feedQpShort dt feed => Sys2Proof.Machine.execFeedQpShort dt feed s
  | .feedSupplyLoss dt feed => Sys2Proof.Machine.execFeedSupplyLoss dt feed s
  | .feedOvervolt dt feed => Sys2Proof.Machine.execFeedOvervolt dt feed s
  | .feedCoolingEnd dt feed => Sys2Proof.Machine.execFeedCoolingEnd dt feed s
  | .feedRetryClear dt feed => Sys2Proof.Machine.execFeedRetryClear dt feed s
  | .feedCycleEnd dt feed => Sys2Proof.Machine.execFeedCycleEnd dt feed s
  | .oringReverse dt feed x => Sys2Proof.Machine.execOringReverse dt feed x s
  | .feedCmdOn dt d feed => Sys2Proof.Machine.execFeedCmdOn dt d feed s
  | .feedCmdOff dt d feed => Sys2Proof.Machine.execFeedCmdOff dt d feed s
  | .feedCmdCycle dt d feed offMs => Sys2Proof.Machine.execFeedCmdCycle dt d feed offMs s
  | .feedCmdQuarantine dt d feed => Sys2Proof.Machine.execFeedCmdQuarantine dt d feed s
  | .feedCmdClear dt d feed => Sys2Proof.Machine.execFeedCmdClear dt d feed s
  | .fdCmdOn dt feed w => Sys2Proof.Machine.execFdCmdOn dt feed w s
  | .fdCmdOff dt feed w => Sys2Proof.Machine.execFdCmdOff dt feed w s
  | .fdCmdClear dt feed w => Sys2Proof.Machine.execFdCmdClear dt feed w s
  | .fdLock dt w => Sys2Proof.Machine.execFdLock dt w s
  | .fieldCommitArrival dt => Sys2Proof.Machine.execFieldCommitArrival dt s
  | .feedEnergyLoRead dt feed r => Sys2Proof.Machine.execFeedEnergyLoRead dt feed r s
  | .summaryPoll dt port => Sys2Proof.Machine.execSummaryPoll dt port s
  | .summaryReadComplete dt port summary generation => Sys2Proof.Machine.execSummaryReadComplete dt port summary generation s
  | .dsProdReadComplete dt port ds prod => Sys2Proof.Machine.execDsProdReadComplete dt port ds prod s
  | .skConsReadComplete dt port sk cons => Sys2Proof.Machine.execSkConsReadComplete dt port sk cons s
  | .descriptorFetched dt port ds r => Sys2Proof.Machine.execDescriptorFetched dt port ds r s
  | .payloadReadComplete dt port ds data => Sys2Proof.Machine.execPayloadReadComplete dt port ds data s
  | .readTimeout dt port what => Sys2Proof.Machine.execReadTimeout dt port what s
  | .readError dt port what => Sys2Proof.Machine.execReadError dt port what s
  | .fence dt d turn hold => Sys2Proof.Machine.execFence dt d turn hold s
  | .skeinNotifyCoalesce dt port sk => Sys2Proof.Machine.execSkeinNotifyCoalesce dt port sk s
  | .linkDown dt port => Sys2Proof.Machine.execLinkDown dt port s
  | .busMasterDisable dt port => Sys2Proof.Machine.execBusMasterDisable dt port s
  | .functionLevelReset dt port => Sys2Proof.Machine.execFunctionLevelReset dt port s
  | .perstAssert dt port => Sys2Proof.Machine.execPerstAssert dt port s
  | .portEnWrite dt w => Sys2Proof.Machine.execPortEnWrite dt w s
  | .ringEnable dt w => Sys2Proof.Machine.execRingEnable dt w s
  | .ringDisable dt w => Sys2Proof.Machine.execRingDisable dt w s
  | .plySwitch dt d member => Sys2Proof.Machine.execPlySwitch dt d member s
  | .plyDemote dt d member => Sys2Proof.Machine.execPlyDemote dt d member s
  | .plyReinstate dt d member => Sys2Proof.Machine.execPlyReinstate dt d member s
  | .plyForce dt d member => Sys2Proof.Machine.execPlyForce dt d member s
  | .channelCmdRecover dt d ch => Sys2Proof.Machine.execChannelCmdRecover dt d ch s
  | .channelCmdRelease dt d ch => Sys2Proof.Machine.execChannelCmdRelease dt d ch s
  | .keyLoad dt d b => Sys2Proof.Machine.execKeyLoad dt d b s
  | .keyLoadComplete dt => Sys2Proof.Machine.execKeyLoadComplete dt s
  | .candidacy dt w => Sys2Proof.Machine.execCandidacy dt w s
  | .accept dt w => Sys2Proof.Machine.execAccept dt w s
  | .electionWindowEnd dt => Sys2Proof.Machine.execElectionWindowEnd dt s
  | .handoverGo dt w => Sys2Proof.Machine.execHandoverGo dt w s
  | .handoverTimeout dt => Sys2Proof.Machine.execHandoverTimeout dt s
  | .generationLapse dt => Sys2Proof.Machine.execGenerationLapse dt s
  | .whDoorbell dt w => Sys2Proof.Machine.execWhDoorbell dt w s
  | .whClaim dt r conditionFalse => Sys2Proof.Machine.execWhClaim dt r conditionFalse s
  | .whComplete dt w => Sys2Proof.Machine.execWhComplete dt w s
  | .whHold dt w => Sys2Proof.Machine.execWhHold dt w s
  | .stackAgeExpiry dt port => Sys2Proof.Machine.execStackAgeExpiry dt port s
  | .registerWrite dt off w => Sys2Proof.Machine.execRegisterWrite dt off w s
  | .dvCommit dt w => Sys2Proof.Machine.execDvCommit dt w s
  | .dvCommitNow dt w => Sys2Proof.Machine.execDvCommitNow dt w s
  | .commitAcceptance dt => Sys2Proof.Machine.execCommitAcceptance dt s
  | .reanalysisTimeout dt => Sys2Proof.Machine.execReanalysisTimeout dt s
  | .dvLock dt w => Sys2Proof.Machine.execDvLock dt w s
  | .plLock dt w => Sys2Proof.Machine.execPlLock dt w s
  | .ksLock dt half w => Sys2Proof.Machine.execKsLock dt half w s
  | .fieldWriteAck dt => Sys2Proof.Machine.execFieldWriteAck dt s
  | .ctClearGo dt w => Sys2Proof.Machine.execCtClearGo dt w s
  | .ctClearAll dt w => Sys2Proof.Machine.execCtClearAll dt w s
  | .ctSnapNow dt w => Sys2Proof.Machine.execCtSnapNow dt w s
  | .ctSnapAtBoundary dt w => Sys2Proof.Machine.execCtSnapAtBoundary dt w s
  | .counterLoRead dt c r => Sys2Proof.Machine.execCounterLoRead dt c r s
  | .holdingLoRead dt c r => Sys2Proof.Machine.execHoldingLoRead dt c r s
  | .ctSnapTimeLoRead dt r => Sys2Proof.Machine.execCtSnapTimeLoRead dt r s
  | .dvCmdRun dt w => Sys2Proof.Machine.execDvCmdRun dt w s
  | .sliverFlush dt sl w => Sys2Proof.Machine.execSliverFlush dt sl w s
  | .sliverFlushEffect dt sl => Sys2Proof.Machine.execSliverFlushEffect dt sl s
  | .scrub dt errs => Sys2Proof.Machine.execScrub dt errs s
  | .heartCell dt h b crc syncNext syncDone => Sys2Proof.Machine.execHeartCell dt h b crc syncNext syncDone s
  | .agreeCell dt h b cont => Sys2Proof.Machine.execAgreeCell dt h b cont s
  | .mgmtCell dt h seq m => Sys2Proof.Machine.execMgmtCell dt h seq m s
  | .relayCell dt h entry second r => Sys2Proof.Machine.execRelayCell dt h entry second r s
  | .trainCell dt h t => Sys2Proof.Machine.execTrainCell dt h t s
  | .wilistTrainingComplete dt link => Sys2Proof.Machine.execWilistTrainingComplete dt link s
  | .wilistCellTimeout dt link => Sys2Proof.Machine.execWilistCellTimeout dt link s
  | .wilistLinkFailed dt link => Sys2Proof.Machine.execWilistLinkFailed dt link s
  | .retrain dt link w => Sys2Proof.Machine.execRetrain dt link w s
  | .wilistSlotStart dt slot => Sys2Proof.Machine.execWilistSlotStart dt slot s
  | .csPeerdbGo dt w => Sys2Proof.Machine.execCsPeerdbGo dt w s
  | .joinSyncTimeout dt => Sys2Proof.Machine.execJoinSyncTimeout dt s
  | .bridgeTimeout dt => Sys2Proof.Machine.execBridgeTimeout dt s
  | .fieldResetHoldEnd dt => Sys2Proof.Machine.execFieldResetHoldEnd dt s
  | .fieldResetEnd dt => Sys2Proof.Machine.execFieldResetEnd dt s
  | .fieldResetRestart dt => Sys2Proof.Machine.execFieldResetRestart dt s
  | .spindleProgressTimeout dt ch => Sys2Proof.Machine.execSpindleProgressTimeout dt ch s
  | .spindleResetComplete dt ch => Sys2Proof.Machine.execSpindleResetComplete dt ch s
  | .rowCopyComplete dt => Sys2Proof.Machine.execRowCopyComplete dt s
  | .rpDoffGo dt w => Sys2Proof.Machine.execRpDoffGo dt w s
  | .doffPrepared dt => Sys2Proof.Machine.execDoffPrepared dt s
  | .doffSwitch dt => Sys2Proof.Machine.execDoffSwitch dt s
  | .doffAbandon dt => Sys2Proof.Machine.execDoffAbandon dt s
  | .agingCheck dt margins => Sys2Proof.Machine.execAgingCheck dt margins s
  | .rpCmdBurn dt w => Sys2Proof.Machine.execRpCmdBurn dt w s
  | .fuseDataWordWritten dt => Sys2Proof.Machine.execFuseDataWordWritten dt s
  | .fuseBurnComplete dt => Sys2Proof.Machine.execFuseBurnComplete dt s
  | .ksWriteTaken dt => Sys2Proof.Machine.execKsWriteTaken dt s
  | .ksFrLoRead dt r => Sys2Proof.Machine.execKsFrLoRead dt r s
  | .hankOutput dt => Sys2Proof.Machine.execHankOutput dt s
  | .traceBufferFreeze dt => Sys2Proof.Machine.execTraceBufferFreeze dt s
  | .restart dt w => Sys2Proof.Machine.execRestart dt w s
  | .tapIdcode dt => Sys2Proof.Machine.execTapIdcode dt s
  | .tapSamplePreload dt => Sys2Proof.Machine.execTapSamplePreload dt s
  | .tapBypass dt => Sys2Proof.Machine.execTapBypass dt s
  | .trstAssert dt => Sys2Proof.Machine.execTrstAssert dt s
  | .supplyLoss dt supply => Sys2Proof.Machine.execSupplyLoss dt supply s
  | .resetAssert dt => Sys2Proof.Machine.execResetAssert dt s
  | .leaveReset dt plyId pos ownPrio => Sys2Proof.Machine.execLeaveReset dt plyId pos ownPrio s
  | .selfTestComplete dt t => Sys2Proof.Machine.execSelfTestComplete dt t s
  | .imageMagicRead dt magic => Sys2Proof.Machine.execImageMagicRead dt magic s
  | .imageReadComplete dt image => Sys2Proof.Machine.execImageReadComplete dt image s
  | .loadingEnd dt => Sys2Proof.Machine.execLoadingEnd dt s
  | .spindleSelfCheckFailed dt sp => Sys2Proof.Machine.execSpindleSelfCheckFailed dt sp s
  | .busMasterEnable dt port => Sys2Proof.Machine.execBusMasterEnable dt port s
  | .supplyPresent dt supply => Sys2Proof.Machine.execSupplyPresent dt supply s
  | .vloopBelow3V dt mv => Sys2Proof.Machine.execVloopBelow3V dt mv s

end Sys2Proof.Machine
end

