-- ==== Sys2Proof/Machine/RegRead.lean ====
section
/-!
DEFINITION. What a register reads (R380, R383, R384, R388, R402, R411 and the register tables of every chapter), block by
block. The table of commands has rows only for the reads that latch; every other read changes nothing.
-/

namespace Sys2Proof.Machine

/-! ## Identity, device, counters (chapter 12), turn and time (chapter 2) -/

/-- ID_ registers. -/
def idWord (off : Nat) : Word :=
  if off = 0x0 then packWord [(0, 0x1618), (16, Config.grade.toNat), (20, Config.coreStep.toNat), (24, Config.fieldStep.toNat)]
  else if off = 0x4 then packWord [(0, Config.vendorId.toNat)]
  else if off = 0x30 then lo32 Config.serial
  else if off = 0x34 then hi32 Config.serial
  else resetAt off

/-- DV_ registers. -/
def State.dvWord (s : State) (off : Nat) : Word :=
  let r := s.regs
  if off = 0x1000 then packWord [(0, s.dev.st.code)]
  else if off = 0x1010 then
    packWord [(0, b01 (decide (r.phase ≠ .idle))), (1, match r.phase with | .idle => 0 | .checking => 1 | .accepted => 2)]
  else if off = 0x1014 then r.pend
  else if off = 0x1018 then r.refused
  else if off = 0x101C then r.dirty
  else if off = 0x1028 then r.crcLast
  else if off = 0x102C then
    packWord [(0, b01 r.crcMismatch), (1, b01 r.graceOn), (2, r.graceLeft), (6, b01 (r.passOn && r.passValid))]
  else if off = 0x1038 then packWord [(0, b01 s.fieldBusy), (16, s.fa.seq.toNat)]
  else if off = 0x103C then packWord [(0, r.discOff), (21, r.discPort.idx), (24, r.discReason)]
  else if off = 0x1050 then
    packWord [(0, s.dev.phase), (4, s.dev.result), (8, s.dev.cause), (16, min 65535 s.dev.refused)]
  else if off = 0x1054 then packWord [(0, s.dev.errSection), (8, s.dev.errEntry)]
  else if off = 0x1058 then s.dev.build
  else 0

/-- TB_RATE.APPLIED_PPB (R43). -/
def State.ratePpb (s : State) : Word :=
  let x := s.rateApplied * 1000000000
  BitVec.ofInt 32 (wholeOr .ppb x)

/-- TB_ registers (R48). -/
def State.tbWord (s : State) (p : Port) (off : Nat) : Word :=
  if off = 0x10040 then lo32 s.now
  else if off = 0x10044 then (s.port p).nowHi
  else if off = 0x10048 then lo32 (s.tm.turn.setWidth 64)
  else if off = 0x1004C then (s.port p).turnHi
  else if off = 0x10050 then lo32 s.tm.bound
  else if off = 0x10054 then (s.port p).boundHi
  else if off = 0x10060 then packWord [(0, s.tbStatus)]
  else if off = 0x10064 then BitVec.ofInt 32 s.tm.phaseErr
  else if off = 0x10068 then s.ratePpb
  else 0

/-- A bank stands at saturation (R412). -/
def State.bankFull (s : State) (b : Nat) : Bool :=
  s.rep.ct.any (fun e => decide (e.1 / 64 = b) && decide (e.2 = ctMax))

/-- CT_ registers and the counters (R410 to R414). -/
def State.ctWord (s : State) (p : Port) (off : Nat) : Word :=
  if off = 0xD0008 then packWord [(0, b01 s.regs.ctPending)]
  else if off = 0xD0010 then lo32 s.regs.ctTime
  else if off = 0xD0014 then (s.port p).snapTimeHi
  else if off = 0xD0018 then lo32 (s.regs.ctTurn.setWidth 64)
  else if off = 0xD001C then hi32 (s.regs.ctTurn.setWidth 64)
  else if 0xD0100 ≤ off ∧ off < 0xD0110 then
    packWord ((List.range 32).map (fun k => (k, b01 (s.bankFull (8 * (off - 0xD0100) + k)))))
  else if 0xD1000 ≤ off ∧ off < 0xE0000 then
    if off % 8 = 0 then BitVec.ofNat 32 (s.rep.counter ((off - 0xD1000) / 8)) else (s.port p).ctLatch
  else if 0xE1000 ≤ off ∧ off < 0xF0000 then
    if off % 8 = 0 then BitVec.ofNat 32 (Tbl.lookD s.regs.held ((off - 0xE1000) / 8) 0) else (s.port p).ctLatch
  else 0

/-! ## Spindles (chapter 3) -/

/-- SP_CHn_STATUS.STATE (Table 3.6). -/
def ChState.code : ChState → Nat
  | .off => 0
  | .integrating => 1
  | .errorActive => 2
  | .errorPassive => 3
  | .boHold => 4
  | .boWait => 5
  | .recovering => 6
  | .quarantined => 7

/-- SP_STATE.ROLE. -/
def SpRole.code : SpRole → Nat
  | .active => 0
  | .spare => 1
  | .retired => 2

/-- The channel that a spindle serves. -/
def State.servedBy (s : State) (n : Nat) : Option Nat := channels.find? (fun c => decide (s.spOf c = n))

/-- SP_STATE and the SP_CHn_ status registers. -/
def State.spWord (s : State) (off : Nat) : Word :=
  if off < 0x38000 then
    if off % 0x1000 ≠ 0 then 0
    else
      let n := (off - 0x20000) / 0x1000
      let k := s.servedBy n
      packWord [(0, (s.spindle n).role.code), (2, b01 k.isSome), (3, b01 (s.spindle n).selfOk), (4, k.getD 0),
        (16, match k with | some c => (s.ch c).ready.length | none => 0)]
  else
    let n := (off - 0x38000) / 0x400
    let c := s.ch n
    let o := off % 0x400
    if o = 0x30 then
      packWord [(0, c.st.code), (4, b01 c.warn), (5, b01 (s.tdcSat n)), (6, b01 c.integWait), (8, c.lec), (16, s.spOf n),
        (24, c.recov)]
    else if o = 0x34 then packWord [(0, c.tec % 512), (16, c.recn % 256), (24, if c.st = .boHold then c.holdLeft else 0)]
    else if o = 0x38 then packWord [(0, c.tdcv), (8, c.ssp)]
    else 0

/-! ## Streams and drafting (chapter 5) -/

/-- State of a stream (Table 5.13). -/
def StrState.code : StrState → Nat
  | .closed => 0
  | .pending => 1
  | .live => 2
  | .closing => 3

/-- The little-endian word i of a byte string. -/
def wordOf (l : List Byte) (i : Nat) : Word :=
  BitVec.ofNat 32 ((l.getD (4 * i) 0).toNat + (l.getD (4 * i + 1) 0).toNat * 2 ^ 8 + (l.getD (4 * i + 2) 0).toNat * 2 ^ 16 +
    (l.getD (4 * i + 3) 0).toNat * 2 ^ 24)

/-- Stream table entry (Table 5.13). -/
def Stream.bytes (x : Stream) : List Byte :=
  x.cfgBytes ++ wordBytes x.key ++ leBytes 4 x.cNs ++ leBytes 4 x.rNs ++ leBytes 2 x.reserve ++ leBytes 2 x.q ++
  leBytes 8 x.liveTurn.toNat ++ wordBytes (packWord [(0, x.st.code), (3, b01 x.breach), (4, b01 x.stale)]) ++
  wordBytes (BitVec.ofInt 32 x.minSlack) ++ leBytes 8 x.releases ++ leBytes 8 x.misses ++ leBytes 8 x.uncovered ++
  leBytes 4 x.maxResp ++ leBytes 4 x.valueLate

/-- Foreign declaration entry (Table 5.14). -/
def Foreign.bytes (f : Foreign) : List Byte := f.cfgBytes ++ leBytes 4 f.rNs ++ leBytes 8 f.overdrafts

/-- DR_CHn_LOAD.UTIL: Σ C / T over the model, in thousandths. -/
def State.util (s : State) (ch : Nat) : Nat :=
  let x : Rat := (s.model s.live ch).foldl (fun (a : Rat) k => a + if k.t = 0 then 0 else (k.c : Rat) / k.t) 0 * 1000
  min 2047 (wholeOr .util x).toNat

/-- DR_ registers. -/
def State.drWord (s : State) (off : Nat) : Word :=
  if off = 0x50008 then
    packWord [(0, (s.dr.streams.filter (fun e => e.2.isOpen)).length), (13, b01 (!s.dr.queue.isEmpty)), (16, s.breachMap)]
  else if off = 0x5000C then packWord [(0, s.dr.foreign.length)]
  else if 0x50100 ≤ off ∧ off < 0x50180 then
    match s.stream (fieldOf (s.rwi 0x50010) 0 12) with | some x => wordOf x.bytes ((off - 0x50100) / 4) | none => 0
  else if 0x50180 ≤ off ∧ off < 0x501A0 then
    match Tbl.look s.dr.foreign (fieldOf (s.rwi 0x50014) 0 13) with
    | some f => wordOf f.bytes ((off - 0x50180) / 4)
    | none => 0
  else if 0x51000 ≤ off ∧ off < 0x51400 then
    let n := (off - 0x51000) / 0x40
    let b := s.breach n
    if off % 0x40 = 0x10 then
      packWord [(0, b01 b.on), (1, ((List.range 6).map (fun k => b01 (b.causes.contains (k + 1)) * 2 ^ k)).sum),
        (16, (s.chStreams n).length)]
    else if off % 0x40 = 0x14 then b.keyFrom
    else if off % 0x40 = 0x18 then packWord [(0, s.util n)]
    else 0
  else 0

/-! ## Cards and creel (chapter 4), line watch (chapter 6) -/

/-- CR_ registers that are neither configuration nor written at once. -/
def State.crWord (s : State) (off : Nat) : Word :=
  if off = 0x48010 then
    let em := match s.cr.cmd with | some k => k.em | none => false
    let rt := match s.cr.cmd with | some k => !k.em | none => false
    packWord [(0, b01 em), (1, s.cr.emResult), (4, b01 rt), (5, s.cr.rtResult), (16, s.cr.emIndex)]
  else if off = 0x48014 then BitVec.ofNat 32 s.cr.emHits
  else if off = 0x48034 then packWord [(0, s.bobFree), (31, b01 s.cr.low)]
  else if off = 0x48038 then packWord [(0, s.sharedFree)]
  else if 0x48100 ≤ off ∧ off < 0x48300 then
    let u := s.use ((off - 0x48100) / 32)
    if off % 32 = 12 then packWord [(0, u.rx), (16, u.send)]
    else if off % 32 = 16 then packWord [(0, u.res), (16, u.stream)]
    else 0
  else 0

/-- A figure of a signature as 16 bits. -/
def shown16 (x : Rat) : Nat := (uWord (wholeOr .line x)).toNat

/-- LW_SIG_DATAi of a signature: N, the pairs μ and s in DATA1 to DATA12, the baseline, and the attributions counted in the
window that ends with the current turn (R193, R203, R205). -/
def State.sigWord (s : State) (ch : Nat) (g : Signature) (i : Nat) : Word :=
  if i = 0 then packWord [(0, g.n)]
  else if i ≤ 12 then packWord [(0, shown16 ((if i % 2 = 1 then g.mu else g.dev).getD ((i - 1) / 2) 0))]
  else if i = 13 then
    match g.base with
    | some b => packWord [(0, shown16 b.1), (16, shown16 b.2)]
    | none => 0
  else if i = 14 then
    let win := s.fld (lwBase ch + 0x10) 16 16
    packWord [(0, min 65535 (g.blames.filter (fun t => decide (t + win > s.tm.turn.toNat))).length)]
  else 0

/-- LW_ registers that are neither configuration nor written at once. -/
def State.lwWord (s : State) (off : Nat) : Word :=
  if 0x60100 ≤ off ∧ off < 0x60140 then
    let ch := fieldOf (s.rwi 0x60010) 8 4
    s.sigWord ch (Tbl.lookD (s.line ch).sig (fieldOf (s.rwi 0x60010) 0 5) {}) ((off - 0x60100) / 4)
  else if 0x61000 ≤ off ∧ off < 0x61400 then
    let v := s.line ((off - 0x61000) / 64)
    let o := off % 64
    if o = 0x20 then
      packWord [(0, v.rShown), (16, b01 v.termLow), (17, b01 v.termHigh),
        (18, ((List.range 4).map (fun i => b01 (v.short.getD i false) * 2 ^ i)).sum)]
    else if o = 0x24 then v.trendMap
    else if o = 0x28 then v.conflict
    else if o = 0x2C then
      packWord [(0, v.qstate), (2, match v.quars, v.reqs with | q :: _, _ => q.feed | [], r :: _ => r.feed | [], [] => 0)]
    else 0
  else 0

/-! ## Loop inputs and outputs (chapter 8), segment feeds (chapter 9) -/

/-- LO_OUTn_STATUS.STATE. -/
def OutState.code : OutState → Nat
  | .off => 0
  | .driving => 1
  | .failHeld => 2
  | .blocked => 3

/-- LI_ and LO_ status registers. -/
def State.lioWord (s : State) (off : Nat) : Word :=
  if off < 0xA0100 then
    let v := s.loopIn ((off - 0xA0000) / 16)
    if off % 16 = 4 then v.reading
    else if off % 16 = 8 then packWord [(0, v.cls), (3, b01 v.openAt.isSome), (4, b01 v.missing)]
    else 0
  else if 0xA1000 ≤ off ∧ off < 0xA1200 then
    let n := (off - 0xA1000) / 64
    let v := s.loopOut n
    if off % 64 = 0x10 then v.cmd.getD 0
    else if off % 64 = 0x14 then v.rbv
    else if off % 64 = 0x18 then
      packWord [(0, (s.outState n).code), (3, b01 v.comp), (4, b01 v.halfA), (5, b01 v.halfB), (6, b01 v.above),
        (7, b01 v.reverse), (8, v.causes.headD 0), (12, v.run)]
    else if off % 64 = 0x1C then packWord [(0, v.head)]
    else 0
  else if off = 0xA1808 then packWord [(0, s.lio.vloop)]
  else 0

/-- FD_ status registers. -/
def State.fdWord (s : State) (p : Port) (off : Nat) : Word :=
  if off = 0xA8804 then
    packWord ((List.range 8).map (fun n => (n, b01 (s.feed n).pg)) ++
      (List.range 8).map (fun n => (8 + n, b01 (decide ((s.feed n).st = .latched)))))
  else
    let n := (off - 0xA8000) / 256
    let f := s.feed n
    let o := off % 256
    if o = 0x80 then
      packWord [(0, f.st.code), (4, b01 f.pg), (5, b01 f.aOk), (6, b01 f.bOk), (7, b01 (decide (f.drive = .power))), (8, b01 f.ftimer),
        (9, b01 (decide (f.aGate ≠ .off))), (10, b01 (decide (f.bGate ≠ .off))), (11, b01 f.eWrap), (12, f.cause), (16, f.retries)]
    else if o = 0x84 then BitVec.ofInt 32 f.pub.i
    else if o = 0x88 then packWord [(0, min 65535 f.pub.vout), (16, min 65535 f.pub.vcom)]
    else if o = 0x8C then packWord [(0, min 65535 f.pub.va), (16, min 65535 f.pub.vb)]
    else if o = 0x90 then
      BitVec.ofInt 32 (wholeOr .feed (((f.pub.i * (f.pub.vout : Int) : Int) : Rat) / 1000))
    else if o = 0x94 then lo32 f.energy
    else if o = 0x98 then Tbl.lookD (s.port p).eHi n 0
    else if o = 0x9C then packWord [(0, min 65536 (wholeOr .feed (f.acc * 65536)).toNat)]
    else if o = 0xA0 then packWord [(0, min (2 ^ 20 - 1) (wholeOr .feed ((f.onTime : Rat) / 1000000)).toNat)]
    else if o = 0xA4 then packWord [(0, (BitVec.ofInt 16 f.pub.vgs).toNat)]
    else 0

/-! ## Twist engine (chapter 7) -/

/-- TW_ status registers. -/
def State.twWord (s : State) (off : Nat) : Word :=
  let w := s.tw
  if off = 0x70004 then packWord [(0, w.lanes.length), (3, b01 w.spare.isSome), (4, b01 w.over_)]
  else if off = 0x70008 then packWord [(0, min (2 ^ 23 - 1) w.need)]
  else if off = 0x7000C then packWord [(0, w.win)]
  else if off = 0x70010 then packWord [(0, w.lastCyc % 2 ^ 23), (31, b01 w.lastAbandoned)]
  else if off = 0x70014 then packWord [(0, w.refLoop), (8, w.refReason), (12, w.refStage)]
  else if 0x71000 ≤ off ∧ off < 0x71800 then
    let k := (off - 0x71000) / 8
    if off % 8 = 0 then packWord [(0, s.loopStatus k)] else (s.loop k).out
  else 0

end Sys2Proof.Machine
end

