-- ==== Sys2Proof/Machine/RegShow.lean ====
section
/-!
DEFINITION. What a register reads, continued: the port-private block, ownership and the whorl, slivers and memory, ply and
cascade, slubs, repair, key store and trace; and the read of any register of the map (R383, R384, R388). Pins that show a
state of the device.
-/

namespace Sys2Proof.Machine

/-! ## Host ports (chapter 10), ownership and whorl (chapter 11) -/

/-- PP_RING_STATE.STATE (Table 10.3). -/
def RingState.code : RingState → Nat
  | .stopped => 0
  | .running => 1
  | .stalled => 2

/-- The ring that PP_RING_SEL selects. -/
def PortSt.selRing (q : PortSt) : Ring := if q.ringKind then q.skn q.ringSel else q.dsr q.ringSel

/-- PP_ registers of a port (R321, R322) and its MSI-X entry. -/
def State.ppWord (s : State) (p : Port) (off : Nat) : Word :=
  let q := s.port p
  let g := q.selRing
  if off = 0x2000 then packWord [(0, b01 (s.ow.cand p))]
  else if off = 0x2004 then packWord [(0, b01 q.portEn), (1, q.portErr), (8, q.ringFmt)]
  else if off = 0x2008 then lo32 q.dbAddr
  else if off = 0x200C then hi32 q.dbAddr
  else if off = 0x2010 then lo32 q.stAddr
  else if off = 0x2014 then hi32 q.stAddr
  else if off = 0x2018 then packWord [(0, q.poll), (16, q.sweep)]
  else if off = 0x201C then packWord [(0, q.cplTmo)]
  else if off = 0x2020 then packWord [(0, q.reportEvery), (16, q.reportSkein)]
  else if off = 0x2040 then packWord [(0, q.ringSel), (7, b01 q.ringKind)]
  else if off = 0x2044 then lo32 g.base
  else if off = 0x2048 then hi32 g.base
  else if off = 0x204C then
    packWord [(0, g.log2), (5, b01 g.en), (8, if q.ringKind then 0 else g.cskein), (16, if q.ringKind then g.notify else 0)]
  else if off = 0x2050 then packWord [(0, if q.ringKind then g.coal else 0)]
  else if off = 0x2054 then packWord [(0, g.st.code), (4, g.err)]
  else if off = 0x2058 then g.errIdx
  else if off = 0x2800 then lo32 q.msixAddr
  else if off = 0x2804 then hi32 q.msixAddr
  else if off = 0x2808 then q.msixData
  else if off = 0x280C then packWord [(0, b01 q.msixMask)]
  else if off = 0x2C00 then packWord [(0, b01 q.msixPend)]
  else 0

/-- OW_ registers. -/
def State.owWord (s : State) (off : Nat) : Word :=
  if off = 0x3000 then s.owStatus else if off = 0x300C then s.ow.epoch else 0

/-- WH_ registers of a port. WH_CLAIM is read by its own row; read narrowly it returns 0 and claims nothing (R371). -/
def State.whWord (s : State) (p : Port) (off : Nat) : Word :=
  let q := s.port p
  let bits := fun (i : Nat) (f : SrcState → Bool) => packWord ((List.range 32).map (fun b => (b, b01 (f (q.srcSt (32 * i + b))))))
  if off = 0x400C then packWord [(0, b01 q.hold)]
  else if off = 0x4010 then
    packWord [(0, q.running.getD 0), (6, b01 q.running.isSome), (8, q.stack.length), (16, b01 (s.ctx.req q)),
      (17, b01 q.outstanding)]
  else if 0x4100 ≤ off ∧ off < 0x4180 then bits ((off - 0x4100) / 4) (fun x => decide (x = .pending ∨ x = .activePending))
  else if 0x4180 ≤ off ∧ off < 0x4200 then bits ((off - 0x4180) / 4) (fun x => decide (x = .active ∨ x = .activePending))
  else if 0x4200 ≤ off ∧ off < 0x4300 then
    match q.stack[(off - 0x4200) / 4]? with
    | some e => packWord [(0, e.src), (16, e.prio), (31, 1)]
    | none => 0
  else if 0x5000 ≤ off ∧ off < 0x5FC0 then packWord [(16, b01 (Config.levelLike ((off - 0x5000) / 4)))]
  else 0

/-! ## Slivers and memory (chapter 13) -/

/-- SV_ and MM_ registers. COUNT is measured from r (R428). -/
def State.svWord (s : State) (off : Nat) : Word :=
  if off < 0xC8000 then
    let v := s.sliver ((off - 0xC0000) / 16)
    if off % 16 = 0 then packWord [(0, (v.w - v.r).toNat), (13, b01 v.underrun), (14, b01 v.flushing)]
    else if off % 16 = 8 then packWord [(0, v.r.toNat), (16, v.m.toNat)]
    else 0
  else if off = 0xC8004 then packWord [(0, s.mm.lastCe)]
  else if off = 0xC8008 then packWord [(0, s.mm.lastUeRow), (16, s.mm.lastUeRegion)]
  else if off = 0xC800C then packWord [(0, s.mm.nextRow), (16, s.mm.passes.toNat)]
  else if off = 0xC8014 then
    let r := s.row (fieldOf (s.rwi 0xC8010) 0 15)
    packWord [(0, r.ce), (8, b01 r.ue), (9, b01 r.retired)]
  else 0

/-! ## Ply (chapter 14), cascade (chapter 15) -/

/-- One bit for each member. -/
def memberBits (p : Nat → Bool) : Nat := (plyMembers.map (fun j => b01 (p j) * 2 ^ j)).sum

/-- SHADOW_RUN: turns in a row in which every STANDBY member of the view has sent SHADOW_BAD, of two or more (R463). -/
def State.shadowRun (s : State) : Nat :=
  let l := s.view.filter (fun j => decide (s.roleOf j = 2) && !s.isDemoted j)
  if l.length < 2 then 0 else l.foldl (fun m j => min m (s.mem j).badRun) 15

/-- PL_ status registers. -/
def State.plWord (s : State) (off : Nat) : Word :=
  let on := s.plyMember
  if off = 0xB0020 then
    packWord [(0, s.dev.plyId), (2, s.pl.role.code), (5, s.pl.holder), (8, memberBits (fun j => on && s.view.contains j)),
      (12, memberBits (fun j => on && s.isDemoted j)), (16, memberBits (fun j => on && decide (s.roleOf j = 1))),
      (20, if s.pl.role = .acting then min 15 (s.pl.leaseEnd - s.tm.turn).toNat else 0)]
  else if off = 0xB0024 then s.pl.epoch
  else if off = 0xB0028 then
    packWord [(0, memberBits (fun j => decide (j ≠ s.own) && (s.mem j).prevLink)), (4, memberBits (fun j => (s.mem j).prevBus)),
      (8, memberBits (fun j => (s.mem j).degraded))]
  else if off = 0xB002C then
    packWord [(0, (s.mem 0).dev), (4, (s.mem 1).dev), (8, (s.mem 2).dev), (12, s.shadowRun), (16, s.pl.orphan)]
  else if off = 0xB0030 then packWord [(0, s.pl.tripOut), (4, s.pl.tripIn), (8, s.pl.differ)]
  else 0

/-- WL_l_STATUS.STATE (Table 15.2). -/
def LinkState.code : LinkState → Nat
  | .down => 0
  | .training => 1
  | .up => 2
  | .incompatible => 3
  | .failed => 4

/-- CS_ and WL_ status registers. -/
def State.csWord (s : State) (off : Nat) : Word :=
  if off = 0xB8004 then packWord [(0, s.dev.pos), (5, b01 (decide (s.dev.pos = 0))), (6, s.cs.upLink)]
  else if off = 0xB8008 then packWord [(0, s.cs.hopUs), (16, s.cs.gapUs)]
  else if off = 0xB8028 then
    let x := s.rwi 0xB8024
    let v := Tbl.lookD s.cs.bver (fieldOf x 8 4 * 32 + fieldOf x 0 5) {}
    packWord [(0, v.ver), (8, v.lo), (16, v.hi)]
  else if 0xB8400 ≤ off ∧ off < 0xB8500 then
    let v := s.link ((off - 0xB8400) / 64)
    if off % 64 = 4 then
      packWord [(0, v.st.code), (4, v.reason), (8, v.lanes), (11, v.lanes / 4 % 2), (12, v.ver), (20, v.peerPos),
        (25, v.peerMember), (27, b01 v.peerPly), (28, b01 v.peerActing)]
    else if off % 64 = 8 then v.rtt
    else 0
  else 0

/-! ## Slub log (chapter 16), repair (chapter 17), key store (chapter 18), trace (chapter 19) -/

/-- Word i of a slub (Table 16.1). -/
def Slub.word (x : Slub) (i : Nat) : Word :=
  if i = 0 then lo32 x.time
  else if i = 1 then hi32 x.time
  else if i = 2 then lo32 (x.turn.setWidth 64)
  else if i = 3 then packWord [(0, x.turn.toNat / 2 ^ 32), (16, x.block), (24, x.sev)]
  else if i = 4 then packWord [(0, x.code), (16, x.seq)]
  else if i = 5 then x.d0
  else if i = 6 then x.d1
  else x.d2

/-- FIELD_STATE. -/
def FieldState.code : FieldState → Nat
  | .normal => 0
  | .retrying => 1
  | .inReset => 2

/-- SL_ registers. -/
def State.slWord (s : State) (off : Nat) : Word :=
  if off = 0xF0008 then packWord [(0, s.fa.safeCause), (4, s.fa.field.code), (6, s.fa.attempts)]
  else if off = 0xF000C then s.rep.total
  else if off = 0xF0010 then packWord [(0, s.fa.lostFirst.toNat), (16, s.fa.lostLast.toNat)]
  else if 0xF0040 ≤ off ∧ off < 0xF0060 then
    match Tbl.look s.rep.log (fieldOf (s.rwi 0xF0020) 0 12) with
    | some x => x.word ((off - 0xF0040) / 4)
    | none => 0
  else 0

/-- Fuse entries of a KIND that were written at manufacture (Table 17.3). -/
def State.mfgFuses (s : State) (kind : Nat) : Nat :=
  (s.rp.fuses.filter (fun e => e.2.1 && bitOf e.2.2 4 && decide (fieldOf e.2.2 0 4 = kind))).length

/-- RP_ status registers (R519). -/
def State.rpWord (s : State) (off : Nat) : Word :=
  let r := s.rp
  let roles := fun (x : SpRole) => ((List.range 18).filter (fun n => decide ((s.spindle n).role = x))).length
  let fuse := Tbl.look r.fuses (fieldOf (s.rwi 0xF8048) 0 8)
  if off = 0xF8010 then
    packWord [(0, roles .spare), (8, roles .retired), (16, b01 s.tw.spare.isSome),
      (24, ((List.range 4).map (fun l => (s.link l).lanes / 4 % 2 * 2 ^ l)).sum)]
  else if off = 0xF8014 then packWord [(0, 256 - r.rows.length), (16, 64 - r.cols.length)]
  else if off = 0xF8018 then
    packWord ((List.range 16).map (fun k => (k, b01 (if k % 2 = 0 then (s.loopOut (k / 2)).halfA else (s.loopOut (k / 2)).halfB))))
  else if off = 0xF8020 then
    packWord [(0, 2 - s.mfgFuses 1), (8, min 3 (s.mfgFuses 1)), (16, b01 (decide (s.mfgFuses 4 = 0)))]
  else if off = 0xF8024 then packWord [(0, 256 - s.mfgFuses 2), (16, 64 - s.mfgFuses 3)]
  else if off = 0xF8030 then
    packWord [(0, r.fuses.length), (16, r.queue.length), (28, b01 r.burn.isSome), (29, b01 (decide (256 ≤ r.fuses.length)))]
  else if off = 0xF8034 then packWord [(0, r.result), (8, min 65535 r.soft)]
  else if off = 0xF8044 then
    let i := fieldOf (s.rwi 0xF8040) 0 8
    if i < 46 then packWord [(0, Tbl.lookD r.margins i 0), (16, (monitorOf i).1), (24, (monitorOf i).2)] else 0
  else if off = 0xF804C then match fuse with | some e => e.2 | none => 0
  else if off = 0xF8050 then match fuse with | some e => (if e.1 then 1 else 2) | none => 0
  else 0

/-- KS_ status registers; no word depends on a key (R538). -/
def State.ksWord (s : State) (p : Port) (off : Nat) : Word :=
  let held := fun (h : Nat) => packWord ((List.range 32).map (fun i => (i, b01 (Tbl.look s.ks.slots (32 * h + i)).isSome)))
  if off = 0x100000 then
    packWord [(0, b01 s.ks.posted.isSome), (1, b01 (!s.ks.loads.isEmpty)), (4, s.ks.lastSlot), (16, s.ks.lastResult)]
  else if off = 0x100004 then held 0
  else if off = 0x100008 then held 1
  else if off = 0x100024 then lo32 (BitVec.ofNat 64 s.shownFresh)
  else if off = 0x100028 then packWord [(0, (s.port p).frHi.toNat % 65536)]
  else 0

/-- Word i of a hank (Table 19.1). -/
def Hank.word (h : Hank) (i : Nat) : Word :=
  if i = 0 then packWord [(0, h.kind), (4, h.sub), (8, h.seq), (16, h.aux)]
  else if i = 1 then h.time
  else if i = 2 then lo32 h.body
  else hi32 h.body

/-- HK_ status registers. -/
def State.hkWord (s : State) (off : Nat) : Word :=
  let r := s.rep
  if off = 0x110020 then r.hkTotal
  else if off = 0x110024 then packWord [(0, b01 r.frozen), (1, r.fill)]
  else if off = 0x110028 then r.drainProd
  else if 0x110040 ≤ off ∧ off < 0x110050 then
    match Tbl.look r.trace (fieldOf (s.rwi 0x110030) 0 17) with
    | some h => h.word ((off - 0x110040) / 4)
    | none => 0
  else 0

/-! ## Any register -/

/-- What the blocks show at an offset to a port: the fields that are not configuration. -/
def State.blockWord (s : State) (p : Port) (off : Nat) : Word :=
  if off < 0x1000 then idWord off
  else if off < 0x2000 then s.dvWord off
  else if off < 0x3000 then s.ppWord p off
  else if off < 0x4000 then s.owWord off
  else if off < 0x10000 then s.whWord p off
  else if off < 0x20000 then s.tbWord p off
  else if off < 0x40000 then s.spWord off
  else if off < 0x50000 then s.crWord off
  else if off < 0x60000 then s.drWord off
  else if off < 0x70000 then s.lwWord off
  else if off < 0xA0000 then s.twWord off
  else if off < 0xA8000 then s.lioWord off
  else if off < 0xB0000 then s.fdWord p off
  else if off < 0xB8000 then s.plWord off
  else if off < 0xC0000 then s.csWord off
  else if off < 0xD0000 then s.svWord off
  else if off < 0xF0000 then s.ctWord p off
  else if off < 0xF8000 then s.slWord off
  else if off < 0x100000 then s.rpWord off
  else if off < 0x110000 then s.ksWord p off
  else s.hkWord off

/-- Shadow word that a register read shows (R388, R402): the acknowledged one for a register of the field die, the shadow
relay entry of CS_RLY_INDEX in its window. -/
def State.shadowRead (s : State) (off : Nat) : Word :=
  if off = 0xB8014 ∨ off = 0xB8018 ∨ off = 0xB801C then
    (Tbl.lookD s.cs.rlyShadow (fieldOf (s.rwi 0xB8010) 0 12) relayReset).getD ((off - 0xB8014) / 4) 0
  else if fieldReg off then Tbl.lookD s.regs.fieldShadow off (resetAt off)
  else s.shadow off

/-- What a port reads at an offset (R383, R384): fields by their types of Table 12.1, reserved bits and unmapped words 0. A
read changes nothing but where the table of commands has a row for it. -/
def State.readReg (s : State) (p : Port) (off : Nat) : Word :=
  if msixOff off then s.ppWord p off
  else
    match regAt off with
    | none => 0
    | some (d, _) =>
      let part := fun (f : FieldType → Bool) (w : Word) => w &&& d.maskOf f
      let banked := decide (0x2000 ≤ off ∧ off < 0x3000) || decide (off = 0x400C)
      part (fun t => decide (t = .rw)) (s.shadowRead off) |||
      part (fun t => decide (t = .rwi ∨ t = .wm)) (if banked then s.blockWord p off else s.rwi off) |||
      part (fun t => decide (t = .lk)) (s.lock off) |||
      part (fun t => decide (t = .ro ∨ t = .cnt ∨ t = .snap)) (s.blockWord p off)

end Sys2Proof.Machine
end

