-- ==== Sys2Proof/Machine/Pins.lean ====
section
/-!
DEFINITION. The pins as a function of the state (R71, R84, R85, R280, R284, R556, R570, R571, Tables 3.4 and 20.3). Analog pins
whose state Table 20.3 names by a behaviour, and the lanes of the links, are named the same way here.
-/

namespace Sys2Proof.Machine

/-- What a digital pin does: high impedance, low, high, or it carries the bits of a frame, a flag or a transfer. An open-drain pin
that is released is at high impedance. -/
inductive PinLevel where
  | hiZ | low | high | signal
  deriving DecidableEq, Repr

/-- A level of a driven pin. -/
def levelOf (b : Bool) : PinLevel := if b then .high else .low

/-- Is the device powered up and out of RESET? -/
def DevState.alive (d : DevState) : Bool := decide (d ≠ .off) && decide (d ≠ .reset)
/-- Has the device passed SELF-TEST? -/
def DevState.serving (d : DevState) : Bool := decide (d = .setUp) || decide (d = .run) || decide (d = .safe)

/-- READY (Table 20.3, R571): high once loading has ended, in SET-UP and RUN. -/
def State.readyPin (s : State) : PinLevel :=
  match s.dev.st with
  | .off => .hiZ
  | .reset | .selfTest | .safe => .low
  | .setUp => levelOf (decide (s.dev.phase = 3))
  | .run => .high

/-- ALARM_N, open drain (Table 20.3, R571): low after a failed power-up test, with a rejected image in SET-UP, and in SAFE. -/
def State.alarmPin (s : State) : PinLevel :=
  if decide (s.dev.st = .safe) || (decide (s.dev.st = .selfTest) && decide (s.rp.result = 3)) ||
      (decide (s.dev.st = .setUp) && decide (4 ≤ s.dev.result ∧ s.dev.result ≤ 7)) then .low else .hiZ

/-- CHn_TXD (Tables 3.4 and 20.3): recessive, which is high, where the mode sends nothing or the wire is idle; the bits of a frame,
a flag or an acknowledgement where the channel takes part in what is on the wire. -/
def State.txdPin (s : State) (ch : Nat) : PinLevel :=
  let c := s.ch ch
  if !s.dev.st.serving then .hiZ
  else if c.taking && decide (c.mode = .normal ∨ c.mode = .restricted) && decide (c.wire ≠ .idle) && decide (c.wire ≠ .gap) then
    .signal
  else .high

/-- CHn_STBY (R85): the standby level in OFF and QUARANTINED, the normal one otherwise; STBY_POL says which level that is. -/
def State.stbyPin (s : State) (ch : Nat) : PinLevel :=
  let c := s.ch ch
  if s.dev.st.serving then levelOf (s.bit (spChBase ch) 8 == (decide (c.mode = .off) || decide (c.st = .quarantined))) else .hiZ

/-- TURN_OUTP against TURN_OUTN (R71, Table 20.3): high while OUTP is above OUTN. -/
def State.turnOutPin (s : State) : PinLevel :=
  if s.dev.st = .off then .hiZ else levelOf (s.dev.st.serving && s.tm.pulse && s.bit 0x10000 4)

/-- TRIP_OUT[t] (R455, R513): high while it is held, low when it is released to its trip state. -/
def State.tripPin (s : State) (t : Nat) : PinLevel := levelOf (s.dev.st.serving && decide (s.pl.tripOut / 2 ^ t % 2 = 0))

/-- HANK_CLK, which runs while OUT_EN is 1; HANK_D and HANK_VLD carry the hanks of Output.hank and are low between them (R556). -/
def State.hankClkPin (s : State) : PinLevel :=
  if s.dev.st = .off then .hiZ else if s.dev.st.serving && s.bit 0x110000 0 then .signal else .low

/-- The flash interface is in use: the boot loader reads in SET-UP. -/
def State.spiReading (s : State) : Bool := decide (s.dev.st = .setUp) && decide (s.dev.phase = 1)

/-- SPI_CS_N, SPI_CLK and SPI_IO (Table 20.3), in this order. -/
def State.spiPins (s : State) : PinLevel × PinLevel × PinLevel :=
  if !s.dev.st.serving then (.hiZ, .hiZ, .hiZ) else if s.spiReading then (.low, .signal, .signal) else (.high, .low, .hiZ)

/-- TDO outside the Shift states of the TAP. -/
def State.tdoPin (_s : State) : PinLevel := .hiZ

/-- Fn_GA and Fn_GB (R280, Table 20.3): held low until the ideal-diode control runs. -/
def State.orGatePins (s : State) (n : Nat) : OrGate × OrGate :=
  if s.dev.st.alive then ((s.feed n).aGate, (s.feed n).bGate) else (.off, .off)

/-- Fn_GP (Tables 9.2 and 20.3). -/
def State.passGatePin (s : State) (n : Nat) : PassDrive := if s.dev.st.serving then (s.feed n).drive else .off

/-- Is the limiter of LIn closed (Table 20.3, R258)? -/
def State.limiterClosed (s : State) (n : Nat) : Bool := s.dev.st.alive && (s.loopIn n).openAt.isNone

/-- LOn_OUT and LOn_RTN (Table 20.3): the output's state, which is BLOCKING before RUN. -/
def State.loopOutPins (s : State) (n : Nat) : OutState := if s.dev.st = .run ∨ s.dev.st = .safe then s.outState n else .blocked

/-- What the lanes of a host port do in a device state (Table 20.3). -/
inductive HostLanes where
  | idle | retry | operating
  deriving DecidableEq, Repr

/-- The PCI Express lanes. -/
def State.hostLanes (s : State) : HostLanes :=
  if s.dev.st.serving then .operating else if s.dev.st = .selfTest then .retry else .idle

/-- Do the lanes of a Wilist link run (Table 20.3)? -/
def State.wilistOn (s : State) (l : Nat) : Bool := s.dev.st.serving && decide ((s.link l).st ≠ .down)

end Sys2Proof.Machine
end

