-- ==== Sys2Proof/Machine/Render.lean ====
section
/-!
DEFINITION. The bytes of what the device writes to host memory, sends on the Wilist links and puts on the hank port: skein entries
(Tables 10.11 to 10.15, 6.6, 4.5, 16.1), the status page (Table 10.5), indexes, hanks (Table 19.1) and cells (Tables 15.3 and
15.4). Every field is cut to its width, and every reserved bit is 0 (R16).
-/

namespace Sys2Proof.Machine

/-- A word from fields (lowest bit, width, value), each cut to its width; the other bits are 0 (R16). -/
def fieldsWord (fs : List (Nat × Nat × Nat)) : Word := packWord (fs.map (fun f => (f.1, f.2.2 % 2 ^ f.2.1)))
/-- Its bytes. -/
def fieldsBytes (fs : List (Nat × Nat × Nat)) : List Byte := wordBytes (fieldsWord fs)
/-- Reserved bytes. -/
def zeros (n : Nat) : List Byte := List.replicate n 0

/-! ## Records -/

/-- The 32 bytes of a slub (Table 16.1). -/
def Slub.bytes (x : Slub) : List Byte := (List.range 8).flatMap (fun i => wordBytes (x.word i))

/-- The 16 bytes of a hank (Table 19.1). -/
def Hank.bytes (h : Hank) : List Byte := (List.range 4).flatMap (fun i => wordBytes (h.word i))

/-- HANK_D at the 8 clock edges of a hank (R556): byte 2i in bits [7:0], byte 2i + 1 in bits [15:8]. -/
def Hank.edges (h : Hank) : List (BitVec 16) := (List.range 8).map (fun i => h.bytes.getD (2 * i + 1) 0 ++ h.bytes.getD (2 * i) 0)

/-- Bytes 0x00 to 0x0F of Table 4.5: a frame and what a bobbin records of it. -/
def tagBytes (f : Frame) (t : FrameTag) : List Byte :=
  fieldsBytes [(0, 29, f.id.toNat), (29, 1, b01 f.ide), (30, 1, b01 f.rtr), (31, 1, b01 f.fdf)] ++
  fieldsBytes [(0, 24, t.dur), (24, 4, f.dlc.toNat), (28, 1, b01 f.brs), (29, 1, b01 f.esi), (30, 1, b01 t.poison), (31, 1, b01 t.errt)] ++
  leBytes 8 t.time.toNat

/-- The 80 bytes of a bobbin (R130): payload bytes beyond the data length read 0. -/
def Bobbin.bytes (b : Bobbin) : List Byte := tagBytes b.frame b.tag ++ fitBytes 64 b.frame.data

/-- LINE_RECORD body (Table 6.6). -/
def LineRec.bytes (r : LineRec) : List Byte :=
  fieldsBytes [(0, 8, r.kind), (8, 4, r.ch), (12, 6, r.node), (18, 7, r.conf), (25, 4, r.reason)] ++ wordBytes r.key ++
  leBytes 8 r.time.toNat ++ leBytes 8 r.turn.toNat ++
  (List.range 7).flatMap (fun i => leBytes 2 (r.levels.getD i 0).toNat) ++ leBytes 2 (r.expNode % 64 + r.second % 64 * 256) ++
  leBytes 2 r.dBest ++ leBytes 2 r.dSecond ++ fieldsBytes [(0, 3, r.capture), (8, 3, r.feed), (11, 1, b01 r.action)] ++
  fieldsBytes [(0, 16, r.term), (16, 16, r.flags)] ++ wordBytes r.trend ++ zeros 56

/-- COMPLETION body (Table 10.12); a FOREIGN_DECLARE shows its INDEX in bits [12:0]. -/
def Compl.bytes (c : Compl) : List Byte :=
  fieldsBytes [(0, 8, c.opcode), (8, 7, c.distaff), (16, 16, c.status)] ++ wordBytes c.tag ++ wordBytes c.index ++
  fieldsBytes [(0, 8, c.reason)] ++
  fieldsBytes [(0, if c.opcode = 5 then 13 else 12, c.stream), (16, 1, b01 c.effect), (20, 4, c.fstate), (24, 3, c.capture),
    (27, 1, b01 c.covered)] ++
  leBytes 4 c.rNs ++ fieldsBytes [(0, 16, c.reserve)] ++ wordBytes c.lateness ++ leBytes 8 c.turn.toNat ++
  leBytes 8 c.timeA.toNat ++ leBytes 8 c.timeB.toNat ++ fieldsBytes [(0, 1, b01 c.errt)] ++ zeros 4 ++
  fitBytes 16 (c.plyResult.flatMap wordBytes) ++ zeros 32

/-! ## Skein entries (R344) -/

/-- TYPE of an entry (Table 10.11). -/
def EntryBody.type : EntryBody → Nat
  | .completion _ => 0x81
  | .rxFrame .. => 0x82
  | .slub _ => 0x83
  | .lineRecord _ => 0x84
  | .turnReport .. => 0x85
  | .streamStatus .. => 0x86

/-- Header of an entry (Table 10.11). -/
def EntryHdr.bytes (h : EntryHdr) (type : Nat) : List Byte :=
  fieldsBytes [(0, 8, type), (8, 1, b01 h.phase), (9, 1, b01 h.lost), (16, 16, h.lostCount)] ++ zeros 4 ++ leBytes 8 h.wtime.toNat

/-- The 112 bytes of a body, from 0x10 (Tables 10.12 to 10.15, 6.6, 16.1). -/
def EntryBody.bytes : EntryBody → List Byte
  | .completion c => c.bytes
  | .rxFrame b ch catchAll loopback route spindle turn =>
    b.bytes ++ fieldsBytes [(0, 4, ch), (4, 1, b01 catchAll), (5, 1, b01 loopback), (16, 12, route)] ++
    fieldsBytes [(0, 5, spindle)] ++ leBytes 8 turn.toNat ++ zeros 16
  | .slub r => r.bytes ++ zeros 80
  | .lineRecord r => r.bytes
  | .turnReport turn bound breachMap tbFlags lastCyc pgMap fallback uncovered slubs =>
    leBytes 8 turn.toNat ++ leBytes 8 bound.toNat ++ fieldsBytes [(0, 16, breachMap), (16, 16, tbFlags)] ++
    fieldsBytes [(0, 23, lastCyc), (31, 1, lastCyc / 2 ^ 31)] ++ fieldsBytes [(0, 16, pgMap), (16, 8, fallback)] ++
    leBytes 4 uncovered ++ leBytes 4 slubs ++ zeros 76
  | .streamStatus event ch cause stream keyFrom turn total listed count maxLate =>
    fieldsBytes [(0, 8, event), (8, 4, ch), (12, 4, cause), (16, 12, stream)] ++ wordBytes keyFrom ++ leBytes 8 turn.toNat ++
    fieldsBytes [(0, 16, total), (16, 8, listed.length)] ++ leBytes 4 count ++ wordBytes maxLate ++ zeros 4 ++
    (List.range 24).flatMap (fun i => leBytes 2 (listed.getD i 0)) ++ zeros 32

/-- The 128 bytes of an entry. -/
def entryBytes (h : EntryHdr) (b : EntryBody) : List Byte := h.bytes b.type ++ b.bytes

/-! ## Status page -/

/-- A 128-bit map of rings. -/
def ringMap (l : List Nat) : List Byte := leBytes 16 ((l.map (fun d => 2 ^ (d % 128))).sum)

/-- Bytes 0x000 to 0x03F of the status page (Table 10.5). -/
def StatusHdr.bytes (h : StatusHdr) : List Byte :=
  leBytes 8 h.turn.toNat ++ leBytes 8 h.time.toNat ++
  fieldsBytes [(0, 2, h.dstate), (2, 1, b01 h.owner), (3, 1, b01 h.owned), (8, 8, h.fmt)] ++ zeros 12 ++
  ringMap h.dsStalled ++ ringMap h.skStalled

/-- What an output writes to host memory: the port, where it begins, and the bytes. -/
def Output.write : Output → Option (Port × BitVec 64 × List Byte)
  | .entry p _ _ a h b => some (p, a, entryBytes h b)
  | .skProd p _ i a => some (p, a, wordBytes i)
  | .dsCons p _ i a => some (p, a, wordBytes i)
  | .header p a h => some (p, a, h.bytes)
  | .msix p a d => some (p, a, wordBytes d)
  | .drain p _ a h => some (p, a, h.bytes)
  | .samples p a l => some (p, a, l.flatMap wordBytes)
  | _ => none

/-! ## Cells (R481) -/

/-- KIND of a cell (Table 15.3). -/
def CellOut.kind : CellOut → Nat
  | .time .. => 2
  | .agree .. | .outputs .. => 3
  | .heart .. => 4
  | .relay .. => 5
  | .mgmt .. => 6

/-- Bytes 0x00 to 0x07 of a cell. -/
def CellHead.bytes (h : CellHead) (kind seq : Nat) (cont : Bool) : List Byte :=
  fieldsBytes [(0, 4, kind), (4, 1, b01 h.acting), (5, 1, b01 cont), (8, 8, seq), (16, 8, h.ack)] ++
  leBytes 2 h.tag.toNat ++ leBytes 2 h.turn16.toNat

/-- A whole cell: header, 52 bytes of body, and the CRC of bytes 0x00 to 0x3B. -/
def cellOf (head body : List Byte) : List Byte :=
  let l := head ++ fitBytes 52 body
  l ++ wordBytes (crc32 l)

/-- The bodies of the cells that carry a message, without their header, for the messages whose layout Table 15.4 gives; none for
agreement and output sets, ply-wide descriptors and loop states, whose order it leaves to chapter 14, which gives none (log 62). -/
def CellOut.bodies : CellOut → Option (List (List Byte))
  | .time t n e r => some [leBytes 8 t.toNat ++ leBytes 8 n.toNat ++ leBytes 8 e.toNat ++ leBytes 4 r]
  | .heart b crc sn sd => some [beatBytes b ++ wordBytes crc ++ leBytes 1 sn ++ leBytes 1 sd]
  | .relay r f t =>
    let a := fieldsBytes [(0, 12, r)] ++ tagBytes f t ++ fitBytes 32 f.data
    if f.data.length ≤ 32 then some [a] else some [a, fieldsBytes [(0, 12, r), (15, 1, 1)] ++ f.data.drop 32]
  | .mgmt _ (.doorbell src) => some [fieldsBytes [(0, 4, 3), (16, 10, src)]]
  | _ => none

/-- SEQ of a cell: that of a MGMT message, otherwise 0. -/
def CellOut.seq : CellOut → Nat
  | .mgmt n _ => n
  | _ => 0

/-- The 64-byte cells of a message; CONT is 1 on all but the last (log 62). -/
def cellBytes (h : CellHead) (c : CellOut) : Option (List (List Byte)) :=
  c.bodies.map (fun l => l.zipIdx.map (fun e => cellOf (h.bytes c.kind c.seq (decide (e.2 + 1 < l.length))) e.1))

/-! ## Configuration space (R313) -/

/-- Class code of a host port (Table 10.1). -/
def hostClass : BitVec 24 := 0x0C0900

/-- Words of a host port's type 0 configuration header that Table 10.1 fixes, at the offsets of PCI Express Base 3.0 (PRESUMED,
log 7): the identifiers, and the BARs that are not implemented. -/
def configWord (off : Nat) : Option Word :=
  if off = 0x00 then some (fieldsWord [(0, 16, Config.vendorId.toNat), (16, 16, 0x1618)])
  else if 0x18 ≤ off ∧ off < 0x28 ∧ off % 4 = 0 then some 0
  else none

end Sys2Proof.Machine
end

