-- ==== Sys2Proof/Safety.lean ====
section
/-!
DEFINITION. What claims are stated in: a command that answers, a state at rest between commands, what a command reports
(a source raised, a slub written, something that left the device), and what a safe run is.
-/

namespace Sys2Proof.Machine

/-- A command answers a next state of which a property holds. -/
def Answers (c : Instr) (s : State) (P : State → Prop) : Prop := ∃ t, exec c s = .next t ∧ P t

/-- Nothing of an instant waits for its end: no slub and no hank (R499, R554), and no work of the whorl (R375). -/
abbrev State.settled (s : State) : Prop :=
  s.rep.slubReqs = [] ∧ s.rep.hankReqs = [] ∧ s.rep.whOld = none ∧ s.rep.whDue = false

/-- The device runs, nothing of an earlier instant waits, and the cycle in progress has seen no change of ownership (R356). -/
abbrev State.ready (s : State) : Prop := s.up = true ∧ s.settled ∧ s.steady

/-- A source is presented to a port: pending, or pending while it is active (R368). -/
def Rep.pends (r : Rep) (p : Port) (i : Nat) : Prop :=
  Tbl.lookD (r.port p).src i .inactive = .pending ∨ Tbl.lookD (r.port p).src i .inactive = .activePending

/-- The live WH_SRC register of a source routes it to a port and enables it (R367). -/
def State.routed (s : State) (p : Port) (i : Nat) : Prop :=
  i < 0x3F0 ∧ bitOf (s.live (0x5000 + 4 * i)) (8 + p.idx) = true ∧ bitOf (s.live (0x5000 + 4 * i)) 12 = true

/-- From s to t source i fires: it is presented to every port that it is routed to. -/
def State.raises (s t : State) (i : Nat) : Prop := ∀ p, s.routed p i → t.rep.pends p i

/-- From s to t a slub with these words enters the slub log at the place due (R499, R500), with the time and the turn of t. -/
def State.logs (s t : State) (code d0 d1 d2 : Nat) : Prop :=
  ∃ x, Tbl.look t.rep.log (s.rep.total.toNat % 4096) = some x ∧ x.code = code ∧ x.block = code / 256 ∧
    x.time = t.now ∧ x.turn = t.tm.turn ∧ x.d0 = BitVec.ofNat 32 d0 ∧ x.d1 = BitVec.ofNat 32 d1 ∧ x.d2 = BitVec.ofNat 32 d2

/-- From s to t a slub enters the slub log behind the first one (R499). -/
def State.logsNext (s t : State) (code d0 d1 d2 : Nat) : Prop :=
  ∃ x, Tbl.look t.rep.log ((s.rep.total + 1).toNat % 4096) = some x ∧ x.code = code ∧ x.time = t.now ∧
    x.d0 = BitVec.ofNat 32 d0 ∧ x.d1 = BitVec.ofNat 32 d1 ∧ x.d2 = BitVec.ofNat 32 d2

/-- From s to t counter c rises by n, up to the value at which it stops (R412). -/
def State.counts (s t : State) (c n : Nat) : Prop := min ctMax (s.rep.counter c + n) ≤ t.rep.counter c

/-- From s to t something leaves the device. -/
def State.putsOut (s t : State) (o : Output) : Prop := ∃ l, t.rep.out = s.rep.out ++ l ∧ o ∈ l

/-- A register write that the register file takes: no reason of R382 to R400 discards it. -/
abbrev State.passes (s : State) (off : Nat) (w : Wr) : Prop := s.wrReason off w = none

/-- From s to t a read of a LO word answers a value: only the reporting plane and the time change, the other port keeps all
its latches, and a read without all byte enables changes no latch (R48, R383). -/
def State.reads (s t : State) (dt : Nat) (r : Rd) (off : Nat) (v : Word) : Prop :=
  t = { s.elapse dt with rep := t.rep } ∧ s.putsOut t (.regRead r.port off v) ∧
  t.port r.port.other = s.port r.port.other ∧ (r.full = false → t.port r.port = s.port r.port)

/-- From s to t a register write is discarded for a reason: DV_DISCARD records it, the port's counter counts it, and the
first in the turn raises 0x05B (R386). Besides, only the reporting plane and the time change. -/
def State.discards (s t : State) (dt off : Nat) (w : Wr) (reason : Nat) : Prop :=
  t = { s.elapse dt with
        rep := t.rep, regs := { s.regs with discOff := off, discPort := w.port, discReason := reason } } ∧
  s.counts t (5184 + 64 * w.port.idx) 1 ∧ (s.rep.first.contains 0x05B = false → s.raises t 0x05B)

/-- The descriptor's own rules decide: its port owns the device, no reserved field is set, the device is not in SAFE, and no
FENCE with HOLD stands before it (R334, R342, R356, R513). -/
abbrev State.admits (s : State) (d : Desc) : Prop :=
  s.ready ∧ s.ow.owner = some d.port ∧ d.resv = false ∧ s.dev.st ≠ .safe ∧ s.fenced d.port d.distaff = false

/-- From s to t a command at a free instant changes nothing but one feed and the reporting plane. -/
def State.onlyFeed (s t : State) (dt n : Nat) : Prop :=
  t = { s.elapse dt with fd := t.fd, rep := t.rep } ∧ t.fd.cfg = s.fd.cfg ∧ ∀ k, k ≠ n → t.feed k = s.feed k

/-- From s to t a command at a free instant changes nothing but the line watch of one channel and the reporting plane. -/
def State.onlyLine (s t : State) (dt ch : Nat) : Prop :=
  t = { s.elapse dt with lw := t.lw, rep := t.rep } ∧ ∀ k, k ≠ ch → t.line k = s.line k

/-- The skein in which a descriptor reserved its completion entry (R332, R364). -/
abbrev State.claimedBy (s : State) (d : Desc) : Nat := ((s.port d.port).dsr d.distaff.val).claimed d.index

/-- The completion skein of a descriptor can be written: its port serves it and it has room (R332). -/
abbrev State.canComplete (s : State) (d : Desc) : Prop :=
  (s.port d.port).serves ((s.port d.port).skn (s.claimedBy d)) = true ∧
  ((s.port d.port).skn (s.claimedBy d)).used < 2 ^ ((s.port d.port).skn (s.claimedBy d)).log2

/-- From s to t a completion is written to the completion skein of a descriptor's distaff (R364), at the place of its index (R316). -/
def State.completes (s t : State) (d : Desc) (c : Compl) : Prop :=
  let g := (s.port d.port).skn (s.claimedBy d)
  ∃ i h, s.putsOut t (.entry d.port (s.claimedBy d) i (g.slotAddr i 128) h (.completion c))

end Sys2Proof.Machine

namespace Sys2Proof

open Machine in
/-- The register write that a command is: its time, the offset and the word. -/
def Instr.regWrite : Instr → Option (Nat × Nat × Wr)
  | .loadTime dt w | .loadTurn dt w => some (dt, 0x10030, w)
  | .recover dt ch w | .release dt ch w => some (dt, spChBase ch.val + 0x20, w)
  | .emInsert dt w | .emDelete dt w | .emRead dt w => some (dt, 0x4800C, w)
  | .routeWrite dt w | .routeRead dt w => some (dt, 0x4802C, w)
  | .baseline dt w => some (dt, 0x60008, w)
  | .loClear dt w => some (dt, 0xA1800, w)
  | .loLock dt w => some (dt, 0xA1804, w)
  | .fdCmdOn dt n w | .fdCmdOff dt n w | .fdCmdClear dt n w => some (dt, fdBase n.val + 0x40, w)
  | .fdLock dt w => some (dt, 0xA8800, w)
  | .portEnWrite dt w => some (dt, 0x2004, w)
  | .ringEnable dt w | .ringDisable dt w => some (dt, 0x204C, w)
  | .candidacy dt w | .accept dt w => some (dt, 0x2000, w)
  | .handoverGo dt w => some (dt, 0x3008, w)
  | .whDoorbell dt w => some (dt, 0x4000, w)
  | .whComplete dt w => some (dt, 0x4008, w)
  | .whHold dt w => some (dt, 0x400C, w)
  | .registerWrite dt off w => some (dt, off, w)
  | .dvCommit dt w => some (dt, 0x1008, w)
  | .dvCommitNow dt w => some (dt, 0x100C, w)
  | .dvLock dt w => some (dt, 0x1030, w)
  | .plLock dt w => some (dt, 0xB0034, w)
  | .ksLock dt half w => some (dt, 0x100010 + 4 * half.val, w)
  | .ctClearGo dt w | .ctClearAll dt w => some (dt, 0xD0004, w)
  | .ctSnapNow dt w | .ctSnapAtBoundary dt w => some (dt, 0xD0000, w)
  | .dvCmdRun dt w => some (dt, 0x1004, w)
  | .sliverFlush dt sl w => some (dt, 0xC0004 + 16 * sl.val, w)
  | .retrain dt l w => some (dt, 0xB840C + 64 * l.val, w)
  | .csPeerdbGo dt w => some (dt, 0xB8030, w)
  | .rpDoffGo dt w => some (dt, 0xF800C, w)
  | .rpCmdBurn dt w => some (dt, 0xF8008, w)
  | .restart dt w => some (dt, 0x11002C, w)
  | _ => none

open Machine in
/-- The descriptor that a command is: its time, its head and its body. -/
def Instr.descriptor : Instr → Option (Nat × Desc × DescBody)
  | .nop dt d => some (dt, d, .nop)
  | .send dt d b => some (dt, d, .send b)
  | .streamOpen dt d b => some (dt, d, .open_ b)
  | .streamClose dt d n => some (dt, d, .close n)
  | .streamData dt d b => some (dt, d, .data b)
  | .foreignDeclare dt d b => some (dt, d, .foreign b)
  | .lineCapture dt d b => some (dt, d, .capture b)
  | .loopMode dt d b => some (dt, d, .loopMode b)
  | .loopParam dt d b => some (dt, d, .loopParam b)
  | .feedCmdOn dt d n => some (dt, d, .feedCmd 1 n 0)
  | .feedCmdOff dt d n => some (dt, d, .feedCmd 2 n 0)
  | .feedCmdCycle dt d n off => some (dt, d, .feedCmd 3 n off)
  | .feedCmdQuarantine dt d n => some (dt, d, .feedCmd 4 n 0)
  | .feedCmdClear dt d n => some (dt, d, .feedCmd 5 n 0)
  | .fence dt d turn hold => some (dt, d, .fence turn hold)
  | .plySwitch dt d m => some (dt, d, .plyCmd 1 m)
  | .plyDemote dt d m => some (dt, d, .plyCmd 2 m)
  | .plyReinstate dt d m => some (dt, d, .plyCmd 3 m)
  | .plyForce dt d m => some (dt, d, .plyCmd 4 m)
  | .channelCmdRecover dt d ch => some (dt, d, .chCmd 1 ch)
  | .channelCmdRelease dt d ch => some (dt, d, .chCmd 2 ch)
  | .keyLoad dt d b => some (dt, d, .keyLoad b)
  | _ => none

/-- The cell of an UP link that a command is: its time and its head. -/
def Instr.cell : Instr → Option (Nat × CellHdr)
  | .timeCell dt h _ _ _ _ => some (dt, h)
  | .heartCell dt h _ _ _ _ => some (dt, h)
  | .agreeCell dt h _ _ => some (dt, h)
  | .mgmtCell dt h _ _ => some (dt, h)
  | .relayCell dt h _ _ _ => some (dt, h)
  | _ => none

/-- The rows that act while the device is in OFF or RESET: supplies, RST_N, the way out of RESET, and the TAP (R561, R564). -/
def Instr.actsInReset : Instr → Bool
  | .supplyLoss _ _ | .supplyPresent _ _ | .resetAssert _ | .leaveReset _ _ _ _ => true
  | .tapIdcode _ | .tapSamplePreload _ | .tapBypass _ | .trstAssert _ => true
  | _ => false

/-- One step from a state completes. -/
def Safe (s : Machine.State) : Prop := ∃ t, Machine.step s = .next t

/-- A run of n steps completes. -/
def SafeFor (n : Nat) (s : Machine.State) : Prop :=
  match n with
  | 0 => True
  | k + 1 => ∃ t, Machine.step s = .next t ∧ SafeFor k t

end Sys2Proof
end

