-- ==== Sys2Proof/Certificates/Slice0/Obligations.lean ====
section
/-!
DEFINITION. The statements for the provers, family by family of the commands. `Answers c s P` says that command c in state s
answers a next state with P; `s.ready` that the device runs, nothing of an earlier instant waits, and ownership has not changed in the cycle in progress.
-/

open Sys2Proof Sys2Proof.Machine

/-! ## The step -/

/-- A step takes the command at the front of the queue and runs it with the queue's rest; on an empty queue the block idles
(the model's choice, log 1). -/
def Obligations.StepRunsTheFrontCommand : Prop :=
  (∀ (s : State) (c : Instr) (rest : List Instr), s.pending = c :: rest → step s = exec c { s with pending := rest }) ∧
  (∀ s : State, s.pending = [] → step s = .next s)

/-- Every command answers a next state in every state: no command faults and none is refused (the model's choice, log 4). -/
def Obligations.EveryCommandAnswers : Prop := ∀ (c : Instr) (s : State), ∃ t, exec c s = .next t

/-- R499, R554: the slubs and hanks of an instant are in their log and queue when the command of that instant is done: every
step leaves none waiting. -/
def Obligations.NoReportOutlivesItsInstant : Prop :=
  ∀ s t : State, s.settled → step s = .next t → t.settled

/-- What reset leaves: the values that R42, R56, R368, R388, R411, R500 and R565 give, an empty queue, and nothing waiting. -/
def Obligations.ResetLeavesTheSpecsValues : Prop :=
  State.reset.ready ∧ State.reset.pending = [] ∧ State.reset.dev.st = .selfTest ∧ State.reset.now = 0 ∧
  State.reset.tm.turn = 0 ∧ State.reset.regs.dirty = 0 ∧ State.reset.regs.phase = .idle ∧ State.reset.ow.owner = none ∧
  State.reset.rep.total = 0 ∧ State.reset.pl.role = .out ∧
  (∀ off, State.reset.shadow off = State.reset.live off) ∧ (∀ off, State.reset.lock off = 0) ∧
  (∀ c, State.reset.rep.counter c = 0) ∧ (∀ p i, Tbl.lookD (State.reset.rep.port p).src i .inactive = .inactive) ∧
  (∀ c, (State.reset.ch c).st = .off) ∧ (∀ n, (State.reset.stream n) = none)

/-- In OFF and RESET no command but those of supplies, RST_N and the TAP changes anything (the model's reading, log 52). -/
def Obligations.OffAndResetAreInert : Prop :=
  ∀ (c : Instr) (s : State), s.up = false → c.actsInReset = false → exec c s = .next s

/-! ## Turn and time -/

/-- R48, R383, R411: a read of a LO word returns bits [31:0] of the value and latches its high bits for the reading port
alone; a read with fewer byte enables latches nothing. Nothing else changes but the time. -/
def Obligations.ReadsOfLowWordsLatchHighWords : Prop :=
  ∀ (s : State) (dt : Nat) (r : Rd), s.ready →
    Answers (.tbNowLoRead dt r) s (fun t =>
      s.reads t dt r 0x10040 (lo32 t.now) ∧ (r.full = true → t.tbWord r.port 0x10044 = hi32 t.now)) ∧
    Answers (.tbTurnLoRead dt r) s (fun t =>
      s.reads t dt r 0x10048 (lo32 (t.tm.turn.setWidth 64)) ∧
      (r.full = true → t.tbWord r.port 0x1004C = hi32 (t.tm.turn.setWidth 64))) ∧
    Answers (.tbBoundLoRead dt r) s (fun t =>
      s.reads t dt r 0x10050 (lo32 t.tm.bound) ∧ (r.full = true → t.tbWord r.port 0x10054 = hi32 t.tm.bound)) ∧
    Answers (.ctSnapTimeLoRead dt r) s (fun t =>
      s.reads t dt r 0xD0010 (lo32 t.regs.ctTime) ∧ (r.full = true → t.ctWord r.port 0xD0014 = hi32 t.regs.ctTime)) ∧
    Answers (.ksFrLoRead dt r) s (fun t =>
      s.reads t dt r 0x100024 (BitVec.ofNat 32 s.shownFresh) ∧
      (r.full = true → t.ksWord r.port 0x100028 = BitVec.ofNat 32 (s.shownFresh / 2 ^ 32 % 2 ^ 16))) ∧
    (∀ n : Fin 8,
      Answers (.feedEnergyLoRead dt n r) s (fun t =>
        s.reads t dt r (fdBase n.val + 0x94) (lo32 (s.feed n.val).energy) ∧
        (r.full = true → t.fdWord r.port (fdBase n.val + 0x98) = hi32 (s.feed n.val).energy))) ∧
    ∀ c, c < 7680 →
      Answers (.counterLoRead dt c r) s (fun t =>
        s.reads t dt r (0xD1000 + 8 * c) (BitVec.ofNat 32 (s.rep.counter c)) ∧
        (r.full = true → ∀ k, k < 7680 →
          t.ctWord r.port (0xD1004 + 8 * k) = BitVec.ofNat 32 (s.rep.counter c / 2 ^ 32 % 2 ^ 16) ∧
          t.ctWord r.port (0xE1004 + 8 * k) = BitVec.ofNat 32 (s.rep.counter c / 2 ^ 32 % 2 ^ 16))) ∧
      Answers (.holdingLoRead dt c r) s (fun t =>
        s.reads t dt r (0xE1000 + 8 * c) (BitVec.ofNat 32 (Tbl.lookD s.regs.held c 0)) ∧
        (r.full = true → ∀ k, k < 7680 →
          t.ctWord r.port (0xD1004 + 8 * k) = BitVec.ofNat 32 (Tbl.lookD s.regs.held c 0 / 2 ^ 32 % 2 ^ 16) ∧
          t.ctWord r.port (0xE1004 + 8 * k) = BitVec.ofNat 32 (Tbl.lookD s.regs.held c 0 / 2 ^ 32 % 2 ^ 16)))

/-- R52, R55, R57, R58: in SET-UP LOAD_TIME sets the time base to TB_SET and the turn in progress ends at the first multiple of
L at least L after it, with its phases at the offsets they had, and LOAD_TURN waits for the next boundary; in RUN both have no
effect but a slub. -/
def Obligations.LoadsOfTimeAndTurn : Prop :=
  ∀ (s : State) (dt : Nat) (w : Wr), s.ready → s.passes 0x10030 w →
    (s.dev.st = .setUp → bitOf w.data 0 = true → s.lenUs ≠ 0 →
      Answers (.loadTime dt w) s (fun t =>
        t.now = s.rwi 0x10024 ++ s.rwi 0x10020 ∧ t.tm.turn = s.tm.turn ∧ t.tm.loadClk = some t.clock ∧
        (∀ us, t.offsetAt us - t.now = (s.elapse dt).offsetAt us - (s.elapse dt).now) ∧
        ∃ d, t.tm.nextBound = t.now + BitVec.ofNat 64 d ∧ s.lenUs * 1000 ≤ d ∧
          t.tm.nextBound.toNat % (s.lenUs * 1000) = 0 ∧
          ∀ k, s.lenUs * 1000 ≤ k → k < d → (t.now + BitVec.ofNat 64 k).toNat % (s.lenUs * 1000) ≠ 0)) ∧
    (s.dev.st = .setUp → bitOf w.data 1 = true →
      Answers (.loadTurn dt w) s (fun t => t = { s.elapse dt with tm := { s.tm with turnLoad := true } })) ∧
    (s.dev.st = .run →
      (bitOf w.data 0 = true →
        Answers (.loadTime dt w) s (fun t => t = { s.elapse dt with rep := t.rep } ∧ s.logs t 0x0102 0 0 0)) ∧
      (bitOf w.data 1 = true →
        Answers (.loadTurn dt w) s (fun t => t = { s.elapse dt with rep := t.rep } ∧ s.logs t 0x0102 0 0 0)))

/-- R45, R62, R63, R65, R70, R72: in RUN a PPS or TURN_IN edge of the source in use is accepted within the window and sets the
phase term, and is rejected and counted beyond it, with source 0x046 and a slub at the third in a row; an edge of a pin that
is not the source is ignored, as is one in the cycle of a LOAD_TIME. The time base never jumps. (Which multiple an edge marks,
and that LOCKED is read before the event moves it, are the model's choices, log 76.) -/
def Obligations.ReferenceEdgesInRun : Prop :=
  ∀ (s : State) (dt : Nat), s.ready → s.dev.st = .run →
    ∀ (c : Instr) (k : Nat) (p : Nat),
      (c = .ppsEvent dt ∧ k = 1 ∧ p = 1000000000) ∨ (c = .turnInEvent dt ∧ k = 2 ∧ p = s.lenUs * 1000) →
      let now := (s.elapse dt).now
      let e : Int := (nearestMultiple p now - now).toInt
      (s.tm.srcActive.toNat ≠ k ∨ s.tm.loadClk = some (s.clock + dt) → Answers c s (fun t => t = s.elapse dt)) ∧
      (s.tm.srcActive.toNat = k → s.tm.loadClk ≠ some (s.clock + dt) → e.natAbs ≤ s.fld 0x10010 16 8 * 1000 →
        Answers c s (fun t =>
          t = { s.elapse dt with tm := t.tm, rep := t.rep } ∧ t.tm.phaseTerm = (e : Rat) / (16 * p) ∧
          t.tm.freqTerm = (if s.tm.locked then s.tm.freqTerm + (e : Rat) / (256 * p) else s.tm.freqTerm) ∧
          t.tm.phaseErr = satErr e ∧ t.tm.holdover = false ∧ t.tm.acceptedAt = t.clock ∧ t.tm.turn = s.tm.turn)) ∧
      (s.tm.srcActive.toNat = k → s.tm.loadClk ≠ some (s.clock + dt) → s.fld 0x10010 16 8 * 1000 < e.natAbs →
        Answers c s (fun t =>
          t = { s.elapse dt with
            tm := { s.tm with rejRun := t.tm.rejRun, goodRun := t.tm.goodRun, locked := t.tm.locked }, rep := t.rep } ∧
          s.counts t 5120 1 ∧ t.tm.locked = (s.tm.locked && decide (e.natAbs < 2000)) ∧
          (s.tm.rejRun = 2 → s.raises t 0x046 ∧ s.logs t 0x0103 (BitVec.ofInt 32 e).toNat 0 0) ∧
          (s.tm.rejRun ≠ 2 → t.tm.rejRun = s.tm.rejRun + 1)))

/-- R68, R69: two reference periods without an accepted event begin holdover, which keeps the frequency term, clears the
phase term and LOCKED and raises 0x045; 64 turns of it on the cascade up link set CASCADE_ALARM, with source 0x047 and a
slub. R71: OUT_WIDTH_US after the boundary, and not before, TURN_OUTP goes below TURN_OUTN. -/
def Obligations.HoldoverAlarmAndPulseEnd : Prop :=
  ∀ (s : State) (dt : Nat), s.ready →
    (∀ T, s.refPeriod = some T → s.tm.holdover = false → 2 * T ≤ s.clock + dt - s.tm.acceptedAt →
      Answers (.holdoverEntry dt) s (fun t =>
        t = { s.elapse dt with tm := t.tm, rep := t.rep } ∧ t.tm.holdover = true ∧ t.tm.phaseTerm = 0 ∧
        t.tm.freqTerm = s.tm.freqTerm ∧ t.tm.locked = false ∧ t.tm.turn = s.tm.turn ∧ s.raises t 0x045)) ∧
    (s.tm.srcActive = 3 → s.tm.plyFollow = false → s.tm.holdover = true → 64 ≤ s.tm.holdTurns → s.tm.cascadeAlarm = false →
      Answers (.cascadeAlarm dt) s (fun t =>
        t = { s.elapse dt with tm := { s.tm with cascadeAlarm := true }, rep := t.rep } ∧ s.raises t 0x047 ∧
        s.logs t 0x0104 0 0 0)) ∧
    (s.outWidthUs * 1000 ≤ ((s.elapse dt).now - s.tm.origin).toNat →
      Answers (.turnOutPulseEnd dt) s (fun t =>
        t = { s.elapse dt with tm := { s.tm with pulse := false } } ∧ t.turnOutPin = .low)) ∧
    (((s.elapse dt).now - s.tm.origin).toNat < s.outWidthUs * 1000 →
      Answers (.turnOutPulseEnd dt) s (fun t => t = s.elapse dt))

/-- R56, R57, R64: a boundary advances the turn number by 1, modulo 2^48, or takes TB_TURN_SET where a LOAD_TURN waits, or the
number that a time cell's step carried (before a LOAD_TURN: the model's choice, log 76); the boundary's time base value is the
one that the schedule gave, no phase of the turn has passed, and TURN_OUT pulses (R71). The queue and the lock bits stay as they
are. -/
def Obligations.BoundaryAdvancesTheTurn : Prop :=
  ∀ s : State, s.ready →
    Answers .turnBoundary s (fun t =>
      (s.tm.cellTurn = none →
        t.tm.turn = (if s.tm.turnLoad then (s.rwi 0x1002C).setWidth 16 ++ s.rwi 0x10028 else s.tm.turn + 1)) ∧
      (∀ n, s.tm.cellTurn = some n → t.tm.turn = n) ∧ t.tm.turnLoad = false ∧ t.tm.cellTurn = none ∧
      t.tm.bound = s.tm.nextBound ∧ t.tm.pulse = true ∧ t.tm.capDone = false ∧ t.tm.agreeDone = false ∧ t.tm.twistDone = false ∧
      t.tm.releaseDone = false ∧ t.pending = s.pending ∧ t.locks = s.locks)

/-! ## Register interface -/

/-- R353, R382, R384, R386, R390, R400, R551, R573: what discards a register write, in the order in which the model looks at
it (the order is the model's choice): byte enables not all set, an offset where no register is mapped, the boot loader at
work, a port that is not the owner, a group in a commit in flight, a slow register while it is busy. The port-private
registers pass the last four for either port. -/
def Obligations.DiscardedRegisterWrites : Prop :=
  ∀ (c : Instr) (s : State) (dt off : Nat) (w : Wr), s.ready → c.regWrite = some (dt, off, w) →
    (w.be ≠ 15 → Answers c s (fun t => s.discards t dt off w 1)) ∧
    (w.be = 15 → mapped off = false → Answers c s (fun t => s.discards t dt off w 6)) ∧
    (w.be = 15 → mapped off = true → portPrivate off = false →
      (s.loading = true → Answers c s (fun t => s.discards t dt off w 7)) ∧
      (s.loading = false → s.ow.owner ≠ some w.port → Answers c s (fun t => s.discards t dt off w 2)) ∧
      (s.loading = false → s.ow.owner = some w.port → s.frozen off = true →
        Answers c s (fun t => s.discards t dt off w 5)) ∧
      (s.loading = false → s.ow.owner = some w.port → s.frozen off = false → fieldReg off = true → s.fieldBusy = true →
        Answers c s (fun t => s.discards t dt off w 4 ∧ (s.rep.first.contains 0x060 = false → s.raises t 0x060))) ∧
      (s.loading = false → s.ow.owner = some w.port → s.frozen off = false → ksReg off = true → s.ks.posted.isSome = true →
        Answers c s (fun t => s.discards t dt off w 4 ∧ s.raises t 0x026)))

/-- R124, R380, R385, R388, R398, R400, R488, R551: a write that passes changes the RW fields of its register in the shadow, but
for fields that a lock guards, and marks the group; it changes RWI fields at once; the live image, every other register and all
else stay as they are. A write to a field-die register is posted with the next sequence number, one to the key store is posted
as it is. A write to the relay window changes the shadow of the entry that its index names; one to a table register while a
table command runs is discarded. (The port-private block has a statement of its own.) -/
def Obligations.RegisterWritesGoToTheShadow : Prop :=
  ∀ (s : State) (dt off : Nat) (w : Wr) (d : RegDef) (ix : List Nat), s.ready → s.passes off w → regAt off = some (d, ix) →
    ¬(0x2000 ≤ off ∧ off < 0x3000) →
    let rw := d.maskOf (fun t => decide (t = .rw))
    let free := rw &&& ~~~(s.guardMask off)
    let im := d.maskOf (fun t => decide (t = .rwi))
    let window := 0xB8014 ≤ off ∧ off < 0xB8020
    let c := Instr.registerWrite dt off w
    (tblReg off = true → s.cr.cmd.isSome = true → Answers c s (fun t => s.discards t dt off w 4)) ∧
    (ksReg off = true →
      Answers c s (fun t => t = { s.elapse dt with ks := { s.ks with posted := some (off, w.data) } })) ∧
    (window →
      let i := fieldOf (s.rwi 0xB8010) 0 12
      let k := (off - 0xB8014) / 4
      let old := Tbl.lookD s.cs.rlyShadow i relayReset
      Answers c s (fun t =>
        t = { s.elapse dt with
              cs := { s.cs with rlyShadow := t.cs.rlyShadow }
              regs := { s.regs with dirty := s.regs.dirty ||| BitVec.ofNat 32 (2 ^ 26) } } ∧
        Tbl.lookD t.cs.rlyShadow i relayReset = old.set k (mergeBits rw (old.getD k 0) w.data) ∧
        ∀ j, j ≠ i → Tbl.lookD t.cs.rlyShadow j relayReset = Tbl.lookD s.cs.rlyShadow j relayReset)) ∧
    (ksReg off = false → ¬window → tblReg off = false ∨ s.cr.cmd = none →
      Answers c s (fun t =>
        t = { s.elapse dt with regs := t.regs, fa := t.fa, rep := t.rep } ∧
        t.regs.live = s.regs.live ∧ (∀ o, o ≠ off → t.shadow o = s.shadow o ∧ t.rwi o = s.rwi o) ∧
        t.shadow off = mergeBits free (s.shadow off) w.data ∧
        (∀ g, groupOf off = some g → t.regs.dirty = if free = 0 then s.regs.dirty else s.regs.dirty ||| BitVec.ofNat 32 (2 ^ g)) ∧
        (d.maskOf (fun t => decide (t = .wm)) = 0 → t.rwi off = mergeBits im (s.rwi off) w.data) ∧
        (fieldReg off = true ∧ free ≠ 0 →
          t.fa.posted = some { seq := s.fa.seq + 1, off := off, data := w.data } ∧ t.fa.seq = s.fa.seq + 1) ∧
        (¬(fieldReg off = true ∧ free ≠ 0) → t.fa = s.fa) ∧
        (s.guardMask off &&& rw ≠ 0 → t.regs.discReason = 3 ∧ t.regs.discOff = off ∧ s.counts t (5184 + 64 * w.port.idx) 1)))

/-- R390, R395, R396: a write of DV_COMMIT or, in SET-UP, of DV_COMMIT_NOW names groups and starts their checks; it is
discarded in the wrong device state and while a commit is in flight; a word of zeros has no effect. -/
def Obligations.CommitsStart : Prop :=
  ∀ (s : State) (dt : Nat) (w : Wr), s.ready →
    (s.passes 0x1008 w →
      (s.dev.st ≠ .safe → s.regs.phase = .idle → w.data ≠ 0 →
        Answers (.dvCommit dt w) s (fun t =>
          t = { s.elapse dt with
                regs := { s.regs with
                  phase := .checking, commitNow := false, pend := w.data, refused := 0, reanStart := t.clock } })) ∧
      (s.dev.st ≠ .safe → s.regs.phase = .idle → w.data = 0 → Answers (.dvCommit dt w) s (fun t => t = s.elapse dt)) ∧
      (s.dev.st ≠ .safe → s.regs.phase ≠ .idle → Answers (.dvCommit dt w) s (fun t => s.discards t dt 0x1008 w 9)) ∧
      (s.dev.st = .safe → Answers (.dvCommit dt w) s (fun t => s.discards t dt 0x1008 w 7))) ∧
    (s.passes 0x100C w →
      (s.dev.st = .setUp → s.regs.phase = .idle → w.data ≠ 0 →
        Answers (.dvCommitNow dt w) s (fun t =>
          t = { s.elapse dt with
                regs := { s.regs with
                  phase := .checking, commitNow := true, pend := w.data, refused := 0, reanStart := t.clock } })) ∧
      (s.dev.st = .setUp → s.regs.phase = .idle → w.data = 0 → Answers (.dvCommitNow dt w) s (fun t => t = s.elapse dt)) ∧
      (s.dev.st = .setUp → s.regs.phase ≠ .idle → Answers (.dvCommitNow dt w) s (fun t => s.discards t dt 0x100C w 9)) ∧
      (s.dev.st ≠ .setUp → Answers (.dvCommitNow dt w) s (fun t => s.discards t dt 0x100C w 7)))

/-- R391, R392, R393: the groups that are accepted pass every check together; the others leave the freeze, are shown in
DV_COMMIT_REFUSED and raise their sources, with shadow, DV_DIRTY and the live image as they were. A re-analysis that is not
done in TMO_US counts as failed. -/
def Obligations.ChecksDecideACommit : Prop :=
  ∀ (s : State) (dt : Nat) (c : Instr) (late : Bool), s.ready → s.regs.phase = .checking → s.regs.commitNow = false →
    (c = .commitAcceptance dt ∧ late = false) ∨
      (c = .reanalysisTimeout dt ∧ late = true ∧ s.reanalyses = true ∧
        s.fld 0x50000 0 16 * 1000 ≤ s.clock + dt - s.regs.reanStart) →
    Answers c s (fun t =>
      ((s.elapse dt).checkRound t.regs.pend late).bad = 0 ∧ t.regs.pend &&& ~~~s.regs.pend = 0 ∧
      t.regs.refused = s.regs.pend &&& ~~~t.regs.pend ∧
      t.regs.phase = (if t.regs.pend = 0 then .idle else .accepted) ∧
      t = { s.elapse dt with
            regs := { s.regs with pend := t.regs.pend, phase := t.regs.phase, refused := t.regs.refused }
            tw := { s.tw with refLoop := t.tw.refLoop, refReason := t.tw.refReason, refStage := t.tw.refStage }
            rep := t.rep } ∧
      ∀ g, g < 32 → bitOf t.regs.refused g = true → s.raises t (s.refusalSource g))

/-- R394, R395: after DV_COMMIT_NOW the accepted groups are live with the acceptance: every register of theirs takes its
shadow value, but for guarded fields; DV_DIRTY and BUSY clear, and source 0x057 is raised, to the ports to which the
configuration before and the one applied route it (R375). -/
def Obligations.CommitNowAppliesAtAcceptance : Prop :=
  ∀ (s : State) (dt : Nat), s.ready → s.regs.phase = .checking → s.regs.commitNow = true →
    let acc := ((s.elapse dt).checkAll false 33 s.regs.pend).acc
    acc ≠ 0 →
    Answers (.commitAcceptance dt) s (fun t =>
      t.regs.phase = .idle ∧ t.regs.pend = 0 ∧ t.regs.dirty = s.regs.dirty &&& ~~~acc ∧
      t.regs.refused = s.regs.pend &&& ~~~acc ∧ t.regs.live = s.candImg acc ∧ t.regs.shadow = s.regs.shadow ∧
      ∀ p, s.routed p 0x057 → t.routed p 0x057 → t.rep.pends p 0x057)

/-- R398, R399: a lock bit written 1 is set, and the fields that it guards take their live values in the shadow; a bit newly
set raises 0x05F. Every other lock register stays as it is. -/
def Obligations.LocksAreSet : Prop :=
  ∀ (s : State) (dt : Nat) (w : Wr), s.ready →
    ∀ (c : Instr) (off : Nat), (c = .dvLock dt w ∧ off = 0x1030) ∨ (c = .plLock dt w ∧ off = 0xB0034) → s.passes off w →
      Answers c s (fun t =>
        t = { s.elapse dt with regs := t.regs, locks := t.locks, rep := t.rep } ∧
        t.lock off = s.lock off ||| (w.data &&& 3) ∧ (∀ o, o ≠ off → t.lock o = s.lock o) ∧
        t.regs.live = s.regs.live ∧ t.regs.dirty = s.regs.dirty ∧
        (∀ b g, b < 2 → bitOf w.data b = true → bitOf (s.lock off) b = false → g ∈ lockGuards off b →
          t.shadow g.1 &&& g.2 = s.live g.1 &&& g.2) ∧
        (∀ b, b < 2 → bitOf w.data b = true → bitOf (s.lock off) b = false → s.raises t 0x05F))

/-- R184, R413, R414: CT_CLEAR sets the counters of a bank, or of all, to 0, ALL with them the counts of the stream table (log 48); CT_SNAP copies every counter with the time and the
turn, at once or at the next boundary; a NOW cancels a copy that is pending, and is counted. -/
def Obligations.CountersClearAndCopy : Prop :=
  ∀ (s : State) (dt : Nat) (w : Wr), s.ready →
    (s.passes 0xD0004 w →
      let b := fieldOf w.data 0 7
      (bitOf w.data 8 = true → b < 120 →
        Answers (.ctClearGo dt w) s (fun t =>
          t = { s.elapse dt with regs := t.regs, rep := t.rep } ∧ t.rwi 0xD0004 = BitVec.ofNat 32 b ∧
          ∀ c, t.rep.counter c = if c / 64 = b then 0 else s.rep.counter c)) ∧
      (bitOf w.data 8 = true → 120 ≤ b → Answers (.ctClearGo dt w) s (fun t => s.discards t dt 0xD0004 w 10)) ∧
      (bitOf w.data 8 = false → bitOf w.data 9 = true →
        Answers (.ctClearAll dt w) s (fun t =>
          t = { s.elapse dt with regs := t.regs, rep := t.rep, dr := { s.dr with streams := t.dr.streams } } ∧
          t.rwi 0xD0004 = BitVec.ofNat 32 b ∧ (∀ c, t.rep.counter c = 0) ∧
          ∀ n x, s.stream n = some x → t.stream n = some { x with releases := 0, misses := 0, uncovered := 0 }))) ∧
    (s.passes 0xD0000 w →
      (bitOf w.data 0 = true →
        Answers (.ctSnapNow dt w) s (fun t =>
          t = { s.elapse dt with
                regs := { s.regs with held := t.regs.held, ctTime := t.now, ctTurn := t.tm.turn, ctPending := false }
                rep := t.rep } ∧
          (s.regs.ctPending = false → ∀ c, Tbl.lookD t.regs.held c 0 = s.rep.counter c) ∧
          (s.regs.ctPending = true → s.counts t (5184 + 64 * w.port.idx + 7) 1))) ∧
      (bitOf w.data 1 = true →
        Answers (.ctSnapAtBoundary dt w) s (fun t =>
          t = { s.elapse dt with regs := { s.regs with ctPending := true } })))

/-- R400, R402, R578: an acknowledgement ends FIELD_BUSY and brings the mirror of the register written up to date; a write of
DV_CMD.RUN in SET-UP has RUN entered at a later boundary, and in every other state is discarded. -/
def Obligations.FieldWritesAndRunCommand : Prop :=
  ∀ (s : State) (dt : Nat), s.ready →
    (∀ p, s.fa.posted = some p → s.fieldUp = true →
      Answers (.fieldWriteAck dt) s (fun t =>
        t.fa.posted = none ∧ t.fa.seq = s.fa.seq ∧ t.fieldBusy = false ∧ t.regs.live = s.regs.live ∧
        (lockMask p.off = 0 → Tbl.lookD t.regs.fieldShadow p.off (resetAt p.off) = s.shadow p.off))) ∧
    (∀ w, s.passes 0x1004 w → bitOf w.data 0 = true →
      (s.dev.st = .setUp →
        Answers (.dvCmdRun dt w) s (fun t => t = { s.elapse dt with dev := { s.dev with runPend := true } })) ∧
      (s.dev.st ≠ .setUp → Answers (.dvCmdRun dt w) s (fun t => s.discards t dt 0x1004 w 7)))

/-! ## Spindles -/

/-- R108, R110: RECOVER takes a channel out of BUS_OFF_WAIT or is held in BUS_OFF_HOLD under policy MANUAL; RELEASE takes a
QUARANTINED channel to INTEGRATING with its counters and history at 0; in any other case neither has an effect, and it is
counted with source offset 0xD. R341: CHANNEL_CMD does the same to its channel. -/
def Obligations.RecoverAndRelease : Prop :=
  (∀ (s : State) (dt : Nat) (ch : Fin 16) (w : Wr), s.ready → s.passes (spChBase ch.val + 0x20) w →
    let c := s.ch ch.val
    (bitOf w.data 0 = true →
      (c.st = .boWait →
        Answers (.recover dt ch w) s (fun t =>
          t = { s.elapse dt with chs := t.chs } ∧ t.ch ch.val = { c with st := .recovering, recov := 0 } ∧
          ∀ n, n ≠ ch.val → t.ch n = s.ch n)) ∧
      (c.st = .boHold → s.fld (spChBase ch.val + 0x14) 0 2 = 1 →
        Answers (.recover dt ch w) s (fun t =>
          t = { s.elapse dt with chs := t.chs } ∧ t.ch ch.val = { c with heldRecover := true } ∧
          ∀ n, n ≠ ch.val → t.ch n = s.ch n)) ∧
      (c.st ≠ .boWait → ¬(c.st = .boHold ∧ s.fld (spChBase ch.val + 0x14) 0 2 = 1) →
        Answers (.recover dt ch w) s (fun t =>
          t = { s.elapse dt with rep := t.rep } ∧ s.counts t (64 * ch.val + 15) 1 ∧
          s.raises t (0x080 + 16 * s.spOf ch.val + 0xD)))) ∧
    (bitOf w.data 1 = true →
      (c.st = .quarantined →
        Answers (.release dt ch w) s (fun t =>
          t = { s.elapse dt with chs := t.chs, rep := t.rep } ∧ (t.ch ch.val).st = .integrating ∧
          (t.ch ch.val).tec = 0 ∧ (t.ch ch.val).recn = 0 ∧ (t.ch ch.val).boHist = [] ∧
          (t.ch ch.val).mode = c.mode ∧ (t.ch ch.val).ready = c.ready ∧ ∀ n, n ≠ ch.val → t.ch n = s.ch n)) ∧
      (c.st ≠ .quarantined →
        Answers (.release dt ch w) s (fun t =>
          t = { s.elapse dt with rep := t.rep } ∧ s.counts t (64 * ch.val + 15) 1 ∧
          s.raises t (0x080 + 16 * s.spOf ch.val + 0xD))))) ∧
  ∀ (s : State) (dt : Nat) (ch : Fin 16) (d : Desc), s.admits d →
    (Answers (.channelCmdRecover dt d ch) s (fun t =>
      t = { s.elapse dt with chs := t.chs, rep := t.rep } ∧ (∀ n, n ≠ ch.val → t.ch n = s.ch n) ∧
      ((s.ch ch.val).st = .boWait → (t.ch ch.val).st = .recovering) ∧
      (s.recovers ch.val = false → t.chs = s.chs ∧ s.counts t (64 * ch.val + 15) 1))) ∧
    (Answers (.channelCmdRelease dt d ch) s (fun t =>
      t = { s.elapse dt with chs := t.chs, rep := t.rep } ∧ (∀ n, n ≠ ch.val → t.ch n = s.ch n) ∧
      ((s.ch ch.val).st = .quarantined → (t.ch ch.val).st = .integrating ∧ (t.ch ch.val).tec = 0) ∧
      ((s.ch ch.val).st ≠ .quarantined → t.chs = s.chs ∧ s.counts t (64 * ch.val + 15) 1)))

/-- R74, R86, R87, R89, R106, R108, R109, R111, R112: the way of a channel from state to state at the end of its hold-off, at each of
the 128 occurrences of its recovery, at the end of its bus integration, and when a committed mode takes effect; a mode committed in
a bus-off state waits for ERROR_ACTIVE. The other channels do not change. -/
def Obligations.ChannelStatesGoOn : Prop :=
  ∀ (s : State) (dt : Nat) (ch : Fin 16), s.ready →
    let c := s.ch ch.val
    let frame := fun (t : State) =>
      t = { s.elapse dt with chs := t.chs, rep := t.rep, dr := t.dr, mm := t.mm } ∧ ∀ n, n ≠ ch.val → t.ch n = s.ch n
    (c.st = .boHold → c.holdLeft = 0 →
      Answers (.holdoffEnd dt ch) s (fun t =>
        frame t ∧
        t.ch ch.val =
          if s.fld (spChBase ch.val + 0x14) 0 2 = 1 ∧ c.heldRecover = false then { c with st := .boWait, holdLeft := 0 }
          else { c with st := .recovering, holdLeft := 0, heldRecover := false, recov := 0 })) ∧
    (c.st = .recovering →
      (c.recov < 127 →
        Answers (.busIntegrationComplete dt ch) s (fun t =>
          t = { s.elapse dt with chs := t.chs } ∧ t.ch ch.val = { c with recov := c.recov + 1 } ∧
          ∀ n, n ≠ ch.val → t.ch n = s.ch n)) ∧
      (c.recov = 127 →
        Answers (.recoveryComplete dt ch) s (fun t =>
          frame t ∧ (t.ch ch.val).tec = 0 ∧ (t.ch ch.val).recn = 0 ∧ (t.ch ch.val).recov = 0 ∧
          (c.heldMode = false ∨ c.pendMode = none →
            (t.ch ch.val).st = .errorActive ∧ (t.ch ch.val).mode = c.mode ∧ (t.ch ch.val).pendMode = c.pendMode) ∧
          (∀ m, c.heldMode = true → c.pendMode = some m → m ≠ .off → c.mode ≠ .off →
            (t.ch ch.val).st = .errorActive ∧ (t.ch ch.val).mode = m ∧ (t.ch ch.val).pendMode = none) ∧
          s.raises t (0x080 + 16 * s.spOf ch.val + 4) ∧ s.raises t (0x080 + 16 * s.spOf ch.val + 3)))) ∧
    (c.st = .integrating → c.tec ≤ 127 → c.recn ≤ 127 →
      Answers (.busIntegrationComplete dt ch) s (fun t =>
        frame t ∧ (t.ch ch.val).integWait = false ∧
        (c.heldMode = false ∨ c.pendMode = none → (t.ch ch.val).st = .errorActive ∧ (t.ch ch.val).mode = c.mode) ∧
        (∀ m, c.heldMode = true → c.pendMode = some m → m ≠ .off → c.mode ≠ .off →
          (t.ch ch.val).st = .errorActive ∧ (t.ch ch.val).mode = m ∧ (t.ch ch.val).pendMode = none) ∧
        s.raises t (0x080 + 16 * s.spOf ch.val + 4))) ∧
    (c.st ≠ .integrating → c.st ≠ .recovering → c.integWait = true →
      Answers (.busIntegrationComplete dt ch) s (fun t =>
        t = { s.elapse dt with chs := t.chs, rep := t.rep } ∧
        t.ch ch.val = { c with integWait := false, wire := .idle, idleTurns := 0 } ∧
        (∀ n, n ≠ ch.val → t.ch n = s.ch n) ∧ s.raises t (0x080 + 16 * s.spOf ch.val + 4))) ∧
    (∀ m, c.pendMode = some m → c.heldMode = false → c.mode ≠ m →
      (c.wire ≠ .ownFrame ∧ c.wire ≠ .otherFrame) ∨ c.integWait = true →
      Answers (.modeTakesEffect dt ch) s (fun t =>
        frame t ∧ (t.ch ch.val).mode = m ∧ (t.ch ch.val).pendMode = none ∧ (t.ch ch.val).ready = c.ready ∧
        (m = .off → (t.ch ch.val).st = .off ∧ (t.ch ch.val).tec = 0 ∧ (t.ch ch.val).recn = 0 ∧ (t.ch ch.val).boHist = []) ∧
        (c.mode = .off → (t.ch ch.val).st = .integrating ∧ (t.ch ch.val).lec = 0))) ∧
    (c.heldMode = true → c.mode ≠ .off →
      Answers (.modeTakesEffect dt ch) s (fun t => t = s.elapse dt))

/-- R75, R89, R90, R93 to R95, R97, R98, R113: a frame on a channel from its start to its end. A frame sent leaves the ready set and
lowers TEC; one received goes whole into the receive sliver, or is dropped and counted when it does not fit; with FD_EN at 0 a
frame of FD format is an error or a protocol exception event; a lost arbitration leaves the ready set as it is and rewinds the
transmit sliver. (The channel holds no mode that waits for the end of a bus-off, R111.) -/
def Obligations.FramesOnTheWire : Prop :=
  ∀ (s : State) (dt : Nat) (ch : Fin 16), s.ready → (s.ch ch.val).tec ≤ 255 → (s.ch ch.val).taking = true →
    (s.ch ch.val).heldMode = false →
    let c := s.ch ch.val
    let own := c.chosen.isSome && c.maySend
    (∀ edges, c.wire ≠ .ownFrame → c.wire ≠ .otherFrame → c.mode ≠ .loopback ∨ own = true →
      Answers (.startOfFrame dt { ch := ch, edges := edges }) s (fun t =>
        t = { s.elapse dt with chs := t.chs } ∧ (∀ n, n ≠ ch.val → t.ch n = s.ch n) ∧ (t.ch ch.val).sof = t.now ∧
        (t.ch ch.val).sofTurn = s.tm.turn ∧ (t.ch ch.val).ready = c.ready ∧ (t.ch ch.val).chosen = c.chosen ∧
        (t.ch ch.val).wire = if own = true then .ownFrame else .otherFrame)) ∧
    (∀ e f lw ovl, c.wire = .ownFrame → s.inFlight ch.val = some (e, f) →
      let tec := (({ c with tec := c.tec - 1 } : Channel).overloaded true ovl).tec
      Answers (.frameSent dt ch lw ovl) s (fun t =>
        (t.ch ch.val).tec = tec ∧ (t.ch ch.val).chosen = none ∧ s.counts t (64 * ch.val + 1) 1 ∧ t.tm = s.tm ∧
        t.regs.live = s.regs.live ∧
        (tec ≤ 255 → (t.ch ch.val).ready = c.ready.filter (fun x => decide (x.bob ≠ e.bob)) ∧
          (t.ch ch.val).wire = wireAfter ovl) ∧
        (255 < tec → s.counts t (64 * ch.val + 10) 1 ∧ ∀ x ∈ (t.ch ch.val).ready, x.bob ≠ e.bob))) ∧
    (∀ f lw ovl, c.wire = .otherFrame → c.mode ≠ .loopback → f.fdf = false ∨ s.bit (spChBase ch.val) 4 = true →
      let v := s.sliver (2 * s.spOf ch.val)
      let recn := if c.mode = .normal then (if c.recn > 127 then 120 else c.recn - 1) else c.recn
      Answers (.frameReceived dt ch f { lw := lw, ovl := ovl }) s (fun t =>
        (t.ch ch.val).wire = wireAfter ovl ∧ (t.ch ch.val).ready = c.ready ∧ (t.ch ch.val).tec = c.tec ∧
        (t.ch ch.val).recn = (({ c with recn := recn } : Channel).overloaded false ovl).recn ∧
        s.counts t (64 * ch.val) 1 ∧ t.cr = s.cr ∧
        (recWords f.data.length ≤ v.freeWords →
          ∃ x, (t.sliver (2 * s.spOf ch.val)).recs = v.recs ++ [x] ∧ x.frame = f ∧ x.sof = c.sof ∧ x.eof = t.now) ∧
        (v.freeWords < recWords f.data.length →
          t.sliver (2 * s.spOf ch.val) = v ∧ s.counts t (64 * ch.val + 13) 1 ∧
          s.raises t (0x080 + 16 * s.spOf ch.val + 9)))) ∧
    (∀ f lw ovl, c.wire = .otherFrame → c.mode ≠ .loopback → f.fdf = true → s.bit (spChBase ch.val) 4 = false →
      Answers (.frameReceived dt ch f { lw := lw, ovl := ovl }) s (fun t =>
        t.mm.slv = s.mm.slv ∧ (t.ch ch.val).lec = (if s.bit (spChBase ch.val) 6 = true then 7 else 2))) ∧
    (∀ e f, c.wire = .ownFrame → s.inFlight ch.val = some (e, f) → e.doomed = false →
      Answers (.arbitrationLost dt ch) s (fun t =>
        t = { s.elapse dt with chs := t.chs, mm := t.mm, rep := t.rep } ∧ (t.ch ch.val).ready = c.ready ∧
        (t.ch ch.val).chosen = none ∧ (t.ch ch.val).wire = .otherFrame ∧ s.counts t (64 * ch.val + 9) 1 ∧
        t.sliver (s.txSliver ch.val) = (s.sliver (s.txSliver ch.val)).rewind))

/-- R84, R90, R91, R95: at an interframe opportunity the spindle chooses the head of its ready set, and offers it to the wire but in
LOOPBACK; the bobbins that a transmit
timeout finds at their fourth boundary leave it, but for one on the wire, which is not cut. The ready set stays in key
order where a bobbin enters it. -/
def Obligations.ReadySetIsServedFromItsHead : Prop :=
  ∀ (s : State) (dt : Nat) (ch : Fin 16), s.ready →
    let c := s.ch ch.val
    (∀ e l b, c.maySend = true → c.wire = .gap → c.chosen = none → c.ready = e :: l → e.doomed = false → s.bob e.bob = some b →
      Answers (.frameChoice dt ch false) s (fun t =>
        t = { s.elapse dt with chs := t.chs, mm := t.mm, rep := t.rep } ∧ (t.ch ch.val).chosen = some e.bob ∧
        (t.ch ch.val).ready = c.ready ∧ (c.mode ≠ .loopback → s.putsOut t (.offer ch.val (sentFrame c b.frame))) ∧
        (c.mode = .loopback → t.rep.out = s.rep.out))) ∧
    (c.maySend = false → c.wire ≠ .ownFrame → c.wire ≠ .otherFrame →
      Answers (.frameChoice dt ch false) s (fun t =>
        t = { s.elapse dt with chs := t.chs } ∧ t.ch ch.val = { c with wire := .idle })) ∧
    Answers (.transmitTimeout dt ch) s (fun t =>
      (∀ e ∈ (t.ch ch.val).ready, e.age < 4 ∨ (e.doomed = true ∧ c.wire = .ownFrame ∧ c.chosen = some e.bob)) ∧
      (∀ e ∈ c.ready, e.age < 4 → (∀ x ∈ c.ready, x.bob = e.bob → x = e) → e ∈ (t.ch ch.val).ready)) ∧
    ∀ (e : Ready) (l : List Ready), l.Pairwise (fun a b => a.key.toNat ≤ b.key.toNat) →
      (insReady e l).Pairwise (fun a b => a.key.toNat ≤ b.key.toNat)

/-- R84, R89, R99 to R107: an error on a channel that takes part is classed, counted and reported with source offset 0xE;
TEC and REC move by the rules of ISO 11898-1 (the model's reading of them, log 20) and not at all in LISTEN_ONLY and
RESTRICTED; the state follows them, and in bus-off no stream bobbin is left in the ready set. A protocol exception event has
the spindle wait for bus integration, in the state it was in; with PEX_EN at 0, or in a frame of this device, it is a form error.
(The channel holds no mode that waits for the end of a bus-off, R111.) -/
def Obligations.ErrorsConfineAChannel : Prop :=
  ∀ (s : State) (dt : Nat) (ch : Fin 16) (e : ErrInfo), s.ready → (s.ch ch.val).taking = true → (s.ch ch.val).mode ≠ .loopback →
    (s.ch ch.val).heldMode = false →
    let c := s.ch ch.val
    let own := decide (c.wire = .ownFrame) && (s.inFlight ch.val).isSome
    (e.cls = .pex → own = false → s.bit (spChBase ch.val) 6 = true →
      Answers (.errorFlag dt ch e) s (fun t =>
        t = { s.elapse dt with chs := t.chs, dr := t.dr, rep := t.rep } ∧ (∀ n, n ≠ ch.val → t.ch n = s.ch n) ∧
        t.ch ch.val = { c with lec := 7, integWait := true, wire := .otherFrame } ∧ s.counts t (64 * ch.val + 11) 1 ∧
        s.raises t (0x080 + 16 * s.spOf ch.val + 6))) ∧
    (e.cls ≠ .pex ∨ own = true ∨ s.bit (spChBase ch.val) 6 = false →
      Answers (.errorFlag dt ch e) s (fun t =>
        let lec := if e.cls = .pex then 2 else lecOf e.cls
        let x := c.errored own e
        let u := t.ch ch.val
        u.lec = lec ∧ u.tec = x.tec ∧ u.recn = x.recn ∧ s.counts t (64 * ch.val + 8) 1 ∧
        s.counts t (64 * ch.val + lec + 1) 1 ∧ s.raises t (0x080 + 16 * s.spOf ch.val + 0xE) ∧
        (c.mode = .listenOnly ∨ c.mode = .restricted → u.tec = c.tec ∧ u.recn = c.recn) ∧
        (u.tec ≤ 255 → u.st = (if u.tec > 127 ∨ u.recn > 127 then .errorPassive else .errorActive)) ∧
        (u.tec > 255 →
          (u.st = .boHold ∨ u.st = .recovering ∨ u.st = .boWait ∨ u.st = .quarantined) ∧
          s.raises t (0x080 + 16 * s.spOf ch.val) ∧ s.counts t (64 * ch.val + 10) 1 ∧
          ∀ r ∈ u.ready, ∀ n k, r.kind ≠ .stream n k)))

/-! ## Cards and creel -/

/-- R122 to R125, Table 4.2: INSERT replaces the FDF and the ROUTE of the key's entry and keeps its hits, or takes the first
invalid way of its bucket with no hits, or ends BUCKET_FULL; DELETE invalidates the entry of the key; READ loads CR_EM_KEY,
CR_EM_ARG and CR_EM_HITS from the entry at CR_EM_INDEX; a route command writes or reads the route at its index. Each leaves every
other entry and route as it is. A word with two commands, or an FDF of 0b11, ends MALFORMED, for a READ by the model's choice (log
81); a command while one is in progress is discarded; TABLE_COMMAND_COMPLETE shows the result. -/
def Obligations.TableCommands : Prop :=
  ∀ (s : State) (dt : Nat) (w : Wr), s.ready →
    let fdf := fieldOf (s.rwi 0x48004) 4 2
    let route := fieldOf (s.rwi 0x48004) 16 12
    let frame := fun (t : State) =>
      t = { s.elapse dt with cr := { s.cr with em := t.cr.em, rt := t.cr.rt, cmd := t.cr.cmd, emHits := t.cr.emHits }
                             mm := { s.mm with emBad := t.mm.emBad }, regs := t.regs, rep := t.rep } ∧
      t.regs.live = s.regs.live ∧ t.regs.shadow = s.regs.shadow
    let only := fun (t : State) (i : Nat) (e : Option EmEntry) =>
      Tbl.look t.cr.em i = e ∧ ∀ k, k ≠ i → Tbl.look t.cr.em k = Tbl.look s.cr.em k
    let ends := fun (t : State) (r : Nat) (i : Option Nat) => t.cr.cmd = some { em := true, result := r, index := i }
    (s.passes 0x4800C w → s.cr.cmd = none →
      (w.data = 1 → fdf ≠ 3 →
        Answers (.emInsert dt w) s (fun t =>
          frame t ∧ t.cr.rt = s.cr.rt ∧
          (∀ i e, s.emFind s.emCh s.emIde s.emId = some i → Tbl.look s.cr.em i = some e →
            only t i (some { e with fdf := fdf, route := route }) ∧ ends t 2 (some i)) ∧
          (s.emFind s.emCh s.emIde s.emId = none → ∀ i, s.emFree s.emCh s.emIde s.emId = some i →
            only t i (some { ch := s.emCh, ide := s.emIde, id := s.emId, fdf := fdf, route := route, hits := 0 }) ∧
            ends t 1 (some i)) ∧
          (s.emFind s.emCh s.emIde s.emId = none → s.emFree s.emCh s.emIde s.emId = none →
            t.cr.em = s.cr.em ∧ ends t 5 none))) ∧
      (w.data = 2 → fdf ≠ 3 →
        Answers (.emDelete dt w) s (fun t =>
          frame t ∧ t.cr.rt = s.cr.rt ∧
          (∀ i, s.emFind s.emCh s.emIde s.emId = some i → only t i none ∧ ends t 3 (some i)) ∧
          (s.emFind s.emCh s.emIde s.emId = none → t.cr.em = s.cr.em ∧ ends t 6 none))) ∧
      (w.data = 4 → fdf ≠ 3 →
        Answers (.emRead dt w) s (fun t =>
          let i := fieldOf (s.rwi 0x48008) 0 15
          frame t ∧ t.cr.em = s.cr.em ∧ t.cr.rt = s.cr.rt ∧
          (∀ e, Tbl.look s.cr.em i = some e →
            t.rwi 0x48000 = packWord [(0, e.id.toNat), (29, b01 e.ide)] ∧
            t.rwi 0x48004 = packWord [(0, e.ch), (4, e.fdf), (16, e.route)] ∧
            (∀ o, o ≠ 0x48000 → o ≠ 0x48004 → t.rwi o = s.rwi o) ∧ t.cr.emHits = e.hits ∧ ends t 4 (some i)) ∧
          (Tbl.look s.cr.em i = none → t.regs = s.regs ∧ t.cr.emHits = s.cr.emHits ∧ ends t 6 none))) ∧
      (∀ c, c = .emInsert dt w ∧ w.data = 1 ∨ c = .emDelete dt w ∧ w.data = 2 ∨ c = .emRead dt w ∧ w.data = 4 → fdf = 3 →
        Answers c s (fun t => t = { s.elapse dt with cr := { s.cr with cmd := t.cr.cmd } } ∧ ends t 7 none)) ∧
      (1 < bitsSet w.data 3 → ∀ c, c = .emInsert dt w ∨ c = .emDelete dt w ∨ c = .emRead dt w →
        Answers c s (fun t => t = { s.elapse dt with cr := { s.cr with cmd := t.cr.cmd } } ∧ ends t 7 none))) ∧
    (s.passes 0x4800C w → s.cr.cmd.isSome = true → ∀ c, c = .emInsert dt w ∨ c = .emDelete dt w ∨ c = .emRead dt w →
      Answers c s (fun t => s.discards t dt 0x4800C w 4)) ∧
    (s.passes 0x4802C w → s.cr.cmd.isSome = true → ∀ c, c = .routeWrite dt w ∨ c = .routeRead dt w →
      Answers c s (fun t => s.discards t dt 0x4802C w 4)) ∧
    (s.passes 0x4802C w → s.cr.cmd = none →
      let i := fieldOf (s.rwi 0x48020) 0 12
      (w.data = 1 →
        Answers (.routeWrite dt w) s (fun t =>
          frame t ∧ t.cr.em = s.cr.em ∧ t.route i = (s.rwi 0x48024, s.rwi 0x48028) ∧ (∀ k, k ≠ i → t.route k = s.route k) ∧
          t.cr.cmd = some { em := false, result := 1, index := none })) ∧
      (w.data = 2 →
        Answers (.routeRead dt w) s (fun t =>
          frame t ∧ t.cr.em = s.cr.em ∧ t.cr.rt = s.cr.rt ∧ t.rwi 0x48024 = (s.route i).1 ∧ t.rwi 0x48028 = (s.route i).2 ∧
          (∀ o, o ≠ 0x48024 → o ≠ 0x48028 → t.rwi o = s.rwi o) ∧
          t.cr.cmd = some { em := false, result := 2, index := none })) ∧
      (1 < bitsSet w.data 2 → ∀ c, c = .routeWrite dt w ∨ c = .routeRead dt w →
        Answers c s (fun t =>
          t = { s.elapse dt with cr := { s.cr with cmd := some { em := false, result := 3, index := none } } }))) ∧
    ∀ k, s.cr.cmd = some k →
      Answers (.tableCommandComplete dt) s (fun t =>
        t = { s.elapse dt with
              cr := { s.cr with cmd := none, emResult := t.cr.emResult, rtResult := t.cr.rtResult, emIndex := t.cr.emIndex } } ∧
        (k.em = true → t.cr.emResult = k.result ∧ t.cr.emIndex = k.index.getD s.cr.emIndex ∧ t.cr.rtResult = s.cr.rtResult) ∧
        (k.em = false → t.cr.rtResult = k.result ∧ t.cr.emResult = s.cr.emResult ∧ t.cr.emIndex = s.cr.emIndex))

/-- R118, R119, R127, R128, R137, R151: what carding does with the oldest record of a receive sliver: a card's REJECT drops it;
without a card and an entry it is a miss; an exact-match hit is counted; a route to a receive stream alone fills the value
slot without a bobbin; a denied allocation takes no bobbin. Each outcome has its counter. -/
def Obligations.CardingDecidesAFrame : Prop :=
  ∀ (s : State) (dt : Nat) (sp : Fin 18) (x : SlvRec) (l : List SlvRec), s.ready →
    (s.sliver (2 * sp.val)).recs = x :: l → x.poisonHdr = false → x.poisonPay = false → s.olderHeld sp.val x.ch = false →
    s.isBeat x.ch x.frame = false → s.isAnnounce x.frame = false →
    Answers (.carding dt sp false false) s (fun t =>
      let card := s.firstCard x.ch x.frame
      let act := match card with | some k => s.fld (0x40008 + 16 * k) 20 2 | none => 0
      (t.sliver (2 * sp.val)).recs = l ∧ t.regs.live = s.regs.live ∧ t.tm = s.tm ∧
      (∀ k, card = some k → s.counts t (1024 + k) 1) ∧
      (act = 2 → t.cr = s.cr ∧ t.dr = s.dr ∧ s.counts t (64 * x.ch + 16) 1) ∧
      (card = none → s.emUsable x.ch x.frame = none → s.counts t (64 * x.ch + 17) 1 ∧ t.dr = s.dr ∧
        (s.bit (0x48100 + 32 * x.ch) 0 = false → t.cr = s.cr) ∧
        (s.bit (0x48100 + 32 * x.ch) 0 = true → s.rxOk x.ch = false → t.cr.bobs = s.cr.bobs ∧ s.counts t (64 * x.ch + 21) 1)) ∧
      (act = 0 → ∀ i e, s.emUsable x.ch x.frame = some (i, e) →
        Tbl.look t.cr.em i = some { e with hits := min (2 ^ 32 - 1) (e.hits + 1) } ∧
        (s.route e.route = (0, 0) → s.counts t (64 * x.ch + 20) 1 ∧ t.cr.bobs = s.cr.bobs ∧ t.dr = s.dr) ∧
        ∀ n v, n < 4096 → s.route e.route = (BitVec.ofNat 32 (2 ^ 15 + n), 0) → s.stream n = some v → v.cfg.kind = 2 → v.st = .live →
          v.cfg.ch.val = x.ch → v.cfg.ide = x.frame.ide → v.cfg.id = x.frame.id → x.frame.rtr = false →
          x.frame.format = v.cfg.format.toNat → x.frame.data.length = v.cfg.len.toNat →
          t.cr.bobs = s.cr.bobs ∧ t.stream n = some { v with slot := ((x.eof, x.frame.data) :: v.slot).take 2 }))

/-! ## Streams and drafting -/

/-- A STREAM_OPEN that passes its limits waits for its draft and changes nothing else; one that fails them, or names a stream that
is open, completes MALFORMED, and one without room NO_RESOURCE. The draft makes the stream PENDING with the reserve and the
response time of the analysis, or refuses it with its reason and no change to the table; a draft that lasts TMO_US ends without a
change. (A single device, and no STREAM_CLOSE waiting right behind the draft: a ply member's way is the ply's, and ClosingAndDeclaring
says what a waiting STREAM_CLOSE does.) -/
def Obligations.StreamsOpenThroughADraft : Prop :=
  ∀ (s : State) (dt : Nat) (d : Desc) (b : OpenBody), s.plyMember = false →
    (s.admits d → s.openOk b = true → s.isClosed b.stream.val = true → s.roomFor b.ch.val = true →
      Answers (.streamOpen dt d b) s (fun t =>
        t = { s.elapse dt with rep := t.rep, dr := { s.dr with queue := t.dr.queue, startAt := t.dr.startAt } } ∧
        t.dr.queue = s.dr.queue ++ [.open_ (.host d) b])) ∧
    (s.admits d → s.canComplete d → s.openOk b = false ∨ s.isClosed b.stream.val = false →
      Answers (.streamOpen dt d b) s (fun t =>
        t = { s.elapse dt with rep := t.rep } ∧ s.completes t d { complOf d 2 2 with stream := b.stream.val })) ∧
    (s.admits d → s.canComplete d → s.openOk b = true → s.isClosed b.stream.val = true → s.roomFor b.ch.val = false →
      Answers (.streamOpen dt d b) s (fun t =>
        t = { s.elapse dt with rep := t.rep } ∧ s.completes t d { complOf d 2 7 with stream := b.stream.val })) ∧
    ∀ q, s.ready → s.dr.queue = .open_ (.host d) b :: q → (∀ o n l, q ≠ .close o n :: l) →
      let v := s.judgeStream b
      let refused := fun (t : State) => t = { s.elapse dt with rep := t.rep, dr := { s.dr with queue := q, startAt := t.clock } }
      (s.isClosed b.stream.val = true → s.openOk b = true → s.roomFor b.ch.val = true →
        (v.reason = 0 →
          Answers (.draftComplete dt none) s (fun t =>
            t.dr.queue = q ∧ t.regs.live = s.regs.live ∧ s.raises t 0x1A0 ∧
            (t.use b.ch.val).res = (s.use b.ch.val).res + v.reserve ∧
            ∃ x, t.stream b.stream.val = some x ∧ x.cfg = b ∧ x.st = .pending ∧ x.reserve = v.reserve ∧ x.toLive = 1 ∧
              x.liveTurn = s.nextTurn)) ∧
        (v.reason ≠ 0 →
          Answers (.draftComplete dt none) s (fun t => refused t ∧ s.raises t 0x1A0 ∧ s.raises t 0x1A1) ∧
          (s.canComplete d →
            Answers (.draftComplete dt none) s (fun t => s.completes t d { complOf d 2 v.status with
              stream := b.stream.val, reason := if v.status = 1 then v.reason else 0 })))) ∧
      (s.isClosed b.stream.val = false → s.canComplete d →
        Answers (.draftComplete dt none) s (fun t =>
          refused t ∧ s.completes t d { complOf d 2 2 with stream := b.stream.val })) ∧
      (s.fld 0x50000 0 16 * 1000 ≤ s.clock + dt - s.dr.startAt →
        Answers (.draftTimeout dt) s (fun t => refused t ∧ s.raises t 0x1A9) ∧
        (s.canComplete d →
          Answers (.draftTimeout dt) s (fun t => s.completes t d { complOf d 2 5 with stream := b.stream.val })))

/-- R160, R165, R166: a STREAM_CLOSE is taken for the next boundary, behind a draft once that draft has ended; the draft of a
withdrawal leaves the declaration in place until the next boundary, and is refused with reason 0x03 while the declaration is the
source of a stream. (A single device, and no STREAM_CLOSE waiting behind the draft of the withdrawal.) -/
def Obligations.ClosingAndDeclaring : Prop :=
  ∀ (s : State) (dt : Nat) (d : Desc), s.plyMember = false →
    (∀ (n : Fin 4096) x, s.admits d → s.stream n.val = some x → s.dr.queue = [] →
      (x.mayClose = true →
        Answers (.streamClose dt d n) s (fun t =>
          t = { s.elapse dt with rep := t.rep, dr := { s.dr with streams := t.dr.streams } } ∧
          t.stream n.val = some { x with closeSoon := true, closeDesc := some d } ∧
          ∀ k, k ≠ n.val → t.stream k = s.stream k)) ∧
      (x.mayClose = false → s.canComplete d →
        Answers (.streamClose dt d n) s (fun t =>
          t = { s.elapse dt with rep := t.rep } ∧ s.completes t d { complOf d 3 2 with stream := n.val }))) ∧
    (∀ n : Fin 4096, s.admits d → s.stream n.val = none → s.dr.queue = [] → s.canComplete d →
      Answers (.streamClose dt d n) s (fun t =>
        t = { s.elapse dt with rep := t.rep } ∧ s.completes t d { complOf d 3 2 with stream := n.val })) ∧
    (∀ n : Fin 4096, s.admits d → s.dr.queue ≠ [] →
      Answers (.streamClose dt d n) s (fun t =>
        t = { s.elapse dt with rep := t.rep, dr := { s.dr with queue := s.dr.queue ++ [.close (.host d) n.val] } })) ∧
    (∀ (n : Fin 4096) x o b q, s.ready → s.dr.queue = .foreign o b :: .close (.host d) n.val :: q →
      (∀ o n l, q ≠ .close o n :: l) → s.stream n.val = some x → x.mayClose = true →
      s.fld 0x50000 0 16 * 1000 ≤ s.clock + dt - s.dr.startAt →
      Answers (.draftTimeout dt) s (fun t =>
        t.dr.queue = q ∧ t.stream n.val = some { x with closeSoon := true, closeDesc := some d } ∧
        ∀ k, k ≠ n.val → t.stream k = s.stream k)) ∧
    (∀ b : ForeignBody, s.admits d → foreignOk b = true →
      Answers (.foreignDeclare dt d b) s (fun t =>
        t = { s.elapse dt with rep := t.rep, dr := { s.dr with queue := t.dr.queue, startAt := t.dr.startAt } } ∧
        t.dr.queue = s.dr.queue ++ [.foreign (.host d) b])) ∧
    (∀ b : ForeignBody, s.admits d → s.canComplete d → foreignOk b = false →
      Answers (.foreignDeclare dt d b) s (fun t =>
        t = { s.elapse dt with rep := t.rep } ∧ s.completes t d { complOf d 5 2 with stream := b.index.val })) ∧
    ∀ (b : ForeignBody) q f, s.ready → s.dr.queue = .foreign (.host d) b :: q → (∀ o n l, q ≠ .close o n :: l) →
      foreignOk b = true → b.withdraw = true → Tbl.look s.dr.foreign b.index.val = some f → f.leaving = false →
      Answers (.draftComplete dt none) s (fun t =>
        t.dr.queue = q ∧ s.raises t 0x1A0 ∧
        (s.isSource f = true → t.dr.foreign = s.dr.foreign ∧ s.raises t 0x1A1) ∧
        (s.isSource f = false →
          Tbl.look t.dr.foreign b.index.val = some { f with leaving := true, toLive := 1 } ∧
          ∀ k, k ≠ b.index.val → Tbl.look t.dr.foreign k = Tbl.look s.dr.foreign k))

/-- R88, R139, R146, R147, R149: a release counts, and takes one bobbin of the stream's reserve, with the payload of its SOURCE, into
the ready set of its channel; on a channel that does not send, or with the reserve in use, it takes none. A cyclic release comes at
its instant in RUN, a sporadic one with the acceptance of the held STREAM_DATA. (A stream without authentication that this member
sends.) -/
def Obligations.ReleasesTakeABobbin : Prop :=
  ∀ (s : State) (dt : Nat) (n : Fin 4096) (x : Stream), s.ready → s.dev.st = .run → s.stream n.val = some x → x.st = .live →
    x.cfg.auth = false → s.sends x = true →
    let ch := x.cfg.ch.val
    ∀ c : Instr,
      (c = .streamRelease dt n ∧ x.cfg.kind = 0 ∧ x.relIn = some 0 ∧ x.relDone = false ∧
          (s.elapse dt).reached (s.tm.bound + BitVec.ofNat 64 (s.relOffset x.cfg)) = true) ∨
        (c = .sporadicAcceptance dt n ∧ x.held.isSome = true ∧ x.heldAt ≤ s.clock + dt) →
      ((s.ch ch).noBobbin = false → x.used < x.reserve →
        Answers c s (fun t =>
          (∃ y, t.stream n.val = some y ∧ y.releases = satCount (x.releases + 1) ∧ y.used = x.used + 1 ∧
            y.nextRel = x.nextRel + 1 ∧ (c = .streamRelease dt n → y.relDone = true) ∧
            (c = .sporadicAcceptance dt n → y.held = none ∧ y.lastAcc = some t.clock)) ∧
          (∃ e, (t.ch ch).ready = insReady e (s.ch ch).ready ∧ e.key = x.key ∧ e.kind = .stream n.val x.nextRel ∧
            e.bob = s.nextBob ∧ e.age = 0) ∧
          (∃ b, t.bob s.nextBob = some b ∧ b.frame.id = x.cfg.id ∧ b.frame.ide = x.cfg.ide ∧ b.frame.rtr = false ∧ b.ch = ch ∧
            b.frame.fdf = decide (x.cfg.format ≠ 0) ∧ b.frame.brs = decide (x.cfg.format = 2) ∧
            (c = .streamRelease dt n → b.frame.data = fitBytes x.cfg.len.toNat (s.sourceBytes x)) ∧
            (∀ o f, c = .sporadicAcceptance dt n → x.held = some (o, f) →
              b.frame.data = fitBytes x.cfg.len.toNat (if f.len = 0 ∧ x.cfg.source ≠ 3 then s.sourceBytes x else f.data))) ∧
          (t.use ch).stream = (s.use ch).stream + 1 ∧ ∀ k, k ≠ n.val → t.stream k = s.stream k)) ∧
      ((s.ch ch).noBobbin = true ∨ x.reserve ≤ x.used →
        Answers c s (fun t =>
          t.cr = s.cr ∧ t.chs = s.chs ∧ (∀ k, k ≠ n.val → t.stream k = s.stream k) ∧
          ∃ y, t.stream n.val = some y ∧ y.releases = satCount (x.releases + 1) ∧ y.used = x.used))

/-- R149, R150, R338: a STREAM_DATA of a cyclic stream replaces its payload; of a sporadic one it is released at once in RUN, or held
until MIN_IA_US have passed since the acceptance before; while one is held another completes NO_RESOURCE. Where it takes its
payload from the value line, the read of the line starts with it. -/
def Obligations.StreamDataIsTakenOrHeld : Prop :=
  ∀ (s : State) (dt : Nat) (d : Desc) (b : DataBody) (x : Stream), s.admits d → s.stream b.stream.val = some x →
    let n := b.stream.val
    let vPre := x.vPre.filter (fun e => decide (e.1 ≠ (d.port, d.distaff, d.index)))
    let only := fun (t : State) =>
      t = { s.elapse dt with rep := t.rep, dr := { s.dr with streams := t.dr.streams } } ∧ ∀ k, k ≠ n → t.stream k = s.stream k
    (dataBad x b = false → x.cfg.kind = 0 →
      Answers (.streamData dt d b) s (fun t =>
        only t ∧ t.stream n = some { x with payload := fitBytes x.cfg.len.toNat b.data, vPre := vPre })) ∧
    (dataBad x b = false → x.cfg.kind = 1 → s.acts = true → x.held = none → fromValueLine x b = false →
      (∀ a, x.lastAcc = some a → s.clock + dt < a + x.cfg.offIa.toNat * 1000 →
        Answers (.streamData dt d b) s (fun t =>
          only t ∧ t.stream n =
            some { x with held := some (some d, b), heldAt := a + x.cfg.offIa.toNat * 1000, vPre := vPre })) ∧
      (s.dev.st = .run → (∀ a, x.lastAcc = some a → a + x.cfg.offIa.toNat * 1000 ≤ s.clock + dt) → x.cfg.auth = false →
        x.cfg.source ≠ 2 → (s.ch x.cfg.ch.val).noBobbin = false → x.used < x.reserve → b.len ≠ 0 →
        Answers (.streamData dt d b) s (fun t =>
          (∃ y, t.stream n = some y ∧ y.releases = satCount (x.releases + 1) ∧ y.used = x.used + 1 ∧ y.held = none ∧
            y.lastAcc = some t.clock) ∧
          ∃ k, t.bob s.nextBob = some k ∧ k.frame.data = fitBytes x.cfg.len.toNat b.data))) ∧
    (dataBad x b = false → s.acts = true → x.held = none → fromValueLine x b = true →
      (s.port x.cfg.vport).portEn = true → (s.port x.cfg.vport).canWrite = true → s.readRoom x.cfg.vport = true →
      ∀ a, x.lastAcc = some a → s.clock + dt < a + x.cfg.offIa.toNat * 1000 →
      Answers (.streamData dt d b) s (fun t =>
        only t ∧ s.putsOut t (.valueRead x.cfg.vport n x.cfg.vaddr) ∧
        t.stream n = some { x with
          held := some (some d, b), heldAt := a + x.cfg.offIa.toNat * 1000, vPre := vPre, vSeq := x.vSeq + 1
          vFor := x.vFor ++ [some x.vSeq], vFlight := x.vFlight ++ [(x.vSeq, t.clock)] })) ∧
    (dataBad x b = false → x.cfg.kind = 1 → s.acts = true → x.held.isSome = true → s.canComplete d →
      Answers (.streamData dt d b) s (fun t =>
        only t ∧ (fromValueLine x b = false → t.stream n = some { x with vPre := vPre }) ∧
        s.completes t d { complOf d 4 7 with stream := n })) ∧
    (dataBad x b = true → s.canComplete d →
      Answers (.streamData dt d b) s (fun t =>
        only t ∧ (fromValueLine x b = false → t.stream n = some { x with vPre := vPre }) ∧
        s.completes t d { complOf d 4 2 with stream := n }))

/-- R148, R181, R182, R346: a value line read is issued VLEAD_US before its release and remembered with its instant; a line read in
time replaces the one before it unless a later read has done so, a read older than CPL_TMO is given up; reads that waited for room may
follow. A release of the stream's present life whose deadline passes without a frame is a miss, uncovered unless a breach covers it,
and an uncovered miss raises 0x1A6 with its slub. -/
def Obligations.ValueLinesAndDeadlines : Prop :=
  ∀ (s : State) (dt : Nat) (n : Fin 4096) (x : Stream), s.ready → s.stream n.val = some x →
    let none_ := (s.port .a).valueWait = [] ∧ (s.port .b).valueWait = []
    (x.st = .live → x.cfg.source = 2 → x.cfg.kind = 0 → x.vFor = [] → x.relIn = some 0 → x.relDone = false →
      (s.elapse dt).reached (s.tm.bound + BitVec.ofNat 64 (s.relOffset x.cfg) - BitVec.ofNat 64 (x.cfg.vlead.toNat * 1000)) →
      (s.elapse dt).reached (s.tm.bound + BitVec.ofNat 64 (s.relOffset x.cfg)) = false →
      (s.port x.cfg.vport).portEn = true → (s.port x.cfg.vport).canWrite = true → s.readRoom x.cfg.vport = true →
      Answers (.valueLineReadStart dt n) s (fun t =>
        s.putsOut t (.valueRead x.cfg.vport n.val x.cfg.vaddr) ∧
        t.stream n.val =
          some { x with vSeq := x.vSeq + 1, vFor := [some x.vSeq], vFlight := x.vFlight ++ [(x.vSeq, t.clock)] })) ∧
    (∀ nth k a data, x.vFlight[nth]? = some (k, a) →
      Answers (.valueLineReadComplete dt n nth true data) s (fun t =>
        let good := decide (s.clock + dt - a ≤ (s.port x.cfg.vport).cplTmo * 1000) && decide (x.vDone ≤ k)
        t = { s.elapse dt with rep := t.rep, dr := { s.dr with streams := t.dr.streams } } ∧
        ∃ l, (none_ → l = []) ∧ t.stream n.val = some { x with
          vFlight := x.vFlight.eraseIdx nth ++ l, vline := if good then fitBytes 64 data else x.vline
          vDone := if good then k + 1 else x.vDone })) ∧
    Answers (.valueLineReadTimeout dt n) s (fun t =>
      t = { s.elapse dt with rep := t.rep, dr := { s.dr with streams := t.dr.streams } } ∧
      ∃ l, (none_ → l = []) ∧ t.stream n.val = some { x with
        vFlight := x.vFlight.filter (fun e => decide (s.clock + dt - e.2 < (s.port x.cfg.vport).cplTmo * 1000)) ++ l }) ∧
    ∀ r, x.rels = [r] → r.old = false → r.unheard = true → r.desc = none → (s.elapse dt).reached r.due = true →
      Answers (.releaseDeadline dt n) s (fun t =>
        ∃ y, t.stream n.val = some y ∧ y.rels = [] ∧ y.misses = satCount (x.misses + 1) ∧ y.minSlack = min x.minSlack (-(2 ^ 31)) ∧
          y.uncovered = (if r.cov then x.uncovered else satCount (x.uncovered + 1)) ∧
          (r.cov = false → s.raises t 0x1A6 ∧ s.logs t 0x0405 n.val (2 ^ 31 - 1) 0))

/-- R133, R138, R155, R337: a SEND takes a bobbin of the shared pool into the ready set, no earlier than BE_PERIOD_US after
the one before, or waits for that; without room it completes NO_RESOURCE, and one below BE_KEY or too long MALFORMED. -/
def Obligations.SendsUseTheSharedPool : Prop :=
  ∀ (s : State) (dt : Nat),
    (∀ (d : Desc) (b : SendBody), s.admits d →
      let ch := b.ch.val
      let room := s.acts = true ∧ s.setFull ch = false ∧ s.sendOk ch = true
      let at_ := (s.elapse dt).sendDue ch = true ∧ (s.ch ch).sendQueue = []
      (s.sendBad b = false → room → at_ →
        Answers (.send dt d b) s (fun t =>
          ((t.ch ch).ready = insReady ⟨s.nextBob, (SendBody.frame b).key, .send d, 0, false, 0, none⟩ (s.ch ch).ready) ∧
          (t.ch ch).lastSend = some t.clock ∧ t.bob s.nextBob = some (txBobbin ch (SendBody.frame b) .send) ∧
          (t.use ch).send = (s.use ch).send + 1 ∧ t.dr = s.dr)) ∧
      (s.sendBad b = false → room → ¬at_ →
        Answers (.send dt d b) s (fun t =>
          (t.ch ch).ready = (s.ch ch).ready ∧ (t.ch ch).sendQueue = (s.ch ch).sendQueue ++ [(s.nextBob, d)] ∧
          (t.use ch).send = (s.use ch).send + 1 ∧ t.dr = s.dr)) ∧
      (s.sendBad b = false → s.acts = false → s.canComplete d →
        Answers (.send dt d b) s (fun t => t = { s.elapse dt with rep := t.rep } ∧ s.completes t d (complOf d 1 7))) ∧
      (s.sendBad b = false → s.acts = true → s.setFull ch = true ∨ s.sendOk ch = false → s.canComplete d →
        Answers (.send dt d b) s (fun t =>
          t = { s.elapse dt with rep := t.rep } ∧ s.completes t d (complOf d 1 7) ∧ s.counts t (64 * ch + 22) 1)) ∧
      (s.sendBad b = true → s.canComplete d →
        Answers (.send dt d b) s (fun t => t = { s.elapse dt with rep := t.rep } ∧ s.completes t d (complOf d 1 2)))) ∧
    ∀ (ch : Fin 16) bob d q x, s.ready → (s.ch ch.val).sendQueue = (bob, d) :: q → (s.elapse dt).sendDue ch.val = true →
      s.bob bob = some x →
      Answers (.sendReadyEntry dt ch) s (fun t =>
        (t.ch ch.val).ready = insReady ⟨bob, x.frame.key, .send d, 0, false, 0, none⟩ (s.ch ch.val).ready ∧
        (t.ch ch.val).sendQueue = q ∧ (t.ch ch.val).lastSend = some t.clock ∧ t.cr = s.cr ∧ t.dr = s.dr)

/-! ## Line watch and segment feeds -/

/-- R198, R199, R205: an attribution takes the oldest waiting capture and raises 0x1C0; with reason 0x0 or 0x1 it names a mature
signature no farther than any other and no farther than 4, of signatures in the order of their nodes the lower number among equals;
with CONF of at least CONF_MIN the node is charged, and the charge that reaches BABBLE_N under policy REQUEST makes a request for its
feed. -/
def Obligations.AttributionsBlameANode : Prop :=
  ∀ (s : State) (dt : Nat) (ch : Fin 16) (arb : Option BitSpan) (bits : List BitSpan) (b : Blame)
      (rest : List Blame), s.ready → (s.line ch.val).blames = b :: rest →
    let v := s.line ch.val
    let x := b.measured arb bits
    let o := v.attribute (flagBits arb bits) x
    let g := Tbl.lookD v.sig o.node {}
    let bab := s.live (lwBase ch.val + 0x10)
    let charged := (g.blames ++ [b.turn.toNat]).filter (fun k => decide (k + fieldOf bab 16 16 > b.turn.toNat))
    let feed := s.nodeFeed ch.val o.node
    Answers (.attribution dt ch arb bits) s (fun t =>
      (t.line ch.val).blames = rest ∧ s.raises t 0x1C0 ∧ s.counts t (64 * ch.val + 29) 1 ∧ t.regs.live = s.regs.live ∧
      (o.reason ≤ 1 → ∃ h, (o.node, h) ∈ v.sig ∧ h.mature = true ∧ h.distance x ≤ 4 ∧
        (∀ k h', (k, h') ∈ v.sig → h'.mature = true → h.distance x ≤ h'.distance x) ∧
        ((v.sig.map (·.1)).Pairwise (· < ·) → ∀ k h', (k, h') ∈ v.sig → h'.mature = true →
          h'.distance x = h.distance x → o.node ≤ k)) ∧
      (1 < o.reason ∨ o.conf < fieldOf bab 4 7 →
        s.onlyLine t dt ch.val ∧ t.line ch.val = { v with blames := rest }) ∧
      (o.reason ≤ 1 ∧ fieldOf bab 4 7 ≤ o.conf → (Tbl.lookD (t.line ch.val).sig o.node {}).blames = charged) ∧
      (o.reason ≤ 1 ∧ fieldOf bab 4 7 ≤ o.conf ∧ fieldOf bab 0 4 ≤ charged.length → feed < 8 → s.bit 0x60004 feed = true →
        s.nodeConflict ch.val o.node = false → s.fld (lwBase ch.val + 0x14) 0 2 = 1 → s.mayQuar = true →
        s.inQuar feed = false → s.reqFor feed = none → (s.feed feed).st.gateOn = true →
        s.raises t 0x1C4 ∧ s.onlyLine t dt ch.val ∧ ∃ r, (t.line ch.val).reqs = v.reqs ++ [r] ∧ r.feed = feed ∧ r.node = o.node ∧
          r.left = s.fld (lwBase ch.val + 0x14) 16 16 ∧ r.action = s.bit (lwBase ch.val + 0x14) 2))

/-- R202, R203: on a recessive channel, 100 µs after the last evaluation, the taps are evaluated: eight in a row beyond HI_MV or below
LO_MV set a short bit, with source 0x1C2, and eight within clear it; the end of a trend interval flags a node whose mean RISE or FALL
exceeds its baseline by more than the percentage set, with source 0x1C3; BASELINE takes the current means of the channels it names. -/
def Obligations.LineHealthIsJudged : Prop :=
  ∀ (s : State) (dt : Nat) (ch : Fin 16), s.ready →
    let v := s.line ch.val
    (∀ h l : Int, s.lineOn ch.val = true → (s.ch ch.val).wire = .idle → (∀ a, v.shortAt = some a → a + 100000 ≤ s.clock + dt) →
      v.short.length = 4 → v.badRun.length = 4 → v.okRun.length = 4 →
      let hi : Int := (s.fld (lwBase ch.val + 12) 0 16 : Nat)
      let lo : Int := (s.fld (lwBase ch.val + 12) 16 16 : Nat)
      let bad := fun (i : Nat) => if i = 0 then hi < h else if i = 1 then h < lo else if i = 2 then hi < l else l < lo
      let ok := fun (i : Nat) => if i < 2 then lo ≤ h ∧ h ≤ hi else lo ≤ l ∧ l ≤ hi
      Answers (.shortEvaluation dt ch h l) s (fun t =>
        s.onlyLine t dt ch.val ∧ (t.line ch.val).shortAt = some t.clock ∧
        ∀ i, i < 4 →
          (bad i → v.badRun.getD i 0 = 7 → (t.line ch.val).short.getD i false = true ∧
            (v.short.getD i false = false → s.raises t 0x1C2)) ∧
          (ok i → ¬bad i → v.okRun.getD i 0 = 7 → (t.line ch.val).short.getD i false = false) ∧
          (bad i → (t.line ch.val).badRun.getD i 0 = min 8 (v.badRun.getD i 0 + 1)) ∧
          (¬bad i → (t.line ch.val).badRun.getD i 0 = 0))) ∧
    (∀ h l : Int, s.lineOn ch.val = false ∨ (s.ch ch.val).wire ≠ .idle ∨ (∃ a, v.shortAt = some a ∧ s.clock + dt < a + 100000) →
      Answers (.shortEvaluation dt ch h l) s (fun t => t = s.elapse dt)) ∧
    (s.lineOn ch.val = true → s.fld (lwBase ch.val + 0x18) 0 24 ≤ v.trendTurns →
      Answers (.trendIntervalEnd dt ch) s (fun t =>
        s.onlyLine t dt ch.val ∧ (t.line ch.val).trendTurns = 0 ∧
        (t.line ch.val).sig = v.sig.map (fun e => (e.1, e.2.endInterval)) ∧
        ∀ k g, (k, g) ∈ v.sig → k < 32 → g.endInterval.alarm (s.fld (lwBase ch.val + 0x18) 24 8) = true →
          bitOf (t.line ch.val).trendMap k = true ∧ s.raises t 0x1C3)) ∧
    ∀ w : Wr, s.passes 0x60008 w →
      Answers (.baseline dt w) s (fun t =>
        t = { s.elapse dt with lw := t.lw } ∧
        (bitOf w.data ch.val = true → t.line ch.val = { v with
          sig := v.sig.map (fun e => (e.1, { e.2 with base := some (e.2.mu.getD 3 0, e.2.mu.getD 4 0) })) }) ∧
        (bitOf w.data ch.val = false → t.line ch.val = v))

/-- R196, R206, R207, R213: a request not approved lapses, with source 0x1C7; a CYCLE lets its feed start after OFF_MS; a
LINE_CAPTURE waits for its trigger, one for a channel; its samples, once the trigger has come, fill the oldest free capture, go to the
host, raise 0x1C9 and complete it (with every capture protected they are counted); a trigger that does not come in time completes
TIMEOUT. -/
def Obligations.QuarantinesAndHostCaptures : Prop :=
  ∀ (s : State) (dt : Nat) (ch : Fin 16), s.ready →
    let v := s.line ch.val
    (∀ q, q ∈ v.reqs → q.left = 0 →
      Answers (.quarantineRequestLapse dt ch) s (fun t =>
        s.onlyLine t dt ch.val ∧ s.raises t 0x1C7 ∧ (∀ r, r ∈ (t.line ch.val).reqs → r ∈ v.reqs ∧ r.left ≠ 0) ∧
        (∀ r, r ∈ v.reqs → (∀ p, p ∈ v.reqs → p.left = 0 → p.feed ≠ r.feed) → r ∈ (t.line ch.val).reqs) ∧
        t.line ch.val = { v with reqs := (t.line ch.val).reqs })) ∧
    (∀ q l1 l2, v.quars = l1 ++ q :: l2 → q.action = false → q.restarted = false → q.restart ≤ s.clock + dt →
      (∀ r, r ∈ l1 ++ l2 → r.feed ≠ q.feed ∧ (s.elapse dt).restartDue r = false) →
      let f := s.feed q.feed
      Answers (.quarantineRestart dt ch) s (fun t =>
        t = { s.elapse dt with lw := t.lw, fd := t.fd, rep := t.rep } ∧
        t.line ch.val = { v with quars := l1 ++ { q with restarted := true } :: l2 } ∧
        (t.feed q.feed).quar = false ∧ (t.feed q.feed).cause = f.cause ∧
        (t.feed q.feed).st =
          (if f.st = .held ∧ f.hold = false ∧ f.cycleEnd = none then (if f.qualified && s.path then .ramp else .wait)
            else f.st) ∧
        ∀ k, k ≠ q.feed → t.feed k = s.feed k)) ∧
    (∀ (d : Desc) (b : CaptureBody), s.ow.owner = some d.port → d.resv = false → s.fenced d.port d.distaff = false →
      b.ch = ch → b.trigger ≠ 3 → b.timeout ≠ 0 → b.addr.toNat % 4096 = 0 → (b.trigger = 1 ∨ b.key = 0) → s.path = true →
      (v.armed = none →
        Answers (.lineCapture dt d b) s (fun t =>
          s.onlyLine t dt ch.val ∧
          t.line ch.val = { v with armed := some {
            desc := d, body := b, left := b.timeout.toNat
            hit := if b.trigger = 0 then some { time := t.now, turn := s.tm.turn, key := 0xFFFFFFFF } else none } })) ∧
      (v.armed.isSome = true → s.canComplete d →
        Answers (.lineCapture dt d b) s (fun t =>
          t = { s.elapse dt with rep := t.rep } ∧ s.completes t d (complOf d 9 7)))) ∧
    ∀ a, v.armed = some a →
      (∀ (pairs : List TapPair) (h : Trig), a.hit = some h →
        (∀ i, v.freeCap = some i →
          Answers (.lineCaptureTrigger dt ch pairs) s (fun t =>
            s.onlyLine t dt ch.val ∧ (t.line ch.val).armed = none ∧ s.raises t 0x1C9 ∧
            Tbl.look (t.line ch.val).caps i = some { pairs := pairs, age := 0, order := v.capCount + 1 } ∧
            (∀ k, k ≠ i → Tbl.look (t.line ch.val).caps k = Tbl.look v.caps k) ∧
            ((s.port a.desc.port).canWrite = true →
              s.putsOut t (.samples a.desc.port a.body.addr (pairs.map (fun p => p.word)))) ∧
            (s.canComplete a.desc → a.desc.cmpl = true →
              s.completes t a.desc { complOf a.desc 9 0 with capture := i, turn := h.turn, timeA := h.time }))) ∧
        (v.freeCap = none →
          Answers (.lineCaptureTrigger dt ch pairs) s (fun t =>
            s.onlyLine t dt ch.val ∧ (t.line ch.val).caps = v.caps ∧ s.counts t (64 * ch.val + 28) 1))) ∧
      (∀ pairs : List TapPair, a.hit = none → Answers (.lineCaptureTrigger dt ch pairs) s (fun t => t = s.elapse dt)) ∧
      (a.left = 0 → a.hit = none →
        Answers (.lineCaptureTimeout dt ch) s (fun t =>
          s.onlyLine t dt ch.val ∧ t.line ch.val = { v with armed := none } ∧
          (s.canComplete a.desc → s.completes t a.desc (complOf a.desc 9 5))))

/-- R280, R281, R283, R286 to R288, R290, R293 to R295, R298: a measurement adds its energy and moves the trip integrator, which at 1 and
at or above the pickup turns the gate off; a supply that leaves its window raises the supply source; a tick sets the ORing gates and
in RAMP the drive, and the one at which V_OUT reaches V_COM − 300 mV enters QUALIFY; the qualification counts ticks without a fault
timer, and one that runs in the last tick withholds power good; a supply more than 10 mV below Fn_COM has its ORing gate pulled
down. -/
def Obligations.FeedsAreMeasuredAndSupervised : Prop :=
  ∀ (s : State) (dt : Nat) (n : Fin 8), s.ready →
    let f := s.feed n.val
    (∀ m : FeedMeas,
      let acc := if f.st.gateOn = true ∨ 0 < f.acc then s.integrate n.val m.i f.acc else f.acc
      let full := s.curveI n.val 0 ≤ m.i ∧ 1 ≤ acc
      (¬full ∨ f.st.gateOn = false →
        Answers (.feedMeasurement dt n m.i m.volts m.vgs) s (fun t =>
          s.onlyFeed t dt n.val ∧
          let g := t.feed n.val
          g.st = f.st ∧ g.pg = f.pg ∧ g.cause = f.cause ∧ g.retries = f.retries ∧ g.meas = m ∧ g.acc = acc ∧
          g.pub = (if s.path then m else f.pub) ∧ g.aOk = s.inWindow n.val m.va ∧ g.bOk = s.inWindow n.val m.vb ∧
          (let e := f.energy.toNat * 100000 + f.eFrac + (max ((m.vout : Int) * m.i) 0).toNat
           g.energy.toNat * 100000 + g.eFrac = e % (2 ^ 64 * 100000) ∧ (g.eWrap ≠ f.eWrap ↔ 2 ^ 64 * 100000 ≤ e)) ∧
          ((f.aOk = true ∧ g.aOk = false) ∨ (f.bOk = true ∧ g.bOk = false) → s.raises t (0x1E2 + 4 * n.val)))) ∧
      (full → f.st.gateOn = true →
        Answers (.feedMeasurement dt n m.i m.volts m.vgs) s (fun t =>
          let g := t.feed n.val
          g.acc = acc ∧ g.pg = false ∧ g.cause = 1 ∧ s.raises t (0x1E1 + 4 * n.val) ∧
          g.st = (if fieldOf (s.fcfg n.val 0) 1 2 = 1 ∧ f.retries < fieldOf (s.fcfg n.val 0) 4 4 then .cooling
            else .latched) ∧
          ∀ k, k ≠ n.val → t.feed k = s.feed k))) ∧
    (∀ m : FeedMeas,
      Answers (.feedSupervisionTick dt n m.i m.vout m.vcom m.vgs (m.va, m.vb)) s (fun t =>
        s.onlyFeed t dt n.val ∧
        let g := t.feed n.val
        let ends := f.st = .ramp ∧ m.vcom ≤ m.vout + 300
        (g.ftimer = true ↔ s.curveI n.val 0 ≤ m.i ∨ g.drive = .power) ∧
        g.st = (if ends then .qualify else f.st) ∧ g.pg = f.pg ∧ g.acc = f.acc ∧
        (ends → g.drive = .full ∧ g.qTicks = 0) ∧ (f.st ≠ .ramp → g.drive = f.drive) ∧
        (f.st = .ramp → ¬ends → (g.drive = .slew ∨ g.drive = .power) ∧
          (g.drive = .power → (fieldOf (s.fcfg n.val 0x10) 0 16 * 100000 : Nat) ≤ ((m.vcom : Int) - m.vout) * m.i)) ∧
        (f.aGate = .off → m.va ≤ m.vcom → g.aGate = .off) ∧
        (m.vcom < m.va → g.aGate = if m.vcom + 25 < m.va then .full else .regulated) ∧
        (f.bGate = .off → m.vb ≤ m.vcom → g.bGate = .off) ∧
        (m.vcom < m.vb → g.bGate = if m.vcom + 25 < m.vb then .full else .regulated) ∧
        (f.st = .qualify → g.qTicks = (if g.ftimer = true ∨ f.ftimer = true then 0 else f.qTicks + 1)) ∧
        (f.st = .qualify → f.qTicks = 1999 → g.ftimer = true → s.counts t (5376 + 8 * n.val + 5) 1))) ∧
    (f.st = .wait → f.qualified = true → s.path = true → f.isHeld = false →
      Answers (.feedSupplyQualified dt n) s (fun t =>
        s.onlyFeed t dt n.val ∧ (t.feed n.val).st = .ramp ∧ (t.feed n.val).rampAt = s.clock + dt ∧
        (t.feed n.val).drive = .slew ∧ (t.feed n.val).cause = f.cause)) ∧
    (f.st = .qualify → 2000 ≤ f.qTicks → f.ftimer = false →
      Answers (.feedQualifyComplete dt n) s (fun t =>
        t = { s.elapse dt with fd := t.fd, lw := t.lw, dr := t.dr, rep := t.rep } ∧
        t.feed n.val = { f with st := .on, pg := true, pgSince := s.clock + dt } ∧ s.raises t (0x1E0 + 4 * n.val) ∧
        (∀ k, k ≠ n.val → t.feed k = s.feed k) ∧ t.dr.quarFeeds = s.dr.quarFeeds.filter (fun k => decide (k ≠ n.val)) ∧
        ∀ c, c < 16 →
          t.line c = { s.line c with quars := (s.line c).quars.filter (fun q => decide (q.feed ≠ n.val)) } ∧
          (∀ q, q ∈ (s.line c).quars → q.feed = n.val → s.raises t 0x1C6))) ∧
    (f.pg = true → fieldOf (s.fcfg n.val 0x18) 16 8 * 1000000000 ≤ s.clock + dt - f.pgSince →
      Answers (.feedRetryClear dt n) s (fun t =>
        s.onlyFeed t dt n.val ∧ t.feed n.val = { f with retries := 0 })) ∧
    ∀ (sideB : Bool) (v vcom : Nat),
      (v + 10 < vcom →
        Answers (.oringReverse dt n { sideB := sideB, v := v, vcom := vcom }) s (fun t =>
          s.onlyFeed t dt n.val ∧ t.feed n.val = if sideB then { f with bGate := .off } else { f with aGate := .off })) ∧
      (vcom ≤ v + 10 → Answers (.oringReverse dt n { sideB := sideB, v := v, vcom := vcom }) s (fun t => t = s.elapse dt))

/-- R285, R287, R291, R292, R296, R300 to R303, R308, R310: what turns the pass gate off records its cause, clears power good and
writes slub 0x0802; SUPPLY and OVERVOLT enter WAIT; a trip consumes a retry into COOLING, for 10 times the on-time, while the
policy and the count allow it, else it enters LATCHED, as GATE_FAIL and QP_SHORT do at once; where an event of a higher row of Table
9.8 has turned the gate off in the same instant, it is counted alone. At the end of its cool-down a feed goes on by its hold and its
supplies, once the register path is in service. -/
def Obligations.FeedsTurnOffWithTheirCause : Prop :=
  ∀ (s : State) (dt : Nat) (n : Fin 8), s.ready →
    let f := s.feed n.val
    let now := s.clock + dt
    let again := fieldOf (s.fcfg n.val 0) 1 2 = 1 ∧ f.retries < fieldOf (s.fcfg n.val 0) 4 4
    let off := fun (c : Instr) (cause : Nat) =>
      (c = .feedStartTimeout dt n ∧ cause = 4 ∧ f.st ≠ .on ∧ fieldOf (s.fcfg n.val 0) 24 8 * 1000000 ≤ now - f.rampAt) ∨
      (c = .feedGateFail dt n ∧ cause = 5 ∧ ∃ a, f.chargeSince = some a ∧ 5000000 ≤ now - a) ∨
      (c = .feedSupplyLoss dt n ∧ cause = 7 ∧ 10 ≤ f.outRun) ∨
      (c = .feedOvervolt dt n ∧ cause = 8 ∧ (3 ≤ f.overA ∨ 3 ≤ f.overB))
    (∀ (c : Instr) (cause : Nat), f.st.gateOn = true →
      (∃ i : Int, c = .feedFastTrip dt { feed := n, i := i } ∧ (s.tripLevel n.val : Int) ≤ i ∧ cause = (if f.st = .ramp then 3 else 2)) ∨
        off c cause →
      Answers c s (fun t =>
        t = { s.elapse dt with fd := t.fd, lw := t.lw, rep := t.rep } ∧ (∀ k, k ≠ n.val → t.feed k = s.feed k) ∧
        t.feed n.val = { f with
          st := if 7 ≤ cause then .wait else if cause ≤ 4 ∧ again then .cooling else .latched
          retries := if cause ≤ 4 ∧ again then f.retries + 1 else f.retries
          pg := false, drive := .off, cause := cause, onTime := now - f.rampAt, offSince := now
          coolEnd := now + 10 * (now - f.rampAt), metAt := some (now, rowOf cause false) } ∧
        s.logs t 0x0802 n.val (t.feed n.val).st.code cause ∧
        (f.pg = true → s.raises t (0x1E0 + 4 * n.val)) ∧ (cause ≤ 5 → s.raises t (0x1E1 + 4 * n.val)) ∧
        (7 ≤ cause → s.raises t (0x1E2 + 4 * n.val)) ∧
        ((t.feed n.val).st = .latched → s.raises t (0x1E3 + 4 * n.val)))) ∧
    (∀ (c : Instr) (cause row : Nat), f.st.gateOn = false → f.metAt = some (now, row) → row < rowOf cause false → off c cause →
      Answers c s (fun t => t = { s.elapse dt with rep := t.rep } ∧ s.counts t (feedCounter n.val cause) 1)) ∧
    (∀ i : Int, f.st.gateOn = false ∨ i < (s.tripLevel n.val : Int) →
      Answers (.feedFastTrip dt { feed := n, i := i }) s (fun t => t = s.elapse dt)) ∧
    (f.st ≠ .disabled → f.st.gateOn = false → 10 ≤ f.shortRun →
      Answers (.feedQpShort dt n) s (fun t =>
        t = { s.elapse dt with fd := t.fd, lw := t.lw, rep := t.rep } ∧ (∀ k, k ≠ n.val → t.feed k = s.feed k) ∧
        t.feed n.val = { f with
          st := .latched, shortRun := 0, quar := false, cause := 6, metAt := some (now, rowOf 6 false) } ∧
        s.logs t 0x0802 n.val 7 6 ∧ s.raises t (0x1E1 + 4 * n.val) ∧
        (f.st ≠ .latched → s.raises t (0x1E3 + 4 * n.val)))) ∧
    (f.st = .cooling → f.coolEnd ≤ now → s.path = true →
      Answers (.feedCoolingEnd dt n) s (fun t =>
        s.onlyFeed t dt n.val ∧ (t.feed n.val).cause = f.cause ∧ (t.feed n.val).retries = f.retries ∧
        (t.feed n.val).st = if f.isHeld then .held else if f.qualified then .ramp else .wait)) ∧
    (f.st = .cooling → s.path = false → Answers (.feedCoolingEnd dt n) s (fun t => t = s.elapse dt))

/-- R285, R305, R306, R309, R312: ON ends a hold, OFF and CYCLE hold the feed with cause COMMAND, QUARANTINE starts the
requested quarantine, CLEAR leaves LATCHED and is counted elsewhere; a FEED_CMD for a feed whose EN is 0 is MALFORMED. A
FD_Fn_CMD or FD_LOCK write is posted, or discarded with more than one command bit. A commit that reaches the field die
disables and enables feeds. -/
def Obligations.FeedCommandsActOnHolds : Prop :=
  ∀ (s : State) (dt : Nat) (n : Fin 8),
    let f := s.feed n.val
    let now := s.clock + dt
    let free := if f.qualified && s.path then FeedMode.ramp else .wait
    (∀ d : Desc, s.admits d → bitOf (s.fcfg n.val 0) 0 = true → s.path = true →
      Answers (.feedCmdOn dt d n) s (fun t =>
        t = { s.elapse dt with fd := t.fd, lw := t.lw, rep := t.rep } ∧ (∀ k, k ≠ n.val → t.feed k = s.feed k) ∧
        (t.feed n.val).isHeld = false ∧ (t.feed n.val).cause = f.cause ∧
        (t.feed n.val).st = (if f.st = .held then free else f.st)) ∧
      ((s.elapse dt).feedMet n.val 7 = false → f.st ≠ .disabled →
        (∀ c : Instr, c = .feedCmdOff dt d n ∨ (c = .feedCmdQuarantine dt d n ∧ s.reqFor n.val = none) →
          Answers c s (fun t =>
            s.onlyFeed t dt n.val ∧ (t.feed n.val).hold = true ∧ (t.feed n.val).cause = 9 ∧
            (t.feed n.val).st = (if f.st.gateOn = true ∨ f.st = .wait then .held else f.st) ∧
            (f.st.gateOn = true → (t.feed n.val).pg = false) ∧ s.logs t 0x0802 n.val (t.feed n.val).st.code 9)) ∧
        (∀ off : BitVec 16, 10 ≤ off.toNat →
          Answers (.feedCmdCycle dt d n off) s (fun t =>
            s.onlyFeed t dt n.val ∧ (t.feed n.val).cycleEnd = some (now + off.toNat * 1000000) ∧ (t.feed n.val).cause = 9 ∧
            (t.feed n.val).st = (if f.st.gateOn = true ∨ f.st = .wait then .held else f.st))) ∧
        (∀ ch q, s.mayQuar = true → s.reqFor n.val = some ch → (s.line ch).reqs.find? (fun r => decide (r.feed = n.val)) = some q →
          Answers (.feedCmdQuarantine dt d n) s (fun t =>
            (t.line ch).reqs = (s.line ch).reqs.filter (fun r => decide (r.feed ≠ n.val)) ∧ (t.feed n.val).quar = true ∧ (t.feed n.val).cause = 10 ∧ s.raises t 0x1C5 ∧
            (t.line ch).quars = (s.line ch).quars ++
              [{ feed := n.val, action := q.action, restart := now + q.offMs * 1000000, restarted := false }] ∧
            t.regs.live = s.regs.live ∧ ∀ k, k ≠ n.val → t.feed k = s.feed k))) ∧
      Answers (.feedCmdClear dt d n) s (fun t =>
        s.onlyFeed t dt n.val ∧
        (f.st = .latched → (t.feed n.val).retries = 0 ∧ (t.feed n.val).cause = f.cause ∧
          (t.feed n.val).st = if f.isHeld then .held else free) ∧
        (f.st ≠ .latched → t.fd = s.fd ∧ s.counts t (5376 + 8 * n.val + 7) 1))) ∧
    (∀ d : Desc, s.admits d → s.canComplete d → bitOf (s.fcfg n.val 0) 0 = false →
      ∀ c : Instr, c = .feedCmdOn dt d n ∨ c = .feedCmdOff dt d n ∨ c = .feedCmdQuarantine dt d n ∨ c = .feedCmdClear dt d n ∨
          (∃ ms, c = .feedCmdCycle dt d n ms) →
        Answers c s (fun t =>
          t = { s.elapse dt with rep := t.rep } ∧ s.completes t d { complOf d 8 2 with fstate := f.st.code })) ∧
    (∀ (d : Desc) (ms : BitVec 16), s.admits d → s.canComplete d → ms.toNat < 10 →
      Answers (.feedCmdCycle dt d n ms) s (fun t =>
        t = { s.elapse dt with rep := t.rep } ∧ s.completes t d { complOf d 8 2 with fstate := f.st.code })) ∧
    (s.ready →
      (∀ a, f.cycleEnd = some a → a ≤ now →
        Answers (.feedCycleEnd dt n) s (fun t =>
          s.onlyFeed t dt n.val ∧ (t.feed n.val).cycleEnd = none ∧
          (t.feed n.val).st = if f.st = .held ∧ f.hold = false ∧ f.quar = false then free else f.st)) ∧
      (∀ w : Wr, s.passes (fdBase n.val + 0x40) w →
        ∀ c : Instr, c = .fdCmdOn dt n w ∨ c = .fdCmdOff dt n w ∨ c = .fdCmdClear dt n w →
          (bitsSet w.data 3 ≤ 1 →
            Answers c s (fun t => t = { s.elapse dt with fa := t.fa } ∧
              t.fa.posted = some { seq := s.fa.seq + 1, off := fdBase n.val + 0x40, data := w.data })) ∧
          (1 < bitsSet w.data 3 → Answers c s (fun t => s.discards t dt (fdBase n.val + 0x40) w 10))) ∧
      (∀ w : Wr, s.passes 0xA8800 w →
        Answers (.fdLock dt w) s (fun t => t = { s.elapse dt with fa := t.fa } ∧
          t.fa.posted = some { seq := s.fa.seq + 1, off := 0xA8800, data := w.data })) ∧
      (s.path = true →
        Answers (.fieldCommitArrival dt) s (fun t =>
          t.fd.cfg = s.fdLive ∧ t.regs.live = s.regs.live ∧
          ∀ k, k < 8 →
            let en := bitOf (s.live (fdBase k)) 0
            let g := s.feed k
            (t.feed k).st = (if en then (if g.st = .disabled then (if g.isHeld then .held else .wait) else g.st)
              else .disabled) ∧
            (en = false → g.st ≠ .disabled → g.st.gateOn = true ∨ (s.elapse dt).feedMet k 6 = false → (t.feed k).cause = 9))))

/-! ## Loop inputs and outputs -/

/-- R25, R254 to R258, R260, R264: the readings of a capture point give every input its current and its class of Table 8.1, a
change of the failed set being reported, and every output its readback; readings later than 10 µs are not taken; readings that are
missing leave them, with slub and source 0x21A; a limiter that opens makes OVERLOAD, and its test closes it or starts the 100 ms again. -/
def Obligations.LoopInputsAreClassified : Prop :=
  ∀ (s : State) (dt : Nat), s.ready →
    (∀ x : LioReadings, s.lio.wait = true → s.fieldUp = true → s.clock + dt - s.lio.capAt ≤ 10000 →
      Answers (.captureReadingsArrival dt x) s (fun t =>
        t.lio.wait = false ∧ t.regs.live = s.regs.live ∧
        (∀ n, n < 16 →
          let c := currentMa (x.ins.getD n 0) (s.fld (liBase n) 8 16)
          let k := classOf (s.fld (liBase n) 0 2) (s.loopIn n).openAt.isSome c
          (t.loopIn n).reading = fOf c ∧ (t.loopIn n).cls = k ∧ (t.loopIn n).missing = false ∧
          (t.loopIn n).openAt = (s.loopIn n).openAt ∧
          (classFailed k ≠ classFailed (s.loopIn n).cls → s.raises t (0x200 + n))) ∧
        ∀ n, n < 8 → (t.loopOut n).rbv = currentOf (x.rbs.getD n 0) (s.fld (loBase n) 16 16) ∧
          (t.loopOut n).cmd = (s.loopOut n).cmd)) ∧
    (∀ x : LioReadings, s.fieldUp = true → s.lio.wait = false ∨ 10000 < s.clock + dt - s.lio.capAt →
      Answers (.captureReadingsArrival dt x) s (fun t => t = { s.elapse dt with fa := t.fa })) ∧
    (s.lio.wait = true → 10000 ≤ s.clock + dt - s.lio.capAt →
      Answers (.captureReadingsTimeout dt) s (fun t =>
        t = { s.elapse dt with lio := t.lio, tw := t.tw, rep := t.rep } ∧ t.lio.wait = false ∧ t.lio.missing = true ∧
        s.raises t 0x21A ∧ s.logs t 0x1205 (if s.fieldUp = true then 1 else 3) 0 0 ∧
        (∀ n, n < 16 → t.loopIn n = { s.loopIn n with missing := true }) ∧
        ∀ n, n < 8 → t.loopOut n = { s.loopOut n with runA := 0, runB := 0 } ∧ s.counts t (5472 + 4 * n) 1)) ∧
    ∀ n : Fin 16,
      let v := s.loopIn n.val
      let k := if s.fld (liBase n.val) 0 2 = 0 then v.cls else 6
      let opened := fun (t : State) =>
        t = { s.elapse dt with lio := t.lio, rep := t.rep } ∧ t.lio.outs = s.lio.outs ∧
        t.loopIn n.val = { v with openAt := some (s.clock + dt), test := false, cls := k } ∧
        (∀ m, m ≠ n.val → t.loopIn m = s.loopIn m) ∧ s.counts t (5440 + 2 * n.val) 1
      (v.openAt = none → Answers (.limiterOpen dt n) s opened) ∧
      (v.test = true →
        Answers (.limiterTest dt n true) s opened ∧
        Answers (.limiterTest dt n false) s (fun t =>
          t = { s.elapse dt with lio := t.lio } ∧ t.lio.outs = s.lio.outs ∧
          t.loopIn n.val = { v with openAt := none, test := false } ∧ ∀ m, m ≠ n.val → t.loopIn m = s.loopIn m))

/-- R262, R268 to R270, R272, Table 8.3: a command that arrives is in force with its DAC code and clears WATCHDOG and FIELD_RESET; headroom below
1.5 V sets COMP and 2.0 V clears it; miswiring and a low VLOOP block; the watchdog puts an output into its failure state; LO_CLEAR
and LO_LOCK are posted to the field die. -/
def Obligations.LoopOutputsFollowTheirEvents : Prop :=
  ∀ (s : State) (dt : Nat) (n : Fin 8), s.ready →
    let o := s.loopOut n.val
    let only := fun (t : State) => t = { s.elapse dt with lio := t.lio, rep := t.rep } ∧ t.lio.ins = s.lio.ins ∧
      ∀ m, m ≠ n.val → t.loopOut m = s.loopOut m
    (∀ c, o.sent = some c → s.fieldUp = true →
      Answers (.outputCommandArrival dt n) s (fun t =>
        t = { s.elapse dt with lio := t.lio, fa := { s.fa with field := t.fa.field, xfers := t.fa.xfers } } ∧
        t.lio.ins = s.lio.ins ∧ (∀ m, m ≠ n.val → t.loopOut m = s.loopOut m) ∧
        t.fa.xfers = s.fa.xfers.filter (fun x => decide (x.kind ≠ .output n.val)) ∧
        (t.loopOut n.val).cmd = c ∧ (∀ w, c = some w → (t.loopOut n.val).code = dacOf w) ∧
        (t.loopOut n.val).sent = none ∧ (t.loopOut n.val).cmdAt = s.clock + dt ∧
        (t.loopOut n.val).causes = o.causes.filter (fun x => decide (x ≠ 3) && decide (x ≠ 4)))) ∧
    (∀ mv : Nat,
      (mv < 1500 → o.comp = false →
        Answers (.complianceChange dt n mv) s (fun t =>
          only t ∧ t.loopOut n.val = { o with comp := true } ∧ s.counts t (5474 + 4 * n.val) 1 ∧
          (s.rep.first.contains 0x218 = false → s.raises t 0x218))) ∧
      (2000 ≤ mv → Answers (.complianceChange dt n mv) s (fun t => only t ∧ t.loopOut n.val = { o with comp := false })) ∧
      Answers (.vloopBelow3V dt mv) s (fun t =>
        t = { s.elapse dt with lio := { s.lio with vlow := decide (mv < 3000) } } ∧
        (mv < 3000 → s.loMode n.val = 1 → s.acts = true → o.modeWait = false → t.outState n.val = .blocked))) ∧
    (∀ vout vrtn vloop : Int,
      Answers (.outputMiswiring dt n vout vrtn vloop) s (fun t =>
        only t ∧
        (s.loMode n.val = 1 → vloop + 300 < vout → (t.loopOut n.val).above = true) ∧
        (vout ≤ vloop - 300 → (t.loopOut n.val).above = false) ∧
        (vrtn ≤ vout → (t.loopOut n.val).reverse = false) ∧
        (s.loMode n.val = 2 → vout < vrtn → (t.loopOut n.val).reverse = true) ∧
        ((t.loopOut n.val).above = true ∧ o.above = false ∨ (t.loopOut n.val).reverse = true ∧ o.reverse = false →
          s.raises t (0x210 + n.val)))) ∧
    (s.fld (loBase n.val + 8) 8 8 * 1000000 ≤ s.clock + dt - o.cmdAt → o.causes.contains 3 = false →
      Answers (.outputWatchdog dt n) s (fun t =>
        only t ∧ (t.loopOut n.val).causes = o.causes ++ [3] ∧ (t.loopOut n.val).failed = true ∧
        (o.causes = [] → s.raises t (0x210 + n.val) ∧ s.logs t 0x0705 n.val 3 0) ∧ s.counts t (5475 + 4 * n.val) 1)) ∧
    ∀ w : Wr,
      (s.passes 0xA1800 w →
        Answers (.loClear dt w) s (fun t => t = { s.elapse dt with fa := t.fa } ∧
          t.fa.posted = some { seq := s.fa.seq + 1, off := 0xA1800, data := w.data })) ∧
      (s.passes 0xA1804 w →
        Answers (.loLock dt w) s (fun t => t = { s.elapse dt with fa := t.fa } ∧
          t.fa.posted = some { seq := s.fa.seq + 1, off := 0xA1804, data := w.data }))

/-! ## Twist engine -/

/-- R30, R34, R36, R59, R204, R218, R220, R225, R262: the points of a turn come at their offsets, once in the turn: the capture point
raises 0x041, takes TRIP_IN, copies the newest frame that belongs to its snapshot and begins the conversions; the agreement window
ends; the twist window makes exactly the loops due whose period and phase meet the turn number, in RUN, and leaves no lane idle
while one may start; the release point raises 0x042 and sends every output its command. -/
def Obligations.PointsOfATurn : Prop :=
  ∀ s : State, s.ready →
    let at_ := fun (t : State) (us : Nat) =>
      let d := (s.offsetAt us - s.now).toNat
      d ≠ 0 → d < 2 ^ 63 → t.now = s.offsetAt us ∧ t.clock = s.clock + s.refTime d
    (∀ pins : BitVec 4, s.tm.capDone = false →
      Answers (.capturePoint pins) s (fun t =>
        at_ t s.capUs ∧ t.tm.capDone = true ∧ s.raises t 0x041 ∧ t.pl.tripIn = pins.toNat ∧ t.lio.wait = true ∧
        t.lio.capAt = t.clock ∧ t.regs.live = s.regs.live ∧ (∀ n, n < 8 → Tbl.lookD t.tw.feeds n {} = (s.feed n).pub) ∧
        (∀ c, c < 16 → (t.line c).errs = 0) ∧
        let cut := s.offsetAt s.capUs - 2000
        t.tm.cut = some cut ∧ ((s.tw.slots.map (·.1)).Nodup →
          ∀ k i b, (s.twSlot k).held = some i → (∀ j, j ≠ k → (s.twSlot j).held ≠ some i) → s.bob i = some b →
            (earlier b.time cut = true → b.poison = false → (∀ c, s.tm.cut = some c → earlier b.time c = false) →
              t.twSlot k = { held := none, snap := some b.frame, age := 0 }) ∧
            (earlier b.time cut = true → b.poison = true → (s.twSlot k).prior = none →
              (t.twSlot k).held = none ∧ (t.twSlot k).snap = (s.twSlot k).snap) ∧
            (earlier b.time cut = false → (t.twSlot k).held = some i)))) ∧
    (s.tm.agreeDone = false →
      Answers .agreementWindowEnd s (fun t =>
        at_ t (s.capUs + s.agreeUs) ∧ t.tm.agreeDone = true ∧ t.regs.live = s.regs.live ∧
        (s.plyMember = false → t.pl = s.pl ∧ t.tw = s.tw))) ∧
    (s.tm.twistDone = false →
      Answers .twistWindowStart s (fun t =>
        at_ t s.twistUs ∧ t.tm.twistDone = true ∧ t.regs = s.regs ∧ t.tw.startAt = t.clock ∧ t.rep = s.rep ∧
        (s.dev.st = .run → ∀ k, loopOn s.regs.live k = true → k ∈ loopsOf s.regs.live →
          (s.tm.turn.toNat % 2 ^ periodOf s.regs.live k = phaseOfLoop s.regs.live k →
            (t.loop k).due = true ∧ (t.loop k).eval = none) ∧
          (s.tm.turn.toNat % 2 ^ periodOf s.regs.live k ≠ phaseOfLoop s.regs.live k → t.loop k = s.loop k)) ∧
        (s.dev.st = .run → ∀ l ∈ t.tw.lanes, Tbl.look t.tw.running l = none →
          ∀ k ∈ loopsOf s.regs.live, t.mayStart k = false) ∧
        (s.dev.st ≠ .run → t.tw.loops = s.tw.loops))) ∧
    (s.tm.releaseDone = false →
      Answers .releasePoint s (fun t =>
        at_ t s.releaseUs ∧ t.tm.releaseDone = true ∧ s.raises t 0x042 ∧ t.regs.live = s.regs.live ∧
        ∀ n, n < 8 → (t.loopOut n).modeWait = false ∧
          (t.loopOut n).sent = (if s.fieldUp = true then some (t.command n) else none))) ∧
    ((s.tm.capDone = true → ∀ pins, Answers (.capturePoint pins) s (fun t => t = s.advanceTo (s.offsetAt s.capUs))) ∧
      (s.tm.agreeDone = true →
        Answers .agreementWindowEnd s (fun t => t = s.advanceTo (s.offsetAt (s.capUs + s.agreeUs)))) ∧
      (s.tm.twistDone = true → Answers .twistWindowStart s (fun t => t = s.advanceTo (s.offsetAt s.twistUs))) ∧
      (s.tm.releaseDone = true → Answers .releasePoint s (fun t => t = s.advanceTo (s.offsetAt s.releaseUs))))

/-- R220, R221, R230, R233, R237, R243, R245, R248: the evaluation of a loop that a lane runs completes, changes no other loop, and leaves
no lane idle while a loop may start, which each lower loop whose output it reads must have finished for; each result replaced is
counted; at the release point a loop in AUTO publishes its OUT_STAGE value, one whose
STALE_EVALS-th stale evaluation it is enters FALLBACK with cause STALE, one not completed keeps its stages and its output and
counts, and at the third in a row enters FALLBACK with cause OVERRUN. (A single device.) -/
def Obligations.LoopsEvaluateAndPublish : Prop :=
  ∀ (s : State) (dt : Nat), s.ready → s.dev.st = .run → s.plyMember = false →
    (∀ k : Fin 256,
      let v := s.loop k.val
      (s.runs k.val = false → Answers (.loopEvaluationComplete dt k) s (fun t => t = s.elapse dt)) ∧
      (s.runs k.val = true → v.dead = false → Answers (.loopEvaluationComplete dt k) s (fun t =>
        t = { s.elapse dt with tw := t.tw, rep := t.rep } ∧ (∀ j, j ≠ k.val → t.loop j = s.loop j) ∧
        ∃ e, t.loop k.val = { v with eval := some e, taps := (t.loop k.val).taps } ∧
          e.vals.length = stagesOf s.regs.live k.val ∧
          (0 < e.replaced → s.counts t (4096 + 4 * k.val) e.replaced ∧ (s.rep.first.contains 0x222 = false → s.raises t 0x222)) ∧
          (s.tw.opened = true → ∀ l ∈ t.tw.lanes, Tbl.look t.tw.running l = none →
            ∀ i ∈ loopsOf s.regs.live, t.mayStart i = false)))) ∧
    (∀ i, s.mayStart i = true →
      ∀ j ∈ readsOf s.regs.live i, (s.loop j).due = true → (s.loop j).mode ≠ .off → (s.loop j).eval.isSome = true) ∧
    (s.tm.releaseDone = false → (loopsOf s.regs.live).Nodup →
      Answers .releasePoint s (fun t => ∀ k ∈ loopsOf s.regs.live,
        let v := s.loop k
        let w := t.loop k
        (∀ e, k ∉ s.abandonedLoops → v.mode = .auto → v.eval = some e →
          let y := e.val (outStageOf s.regs.live k)
          w.stages = e.stages ∧ w.stale = y.2 ∧ w.ovrRun = 0 ∧ w.due = false ∧ w.eval = none ∧
          (y.2 = false → w.mode = .auto ∧ w.out = y.1 ∧ w.outStale = false ∧ w.staleRun = 0) ∧
          (y.2 = true → v.staleRun + 1 < staleEvalsOf s.regs.live k → w.mode = .auto ∧ w.staleRun = v.staleRun + 1 ∧
            w.out = y.1 ∧ w.outStale = true) ∧
          (y.2 = true → staleEvalsOf s.regs.live k ≤ v.staleRun + 1 →
            w.mode = .fallback ∧ w.cause = 1 ∧ s.raises t (0x230 + k / 8))) ∧
        (k ∈ s.abandonedLoops → s.raises t 0x220 ∧ s.counts t (4096 + 4 * k + 1) 1 ∧ w.stages = v.stages ∧ w.due = false ∧
          w.ovrRun = min 3 (v.ovrRun + 1) ∧ (v.mode = .auto ∧ v.ovrRun < 2 → w.mode = .auto ∧ w.out = v.out) ∧
          (v.mode = .auto ∧ 2 ≤ v.ovrRun → w.mode = .fallback ∧ w.cause = 2)) ∧
        (v.mode = .off → w.mode = .off ∧ w.out = v.out)))

/-- R32, R231, R241, R251: LOOP_MODE and LOOP_PARAM wait for the next boundary; the boundary applies a mode and its manual value
and clears the latches of the loop; a lane that fails leaves at once, with slub and source, and the spare is to enter. (A
single device.) -/
def Obligations.LoopDescriptorsWaitForTheBoundary : Prop :=
  ∀ (s : State) (dt : Nat), s.plyMember = false →
    (∀ (d : Desc) (b : LoopModeBody), s.admits d →
      Answers (.loopMode dt d b) s (fun t =>
        t = { s.elapse dt with tw := { s.tw with cmds := s.tw.cmds ++ [(d, .loopMode b)] }, rep := t.rep })) ∧
    (∀ (d : Desc) (b : LoopParamBody), s.admits d →
      Answers (.loopParam dt d b) s (fun t =>
        t = { s.elapse dt with tw := { s.tw with cmds := s.tw.cmds ++ [(d, .loopParam b)] }, rep := t.rep })) ∧
    (∀ (d : Desc) (b : LoopModeBody), s.ready → s.dev.st = .run → s.regs.phase = .idle →
      s.holds = [] → s.tw.cmds = [(d, .loopMode b)] → loopOn s.regs.live b.loop.val = true → b.mode ≠ 3 → fFinite b.man = true →
      Answers .turnBoundary s (fun t =>
        t.tw.cmds = [] ∧ (t.loop b.loop.val).mode = loopMdOf b.mode.toNat ∧ (t.loop b.loop.val).cause = 0 ∧
        (b.mode = 2 → (t.loop b.loop.val).man = b.man) ∧
        ∀ i, (Tbl.lookD (t.loop b.loop.val).stages i {}).latch = false)) ∧
    ∀ lane : Fin 5, s.ready → lane.val ∈ s.tw.lanes →
      Answers (.laneFailure dt lane) s (fun t =>
        t = { s.elapse dt with tw := t.tw, rp := t.rp, rep := t.rep } ∧ lane.val ∉ t.tw.lanes ∧ s.raises t 0x224 ∧
        (∀ l, l ≠ lane.val → (l ∈ t.tw.lanes ↔ l ∈ s.tw.lanes)) ∧ t.tw.loops = s.tw.loops ∧
        (∀ x, s.tw.spare = some x → t.tw.joining = some x ∧ t.tw.spare = none) ∧
        (s.tw.spare = none → (4, lane.val) ∈ t.rp.exhausted))

/-! ## Host rings -/

/-- R334, R335, R342, R356, R513: a descriptor behind a FENCE with HOLD waits for it; else its port's ownership is checked, then its
reserved fields, then SAFE, and the first failing check completes it with nothing else done (but that the read of a value line starts
when its STREAM_DATA is fetched, R338); NOP completes OK for either port. A
FENCE whose turn has begun completes with the time of the boundary; one for a turn to come is kept; one too far off is
MALFORMED. -/
def Obligations.DescriptorsAreChecked : Prop :=
  (∀ (c : Instr) (s : State) (dt : Nat) (d : Desc) (b : DescBody), s.ready → c.descriptor = some (dt, d, b) →
    let plain := ∀ x, b ≠ .data x
    let streams := fun (t : State) => { s.dr with streams := t.dr.streams }
    let only := fun (st : Nat) =>
      Answers c s (fun t =>
        t = { s.elapse dt with rep := t.rep, dr := streams t } ∧ (plain → t.dr = s.dr) ∧
        s.completes t d { complOf d b.opcode st with stream := b.subject })
    (s.fenced d.port d.distaff = true →
      Answers c s (fun t =>
        t = { s.elapse dt with holds := s.holds ++ [{ desc := d, body := b }], rep := t.rep, dr := streams t } ∧
        (plain → t.dr = s.dr ∧ t.rep.out = s.rep.out))) ∧
    (s.fenced d.port d.distaff = false → s.canComplete d →
      (b.opcode ≠ 0 → s.ow.owner ≠ some d.port → only 3) ∧
      (b.opcode = 0 ∨ s.ow.owner = some d.port → d.resv = true → only 2) ∧
      (s.ow.owner = some d.port → d.resv = false → s.dev.st = .safe → refusedInSafe b.opcode = true → only 2) ∧
      (b = .nop → d.resv = false → d.cmpl = true → only 0)) ∧
    (s.fenced d.port d.distaff = false → b = .nop → d.resv = false → d.cmpl = false →
      Answers c s (fun t => t = { s.elapse dt with rep := t.rep } ∧ t.rep.out = s.rep.out))) ∧
  ∀ (s : State) (dt : Nat) (d : Desc) (turn : BitVec 48) (hold : Bool), s.admits d →
    (s.turnBegun turn = true → s.canComplete d → d.cmpl = true →
      Answers (.fence dt d turn hold) s (fun t =>
        t = { s.elapse dt with rep := t.rep } ∧
        s.completes t d { complOf d 11 0 with turn := turn, timeA := s.tm.bound })) ∧
    (s.turnBegun turn = false → (turn - s.tm.turn).toNat ≤ 2 ^ 32 →
      Answers (.fence dt d turn hold) s (fun t =>
        t = { s.elapse dt with fences := s.fences ++ [{ desc := d, turn := turn, hold := hold }], rep := t.rep })) ∧
    (s.turnBegun turn = false → 2 ^ 32 < (turn - s.tm.turn).toNat → s.canComplete d →
      Answers (.fence dt d turn hold) s (fun t =>
        t = { s.elapse dt with rep := t.rep } ∧ s.completes t d (complOf d 11 2)))

/-- R325, R327, R328, R330, R331, R336, R364: a poll reads the summary line, SK_CONS of each full skein, and at every SWEEP-th poll
DS_PROD of every enabled distaff; the summary starts the DS_PROD reads of distaffs that differ; an index read is taken, stalls its
distaff with cause INDEX beyond the ring, or is ignored for a skein; the descriptor that was read first advances DS_CONS and is
offered, once its payload is read where it has one, and one read after it waits for it. After each of them the engine reads on. -/
def Obligations.HostReadsFillTheRings : Prop :=
  ∀ (s : State) (dt : Nat) (p : Port), s.ready →
    let q := s.port p
    let now := s.clock + dt
    let room := s.outReads p + q.sk.length + q.ds.length < 64
    let only := fun (t : State) => t = { s.elapse dt with rep := t.rep, dr := { s.dr with streams := t.dr.streams } }
    (q.portEn = true → q.canWrite = true → q.sumBusy = false → (q.polls = 0 ∨ q.pollAt + q.poll * 100 ≤ now) → room →
      Answers (.summaryPoll dt p) s (fun t =>
        t = { s.elapse dt with rep := t.rep } ∧ t.port p.other = s.port p.other ∧
        s.putsOut t (.hostRead p .summary q.dbAddr) ∧ (t.port p).polls = q.polls + 1 ∧ (t.port p).sumBusy = true ∧
        (t.port p).sumAt = now ∧
        (∀ k : Fin 128, q.serves (q.skn k.val) = true → (q.skn k.val).reading = [] → (q.skn k.val).free = 0 →
          s.putsOut t (.hostRead p (.skCons k) (q.readAddr (.skCons k)))) ∧
        ((q.polls + 1) % q.sweep ≠ 0 → (t.port p).ds = q.ds) ∧
        ((q.polls + 1) % q.sweep = 0 → ∀ d : Fin 128, q.serves (q.dsr d.val) = true →
          s.putsOut t (.hostRead p (.dsProd d) (q.readAddr (.dsProd d)))))) ∧
    (q.portEn = false ∨ q.canWrite = false ∨ q.sumBusy = true ∨ s.readRoom p = false ∨
        (q.polls ≠ 0 ∧ now < q.pollAt + q.poll * 100) →
      Answers (.summaryPoll dt p) s (fun t => t = s.elapse dt)) ∧
    (∀ (sum : BitVec 128) (gen : Word), q.portEn = true → q.canWrite = true → q.sumBusy = true →
      (q.inTime now q.sumAt = true → room →
        Answers (.summaryReadComplete dt p sum gen) s (fun t =>
          only t ∧ (t.port p).summary = sum ∧ (t.port p).gen = gen ∧ (t.port p).sumBusy = false ∧ (t.port p).sumFails = 0 ∧
          (t.port p).genAt = (if gen = q.gen then q.genAt else now) ∧
          ∀ d : Fin 128, q.serves (q.dsr d.val) = true → (sum ^^^ q.summary).getLsbD d.val = true →
            s.putsOut t (.hostRead p (.dsProd d) (q.readAddr (.dsProd d))))) ∧
      (q.inTime now q.sumAt = false → Answers (.summaryReadComplete dt p sum gen) s (fun t => t = s.elapse dt))) ∧
    (∀ (d : Fin 128) (prod : Word) a rest, q.serves (q.dsr d.val) = true → (q.dsr d.val).reading = a :: rest →
      q.inTime now a = true →
      let g := q.dsr d.val
      (2 ^ g.log2 < (prod - g.own).toNat →
        Answers (.dsProdReadComplete dt p d prod) s (fun t =>
          t = { s.elapse dt with holds := t.holds, rep := t.rep, dr := { s.dr with streams := t.dr.streams } } ∧
          ((t.port p).dsr d.val).st = .stalled ∧
          ((t.port p).dsr d.val).err = 3 ∧ s.raises t 0x340 ∧ s.logs t 0x0902 (stallD0 p false d.val) 3 prod.toNat)) ∧
      ((prod - g.own).toNat ≤ 2 ^ g.log2 →
        Answers (.dsProdReadComplete dt p d prod) s (fun t =>
          only t ∧ ((t.port p).dsr d.val).peer = prod ∧ ((t.port p).dsr d.val).own = g.own ∧
          ((t.port p).dsr d.val).st = g.st ∧ (g.wantProd = false → ((t.port p).dsr d.val).reading = rest) ∧
          (q.ds = [(d.val, g)] → g.wantProd = false → g.fetched = [] → q.valueWait = [] → s.readRoom p = true →
            s.loading = false → q.serves (q.skn g.cskein) = true → 0 < (q.skn g.cskein).free →
            g.flight.length < (prod - g.own).toNat →
            s.putsOut t (.hostRead p (.desc d g.flight.length) (g.slotAddr (g.own + BitVec.ofNat 32 g.flight.length) 64)))))) ∧
    (∀ (k : Fin 128) (cons : Word) a rest, q.serves (q.skn k.val) = true → (q.skn k.val).reading = a :: rest →
      q.inTime now a = true →
      let g := q.skn k.val
      ((cons - g.peer).toNat ≤ g.used →
        Answers (.skConsReadComplete dt p k cons) s (fun t =>
          only t ∧ ((t.port p).skn k.val).peer = cons ∧ ((t.port p).skn k.val).reading = [])) ∧
      (g.used < (cons - g.peer).toNat →
        Answers (.skConsReadComplete dt p k cons) s (fun t =>
          only t ∧ ((t.port p).skn k.val).peer = g.peer ∧ ((t.port p).skn k.val).own = g.own ∧
          ((t.port p).skn k.val).reading = [] ∧ s.counts t (5184 + 64 * p.idx + 3) 1))) ∧
    (∀ (d : Fin 128) (ws : List Word) f rest, q.serves (q.dsr d.val) = true → (q.dsr d.val).flight = f :: rest →
      f.words = none → q.inTime now f.at_ = true → (∀ y ∈ rest, y.words = none) → (q.dsr d.val).fetched = [] →
      let g := q.dsr d.val
      let x : Fetched := { index := g.own, words := ws, wantsPay := false }
      let h := descHead p d g.own ws
      let b := descBody ws []
      (x.needsPay = true → s.readRoom p = true →
        Answers (.descriptorFetched dt p d { k := 0, words := ws }) s (fun t =>
          only t ∧ s.putsOut t (.dsCons p d.val (g.own + 1) (q.consAddr d.val)) ∧
          s.putsOut t (.hostRead p (.payload d) (descWide ws 4)) ∧
          ((t.port p).dsr d.val).own = g.own + 1 ∧ ((t.port p).dsr d.val).fetched = [{ x with wantsPay := true }])) ∧
      (x.needsPay = false → s.fenced p d = false → s.canComplete h →
        ∀ st, (b.opcode ≠ 0 ∧ s.ow.owner ≠ some p ∧ st = 3) ∨ (s.ow.owner = some p ∧ 14 ≤ b.opcode ∧ st = 8) ∨
            (b = .nop ∧ h.resv = false ∧ h.cmpl = true ∧ st = 0) →
          Answers (.descriptorFetched dt p d { k := 0, words := ws }) s (fun t =>
            only t ∧ s.putsOut t (.dsCons p d.val (g.own + 1) (q.consAddr d.val)) ∧
            ((t.port p).dsr d.val).own = g.own + 1 ∧ s.completes t h { complOf h b.opcode st with stream := b.subject }))) ∧
    (∀ (d : Fin 128) (k : Nat) (ws : List Word) f f0, 0 < k → q.serves (q.dsr d.val) = true →
      (q.dsr d.val).flight[0]? = some f0 → f0.words = none → (q.dsr d.val).flight[k]? = some f → f.words = none →
      q.inTime now f.at_ = true →
      Answers (.descriptorFetched dt p d { k := k, words := ws }) s (fun t =>
        only t ∧ ((t.port p).dsr d.val).own = (q.dsr d.val).own ∧ ((t.port p).dsr d.val).fetched = (q.dsr d.val).fetched ∧
        ((t.port p).dsr d.val).flight[k]? = some { f with words := some ws })) ∧
    ∀ (d : Fin 128) (data : List Byte) (x : Fetched) a, q.serves (q.dsr d.val) = true → (q.dsr d.val).fetched = [x] →
      x.wantsPay = true → (q.dsr d.val).payAt = some a → q.inTime now a = true →
      let h := descHead p d x.index x.words
      let b := descBody x.words (fitBytes 64 data)
      (s.fenced p d = true →
        Answers (.payloadReadComplete dt p d data) s (fun t =>
          t = { s.elapse dt with
                holds := s.holds ++ [{ desc := h, body := b }], rep := t.rep, dr := { s.dr with streams := t.dr.streams } } ∧
          ((t.port p).dsr d.val).fetched = [])) ∧
      (s.fenced p d = false → s.ow.owner ≠ some p → b.opcode ≠ 0 → s.canComplete h →
        Answers (.payloadReadComplete dt p d data) s (fun t =>
          only t ∧ ((t.port p).dsr d.val).fetched = [] ∧
          s.completes t h { complOf h b.opcode 3 with stream := b.subject }))

/-- R320, R336, R347, R350: a read of host memory that fails, or that CPL_TMO has run out for, is counted; summary, DS_PROD and SK_CONS
reads are not retried, three failed summaries in a row write a slub; a descriptor or payload read is issued three times in all, and
then its distaff stalls with cause TIMEOUT or ERROR, source 0x340 and a slub. -/
def Obligations.FailedReadsAreRetriedOrStall : Prop :=
  ∀ (s : State) (dt : Nat) (p : Port) (w : HostRead) (c : Instr) (err : Nat), s.ready →
    (c = .readTimeout dt p w ∧ err = 1) ∨ (c = .readError dt p w ∧ err = 2) →
    let q := s.port p
    let fails := fun (a : Nat) => err = 2 ∨ a + q.cplTmo * 1000 ≤ s.clock + dt
    let only := fun (t : State) =>
      t = { s.elapse dt with rep := t.rep, dr := { s.dr with streams := t.dr.streams } } ∧ s.counts t (5184 + 64 * p.idx + 1) 1
    let stalls := fun (t : State) (d : Fin 128) (idx : Word) =>
      t = { s.elapse dt with holds := t.holds, rep := t.rep, dr := { s.dr with streams := t.dr.streams } } ∧
      ((t.port p).dsr d.val).st = .stalled ∧
      ((t.port p).dsr d.val).err = err ∧ s.raises t 0x340 ∧ s.logs t 0x0902 (stallD0 p false d.val) err idx.toNat
    (w = .summary → q.sumBusy = true → fails q.sumAt →
      Answers c s (fun t =>
        only t ∧ (t.port p).sumBusy = false ∧ (t.port p).sumFails = (if q.sumFails = 2 then 0 else q.sumFails + 1) ∧
        (q.sumFails = 2 → s.logs t 0x0903 p.idx 0 0) ∧ (t.port p).genAt = q.genAt)) ∧
    (∀ d a rest, w = .dsProd d → (q.dsr d.val).reading = a :: rest → (q.dsr d.val).wantProd = false → fails a →
      Answers c s (fun t =>
        only t ∧ ((t.port p).dsr d.val).reading = rest ∧ ((t.port p).dsr d.val).peer = (q.dsr d.val).peer ∧
        ((t.port p).dsr d.val).st = (q.dsr d.val).st)) ∧
    (∀ k a rest, w = .skCons k → (q.skn k.val).reading = a :: rest → fails a →
      Answers c s (fun t =>
        only t ∧ ((t.port p).skn k.val).reading = [] ∧ ((t.port p).skn k.val).peer = (q.skn k.val).peer)) ∧
    (∀ d k x, w = .desc d k → (q.dsr d.val).flight[k]? = some x → x.words = none → fails x.at_ →
      (x.tries < 2 →
        Answers c s (fun t =>
          only t ∧ ((t.port p).dsr d.val).flight[k]? = some { x with tries := x.tries + 1, at_ := s.clock + dt } ∧
          s.putsOut t (.hostRead p (.desc d k) ((q.dsr d.val).slotAddr ((q.dsr d.val).own + BitVec.ofNat 32 k) 64)))) ∧
      (2 ≤ x.tries → (q.dsr d.val).st = .running →
        Answers c s (fun t => stalls t d ((q.dsr d.val).own + BitVec.ofNat 32 k)))) ∧
    ∀ d x rest a, w = .payload d → (q.dsr d.val).fetched = x :: rest → x.wantsPay = true → (q.dsr d.val).payAt = some a → fails a →
      ((q.dsr d.val).payTries < 2 →
        Answers c s (fun t =>
          only t ∧ ((t.port p).dsr d.val).payTries = (q.dsr d.val).payTries + 1 ∧
          ((t.port p).dsr d.val).payAt = some (s.clock + dt) ∧
          s.putsOut t (.hostRead p (.payload d) (descWide x.words 4)))) ∧
      (2 ≤ (q.dsr d.val).payTries → (q.dsr d.val).st = .running → Answers c s (fun t => stalls t d x.index))

/-- R314, R349, R357, R365, R379, R550: link down, Bus Master cleared (each of the others clears it with itself, log 7), function level
reset and PERST_N stall every running ring
of the port and end its ownership; all but the second empty its stack; the resets return its settings and its candidacy, and
touch no key. With Bus Master set again a request that waits is sent. -/
def Obligations.PortsLeaveService : Prop :=
  ∀ (s : State) (dt : Nat) (p : Port), s.ready →
    let q := s.port p
    let halted := fun (t : State) =>
      t = { s.elapse dt with ow := t.ow, holds := t.holds, rep := t.rep } ∧
      (∀ k, ((t.port p).dsr k).st = (if (q.dsr k).st = .running then .stalled else (q.dsr k).st)) ∧
      (∀ k, ((t.port p).skn k).st = (if (q.skn k).st = .running then .stalled else (q.skn k).st)) ∧
      (t.port p).busMaster = false ∧
      (s.ow.owner = some p →
        t.ow.owner = (if s.ow.cand p.other then some p.other else none) ∧ t.ow.lapse = 2 ∧ t.ow.cand p = false ∧
        s.raises t 0x054)
    let reset := fun (t : State) =>
      halted t ∧ (t.port p).stack = [] ∧ (t.port p).outstanding = false ∧ (t.port p).hold = false ∧
      (t.port p).portEn = false ∧ (t.port p).dbAddr = 0 ∧ (t.port p).stAddr = 0 ∧ (t.port p).ringFmt = 0 ∧
      (t.port p).reportEvery = 0 ∧
      (∀ k, ((t.port p).dsr k).en = false ∧ ((t.port p).dsr k).base = 0 ∧ ((t.port p).skn k).en = false ∧
        ((t.port p).skn k).base = 0 ∧ ((t.port p).skn k).notify = 0) ∧
      (s.ow.owner ≠ some p → t.ow = s.ow.setCand p false)
    Answers (.linkDown dt p) s (fun t =>
      halted t ∧ (t.port p).linkUp = false ∧ (t.port p).stack = [] ∧ (t.port p).outstanding = false ∧
      (t.port p).hold = false ∧ (t.port p).portEn = q.portEn ∧ (s.ow.owner ≠ some p → t.ow = s.ow)) ∧
    Answers (.busMasterDisable dt p) s (fun t =>
      halted t ∧ (t.port p).linkUp = q.linkUp ∧ (t.port p).stack = q.stack ∧ (t.port p).hold = q.hold ∧
      (t.port p).portEn = q.portEn ∧ (s.ow.owner ≠ some p → t.ow = s.ow)) ∧
    (Tbl.wf {} q.ds = true → Tbl.wf {} q.sk = true →
      Answers (.functionLevelReset dt p) s (fun t => reset t ∧ (t.port p).linkUp = q.linkUp) ∧
      Answers (.perstAssert dt p) s (fun t => reset t ∧ (t.port p).linkUp = false)) ∧
    Answers (.busMasterEnable dt p) s (fun t =>
      t = { s.elapse dt with rep := t.rep } ∧ (t.port p).busMaster = true ∧ (t.port p).linkUp = true ∧
      (t.port p).stack = q.stack ∧ (t.port p).portEn = q.portEn ∧
      (q.msixMask = false → q.msixPend = true ∨ (s.ctx.req q = true ∧ q.outstanding = false) →
        s.putsOut t (.msix p q.msixAddr q.msixData)))

/-- R314, R319 to R323, R348, R365: PORT_EN = 1 is taken with valid settings, else it is discarded and PORT_ERR names the
fault; settings written while the port or the ring is enabled are discarded, else they are taken; a ring enabled starts RUNNING from
index 0, its index written to the status page as soon as the port can write it, or stalls while Bus Master Enable is 0; one disabled
stalls with cause DISABLE and reads STOPPED; a coalesced notification fires at the end of its interval. -/
def Obligations.PortsAndRingsAreEnabled : Prop :=
  ∀ (s : State) (dt : Nat) (w : Wr), s.ready → w.be = 15 →
    let p := w.port
    let q := s.port p
    let fmt := fieldOf w.data 8 8
    let e := ({ q with ringFmt := fmt } : PortSt).enErr
    let g := q.selected
    let g1 := g.cfgWith q.ringKind w.data
    let only := fun (t : State) => t = { s.elapse dt with rep := t.rep }
    let served := fun (t : State) => t = { s.elapse dt with rep := t.rep, dr := { s.dr with streams := t.dr.streams } }
    let same := fun (x : PortSt) =>
      x.dbAddr = q.dbAddr ∧ x.stAddr = q.stAddr ∧ x.poll = q.poll ∧ x.sweep = q.sweep ∧ x.cplTmo = q.cplTmo ∧
      x.reportEvery = q.reportEvery ∧ x.reportSkein = q.reportSkein
    let sets := fun (off : Nat) (x : PortSt) => Answers (.registerWrite dt off w) s (fun t => only t ∧ t.port p = x)
    (q.portEn = true → ∀ off ∈ [0x2008, 0x200C, 0x2010, 0x2014, 0x2018, 0x201C, 0x2020],
      Answers (.registerWrite dt off w) s (fun t => s.discards t dt off w 8 ∧ same (t.port p))) ∧
    (q.portEn = false →
      sets 0x2008 { q with dbAddr := hi32 q.dbAddr ++ w.data } ∧ sets 0x200C { q with dbAddr := w.data ++ lo32 q.dbAddr } ∧
      sets 0x2010 { q with stAddr := hi32 q.stAddr ++ w.data } ∧ sets 0x2014 { q with stAddr := w.data ++ lo32 q.stAddr } ∧
      sets 0x2018 { q with poll := fieldOf w.data 0 9, sweep := fieldOf w.data 16 11 } ∧
      sets 0x201C { q with cplTmo := fieldOf w.data 0 16 } ∧
      sets 0x2020 { q with reportEvery := fieldOf w.data 0 16, reportSkein := fieldOf w.data 16 7 }) ∧
    sets 0x2040 { q with ringSel := fieldOf w.data 0 7, ringKind := bitOf w.data 7 } ∧
    (g.en = true → ∀ off ∈ [0x2044, 0x2048],
      Answers (.registerWrite dt off w) s (fun t => s.discards t dt off w 8 ∧ (t.port p).selected = g)) ∧
    (g.en = false →
      Answers (.registerWrite dt 0x2044 w) s (fun t => only t ∧ (t.port p).selected = { g with base := hi32 g.base ++ w.data }) ∧
      Answers (.registerWrite dt 0x2048 w) s (fun t => only t ∧ (t.port p).selected = { g with base := w.data ++ lo32 g.base })) ∧
    (q.portEn = false → bitOf w.data 0 = true → e = 0 → (∀ x ∈ q.ds, x.2.fetched = []) →
      Answers (.portEnWrite dt w) s (fun t =>
        served t ∧ (t.port p).portEn = true ∧ (t.port p).portErr = 0 ∧ (t.port p).ringFmt = fmt ∧
        (t.port p).genAt = s.clock + dt ∧
        ∀ k, (q.dsr k).owes = true → q.canWrite = true → s.putsOut t (.dsCons p k (q.dsr k).own (q.consAddr k)))) ∧
    (q.portEn = false → bitOf w.data 0 = true → e ≠ 0 →
      Answers (.portEnWrite dt w) s (fun t =>
        t = { s.elapse dt with regs := { s.regs with discOff := 0x2004, discPort := p, discReason := 10 }, rep := t.rep } ∧
        (t.port p).portEn = false ∧ (t.port p).portErr = e ∧ s.counts t (5184 + 64 * p.idx) 1)) ∧
    (q.portEn = true → bitOf w.data 0 = true → fmt ≠ q.ringFmt →
      Answers (.portEnWrite dt w) s (fun t => s.discards t dt 0x2004 w 8 ∧ (t.port p).portEn = true)) ∧
    (q.portEn = true → bitOf w.data 0 = false → fmt = q.ringFmt →
      Answers (.portEnWrite dt w) s (fun t => only t ∧ (t.port p).portEn = false ∧ (t.port p).sumBusy = false)) ∧
    (bitOf w.data 5 = true → g.en = false → g1.base.toNat % 4096 = 0 → 6 ≤ g1.log2 → g1.log2 ≤ 16 → q.canWrite = true →
      Answers (.ringEnable dt w) s (fun t =>
        served t ∧ (t.port p).selected.en = true ∧ (t.port p).selected.st = .running ∧ (t.port p).selected.log2 = g1.log2 ∧
        (t.port p).selected.err = 0 ∧ (q.ringKind = false → (t.port p).selected.own = 0 ∧ (t.port p).selected.peer = 0) ∧
        (q.portEn = true →
          s.putsOut t (if q.ringKind then .skProd p q.ringSel 0 (q.prodAddr q.ringSel)
            else .dsCons p q.ringSel 0 (q.consAddr q.ringSel))))) ∧
    (bitOf w.data 5 = true → g.en = false → g1.base.toNat % 4096 = 0 → 6 ≤ g1.log2 → g1.log2 ≤ 16 → q.canWrite = false →
      Answers (.ringEnable dt w) s (fun t =>
        t = { s.elapse dt with holds := t.holds, rep := t.rep } ∧ (t.port p).selected.st = .stalled ∧
        (t.port p).selected.err = 5 ∧ s.raises t 0x340)) ∧
    (bitOf w.data 5 = true → g.en = false → g1.base.toNat % 4096 ≠ 0 ∨ g1.log2 < 6 ∨ 16 < g1.log2 →
      Answers (.ringEnable dt w) s (fun t => s.discards t dt 0x204C w 10 ∧ (t.port p).selected = g1)) ∧
    (bitOf w.data 5 = false → g.en = false →
      Answers (.ringDisable dt w) s (fun t => only t ∧ (t.port p).selected = g1)) ∧
    (bitOf w.data 5 = true → g.en = true → g1 ≠ g →
      Answers (.ringEnable dt w) s (fun t => s.discards t dt 0x204C w 8 ∧ (t.port p).selected = g)) ∧
    (bitOf w.data 5 = false → g.en = true → g1 = g →
      Answers (.ringDisable dt w) s (fun t =>
        t = { s.elapse dt with holds := t.holds, rep := t.rep } ∧ (t.port p).selected.en = false ∧
        (g.st = .running → (t.port p).selected.st = .stopped ∧ (t.port p).selected.err = 4 ∧ s.raises t 0x340 ∧
          s.logs t 0x0902 (stallD0 p q.ringKind q.ringSel) 4 g.own.toNat) ∧
        (g.st ≠ .running → (t.port p).selected.st = g.st))) ∧
    ∀ (k : Fin 128), (q.skn k.val).deferred = true →
      (∀ a, (q.skn k.val).lastNotify = some a → a + (q.skn k.val).coal * 1000 ≤ s.clock + dt) →
      Answers (.skeinNotifyCoalesce dt p k) s (fun t =>
        t = { s.elapse dt with rep := t.rep } ∧ s.raises t (q.skn k.val).notify ∧
        (t.port p).skn k.val = { q.skn k.val with lastNotify := some (s.clock + dt), deferred := false })

/-! ## Ownership and whorl -/

/-- R355 to R366: a candidate takes an ownerless device in the cycle after its write; at the end of the election window and between two
writes of one cycle the straps decide; the owner hands over to the port that accepts within 100 ms, in the cycle after; a lapse
records its cause, clears the candidacy and cancels a handover, and the other candidate takes over. Each change of owner advances
OW_EPOCH and writes a slub, and each new owner raises 0x051. -/
def Obligations.OwnershipFollowsCandidacy : Prop :=
  ∀ (s : State) (dt : Nat), s.ready →
    let only := fun (t : State) => t = { s.elapse dt with ow := t.ow, rep := t.rep }
    let owned := fun (t : State) (p : Port) =>
      only t ∧ t.ow.owner = some p ∧ t.ow.epoch = s.ow.epoch + 1 ∧ t.ow.handover = none ∧ s.raises t 0x051 ∧
      s.logs t 0x0A02 t.owStatus.toNat t.ow.epoch.toNat 0
    let lapses := fun (t : State) (p : Port) (cause : Nat) =>
      only t ∧ t.ow.lapse = cause ∧ t.ow.cand p = false ∧ t.ow.cand p.other = s.ow.cand p.other ∧ t.ow.handover = none ∧
      t.ow.epoch = s.ow.epoch + 1 ∧ s.raises t 0x054 ∧ s.logs t 0x0A02 t.owStatus.toNat t.ow.epoch.toNat 0 ∧
      s.logsNext t 0x0A04 p.idx cause 0 ∧
      (s.ow.cand p.other = true → t.ow.owner = some p.other ∧ s.raises t 0x051) ∧
      (s.ow.cand p.other = false → t.ow.owner = none ∧ s.raises t 0x055)
    (∀ (c : Instr) (w : Wr), s.passes 0x2000 w →
      c = .candidacy dt w ∨ (c = .accept dt w ∧ bitOf w.data 1 = false) →
      let p := w.port
      let v := bitOf w.data 0
      (s.ow.owner = some p → v = false → Answers c s (fun t => lapses t p 3)) ∧
      ((s.ow.owner = some p ∧ v = true) ∨ s.ow.owner = some p.other →
        Answers c s (fun t => t = { s.elapse dt with ow := s.ow.setCand p v })) ∧
      (s.ow.owner = none →
        Answers c s (fun t => t = { s.elapse dt with ow := { s.ow.setCand p v with soon := v } }))) ∧
    (∀ (u : State) (k : Nat), u.up = true → u.settled → u.ow.electing = false →
      let next := fun (o : Port) =>
        Answers (.electionWindowEnd (k + 1)) u (fun t =>
          t.ow.owner = some o ∧ t.ow.epoch = u.ow.epoch + 1 ∧ t.steady ∧ t.ow.candA = u.ow.candA ∧ t.ow.candB = u.ow.candB ∧
          u.raises t 0x051 ∧ ∃ x, Tbl.look t.rep.log (u.rep.total.toNat % 4096) = some x ∧ x.code = 0x0A02)
      (∀ p, u.ow.taker = some p → u.ow.owner ≠ some p → next p) ∧
      (u.ow.taker = none → u.ow.soon = true → u.ow.owner = none → u.dev.st ≠ .selfTest →
        (u.ow.candA = true → u.ow.candB = false → next .a) ∧ (u.ow.candA = false → u.ow.candB = true → next .b) ∧
        (u.ow.candA = true → u.ow.candB = true → next (if u.dev.ownPrio then .b else .a)))) ∧
    (∀ w : Wr, s.passes 0x2000 w → bitOf w.data 1 = true →
      (s.ow.handover = some w.port → s.clock + dt ≤ s.ow.handAt + 100000000 → s.ow.owner ≠ some w.port →
        Answers (.accept dt w) s (fun t =>
          t = { s.elapse dt with
                ow := { s.ow.setCand w.port true with handover := none, taker := some w.port }, rep := t.rep } ∧
          s.raises t 0x052)) ∧
      (s.ow.handover ≠ some w.port ∨ s.ow.handAt + 100000000 < s.clock + dt →
        Answers (.accept dt w) s (fun t =>
          t = { s.elapse dt with
                ow := t.ow, rep := t.rep
                regs := { s.regs with discOff := 0x2000, discPort := w.port, discReason := 7 } } ∧
          s.counts t (5184 + 64 * w.port.idx) 1 ∧ t.ow.cand w.port = bitOf w.data 0 ∧
          (s.ow.owner = some w.port.other → t.ow = s.ow.setCand w.port (bitOf w.data 0))))) ∧
    (s.ow.electing = true → s.ow.owner = none → s.ow.handover = none → s.dev.st ≠ .selfTest → s.ow.electEnd ≤ s.clock + dt →
      Answers (.electionWindowEnd dt) s (fun t =>
        (s.ow.candA = true → s.ow.candB = true → owned t (if s.dev.ownPrio then .b else .a)) ∧
        (s.ow.candA = true → s.ow.candB = false → owned t .a) ∧
        (s.ow.candA = false → s.ow.candB = true → owned t .b) ∧
        (s.ow.candA = false → s.ow.candB = false → t = { s.elapse dt with ow := { s.ow with electing := false } }) ∧
        t.ow.electing = false ∧ t.ow.candA = s.ow.candA ∧ t.ow.candB = s.ow.candB)) ∧
    (s.ow.electing = false ∨ s.clock + dt < s.ow.electEnd →
      Answers (.electionWindowEnd dt) s (fun t => t = s.elapse dt)) ∧
    bitOf s.owStatus 3 = s.ow.handover.isSome ∧
    (∀ w : Wr, s.passes 0x3008 w → bitOf w.data 8 = true →
      let target : Port := if bitOf w.data 0 then .b else .a
      (w.port ≠ target → s.ow.handover = none →
        Answers (.handoverGo dt w) s (fun t =>
          t = { s.elapse dt with
                ow := { s.ow with handover := some target, handAt := s.clock + dt }
                regs := { s.regs with rwi := t.regs.rwi } } ∧
          bitOf t.owStatus 3 = true ∧ t.rwi 0x3008 = w.data &&& 1 ∧ ∀ o, o ≠ 0x3008 → t.rwi o = s.rwi o)) ∧
      (w.port = target → Answers (.handoverGo dt w) s (fun t => s.discards t dt 0x3008 w 10)) ∧
      (w.port ≠ target → s.ow.handover.isSome = true →
        Answers (.handoverGo dt w) s (fun t => s.discards t dt 0x3008 w 7))) ∧
    (s.ow.handover.isSome = true → s.ow.handAt + 100000000 ≤ s.clock + dt →
      Answers (.handoverTimeout dt) s (fun t =>
        t = { s.elapse dt with ow := { s.ow with handover := none }, rep := t.rep } ∧ s.raises t 0x053 ∧
        s.logs t 0x0A03 0 0 0)) ∧
    (s.ow.handover = none ∨ s.clock + dt < s.ow.handAt + 100000000 →
      Answers (.handoverTimeout dt) s (fun t => t = s.elapse dt)) ∧
    ∀ p, s.ow.owner = some p →
      let due := (s.port p).genAt + s.fld 0x3004 0 10 * 1000000
      ((s.port p).portEn = true → due ≤ s.clock + dt → Answers (.generationLapse dt) s (fun t => lapses t p 1)) ∧
      ((s.port p).portEn = false ∨ s.clock + dt < due → Answers (.generationLapse dt) s (fun t => t = s.elapse dt))

/-- R355, R371, R373 to R376, R378: a claim takes the pending source of the highest priority, the lower number among equals,
onto the stack, but for one that fired in its own cycle; a completion of the top entry pops it, any other is an order fault; HOLD keeps the request message back; a
doorbell fires the number written, within the range of its port; entries above AGE_MS old are force-completed. -/
def Obligations.WhorlPresentsSources : Prop :=
  ∀ (s : State) (dt : Nat), s.ready →
    let only := fun (t : State) => t = { s.elapse dt with rep := t.rep }
    let st := fun (u : State) (p : Port) (j : Nat) => Tbl.lookD (u.port p).src j SrcState.inactive
    let asks := fun (t : State) (q : PortSt) (p : Port) =>
      (t.port p).outstanding = (q.outstanding || (s.ctx.req q && q.canWrite)) ∧
      (q.outstanding = false → s.ctx.req q = true → q.canWrite = true → q.msixMask = false →
        s.putsOut t (.msix p q.msixAddr q.msixData))
    let kept := fun (t : State) (p : Port) => (t.port p).src = (s.port p).src ∧ (t.port p).stack = (s.port p).stack
    (∀ (r : Rd) (gone : Bool),
      let p := r.port
      let q := s.port p
      let reads := fun (t : State) (n : Nat) => only t ∧ s.putsOut t (.regRead p 0x4004 (BitVec.ofNat 32 n))
      let seen := fun (j : Nat) => st s p j = .pending ∧ ¬(q.freshAt = s.clock + dt ∧ q.fresh.contains j = true)
      (r.full = false → Answers (.whClaim dt r gone) s (fun t => reads t 0 ∧ t.port p = q ∧ t.port p.other = s.port p.other)) ∧
      (r.full = true → Tbl.wf .inactive q.src = true → (∀ j, ¬seen j) →
        Answers (.whClaim dt r gone) s (fun t =>
          reads t 0x3FF ∧ s.counts t (whCounter p 2) 1 ∧ (t.port p).stack = q.stack ∧
          ((∀ j, st s p j ≠ .pending) → s.rep.counter (whCounter p 2) + 1 < ctMax → t.port p = { q with outstanding := false }))) ∧
      (r.full = true → Tbl.wf .inactive q.src = true → (∃ j, seen j) → 64 ≤ q.stack.length →
        Answers (.whClaim dt r gone) s (fun t =>
          reads t 0x3FF ∧ s.counts t (whCounter p 6) 1 ∧ (t.port p).stack = q.stack ∧ s.logs t 0x0A05 p.idx 0 0)) ∧
      (r.full = true → Tbl.wf .inactive q.src = true → q.stack.length < 64 → ∀ i, seen i →
        (∀ j, seen j → s.ctx.prio j < s.ctx.prio i ∨ (s.ctx.prio j = s.ctx.prio i ∧ i ≤ j)) →
        let e : StackEntry := { src := i, prio := s.ctx.prio i, at_ := s.clock + dt }
        Answers (.whClaim dt r gone) s (fun t =>
          reads t i ∧ (t.port p).stack = q.stack ++ [e] ∧ (st t p i = .active ∨ st t p i = .activePending) ∧
          (Config.levelLike i = true → gone = true → s.counts t (whCounter p 4) 1) ∧
          (q.stack.length = 63 → s.raises t 0x003) ∧
          (q.stack.length < 63 → gone = false →
            st t p i = .active ∧ (∀ j, j ≠ i → st t p j = st s p j) ∧ kept t p.other ∧
            asks t { q with outstanding := false, src := (t.port p).src, stack := q.stack ++ [e] } p)))) ∧
    (∀ w : Wr, s.passes 0x4008 w →
      let p := w.port
      let q := s.port p
      let n := fieldOf w.data 0 10
      (∀ l e, q.stack = l ++ [e] → e.src = n →
        Answers (.whComplete dt w) s (fun t =>
          only t ∧ (t.port p).stack = l ∧
          st t p n = (match st s p n with | .active => .inactive | .activePending => .pending | x => x) ∧
          (∀ j, j ≠ n → st t p j = st s p j) ∧ kept t p.other ∧
          asks t { q with src := (t.port p).src, stack := l } p)) ∧
      (∀ d, (q.stack = [] ∧ d = 0x3FF) ∨ (∃ l e, q.stack = l ++ [e] ∧ e.src ≠ n ∧ d = e.src) →
        Answers (.whComplete dt w) s (fun t =>
          only t ∧ (t.port p).stack = q.stack ∧ s.counts t (whCounter p 3) 1 ∧ s.raises t 0x001 ∧
          s.logs t 0x0A06 p.idx n d))) ∧
    (∀ w : Wr, s.passes 0x400C w →
      let q := { s.port w.port with hold := bitOf w.data 0 }
      Answers (.whHold dt w) s (fun t =>
        only t ∧ (t.port w.port).hold = bitOf w.data 0 ∧ (t.port w.port).stack = q.stack ∧ (t.port w.port).src = q.src ∧
        asks t q w.port ∧ (bitOf w.data 0 = true → t.port w.port = q))) ∧
    (∀ w : Wr, s.passes 0x4000 w →
      let n := fieldOf w.data 0 10
      let may := (s.ow.owner = some w.port ∧ n < 0x3F0) ∨ (0x380 ≤ n ∧ n < 0x3F0)
      (may → Answers (.whDoorbell dt w) s (fun t => only t ∧ s.raises t n)) ∧
      (¬may → Answers (.whDoorbell dt w) s (fun t => only t ∧ s.counts t (whCounter w.port 1) 1))) ∧
    ∀ p : Port,
      let q := s.port p
      (∀ e l, q.stack = e :: l →
        (e.at_ + s.fld 0x4400 0 10 * 1000000 < s.clock + dt →
          Answers (.stackAgeExpiry dt p) s (fun t =>
            only t ∧ (t.port p).stack = [] ∧ (∀ i, st t p i = .inactive ∨ st t p i = .pending) ∧
            (∀ i, st s p i = .activePending → st t p i = .pending) ∧
            s.counts t (whCounter p 5) 1 ∧ s.raises t 0x002 ∧ s.logs t 0x0A07 p.idx q.stack.length 0)) ∧
        (s.clock + dt ≤ e.at_ + s.fld 0x4400 0 10 * 1000000 →
          Answers (.stackAgeExpiry dt p) s (fun t => t = s.elapse dt))) ∧
      (q.stack = [] → Answers (.stackAgeExpiry dt p) s (fun t => t = s.elapse dt))

/-! ## Ply commands -/

/-- R341, R465, R467, R470: PLY_CMD on a device that is no ply member is MALFORMED; SWITCH, DEMOTE and REINSTATE complete
NOT_OWNER off the acting member, and there are kept for their boundary unless they name a member that they cannot; FORCE waits
for the next boundary of a member that may take the flyer. A JOINING member whose synchronisation does not end starts again,
and is DEMOTED at the third failure. -/
def Obligations.PlyCommandsAndJoining : Prop :=
  (∀ (s : State) (dt : Nat) (d : Desc) (m : Fin 4) (c : Instr) (act : Nat), s.admits d →
    (c = .plySwitch dt d m ∧ act = 1) ∨ (c = .plyDemote dt d m ∧ act = 2) ∨ (c = .plyReinstate dt d m ∧ act = 3) ∨
      (c = .plyForce dt d m ∧ act = 4) →
    let bad := 2 < m.val ∨
      (act = 1 ∧ (s.roleOf m.val ≠ 2 ∨ s.view.contains m.val = false ∨ s.isDemoted m.val = true)) ∨
      (act = 3 ∧ s.isDemoted m.val = false)
    let force := m.val = s.own ∧ s.dev.st = .run ∧ (s.pl.role = .standby ∨ s.pl.role = .joining) ∧ s.actor = none ∧
      s.pl.force = none
    let done := fun (st : Nat) =>
      s.canComplete d → Answers c s (fun t =>
        t = { s.elapse dt with rep := t.rep } ∧
        s.completes t d { complOf d 10 st with turn := s.tm.turn, plyResult := s.plyResult })
    (s.plyMember = false → done 2) ∧
    (s.plyMember = true → act ≠ 4 → s.pl.role ≠ .acting → done 3) ∧
    (s.plyMember = true → act ≠ 4 → s.pl.role = .acting → bad → done 2) ∧
    (s.plyMember = true → act ≠ 4 → s.pl.role = .acting → ¬bad →
      Answers c s (fun t =>
        t = { s.elapse dt with rep := t.rep, pl := { s.pl with descs := t.pl.descs } } ∧ t.rep.out = s.rep.out ∧
        t.pl.descs = s.pl.descs ++ [{ turn := s.tm.turn, desc := some d, act := .cmd act m.val, sent := false }])) ∧
    (s.plyMember = true → act = 4 → force →
      Answers c s (fun t =>
        t = { s.elapse dt with rep := t.rep, pl := { s.pl with force := some d } } ∧ t.rep.out = s.rep.out)) ∧
    (s.plyMember = true → act = 4 → ¬force → done 2)) ∧
  ∀ (s : State) (dt : Nat), s.ready →
    (s.pl.role = .joining → s.pl.installed ≠ [] → 64 ≤ s.pl.syncTurns →
      (s.pl.syncFails < 2 →
        Answers (.joinSyncTimeout dt) s (fun t =>
          t = { s.elapse dt with
                rep := t.rep
                pl := { s.pl with
                  syncFails := s.pl.syncFails + 1, install := [], installed := [], syncTurns := 0, agreeRun := 0 } } ∧
          s.counts t 5895 1)) ∧
      (2 ≤ s.pl.syncFails →
        Answers (.joinSyncTimeout dt) s (fun t =>
          t = { s.elapse dt with pl := t.pl, tm := t.tm, rep := t.rep } ∧ t.pl.role = .demoted ∧ s.raises t 0x303 ∧
          s.counts t 5894 1))) ∧
    (s.pl.role ≠ .joining ∨ s.pl.installed = [] ∨ s.pl.syncTurns < 64 →
      Answers (.joinSyncTimeout dt) s (fun t => t = s.elapse dt))

/-! ## Cells and links -/

/-- R66, R438, R456, R464, R468, R481, R482, R486, R487, R489, R490, R495: a cell comes on an UP link only, is counted where its CRC or
KIND is wrong, and on a link of the ply is ignored where its tag or its turn differs. A TIME cell gives the round trip and on
the link in use a reference event, which in RUN is not used where its turn differs or its error is half a turn, and in SET-UP
steps the time base; a HEART cell makes its member heard; the last AGREE cell completes a set; a MGMT cell is taken in SEQ
order; a relayed frame, in one cell or two, joins the queue of its entry with what its bobbin records, or is dropped and
counted. -/
def Obligations.CellsAreTaken : Prop :=
  ∀ (s : State) (dt : Nat) (h : CellHdr), s.ready →
    let l := h.link.val
    let now := (s.elapse dt).now
    let lnk := fun (t : State) =>
      t.link l = { s.link l with
        lastCell := s.clock + dt, peerActing := h.acting, mgmt := ackMgmt h.ack (s.link l).mgmt }
    let cs := fun (t : State) =>
      { s.cs with links := t.cs.links, upLink := t.cs.upLink }
    let only := fun (t : State) => t = { s.elapse dt with cs := cs t, rep := t.rep }
    let inPly := h.tag = s.plTag ∧ h.turn16 = (s.elapse dt).turnSent l
    let good := (s.link l).st = .up ∧ h.crcOk = true ∧ h.kindOk = true ∧ (s.plyLink l = true → inPly)
    let ply := good ∧ s.plyLink l = true
    let same := s.chooseUp = s.cs.upLink ∧ (s.link l).peerActing = h.acting
    (∀ c, c.cell = some (dt, h) →
      ((s.link l).st ≠ .up → Answers c s (fun t => t = s.elapse dt)) ∧
      ((s.link l).st = .up → h.crcOk = false →
        Answers c s (fun t => t = { s.elapse dt with rep := t.rep } ∧ s.counts t (5952 + 16 * l) 1)) ∧
      ((s.link l).st = .up → h.crcOk = true → h.kindOk = false →
        Answers c s (fun t => t = { s.elapse dt with rep := t.rep } ∧ s.counts t (5952 + 16 * l + 1) 1)) ∧
      ((s.link l).st = .up → h.crcOk = true → h.kindOk = true → s.plyLink l = true → ¬inPly →
        Answers c s (fun t => only t ∧ lnk t ∧ s.counts t 5888 1 ∧ (h.tag ≠ s.plTag → s.raises t 0x30F)))) ∧
    (∀ (tTx : BitVec 64) (turn : BitVec 48) (echo : BitVec 64) (res : Word), good →
      let rtt := (now - echo).toNat - res.toNat
      let e : Int := (tTx + BitVec.ofNat 64 (rtt / 2) - now).toInt
      let c := Instr.timeCell dt h tTx turn echo res
      let k := fun (t : State) =>
        t.link l = { s.link l with
          lastCell := s.clock + dt, peerActing := h.acting, mgmt := ackMgmt h.ack (s.link l).mgmt, lastTx := tTx,
          lastRx := now, rtt := if echo = 0 then (s.link l).rtt else BitVec.ofNat 32 rtt }
      let f := fun (t : State) => t = { s.elapse dt with cs := cs t, tm := t.tm, rep := t.rep }
      let used := same ∧ echo ≠ 0 ∧ s.timeLink l h.acting = true ∧ s.tm.loadClk ≠ some (s.clock + dt)
      let off := turn ≠ s.turnAt tTx ∨ s.lenUs * 1000 ≤ 2 * e.natAbs
      (echo = 0 ∨ s.tm.srcActive ≠ 3 ∨ (same ∧ s.timeLink l h.acting = false) ∨ s.tm.loadClk = some (s.clock + dt) →
        Answers c s (fun t => only t ∧ k t)) ∧
      (used → s.dev.st = .run →
        (off → Answers c s (fun t =>
          f t ∧ k t ∧
          t.tm = { s.tm with goodRun := 0, locked := s.tm.locked && decide (e.natAbs < 2000), mismatch := true } ∧
          s.counts t 5122 1 ∧ (s.tm.mismatch = false → s.raises t 0x049))) ∧
        (¬off → Answers c s (fun t =>
          f t ∧ k t ∧ t.tm.phaseTerm = (e : Rat) / (16 * (s.lenUs * 1000 : Nat)) ∧
          t.tm.freqTerm = (if s.tm.locked then s.tm.freqTerm + (e : Rat) / (256 * (s.lenUs * 1000 : Nat)) else s.tm.freqTerm) ∧
          t.tm.phaseErr = satErr e ∧ t.tm.holdover = false ∧ t.tm.acceptedAt = t.clock ∧ t.tm.turn = s.tm.turn ∧
          t.tm.mismatch = s.tm.mismatch))) ∧
      (used → s.dev.st = .setUp → s.tm.stepped = false → 1000 < e.natAbs →
        Answers c s (fun t =>
          t = { s.elapse dt with cs := cs t, tm := t.tm, rep := t.rep, now := tTx + BitVec.ofNat 64 (rtt / 2), frac := 0 } ∧
          k t ∧ t.tm.stepped = true ∧ t.tm.cellTurn = some turn ∧ t.tm.mismatch = false ∧ t.tm.turn = s.tm.turn))) ∧
    (∀ (b : Beat) (crc : Word) (x y : Fin 256),
      (good → s.plyLink l = false → Answers (.heartCell dt h b crc x y) s (fun t => only t ∧ lnk t)) ∧
      (ply → b.tag = s.plTag → b.turn = s.tm.turn → b.role ≤ 4 → s.others.contains b.member = true →
        Answers (.heartCell dt h b crc x y) s (fun t =>
          t = { s.elapse dt with cs := cs t, rep := t.rep, pl := { s.pl with mems := t.pl.mems } } ∧ lnk t ∧
          t.mem b.member = { s.mem b.member with
            last := some b, lease := (if b.role = 3 then some b.leaseEnd else (s.mem b.member).lease), link := some b
            crc := crc, syncNext := x.val, syncDone := y.val } ∧
          ∀ j, j ≠ b.member → t.mem j = s.mem j))) ∧
    (∀ (b : AgreeBody),
      let j := s.peerOf l
      let m := s.mem j
      let c := Instr.agreeCell dt h b false
      let f := fun (t : State) =>
        t = { s.elapse dt with cs := cs t, rep := t.rep, pl := { s.pl with mems := t.pl.mems } } ∧ lnk t ∧
        ∀ i, i ≠ j → t.mem i = s.mem i
      let late := Answers c s (fun t =>
        only t ∧ lnk t ∧ s.counts t 5889 1 ∧ (s.rep.first.contains 0x30B = false → s.raises t 0x30B))
      (good → s.plyLink l = false → Answers c s (fun t => only t ∧ lnk t)) ∧
      (∀ v cmp, ply → b = .taps v cmp →
        (s.tm.agreeDone = false →
          Answers c s (fun t =>
            f t ∧ t.mem j = { m with
              agreePart := {}, agree := some { taps := m.agreePart.taps ++ v, comps := m.agreePart.comps ++ cmp } })) ∧
        (s.tm.agreeDone = true → late)) ∧
      (∀ v, ply → b = .outs v →
        (s.tm.releaseDone = false →
          Answers c s (fun t => f t ∧ t.mem j = { m with outPart := [], outs := some (m.outPart ++ v) })) ∧
        (s.tm.releaseDone = true → late))) ∧
    (∀ (q : Fin 256) (m : MgmtBody), good →
      let c := Instr.mgmtCell dt h q m
      let k := fun (t : State) =>
        t.link l = { s.link l with
          lastCell := s.clock + dt, peerActing := h.acting, mgmt := ackMgmt h.ack (s.link l).mgmt, ackIn := q.val }
      (q.val ≠ ((s.link l).ackIn + 1) % 256 → Answers c s (fun t => only t ∧ lnk t)) ∧
      (q.val = ((s.link l).ackIn + 1) % 256 →
        (∀ n, m = .doorbell n → 0x380 ≤ n → n ≤ 0x3EF → Answers c s (fun t => only t ∧ k t ∧ s.raises t n)) ∧
        (∀ n, m = .doorbell n → n < 0x380 ∨ 0x3EF < n →
          Answers c s (fun t => only t ∧ k t ∧ s.counts t (5952 + 16 * l + 1) 1)) ∧
        (m = .other → Answers c s (fun t => only t ∧ k t ∧ s.counts t (5952 + 16 * l + 1) 1)) ∧
        (∀ n a, m = .desc n a → s.plyLink l = true → s.pl.role ≠ .acting →
          Answers c s (fun t =>
            k t ∧ t = { s.elapse dt with
              cs := cs t, rep := t.rep
              pl := { s.pl with descs := s.pl.descs ++ [{ turn := n, desc := none, act := a, sent := true }] } })) ∧
        (∀ x, m = .loop x → s.plyLink l = true → s.pl.role = .joining →
          Answers c s (fun t =>
            k t ∧ t = { s.elapse dt with
              cs := cs t, rep := t.rep, pl := { s.pl with install := s.pl.install ++ [x] } })))) ∧
    ∀ (r : Fin 4096) (f : Frame) (g : FrameTag), good → s.plyLink l = false →
      let long := f.rtr = false ∧ 32 < dlcBytes f.fdf f.dlc.toNat
      let key := 4096 * l + r.val
      let first := Instr.relayCell dt h r false { frame := f, tag := g }
      let second := Instr.relayCell dt h r true { frame := f, tag := g }
      let held := fun (t : State) =>
        t = { s.elapse dt with cs := { cs t with relPart := t.cs.relPart }, rep := t.rep } ∧ Tbl.look t.cs.relPart key = none
      let toSend := s.relayOn r.val = true ∧ fieldOf (s.rly0 r.val) 1 2 ≠ 2
      let toLocal := s.relayOn r.val = true ∧ fieldOf (s.rly0 r.val) 1 2 = 2
      let room := 0 < s.sharedFree ∧ 0 < s.bobFree
      let whole := fun (t : State) (x : Frame) (y : FrameTag) =>
        t.cs.queue = s.cs.queue ++ [(r.val, s.nextBob)] ∧
        ∃ b, t.bob s.nextBob = some b ∧ b.frame = x ∧ b.tag = y ∧ b.holders = 1
      (long → Answers first s (fun t =>
        t = { s.elapse dt with cs := { cs t with relPart := t.cs.relPart }, rep := t.rep } ∧
        Tbl.look t.cs.relPart key = some (f, g))) ∧
      (¬long → same → toSend →
        (∀ k, s.relayOut r.val = some k → room →
          Answers first s (fun t =>
            t = { s.elapse dt with cs := { cs t with queue := t.cs.queue }, cr := t.cr, rep := t.rep } ∧ whole t f g)) ∧
        (∀ k, s.relayOut r.val = some k → ¬room →
          Answers first s (fun t => only t ∧ s.counts t (5952 + 16 * l + 4) 1)) ∧
        (s.relayOut r.val = none →
          Answers first s (fun t => only t ∧ s.counts t (5952 + 16 * s.relaySide r.val + 4) 1))) ∧
      (¬long → s.relayOn r.val = false →
        Answers first s (fun t => only t ∧ s.counts t (5952 + 16 * l + 4) 1)) ∧
      (¬long → toLocal → s.acts = false → Answers first s (fun t => only t)) ∧
      (¬long → toLocal → s.acts = true →
        (s.stream (fieldOf (s.rly0 r.val) 4 12) = none →
          Answers first s (fun t => only t ∧ s.counts t (5952 + 16 * l + 4) 1)) ∧
        (∀ x, s.stream (fieldOf (s.rly0 r.val) 4 12) = some x →
          (f.data.length ≠ fieldOf (s.rly0 r.val) 16 7 ∨ x.cfg.len.toNat ≠ fieldOf (s.rly0 r.val) 16 7 ∨ x.st ≠ .live →
            Answers first s (fun t => only t ∧ s.counts t (5952 + 16 * l + 4) 1)))) ∧
      (Tbl.look s.cs.relPart key = none → Answers second s (fun t => only t)) ∧
      ∀ x y, Tbl.look s.cs.relPart key = some (x, y) →
        (s.relayOn r.val = false → Answers second s (fun t => held t ∧ s.counts t (5952 + 16 * l + 4) 1)) ∧
        (∀ k, same → toSend → s.relayOut r.val = some k → room →
          Answers second s (fun t =>
            t = { s.elapse dt with
              cs := { cs t with relPart := t.cs.relPart, queue := t.cs.queue }, cr := t.cr, rep := t.rep } ∧
            Tbl.look t.cs.relPart key = none ∧ whole t { x with data := (x.data ++ f.data).take 64 } y))

/-- R477 to R480, R482, R483, R486, R495: an enabled link that is DOWN trains when a signal comes; training ends once 8
TRAIN cells in a row have come without error on a pair of lanes, in UP or, where a check of the peer fails, in INCOMPATIBLE; no valid cell for 8 µs starts training anew, 100 ms without UP make the link FAILED,
and RETRAIN starts training from any state but DOWN. A slot sends its cells on the links that are UP, and CS_PEERDB a DOORBELL
on those it names. -/
def Obligations.LinksTrainAndSend : Prop :=
  ∀ (s : State) (dt : Nat) (l : Fin 4), s.ready →
    let v := s.link l.val
    let only := fun (t : State) =>
      t = { s.elapse dt with cs := { s.cs with links := t.cs.links, upLink := t.cs.upLink, relPart := t.cs.relPart }
                             rep := t.rep } ∧
      ∀ k, k ≠ l.val → t.link k = s.link k
    let trains := fun (t : State) =>
      only t ∧ (t.link l.val).st = .training ∧ (t.link l.val).reason = 0 ∧ (t.link l.val).trained = none ∧
      (t.link l.val).trainRun = 0 ∧ (t.link l.val).leftUp = (if v.st = .up then some (s.clock + dt) else v.leftUp) ∧
      s.counts t (5952 + 16 * l.val + 3) 1 ∧ ∀ e ∈ t.cs.relPart, e.1 / 4096 ≠ l.val
    (∀ (h : CellHdr) (x : TrainInfo) (n : Nat), h.link = l →
      (s.linkOn l.val = false → Answers (.trainCell dt h { info := x, n := n }) s (fun t => t = s.elapse dt)) ∧
      (s.linkOn l.val = true → v.st = .down ∨ v.st = .training ∨ v.st = .failed →
        Answers (.trainCell dt h { info := x, n := n }) s (fun t =>
          only t ∧ (t.link l.val).st = (if v.st = .down then .training else v.st) ∧
          (h.crcOk = true → (t.link l.val).trained = some x ∧
            (t.link l.val).trainRun = min 8 (n +
              if v.st ≠ .down ∧ v.trained.map (fun y => y.lanes) = some x.lanes then v.trainRun else 0)) ∧
          (h.crcOk = false → (t.link l.val).trainRun = 0 ∧ s.counts t (5952 + 16 * l.val) n) ∧
          (v.st = .down → s.counts t (5952 + 16 * l.val + 3) 1))) ∧
      (s.linkOn l.val = true → v.st = .up → h.crcOk = true →
        Answers (.trainCell dt h { info := x, n := n }) s (fun t =>
          only t ∧ t.link l.val = { v with lastCell := s.clock + dt, peerActing := h.acting })) ∧
      (s.linkOn l.val = true → v.st = .incompatible → h.crcOk = true →
        Answers (.trainCell dt h { info := x, n := n }) s (fun t => t = s.elapse dt)) ∧
      (s.linkOn l.val = true → v.st = .up ∨ v.st = .incompatible → h.crcOk = false →
        Answers (.trainCell dt h { info := x, n := n }) s (fun t =>
          only t ∧ t.link l.val = { v with trainRun := 0 } ∧ s.counts t (5952 + 16 * l.val) n))) ∧
    (∀ x, v.trained = some x → v.trainRun < 8 ∨ (x.lanes % 8 ≠ 3 ∧ x.lanes % 8 ≠ 5 ∧ x.lanes % 8 ≠ 6) →
      Answers (.wilistTrainingComplete dt l) s (fun t => t = s.elapse dt)) ∧
    (∀ x, v.trained = some x → 8 ≤ v.trainRun → x.lanes % 8 = 3 ∨ x.lanes % 8 = 5 ∨ x.lanes % 8 = 6 →
      s.linkOn l.val = true → v.st = .training ∨ v.st = .failed →
      let r := s.peerReason l.val x
      Answers (.wilistTrainingComplete dt l) s (fun t =>
        only t ∧ (t.link l.val).reason = r ∧ (t.link l.val).peerPos = x.pos ∧ (t.link l.val).peerMember = x.member ∧
        (t.link l.val).trained = none ∧
        (r = 0 → (t.link l.val).st = .up ∧ (t.link l.val).lastCell = s.clock + dt ∧ (t.link l.val).leftUp = none ∧
          s.raises t 0x320) ∧
        (r ≠ 0 → (t.link l.val).st = .incompatible ∧ s.raises t 0x322) ∧
        (x.lanes / 4 % 2 = 1 → s.raises t 0x323 ∧ s.logs t 0x0F05 l.val 0 0))) ∧
    (v.st = .up → 8000 ≤ s.clock + dt - v.lastCell → Answers (.wilistCellTimeout dt l) s trains) ∧
    (v.st ≠ .up ∨ s.clock + dt - v.lastCell < 8000 → Answers (.wilistCellTimeout dt l) s (fun t => t = s.elapse dt)) ∧
    (∀ a, v.st = .training → v.leftUp = some a → 100000000 ≤ s.clock + dt - a →
      Answers (.wilistLinkFailed dt l) s (fun t =>
        only t ∧ t.link l.val = { v with st := .failed } ∧ s.raises t 0x321 ∧ s.logs t 0x0E02 l.val 0 0)) ∧
    (∀ w, s.passes (0xB840C + 64 * l.val) w → bitOf w.data 0 = true →
      (v.st = .down → Answers (.retrain dt l w) s (fun t => t = s.elapse dt)) ∧
      (v.st = .failed → Answers (.retrain dt l w) s (fun t =>
        only t ∧ t.link l.val = { v with trained := none, trainRun := 0 } ∧ s.counts t (5952 + 16 * l.val + 3) 1)) ∧
      (v.st ≠ .down → v.st ≠ .failed → Answers (.retrain dt l w) s trains)) ∧
    (∀ w, s.passes 0xB8030 w → bitOf w.data 16 = true →
      Answers (.csPeerdbGo dt w) s (fun t =>
        t = { s.elapse dt with cs := { s.cs with links := t.cs.links }, regs := { s.regs with rwi := t.regs.rwi }
                               rep := t.rep } ∧
        (bitOf w.data (10 + l.val) = true → v.st = .up →
          let n := (v.seqOut + 1) % 256
          let m : MgmtBody := .doorbell (fieldOf w.data 0 10)
          s.putsOut t (.cell l (s.cellHead l.val) (.mgmt n m)) ∧
          t.link l.val = { v with seqOut := n, mgmt := v.mgmt ++ [{ seq := n, body := m, sent := true }] }) ∧
        (bitOf w.data (10 + l.val) = false ∨ v.st ≠ .up → t.link l.val = v))) ∧
    ∀ (slot : Fin 32),
      let e := s.live (0xB8100 + 4 * slot.val)
      let kind := fieldOf e 0 3
      let due := (s.elapse dt).reached (s.offsetAt (fieldOf e 4 14)) = true
      let c := Instr.wilistSlotStart dt slot
      let inPly := s.plyLink l.val = true ∧ v.st = .up
      (¬due ∨ kind = 0 ∨ 6 ≤ kind → Answers c s (fun t => t = s.elapse dt)) ∧
      (due → kind = 1 →
        Answers c s (fun t =>
          t = { s.elapse dt with rep := t.rep } ∧
          (v.st = .up → s.putsOut t (.cell l (s.cellHead l.val) (.time t.now t.tm.turn v.lastTx
            (if v.lastTx = 0 then 0 else (t.now - v.lastRx).toNat % 2 ^ 32)))))) ∧
      (due → kind = 2 → s.dev.st = .run → s.tm.capDone = true → s.tm.agreeDone = false → s.pl.sentAgree = false →
        Answers c s (fun t =>
          t = { s.elapse dt with pl := { s.pl with sentAgree := true }, rep := t.rep } ∧
          (inPly → s.putsOut t (.cell l (s.cellHead l.val) (.agree (s.elapse dt).ownAgree.taps (s.elapse dt).ownAgree.comps))))) ∧
      (due → kind = 2 → s.dev.st = .run → s.tm.agreeDone = true → s.evalComplete = true → s.tm.releaseDone = false →
        s.pl.sentOuts = false →
        Answers c s (fun t =>
          t = { s.elapse dt with pl := { s.pl with sentOuts := true }, rep := t.rep } ∧
          (inPly → s.putsOut t (.cell l (s.cellHead l.val) (.outputs (s.elapse dt).ownOuts))))) ∧
      (due → kind = 2 → s.dev.st ≠ .run ∨ (s.tm.capDone = false ∧ s.evalComplete = false) →
        Answers c s (fun t => t = s.elapse dt)) ∧
      (∀ b, due → kind = 3 → s.pl.beat = some b →
        Answers c s (fun t =>
          t = { s.elapse dt with rep := t.rep } ∧
          (inPly → s.putsOut t (.cell l (s.cellHead l.val)
            (.heart b s.regs.crcLast s.syncNextShown (s.pl.installed.length % 256)))))) ∧
      (∀ r i b, due → kind = 4 → s.cs.queue = [(r, i)] → s.relayOut r = some l.val → s.bob i = some b →
        relayCells b.frame ≤ fieldOf e 20 12 → b.holders ≤ 1 →
        Answers c s (fun t =>
          t = { s.elapse dt with cs := { s.cs with queue := [] }, cr := t.cr, rep := t.rep } ∧
          (s.acts = true → s.putsOut t (.cell l (s.cellHead l.val) (.relay r b.frame b.tag))) ∧ t.bob i = none)) ∧
      (∀ r i b, due → kind = 4 → s.cs.queue = [(r, i)] → s.relayOut r = none → s.bob i = some b → b.holders ≤ 1 →
        Answers c s (fun t =>
          t = { s.elapse dt with cs := { s.cs with queue := [] }, cr := t.cr, rep := t.rep } ∧
          s.counts t (5952 + 16 * s.relaySide r + 4) 1 ∧ t.bob i = none)) ∧
      (due → kind = 5 → s.acts = false ∨ s.plyMember = false →
        Answers c s (fun t =>
          t = { s.elapse dt with rep := t.rep } ∧
          (v.st = .up → ∀ m ∈ v.mgmt.take (fieldOf e 20 12), s.putsOut t (.cell l (s.cellHead l.val) (.mgmt m.seq m.body)))))

/-! ## Slivers and SRAM -/

/-- R430 to R435, R523, R524: a flush waits for its effect, which empties the sliver and counts the records; a scrub reads
SCRUB_ROWS rows on, and a row's corrected reads and uncorrectable words are counted, reported and, at the threshold, lead to
a copy into a spare row; an uncorrectable word poisons a received bobbin, or takes an exact-match entry out of the search. -/
def Obligations.SliversFlushAndRowsAreScrubbed : Prop :=
  ∀ (s : State) (dt : Nat), s.ready →
    (∀ (n : Fin 36) (w : Wr), s.passes (0xC0004 + 16 * n.val) w → bitOf w.data 0 = true →
      Answers (.sliverFlush dt n w) s (fun t =>
        t = { s.elapse dt with mm := t.mm } ∧ t.sliver n.val = { s.sliver n.val with flushing := true } ∧
        (∀ k, k ≠ n.val → t.sliver k = s.sliver k) ∧ t.mm.rows = s.mm.rows)) ∧
    (∀ (n : Fin 36),
      let v := s.sliver n.val
      (v.flushing = false → Answers (.sliverFlushEffect dt n) s (fun t => t = s.elapse dt)) ∧
      (v.flushing = true → n.val % 2 = 0 →
        Answers (.sliverFlushEffect dt n) s (fun t =>
          t = { s.elapse dt with mm := t.mm, rep := t.rep } ∧
          t.sliver n.val = { v with r := v.w, m := v.w, recs := [], flushing := false } ∧
          (∀ k, k ≠ n.val → t.sliver k = s.sliver k) ∧ s.counts t (5504 + 4 * n.val + 2) v.recs.length)) ∧
      (v.flushing = true → n.val % 2 = 1 → v.flight.isSome = true →
        Answers (.sliverFlushEffect dt n) s (fun t => t = s.elapse dt)) ∧
      (v.flushing = true → n.val % 2 = 1 → v.flight = none → v.recs = [] →
        Answers (.sliverFlushEffect dt n) s (fun t =>
          t = { s.elapse dt with mm := t.mm, rep := t.rep } ∧ (t.sliver n.val).flushing = false)) ∧
      (∀ x e, v.flushing = true → n.val % 2 = 1 → v.flight = none → v.recs = [x] → (s.ch x.ch).readyOf x.bob = some e →
        Answers (.sliverFlushEffect dt n) s (fun t =>
          (t.sliver n.val).recs = [] ∧ (t.sliver n.val).flushing = false ∧ s.counts t (5504 + 4 * n.val + 2) 1 ∧
          s.counts t (64 * x.ch + 14) 1 ∧ ∀ y ∈ (t.ch x.ch).ready, y.bob ≠ e.bob))) ∧
    (let n := s.fld 0xC8000 0 13
     let a := s.mm.nextRow
     let mm := fun (t : State) => t.mm.nextRow = (a + n) % 32768 ∧ t.mm.passes = s.mm.passes + BitVec.ofNat 16 ((a + n) / 32768)
     Answers (.scrub dt []) s (fun t => t = { s.elapse dt with mm := t.mm } ∧ mm t ∧ t.mm.rows = s.mm.rows) ∧
     (∀ e : RowErr, (e.row.val + 32768 - a) % 32768 < n → e.region.val ≠ 0 →
       let c := min 255 ((s.row e.row.val).ce + e.ce)
       (e.ue = false → 0 < e.ce → c < s.fld 0xC8000 16 8 →
         Answers (.scrub dt [e]) s (fun t =>
           t = { s.elapse dt with mm := t.mm, rep := t.rep } ∧ mm t ∧
           t.row e.row.val = { s.row e.row.val with ce := c } ∧ (∀ k, k ≠ e.row.val → t.row k = s.row k) ∧
           t.mm.lastCe = e.row.val ∧ s.counts t (5696 + e.region.val - 1) e.ce)) ∧
       (∀ k, e.ue = false → 0 < e.ce → s.fld 0xC8000 16 8 ≤ c → s.rp.copy = none → s.rp.rowQueue = [] →
         s.freeSpareRow e.row.val = some k →
         Answers (.scrub dt [e]) s (fun t =>
           t = { s.elapse dt with
                 mm := t.mm, rep := t.rep
                 rp := { s.rp with copy := some { row := e.row.val, spare := k, copied := false } } } ∧ mm t)) ∧
       (e.ue = true → e.ce = 0 →
         let found := fun (t : State) =>
           mm t ∧ (t.row e.row.val).ue = true ∧ t.mm.lastUeRow = e.row.val ∧ t.mm.lastUeRegion = e.region.val ∧
           s.counts t (5712 + e.region.val - 1) 1 ∧ s.raises t 0x009 ∧ s.logs t 0x0C04 e.row.val e.region.val 0
         (e.region.val = 7 →
           Answers (.scrub dt [e]) s (fun t =>
             t = { s.elapse dt with mm := t.mm, rep := t.rep } ∧ found t ∧
             Tbl.look t.mm.emBad (e.item % 32768) = some e.row.val)) ∧
         (e.region.val = 10 →
           Answers (.scrub dt [e]) s (fun t => t = { s.elapse dt with mm := t.mm, rep := t.rep } ∧ found t)) ∧
         (∀ b, e.region.val = 1 → s.bob e.item = some b → b.cls = .rx →
           Answers (.scrub dt [e]) s (fun t =>
             t = { s.elapse dt with mm := t.mm, cr := t.cr, rep := t.rep } ∧ found t ∧
             t.bob e.item = some { b with poison := true }))))) ∧
    (∀ c, s.rp.copy = some c →
      Answers (.rowCopyComplete dt) s (fun t =>
        t = { s.elapse dt with rp := { s.rp with copy := some { c with copied := true } } })) ∧
    (s.rp.copy = none → Answers (.rowCopyComplete dt) s (fun t => t = s.elapse dt))

/-! ## Self-recovery and repair -/

/-- R503 to R507, R512: a transfer to the field die that is not acknowledged is tried again, and after its last try the field die
is reset; the hold lasts 100 µs; the end restores the committed feeds and names the lost writes; a reset that does not end in 1 ms starts again, and after the
third attempt the device enters SAFE. -/
def Obligations.FieldDieRecovers : Prop :=
  ∀ (s : State) (dt : Nat), s.ready →
    let resets := fun (t : State) =>
      t.fa.field = .inReset ∧ t.fa.attempts = s.fa.attempts + 1 ∧ t.fa.resetAt = s.clock + dt ∧ t.fa.holdDone = false ∧
      t.fa.posted = none ∧ s.raises t 0x006 ∧ s.counts t 5761 1 ∧ t.regs.live = s.regs.live ∧ t.dev = s.dev ∧
      ∀ p, s.fa.posted = some p →
        t.fa.lost = s.fa.lost ++ [p.seq] ∧ s.counts t 5762 1 ∧
        t.shadow p.off = Tbl.lookD s.regs.fieldShadow p.off (resetAt p.off)
    (∀ x, s.fa.field ≠ .inReset → (s.elapse dt).bridgeLate = some x →
      (x.tries < s.fld 0xF0004 8 3 →
        Answers (.bridgeTimeout dt) s (fun t =>
          t = { s.elapse dt with
                rep := t.rep, free := s.free + 1
                fa := { s.fa with
                  field := .retrying
                  xfers := s.fa.xfers.filter (fun y => decide (y ≠ x)) ++
                    [{ x with at_ := s.clock + dt, tries := x.tries + 1 }] } } ∧
          s.counts t 5760 1 ∧ (s.rep.first.contains 0x005 = false → s.raises t 0x005) ∧
          (∀ p, x.kind = .posted → s.fa.posted = some p → s.rep.first.contains 0x20005 = false →
            s.logs t 0x1202 p.seq.toNat 0 0))) ∧
      (s.fld 0xF0004 8 3 ≤ x.tries → Answers (.bridgeTimeout dt) s resets)) ∧
    (s.fa.field = .inReset ∨ (s.elapse dt).bridgeLate = none →
      Answers (.bridgeTimeout dt) s (fun t => t = s.elapse dt)) ∧
    (s.fa.field = .inReset →
      (100000 ≤ s.clock + dt - s.fa.resetAt →
        Answers (.fieldResetHoldEnd dt) s (fun t => t = { s.elapse dt with fa := { s.fa with holdDone := true } })) ∧
      (s.fa.holdDone = false → Answers (.fieldResetEnd dt) s (fun t => t = s.elapse dt)) ∧
      (s.fa.holdDone = true →
        Answers (.fieldResetEnd dt) s (fun t =>
          t.fa = { s.fa with
            field := .normal, attempts := 0, upAt := s.clock + dt, holdDone := false, lost := [],
            lostFirst := s.fa.lost.headD 0xFFFF, lostLast := s.fa.lost.getLastD 0xFFFF } ∧
          t = { s.elapse dt with fa := t.fa, fd := t.fd, rep := t.rep } ∧ s.raises t 0x007 ∧ t.fd.cfg = s.fdLive)) ∧
      (1000000 ≤ s.clock + dt - s.fa.resetAt →
        (s.fa.attempts < 3 → Answers (.fieldResetRestart dt) s resets) ∧
        (3 ≤ s.fa.attempts → s.dev.st = .setUp ∨ s.dev.st = .run →
          Answers (.fieldResetRestart dt) s (fun t =>
            t.dev = { s.dev with st := .safe, runPend := false } ∧ t.fa.safeCause = 2 ∧ t.regs.live = s.regs.live ∧
            s.raises t 0x000 ∧ s.raises t 0x05A ∧ s.logs t 0x0002 2 0 0 ∧ s.logsNext t 0x0003 s.dev.st.code 5 0))) ∧
      (s.clock + dt - s.fa.resetAt < 1000000 → Answers (.fieldResetRestart dt) s (fun t => t = s.elapse dt)))

/-- R115, R508, R509, R526: a spindle without progress is reset in place, or doffed where PROG_ACT says so and a spare is free;
one whose self-check fails is doffed, or retired where it serves no channel; a spindle reset that ends writes its slub. -/
def Obligations.SpindlesAreRelieved : Prop :=
  ∀ (s : State) (dt : Nat), s.ready →
    let doff := fun (ch k : Nat) (soft : Bool) => ({ ch := ch, target := k, soft := soft, ready := false, turns := 0 } : Doff)
    (∀ (ch : Fin 16),
      let c := s.ch ch.val
      let sp := s.spOf ch.val
      let due := c.st ≠ .off ∧ c.st ≠ .boHold ∧ c.st ≠ .boWait ∧ c.st ≠ .quarantined ∧ s.fld 0xF0004 16 12 ≤ c.idleTurns
      (¬due → Answers (.spindleProgressTimeout dt ch) s (fun t => t = s.elapse dt)) ∧
      (due → s.fld 0xF0004 28 2 ≠ 1 →
        Answers (.spindleProgressTimeout dt ch) s (fun t =>
          (t.spindle sp).inReset = some ch.val ∧ (t.ch ch.val).idleTurns = 0 ∧ (t.ch ch.val).wire = .idle ∧
          (t.ch ch.val).tec = c.tec ∧ (t.ch ch.val).recn = c.recn ∧ (t.ch ch.val).ready = [] ∧
          (t.sliver (2 * sp + 1)).recs = [] ∧ t.rp = s.rp ∧ t.regs.live = s.regs.live ∧ s.raises t 0x008 ∧
          s.counts t 5763 1)) ∧
      (∀ k, due → s.fld 0xF0004 28 2 = 1 → s.lowestSpare = some k → s.rp.doff = none →
        Answers (.spindleProgressTimeout dt ch) s (fun t =>
          t = { s.elapse dt with rp := { s.rp with doff := some (doff ch.val k true) }, chs := t.chs, rep := t.rep } ∧
          t.ch ch.val = { c with idleTurns := 0 } ∧ s.raises t 0x008 ∧ s.counts t 5763 1 ∧
          s.logs t 0x0220 (s.spD0 ch.val) 1 0)) ∧
      (∀ n, n < 18 → (s.spindle n).inReset = some ch.val → (∀ k, k < n → (s.spindle k).inReset ≠ some ch.val) →
        Answers (.spindleResetComplete dt ch) s (fun t =>
          t = { s.elapse dt with sps := t.sps, rep := t.rep } ∧ t.spindle n = { s.spindle n with inReset := none } ∧
          (∀ k, k ≠ n → t.spindle k = s.spindle k) ∧ s.counts t 5764 1 ∧ s.logs t 0x0221 (ch.val + 256 * n) 0 0))) ∧
    ∀ (sp : Fin 18),
      (∀ (c : Nat) k, c < 16 → s.spOf c = sp.val → (∀ i, i < c → s.spOf i ≠ sp.val) →
        s.lowestSpare = some k → s.rp.doff = none →
        Answers (.spindleSelfCheckFailed dt sp) s (fun t =>
          t = { s.elapse dt with sps := t.sps, rp := { s.rp with doff := some (doff c k false) }, rep := t.rep } ∧
          t.spindle sp.val = { s.spindle sp.val with selfOk := false } ∧ s.raises t (0x080 + 16 * sp.val + 0xA) ∧
          s.logs t 0x021A (s.spD0 c) (s.spD1 c) 0)) ∧
      ((∀ c, c < 16 → s.spOf c ≠ sp.val) → (s.spindle sp.val).role = .spare →
        Answers (.spindleSelfCheckFailed dt sp) s (fun t =>
          t = { s.elapse dt with sps := t.sps, rp := t.rp, rep := t.rep, free := s.free + 2 } ∧
          t.spindle sp.val = { s.spindle sp.val with selfOk := false, role := .retired } ∧
          (∀ k, k ≠ sp.val → t.spindle k = s.spindle k) ∧ s.raises t (0x080 + 16 * sp.val + 0xA))) ∧
      ((∀ c, c < 16 → s.spOf c ≠ sp.val) → (s.spindle sp.val).role ≠ .spare →
        Answers (.spindleSelfCheckFailed dt sp) s (fun t =>
          t = { s.elapse dt with sps := t.sps, rep := t.rep, free := s.free + 2 } ∧
          t.spindle sp.val = { s.spindle sp.val with selfOk := false } ∧
          (∀ k, k ≠ sp.val → t.spindle k = s.spindle k) ∧ s.raises t (0x080 + 16 * sp.val + 0xA)))

/-- R526 to R537: RP_DOFF starts a doff of a channel to a spare, which switches once it is prepared and the channel has an
opportunity, and ends after 64 turns without one; the margins of the aging monitors are reported once below each threshold;
RP_CMD burns the next repair into the lowest blank fuse entry, data word first. -/
def Obligations.DoffsAgingAndFuses : Prop :=
  ∀ (s : State) (dt : Nat), s.ready →
    (∀ w : Wr, s.passes 0xF800C w → bitOf w.data 16 = true →
      let tgt := fieldOf w.data 4 5
      (s.rp.doff.isSome = true → Answers (.rpDoffGo dt w) s (fun t => s.discards t dt 0xF800C w 7)) ∧
      (s.rp.doff = none → tgt ≠ 0x1F → s.isSpare tgt = false →
        Answers (.rpDoffGo dt w) s (fun t => s.discards t dt 0xF800C w 10)) ∧
      (∀ k, s.rp.doff = none → (tgt = 0x1F ∧ s.lowestSpare = some k) ∨ (tgt ≠ 0x1F ∧ s.isSpare tgt = true ∧ k = tgt) →
        Answers (.rpDoffGo dt w) s (fun t =>
          t = { s.elapse dt with
                regs := { s.regs with rwi := t.regs.rwi }
                rp := { s.rp with
                  doff := some { ch := fieldOf w.data 0 4, target := k, soft := true, ready := false, turns := 0 } } } ∧
          t.rwi 0xF800C = w.data &&& 0x1FF)) ∧
      (s.rp.doff = none → tgt = 0x1F → s.lowestSpare = none →
        s.rp.exhausted.contains (1, s.spOf (fieldOf w.data 0 4)) = false →
        Answers (.rpDoffGo dt w) s (fun t => t.rp.doff = none ∧ s.raises t 0x018 ∧ s.logs t 0x0F09 1 0 0))) ∧
    (∀ d, s.rp.doff = some d →
      let c := s.ch d.ch
      let old := s.spOf d.ch
      let open_ := d.ready = true ∧
        (c.st = .off ∨ c.st.busOff = true ∨ (c.st.part = true ∧ (c.wire = .idle ∨ c.wire = .gap)))
      Answers (.doffPrepared dt) s (fun t => t = { s.elapse dt with rp := { s.rp with doff := some { d with ready := true } } }) ∧
      (¬open_ → Answers (.doffSwitch dt) s (fun t => t = s.elapse dt)) ∧
      (open_ → d.target ≠ old →
        Answers (.doffSwitch dt) s (fun t =>
          t = { s.elapse dt with
                chs := t.chs, chSp := t.chSp, sps := t.sps, rp := t.rp, mm := t.mm, rep := t.rep } ∧
          t.rp.doff = none ∧ t.spOf d.ch = d.target ∧ (∀ k, k ≠ d.ch → t.spOf k = s.spOf k ∧ t.ch k = s.ch k) ∧
          t.ch d.ch = { c with chosen := none, offered := false } ∧ (t.spindle d.target).role = .active ∧
          (t.spindle old).inReset = some d.ch ∧
          (t.spindle old).role = (if d.soft = true ∧ (s.spindle old).selfOk = true then .spare else .retired) ∧
          s.counts t 5824 1 ∧ s.raises t 0x011 ∧ s.raises t (0x080 + 16 * old + 0xB) ∧
          s.raises t (0x080 + 16 * d.target + 0xB))) ∧
      (64 ≤ d.turns →
        Answers (.doffAbandon dt) s (fun t =>
          t = { s.elapse dt with rp := { s.rp with doff := none }, rep := t.rep } ∧ s.raises t 0x012 ∧ s.counts t 5825 1)) ∧
      (d.turns < 64 → Answers (.doffAbandon dt) s (fun t => t = s.elapse dt))) ∧
    (∀ margins : List Nat, s.bit 0xF8000 1 = false →
      Answers (.agingCheck dt margins) s (fun t =>
        t = { s.elapse dt with
              rp := { s.rp with margins := t.rp.margins, warned := t.rp.warned, acted := t.rp.acted }, rep := t.rep } ∧
        ∀ i, i < 46 →
          let m := min 1023 (margins.getD i 0)
          Tbl.lookD t.rp.margins i 0 = m ∧
          (t.rp.warned.contains i = true ↔ m < s.fld 0xF8004 0 10) ∧ (t.rp.acted.contains i = true ↔ m < s.fld 0xF8004 16 10) ∧
          (m < s.fld 0xF8004 0 10 → s.rp.warned.contains i = false → s.raises t 0x014) ∧
          (m < s.fld 0xF8004 16 10 → s.rp.acted.contains i = false → s.raises t 0x015))) ∧
    (∀ w : Wr, s.passes 0xF8008 w → bitOf w.data 0 = true →
      (s.rp.queue = [] →
        Answers (.rpCmdBurn dt w) s (fun t => t = { s.elapse dt with rp := { s.rp with burnNow := false } })) ∧
      (∀ x q, s.rp.queue = x :: q → s.rp.burn = none → s.dev.st = .setUp ∨ s.dev.st = .run →
        Tbl.firstFree s.rp.fuses 0 < 256 →
        Answers (.rpCmdBurn dt w) s (fun t =>
          t = { s.elapse dt with
                rp := { s.rp with
                  burnNow := true, queue := q
                  burn := some { entry := Tbl.firstFree s.rp.fuses 0, data := x, half := false } } }))) ∧
    ∀ b, s.rp.burn = some b →
      (b.half = false →
        Answers (.fuseDataWordWritten dt) s (fun t =>
          t = { s.elapse dt with rp := { s.rp with burn := some { b with half := true }, fuses := t.rp.fuses } } ∧
          Tbl.look t.rp.fuses b.entry = some (false, b.data) ∧
          ∀ k, k ≠ b.entry → Tbl.look t.rp.fuses k = Tbl.look s.rp.fuses k) ∧
        Answers (.fuseBurnComplete dt) s (fun t => t = s.elapse dt)) ∧
      (b.half = true →
        Answers (.fuseBurnComplete dt) s (fun t =>
          t = { s.elapse dt with rp := t.rp, rep := t.rep } ∧ Tbl.look t.rp.fuses b.entry = some (true, b.data) ∧
          (∀ k, k ≠ b.entry → Tbl.look t.rp.fuses k = Tbl.look s.rp.fuses k) ∧ s.raises t 0x016 ∧ s.counts t 5827 1 ∧
          s.logs t 0x0F07 b.entry 0 0))

/-! ## Keys -/

/-- R540, R541, R551: KEY_LOAD fails its checks in order, length, lock, tag, and else runs until it replaces the key of its slot; a
KS_LOCK write locks its slots but for those into which a load runs, whose locks wait for it; a posted write is taken. -/
def Obligations.KeysAreLoadedAndLocked : Prop :=
  (∀ (s : State) (dt : Nat) (d : Desc) (b : KeyBody), s.admits d →
    let slot := b.slot.toNat
    let c := Instr.keyLoad dt d b
    let fails := fun (t : State) (st : Nat) =>
      t = { s.elapse dt with ks := { s.ks with lastSlot := slot, lastResult := st }, rep := t.rep } ∧
      s.completes t d (complOf d 12 st)
    let ok := b.blobLen.toNat = 24 ∧ s.ksLocked slot = false
    (b.blobLen.toNat ≠ 24 → s.canComplete d → Answers c s (fun t => fails t 2)) ∧
    (b.blobLen.toNat = 24 → s.ksLocked slot = true → s.canComplete d →
      Answers c s (fun t => fails t 10 ∧ s.counts t 5834 1 ∧ s.raises t 0x025)) ∧
    (ok → blobTag b ≠ leBytes 8 b.t.toNat → s.canComplete d →
      Answers c s (fun t => fails t 11 ∧ s.counts t 5833 1 ∧ s.raises t 0x023 ∧ s.logs t 0x1002 slot 0 0)) ∧
    (ok → blobTag b = leBytes 8 b.t.toNat →
      Answers c s (fun t =>
        t = { s.elapse dt with
              rep := t.rep
              ks := { s.ks with loads := s.ks.loads ++ [{ desc := d, slot := slot, key := blobKey b }] } } ∧
        t.rep.out = s.rep.out))) ∧
  ∀ (s : State) (dt : Nat), s.ready →
    (∀ x rest, s.ks.loads = x :: rest → (∀ e ∈ s.ks.lockPend, e.1 ≠ x.slot) →
      Answers (.keyLoadComplete dt) s (fun t =>
        t = { s.elapse dt with ks := t.ks, rep := t.rep } ∧ t.ks.loads = rest ∧
        Tbl.look t.ks.slots x.slot = some x.key ∧ Tbl.lookD t.ks.base x.slot 0 = 0 ∧
        (∀ k, k ≠ x.slot → Tbl.look t.ks.slots k = Tbl.look s.ks.slots k) ∧ t.ks.lastSlot = x.slot ∧ t.ks.lastResult = 0 ∧
        s.counts t 5832 1 ∧ s.raises t 0x022 ∧
        (x.desc.cmpl = true → s.canComplete x.desc → s.completes t x.desc (complOf x.desc 12 0)))) ∧
    (∀ x rest bit, s.ks.loads = x :: rest → s.ks.lockPend = [(x.slot, bit)] →
      Answers (.keyLoadComplete dt) s (fun t =>
        Tbl.look t.ks.slots x.slot = some x.key ∧ t.ks.lockPend = [] ∧
        t.lock (ksLockOff x.slot) = s.lock (ksLockOff x.slot) ||| bit)) ∧
    (∀ (half : Fin 2) (w : Wr),
      let off := 0x100010 + 4 * half.val
      s.passes off w →
      (s.ks.loads = [] →
        Answers (.ksLock dt half w) s (fun t =>
          t.lock off = s.lock off ||| w.data ∧ (∀ o, o ≠ off → t.lock o = s.lock o) ∧
          t.ks = { s.ks with posted := some (off, w.data) } ∧ t.regs.live = s.regs.live ∧
          (w.data &&& ~~~(s.lock off) ≠ 0 → s.raises t 0x05F))) ∧
      (∀ i, i < 32 → bitOf w.data i = true → s.loadingKey (32 * half.val + i) = true → s.ksLocked (32 * half.val + i) = false →
        Answers (.ksLock dt half w) s (fun t =>
          t.ksLocked (32 * half.val + i) = false ∧ (32 * half.val + i, BitVec.ofNat 32 (2 ^ i)) ∈ t.ks.lockPend ∧
          t.ks.posted = some (off, w.data)))) ∧
    (∀ off v, s.ks.posted = some (off, v) →
      (off = 0x100020 →
        Answers (.ksWriteTaken dt) s (fun t =>
          t = { s.elapse dt with ks := { s.ks with posted := none }, regs := { s.regs with rwi := t.regs.rwi } } ∧
          t.rwi 0x100020 = v &&& 0xFFF)) ∧
      (off ≠ 0x100020 →
        Answers (.ksWriteTaken dt) s (fun t => t = { s.elapse dt with ks := { s.ks with posted := none } }))) ∧
    (s.ks.posted = none → Answers (.ksWriteTaken dt) s (fun t => t = s.elapse dt))

/-! ## Trace and boundary scan -/

/-- R556, R557, R559, R561, R566: the oldest hank leaves the queue for the port and for the trace buffer while each is enabled; the
buffer freezes POST hanks after its stopping slub, and RESTART empties it; the TAP selects its instruction in any state but
OFF, and TRST selects IDCODE. -/
def Obligations.HanksAreTracedAndTheTapSelects : Prop :=
  (∀ (s : State) (dt : Nat), s.ready →
    let only := fun (t : State) => t = { s.elapse dt with rep := t.rep }
    (s.rep.hanks = [] → Answers (.hankOutput dt) s (fun t => t = s.elapse dt)) ∧
    (∀ h l, s.rep.hanks = h :: l →
      let closed := s.rep.frozen = true ∨ (s.rep.stopSeen = true ∧ s.fld 0x110000 16 16 ≤ s.rep.post)
      let port := fun (t : State) =>
        only t ∧ t.rep.hanks = l ∧ (s.bit 0x110000 0 = true → s.putsOut t (.hank h))
      (s.bit 0x110000 1 = false ∨ closed →
        Answers (.hankOutput dt) s (fun t =>
          port t ∧ t.rep.trace = s.rep.trace ∧ t.rep.fill = s.rep.fill ∧
          (s.bit 0x110000 0 = false → t.rep = { s.rep with hanks := l }))) ∧
      (s.bit 0x110000 1 = true → ¬closed → s.rep.undrained = [] →
        Answers (.hankOutput dt) s (fun t =>
          port t ∧ Tbl.look t.rep.trace s.rep.headSlot = some h ∧ t.rep.fill = min 131072 (s.rep.fill + 1) ∧
          t.rep.post = (if s.rep.stopSeen then s.rep.post + 1 else s.rep.post) ∧
          (∀ k, k ≠ s.rep.headSlot → Tbl.look t.rep.trace k = Tbl.look s.rep.trace k) ∧
          (s.bit 0x110018 6 = true → (s.port s.drainPort).canWrite = true →
            s.putsOut t (.drain s.drainPort (s.rep.drainProd.toNat % 2 ^ (s.fld 0x110018 0 5))
              (s.drainAddr s.rep.drainProd) h) ∧
            t.rep.drainProd = s.rep.drainProd + 1 ∧ t.rep.undrained = []) ∧
          (s.bit 0x110018 6 = true → (s.port s.drainPort).canWrite = false → t.rep.undrained = [s.rep.headSlot]) ∧
          (s.bit 0x110018 6 = false → t.rep.undrained = [])))) ∧
    (s.rep.stopSeen = true → s.rep.frozen = false → s.fld 0x110000 16 16 ≤ s.rep.post →
      Answers (.traceBufferFreeze dt) s (fun t => only t ∧ t.rep.frozen = true ∧ s.raises t 0x029)) ∧
    (s.rep.stopSeen = false ∨ s.rep.frozen = true ∨ s.rep.post < s.fld 0x110000 16 16 →
      Answers (.traceBufferFreeze dt) s (fun t => t = s.elapse dt)) ∧
    ∀ w : Wr, s.passes 0x11002C w → bitOf w.data 0 = true →
      Answers (.restart dt w) s (fun t =>
        only t ∧ t.rep.trace = [] ∧ t.rep.fill = 0 ∧ t.rep.stopSeen = false ∧ t.rep.post = 0 ∧ t.rep.frozen = false ∧
        t.rep.undrained = [] ∧ t.rep.hanks = s.rep.hanks ∧
        (s.rep.undrained ≠ [] → s.counts t 5841 s.rep.undrained.length ∧ s.raises t 0x02A))) ∧
  ∀ (s : State) (dt : Nat),
    (s.ready ∨ s.dev.st = .reset →
      let u := if s.up then s.elapse dt else s
      Answers (.tapIdcode dt) s (fun t =>
        t = { u with dev := { s.dev with tap := .idcode }, rep := { s.rep with out := s.rep.out ++ [.tap idcode] } }) ∧
      Answers (.tapSamplePreload dt) s (fun t =>
        t = { u with dev := { s.dev with tap := .sample, scan := t.dev.scan }, free := s.free + 1 } ∧
        t.dev.scan.isSome = true) ∧
      Answers (.tapBypass dt) s (fun t => t = { u with dev := { s.dev with tap := .bypass } }) ∧
      Answers (.trstAssert dt) s (fun t => t = { u with dev := { s.dev with tap := .idcode } })) ∧
    (s.dev.st = .off → ∀ c, c = .tapIdcode dt ∨ c = .tapSamplePreload dt ∨ c = .tapBypass dt ∨ c = .trstAssert dt →
      Answers c s (fun t => t = s)) ∧
    idcode.getLsbD 0 = true ∧ fieldOf idcode 12 16 = 0x1618

/-! ## Power-up, reset and image -/

/-- R42, R562, R564 to R567: the loss of a supply, and RST_N, end in RESET with its cause, and the loss of all supplies in OFF; a
reset leaves fuses and straps, the waiting commands and what has left the device, and returns the rest to its reset values
(the free counter goes on, log 2), where a burn that is cut off leaves its entry half-written or blank; with every supply present SELF-TEST begins, with time and turn 0. -/
def Obligations.ResetsReturnTheMachine : Prop :=
  ∀ (s : State) (dt : Nat), (s.up = true → s.steady) →
    let kept := fun (t : State) (st : DevState) (cause : Nat) =>
      t.dev.st = st ∧ t.dev.cause = cause ∧ t.dev.phase = 0 ∧ t.now = 0 ∧ t.tm.turn = 0 ∧
      t = { State.reset with
            pending := s.pending, free := s.free + 1, rep := { out := s.rep.out }, rp := { fuses := t.rp.fuses }
            tm := { State.reset.tm with srcActive := t.tm.srcActive }
            dev := {
              st := st, cause := cause, supplies := t.dev.supplies, rstN := t.dev.rstN, plyId := t.dev.plyId, pos := t.dev.pos
              ownPrio := t.dev.ownPrio, tap := t.dev.tap } } ∧
      (s.rp.burn = none → t.rp.fuses = s.rp.fuses) ∧
      ∀ b, s.rp.burn = some b → t.rp.fuses = s.rp.fuses ∨ t.rp.fuses = Tbl.ins s.rp.fuses b.entry (false, b.data)
    (∀ n : Fin 7,
      let left := supplyBits s.dev.supplies n.val false
      (s.dev.st ≠ .off → left = 0 →
        Answers (.supplyLoss dt n) s (fun t => kept t .off s.dev.cause ∧ t.dev.supplies = 0 ∧ t.dev.tap = .idcode)) ∧
      (s.up = true → left ≠ 0 →
        Answers (.supplyLoss dt n) s (fun t => kept t .reset 2 ∧ t.dev.supplies = left ∧ t.dev.tap = s.dev.tap)) ∧
      (s.dev.st = .off ∨ (s.dev.st = .reset ∧ left ≠ 0) →
        Answers (.supplyLoss dt n) s (fun t => t = { s with dev := { s.dev with supplies := left } })) ∧
      (s.dev.st = .off →
        Answers (.supplyPresent dt n) s (fun t =>
          kept t .reset 0 ∧ t.dev.supplies = supplyBits s.dev.supplies n.val true)) ∧
      (s.dev.st = .reset →
        Answers (.supplyPresent dt n) s (fun t =>
          t = { s with dev := { s.dev with supplies := supplyBits s.dev.supplies n.val true } }))) ∧
    (s.up = true →
      Answers (.resetAssert dt) s (fun t =>
        kept t .reset 1 ∧ t.dev.rstN = false ∧ t.dev.supplies = s.dev.supplies ∧ t.dev.plyId = s.dev.plyId ∧
        t.dev.pos = s.dev.pos ∧ t.dev.ownPrio = s.dev.ownPrio ∧ t.dev.tap = s.dev.tap)) ∧
    (s.up = false →
      Answers (.resetAssert dt) s (fun t => t = { s with dev := { s.dev with rstN := false } })) ∧
    ∀ (id : Fin 4) (pos : Fin 32) (prio : Bool),
      (s.dev.st = .reset → s.dev.supplies = 127 →
        Answers (.leaveReset dt id pos prio) s (fun t =>
          kept t .selfTest s.dev.cause ∧ t.tm.srcActive = (if pos.val ≠ 0 then 3 else 0) ∧ t.dev.rstN = true ∧ t.dev.plyId = id.val ∧ t.dev.pos = pos.val ∧ t.dev.ownPrio = prio)) ∧
      (s.dev.st ≠ .reset ∨ s.dev.supplies ≠ 127 →
        Answers (.leaveReset dt id pos prio) s (fun t => t = s))

/-- R358, R520 to R522, R565, R572 to R577: a self-test without faults enters SET-UP, where the boot loader reads and the election
window opens; one that leaves less than 16 spindles keeps the device in SELF-TEST; without the magic, or with a fault of
R574, loading ends with its result; an accepted image is applied, and the end of loading sets CRC_REF and, under AUTO_RUN,
asks for RUN. -/
def Obligations.SelfTestAndImage : Prop :=
  ∀ (s : State) (dt : Nat), s.ready →
    (s.dev.st = .selfTest → s.rp.result = 0 → s.rp.fuses = [] →
      (s.rp.soft = 0 → (∀ n, n < 18 → (s.spindle n).role ≠ .retired) →
        Answers (.selfTestComplete dt { spindles := [], lanes := [], rows := [], cols := [] }) s (fun t =>
          t.dev = { s.dev with st := .setUp, phase := 1 } ∧ t.rp.result = 1 ∧ t.ow.electing = true ∧
          t.ow.electEnd = s.clock + dt + 2000000 ∧ t.ow.owner = s.ow.owner ∧ (∀ n, n < 16 → t.spOf n = n) ∧
          (∀ n, n < 18 → (t.spindle n).role = (if n < 16 then .active else .spare)) ∧ t.tw.lanes = [0, 1, 2, 3] ∧
          t.tw.spare = some 4 ∧ s.raises t 0x05A ∧ s.logs t 0x0003 2 3 0)) ∧
      (∀ (x : SelfTest) a b c, a ∈ x.spindles → b ∈ x.spindles → c ∈ x.spindles → a ≠ b → b ≠ c → a ≠ c →
        Answers (.selfTestComplete dt x) s (fun t => t.rp.result = 3 ∧ t.dev.st = .selfTest))) ∧
    (∀ x, s.dev.st ≠ .selfTest ∨ s.rp.result ≠ 0 → Answers (.selfTestComplete dt x) s (fun t => t = s.elapse dt)) ∧
    (∀ m, s.dev.phase = 1 → s.dev.magic = false →
      (m = 0x4947574D →
        Answers (.imageMagicRead dt m) s (fun t => t = { s.elapse dt with dev := { s.dev with magic := true } })) ∧
      (m ≠ 0x4947574D →
        Answers (.imageMagicRead dt m) s (fun t =>
          t = { s.elapse dt with dev := { s.dev with phase := 3, result := 1, boot := none } }))) ∧
    (∀ l : List Byte, s.dev.phase = 1 → s.dev.magic = true →
      let len := (imgWord l 8).toNat
      let part := fieldOf (imgWord l 0x10) 0 16
      let ver := fieldOf (imgWord l 4) 0 8
      let crc := crc32 (l.take 0x3C ++ (l.drop 0x40).take (len - 0x40))
      let n := fieldOf (imgWord l 4) 16 16
      let cleared := { s.rep with trace := [], fill := 0, stopSeen := false, post := 0, frozen := false, undrained := [] }
      let ends := fun (r : Nat) => Answers (.imageReadComplete dt l) s (fun t =>
        t = { s.elapse dt with
              dev := { s.dev with phase := 3, result := r, errSection := 0xFF, boot := none }, rep := cleared })
      (part ≠ 0x1618 → ends 4) ∧
      (part = 0x1618 → ver ≠ 1 → ends 5) ∧
      (part = 0x1618 → ver = 1 → len < 0x80 ∨ 0x200000 < len → ends 7) ∧
      (part = 0x1618 → ver = 1 → 0x80 ≤ len → len ≤ 0x200000 → crc ≠ imgWord l 0x3C → ends 6) ∧
      (part = 0x1618 → ver = 1 → 0x80 ≤ len → len ≤ 0x200000 → crc = imgWord l 0x3C → n = 0 ∨ 64 < n → ends 7) ∧
      (imageBad l = none → (∀ x ∈ sectionsOf l, x.len = 0) → s.regs.dirty = 0 →
        Answers (.imageReadComplete dt l) s (fun t =>
          t = { s.elapse dt with
                dev := { s.dev with
                  phase := 2, build := imgWord l 0x18, autoRun := bitOf (imgWord l 0xC) 0
                  forceRun := bitOf (imgWord l 0xC) 1, boot := some { crcRef := imgWord l 0x14, locks := [] } }
                rep := cleared }))) ∧
    ∀ b, s.dev.boot = some b → b.locks = [] → s.dev.phase = 2 →
      let go := s.dev.autoRun = true ∧ (s.dev.refused = 0 ∨ s.dev.forceRun = true) ∧ s.dev.st = .setUp
      (s.bootDrafting = false →
        Answers (.loadingEnd dt) s (fun t =>
          t = { s.elapse dt with dev := t.dev, regs := { s.regs with rwi := t.regs.rwi }, rep := t.rep } ∧
          t.rwi 0x1024 = b.crcRef ∧ t.dev.phase = 3 ∧ t.dev.result = (if s.dev.refused = 0 then 2 else 3) ∧
          t.dev.boot = none ∧ t.dev.st = s.dev.st ∧ (go → t.dev.runPend = true) ∧ (¬go → t.dev.runPend = s.dev.runPend) ∧
          t.rep.trace = [] ∧ t.rep.log = s.rep.log)) ∧
      (s.bootDrafting = true → Answers (.loadingEnd dt) s (fun t => t = s.elapse dt))
end

