-- ==== Sys2Proof/Laws/State.lean ====
section
/-!
SUPPORT. What the shared operations leave as it was: one lemma for each field and each operation of Ops.lean, all true by
unfolding, so that no later proof unfolds a record update; and what the passing of time changes.
-/

namespace Sys2Proof.Machine

variable (s : State)

/-! ### raise -/

@[simp] theorem State.raise_pending (i : Nat) : (s.raise i).pending = s.pending := rfl
@[simp] theorem State.raise_now (i : Nat) : (s.raise i).now = s.now := rfl
@[simp] theorem State.raise_frac (i : Nat) : (s.raise i).frac = s.frac := rfl
@[simp] theorem State.raise_clock (i : Nat) : (s.raise i).clock = s.clock := rfl
@[simp] theorem State.raise_free (i : Nat) : (s.raise i).free = s.free := rfl
@[simp] theorem State.raise_dev (i : Nat) : (s.raise i).dev = s.dev := rfl
@[simp] theorem State.raise_tm (i : Nat) : (s.raise i).tm = s.tm := rfl
@[simp] theorem State.raise_regs (i : Nat) : (s.raise i).regs = s.regs := rfl
@[simp] theorem State.raise_locks (i : Nat) : (s.raise i).locks = s.locks := rfl
@[simp] theorem State.raise_fences (i : Nat) : (s.raise i).fences = s.fences := rfl
@[simp] theorem State.raise_holds (i : Nat) : (s.raise i).holds = s.holds := rfl
@[simp] theorem State.raise_ow (i : Nat) : (s.raise i).ow = s.ow := rfl
@[simp] theorem State.raise_chs (i : Nat) : (s.raise i).chs = s.chs := rfl
@[simp] theorem State.raise_chSp (i : Nat) : (s.raise i).chSp = s.chSp := rfl
@[simp] theorem State.raise_sps (i : Nat) : (s.raise i).sps = s.sps := rfl
@[simp] theorem State.raise_mm (i : Nat) : (s.raise i).mm = s.mm := rfl
@[simp] theorem State.raise_cr (i : Nat) : (s.raise i).cr = s.cr := rfl
@[simp] theorem State.raise_dr (i : Nat) : (s.raise i).dr = s.dr := rfl
@[simp] theorem State.raise_fa (i : Nat) : (s.raise i).fa = s.fa := rfl
@[simp] theorem State.raise_fd (i : Nat) : (s.raise i).fd = s.fd := rfl
@[simp] theorem State.raise_lw (i : Nat) : (s.raise i).lw = s.lw := rfl
@[simp] theorem State.raise_ks (i : Nat) : (s.raise i).ks = s.ks := rfl
@[simp] theorem State.raise_cs (i : Nat) : (s.raise i).cs = s.cs := rfl
@[simp] theorem State.raise_pl (i : Nat) : (s.raise i).pl = s.pl := rfl
@[simp] theorem State.raise_tw (i : Nat) : (s.raise i).tw = s.tw := rfl
@[simp] theorem State.raise_lio (i : Nat) : (s.raise i).lio = s.lio := rfl
@[simp] theorem State.raise_rp (i : Nat) : (s.raise i).rp = s.rp := rfl

/-! ### raiseOnce -/

@[simp] theorem State.raiseOnce_pending (g i : Nat) : (s.raiseOnce g i).pending = s.pending := rfl
@[simp] theorem State.raiseOnce_now (g i : Nat) : (s.raiseOnce g i).now = s.now := rfl
@[simp] theorem State.raiseOnce_frac (g i : Nat) : (s.raiseOnce g i).frac = s.frac := rfl
@[simp] theorem State.raiseOnce_clock (g i : Nat) : (s.raiseOnce g i).clock = s.clock := rfl
@[simp] theorem State.raiseOnce_free (g i : Nat) : (s.raiseOnce g i).free = s.free := rfl
@[simp] theorem State.raiseOnce_dev (g i : Nat) : (s.raiseOnce g i).dev = s.dev := rfl
@[simp] theorem State.raiseOnce_tm (g i : Nat) : (s.raiseOnce g i).tm = s.tm := rfl
@[simp] theorem State.raiseOnce_regs (g i : Nat) : (s.raiseOnce g i).regs = s.regs := rfl
@[simp] theorem State.raiseOnce_locks (g i : Nat) : (s.raiseOnce g i).locks = s.locks := rfl
@[simp] theorem State.raiseOnce_fences (g i : Nat) : (s.raiseOnce g i).fences = s.fences := rfl
@[simp] theorem State.raiseOnce_holds (g i : Nat) : (s.raiseOnce g i).holds = s.holds := rfl
@[simp] theorem State.raiseOnce_ow (g i : Nat) : (s.raiseOnce g i).ow = s.ow := rfl
@[simp] theorem State.raiseOnce_chs (g i : Nat) : (s.raiseOnce g i).chs = s.chs := rfl
@[simp] theorem State.raiseOnce_chSp (g i : Nat) : (s.raiseOnce g i).chSp = s.chSp := rfl
@[simp] theorem State.raiseOnce_sps (g i : Nat) : (s.raiseOnce g i).sps = s.sps := rfl
@[simp] theorem State.raiseOnce_mm (g i : Nat) : (s.raiseOnce g i).mm = s.mm := rfl
@[simp] theorem State.raiseOnce_cr (g i : Nat) : (s.raiseOnce g i).cr = s.cr := rfl
@[simp] theorem State.raiseOnce_dr (g i : Nat) : (s.raiseOnce g i).dr = s.dr := rfl
@[simp] theorem State.raiseOnce_fa (g i : Nat) : (s.raiseOnce g i).fa = s.fa := rfl
@[simp] theorem State.raiseOnce_fd (g i : Nat) : (s.raiseOnce g i).fd = s.fd := rfl
@[simp] theorem State.raiseOnce_lw (g i : Nat) : (s.raiseOnce g i).lw = s.lw := rfl
@[simp] theorem State.raiseOnce_ks (g i : Nat) : (s.raiseOnce g i).ks = s.ks := rfl
@[simp] theorem State.raiseOnce_cs (g i : Nat) : (s.raiseOnce g i).cs = s.cs := rfl
@[simp] theorem State.raiseOnce_pl (g i : Nat) : (s.raiseOnce g i).pl = s.pl := rfl
@[simp] theorem State.raiseOnce_tw (g i : Nat) : (s.raiseOnce g i).tw = s.tw := rfl
@[simp] theorem State.raiseOnce_lio (g i : Nat) : (s.raiseOnce g i).lio = s.lio := rfl
@[simp] theorem State.raiseOnce_rp (g i : Nat) : (s.raiseOnce g i).rp = s.rp := rfl

/-! ### slub -/

@[simp] theorem State.slub_pending (k a b c : Nat) : (s.slub k a b c).pending = s.pending := rfl
@[simp] theorem State.slub_now (k a b c : Nat) : (s.slub k a b c).now = s.now := rfl
@[simp] theorem State.slub_frac (k a b c : Nat) : (s.slub k a b c).frac = s.frac := rfl
@[simp] theorem State.slub_clock (k a b c : Nat) : (s.slub k a b c).clock = s.clock := rfl
@[simp] theorem State.slub_free (k a b c : Nat) : (s.slub k a b c).free = s.free := rfl
@[simp] theorem State.slub_dev (k a b c : Nat) : (s.slub k a b c).dev = s.dev := rfl
@[simp] theorem State.slub_tm (k a b c : Nat) : (s.slub k a b c).tm = s.tm := rfl
@[simp] theorem State.slub_regs (k a b c : Nat) : (s.slub k a b c).regs = s.regs := rfl
@[simp] theorem State.slub_locks (k a b c : Nat) : (s.slub k a b c).locks = s.locks := rfl
@[simp] theorem State.slub_fences (k a b c : Nat) : (s.slub k a b c).fences = s.fences := rfl
@[simp] theorem State.slub_holds (k a b c : Nat) : (s.slub k a b c).holds = s.holds := rfl
@[simp] theorem State.slub_ow (k a b c : Nat) : (s.slub k a b c).ow = s.ow := rfl
@[simp] theorem State.slub_chs (k a b c : Nat) : (s.slub k a b c).chs = s.chs := rfl
@[simp] theorem State.slub_chSp (k a b c : Nat) : (s.slub k a b c).chSp = s.chSp := rfl
@[simp] theorem State.slub_sps (k a b c : Nat) : (s.slub k a b c).sps = s.sps := rfl
@[simp] theorem State.slub_mm (k a b c : Nat) : (s.slub k a b c).mm = s.mm := rfl
@[simp] theorem State.slub_cr (k a b c : Nat) : (s.slub k a b c).cr = s.cr := rfl
@[simp] theorem State.slub_dr (k a b c : Nat) : (s.slub k a b c).dr = s.dr := rfl
@[simp] theorem State.slub_fa (k a b c : Nat) : (s.slub k a b c).fa = s.fa := rfl
@[simp] theorem State.slub_fd (k a b c : Nat) : (s.slub k a b c).fd = s.fd := rfl
@[simp] theorem State.slub_lw (k a b c : Nat) : (s.slub k a b c).lw = s.lw := rfl
@[simp] theorem State.slub_ks (k a b c : Nat) : (s.slub k a b c).ks = s.ks := rfl
@[simp] theorem State.slub_cs (k a b c : Nat) : (s.slub k a b c).cs = s.cs := rfl
@[simp] theorem State.slub_pl (k a b c : Nat) : (s.slub k a b c).pl = s.pl := rfl
@[simp] theorem State.slub_tw (k a b c : Nat) : (s.slub k a b c).tw = s.tw := rfl
@[simp] theorem State.slub_lio (k a b c : Nat) : (s.slub k a b c).lio = s.lio := rfl
@[simp] theorem State.slub_rp (k a b c : Nat) : (s.slub k a b c).rp = s.rp := rfl

/-! ### slubAt -/

@[simp] theorem State.slubAt_pending (t : BitVec 64) (n : BitVec 48) (k a b c : Nat) : (s.slubAt t n k a b c).pending = s.pending := rfl
@[simp] theorem State.slubAt_now (t : BitVec 64) (n : BitVec 48) (k a b c : Nat) : (s.slubAt t n k a b c).now = s.now := rfl
@[simp] theorem State.slubAt_frac (t : BitVec 64) (n : BitVec 48) (k a b c : Nat) : (s.slubAt t n k a b c).frac = s.frac := rfl
@[simp] theorem State.slubAt_clock (t : BitVec 64) (n : BitVec 48) (k a b c : Nat) : (s.slubAt t n k a b c).clock = s.clock := rfl
@[simp] theorem State.slubAt_free (t : BitVec 64) (n : BitVec 48) (k a b c : Nat) : (s.slubAt t n k a b c).free = s.free := rfl
@[simp] theorem State.slubAt_dev (t : BitVec 64) (n : BitVec 48) (k a b c : Nat) : (s.slubAt t n k a b c).dev = s.dev := rfl
@[simp] theorem State.slubAt_tm (t : BitVec 64) (n : BitVec 48) (k a b c : Nat) : (s.slubAt t n k a b c).tm = s.tm := rfl
@[simp] theorem State.slubAt_regs (t : BitVec 64) (n : BitVec 48) (k a b c : Nat) : (s.slubAt t n k a b c).regs = s.regs := rfl
@[simp] theorem State.slubAt_locks (t : BitVec 64) (n : BitVec 48) (k a b c : Nat) : (s.slubAt t n k a b c).locks = s.locks := rfl
@[simp] theorem State.slubAt_fences (t : BitVec 64) (n : BitVec 48) (k a b c : Nat) : (s.slubAt t n k a b c).fences = s.fences := rfl
@[simp] theorem State.slubAt_holds (t : BitVec 64) (n : BitVec 48) (k a b c : Nat) : (s.slubAt t n k a b c).holds = s.holds := rfl
@[simp] theorem State.slubAt_ow (t : BitVec 64) (n : BitVec 48) (k a b c : Nat) : (s.slubAt t n k a b c).ow = s.ow := rfl
@[simp] theorem State.slubAt_chs (t : BitVec 64) (n : BitVec 48) (k a b c : Nat) : (s.slubAt t n k a b c).chs = s.chs := rfl
@[simp] theorem State.slubAt_chSp (t : BitVec 64) (n : BitVec 48) (k a b c : Nat) : (s.slubAt t n k a b c).chSp = s.chSp := rfl
@[simp] theorem State.slubAt_sps (t : BitVec 64) (n : BitVec 48) (k a b c : Nat) : (s.slubAt t n k a b c).sps = s.sps := rfl
@[simp] theorem State.slubAt_mm (t : BitVec 64) (n : BitVec 48) (k a b c : Nat) : (s.slubAt t n k a b c).mm = s.mm := rfl
@[simp] theorem State.slubAt_cr (t : BitVec 64) (n : BitVec 48) (k a b c : Nat) : (s.slubAt t n k a b c).cr = s.cr := rfl
@[simp] theorem State.slubAt_dr (t : BitVec 64) (n : BitVec 48) (k a b c : Nat) : (s.slubAt t n k a b c).dr = s.dr := rfl
@[simp] theorem State.slubAt_fa (t : BitVec 64) (n : BitVec 48) (k a b c : Nat) : (s.slubAt t n k a b c).fa = s.fa := rfl
@[simp] theorem State.slubAt_fd (t : BitVec 64) (n : BitVec 48) (k a b c : Nat) : (s.slubAt t n k a b c).fd = s.fd := rfl
@[simp] theorem State.slubAt_lw (t : BitVec 64) (n : BitVec 48) (k a b c : Nat) : (s.slubAt t n k a b c).lw = s.lw := rfl
@[simp] theorem State.slubAt_ks (t : BitVec 64) (n : BitVec 48) (k a b c : Nat) : (s.slubAt t n k a b c).ks = s.ks := rfl
@[simp] theorem State.slubAt_cs (t : BitVec 64) (n : BitVec 48) (k a b c : Nat) : (s.slubAt t n k a b c).cs = s.cs := rfl
@[simp] theorem State.slubAt_pl (t : BitVec 64) (n : BitVec 48) (k a b c : Nat) : (s.slubAt t n k a b c).pl = s.pl := rfl
@[simp] theorem State.slubAt_tw (t : BitVec 64) (n : BitVec 48) (k a b c : Nat) : (s.slubAt t n k a b c).tw = s.tw := rfl
@[simp] theorem State.slubAt_lio (t : BitVec 64) (n : BitVec 48) (k a b c : Nat) : (s.slubAt t n k a b c).lio = s.lio := rfl
@[simp] theorem State.slubAt_rp (t : BitVec 64) (n : BitVec 48) (k a b c : Nat) : (s.slubAt t n k a b c).rp = s.rp := rfl

/-! ### slubOnce -/

@[simp] theorem State.slubOnce_pending (g k a b c : Nat) : (s.slubOnce g k a b c).pending = s.pending := rfl
@[simp] theorem State.slubOnce_now (g k a b c : Nat) : (s.slubOnce g k a b c).now = s.now := rfl
@[simp] theorem State.slubOnce_frac (g k a b c : Nat) : (s.slubOnce g k a b c).frac = s.frac := rfl
@[simp] theorem State.slubOnce_clock (g k a b c : Nat) : (s.slubOnce g k a b c).clock = s.clock := rfl
@[simp] theorem State.slubOnce_free (g k a b c : Nat) : (s.slubOnce g k a b c).free = s.free := rfl
@[simp] theorem State.slubOnce_dev (g k a b c : Nat) : (s.slubOnce g k a b c).dev = s.dev := rfl
@[simp] theorem State.slubOnce_tm (g k a b c : Nat) : (s.slubOnce g k a b c).tm = s.tm := rfl
@[simp] theorem State.slubOnce_regs (g k a b c : Nat) : (s.slubOnce g k a b c).regs = s.regs := rfl
@[simp] theorem State.slubOnce_locks (g k a b c : Nat) : (s.slubOnce g k a b c).locks = s.locks := rfl
@[simp] theorem State.slubOnce_fences (g k a b c : Nat) : (s.slubOnce g k a b c).fences = s.fences := rfl
@[simp] theorem State.slubOnce_holds (g k a b c : Nat) : (s.slubOnce g k a b c).holds = s.holds := rfl
@[simp] theorem State.slubOnce_ow (g k a b c : Nat) : (s.slubOnce g k a b c).ow = s.ow := rfl
@[simp] theorem State.slubOnce_chs (g k a b c : Nat) : (s.slubOnce g k a b c).chs = s.chs := rfl
@[simp] theorem State.slubOnce_chSp (g k a b c : Nat) : (s.slubOnce g k a b c).chSp = s.chSp := rfl
@[simp] theorem State.slubOnce_sps (g k a b c : Nat) : (s.slubOnce g k a b c).sps = s.sps := rfl
@[simp] theorem State.slubOnce_mm (g k a b c : Nat) : (s.slubOnce g k a b c).mm = s.mm := rfl
@[simp] theorem State.slubOnce_cr (g k a b c : Nat) : (s.slubOnce g k a b c).cr = s.cr := rfl
@[simp] theorem State.slubOnce_dr (g k a b c : Nat) : (s.slubOnce g k a b c).dr = s.dr := rfl
@[simp] theorem State.slubOnce_fa (g k a b c : Nat) : (s.slubOnce g k a b c).fa = s.fa := rfl
@[simp] theorem State.slubOnce_fd (g k a b c : Nat) : (s.slubOnce g k a b c).fd = s.fd := rfl
@[simp] theorem State.slubOnce_lw (g k a b c : Nat) : (s.slubOnce g k a b c).lw = s.lw := rfl
@[simp] theorem State.slubOnce_ks (g k a b c : Nat) : (s.slubOnce g k a b c).ks = s.ks := rfl
@[simp] theorem State.slubOnce_cs (g k a b c : Nat) : (s.slubOnce g k a b c).cs = s.cs := rfl
@[simp] theorem State.slubOnce_pl (g k a b c : Nat) : (s.slubOnce g k a b c).pl = s.pl := rfl
@[simp] theorem State.slubOnce_tw (g k a b c : Nat) : (s.slubOnce g k a b c).tw = s.tw := rfl
@[simp] theorem State.slubOnce_lio (g k a b c : Nat) : (s.slubOnce g k a b c).lio = s.lio := rfl
@[simp] theorem State.slubOnce_rp (g k a b c : Nat) : (s.slubOnce g k a b c).rp = s.rp := rfl

/-! ### count -/

@[simp] theorem State.count_pending (c : Nat) : (s.count c).pending = s.pending := rfl
@[simp] theorem State.count_now (c : Nat) : (s.count c).now = s.now := rfl
@[simp] theorem State.count_frac (c : Nat) : (s.count c).frac = s.frac := rfl
@[simp] theorem State.count_clock (c : Nat) : (s.count c).clock = s.clock := rfl
@[simp] theorem State.count_free (c : Nat) : (s.count c).free = s.free := rfl
@[simp] theorem State.count_dev (c : Nat) : (s.count c).dev = s.dev := rfl
@[simp] theorem State.count_tm (c : Nat) : (s.count c).tm = s.tm := rfl
@[simp] theorem State.count_regs (c : Nat) : (s.count c).regs = s.regs := rfl
@[simp] theorem State.count_locks (c : Nat) : (s.count c).locks = s.locks := rfl
@[simp] theorem State.count_fences (c : Nat) : (s.count c).fences = s.fences := rfl
@[simp] theorem State.count_holds (c : Nat) : (s.count c).holds = s.holds := rfl
@[simp] theorem State.count_ow (c : Nat) : (s.count c).ow = s.ow := rfl
@[simp] theorem State.count_chs (c : Nat) : (s.count c).chs = s.chs := rfl
@[simp] theorem State.count_chSp (c : Nat) : (s.count c).chSp = s.chSp := rfl
@[simp] theorem State.count_sps (c : Nat) : (s.count c).sps = s.sps := rfl
@[simp] theorem State.count_mm (c : Nat) : (s.count c).mm = s.mm := rfl
@[simp] theorem State.count_cr (c : Nat) : (s.count c).cr = s.cr := rfl
@[simp] theorem State.count_dr (c : Nat) : (s.count c).dr = s.dr := rfl
@[simp] theorem State.count_fa (c : Nat) : (s.count c).fa = s.fa := rfl
@[simp] theorem State.count_fd (c : Nat) : (s.count c).fd = s.fd := rfl
@[simp] theorem State.count_lw (c : Nat) : (s.count c).lw = s.lw := rfl
@[simp] theorem State.count_ks (c : Nat) : (s.count c).ks = s.ks := rfl
@[simp] theorem State.count_cs (c : Nat) : (s.count c).cs = s.cs := rfl
@[simp] theorem State.count_pl (c : Nat) : (s.count c).pl = s.pl := rfl
@[simp] theorem State.count_tw (c : Nat) : (s.count c).tw = s.tw := rfl
@[simp] theorem State.count_lio (c : Nat) : (s.count c).lio = s.lio := rfl
@[simp] theorem State.count_rp (c : Nat) : (s.count c).rp = s.rp := rfl

/-! ### countN -/

@[simp] theorem State.countN_pending (c n : Nat) : (s.countN c n).pending = s.pending := rfl
@[simp] theorem State.countN_now (c n : Nat) : (s.countN c n).now = s.now := rfl
@[simp] theorem State.countN_frac (c n : Nat) : (s.countN c n).frac = s.frac := rfl
@[simp] theorem State.countN_clock (c n : Nat) : (s.countN c n).clock = s.clock := rfl
@[simp] theorem State.countN_free (c n : Nat) : (s.countN c n).free = s.free := rfl
@[simp] theorem State.countN_dev (c n : Nat) : (s.countN c n).dev = s.dev := rfl
@[simp] theorem State.countN_tm (c n : Nat) : (s.countN c n).tm = s.tm := rfl
@[simp] theorem State.countN_regs (c n : Nat) : (s.countN c n).regs = s.regs := rfl
@[simp] theorem State.countN_locks (c n : Nat) : (s.countN c n).locks = s.locks := rfl
@[simp] theorem State.countN_fences (c n : Nat) : (s.countN c n).fences = s.fences := rfl
@[simp] theorem State.countN_holds (c n : Nat) : (s.countN c n).holds = s.holds := rfl
@[simp] theorem State.countN_ow (c n : Nat) : (s.countN c n).ow = s.ow := rfl
@[simp] theorem State.countN_chs (c n : Nat) : (s.countN c n).chs = s.chs := rfl
@[simp] theorem State.countN_chSp (c n : Nat) : (s.countN c n).chSp = s.chSp := rfl
@[simp] theorem State.countN_sps (c n : Nat) : (s.countN c n).sps = s.sps := rfl
@[simp] theorem State.countN_mm (c n : Nat) : (s.countN c n).mm = s.mm := rfl
@[simp] theorem State.countN_cr (c n : Nat) : (s.countN c n).cr = s.cr := rfl
@[simp] theorem State.countN_dr (c n : Nat) : (s.countN c n).dr = s.dr := rfl
@[simp] theorem State.countN_fa (c n : Nat) : (s.countN c n).fa = s.fa := rfl
@[simp] theorem State.countN_fd (c n : Nat) : (s.countN c n).fd = s.fd := rfl
@[simp] theorem State.countN_lw (c n : Nat) : (s.countN c n).lw = s.lw := rfl
@[simp] theorem State.countN_ks (c n : Nat) : (s.countN c n).ks = s.ks := rfl
@[simp] theorem State.countN_cs (c n : Nat) : (s.countN c n).cs = s.cs := rfl
@[simp] theorem State.countN_pl (c n : Nat) : (s.countN c n).pl = s.pl := rfl
@[simp] theorem State.countN_tw (c n : Nat) : (s.countN c n).tw = s.tw := rfl
@[simp] theorem State.countN_lio (c n : Nat) : (s.countN c n).lio = s.lio := rfl
@[simp] theorem State.countN_rp (c n : Nat) : (s.countN c n).rp = s.rp := rfl

/-! ### emit -/

@[simp] theorem State.emit_pending (o : Output) : (s.emit o).pending = s.pending := rfl
@[simp] theorem State.emit_now (o : Output) : (s.emit o).now = s.now := rfl
@[simp] theorem State.emit_frac (o : Output) : (s.emit o).frac = s.frac := rfl
@[simp] theorem State.emit_clock (o : Output) : (s.emit o).clock = s.clock := rfl
@[simp] theorem State.emit_free (o : Output) : (s.emit o).free = s.free := rfl
@[simp] theorem State.emit_dev (o : Output) : (s.emit o).dev = s.dev := rfl
@[simp] theorem State.emit_tm (o : Output) : (s.emit o).tm = s.tm := rfl
@[simp] theorem State.emit_regs (o : Output) : (s.emit o).regs = s.regs := rfl
@[simp] theorem State.emit_locks (o : Output) : (s.emit o).locks = s.locks := rfl
@[simp] theorem State.emit_fences (o : Output) : (s.emit o).fences = s.fences := rfl
@[simp] theorem State.emit_holds (o : Output) : (s.emit o).holds = s.holds := rfl
@[simp] theorem State.emit_ow (o : Output) : (s.emit o).ow = s.ow := rfl
@[simp] theorem State.emit_chs (o : Output) : (s.emit o).chs = s.chs := rfl
@[simp] theorem State.emit_chSp (o : Output) : (s.emit o).chSp = s.chSp := rfl
@[simp] theorem State.emit_sps (o : Output) : (s.emit o).sps = s.sps := rfl
@[simp] theorem State.emit_mm (o : Output) : (s.emit o).mm = s.mm := rfl
@[simp] theorem State.emit_cr (o : Output) : (s.emit o).cr = s.cr := rfl
@[simp] theorem State.emit_dr (o : Output) : (s.emit o).dr = s.dr := rfl
@[simp] theorem State.emit_fa (o : Output) : (s.emit o).fa = s.fa := rfl
@[simp] theorem State.emit_fd (o : Output) : (s.emit o).fd = s.fd := rfl
@[simp] theorem State.emit_lw (o : Output) : (s.emit o).lw = s.lw := rfl
@[simp] theorem State.emit_ks (o : Output) : (s.emit o).ks = s.ks := rfl
@[simp] theorem State.emit_cs (o : Output) : (s.emit o).cs = s.cs := rfl
@[simp] theorem State.emit_pl (o : Output) : (s.emit o).pl = s.pl := rfl
@[simp] theorem State.emit_tw (o : Output) : (s.emit o).tw = s.tw := rfl
@[simp] theorem State.emit_lio (o : Output) : (s.emit o).lio = s.lio := rfl
@[simp] theorem State.emit_rp (o : Output) : (s.emit o).rp = s.rp := rfl

/-! ### hank -/

@[simp] theorem State.hank_pending (k u a : Nat) (b : BitVec 64) : (s.hank k u a b).pending = s.pending := rfl
@[simp] theorem State.hank_now (k u a : Nat) (b : BitVec 64) : (s.hank k u a b).now = s.now := rfl
@[simp] theorem State.hank_frac (k u a : Nat) (b : BitVec 64) : (s.hank k u a b).frac = s.frac := rfl
@[simp] theorem State.hank_clock (k u a : Nat) (b : BitVec 64) : (s.hank k u a b).clock = s.clock := rfl
@[simp] theorem State.hank_free (k u a : Nat) (b : BitVec 64) : (s.hank k u a b).free = s.free := rfl
@[simp] theorem State.hank_dev (k u a : Nat) (b : BitVec 64) : (s.hank k u a b).dev = s.dev := rfl
@[simp] theorem State.hank_tm (k u a : Nat) (b : BitVec 64) : (s.hank k u a b).tm = s.tm := rfl
@[simp] theorem State.hank_regs (k u a : Nat) (b : BitVec 64) : (s.hank k u a b).regs = s.regs := rfl
@[simp] theorem State.hank_locks (k u a : Nat) (b : BitVec 64) : (s.hank k u a b).locks = s.locks := rfl
@[simp] theorem State.hank_fences (k u a : Nat) (b : BitVec 64) : (s.hank k u a b).fences = s.fences := rfl
@[simp] theorem State.hank_holds (k u a : Nat) (b : BitVec 64) : (s.hank k u a b).holds = s.holds := rfl
@[simp] theorem State.hank_ow (k u a : Nat) (b : BitVec 64) : (s.hank k u a b).ow = s.ow := rfl
@[simp] theorem State.hank_chs (k u a : Nat) (b : BitVec 64) : (s.hank k u a b).chs = s.chs := rfl
@[simp] theorem State.hank_chSp (k u a : Nat) (b : BitVec 64) : (s.hank k u a b).chSp = s.chSp := rfl
@[simp] theorem State.hank_sps (k u a : Nat) (b : BitVec 64) : (s.hank k u a b).sps = s.sps := rfl
@[simp] theorem State.hank_mm (k u a : Nat) (b : BitVec 64) : (s.hank k u a b).mm = s.mm := rfl
@[simp] theorem State.hank_cr (k u a : Nat) (b : BitVec 64) : (s.hank k u a b).cr = s.cr := rfl
@[simp] theorem State.hank_dr (k u a : Nat) (b : BitVec 64) : (s.hank k u a b).dr = s.dr := rfl
@[simp] theorem State.hank_fa (k u a : Nat) (b : BitVec 64) : (s.hank k u a b).fa = s.fa := rfl
@[simp] theorem State.hank_fd (k u a : Nat) (b : BitVec 64) : (s.hank k u a b).fd = s.fd := rfl
@[simp] theorem State.hank_lw (k u a : Nat) (b : BitVec 64) : (s.hank k u a b).lw = s.lw := rfl
@[simp] theorem State.hank_ks (k u a : Nat) (b : BitVec 64) : (s.hank k u a b).ks = s.ks := rfl
@[simp] theorem State.hank_cs (k u a : Nat) (b : BitVec 64) : (s.hank k u a b).cs = s.cs := rfl
@[simp] theorem State.hank_pl (k u a : Nat) (b : BitVec 64) : (s.hank k u a b).pl = s.pl := rfl
@[simp] theorem State.hank_tw (k u a : Nat) (b : BitVec 64) : (s.hank k u a b).tw = s.tw := rfl
@[simp] theorem State.hank_lio (k u a : Nat) (b : BitVec 64) : (s.hank k u a b).lio = s.lio := rfl
@[simp] theorem State.hank_rp (k u a : Nat) (b : BitVec 64) : (s.hank k u a b).rp = s.rp := rfl

/-! ### setPort -/

@[simp] theorem State.setPort_pending (p : Port) (v : PortSt) : (s.setPort p v).pending = s.pending := rfl
@[simp] theorem State.setPort_now (p : Port) (v : PortSt) : (s.setPort p v).now = s.now := rfl
@[simp] theorem State.setPort_frac (p : Port) (v : PortSt) : (s.setPort p v).frac = s.frac := rfl
@[simp] theorem State.setPort_clock (p : Port) (v : PortSt) : (s.setPort p v).clock = s.clock := rfl
@[simp] theorem State.setPort_free (p : Port) (v : PortSt) : (s.setPort p v).free = s.free := rfl
@[simp] theorem State.setPort_dev (p : Port) (v : PortSt) : (s.setPort p v).dev = s.dev := rfl
@[simp] theorem State.setPort_tm (p : Port) (v : PortSt) : (s.setPort p v).tm = s.tm := rfl
@[simp] theorem State.setPort_regs (p : Port) (v : PortSt) : (s.setPort p v).regs = s.regs := rfl
@[simp] theorem State.setPort_locks (p : Port) (v : PortSt) : (s.setPort p v).locks = s.locks := rfl
@[simp] theorem State.setPort_fences (p : Port) (v : PortSt) : (s.setPort p v).fences = s.fences := rfl
@[simp] theorem State.setPort_holds (p : Port) (v : PortSt) : (s.setPort p v).holds = s.holds := rfl
@[simp] theorem State.setPort_ow (p : Port) (v : PortSt) : (s.setPort p v).ow = s.ow := rfl
@[simp] theorem State.setPort_chs (p : Port) (v : PortSt) : (s.setPort p v).chs = s.chs := rfl
@[simp] theorem State.setPort_chSp (p : Port) (v : PortSt) : (s.setPort p v).chSp = s.chSp := rfl
@[simp] theorem State.setPort_sps (p : Port) (v : PortSt) : (s.setPort p v).sps = s.sps := rfl
@[simp] theorem State.setPort_mm (p : Port) (v : PortSt) : (s.setPort p v).mm = s.mm := rfl
@[simp] theorem State.setPort_cr (p : Port) (v : PortSt) : (s.setPort p v).cr = s.cr := rfl
@[simp] theorem State.setPort_dr (p : Port) (v : PortSt) : (s.setPort p v).dr = s.dr := rfl
@[simp] theorem State.setPort_fa (p : Port) (v : PortSt) : (s.setPort p v).fa = s.fa := rfl
@[simp] theorem State.setPort_fd (p : Port) (v : PortSt) : (s.setPort p v).fd = s.fd := rfl
@[simp] theorem State.setPort_lw (p : Port) (v : PortSt) : (s.setPort p v).lw = s.lw := rfl
@[simp] theorem State.setPort_ks (p : Port) (v : PortSt) : (s.setPort p v).ks = s.ks := rfl
@[simp] theorem State.setPort_cs (p : Port) (v : PortSt) : (s.setPort p v).cs = s.cs := rfl
@[simp] theorem State.setPort_pl (p : Port) (v : PortSt) : (s.setPort p v).pl = s.pl := rfl
@[simp] theorem State.setPort_tw (p : Port) (v : PortSt) : (s.setPort p v).tw = s.tw := rfl
@[simp] theorem State.setPort_lio (p : Port) (v : PortSt) : (s.setPort p v).lio = s.lio := rfl
@[simp] theorem State.setPort_rp (p : Port) (v : PortSt) : (s.setPort p v).rp = s.rp := rfl

/-! ### entry -/

@[simp] theorem State.entry_pending (p : Port) (k : Nat) (b : EntryBody) : (s.entry p k b).pending = s.pending := rfl
@[simp] theorem State.entry_now (p : Port) (k : Nat) (b : EntryBody) : (s.entry p k b).now = s.now := rfl
@[simp] theorem State.entry_frac (p : Port) (k : Nat) (b : EntryBody) : (s.entry p k b).frac = s.frac := rfl
@[simp] theorem State.entry_clock (p : Port) (k : Nat) (b : EntryBody) : (s.entry p k b).clock = s.clock := rfl
@[simp] theorem State.entry_free (p : Port) (k : Nat) (b : EntryBody) : (s.entry p k b).free = s.free := rfl
@[simp] theorem State.entry_dev (p : Port) (k : Nat) (b : EntryBody) : (s.entry p k b).dev = s.dev := rfl
@[simp] theorem State.entry_tm (p : Port) (k : Nat) (b : EntryBody) : (s.entry p k b).tm = s.tm := rfl
@[simp] theorem State.entry_regs (p : Port) (k : Nat) (b : EntryBody) : (s.entry p k b).regs = s.regs := rfl
@[simp] theorem State.entry_locks (p : Port) (k : Nat) (b : EntryBody) : (s.entry p k b).locks = s.locks := rfl
@[simp] theorem State.entry_fences (p : Port) (k : Nat) (b : EntryBody) : (s.entry p k b).fences = s.fences := rfl
@[simp] theorem State.entry_holds (p : Port) (k : Nat) (b : EntryBody) : (s.entry p k b).holds = s.holds := rfl
@[simp] theorem State.entry_ow (p : Port) (k : Nat) (b : EntryBody) : (s.entry p k b).ow = s.ow := rfl
@[simp] theorem State.entry_chs (p : Port) (k : Nat) (b : EntryBody) : (s.entry p k b).chs = s.chs := rfl
@[simp] theorem State.entry_chSp (p : Port) (k : Nat) (b : EntryBody) : (s.entry p k b).chSp = s.chSp := rfl
@[simp] theorem State.entry_sps (p : Port) (k : Nat) (b : EntryBody) : (s.entry p k b).sps = s.sps := rfl
@[simp] theorem State.entry_mm (p : Port) (k : Nat) (b : EntryBody) : (s.entry p k b).mm = s.mm := rfl
@[simp] theorem State.entry_cr (p : Port) (k : Nat) (b : EntryBody) : (s.entry p k b).cr = s.cr := rfl
@[simp] theorem State.entry_dr (p : Port) (k : Nat) (b : EntryBody) : (s.entry p k b).dr = s.dr := rfl
@[simp] theorem State.entry_fa (p : Port) (k : Nat) (b : EntryBody) : (s.entry p k b).fa = s.fa := rfl
@[simp] theorem State.entry_fd (p : Port) (k : Nat) (b : EntryBody) : (s.entry p k b).fd = s.fd := rfl
@[simp] theorem State.entry_lw (p : Port) (k : Nat) (b : EntryBody) : (s.entry p k b).lw = s.lw := rfl
@[simp] theorem State.entry_ks (p : Port) (k : Nat) (b : EntryBody) : (s.entry p k b).ks = s.ks := rfl
@[simp] theorem State.entry_cs (p : Port) (k : Nat) (b : EntryBody) : (s.entry p k b).cs = s.cs := rfl
@[simp] theorem State.entry_pl (p : Port) (k : Nat) (b : EntryBody) : (s.entry p k b).pl = s.pl := rfl
@[simp] theorem State.entry_tw (p : Port) (k : Nat) (b : EntryBody) : (s.entry p k b).tw = s.tw := rfl
@[simp] theorem State.entry_lio (p : Port) (k : Nat) (b : EntryBody) : (s.entry p k b).lio = s.lio := rfl
@[simp] theorem State.entry_rp (p : Port) (k : Nat) (b : EntryBody) : (s.entry p k b).rp = s.rp := rfl

/-! ### notifyBoth -/

@[simp] theorem State.notifyBoth_pending (o : Nat) (b : EntryBody) : (s.notifyBoth o b).pending = s.pending := rfl
@[simp] theorem State.notifyBoth_now (o : Nat) (b : EntryBody) : (s.notifyBoth o b).now = s.now := rfl
@[simp] theorem State.notifyBoth_frac (o : Nat) (b : EntryBody) : (s.notifyBoth o b).frac = s.frac := rfl
@[simp] theorem State.notifyBoth_clock (o : Nat) (b : EntryBody) : (s.notifyBoth o b).clock = s.clock := rfl
@[simp] theorem State.notifyBoth_free (o : Nat) (b : EntryBody) : (s.notifyBoth o b).free = s.free := rfl
@[simp] theorem State.notifyBoth_dev (o : Nat) (b : EntryBody) : (s.notifyBoth o b).dev = s.dev := rfl
@[simp] theorem State.notifyBoth_tm (o : Nat) (b : EntryBody) : (s.notifyBoth o b).tm = s.tm := rfl
@[simp] theorem State.notifyBoth_regs (o : Nat) (b : EntryBody) : (s.notifyBoth o b).regs = s.regs := rfl
@[simp] theorem State.notifyBoth_locks (o : Nat) (b : EntryBody) : (s.notifyBoth o b).locks = s.locks := rfl
@[simp] theorem State.notifyBoth_fences (o : Nat) (b : EntryBody) : (s.notifyBoth o b).fences = s.fences := rfl
@[simp] theorem State.notifyBoth_holds (o : Nat) (b : EntryBody) : (s.notifyBoth o b).holds = s.holds := rfl
@[simp] theorem State.notifyBoth_ow (o : Nat) (b : EntryBody) : (s.notifyBoth o b).ow = s.ow := rfl
@[simp] theorem State.notifyBoth_chs (o : Nat) (b : EntryBody) : (s.notifyBoth o b).chs = s.chs := rfl
@[simp] theorem State.notifyBoth_chSp (o : Nat) (b : EntryBody) : (s.notifyBoth o b).chSp = s.chSp := rfl
@[simp] theorem State.notifyBoth_sps (o : Nat) (b : EntryBody) : (s.notifyBoth o b).sps = s.sps := rfl
@[simp] theorem State.notifyBoth_mm (o : Nat) (b : EntryBody) : (s.notifyBoth o b).mm = s.mm := rfl
@[simp] theorem State.notifyBoth_cr (o : Nat) (b : EntryBody) : (s.notifyBoth o b).cr = s.cr := rfl
@[simp] theorem State.notifyBoth_dr (o : Nat) (b : EntryBody) : (s.notifyBoth o b).dr = s.dr := rfl
@[simp] theorem State.notifyBoth_fa (o : Nat) (b : EntryBody) : (s.notifyBoth o b).fa = s.fa := rfl
@[simp] theorem State.notifyBoth_fd (o : Nat) (b : EntryBody) : (s.notifyBoth o b).fd = s.fd := rfl
@[simp] theorem State.notifyBoth_lw (o : Nat) (b : EntryBody) : (s.notifyBoth o b).lw = s.lw := rfl
@[simp] theorem State.notifyBoth_ks (o : Nat) (b : EntryBody) : (s.notifyBoth o b).ks = s.ks := rfl
@[simp] theorem State.notifyBoth_cs (o : Nat) (b : EntryBody) : (s.notifyBoth o b).cs = s.cs := rfl
@[simp] theorem State.notifyBoth_pl (o : Nat) (b : EntryBody) : (s.notifyBoth o b).pl = s.pl := rfl
@[simp] theorem State.notifyBoth_tw (o : Nat) (b : EntryBody) : (s.notifyBoth o b).tw = s.tw := rfl
@[simp] theorem State.notifyBoth_lio (o : Nat) (b : EntryBody) : (s.notifyBoth o b).lio = s.lio := rfl
@[simp] theorem State.notifyBoth_rp (o : Nat) (b : EntryBody) : (s.notifyBoth o b).rp = s.rp := rfl

/-! ### askReq -/

@[simp] theorem State.askReq_pending : (s.askReq).pending = s.pending := rfl
@[simp] theorem State.askReq_now : (s.askReq).now = s.now := rfl
@[simp] theorem State.askReq_frac : (s.askReq).frac = s.frac := rfl
@[simp] theorem State.askReq_clock : (s.askReq).clock = s.clock := rfl
@[simp] theorem State.askReq_free : (s.askReq).free = s.free := rfl
@[simp] theorem State.askReq_dev : (s.askReq).dev = s.dev := rfl
@[simp] theorem State.askReq_tm : (s.askReq).tm = s.tm := rfl
@[simp] theorem State.askReq_regs : (s.askReq).regs = s.regs := rfl
@[simp] theorem State.askReq_locks : (s.askReq).locks = s.locks := rfl
@[simp] theorem State.askReq_fences : (s.askReq).fences = s.fences := rfl
@[simp] theorem State.askReq_holds : (s.askReq).holds = s.holds := rfl
@[simp] theorem State.askReq_ow : (s.askReq).ow = s.ow := rfl
@[simp] theorem State.askReq_chs : (s.askReq).chs = s.chs := rfl
@[simp] theorem State.askReq_chSp : (s.askReq).chSp = s.chSp := rfl
@[simp] theorem State.askReq_sps : (s.askReq).sps = s.sps := rfl
@[simp] theorem State.askReq_mm : (s.askReq).mm = s.mm := rfl
@[simp] theorem State.askReq_cr : (s.askReq).cr = s.cr := rfl
@[simp] theorem State.askReq_dr : (s.askReq).dr = s.dr := rfl
@[simp] theorem State.askReq_fa : (s.askReq).fa = s.fa := rfl
@[simp] theorem State.askReq_fd : (s.askReq).fd = s.fd := rfl
@[simp] theorem State.askReq_lw : (s.askReq).lw = s.lw := rfl
@[simp] theorem State.askReq_ks : (s.askReq).ks = s.ks := rfl
@[simp] theorem State.askReq_cs : (s.askReq).cs = s.cs := rfl
@[simp] theorem State.askReq_pl : (s.askReq).pl = s.pl := rfl
@[simp] theorem State.askReq_tw : (s.askReq).tw = s.tw := rfl
@[simp] theorem State.askReq_lio : (s.askReq).lio = s.lio := rfl
@[simp] theorem State.askReq_rp : (s.askReq).rp = s.rp := rfl

/-! ### flush -/

@[simp] theorem State.flush_pending : (s.flush).pending = s.pending := rfl
@[simp] theorem State.flush_now : (s.flush).now = s.now := rfl
@[simp] theorem State.flush_frac : (s.flush).frac = s.frac := rfl
@[simp] theorem State.flush_clock : (s.flush).clock = s.clock := rfl
@[simp] theorem State.flush_free : (s.flush).free = s.free := rfl
@[simp] theorem State.flush_dev : (s.flush).dev = s.dev := rfl
@[simp] theorem State.flush_tm : (s.flush).tm = s.tm := rfl
@[simp] theorem State.flush_regs : (s.flush).regs = s.regs := rfl
@[simp] theorem State.flush_locks : (s.flush).locks = s.locks := rfl
@[simp] theorem State.flush_fences : (s.flush).fences = s.fences := rfl
@[simp] theorem State.flush_holds : (s.flush).holds = s.holds := rfl
@[simp] theorem State.flush_ow : (s.flush).ow = s.ow := rfl
@[simp] theorem State.flush_chs : (s.flush).chs = s.chs := rfl
@[simp] theorem State.flush_chSp : (s.flush).chSp = s.chSp := rfl
@[simp] theorem State.flush_sps : (s.flush).sps = s.sps := rfl
@[simp] theorem State.flush_mm : (s.flush).mm = s.mm := rfl
@[simp] theorem State.flush_cr : (s.flush).cr = s.cr := rfl
@[simp] theorem State.flush_dr : (s.flush).dr = s.dr := rfl
@[simp] theorem State.flush_fa : (s.flush).fa = s.fa := rfl
@[simp] theorem State.flush_fd : (s.flush).fd = s.fd := rfl
@[simp] theorem State.flush_lw : (s.flush).lw = s.lw := rfl
@[simp] theorem State.flush_ks : (s.flush).ks = s.ks := rfl
@[simp] theorem State.flush_cs : (s.flush).cs = s.cs := rfl
@[simp] theorem State.flush_pl : (s.flush).pl = s.pl := rfl
@[simp] theorem State.flush_tw : (s.flush).tw = s.tw := rfl
@[simp] theorem State.flush_lio : (s.flush).lio = s.lio := rfl
@[simp] theorem State.flush_rp : (s.flush).rp = s.rp := rfl

/-! ### complete -/

@[simp] theorem State.complete_pending (d : Desc) (c : Compl) : (s.complete d c).pending = s.pending := rfl
@[simp] theorem State.complete_now (d : Desc) (c : Compl) : (s.complete d c).now = s.now := rfl
@[simp] theorem State.complete_frac (d : Desc) (c : Compl) : (s.complete d c).frac = s.frac := rfl
@[simp] theorem State.complete_clock (d : Desc) (c : Compl) : (s.complete d c).clock = s.clock := rfl
@[simp] theorem State.complete_free (d : Desc) (c : Compl) : (s.complete d c).free = s.free := rfl
@[simp] theorem State.complete_dev (d : Desc) (c : Compl) : (s.complete d c).dev = s.dev := rfl
@[simp] theorem State.complete_tm (d : Desc) (c : Compl) : (s.complete d c).tm = s.tm := rfl
@[simp] theorem State.complete_regs (d : Desc) (c : Compl) : (s.complete d c).regs = s.regs := rfl
@[simp] theorem State.complete_locks (d : Desc) (c : Compl) : (s.complete d c).locks = s.locks := rfl
@[simp] theorem State.complete_fences (d : Desc) (c : Compl) : (s.complete d c).fences = s.fences := rfl
@[simp] theorem State.complete_holds (d : Desc) (c : Compl) : (s.complete d c).holds = s.holds := rfl
@[simp] theorem State.complete_ow (d : Desc) (c : Compl) : (s.complete d c).ow = s.ow := rfl
@[simp] theorem State.complete_chs (d : Desc) (c : Compl) : (s.complete d c).chs = s.chs := rfl
@[simp] theorem State.complete_chSp (d : Desc) (c : Compl) : (s.complete d c).chSp = s.chSp := rfl
@[simp] theorem State.complete_sps (d : Desc) (c : Compl) : (s.complete d c).sps = s.sps := rfl
@[simp] theorem State.complete_mm (d : Desc) (c : Compl) : (s.complete d c).mm = s.mm := rfl
@[simp] theorem State.complete_cr (d : Desc) (c : Compl) : (s.complete d c).cr = s.cr := rfl
@[simp] theorem State.complete_dr (d : Desc) (c : Compl) : (s.complete d c).dr = s.dr := rfl
@[simp] theorem State.complete_fa (d : Desc) (c : Compl) : (s.complete d c).fa = s.fa := rfl
@[simp] theorem State.complete_fd (d : Desc) (c : Compl) : (s.complete d c).fd = s.fd := rfl
@[simp] theorem State.complete_lw (d : Desc) (c : Compl) : (s.complete d c).lw = s.lw := rfl
@[simp] theorem State.complete_ks (d : Desc) (c : Compl) : (s.complete d c).ks = s.ks := rfl
@[simp] theorem State.complete_cs (d : Desc) (c : Compl) : (s.complete d c).cs = s.cs := rfl
@[simp] theorem State.complete_pl (d : Desc) (c : Compl) : (s.complete d c).pl = s.pl := rfl
@[simp] theorem State.complete_tw (d : Desc) (c : Compl) : (s.complete d c).tw = s.tw := rfl
@[simp] theorem State.complete_lio (d : Desc) (c : Compl) : (s.complete d c).lio = s.lio := rfl
@[simp] theorem State.complete_rp (d : Desc) (c : Compl) : (s.complete d c).rp = s.rp := rfl

/-! ### completeSt -/

@[simp] theorem State.completeSt_pending (d : Desc) (o t : Nat) : (s.completeSt d o t).pending = s.pending := rfl
@[simp] theorem State.completeSt_now (d : Desc) (o t : Nat) : (s.completeSt d o t).now = s.now := rfl
@[simp] theorem State.completeSt_frac (d : Desc) (o t : Nat) : (s.completeSt d o t).frac = s.frac := rfl
@[simp] theorem State.completeSt_clock (d : Desc) (o t : Nat) : (s.completeSt d o t).clock = s.clock := rfl
@[simp] theorem State.completeSt_free (d : Desc) (o t : Nat) : (s.completeSt d o t).free = s.free := rfl
@[simp] theorem State.completeSt_dev (d : Desc) (o t : Nat) : (s.completeSt d o t).dev = s.dev := rfl
@[simp] theorem State.completeSt_tm (d : Desc) (o t : Nat) : (s.completeSt d o t).tm = s.tm := rfl
@[simp] theorem State.completeSt_regs (d : Desc) (o t : Nat) : (s.completeSt d o t).regs = s.regs := rfl
@[simp] theorem State.completeSt_locks (d : Desc) (o t : Nat) : (s.completeSt d o t).locks = s.locks := rfl
@[simp] theorem State.completeSt_fences (d : Desc) (o t : Nat) : (s.completeSt d o t).fences = s.fences := rfl
@[simp] theorem State.completeSt_holds (d : Desc) (o t : Nat) : (s.completeSt d o t).holds = s.holds := rfl
@[simp] theorem State.completeSt_ow (d : Desc) (o t : Nat) : (s.completeSt d o t).ow = s.ow := rfl
@[simp] theorem State.completeSt_chs (d : Desc) (o t : Nat) : (s.completeSt d o t).chs = s.chs := rfl
@[simp] theorem State.completeSt_chSp (d : Desc) (o t : Nat) : (s.completeSt d o t).chSp = s.chSp := rfl
@[simp] theorem State.completeSt_sps (d : Desc) (o t : Nat) : (s.completeSt d o t).sps = s.sps := rfl
@[simp] theorem State.completeSt_mm (d : Desc) (o t : Nat) : (s.completeSt d o t).mm = s.mm := rfl
@[simp] theorem State.completeSt_cr (d : Desc) (o t : Nat) : (s.completeSt d o t).cr = s.cr := rfl
@[simp] theorem State.completeSt_dr (d : Desc) (o t : Nat) : (s.completeSt d o t).dr = s.dr := rfl
@[simp] theorem State.completeSt_fa (d : Desc) (o t : Nat) : (s.completeSt d o t).fa = s.fa := rfl
@[simp] theorem State.completeSt_fd (d : Desc) (o t : Nat) : (s.completeSt d o t).fd = s.fd := rfl
@[simp] theorem State.completeSt_lw (d : Desc) (o t : Nat) : (s.completeSt d o t).lw = s.lw := rfl
@[simp] theorem State.completeSt_ks (d : Desc) (o t : Nat) : (s.completeSt d o t).ks = s.ks := rfl
@[simp] theorem State.completeSt_cs (d : Desc) (o t : Nat) : (s.completeSt d o t).cs = s.cs := rfl
@[simp] theorem State.completeSt_pl (d : Desc) (o t : Nat) : (s.completeSt d o t).pl = s.pl := rfl
@[simp] theorem State.completeSt_tw (d : Desc) (o t : Nat) : (s.completeSt d o t).tw = s.tw := rfl
@[simp] theorem State.completeSt_lio (d : Desc) (o t : Nat) : (s.completeSt d o t).lio = s.lio := rfl
@[simp] theorem State.completeSt_rp (d : Desc) (o t : Nat) : (s.completeSt d o t).rp = s.rp := rfl

/-! ### reserve -/

@[simp] theorem State.reserve_pending (p : Port) (d : Nat) (i : Word) : (s.reserve p d i).pending = s.pending := rfl
@[simp] theorem State.reserve_now (p : Port) (d : Nat) (i : Word) : (s.reserve p d i).now = s.now := rfl
@[simp] theorem State.reserve_frac (p : Port) (d : Nat) (i : Word) : (s.reserve p d i).frac = s.frac := rfl
@[simp] theorem State.reserve_clock (p : Port) (d : Nat) (i : Word) : (s.reserve p d i).clock = s.clock := rfl
@[simp] theorem State.reserve_free (p : Port) (d : Nat) (i : Word) : (s.reserve p d i).free = s.free := rfl
@[simp] theorem State.reserve_dev (p : Port) (d : Nat) (i : Word) : (s.reserve p d i).dev = s.dev := rfl
@[simp] theorem State.reserve_tm (p : Port) (d : Nat) (i : Word) : (s.reserve p d i).tm = s.tm := rfl
@[simp] theorem State.reserve_regs (p : Port) (d : Nat) (i : Word) : (s.reserve p d i).regs = s.regs := rfl
@[simp] theorem State.reserve_locks (p : Port) (d : Nat) (i : Word) : (s.reserve p d i).locks = s.locks := rfl
@[simp] theorem State.reserve_fences (p : Port) (d : Nat) (i : Word) : (s.reserve p d i).fences = s.fences := rfl
@[simp] theorem State.reserve_holds (p : Port) (d : Nat) (i : Word) : (s.reserve p d i).holds = s.holds := rfl
@[simp] theorem State.reserve_ow (p : Port) (d : Nat) (i : Word) : (s.reserve p d i).ow = s.ow := rfl
@[simp] theorem State.reserve_chs (p : Port) (d : Nat) (i : Word) : (s.reserve p d i).chs = s.chs := rfl
@[simp] theorem State.reserve_chSp (p : Port) (d : Nat) (i : Word) : (s.reserve p d i).chSp = s.chSp := rfl
@[simp] theorem State.reserve_sps (p : Port) (d : Nat) (i : Word) : (s.reserve p d i).sps = s.sps := rfl
@[simp] theorem State.reserve_mm (p : Port) (d : Nat) (i : Word) : (s.reserve p d i).mm = s.mm := rfl
@[simp] theorem State.reserve_cr (p : Port) (d : Nat) (i : Word) : (s.reserve p d i).cr = s.cr := rfl
@[simp] theorem State.reserve_dr (p : Port) (d : Nat) (i : Word) : (s.reserve p d i).dr = s.dr := rfl
@[simp] theorem State.reserve_fa (p : Port) (d : Nat) (i : Word) : (s.reserve p d i).fa = s.fa := rfl
@[simp] theorem State.reserve_fd (p : Port) (d : Nat) (i : Word) : (s.reserve p d i).fd = s.fd := rfl
@[simp] theorem State.reserve_lw (p : Port) (d : Nat) (i : Word) : (s.reserve p d i).lw = s.lw := rfl
@[simp] theorem State.reserve_ks (p : Port) (d : Nat) (i : Word) : (s.reserve p d i).ks = s.ks := rfl
@[simp] theorem State.reserve_cs (p : Port) (d : Nat) (i : Word) : (s.reserve p d i).cs = s.cs := rfl
@[simp] theorem State.reserve_pl (p : Port) (d : Nat) (i : Word) : (s.reserve p d i).pl = s.pl := rfl
@[simp] theorem State.reserve_tw (p : Port) (d : Nat) (i : Word) : (s.reserve p d i).tw = s.tw := rfl
@[simp] theorem State.reserve_lio (p : Port) (d : Nat) (i : Word) : (s.reserve p d i).lio = s.lio := rfl
@[simp] theorem State.reserve_rp (p : Port) (d : Nat) (i : Word) : (s.reserve p d i).rp = s.rp := rfl

/-! ### unreserve -/

@[simp] theorem State.unreserve_pending (p : Port) (d : Nat) (i : Word) : (s.unreserve p d i).pending = s.pending := rfl
@[simp] theorem State.unreserve_now (p : Port) (d : Nat) (i : Word) : (s.unreserve p d i).now = s.now := rfl
@[simp] theorem State.unreserve_frac (p : Port) (d : Nat) (i : Word) : (s.unreserve p d i).frac = s.frac := rfl
@[simp] theorem State.unreserve_clock (p : Port) (d : Nat) (i : Word) : (s.unreserve p d i).clock = s.clock := rfl
@[simp] theorem State.unreserve_free (p : Port) (d : Nat) (i : Word) : (s.unreserve p d i).free = s.free := rfl
@[simp] theorem State.unreserve_dev (p : Port) (d : Nat) (i : Word) : (s.unreserve p d i).dev = s.dev := rfl
@[simp] theorem State.unreserve_tm (p : Port) (d : Nat) (i : Word) : (s.unreserve p d i).tm = s.tm := rfl
@[simp] theorem State.unreserve_regs (p : Port) (d : Nat) (i : Word) : (s.unreserve p d i).regs = s.regs := rfl
@[simp] theorem State.unreserve_locks (p : Port) (d : Nat) (i : Word) : (s.unreserve p d i).locks = s.locks := rfl
@[simp] theorem State.unreserve_fences (p : Port) (d : Nat) (i : Word) : (s.unreserve p d i).fences = s.fences := rfl
@[simp] theorem State.unreserve_holds (p : Port) (d : Nat) (i : Word) : (s.unreserve p d i).holds = s.holds := rfl
@[simp] theorem State.unreserve_ow (p : Port) (d : Nat) (i : Word) : (s.unreserve p d i).ow = s.ow := rfl
@[simp] theorem State.unreserve_chs (p : Port) (d : Nat) (i : Word) : (s.unreserve p d i).chs = s.chs := rfl
@[simp] theorem State.unreserve_chSp (p : Port) (d : Nat) (i : Word) : (s.unreserve p d i).chSp = s.chSp := rfl
@[simp] theorem State.unreserve_sps (p : Port) (d : Nat) (i : Word) : (s.unreserve p d i).sps = s.sps := rfl
@[simp] theorem State.unreserve_mm (p : Port) (d : Nat) (i : Word) : (s.unreserve p d i).mm = s.mm := rfl
@[simp] theorem State.unreserve_cr (p : Port) (d : Nat) (i : Word) : (s.unreserve p d i).cr = s.cr := rfl
@[simp] theorem State.unreserve_dr (p : Port) (d : Nat) (i : Word) : (s.unreserve p d i).dr = s.dr := rfl
@[simp] theorem State.unreserve_fa (p : Port) (d : Nat) (i : Word) : (s.unreserve p d i).fa = s.fa := rfl
@[simp] theorem State.unreserve_fd (p : Port) (d : Nat) (i : Word) : (s.unreserve p d i).fd = s.fd := rfl
@[simp] theorem State.unreserve_lw (p : Port) (d : Nat) (i : Word) : (s.unreserve p d i).lw = s.lw := rfl
@[simp] theorem State.unreserve_ks (p : Port) (d : Nat) (i : Word) : (s.unreserve p d i).ks = s.ks := rfl
@[simp] theorem State.unreserve_cs (p : Port) (d : Nat) (i : Word) : (s.unreserve p d i).cs = s.cs := rfl
@[simp] theorem State.unreserve_pl (p : Port) (d : Nat) (i : Word) : (s.unreserve p d i).pl = s.pl := rfl
@[simp] theorem State.unreserve_tw (p : Port) (d : Nat) (i : Word) : (s.unreserve p d i).tw = s.tw := rfl
@[simp] theorem State.unreserve_lio (p : Port) (d : Nat) (i : Word) : (s.unreserve p d i).lio = s.lio := rfl
@[simp] theorem State.unreserve_rp (p : Port) (d : Nat) (i : Word) : (s.unreserve p d i).rp = s.rp := rfl

/-! ### spEvent -/

@[simp] theorem State.spEvent_pending (c o : Nat) : (s.spEvent c o).pending = s.pending := rfl
@[simp] theorem State.spEvent_now (c o : Nat) : (s.spEvent c o).now = s.now := rfl
@[simp] theorem State.spEvent_frac (c o : Nat) : (s.spEvent c o).frac = s.frac := rfl
@[simp] theorem State.spEvent_clock (c o : Nat) : (s.spEvent c o).clock = s.clock := rfl
@[simp] theorem State.spEvent_free (c o : Nat) : (s.spEvent c o).free = s.free := rfl
@[simp] theorem State.spEvent_dev (c o : Nat) : (s.spEvent c o).dev = s.dev := rfl
@[simp] theorem State.spEvent_tm (c o : Nat) : (s.spEvent c o).tm = s.tm := rfl
@[simp] theorem State.spEvent_regs (c o : Nat) : (s.spEvent c o).regs = s.regs := rfl
@[simp] theorem State.spEvent_locks (c o : Nat) : (s.spEvent c o).locks = s.locks := rfl
@[simp] theorem State.spEvent_fences (c o : Nat) : (s.spEvent c o).fences = s.fences := rfl
@[simp] theorem State.spEvent_holds (c o : Nat) : (s.spEvent c o).holds = s.holds := rfl
@[simp] theorem State.spEvent_ow (c o : Nat) : (s.spEvent c o).ow = s.ow := rfl
@[simp] theorem State.spEvent_chs (c o : Nat) : (s.spEvent c o).chs = s.chs := rfl
@[simp] theorem State.spEvent_chSp (c o : Nat) : (s.spEvent c o).chSp = s.chSp := rfl
@[simp] theorem State.spEvent_sps (c o : Nat) : (s.spEvent c o).sps = s.sps := rfl
@[simp] theorem State.spEvent_mm (c o : Nat) : (s.spEvent c o).mm = s.mm := rfl
@[simp] theorem State.spEvent_cr (c o : Nat) : (s.spEvent c o).cr = s.cr := rfl
@[simp] theorem State.spEvent_dr (c o : Nat) : (s.spEvent c o).dr = s.dr := rfl
@[simp] theorem State.spEvent_fa (c o : Nat) : (s.spEvent c o).fa = s.fa := rfl
@[simp] theorem State.spEvent_fd (c o : Nat) : (s.spEvent c o).fd = s.fd := rfl
@[simp] theorem State.spEvent_lw (c o : Nat) : (s.spEvent c o).lw = s.lw := rfl
@[simp] theorem State.spEvent_ks (c o : Nat) : (s.spEvent c o).ks = s.ks := rfl
@[simp] theorem State.spEvent_cs (c o : Nat) : (s.spEvent c o).cs = s.cs := rfl
@[simp] theorem State.spEvent_pl (c o : Nat) : (s.spEvent c o).pl = s.pl := rfl
@[simp] theorem State.spEvent_tw (c o : Nat) : (s.spEvent c o).tw = s.tw := rfl
@[simp] theorem State.spEvent_lio (c o : Nat) : (s.spEvent c o).lio = s.lio := rfl
@[simp] theorem State.spEvent_rp (c o : Nat) : (s.spEvent c o).rp = s.rp := rfl

/-! ### chCount -/

@[simp] theorem State.chCount_pending (c o : Nat) : (s.chCount c o).pending = s.pending := rfl
@[simp] theorem State.chCount_now (c o : Nat) : (s.chCount c o).now = s.now := rfl
@[simp] theorem State.chCount_frac (c o : Nat) : (s.chCount c o).frac = s.frac := rfl
@[simp] theorem State.chCount_clock (c o : Nat) : (s.chCount c o).clock = s.clock := rfl
@[simp] theorem State.chCount_free (c o : Nat) : (s.chCount c o).free = s.free := rfl
@[simp] theorem State.chCount_dev (c o : Nat) : (s.chCount c o).dev = s.dev := rfl
@[simp] theorem State.chCount_tm (c o : Nat) : (s.chCount c o).tm = s.tm := rfl
@[simp] theorem State.chCount_regs (c o : Nat) : (s.chCount c o).regs = s.regs := rfl
@[simp] theorem State.chCount_locks (c o : Nat) : (s.chCount c o).locks = s.locks := rfl
@[simp] theorem State.chCount_fences (c o : Nat) : (s.chCount c o).fences = s.fences := rfl
@[simp] theorem State.chCount_holds (c o : Nat) : (s.chCount c o).holds = s.holds := rfl
@[simp] theorem State.chCount_ow (c o : Nat) : (s.chCount c o).ow = s.ow := rfl
@[simp] theorem State.chCount_chs (c o : Nat) : (s.chCount c o).chs = s.chs := rfl
@[simp] theorem State.chCount_chSp (c o : Nat) : (s.chCount c o).chSp = s.chSp := rfl
@[simp] theorem State.chCount_sps (c o : Nat) : (s.chCount c o).sps = s.sps := rfl
@[simp] theorem State.chCount_mm (c o : Nat) : (s.chCount c o).mm = s.mm := rfl
@[simp] theorem State.chCount_cr (c o : Nat) : (s.chCount c o).cr = s.cr := rfl
@[simp] theorem State.chCount_dr (c o : Nat) : (s.chCount c o).dr = s.dr := rfl
@[simp] theorem State.chCount_fa (c o : Nat) : (s.chCount c o).fa = s.fa := rfl
@[simp] theorem State.chCount_fd (c o : Nat) : (s.chCount c o).fd = s.fd := rfl
@[simp] theorem State.chCount_lw (c o : Nat) : (s.chCount c o).lw = s.lw := rfl
@[simp] theorem State.chCount_ks (c o : Nat) : (s.chCount c o).ks = s.ks := rfl
@[simp] theorem State.chCount_cs (c o : Nat) : (s.chCount c o).cs = s.cs := rfl
@[simp] theorem State.chCount_pl (c o : Nat) : (s.chCount c o).pl = s.pl := rfl
@[simp] theorem State.chCount_tw (c o : Nat) : (s.chCount c o).tw = s.tw := rfl
@[simp] theorem State.chCount_lio (c o : Nat) : (s.chCount c o).lio = s.lio := rfl
@[simp] theorem State.chCount_rp (c o : Nat) : (s.chCount c o).rp = s.rp := rfl

/-! ### discard -/

@[simp] theorem State.discard_pending (o : Nat) (p : Port) (r : Nat) : (s.discard o p r).pending = s.pending := rfl
@[simp] theorem State.discard_now (o : Nat) (p : Port) (r : Nat) : (s.discard o p r).now = s.now := rfl
@[simp] theorem State.discard_frac (o : Nat) (p : Port) (r : Nat) : (s.discard o p r).frac = s.frac := rfl
@[simp] theorem State.discard_clock (o : Nat) (p : Port) (r : Nat) : (s.discard o p r).clock = s.clock := rfl
@[simp] theorem State.discard_free (o : Nat) (p : Port) (r : Nat) : (s.discard o p r).free = s.free := rfl
@[simp] theorem State.discard_dev (o : Nat) (p : Port) (r : Nat) : (s.discard o p r).dev = s.dev := rfl
@[simp] theorem State.discard_tm (o : Nat) (p : Port) (r : Nat) : (s.discard o p r).tm = s.tm := rfl
@[simp] theorem State.discard_locks (o : Nat) (p : Port) (r : Nat) : (s.discard o p r).locks = s.locks := rfl
@[simp] theorem State.discard_fences (o : Nat) (p : Port) (r : Nat) : (s.discard o p r).fences = s.fences := rfl
@[simp] theorem State.discard_holds (o : Nat) (p : Port) (r : Nat) : (s.discard o p r).holds = s.holds := rfl
@[simp] theorem State.discard_ow (o : Nat) (p : Port) (r : Nat) : (s.discard o p r).ow = s.ow := rfl
@[simp] theorem State.discard_chs (o : Nat) (p : Port) (r : Nat) : (s.discard o p r).chs = s.chs := rfl
@[simp] theorem State.discard_chSp (o : Nat) (p : Port) (r : Nat) : (s.discard o p r).chSp = s.chSp := rfl
@[simp] theorem State.discard_sps (o : Nat) (p : Port) (r : Nat) : (s.discard o p r).sps = s.sps := rfl
@[simp] theorem State.discard_mm (o : Nat) (p : Port) (r : Nat) : (s.discard o p r).mm = s.mm := rfl
@[simp] theorem State.discard_cr (o : Nat) (p : Port) (r : Nat) : (s.discard o p r).cr = s.cr := rfl
@[simp] theorem State.discard_dr (o : Nat) (p : Port) (r : Nat) : (s.discard o p r).dr = s.dr := rfl
@[simp] theorem State.discard_fa (o : Nat) (p : Port) (r : Nat) : (s.discard o p r).fa = s.fa := rfl
@[simp] theorem State.discard_fd (o : Nat) (p : Port) (r : Nat) : (s.discard o p r).fd = s.fd := rfl
@[simp] theorem State.discard_lw (o : Nat) (p : Port) (r : Nat) : (s.discard o p r).lw = s.lw := rfl
@[simp] theorem State.discard_ks (o : Nat) (p : Port) (r : Nat) : (s.discard o p r).ks = s.ks := rfl
@[simp] theorem State.discard_cs (o : Nat) (p : Port) (r : Nat) : (s.discard o p r).cs = s.cs := rfl
@[simp] theorem State.discard_pl (o : Nat) (p : Port) (r : Nat) : (s.discard o p r).pl = s.pl := rfl
@[simp] theorem State.discard_tw (o : Nat) (p : Port) (r : Nat) : (s.discard o p r).tw = s.tw := rfl
@[simp] theorem State.discard_lio (o : Nat) (p : Port) (r : Nat) : (s.discard o p r).lio = s.lio := rfl
@[simp] theorem State.discard_rp (o : Nat) (p : Port) (r : Nat) : (s.discard o p r).rp = s.rp := rfl

/-! ### setRwi -/

@[simp] theorem State.setRwi_pending (o : Nat) (v : Word) : (s.setRwi o v).pending = s.pending := rfl
@[simp] theorem State.setRwi_now (o : Nat) (v : Word) : (s.setRwi o v).now = s.now := rfl
@[simp] theorem State.setRwi_frac (o : Nat) (v : Word) : (s.setRwi o v).frac = s.frac := rfl
@[simp] theorem State.setRwi_clock (o : Nat) (v : Word) : (s.setRwi o v).clock = s.clock := rfl
@[simp] theorem State.setRwi_free (o : Nat) (v : Word) : (s.setRwi o v).free = s.free := rfl
@[simp] theorem State.setRwi_dev (o : Nat) (v : Word) : (s.setRwi o v).dev = s.dev := rfl
@[simp] theorem State.setRwi_tm (o : Nat) (v : Word) : (s.setRwi o v).tm = s.tm := rfl
@[simp] theorem State.setRwi_locks (o : Nat) (v : Word) : (s.setRwi o v).locks = s.locks := rfl
@[simp] theorem State.setRwi_rep (o : Nat) (v : Word) : (s.setRwi o v).rep = s.rep := rfl
@[simp] theorem State.setRwi_fences (o : Nat) (v : Word) : (s.setRwi o v).fences = s.fences := rfl
@[simp] theorem State.setRwi_holds (o : Nat) (v : Word) : (s.setRwi o v).holds = s.holds := rfl
@[simp] theorem State.setRwi_ow (o : Nat) (v : Word) : (s.setRwi o v).ow = s.ow := rfl
@[simp] theorem State.setRwi_chs (o : Nat) (v : Word) : (s.setRwi o v).chs = s.chs := rfl
@[simp] theorem State.setRwi_chSp (o : Nat) (v : Word) : (s.setRwi o v).chSp = s.chSp := rfl
@[simp] theorem State.setRwi_sps (o : Nat) (v : Word) : (s.setRwi o v).sps = s.sps := rfl
@[simp] theorem State.setRwi_mm (o : Nat) (v : Word) : (s.setRwi o v).mm = s.mm := rfl
@[simp] theorem State.setRwi_cr (o : Nat) (v : Word) : (s.setRwi o v).cr = s.cr := rfl
@[simp] theorem State.setRwi_dr (o : Nat) (v : Word) : (s.setRwi o v).dr = s.dr := rfl
@[simp] theorem State.setRwi_fa (o : Nat) (v : Word) : (s.setRwi o v).fa = s.fa := rfl
@[simp] theorem State.setRwi_fd (o : Nat) (v : Word) : (s.setRwi o v).fd = s.fd := rfl
@[simp] theorem State.setRwi_lw (o : Nat) (v : Word) : (s.setRwi o v).lw = s.lw := rfl
@[simp] theorem State.setRwi_ks (o : Nat) (v : Word) : (s.setRwi o v).ks = s.ks := rfl
@[simp] theorem State.setRwi_cs (o : Nat) (v : Word) : (s.setRwi o v).cs = s.cs := rfl
@[simp] theorem State.setRwi_pl (o : Nat) (v : Word) : (s.setRwi o v).pl = s.pl := rfl
@[simp] theorem State.setRwi_tw (o : Nat) (v : Word) : (s.setRwi o v).tw = s.tw := rfl
@[simp] theorem State.setRwi_lio (o : Nat) (v : Word) : (s.setRwi o v).lio = s.lio := rfl
@[simp] theorem State.setRwi_rp (o : Nat) (v : Word) : (s.setRwi o v).rp = s.rp := rfl

/-! ### setCh -/

@[simp] theorem State.setCh_pending (c : Nat) (v : Channel) : (s.setCh c v).pending = s.pending := rfl
@[simp] theorem State.setCh_now (c : Nat) (v : Channel) : (s.setCh c v).now = s.now := rfl
@[simp] theorem State.setCh_frac (c : Nat) (v : Channel) : (s.setCh c v).frac = s.frac := rfl
@[simp] theorem State.setCh_clock (c : Nat) (v : Channel) : (s.setCh c v).clock = s.clock := rfl
@[simp] theorem State.setCh_free (c : Nat) (v : Channel) : (s.setCh c v).free = s.free := rfl
@[simp] theorem State.setCh_dev (c : Nat) (v : Channel) : (s.setCh c v).dev = s.dev := rfl
@[simp] theorem State.setCh_tm (c : Nat) (v : Channel) : (s.setCh c v).tm = s.tm := rfl
@[simp] theorem State.setCh_regs (c : Nat) (v : Channel) : (s.setCh c v).regs = s.regs := rfl
@[simp] theorem State.setCh_locks (c : Nat) (v : Channel) : (s.setCh c v).locks = s.locks := rfl
@[simp] theorem State.setCh_rep (c : Nat) (v : Channel) : (s.setCh c v).rep = s.rep := rfl
@[simp] theorem State.setCh_fences (c : Nat) (v : Channel) : (s.setCh c v).fences = s.fences := rfl
@[simp] theorem State.setCh_holds (c : Nat) (v : Channel) : (s.setCh c v).holds = s.holds := rfl
@[simp] theorem State.setCh_ow (c : Nat) (v : Channel) : (s.setCh c v).ow = s.ow := rfl
@[simp] theorem State.setCh_chSp (c : Nat) (v : Channel) : (s.setCh c v).chSp = s.chSp := rfl
@[simp] theorem State.setCh_sps (c : Nat) (v : Channel) : (s.setCh c v).sps = s.sps := rfl
@[simp] theorem State.setCh_mm (c : Nat) (v : Channel) : (s.setCh c v).mm = s.mm := rfl
@[simp] theorem State.setCh_cr (c : Nat) (v : Channel) : (s.setCh c v).cr = s.cr := rfl
@[simp] theorem State.setCh_dr (c : Nat) (v : Channel) : (s.setCh c v).dr = s.dr := rfl
@[simp] theorem State.setCh_fa (c : Nat) (v : Channel) : (s.setCh c v).fa = s.fa := rfl
@[simp] theorem State.setCh_fd (c : Nat) (v : Channel) : (s.setCh c v).fd = s.fd := rfl
@[simp] theorem State.setCh_lw (c : Nat) (v : Channel) : (s.setCh c v).lw = s.lw := rfl
@[simp] theorem State.setCh_ks (c : Nat) (v : Channel) : (s.setCh c v).ks = s.ks := rfl
@[simp] theorem State.setCh_cs (c : Nat) (v : Channel) : (s.setCh c v).cs = s.cs := rfl
@[simp] theorem State.setCh_pl (c : Nat) (v : Channel) : (s.setCh c v).pl = s.pl := rfl
@[simp] theorem State.setCh_tw (c : Nat) (v : Channel) : (s.setCh c v).tw = s.tw := rfl
@[simp] theorem State.setCh_lio (c : Nat) (v : Channel) : (s.setCh c v).lio = s.lio := rfl
@[simp] theorem State.setCh_rp (c : Nat) (v : Channel) : (s.setCh c v).rp = s.rp := rfl

/-! ### setSpindle -/

@[simp] theorem State.setSpindle_pending (n : Nat) (v : Spindle) : (s.setSpindle n v).pending = s.pending := rfl
@[simp] theorem State.setSpindle_now (n : Nat) (v : Spindle) : (s.setSpindle n v).now = s.now := rfl
@[simp] theorem State.setSpindle_frac (n : Nat) (v : Spindle) : (s.setSpindle n v).frac = s.frac := rfl
@[simp] theorem State.setSpindle_clock (n : Nat) (v : Spindle) : (s.setSpindle n v).clock = s.clock := rfl
@[simp] theorem State.setSpindle_free (n : Nat) (v : Spindle) : (s.setSpindle n v).free = s.free := rfl
@[simp] theorem State.setSpindle_dev (n : Nat) (v : Spindle) : (s.setSpindle n v).dev = s.dev := rfl
@[simp] theorem State.setSpindle_tm (n : Nat) (v : Spindle) : (s.setSpindle n v).tm = s.tm := rfl
@[simp] theorem State.setSpindle_regs (n : Nat) (v : Spindle) : (s.setSpindle n v).regs = s.regs := rfl
@[simp] theorem State.setSpindle_locks (n : Nat) (v : Spindle) : (s.setSpindle n v).locks = s.locks := rfl
@[simp] theorem State.setSpindle_rep (n : Nat) (v : Spindle) : (s.setSpindle n v).rep = s.rep := rfl
@[simp] theorem State.setSpindle_fences (n : Nat) (v : Spindle) : (s.setSpindle n v).fences = s.fences := rfl
@[simp] theorem State.setSpindle_holds (n : Nat) (v : Spindle) : (s.setSpindle n v).holds = s.holds := rfl
@[simp] theorem State.setSpindle_ow (n : Nat) (v : Spindle) : (s.setSpindle n v).ow = s.ow := rfl
@[simp] theorem State.setSpindle_chs (n : Nat) (v : Spindle) : (s.setSpindle n v).chs = s.chs := rfl
@[simp] theorem State.setSpindle_chSp (n : Nat) (v : Spindle) : (s.setSpindle n v).chSp = s.chSp := rfl
@[simp] theorem State.setSpindle_mm (n : Nat) (v : Spindle) : (s.setSpindle n v).mm = s.mm := rfl
@[simp] theorem State.setSpindle_cr (n : Nat) (v : Spindle) : (s.setSpindle n v).cr = s.cr := rfl
@[simp] theorem State.setSpindle_dr (n : Nat) (v : Spindle) : (s.setSpindle n v).dr = s.dr := rfl
@[simp] theorem State.setSpindle_fa (n : Nat) (v : Spindle) : (s.setSpindle n v).fa = s.fa := rfl
@[simp] theorem State.setSpindle_fd (n : Nat) (v : Spindle) : (s.setSpindle n v).fd = s.fd := rfl
@[simp] theorem State.setSpindle_lw (n : Nat) (v : Spindle) : (s.setSpindle n v).lw = s.lw := rfl
@[simp] theorem State.setSpindle_ks (n : Nat) (v : Spindle) : (s.setSpindle n v).ks = s.ks := rfl
@[simp] theorem State.setSpindle_cs (n : Nat) (v : Spindle) : (s.setSpindle n v).cs = s.cs := rfl
@[simp] theorem State.setSpindle_pl (n : Nat) (v : Spindle) : (s.setSpindle n v).pl = s.pl := rfl
@[simp] theorem State.setSpindle_tw (n : Nat) (v : Spindle) : (s.setSpindle n v).tw = s.tw := rfl
@[simp] theorem State.setSpindle_lio (n : Nat) (v : Spindle) : (s.setSpindle n v).lio = s.lio := rfl
@[simp] theorem State.setSpindle_rp (n : Nat) (v : Spindle) : (s.setSpindle n v).rp = s.rp := rfl

/-! ### useFree -/

@[simp] theorem State.useFree_pending : (s.useFree).pending = s.pending := rfl
@[simp] theorem State.useFree_now : (s.useFree).now = s.now := rfl
@[simp] theorem State.useFree_frac : (s.useFree).frac = s.frac := rfl
@[simp] theorem State.useFree_clock : (s.useFree).clock = s.clock := rfl
@[simp] theorem State.useFree_dev : (s.useFree).dev = s.dev := rfl
@[simp] theorem State.useFree_tm : (s.useFree).tm = s.tm := rfl
@[simp] theorem State.useFree_regs : (s.useFree).regs = s.regs := rfl
@[simp] theorem State.useFree_locks : (s.useFree).locks = s.locks := rfl
@[simp] theorem State.useFree_rep : (s.useFree).rep = s.rep := rfl
@[simp] theorem State.useFree_fences : (s.useFree).fences = s.fences := rfl
@[simp] theorem State.useFree_holds : (s.useFree).holds = s.holds := rfl
@[simp] theorem State.useFree_ow : (s.useFree).ow = s.ow := rfl
@[simp] theorem State.useFree_chs : (s.useFree).chs = s.chs := rfl
@[simp] theorem State.useFree_chSp : (s.useFree).chSp = s.chSp := rfl
@[simp] theorem State.useFree_sps : (s.useFree).sps = s.sps := rfl
@[simp] theorem State.useFree_mm : (s.useFree).mm = s.mm := rfl
@[simp] theorem State.useFree_cr : (s.useFree).cr = s.cr := rfl
@[simp] theorem State.useFree_dr : (s.useFree).dr = s.dr := rfl
@[simp] theorem State.useFree_fa : (s.useFree).fa = s.fa := rfl
@[simp] theorem State.useFree_fd : (s.useFree).fd = s.fd := rfl
@[simp] theorem State.useFree_lw : (s.useFree).lw = s.lw := rfl
@[simp] theorem State.useFree_ks : (s.useFree).ks = s.ks := rfl
@[simp] theorem State.useFree_cs : (s.useFree).cs = s.cs := rfl
@[simp] theorem State.useFree_pl : (s.useFree).pl = s.pl := rfl
@[simp] theorem State.useFree_tw : (s.useFree).tw = s.tw := rfl
@[simp] theorem State.useFree_lio : (s.useFree).lio = s.lio := rfl
@[simp] theorem State.useFree_rp : (s.useFree).rp = s.rp := rfl

/-! ### acked -/

@[simp] theorem State.acked_pending (k : XferKind) : (s.acked k).pending = s.pending := rfl
@[simp] theorem State.acked_now (k : XferKind) : (s.acked k).now = s.now := rfl
@[simp] theorem State.acked_frac (k : XferKind) : (s.acked k).frac = s.frac := rfl
@[simp] theorem State.acked_clock (k : XferKind) : (s.acked k).clock = s.clock := rfl
@[simp] theorem State.acked_free (k : XferKind) : (s.acked k).free = s.free := rfl
@[simp] theorem State.acked_dev (k : XferKind) : (s.acked k).dev = s.dev := rfl
@[simp] theorem State.acked_tm (k : XferKind) : (s.acked k).tm = s.tm := rfl
@[simp] theorem State.acked_regs (k : XferKind) : (s.acked k).regs = s.regs := rfl
@[simp] theorem State.acked_locks (k : XferKind) : (s.acked k).locks = s.locks := rfl
@[simp] theorem State.acked_rep (k : XferKind) : (s.acked k).rep = s.rep := rfl
@[simp] theorem State.acked_fences (k : XferKind) : (s.acked k).fences = s.fences := rfl
@[simp] theorem State.acked_holds (k : XferKind) : (s.acked k).holds = s.holds := rfl
@[simp] theorem State.acked_ow (k : XferKind) : (s.acked k).ow = s.ow := rfl
@[simp] theorem State.acked_chs (k : XferKind) : (s.acked k).chs = s.chs := rfl
@[simp] theorem State.acked_chSp (k : XferKind) : (s.acked k).chSp = s.chSp := rfl
@[simp] theorem State.acked_sps (k : XferKind) : (s.acked k).sps = s.sps := rfl
@[simp] theorem State.acked_mm (k : XferKind) : (s.acked k).mm = s.mm := rfl
@[simp] theorem State.acked_cr (k : XferKind) : (s.acked k).cr = s.cr := rfl
@[simp] theorem State.acked_dr (k : XferKind) : (s.acked k).dr = s.dr := rfl
@[simp] theorem State.acked_fd (k : XferKind) : (s.acked k).fd = s.fd := rfl
@[simp] theorem State.acked_lw (k : XferKind) : (s.acked k).lw = s.lw := rfl
@[simp] theorem State.acked_ks (k : XferKind) : (s.acked k).ks = s.ks := rfl
@[simp] theorem State.acked_cs (k : XferKind) : (s.acked k).cs = s.cs := rfl
@[simp] theorem State.acked_pl (k : XferKind) : (s.acked k).pl = s.pl := rfl
@[simp] theorem State.acked_tw (k : XferKind) : (s.acked k).tw = s.tw := rfl
@[simp] theorem State.acked_lio (k : XferKind) : (s.acked k).lio = s.lio := rfl
@[simp] theorem State.acked_rp (k : XferKind) : (s.acked k).rp = s.rp := rfl

/-! ### sendOver -/

theorem State.sendOver_eq (k : XferKind) : s.sendOver k = { s with fa := (s.sendOver k).fa } := by
  unfold State.sendOver; split <;> rfl

@[simp] theorem State.sendOver_pending (k : XferKind) : (s.sendOver k).pending = s.pending := by rw [State.sendOver_eq]
@[simp] theorem State.sendOver_now (k : XferKind) : (s.sendOver k).now = s.now := by rw [State.sendOver_eq]
@[simp] theorem State.sendOver_frac (k : XferKind) : (s.sendOver k).frac = s.frac := by rw [State.sendOver_eq]
@[simp] theorem State.sendOver_clock (k : XferKind) : (s.sendOver k).clock = s.clock := by rw [State.sendOver_eq]
@[simp] theorem State.sendOver_free (k : XferKind) : (s.sendOver k).free = s.free := by rw [State.sendOver_eq]
@[simp] theorem State.sendOver_dev (k : XferKind) : (s.sendOver k).dev = s.dev := by rw [State.sendOver_eq]
@[simp] theorem State.sendOver_tm (k : XferKind) : (s.sendOver k).tm = s.tm := by rw [State.sendOver_eq]
@[simp] theorem State.sendOver_regs (k : XferKind) : (s.sendOver k).regs = s.regs := by rw [State.sendOver_eq]
@[simp] theorem State.sendOver_locks (k : XferKind) : (s.sendOver k).locks = s.locks := by rw [State.sendOver_eq]
@[simp] theorem State.sendOver_rep (k : XferKind) : (s.sendOver k).rep = s.rep := by rw [State.sendOver_eq]
@[simp] theorem State.sendOver_fences (k : XferKind) : (s.sendOver k).fences = s.fences := by rw [State.sendOver_eq]
@[simp] theorem State.sendOver_holds (k : XferKind) : (s.sendOver k).holds = s.holds := by rw [State.sendOver_eq]
@[simp] theorem State.sendOver_ow (k : XferKind) : (s.sendOver k).ow = s.ow := by rw [State.sendOver_eq]
@[simp] theorem State.sendOver_chs (k : XferKind) : (s.sendOver k).chs = s.chs := by rw [State.sendOver_eq]
@[simp] theorem State.sendOver_chSp (k : XferKind) : (s.sendOver k).chSp = s.chSp := by rw [State.sendOver_eq]
@[simp] theorem State.sendOver_sps (k : XferKind) : (s.sendOver k).sps = s.sps := by rw [State.sendOver_eq]
@[simp] theorem State.sendOver_mm (k : XferKind) : (s.sendOver k).mm = s.mm := by rw [State.sendOver_eq]
@[simp] theorem State.sendOver_cr (k : XferKind) : (s.sendOver k).cr = s.cr := by rw [State.sendOver_eq]
@[simp] theorem State.sendOver_dr (k : XferKind) : (s.sendOver k).dr = s.dr := by rw [State.sendOver_eq]
@[simp] theorem State.sendOver_fd (k : XferKind) : (s.sendOver k).fd = s.fd := by rw [State.sendOver_eq]
@[simp] theorem State.sendOver_lw (k : XferKind) : (s.sendOver k).lw = s.lw := by rw [State.sendOver_eq]
@[simp] theorem State.sendOver_ks (k : XferKind) : (s.sendOver k).ks = s.ks := by rw [State.sendOver_eq]
@[simp] theorem State.sendOver_cs (k : XferKind) : (s.sendOver k).cs = s.cs := by rw [State.sendOver_eq]
@[simp] theorem State.sendOver_pl (k : XferKind) : (s.sendOver k).pl = s.pl := by rw [State.sendOver_eq]
@[simp] theorem State.sendOver_tw (k : XferKind) : (s.sendOver k).tw = s.tw := by rw [State.sendOver_eq]
@[simp] theorem State.sendOver_lio (k : XferKind) : (s.sendOver k).lio = s.lio := by rw [State.sendOver_eq]
@[simp] theorem State.sendOver_rp (k : XferKind) : (s.sendOver k).rp = s.rp := by rw [State.sendOver_eq]

/-! ### Time goes on -/

/-- A change of owner touches only ownership and the reporting plane. -/
theorem State.setOwner_eq (o : Option Port) : s.setOwner o = { s with rep := (s.setOwner o).rep, ow := (s.setOwner o).ow } := by
  unfold State.setOwner
  split
  · rfl
  · simp only; split <;> rfl

theorem State.fillOwner_eq : s.fillOwner = { s with rep := s.fillOwner.rep, ow := s.fillOwner.ow } := by
  unfold State.fillOwner
  split
  · exact s.setOwner_eq _
  · rfl

theorem State.nextOwner_eq : s.nextOwner = { s with rep := s.nextOwner.rep, ow := s.nextOwner.ow } := by
  unfold State.nextOwner
  split
  · rw [State.setOwner_eq]; rfl
  · split
    · rw [State.fillOwner_eq]; rfl
    · rfl

/-- A new cycle touches only ownership and the reporting plane. -/
theorem State.newCycle_eq : s.newCycle = { s with rep := s.newCycle.rep, ow := s.newCycle.ow } := by
  unfold State.newCycle
  rw [State.nextOwner_eq]

/-- With no change of ownership behind it a new cycle changes nothing. -/
theorem State.newCycle_steady {s : State} (h : s.steady) : s.newCycle = s := by
  obtain ⟨h1, h2, h3, h4⟩ := h
  have e : s.nextOwner = s := by simp [State.nextOwner, h2, h3]
  have w : ({ s.ow with start := none, soon := false, taker := none, lost := none } : OwnSt) = s.ow := by
    cases hs : s.ow
    simp_all
  unfold State.newCycle
  rw [e, w]

/-- After a new cycle none has a change of ownership behind it. -/
theorem State.newCycle_isSteady : s.newCycle.steady := ⟨rfl, rfl, rfl, rfl⟩

theorem State.elapse_zero : s.elapse 0 = s := rfl

/-- Time that goes on in a state of rest. -/
theorem State.elapse_steady {s : State} (h : s.steady) (dt : Nat) : s.elapse dt = if dt = 0 then s else s.tick dt := by
  unfold State.elapse; rw [State.newCycle_steady h]

/-- What the passing of time touches. -/
theorem State.elapse_eq (dt : Nat) : s.elapse dt = { s with
    now := (s.elapse dt).now, frac := (s.elapse dt).frac, clock := (s.elapse dt).clock,
    rep := (s.elapse dt).rep, ow := (s.elapse dt).ow } := by
  unfold State.elapse
  split
  · rfl
  · rw [State.newCycle_eq]; rfl

@[simp] theorem State.elapse_pending (dt : Nat) : (s.elapse dt).pending = s.pending := by rw [State.elapse_eq]
@[simp] theorem State.elapse_free (dt : Nat) : (s.elapse dt).free = s.free := by rw [State.elapse_eq]
@[simp] theorem State.elapse_dev (dt : Nat) : (s.elapse dt).dev = s.dev := by rw [State.elapse_eq]
@[simp] theorem State.elapse_tm (dt : Nat) : (s.elapse dt).tm = s.tm := by rw [State.elapse_eq]
@[simp] theorem State.elapse_regs (dt : Nat) : (s.elapse dt).regs = s.regs := by rw [State.elapse_eq]
@[simp] theorem State.elapse_locks (dt : Nat) : (s.elapse dt).locks = s.locks := by rw [State.elapse_eq]
@[simp] theorem State.elapse_fences (dt : Nat) : (s.elapse dt).fences = s.fences := by rw [State.elapse_eq]
@[simp] theorem State.elapse_holds (dt : Nat) : (s.elapse dt).holds = s.holds := by rw [State.elapse_eq]
@[simp] theorem State.elapse_chs (dt : Nat) : (s.elapse dt).chs = s.chs := by rw [State.elapse_eq]
@[simp] theorem State.elapse_chSp (dt : Nat) : (s.elapse dt).chSp = s.chSp := by rw [State.elapse_eq]
@[simp] theorem State.elapse_sps (dt : Nat) : (s.elapse dt).sps = s.sps := by rw [State.elapse_eq]
@[simp] theorem State.elapse_mm (dt : Nat) : (s.elapse dt).mm = s.mm := by rw [State.elapse_eq]
@[simp] theorem State.elapse_cr (dt : Nat) : (s.elapse dt).cr = s.cr := by rw [State.elapse_eq]
@[simp] theorem State.elapse_dr (dt : Nat) : (s.elapse dt).dr = s.dr := by rw [State.elapse_eq]
@[simp] theorem State.elapse_fa (dt : Nat) : (s.elapse dt).fa = s.fa := by rw [State.elapse_eq]
@[simp] theorem State.elapse_fd (dt : Nat) : (s.elapse dt).fd = s.fd := by rw [State.elapse_eq]
@[simp] theorem State.elapse_lw (dt : Nat) : (s.elapse dt).lw = s.lw := by rw [State.elapse_eq]
@[simp] theorem State.elapse_ks (dt : Nat) : (s.elapse dt).ks = s.ks := by rw [State.elapse_eq]
@[simp] theorem State.elapse_cs (dt : Nat) : (s.elapse dt).cs = s.cs := by rw [State.elapse_eq]
@[simp] theorem State.elapse_pl (dt : Nat) : (s.elapse dt).pl = s.pl := by rw [State.elapse_eq]
@[simp] theorem State.elapse_tw (dt : Nat) : (s.elapse dt).tw = s.tw := by rw [State.elapse_eq]
@[simp] theorem State.elapse_lio (dt : Nat) : (s.elapse dt).lio = s.lio := by rw [State.elapse_eq]
@[simp] theorem State.elapse_rp (dt : Nat) : (s.elapse dt).rp = s.rp := by rw [State.elapse_eq]

theorem State.elapse_rep {s : State} (h : s.steady) (dt : Nat) : (s.elapse dt).rep = s.rep := by
  rw [State.elapse_steady h]; split <;> rfl
theorem State.elapse_ow {s : State} (h : s.steady) (dt : Nat) : (s.elapse dt).ow = s.ow := by
  rw [State.elapse_steady h]; split <;> rfl
theorem State.elapse_port {s : State} (h : s.steady) (dt : Nat) (p : Port) : (s.elapse dt).port p = s.port p := by
  unfold State.port; rw [State.elapse_rep h]
@[simp] theorem State.elapse_up (dt : Nat) : (s.elapse dt).up = s.up := by unfold State.up; rw [State.elapse_dev]

theorem State.tick_clock (dt : Nat) : (s.tick dt).clock = s.clock + dt := rfl
@[simp] theorem State.elapse_clock (dt : Nat) : (s.elapse dt).clock = s.clock + dt := by
  unfold State.elapse
  split
  · rename_i h; rw [h]; rfl
  · rw [State.newCycle_eq]; rfl

end Sys2Proof.Machine
end

