-- ==== Sys2Proof/Laws/Table.lean ====
section
/-!
SUPPORT. The laws of sparse tables: a read after a write to the same key gives the value written, a write leaves every
other key alone, and every write keeps the canonical form.
-/

namespace Sys2Proof

variable {α : Type}

theorem Tbl.look_ins_self (t : Tbl α) (k : Nat) (v : α) : Tbl.look (Tbl.ins t k v) k = some v := by
  induction t with
  | nil => simp [Tbl.ins, Tbl.look]
  | cons e t ih =>
    obtain ⟨j, x⟩ := e
    unfold Tbl.ins
    split
    · simp [Tbl.look]
    · split
      · simp [Tbl.look]
      · simp [Tbl.look, ih, *]

theorem Tbl.look_ins_ne (t : Tbl α) {k j : Nat} (v : α) (h : j ≠ k) : Tbl.look (Tbl.ins t k v) j = Tbl.look t j := by
  induction t with
  | nil => simp [Tbl.ins, Tbl.look, h]
  | cons e t ih =>
    obtain ⟨i, x⟩ := e
    unfold Tbl.ins
    split
    · simp [Tbl.look, h]
    · split
      · subst_vars; simp [Tbl.look, h]
      · simp [Tbl.look, ih]

theorem Tbl.look_del_self (t : Tbl α) (k : Nat) : Tbl.look (Tbl.del t k) k = none := by
  induction t with
  | nil => rfl
  | cons e t ih =>
    obtain ⟨j, x⟩ := e
    unfold Tbl.del
    split
    · exact ih
    · simp [Tbl.look, ih, *]

theorem Tbl.look_del_ne (t : Tbl α) {k j : Nat} (h : j ≠ k) : Tbl.look (Tbl.del t k) j = Tbl.look t j := by
  induction t with
  | nil => rfl
  | cons e t ih =>
    obtain ⟨i, x⟩ := e
    unfold Tbl.del
    split
    · subst_vars; simp [Tbl.look, ih, h]
    · simp [Tbl.look, ih]

/-- Reading back the key written gives the value written. -/
@[simp] theorem Tbl.lookD_put_self [DecidableEq α] (t : Tbl α) (k : Nat) (d v : α) :
    Tbl.lookD (Tbl.put t k d v) k d = v := by
  unfold Tbl.put Tbl.lookD
  split
  · simp [Tbl.look_del_self, *]
  · simp [Tbl.look_ins_self]

/-- A write leaves every other key as it was. -/
theorem Tbl.lookD_put_ne [DecidableEq α] (t : Tbl α) {k j : Nat} (d v e : α) (h : j ≠ k) :
    Tbl.lookD (Tbl.put t k d v) j e = Tbl.lookD t j e := by
  unfold Tbl.put Tbl.lookD
  split
  · rw [Tbl.look_del_ne t h]
  · rw [Tbl.look_ins_ne t v h]

theorem Tbl.lookD_put [DecidableEq α] (t : Tbl α) (k j : Nat) (d v : α) :
    Tbl.lookD (Tbl.put t k d v) j d = if j = k then v else Tbl.lookD t j d := by
  split
  · subst_vars; simp
  · exact Tbl.lookD_put_ne t d v d ‹_›

theorem Tbl.sortedFrom_mono {t : Tbl α} {lo lo' : Nat} (h : lo' ≤ lo) (hs : Tbl.sortedFrom lo t = true) :
    Tbl.sortedFrom lo' t = true := by
  cases t with
  | nil => rfl
  | cons e t =>
    obtain ⟨j, x⟩ := e
    simp only [Tbl.sortedFrom, Bool.and_eq_true, decide_eq_true_eq] at hs ⊢
    exact ⟨Nat.le_trans h hs.1, hs.2⟩

theorem Tbl.sortedFrom_ins {t : Tbl α} {lo k : Nat} {v : α} (h : lo ≤ k) (hs : Tbl.sortedFrom lo t = true) :
    Tbl.sortedFrom lo (Tbl.ins t k v) = true := by
  induction t generalizing lo with
  | nil => simp [Tbl.ins, Tbl.sortedFrom, h]
  | cons e t ih =>
    obtain ⟨j, x⟩ := e
    simp only [Tbl.sortedFrom, Bool.and_eq_true, decide_eq_true_eq] at hs
    unfold Tbl.ins
    split
    · simp only [Tbl.sortedFrom, Bool.and_eq_true, decide_eq_true_eq]
      exact ⟨h, by omega, hs.2⟩
    · split
      · subst_vars; simp [Tbl.sortedFrom, hs]
      · simp only [Tbl.sortedFrom, Bool.and_eq_true, decide_eq_true_eq]
        exact ⟨hs.1, ih (by omega) hs.2⟩

theorem Tbl.sortedFrom_del {t : Tbl α} {lo k : Nat} (hs : Tbl.sortedFrom lo t = true) :
    Tbl.sortedFrom lo (Tbl.del t k) = true := by
  induction t generalizing lo with
  | nil => rfl
  | cons e t ih =>
    obtain ⟨j, x⟩ := e
    simp only [Tbl.sortedFrom, Bool.and_eq_true, decide_eq_true_eq] at hs
    unfold Tbl.del
    split
    · exact Tbl.sortedFrom_mono (by omega) (ih hs.2)
    · simp only [Tbl.sortedFrom, Bool.and_eq_true, decide_eq_true_eq]
      exact ⟨hs.1, ih hs.2⟩

theorem Tbl.mem_ins {t : Tbl α} {k : Nat} {v : α} {e : Nat × α} (h : e ∈ Tbl.ins t k v) : e = (k, v) ∨ e ∈ t := by
  induction t with
  | nil => simpa [Tbl.ins] using h
  | cons e' t ih =>
    obtain ⟨j, x⟩ := e'
    unfold Tbl.ins at h
    split at h
    · simpa using h
    · split at h <;> simp only [List.mem_cons] at h ⊢
      · tauto
      · rcases h with h | h
        · tauto
        · have := ih h; tauto

theorem Tbl.mem_del {t : Tbl α} {k : Nat} {e : Nat × α} (h : e ∈ Tbl.del t k) : e ∈ t := by
  induction t with
  | nil => exact h
  | cons e' t ih =>
    obtain ⟨j, x⟩ := e'
    unfold Tbl.del at h
    split at h
    · exact List.mem_cons_of_mem _ (ih h)
    · simp only [List.mem_cons] at h ⊢
      rcases h with h | h
      · exact .inl h
      · exact .inr (ih h)

/-- Every write keeps the canonical form. -/
theorem Tbl.wf_put [DecidableEq α] {t : Tbl α} {k : Nat} {d v : α} (h : Tbl.wf d t = true) :
    Tbl.wf d (Tbl.put t k d v) = true := by
  simp only [Tbl.wf, Bool.and_eq_true, List.all_eq_true, decide_eq_true_eq] at h ⊢
  unfold Tbl.put
  split
  · exact ⟨Tbl.sortedFrom_del h.1, fun e he => h.2 e (Tbl.mem_del he)⟩
  · refine ⟨Tbl.sortedFrom_ins (Nat.zero_le _) h.1, fun e he => ?_⟩
    rcases Tbl.mem_ins he with rfl | he
    · assumption
    · exact h.2 e he

end Sys2Proof
end

