-- ==== Sys2Proof/Laws/Report.lean ====
section
/-!
SUPPORT. What the reporting plane can do, once for every operation: nothing that has left the device is taken back, no
counter falls, no source that waits for a claim is forgotten; and what the end of an instant does with the slubs and hanks
that wait for it.
-/

namespace Sys2Proof.Machine

/-- What no operation of the reporting plane undoes: the output log, the counters, the sources presented. -/
structure Rep.Grows (a b : Rep) : Prop where
  out : ∃ l, b.out = a.out ++ l
  counter : ∀ c, min ctMax (a.counter c) ≤ b.counter c
  pends : ∀ p i, a.pends p i → b.pends p i

theorem Rep.Grows.refl (a : Rep) : Rep.Grows a a := ⟨⟨[], by simp⟩, fun _ => Nat.min_le_right _ _, fun _ _ h => h⟩

theorem Rep.Grows.trans {a b c : Rep} (h : Rep.Grows a b) (g : Rep.Grows b c) : Rep.Grows a c := by
  obtain ⟨⟨l, hl⟩, hc, hp⟩ := h
  obtain ⟨⟨m, hm⟩, gc, gp⟩ := g
  refine ⟨⟨l ++ m, by simp [hm, hl]⟩, fun k => ?_, fun p i x => gp p i (hp p i x)⟩
  have := hc k; have := gc k; omega

/-- Parts of the reporting plane that only slubs, hanks and the trace touch. -/
structure Rep.Same (a b : Rep) : Prop where
  log : b.log = a.log
  total : b.total = a.total
  slubReqs : b.slubReqs = a.slubReqs
  hankReqs : b.hankReqs = a.hankReqs
  hanks : b.hanks = a.hanks
  hkTotal : b.hkTotal = a.hkTotal
  hkDropped : b.hkDropped = a.hkDropped
  trace : b.trace = a.trace
  frozen : b.frozen = a.frozen
  whOld : b.whOld = a.whOld

theorem Rep.Same.refl (a : Rep) : Rep.Same a a := ⟨rfl, rfl, rfl, rfl, rfl, rfl, rfl, rfl, rfl, rfl⟩

theorem Rep.Same.trans {a b c : Rep} (h : Rep.Same a b) (g : Rep.Same b c) : Rep.Same a c := by
  obtain ⟨h1, h2, h3, h4, h5, h6, h7, h8, h9, h10⟩ := h
  obtain ⟨g1, g2, g3, g4, g5, g6, g7, g8, g9, g10⟩ := g
  constructor <;> simp [*]

@[simp] theorem Rep.port_setPort_self (r : Rep) (p : Port) (v : PortSt) : (r.setPort p v).port p = v := by
  simp [Rep.port, Rep.setPort]

theorem Port.idx_ne {p q : Port} (h : q ≠ p) : q.idx ≠ p.idx := by
  cases p <;> cases q <;> simp_all [Port.idx]

theorem Rep.port_setPort_ne (r : Rep) {p q : Port} (v : PortSt) (h : q ≠ p) : (r.setPort p v).port q = r.port q := by
  simp only [Rep.port, Rep.setPort]
  exact Tbl.lookD_put_ne _ _ _ _ (Port.idx_ne h)

/-- Replacing a port whose sources stay presented. -/
theorem Rep.grows_setPort {r : Rep} {p : Port} {v : PortSt}
    (h : ∀ i, r.pends p i → (Tbl.lookD v.src i .inactive = .pending ∨ Tbl.lookD v.src i .inactive = .activePending)) :
    Rep.Grows r (r.setPort p v) := by
  refine ⟨⟨[], by simp [Rep.setPort]⟩, fun c => Nat.min_le_right _ _, fun q i hq => ?_⟩
  by_cases e : q = p
  · subst e; simpa [Rep.pends] using h i hq
  · simpa [Rep.pends, Rep.port_setPort_ne r v e] using hq

theorem Rep.same_setPort (r : Rep) (p : Port) (v : PortSt) : Rep.Same r (r.setPort p v) :=
  ⟨rfl, rfl, rfl, rfl, rfl, rfl, rfl, rfl, rfl, rfl⟩

theorem Rep.grows_emit (r : Rep) (o : Output) : Rep.Grows r (r.emit o) :=
  ⟨⟨[o], rfl⟩, fun _ => Nat.min_le_right _ _, fun _ _ h => h⟩

theorem Rep.same_emit (r : Rep) (o : Output) : Rep.Same r (r.emit o) := ⟨rfl, rfl, rfl, rfl, rfl, rfl, rfl, rfl, rfl, rfl⟩

theorem Rep.grows_evalReq (r : Rep) (c : Ctx) (p : Port) : Rep.Grows r (r.evalReq c p) := by
  unfold Rep.evalReq
  simp only
  split
  · split
    · exact Rep.grows_setPort fun i h => h
    · refine Rep.Grows.trans ?_ (Rep.grows_emit _ _)
      exact Rep.grows_setPort fun i h => h
  · exact .refl r

theorem Rep.same_evalReq (r : Rep) (c : Ctx) (p : Port) : Rep.Same r (r.evalReq c p) := by
  unfold Rep.evalReq
  simp only
  split
  · split
    · exact Rep.same_setPort _ _ _
    · exact (Rep.same_setPort r p _).trans (Rep.same_emit _ _)
  · exact .refl r

/-- A counter after an addition. -/
theorem Rep.counter_bump (r : Rep) (c n k : Nat) :
    (r.bump c n).1.counter k = if k = c then min ctMax (r.counter c + n) else r.counter k := by
  unfold Rep.bump
  simp only
  split <;> simp only [Rep.counter, Tbl.lookD_put]

theorem Rep.grows_bump (r : Rep) (c n : Nat) : Rep.Grows r (r.bump c n).1 := by
  refine ⟨⟨[], ?_⟩, fun k => ?_, fun p i h => ?_⟩
  · unfold Rep.bump; simp only; split <;> simp
  · rw [Rep.counter_bump]; split
    · subst_vars; omega
    · exact Nat.min_le_right _ _
  · unfold Rep.bump; simp only; split <;> exact h

theorem Rep.same_bump (r : Rep) (c n : Nat) : Rep.Same r (r.bump c n).1 := by
  unfold Rep.bump
  simp only
  split <;> exact ⟨rfl, rfl, rfl, rfl, rfl, rfl, rfl, rfl, rfl, rfl⟩

theorem Rep.grows_askReq (r : Rep) : Rep.Grows r r.askReq :=
  ⟨⟨[], by simp [Rep.askReq]⟩, fun _ => Nat.min_le_right _ _, fun _ _ h => h⟩
theorem Rep.same_askReq (r : Rep) : Rep.Same r r.askReq := ⟨rfl, rfl, rfl, rfl, rfl, rfl, rfl, rfl, rfl, rfl⟩

/-- One port's part of a firing under a WH_SRC word. -/
def Rep.fireOne (n : Nat) (c : Ctx) (w : Word) (r : Rep) (i : Nat) (p : Port) : Rep :=
  let q := r.port p
  if bitOf w 12 then
    match (Tbl.lookD q.src i .inactive).fired with
    | some x => (r.setPort p (q.present c.clock i x)).askReq
    | none =>
      let b := r.bump (whCounter p 0) 1
      if b.2 then Rep.fireN n c b.1 0x05E else b.1
  else
    let b := r.bump (whCounter p 1) 1
    if b.2 then Rep.fireN n c b.1 0x05E else b.1

theorem Rep.fireN_succ (n : Nat) (c : Ctx) (r : Rep) (i : Nat) :
    Rep.fireN (n + 1) c r i =
      if i < 0x3F0 then
        let r1 := if bitOf (r.srcReg c i) 8 then Rep.fireOne n c (r.srcReg c i) r i .a else r
        if bitOf (r.srcReg c i) 9 then Rep.fireOne n c (r.srcReg c i) r1 i .b else r1
      else r := by
  rw [Rep.fireN]; rfl

/-- A source that fires is pending afterwards; another keeps its state. -/
theorem Rep.grows_fireStep {r : Rep} {k : Nat} {p : Port} {i : Nat} {x : SrcState}
    (h : (Tbl.lookD (r.port p).src i .inactive).fired = some x) :
    Rep.Grows r (r.setPort p ((r.port p).present k i x)).askReq := by
  refine Rep.Grows.trans (Rep.grows_setPort fun j hj => ?_) (Rep.grows_askReq _)
  simp only [PortSt.present, Tbl.lookD_put]
  split
  · subst_vars
    rcases hj with hj | hj <;> rw [hj] at h <;> simp [SrcState.fired] at h
  · exact hj

mutual
theorem Rep.grows_fireOne (n : Nat) (c : Ctx) (w : Word) (r : Rep) (i : Nat) (p : Port) :
    Rep.Grows r (Rep.fireOne n c w r i p) := by
  unfold Rep.fireOne
  simp only
  split
  · split
    · exact Rep.grows_fireStep ‹_›
    · split
      · exact (Rep.grows_bump r _ _).trans (Rep.grows_fireN n c _ _)
      · exact Rep.grows_bump r _ _
  · split
    · exact (Rep.grows_bump r _ _).trans (Rep.grows_fireN n c _ _)
    · exact Rep.grows_bump r _ _
  termination_by 2 * n + 1

theorem Rep.grows_fireN (n : Nat) (c : Ctx) (r : Rep) (i : Nat) : Rep.Grows r (Rep.fireN n c r i) := by
  cases n with
  | zero => exact .refl r
  | succ n =>
    rw [Rep.fireN_succ]
    simp only
    split
    · split <;> split
      · exact (Rep.grows_fireOne n c _ r i .a).trans (Rep.grows_fireOne n c _ _ i .b)
      · exact Rep.grows_fireOne n c _ r i .b
      · exact Rep.grows_fireOne n c _ r i .a
      · exact .refl r
    · exact .refl r
  termination_by 2 * n
end

mutual
theorem Rep.same_fireOne (n : Nat) (c : Ctx) (w : Word) (r : Rep) (i : Nat) (p : Port) :
    Rep.Same r (Rep.fireOne n c w r i p) := by
  unfold Rep.fireOne
  simp only
  split
  · split
    · exact (Rep.same_setPort r p _).trans (Rep.same_askReq _)
    · split
      · exact (Rep.same_bump r _ _).trans (Rep.same_fireN n c _ _)
      · exact Rep.same_bump r _ _
  · split
    · exact (Rep.same_bump r _ _).trans (Rep.same_fireN n c _ _)
    · exact Rep.same_bump r _ _
  termination_by 2 * n + 1

theorem Rep.same_fireN (n : Nat) (c : Ctx) (r : Rep) (i : Nat) : Rep.Same r (Rep.fireN n c r i) := by
  cases n with
  | zero => exact .refl r
  | succ n =>
    rw [Rep.fireN_succ]
    simp only
    split
    · split <;> split
      · exact (Rep.same_fireOne n c _ r i .a).trans (Rep.same_fireOne n c _ _ i .b)
      · exact Rep.same_fireOne n c _ r i .b
      · exact Rep.same_fireOne n c _ r i .a
      · exact .refl r
    · exact .refl r
  termination_by 2 * n
end

theorem Rep.grows_fire (r : Rep) (c : Ctx) (i : Nat) : Rep.Grows r (r.fire c i) := Rep.grows_fireN _ _ _ _
theorem Rep.same_fire (r : Rep) (c : Ctx) (i : Nat) : Rep.Same r (r.fire c i) := Rep.same_fireN _ _ _ _

/-- A firing presents its source to a port that it targets and that enables it (R369). -/
theorem Rep.pends_fireOne {n : Nat} {c : Ctx} {w : Word} {r : Rep} {i : Nat} {p : Port} (h : bitOf w 12 = true) :
    (Rep.fireOne n c w r i p).pends p i := by
  unfold Rep.fireOne
  simp only [h, if_true]
  cases hs : Tbl.lookD (r.port p).src i .inactive
  · simp only [SrcState.fired]
    exact (Rep.grows_askReq _).pends p i (by simp [Rep.pends, PortSt.present])
  · simp only [SrcState.fired]
    have hp : r.pends p i := .inl hs
    split
    · exact (Rep.grows_fireN _ _ _ _).pends p i ((Rep.grows_bump r _ _).pends p i hp)
    · exact (Rep.grows_bump r _ _).pends p i hp
  · simp only [SrcState.fired]
    exact (Rep.grows_askReq _).pends p i (by simp [Rep.pends, PortSt.present])
  · simp only [SrcState.fired]
    have hp : r.pends p i := .inr hs
    split
    · exact (Rep.grows_fireN _ _ _ _).pends p i ((Rep.grows_bump r _ _).pends p i hp)
    · exact (Rep.grows_bump r _ _).pends p i hp

/-- With no commit of the instant, a firing acts under the live WH_SRC register (R375). -/
theorem Rep.srcReg_live {r : Rep} (c : Ctx) (i : Nat) (h : r.whOld = none) : r.srcReg c i = c.src i := by
  simp [Rep.srcReg, h]

theorem Rep.pends_fire {c : Ctx} {r : Rep} {i : Nat} {p : Port} (hw : r.whOld = none) (hi : i < 0x3F0)
    (ht : bitOf (c.src i) (8 + p.idx) = true) (he : bitOf (c.src i) 12 = true) : (r.fire c i).pends p i := by
  unfold Rep.fire
  rw [Rep.fireN_succ, Rep.srcReg_live c i hw]
  simp only [hi, if_true]
  cases p
  · have ha : bitOf (c.src i) 8 = true := ht
    rw [if_pos ha]
    split
    · exact (Rep.grows_fireOne _ _ _ _ _ _).pends .a i (Rep.pends_fireOne he)
    · exact Rep.pends_fireOne he
  · have hb : bitOf (c.src i) 9 = true := ht
    rw [if_pos hb]
    exact Rep.pends_fireOne he

theorem Rep.grows_count (r : Rep) (c : Ctx) (i n : Nat) : Rep.Grows r (r.count c i n) := by
  unfold Rep.count
  simp only
  split
  · exact (Rep.grows_bump r _ _).trans (Rep.grows_fire _ _ _)
  · exact Rep.grows_bump r _ _

theorem Rep.same_count (r : Rep) (c : Ctx) (i n : Nat) : Rep.Same r (r.count c i n) := by
  unfold Rep.count
  simp only
  split
  · exact (Rep.same_bump r _ _).trans (Rep.same_fire _ _ _)
  · exact Rep.same_bump r _ _

/-- A count is in its counter. -/
theorem Rep.counter_count (r : Rep) (c : Ctx) (i n : Nat) : min ctMax (r.counter i + n) ≤ (r.count c i n).counter i := by
  unfold Rep.count
  simp only
  have hb : (r.bump i n).1.counter i = min ctMax (r.counter i + n) := by rw [Rep.counter_bump]; simp
  split
  · have := (Rep.grows_fire (r.bump i n).1 c 0x05E).counter i
    omega
  · omega

/-! ## Skein entries -/

theorem Rep.grows_setSk (r : Rep) (p : Port) (k : Nat) (g : Ring) : Rep.Grows r (r.setSk p k g) :=
  Rep.grows_setPort fun _ h => h
theorem Rep.same_setSk (r : Rep) (p : Port) (k : Nat) (g : Ring) : Rep.Same r (r.setSk p k g) := Rep.same_setPort _ _ _
theorem Rep.grows_setDs (r : Rep) (p : Port) (k : Nat) (g : Ring) : Rep.Grows r (r.setDs p k g) :=
  Rep.grows_setPort fun _ h => h
theorem Rep.same_setDs (r : Rep) (p : Port) (k : Nat) (g : Ring) : Rep.Same r (r.setDs p k g) := Rep.same_setPort _ _ _

theorem Rep.grows_writeHeader (r : Rep) (c : Ctx) (p : Port) : Rep.Grows r (r.writeHeader c p) := by
  unfold Rep.writeHeader; simp only; split
  · exact Rep.grows_emit _ _
  · exact .refl r
theorem Rep.same_writeHeader (r : Rep) (c : Ctx) (p : Port) : Rep.Same r (r.writeHeader c p) := by
  unfold Rep.writeHeader; simp only; split
  · exact Rep.same_emit _ _
  · exact .refl r

theorem Rep.grows_notify (r : Rep) (c : Ctx) (p : Port) (k : Nat) : Rep.Grows r (r.notify c p k) := by
  unfold Rep.notify; simp only
  repeat' split
  all_goals first
    | exact .refl r
    | exact Rep.grows_setSk r p k _
    | exact (Rep.grows_setSk r p k _).trans (Rep.grows_fire _ _ _)
theorem Rep.same_notify (r : Rep) (c : Ctx) (p : Port) (k : Nat) : Rep.Same r (r.notify c p k) := by
  unfold Rep.notify; simp only
  repeat' split
  all_goals first
    | exact .refl r
    | exact Rep.same_setSk r p k _
    | exact (Rep.same_setSk r p k _).trans (Rep.same_fire _ _ _)

theorem Rep.grows_writeEntry (r : Rep) (c : Ctx) (p : Port) (k : Nat) (b : EntryBody) : Rep.Grows r (r.writeEntry c p k b) := by
  unfold Rep.writeEntry
  exact ((((Rep.grows_setSk r p k _).trans (Rep.grows_emit _ _)).trans (Rep.grows_emit _ _)).trans
    (Rep.grows_writeHeader _ _ _)).trans (Rep.grows_notify _ _ _ _)
theorem Rep.same_writeEntry (r : Rep) (c : Ctx) (p : Port) (k : Nat) (b : EntryBody) : Rep.Same r (r.writeEntry c p k b) := by
  unfold Rep.writeEntry
  exact ((((Rep.same_setSk r p k _).trans (Rep.same_emit _ _)).trans (Rep.same_emit _ _)).trans
    (Rep.same_writeHeader _ _ _)).trans (Rep.same_notify _ _ _ _)

theorem Rep.grows_entry (r : Rep) (c : Ctx) (p : Port) (k : Nat) (b : EntryBody) : Rep.Grows r (r.entry c p k b).1 := by
  unfold Rep.entry; simp only; split
  · exact Rep.grows_writeEntry _ _ _ _ _
  · exact (Rep.grows_setSk r p k _).trans (Rep.grows_count _ _ _ _)
theorem Rep.same_entry (r : Rep) (c : Ctx) (p : Port) (k : Nat) (b : EntryBody) : Rep.Same r (r.entry c p k b).1 := by
  unfold Rep.entry; simp only; split
  · exact Rep.same_writeEntry _ _ _ _ _
  · exact (Rep.same_setSk r p k _).trans (Rep.same_count _ _ _ _)

theorem Rep.grows_complete (r : Rep) (c : Ctx) (p : Port) (k : Nat) (b : EntryBody) : Rep.Grows r (r.complete c p k b) := by
  unfold Rep.complete; simp only; split
  · exact (Rep.grows_setSk r p k _).trans (Rep.grows_count _ _ _ _)
  · split
    · exact (Rep.grows_setSk r p k _).trans (Rep.grows_writeEntry _ _ _ _ _)
    · exact Rep.grows_setSk r p k _
theorem Rep.same_complete (r : Rep) (c : Ctx) (p : Port) (k : Nat) (b : EntryBody) : Rep.Same r (r.complete c p k b) := by
  unfold Rep.complete; simp only; split
  · exact (Rep.same_setSk r p k _).trans (Rep.same_count _ _ _ _)
  · split
    · exact (Rep.same_setSk r p k _).trans (Rep.same_writeEntry _ _ _ _ _)
    · exact Rep.same_setSk r p k _

theorem Rep.grows_fireOnce (r : Rep) (c : Ctx) (g i : Nat) : Rep.Grows r (r.fireOnce c g i) := by
  unfold Rep.fireOnce; split
  · exact .refl r
  · refine Rep.Grows.trans ?_ (Rep.grows_fire _ _ _)
    exact ⟨⟨[], by simp⟩, fun _ => Nat.min_le_right _ _, fun _ _ h => h⟩
theorem Rep.same_fireOnce (r : Rep) (c : Ctx) (g i : Nat) : Rep.Same r (r.fireOnce c g i) := by
  unfold Rep.fireOnce; split
  · exact .refl r
  · refine Rep.Same.trans ?_ (Rep.same_fire _ _ _)
    exact ⟨rfl, rfl, rfl, rfl, rfl, rfl, rfl, rfl, rfl, rfl⟩

/-! ## Slubs and hanks -/

theorem Rep.grows_slubSkeins (r : Rep) (c : Ctx) (x : Slub) : Rep.Grows r (r.slubSkeins c x) := by
  unfold Rep.slubSkeins; simp only; split
  · split <;> split
    · exact (Rep.grows_entry _ _ _ _ _).trans (Rep.grows_entry _ _ _ _ _)
    · exact Rep.grows_entry _ _ _ _ _
    · exact Rep.grows_entry _ _ _ _ _
    · exact .refl r
  · exact .refl r
theorem Rep.same_slubSkeins (r : Rep) (c : Ctx) (x : Slub) : Rep.Same r (r.slubSkeins c x) := by
  unfold Rep.slubSkeins; simp only; split
  · split <;> split
    · exact (Rep.same_entry _ _ _ _ _).trans (Rep.same_entry _ _ _ _ _)
    · exact Rep.same_entry _ _ _ _ _
    · exact Rep.same_entry _ _ _ _ _
    · exact .refl r
  · exact .refl r

/-- The record that a request becomes (Table 16.1). -/
def Rep.slubOf (r : Rep) (q : SlubReq) : Slub :=
  { time := q.time, turn := q.turn, block := q.code / 256, sev := slubSev q.code q.d2, code := q.code,
    seq := (r.total + 1).toNat % 65536, d0 := q.d0, d1 := q.d1, d2 := q.d2 }

/-- The reporting plane with a record in the log. -/
def Rep.logged (r : Rep) (c : Ctx) (q : SlubReq) : Rep :=
  { r with
    log := Tbl.ins r.log (r.total.toNat % 4096) (r.slubOf q), total := r.total + 1, slubsTurn := r.slubsTurn + 1
    stopSeen := r.stopSeen || (bitOf (c.reg 0x110000) 1 && bitOf (c.reg 0x110000) 2 &&
      decide (c.fld 0x110000 4 3 ≤ slubSev q.code q.d2) && !r.frozen) }

/-- What is done with a record once it is in the log: counted if it replaced one, delivered, its severity source raised. -/
def Rep.afterLog (r r1 : Rep) (c : Ctx) (q : SlubReq) : Rep :=
  let r2 := if (Tbl.look r.log (r.total.toNat % 4096)).isSome then r1.count c 5765 1 else r1
  let r3 := r2.slubSkeins c (r.slubOf q)
  if c.fld 0xF0000 20 3 ≤ slubSev q.code q.d2 then r3.fire c 0x004 else r3

theorem Rep.same_afterLog (r r1 : Rep) (c : Ctx) (q : SlubReq) : Rep.Same r1 (Rep.afterLog r r1 c q) := by
  unfold Rep.afterLog; simp only
  have h2 : Rep.Same r1 (if (Tbl.look r.log (r.total.toNat % 4096)).isSome then r1.count c 5765 1 else r1) := by
    split
    · exact Rep.same_count _ _ _ _
    · exact .refl r1
  split
  · exact (h2.trans (Rep.same_slubSkeins _ _ _)).trans (Rep.same_fire _ _ _)
  · exact h2.trans (Rep.same_slubSkeins _ _ _)

theorem Rep.grows_afterLog (r r1 : Rep) (c : Ctx) (q : SlubReq) : Rep.Grows r1 (Rep.afterLog r r1 c q) := by
  unfold Rep.afterLog; simp only
  have h2 : Rep.Grows r1 (if (Tbl.look r.log (r.total.toNat % 4096)).isSome then r1.count c 5765 1 else r1) := by
    split
    · exact Rep.grows_count _ _ _ _
    · exact .refl r1
  split
  · exact (h2.trans (Rep.grows_slubSkeins _ _ _)).trans (Rep.grows_fire _ _ _)
  · exact h2.trans (Rep.grows_slubSkeins _ _ _)

/-- Writing a slub: the record is logged and reported, and its hank may be asked for. -/
theorem Rep.writeSlub_eq (r : Rep) (c : Ctx) (q : SlubReq) :
    ∃ l, r.writeSlub c q =
      { Rep.afterLog r (r.logged c q) c q with hankReqs := (Rep.afterLog r (r.logged c q) c q).hankReqs ++ l } := by
  unfold Rep.writeSlub
  simp only
  split
  · exact ⟨_, rfl⟩
  · exact ⟨[], by simp [Rep.afterLog, Rep.logged, Rep.slubOf]⟩

theorem Rep.grows_writeSlub (r : Rep) (c : Ctx) (q : SlubReq) : Rep.Grows r (r.writeSlub c q) := by
  obtain ⟨l, h⟩ := Rep.writeSlub_eq r c q
  rw [h]
  have h1 : Rep.Grows r (r.logged c q) := ⟨⟨[], by simp [Rep.logged]⟩, fun _ => Nat.min_le_right _ _, fun _ _ h => h⟩
  obtain ⟨a, b, d⟩ := h1.trans (Rep.grows_afterLog r (r.logged c q) c q)
  exact ⟨a, b, d⟩

/-- What a slub leaves: the log with its record, TOTAL one more, the requests that wait and the hank queue. -/
theorem Rep.writeSlub_log (r : Rep) (c : Ctx) (q : SlubReq) :
    (r.writeSlub c q).log = Tbl.ins r.log (r.total.toNat % 4096) (r.slubOf q) ∧
    (r.writeSlub c q).total = r.total + 1 ∧ (r.writeSlub c q).slubReqs = r.slubReqs ∧
    (r.writeSlub c q).hanks = r.hanks ∧ (r.writeSlub c q).whOld = r.whOld := by
  obtain ⟨l, h⟩ := Rep.writeSlub_eq r c q
  rw [h]
  obtain ⟨h1, h2, h3, h4, h5, h6, h7, h8, h9, h10⟩ := Rep.same_afterLog r (r.logged c q) c q
  exact ⟨h1, h2, h3, h5, h10⟩

theorem Rep.grows_pushHank (r : Rep) (c : Ctx) (k u a : Nat) (b : BitVec 64) : Rep.Grows r (r.pushHank c k u a b).1 := by
  have hc : ∀ r' : Rep, (r'.out = r.out ∧ r'.ct = r.ct ∧ r'.ports = r.ports) → Rep.Grows r r' := by
    intro r' ⟨h1, h2, h3⟩
    refine ⟨⟨[], by simp [h1]⟩, fun i => ?_, fun p i h => ?_⟩
    · simp only [Rep.counter, h2]; exact Nat.min_le_right _ _
    · simpa [Rep.pends, Rep.port, h3] using h
  unfold Rep.pushHank
  simp only
  split
  · split
    · split
      · exact hc _ ⟨rfl, rfl, rfl⟩
      · exact Rep.Grows.trans (hc _ (by exact ⟨rfl, rfl, rfl⟩)) (Rep.grows_count _ _ _ _)
    · exact hc _ ⟨rfl, rfl, rfl⟩
  · exact Rep.Grows.trans (hc _ (by exact ⟨rfl, rfl, rfl⟩)) (Rep.grows_count _ _ _ _)

/-- A hank leaves the log, the waiting requests and the whorl alone. -/
theorem Rep.pushHank_keeps (r : Rep) (c : Ctx) (k u a : Nat) (b : BitVec 64) :
    (r.pushHank c k u a b).1.log = r.log ∧ (r.pushHank c k u a b).1.total = r.total ∧
    (r.pushHank c k u a b).1.slubReqs = r.slubReqs ∧ (r.pushHank c k u a b).1.hankReqs = r.hankReqs ∧
    (r.pushHank c k u a b).1.whOld = r.whOld := by
  have hs : ∀ r' : Rep, (r'.log = r.log ∧ r'.total = r.total ∧ r'.slubReqs = r.slubReqs ∧ r'.hankReqs = r.hankReqs ∧
        r'.whOld = r.whOld) →
      ((r'.count c 5840 1).log = r.log ∧ (r'.count c 5840 1).total = r.total ∧
        (r'.count c 5840 1).slubReqs = r.slubReqs ∧ (r'.count c 5840 1).hankReqs = r.hankReqs ∧
        (r'.count c 5840 1).whOld = r.whOld) := by
    intro r' ⟨a1, a2, a3, a4, a5⟩
    have := Rep.same_count r' c 5840 1
    exact ⟨this.log.trans a1, this.total.trans a2, this.slubReqs.trans a3, this.hankReqs.trans a4, this.whOld.trans a5⟩
  unfold Rep.pushHank
  simp only
  split
  · split
    · split
      · exact ⟨rfl, rfl, rfl, rfl, rfl⟩
      · exact hs _ ⟨rfl, rfl, rfl, rfl, rfl⟩
    · exact ⟨rfl, rfl, rfl, rfl, rfl⟩
  · exact hs _ ⟨rfl, rfl, rfl, rfl, rfl⟩

/-! ## The end of an instant -/

theorem Rep.grows_foldSlubs (c : Ctx) (l : List SlubReq) (r : Rep) : Rep.Grows r (l.foldl (fun a q => a.writeSlub c q) r) := by
  induction l generalizing r with
  | nil => exact .refl r
  | cons q l ih => exact (Rep.grows_writeSlub r c q).trans (ih _)

theorem Rep.foldSlubs_keeps (c : Ctx) (l : List SlubReq) (r : Rep) :
    (l.foldl (fun a q => a.writeSlub c q) r).slubReqs = r.slubReqs ∧
    (l.foldl (fun a q => a.writeSlub c q) r).whOld = r.whOld := by
  induction l generalizing r with
  | nil => exact ⟨rfl, rfl⟩
  | cons q l ih =>
    have h := Rep.writeSlub_log r c q
    exact ⟨(ih _).1.trans h.2.2.1, (ih _).2.trans h.2.2.2.2⟩

theorem Rep.grows_writeSlubs (r : Rep) (c : Ctx) : Rep.Grows r (r.writeSlubs c) := by
  refine Rep.Grows.trans ?_ (Rep.grows_foldSlubs c _ _)
  exact ⟨⟨[], by simp⟩, fun _ => Nat.min_le_right _ _, fun _ _ h => h⟩

theorem Rep.writeSlubs_slubReqs (r : Rep) (c : Ctx) : (r.writeSlubs c).slubReqs = [] := (Rep.foldSlubs_keeps c _ _).1
theorem Rep.writeSlubs_whOld (r : Rep) (c : Ctx) : (r.writeSlubs c).whOld = r.whOld := (Rep.foldSlubs_keeps c _ _).2

/-- Hanks put into the queue. -/
theorem Rep.foldHanks (c : Ctx) (l : List HankReq) (a : Rep × Bool) :
    let b := l.foldl (fun (a : Rep × Bool) q =>
      let x := a.1.pushHank c q.kind q.sub q.aux q.body
      (x.1, a.2 || x.2)) a
    Rep.Grows a.1 b.1 ∧ b.1.log = a.1.log ∧ b.1.total = a.1.total ∧ b.1.slubReqs = a.1.slubReqs ∧
    b.1.hankReqs = a.1.hankReqs ∧ b.1.whOld = a.1.whOld := by
  induction l generalizing a with
  | nil => exact ⟨.refl _, rfl, rfl, rfl, rfl, rfl⟩
  | cons q l ih =>
    obtain ⟨h1, h2, h3, h4, h5, h6⟩ := ih ((a.1.pushHank c q.kind q.sub q.aux q.body).1, a.2 || (a.1.pushHank c q.kind q.sub q.aux q.body).2)
    obtain ⟨k1, k2, k3, k4, k5⟩ := Rep.pushHank_keeps a.1 c q.kind q.sub q.aux q.body
    exact ⟨(Rep.grows_pushHank _ _ _ _ _ _).trans h1, h2.trans k1, h3.trans k2, h4.trans k3, h5.trans k4, h6.trans k5⟩

/-- What the hanks of an instant leave. -/
theorem Rep.pushHanks_spec (r : Rep) (c : Ctx) :
    Rep.Grows r (r.pushHanks c).1 ∧ (r.pushHanks c).1.log = r.log ∧ (r.pushHanks c).1.total = r.total ∧
    (r.pushHanks c).1.slubReqs = r.slubReqs ∧ (r.pushHanks c).1.hankReqs = [] ∧ (r.pushHanks c).1.whOld = r.whOld := by
  obtain ⟨h1, h2, h3, h4, h5, h6⟩ := Rep.foldHanks c (r.hankReqs.foldl (fun l a => insHank a l) []) ({ r with hankReqs := [] }, false)
  refine ⟨Rep.Grows.trans ?_ h1, h2, h3, h4, h5, h6⟩
  exact ⟨⟨[], by simp⟩, fun _ => Nat.min_le_right _ _, fun _ _ h => h⟩

theorem Rep.grows_lossSlub (r : Rep) (c : Ctx) : Rep.Grows r (r.lossSlub c) :=
  (Rep.grows_writeSlub _ _ _).trans (Rep.grows_fire _ _ _)

/-- What writing the slubs and hanks of an instant leaves. -/
theorem Rep.writeAll_spec (r : Rep) (c : Ctx) :
    Rep.Grows r (r.writeAll c) ∧ (r.writeAll c).slubReqs = [] ∧ (r.writeAll c).hankReqs = [] ∧
    (r.writeAll c).whOld = r.whOld := by
  obtain ⟨h1, h2, h3, h4, h5, h6⟩ := Rep.pushHanks_spec (r.writeSlubs c) c
  have g1 := (Rep.grows_writeSlubs r c).trans h1
  have q1 := h4.trans (Rep.writeSlubs_slubReqs r c)
  have w1 := h6.trans (Rep.writeSlubs_whOld r c)
  unfold Rep.writeAll
  simp only
  split
  · obtain ⟨k1, k2, k3, k4, k5, k6⟩ := Rep.pushHanks_spec (((r.writeSlubs c).pushHanks c).1.lossSlub c) c
    have hf := Rep.same_fire (((r.writeSlubs c).pushHanks c).1.writeSlub c
      { time := c.now, turn := c.turn, code := 0x1102, d0 := 1, d1 := 0, d2 := 0 }) c 0x028
    refine ⟨(g1.trans (Rep.grows_lossSlub _ c)).trans k1, k4.trans ?_, k5, k6.trans ?_⟩
    · exact hf.slubReqs.trans ((Rep.writeSlub_log _ c _).2.2.1.trans q1)
    · exact hf.whOld.trans ((Rep.writeSlub_log _ c _).2.2.2.2.trans w1)
  · exact ⟨g1, q1, h5, w1⟩

theorem Rep.grows_whorlReqs (r : Rep) (c : Ctx) : Rep.Grows r (r.whorlReqs c) := by
  unfold Rep.whorlReqs
  split
  · obtain ⟨h1, h2, h3⟩ := (Rep.grows_evalReq r c .a).trans (Rep.grows_evalReq (r.evalReq c .a) c .b)
    exact ⟨h1, h2, h3⟩
  · exact .refl r

/-- The whorl's work at the end of an instant leaves the log and what waits for it. -/
theorem Rep.whorlReqs_keeps (r : Rep) (c : Ctx) :
    (r.whorlReqs c).log = r.log ∧ (r.whorlReqs c).slubReqs = r.slubReqs ∧ (r.whorlReqs c).hankReqs = r.hankReqs ∧
    (r.whorlReqs c).whOld = r.whOld ∧ (r.whorlReqs c).whDue = false := by
  unfold Rep.whorlReqs
  split
  · have h := (Rep.same_evalReq r c .a).trans (Rep.same_evalReq (r.evalReq c .a) c .b)
    exact ⟨h.log, h.slubReqs, h.hankReqs, h.whOld, rfl⟩
  · rename_i h
    exact ⟨rfl, rfl, rfl, rfl, by simpa using h⟩

/-- So do the views after a commit. -/
theorem Rep.whorlViews_keeps (r : Rep) (c : Ctx) :
    (r.whorlViews c).log = r.log ∧ (r.whorlViews c).slubReqs = r.slubReqs ∧ (r.whorlViews c).hankReqs = r.hankReqs ∧
    (r.whorlViews c).whOld = none := by
  unfold Rep.whorlViews
  split
  · exact ⟨rfl, rfl, rfl, rfl⟩
  · rename_i h
    exact ⟨rfl, rfl, rfl, by simpa using h⟩

/-- With no commit of group WHORL in the instant the ports keep their views. -/
theorem Rep.whorlViews_none {r : Rep} (c : Ctx) (h : r.whOld = none) : r.whorlViews c = r := by
  simp [Rep.whorlViews, h]

/-- At rest, the end of an instant changes nothing. -/
theorem Rep.flush_rest {r : Rep} (c : Ctx) (h1 : r.slubReqs = []) (h2 : r.hankReqs = []) (h3 : r.whOld = none)
    (h4 : r.whDue = false) : r.flush c = r := by
  cases r
  simp only at h1 h2 h3 h4
  subst h1 h2 h3 h4
  rfl

/-- After an instant nothing of it waits any more. -/
theorem Rep.flush_settled (r : Rep) (c : Ctx) :
    (r.flush c).slubReqs = [] ∧ (r.flush c).hankReqs = [] ∧ (r.flush c).whOld = none ∧ (r.flush c).whDue = false := by
  obtain ⟨-, a2, a3, -⟩ := Rep.writeAll_spec r c
  obtain ⟨-, b2, b3, b4⟩ := Rep.whorlViews_keeps (r.writeAll c) c
  obtain ⟨-, c2, c3, c4, c5⟩ := Rep.whorlReqs_keeps ((r.writeAll c).whorlViews c) c
  exact ⟨c2.trans (b2.trans a2), c3.trans (b3.trans a3), c4.trans b4, c5⟩

/-- With no commit of group WHORL in it the end of an instant takes nothing back. -/
theorem Rep.grows_flush {r : Rep} (c : Ctx) (h : r.whOld = none) : Rep.Grows r (r.flush c) := by
  obtain ⟨a1, -, -, a4⟩ := Rep.writeAll_spec r c
  unfold Rep.flush
  rw [Rep.whorlViews_none c (a4.trans h)]
  exact a1.trans (Rep.grows_whorlReqs _ c)

/-- A slub that alone waits for the end of its instant is in the log then, at the place due. -/
theorem Rep.flush_one {r : Rep} (c : Ctx) {q : SlubReq} (h : r.slubReqs = [q]) :
    Tbl.look (r.flush c).log (r.total.toNat % 4096) = some (r.slubOf q) := by
  have hw : r.writeSlubs c = Rep.writeSlub { r with slubReqs := [] } c q := by
    unfold Rep.writeSlubs; rw [h]; rfl
  obtain ⟨w1, w2, w3, w4, w5⟩ := Rep.writeSlub_log { r with slubReqs := [] } c q
  obtain ⟨h1, h2, h3, h4, h5, h6⟩ := Rep.pushHanks_spec (r.writeSlubs c) c
  have hl : Tbl.look (r.writeSlubs c).log (r.total.toNat % 4096) = some (r.slubOf q) := by
    rw [hw, w1]; exact Tbl.look_ins_self _ _ _
  have ht : (r.writeSlubs c).total = r.total + 1 := by rw [hw]; exact w2
  unfold Rep.flush
  rw [(Rep.whorlReqs_keeps _ c).1, (Rep.whorlViews_keeps _ c).1]
  unfold Rep.writeAll
  simp only
  split
  · obtain ⟨k1, k2, k3, k4, k5, k6⟩ := Rep.pushHanks_spec (((r.writeSlubs c).pushHanks c).1.lossSlub c) c
    rw [k2]
    unfold Rep.lossSlub
    rw [(Rep.same_fire _ c 0x028).log, (Rep.writeSlub_log _ c _).1, Tbl.look_ins_ne, h2]
    · exact hl
    · rw [h3, ht]
      have : (r.total + 1).toNat = (r.total.toNat + 1) % 2 ^ 32 := by simp [BitVec.toNat_add]
      rw [this]
      have := r.total.isLt
      omega
  · rw [h2]; exact hl

end Sys2Proof.Machine
end

