-- ==== Sys2Proof/Laws/Command.lean ====
section
/-!
SUPPORT. The same laws for the operations on the whole state, and what a command at its instant does: time goes on, the
command acts, and the instant ends.
-/

namespace Sys2Proof.Machine

variable (s : State)

theorem State.raise_same (i : Nat) : Rep.Same s.rep (s.raise i).rep := Rep.same_fire _ _ _
theorem State.raise_grows (i : Nat) : Rep.Grows s.rep (s.raise i).rep := Rep.grows_fire _ _ _
@[simp] theorem State.raise_slubReqs (i : Nat) : (s.raise i).rep.slubReqs = s.rep.slubReqs := (s.raise_same i).slubReqs
@[simp] theorem State.raise_hankReqs (i : Nat) : (s.raise i).rep.hankReqs = s.rep.hankReqs := (s.raise_same i).hankReqs
@[simp] theorem State.raise_total (i : Nat) : (s.raise i).rep.total = s.rep.total := (s.raise_same i).total
@[simp] theorem State.raise_log (i : Nat) : (s.raise i).rep.log = s.rep.log := (s.raise_same i).log
@[simp] theorem State.raise_whOld (i : Nat) : (s.raise i).rep.whOld = s.rep.whOld := (s.raise_same i).whOld

theorem State.raiseOnce_same (g i : Nat) : Rep.Same s.rep (s.raiseOnce g i).rep := Rep.same_fireOnce _ _ _ _
theorem State.raiseOnce_grows (g i : Nat) : Rep.Grows s.rep (s.raiseOnce g i).rep := Rep.grows_fireOnce _ _ _ _
@[simp] theorem State.raiseOnce_slubReqs (g i : Nat) : (s.raiseOnce g i).rep.slubReqs = s.rep.slubReqs := (s.raiseOnce_same g i).slubReqs
@[simp] theorem State.raiseOnce_hankReqs (g i : Nat) : (s.raiseOnce g i).rep.hankReqs = s.rep.hankReqs := (s.raiseOnce_same g i).hankReqs
@[simp] theorem State.raiseOnce_total (g i : Nat) : (s.raiseOnce g i).rep.total = s.rep.total := (s.raiseOnce_same g i).total
@[simp] theorem State.raiseOnce_log (g i : Nat) : (s.raiseOnce g i).rep.log = s.rep.log := (s.raiseOnce_same g i).log
@[simp] theorem State.raiseOnce_whOld (g i : Nat) : (s.raiseOnce g i).rep.whOld = s.rep.whOld := (s.raiseOnce_same g i).whOld

theorem State.count_same (c : Nat) : Rep.Same s.rep (s.count c).rep := Rep.same_count _ _ _ _
theorem State.count_grows (c : Nat) : Rep.Grows s.rep (s.count c).rep := Rep.grows_count _ _ _ _
@[simp] theorem State.count_slubReqs (c : Nat) : (s.count c).rep.slubReqs = s.rep.slubReqs := (s.count_same c).slubReqs
@[simp] theorem State.count_hankReqs (c : Nat) : (s.count c).rep.hankReqs = s.rep.hankReqs := (s.count_same c).hankReqs
@[simp] theorem State.count_total (c : Nat) : (s.count c).rep.total = s.rep.total := (s.count_same c).total
@[simp] theorem State.count_log (c : Nat) : (s.count c).rep.log = s.rep.log := (s.count_same c).log
@[simp] theorem State.count_whOld (c : Nat) : (s.count c).rep.whOld = s.rep.whOld := (s.count_same c).whOld

theorem State.countN_same (c n : Nat) : Rep.Same s.rep (s.countN c n).rep := Rep.same_count _ _ _ _
theorem State.countN_grows (c n : Nat) : Rep.Grows s.rep (s.countN c n).rep := Rep.grows_count _ _ _ _
@[simp] theorem State.countN_slubReqs (c n : Nat) : (s.countN c n).rep.slubReqs = s.rep.slubReqs := (s.countN_same c n).slubReqs
@[simp] theorem State.countN_hankReqs (c n : Nat) : (s.countN c n).rep.hankReqs = s.rep.hankReqs := (s.countN_same c n).hankReqs
@[simp] theorem State.countN_total (c n : Nat) : (s.countN c n).rep.total = s.rep.total := (s.countN_same c n).total
@[simp] theorem State.countN_log (c n : Nat) : (s.countN c n).rep.log = s.rep.log := (s.countN_same c n).log
@[simp] theorem State.countN_whOld (c n : Nat) : (s.countN c n).rep.whOld = s.rep.whOld := (s.countN_same c n).whOld

theorem State.emit_same (o : Output) : Rep.Same s.rep (s.emit o).rep := Rep.same_emit _ _
theorem State.emit_grows (o : Output) : Rep.Grows s.rep (s.emit o).rep := Rep.grows_emit _ _
@[simp] theorem State.emit_slubReqs (o : Output) : (s.emit o).rep.slubReqs = s.rep.slubReqs := (s.emit_same o).slubReqs
@[simp] theorem State.emit_hankReqs (o : Output) : (s.emit o).rep.hankReqs = s.rep.hankReqs := (s.emit_same o).hankReqs
@[simp] theorem State.emit_total (o : Output) : (s.emit o).rep.total = s.rep.total := (s.emit_same o).total
@[simp] theorem State.emit_log (o : Output) : (s.emit o).rep.log = s.rep.log := (s.emit_same o).log
@[simp] theorem State.emit_whOld (o : Output) : (s.emit o).rep.whOld = s.rep.whOld := (s.emit_same o).whOld

theorem State.entry_same (p : Port) (k : Nat) (b : EntryBody) : Rep.Same s.rep (s.entry p k b).rep := Rep.same_entry _ _ _ _ _
theorem State.entry_grows (p : Port) (k : Nat) (b : EntryBody) : Rep.Grows s.rep (s.entry p k b).rep := Rep.grows_entry _ _ _ _ _
@[simp] theorem State.entry_slubReqs (p : Port) (k : Nat) (b : EntryBody) : (s.entry p k b).rep.slubReqs = s.rep.slubReqs := (s.entry_same p k b).slubReqs
@[simp] theorem State.entry_hankReqs (p : Port) (k : Nat) (b : EntryBody) : (s.entry p k b).rep.hankReqs = s.rep.hankReqs := (s.entry_same p k b).hankReqs
@[simp] theorem State.entry_total (p : Port) (k : Nat) (b : EntryBody) : (s.entry p k b).rep.total = s.rep.total := (s.entry_same p k b).total
@[simp] theorem State.entry_log (p : Port) (k : Nat) (b : EntryBody) : (s.entry p k b).rep.log = s.rep.log := (s.entry_same p k b).log
@[simp] theorem State.entry_whOld (p : Port) (k : Nat) (b : EntryBody) : (s.entry p k b).rep.whOld = s.rep.whOld := (s.entry_same p k b).whOld

theorem State.askReq_same : Rep.Same s.rep s.askReq.rep := Rep.same_askReq _
theorem State.askReq_grows : Rep.Grows s.rep s.askReq.rep := Rep.grows_askReq _
@[simp] theorem State.askReq_slubReqs : s.askReq.rep.slubReqs = s.rep.slubReqs := rfl
@[simp] theorem State.askReq_hankReqs : s.askReq.rep.hankReqs = s.rep.hankReqs := rfl
@[simp] theorem State.askReq_total : s.askReq.rep.total = s.rep.total := rfl
@[simp] theorem State.askReq_log : s.askReq.rep.log = s.rep.log := rfl
@[simp] theorem State.askReq_whOld : s.askReq.rep.whOld = s.rep.whOld := rfl

theorem State.chCount_same (c o : Nat) : Rep.Same s.rep (s.chCount c o).rep := Rep.same_count _ _ _ _
theorem State.chCount_grows (c o : Nat) : Rep.Grows s.rep (s.chCount c o).rep := Rep.grows_count _ _ _ _
@[simp] theorem State.chCount_slubReqs (c o : Nat) : (s.chCount c o).rep.slubReqs = s.rep.slubReqs := (s.chCount_same c o).slubReqs
@[simp] theorem State.chCount_hankReqs (c o : Nat) : (s.chCount c o).rep.hankReqs = s.rep.hankReqs := (s.chCount_same c o).hankReqs
@[simp] theorem State.chCount_total (c o : Nat) : (s.chCount c o).rep.total = s.rep.total := (s.chCount_same c o).total
@[simp] theorem State.chCount_log (c o : Nat) : (s.chCount c o).rep.log = s.rep.log := (s.chCount_same c o).log
@[simp] theorem State.chCount_whOld (c o : Nat) : (s.chCount c o).rep.whOld = s.rep.whOld := (s.chCount_same c o).whOld

theorem State.discard_same (o : Nat) (p : Port) (r : Nat) : Rep.Same s.rep (s.discard o p r).rep := Rep.Same.trans (Rep.same_count _ _ _ _) (Rep.same_fireOnce _ _ _ _)
theorem State.discard_grows (o : Nat) (p : Port) (r : Nat) : Rep.Grows s.rep (s.discard o p r).rep := Rep.Grows.trans (Rep.grows_count _ _ _ _) (Rep.grows_fireOnce _ _ _ _)
@[simp] theorem State.discard_slubReqs (o : Nat) (p : Port) (r : Nat) : (s.discard o p r).rep.slubReqs = s.rep.slubReqs := (s.discard_same o p r).slubReqs
@[simp] theorem State.discard_hankReqs (o : Nat) (p : Port) (r : Nat) : (s.discard o p r).rep.hankReqs = s.rep.hankReqs := (s.discard_same o p r).hankReqs
@[simp] theorem State.discard_total (o : Nat) (p : Port) (r : Nat) : (s.discard o p r).rep.total = s.rep.total := (s.discard_same o p r).total
@[simp] theorem State.discard_log (o : Nat) (p : Port) (r : Nat) : (s.discard o p r).rep.log = s.rep.log := (s.discard_same o p r).log
@[simp] theorem State.discard_whOld (o : Nat) (p : Port) (r : Nat) : (s.discard o p r).rep.whOld = s.rep.whOld := (s.discard_same o p r).whOld

theorem State.complete_same (d : Desc) (c : Compl) : Rep.Same s.rep (s.complete d c).rep := by
  unfold State.complete
  simp only
  split
  · exact (Rep.same_setDs _ _ _ _).trans (Rep.same_complete _ _ _ _ _)
  · exact (Rep.same_setDs _ _ _ _).trans (Rep.same_setSk _ _ _ _)
theorem State.complete_grows (d : Desc) (c : Compl) : Rep.Grows s.rep (s.complete d c).rep := by
  unfold State.complete
  simp only
  split
  · exact (Rep.grows_setDs _ _ _ _).trans (Rep.grows_complete _ _ _ _ _)
  · exact (Rep.grows_setDs _ _ _ _).trans (Rep.grows_setSk _ _ _ _)
@[simp] theorem State.complete_whOld (d : Desc) (c : Compl) : (s.complete d c).rep.whOld = s.rep.whOld :=
  (s.complete_same d c).whOld
@[simp] theorem State.complete_slubReqs (d : Desc) (c : Compl) : (s.complete d c).rep.slubReqs = s.rep.slubReqs :=
  (s.complete_same d c).slubReqs
@[simp] theorem State.complete_total (d : Desc) (c : Compl) : (s.complete d c).rep.total = s.rep.total :=
  (s.complete_same d c).total
@[simp] theorem State.completeSt_slubReqs (d : Desc) (o t : Nat) : (s.completeSt d o t).rep.slubReqs = s.rep.slubReqs :=
  s.complete_slubReqs d _
@[simp] theorem State.completeSt_total (d : Desc) (o t : Nat) : (s.completeSt d o t).rep.total = s.rep.total :=
  s.complete_total d _

/-- A slub of this instant as it waits for its end. -/
def State.slubReq (k a b c : Nat) : SlubReq :=
  ⟨s.now, s.tm.turn, k, BitVec.ofNat 32 a, BitVec.ofNat 32 b, BitVec.ofNat 32 c⟩

@[simp] theorem State.slub_slubReqs (k a b c : Nat) :
    (s.slub k a b c).rep.slubReqs = s.rep.slubReqs ++ [s.slubReq k a b c] := rfl
@[simp] theorem State.slub_whOld (k a b c : Nat) : (s.slub k a b c).rep.whOld = s.rep.whOld := rfl
@[simp] theorem State.slub_total (k a b c : Nat) : (s.slub k a b c).rep.total = s.rep.total := rfl
theorem State.slub_grows (k a b c : Nat) : Rep.Grows s.rep (s.slub k a b c).rep :=
  ⟨⟨[], by simp [State.slub, Rep.slub, Rep.slubAt]⟩, fun _ => Nat.min_le_right _ _, fun _ _ h => h⟩

/-! ## The end of an instant -/

/-- With no commit of group WHORL in it the end of an instant takes nothing back. -/
theorem State.flush_grows {s : State} (h : s.rep.whOld = none) : Rep.Grows s.rep s.flush.rep := Rep.grows_flush s.ctx h
theorem State.flush_settled : s.flush.settled := Rep.flush_settled s.rep s.ctx

/-- At rest the end of an instant changes nothing. -/
theorem State.flush_rest {s : State} (h : s.settled) : s.flush = s := by
  have := Rep.flush_rest s.ctx h.1 h.2.1 h.2.2.1 h.2.2.2
  unfold State.flush
  rw [this]

variable {s}

/-- A slub that alone was written in an instant is in the log after it. -/
theorem State.logs_flush {u : State} {k a b c : Nat} (ht : u.rep.total = s.rep.total)
    (hq : u.rep.slubReqs = [u.slubReq k a b c]) : s.logs u.flush k a b c := by
  refine ⟨u.rep.slubOf (u.slubReq k a b c), ?_, ?_⟩
  · rw [← ht]; exact Rep.flush_one u.ctx hq
  · simp [Rep.slubOf, State.slubReq]

/-- A source raised is presented where its live register routes it. -/
theorem State.raises_raise {u : State} {i : Nat} (h : u.regs.live = s.regs.live) (hw : u.rep.whOld = none) :
    s.raises (u.raise i) i := by
  intro p ⟨h1, h2, h3⟩
  refine Rep.pends_fire hw h1 ?_ ?_
  · simpa [Ctx.src, Ctx.reg, State.ctx, State.live, h] using h2
  · simpa [Ctx.src, Ctx.reg, State.ctx, State.live, h] using h3

theorem State.raises_mono {t u : State} {i : Nat} (h : s.raises t i) (g : Rep.Grows t.rep u.rep) : s.raises u i :=
  fun p hp => g.pends p i (h p hp)

theorem State.counts_count {u : State} {c n : Nat} (h : u.rep.counter c = s.rep.counter c) : s.counts (u.countN c n) c n := by
  unfold State.counts
  rw [← h]
  exact Rep.counter_count _ _ _ _

theorem State.counts_mono {t u : State} {c n : Nat} (h : s.counts t c n) (g : Rep.Grows t.rep u.rep) : s.counts u c n := by
  have := g.counter c
  unfold State.counts at *
  omega

theorem State.putsOut_mono {t u : State} {o : Output} (h : s.putsOut t o) (g : Rep.Grows t.rep u.rep) : s.putsOut u o := by
  obtain ⟨l, hl, ho⟩ := h
  obtain ⟨m, hm⟩ := g.out
  exact ⟨l ++ m, by simp [hm, hl], by simp [ho]⟩

/-! ## Commands at their instant -/

/-- A command at a free instant while the device runs. -/
theorem State.at_up {dt : Nat} {f : State → State} (h : s.up = true) : s.at_ dt f = .next (f (s.elapse dt)).flush := by
  simp [State.at_, h]

/-- A command at a free instant while the device does not run. -/
theorem State.at_down {dt : Nat} {f : State → State} (h : s.up = false) : s.at_ dt f = .next s := by
  simp [State.at_, h]

theorem State.sched_up {t : BitVec 64} {f : State → State} (h : s.up = true) :
    s.sched t f = .next (f (s.advanceTo t)).flush := by
  simp [State.sched, h]

theorem State.sched_down {t : BitVec 64} {f : State → State} (h : s.up = false) : s.sched t f = .next s := by
  simp [State.sched, h]

/-- The checks of a register write do not look at the time. -/
theorem State.wrReason_elapse {s : State} (h : s.steady) (dt off : Nat) (w : Wr) :
    (s.elapse dt).wrReason off w = s.wrReason off w := by
  rw [State.elapse_steady h]; split <;> rfl

/-- A command in a new cycle acts on what that cycle begins with. -/
theorem State.elapse_newCycle (s : State) {dt : Nat} (h : dt ≠ 0) : s.newCycle.elapse dt = s.elapse dt := by
  unfold State.elapse
  rw [if_neg h, if_neg h, State.newCycle_steady s.newCycle_isSteady]

theorem State.wr_pass {off : Nat} {w : Wr} {f : State → State} (h : s.wrReason off w = none) : s.wr off w f = f s := by
  simp [State.wr, h]

theorem State.wr_fail {off : Nat} {w : Wr} {f : State → State} {r : Nat} (h : s.wrReason off w = some r) :
    s.wr off w f = if r = reasonBusy then s.dropBusy off w.port else s.discard off w.port r := by
  simp [State.wr, h]

end Sys2Proof.Machine
end

