-- ==== Sys2Proof/Laws/Rows.lean ====
section
/-!
SUPPORT. The two shapes of a command: at a free instant or at an instant of the turn schedule. All commands have one of them
but those that act in OFF and RESET.
-/

namespace Sys2Proof.Machine

/-- A command is one at its instant: it does nothing while the device does not run; else time goes on, it acts, and the
instant ends. -/
def RowForm (c : Instr) (s : State) : Prop :=
  (∃ dt f, exec c s = s.at_ dt f) ∨ (∃ t f, exec c s = s.sched t f)

/-- Every command but those that act in OFF and RESET has one of the two shapes. -/
theorem rowForm (c : Instr) (s : State) (h : c.actsInReset = false) : RowForm c s := by
  cases c with
  | turnBoundary => right; apply Exists.intro; apply Exists.intro; show execTurnBoundary _ = _; delta execTurnBoundary; rfl
  | capturePoint => right; apply Exists.intro; apply Exists.intro; show execCapturePoint _ _ = _; delta execCapturePoint; rfl
  | captureReadingsArrival => left; apply Exists.intro; apply Exists.intro; show execCaptureReadingsArrival _ _ _ = _; delta execCaptureReadingsArrival; rfl
  | captureReadingsTimeout => left; apply Exists.intro; apply Exists.intro; show execCaptureReadingsTimeout _ _ = _; delta execCaptureReadingsTimeout; rfl
  | agreementWindowEnd => right; apply Exists.intro; apply Exists.intro; show execAgreementWindowEnd _ = _; delta execAgreementWindowEnd; rfl
  | twistWindowStart => right; apply Exists.intro; apply Exists.intro; show execTwistWindowStart _ = _; delta execTwistWindowStart; rfl
  | loopEvaluationComplete => left; apply Exists.intro; apply Exists.intro; show execLoopEvaluationComplete _ _ _ = _; delta execLoopEvaluationComplete; rfl
  | releasePoint => right; apply Exists.intro; apply Exists.intro; show execReleasePoint _ = _; delta execReleasePoint; rfl
  | turnOutPulseEnd => left; apply Exists.intro; apply Exists.intro; show execTurnOutPulseEnd _ _ = _; delta execTurnOutPulseEnd; rfl
  | ppsEvent => left; apply Exists.intro; apply Exists.intro; show execPpsEvent _ _ = _; delta execPpsEvent; rfl
  | turnInEvent => left; apply Exists.intro; apply Exists.intro; show execTurnInEvent _ _ = _; delta execTurnInEvent; rfl
  | timeCell => left; apply Exists.intro; apply Exists.intro; show execTimeCell _ _ _ _ _ _ _ = _; delta execTimeCell; rfl
  | holdoverEntry => left; apply Exists.intro; apply Exists.intro; show execHoldoverEntry _ _ = _; delta execHoldoverEntry; rfl
  | cascadeAlarm => left; apply Exists.intro; apply Exists.intro; show execCascadeAlarm _ _ = _; delta execCascadeAlarm; rfl
  | loadTime => left; apply Exists.intro; apply Exists.intro; show execLoadTime _ _ _ = _; delta execLoadTime; rfl
  | loadTurn => left; apply Exists.intro; apply Exists.intro; show execLoadTurn _ _ _ = _; delta execLoadTurn; rfl
  | tbNowLoRead => left; apply Exists.intro; apply Exists.intro; show execTbNowLoRead _ _ _ = _; delta execTbNowLoRead; rfl
  | tbTurnLoRead => left; apply Exists.intro; apply Exists.intro; show execTbTurnLoRead _ _ _ = _; delta execTbTurnLoRead; rfl
  | tbBoundLoRead => left; apply Exists.intro; apply Exists.intro; show execTbBoundLoRead _ _ _ = _; delta execTbBoundLoRead; rfl
  | startOfFrame => left; apply Exists.intro; apply Exists.intro; show execStartOfFrame _ _ _ = _; delta execStartOfFrame; rfl
  | frameReceived => left; apply Exists.intro; apply Exists.intro; show execFrameReceived _ _ _ _ _ = _; delta execFrameReceived; rfl
  | frameSent => left; apply Exists.intro; apply Exists.intro; show execFrameSent _ _ _ _ _ = _; delta execFrameSent; rfl
  | arbitrationLost => left; apply Exists.intro; apply Exists.intro; show execArbitrationLost _ _ _ = _; delta execArbitrationLost; rfl
  | errorFlag => left; apply Exists.intro; apply Exists.intro; show execErrorFlag _ _ _ _ = _; delta execErrorFlag; rfl
  | frameChoice => left; apply Exists.intro; apply Exists.intro; show execFrameChoice _ _ _ _ = _; delta execFrameChoice; rfl
  | busIntegrationComplete => left; apply Exists.intro; apply Exists.intro; show execBusIntegrationComplete _ _ _ = _; delta execBusIntegrationComplete; rfl
  | holdoffEnd => left; apply Exists.intro; apply Exists.intro; show execHoldoffEnd _ _ _ = _; delta execHoldoffEnd; rfl
  | recoveryComplete => left; apply Exists.intro; apply Exists.intro; show execRecoveryComplete _ _ _ = _; delta execRecoveryComplete; rfl
  | modeTakesEffect => left; apply Exists.intro; apply Exists.intro; show execModeTakesEffect _ _ _ = _; delta execModeTakesEffect; rfl
  | transmitTimeout => left; apply Exists.intro; apply Exists.intro; show execTransmitTimeout _ _ _ = _; delta execTransmitTimeout; rfl
  | recover => left; apply Exists.intro; apply Exists.intro; show execRecover _ _ _ _ = _; delta execRecover; rfl
  | release => left; apply Exists.intro; apply Exists.intro; show execRelease _ _ _ _ = _; delta execRelease; rfl
  | carding => left; apply Exists.intro; apply Exists.intro; show execCarding _ _ _ _ _ = _; delta execCarding; rfl
  | emInsert => left; apply Exists.intro; apply Exists.intro; show execEmInsert _ _ _ = _; delta execEmInsert; rfl
  | emDelete => left; apply Exists.intro; apply Exists.intro; show execEmDelete _ _ _ = _; delta execEmDelete; rfl
  | emRead => left; apply Exists.intro; apply Exists.intro; show execEmRead _ _ _ = _; delta execEmRead; rfl
  | routeWrite => left; apply Exists.intro; apply Exists.intro; show execRouteWrite _ _ _ = _; delta execRouteWrite; rfl
  | routeRead => left; apply Exists.intro; apply Exists.intro; show execRouteRead _ _ _ = _; delta execRouteRead; rfl
  | tableCommandComplete => left; apply Exists.intro; apply Exists.intro; show execTableCommandComplete _ _ = _; delta execTableCommandComplete; rfl
  | nop => left; apply Exists.intro; apply Exists.intro; show execNop _ _ _ = _; delta execNop State.descRow; rfl
  | send => left; apply Exists.intro; apply Exists.intro; show execSend _ _ _ _ = _; delta execSend State.descRow; rfl
  | sendReadyEntry => left; apply Exists.intro; apply Exists.intro; show execSendReadyEntry _ _ _ = _; delta execSendReadyEntry; rfl
  | streamOpen => left; apply Exists.intro; apply Exists.intro; show execStreamOpen _ _ _ _ = _; delta execStreamOpen State.descRow; rfl
  | streamClose => left; apply Exists.intro; apply Exists.intro; show execStreamClose _ _ _ _ = _; delta execStreamClose State.descRow; rfl
  | streamData => left; apply Exists.intro; apply Exists.intro; show execStreamData _ _ _ _ = _; delta execStreamData State.descRow; rfl
  | foreignDeclare => left; apply Exists.intro; apply Exists.intro; show execForeignDeclare _ _ _ _ = _; delta execForeignDeclare State.descRow; rfl
  | draftComplete => left; apply Exists.intro; apply Exists.intro; show execDraftComplete _ _ _ = _; delta execDraftComplete; rfl
  | draftTimeout => left; apply Exists.intro; apply Exists.intro; show execDraftTimeout _ _ = _; delta execDraftTimeout; rfl
  | streamRelease => left; apply Exists.intro; apply Exists.intro; show execStreamRelease _ _ _ = _; delta execStreamRelease; rfl
  | sporadicAcceptance => left; apply Exists.intro; apply Exists.intro; show execSporadicAcceptance _ _ _ = _; delta execSporadicAcceptance; rfl
  | valueLineReadStart => left; apply Exists.intro; apply Exists.intro; show execValueLineReadStart _ _ _ = _; delta execValueLineReadStart; rfl
  | valueLineReadComplete => left; apply Exists.intro; apply Exists.intro; show execValueLineReadComplete _ _ _ _ _ _ = _; delta execValueLineReadComplete; rfl
  | valueLineReadTimeout => left; apply Exists.intro; apply Exists.intro; show execValueLineReadTimeout _ _ _ = _; delta execValueLineReadTimeout; rfl
  | releaseDeadline => left; apply Exists.intro; apply Exists.intro; show execReleaseDeadline _ _ _ = _; delta execReleaseDeadline; rfl
  | attribution => left; apply Exists.intro; apply Exists.intro; show execAttribution _ _ _ _ _ = _; delta execAttribution; rfl
  | quarantineRequestLapse => left; apply Exists.intro; apply Exists.intro; show execQuarantineRequestLapse _ _ _ = _; delta execQuarantineRequestLapse; rfl
  | quarantineRestart => left; apply Exists.intro; apply Exists.intro; show execQuarantineRestart _ _ _ = _; delta execQuarantineRestart; rfl
  | shortEvaluation => left; apply Exists.intro; apply Exists.intro; show execShortEvaluation _ _ _ _ _ = _; delta execShortEvaluation; rfl
  | trendIntervalEnd => left; apply Exists.intro; apply Exists.intro; show execTrendIntervalEnd _ _ _ = _; delta execTrendIntervalEnd; rfl
  | baseline => left; apply Exists.intro; apply Exists.intro; show execBaseline _ _ _ = _; delta execBaseline; rfl
  | lineCapture => left; apply Exists.intro; apply Exists.intro; show execLineCapture _ _ _ _ = _; delta execLineCapture State.descRow; rfl
  | lineCaptureTrigger => left; apply Exists.intro; apply Exists.intro; show execLineCaptureTrigger _ _ _ _ = _; delta execLineCaptureTrigger; rfl
  | lineCaptureTimeout => left; apply Exists.intro; apply Exists.intro; show execLineCaptureTimeout _ _ _ = _; delta execLineCaptureTimeout; rfl
  | loopMode => left; apply Exists.intro; apply Exists.intro; show execLoopMode _ _ _ _ = _; delta execLoopMode State.descRow; rfl
  | loopParam => left; apply Exists.intro; apply Exists.intro; show execLoopParam _ _ _ _ = _; delta execLoopParam State.descRow; rfl
  | laneFailure => left; apply Exists.intro; apply Exists.intro; show execLaneFailure _ _ _ = _; delta execLaneFailure; rfl
  | limiterOpen => left; apply Exists.intro; apply Exists.intro; show execLimiterOpen _ _ _ = _; delta execLimiterOpen; rfl
  | limiterTest => left; apply Exists.intro; apply Exists.intro; show execLimiterTest _ _ _ _ = _; delta execLimiterTest; rfl
  | outputCommandArrival => left; apply Exists.intro; apply Exists.intro; show execOutputCommandArrival _ _ _ = _; delta execOutputCommandArrival; rfl
  | complianceChange => left; apply Exists.intro; apply Exists.intro; show execComplianceChange _ _ _ _ = _; delta execComplianceChange; rfl
  | outputMiswiring => left; apply Exists.intro; apply Exists.intro; show execOutputMiswiring _ _ _ _ _ _ = _; delta execOutputMiswiring; rfl
  | outputWatchdog => left; apply Exists.intro; apply Exists.intro; show execOutputWatchdog _ _ _ = _; delta execOutputWatchdog; rfl
  | loClear => left; apply Exists.intro; apply Exists.intro; show execLoClear _ _ _ = _; delta execLoClear; rfl
  | loLock => left; apply Exists.intro; apply Exists.intro; show execLoLock _ _ _ = _; delta execLoLock; rfl
  | feedMeasurement => left; apply Exists.intro; apply Exists.intro; show execFeedMeasurement _ _ _ _ _ _ = _; delta execFeedMeasurement; rfl
  | feedSupervisionTick => left; apply Exists.intro; apply Exists.intro; show execFeedSupervisionTick _ _ _ _ _ _ _ _ = _; delta execFeedSupervisionTick; rfl
  | feedSupplyQualified => left; apply Exists.intro; apply Exists.intro; show execFeedSupplyQualified _ _ _ = _; delta execFeedSupplyQualified State.feedRow; rfl
  | feedQualifyComplete => left; apply Exists.intro; apply Exists.intro; show execFeedQualifyComplete _ _ _ = _; delta execFeedQualifyComplete State.feedRow; rfl
  | feedStartTimeout => left; apply Exists.intro; apply Exists.intro; show execFeedStartTimeout _ _ _ = _; delta execFeedStartTimeout State.feedRow; rfl
  | feedFastTrip => left; apply Exists.intro; apply Exists.intro; show execFeedFastTrip _ _ _ = _; delta execFeedFastTrip State.feedRow; rfl
  | feedGateFail => left; apply Exists.intro; apply Exists.intro; show execFeedGateFail _ _ _ = _; delta execFeedGateFail State.feedRow; rfl
  | feedQpShort => left; apply Exists.intro; apply Exists.intro; show execFeedQpShort _ _ _ = _; delta execFeedQpShort State.feedRow; rfl
  | feedSupplyLoss => left; apply Exists.intro; apply Exists.intro; show execFeedSupplyLoss _ _ _ = _; delta execFeedSupplyLoss State.feedRow; rfl
  | feedOvervolt => left; apply Exists.intro; apply Exists.intro; show execFeedOvervolt _ _ _ = _; delta execFeedOvervolt State.feedRow; rfl
  | feedCoolingEnd => left; apply Exists.intro; apply Exists.intro; show execFeedCoolingEnd _ _ _ = _; delta execFeedCoolingEnd State.feedRow; rfl
  | feedRetryClear => left; apply Exists.intro; apply Exists.intro; show execFeedRetryClear _ _ _ = _; delta execFeedRetryClear State.feedRow; rfl
  | feedCycleEnd => left; apply Exists.intro; apply Exists.intro; show execFeedCycleEnd _ _ _ = _; delta execFeedCycleEnd State.feedRow; rfl
  | oringReverse => left; apply Exists.intro; apply Exists.intro; show execOringReverse _ _ _ _ = _; delta execOringReverse; rfl
  | feedCmdOn => left; apply Exists.intro; apply Exists.intro; show execFeedCmdOn _ _ _ _ = _; delta execFeedCmdOn State.descRow; rfl
  | feedCmdOff => left; apply Exists.intro; apply Exists.intro; show execFeedCmdOff _ _ _ _ = _; delta execFeedCmdOff State.descRow; rfl
  | feedCmdCycle => left; apply Exists.intro; apply Exists.intro; show execFeedCmdCycle _ _ _ _ _ = _; delta execFeedCmdCycle State.descRow; rfl
  | feedCmdQuarantine => left; apply Exists.intro; apply Exists.intro; show execFeedCmdQuarantine _ _ _ _ = _; delta execFeedCmdQuarantine State.descRow; rfl
  | feedCmdClear => left; apply Exists.intro; apply Exists.intro; show execFeedCmdClear _ _ _ _ = _; delta execFeedCmdClear State.descRow; rfl
  | fdCmdOn => left; apply Exists.intro; apply Exists.intro; show execFdCmdOn _ _ _ _ = _; delta execFdCmdOn; rfl
  | fdCmdOff => left; apply Exists.intro; apply Exists.intro; show execFdCmdOff _ _ _ _ = _; delta execFdCmdOff; rfl
  | fdCmdClear => left; apply Exists.intro; apply Exists.intro; show execFdCmdClear _ _ _ _ = _; delta execFdCmdClear; rfl
  | fdLock => left; apply Exists.intro; apply Exists.intro; show execFdLock _ _ _ = _; delta execFdLock; rfl
  | fieldCommitArrival => left; apply Exists.intro; apply Exists.intro; show execFieldCommitArrival _ _ = _; delta execFieldCommitArrival; rfl
  | feedEnergyLoRead => left; apply Exists.intro; apply Exists.intro; show execFeedEnergyLoRead _ _ _ _ = _; delta execFeedEnergyLoRead; rfl
  | summaryPoll => left; apply Exists.intro; apply Exists.intro; show execSummaryPoll _ _ _ = _; delta execSummaryPoll; rfl
  | summaryReadComplete => left; apply Exists.intro; apply Exists.intro; show execSummaryReadComplete _ _ _ _ _ = _; delta execSummaryReadComplete; rfl
  | dsProdReadComplete => left; apply Exists.intro; apply Exists.intro; show execDsProdReadComplete _ _ _ _ _ = _; delta execDsProdReadComplete; rfl
  | skConsReadComplete => left; apply Exists.intro; apply Exists.intro; show execSkConsReadComplete _ _ _ _ _ = _; delta execSkConsReadComplete; rfl
  | descriptorFetched => left; apply Exists.intro; apply Exists.intro; show execDescriptorFetched _ _ _ _ _ = _; delta execDescriptorFetched; rfl
  | payloadReadComplete => left; apply Exists.intro; apply Exists.intro; show execPayloadReadComplete _ _ _ _ _ = _; delta execPayloadReadComplete; rfl
  | readTimeout => left; apply Exists.intro; apply Exists.intro; show execReadTimeout _ _ _ _ = _; delta execReadTimeout; rfl
  | readError => left; apply Exists.intro; apply Exists.intro; show execReadError _ _ _ _ = _; delta execReadError; rfl
  | fence => left; apply Exists.intro; apply Exists.intro; show execFence _ _ _ _ _ = _; delta execFence State.descRow; rfl
  | skeinNotifyCoalesce => left; apply Exists.intro; apply Exists.intro; show execSkeinNotifyCoalesce _ _ _ _ = _; delta execSkeinNotifyCoalesce; rfl
  | linkDown => left; apply Exists.intro; apply Exists.intro; show execLinkDown _ _ _ = _; delta execLinkDown; rfl
  | busMasterDisable => left; apply Exists.intro; apply Exists.intro; show execBusMasterDisable _ _ _ = _; delta execBusMasterDisable; rfl
  | functionLevelReset => left; apply Exists.intro; apply Exists.intro; show execFunctionLevelReset _ _ _ = _; delta execFunctionLevelReset; rfl
  | perstAssert => left; apply Exists.intro; apply Exists.intro; show execPerstAssert _ _ _ = _; delta execPerstAssert; rfl
  | portEnWrite => left; apply Exists.intro; apply Exists.intro; show execPortEnWrite _ _ _ = _; delta execPortEnWrite; rfl
  | ringEnable => left; apply Exists.intro; apply Exists.intro; show execRingEnable _ _ _ = _; delta execRingEnable; rfl
  | ringDisable => left; apply Exists.intro; apply Exists.intro; show execRingDisable _ _ _ = _; delta execRingDisable; rfl
  | plySwitch => left; apply Exists.intro; apply Exists.intro; show execPlySwitch _ _ _ _ = _; delta execPlySwitch State.descRow; rfl
  | plyDemote => left; apply Exists.intro; apply Exists.intro; show execPlyDemote _ _ _ _ = _; delta execPlyDemote State.descRow; rfl
  | plyReinstate => left; apply Exists.intro; apply Exists.intro; show execPlyReinstate _ _ _ _ = _; delta execPlyReinstate State.descRow; rfl
  | plyForce => left; apply Exists.intro; apply Exists.intro; show execPlyForce _ _ _ _ = _; delta execPlyForce State.descRow; rfl
  | channelCmdRecover => left; apply Exists.intro; apply Exists.intro; show execChannelCmdRecover _ _ _ _ = _; delta execChannelCmdRecover State.descRow; rfl
  | channelCmdRelease => left; apply Exists.intro; apply Exists.intro; show execChannelCmdRelease _ _ _ _ = _; delta execChannelCmdRelease State.descRow; rfl
  | keyLoad => left; apply Exists.intro; apply Exists.intro; show execKeyLoad _ _ _ _ = _; delta execKeyLoad State.descRow; rfl
  | keyLoadComplete => left; apply Exists.intro; apply Exists.intro; show execKeyLoadComplete _ _ = _; delta execKeyLoadComplete; rfl
  | candidacy => left; apply Exists.intro; apply Exists.intro; show execCandidacy _ _ _ = _; delta execCandidacy; rfl
  | accept => left; apply Exists.intro; apply Exists.intro; show execAccept _ _ _ = _; delta execAccept; rfl
  | electionWindowEnd => left; apply Exists.intro; apply Exists.intro; show execElectionWindowEnd _ _ = _; delta execElectionWindowEnd; rfl
  | handoverGo => left; apply Exists.intro; apply Exists.intro; show execHandoverGo _ _ _ = _; delta execHandoverGo; rfl
  | handoverTimeout => left; apply Exists.intro; apply Exists.intro; show execHandoverTimeout _ _ = _; delta execHandoverTimeout; rfl
  | generationLapse => left; apply Exists.intro; apply Exists.intro; show execGenerationLapse _ _ = _; delta execGenerationLapse; rfl
  | whDoorbell => left; apply Exists.intro; apply Exists.intro; show execWhDoorbell _ _ _ = _; delta execWhDoorbell; rfl
  | whClaim => left; apply Exists.intro; apply Exists.intro; show execWhClaim _ _ _ _ = _; delta execWhClaim; rfl
  | whComplete => left; apply Exists.intro; apply Exists.intro; show execWhComplete _ _ _ = _; delta execWhComplete; rfl
  | whHold => left; apply Exists.intro; apply Exists.intro; show execWhHold _ _ _ = _; delta execWhHold; rfl
  | stackAgeExpiry => left; apply Exists.intro; apply Exists.intro; show execStackAgeExpiry _ _ _ = _; delta execStackAgeExpiry; rfl
  | registerWrite => left; apply Exists.intro; apply Exists.intro; show execRegisterWrite _ _ _ _ = _; delta execRegisterWrite; rfl
  | dvCommit => left; apply Exists.intro; apply Exists.intro; show execDvCommit _ _ _ = _; delta execDvCommit; rfl
  | dvCommitNow => left; apply Exists.intro; apply Exists.intro; show execDvCommitNow _ _ _ = _; delta execDvCommitNow; rfl
  | commitAcceptance => left; apply Exists.intro; apply Exists.intro; show execCommitAcceptance _ _ = _; delta execCommitAcceptance; rfl
  | reanalysisTimeout => left; apply Exists.intro; apply Exists.intro; show execReanalysisTimeout _ _ = _; delta execReanalysisTimeout; rfl
  | dvLock => left; apply Exists.intro; apply Exists.intro; show execDvLock _ _ _ = _; delta execDvLock; rfl
  | plLock => left; apply Exists.intro; apply Exists.intro; show execPlLock _ _ _ = _; delta execPlLock; rfl
  | ksLock => left; apply Exists.intro; apply Exists.intro; show execKsLock _ _ _ _ = _; delta execKsLock; rfl
  | fieldWriteAck => left; apply Exists.intro; apply Exists.intro; show execFieldWriteAck _ _ = _; delta execFieldWriteAck; rfl
  | ctClearGo => left; apply Exists.intro; apply Exists.intro; show execCtClearGo _ _ _ = _; delta execCtClearGo; rfl
  | ctClearAll => left; apply Exists.intro; apply Exists.intro; show execCtClearAll _ _ _ = _; delta execCtClearAll; rfl
  | ctSnapNow => left; apply Exists.intro; apply Exists.intro; show execCtSnapNow _ _ _ = _; delta execCtSnapNow; rfl
  | ctSnapAtBoundary => left; apply Exists.intro; apply Exists.intro; show execCtSnapAtBoundary _ _ _ = _; delta execCtSnapAtBoundary; rfl
  | counterLoRead => left; apply Exists.intro; apply Exists.intro; show execCounterLoRead _ _ _ _ = _; delta execCounterLoRead; rfl
  | holdingLoRead => left; apply Exists.intro; apply Exists.intro; show execHoldingLoRead _ _ _ _ = _; delta execHoldingLoRead; rfl
  | ctSnapTimeLoRead => left; apply Exists.intro; apply Exists.intro; show execCtSnapTimeLoRead _ _ _ = _; delta execCtSnapTimeLoRead; rfl
  | dvCmdRun => left; apply Exists.intro; apply Exists.intro; show execDvCmdRun _ _ _ = _; delta execDvCmdRun; rfl
  | sliverFlush => left; apply Exists.intro; apply Exists.intro; show execSliverFlush _ _ _ _ = _; delta execSliverFlush; rfl
  | sliverFlushEffect => left; apply Exists.intro; apply Exists.intro; show execSliverFlushEffect _ _ _ = _; delta execSliverFlushEffect; rfl
  | scrub => left; apply Exists.intro; apply Exists.intro; show execScrub _ _ _ = _; delta execScrub; rfl
  | heartCell => left; apply Exists.intro; apply Exists.intro; show execHeartCell _ _ _ _ _ _ _ = _; delta execHeartCell; rfl
  | agreeCell => left; apply Exists.intro; apply Exists.intro; show execAgreeCell _ _ _ _ _ = _; delta execAgreeCell; rfl
  | mgmtCell => left; apply Exists.intro; apply Exists.intro; show execMgmtCell _ _ _ _ _ = _; delta execMgmtCell; rfl
  | relayCell => left; apply Exists.intro; apply Exists.intro; show execRelayCell _ _ _ _ _ _ = _; delta execRelayCell; rfl
  | trainCell => left; apply Exists.intro; apply Exists.intro; show execTrainCell _ _ _ _ = _; delta execTrainCell; rfl
  | wilistTrainingComplete => left; apply Exists.intro; apply Exists.intro; show execWilistTrainingComplete _ _ _ = _; delta execWilistTrainingComplete; rfl
  | wilistCellTimeout => left; apply Exists.intro; apply Exists.intro; show execWilistCellTimeout _ _ _ = _; delta execWilistCellTimeout; rfl
  | wilistLinkFailed => left; apply Exists.intro; apply Exists.intro; show execWilistLinkFailed _ _ _ = _; delta execWilistLinkFailed; rfl
  | retrain => left; apply Exists.intro; apply Exists.intro; show execRetrain _ _ _ _ = _; delta execRetrain; rfl
  | wilistSlotStart => left; apply Exists.intro; apply Exists.intro; show execWilistSlotStart _ _ _ = _; delta execWilistSlotStart; rfl
  | csPeerdbGo => left; apply Exists.intro; apply Exists.intro; show execCsPeerdbGo _ _ _ = _; delta execCsPeerdbGo; rfl
  | joinSyncTimeout => left; apply Exists.intro; apply Exists.intro; show execJoinSyncTimeout _ _ = _; delta execJoinSyncTimeout; rfl
  | bridgeTimeout => left; apply Exists.intro; apply Exists.intro; show execBridgeTimeout _ _ = _; delta execBridgeTimeout; rfl
  | fieldResetHoldEnd => left; apply Exists.intro; apply Exists.intro; show execFieldResetHoldEnd _ _ = _; delta execFieldResetHoldEnd; rfl
  | fieldResetEnd => left; apply Exists.intro; apply Exists.intro; show execFieldResetEnd _ _ = _; delta execFieldResetEnd; rfl
  | fieldResetRestart => left; apply Exists.intro; apply Exists.intro; show execFieldResetRestart _ _ = _; delta execFieldResetRestart; rfl
  | spindleProgressTimeout => left; apply Exists.intro; apply Exists.intro; show execSpindleProgressTimeout _ _ _ = _; delta execSpindleProgressTimeout; rfl
  | spindleResetComplete => left; apply Exists.intro; apply Exists.intro; show execSpindleResetComplete _ _ _ = _; delta execSpindleResetComplete; rfl
  | rowCopyComplete => left; apply Exists.intro; apply Exists.intro; show execRowCopyComplete _ _ = _; delta execRowCopyComplete; rfl
  | rpDoffGo => left; apply Exists.intro; apply Exists.intro; show execRpDoffGo _ _ _ = _; delta execRpDoffGo; rfl
  | doffPrepared => left; apply Exists.intro; apply Exists.intro; show execDoffPrepared _ _ = _; delta execDoffPrepared; rfl
  | doffSwitch => left; apply Exists.intro; apply Exists.intro; show execDoffSwitch _ _ = _; delta execDoffSwitch; rfl
  | doffAbandon => left; apply Exists.intro; apply Exists.intro; show execDoffAbandon _ _ = _; delta execDoffAbandon; rfl
  | agingCheck => left; apply Exists.intro; apply Exists.intro; show execAgingCheck _ _ _ = _; delta execAgingCheck; rfl
  | rpCmdBurn => left; apply Exists.intro; apply Exists.intro; show execRpCmdBurn _ _ _ = _; delta execRpCmdBurn; rfl
  | fuseDataWordWritten => left; apply Exists.intro; apply Exists.intro; show execFuseDataWordWritten _ _ = _; delta execFuseDataWordWritten; rfl
  | fuseBurnComplete => left; apply Exists.intro; apply Exists.intro; show execFuseBurnComplete _ _ = _; delta execFuseBurnComplete; rfl
  | ksWriteTaken => left; apply Exists.intro; apply Exists.intro; show execKsWriteTaken _ _ = _; delta execKsWriteTaken; rfl
  | ksFrLoRead => left; apply Exists.intro; apply Exists.intro; show execKsFrLoRead _ _ _ = _; delta execKsFrLoRead; rfl
  | hankOutput => left; apply Exists.intro; apply Exists.intro; show execHankOutput _ _ = _; delta execHankOutput; rfl
  | traceBufferFreeze => left; apply Exists.intro; apply Exists.intro; show execTraceBufferFreeze _ _ = _; delta execTraceBufferFreeze; rfl
  | restart => left; apply Exists.intro; apply Exists.intro; show execRestart _ _ _ = _; delta execRestart; rfl
  | tapIdcode => cases h
  | tapSamplePreload => cases h
  | tapBypass => cases h
  | trstAssert => cases h
  | supplyLoss => cases h
  | resetAssert => cases h
  | leaveReset => cases h
  | selfTestComplete => left; apply Exists.intro; apply Exists.intro; show execSelfTestComplete _ _ _ = _; delta execSelfTestComplete; rfl
  | imageMagicRead => left; apply Exists.intro; apply Exists.intro; show execImageMagicRead _ _ _ = _; delta execImageMagicRead; rfl
  | imageReadComplete => left; apply Exists.intro; apply Exists.intro; show execImageReadComplete _ _ _ = _; delta execImageReadComplete; rfl
  | loadingEnd => left; apply Exists.intro; apply Exists.intro; show execLoadingEnd _ _ = _; delta execLoadingEnd; rfl
  | spindleSelfCheckFailed => left; apply Exists.intro; apply Exists.intro; show execSpindleSelfCheckFailed _ _ _ = _; delta execSpindleSelfCheckFailed; rfl
  | busMasterEnable => left; apply Exists.intro; apply Exists.intro; show execBusMasterEnable _ _ _ = _; delta execBusMasterEnable; rfl
  | supplyPresent => cases h
  | vloopBelow3V => left; apply Exists.intro; apply Exists.intro; show execVloopBelow3V _ _ _ = _; delta execVloopBelow3V; rfl

/-- While the device runs, a command of either shape answers at the end of an instant; otherwise it changes nothing. -/
theorem RowForm.cases {c : Instr} {s : State} (h : RowForm c s) :
    (s.up = true ∧ ∃ u : State, exec c s = .next u.flush) ∨ (s.up = false ∧ exec c s = .next s) := by
  cases hu : s.up
  · rcases h with ⟨dt, f, h⟩ | ⟨t, f, h⟩
    · exact .inr ⟨rfl, h.trans (State.at_down hu)⟩
    · exact .inr ⟨rfl, h.trans (State.sched_down hu)⟩
  · rcases h with ⟨dt, f, h⟩ | ⟨t, f, h⟩
    · exact .inl ⟨rfl, _, h.trans (State.at_up hu)⟩
    · exact .inl ⟨rfl, _, h.trans (State.sched_up hu)⟩

end Sys2Proof.Machine
end

