-- ==== Sys2Proof/Tests/Slice0.lean ====
section
/-!
SUPPORT. The model's own tests: ill-formed commands, worked examples of the spec, for every statement that has hypotheses a
state that meets them, and a few single steps.
-/

namespace Sys2Proof.Tests

open Sys2Proof.Machine

-- One theorem after the other: as one text, the kernel checks of all of them at once ask for more threads than the check allows.
set_option Elab.async false
-- A witness is one decidable conjunction of many parts.
set_option synthInstance.maxSize 1024

/-! ## Ill-formed commands -/

def okFrame : Frame := ⟨0x105, false, false, true, true, false, 8, List.replicate 8 0⟩
def okRd : Rd := ⟨.a, true⟩
def okWr : Wr := ⟨.a, 15, 0⟩
def okDesc : Desc := ⟨.a, 0, 0, true, 0x77, false⟩
def okSend : SendBody := ⟨0x710, false, false, true, 9, 8, true, false, 0, List.replicate 8 0⟩
def okData : DataBody := ⟨20, 8, false, 0, List.replicate 8 0⟩

theorem test_wf_frame_ok : (Instr.frameReceived 0 0 okFrame {}).wellFormed = true := by decide

theorem test_wf_frame_length : (Instr.frameReceived 0 0 { okFrame with data := [0] } {}).wellFormed = false := by decide

theorem test_wf_frame_identifier : (Instr.frameReceived 0 0 { okFrame with id := 0x800 } {}).wellFormed = false := by decide

theorem test_wf_frame_remote_fd :
    (Instr.frameReceived 0 0 { okFrame with rtr := true, data := [] } {}).wellFormed = false := by decide

theorem test_wf_frame_brs_classic : (Instr.frameReceived 0 0 { okFrame with fdf := false } {}).wellFormed = false := by decide

theorem test_wf_error_pairs :
    (Instr.errorFlag 0 0 ⟨.ack, none, false, 0, false, []⟩).wellFormed = false := by decide

theorem test_wf_samples : (Instr.lineCaptureTrigger 0 0 []).wellFormed = false := by decide

theorem test_wf_offset_aligned : (Instr.registerWrite 0 0x1002 okWr).wellFormed = false := by decide

theorem test_wf_offset_window : (Instr.registerWrite 0 0x200000 okWr).wellFormed = false := by decide

theorem test_wf_counter : (Instr.counterLoRead 0 8192 okRd).wellFormed = false := by decide

theorem test_wf_holding : (Instr.holdingLoRead 0 8192 okRd).wellFormed = false := by decide

theorem test_wf_send : (Instr.send 0 okDesc { okSend with data := List.replicate 65 0 }).wellFormed = false := by decide

theorem test_wf_stream_data :
    (Instr.streamData 0 okDesc { okData with data := List.replicate 65 0 }).wellFormed = false := by decide

theorem test_wf_descriptor : (Instr.descriptorFetched 0 .a 0 ⟨0, []⟩).wellFormed = false := by decide

theorem test_wf_payload : (Instr.payloadReadComplete 0 .a 0 (List.replicate 65 0)).wellFormed = false := by decide

theorem test_wf_value_line : (Instr.valueLineReadComplete 0 0 0 true []).wellFormed = false := by decide

/-- The table gives no row any bits: no word spells a command. -/
theorem test_no_row_has_bits : decodeTableWord 32 0 = none ∧ decodeTableWord 0 0 = none := by decide

/-! ## Worked examples of the spec -/

/-- "Table 3.3 Register values for CH0 at P0", which are also the reset values of the timing registers. -/
theorem test_timing_registers : State.reset.live 0x38004 = 0x1F3EFC01 ∧ State.reset.live 0x38008 = 0x00026781 := by
  decide +kernel

/-- "the bucket is 0x185 and the index is 0x614", "The bucket is ... 0x0D9A, and the index is 0x3668" (chapter 4). -/
theorem test_buckets :
    emBucket 0 false 0x185 * 4 = 0x614 ∧ emBucket 3 true 0x0CF00A21 = 0x0D9A ∧ 0x0D9A * 4 = 0x3668 := by decide +kernel

/-- CH0 at P0 with the foreign declarations of Table 5.11. -/
def thruster : State :=
  let fd := fun (n : Nat) (id : BitVec 29) (spor : Bool) (len : BitVec 7) (T J : Word) =>
    let b : ForeignBody := ⟨⟨n % 8192, by omega⟩, false, id, false, false, 0, 2, spor, len, 0, 15, T, J, 0⟩
    (n, ({ cfg := b, key := b.key, rNs := 0, overdrafts := 0, toLive := 0, leaving := false, tat := none } : Foreign))
  { State.reset with
    regs := { live := [(0x38000, 0x131), (0x51004, 0x08001388), (0x51008, 0xE0000000), (0x5100C, 0x202)] }
    dr := { foreign := [fd 0 0x185 false 8 1000 50, fd 1 0x186 false 8 1000 50, fd 2 0x2A1 false 16 10000 200,
                        fd 3 0x2A2 false 16 10000 200, fd 4 0x600 true 8 50000 0] } }
/-- Stream 20 of Table 5.11. -/
def stream20 : OpenBody := ⟨20, 0, 2, 0, 1, false, .a, 0, 0x105, false, 8, 0, 1, 450, 300, 0, 0, 0⟩

theorem test_frame_times : frameTime thruster.live 0 2 false 8 = 125000000 ∧ frameTime thruster.live 0 2 false 16 = 165000000 := by
  decide +kernel

/-- "R = 1 + 165 + 125 = 291 µs", reserve 1; with a deadline below it, reason 0x05. -/
theorem test_draft_of_stream_20 :
    (thruster.judgeStream stream20).reason = 0 ∧ (thruster.judgeStream stream20).r = 291000000 ∧
    (thruster.judgeStream stream20).reserve = 1 ∧ (thruster.judgeStream { stream20 with deadline := 290 }).reason = 5 := by
  decide +kernel

/-- "at 500 kbit/s" with E = 1 in W = 5,000, "Stream 20 would be refused with reason 0x05". -/
theorem test_draft_under_the_error_model :
    (({ thruster with
        regs := { thruster.regs with live := Tbl.put thruster.regs.live 0x51000 0 0x00138801 } } : State).judgeStream stream20).reason = 5 := by
  decide +kernel
/-! ## States that meet the hypotheses of the statements

One theorem for each statement that has hypotheses; its parts follow the clauses of the statement, at the boundary values of
their ranges. -/

/-- A device in SET-UP, owned by port A. -/
def setUp0 : State := { State.reset with dev := { st := .setUp }, ow := { owner := some .a } }
/-- A device in RUN, owned by port A. -/
def run0 : State := { setUp0 with dev := { st := .run } }
/-- A device in SAFE. -/
def safe0 : State := { setUp0 with dev := { st := .safe } }
/-- A write by port A. -/
def wrA (d : Word) : Wr := ⟨.a, 15, d⟩
/-- A ring at work. -/
def ring1 : Ring := { en := true, st := .running }
/-- A port at work with ring 0 of each kind. -/
def port1 : PortSt := { portEn := true, busMaster := true, ds := [(0, ring1)], sk := [(0, ring1)] }
/-- Port A replaced. -/
def withPort (s : State) (q : PortSt) : State := { s with rep := { s.rep with ports := [(0, q)] } }
/-- RUN, port A at work. -/
def run1 : State := withPort run0 port1
/-- A live register replaced. -/
def withLive (s : State) (off : Nat) (v : Word) : State :=
  { s with regs := { s.regs with live := Tbl.put s.regs.live off (resetAt off) v } }
/-- A channel replaced. -/
def withCh (s : State) (ch : Nat) (c : Channel) : State := { s with chs := [(ch, c)] }

theorem witness_StepRunsTheFrontCommand :
    ({ run0 with pending := [.holdoverEntry 5] } : State).pending = .holdoverEntry 5 :: [] ∧ State.reset.pending = [] := by
  decide

theorem witness_NoReportOutlivesItsInstant :
    let s : State := { run0 with pending := [.turnBoundary] }
    s.settled ∧ ∃ t, step s = .next t := ⟨by decide, _, rfl⟩

theorem witness_OffAndResetAreInert :
    ({ State.reset with dev := { st := .off } } : State).up = false ∧
    ({ State.reset with dev := { st := .reset } } : State).up = false ∧ (Instr.turnBoundary).actsInReset = false := by decide

theorem witness_ReadsOfLowWordsLatchHighWords :
    run0.ready ∧ (⟨.b, true⟩ : Rd).full = true ∧ (0 : Nat) < 7680 ∧ 7679 < 7680 := by decide

theorem witness_LoadsOfTimeAndTurn :
    (setUp0.ready ∧ setUp0.passes 0x10030 (wrA 3) ∧ setUp0.dev.st = .setUp ∧ bitOf (wrA 3).data 0 = true ∧
      bitOf (wrA 3).data 1 = true ∧ setUp0.lenUs ≠ 0) ∧
    (run0.ready ∧ run0.passes 0x10030 (wrA 3) ∧ run0.dev.st = .run) := by decide +kernel

theorem witness_ReferenceEdgesInRun :
    let pps : State := { run0 with tm := { srcActive := 1 } }
    run0.ready ∧ run0.dev.st = .run ∧ run0.tm.srcActive.toNat ≠ 1 ∧ pps.ready ∧ pps.dev.st = .run ∧ pps.tm.srcActive.toNat = 1 ∧
    (nearestMultiple 1000000000 (pps.now + BitVec.ofNat 64 10000) - (pps.now + BitVec.ofNat 64 10000)).toInt.natAbs ≤
      pps.fld 0x10010 16 8 * 1000 ∧ pps.tm.loadClk ≠ some (pps.clock + 10000) ∧
    ({ pps with tm := { srcActive := 1, loadClk := some 5 } } : State).tm.loadClk = some (pps.clock + 5) ∧
    pps.fld 0x10010 16 8 * 1000 <
      (nearestMultiple 1000000000 (pps.now + BitVec.ofNat 64 10001) - (pps.now + BitVec.ofNat 64 10001)).toInt.natAbs ∧
    ({ pps with tm := { srcActive := 1, rejRun := 2 } } : State).tm.rejRun = 2 ∧
    ({ run0 with tm := { srcActive := 2 } } : State).tm.srcActive.toNat = 2 := by decide +kernel

theorem witness_HoldoverAlarmAndPulseEnd :
    let pps : State := { run0 with tm := { srcActive := 1 } }
    let casc : State := { run0 with tm := { srcActive := 3, holdover := true, holdTurns := 64 } }
    (pps.ready ∧ pps.refPeriod = some 1000000000 ∧ pps.tm.holdover = false ∧
      2 * 1000000000 ≤ pps.clock + 2000000000 - pps.tm.acceptedAt) ∧
    (casc.ready ∧ casc.tm.srcActive = 3 ∧ casc.tm.plyFollow = false ∧ casc.tm.holdover = true ∧ 64 ≤ casc.tm.holdTurns ∧
      casc.tm.cascadeAlarm = false) ∧
    run0.outWidthUs * 1000 ≤ ((run0.elapse (run0.outWidthUs * 1000)).now - run0.tm.origin).toNat ∧
    ((run0.elapse (run0.outWidthUs * 1000 - 1)).now - run0.tm.origin).toNat < run0.outWidthUs * 1000 := by decide +kernel

theorem witness_BoundaryAdvancesTheTurn :
    run0.ready ∧ run0.tm.cellTurn = none ∧ ({ run0 with tm := { turnLoad := true } } : State).tm.turnLoad = true := by decide

theorem witness_DiscardedRegisterWrites_checked :
    let c := fun (off : Nat) => Instr.registerWrite 0 off (wrA 1)
    let load : State := { setUp0 with dev := { st := .setUp, phase := 1 } }
    let frz : State := { run0 with regs := { phase := .checking, pend := 0x10000 } }
    (run0.ready ∧ (c 0x10004).regWrite = some (0, 0x10004, wrA 1) ∧ (⟨.a, 7, 1⟩ : Wr).be ≠ 15) ∧
    (mapped 0x1FFFFC = false ∧ mapped 0x10004 = true ∧ portPrivate 0x10004 = false ∧ mapped 0xA8000 = true ∧
      portPrivate 0xA8000 = false ∧ mapped 0x100020 = true ∧ portPrivate 0x100020 = false) ∧
    (load.ready ∧ load.loading = true) ∧ (run0.loading = false ∧ run0.ow.owner ≠ some .b) ∧
    (frz.ready ∧ frz.ow.owner = some .a ∧ frz.frozen 0x10004 = true) := by decide +kernel

theorem witness_DiscardedRegisterWrites_busy :
    let fdb : State := { run0 with fa := { posted := some ⟨1, 0xA8000, 0⟩ } }
    let ksb : State := { run0 with ks := { posted := some (0x100020, 0) } }
    (fdb.ready ∧ fdb.loading = false ∧ fdb.ow.owner = some .a ∧ fdb.frozen 0xA8000 = false ∧ fieldReg 0xA8000 = true ∧
      fdb.fieldBusy = true ∧ fdb.rep.first.contains 0x060 = false) ∧
    (ksb.ready ∧ ksb.frozen 0x100020 = false ∧ ksReg 0x100020 = true ∧ ksb.ks.posted.isSome = true) := by decide +kernel

theorem witness_RegisterWritesGoToTheShadow_addressed :
    let busy : State := { run0 with cr := { cmd := some ⟨true, 1, some 0⟩ } }
    ((∃ d ix, regAt 0x48000 = some (d, ix)) ∧ busy.ready ∧ busy.passes 0x48000 (wrA 1) ∧ tblReg 0x48000 = true ∧
      busy.cr.cmd.isSome = true) ∧
    ((∃ d ix, regAt 0x100020 = some (d, ix)) ∧ run0.passes 0x100020 (wrA 1) ∧ ksReg 0x100020 = true) ∧
    ((∃ d ix, regAt 0xB8014 = some (d, ix)) ∧ (∃ d ix, regAt 0xB801C = some (d, ix)) ∧ run0.passes 0xB8014 (wrA 1) ∧
      run0.passes 0xB801C (wrA 1)) := by
  refine ⟨⟨⟨_, _, rfl⟩, ?_, ?_, ?_, ?_⟩, ⟨⟨_, _, rfl⟩, ?_, ?_⟩, ⟨_, _, rfl⟩, ⟨_, _, rfl⟩, ?_, ?_⟩ <;> decide +kernel

theorem witness_RegisterWritesGoToTheShadow :
    (∃ d ix, regAt 0x10004 = some (d, ix)) ∧ run0.ready ∧ run0.passes 0x10004 (wrA 500) ∧
    ¬(0x2000 ≤ 0x10004 ∧ 0x10004 < 0x3000) ∧ tblReg 0x10004 = false ∧ ¬(0xB8014 ≤ 0x10004 ∧ 0x10004 < 0xB8020) ∧
    ksReg 0x10004 = false ∧
    ((∃ d ix, regAt 0xA8000 = some (d, ix)) ∧ run0.passes 0xA8000 (wrA 1) ∧ fieldReg 0xA8000 = true ∧
      run0.guardMask 0xA8000 = 0) ∧
    (let l : State := { run0 with locks := [(0x1030, 3)] }
     let g := (lockGuards 0x1030 0).headD (0, 0)
     l.ready ∧ l.passes g.1 (wrA 0) ∧ l.guardMask g.1 ≠ 0 ∧ ∃ d ix, regAt g.1 = some (d, ix)) := by
  refine ⟨⟨_, _, rfl⟩, ?_, ?_, ?_, ?_, ?_, ?_, ⟨⟨_, _, rfl⟩, ?_, ?_, ?_⟩, ?_, ?_, ?_, ⟨_, _, rfl⟩⟩ <;> decide +kernel

theorem witness_CommitsStart :
    let busy : State := { setUp0 with regs := { phase := .accepted, pend := 1 } }
    (setUp0.ready ∧ setUp0.passes 0x1008 (wrA 1) ∧ setUp0.passes 0x100C (wrA 1) ∧ setUp0.dev.st ≠ .safe ∧
      setUp0.regs.phase = .idle ∧ (wrA 1).data ≠ 0 ∧ (wrA 0).data = 0 ∧ setUp0.dev.st = .setUp) ∧
    (busy.ready ∧ busy.passes 0x1008 (wrA 1) ∧ busy.passes 0x100C (wrA 1) ∧ busy.regs.phase ≠ .idle) ∧
    (safe0.ready ∧ safe0.passes 0x1008 (wrA 1) ∧ safe0.dev.st = .safe) ∧
    (run0.passes 0x100C (wrA 1) ∧ run0.dev.st ≠ .setUp) := by decide +kernel

theorem witness_ChecksDecideACommit :
    let s : State := { run0 with regs := { phase := .checking, pend := 0x40000, shadow := [(0x51000, 0x00138801)] } }
    s.ready ∧ s.regs.phase = .checking ∧ s.regs.commitNow = false ∧ s.reanalyses = true ∧
    s.fld 0x50000 0 16 * 1000 ≤ s.clock + s.fld 0x50000 0 16 * 1000 - s.regs.reanStart := by decide +kernel

theorem witness_CommitNowAppliesAtAcceptance :
    let s : State := { setUp0 with regs := { phase := .checking, commitNow := true, pend := 0x40000 } }
    s.ready ∧ s.regs.phase = .checking ∧ s.regs.commitNow = true ∧ ((s.elapse 0).checkAll false 33 s.regs.pend).acc ≠ 0 := by
  decide +kernel

theorem witness_LocksAreSet :
    run0.ready ∧ run0.passes 0x1030 (wrA 3) ∧ run0.passes 0xB0034 (wrA 3) ∧ bitOf (wrA 3).data 0 = true ∧
    bitOf (wrA 3).data 1 = true ∧ bitOf (run0.lock 0x1030) 0 = false ∧ (lockGuards 0x1030 0).length ≠ 0 := by decide +kernel

theorem witness_CountersClearAndCopy :
    let snap : State := { run0 with regs := { ctPending := true } }
    (run0.ready ∧ run0.passes 0xD0004 (wrA 0x177) ∧ bitOf (wrA 0x177).data 8 = true ∧ fieldOf (wrA 0x177).data 0 7 < 120 ∧
      bitOf (wrA 0x178).data 8 = true ∧ 120 ≤ fieldOf (wrA 0x178).data 0 7 ∧ bitOf (wrA 0x200).data 8 = false ∧
      bitOf (wrA 0x200).data 9 = true) ∧
    (run0.passes 0xD0000 (wrA 3) ∧ bitOf (wrA 3).data 0 = true ∧ bitOf (wrA 3).data 1 = true ∧ run0.regs.ctPending = false ∧
      snap.ready ∧ snap.passes 0xD0000 (wrA 1) ∧ snap.regs.ctPending = true) := by decide +kernel

theorem witness_FieldWritesAndRunCommand :
    let s : State := { run0 with fa := { posted := some ⟨1, 0xA8000, 1⟩ } }
    (s.ready ∧ s.fa.posted = some ⟨1, 0xA8000, 1⟩ ∧ s.fieldUp = true ∧ lockMask 0xA8000 = 0) ∧
    (setUp0.ready ∧ setUp0.passes 0x1004 (wrA 1) ∧ bitOf (wrA 1).data 0 = true ∧ setUp0.dev.st = .setUp) ∧
    (run0.passes 0x1004 (wrA 1) ∧ run0.dev.st ≠ .setUp) := by decide +kernel
/-- RUN with channel 0 a given channel. -/
def run2 (c : Channel) : State := withCh run0 0 c
/-- A channel that takes part, in mode NORMAL. -/
def chan1 : Channel := { mode := .normal, st := .errorActive }
/-- A bobbin that holds a frame. -/
def bob1 : Bobbin := ⟨okFrame, 125000, false, false, 0, 0, false, .send, 1⟩
/-- An entry of a ready set, for the frame of `bob1`. -/
def rdy1 : Ready := ⟨0, okFrame.key, .send okDesc, 0, false, 0, none⟩
/-- A channel whose own frame, bobbin 0, is on the wire. -/
def chan2 : Channel := { chan1 with wire := .ownFrame, chosen := some 0, ready := [rdy1] }
/-- RUN, with bobbin 0 and a channel 0. -/
def run3 (c : Channel) : State := { run2 c with cr := { bobs := [(0, bob1)] } }

theorem witness_RecoverAndRelease :
    let man : State := withLive (run2 { mode := .normal, st := .boHold }) 0x38014 1
    ((run2 { mode := .normal, st := .boWait }).ready ∧ (run2 { mode := .normal, st := .boWait }).passes (spChBase 0 + 0x20) (wrA 3) ∧
      ((run2 { mode := .normal, st := .boWait }).ch 0).st = .boWait ∧ bitOf (wrA 3).data 0 = true ∧ bitOf (wrA 3).data 1 = true) ∧
    (man.ready ∧ man.passes (spChBase 0 + 0x20) (wrA 1) ∧ (man.ch 0).st = .boHold ∧ man.fld (spChBase 0 + 0x14) 0 2 = 1) ∧
    ((run2 chan1).passes (spChBase 0 + 0x20) (wrA 3) ∧ ((run2 chan1).ch 0).st ≠ .boWait ∧ ((run2 chan1).ch 0).st ≠ .boHold ∧
      ((run2 chan1).ch 0).st ≠ .quarantined) ∧
    ((run2 { chan1 with st := .quarantined }).passes (spChBase 0 + 0x20) (wrA 2) ∧
      ((run2 { chan1 with st := .quarantined }).ch 0).st = .quarantined) ∧
    ((run2 chan1).admits okDesc ∧ (run2 chan1).recovers 0 = false) := by decide +kernel

theorem witness_ChannelStatesGoOn :
    (run2 { chan1 with st := .boHold }).ready ∧ ((run2 { chan1 with st := .boHold }).ch 0).holdLeft = 0 ∧
    (let c : Channel := { chan1 with st := .recovering, recov := 126 }
     c.st = .recovering ∧ c.recov < 127 ∧ ({ c with recov := 127 } : Channel).recov = 127 ∧ c.heldMode = false) ∧
    (let c : Channel := { chan1 with st := .recovering, recov := 127, heldMode := true, pendMode := some .listenOnly }
     c.st = .recovering ∧ c.recov = 127 ∧ c.heldMode = true ∧ c.pendMode = some .listenOnly ∧ c.mode ≠ .off) ∧
    (let c : Channel := { chan1 with st := .integrating, tec := 127, recn := 127 }
     c.st = .integrating ∧ c.tec ≤ 127 ∧ c.recn ≤ 127 ∧ c.heldMode = false ∧
     ({ c with heldMode := true, pendMode := some .listenOnly } : Channel).heldMode = true) ∧
    (let c : Channel := { chan1 with integWait := true }
     c.st ≠ .integrating ∧ c.st ≠ .recovering ∧ c.integWait = true) ∧
    (let c : Channel := { chan1 with pendMode := some .off }
     c.pendMode = some .off ∧ c.heldMode = false ∧ c.mode ≠ .off ∧ c.wire ≠ .ownFrame ∧ c.wire ≠ .otherFrame) ∧
    (let c : Channel := { chan1 with pendMode := some .off, wire := .otherFrame, integWait := true }
     c.pendMode = some .off ∧ c.mode ≠ .off ∧ c.integWait = true) ∧
    (let c : Channel := { pendMode := some .normal }
     c.pendMode = some .normal ∧ c.heldMode = false ∧ c.mode ≠ .normal ∧ c.mode = .off ∧ c.wire ≠ .ownFrame ∧ c.wire ≠ .otherFrame) ∧
    (let c : Channel := { chan1 with st := .boWait, heldMode := true, pendMode := some .listenOnly }
     c.heldMode = true ∧ c.mode ≠ .off) := by decide +kernel

theorem witness_FramesOnTheWire :
    let rx := withLive (run2 { chan1 with wire := .otherFrame, tec := 255 }) (spChBase 0) 0x10
    let lb : Channel := { chan1 with mode := .loopback, chosen := some 0 }
    ((run2 chan1).ready ∧ ((run2 chan1).ch 0).tec ≤ 255 ∧ ((run2 chan1).ch 0).taking = true ∧ chan1.heldMode = false ∧
      chan1.wire ≠ .ownFrame ∧ chan1.wire ≠ .otherFrame ∧ chan1.mode ≠ .loopback) ∧
    (((run2 lb).ch 0).taking = true ∧ (lb.chosen.isSome && lb.maySend) = true ∧ lb.wire ≠ .ownFrame ∧ lb.wire ≠ .otherFrame) ∧
    ((run3 chan2).ready ∧ ((run3 chan2).ch 0).taking = true ∧ ((run3 chan2).ch 0).wire = .ownFrame ∧
      (run3 chan2).inFlight 0 = some (rdy1, okFrame) ∧ rdy1.doomed = false) ∧
    (rx.ready ∧ (rx.ch 0).tec ≤ 255 ∧ (rx.ch 0).taking = true ∧ (rx.ch 0).wire = .otherFrame ∧ (rx.ch 0).mode ≠ .loopback ∧
      okFrame.fdf = true ∧ rx.bit (spChBase 0) 4 = true ∧ (withLive rx (spChBase 0) 0).bit (spChBase 0) 4 = false ∧
      recWords okFrame.data.length ≤ (rx.sliver (2 * rx.spOf 0)).freeWords) ∧
    ({ w := 4094 } : Sliver).freeWords < recWords okFrame.data.length := by decide +kernel

theorem witness_ReadySetIsServedFromItsHead :
    let c : Channel := { chan1 with wire := .gap, ready := [rdy1] }
    ({ c with mode := .loopback } : Channel).maySend = true ∧
    ((run3 c).ready ∧ c.maySend = true ∧ c.wire = .gap ∧ c.chosen = none ∧ c.ready = rdy1 :: [] ∧ rdy1.doomed = false ∧
      (run3 c).bob rdy1.bob = some bob1) ∧
    ({ chan1 with mode := .listenOnly } : Channel).maySend = false ∧
    ({ rdy1 with age := 4 } : Ready).age = 4 ∧ [rdy1, rdy1].Pairwise (fun a b => a.key.toNat ≤ b.key.toNat) := by
  decide +kernel

theorem witness_ErrorsConfineAChannel :
    let e : ErrInfo := ⟨.pex, none, false, 0, false, []⟩
    let b : ErrInfo := ⟨.bitRecessive, none, false, 0, false, []⟩
    let px := withLive (run2 { chan1 with wire := .otherFrame }) (spChBase 0) 0x40
    (run3 chan2).ready ∧ ((run3 chan2).ch 0).taking = true ∧ ((run3 chan2).ch 0).mode ≠ .loopback ∧ chan2.heldMode = false ∧
    (e.cls = .pex ∧ px.ready ∧ (px.ch 0).taking = true ∧ (decide ((px.ch 0).wire = .ownFrame) && (px.inFlight 0).isSome) = false ∧
      px.bit (spChBase 0) 6 = true ∧ (run2 { chan1 with wire := .otherFrame }).bit (spChBase 0) 6 = false) ∧
    b.cls ≠ .pex ∧ (({ chan2 with tec := 248 } : Channel).errored true b).tec = 256 ∧
    (({ chan2 with tec := 247 } : Channel).errored true b).tec = 255 := by decide +kernel

theorem witness_TableCommands :
    let key := fun (s : State) => ((s.setRwi 0x48000 0x185).setRwi 0x48004 0x000C0000)
    let e : EmEntry := ⟨0, false, 0x185, 0, 12, 0⟩
    let full : State := { run0 with cr := { em := [(0x614, e), (0x615, { e with id := 1 }), (0x616, { e with id := 2 }),
                                                   (0x617, { e with id := 3 })] } }
    let busy : State := { run0 with cr := { cmd := some ⟨true, 1, some 0⟩ } }
    (key run0).ready ∧ (key run0).passes 0x4800C (wrA 1) ∧ (key run0).cr.cmd = none ∧ (wrA 1).data = 1 ∧
    ((key run0).passes 0x4800C (wrA 2) ∧ (key run0).passes 0x4800C (wrA 4) ∧ (key run0).passes 0x4800C (wrA 3) ∧
      1 < bitsSet (wrA 3).data 3 ∧ 1 < bitsSet (wrA 3).data 2) ∧
    fieldOf ((key run0).rwi 0x48004) 4 2 ≠ 3 ∧ fieldOf ((run0.setRwi 0x48004 0x30).rwi 0x48004) 4 2 = 3 ∧
    (full.emFind 0 false 0x999 = none ∧ Tbl.look full.cr.em (fieldOf ((full.setRwi 0x48008 0x613).rwi 0x48008) 0 15) = none) ∧
    (key run0).emFind (key run0).emCh (key run0).emIde (key run0).emId = none ∧
    (key run0).emFree (key run0).emCh (key run0).emIde (key run0).emId = some 0x614 ∧
    (key full).emFind (key full).emCh (key full).emIde (key full).emId = some 0x614 ∧
    Tbl.look (key full).cr.em 0x614 = some e ∧
    ((key full).setRwi 0x48000 5).emFind 0 false 0x185 = some 0x614 ∧
    (full.setRwi 0x48008 0x614).rwi 0x48008 = 0x614 ∧
    full.emFree 0 false 0x185 = none ∧
    (busy.ready ∧ busy.passes 0x4800C (wrA 1) ∧ busy.cr.cmd.isSome = true) ∧
    (run0.passes 0x4802C (wrA 1) ∧ run0.cr.cmd = none) := by decide +kernel

/-- A record of a receive sliver. -/
def rec1 : SlvRec := ⟨3, okFrame, 0, false, false, 0, 125000, 0, false, false⟩
/-- RUN with one record in the receive sliver of spindle 0. -/
def run4 : State := { run0 with mm := { slv := [(0, { w := 3, recs := [rec1] })] } }

/-- A receive stream for the frame of `rec1`. -/
def stream12 : Stream :=
  { cfg := { stream20 with stream := 12, kind := 2, source := 0, period := 0, offIa := 0, deadline := 0, stale := 2 }
    key := 0, cNs := 0, rNs := 0, reserve := 0, q := 0, liveTurn := 0, st := .live, toLive := 0 }

theorem witness_CardingDecidesAFrame :
    let rej := withLive (withLive run4 0x40000 0x80000000) 0x40008 0x0022FFFF
    let k := emBucket 0 false 0x105 * 4
    let e : EmEntry := ⟨0, false, 0x105, 0, 12, 0⟩
    let hit : State := { run4 with cr := { em := [(k, e)] } }
    let val : State := { hit with
      cr := { hit.cr with rt := [(12, (BitVec.ofNat 32 (2 ^ 15 + 12), 0))] }, dr := { streams := [(12, stream12)] } }
    let meets := fun (s : State) => decide (s.ready ∧ (s.sliver 0).recs = rec1 :: [] ∧ rec1.poisonHdr = false ∧
      rec1.poisonPay = false ∧ s.olderHeld 0 rec1.ch = false ∧ s.isBeat rec1.ch rec1.frame = false ∧ s.isAnnounce rec1.frame = false)
    (meets run4 ∧ run4.firstCard 0 okFrame = none ∧ run4.emUsable 0 okFrame = none ∧ run4.bit 0x48100 0 = false ∧
      (withLive run4 0x48100 1).bit 0x48100 0 = true ∧
      (withLive run4 0x48104 0).rxOk 0 = false) ∧
    (meets rej ∧ rej.firstCard 0 okFrame = some 0 ∧ rej.fld 0x40008 20 2 = 2) ∧
    (meets hit ∧ hit.firstCard 0 okFrame = none ∧ hit.emUsable 0 okFrame = some (k, e) ∧ hit.route 12 = (0, 0)) ∧
    (meets val ∧ val.route 12 = (BitVec.ofNat 32 (2 ^ 15 + 12), 0) ∧ val.stream 12 = some stream12 ∧
      stream12.cfg.kind = 2 ∧ stream12.st = .live ∧ stream12.cfg.ch.val = rec1.ch ∧ stream12.cfg.ide = okFrame.ide ∧ stream12.cfg.id = okFrame.id ∧
      okFrame.rtr = false ∧ okFrame.format = stream12.cfg.format.toNat ∧
      okFrame.data.length = stream12.cfg.len.toNat) := by decide +kernel

/-- An open transmit stream with the configuration of stream 20. -/
def txStream : Stream :=
  { cfg := stream20, key := 0x20A00000, cNs := 125000, rNs := 291000, reserve := 1, q := 1, liveTurn := 0, st := .live, toLive := 0 }
/-- RUN, port A at work, channel 0 sending FD frames, a stream 20. -/
def run5 (x : Stream) : State :=
  withLive { run1 with chs := [(0, chan1)], dr := { streams := [(20, x)] } } 0x38000 0x131
/-- A foreign declaration's body. -/
def foreign1 : ForeignBody := ⟨3, false, 0x185, false, false, 0, 2, false, 8, 0, 15, 1000, 50, 0⟩

theorem witness_StreamsOpenThroughADraft :
    let s := withLive (withLive (withLive run1 0x38000 0x131) 0x51008 0xE0000000) 0x5100C 0x202
    let q : State := { s with dr := { queue := [.open_ (.host okDesc) stream20] } }
    let bad := { stream20 with period := 0 }
    (s.plyMember = false ∧ s.admits okDesc ∧ s.openOk stream20 = true ∧ s.isClosed 20 = true ∧ s.roomFor 0 = true) ∧
    (s.canComplete okDesc ∧ s.openOk bad = false ∧ (run5 txStream).isClosed 20 = false ∧ (run5 txStream).admits okDesc ∧
      (run5 txStream).canComplete okDesc) ∧
    (q.ready ∧ q.dr.queue = .open_ (.host okDesc) stream20 :: [] ∧ (q.judgeStream stream20).reason = 0 ∧
      q.isClosed 20 = true ∧ q.openOk stream20 = true ∧ q.roomFor 0 = true) ∧
    q.fld 0x50000 0 16 * 1000 ≤ q.clock + q.fld 0x50000 0 16 * 1000 - q.dr.startAt := by decide +kernel

theorem witness_StreamsOpenThroughADraft_refused :
    let dup : State := { run5 { txStream with cfg := { stream20 with stream := 7 } } with
      dr := { streams := [(7, { txStream with cfg := { stream20 with stream := 7 } })], queue := [.open_ (.host okDesc) stream20] } }
    (dup.plyMember = false ∧ dup.ready ∧ dup.isClosed 20 = true ∧ dup.openOk stream20 = true ∧ dup.roomFor 0 = true ∧
      (dup.judgeStream stream20).reason ≠ 0 ∧ (dup.judgeStream stream20).status = 1 ∧ dup.canComplete okDesc) ∧
    (let o : State := { run5 txStream with dr := { streams := [(20, txStream)], queue := [.open_ (.host okDesc) stream20] } }
     o.ready ∧ o.isClosed 20 = false ∧ o.canComplete okDesc) := by decide +kernel

theorem witness_StreamsOpenThroughADraft_full :
    let s := withLive (withLive (withLive run1 0x38000 0x131) 0x51008 0xE0000000) 0x5100C 0x202
    let f : State := { s with dr := { streams := (List.range 1024).map (fun n => (n, txStream)) } }
    let b := { stream20 with stream := 4000 }
    let p : State := { s with cr := { use := [(1, { res := 200000 })] }, dr := { queue := [.open_ (.host okDesc) stream20] } }
    (f.admits okDesc ∧ f.canComplete okDesc ∧ f.openOk b = true ∧ f.isClosed 4000 = true ∧ f.roomFor 0 = false) ∧
    (p.ready ∧ (p.judgeStream stream20).reason ≠ 0 ∧ (p.judgeStream stream20).status = 7) := by decide +kernel

theorem witness_ClosingAndDeclaring :
    let f : Foreign := { cfg := foreign1, key := foreign1.key, rNs := 0, overdrafts := 0, toLive := 0, leaving := false, tat := none }
    let wd : ForeignBody := ⟨3, true, 0, false, false, 0, 0, false, 0, 0, 0, 0, 0, 0⟩
    let s : State := { run1 with dr := { queue := [.foreign (.host okDesc) wd], foreign := [(3, f)] } }
    let used : State := { s with
      dr := { s.dr with streams := [(12, { stream12 with cfg := { stream12.cfg with id := 0x185 }, key := foreign1.key })] } }
    ((run5 txStream).plyMember = false ∧ (run5 txStream).admits okDesc ∧ (run5 txStream).stream 20 = some txStream ∧
      (run5 txStream).dr.queue = [] ∧ (run5 txStream).stream 21 = none ∧
      txStream.mayClose = true ∧ ({ txStream with closeSoon := true } : Stream).mayClose = false ∧
      (run5 { txStream with closeSoon := true }).canComplete okDesc) ∧
    (s.admits okDesc ∧ s.dr.queue ≠ []) ∧
    (run1.admits okDesc ∧ foreignOk foreign1 = true ∧ run1.canComplete okDesc ∧
      foreignOk { foreign1 with format := 3 } = false) ∧
    (s.plyMember = false ∧ s.ready ∧ foreignOk wd = true ∧ wd.withdraw = true ∧ Tbl.look s.dr.foreign wd.index.val = some f ∧
      f.leaving = false ∧ s.isSource f = false ∧ used.isSource f = true) := by decide +kernel

theorem witness_ClosingAndDeclaring_behind :
    let wd : ForeignBody := ⟨3, true, 0, false, false, 0, 0, false, 0, 0, 0, 0, 0, 0⟩
    let w : State := { run5 txStream with
      dr := { streams := [(20, txStream)], queue := [.foreign (.host okDesc) wd, .close (.host okDesc) 20] } }
    w.plyMember = false ∧ w.ready ∧ w.dr.queue = .foreign (.host okDesc) wd :: .close (.host okDesc) 20 :: [] ∧
    w.stream 20 = some txStream ∧ w.fld 0x50000 0 16 * 1000 ≤ w.clock + w.fld 0x50000 0 16 * 1000 - w.dr.startAt := by
  decide +kernel

theorem witness_ReleasesTakeABobbin :
    let cyc : Stream := { txStream with relIn := some 0 }
    let spo : Stream := { txStream with cfg := { stream20 with kind := 1, period := 0, offIa := 1000 },
                                        held := some (some okDesc, okData) }
    let meets := fun (x : Stream) => decide ((run5 x).ready ∧ (run5 x).dev.st = .run ∧ (run5 x).stream 20 = some x ∧ x.st = .live ∧
      x.cfg.auth = false ∧ (run5 x).sends x = true)
    (meets cyc ∧ cyc.cfg.kind = 0 ∧ cyc.relIn = some 0 ∧ cyc.relDone = false ∧
      ((run5 cyc).elapse 450000).reached ((run5 cyc).tm.bound + BitVec.ofNat 64 ((run5 cyc).relOffset cyc.cfg)) = true) ∧
    (meets spo ∧ spo.held.isSome = true ∧ spo.heldAt ≤ (run5 spo).clock + 0) ∧
    ((run5 cyc).ch 0).noBobbin = false ∧ cyc.used < cyc.reserve ∧ ({ chan1 with mode := .listenOnly } : Channel).noBobbin = true ∧
    (let y : Stream := { cyc with used := 1 }
     y.reserve ≤ y.used) := by decide +kernel

theorem witness_StreamDataIsTakenOrHeld :
    let cyc : Stream := { txStream with cfg := { stream20 with source := 3 } }
    let spo : Stream := { txStream with cfg := { stream20 with source := 3, kind := 1, period := 0, offIa := 1000 }, lastAcc := some 0 }
    let two : Stream := { spo with held := some (none, okData) }
    ((run5 cyc).admits okDesc ∧ (run5 cyc).stream 20 = some cyc ∧ dataBad cyc okData = false ∧ cyc.cfg.kind = 0) ∧
    ((run5 spo).admits okDesc ∧ (run5 spo).stream 20 = some spo ∧ dataBad spo okData = false ∧ spo.cfg.kind = 1 ∧
      (run5 spo).acts = true ∧ spo.held = none ∧ spo.cfg.source ≠ 2 ∧ spo.lastAcc = some 0 ∧
      (run5 spo).clock + 999999 < 0 + spo.cfg.offIa.toNat * 1000) ∧
    (fromValueLine spo okData = false ∧ (run5 spo).dev.st = .run ∧ ({ spo with lastAcc := none } : Stream).lastAcc = none ∧
      (run5 spo).clock + 1000000 = 0 + spo.cfg.offIa.toNat * 1000 ∧ spo.cfg.auth = false ∧
      ((run5 spo).ch spo.cfg.ch.val).noBobbin = false ∧ spo.used < spo.reserve ∧ okData.len ≠ 0) ∧
    (let v : Stream := { spo with cfg := { spo.cfg with source := 2, vlead := 1 } }
     let b : DataBody := { okData with len := 0, data := [] }
     (run5 v).admits okDesc ∧ (run5 v).stream 20 = some v ∧ dataBad v b = false ∧ (run5 v).acts = true ∧ v.held = none ∧
       fromValueLine v b = true ∧ ((run5 v).port v.cfg.vport).portEn = true ∧ ((run5 v).port v.cfg.vport).canWrite = true ∧
       (run5 v).readRoom v.cfg.vport = true ∧ v.lastAcc = some 0 ∧ (run5 v).clock + 999999 < 0 + v.cfg.offIa.toNat * 1000) ∧
    ((run5 two).stream 20 = some two ∧ dataBad two okData = false ∧ two.held.isSome = true ∧ (run5 two).canComplete okDesc) ∧
    (dataBad txStream okData = true ∧ (run5 txStream).canComplete okDesc) := by decide +kernel

theorem witness_ValueLinesAndDeadlines :
    let val : Stream := { txStream with cfg := { stream20 with source := 2, vlead := 1 }, relIn := some 0 }
    let fly : Stream := { val with vFlight := [(0, 0)] }
    let r : Rel := ⟨0, 0, false, 0, 300000, false, false, false, none, true, none, 0, 0, 0, none, false, none, false⟩
    let rel : Stream := { txStream with rels := [r] }
    ((run5 val).ready ∧ (run5 val).stream 20 = some val ∧ val.st = .live ∧ val.cfg.source = 2 ∧ val.cfg.kind = 0 ∧
      val.vFor = [] ∧ val.relIn = some 0 ∧ val.relDone = false ∧
      (let t := (run5 val).tm.bound + BitVec.ofNat 64 ((run5 val).relOffset val.cfg)
       ((run5 val).elapse 449000).reached (t - BitVec.ofNat 64 (val.cfg.vlead.toNat * 1000)) = true ∧
       ((run5 val).elapse 449000).reached t = false) ∧
      ((run5 val).port val.cfg.vport).portEn = true ∧ ((run5 val).port val.cfg.vport).canWrite = true ∧
      (run5 val).readRoom val.cfg.vport = true ∧ ((run5 val).port .a).valueWait = []) ∧
    ((run5 fly).stream 20 = some fly ∧ fly.vFlight[0]? = some (0, 0)) ∧
    ((run5 rel).stream 20 = some rel ∧ rel.rels = [r] ∧ r.old = false ∧ ({ r with cov := true } : Rel).unheard = true ∧ r.unheard = true ∧ r.desc = none ∧
      ((run5 rel).elapse 300000).reached r.due = true) := by decide +kernel

theorem witness_SendsUseTheSharedPool :
    let s := withLive run1 (spChBase 9) 0x131
    let late : State := { s with chs := [(9, { chan1 with lastSend := some 0 })] }
    let none_ : State := withLive s 0x48228 0
    let q : State := { run3 { chan1 with sendQueue := [(0, okDesc)] } with clock := 0 }
    (s.admits okDesc ∧ s.sendBad okSend = false ∧ s.acts = true ∧ s.setFull 9 = false ∧ s.sendOk 9 = true ∧
      (s.elapse 0).sendDue 9 = true ∧ (s.ch 9).sendQueue = []) ∧
    (late.admits okDesc ∧ late.sendBad okSend = false ∧ late.setFull 9 = false ∧ late.sendOk 9 = true ∧
      (late.elapse 9999999).sendDue 9 = false) ∧
    (none_.admits okDesc ∧ none_.sendBad okSend = false ∧ none_.sendOk 9 = false ∧ none_.canComplete okDesc) ∧
    (s.sendBad { okSend with ide := false, id := 0x800 } = true ∧ s.canComplete okDesc) ∧
    (q.ready ∧ (q.ch 0).sendQueue = (0, okDesc) :: [] ∧ (q.elapse 0).sendDue 0 = true ∧ q.bob 0 = some bob1) := by decide +kernel

/-- RUN, port A at work, the line watch of channel 0. -/
def run6 (v : LineCh) : State := { run1 with lw := [(0, v)] }
/-- RUN, port A at work, feed 2. -/
def run7 (f : Feed) : State := { run1 with fd := { feeds := [(2, f)] } }

/-- Samples before an error flag: a recessive bit, a dominant one of 1,875 mV and a recessive one, of four samples each. -/
def flagPairs : List TapPair :=
  let rec_ : TapPair := ⟨2176, 2176⟩
  List.replicate 4 rec_ ++ List.replicate 4 ⟨2224, 2128⟩ ++ List.replicate 4 rec_

theorem witness_AttributionsBlameANode :
    let g : Signature := { n := 64, mu := [1875, 0, 2500, 100, 100, 0], dev := [25, 20, 20, 2, 4, 20] }
    let b : Blame := ⟨0, 5, some 0x30A00000, 3, 0, flagPairs⟩
    let arb : Option BitSpan := some ⟨false, true, 4⟩
    let bits : List BitSpan := [⟨true, true, 4⟩, ⟨false, true, 4⟩]
    let x := b.measured arb bits
    let v : LineCh := { sig := [(3, g)], blames := [b] }
    let f : Foreign := { cfg := { foreign1 with node := 3, feed := 2 }, key := 0, rNs := 0, overdrafts := 0, toLive := 0,
                         leaving := false, tat := none }
    let s := withLive (withLive (withLive { run6 v with dr := { foreign := [(0, f)] }, fd := { feeds := [(2, { st := .on })] } }
      0x60004 4) (lwBase 0 + 0x10) 0x03E80011) (lwBase 0 + 0x14) 0x00640001
    let o := v.attribute (flagBits arb bits) x
    let bab := s.live (lwBase 0 + 0x10)
    let charged := (g.blames ++ [b.turn.toNat]).filter (fun k => decide (k + fieldOf bab 16 16 > b.turn.toNat))
    (s.ready ∧ (s.line 0).blames = b :: []) ∧ (v.attribute 1 x).reason = 3 ∧
    (v.sig.map (·.1)).Pairwise (· < ·) ∧ (3, g) ∈ v.sig ∧ g.mature = true ∧ g.distance x ≤ 4 ∧
    (o.reason = 1 ∧ o.node = 3 ∧ fieldOf bab 4 7 ≤ o.conf ∧ fieldOf bab 0 4 ≤ charged.length ∧ s.nodeFeed 0 o.node = 2 ∧
      s.bit 0x60004 2 = true ∧ s.nodeConflict 0 o.node = false ∧ s.fld (lwBase 0 + 0x14) 0 2 = 1 ∧ s.mayQuar = true ∧
      s.inQuar 2 = false ∧ s.reqFor 2 = none ∧ (s.feed 2).st.gateOn = true) := by decide +kernel

theorem witness_LineHealthIsJudged :
    let s := withLive (run6 { badRun := [7, 0, 0, 0], okRun := [0, 0, 7, 0] }) (lwBase 0) 1
    let hi : Int := (s.fld (lwBase 0 + 12) 0 16 : Nat)
    let lo : Int := (s.fld (lwBase 0 + 12) 16 16 : Nat)
    let g : Signature := { n := 64, base := some (10, 10), sum := [1000, 1000], cnt := 10 }
    let e := withLive (withLive (run6 { sig := [(31, g)], trendTurns := 100 }) (lwBase 0) 1) (lwBase 0 + 0x18) 0x01000064
    (run1.lineOn 0 = false ∧ ({ chan1 with wire := .otherFrame } : Channel).wire ≠ .idle ∧
      ({ shortAt := some 0 } : LineCh).shortAt = some 0 ∧ s.clock + 99999 < 0 + 100000 ∧ 0 + 100000 ≤ s.clock + 100000) ∧
    (s.ready ∧ s.lineOn 0 = true ∧ (s.ch 0).wire = .idle ∧ (s.line 0).shortAt = none ∧ (s.line 0).short.length = 4 ∧ (s.line 0).badRun.length = 4 ∧ (s.line 0).okRun.length = 4 ∧
      hi < hi + 1 ∧ (s.line 0).badRun.getD 0 0 = 7 ∧ (s.line 0).short.getD 0 false = false ∧ lo ≤ hi ∧
      (s.line 0).okRun.getD 2 0 = 7) ∧
    (e.ready ∧ e.lineOn 0 = true ∧ e.fld (lwBase 0 + 0x18) 0 24 ≤ (e.line 0).trendTurns ∧
      g.endInterval.alarm (e.fld (lwBase 0 + 0x18) 24 8) = true) ∧
    (run1.passes 0x60008 (wrA 1) ∧ bitOf (wrA 1).data 0 = true ∧ bitOf (wrA 1).data 1 = false) := by decide +kernel

theorem witness_QuarantinesAndHostCaptures :
    let b : CaptureBody := ⟨0, 0, 1, 0, 0x1000⟩
    let a : Armed := ⟨okDesc, b, 0, some ⟨0, 0, 0xFFFFFFFF⟩⟩
    let w : Armed := ⟨okDesc, { b with trigger := 2 }, 0, none⟩
    let q0 : QuarReq := ⟨2, false, 1000, 0, 3⟩
    let q1 : QuarReq := ⟨3, false, 1000, 1, 4⟩
    let req := run6 { reqs := [q0, q1] }
    let qr : Quar := ⟨2, false, 0, false⟩
    let off : Quar := ⟨3, true, 0, false⟩
    let two := run6 { quars := [off, qr] }
    (req.ready ∧ q0 ∈ (req.line 0).reqs ∧ q0.left = 0 ∧ q1 ∈ (req.line 0).reqs ∧ q1.left ≠ 0 ∧ q0.feed ≠ q1.feed) ∧
    (two.ready ∧ (two.line 0).quars = [off] ++ qr :: [] ∧ qr.action = false ∧ qr.restarted = false ∧
      qr.restart ≤ two.clock + 0 ∧ off.feed ≠ qr.feed ∧ (two.elapse 0).restartDue off = false) ∧
    ((run6 { armed := some w }).ready ∧ ((run6 { armed := some w }).line 0).armed.isSome = true ∧
      (run6 { armed := some w }).canComplete okDesc ∧ w.hit = none ∧ w.left = 0) ∧
    (({ armed := some a, caps := (List.range 8).map (fun k => (k, { age := 1, order := k })) } : LineCh).freeCap = none ∧
      ({ armed := some a, caps := [(0, { age := 1, order := 1 })] } : LineCh).freeCap = some 1) ∧
    (run1.ready ∧ run1.ow.owner = some okDesc.port ∧ okDesc.resv = false ∧ run1.fenced okDesc.port okDesc.distaff = false ∧
      b.trigger ≠ 3 ∧ b.timeout ≠ 0 ∧ b.addr.toNat % 4096 = 0 ∧ b.key = 0 ∧ run1.path = true ∧ (run1.line 0).armed = none) ∧
    ((run6 { armed := some a }).ready ∧ ((run6 { armed := some a }).line 0).armed = some a ∧ a.hit = some ⟨0, 0, 0xFFFFFFFF⟩ ∧
      ((run6 { armed := some a }).port okDesc.port).canWrite = true ∧ okDesc.cmpl = true ∧
      ((run6 { armed := some a }).line 0).freeCap = some 0 ∧ (run6 { armed := some a }).canComplete okDesc) := by decide +kernel

theorem witness_FeedsAreMeasuredAndSupervised :
    let on := run7 { st := .on, aOk := true, pg := true }
    let trip := run7 { st := .on, acc := 1 }
    ((on.ready ∧ (if (on.feed 2).st.gateOn = true ∨ 0 < (on.feed 2).acc then on.integrate 2 0 (on.feed 2).acc
        else (on.feed 2).acc) < 1) ∧ on.inWindow 2 0 = false) ∧
    (trip.ready ∧ trip.curveI 2 0 ≤ 9000 ∧ 1 ≤ (if (trip.feed 2).st.gateOn = true ∨ 0 < (trip.feed 2).acc then
        trip.integrate 2 9000 (trip.feed 2).acc else (trip.feed 2).acc) ∧ (trip.feed 2).st.gateOn = true) ∧
    ((0 : Int) < trip.curveI 2 0 ∧ 29989 + 10 < 30000 ∧ 30000 ≤ 29990 + 10) ∧
    ((run7 { st := .ramp }).ready ∧ ((run7 { st := .ramp }).feed 2).st = .ramp ∧ 24000 ≤ 23700 + 300) ∧
    (let f : Feed := { st := .qualify, qTicks := 1999 }
     f.st = .qualify ∧ f.qTicks = 1999 ∧ (run7 f).curveI 2 0 ≤ 100000) ∧
    (let f : Feed := { st := .wait, aQual := true }
     f.st = .wait ∧ f.qualified = true ∧ (run7 f).path = true ∧ f.isHeld = false) ∧
    (let f : Feed := { st := .qualify, qTicks := 2000 }
     f.st = .qualify ∧ 2000 ≤ f.qTicks ∧ f.ftimer = false) ∧
    ((on.feed 2).pg = true ∧ fieldOf (on.fcfg 2 0x18) 16 8 * 1000000000 ≤ on.clock + 10000000000 - (on.feed 2).pgSince) := by
  decide +kernel

theorem witness_FeedsTurnOffWithTheirCause :
    let retry := fun (s : State) => ({ s with fd := { s.fd with cfg := [(0xA8200, 0x3200C832)] } } : State)
    (let f : Feed := { st := .on }
     ((run7 f).tripLevel 2 : Int) ≤ ((run7 f).tripLevel 2 : Int) ∧ ((run7 f).tripLevel 2 : Int) - 1 < (run7 f).tripLevel 2 ∧
       (run7 f).tripLevel 2 ≠ (run7 { f with st := .ramp }).tripLevel 2) ∧
    (let f : Feed := { st := .latched, metAt := some (10, 1), overB := 3 }
     f.st.gateOn = false ∧ f.metAt = some ((run7 f).clock + 10, 1) ∧ 1 < rowOf 8 false ∧ (3 ≤ f.overA ∨ 3 ≤ f.overB)) ∧
    (let f : Feed := { st := .ramp, chargeSince := some 0, outRun := 10, overA := 3 }
     (run7 f).ready ∧ ((run7 f).feed 2).st.gateOn = true ∧ f.st ≠ .on ∧
       fieldOf ((run7 f).fcfg 2 0) 24 8 * 1000000 ≤ (run7 f).clock + 50000000 - f.rampAt ∧ 5000000 ≤ (run7 f).clock + 5000000 - 0 ∧
       10 ≤ f.outRun ∧ (3 ≤ f.overA ∨ 3 ≤ f.overB) ∧ fieldOf ((retry (run7 f)).fcfg 2 0) 1 2 = 1 ∧
       f.retries < fieldOf ((retry (run7 f)).fcfg 2 0) 4 4) ∧
    (let f : Feed := { st := .held, shortRun := 10 }
     (run7 f).ready ∧ f.st ≠ .disabled ∧ f.st.gateOn = false ∧ 10 ≤ f.shortRun) ∧
    (let f : Feed := { st := .cooling, coolEnd := 10 }
     ((run7 f).feed 2).st = .cooling ∧ f.coolEnd ≤ (run7 f).clock + 10 ∧ (run7 f).path = true ∧
       ({ run7 f with fa := { field := .inReset } } : State).path = false) := by decide +kernel

theorem witness_FeedCommandsActOnHolds :
    let en := fun (f : Feed) => ({ run7 f with fd := { cfg := [(0xA8200, 0x3200C831)], feeds := [(2, f)] } } : State)
    let q : QuarReq := ⟨2, false, 1000, 5, 3⟩
    let s : State := { en { st := .on, pg := true } with lw := [(0, { reqs := [q] })] }
    ((en { st := .held, hold := true }).admits okDesc ∧ bitOf ((en {}).fcfg 2 0) 0 = true ∧ (en {}).path = true) ∧
    (s.admits okDesc ∧ bitOf (s.fcfg 2 0) 0 = true ∧ s.path = true ∧ (s.elapse 0).feedMet 2 7 = false ∧ (s.feed 2).st ≠ .disabled ∧ s.mayQuar = true ∧
      s.reqFor 2 = some 0 ∧ (s.line 0).reqs.find? (fun r => decide (r.feed = 2)) = some q ∧ (en {}).reqFor 2 = none ∧ 10 ≤ (10 : BitVec 16).toNat) ∧
    (run1.admits okDesc ∧ run1.canComplete okDesc ∧ bitOf (run1.fcfg 2 0) 0 = false ∧ (9 : BitVec 16).toNat < 10) ∧
    (let f : Feed := { st := .held, cycleEnd := some 100 }
     (run7 f).ready ∧ f.cycleEnd = some 100 ∧ 100 ≤ (run7 f).clock + 100) ∧
    (run1.passes (fdBase 2 + 0x40) (wrA 1) ∧ bitsSet (wrA 1).data 3 ≤ 1 ∧ 1 < bitsSet (wrA 3).data 3 ∧
      run1.passes (fdBase 2 + 0x40) (wrA 3)) ∧
    run1.passes 0xA8800 (wrA 1) := by decide +kernel

theorem witness_LoopInputsAreClassified :
    let s : State := { run0 with lio := { wait := true } }
    (s.ready ∧ s.lio.wait = true ∧ s.fieldUp = true ∧ s.clock + 10000 - s.lio.capAt ≤ 10000 ∧
      10000 ≤ s.clock + 10000 - s.lio.capAt ∧ 10000 < s.clock + 10001 - s.lio.capAt ∧ run0.lio.wait = false) ∧ (run0.loopIn 15).openAt = none ∧
    ({ openAt := some 0, test := true } : LoopIn).test = true ∧
    classOf 0 false (currentMa 996000 249) = 0 := by decide +kernel

theorem witness_LoopOutputsFollowTheirEvents :
    let s : State := withLive { run0 with lio := { outs := [(3, { sent := some none })] } } (loBase 3) 1
    let comp : State := { run0 with lio := { outs := [(3, { comp := true })] } }
    ((s.ready ∧ (s.loopOut 3).sent = some none ∧ s.fieldUp = true) ∧
      (1499 < 1500 ∧ 2000 ≤ 2000 ∧ 2999 < 3000 ∧ (s.loopOut 3).comp = false ∧ s.rep.first.contains 0x218 = false) ∧ (comp.loopOut 3).comp = true ∧
      (s.loMode 3 = 1 ∧ s.acts = true ∧ (s.loopOut 3).modeWait = false)) ∧
    (let w : State := withLive run0 (loBase 3) 2
     s.loMode 3 = 1 ∧ (24000 : Int) + 300 < 24301 ∧ w.loMode 3 = 2 ∧ (0 : Int) < 1) ∧
    (s.fld (loBase 3 + 8) 8 8 * 1000000 ≤ s.clock + s.fld (loBase 3 + 8) 8 8 * 1000000 - (s.loopOut 3).cmdAt ∧
      (s.loopOut 3).causes.contains 3 = false ∧ (s.loopOut 3).causes = []) ∧
    run0.passes 0xA1800 (wrA 1) ∧ run0.passes 0xA1804 (wrA 1) := by decide +kernel

/-- RUN with loop 0 configured: one stage, every turn. -/
def run8 (v : Loop) : State :=
  let tm : TurnSt := { capDone := false, agreeDone := false, twistDone := false, releaseDone := false }
  withLive (withLive { run1 with tw := { loops := [(0, v)] }, tm := tm } 0x78000 0x00020000) 0x78080 1

theorem witness_PointsOfATurn :
    let s := run8 { mode := .auto }
    let cut := s.offsetAt s.capUs - 2000
    let sl := fun (held : Bobbin) (p : Option (BitVec 64 × Frame)) =>
      ({ s with cr := { bobs := [(7, held)] }, tw := { s.tw with slots := [(1, { held := some 7, prior := p })] } } : State)
    (let a := sl { bob1 with time := cut - 1 } none
     (a.tw.slots.map (·.1)).Nodup ∧ (a.twSlot 1).held = some 7 ∧ a.bob 7 = some { bob1 with time := cut - 1 } ∧
       earlier (cut - 1) cut = true ∧ bob1.poison = false ∧ a.tm.cut = none ∧ ({ bob1 with poison := true } : Bobbin).poison = true ∧
       (a.twSlot 1).prior = none ∧ earlier cut cut = false) ∧
    s.ready ∧ s.tm.capDone = false ∧ s.tm.agreeDone = false ∧ s.tm.twistDone = false ∧ s.tm.releaseDone = false ∧
    (s.offsetAt s.capUs - s.now).toNat < 2 ^ 63 ∧ s.dev.st = .run ∧ loopOn s.regs.live 0 = true ∧ 0 ∈ loopsOf s.regs.live ∧
    s.tm.turn.toNat % 2 ^ periodOf s.regs.live 0 = phaseOfLoop s.regs.live 0 ∧
    ({ s with tm := { s.tm with turn := 1 } } : State).tm.turn.toNat % 2 ^ 3 ≠ phaseOfLoop s.regs.live 0 ∧
    setUp0.dev.st ≠ .run ∧ run0.tm.capDone = true ∧ run0.tm.agreeDone = true ∧ run0.tm.twistDone = true ∧
    run0.tm.releaseDone = true := by decide +kernel

theorem witness_LoopsEvaluateAndPublish :
    let ev : LoopEval := ⟨[], [(0, false)], 0⟩
    let st : LoopEval := ⟨[], [(0, true)], 0⟩
    let due := run8 { mode := .auto, due := true }
    let s : State := { due with tw := { due.tw with opened := true, running := [(0, 0)] } }
    let free : State := { due with tw := { due.tw with opened := true } }
    let auto := run8 { mode := .auto, due := true, eval := some ev }
    let stale := run8 { mode := .auto, due := true, eval := some st, staleRun := 0 }
    (s.ready ∧ s.dev.st = .run ∧ s.plyMember = false ∧ s.tw.opened = true ∧ (s.loop 0).due = true ∧ (s.loop 0).dead = false ∧
      s.runs 0 = true ∧ due.runs 0 = false ∧ free.mayStart 0 = true ∧ 0 < (⟨[], [], 1⟩ : LoopEval).replaced) ∧
    (auto.ready ∧ auto.tm.releaseDone = false ∧ (loopsOf auto.regs.live).Nodup ∧ 0 ∈ loopsOf auto.regs.live ∧
      0 ∉ auto.abandonedLoops ∧ (auto.loop 0).mode = .auto ∧ (auto.loop 0).eval = some ev ∧
      (ev.val (outStageOf auto.regs.live 0)).2 = false) ∧
    (0 ∉ stale.abandonedLoops ∧ (st.val (outStageOf stale.regs.live 0)).2 = true ∧
      staleEvalsOf stale.regs.live 0 ≤ (stale.loop 0).staleRun + 1 ∧
      (stale.loop 0).staleRun + 1 < staleEvalsOf (withLive stale 0x78000 0x00060000).regs.live 0) ∧
    (0 ∈ due.abandonedLoops ∧ (due.loop 0).ovrRun < 2 ∧ 2 ≤ ((run8 { mode := .auto, due := true, ovrRun := 2 }).loop 0).ovrRun) ∧
    ((run8 {}).loop 0).mode = .off := by decide +kernel

theorem witness_LoopDescriptorsWaitForTheBoundary :
    let b : LoopModeBody := ⟨0, 2, 0x3F800000⟩
    let s : State := { run8 {} with tw := { cmds := [(okDesc, .loopMode b)] } }
    (run1.plyMember = false ∧ run1.admits okDesc) ∧
    (s.plyMember = false ∧ s.ready ∧ s.dev.st = .run ∧ s.regs.phase = .idle ∧ s.holds = [] ∧ s.tw.cmds = [(okDesc, .loopMode b)] ∧
      loopOn s.regs.live 0 = true ∧ b.mode ≠ 3 ∧ fFinite b.man = true) ∧
    (0 ∈ run1.tw.lanes ∧ run1.tw.spare = some 4 ∧ ({ spare := none } : TwistSt).spare = none) := by decide +kernel

theorem witness_DescriptorsAreChecked :
    let held : State := { run1 with fences := [⟨okDesc, 5, true⟩] }
    let safe : State := { run1 with dev := { st := .safe } }
    ((Instr.nop 0 okDesc).descriptor = some (0, okDesc, .nop) ∧ held.ready ∧ held.fenced .a 0 = true) ∧
    (run1.ready ∧ run1.fenced .a 0 = false ∧ run1.canComplete okDesc ∧ okDesc.cmpl = true ∧ okDesc.resv = false ∧
      ({ run1 with ow := {} } : State).ow.owner ≠ some .a ∧ (DescBody.send okSend).opcode ≠ 0 ∧
      run1.ow.owner = some okDesc.port ∧ ({ okDesc with resv := true } : Desc).resv = true) ∧
    (safe.ready ∧ safe.dev.st = .safe ∧ safe.ow.owner = some .a ∧ safe.canComplete okDesc ∧
      refusedInSafe (DescBody.send okSend).opcode = true) ∧
    (run1.admits okDesc ∧ run1.turnBegun 0 = true ∧ run1.turnBegun (2 ^ 47) = true ∧ run1.turnBegun 1 = false ∧
      ((2 ^ 32 : BitVec 48) - run1.tm.turn).toNat ≤ 2 ^ 32 ∧ run1.turnBegun (2 ^ 32 + 1) = false ∧
      2 ^ 32 < ((2 ^ 32 + 1 : BitVec 48) - run1.tm.turn).toNat ∧ run1.turnBegun (2 ^ 47 - 1) = false) := by decide +kernel

/-- Sixteen words of a descriptor with an opcode and CMPL 1. -/
def words (op : Word) : List Word := (op ||| 0x100) :: List.replicate 15 0

theorem witness_HostReadsFillTheRings :
    let idle := withPort run0 { port1 with sk := [(0, { ring1 with own := 64 })] }
    let sum := withPort run0 { port1 with sumBusy := true }
    let late := withPort run0 { port1 with polls := 1, pollAt := 0 }
    let ds := fun (g : Ring) => withPort run0 { port1 with ds := [(0, g)] }
    let sk := fun (g : Ring) => withPort run0 { port1 with sk := [(0, g)] }
    let rd := { ring1 with reading := [0] }
    let full := withPort run0 { port1 with sk := [(0, { ring1 with reading := List.replicate 64 0 })] }
    let room := fun (s : State) => decide (s.outReads .a + (s.port .a).sk.length + (s.port .a).ds.length < 64)
    (idle.ready ∧ (idle.port .a).portEn = true ∧ (idle.port .a).canWrite = true ∧ (idle.port .a).sumBusy = false ∧
      (idle.port .a).polls = 0 ∧ room idle = true ∧ (idle.port .a).serves ((idle.port .a).skn 0) = true ∧
      ((idle.port .a).skn 0).reading = [] ∧ ((idle.port .a).skn 0).free = 0 ∧
      ((idle.port .a).polls + 1) % (idle.port .a).sweep ≠ 0 ∧ (63 + 1) % (idle.port .a).sweep = 0 ∧
      (idle.port .a).serves ((idle.port .a).dsr 0) = true) ∧
    ((run0.port .b).portEn = false ∧ full.readRoom .a = false ∧ (late.port .a).polls ≠ 0 ∧
      late.clock + 1999 < (late.port .a).pollAt + (late.port .a).poll * 100 ∧
      (late.port .a).pollAt + (late.port .a).poll * 100 ≤ late.clock + 2000) ∧
    ((sum.port .a).sumBusy = true ∧ (sum.port .a).portEn = true ∧ (sum.port .a).canWrite = true ∧ room sum = true ∧
      (sum.port .a).inTime (sum.clock + 1000000) (sum.port .a).sumAt = true ∧
      (sum.port .a).inTime (sum.clock + 1000001) (sum.port .a).sumAt = false ∧
      (sum.port .a).serves ((sum.port .a).dsr 0) = true ∧ ((1 : BitVec 128) ^^^ (sum.port .a).summary).getLsbD 0 = true) ∧
    (((ds rd).port .a).serves (((ds rd).port .a).dsr 0) = true ∧ (((ds rd).port .a).dsr 0).reading = 0 :: [] ∧ (ds rd).ready ∧
      ((ds rd).port .a).inTime 1000000 0 = true ∧ rd.wantProd = false ∧ rd.fetched = [] ∧ ((ds rd).port .a).valueWait = [] ∧
      (ds rd).readRoom .a = true ∧ ((ds rd).port .a).serves (((ds rd).port .a).skn rd.cskein) = true ∧
      2 ^ rd.log2 < ((65 : Word) - rd.own).toNat ∧ ((64 : Word) - rd.own).toNat ≤ 2 ^ rd.log2 ∧ ((ds rd).port .a).ds = [(0, rd)] ∧
      (ds rd).loading = false ∧ 0 < (((ds rd).port .a).skn rd.cskein).free ∧
      rd.flight.length < ((64 : Word) - rd.own).toNat) ∧
    ((sk { rd with own := 5 }).ready ∧ ((sk { rd with own := 5 }).port .a).serves { rd with own := 5 } = true ∧
      ((5 : Word) - rd.peer).toNat ≤ ({ rd with own := 5 } : Ring).used ∧
      ({ rd with own := 5 } : Ring).used < ((6 : Word) - rd.peer).toNat) := by decide +kernel

theorem witness_HostReadsFillTheRings_descriptors :
    let ds := fun (g : Ring) => withPort run0 { port1 with ds := [(0, g)] }
    let f : Flight := { at_ := 0 }
    let fl := { ring1 with flight := [f, f] }
    let pay : Fetched := { index := 0, words := [0x101, 0, 0, 0x200] ++ List.replicate 12 0, wantsPay := true }
    ((ds fl).ready ∧ ((ds fl).port .a).serves (((ds fl).port .a).dsr 0) = true ∧ (((ds fl).port .a).dsr 0).flight = f :: [f] ∧
      f.words = none ∧ ((ds fl).port .a).inTime 0 f.at_ = true ∧ (∀ y ∈ [f], y.words = none) ∧
      (((ds fl).port .a).dsr 0).flight[0]? = some f ∧ (((ds fl).port .a).dsr 0).flight[1]? = some f ∧ (ds fl).readRoom .a = true ∧
      (((ds fl).port .a).dsr 0).fetched = [] ∧ (ds fl).fenced .a 0 = false ∧
      ({ index := 0, words := words 0, wantsPay := false } : Fetched).needsPay = false ∧
      (ds fl).canComplete (descHead .a 0 0 (words 0)) ∧ descBody (words 0) [] = .nop ∧
      (descHead .a 0 0 (words 0)).resv = false ∧ (descHead .a 0 0 (words 0)).cmpl = true ∧
      14 ≤ (descBody (words 14) []).opcode ∧ (descBody (words 1) []).opcode ≠ 0 ∧
      ({ index := 0, words := [0x101, 0, 0, 0x200] ++ List.replicate 12 0, wantsPay := false } : Fetched).needsPay = true) ∧
    (let s := ds { ring1 with fetched := [pay], payAt := some 0 }
     let o : State := { s with ow := { owner := some .b } }
     s.ready ∧ ((s.port .a).dsr 0).fetched = [pay] ∧ pay.wantsPay = true ∧ ((s.port .a).dsr 0).payAt = some 0 ∧
       (s.port .a).inTime 1000000 0 = true ∧ s.fenced .a 0 = false ∧
       ({ s with fences := [⟨okDesc, 5, true⟩] } : State).fenced .a 0 = true ∧ o.ow.owner ≠ some .a ∧
       (descBody pay.words (fitBytes 64 [])).opcode ≠ 0 ∧ o.canComplete (descHead .a 0 0 pay.words)) := by decide +kernel

theorem witness_FailedReadsAreRetriedOrStall :
    let sum := withPort run0 { port1 with sumBusy := true, sumFails := 2 }
    let ds := fun (g : Ring) => withPort run0 { port1 with ds := [(0, g)] }
    let pay : Fetched := { index := 0, words := [0x101, 0, 0, 0x200] ++ List.replicate 12 0, wantsPay := true }
    (sum.ready ∧ (sum.port .a).sumBusy = true ∧ (sum.port .a).sumFails = 2 ∧
      (sum.port .a).sumAt + (sum.port .a).cplTmo * 1000 ≤ sum.clock + 1000000) ∧
    ((((ds { ring1 with reading := [0] }).port .a).dsr 0).reading = 0 :: [] ∧ ring1.wantProd = false ∧
      (((withPort run0 { port1 with sk := [(0, { ring1 with reading := [0] })] }).port .a).skn 0).reading = 0 :: []) ∧
    (let f : Flight := { at_ := 0, tries := 1 }
     let g : Ring := { ring1 with flight := [{ at_ := 0 }, f] }
     (ds g).ready ∧ (((ds g).port .a).dsr 0).flight[1]? = some f ∧ f.words = none ∧ f.tries < 2 ∧
       2 ≤ ({ f with tries := 2 } : Flight).tries ∧ f.at_ + ((ds g).port .a).cplTmo * 1000 ≤ (ds g).clock + 1000000 ∧
       (((ds g).port .a).dsr 0).st = .running) ∧
    (let g : Ring := { ring1 with fetched := [pay], payTries := 1, payAt := some 0 }
     (((ds g).port .a).dsr 0).fetched = pay :: [] ∧ pay.wantsPay = true ∧ (((ds g).port .a).dsr 0).payAt = some 0 ∧
       g.payTries < 2 ∧ 2 ≤ ({ g with payTries := 2 } : Ring).payTries) := by decide +kernel

theorem witness_PortsLeaveService :
    let s := withPort run0 { port1 with src := [(0x50, .pending)], msixMask := false, msixPend := true }
    s.ready ∧ s.ow.owner = some .a ∧ Tbl.wf {} (s.port .a).ds = true ∧ Tbl.wf {} (s.port .a).sk = true ∧
    (s.port .a).msixMask = false ∧ (s.port .a).msixPend = true ∧ run0.ow.owner ≠ some .b := by decide +kernel

theorem witness_PortsAndRingsAreEnabled :
    let q : PortSt := { busMaster := true, dbAddr := 0x1000, stAddr := 0x2000 }
    let s := withPort setUp0 q
    let ring := withPort setUp0 { q with portEn := true }
    let w : Wr := wrA 0x26
    (s.ready ∧ (wrA 0x101).be = 15 ∧ (s.port .a).portEn = false ∧ bitOf (wrA 0x101).data 0 = true ∧
      ({ q with ringFmt := fieldOf (wrA 0x101).data 8 8 } : PortSt).enErr = 0 ∧ (∀ x ∈ q.ds, x.2.fetched = []) ∧
      ({ q with ringFmt := fieldOf (wrA 0x201).data 8 8 } : PortSt).enErr = 3 ∧
      (({ q with ds := [(0, { en := true, owes := true })] } : PortSt).dsr 0).owes = true ∧ q.canWrite = true) ∧
    (run1.ready ∧ (run1.port .a).portEn = true ∧ bitOf (wrA 0x101).data 0 = true ∧
      fieldOf (wrA 0x101).data 8 8 ≠ (run1.port .a).ringFmt ∧ bitOf (wrA 0).data 0 = false ∧
      fieldOf (wrA 0).data 8 8 = (run1.port .a).ringFmt) ∧
    (ring.ready ∧ bitOf w.data 5 = true ∧ (ring.port .a).selected.en = false ∧
      ((ring.port .a).selected.cfgWith false w.data).base.toNat % 4096 = 0 ∧
      6 ≤ ((ring.port .a).selected.cfgWith false w.data).log2 ∧ ((ring.port .a).selected.cfgWith false w.data).log2 ≤ 16 ∧
      ((ring.port .a).selected.cfgWith false 0x30).log2 = 16 ∧ (ring.port .a).canWrite = true ∧
      ((withPort setUp0 { q with busMaster := false }).port .a).canWrite = false ∧
      16 < ((ring.port .a).selected.cfgWith false 0x31).log2 ∧ ((ring.port .a).selected.cfgWith false 0x25).log2 < 6 ∧
      bitOf (wrA 0x06).data 5 = false) ∧
    ((run1.port .a).selected.en = true ∧ (run1.port .a).selected.cfgWith false 0x27 ≠ (run1.port .a).selected ∧
      bitOf (wrA 0x06).data 5 = false ∧ (run1.port .a).selected.cfgWith false 0x06 = (run1.port .a).selected ∧
      (run1.port .a).selected.st = .running) ∧
    (let k : Ring := { ring1 with deferred := true, coal := 100, lastNotify := some 0 }
     (withPort run0 { port1 with sk := [(0, k)] }).ready ∧ k.deferred = true ∧ 0 + k.coal * 1000 ≤ run0.clock + 100000) := by
  decide +kernel

theorem witness_OwnershipFollowsCandidacy :
    let ow := fun (o : OwnSt) => ({ run1 with ow := o } : State)
    let two : OwnSt := { owner := some .a, candA := true, candB := true }
    let el : OwnSt := { electing := true, electEnd := 2000000, candA := true, candB := true }
    let ho : OwnSt := { two with handover := some .b, handAt := 0 }
    let wB : Wr := ⟨.b, 15, 3⟩
    ((ow two).ready ∧ (ow two).passes 0x2000 (wrA 0) ∧ bitOf (wrA 0).data 0 = false ∧ bitOf (wrA 0).data 1 = false ∧
      (ow two).ow.owner = some .a ∧ (ow two).ow.cand .b = true ∧ (ow { two with candB := false }).ow.cand .b = false ∧
      bitOf (wrA 1).data 0 = true ∧ (ow { owner := some .b }).ow.owner = some Port.a.other ∧ (ow el).ow.electing = true) ∧
    ((ow {}).ready ∧ (ow {}).passes 0x2000 (wrA 1) ∧ (ow {}).ow.owner = none ∧ (ow {}).ow.electing = false ∧
      (ow {}).dev.st ≠ .selfTest ∧ (ow {}).ow.handover = none ∧ (ow {}).ow.cand .b = false ∧ State.reset.dev.st = .selfTest) ∧
    ((ow ho).passes 0x2000 wB ∧ bitOf wB.data 1 = true ∧ (ow ho).ow.handover = some wB.port ∧
      (ow ho).clock + 100000000 ≤ (ow ho).ow.handAt + 100000000 ∧ (ow ho).clock + 99999999 < (ow ho).ow.handAt + 100000000 ∧ (ow ho).ow.owner ≠ some wB.port ∧
      (ow ho).ow.handAt + 100000000 < (ow ho).clock + 100000001 ∧ (ow two).ow.handover ≠ some wB.port) ∧
    ((ow el).ow.owner = none ∧ (ow el).ow.handover = none ∧ (ow el).dev.st ≠ .selfTest ∧ (ow el).ow.electEnd ≤ (ow el).clock + 2000000 ∧
      (ow el).clock + 1999999 < (ow el).ow.electEnd ∧ (ow el).ow.candA = true ∧ (ow el).ow.candB = true) ∧
    ((ow two).passes 0x3008 (wrA 0x101) ∧ bitOf (wrA 0x101).data 8 = true ∧ bitOf (wrA 0x101).data 0 = true ∧
      bitOf (wrA 0x100).data 0 = false ∧ (ow two).ow.handover = none ∧ (ow ho).ow.handover.isSome = true ∧
      (ow ho).passes 0x3008 (wrA 0x101)) ∧
    ((ow ho).ready ∧ (ow ho).ow.handAt + 100000000 ≤ (ow ho).clock + 100000000) ∧
    (let soon : OwnSt := { soon := true, candA := true, candB := true }
     let taken : OwnSt := { owner := some .a, taker := some .b, candB := true }
     (ow soon).up = true ∧ (ow soon).settled ∧ (ow soon).ow.electing = false ∧ (ow soon).ow.taker = none ∧ (ow soon).ow.soon = true ∧
       (ow soon).ow.owner = none ∧ (ow soon).dev.st ≠ .selfTest ∧ (ow soon).ow.candA = true ∧ (ow soon).ow.candB = true ∧
       (ow taken).up = true ∧ (ow taken).settled ∧ (ow taken).ow.electing = false ∧ (ow taken).ow.taker = some .b ∧
       (ow taken).ow.owner ≠ some .b) ∧
    ((ow two).ow.owner = some .a ∧ ((ow two).port .a).portEn = true ∧
      (ow two).clock + 999999 < ((ow two).port .a).genAt + (ow two).fld 0x3004 0 10 * 1000000 ∧ run0.ow.owner = some .a ∧ (run0.port .a).portEn = false) := by
  decide +kernel

theorem witness_WhorlPresentsSources :
    let pen := withPort run0 { port1 with src := [(0x50, .pending), (0x51, .pending)] }
    let e := fun (n : Nat) => ({ src := n, prio := 1, at_ := 0 } : StackEntry)
    let act := withPort run0 { port1 with src := [(0x50, .active)], stack := [e 0x40, e 0x50] }
    let full := withPort run0 { port1 with src := [(0x50, .pending)], stack := List.replicate 64 (e 1) }
    let new := withPort run0 { port1 with src := [(0x50, .pending)], fresh := [0x50], freshAt := 5 }
    ((new.port .a).freshAt = new.clock + 5 ∧ (new.port .a).fresh.contains 0x50 = true ∧ (new.port .a).freshAt ≠ new.clock + 6 ∧
      (pen.port .a).fresh = []) ∧
    (run1.ready ∧ (⟨.a, false⟩ : Rd).full = false ∧ okRd.full = true ∧ Tbl.wf .inactive (run1.port .a).src = true ∧
      (∀ j, Tbl.lookD (run1.port .a).src j SrcState.inactive ≠ .pending)) ∧
    (full.ready ∧ (∃ j, Tbl.lookD (full.port .a).src j SrcState.inactive = .pending) ∧ 64 ≤ (full.port .a).stack.length) ∧
    (pen.ready ∧ Tbl.wf .inactive (pen.port .a).src = true ∧ (pen.port .a).stack.length < 64 ∧
      Tbl.lookD (pen.port .a).src 0x50 SrcState.inactive = .pending ∧
      (∀ j, Tbl.lookD (pen.port .a).src j SrcState.inactive = .pending →
        pen.ctx.prio j < pen.ctx.prio 0x50 ∨ (pen.ctx.prio j = pen.ctx.prio 0x50 ∧ 0x50 ≤ j))) ∧
    (act.ready ∧ act.passes 0x4008 (wrA 0x50) ∧ (act.port .a).stack = [e 0x40] ++ [e 0x50] ∧ (e 0x50).src = fieldOf (wrA 0x50).data 0 10 ∧
      (e 0x50).src ≠ fieldOf (wrA 0x40).data 0 10 ∧ (run1.port .a).stack = [] ∧ run1.passes 0x4008 (wrA 0)) ∧
    (run1.passes 0x400C (wrA 1) ∧ bitOf (wrA 1).data 0 = true ∧ run1.passes 0x4000 (wrA 0x3EF) ∧
      (0x380 ≤ fieldOf (wrA 0x3EF).data 0 10 ∧ fieldOf (wrA 0x3EF).data 0 10 < 0x3F0) ∧
      ¬(fieldOf (wrA 0x3F0).data 0 10 < 0x3F0) ∧ fieldOf (⟨.b, 15, 0x37F⟩ : Wr).data 0 10 < 0x380) ∧
    ((act.port .a).stack = e 0x40 :: [e 0x50] ∧ (e 0x40).at_ + act.fld 0x4400 0 10 * 1000000 < act.clock + 2000000000 ∧
      act.clock + 0 ≤ (e 0x40).at_ + act.fld 0x4400 0 10 * 1000000) := by
  refine ⟨by decide +kernel, ⟨?_, ?_, ?_, ?_, fun j => ?_⟩, ⟨?_, ⟨0x50, ?_⟩, ?_⟩, ⟨?_, ?_, ?_, ?_, fun j h => ?_⟩, ?_, ?_, ?_⟩
  case refine_5 => exact fun h => by cases h
  case refine_13 =>
    have hp : ∀ k, k = 0x50 ∨ k = 0x51 → (withPort run0 { port1 with src := [(0x50, .pending), (0x51, .pending)] }).ctx.prio k = 0 := by
      intro k hk; rcases hk with rfl | rfl <;> decide +kernel
    have hj : j = 0x50 ∨ j = 0x51 := by
      by_contra hn
      rw [not_or] at hn
      have : Tbl.lookD ((withPort run0 { port1 with src := [(0x50, .pending), (0x51, .pending)] }).port .a).src j SrcState.inactive
          = .inactive := by
        show (Tbl.look [(0x50, SrcState.pending), (0x51, .pending)] j).getD .inactive = .inactive
        simp [Tbl.look, hn.1, hn.2]
      rw [this] at h
      cases h
    exact .inr ⟨by rw [hp j hj, hp _ (.inl rfl)], by omega⟩
  all_goals decide +kernel

/-- RUN, a member of a ply of three with number 0 and a role. -/
def ply0 (p : PlySt) : State := { withLive run1 0xB0000 1 with dev := { st := .run, plyId := 0 }, pl := p }
/-- A heartbeat. -/
def beat (m role : Nat) : Beat := ⟨m, role, false, 3, 3, 7, 0, false, 0, 0, 0, 0⟩

theorem witness_PlyCommandsAndJoining :
    let d : Desc := okDesc
    let act := ply0 { role := .acting, mems := [(1, { last := some (beat 1 2), inView := true })] }
    let sby := ply0 { role := .standby }
    (run1.admits d ∧ run1.plyMember = false ∧ run1.canComplete d) ∧
    (sby.admits d ∧ sby.plyMember = true ∧ sby.pl.role ≠ .acting ∧ sby.canComplete d) ∧
    (act.admits d ∧ act.plyMember = true ∧ act.pl.role = .acting ∧ act.canComplete d ∧ act.roleOf 1 = 2 ∧
      act.view.contains 1 = true ∧ act.isDemoted 1 = false ∧ act.roleOf 2 ≠ 2 ∧ 2 < (3 : Fin 4).val) ∧
    ((0 : Fin 4).val = sby.own ∧ sby.dev.st = .run ∧ sby.pl.role = .standby ∧ sby.actor = none ∧ sby.pl.force = none ∧
      act.actor = some 0) ∧
    (let j : PlySt := { role := .joining, installed := [0], syncTurns := 64, syncFails := 1 }
     (ply0 j).ready ∧ j.role = .joining ∧ j.installed ≠ [] ∧ 64 ≤ j.syncTurns ∧ j.syncFails < 2 ∧
       2 ≤ ({ j with syncFails := 2 } : PlySt).syncFails ∧ ({ j with syncTurns := 63 } : PlySt).syncTurns < 64) := by
  decide +kernel

/-- A device whose link CU (2) and link PL (0) are UP. -/
def linked (s : State) : State := { s with cs := { links := [(0, { st := .up }), (2, { st := .up })], upLink := 1 } }
/-- The header of a cell of a link. -/
def hdr (l : Fin 4) : CellHdr := ⟨l, true, true, false, 0, 0, 0⟩

theorem witness_CellsAreTaken :
    let s : State := { linked run1 with tm := { srcActive := 3 } }
    let p := linked (ply0 { role := .joining })
    let e : Int := ((0 : BitVec 64) + BitVec.ofNat 64 (((s.now + BitVec.ofNat 64 1000 - 1).toNat - 0) / 2) - (s.now + BitVec.ofNat 64 1000)).toInt
    ((Instr.timeCell 0 (hdr 2) 0 0 0 0).cell = some (0, hdr 2) ∧ s.ready ∧ (s.link 1).st ≠ .up ∧ (s.link 2).st = .up ∧
      ({ hdr 2 with crcOk := false } : CellHdr).crcOk = false ∧ ({ hdr 2 with kindOk := false } : CellHdr).kindOk = false) ∧
    (p.ready ∧ (p.link 0).st = .up ∧ p.plyLink 0 = true ∧ (hdr 0).tag = p.plTag ∧ (hdr 0).turn16 = (p.elapse 0).turnSent 0 ∧
      ({ hdr 0 with tag := 1 } : CellHdr).tag ≠ p.plTag) ∧
    (s.plyLink 2 = false ∧ s.chooseUp = s.cs.upLink ∧ (s.link 2).peerActing = (hdr 2).acting ∧ (1 : BitVec 64) ≠ 0 ∧
      s.timeLink 2 (hdr 2).acting = true ∧ s.dev.st = .run ∧ (0 : BitVec 48) = s.turnAt (s.now + BitVec.ofNat 64 1000 - 1) ∧
      2 * e.natAbs < s.lenUs * 1000 ∧ s.tm.loadClk ≠ some (s.clock + 1000) ∧
      run1.tm.srcActive ≠ 3 ∧ s.lenUs * 1000 ≤ 2 * (500000 : Int).natAbs ∧ (1 : BitVec 48) ≠ s.turnAt (s.now + BitVec.ofNat 64 1000 - 1) ∧
      s.tm.mismatch = false ∧ ({ srcActive := 3, loadClk := some 1000 } : TurnSt).loadClk = some (s.clock + 1000)) ∧
    (let c : State := { s with dev := { s.dev with st := .setUp } }
     c.ready ∧ c.timeLink 2 (hdr 2).acting = true ∧ c.chooseUp = c.cs.upLink ∧ c.dev.st = .setUp ∧ c.tm.stepped = false ∧
       1000 < (1001 : Int).natAbs) ∧
    ((beat 1 4).tag = p.plTag ∧ (beat 1 4).turn = p.tm.turn ∧ (beat 1 4).role ≤ 4 ∧ p.others.contains (beat 1 4).member = true) ∧
    (({ tm := { agreeDone := false, releaseDone := false } } : State).tm.agreeDone = false ∧ p.tm.agreeDone = true ∧
      p.tm.releaseDone = true ∧ p.rep.first.contains 0x30B = false) ∧
    ((1 : Fin 256).val = ((s.link 2).ackIn + 1) % 256 ∧ (0 : Fin 256).val = ((({ ackIn := 255 } : LinkSt)).ackIn + 1) % 256 ∧
      (2 : Fin 256).val ≠ ((s.link 2).ackIn + 1) % 256 ∧ p.pl.role = .joining ∧ p.pl.role ≠ .acting) := by decide +kernel

theorem witness_CellsAreTaken_relayed :
    let s := linked run1
    let on : State := { s with cs := { s.cs with rlyLive := [(5, [3, 0, 0])] } }
    let up : State := { on with cs := { on.cs with rlyLive := [(5, [1, 0, 0])] } }
    let long : Frame := { okFrame with dlc := 15, data := List.replicate 64 0 }
    (long.rtr = false ∧ 32 < dlcBytes long.fdf long.dlc.toNat ∧ ¬(32 < dlcBytes okFrame.fdf okFrame.dlc.toNat)) ∧
    (up.ready ∧ up.plyLink 2 = false ∧ (up.link 2).st = .up ∧ up.chooseUp = up.cs.upLink ∧ up.acts = true ∧ up.relayOn 5 = true ∧
      fieldOf (up.rly0 5) 1 2 ≠ 2 ∧ up.relayOut 5 = some 2 ∧ 0 < up.sharedFree ∧ 0 < up.bobFree ∧ on.relayOut 5 = none ∧
      fieldOf (on.rly0 5) 1 2 ≠ 2 ∧ s.relayOn 5 = false) ∧
    (ply0 { role := .standby }).acts = false ∧
    (let lo : State := { s with cs := { s.cs with rlyLive := [(5, [0x145, 8, 0])] } }
     lo.relayOn 5 = true ∧ fieldOf (lo.rly0 5) 1 2 = 2 ∧ lo.acts = true ∧ lo.stream (fieldOf (lo.rly0 5) 4 12) = none ∧
       okFrame.data.length ≠ fieldOf (lo.rly0 5) 16 7 ∧
       ({ lo with dr := { streams := [(20, txStream)] } } : State).stream (fieldOf (lo.rly0 5) 4 12) = some txStream) ∧
    (Tbl.look s.cs.relPart (4096 * 2 + 5) = none ∧
      Tbl.look ({ s with cs := { s.cs with relPart := [(4096 * 2 + 5, (long, bob1.tag))] } } : State).cs.relPart (4096 * 2 + 5) =
        some (long, bob1.tag)) := by
  decide +kernel

theorem witness_CellsAreTaken_creel_full :
    ({ run1 with cr := { bobs := (List.range 65536).map (fun i => (i, bob1)) } } : State).bobFree = 0 := by
  simp [State.bobFree, bobbinCount]

theorem witness_LinksTrainAndSend :
    let x : TrainInfo := ⟨1, 1, 0, 3, false, 0, 3⟩
    let on := fun (v : LinkSt) => withLive (withLive { run1 with cs := { links := [(3, v)] } } 0xB8000 1) 0xB84C0 1
    ((hdr 3).link = 3 ∧ run1.linkOn 3 = false ∧ (on {}).linkOn 3 = true ∧ ((on {}).link 3).st = .down ∧ (on {}).ready) ∧
    (let v : LinkSt := { st := .training, trained := some x, trainRun := 8 }
     v.trained = some x ∧ 8 ≤ v.trainRun ∧ x.lanes % 8 = 3 ∧ ({ x with lanes := 7 } : TrainInfo).lanes % 8 = 7 ∧
       ({ v with trainRun := 7 } : LinkSt).trainRun < 8 ∧ (on { v with st := .incompatible }).linkOn 3 = true ∧
       (on v).ready ∧ (on v).linkOn 3 = true ∧ v.st = .training ∧ (on v).peerReason 3 x = 2 ∧
       (on v).peerReason 3 { x with pos := 1 } = 0 ∧ ({ x with lanes := 5 } : TrainInfo).lanes / 4 % 2 = 1) ∧
    (let v : LinkSt := { st := .up }
     v.st = .up ∧ 8000 ≤ (on v).clock + 8000 - v.lastCell ∧ (on v).clock + 7999 - v.lastCell < 8000) ∧
    (let v : LinkSt := { st := .training, leftUp := some 0 }
     v.st = .training ∧ v.leftUp = some 0 ∧ 100000000 ≤ (on v).clock + 100000000 - 0) ∧
    (run1.passes (0xB840C + 64 * 3) (wrA 1) ∧ bitOf (wrA 1).data 0 = true ∧ ({ st := .failed } : LinkSt).st = .failed) ∧
    (run1.passes 0xB8030 (wrA 0x13C80) ∧ bitOf (wrA 0x13C80).data 16 = true ∧ bitOf (wrA 0x13C80).data (10 + 3) = true) := by
  decide +kernel

theorem witness_LinksTrainAndSend_slots :
    let slot := fun (s : State) (v : Word) => withLive s 0xB8100 v
    let p := linked (ply0 { role := .joining })
    let due := fun (s : State) => decide ((s.elapse 0).reached (s.offsetAt (fieldOf (s.live 0xB8100) 4 14)) = true)
    let relay : State := { slot (linked run1) 0x00100004 with
      cs := { links := [(2, { st := .up })], upLink := 1, rlyLive := [(5, [1, 0, 0])], queue := [(5, 0)] }
      cr := { bobs := [(0, bob1)] } }
    (run1.ready ∧ fieldOf (run1.live 0xB8100) 0 3 = 0 ∧ due (slot run1 0x11) = false) ∧
    (due (slot run1 1) = true ∧ fieldOf ((slot run1 1).live 0xB8100) 0 3 = 1) ∧
    (let a : State := slot { p with tm := { capDone := true, agreeDone := false } } 2
     a.ready ∧ due a = true ∧ fieldOf (a.live 0xB8100) 0 3 = 2 ∧ a.dev.st = .run ∧ a.tm.capDone = true ∧ a.tm.agreeDone = false ∧
       a.pl.sentAgree = false ∧ a.plyLink 0 = true ∧ (a.link 0).st = .up) ∧
    (let a : State := slot { p with tm := { releaseDone := false } } 2
     a.tm.agreeDone = true ∧ a.evalComplete = true ∧ a.tm.releaseDone = false ∧ a.pl.sentOuts = false) ∧
    (let a := slot (linked (ply0 { role := .joining, beat := some (beat 0 1) })) 3
     due a = true ∧ fieldOf (a.live 0xB8100) 0 3 = 3 ∧ a.pl.beat = some (beat 0 1)) ∧
    (relay.ready ∧ due relay = true ∧ fieldOf (relay.live 0xB8100) 0 3 = 4 ∧ relay.acts = true ∧ relay.cs.queue = [(5, 0)] ∧
      relay.relayOut 5 = some 2 ∧ relay.bob 0 = some bob1 ∧
      relayCells bob1.frame ≤ fieldOf (relay.live 0xB8100) 20 12 ∧ bob1.holders ≤ 1) ∧
    (let lost : State := { relay with cs := { relay.cs with rlyLive := [(5, [3, 0, 0])] } }
     lost.ready ∧ due lost = true ∧ lost.relayOut 5 = none ∧ lost.cs.queue = [(5, 0)] ∧ lost.bob 0 = some bob1) ∧
    ((slot setUp0 2).ready ∧ due (slot setUp0 2) = true ∧ fieldOf ((slot setUp0 2).live 0xB8100) 0 3 = 2 ∧ setUp0.dev.st ≠ .run ∧
      ({ run1 with tm := { capDone := false } } : State).tm.capDone = false ∧
      ({ run8 { mode := .auto, due := true } with tm := { capDone := false } } : State).evalComplete = false) ∧
    (due (slot run1 5) = true ∧ fieldOf ((slot run1 5).live 0xB8100) 0 3 = 5 ∧ run1.plyMember = false) := by decide +kernel

theorem witness_SliversFlushAndRowsAreScrubbed :
    let slv := fun (n : Nat) (v : Sliver) => ({ run0 with mm := { slv := [(n, v)] } } : State)
    let x : SlvRec := { rec1 with bob := 0 }
    let e : RowErr := ⟨5, 1, false, 0, 7, 0⟩
    let tx : State := { run3 { chan1 with ready := [rdy1] } with mm := { slv := [(1, { w := 3, recs := [x], flushing := true })] } }
    (run0.ready ∧ run0.passes (0xC0004 + 16 * 35) (wrA 1) ∧ bitOf (wrA 1).data 0 = true ∧ (run0.sliver 0).flushing = false) ∧
    (((slv 0 { w := 3, recs := [rec1], flushing := true }).sliver 0).flushing = true ∧
      ((slv 1 { flight := some rec1, flushing := true }).sliver 1).flight.isSome = true ∧
      ((slv 1 { flushing := true }).sliver 1).flight = none ∧ ((slv 1 { flushing := true }).sliver 1).recs = []) ∧
    (tx.ready ∧ (tx.sliver 1).flushing = true ∧ (tx.sliver 1).flight = none ∧ (tx.sliver 1).recs = [x] ∧
      (tx.ch x.ch).readyOf x.bob = some rdy1) ∧
    ((e.row.val + 32768 - run0.mm.nextRow) % 32768 < run0.fld 0xC8000 0 13 ∧ e.region.val ≠ 0 ∧ e.ue = false ∧ 0 < e.ce ∧
      min 255 ((run0.row e.row.val).ce + e.ce) < run0.fld 0xC8000 16 8 ∧
      run0.fld 0xC8000 16 8 ≤ min 255 ((run0.row e.row.val).ce + 255) ∧ run0.rp.copy = none ∧ run0.rp.rowQueue = [] ∧
      run0.freeSpareRow e.row.val = some 0 ∧ ({ e with ue := true, ce := 0 } : RowErr).ue = true ∧
      ({ e with region := 7 } : RowErr).region.val = 7 ∧ ({ e with region := 10 } : RowErr).region.val = 10) ∧
    (let rx : State := { run0 with cr := { bobs := [(e.item, { bob1 with cls := .rx })] } }
     rx.ready ∧ ({ e with region := 1, ue := true, ce := 0 } : RowErr).region.val = 1 ∧
       rx.bob e.item = some { bob1 with cls := .rx }) ∧
    (let c : RowCopy := ⟨5, 0, false⟩
     ({ run0 with rp := { copy := some c } } : State).rp.copy = some c) := by decide +kernel

theorem witness_FieldDieRecovers :
    let s : State := { run0 with fa := { posted := some ⟨1, 0xA8000, 0⟩, xfers := [{ kind := .posted, at_ := 0 }] } }
    let last : State := { s with fa := { s.fa with xfers := [{ kind := .posted, at_ := 0, tries := 3 }] } }
    let rst : State := { s with fa := { field := .inReset, attempts := 3 } }
    (s.ready ∧ s.fa.field ≠ .inReset ∧ (s.elapse 255000).bridgeLate = some ⟨.posted, 0, 0⟩ ∧
      0 < s.fld 0xF0004 8 3 ∧ s.rep.first.contains 0x20005 = false) ∧
    ((last.elapse 255000).bridgeLate = some ⟨.posted, 0, 3⟩ ∧ s.fld 0xF0004 8 3 ≤ 3 ∧ (run0.elapse 0).bridgeLate = none) ∧
    (rst.ready ∧ rst.fa.field = .inReset ∧ 100000 ≤ rst.clock + 100000 - rst.fa.resetAt ∧ rst.fa.holdDone = false ∧
      ({ rst.fa with holdDone := true } : FaultSt).holdDone = true ∧ 1000000 ≤ rst.clock + 1000000 - rst.fa.resetAt ∧
      ({ rst.fa with attempts := 2 } : FaultSt).attempts < 3 ∧ 3 ≤ rst.fa.attempts ∧ rst.dev.st = .run ∧
      rst.clock + 999999 - rst.fa.resetAt < 1000000) := by decide +kernel

theorem witness_SpindlesAreRelieved :
    let doff := run2 { chan1 with idleTurns := 16 }
    let s := withLive doff 0xF0004 0x00100314
    let res : State := { run0 with sps := [(0, { role := .active, inReset := some 0 })] }
    (s.ready ∧ (s.ch 0).st ≠ .off ∧ (s.ch 0).st ≠ .boHold ∧ (s.ch 0).st ≠ .boWait ∧ (s.ch 0).st ≠ .quarantined ∧
      s.fld 0xF0004 16 12 ≤ (s.ch 0).idleTurns ∧ s.fld 0xF0004 28 2 ≠ 1 ∧ (run0.ch 0).st = .off) ∧
    (doff.ready ∧ doff.fld 0xF0004 16 12 ≤ (doff.ch 0).idleTurns ∧ doff.fld 0xF0004 28 2 = 1 ∧ doff.lowestSpare = some 16 ∧
      doff.rp.doff = none) ∧
    (res.ready ∧ (res.spindle 0).inReset = some 0) ∧
    (run0.spOf 3 = 3 ∧ (∀ i, i < 3 → run0.spOf i ≠ 3) ∧ run0.lowestSpare = some 16 ∧ (∀ c, c < 16 → run0.spOf c ≠ 17) ∧
      (run0.spindle 17).role = .spare ∧
      (({ run0 with sps := [(17, { role := .retired })] } : State).spindle 17).role ≠ .spare) := by decide +kernel

theorem witness_DoffsAgingAndFuses :
    let d : Doff := ⟨0, 16, true, true, 64⟩
    let s : State := { run2 { chan1 with wire := .gap } with rp := { doff := some d } }
    let none_ : State := { run0 with sps := [(16, { role := .retired }), (17, { role := .retired })] }
    let b : Burn := ⟨0, 5, false⟩
    (run0.ready ∧ run0.passes 0xF800C (wrA 0x101F0) ∧ bitOf (wrA 0x101F0).data 16 = true ∧
      fieldOf (wrA 0x101F0).data 4 5 = 0x1F ∧ run0.rp.doff = none ∧ run0.lowestSpare = some 16 ∧
      fieldOf (wrA 0x10110).data 4 5 = 17 ∧ run0.isSpare 17 = true ∧ fieldOf (wrA 0x10010).data 4 5 = 1 ∧ run0.isSpare 1 = false ∧
      s.rp.doff.isSome = true ∧ none_.lowestSpare = none ∧ none_.rp.exhausted.contains (1, none_.spOf 0) = false) ∧
    (s.ready ∧ s.rp.doff = some d ∧ d.ready = true ∧ (s.ch d.ch).wire = .gap ∧ d.target ≠ s.spOf d.ch ∧ 64 ≤ d.turns ∧
      ({ d with turns := 63 } : Doff).turns < 64 ∧ ({ d with ready := false } : Doff).ready = false ∧
      (({ s with chs := [(0, {})] } : State).ch d.ch).st = .off ∧
      (({ s with chs := [(0, { chan1 with st := .boWait })] } : State).ch d.ch).st.busOff = true ∧ (s.ch d.ch).st.part = true) ∧
    ((withLive run0 0xF8000 0x03E80001).bit 0xF8000 1 = false ∧ 79 < run0.fld 0xF8004 0 10 ∧ 49 < run0.fld 0xF8004 16 10 ∧
      run0.rp.warned.contains 0 = false) ∧
    (run0.passes 0xF8008 (wrA 1) ∧ bitOf (wrA 1).data 0 = true ∧ run0.rp.queue = [] ∧ run0.rp.burn = none ∧ run0.dev.st = .run ∧
      Tbl.firstFree run0.rp.fuses 0 < 256) ∧
    (({ burn := some b } : RepairSt).burn = some b ∧ b.half = false ∧ ({ b with half := true } : Burn).half = true) := by
  decide +kernel

/-! The tag of a key blob is 8 bytes whatever the device's own key is, so a blob with the right tag exists. -/

theorem aesNextKey_length (k : List Byte) (rc : Byte) (h : k.length = 16) : (aesNextKey k rc).length = 16 := by
  simp [aesNextKey, xorBytes, h]

theorem aesRounds_length (n : Nat) (k : List Byte) (rc : Byte) (x : List Byte) (h : k.length = 16) :
    (aesRounds (n + 1) k rc x).length = 16 := by
  induction n generalizing k rc x with
  | zero => simp [aesRounds, xorBytes, aesSubShift, aesNextKey_length k rc h]
  | succ n ih => exact ih _ _ _ (aesNextKey_length k rc h)

theorem leBytes_leNat (l : List Byte) : leBytes l.length (leNat l) = l := by
  induction l with
  | nil => rfl
  | cons b l ih =>
    have h : leNat (b :: l) = b.toNat + 256 * leNat l := rfl
    have hb := b.isLt
    rw [List.length_cons, leBytes, h]
    congr 1
    · apply BitVec.eq_of_toNat_eq
      simp
      omega
    · rw [show (b.toNat + 256 * leNat l) / 256 = leNat l by omega, ih]

theorem leNat_lt (l : List Byte) : leNat l < 256 ^ l.length := by
  induction l with
  | nil => exact Nat.one_pos
  | cons b l ih =>
    have h : leNat (b :: l) = b.toNat + 256 * leNat l := rfl
    have hb := b.isLt
    rw [h, List.length_cons, Nat.pow_succ]
    omega

theorem eightBytes (l : List Byte) (h : l.length = 8) : ∃ t : BitVec 64, l = leBytes 8 t.toNat := by
  have hl := leNat_lt l
  have h8 := leBytes_leNat l
  rw [h] at hl h8
  have h64 : (256 : Nat) ^ 8 = 2 ^ 64 := by norm_num
  rw [h64] at hl
  exact ⟨BitVec.ofNat 64 (leNat l), by rw [BitVec.toNat_ofNat, Nat.mod_eq_of_lt hl, h8]⟩

theorem aesCmac_length (key msg : List Byte) (hk : key.length = 16) (hm : msg.length = 17) : (aesCmac key msg).length = 16 := by
  have h : ∀ x, (aes128 key x).length = 16 := fun x => aesRounds_length 9 _ _ _ hk
  have h2 : ∀ l : List Byte, (cmacDouble l).length = 16 := fun l => by simp [cmacDouble, beBytes, leBytes]
  have h3 : ∀ l : List Byte, (fitBytes 16 l).length = 16 := fun l => by simp [fitBytes]
  simp [aesCmac, cmacChain, xorBytes, hm, h, h2, h3]

/-- A blob for key slot 4. -/
def blob1 (t : BitVec 64) : KeyBody := ⟨4, 24, 0, t⟩

theorem blobTag_length (t : BitVec 64) : (blobTag (blob1 t)).length = 8 := by
  have hk : (wrapKey 2).length = 16 := aesRounds_length 9 _ _ _ (by simp [leBytes])
  rw [blobTag, List.length_take, aesCmac_length _ _ hk (by simp [leBytes])]
  rfl

theorem witness_KeysAreLoadedAndLocked :
    let lk : State := { run1 with locks := [(0x100010, 0x10)] }
    let x : KeyLoad := ⟨okDesc, 4, 0⟩
    let ld : State := { run1 with ks := { loads := [x] } }
    (run1.admits okDesc ∧ run1.canComplete okDesc ∧ ({ blob1 0 with blobLen := 23 } : KeyBody).blobLen.toNat ≠ 24) ∧
    (lk.admits okDesc ∧ lk.canComplete okDesc ∧ (blob1 0).blobLen.toNat = 24 ∧ lk.ksLocked 4 = true ∧ run1.ksLocked 4 = false) ∧
    (∃ t, blobTag (blob1 t) ≠ leBytes 8 (blob1 t).t.toNat) ∧ (∃ t, blobTag (blob1 t) = leBytes 8 (blob1 t).t.toNat) ∧
    (ld.ready ∧ ld.ks.loads = x :: [] ∧ (∀ e ∈ ld.ks.lockPend, e.1 ≠ x.slot) ∧ x.desc.cmpl = true ∧ ld.canComplete x.desc ∧
      ({ ld with ks := { loads := [x], lockPend := [(4, 0x10)] } } : State).ks.lockPend = [(x.slot, 0x10)]) ∧
    (run1.passes 0x100010 (wrA 0x10) ∧ run1.ks.loads = [] ∧ (wrA 0x10).data &&& ~~~(run1.lock 0x100010) ≠ 0 ∧
      bitOf (wrA 0x10).data 4 = true ∧ ld.loadingKey 4 = true ∧ ld.ksLocked 4 = false) ∧
    run1.ks.posted = none := by
  refine ⟨?_, ?_, ?_, ?_, ?_, ?_, rfl⟩
  case refine_3 =>
    by_contra hn
    rw [not_exists] at hn
    have h0 := not_not.mp (hn 0)
    have h1 := not_not.mp (hn 1)
    have h2 : blobTag (blob1 0) = blobTag (blob1 1) := rfl
    rw [h2, h1] at h0
    exact absurd h0 (by decide)
  case refine_4 =>
    obtain ⟨t, ht⟩ := eightBytes (blobTag (blob1 0)) (blobTag_length 0)
    exact ⟨t, ht⟩
  all_goals decide +kernel

theorem witness_HanksAreTracedAndTheTapSelects :
    let h : Hank := ⟨1, 0, 0, 0, 0, 0⟩
    let q := fun (r : Rep) => withLive { run1 with rep := { r with ports := [(0, port1)] } } 0x110000 0x00050003
    let s := q { hanks := [h] }
    let fin := q { hanks := [h], stopSeen := true, post := 5 }
    (run1.ready ∧ run1.rep.hanks = []) ∧
    (s.ready ∧ s.rep.hanks = h :: [] ∧ s.bit 0x110000 0 = true ∧ s.bit 0x110000 1 = true ∧ s.rep.frozen = false ∧
      s.rep.stopSeen = false ∧ s.rep.undrained = [] ∧ (withLive s 0x110018 0x50).bit 0x110018 6 = true ∧
      ((withLive s 0x110018 0x50).port (withLive s 0x110018 0x50).drainPort).canWrite = true ∧ s.bit 0x110018 6 = false ∧
      ({ hanks := [h] } : Rep).hanks = [h] ∧ run1.bit 0x110000 1 = false) ∧
    (fin.ready ∧ fin.rep.stopSeen = true ∧ fin.rep.frozen = false ∧ fin.fld 0x110000 16 16 ≤ fin.rep.post ∧
      (q { hanks := [h], stopSeen := true, post := 4 }).rep.post < fin.fld 0x110000 16 16) ∧
    (run1.passes 0x11002C (wrA 1) ∧ bitOf (wrA 1).data 0 = true) ∧
    ({ State.reset with dev := { st := .reset } } : State).dev.st = .reset ∧
    ({ State.reset with dev := { st := .off } } : State).dev.st = .off := by decide +kernel

theorem witness_ResetsReturnTheMachine :
    let off : State := { State.reset with dev := { st := .off, supplies := 0 } }
    let rst : State := { State.reset with dev := { st := .reset } }
    (run0.dev.st ≠ .off ∧ supplyBits 1 (0 : Fin 7).val false = 0) ∧
    (run0.up = true ∧ supplyBits run0.dev.supplies (6 : Fin 7).val false ≠ 0) ∧ off.dev.st = .off ∧
    (rst.dev.st = .reset ∧ supplyBits rst.dev.supplies (0 : Fin 7).val false ≠ 0 ∧ rst.dev.supplies = 127 ∧ rst.up = false) ∧
    (run0.steady ∧ run0.rp.burn = none ∧ ({ run0 with rp := { burn := some ⟨3, 7, true⟩ } } : State).rp.burn = some ⟨3, 7, true⟩) ∧
    ({ rst with dev := { st := .reset, supplies := 126 } } : State).dev.supplies ≠ 127 := by decide +kernel

/-- An image of one empty section, with a part number, a version, a length and a number of sections; `crc` is its CRC. -/
def image (part ver len n crc : Word) : List Byte :=
  let ws : List Word := [0x4947574D, ver ||| (n <<< 16), len, 1, part, 0x1234, 7, 0, 0, 0, 0, 0, 0, 0, 0, crc, 1, 0x50, 0, 0]
  ws.flatMap (fun w => leBytes 4 w.toNat) ++ List.replicate 48 0
/-- The CRC of an image. -/
def imageCrc (part ver len n : Word) : Word :=
  let l := image part ver len n 0
  crc32 (l.take 0x3C ++ (l.drop 0x40).take (len.toNat - 0x40))

theorem image_crc_word (part ver len n c : Word) : imgWord (image part ver len n c) 0x3C = c := by
  have h : imgWord (image part ver len n c) 0x3C = BitVec.ofNat 32 (leNat (leBytes 4 c.toNat)) := rfl
  rw [h]
  apply BitVec.eq_of_toNat_eq
  have := c.isLt
  simp [leBytes, leNat]
  omega

theorem image_crc_covered (n c : Word) :
    crc32 ((image 0x1618 1 0x80 n c).take 0x3C ++ ((image 0x1618 1 0x80 n c).drop 0x40).take 0x40) = imageCrc 0x1618 1 0x80 n := rfl

/-- An image that R574 accepts. -/
def goodImage : List Byte := image 0x1618 1 0x80 1 (imageCrc 0x1618 1 0x80 1)

theorem witness_SelfTestAndImage_accepted : imageBad goodImage = none ∧ (∀ x ∈ sectionsOf goodImage, x.len = 0) := by
  have hw : imgWord goodImage 0x3C = imageCrc 0x1618 1 0x80 1 := image_crc_word _ _ _ _ _
  have hl : (imgWord goodImage 8).toNat = 0x80 := by decide +kernel
  have hc : crc32 (goodImage.take 0x3C ++ (goodImage.drop 0x40).take 0x40) = imageCrc 0x1618 1 0x80 1 :=
    image_crc_covered _ _
  have hp : fieldOf (imgWord goodImage 0x10) 0 16 = 0x1618 := by decide +kernel
  have hv : fieldOf (imgWord goodImage 4) 0 8 = 1 := by decide +kernel
  have hn : fieldOf (imgWord goodImage 4) 16 16 = 1 := by decide +kernel
  have hs : sectionsOf goodImage = [⟨1, 0x50, 0, false⟩] := by decide +kernel
  have hr : headerResv goodImage = false := by decide +kernel
  refine ⟨?_, by rw [hs]; decide⟩
  have h40 : 0x80 - 0x40 = 0x40 := rfl
  simp only [imageBad, hw, hl, h40, hc, hp, hv, hn, hs, hr]
  rw [if_neg (by decide), if_neg (by decide), if_neg (by decide), if_neg (not_not.mpr rfl)]
  decide

theorem witness_SelfTestAndImage :
    let s : State := { setUp0 with dev := { st := .setUp, phase := 1 } }
    let im : State := { setUp0 with dev := { st := .setUp, phase := 1, magic := true } }
    let b : BootLeft := ⟨0x1234, []⟩
    let e : State := { setUp0 with dev := { st := .setUp, phase := 2, boot := some b, autoRun := true } }
    (State.reset.ready ∧ State.reset.dev.st = .selfTest ∧ State.reset.rp.result = 0 ∧ State.reset.rp.fuses = [] ∧
      State.reset.rp.soft = 0 ∧ (∀ n, n < 18 → (State.reset.spindle n).role ≠ .retired) ∧
      (0 : Fin 18) ∈ [(0 : Fin 18), 1, 2] ∧ (0 : Fin 18) ≠ 1) ∧
    (run0.dev.st ≠ .selfTest ∧ s.ready ∧ s.dev.phase = 1 ∧ s.dev.magic = false ∧ (0x4947574D : Word) ≠ 0) ∧
    (im.ready ∧ im.dev.phase = 1 ∧ im.dev.magic = true ∧ im.regs.dirty = 0) ∧
    (e.ready ∧ e.dev.boot = some b ∧ b.locks = [] ∧ e.dev.phase = 2 ∧ e.bootDrafting = false ∧ e.dev.autoRun = true ∧
      e.dev.refused = 0 ∧ e.dev.st = .setUp ∧
      ({ e with dr := { queue := [.open_ (.image 0 0) stream20] } } : State).bootDrafting = true) := by decide +kernel

theorem witness_SelfTestAndImage_refused :
    let part := fun (l : List Byte) => fieldOf (imgWord l 0x10) 0 16
    let ver := fun (l : List Byte) => fieldOf (imgWord l 4) 0 8
    let len := fun (l : List Byte) => (imgWord l 8).toNat
    let n := fun (l : List Byte) => fieldOf (imgWord l 4) 16 16
    part (image 0 1 0x80 1 0) ≠ 0x1618 ∧ (part (image 0x1618 2 0x80 1 0) = 0x1618 ∧ ver (image 0x1618 2 0x80 1 0) ≠ 1) ∧
    (ver (image 0x1618 1 0x7F 1 0) = 1 ∧ len (image 0x1618 1 0x7F 1 0) < 0x80 ∧ 0x200000 < len (image 0x1618 1 0x200001 1 0)) ∧
    (part (image 0x1618 1 0x80 0 0) = 0x1618 ∧ ver (image 0x1618 1 0x80 0 0) = 1 ∧ 0x80 ≤ len (image 0x1618 1 0x80 0 0) ∧
      len (image 0x1618 1 0x80 0 0) ≤ 0x200000 ∧ n (image 0x1618 1 0x80 0 0) = 0 ∧
      64 < n (image 0x1618 1 0x80 65 0)) := by decide +kernel

theorem word_ne_next (x : Word) : x ≠ x + 1 := by
  intro h
  have := congrArg BitVec.toNat h
  have hx := x.isLt
  simp at this
  omega

theorem witness_SelfTestAndImage_crc (x : Word) :
    (∀ c, crc32 ((image 0x1618 1 0x80 0 c).take 0x3C ++ ((image 0x1618 1 0x80 0 c).drop 0x40).take 0x40) = imageCrc 0x1618 1 0x80 0) ∧
    x = imgWord (image 0x1618 1 0x80 0 x) 0x3C ∧ x ≠ imgWord (image 0x1618 1 0x80 0 (x + 1)) 0x3C :=
  ⟨fun c => image_crc_covered _ c, (image_crc_word _ _ _ _ _).symm, by rw [image_crc_word]; exact word_ne_next x⟩

/-! ## Single steps -/

/-- The state after a command. -/
def after (c : Instr) (s : State) : State := outcomeState s (exec c s)

/-- R56: the boundary advances the turn number; its time is the one scheduled. -/
theorem test_boundary : (after .turnBoundary run0).tm.turn = 1 ∧ (after .turnBoundary run0).now = 1000000 := by decide +kernel

/-- R48: "A read of a LO word returns bits [31:0] and latches the high bits into the matching HI word". -/
theorem test_time_read :
    let t := after (.tbNowLoRead 5 okRd) { run0 with now := 0x100000002 }
    t.rep.out = [.regRead .a 0x10040 7] ∧ t.tbWord .a 0x10044 = 1 ∧ t.tbWord .b 0x10044 = 0 := by decide +kernel

/-- Table 2.3, step 4: "e = +1.5 µs ... The phase term is 93.75 ppm". -/
theorem test_phase_term : (TurnSt.accept {} true 1500 1000000 0).phaseTerm = 9375 / 100000000 := by decide +kernel

/-- Table 13.3, step 1: "w becomes 8,193 mod 8,192 = 1, and the producer's free space is 4,096 − span(1, 8,190) = 4,093". -/
theorem test_sliver_wraps :
    let v : Sliver := ({ w := 8190, r := 8190, m := 8190 } : Sliver).push rec1
    v.w = 1 ∧ v.freeWords = 4093 := by decide +kernel

/-- Table 9.9, step 3: at 9.0 A "the integrator rises by 0.000 03 per measurement". -/
theorem test_breaker :
    ((after (.feedMeasurement 0 2 9000 {} 0) (run7 { st := .on })).feed 2).acc = 3 / 100000 := by decide +kernel

/-- Chapter 15: "GAP_US is therefore 125, and HOP_US is 125 + 1 + 2 = 128 µs". -/
theorem test_relay_hop :
    let im : Img := (List.range 8).map (fun i => (0xB8100 + 4 * i, BitVec.ofNat 32 (4 + 16 * (125 * i) + 2 ^ 20 * 8)))
    gapOf im = 125 ∧ hopOf im = 128 := by decide +kernel

/-- R101 and Table 3.8: TEC passes 255, and the channel enters BUS_OFF_HOLD. -/
theorem test_bus_off :
    let t := after (.errorFlag 0 0 ⟨.bitRecessive, none, false, 0, false, []⟩) (run3 { chan2 with tec := 248 })
    (t.ch 0).st = .boHold ∧ (t.ch 0).holdLeft = 10 := by decide +kernel

/-- R371: the claim takes the lower number among sources of one priority. -/
theorem test_claim :
    let t := after (.whClaim 0 okRd false) (withPort run0 { port1 with src := [(0x50, .pending), (0x51, .pending)] })
    t.rep.out = [.regRead .a 0x4004 0x50] ∧ (t.port .a).stack.length = 1 := by decide +kernel

/-- R386: a write by the port that does not own is discarded and recorded. -/
theorem test_discard :
    let t := after (.registerWrite 0 0x10004 ⟨.b, 15, 500⟩) run0
    t.regs.discReason = 2 ∧ t.regs.discOff = 0x10004 ∧ t.shadow 0x10004 = 1000 := by decide +kernel

/-- R388, R395: a write goes to the shadow, and DV_COMMIT_NOW brings it into the live image. -/
theorem test_commit_now :
    let s := after (.registerWrite 0 0x10004 (wrA 2000)) setUp0
    let t := after (.commitAcceptance 0) (after (.dvCommitNow 0 (wrA 0x10000)) s)
    s.live 0x10004 = 1000 ∧ s.shadow 0x10004 = 2000 ∧ t.live 0x10004 = 2000 ∧ t.regs.dirty = 0 := by decide +kernel

/-- R343: a SEND by a port that does not own completes NOT_OWNER, status 0x3 of Table 10.11. -/
theorem test_send_not_owner :
    (after (.send 0 okDesc okSend) { run1 with ow := { owner := some .b } }).rep.out.any (fun o => match o with
      | .entry .a 0 _ _ _ (.completion c) => decide (c.status = 3) && decide (c.tag = 0x77)
      | _ => false) = true := by decide +kernel

end Sys2Proof.Tests
end

section
/-!
PROOFS. Turn and time (chapter 2, R48, R50, R52, R55, R58): the reads of a LO word and the loads of the time base and of the
turn number. First what a command at its instant answers, then one rule for all reads that latch, then the boundary schedule.
-/

namespace Sys2Proof

/-- The quotient rounded up is the least number of steps that reach a. -/
theorem ceilDiv_le_iff {a p c : Nat} (hp : 0 < p) : ceilDiv a p ≤ c ↔ a ≤ c * p := by
  unfold ceilDiv
  rw [← Nat.lt_succ_iff, Nat.div_lt_iff_lt_mul hp, Nat.succ_mul]
  omega

theorem le_ceilDiv_mul {p : Nat} (a : Nat) (hp : 0 < p) : a ≤ ceilDiv a p * p := (ceilDiv_le_iff hp).1 le_rfl

/-- Below the multiple that the rounding up gives, and from a on, there is no multiple. -/
theorem mod_ne_zero_of_lt_ceilDiv_mul {a p x : Nat} (hp : 0 < p) (ha : a ≤ x) (hx : x < ceilDiv a p * p) : x % p ≠ 0 := by
  intro h0
  obtain ⟨q, rfl⟩ := Nat.dvd_of_mod_eq_zero h0
  rw [Nat.mul_comm] at ha hx
  exact absurd ((ceilDiv_le_iff hp).2 ha) (Nat.not_le.2 (Nat.lt_of_mul_lt_mul_right hx))

theorem ceilDiv_eq_one {a p : Nat} (h0 : 0 < a) (h1 : a ≤ p) : ceilDiv a p = 1 :=
  Nat.div_eq_of_lt_le (by omega) (by omega)

namespace Machine

/-! ## What a command at its instant answers -/

/-- A command at a free instant answers what it makes of the state after the time that goes by, at the end of the instant. -/
theorem answers_at {c : Instr} {s : State} {dt : Nat} {g : State → State} {P : State → Prop} (hs : s.ready)
    (hc : exec c s = s.at_ dt g) (hP : P (g (s.elapse dt)).flush) : Answers c s P :=
  ⟨_, hc.trans (State.at_up hs.1), hP⟩

/-- So does a register write that passes the checks. -/
theorem answers_wr {c : Instr} {s : State} {dt off : Nat} {w : Wr} {g : State → State} {P : State → Prop} (hs : s.ready)
    (hw : s.passes off w) (hc : exec c s = s.at_ dt (fun u => u.wr off w g)) (hP : P (g (s.elapse dt)).flush) :
    Answers c s P := by
  refine answers_at hs hc ?_
  rwa [State.wr_pass ((State.wrReason_elapse hs.2.2 dt off w).trans hw)]

theorem State.elapse_settled {s : State} (hs : s.ready) (dt : Nat) : (s.elapse dt).settled := by
  unfold State.settled
  rw [State.elapse_rep hs.2.2]
  exact hs.2.1

/-! ## Reads that latch -/

section
variable (s : State) (off : Nat) (r : Rd) (lo : Word) (f : PortSt → PortSt)

/-- A read that latches touches only the reporting plane. -/
theorem State.latchRead_eq : s.latchRead off r lo f = { s with rep := (s.latchRead off r lo f).rep } := by
  unfold State.latchRead; simp only; split <;> rfl

theorem State.latchRead_out : (s.latchRead off r lo f).rep.out = s.rep.out ++ [.regRead r.port off lo] := by
  unfold State.latchRead; simp only; split <;> rfl

theorem State.latchRead_port_full (h : r.full = true) : (s.latchRead off r lo f).port r.port = f (s.port r.port) := by
  unfold State.latchRead
  rw [h]
  exact Rep.port_setPort_self _ _ _

theorem State.latchRead_port_partial (h : r.full = false) (p : Port) : (s.latchRead off r lo f).port p = s.port p := by
  unfold State.latchRead
  rw [h]
  rfl

theorem State.latchRead_port_other : (s.latchRead off r lo f).port r.port.other = s.port r.port.other := by
  cases h : r.full
  · exact s.latchRead_port_partial off r lo f h _
  · unfold State.latchRead
    rw [h]
    exact Rep.port_setPort_ne _ _ (by cases r.port <;> decide)

variable {s} in
theorem State.latchRead_settled (h : s.settled) : (s.latchRead off r lo f).settled := by
  unfold State.latchRead; simp only; split <;> exact h

end

/-- The rule of R48 for every LO word: a command that latches answers the low word, and a full read leaves in the reading port
what f makes of it. -/
theorem answers_latchRead {c : Instr} {s : State} {dt off : Nat} {r : Rd} {lo : Word} {f : PortSt → PortSt}
    {P : State → Prop} (g : State → State) (hs : s.ready) (hc : exec c s = s.at_ dt g)
    (hg : g (s.elapse dt) = (s.elapse dt).latchRead off r lo f)
    (hP : ∀ t, s.reads t dt r off lo → (r.full = true → t.port r.port = f (s.port r.port)) → P t) : Answers c s P := by
  have hport := State.elapse_port hs.2.2 dt
  refine answers_at hs hc ?_
  rw [hg, State.flush_rest (State.latchRead_settled off r lo f (State.elapse_settled hs dt))]
  refine hP _ ⟨State.latchRead_eq _ off r lo f, ⟨[.regRead r.port off lo], ?_, by simp⟩, ?_, fun h => ?_⟩ fun h => ?_
  · rw [State.latchRead_out, State.elapse_rep hs.2.2]
  · rw [State.latchRead_port_other, hport]
  · rw [State.latchRead_port_partial _ off r lo f h, hport]
  · rw [State.latchRead_port_full _ off r lo f h, hport]

section
variable {s t : State} {dt : Nat} {r : Rd} {off : Nat} {v : Word}

theorem State.reads.now_eq (h : s.reads t dt r off v) : t.now = (s.elapse dt).now :=
  (congrArg State.now h.1).trans rfl
theorem State.reads.tm_eq (h : s.reads t dt r off v) : t.tm = s.tm := (congrArg State.tm h.1).trans (s.elapse_tm dt)
theorem State.reads.regs_eq (h : s.reads t dt r off v) : t.regs = s.regs :=
  (congrArg State.regs h.1).trans (s.elapse_regs dt)

end

theorem State.elapse_shownFresh (s : State) (dt : Nat) : (s.elapse dt).shownFresh = s.shownFresh := by
  rw [State.elapse_eq]; rfl

theorem State.elapse_feed (s : State) (dt n : Nat) : (s.elapse dt).feed n = s.feed n := by
  rw [State.elapse_eq]; rfl

theorem lo32_ofNat (n : Nat) : lo32 (BitVec.ofNat 64 n) = BitVec.ofNat 32 n := BitVec.setWidth_ofNat_of_le (by decide) n

/-- Bits [47:32] of a number, from the high word that a read latched. -/
theorem hi32_ofNat_mod (n : Nat) : (hi32 (BitVec.ofNat 64 n)).toNat % 65536 = n / 2 ^ 32 % 2 ^ 16 := by
  simp only [hi32, BitVec.extractLsb'_toNat, BitVec.toNat_ofNat, Nat.shiftRight_eq_div_pow]
  omega

/-- KS_FR_HI shows bits [47:32] of what the reading port latched. -/
theorem State.ksWord_freshHi (t : State) (p : Port) : t.ksWord p 0x100028 = BitVec.ofNat 32 ((t.port p).frHi.toNat % 65536) := by
  simp [State.ksWord, packWord]

/-- FD_Fn_ENERGY_HI shows the reading port's latch of feed n. -/
theorem State.fdWord_energyHi (t : State) (p : Port) (n : Fin 8) :
    t.fdWord p (fdBase n.val + 0x98) = Tbl.lookD (t.port p).eHi n.val 0 := by
  have hne : fdBase n.val + 0x98 ≠ 0xA8804 := by unfold fdBase; omega
  have hn : (fdBase n.val + 0x98 - 0xA8000) / 256 = n.val := by unfold fdBase; omega
  have ho : (fdBase n.val + 0x98) % 256 = 0x98 := by unfold fdBase; omega
  unfold State.fdWord
  rw [if_neg hne]
  simp only [hn, ho]
  rfl

/-- Every HI word of a counter shows the one latch of the reading port (R411). -/
theorem State.ctWord_counterHi (t : State) (p : Port) {k : Nat} (hk : k < 7680) :
    t.ctWord p (0xD1004 + 8 * k) = (t.port p).ctLatch := by
  unfold State.ctWord
  repeat rw [if_neg (by omega)]
  rw [if_pos (by omega), if_neg (by omega)]

/-- And so does every HI word of a holding register. -/
theorem State.ctWord_holdingHi (t : State) (p : Port) {k : Nat} (hk : k < 7680) :
    t.ctWord p (0xE1004 + 8 * k) = (t.port p).ctLatch := by
  unfold State.ctWord
  repeat rw [if_neg (by omega)]
  rw [if_pos (by omega), if_neg (by omega)]

/-! ## The LO words, chapter by chapter -/

section
variable {s : State} (dt : Nat) (r : Rd)

theorem answers_tbLoReads (hs : s.ready) :
    Answers (.tbNowLoRead dt r) s (fun t =>
      s.reads t dt r 0x10040 (lo32 t.now) ∧ (r.full = true → t.tbWord r.port 0x10044 = hi32 t.now)) ∧
    Answers (.tbTurnLoRead dt r) s (fun t =>
      s.reads t dt r 0x10048 (lo32 (t.tm.turn.setWidth 64)) ∧
      (r.full = true → t.tbWord r.port 0x1004C = hi32 (t.tm.turn.setWidth 64))) ∧
    Answers (.tbBoundLoRead dt r) s (fun t =>
      s.reads t dt r 0x10050 (lo32 t.tm.bound) ∧ (r.full = true → t.tbWord r.port 0x10054 = hi32 t.tm.bound)) := by
  refine ⟨?_, ?_, ?_⟩
  · refine answers_latchRead (fun u => u.latchRead 0x10040 r (lo32 u.now) (fun q => { q with nowHi := hi32 u.now }))
      hs rfl rfl fun t ht hl => ?_
    rw [ht.now_eq]
    exact ⟨ht, fun hf => by simp [State.tbWord, hl hf]⟩
  · refine answers_latchRead (fun u => u.latchRead 0x10048 r (lo32 (u.tm.turn.setWidth 64))
      (fun q => { q with turnHi := hi32 (u.tm.turn.setWidth 64) }))
      hs rfl rfl fun t ht hl => ?_
    rw [State.elapse_tm] at ht hl
    rw [ht.tm_eq]
    exact ⟨ht, fun hf => by simp [State.tbWord, hl hf]⟩
  · refine answers_latchRead (fun u => u.latchRead 0x10050 r (lo32 u.tm.bound) (fun q => { q with boundHi := hi32 u.tm.bound }))
      hs rfl rfl fun t ht hl => ?_
    rw [State.elapse_tm] at ht hl
    rw [ht.tm_eq]
    exact ⟨ht, fun hf => by simp [State.tbWord, hl hf]⟩

theorem answers_ctSnapTimeLoRead (hs : s.ready) :
    Answers (.ctSnapTimeLoRead dt r) s (fun t =>
      s.reads t dt r 0xD0010 (lo32 t.regs.ctTime) ∧
      (r.full = true → t.ctWord r.port 0xD0014 = hi32 t.regs.ctTime)) := by
  refine answers_latchRead (fun u => u.latchRead 0xD0010 r (lo32 u.regs.ctTime) (fun q => { q with snapTimeHi := hi32 u.regs.ctTime }))
      hs rfl rfl fun t ht hl => ?_
  rw [State.elapse_regs] at ht hl
  rw [ht.regs_eq]
  exact ⟨ht, fun hf => by simp [State.ctWord, hl hf]⟩

theorem answers_ksFrLoRead (hs : s.ready) :
    Answers (.ksFrLoRead dt r) s (fun t =>
      s.reads t dt r 0x100024 (BitVec.ofNat 32 s.shownFresh) ∧
      (r.full = true → t.ksWord r.port 0x100028 = BitVec.ofNat 32 (s.shownFresh / 2 ^ 32 % 2 ^ 16))) := by
  refine answers_latchRead (fun u => u.latchRead 0x100024 r (lo32 (BitVec.ofNat 64 u.shownFresh))
      (fun q => { q with frHi := hi32 (BitVec.ofNat 64 u.shownFresh) }))
      hs rfl rfl fun t ht hl => ?_
  rw [State.elapse_shownFresh] at ht hl
  rw [lo32_ofNat] at ht
  exact ⟨ht, fun hf => by rw [State.ksWord_freshHi, hl hf, hi32_ofNat_mod]⟩

theorem answers_feedEnergyLoRead (hs : s.ready) (n : Fin 8) :
    Answers (.feedEnergyLoRead dt n r) s (fun t =>
      s.reads t dt r (fdBase n.val + 0x94) (lo32 (s.feed n.val).energy) ∧
      (r.full = true → t.fdWord r.port (fdBase n.val + 0x98) = hi32 (s.feed n.val).energy)) := by
  refine answers_latchRead (fun u => u.latchRead (fdBase n.val + 0x94) r (lo32 (u.feed n.val).energy)
      (fun q => { q with eHi := Tbl.put q.eHi n.val 0 (hi32 (u.feed n.val).energy) }))
      hs rfl rfl fun t ht hl => ?_
  rw [State.elapse_feed] at ht hl
  exact ⟨ht, fun hf => by rw [State.fdWord_energyHi, hl hf, Tbl.lookD_put_self]⟩

/-- A counter and its holding register latch alike, in the one latch that all HI words of the counters show (R411). -/
theorem answers_ctRead {c : Instr} {off v : Nat} (g : State → State) (hs : s.ready) (hc : exec c s = s.at_ dt g)
    (hg : g (s.elapse dt) = (s.elapse dt).ctRead off r v) :
    Answers c s (fun t =>
      s.reads t dt r off (BitVec.ofNat 32 v) ∧
      (r.full = true → ∀ k, k < 7680 →
        t.ctWord r.port (0xD1004 + 8 * k) = BitVec.ofNat 32 (v / 2 ^ 32 % 2 ^ 16) ∧
        t.ctWord r.port (0xE1004 + 8 * k) = BitVec.ofNat 32 (v / 2 ^ 32 % 2 ^ 16))) := by
  refine answers_latchRead g hs hc hg fun t ht hl => ⟨ht, fun hf k hk => ?_⟩
  rw [State.ctWord_counterHi t _ hk, State.ctWord_holdingHi t _ hk, hl hf]
  exact ⟨rfl, rfl⟩

end

/-- Settles O6: every read of a LO word is one latching read (`answers_latchRead`), of a value that the time passing leaves as it
was but for the time base itself. -/
theorem readsOfLowWordsLatchHighWords : Obligations.ReadsOfLowWordsLatchHighWords := by
  unfold Obligations.ReadsOfLowWordsLatchHighWords
  intro s dt r hs
  obtain ⟨hnow, hturn, hbound⟩ := answers_tbLoReads dt r hs
  refine ⟨hnow, hturn, hbound, answers_ctSnapTimeLoRead dt r hs, answers_ksFrLoRead dt r hs,
    answers_feedEnergyLoRead dt r hs, fun c hc => ⟨?_, ?_⟩⟩
  · refine answers_ctRead dt r (fun u => if c < counterCount then u.ctRead (0xD1000 + 8 * c) r (u.rep.counter c) else u)
      hs rfl ?_
    rw [if_pos (show c < counterCount from hc), State.elapse_rep hs.2.2]
  · refine answers_ctRead dt r
      (fun u => if c < counterCount then u.ctRead (0xE1000 + 8 * c) r (Tbl.lookD u.regs.held c 0) else u) hs rfl ?_
    rw [if_pos (show c < counterCount from hc), State.elapse_regs]

/-! ## The boundary schedule -/

/-- R49, R50 with the wrap of R42: from b on, the boundary is the first time base value at least a turn of p ns away that is a
whole multiple of p. -/
theorem boundaryAfter_first {lenUs b p : Nat} (hp : p = lenUs * 1000) (h0 : 0 < p) (h64 : p < 2 ^ 64) (hb : b < 2 ^ 64) :
    ∃ d, boundaryAfter lenUs b = b + d ∧ p ≤ d ∧ (b + d) % 2 ^ 64 % p = 0 ∧
      ∀ k, p ≤ k → k < d → (b + k) % 2 ^ 64 % p ≠ 0 := by
  have hge := le_ceilDiv_mul (b + p) h0
  unfold boundaryAfter
  simp only [← hp, if_neg h0.ne']
  split
  case isTrue hn =>
    refine ⟨ceilDiv (b + p) p * p - b, by omega, by omega, ?_, fun k hk hkd => ?_⟩
    · rw [Nat.add_sub_cancel' (by omega), Nat.mod_eq_of_lt hn, Nat.mul_mod_left]
    · rw [Nat.mod_eq_of_lt (show b + k < 2 ^ 64 by omega)]
      exact mod_ne_zero_of_lt_ceilDiv_mul (a := b + p) h0 (by omega) (by omega)
  case isFalse hn =>
    split
    case isTrue hw =>
      refine ⟨2 ^ 64 - b, by omega, by omega, ?_, fun k hk hkd => ?_⟩
      · rw [Nat.add_sub_cancel' hb.le, Nat.mod_self, Nat.zero_mod]
      · rw [Nat.mod_eq_of_lt (show b + k < 2 ^ 64 by omega)]
        exact mod_ne_zero_of_lt_ceilDiv_mul (a := b + p) h0 (by omega) (by omega)
    case isFalse hw =>
      rw [ceilDiv_eq_one (by omega) (by omega), Nat.one_mul]
      refine ⟨2 ^ 64 + p - b, by omega, by omega, ?_, fun k hk hkd => ?_⟩
      · rw [Nat.add_sub_cancel' (by omega), Nat.add_mod_left, Nat.mod_eq_of_lt h64, Nat.mod_self]
      · have hlt : (b + k) % 2 ^ 64 < p := by omega
        rw [Nat.mod_eq_of_lt hlt]
        omega

theorem State.lenNs_lt (s : State) : s.lenUs * 1000 < 2 ^ 64 := by
  have : s.lenUs < 2 ^ 14 := Nat.mod_lt _ (by decide)
  omega

/-! ### What laying the schedule anew touches -/

section
variable (s : State)

theorem State.reschedule_eq : s.reschedule = { s with
    tm := { s.tm with
      nextBound := BitVec.ofNat 64 (boundaryAfter s.lenUs s.now.toNat), stretch := s.reschedule.tm.stretch }
    rep := s.reschedule.rep } := by
  unfold State.reschedule; simp only; split <;> rfl

@[simp] theorem State.reschedule_now : s.reschedule.now = s.now := by rw [State.reschedule_eq]
@[simp] theorem State.reschedule_clock : s.reschedule.clock = s.clock := by rw [State.reschedule_eq]
@[simp] theorem State.reschedule_turn : s.reschedule.tm.turn = s.tm.turn := by rw [State.reschedule_eq]
@[simp] theorem State.reschedule_origin : s.reschedule.tm.origin = s.tm.origin := by rw [State.reschedule_eq]
@[simp] theorem State.reschedule_loadClk : s.reschedule.tm.loadClk = s.tm.loadClk := by rw [State.reschedule_eq]

/-- R50, R55: a schedule laid anew ends the turn in progress at the first multiple of L at least L from now. -/
theorem State.reschedule_nextBound (h : s.lenUs ≠ 0) :
    ∃ d, s.reschedule.tm.nextBound = s.now + BitVec.ofNat 64 d ∧ s.lenUs * 1000 ≤ d ∧
      s.reschedule.tm.nextBound.toNat % (s.lenUs * 1000) = 0 ∧
      ∀ k, s.lenUs * 1000 ≤ k → k < d → (s.now + BitVec.ofNat 64 k).toNat % (s.lenUs * 1000) ≠ 0 := by
  obtain ⟨d, hd, hle, hmul, hfirst⟩ := boundaryAfter_first rfl (by omega) s.lenNs_lt s.now.isLt
  have hat : ∀ k, (s.now + BitVec.ofNat 64 k).toNat = (s.now.toNat + k) % 2 ^ 64 := fun k => by
    simp [BitVec.toNat_add]
  have hnext : s.reschedule.tm.nextBound = s.now + BitVec.ofNat 64 d := by
    rw [State.reschedule_eq, hd]
    exact BitVec.eq_of_toNat_eq (by rw [hat]; rfl)
  refine ⟨d, hnext, hle, ?_, fun k hk hkd => ?_⟩
  · rw [hnext, hat]; exact hmul
  · rw [hat]; exact hfirst k hk hkd

end

/-! ## Loads -/

/-- A phase keeps its distance from the time base when that takes a value, for the turn's opening boundary moves with it (R52). -/
theorem State.setTime_offsetAt (s : State) (v : BitVec 64) (us : Nat) :
    (s.setTime v).offsetAt us - v = s.offsetAt us - s.now := by
  simp only [State.offsetAt, State.setTime]
  ring

/-- R55: the time base takes a value by a LOAD_TIME, whose cycle is noted, and the schedule is laid anew. -/
def State.loadTime (s : State) (v : BitVec 64) : State :=
  ({ s.setTime v with tm := { (s.setTime v).tm with loadClk := some s.clock } } : State).reschedule

section
variable (s : State) (v : BitVec 64)

@[simp] theorem State.loadTime_now : (s.loadTime v).now = v := State.reschedule_now _

theorem State.loadTime_turn : (s.loadTime v).tm.turn = s.tm.turn := State.reschedule_turn _

theorem State.loadTime_loadClk : (s.loadTime v).tm.loadClk = some (s.loadTime v).clock := by
  unfold State.loadTime
  rw [State.reschedule_loadClk, State.reschedule_clock]
  rfl

theorem State.loadTime_offsetAt (us : Nat) : (s.loadTime v).offsetAt us - (s.loadTime v).now = s.offsetAt us - s.now := by
  have ho : (s.loadTime v).tm.origin = (s.setTime v).tm.origin := State.reschedule_origin _
  rw [State.loadTime_now, ← State.setTime_offsetAt s v us]
  unfold State.offsetAt
  rw [ho]

theorem State.loadTime_nextBound (h : s.lenUs ≠ 0) :
    ∃ d, (s.loadTime v).tm.nextBound = (s.loadTime v).now + BitVec.ofNat 64 d ∧ s.lenUs * 1000 ≤ d ∧
      (s.loadTime v).tm.nextBound.toNat % (s.lenUs * 1000) = 0 ∧
      ∀ k, s.lenUs * 1000 ≤ k → k < d → ((s.loadTime v).now + BitVec.ofNat 64 k).toNat % (s.lenUs * 1000) ≠ 0 := by
  rw [State.loadTime_now]
  exact State.reschedule_nextBound _ h

end

section
variable {s : State} {dt : Nat} {w : Wr}

/-- The time passing leaves the operands of the loads as they were. -/
theorem State.elapse_rwi (s : State) (dt off : Nat) : (s.elapse dt).rwi off = s.rwi off := by
  unfold State.rwi; rw [State.elapse_regs]

theorem State.elapse_lenUs (s : State) (dt : Nat) : (s.elapse dt).lenUs = s.lenUs := by
  unfold State.lenUs State.fld State.live; rw [State.elapse_regs]

/-- R52, R55: LOAD_TIME in SET-UP. -/
theorem answers_loadTime_setUp (hs : s.ready) (hw : s.passes 0x10030 w) (hst : s.dev.st = .setUp)
    (hbit : bitOf w.data 0 = true) (hlen : s.lenUs ≠ 0) :
    Answers (.loadTime dt w) s (fun t =>
      t.now = s.rwi 0x10024 ++ s.rwi 0x10020 ∧ t.tm.turn = s.tm.turn ∧ t.tm.loadClk = some t.clock ∧
      (∀ us, t.offsetAt us - t.now = (s.elapse dt).offsetAt us - (s.elapse dt).now) ∧
      ∃ d, t.tm.nextBound = t.now + BitVec.ofNat 64 d ∧ s.lenUs * 1000 ≤ d ∧
        t.tm.nextBound.toNat % (s.lenUs * 1000) = 0 ∧
        ∀ k, s.lenUs * 1000 ≤ k → k < d → (t.now + BitVec.ofNat 64 k).toNat % (s.lenUs * 1000) ≠ 0) := by
  have hsetUp : (s.elapse dt).dev.st = .setUp := by rw [State.elapse_dev, hst]
  refine answers_wr hs hw (by rfl) ?_
  rw [if_pos hbit, if_pos hsetUp, State.elapse_rwi, State.elapse_rwi]
  generalize s.rwi 0x10024 ++ s.rwi 0x10020 = v
  rw [← State.elapse_lenUs s dt] at hlen ⊢
  rw [← State.elapse_tm s dt]
  exact ⟨State.loadTime_now _ v, State.loadTime_turn _ v, State.loadTime_loadClk _ v, State.loadTime_offsetAt _ v,
    State.loadTime_nextBound _ v hlen⟩

/-- R56, R57: LOAD_TURN in SET-UP waits for the next boundary. -/
theorem answers_loadTurn_setUp (hs : s.ready) (hw : s.passes 0x10030 w) (hst : s.dev.st = .setUp)
    (hbit : bitOf w.data 1 = true) :
    Answers (.loadTurn dt w) s (fun t => t = { s.elapse dt with tm := { s.tm with turnLoad := true } }) := by
  have hsetUp : (s.elapse dt).dev.st = .setUp := by rw [State.elapse_dev, hst]
  refine answers_wr hs hw (by rfl) ?_
  rw [if_pos hbit, if_pos hsetUp, State.elapse_tm]
  exact State.flush_rest (s := { s.elapse dt with tm := { s.tm with turnLoad := true } }) (State.elapse_settled hs dt)

/-- R58: a command that in RUN writes a slub alone. -/
theorem answers_slub {c : Instr} {off k : Nat} {g : State → State} (hs : s.ready) (hw : s.passes off w)
    (hc : exec c s = s.at_ dt (fun u => u.wr off w g)) (hg : g (s.elapse dt) = (s.elapse dt).slub k 0 0 0) :
    Answers c s (fun t => t = { s.elapse dt with rep := t.rep } ∧ s.logs t k 0 0 0) := by
  have hreqs : (s.elapse dt).rep.slubReqs = [] := (State.elapse_settled hs dt).1
  refine answers_wr hs hw hc ?_
  rw [hg]
  refine ⟨rfl, State.logs_flush ?_ ?_⟩
  · rw [State.slub_total, State.elapse_rep hs.2.2]
  · rw [State.slub_slubReqs, hreqs]; rfl

theorem answers_loads_run (hs : s.ready) (hw : s.passes 0x10030 w) (hst : s.dev.st = .run) :
    (bitOf w.data 0 = true →
      Answers (.loadTime dt w) s (fun t => t = { s.elapse dt with rep := t.rep } ∧ s.logs t 0x0102 0 0 0)) ∧
    (bitOf w.data 1 = true →
      Answers (.loadTurn dt w) s (fun t => t = { s.elapse dt with rep := t.rep } ∧ s.logs t 0x0102 0 0 0)) := by
  have hrun : (s.elapse dt).dev.st = .run := by rw [State.elapse_dev, hst]
  have hnot : (s.elapse dt).dev.st ≠ .setUp := by rw [hrun]; decide
  refine ⟨fun hbit => answers_slub hs hw (by rfl) ?_, fun hbit => answers_slub hs hw (by rfl) ?_⟩ <;>
    rw [if_pos hbit, if_neg hnot, if_pos hrun]

end

/-- Settles O7: in SET-UP by the law of the schedule laid anew (`State.reschedule_nextBound`), in RUN by the slub that alone is
written. -/
theorem loadsOfTimeAndTurn : Obligations.LoadsOfTimeAndTurn := by
  unfold Obligations.LoadsOfTimeAndTurn
  intro s dt w hs hw
  exact ⟨answers_loadTime_setUp hs hw, answers_loadTurn_setUp hs hw, answers_loads_run hs hw⟩

end Machine
end Sys2Proof
end

section
/-!
PROOFS. Host rings (chapter 10, R313, R328, R331, R346, R350): two statements about reads of host memory do not hold as
they stand, each by a state that meets its premises.
-/

namespace Sys2Proof.Machine

/-- What a command answers is its outcome. -/
theorem Answers.outcome {c : Instr} {s : State} {P : State → Prop} (h : Answers c s P) : P (outcomeState s (exec c s)) := by
  obtain ⟨t, ht, hP⟩ := h
  rw [ht]
  exact hP

/-- What leaves the device stands in its output log. -/
theorem State.putsOut.mem_out {s t : State} {o : Output} (h : s.putsOut t o) : o ∈ t.rep.out := by
  obtain ⟨l, hl, ho⟩ := h
  rw [hl]
  exact List.mem_append_right _ ho

/-! ## A ring and a port in service -/

/-- An enabled ring that runs. -/
def ringUp : Ring := { en := true, st := .running }

/-- A port in service with distaffs, and with skein 0 for their completions. -/
def portUp (ds : Tbl Ring) : PortSt := { portEn := true, busMaster := true, ds := ds, sk := [(0, ringUp)] }

/-! ## Reads of value lines that wait on the other port -/

/-- A live stream whose value line is read through port A. -/
def streamOnA (n : Fin 4096) : Stream :=
  { cfg := ⟨n, 0, 2, 0, 2, false, .a, 0, 0x105, false, 8, 10, 1, 450, 300, 0, 0, 0x1000⟩, key := 0x20A00000, cNs := 125000,
    rNs := 291000, reserve := 1, q := 1, liveTurn := 0, st := .live, toLive := 0, vSeq := 1 }

/-- A distaff with 63 reads of its DS_PROD in flight. -/
def ringReading : Ring := { ringUp with reading := List.replicate 63 0 }

/-- Port A with 63 reads outstanding; on port B two value line reads wait whose streams name port A. Every table is in canonical
form. -/
def crossedWaits : State :=
  { dev := { st := .run }
    rep := { ports := [(0, portUp [(0, ringReading)]), (1, { portUp [] with valueWait := [(0, 0), (1, 0)] })] }
    dr := { streams := [(0, streamOnA 0), (1, streamOnA 1)] } }

/-- The DS_PROD read that completes leaves room for two reads. Those that waited on port B take it, for they count as port A's
(R313), and no descriptor is fetched. -/
theorem crossedWaits_no_fetch :
    Output.hostRead .a (.desc 0 0) 0 ∉ (outcomeState crossedWaits (exec (.dsProdReadComplete 0 .a 0 1) crossedWaits)).rep.out := by
  decide +kernel

/-- Refutes O44, in its clause on DS_PROD: before it fetches, the engine issues the value line reads that wait on either port.
The premises leave open what waits on the other port, and reads there whose streams name the port of the distaff take its last
room, so that the announced descriptor is not fetched. -/
theorem not_hostReadsFillTheRings : ¬ Obligations.HostReadsFillTheRings := by
  unfold Obligations.HostReadsFillTheRings
  intro h
  have hready : crossedWaits.ready := by decide
  obtain ⟨-, -, -, hprod, -⟩ := h crossedWaits 0 .a hready
  have hin := (hprod 0 1 0 (List.replicate 62 0) (by decide) (by decide) (by decide)).2 (by decide)
  obtain ⟨-, -, -, -, -, hfetch⟩ := hin.outcome
  have hput := hfetch (by decide) (by decide) (by decide) (by decide) (by decide) (by decide) (by decide) (by decide) (by decide)
  exact crossedWaits_no_fetch hput.mem_out

/-! ## A distaff listed twice -/

/-- Port A with distaff 0 listed twice: with a DS_PROD read in flight, and with one that waits for room. The table is not in
canonical form (`Tbl.wf`), which no premise asks for. -/
def listedTwice : State :=
  { dev := { st := .run }
    rep := { ports := [(0, portUp [(0, { ringUp with reading := [0] }), (0, { ringUp with wantProd := true })])] } }

/-- After the read in flight fails, the one that waits is issued, and joins the reads of the listing that is looked up. -/
theorem listedTwice_reads_on :
    (((outcomeState listedTwice (exec (.readError 0 .a (.dsProd 0)) listedTwice)).port .a).dsr 0).reading = [0] := by
  decide +kernel

/-- Refutes O45, in its clause on DS_PROD: the distaff's reads are looked up in its first listing, and the engine goes through all
listings. The statement does not ask for a canonical table, so a second listing may let a read wait that the first does not,
and a read is in flight after the only one failed. -/
theorem not_failedReadsAreRetriedOrStall : ¬ Obligations.FailedReadsAreRetriedOrStall := by
  unfold Obligations.FailedReadsAreRetriedOrStall
  intro h
  have hready : listedTwice.ready := by decide
  obtain ⟨-, hprod, -⟩ := h listedTwice 0 .a (.dsProd 0) (.readError 0 .a (.dsProd 0)) 2 hready (.inr ⟨rfl, rfl⟩)
  obtain ⟨-, hreading, -⟩ := (hprod 0 0 [] rfl (by decide) (by decide) (.inl rfl)).outcome
  exact absurd (hreading.symm.trans listedTwice_reads_on) (by decide)

end Sys2Proof.Machine
end

section
/-!
PROOFS. What firings leave of the whorl (R369): between one report and the next a port's stack stays, and a source changes only
as a firing changes it. One law for every operation of the reporting plane up to the end of an instant; and one for what of the
state no report touches.
-/

namespace Sys2Proof.Machine

/-- From a to b the whorl has only fired: the flags of the turn and the stacks stay, and a source is as it was or as a firing
leaves it. -/
structure Rep.Fires (a b : Rep) : Prop where
  first : b.first = a.first
  stack : ∀ p, (b.port p).stack = (a.port p).stack
  src : ∀ p i, (b.port p).srcSt i = (a.port p).srcSt i ∨ ((a.port p).srcSt i).fired = some ((b.port p).srcSt i)

/-- What a firing presents, a second one leaves. -/
theorem SrcState.fired_fired {x y : SrcState} (h : x.fired = some y) : y.fired = none := by
  cases x <;> cases h <;> rfl

/-- Reporting that touches neither the flags of the turn nor a port. -/
theorem Rep.Fires.of_eq {a b : Rep} (hfirst : b.first = a.first) (hports : b.ports = a.ports) : Rep.Fires a b := by
  have hport : ∀ p, b.port p = a.port p := fun p => by rw [Rep.port, Rep.port, hports]
  exact ⟨hfirst, fun p => by rw [hport], fun p i => .inl (by rw [hport])⟩

theorem Rep.Fires.refl (a : Rep) : Rep.Fires a a := .of_eq rfl rfl

theorem Rep.Fires.trans {a b c : Rep} (h : Rep.Fires a b) (g : Rep.Fires b c) : Rep.Fires a c := by
  refine ⟨g.first.trans h.first, fun p => (g.stack p).trans (h.stack p), fun p i => ?_⟩
  rcases h.src p i with hs | hs
  · rw [← hs]
    exact g.src p i
  · rcases g.src p i with gs | gs
    · exact .inr (hs.trans (congrArg some gs.symm))
    · rw [SrcState.fired_fired hs] at gs
      cases gs

/-- A port may be replaced by one with its stack, whose sources a firing may have changed. -/
theorem Rep.fires_setPort {r : Rep} {p : Port} {v : PortSt} (hstack : v.stack = (r.port p).stack)
    (hsrc : ∀ i, v.srcSt i = (r.port p).srcSt i ∨ ((r.port p).srcSt i).fired = some (v.srcSt i)) :
    Rep.Fires r (r.setPort p v) := by
  refine ⟨rfl, fun q => ?_, fun q i => ?_⟩ <;> by_cases h : q = p
  · subst h; rw [Rep.port_setPort_self, hstack]
  · rw [Rep.port_setPort_ne r v h]
  · subst h; rw [Rep.port_setPort_self]; exact hsrc i
  · rw [Rep.port_setPort_ne r v h]; exact .inl rfl

/-! ## Firings and counters -/

theorem Rep.fires_bump (r : Rep) (i n : Nat) : Rep.Fires r (r.bump i n).1 := by
  unfold Rep.bump; simp only; split <;> exact .of_eq rfl rfl

theorem Rep.fires_present {r : Rep} {p : Port} {k i : Nat} {x : SrcState} (h : ((r.port p).srcSt i).fired = some x) :
    Rep.Fires r (r.setPort p ((r.port p).present k i x)).askReq := by
  refine Rep.Fires.trans (b := r.setPort p ((r.port p).present k i x)) (Rep.fires_setPort rfl fun j => ?_) (.of_eq rfl rfl)
  simp only [PortSt.srcSt, PortSt.present, Tbl.lookD_put]
  split
  case isTrue hj => subst hj; exact .inr h
  case isFalse => exact .inl rfl

mutual
theorem Rep.fires_fireOne (n : Nat) (c : Ctx) (w : Word) (r : Rep) (i : Nat) (p : Port) :
    Rep.Fires r (Rep.fireOne n c w r i p) := by
  unfold Rep.fireOne
  simp only
  split
  · split
    · exact Rep.fires_present ‹_›
    · split
      · exact (Rep.fires_bump r _ _).trans (Rep.fires_fireN n c _ _)
      · exact Rep.fires_bump r _ _
  · split
    · exact (Rep.fires_bump r _ _).trans (Rep.fires_fireN n c _ _)
    · exact Rep.fires_bump r _ _
  termination_by 2 * n + 1

theorem Rep.fires_fireN (n : Nat) (c : Ctx) (r : Rep) (i : Nat) : Rep.Fires r (Rep.fireN n c r i) := by
  cases n with
  | zero => exact .refl r
  | succ n =>
    rw [Rep.fireN_succ]
    simp only
    split
    · split <;> split
      · exact (Rep.fires_fireOne n c _ r i .a).trans (Rep.fires_fireOne n c _ _ i .b)
      · exact Rep.fires_fireOne n c _ r i .b
      · exact Rep.fires_fireOne n c _ r i .a
      · exact .refl r
    · exact .refl r
  termination_by 2 * n
end

theorem Rep.fires_fire (r : Rep) (c : Ctx) (i : Nat) : Rep.Fires r (r.fire c i) := Rep.fires_fireN 4 c r i

theorem Rep.fires_count (r : Rep) (c : Ctx) (i n : Nat) : Rep.Fires r (r.count c i n) := by
  unfold Rep.count; simp only; split
  · exact (Rep.fires_bump r i n).trans (Rep.fires_fire _ c _)
  · exact Rep.fires_bump r i n

/-! ## Skein entries -/

theorem Rep.fires_emit (r : Rep) (o : Output) : Rep.Fires r (r.emit o) := .of_eq rfl rfl

theorem Rep.fires_setSk (r : Rep) (p : Port) (k : Nat) (g : Ring) : Rep.Fires r (r.setSk p k g) :=
  Rep.fires_setPort rfl fun _ => .inl rfl

theorem Rep.fires_writeHeader (r : Rep) (c : Ctx) (p : Port) : Rep.Fires r (r.writeHeader c p) := by
  unfold Rep.writeHeader; simp only; split
  · exact Rep.fires_emit r _
  · exact .refl r

theorem Rep.fires_notify (r : Rep) (c : Ctx) (p : Port) (k : Nat) : Rep.Fires r (r.notify c p k) := by
  unfold Rep.notify; simp only; split
  · exact .refl r
  · have hfire : ∀ g i, Rep.Fires r ((r.setSk p k g).fire c i) := fun g i =>
      (Rep.fires_setSk r p k g).trans (Rep.fires_fire _ c i)
    split
    · exact hfire _ _
    · split
      · exact hfire _ _
      · exact Rep.fires_setSk r p k _

theorem Rep.fires_writeEntry (r : Rep) (c : Ctx) (p : Port) (k : Nat) (b : EntryBody) : Rep.Fires r (r.writeEntry c p k b) :=
  ((((Rep.fires_setSk r p k _).trans (Rep.fires_emit _ _)).trans (Rep.fires_emit _ _)).trans
    (Rep.fires_writeHeader _ c p)).trans (Rep.fires_notify _ c p k)

theorem Rep.fires_entry (r : Rep) (c : Ctx) (p : Port) (k : Nat) (b : EntryBody) : Rep.Fires r (r.entry c p k b).1 := by
  unfold Rep.entry; simp only; split
  · exact Rep.fires_writeEntry r c p k b
  · exact (Rep.fires_setSk r p k _).trans (Rep.fires_count _ c _ _)

/-! ## The end of an instant -/

theorem Rep.fires_slubSkeins (r : Rep) (c : Ctx) (x : Slub) : Rep.Fires r (r.slubSkeins c x) := by
  unfold Rep.slubSkeins; simp only; split
  · split <;> split
    · exact (Rep.fires_entry r c _ _ _).trans (Rep.fires_entry _ c _ _ _)
    · exact Rep.fires_entry r c _ _ _
    · exact Rep.fires_entry r c _ _ _
    · exact .refl r
  · exact .refl r

theorem Rep.fires_afterLog (r r1 : Rep) (c : Ctx) (q : SlubReq) : Rep.Fires r1 (Rep.afterLog r r1 c q) := by
  have hcount : Rep.Fires r1 (if (Tbl.look r.log (r.total.toNat % 4096)).isSome then r1.count c 5765 1 else r1) := by
    split
    · exact Rep.fires_count r1 c _ _
    · exact .refl r1
  have hskeins := hcount.trans (Rep.fires_slubSkeins _ c (r.slubOf q))
  unfold Rep.afterLog; simp only; split
  · exact hskeins.trans (Rep.fires_fire _ c _)
  · exact hskeins

theorem Rep.fires_writeSlub (r : Rep) (c : Ctx) (q : SlubReq) : Rep.Fires r (r.writeSlub c q) := by
  obtain ⟨l, h⟩ := Rep.writeSlub_eq r c q
  have hlogged : Rep.Fires r (r.logged c q) := .of_eq rfl rfl
  rw [h]
  exact (hlogged.trans (Rep.fires_afterLog r _ c q)).trans (.of_eq rfl rfl)

theorem Rep.fires_pushHank (r : Rep) (c : Ctx) (k u a : Nat) (b : BitVec 64) : Rep.Fires r (r.pushHank c k u a b).1 := by
  have hdrop : ∀ r' : Rep, Rep.Fires r r' → Rep.Fires r (r'.count c 5840 1) := fun r' h => h.trans (Rep.fires_count r' c _ _)
  unfold Rep.pushHank; simp only; split
  · split
    · split
      · exact .of_eq rfl rfl
      · exact hdrop _ (.of_eq rfl rfl)
    · exact .of_eq rfl rfl
  · exact hdrop _ (.of_eq rfl rfl)

theorem Rep.fires_pushHanks (r : Rep) (c : Ctx) : Rep.Fires r (r.pushHanks c).1 :=
  List.foldlRecOn (motive := fun a : Rep × Bool => Rep.Fires r a.1) _ _ (.of_eq rfl rfl) fun a ha _ _ =>
    ha.trans (Rep.fires_pushHank a.1 c _ _ _ _)

theorem Rep.fires_writeSlubs (r : Rep) (c : Ctx) : Rep.Fires r (r.writeSlubs c) :=
  List.foldlRecOn (motive := Rep.Fires r) _ _ (.of_eq rfl rfl) fun a ha q _ => ha.trans (Rep.fires_writeSlub a c q)

theorem Rep.fires_writeAll (r : Rep) (c : Ctx) : Rep.Fires r (r.writeAll c) := by
  have hall := (Rep.fires_writeSlubs r c).trans (Rep.fires_pushHanks _ c)
  unfold Rep.writeAll; simp only; split
  · exact (hall.trans ((Rep.fires_writeSlub _ c _).trans (Rep.fires_fire _ c _))).trans (Rep.fires_pushHanks _ c)
  · exact hall

theorem Rep.fires_evalReq (r : Rep) (c : Ctx) (p : Port) : Rep.Fires r (r.evalReq c p) := by
  have hset : ∀ x y, Rep.Fires r (r.setPort p { r.port p with outstanding := x, msixPend := y }) := fun x y =>
    Rep.fires_setPort rfl fun _ => .inl rfl
  unfold Rep.evalReq; simp only; split
  · split
    · exact hset _ _
    · exact (hset _ _).trans (Rep.fires_emit _ _)
  · exact .refl r

theorem Rep.fires_whorlReqs (r : Rep) (c : Ctx) : Rep.Fires r (r.whorlReqs c) := by
  unfold Rep.whorlReqs; split
  · exact ((Rep.fires_evalReq r c .a).trans (Rep.fires_evalReq _ c .b)).trans (.of_eq rfl rfl)
  · exact .refl r

/-- With no commit of group WHORL in it the end of an instant only fires. -/
theorem Rep.fires_flush {r : Rep} (c : Ctx) (h : r.whOld = none) : Rep.Fires r (r.flush c) := by
  obtain ⟨-, -, -, hold⟩ := Rep.writeAll_spec r c
  unfold Rep.flush
  rw [Rep.whorlViews_none c (hold.trans h)]
  exact (Rep.fires_writeAll r c).trans (Rep.fires_whorlReqs _ c)

theorem State.count_fires (s : State) (c : Nat) : Rep.Fires s.rep (s.count c).rep := Rep.fires_count _ _ _ _
theorem State.raise_fires (s : State) (i : Nat) : Rep.Fires s.rep (s.raise i).rep := Rep.fires_fire _ _ _
theorem State.slub_fires (s : State) (k a b c : Nat) : Rep.Fires s.rep (s.slub k a b c).rep := .of_eq rfl rfl
theorem State.emit_fires (s : State) (o : Output) : Rep.Fires s.rep (s.emit o).rep := Rep.fires_emit _ _
theorem State.askReq_fires (s : State) : Rep.Fires s.rep s.askReq.rep := .of_eq rfl rfl
theorem State.flush_fires {s : State} (h : s.rep.whOld = none) : Rep.Fires s.rep s.flush.rep := Rep.fires_flush s.ctx h

section
variable {a b : State} {p : Port} {i : Nat}

theorem Rep.Fires.port_stack (h : Rep.Fires a.rep b.rep) : (b.port p).stack = (a.port p).stack := h.stack p

theorem Rep.Fires.port_src (h : Rep.Fires a.rep b.rep) :
    (b.port p).srcSt i = (a.port p).srcSt i ∨ ((a.port p).srcSt i).fired = some ((b.port p).srcSt i) := h.src p i

/-- A source on the stack stays there whatever fires. -/
theorem Rep.Fires.active (h : Rep.Fires a.rep b.rep) (ha : (a.port p).srcSt i = .active ∨ (a.port p).srcSt i = .activePending) :
    (b.port p).srcSt i = .active ∨ (b.port p).srcSt i = .activePending := by
  rcases h.port_src (p := p) (i := i) with hs | hs
  · rwa [hs]
  · rcases ha with ha | ha <;> rw [ha] at hs
    · exact .inr (Option.some.inj hs).symm
    · cases hs

/-- A source off the stack stays off it whatever fires. -/
theorem Rep.Fires.idle (h : Rep.Fires a.rep b.rep) (ha : (a.port p).srcSt i = .inactive ∨ (a.port p).srcSt i = .pending) :
    (b.port p).srcSt i = .inactive ∨ (b.port p).srcSt i = .pending := by
  rcases h.port_src (p := p) (i := i) with hs | hs
  · rwa [hs]
  · rcases ha with ha | ha <;> rw [ha] at hs
    · exact .inr (Option.some.inj hs).symm
    · cases hs

/-- A source that is pending has nothing left to fire. -/
theorem Rep.Fires.pending (h : Rep.Fires a.rep b.rep) (ha : (a.port p).srcSt i = .pending) : (b.port p).srcSt i = .pending := by
  rcases h.port_src (p := p) (i := i) with hs | hs
  · rw [hs, ha]
  · rw [ha] at hs
    cases hs

end

/-! ## Only the reports -/

/-- From a to b only the reporting plane changes. -/
def State.Reports (a b : State) : Prop := b = { a with rep := b.rep }

theorem State.Reports.trans {a b c : State} (h : a.Reports b) (g : b.Reports c) : a.Reports c := by
  have hreps : ∀ r r', b = { a with rep := r } → c = { b with rep := r' } → c = { a with rep := c.rep } := by
    rintro r r' rfl rfl
    rfl
  exact hreps _ _ h g

section
variable (a : State)

theorem State.raise_reports (i : Nat) : a.Reports (a.raise i) := rfl
theorem State.raiseOnce_reports (g i : Nat) : a.Reports (a.raiseOnce g i) := rfl
theorem State.count_reports (c : Nat) : a.Reports (a.count c) := rfl
theorem State.slub_reports (k x y z : Nat) : a.Reports (a.slub k x y z) := rfl
theorem State.emit_reports (o : Output) : a.Reports (a.emit o) := rfl
theorem State.setPort_reports (p : Port) (q : PortSt) : a.Reports (a.setPort p q) := rfl
theorem State.askReq_reports : a.Reports a.askReq := rfl
theorem State.flush_reports : a.Reports a.flush := rfl

theorem State.Reports.live {a b : State} (h : a.Reports b) : b.regs.live = a.regs.live := by
  have hregs := congrArg State.regs (show b = { a with rep := b.rep } from h)
  exact congrArg RegSt.live hregs

/-- A slub waits with the time and the turn, which no report touches. -/
theorem State.Reports.slubReq {a b : State} (h : a.Reports b) (k x y z : Nat) : b.slubReq k x y z = a.slubReq k x y z := by
  have hrep : ∀ r, b = { a with rep := r } → b.slubReq k x y z = a.slubReq k x y z := by
    rintro r rfl
    rfl
  exact hrep _ h

end

end Sys2Proof.Machine
end

section
/-!
PROOFS. Ownership (chapter 11, R356 to R366): candidacy, election, handover and lapse. First the rules of what an instant leaves
in the slub log and of a write that is discarded, then one of each operation on ownership, then the commands.
-/

namespace Sys2Proof.Machine

/-! ## Two slubs of one instant -/

/-- The end of an instant leaves the log as its slubs left it, but for the place of a slub of its hanks. -/
theorem Rep.look_flush_log (r : Rep) (c : Ctx) {k : Nat} (hk : k ≠ (r.writeSlubs c).total.toNat % 4096) :
    Tbl.look (r.flush c).log k = Tbl.look (r.writeSlubs c).log k := by
  obtain ⟨-, hlog, htotal, -⟩ := Rep.pushHanks_spec (r.writeSlubs c) c
  unfold Rep.flush
  rw [(Rep.whorlReqs_keeps _ c).1, (Rep.whorlViews_keeps _ c).1]
  unfold Rep.writeAll
  simp only
  split
  · obtain ⟨-, hlog', -⟩ := Rep.pushHanks_spec (((r.writeSlubs c).pushHanks c).1.lossSlub c) c
    rw [hlog', Rep.lossSlub, (Rep.same_fire _ c _).log, (Rep.writeSlub_log _ c _).1, htotal, Tbl.look_ins_ne _ _ hk, hlog]
  · rw [hlog]

/-- The places of three slubs that follow each other differ. -/
theorem slot_add_ne (n : Word) {i j : Nat} (hij : i < j) (hj : j < 4096) :
    (n + BitVec.ofNat 32 i).toNat % 4096 ≠ (n + BitVec.ofNat 32 j).toNat % 4096 := by
  simp only [BitVec.toNat_add, BitVec.toNat_ofNat]
  omega

/-- Of two slubs of an instant the one that stands before the other is logged first (R499). -/
theorem Rep.flush_two {r : Rep} (c : Ctx) {q q' : SlubReq} (h : r.slubReqs = [q', q]) (hb : q.before q' = true) :
    Tbl.look (r.flush c).log (r.total.toNat % 4096) = some (r.slubOf q) ∧
    ∃ r' : Rep, Tbl.look (r.flush c).log ((r.total + 1).toNat % 4096) = some (r'.slubOf q') := by
  let r1 := Rep.writeSlub { r with slubReqs := [] } c q
  have hw : r.writeSlubs c = r1.writeSlub c q' := by
    simp only [Rep.writeSlubs, h, List.foldl, insSlub, hb, if_true, r1]
  have hlog1 : r1.log = Tbl.ins r.log (r.total.toNat % 4096) (r.slubOf q) := (Rep.writeSlub_log _ c q).1
  have htot1 : r1.total = r.total + 1 := (Rep.writeSlub_log _ c q).2.1
  obtain ⟨hlog, htot, -⟩ := Rep.writeSlub_log r1 c q'
  have htwo : (r.writeSlubs c).total = r.total + 2 := by
    rw [hw, htot, htot1, BitVec.add_assoc]
    rfl
  have h01 : r.total.toNat % 4096 ≠ (r.total + 1).toNat % 4096 := by
    simpa using slot_add_ne r.total (show 0 < 1 by decide) (by decide)
  have h02 : r.total.toNat % 4096 ≠ (r.total + 2).toNat % 4096 := by
    simpa using slot_add_ne r.total (show 0 < 2 by decide) (by decide)
  have h12 : (r.total + 1).toNat % 4096 ≠ (r.total + 2).toNat % 4096 := slot_add_ne r.total (show 1 < 2 by decide) (by decide)
  constructor
  · rw [Rep.look_flush_log r c (by rwa [htwo]), hw, hlog, htot1, Tbl.look_ins_ne _ _ h01, hlog1, Tbl.look_ins_self]
  · refine ⟨r1, ?_⟩
    rw [Rep.look_flush_log r c (by rwa [htwo]), hw, hlog, htot1, Tbl.look_ins_self]

section
variable {s u : State}

/-- Two slubs of one instant are in the log after it, in the order of their codes. -/
theorem State.logs_flush_two {k a b c k' a' b' c' : Nat} (ht : u.rep.total = s.rep.total) (hk : k < k')
    (hq : u.rep.slubReqs = [u.slubReq k' a' b' c', u.slubReq k a b c]) :
    s.logs u.flush k a b c ∧ s.logsNext u.flush k' a' b' c' := by
  obtain ⟨h1, r', h2⟩ := Rep.flush_two u.ctx hq (by simp [SlubReq.before, State.slubReq, hk])
  rw [ht] at h1 h2
  exact ⟨⟨_, h1, rfl, rfl, rfl, rfl, rfl, rfl, rfl⟩, ⟨_, h2, rfl, rfl, rfl, rfl, rfl⟩⟩

/-! ## Reports that outlast the instant -/

/-- A source raised before the end of an instant is presented after it. -/
theorem State.raises_flush {i : Nat} (h : s.raises u i) (hw : u.rep.whOld = none) : s.raises u.flush i :=
  State.raises_mono h (State.flush_grows hw)

theorem State.counts_flush {k n : Nat} (h : s.counts u k n) (hw : u.rep.whOld = none) : s.counts u.flush k n :=
  State.counts_mono h (State.flush_grows hw)

/-- A change of ownership and of the reports stays one at the end of the instant. -/
theorem State.flush_eq_with {v : State} (h : u = { v with rep := u.rep, ow := u.ow }) :
    u.flush = { v with ow := u.flush.ow, rep := u.flush.rep } := by
  have hflush : ∀ r o, u = { v with rep := r, ow := o } → u.flush = { v with ow := u.flush.ow, rep := u.flush.rep } := by
    rintro r o rfl
    rfl
  exact hflush _ _ h

/-- A source raised for the first time in the turn is presented where its live register routes it. -/
theorem State.raises_raiseOnce {g i : Nat} (hl : u.regs.live = s.regs.live) (hw : u.rep.whOld = none)
    (hf : u.rep.first.contains g = false) : s.raises (u.raiseOnce g i) i := by
  have hfire : u.raiseOnce g i = State.raise { u with rep := { u.rep with first := u.rep.first ++ [g] } } i := by
    unfold State.raiseOnce Rep.fireOnce
    rw [if_neg (by rw [hf]; decide)]
    rfl
  rw [hfire]
  exact State.raises_raise hl hw

/-- A discarded write is recorded, counted, and reported once in a turn (R386). -/
theorem State.discard_eq (s : State) (off : Nat) (p : Port) (reason : Nat) :
    s.discard off p reason =
      (State.count { s with regs := { s.regs with discOff := off, discPort := p, discReason := reason } }
        (5184 + 64 * p.idx)).raiseOnce 0x05B 0x05B := rfl

theorem State.discards_discard (hs : s.ready) (dt off : Nat) (w : Wr) (reason : Nat) :
    s.discards ((s.elapse dt).discard off w.port reason).flush dt off w reason := by
  obtain ⟨-, ⟨-, -, hold, -⟩, hsteady⟩ := hs
  have hrep := State.elapse_rep hsteady dt
  have hw : ((s.elapse dt).discard off w.port reason).rep.whOld = none := by
    rw [State.discard_whOld, hrep, hold]
  refine ⟨?_, ?_, fun hfirst => State.raises_flush ?_ hw⟩
  · rw [← State.elapse_regs s dt]
    let u : State := { s.elapse dt with
      regs := { (s.elapse dt).regs with discOff := off, discPort := w.port, discReason := reason } }
    exact ((u.count_reports _).trans (State.raiseOnce_reports _ _ _)).trans (State.flush_reports _)
  · refine State.counts_flush (State.counts_mono (State.counts_count ?_) (State.raiseOnce_grows _ _ _)) hw
    exact congrArg (Rep.counter · _) hrep
  · rw [State.discard_eq]
    refine State.raises_raiseOnce ?_ ?_ ?_
    · simp
    · rw [State.count_whOld]; exact (congrArg Rep.whOld hrep).trans hold
    · rw [(State.count_fires _ _).first]
      exact (congrArg (fun r : Rep => r.first.contains 0x05B) hrep).trans hfirst

/-! ## Commands that report nothing -/

/-- A command that leaves the reporting plane alone answers what it makes of the state after the time that goes by. -/
theorem answers_quiet {c : Instr} {dt : Nat} {g : State → State} {P : State → Prop} (hs : s.ready)
    (hc : exec c s = s.at_ dt g) (hg : (g (s.elapse dt)).rep = (s.elapse dt).rep) (hP : P (g (s.elapse dt))) :
    Answers c s P := by
  refine answers_at hs hc ?_
  rwa [State.flush_rest]
  unfold State.settled
  rw [hg]
  exact State.elapse_settled hs dt

/-- So does a register write that passes the checks. -/
theorem answers_wr_quiet {c : Instr} {dt off : Nat} {w : Wr} {g : State → State} {P : State → Prop} (hs : s.ready)
    (hw : s.passes off w) (hc : exec c s = s.at_ dt (fun u => u.wr off w g))
    (hg : (g (s.elapse dt)).rep = (s.elapse dt).rep) (hP : P (g (s.elapse dt))) : Answers c s P := by
  have hwr : (s.elapse dt).wr off w g = g (s.elapse dt) :=
    State.wr_pass ((State.wrReason_elapse hs.2.2 dt off w).trans hw)
  exact answers_quiet hs hc (by rw [hwr, hg]) (by rwa [hwr])

end

/-! ## Candidacy and OW_STATUS -/

section
variable (o : OwnSt) (p : Port) (v : Bool)

@[simp] theorem OwnSt.setCand_owner : (o.setCand p v).owner = o.owner := by cases p <;> rfl
@[simp] theorem OwnSt.setCand_soon : (o.setCand p v).soon = o.soon := by cases p <;> rfl
@[simp] theorem OwnSt.cand_setCand_self : (o.setCand p v).cand p = v := by cases p <;> rfl
@[simp] theorem OwnSt.cand_setCand_other : (o.setCand p v).cand p.other = o.cand p.other := by cases p <;> rfl

end

theorem Port.other_ne (p : Port) : p.other ≠ p := by cases p <;> decide

/-- HANDOVER of OW_STATUS is 1 while a handover is pending (R361). -/
theorem State.bitOf_owStatus_handover (s : State) : bitOf s.owStatus 3 = s.ow.handover.isSome := by
  have hcode : ownerCode s.ow.owner ≤ 2 := by
    rcases s.ow.owner with _ | p | p <;> decide
  have hb : ∀ b, b01 b ≤ 1 := by decide
  have helecting := hb s.ow.electing
  have h0 : b01 false = 0 := rfl
  have h1 : b01 true = 1 := rfl
  simp only [bitOf, State.owStatus, packWord, List.foldl, BitVec.getLsbD_ofNat, Nat.testBit_eq_decide_div_mod_eq]
  cases s.ow.handover.isSome <;> simp <;> omega

/-! ## A change of owner -/

section
variable {s : State} {o : Option Port}

/-- The state in which ownership has changed and its slub waits (R360). -/
def State.passOwner (s : State) (o : Option Port) : State :=
  let s1 := { s with ow := { s.ow with start := some s.ownerStart, owner := o, epoch := s.ow.epoch + 1 } }
  s1.slub 0x0A02 s1.owStatus.toNat s1.ow.epoch.toNat 0

theorem State.setOwner_same (h : s.ow.owner = o) : s.setOwner o = s := if_pos h

theorem State.setOwner_none (h : s.ow.owner ≠ none) : s.setOwner none = s.passOwner none := if_neg h

theorem State.setOwner_some {p : Port} (h : s.ow.owner ≠ some p) :
    s.setOwner (some p) = (s.passOwner (some p)).raise 0x051 := if_neg h

/-- A change of owner is the same change, be the new owner a port or none, up to the report of a new owner. -/
theorem State.setOwner_changes (h : s.ow.owner ≠ o) :
    s.setOwner o = s.passOwner o ∨ s.setOwner o = (s.passOwner o).raise 0x051 := by
  cases o with
  | none => exact .inl (State.setOwner_none h)
  | some p => exact .inr (State.setOwner_some h)

theorem State.setOwner_ow (h : s.ow.owner ≠ o) :
    (s.setOwner o).ow = { s.ow with start := some s.ownerStart, owner := o, epoch := s.ow.epoch + 1 } := by
  rcases State.setOwner_changes h with e | e <;> rw [e] <;> rfl

theorem State.setOwner_slubReqs (h : s.ow.owner ≠ o) :
    (s.setOwner o).rep.slubReqs = s.rep.slubReqs ++
      [(s.setOwner o).slubReq 0x0A02 (s.setOwner o).owStatus.toNat (s.setOwner o).ow.epoch.toNat 0] := by
  rcases State.setOwner_changes h with e | e <;> rw [e]
  · rfl
  · rw [State.raise_slubReqs]; rfl

theorem State.setOwner_total (h : s.ow.owner ≠ o) : (s.setOwner o).rep.total = s.rep.total := by
  rcases State.setOwner_changes h with e | e <;> rw [e]
  · rfl
  · rw [State.raise_total]; rfl

theorem State.setOwner_whOld (h : s.ow.owner ≠ o) : (s.setOwner o).rep.whOld = s.rep.whOld := by
  rcases State.setOwner_changes h with e | e <;> rw [e]
  · rfl
  · rw [State.raise_whOld]; rfl

theorem State.setOwner_grows (h : s.ow.owner ≠ o) : Rep.Grows s.rep (s.setOwner o).rep := by
  have hpass : Rep.Grows s.rep (s.passOwner o).rep := State.slub_grows _ _ _ _ _
  rcases State.setOwner_changes h with e | e <;> rw [e]
  · exact hpass
  · exact hpass.trans (State.raise_grows _ _)

/-- A new owner raises 0x051 (R360). -/
theorem State.raises_setOwner {u : State} {p : Port} (h : u.ow.owner ≠ some p) (hl : u.regs.live = s.regs.live)
    (hw : u.rep.whOld = none) : s.raises (u.setOwner (some p)) 0x051 := by
  rw [State.setOwner_some h]
  exact State.raises_raise hl hw

end

/-! ## A lapse -/

section
variable {s : State} {p : Port} {cause : Nat}

/-- What a lapse takes from its port: the cause is recorded, the candidacy and a handover are gone (R366). -/
def State.withdrawn (s : State) (p : Port) (cause : Nat) : State :=
  { s with
    ow := { (s.ow.setCand p false) with lapse := cause, handover := none, taker := none, lost := s.ow.handover } }

/-- A lapse before it decides the next owner, with its reports (R366). -/
def State.lapsed (s : State) (p : Port) (cause : Nat) : State :=
  ((s.withdrawn p cause).slub 0x0A04 p.idx cause 0).raise 0x054

theorem State.lapsed_grows (s : State) (p : Port) (cause : Nat) : Rep.Grows s.rep (s.lapsed p cause).rep :=
  Rep.Grows.trans (State.slub_grows (s.withdrawn p cause) _ _ _ _) (State.raise_grows _ _)

theorem State.lapse_to_other (h : s.ow.owner = some p) (hc : s.ow.cand p.other = true) :
    s.lapse cause = (s.lapsed p cause).setOwner (some p.other) := by
  have hcand : (s.lapsed p cause).ow.cand p.other = true := (OwnSt.cand_setCand_other s.ow p false).trans hc
  unfold State.lapse
  rw [h]
  exact if_pos hcand

theorem State.lapse_to_none (h : s.ow.owner = some p) (hc : s.ow.cand p.other = false) :
    s.lapse cause = ((s.lapsed p cause).setOwner none).raise 0x055 := by
  have hcand : (s.lapsed p cause).ow.cand p.other = false := (OwnSt.cand_setCand_other s.ow p false).trans hc
  unfold State.lapse
  rw [h]
  exact if_neg (by rw [Bool.not_eq_true]; exact hcand)

theorem State.lapsed_owner (h : s.ow.owner = some p) : (s.lapsed p cause).ow.owner = some p :=
  (OwnSt.setCand_owner _ _ _).trans h

/-- The owner after a lapse: the other port where it is a candidate. -/
def State.heir (s : State) (p : Port) : Option Port := if s.ow.cand p.other then some p.other else none

theorem State.heir_ne (s : State) (p : Port) : some p ≠ s.heir p := by
  unfold State.heir
  split
  · exact fun e => Port.other_ne p (Option.some.inj e).symm
  · exact fun e => nomatch e

/-- A lapse is a change of owner, up to the report that no port owns the device. -/
theorem State.lapse_changes (h : s.ow.owner = some p) :
    s.lapse cause = (s.lapsed p cause).setOwner (s.heir p) ∨
    s.lapse cause = ((s.lapsed p cause).setOwner (s.heir p)).raise 0x055 := by
  unfold State.heir
  cases hc : s.ow.cand p.other
  · exact .inr (State.lapse_to_none h hc)
  · exact .inl (State.lapse_to_other h hc)

theorem State.lapse_ow (h : s.ow.owner = some p) :
    (s.lapse cause).ow = { (s.ow.setCand p false) with
      lapse := cause, handover := none, taker := none, lost := s.ow.handover
      start := some s.ownerStart, owner := s.heir p, epoch := s.ow.epoch + 1 } := by
  have hne : (s.lapsed p cause).ow.owner ≠ s.heir p := by rw [State.lapsed_owner h]; exact s.heir_ne p
  have hset := State.setOwner_ow hne
  have hlapsed : (s.lapsed p cause).ownerStart = s.ownerStart ∧ (s.lapsed p cause).ow.epoch = s.ow.epoch := by
    cases p <;> exact ⟨rfl, rfl⟩
  rw [hlapsed.1, hlapsed.2] at hset
  rcases State.lapse_changes h with e | e <;> rw [e]
  · exact hset
  · rw [State.raise_ow]; exact hset

theorem State.lapsed_slubReqs : (s.lapsed p cause).rep.slubReqs = s.rep.slubReqs ++ [s.slubReq 0x0A04 p.idx cause 0] := by
  unfold State.lapsed
  rw [State.raise_slubReqs]
  rfl

theorem State.lapse_slubReqs (h : s.ow.owner = some p) :
    (s.lapse cause).rep.slubReqs = s.rep.slubReqs ++ [(s.lapse cause).slubReq 0x0A04 p.idx cause 0,
      (s.lapse cause).slubReq 0x0A02 (s.lapse cause).owStatus.toNat (s.lapse cause).ow.epoch.toNat 0] := by
  have hne : (s.lapsed p cause).ow.owner ≠ s.heir p := by rw [State.lapsed_owner h]; exact s.heir_ne p
  have hreqs := State.setOwner_slubReqs hne
  have hfirst : s.slubReq 0x0A04 p.idx cause 0 = ((s.lapsed p cause).setOwner (s.heir p)).slubReq 0x0A04 p.idx cause 0 := by
    rw [State.setOwner_eq]; rfl
  rw [State.lapsed_slubReqs, hfirst, List.append_assoc] at hreqs
  rcases State.lapse_changes h with e | e <;> rw [e]
  · exact hreqs
  · rw [State.raise_slubReqs]; exact hreqs

theorem State.lapse_keeps (h : s.ow.owner = some p) :
    (s.lapse cause).rep.total = s.rep.total ∧ (s.lapse cause).rep.whOld = s.rep.whOld ∧
    Rep.Grows (s.lapsed p cause).rep (s.lapse cause).rep := by
  have hne : (s.lapsed p cause).ow.owner ≠ s.heir p := by rw [State.lapsed_owner h]; exact s.heir_ne p
  have htotal : (s.lapsed p cause).rep.total = s.rep.total := State.raise_total _ _
  have hold : (s.lapsed p cause).rep.whOld = s.rep.whOld := State.raise_whOld _ _
  have hset := And.intro ((State.setOwner_total hne).trans htotal)
    (And.intro ((State.setOwner_whOld hne).trans hold) (State.setOwner_grows hne))
  rcases State.lapse_changes h with e | e <;> rw [e]
  · exact hset
  · rw [State.raise_total, State.raise_whOld]
    exact ⟨hset.1, hset.2.1, hset.2.2.trans (State.raise_grows _ _)⟩

theorem State.lapse_eq (cause : Nat) : s.lapse cause = { s with rep := (s.lapse cause).rep, ow := (s.lapse cause).ow } := by
  unfold State.lapse
  split
  · rfl
  · simp only; split <;> rw [State.setOwner_eq] <;> rfl

end

/-! ## What the passing of time leaves a command in a cycle at rest -/

section
variable {s : State} {dt : Nat}

theorem State.elapse_whOld (hs : s.ready) : (s.elapse dt).rep.whOld = none := (State.elapse_settled hs dt).2.2.1
theorem State.elapse_slubReqs (hs : s.ready) : (s.elapse dt).rep.slubReqs = [] := (State.elapse_settled hs dt).1
theorem State.elapse_fld (s : State) (dt off lo w : Nat) : (s.elapse dt).fld off lo w = s.fld off lo w := by
  unfold State.fld State.live; rw [State.elapse_regs]
theorem State.elapse_live (s : State) (dt : Nat) : (s.elapse dt).regs.live = s.regs.live := by rw [State.elapse_regs]

end

/-! ## Lapses -/

section
variable {s : State} {dt : Nat} {p : Port} {cause : Nat}

/-- From s to t the ownership of port p has lapsed (R366). -/
def State.lapses (s t : State) (dt : Nat) (p : Port) (cause : Nat) : Prop :=
  t = { s.elapse dt with ow := t.ow, rep := t.rep } ∧
  t.ow.lapse = cause ∧ t.ow.cand p = false ∧ t.ow.cand p.other = s.ow.cand p.other ∧ t.ow.handover = none ∧
  t.ow.epoch = s.ow.epoch + 1 ∧ s.raises t 0x054 ∧ s.logs t 0x0A02 t.owStatus.toNat t.ow.epoch.toNat 0 ∧
  s.logsNext t 0x0A04 p.idx cause 0 ∧
  (s.ow.cand p.other = true → t.ow.owner = some p.other ∧ s.raises t 0x051) ∧
  (s.ow.cand p.other = false → t.ow.owner = none ∧ s.raises t 0x055)

/-- A lapse raises 0x054, and beside it 0x051 for a new owner or 0x055 for none. -/
theorem State.raises_lapse {u : State} (h : u.ow.owner = some p) (hl : u.regs.live = s.regs.live) (hw : u.rep.whOld = none) :
    s.raises (u.lapse cause) 0x054 ∧ (u.ow.cand p.other = true → s.raises (u.lapse cause) 0x051) ∧
    (u.ow.cand p.other = false → s.raises (u.lapse cause) 0x055) := by
  have howner := State.lapsed_owner (cause := cause) h
  have hold : (u.lapsed p cause).rep.whOld = none := (State.raise_whOld _ _).trans hw
  refine ⟨?_, fun hc => ?_, fun hc => ?_⟩
  · exact State.raises_mono (State.raises_raise (u := (u.withdrawn p cause).slub 0x0A04 p.idx cause 0) hl hw)
      (State.lapse_keeps h).2.2
  · rw [State.lapse_to_other h hc]
    refine State.raises_setOwner ?_ hl hold
    rw [howner]
    exact fun e => Port.other_ne p (Option.some.inj e).symm
  · have hne : (u.lapsed p cause).ow.owner ≠ none := by rw [howner]; exact Option.some_ne_none p
    rw [State.lapse_to_none h hc]
    refine State.raises_raise ?_ ((State.setOwner_whOld hne).trans hold)
    rw [State.setOwner_eq]
    exact hl

theorem State.lapses_lapse (hs : s.ready) (h : s.ow.owner = some p) :
    s.lapses ((s.elapse dt).lapse cause).flush dt p cause := by
  have hsteady := hs.2.2
  have how := State.elapse_ow hsteady dt
  have hu : (s.elapse dt).ow.owner = some p := by rw [how, h]
  obtain ⟨htotal, hold, -⟩ := State.lapse_keeps (cause := cause) hu
  rw [State.elapse_rep hsteady] at htotal
  rw [State.elapse_whOld hs] at hold
  have hreqs := State.lapse_slubReqs (cause := cause) hu
  rw [State.elapse_slubReqs hs, List.nil_append] at hreqs
  obtain ⟨h54, h51, h55⟩ := State.raises_lapse (cause := cause) hu (State.elapse_live s dt) (State.elapse_whOld hs)
  obtain ⟨hlog, hnext⟩ := State.logs_flush_two htotal (by decide) hreqs
  have hlapse : ((s.elapse dt).lapse cause).flush.ow = _ := State.lapse_ow hu
  rw [State.heir, how] at hlapse
  rw [how] at h51 h55
  refine ⟨?_, by rw [hlapse], by rw [hlapse]; exact OwnSt.cand_setCand_self s.ow p false,
    by rw [hlapse]; exact OwnSt.cand_setCand_other s.ow p false, by rw [hlapse], by rw [hlapse], State.raises_flush h54 hold,
    hlog, hnext, fun hc => ⟨by rw [hlapse, hc]; rfl, State.raises_flush (h51 hc) hold⟩,
    fun hc => ⟨by rw [hlapse, hc]; rfl, State.raises_flush (h55 hc) hold⟩⟩
  exact State.flush_eq_with (State.lapse_eq cause)

/-! ## Candidacy -/

theorem State.takeCand_relinquish {s : State} (h : s.ow.owner = some p) : s.takeCand p false = s.lapse 3 := if_pos ⟨rfl, h⟩

theorem State.takeCand_declare {s : State} {v : Bool} (h : ¬(v = false ∧ s.ow.owner = some p)) :
    s.takeCand p v = { s with ow := { (s.ow.setCand p v) with soon := s.ow.soon || (v && s.ow.owner.isNone) } } := if_neg h

/-- Where a port is owner, a candidacy that does not give it up is recorded and no more (R357). -/
theorem State.takeCand_owned {s : State} {v : Bool} (h : (s.ow.owner = some p ∧ v = true) ∨ s.ow.owner = some p.other) :
    s.takeCand p v = { s with ow := s.ow.setCand p v } := by
  have hkeep : ¬(v = false ∧ s.ow.owner = some p) := by
    rcases h with ⟨-, rfl⟩ | h
    · exact fun e => nomatch e.1
    · rw [h]; exact fun e => Port.other_ne p (Option.some.inj e.2)
  have hnone : s.ow.owner.isNone = false := by rcases h with ⟨h, -⟩ | h <;> rw [h] <;> rfl
  rw [State.takeCand_declare hkeep, hnone, Bool.and_false, Bool.or_false, ← OwnSt.setCand_soon s.ow p v]

theorem State.takeCand_eq (s : State) (p : Port) (v : Bool) :
    s.takeCand p v = { s with rep := (s.takeCand p v).rep, ow := (s.takeCand p v).ow } := by
  unfold State.takeCand
  split
  · exact State.lapse_eq 3
  · rfl

theorem State.takeCand_cand (s : State) (p : Port) (v : Bool) : (s.takeCand p v).ow.cand p = v := by
  by_cases h : v = false ∧ s.ow.owner = some p
  · obtain ⟨rfl, h⟩ := h
    rw [State.takeCand_relinquish h, State.lapse_ow h]
    exact OwnSt.cand_setCand_self s.ow p false
  · rw [State.takeCand_declare h]
    exact OwnSt.cand_setCand_self s.ow p v

theorem State.takeCand_keeps (s : State) (p : Port) (v : Bool) :
    (s.takeCand p v).rep.whOld = s.rep.whOld ∧ Rep.Grows s.rep (s.takeCand p v).rep := by
  by_cases h : v = false ∧ s.ow.owner = some p
  · obtain ⟨rfl, h⟩ := h
    obtain ⟨-, hold, hgrows⟩ := State.lapse_keeps (cause := 3) h
    rw [State.takeCand_relinquish h]
    exact ⟨hold, (State.lapsed_grows s p 3).trans hgrows⟩
  · rw [State.takeCand_declare h]
    exact ⟨rfl, .refl _⟩

/-- R357, R359: what a write of the CAND field does. -/
theorem answers_takeCand {c : Instr} {w : Wr} {v : Bool} {g : State → State} (hs : s.ready) (hw : s.passes 0x2000 w)
    (hc : exec c s = s.at_ dt (fun u => u.wr 0x2000 w g)) (hg : g (s.elapse dt) = (s.elapse dt).takeCand w.port v) :
    (s.ow.owner = some w.port → v = false → Answers c s (fun t => s.lapses t dt w.port 3)) ∧
    ((s.ow.owner = some w.port ∧ v = true) ∨ s.ow.owner = some w.port.other →
      Answers c s (fun t => t = { s.elapse dt with ow := s.ow.setCand w.port v })) ∧
    (s.ow.owner = none → Answers c s (fun t => t = { s.elapse dt with ow := { s.ow.setCand w.port v with soon := v } })) := by
  have how := State.elapse_ow hs.2.2 dt
  have hsoon : s.ow.soon = false := hs.2.2.2.1
  refine ⟨fun ho hv => ?_, fun ho => ?_, fun ho => ?_⟩
  · subst hv
    refine answers_wr hs hw hc ?_
    rw [hg, State.takeCand_relinquish (by rw [how, ho])]
    exact State.lapses_lapse hs ho
  · rw [State.takeCand_owned (by rwa [how]), how] at hg
    exact answers_wr_quiet hs hw hc (by rw [hg]) hg
  · rw [State.takeCand_declare (by rw [how, ho]; exact fun e => nomatch e.2), how, hsoon, ho] at hg
    exact answers_wr_quiet hs hw hc (by rw [hg]) (by rw [hg, Bool.false_or, Option.isNone_none, Bool.and_true])

/-- CAND is taken from a CANDIDACY and from an ACCEPT without its ACCEPT bit. -/
theorem answers_candidacy {c : Instr} {w : Wr} (hs : s.ready) (hw : s.passes 0x2000 w)
    (hc : c = .candidacy dt w ∨ (c = .accept dt w ∧ bitOf w.data 1 = false)) :
    (s.ow.owner = some w.port → bitOf w.data 0 = false → Answers c s (fun t => s.lapses t dt w.port 3)) ∧
    ((s.ow.owner = some w.port ∧ bitOf w.data 0 = true) ∨ s.ow.owner = some w.port.other →
      Answers c s (fun t => t = { s.elapse dt with ow := s.ow.setCand w.port (bitOf w.data 0) })) ∧
    (s.ow.owner = none →
      Answers c s (fun t =>
        t = { s.elapse dt with ow := { s.ow.setCand w.port (bitOf w.data 0) with soon := bitOf w.data 0 } })) := by
  rcases hc with rfl | ⟨rfl, hbit⟩
  · exact answers_takeCand hs hw (by rfl) rfl
  · exact answers_takeCand hs hw (by rfl) (by exact if_pos hbit)

/-! ## Handover -/

section
variable {w : Wr}

/-- R362: the target of a handover accepts in time. -/
theorem answers_accept_offered (hs : s.ready) (hw : s.passes 0x2000 w) (hbit : bitOf w.data 1 = true)
    (hho : s.ow.handover = some w.port) (hat : s.clock + dt ≤ s.ow.handAt + 100000000) :
    Answers (.accept dt w) s (fun t =>
      t = { s.elapse dt with
            ow := { s.ow.setCand w.port true with handover := none, taker := some w.port }, rep := t.rep } ∧
      s.raises t 0x052) := by
  have how := State.elapse_ow hs.2.2 dt
  have hoffer : (s.elapse dt).offered w.port = true := by
    simp only [State.offered, how, hho, State.elapse_clock, decide_true, Bool.true_and, decide_eq_true_eq]
    exact hat
  refine answers_wr hs hw (by rfl) ?_
  rw [if_neg (by rw [hbit]; decide), if_pos hoffer, how]
  refine ⟨rfl, State.raises_flush (State.raises_raise (State.elapse_live s dt) (State.elapse_whOld hs)) ?_⟩
  rw [State.raise_whOld]
  exact State.elapse_whOld hs

/-- R363: an ACCEPT without a handover to its port is discarded, and its CAND field taken. -/
theorem answers_accept_discarded (hs : s.ready) (hw : s.passes 0x2000 w) (hbit : bitOf w.data 1 = true)
    (hho : s.ow.handover ≠ some w.port ∨ s.ow.handAt + 100000000 < s.clock + dt) :
    Answers (.accept dt w) s (fun t =>
      t = { s.elapse dt with
            ow := t.ow, rep := t.rep
            regs := { s.regs with discOff := 0x2000, discPort := w.port, discReason := 7 } } ∧
      s.counts t (5184 + 64 * w.port.idx) 1 ∧ t.ow.cand w.port = bitOf w.data 0 ∧
      (s.ow.owner = some w.port.other → t.ow = s.ow.setCand w.port (bitOf w.data 0))) := by
  have how := State.elapse_ow hs.2.2 dt
  have hoffer : (s.elapse dt).offered w.port = false := by
    simp only [State.offered, how, State.elapse_clock, Bool.and_eq_false_iff, decide_eq_false_iff_not, handoverNs]
    exact hho.imp_right Nat.not_le.2
  have hlost : (s.elapse dt).ow.lost = none := by rw [how]; exact hs.2.2.2.2.2
  obtain ⟨hold, hgrows⟩ := State.takeCand_keeps ((s.elapse dt).discard 0x2000 w.port reasonState) w.port (bitOf w.data 0)
  rw [State.discard_whOld, State.elapse_whOld hs] at hold
  refine answers_wr hs hw (by rfl) ?_
  rw [if_neg (by rw [hbit]; decide), if_neg (by rw [hoffer]; decide),
    if_neg (by rw [hlost]; exact fun e => nomatch e.1)]
  refine ⟨?_, State.counts_flush (State.counts_mono ?_ hgrows) hold, State.takeCand_cand _ _ _, fun ho => ?_⟩
  · rw [← State.elapse_regs s dt]
    exact State.flush_eq_with (State.takeCand_eq _ _ _)
  · refine State.counts_mono (State.counts_count ?_) (State.raiseOnce_grows _ _ _)
    exact congrArg (Rep.counter · _) (State.elapse_rep hs.2.2 dt)
  · have hd : ((s.elapse dt).discard 0x2000 w.port reasonState).ow = s.ow := how
    show (State.takeCand _ _ _).ow = _
    rw [State.takeCand_owned (.inr (by rw [hd, ho])), hd]

end

/-! ## Election -/

/-- From s to t port p has become owner (R358, R360). -/
def State.gives (s t : State) (dt : Nat) (p : Port) : Prop :=
  t = { s.elapse dt with ow := t.ow, rep := t.rep } ∧ t.ow.owner = some p ∧ t.ow.epoch = s.ow.epoch + 1 ∧
  t.ow.handover = none ∧ s.raises t 0x051 ∧ s.logs t 0x0A02 t.owStatus.toNat t.ow.epoch.toNat 0

theorem State.elected_both {s : State} (ha : s.ow.candA = true) (hb : s.ow.candB = true) :
    s.elected = some (if s.dev.ownPrio then .b else .a) := by simp [State.elected, State.prioPort, ha, hb]
theorem State.elected_a {s : State} (ha : s.ow.candA = true) (hb : s.ow.candB = false) : s.elected = some .a := by
  simp [State.elected, ha, hb]
theorem State.elected_b {s : State} (ha : s.ow.candA = false) (hb : s.ow.candB = true) : s.elected = some .b := by
  simp [State.elected, ha, hb]
theorem State.elected_none {s : State} (ha : s.ow.candA = false) (hb : s.ow.candB = false) : s.elected = none := by
  simp [State.elected, ha, hb]

theorem State.fillOwner_elects {s : State} (ho : s.ow.owner = none) (he : s.ow.electing = false) (hst : s.dev.st ≠ .selfTest) :
    s.fillOwner = s.setOwner s.elected := by simp [State.fillOwner, ho, he, hst]

/-- A first owner, with the report of the change. -/
theorem State.logs_setOwner {s u : State} {o : Option Port} (hne : u.ow.owner ≠ o) (hreqs : u.rep.slubReqs = [])
    (ht : u.rep.total = s.rep.total) :
    s.logs (u.setOwner o).flush 0x0A02 (u.setOwner o).owStatus.toNat (u.setOwner o).ow.epoch.toNat 0 := by
  refine State.logs_flush ((State.setOwner_total hne).trans ht) ?_
  rw [State.setOwner_slubReqs hne, hreqs, List.nil_append]

/-- A change of owner keeps whether the election window is open, and who is a candidate. -/
theorem State.setOwner_election (s : State) (o : Option Port) :
    (s.setOwner o).ow.electing = s.ow.electing ∧ (s.setOwner o).ow.candA = s.ow.candA ∧
    (s.setOwner o).ow.candB = s.ow.candB := by
  by_cases h : s.ow.owner = o
  · rw [State.setOwner_same h]; exact ⟨rfl, rfl, rfl⟩
  · rw [State.setOwner_ow h]; exact ⟨rfl, rfl, rfl⟩

/-- R358: a device without owner goes to a port. -/
theorem State.gives_setOwner {u : State} (hs : s.ready) (hu : u = { s.elapse dt with ow := u.ow })
    (ho : u.ow.owner = none) (hh : u.ow.handover = none) (he : u.ow.epoch = s.ow.epoch) :
    s.gives (u.setOwner (some p)).flush dt p := by
  have hrep : u.rep = s.rep := (congrArg State.rep hu).trans (State.elapse_rep hs.2.2 dt)
  have hold : u.rep.whOld = none := by rw [hrep]; exact hs.2.1.2.2.1
  have hlive : u.regs.live = s.regs.live := (congrArg (fun v : State => v.regs.live) hu).trans (State.elapse_live s dt)
  have hne : u.ow.owner ≠ some p := by rw [ho]; exact (Option.some_ne_none p).symm
  have how : (u.setOwner (some p)).flush.ow = _ := State.setOwner_ow hne
  refine ⟨?_, by rw [how], by rw [how, he], by rw [how, hh], ?_, ?_⟩
  · have hframe : u.setOwner (some p) =
        { s.elapse dt with rep := (u.setOwner (some p)).rep, ow := (u.setOwner (some p)).ow } :=
      (State.setOwner_eq u (some p)).trans (by rw [hu])
    exact State.flush_eq_with hframe
  · exact State.raises_flush (State.raises_setOwner hne hlive hold) ((State.setOwner_whOld hne).trans hold)
  · exact State.logs_setOwner hne (by rw [hrep]; exact hs.2.1.1) (by rw [hrep])

/-- R358: the end of the election window. -/
theorem answers_electionEnd (hs : s.ready) (hel : s.ow.electing = true) (ho : s.ow.owner = none) (hh : s.ow.handover = none)
    (hst : s.dev.st ≠ .selfTest) (hend : s.ow.electEnd ≤ s.clock + dt) :
    Answers (.electionWindowEnd dt) s (fun t =>
      (s.ow.candA = true → s.ow.candB = true → s.gives t dt (if s.dev.ownPrio then .b else .a)) ∧
      (s.ow.candA = true → s.ow.candB = false → s.gives t dt .a) ∧
      (s.ow.candA = false → s.ow.candB = true → s.gives t dt .b) ∧
      (s.ow.candA = false → s.ow.candB = false → t = { s.elapse dt with ow := { s.ow with electing := false } }) ∧
      t.ow.electing = false ∧ t.ow.candA = s.ow.candA ∧ t.ow.candB = s.ow.candB) := by
  have how := State.elapse_ow hs.2.2 dt
  have hopen : ((s.elapse dt).ow.electing && decide ((s.elapse dt).ow.electEnd ≤ (s.elapse dt).clock)) = true := by
    rw [how, hel, State.elapse_clock]
    simpa using hend
  refine answers_at hs (by rfl) ?_
  rw [if_pos hopen, how]
  let u : State := { s.elapse dt with ow := { s.ow with electing := false } }
  have hdev : u.dev = s.dev := State.elapse_dev s dt
  have hfill : u.fillOwner = u.setOwner u.elected := State.fillOwner_elects ho rfl (by rw [hdev]; exact hst)
  show (_ → _ → s.gives u.fillOwner.flush dt _) ∧ _
  rw [hfill]
  obtain ⟨hel', ha', hb'⟩ := State.setOwner_election u u.elected
  refine ⟨fun ha hb => ?_, fun ha hb => ?_, fun ha hb => ?_, fun ha hb => ?_, hel', ha', hb'⟩
  · rw [State.elected_both (s := u) ha hb, hdev]
    exact State.gives_setOwner hs rfl ho hh rfl
  · rw [State.elected_a (s := u) ha hb]
    exact State.gives_setOwner hs rfl ho hh rfl
  · rw [State.elected_b (s := u) ha hb]
    exact State.gives_setOwner hs rfl ho hh rfl
  · rw [State.elected_none (s := u) ha hb, State.setOwner_same (s := u) ho]
    exact State.flush_rest (s := u) (State.elapse_settled hs dt)

/-- R358: before its end, and without one, the election window decides nothing. -/
theorem answers_electionEnd_early (hs : s.ready) (h : s.ow.electing = false ∨ s.clock + dt < s.ow.electEnd) :
    Answers (.electionWindowEnd dt) s (fun t => t = s.elapse dt) := by
  have hshut : ((s.elapse dt).ow.electing && decide ((s.elapse dt).ow.electEnd ≤ (s.elapse dt).clock)) = false := by
    rw [State.elapse_ow hs.2.2, State.elapse_clock, Bool.and_eq_false_iff, decide_eq_false_iff_not]
    exact h.imp_right Nat.not_le.2
  refine answers_at hs (by rfl) ?_
  rw [if_neg (by rw [hshut]; decide)]
  exact State.flush_rest (State.elapse_settled hs dt)

/-! ## The cycle after -/

/-- What a cycle leaves to the next is settled before a command of that next cycle acts (R359, R362). -/
theorem answers_nextOwner {u : State} {k : Nat} (hup : u.up = true) (hu : u.settled) (hel : u.ow.electing = false)
    (hne : u.ow.owner ≠ some p) (hnext : u.nextOwner = (u.setOwner (some p)).flush) :
    Answers (.electionWindowEnd (k + 1)) u (fun t =>
      t.ow.owner = some p ∧ t.ow.epoch = u.ow.epoch + 1 ∧ t.steady ∧ t.ow.candA = u.ow.candA ∧ t.ow.candB = u.ow.candB ∧
      u.raises t 0x051 ∧ ∃ x, Tbl.look t.rep.log (u.rep.total.toNat % 4096) = some x ∧ x.code = 0x0A02) := by
  have how : u.nextOwner.ow = _ := (congrArg State.ow hnext).trans (State.setOwner_ow hne)
  have hshut : u.nextOwner.ow.electing = false := by rw [how]; exact hel
  have hcandA : u.nextOwner.ow.candA = u.ow.candA := by rw [how]
  have hcandB : u.nextOwner.ow.candB = u.ow.candB := by rw [how]
  have hrep : (u.elapse (k + 1)).rep = (u.setOwner (some p)).flush.rep := by
    rw [← hnext]
    rfl
  have hrest : (u.elapse (k + 1)).settled := by
    unfold State.settled
    rw [hrep]
    exact State.flush_settled _
  refine ⟨u.elapse (k + 1), ?_, congrArg OwnSt.owner how, congrArg OwnSt.epoch how, ⟨rfl, rfl, rfl, rfl⟩,
    hcandA, hcandB, fun q hq => ?_, ?_⟩
  · have hquiet : ¬((u.elapse (k + 1)).ow.electing && decide ((u.elapse (k + 1)).ow.electEnd ≤ (u.elapse (k + 1)).clock)) =
        true := by
      rw [show (u.elapse (k + 1)).ow.electing = false from hshut]
      exact Bool.false_ne_true
    refine (State.at_up hup).trans ?_
    rw [if_neg hquiet, State.flush_rest hrest]
  · rw [hrep]
    exact State.raises_flush (State.raises_setOwner hne rfl hu.2.2.1) ((State.setOwner_whOld hne).trans hu.2.2.1) q hq
  · rw [hrep]
    obtain ⟨x, hx, hcode, -⟩ := State.logs_setOwner (s := u) hne hu.1 rfl
    exact ⟨x, hx, hcode⟩

/-- R362: the port that accepted. -/
theorem State.nextOwner_taker {u : State} (h : u.ow.taker = some p) : u.nextOwner = (u.setOwner (some p)).flush := by
  unfold State.nextOwner
  rw [h]

/-- R359: the candidate that the straps name. -/
theorem State.nextOwner_soon {u : State} (ht : u.ow.taker = none) (hsoon : u.ow.soon = true) (ho : u.ow.owner = none)
    (hel : u.ow.electing = false) (hst : u.dev.st ≠ .selfTest) (hp : u.elected = some p) :
    u.nextOwner = (u.setOwner (some p)).flush := by
  unfold State.nextOwner
  rw [ht, ← hp, ← State.fillOwner_elects ho hel hst]
  exact if_pos hsoon

/-! ## Handover -/

/-- The owner alone passes a write outside the registers of its port (R353, R356). -/
theorem State.owner_of_passes {off : Nat} {w : Wr} (hs : s.ready) (hpriv : portPrivate off = false) (hw : s.passes off w) :
    s.ow.owner = some w.port := by
  have hstart : s.ownerStart = s.ow.owner := by unfold State.ownerStart; rw [hs.2.2.1]; rfl
  by_contra hne
  rw [← hstart] at hne
  unfold State.passes State.wrReason at hw
  rw [hpriv, if_pos hne] at hw
  repeat' split at hw
  all_goals contradiction

/-- The port that a write of OW_HANDOVER names. -/
def handoverTarget (w : Wr) : Port := if bitOf w.data 0 then .b else .a

/-- A handover to the port named begins (R361). -/
def State.offer (s : State) (w : Wr) : State :=
  { s.setRwi 0x3008 (w.data &&& 1) with ow := { s.ow with handover := some (handoverTarget w), handAt := s.clock } }

/-- What a GO of OW_HANDOVER does (R361). -/
def State.startHandover (s : State) (w : Wr) : State :=
  if s.ow.owner = some (handoverTarget w) then s.discard 0x3008 w.port reasonInvalid
  else if s.ow.handover.isSome then s.discard 0x3008 w.port reasonState
  else s.offer w

theorem exec_handoverGo {w : Wr} (hgo : bitOf w.data 8 = true) :
    exec (.handoverGo dt w) s = s.at_ dt (fun u => u.wr 0x3008 w (fun u => u.startHandover w)) := by
  have hrow : exec (.handoverGo dt w) s = s.at_ dt (fun u => u.wr 0x3008 w (fun u =>
      if bitOf w.data 8 = false then u.regStore 0x3008 w else u.startHandover w)) := rfl
  simpa only [hgo, Bool.true_eq_false, if_false] using hrow

/-- R361: what a GO does, for the target it names. -/
theorem answers_handoverGo {w : Wr} (hs : s.ready) (hw : s.passes 0x3008 w) (hgo : bitOf w.data 8 = true) :
    (w.port ≠ handoverTarget w → s.ow.handover = none →
      Answers (.handoverGo dt w) s (fun t =>
        t = { s.elapse dt with
              ow := { s.ow with handover := some (handoverTarget w), handAt := s.clock + dt }
              regs := { s.regs with rwi := t.regs.rwi } } ∧
        bitOf t.owStatus 3 = true ∧ t.rwi 0x3008 = w.data &&& 1 ∧ ∀ o, o ≠ 0x3008 → t.rwi o = s.rwi o)) ∧
    (w.port = handoverTarget w → Answers (.handoverGo dt w) s (fun t => s.discards t dt 0x3008 w 10)) ∧
    (w.port ≠ handoverTarget w → s.ow.handover.isSome = true →
      Answers (.handoverGo dt w) s (fun t => s.discards t dt 0x3008 w 7)) := by
  have how := State.elapse_ow hs.2.2 dt
  have howner : (s.elapse dt).ow.owner = some w.port := by rw [how]; exact State.owner_of_passes hs (by decide) hw
  have hother : w.port ≠ handoverTarget w → (s.elapse dt).ow.owner ≠ some (handoverTarget w) := fun hp e =>
    hp (Option.some.inj (howner.symm.trans e))
  refine ⟨fun hp hh => ?_, fun hp => ?_, fun hp hh => ?_⟩
  · have hstart : (s.elapse dt).startHandover w = (s.elapse dt).offer w := by
      unfold State.startHandover
      rw [if_neg (hother hp), how, hh]
      rfl
    refine answers_wr_quiet hs hw (exec_handoverGo hgo) (by rw [hstart]; rfl) ?_
    rw [hstart, ← how, ← State.elapse_regs s dt, ← State.elapse_clock]
    refine ⟨rfl, State.bitOf_owStatus_handover _, Tbl.lookD_put_self _ _ _ _, fun o ho => ?_⟩
    rw [← State.elapse_rwi s dt]
    exact Tbl.lookD_put_ne _ _ _ _ ho
  · refine answers_wr hs hw (exec_handoverGo hgo) ?_
    rw [State.startHandover, if_pos (by rw [howner, hp])]
    exact State.discards_discard hs dt 0x3008 w _
  · refine answers_wr hs hw (exec_handoverGo hgo) ?_
    rw [State.startHandover, if_neg (hother hp), if_pos (by rw [how, hh])]
    exact State.discards_discard hs dt 0x3008 w _

/-- R363: a handover that is not accepted in time is cancelled. -/
theorem answers_handoverTimeout (hs : s.ready) (hh : s.ow.handover.isSome = true)
    (hend : s.ow.handAt + 100000000 ≤ s.clock + dt) :
    Answers (.handoverTimeout dt) s (fun t =>
      t = { s.elapse dt with ow := { s.ow with handover := none }, rep := t.rep } ∧ s.raises t 0x053 ∧
      s.logs t 0x0A03 0 0 0) := by
  have hdue : ((s.elapse dt).ow.handover.isSome && decide ((s.elapse dt).ow.handAt + handoverNs ≤ (s.elapse dt).clock)) =
      true := by
    rw [State.elapse_ow hs.2.2, State.elapse_clock, hh, Bool.true_and, decide_eq_true_eq]
    exact hend
  refine answers_at hs (show execHandoverTimeout dt s = _ from rfl) ?_
  rw [if_pos hdue, ← State.elapse_ow hs.2.2 dt]
  refine ⟨((State.slub_reports _ _ _ _ _).trans (State.raise_reports _ _)).trans (State.flush_reports _),
    State.raises_flush ?_ ?_, State.logs_flush ?_ ?_⟩
  · exact State.raises_raise (State.elapse_live s dt) (State.elapse_whOld hs)
  · rw [State.raise_whOld]; exact State.elapse_whOld hs
  · rw [State.raise_total]; rw [State.slub_total]; exact congrArg Rep.total (State.elapse_rep hs.2.2 dt)
  · rw [State.raise_slubReqs, State.slub_slubReqs]
    exact congrArg (· ++ _) (State.elapse_slubReqs hs)

theorem answers_handoverTimeout_early (hs : s.ready)
    (h : s.ow.handover = none ∨ s.clock + dt < s.ow.handAt + 100000000) :
    Answers (.handoverTimeout dt) s (fun t => t = s.elapse dt) := by
  have hopen : ((s.elapse dt).ow.handover.isSome && decide ((s.elapse dt).ow.handAt + handoverNs ≤ (s.elapse dt).clock)) =
      false := by
    rw [State.elapse_ow hs.2.2, State.elapse_clock, Bool.and_eq_false_iff, decide_eq_false_iff_not, Option.isSome_eq_false_iff,
      Option.isNone_iff_eq_none]
    exact h.imp_right Nat.not_le.2
  refine answers_at hs (show execHandoverTimeout dt s = _ from rfl) ?_
  rw [if_neg (by rw [hopen]; decide)]
  exact State.flush_rest (State.elapse_settled hs dt)

/-! ## The watch on the owner's generation -/

/-- R365: what the watch does where a port owns the device. -/
theorem answers_generationLapse (hs : s.ready) (ho : s.ow.owner = some p) :
    ((s.port p).portEn = true → (s.port p).genAt + s.fld 0x3004 0 10 * 1000000 ≤ s.clock + dt →
      Answers (.generationLapse dt) s (fun t => s.lapses t dt p 1)) ∧
    ((s.port p).portEn = false ∨ s.clock + dt < (s.port p).genAt + s.fld 0x3004 0 10 * 1000000 →
      Answers (.generationLapse dt) s (fun t => t = s.elapse dt)) := by
  have howner : (s.elapse dt).ow.owner = some p := by rw [State.elapse_ow hs.2.2, ho]
  have hport := State.elapse_port hs.2.2 dt p
  refine ⟨fun hen hdue => ?_, fun h => ?_⟩ <;> refine answers_at hs (show execGenerationLapse dt s = _ from rfl) ?_ <;>
    simp only [howner, hport, State.elapse_fld, State.elapse_clock]
  · rw [if_pos (by rw [hen, Bool.true_and, decide_eq_true_eq]; exact hdue)]
    exact State.lapses_lapse hs ho
  · rw [if_neg (by rw [Bool.not_eq_true, Bool.and_eq_false_iff, decide_eq_false_iff_not]; exact h.imp_right Nat.not_le.2)]
    exact State.flush_rest (State.elapse_settled hs dt)

/-- Settles O48: each change of owner is one `State.setOwner`, whose slub and source are told once; a lapse makes it beside its
own slub, which stands behind it (R499), and a write leaves it to the cycle that follows. -/
theorem ownershipFollowsCandidacy : Obligations.OwnershipFollowsCandidacy := by
  unfold Obligations.OwnershipFollowsCandidacy
  intro s dt hs
  refine ⟨fun c w hw hc => answers_candidacy hs hw hc, fun u k hup hu hel => ⟨fun p ht hne => ?_, fun ht hsoon ho hst => ?_⟩,
    fun w hw hbit => ⟨fun hho hat _ => answers_accept_offered hs hw hbit hho hat, answers_accept_discarded hs hw hbit⟩,
    answers_electionEnd hs, answers_electionEnd_early hs, s.bitOf_owStatus_handover,
    fun w hw hgo => answers_handoverGo hs hw hgo, answers_handoverTimeout hs, answers_handoverTimeout_early hs,
    fun p ho => answers_generationLapse hs ho⟩
  · exact answers_nextOwner hup hu hel hne (State.nextOwner_taker ht)
  · have hnext : ∀ {p}, u.elected = some p → _ := fun hp =>
      answers_nextOwner (k := k) hup hu hel (by rw [ho]; exact (Option.some_ne_none _).symm)
        (State.nextOwner_soon ht hsoon ho hel hst hp)
    exact ⟨fun ha hb => hnext (State.elected_a ha hb), fun ha hb => hnext (State.elected_b ha hb),
      fun ha hb => hnext (State.elected_both ha hb)⟩

end
end Sys2Proof.Machine
end

section
/-!
PROOFS. The whorl's presentation to the ports (chapter 11, R355, R371 to R378): which source a claim takes, when a request message
goes out, and what a claim, a completion, HOLD, a doorbell and the age of the stack do.
-/

namespace Sys2Proof

theorem Tbl.sortedFrom_of_wf {α : Type} [DecidableEq α] {d : α} {t : Tbl α} (h : Tbl.wf d t = true) :
    Tbl.sortedFrom 0 t = true := by
  simp only [Tbl.wf, Bool.and_eq_true] at h
  exact h.1

/-- The keys of a table with rising keys are at least its bound. -/
theorem Tbl.le_of_mem {α : Type} {t : Tbl α} {lo : Nat} {e : Nat × α} (hs : Tbl.sortedFrom lo t = true) (he : e ∈ t) :
    lo ≤ e.1 := by
  induction t generalizing lo with
  | nil => cases he
  | cons e' t ih =>
    simp only [Tbl.sortedFrom, Bool.and_eq_true, decide_eq_true_eq] at hs
    rcases List.mem_cons.1 he with rfl | he
    · exact hs.1
    · have := ih hs.2 he
      omega

/-- In a table with rising keys each entry is the one looked up. -/
theorem Tbl.look_eq_some_iff {α : Type} {t : Tbl α} {lo k : Nat} {v : α} (hs : Tbl.sortedFrom lo t = true) :
    Tbl.look t k = some v ↔ (k, v) ∈ t := by
  induction t generalizing lo with
  | nil => simp [Tbl.look]
  | cons e t ih =>
    obtain ⟨j, x⟩ := e
    simp only [Tbl.sortedFrom, Bool.and_eq_true, decide_eq_true_eq] at hs
    rw [Tbl.look, List.mem_cons, Prod.mk.injEq]
    split
    case isTrue hk =>
      subst hk
      have hlater : (k, v) ∉ t := fun hm => absurd (Tbl.le_of_mem hs.2 hm) (by simp)
      simp [hlater, eq_comm]
    case isFalse hk => simp [hk, ih hs.2]

/-- Entries may be left out of a table with rising keys. -/
theorem Tbl.sortedFrom_filter {α : Type} {t : Tbl α} {lo : Nat} (f : Nat × α → Bool) (hs : Tbl.sortedFrom lo t = true) :
    Tbl.sortedFrom lo (t.filter f) = true := by
  induction t generalizing lo with
  | nil => rfl
  | cons e t ih =>
    have hs' := hs
    simp only [Tbl.sortedFrom, Bool.and_eq_true, decide_eq_true_eq] at hs'
    rw [List.filter_cons]
    split
    · simp only [Tbl.sortedFrom, Bool.and_eq_true, decide_eq_true_eq]
      exact ⟨hs'.1, ih hs'.2⟩
    · exact Tbl.sortedFrom_mono (by omega) (ih hs'.2)

namespace Machine

/-! ## The source that is presented first -/

section
variable {c : Ctx} {S T : Nat → Prop} {m : Option Nat}

/-- Of the sources in S, m is the one of highest priority, the lower number among equals; none where S is empty (R371). -/
def Ctx.IsBest (c : Ctx) (S : Nat → Prop) : Option Nat → Prop
  | none => ∀ j, ¬S j
  | some b => S b ∧ ∀ j, S j → c.prio j < c.prio b ∨ (c.prio j = c.prio b ∧ b ≤ j)

theorem Ctx.IsBest.congr (hST : ∀ j, S j ↔ T j) (h : c.IsBest S m) : c.IsBest T m := by
  obtain rfl : S = T := funext fun j => propext (hST j)
  exact h

theorem Ctx.IsBest.eq_none (h : c.IsBest S m) (hS : ∀ j, ¬S j) : m = none := by
  cases m with
  | none => rfl
  | some b => exact absurd h.1 (hS b)

theorem Ctx.IsBest.eq_some {i : Nat} (h : c.IsBest S m) (hi : S i)
    (hbest : ∀ j, S j → c.prio j < c.prio i ∨ (c.prio j = c.prio i ∧ i ≤ j)) : m = some i := by
  cases m with
  | none => exact absurd hi (h i)
  | some b =>
    have hib := h.2 i hi
    have hbi := hbest b h.1
    congr 1
    omega

theorem Ctx.IsBest.exists_some (h : c.IsBest S m) (hS : ∃ j, S j) : ∃ i, m = some i := by
  obtain ⟨j, hj⟩ := hS
  cases m with
  | none => exact absurd hj (h j)
  | some b => exact ⟨b, rfl⟩

/-- One source is looked at, after those before it. -/
def Ctx.pick (c : Ctx) (m : Option Nat) (e : Nat × SrcState) : Option Nat :=
  match e.2 with
  | .pending =>
    match m with
    | none => some e.1
    | some b => if c.prio e.1 > c.prio b then some e.1 else some b
  | _ => m

theorem Ctx.bestOf_eq (c : Ctx) (l : Tbl SrcState) : c.bestOf l = l.foldl c.pick none := rfl

/-- A source with a number above all those before it displaces them by a higher priority alone. -/
theorem Ctx.IsBest.pick {e : Nat × SrcState} (h : c.IsBest S m) (hlt : ∀ j, S j → j < e.1) :
    c.IsBest (fun j => S j ∨ (j, SrcState.pending) = e) (c.pick m e) := by
  obtain ⟨k, x⟩ := e
  cases x
  case pending =>
    cases m with
    | none =>
      refine ⟨.inr rfl, fun j hj => ?_⟩
      rcases hj with hj | hj
      · exact absurd hj (h j)
      · cases hj
        exact .inr ⟨rfl, le_rfl⟩
    | some b =>
      obtain ⟨hb, hbest⟩ := h
      have hbk : b < k := hlt b hb
      unfold Ctx.pick
      simp only
      split
      case isTrue hgt =>
        refine ⟨.inr rfl, fun j hj => ?_⟩
        rcases hj with hj | hj
        · have := hbest j hj
          omega
        · cases hj
          exact .inr ⟨rfl, le_rfl⟩
      case isFalse hgt =>
        refine ⟨.inl hb, fun j hj => ?_⟩
        rcases hj with hj | hj
        · exact hbest j hj
        · cases hj
          omega
  all_goals exact h.congr fun j => by simp

theorem Ctx.IsBest.foldl {l : Tbl SrcState} {lo : Nat} (h : c.IsBest S m) (hlt : ∀ j, S j → j < lo)
    (hl : Tbl.sortedFrom lo l = true) : c.IsBest (fun j => S j ∨ (j, SrcState.pending) ∈ l) (l.foldl c.pick m) := by
  induction l generalizing lo m S with
  | nil => exact h.congr fun j => by simp
  | cons e l ih =>
    obtain ⟨k, x⟩ := e
    simp only [Tbl.sortedFrom, Bool.and_eq_true, decide_eq_true_eq] at hl
    have hstep := h.pick (e := (k, x)) fun j hj => lt_of_lt_of_le (hlt j hj) hl.1
    refine (ih hstep (fun j hj => ?_) hl.2).congr fun j => by rw [List.mem_cons, or_assoc]
    rcases hj with hj | hj
    · have := hlt j hj
      omega
    · cases hj
      exact Nat.lt_succ_self _

/-- Of a table in order the source of highest priority is found (R371). -/
theorem Ctx.isBest_bestOf {l : Tbl SrcState} (hl : Tbl.sortedFrom 0 l = true) :
    c.IsBest (fun j => (j, SrcState.pending) ∈ l) (c.bestOf l) := by
  have hnone : c.IsBest (fun _ => False) none := fun _ h => h
  rw [Ctx.bestOf_eq]
  exact (hnone.foldl (fun _ h => h.elim) hl).congr fun j => by simp

end

section
variable {c : Ctx} {q : PortSt}

theorem PortSt.srcSt_eq_pending_iff (hwf : Tbl.wf .inactive q.src = true) {j : Nat} :
    q.srcSt j = .pending ↔ (j, SrcState.pending) ∈ q.src := by
  rw [← Tbl.look_eq_some_iff (Tbl.sortedFrom_of_wf hwf), PortSt.srcSt, Tbl.lookD]
  cases Tbl.look q.src j <;> simp

/-- A source pending in a port, but for one that fired in the cycle of a claim (R375). -/
def PortSt.sees (q : PortSt) (clock j : Nat) : Prop :=
  q.srcSt j = .pending ∧ ¬(q.freshAt = clock ∧ q.fresh.contains j = true)

/-- A claim takes the first of the sources it sees (R371). -/
theorem Ctx.isBest_claimed (hwf : Tbl.wf .inactive q.src = true) : c.IsBest (q.sees c.clock) (c.claimed q) := by
  have hsorted := Tbl.sortedFrom_of_wf hwf
  refine (Ctx.isBest_bestOf (Tbl.sortedFrom_filter _ hsorted)).congr fun j => ?_
  rw [List.mem_filter, PortSt.sees, PortSt.srcSt_eq_pending_iff hwf]
  simp [Classical.or_iff_not_imp_left]

theorem Ctx.best_eq_none (hwf : Tbl.wf .inactive q.src = true) (h : ∀ j, q.srcSt j ≠ .pending) : c.best q = none := by
  have hsorted := Tbl.sortedFrom_of_wf hwf
  exact (Ctx.isBest_bestOf hsorted).eq_none fun j hj => h j ((PortSt.srcSt_eq_pending_iff hwf).2 hj)

/-! ## REQ and OUTSTANDING -/

theorem Ctx.prio_congr {c' : Ctx} (h : c.live = c'.live) : c.prio = c'.prio := by
  funext i; simp only [Ctx.prio, Ctx.src, Ctx.reg, h]

/-- REQ reads the live configuration alone. -/
theorem Ctx.req_congr {c' : Ctx} (h : c.live = c'.live) (q : PortSt) : c.req q = c'.req q := by
  simp only [Ctx.req, Ctx.best, Ctx.bestOf, Ctx.prio_congr h]

/-- While HOLD is 1 REQ is 0 (R376). -/
theorem Ctx.req_hold (h : q.hold = true) : c.req q = false := by
  unfold Ctx.req
  split
  · rfl
  · rw [h]; rfl

/-- Without a source pending REQ is 0 (R374). -/
theorem Ctx.req_best_none (h : c.best q = none) : c.req q = false := by
  unfold Ctx.req
  rw [h]

/-- A port once REQ and OUTSTANDING are evaluated: a message that is due is sent, or is pending while its vector is masked (R374). -/
def PortSt.asked (q : PortSt) (c : Ctx) : PortSt :=
  if c.req q && !q.outstanding && q.canWrite then
    { q with outstanding := true, msixPend := q.msixPend || q.msixMask }
  else q

theorem PortSt.asked_of_not_req (h : c.req q = false) : q.asked c = q := by simp [PortSt.asked, h]

theorem PortSt.asked_congr {c' : Ctx} (h : c.live = c'.live) : q.asked c = q.asked c' := by
  unfold PortSt.asked
  rw [Ctx.req_congr h]

@[simp] theorem PortSt.asked_src : (q.asked c).src = q.src := by unfold PortSt.asked; split <;> rfl
@[simp] theorem PortSt.asked_stack : (q.asked c).stack = q.stack := by unfold PortSt.asked; split <;> rfl
@[simp] theorem PortSt.asked_hold : (q.asked c).hold = q.hold := by unfold PortSt.asked; split <;> rfl
theorem PortSt.asked_outstanding : (q.asked c).outstanding = (q.outstanding || (c.req q && q.canWrite)) := by
  unfold PortSt.asked
  split
  case isTrue h =>
    simp only [Bool.and_eq_true] at h
    simp [h.1.1, h.2]
  case isFalse h =>
    cases ho : q.outstanding <;> simp_all

end

section
variable (r : Rep) (c : Ctx) (p : Port)

theorem Rep.evalReq_port_self : (r.evalReq c p).port p = (r.port p).asked c := by
  unfold Rep.evalReq PortSt.asked
  simp only
  split
  · split
    case isTrue hm => rw [Rep.port_setPort_self, hm, Bool.or_true]
    case isFalse hm =>
      rw [Bool.not_eq_true] at hm
      rw [hm, Bool.or_false]
      exact Rep.port_setPort_self _ _ _
  · rfl

theorem Rep.evalReq_port_ne {p' : Port} (h : p' ≠ p) : (r.evalReq c p).port p' = r.port p' := by
  unfold Rep.evalReq
  simp only
  split
  · split
    · exact Rep.port_setPort_ne _ _ h
    · exact Rep.port_setPort_ne _ _ h
  · rfl

/-- The message that the evaluation sends. -/
theorem Rep.evalReq_out (hreq : c.req (r.port p) = true) (ho : (r.port p).outstanding = false)
    (hw : (r.port p).canWrite = true) (hm : (r.port p).msixMask = false) :
    (r.evalReq c p).out = r.out ++ [.msix p (r.port p).msixAddr (r.port p).msixData] := by
  unfold Rep.evalReq
  simp only [hreq, ho, hw, hm, Bool.not_false, Bool.and_true, if_true, Bool.false_eq_true, if_false]
  rfl

end

/-- Where a request alone waits for the end of its instant, both ports are evaluated then (R375). -/
theorem Rep.askReq_flush {r : Rep} (c : Ctx) (hs : r.slubReqs = []) (hh : r.hankReqs = []) (hw : r.whOld = none) :
    r.askReq.flush c = { (r.askReq.evalReq c .a).evalReq c .b with whDue := false } := by
  cases r
  simp only at hs hh hw
  subst hs hh hw
  rfl

theorem Rep.evalBoth_port (r : Rep) (c : Ctx) (p : Port) : ((r.evalReq c .a).evalReq c .b).port p = (r.port p).asked c := by
  cases p
  · rw [Rep.evalReq_port_ne _ _ _ (by decide), Rep.evalReq_port_self]
  · rw [Rep.evalReq_port_self, Rep.evalReq_port_ne _ _ _ (by decide)]

section
variable {s u : State} {p : Port}

theorem State.askReq_flush_port (hu : u.settled) : u.askReq.flush.port p = (u.port p).asked u.ctx := by
  have hrep : u.askReq.flush.rep = _ := Rep.askReq_flush u.ctx hu.1 hu.2.1 hu.2.2.1
  have hport : u.askReq.flush.port p = ((u.askReq.rep.evalReq u.ctx .a).evalReq u.ctx .b).port p := by
    rw [State.port, hrep]
    rfl
  rw [hport, Rep.evalBoth_port]
  rfl

theorem State.askReq_flush_msix (hu : u.settled) (hreq : u.ctx.req (u.port p) = true) (ho : (u.port p).outstanding = false)
    (hw : (u.port p).canWrite = true) (hm : (u.port p).msixMask = false) :
    u.putsOut u.askReq.flush (.msix p (u.port p).msixAddr (u.port p).msixData) := by
  have hrep : u.askReq.flush.rep = _ := Rep.askReq_flush u.ctx hu.1 hu.2.1 hu.2.2.1
  unfold State.putsOut
  rw [hrep]
  cases p
  · have hfirst : (u.askReq.rep.evalReq u.ctx .a).out = _ := Rep.evalReq_out u.askReq.rep u.ctx .a hreq ho hw hm
    obtain ⟨l, hl⟩ := (Rep.grows_evalReq (u.askReq.rep.evalReq u.ctx .a) u.ctx .b).out
    refine ⟨[_] ++ l, hl.trans ?_, List.mem_append_left _ (List.mem_singleton.2 rfl)⟩
    rw [hfirst, List.append_assoc]
    rfl
  · have hport : (u.askReq.rep.evalReq u.ctx .a).port .b = u.port .b := Rep.evalReq_port_ne _ _ _ (by decide)
    obtain ⟨l, hl⟩ := (Rep.grows_evalReq u.askReq.rep u.ctx .a).out
    have hsecond := Rep.evalReq_out (u.askReq.rep.evalReq u.ctx .a) u.ctx .b (by rwa [hport]) (by rwa [hport])
      (by rwa [hport]) (by rwa [hport])
    rw [hport, hl] at hsecond
    exact ⟨l ++ [_], hsecond.trans (List.append_assoc _ _ _), List.mem_append_right _ (List.mem_singleton.2 rfl)⟩

/-- From s to t REQ and OUTSTANDING of a port in the state q are evaluated, and the message sent that is due (R374). -/
def State.asks (s t : State) (q : PortSt) (p : Port) : Prop :=
  (t.port p).outstanding = (q.outstanding || (s.ctx.req q && q.canWrite)) ∧
  (q.outstanding = false → s.ctx.req q = true → q.canWrite = true → q.msixMask = false →
    s.putsOut t (.msix p q.msixAddr q.msixData))

theorem State.asks_flush (hu : u.settled) (hlive : u.regs.live = s.regs.live) (hout : ∃ l, u.rep.out = s.rep.out ++ l) :
    s.asks u.askReq.flush (u.port p) p := by
  have hreq : s.ctx.req (u.port p) = u.ctx.req (u.port p) := Ctx.req_congr hlive.symm _
  refine ⟨?_, fun ho hr hw hm => ?_⟩
  · rw [State.askReq_flush_port hu, hreq, PortSt.asked_outstanding]
  · obtain ⟨l, hl⟩ := hout
    obtain ⟨l', hl', hmem⟩ := State.askReq_flush_msix hu (hreq ▸ hr) ho hw hm
    exact ⟨l ++ l', by rw [hl', hl, List.append_assoc], List.mem_append_right _ hmem⟩

/-- An instant that leaves port p in the state q, and reports nothing behind its outputs: at its end q is evaluated, and the other
port's view stays (R374, R375). -/
theorem State.asked_at_end {dt : Nat} {q : PortSt} (hu : u.settled) (hreports : (s.elapse dt).Reports u)
    (hport : u.port p = q) (hother : u.port p.other = s.port p.other) (hout : ∃ l, u.rep.out = s.rep.out ++ l) :
    u.askReq.flush = { s.elapse dt with rep := u.askReq.flush.rep } ∧ u.askReq.flush.port p = q.asked s.ctx ∧
    ((u.askReq.flush.port p.other).src = (s.port p.other).src ∧
      (u.askReq.flush.port p.other).stack = (s.port p.other).stack) ∧
    s.asks u.askReq.flush q p := by
  have hlive : u.regs.live = s.regs.live := hreports.live.trans (by rw [State.elapse_regs])
  have hasks := State.asks_flush (p := p) hu hlive hout
  rw [hport] at hasks
  refine ⟨hreports.trans (u.askReq_reports.trans u.askReq.flush_reports), ?_, ⟨?_, ?_⟩, hasks⟩
  · rw [State.askReq_flush_port hu, hport]
    exact PortSt.asked_congr hlive
  · rw [State.askReq_flush_port hu, PortSt.asked_src, hother]
  · rw [State.askReq_flush_port hu, PortSt.asked_stack, hother]

/-! ## Commands of the whorl -/

theorem State.putsOut_of_out {t : State} {o : Output} (hout : ∃ l, u.rep.out = s.rep.out ++ l) (h : u.putsOut t o) :
    s.putsOut t o := by
  obtain ⟨l, hl⟩ := hout
  obtain ⟨l', hl', hmem⟩ := h
  exact ⟨l ++ l', by rw [hl', hl, List.append_assoc], List.mem_append_right _ hmem⟩

/-- R371: a claim answers a number. -/
def State.answerClaim (s : State) (p : Port) (n : Nat) : State := s.emit (.regRead p 0x4004 (BitVec.ofNat 32 n))

/-- A claim sets OUTSTANDING to 0 (R374). -/
def State.unask (s : State) (p : Port) : State := s.setPort p { s.port p with outstanding := false }

/-- R371: a claim that finds no source. -/
def State.claimNone (s : State) (p : Port) : State := (s.count (whCounter p 2)).answerClaim p 0x3FF

/-- R371: a claim on a full stack. -/
def State.claimFull (s : State) (p : Port) : State :=
  ((s.count (whCounter p 6)).slub 0x0A05 p.idx 0 0).answerClaim p 0x3FF

/-- R371: a claim that takes source i. -/
def State.claimPush (s : State) (p : Port) (i : Nat) : State :=
  (s.setPort p { ((s.port p).setSrc i .active) with
    stack := (s.port p).stack ++ [{ src := i, prio := s.ctx.prio i, at_ := s.clock }] }).answerClaim p i

/-- R371, R377: what a claim that takes source i reports beside its answer, on a stack that held n entries. -/
def State.claimReports (s : State) (p : Port) (gone : Bool) (i n : Nat) : State :=
  let s2 := if gone && Config.levelLike i then s.count (whCounter p 4) else s
  if n = 63 then s2.raise 0x003 else s2

/-- A claim of a port whose OUTSTANDING is 0 (R371). -/
def State.claim (s : State) (p : Port) (gone : Bool) : State :=
  match s.ctx.claimed (s.port p) with
  | none => s.claimNone p
  | some i =>
    if (s.port p).stack.length ≥ 64 then s.claimFull p
    else (s.claimPush p i).claimReports p gone i (s.port p).stack.length

theorem exec_whClaim (s : State) (dt : Nat) (r : Rd) (gone : Bool) :
    exec (.whClaim dt r gone) s = s.at_ dt (fun u =>
      if r.full = false then u.answerClaim r.port 0 else ((u.unask r.port).claim r.port gone).askReq) := rfl

theorem State.claim_none {gone : Bool} (h : s.ctx.claimed (s.port p) = none) : s.claim p gone = s.claimNone p := by
  unfold State.claim
  rw [h]

theorem State.claim_full {gone : Bool} {i : Nat} (h : s.ctx.claimed (s.port p) = some i) (hl : 64 ≤ (s.port p).stack.length) :
    s.claim p gone = s.claimFull p := by
  unfold State.claim
  rw [h]
  exact if_pos hl

theorem State.claim_push {gone : Bool} {i : Nat} (h : s.ctx.claimed (s.port p) = some i) (hl : (s.port p).stack.length < 64) :
    s.claim p gone = (s.claimPush p i).claimReports p gone i (s.port p).stack.length := by
  unfold State.claim
  rw [h]
  exact if_neg (Nat.not_le.2 hl)

section
variable (u p) (gone : Bool) (i n : Nat)

theorem State.claimPush_reports : u.Reports (u.claimPush p i) :=
  (State.setPort_reports u p _).trans (State.emit_reports _ _)

theorem State.claimReports_reports : u.Reports (u.claimReports p gone i n) := by
  unfold State.claimReports; simp only; split <;> split <;> rfl

theorem State.claimReports_keeps :
    Rep.Grows u.rep (u.claimReports p gone i n).rep ∧ Rep.Fires u.rep (u.claimReports p gone i n).rep ∧
    (u.claimReports p gone i n).rep.whOld = u.rep.whOld := by
  have hcount : ∀ v : State, v = (if gone && Config.levelLike i then u.count (whCounter p 4) else u) →
      Rep.Grows u.rep v.rep ∧ Rep.Fires u.rep v.rep ∧ v.rep.whOld = u.rep.whOld := by
    rintro v rfl
    split
    · exact ⟨State.count_grows _ _, State.count_fires _ _, State.count_whOld _ _⟩
    · exact ⟨.refl _, .refl _, rfl⟩
  obtain ⟨hgrows, hfires, hold⟩ := hcount _ rfl
  unfold State.claimReports
  simp only
  split
  · exact ⟨hgrows.trans (State.raise_grows _ _), hfires.trans (State.raise_fires _ _), (State.raise_whOld _ _).trans hold⟩
  · exact ⟨hgrows, hfires, hold⟩

/-- R377: a level-like source whose condition is gone. -/
theorem State.claimReports_counts (hct : u.rep.counter (whCounter p 4) = s.rep.counter (whCounter p 4))
    (hlevel : Config.levelLike i = true) : s.counts (u.claimReports p true i n) (whCounter p 4) 1 := by
  have hcount : s.counts (u.count (whCounter p 4)) (whCounter p 4) 1 := State.counts_count hct
  unfold State.claimReports
  simp only [hlevel, Bool.and_self, if_true]
  split
  · exact State.counts_mono hcount (State.raise_grows _ _)
  · exact hcount

/-- R371: the entry that fills the stack. -/
theorem State.claimReports_raises (hlive : u.regs.live = s.regs.live) (hw : u.rep.whOld = none) :
    s.raises (u.claimReports p gone i 63) 0x003 := by
  unfold State.claimReports
  simp only [if_true]
  split
  · exact State.raises_raise hlive ((State.count_whOld _ _).trans hw)
  · exact State.raises_raise hlive hw

theorem State.claimReports_quiet (hn : n ≠ 63) : u.claimReports p false i n = u := by
  unfold State.claimReports
  simp [hn]

end

/-! ## Claims -/

section
variable {dt n : Nat}

/-- A request that waits for the end of the instant takes nothing back, and only fires. -/
theorem State.askReq_flush_keeps (hw : u.rep.whOld = none) :
    Rep.Grows u.rep u.askReq.flush.rep ∧ Rep.Fires u.rep u.askReq.flush.rep :=
  ⟨(State.askReq_grows u).trans (State.flush_grows (s := u.askReq) hw),
    (State.askReq_fires u).trans (State.flush_fires (s := u.askReq) hw)⟩

/-- From s to t a claim answers a number, and changes the reporting plane alone. -/
def State.claims (s t : State) (dt : Nat) (p : Port) (n : Nat) : Prop :=
  t = { s.elapse dt with rep := t.rep } ∧ s.putsOut t (.regRead p 0x4004 (BitVec.ofNat 32 n))

theorem State.putsOut_answerClaim (hout : ∃ l, u.rep.out = s.rep.out ++ l) :
    s.putsOut (u.answerClaim p n) (.regRead p 0x4004 (BitVec.ofNat 32 n)) :=
  State.putsOut_of_out hout ⟨[_], rfl, List.mem_singleton.2 rfl⟩

theorem State.claims_flush (hreports : (s.elapse dt).Reports u) (hw : u.rep.whOld = none)
    (hput : s.putsOut u (.regRead p 0x4004 (BitVec.ofNat 32 n))) : s.claims u.askReq.flush dt p n :=
  ⟨hreports.trans (u.askReq_reports.trans u.askReq.flush_reports), State.putsOut_mono hput (State.askReq_flush_keeps hw).1⟩

/-- The state in which a claim of port p acts: the time has gone by and OUTSTANDING is 0. -/
def State.claiming (s : State) (dt : Nat) (p : Port) : State := (s.elapse dt).unask p

theorem State.claiming_reports (s : State) (dt : Nat) (p : Port) : (s.elapse dt).Reports (s.claiming dt p) := rfl

theorem State.claiming_settled (hs : s.ready) : (s.claiming dt p).settled := State.elapse_settled hs dt

theorem State.claiming_port (hs : s.ready) :
    (s.claiming dt p).port p = { s.port p with outstanding := false } := by
  rw [← State.elapse_port hs.2.2 dt]
  exact Rep.port_setPort_self _ _ _

theorem State.claiming_port_other (hs : s.ready) : (s.claiming dt p).port p.other = s.port p.other := by
  rw [← State.elapse_port hs.2.2 dt]
  exact Rep.port_setPort_ne _ _ (Port.other_ne p)

theorem State.claiming_out (hs : s.ready) : (s.claiming dt p).rep.out = s.rep.out := by
  rw [← State.elapse_rep hs.2.2 dt]
  rfl

theorem State.claiming_total (hs : s.ready) : (s.claiming dt p).rep.total = s.rep.total := by
  rw [← State.elapse_rep hs.2.2 dt]
  rfl

theorem State.claiming_counter (hs : s.ready) (c : Nat) : (s.claiming dt p).rep.counter c = s.rep.counter c := by
  rw [← State.elapse_rep hs.2.2 dt]
  rfl

theorem State.claiming_stack (hs : s.ready) : ((s.claiming dt p).port p).stack = (s.port p).stack := by
  rw [State.claiming_port hs]

/-- The source that a claim finds, in terms of the state before the time that goes by. -/
theorem State.isBest_claimed (hs : s.ready) (hwf : Tbl.wf .inactive (s.port p).src = true) :
    s.ctx.IsBest ((s.port p).sees (s.clock + dt))
      ((s.claiming dt p).ctx.claimed ((s.claiming dt p).port p)) := by
  have hport := State.claiming_port (dt := dt) (p := p) hs
  have hclock : (s.claiming dt p).ctx.clock = s.clock + dt := State.elapse_clock s dt
  have hprio : (s.claiming dt p).ctx.prio = s.ctx.prio := Ctx.prio_congr (State.elapse_live s dt)
  have hbest := Ctx.isBest_claimed (c := (s.claiming dt p).ctx) (q := (s.claiming dt p).port p)
    (by rw [hport]; exact hwf)
  rw [hclock] at hbest
  generalize (s.claiming dt p).ctx.claimed ((s.claiming dt p).port p) = m at hbest ⊢
  rw [hport] at hbest
  cases m with
  | none => exact hbest
  | some b =>
    refine ⟨hbest.1, fun j hj => ?_⟩
    rw [← hprio]
    exact hbest.2 j hj

variable {r : Rd} {gone : Bool}

theorem answers_claim {P : State → Prop} (hs : s.ready) (hfull : r.full = true)
    (hP : P ((s.claiming dt r.port).claim r.port gone).askReq.flush) : Answers (.whClaim dt r gone) s P := by
  refine answers_at hs (exec_whClaim s dt r gone) ?_
  rwa [if_neg (by rw [hfull]; decide)]

/-- R371: a read with fewer byte enables claims nothing. -/
theorem answers_claim_partial (hs : s.ready) (hpart : r.full = false) :
    Answers (.whClaim dt r gone) s (fun t =>
      s.claims t dt r.port 0 ∧ t.port r.port = s.port r.port ∧ t.port r.port.other = s.port r.port.other) := by
  have hport : ∀ q, ((s.elapse dt).answerClaim r.port 0).port q = s.port q := State.elapse_port hs.2.2 dt
  refine answers_at hs (exec_whClaim s dt r gone) ?_
  rw [if_pos hpart, State.flush_rest (s := (s.elapse dt).answerClaim r.port 0) (State.elapse_settled hs dt)]
  exact ⟨⟨rfl, State.putsOut_answerClaim ⟨[], by rw [State.elapse_rep hs.2.2, List.append_nil]⟩⟩, hport _, hport _⟩

/-- A count short of the end of its counter is a count and no more (R412). -/
theorem Rep.count_below {r : Rep} {c : Ctx} {i n : Nat} (h : r.counter i + n < ctMax) :
    r.count c i n = { r with ct := Tbl.put r.ct i 0 (r.counter i + n) } := by
  have hmin : min ctMax (r.counter i + n) = r.counter i + n := by omega
  have hbump : r.bump i n = ({ r with ct := Tbl.put r.ct i 0 (r.counter i + n) }, false) := by
    unfold Rep.bump
    simp only [hmin]
    exact if_neg fun e => absurd e.1 (Nat.ne_of_lt h)
  unfold Rep.count
  rw [hbump]
  rfl

section
variable {v : State}

theorem State.claimNone_reports : v.Reports (v.claimNone p) := (State.count_reports _ _).trans (State.emit_reports _ _)
theorem State.claimNone_fires : Rep.Fires v.rep (v.claimNone p).rep := (State.count_fires v _).trans (State.emit_fires _ _)
theorem State.claimNone_whOld : (v.claimNone p).rep.whOld = v.rep.whOld := by
  rw [State.claimNone, State.answerClaim, State.emit_whOld, State.count_whOld]

theorem State.claimNone_counts (h : v.rep.counter (whCounter p 2) = s.rep.counter (whCounter p 2)) :
    s.counts (v.claimNone p) (whCounter p 2) 1 :=
  State.counts_mono (t := v.count _) (State.counts_count h) (State.emit_grows _ _)

theorem State.claimNone_putsOut (h : v.rep.out = s.rep.out) :
    s.putsOut (v.claimNone p) (.regRead p 0x4004 (BitVec.ofNat 32 0x3FF)) :=
  State.putsOut_answerClaim (h ▸ (State.count_grows v _).out)

/-- While its counter is short of its end, a claim that finds no source leaves all ports as they were. -/
theorem State.claimNone_below (h : v.rep.counter (whCounter p 2) + 1 < ctMax) :
    (v.settled → (v.claimNone p).settled) ∧ ∀ q, (v.claimNone p).port q = v.port q := by
  have hrep : (v.count (whCounter p 2)).rep = _ := Rep.count_below h
  have hsettled : v.settled → (v.count (whCounter p 2)).settled := by
    unfold State.settled
    rw [hrep]
    exact id
  have hport : ∀ q, (v.count (whCounter p 2)).port q = v.port q := fun q => by
    rw [State.port, hrep]
    rfl
  exact ⟨hsettled, hport⟩

theorem State.claimFull_reports : v.Reports (v.claimFull p) :=
  ((State.count_reports _ _).trans (State.slub_reports _ _ _ _ _)).trans (State.emit_reports _ _)
theorem State.claimFull_fires : Rep.Fires v.rep (v.claimFull p).rep :=
  ((State.count_fires v _).trans (State.slub_fires _ _ _ _ _)).trans (State.emit_fires _ _)
theorem State.claimFull_whOld : (v.claimFull p).rep.whOld = v.rep.whOld := by
  rw [State.claimFull, State.answerClaim, State.emit_whOld, State.slub_whOld, State.count_whOld]
theorem State.claimFull_total : (v.claimFull p).rep.total = v.rep.total := by
  rw [State.claimFull, State.answerClaim, State.emit_total, State.slub_total, State.count_total]

theorem State.claimFull_slubReqs (h : v.rep.slubReqs = []) :
    (v.claimFull p).rep.slubReqs = [(v.claimFull p).slubReq 0x0A05 p.idx 0 0] := by
  rw [State.claimFull_reports.slubReq, State.claimFull, State.answerClaim, State.emit_slubReqs, State.slub_slubReqs,
    State.count_slubReqs, h, (State.count_reports _ _).slubReq, List.nil_append]

theorem State.claimFull_counts (h : v.rep.counter (whCounter p 6) = s.rep.counter (whCounter p 6)) :
    s.counts (v.claimFull p) (whCounter p 6) 1 := by
  have hcount : s.counts (v.count (whCounter p 6)) (whCounter p 6) 1 := State.counts_count h
  exact State.counts_mono (State.counts_mono hcount (State.slub_grows _ _ _ _ _)) (State.emit_grows _ _)

theorem State.claimFull_putsOut (h : v.rep.out = s.rep.out) :
    s.putsOut (v.claimFull p) (.regRead p 0x4004 (BitVec.ofNat 32 0x3FF)) :=
  State.putsOut_answerClaim (u := (v.count _).slub _ _ _ _) (h ▸ (State.count_grows v _).out)

end

/-- R371: a claim that finds nothing. -/
theorem answers_claim_none (hs : s.ready) (hfull : r.full = true) (hwf : Tbl.wf .inactive (s.port r.port).src = true)
    (hno : ∀ j, ¬(s.port r.port).sees (s.clock + dt) j) :
    Answers (.whClaim dt r gone) s (fun t =>
      s.claims t dt r.port 0x3FF ∧ s.counts t (whCounter r.port 2) 1 ∧ (t.port r.port).stack = (s.port r.port).stack ∧
      ((∀ j, (s.port r.port).srcSt j ≠ .pending) → s.rep.counter (whCounter r.port 2) + 1 < ctMax →
        t.port r.port = { s.port r.port with outstanding := false })) := by
  have hsettled : (s.claiming dt r.port).settled := State.claiming_settled hs
  have hold : ((s.claiming dt r.port).claimNone r.port).rep.whOld = none := State.claimNone_whOld.trans hsettled.2.2.1
  obtain ⟨hgrows, hfires⟩ := State.askReq_flush_keeps hold
  refine answers_claim hs hfull ?_
  rw [State.claim_none ((State.isBest_claimed hs hwf).eq_none hno)]
  refine ⟨State.claims_flush ((s.claiming_reports dt r.port).trans State.claimNone_reports) hold
      (State.claimNone_putsOut (State.claiming_out hs)),
    State.counts_mono (State.claimNone_counts (State.claiming_counter hs _)) hgrows, ?_, fun hidle hbelow => ?_⟩
  · exact ((State.claimNone_fires.trans hfires).port_stack (p := r.port)).trans (State.claiming_stack hs)
  · rw [← State.claiming_counter (dt := dt) (p := r.port) hs] at hbelow
    obtain ⟨hquiet, hport⟩ := State.claimNone_below hbelow
    rw [State.askReq_flush_port (hquiet hsettled), hport, State.claiming_port hs]
    exact PortSt.asked_of_not_req (Ctx.req_best_none (Ctx.best_eq_none hwf hidle))

/-- R371: a claim on a full stack. -/
theorem answers_claim_full (hs : s.ready) (hfull : r.full = true) (hwf : Tbl.wf .inactive (s.port r.port).src = true)
    (hsees : ∃ j, (s.port r.port).sees (s.clock + dt) j) (hlen : 64 ≤ (s.port r.port).stack.length) :
    Answers (.whClaim dt r gone) s (fun t =>
      s.claims t dt r.port 0x3FF ∧ s.counts t (whCounter r.port 6) 1 ∧ (t.port r.port).stack = (s.port r.port).stack ∧
      s.logs t 0x0A05 r.port.idx 0 0) := by
  have hsettled : (s.claiming dt r.port).settled := State.claiming_settled hs
  have hold : ((s.claiming dt r.port).claimFull r.port).rep.whOld = none := State.claimFull_whOld.trans hsettled.2.2.1
  obtain ⟨hgrows, hfires⟩ := State.askReq_flush_keeps hold
  obtain ⟨i, hi⟩ := (State.isBest_claimed hs hwf).exists_some hsees
  refine answers_claim hs hfull ?_
  rw [State.claim_full hi (by rw [State.claiming_stack hs]; exact hlen)]
  refine ⟨State.claims_flush ((s.claiming_reports dt r.port).trans State.claimFull_reports) hold
      (State.claimFull_putsOut (State.claiming_out hs)),
    State.counts_mono (State.claimFull_counts (State.claiming_counter hs _)) hgrows, ?_, State.logs_flush ?_ ?_⟩
  · exact ((State.claimFull_fires.trans hfires).port_stack (p := r.port)).trans (State.claiming_stack hs)
  · rw [State.askReq_total, State.claimFull_total, State.claiming_total hs]
  · rw [State.askReq_slubReqs, State.claimFull_slubReqs hsettled.1, (State.askReq_reports _).slubReq]

/-- What a claim pushes (R371). -/
def State.claimEntry (s : State) (dt i : Nat) : StackEntry := { src := i, prio := s.ctx.prio i, at_ := s.clock + dt }

theorem State.claimPush_port (hs : s.ready) (i : Nat) :
    ((s.claiming dt p).claimPush p i).port p =
      { (s.port p).setSrc i .active with outstanding := false, stack := (s.port p).stack ++ [s.claimEntry dt i] } := by
  have hprio : (s.claiming dt p).ctx.prio = s.ctx.prio := Ctx.prio_congr (State.elapse_live s dt)
  have hclock : (s.claiming dt p).clock = s.clock + dt := State.elapse_clock s dt
  refine (Rep.port_setPort_self _ _ _).trans ?_
  rw [State.claiming_port hs, hprio, hclock]
  rfl

theorem State.claimPush_port_other (hs : s.ready) (i : Nat) :
    ((s.claiming dt p).claimPush p i).port p.other = s.port p.other :=
  (Rep.port_setPort_ne _ _ (Port.other_ne p)).trans (State.claiming_port_other hs)

theorem State.claimPush_settled (i : Nat) (h : u.settled) : (u.claimPush p i).settled := h

theorem State.claimPush_counter (u : State) (i c : Nat) : (u.claimPush p i).rep.counter c = u.rep.counter c := rfl

theorem State.claimPush_live (i : Nat) : ((s.claiming dt p).claimPush p i).regs.live = s.regs.live :=
  ((s.claiming_reports dt p).trans (State.claimPush_reports _ _ _)).live.trans (State.elapse_live s dt)

theorem State.claimPush_srcSt (hs : s.ready) (i j : Nat) :
    (((s.claiming dt p).claimPush p i).port p).srcSt j = if j = i then .active else (s.port p).srcSt j := by
  rw [State.claimPush_port hs]
  exact Tbl.lookD_put (s.port p).src i j SrcState.inactive SrcState.active

theorem State.claimPush_stack (hs : s.ready) (i : Nat) :
    (((s.claiming dt p).claimPush p i).port p).stack = (s.port p).stack ++ [s.claimEntry dt i] := by
  rw [State.claimPush_port hs]

theorem State.claimPush_putsOut (hs : s.ready) (i : Nat) :
    s.putsOut ((s.claiming dt p).claimPush p i) (.regRead p 0x4004 (BitVec.ofNat 32 i)) :=
  State.putsOut_answerClaim ⟨[], (State.claiming_out (p := p) hs).trans (List.append_nil _).symm⟩

/-- R371, R374: a claim that reports no more than its answer, at the end of its instant. -/
theorem State.claimPush_flush (hs : s.ready) (i : Nat) :
    let t := ((s.claiming dt p).claimPush p i).askReq.flush
    (t.port p).srcSt i = .active ∧ (∀ j, j ≠ i → (t.port p).srcSt j = (s.port p).srcSt j) ∧
    ((t.port p.other).src = (s.port p.other).src ∧ (t.port p.other).stack = (s.port p.other).stack) ∧
    s.asks t { s.port p with
      outstanding := false, src := (t.port p).src, stack := (s.port p).stack ++ [s.claimEntry dt i] } p := by
  obtain ⟨l, hl, -⟩ := State.claimPush_putsOut (dt := dt) (p := p) hs i
  obtain ⟨-, hport, hother, hasks⟩ := State.asked_at_end (State.claimPush_settled i (State.claiming_settled hs))
    ((s.claiming_reports dt p).trans (State.claimPush_reports _ _ _)) (State.claimPush_port hs i)
    (State.claimPush_port_other hs i) ⟨l, hl⟩
  have hsrc := (congrArg PortSt.src hport).trans PortSt.asked_src
  have hst : ∀ j, ((((s.claiming dt p).claimPush p i).askReq.flush.port p).srcSt j) =
      if j = i then .active else (s.port p).srcSt j := fun j => by
    rw [PortSt.srcSt, hsrc]
    exact Tbl.lookD_put (s.port p).src i j SrcState.inactive SrcState.active
  refine ⟨(hst i).trans (if_pos rfl), fun j hj => (hst j).trans (if_neg hj), hother, ?_⟩
  rw [hsrc]
  exact hasks

/-- R371, R374, R377: a claim that takes a source. -/
theorem answers_claim_push (hs : s.ready) (hfull : r.full = true) (hwf : Tbl.wf .inactive (s.port r.port).src = true)
    (hlen : (s.port r.port).stack.length < 64) {i : Nat} (hi : (s.port r.port).sees (s.clock + dt) i)
    (hbest : ∀ j, (s.port r.port).sees (s.clock + dt) j →
      s.ctx.prio j < s.ctx.prio i ∨ (s.ctx.prio j = s.ctx.prio i ∧ i ≤ j)) :
    Answers (.whClaim dt r gone) s (fun t =>
      s.claims t dt r.port i ∧ (t.port r.port).stack = (s.port r.port).stack ++ [s.claimEntry dt i] ∧
      ((t.port r.port).srcSt i = .active ∨ (t.port r.port).srcSt i = .activePending) ∧
      (Config.levelLike i = true → gone = true → s.counts t (whCounter r.port 4) 1) ∧
      ((s.port r.port).stack.length = 63 → s.raises t 0x003) ∧
      ((s.port r.port).stack.length < 63 → gone = false →
        (t.port r.port).srcSt i = .active ∧ (∀ j, j ≠ i → (t.port r.port).srcSt j = (s.port r.port).srcSt j) ∧
        ((t.port r.port.other).src = (s.port r.port.other).src ∧ (t.port r.port.other).stack = (s.port r.port.other).stack) ∧
        s.asks t { s.port r.port with
          outstanding := false, src := (t.port r.port).src, stack := (s.port r.port).stack ++ [s.claimEntry dt i] } r.port)) := by
  have hx : ((s.claiming dt r.port).claimPush r.port i).rep.whOld = none :=
    (State.claimPush_settled i (State.claiming_settled hs)).2.2.1
  obtain ⟨hgrows, hfires, hold⟩ :=
    State.claimReports_keeps ((s.claiming dt r.port).claimPush r.port i) r.port gone i (s.port r.port).stack.length
  rw [hx] at hold
  obtain ⟨hgrows', hfires'⟩ := State.askReq_flush_keeps hold
  refine answers_claim hs hfull ?_
  rw [State.claim_push ((State.isBest_claimed hs hwf).eq_some hi hbest) (by rw [State.claiming_stack hs]; exact hlen),
    State.claiming_stack hs]
  refine ⟨State.claims_flush ((s.claiming_reports dt r.port).trans
      ((State.claimPush_reports _ _ _).trans (State.claimReports_reports _ _ _ _ _))) hold
    (State.putsOut_mono (State.claimPush_putsOut hs i) hgrows), ?_, ?_, fun hlevel hgone => ?_, fun hlast => ?_,
    fun hlow hgone => ?_⟩
  · exact ((hfires.trans hfires').port_stack (p := r.port)).trans (State.claimPush_stack (dt := dt) (p := r.port) hs i)
  · exact (hfires.trans hfires').active (.inl ((State.claimPush_srcSt hs i i).trans (if_pos rfl)))
  · subst hgone
    exact State.counts_mono (State.claimReports_counts ((s.claiming dt r.port).claimPush r.port i) r.port i _
      ((State.claimPush_counter _ _ _).trans (State.claiming_counter hs _)) hlevel) hgrows'
  · rw [hlast] at hgrows' ⊢
    exact State.raises_mono (State.claimReports_raises _ r.port gone i (State.claimPush_live i) hx) hgrows'
  · subst hgone
    rw [State.claimReports_quiet ((s.claiming dt r.port).claimPush r.port i) r.port i _ (Nat.ne_of_lt hlow)]
    exact State.claimPush_flush hs i

end

/-! ## Completions, HOLD and doorbells -/

section
variable {dt : Nat} {w : Wr}

theorem State.setPort_asked_at_end (hs : s.ready) (q : PortSt) :
    let t := ((s.elapse dt).setPort p q).askReq.flush
    t = { s.elapse dt with rep := t.rep } ∧ t.port p = q.asked s.ctx ∧
    ((t.port p.other).src = (s.port p.other).src ∧ (t.port p.other).stack = (s.port p.other).stack) ∧ s.asks t q p := by
  have hrep : (s.elapse dt).rep = s.rep := State.elapse_rep hs.2.2 dt
  refine State.asked_at_end (u := (s.elapse dt).setPort p q) (State.elapse_settled hs dt) (State.setPort_reports _ p q)
    (Rep.port_setPort_self _ _ _) ?_ ⟨[], ?_⟩
  · exact (Rep.port_setPort_ne _ _ (Port.other_ne p)).trans (State.elapse_port hs.2.2 dt _)
  · rw [List.append_nil, ← hrep]
    rfl

/-- R373: the completion of the source on top of the stack. -/
theorem answers_complete_top (hs : s.ready) (hw : s.passes 0x4008 w) {l : List StackEntry} {e : StackEntry}
    (hstack : (s.port w.port).stack = l ++ [e]) (he : e.src = fieldOf w.data 0 10) :
    Answers (.whComplete dt w) s (fun t =>
      t = { s.elapse dt with rep := t.rep } ∧ (t.port w.port).stack = l ∧
      (t.port w.port).srcSt (fieldOf w.data 0 10) = ((s.port w.port).srcSt (fieldOf w.data 0 10)).completed ∧
      (∀ j, j ≠ fieldOf w.data 0 10 → (t.port w.port).srcSt j = (s.port w.port).srcSt j) ∧
      ((t.port w.port.other).src = (s.port w.port.other).src ∧ (t.port w.port.other).stack = (s.port w.port.other).stack) ∧
      s.asks t { s.port w.port with src := (t.port w.port).src, stack := l } w.port) := by
  have htop : (s.port w.port).stack.getLast? = some e := by rw [hstack, List.getLast?_concat]
  have hrest : (s.port w.port).stack.dropLast = l := by rw [hstack, List.dropLast_concat]
  refine answers_wr hs hw (show execWhComplete dt w s = _ from rfl) ?_
  simp only [State.elapse_port hs.2.2, htop, if_pos he, hrest]
  generalize fieldOf w.data 0 10 = n
  obtain ⟨honly, hport, hother, hasks⟩ := State.setPort_asked_at_end (dt := dt) (p := w.port) hs
    { (s.port w.port).setSrc n ((s.port w.port).srcSt n).completed with stack := l }
  have hsrc := (congrArg PortSt.src hport).trans PortSt.asked_src
  have hst := fun j => (congrArg (Tbl.lookD · j SrcState.inactive) hsrc).trans (Tbl.lookD_put _ _ _ _ _)
  refine ⟨honly, (congrArg PortSt.stack hport).trans PortSt.asked_stack, (hst n).trans (if_pos rfl),
    fun j hj => (hst j).trans (if_neg hj), hother, ?_⟩
  rw [hsrc]
  exact hasks

/-- An event that is counted, logged and raised. -/
def State.countLogRaise (s : State) (c k a b d i : Nat) : State := ((s.count c).slub k a b d).raise i

section
variable (u) (c k a b d i : Nat)

theorem State.countLogRaise_reports : u.Reports (u.countLogRaise c k a b d i) :=
  (State.count_reports _ _).trans ((State.slub_reports _ _ _ _ _).trans (State.raise_reports _ _))

theorem State.countLogRaise_fires : Rep.Fires u.rep (u.countLogRaise c k a b d i).rep :=
  ((State.count_fires _ _).trans (State.slub_fires _ _ _ _ _)).trans (State.raise_fires _ _)

@[simp] theorem State.countLogRaise_whOld : (u.countLogRaise c k a b d i).rep.whOld = u.rep.whOld := by
  rw [State.countLogRaise, State.raise_whOld, State.slub_whOld, State.count_whOld]

@[simp] theorem State.countLogRaise_total : (u.countLogRaise c k a b d i).rep.total = u.rep.total := by
  rw [State.countLogRaise, State.raise_total, State.slub_total, State.count_total]

theorem State.countLogRaise_slubReqs (h : u.rep.slubReqs = []) :
    (u.countLogRaise c k a b d i).rep.slubReqs = [(u.countLogRaise c k a b d i).slubReq k a b d] := by
  rw [(u.countLogRaise_reports c k a b d i).slubReq, State.countLogRaise, State.raise_slubReqs, State.slub_slubReqs,
    State.count_slubReqs, h, (State.count_reports u c).slubReq, List.nil_append]

theorem State.countLogRaise_counts (h : u.rep.counter c = s.rep.counter c) : s.counts (u.countLogRaise c k a b d i) c 1 := by
  have hcount : s.counts (u.count c) c 1 := State.counts_count h
  exact State.counts_mono (State.counts_mono hcount (State.slub_grows _ _ _ _ _)) (State.raise_grows _ _)

theorem State.countLogRaise_raises (hlive : u.regs.live = s.regs.live) (hw : u.rep.whOld = none) :
    s.raises (u.countLogRaise c k a b d i) i := by
  refine State.raises_raise (((State.count_reports _ _).trans (State.slub_reports _ _ _ _ _)).live.trans hlive) ?_
  rw [State.slub_whOld, State.count_whOld, hw]

end

theorem State.countLogRaise_flush (hs : s.ready) (c k a b d i : Nat) :
    let t := ((s.elapse dt).countLogRaise c k a b d i).flush
    t = { s.elapse dt with rep := t.rep } ∧ (t.port p).stack = (s.port p).stack ∧ s.counts t c 1 ∧ s.raises t i ∧
    s.logs t k a b d := by
  have hrep : (s.elapse dt).rep = s.rep := State.elapse_rep hs.2.2 dt
  have hw : ((s.elapse dt).countLogRaise c k a b d i).rep.whOld = none := by
    rw [State.countLogRaise_whOld, State.elapse_whOld hs]
  have hfires := ((s.elapse dt).countLogRaise_fires c k a b d i).trans (State.flush_fires hw)
  refine ⟨(State.countLogRaise_reports _ _ _ _ _ _ _).trans (State.flush_reports _), ?_, State.counts_flush ?_ hw,
    State.raises_flush ?_ hw, State.logs_flush ?_ (State.countLogRaise_slubReqs _ _ _ _ _ _ _ (State.elapse_slubReqs hs))⟩
  · rw [hfires.port_stack, State.elapse_port hs.2.2]
  · exact State.countLogRaise_counts _ _ _ _ _ _ _ (congrArg (Rep.counter · c) hrep)
  · exact State.countLogRaise_raises _ _ _ _ _ _ _ (State.elapse_live s dt) (State.elapse_whOld hs)
  · rw [State.countLogRaise_total, hrep]

/-- R373: a completion of another number, or on an empty stack. -/
theorem answers_complete_fault (hs : s.ready) (hw : s.passes 0x4008 w) {d : Nat}
    (hd : ((s.port w.port).stack = [] ∧ d = 0x3FF) ∨
      ∃ l e, (s.port w.port).stack = l ++ [e] ∧ e.src ≠ fieldOf w.data 0 10 ∧ d = e.src) :
    Answers (.whComplete dt w) s (fun t =>
      t = { s.elapse dt with rep := t.rep } ∧ (t.port w.port).stack = (s.port w.port).stack ∧
      s.counts t (whCounter w.port 3) 1 ∧ s.raises t 0x001 ∧ s.logs t 0x0A06 w.port.idx (fieldOf w.data 0 10) d) := by
  refine answers_wr hs hw (show execWhComplete dt w s = _ from rfl) ?_
  rcases hd with ⟨hstack, rfl⟩ | ⟨l, e, hstack, hne, rfl⟩
  · simp only [State.elapse_port hs.2.2, hstack, List.getLast?_nil]
    rw [← hstack]
    exact State.countLogRaise_flush hs _ _ _ _ _ _
  · have htop : (s.port w.port).stack.getLast? = some e := by rw [hstack, List.getLast?_concat]
    simp only [State.elapse_port hs.2.2, htop, if_neg hne]
    exact State.countLogRaise_flush hs _ _ _ _ _ _

/-- R376: HOLD. -/
theorem answers_hold (hs : s.ready) (hw : s.passes 0x400C w) :
    Answers (.whHold dt w) s (fun t =>
      t = { s.elapse dt with rep := t.rep } ∧ (t.port w.port).hold = bitOf w.data 0 ∧
      (t.port w.port).stack = (s.port w.port).stack ∧ (t.port w.port).src = (s.port w.port).src ∧
      s.asks t { s.port w.port with hold := bitOf w.data 0 } w.port ∧
      (bitOf w.data 0 = true → t.port w.port = { s.port w.port with hold := bitOf w.data 0 })) := by
  refine answers_wr hs hw (show execWhHold dt w s = _ from rfl) ?_
  simp only [State.elapse_port hs.2.2]
  obtain ⟨honly, hport, -, hasks⟩ := State.setPort_asked_at_end (dt := dt) (p := w.port) hs
    { s.port w.port with hold := bitOf w.data 0 }
  refine ⟨honly, (congrArg PortSt.hold hport).trans PortSt.asked_hold, (congrArg PortSt.stack hport).trans PortSt.asked_stack,
    (congrArg PortSt.src hport).trans PortSt.asked_src, hasks, fun hbit => ?_⟩
  exact hport.trans (PortSt.asked_of_not_req (Ctx.req_hold hbit))

/-- May a port fire a source through its doorbell (R355)? -/
def State.mayRing (s : State) (p : Port) (n : Nat) : Prop := (s.ow.owner = some p ∧ n < 0x3F0) ∨ (0x380 ≤ n ∧ n < 0x3F0)

/-- R355, R367: a doorbell. -/
theorem answers_doorbell (hs : s.ready) (hw : s.passes 0x4000 w) :
    (s.mayRing w.port (fieldOf w.data 0 10) →
      Answers (.whDoorbell dt w) s (fun t => t = { s.elapse dt with rep := t.rep } ∧ s.raises t (fieldOf w.data 0 10))) ∧
    (¬s.mayRing w.port (fieldOf w.data 0 10) →
      Answers (.whDoorbell dt w) s (fun t => t = { s.elapse dt with rep := t.rep } ∧ s.counts t (whCounter w.port 1) 1)) := by
  have hmay : (if (s.elapse dt).ow.owner = some w.port then decide (fieldOf w.data 0 10 < 0x3F0)
      else decide (0x380 ≤ fieldOf w.data 0 10 ∧ fieldOf w.data 0 10 < 0x3F0)) = true ↔
      s.mayRing w.port (fieldOf w.data 0 10) := by
    rw [State.elapse_ow hs.2.2, State.mayRing]
    split
    case isTrue ho => rw [decide_eq_true_eq]; simp only [ho, true_and]; omega
    case isFalse ho => rw [decide_eq_true_eq]; simp only [ho, false_and, false_or]
  refine ⟨fun h => ?_, fun h => ?_⟩ <;> refine answers_wr hs hw (show execWhDoorbell dt w s = _ from rfl) ?_
  · rw [if_pos (hmay.2 h)]
    refine ⟨(State.raise_reports _ _).trans (State.flush_reports _), State.raises_flush ?_ ?_⟩
    · exact State.raises_raise (State.elapse_live s dt) (State.elapse_whOld hs)
    · rw [State.raise_whOld, State.elapse_whOld hs]
  · rw [if_neg fun e => h (hmay.1 e)]
    refine ⟨(State.count_reports _ _).trans (State.flush_reports _), State.counts_flush ?_ ?_⟩
    · exact State.counts_count (congrArg (Rep.counter · _) (State.elapse_rep hs.2.2 dt))
    · rw [State.count_whOld, State.elapse_whOld hs]

end

/-! ## The age of the stack -/

theorem SrcState.completed_idle (x : SrcState) : x.completed = .inactive ∨ x.completed = .pending := by
  cases x <;> simp [SrcState.completed]

/-- The sources of a port whose stack is emptied (R378). -/
def completeAll (t : Tbl SrcState) : Tbl SrcState :=
  (t.map fun e => (e.1, e.2.completed)).filter fun e => decide (e.2 ≠ .inactive)

theorem look_completeAll_idle (t : Tbl SrcState) (i : Nat) :
    Tbl.look (completeAll t) i = none ∨ Tbl.look (completeAll t) i = some .pending := by
  induction t with
  | nil => exact .inl rfl
  | cons e t ih =>
    obtain ⟨j, x⟩ := e
    rcases x.completed_idle with hx | hx <;> simp only [completeAll, List.map_cons, List.filter_cons, hx]
    · exact ih
    · simp only [ne_eq, reduceCtorEq, not_false_eq_true, decide_true, if_true, Tbl.look]
      split
      · exact .inr rfl
      · exact ih

theorem look_completeAll_activePending {t : Tbl SrcState} {i : Nat} (h : Tbl.look t i = some .activePending) :
    Tbl.look (completeAll t) i = some .pending := by
  induction t with
  | nil => cases h
  | cons e t ih =>
    obtain ⟨j, x⟩ := e
    rw [Tbl.look] at h
    split at h
    case isTrue hi =>
      cases h
      subst hi
      simp [completeAll, SrcState.completed, Tbl.look]
    case isFalse hi =>
      rcases x.completed_idle with hx | hx <;> simp only [completeAll, List.map_cons, List.filter_cons, hx]
      · exact ih h
      · simp only [ne_eq, reduceCtorEq, not_false_eq_true, decide_true, if_true, Tbl.look, hi, if_false]
        exact ih h

theorem PortSt.emptyStack_idle (q : PortSt) (i : Nat) : q.emptyStack.srcSt i = .inactive ∨ q.emptyStack.srcSt i = .pending := by
  have hlook : q.emptyStack.srcSt i = (Tbl.look (completeAll q.src) i).getD .inactive := rfl
  rw [hlook]
  rcases look_completeAll_idle q.src i with h | h <;> rw [h]
  · exact .inl rfl
  · exact .inr rfl

theorem PortSt.emptyStack_pending {q : PortSt} {i : Nat} (h : q.srcSt i = .activePending) :
    q.emptyStack.srcSt i = .pending := by
  have hlook : Tbl.look q.src i = some .activePending := by
    unfold PortSt.srcSt Tbl.lookD at h
    cases hl : Tbl.look q.src i <;> rw [hl] at h <;> cases h
    rfl
  have hsrc : q.emptyStack.srcSt i = (Tbl.look (completeAll q.src) i).getD .inactive := rfl
  rw [hsrc, look_completeAll_activePending hlook]
  rfl

/-- Every entry of a port's stack is completed (R378). -/
def State.emptyStack (s : State) (p : Port) : State := s.setPort p (s.port p).emptyStack

/-- The entries of a port are completed by force, and that reported (R378). -/
def State.forceComplete (s : State) (p : Port) : State :=
  ((s.emptyStack p).countLogRaise (whCounter p 5) 0x0A07 p.idx (s.port p).stack.length 0 0x002).askReq

/-- The check of the age of a port's stack (R378). -/
def State.checkAge (s : State) (p : Port) : State :=
  match (s.port p).stack with
  | [] => s
  | e :: _ => if e.at_ + s.fld 0x4400 0 10 * 1000000 < s.clock then s.forceComplete p else s

theorem exec_stackAgeExpiry (s : State) (dt : Nat) (p : Port) :
    exec (.stackAgeExpiry dt p) s = s.at_ dt (fun u => u.checkAge p) := rfl

section
variable {dt : Nat} {e : StackEntry} {l : List StackEntry}

theorem State.checkAge_old (hstack : (u.port p).stack = e :: l) (h : e.at_ + u.fld 0x4400 0 10 * 1000000 < u.clock) :
    u.checkAge p = u.forceComplete p := by
  unfold State.checkAge
  rw [hstack]
  exact if_pos h

theorem State.checkAge_young (h : ∀ e l, (u.port p).stack = e :: l → u.clock ≤ e.at_ + u.fld 0x4400 0 10 * 1000000) :
    u.checkAge p = u := by
  unfold State.checkAge
  split
  · rfl
  · exact if_neg (Nat.not_lt.2 (h _ _ ‹_›))

theorem State.emptyStack_reports (u : State) (p : Port) : u.Reports (u.emptyStack p) := State.setPort_reports _ _ _
theorem State.emptyStack_port (u : State) (p : Port) : (u.emptyStack p).port p = (u.port p).emptyStack :=
  Rep.port_setPort_self _ _ _
theorem State.emptyStack_counter (u : State) (p : Port) (c : Nat) : (u.emptyStack p).rep.counter c = u.rep.counter c := rfl
theorem State.emptyStack_total (u : State) (p : Port) : (u.emptyStack p).rep.total = u.rep.total := rfl
theorem State.emptyStack_settled (h : u.settled) : (u.emptyStack p).settled := h

/-- R378: what the forced completion leaves at the end of its instant. -/
theorem State.forceComplete_flush (hs : s.ready) :
    let t := ((s.elapse dt).forceComplete p).flush
    t = { s.elapse dt with rep := t.rep } ∧ (t.port p).stack = [] ∧
    (∀ i, (t.port p).srcSt i = .inactive ∨ (t.port p).srcSt i = .pending) ∧
    (∀ i, (s.port p).srcSt i = .activePending → (t.port p).srcSt i = .pending) ∧
    s.counts t (whCounter p 5) 1 ∧ s.raises t 0x002 ∧ s.logs t 0x0A07 p.idx (s.port p).stack.length 0 := by
  have hrep : (s.elapse dt).rep = s.rep := State.elapse_rep hs.2.2 dt
  obtain ⟨hreqs, -, hold, -⟩ := State.emptyStack_settled (p := p) (State.elapse_settled hs dt)
  have hreports := State.emptyStack_reports (s.elapse dt) p
  have hport : ((s.elapse dt).emptyStack p).port p = (s.port p).emptyStack := by
    rw [State.emptyStack_port, State.elapse_port hs.2.2]
  have hct : ((s.elapse dt).emptyStack p).rep.counter (whCounter p 5) = s.rep.counter (whCounter p 5) := by
    rw [State.emptyStack_counter, hrep]
  have htotal : ((s.elapse dt).emptyStack p).rep.total = s.rep.total := by rw [State.emptyStack_total, hrep]
  unfold State.forceComplete
  rw [State.elapse_port hs.2.2]
  generalize (s.elapse dt).emptyStack p = u at *
  generalize (s.port p).stack.length = n
  have hwhOld : (u.countLogRaise (whCounter p 5) 0x0A07 p.idx n 0 0x002).rep.whOld = none := by
    rw [State.countLogRaise_whOld, hold]
  obtain ⟨hgrows, hfires⟩ := State.askReq_flush_keeps hwhOld
  have hfires := (u.countLogRaise_fires _ _ _ _ _ _).trans hfires
  refine ⟨(hreports.trans (State.countLogRaise_reports _ _ _ _ _ _ _)).trans
      ((State.askReq_reports _).trans (State.flush_reports _)), ?_, fun i => ?_, fun i hi => ?_,
    State.counts_mono (State.countLogRaise_counts _ _ _ _ _ _ _ hct) hgrows,
    State.raises_mono (State.countLogRaise_raises _ _ _ _ _ _ _ (hreports.live.trans (State.elapse_live s dt)) hold) hgrows,
    State.logs_flush ?_ ?_⟩
  · rw [hfires.port_stack, hport]
    rfl
  · exact hfires.idle (by rw [hport]; exact PortSt.emptyStack_idle _ _)
  · exact hfires.pending (by rw [hport]; exact PortSt.emptyStack_pending hi)
  · rw [State.askReq_total, State.countLogRaise_total, htotal]
  · rw [State.askReq_slubReqs, State.countLogRaise_slubReqs _ _ _ _ _ _ _ hreqs, (State.askReq_reports _).slubReq]

/-- R378: entries too old are completed by force. -/
theorem answers_stackAge (hs : s.ready) (hstack : (s.port p).stack = e :: l)
    (hold : e.at_ + s.fld 0x4400 0 10 * 1000000 < s.clock + dt) :
    Answers (.stackAgeExpiry dt p) s (fun t =>
      t = { s.elapse dt with rep := t.rep } ∧ (t.port p).stack = [] ∧
      (∀ i, (t.port p).srcSt i = .inactive ∨ (t.port p).srcSt i = .pending) ∧
      (∀ i, (s.port p).srcSt i = .activePending → (t.port p).srcSt i = .pending) ∧
      s.counts t (whCounter p 5) 1 ∧ s.raises t 0x002 ∧ s.logs t 0x0A07 p.idx (s.port p).stack.length 0) := by
  refine answers_at hs (exec_stackAgeExpiry s dt p) ?_
  rw [State.checkAge_old (by rw [State.elapse_port hs.2.2, hstack]) (by rwa [State.elapse_fld, State.elapse_clock])]
  exact State.forceComplete_flush hs

/-- R378: without an entry too old nothing happens. -/
theorem answers_stackAge_young (hs : s.ready)
    (h : ∀ e l, (s.port p).stack = e :: l → s.clock + dt ≤ e.at_ + s.fld 0x4400 0 10 * 1000000) :
    Answers (.stackAgeExpiry dt p) s (fun t => t = s.elapse dt) := by
  have hyoung : (s.elapse dt).checkAge p = s.elapse dt := State.checkAge_young fun e l hstack => by
    rw [State.elapse_port hs.2.2] at hstack
    rw [State.elapse_clock, State.elapse_fld]
    exact h e l hstack
  exact answers_quiet hs (exec_stackAgeExpiry s dt p) (by rw [hyoung]) hyoung

end

/-- Settles O49: a claim takes the first source of the table in order (`Ctx.isBest_claimed`); what fires beside a command keeps the
stacks and what is on them (`Rep.Fires`), and where nothing does, the port is the one the command left, with REQ and OUTSTANDING
evaluated (`State.asked_at_end`). -/
theorem whorlPresentsSources : Obligations.WhorlPresentsSources := by
  unfold Obligations.WhorlPresentsSources
  intro s dt hs
  refine ⟨fun r gone => ⟨answers_claim_partial hs, answers_claim_none hs, answers_claim_full hs,
      fun hfull hwf hlen i hi hbest => answers_claim_push hs hfull hwf hlen hi hbest⟩,
    fun w hw => ⟨fun l e hstack he => answers_complete_top hs hw hstack he, fun d hd => answers_complete_fault hs hw hd⟩,
    fun w hw => answers_hold hs hw, fun w hw => answers_doorbell hs hw,
    fun p => ⟨fun e l hstack => ⟨answers_stackAge hs hstack, fun hage => answers_stackAge_young hs fun e' l' h => ?_⟩,
      fun hempty => answers_stackAge_young hs fun e l h => ?_⟩⟩
  · cases hstack.symm.trans h
    exact hage
  · cases hempty.symm.trans h

end
end Machine
end Sys2Proof
end

section
/-!
PROOFS. The writes of DV_COMMIT and DV_COMMIT_NOW (R388 to R396). The two rows are one write (`State.commitRow`) that differs in
its offset, in whether the commit applies at its acceptance, and in the device states that it is not taken in; so one rule for
each of its branches serves both.
-/

namespace Sys2Proof.Machine

/-- A write of a commit register: `shut` are the device states it is not taken in, `now` whether the commit is live with its
acceptance (R390, R395, R396). -/
def State.commitRow (shut : DevState → Prop) [DecidablePred shut] (off : Nat) (now : Bool) (w : Wr) (u : State) : State :=
  if shut u.dev.st then u.discard off w.port reasonState
  else if u.regs.phase ≠ .idle then u.discard off w.port reasonCommitBusy
  else if w.data = 0 then u
  else u.startCommit w.data now

theorem exec_dvCommit (s : State) (dt : Nat) (w : Wr) :
    exec (.dvCommit dt w) s = s.at_ dt (fun u => u.wr 0x1008 w (State.commitRow (· = .safe) 0x1008 false w)) := rfl

theorem exec_dvCommitNow (s : State) (dt : Nat) (w : Wr) :
    exec (.dvCommitNow dt w) s = s.at_ dt (fun u => u.wr 0x100C w (State.commitRow (· ≠ .setUp) 0x100C true w)) := rfl

/-! ## The branches of the write -/

section
variable {shut : DevState → Prop} [DecidablePred shut] {u : State} {off : Nat} {now : Bool} {w : Wr}

theorem State.commitRow_shut (hst : shut u.dev.st) : u.commitRow shut off now w = u.discard off w.port reasonState :=
  if_pos hst

theorem State.commitRow_busy (hst : ¬ shut u.dev.st) (hphase : u.regs.phase ≠ .idle) :
    u.commitRow shut off now w = u.discard off w.port reasonCommitBusy :=
  (if_neg hst).trans (if_pos hphase)

theorem State.commitRow_none (hst : ¬ shut u.dev.st) (hphase : u.regs.phase = .idle) (hdata : w.data = 0) :
    u.commitRow shut off now w = u :=
  (if_neg hst).trans ((if_neg (not_not.2 hphase)).trans (if_pos hdata))

theorem State.commitRow_start (hst : ¬ shut u.dev.st) (hphase : u.regs.phase = .idle) (hdata : w.data ≠ 0) :
    u.commitRow shut off now w = u.startCommit w.data now :=
  (if_neg hst).trans ((if_neg (not_not.2 hphase)).trans (if_neg hdata))

end

/-! ## What the write answers -/

section
variable {c : Instr} {s : State} {dt off : Nat} {w : Wr} {shut : DevState → Prop} [DecidablePred shut] {now : Bool}
  (hs : s.ready) (hw : s.passes off w) (hc : exec c s = s.at_ dt (fun u => u.wr off w (State.commitRow shut off now w)))
include hs hw hc

/-- R390, R395: a write that names groups starts their checks. -/
theorem answers_commit_start (hst : ¬ shut s.dev.st) (hphase : s.regs.phase = .idle) (hdata : w.data ≠ 0) :
    Answers c s (fun t =>
      t = { s.elapse dt with
            regs := { s.regs with
              phase := .checking, commitNow := now, pend := w.data, refused := 0, reanStart := t.clock } }) := by
  have hrow : (s.elapse dt).commitRow shut off now w = (s.elapse dt).startCommit w.data now :=
    State.commitRow_start (by rwa [State.elapse_dev]) (by rwa [State.elapse_regs]) hdata
  refine answers_wr_quiet hs hw hc (by rw [hrow]; rfl) ?_
  rw [hrow, ← State.elapse_regs s dt]
  rfl

/-- A word of zeros names no group and has no effect. -/
theorem answers_commit_none (hst : ¬ shut s.dev.st) (hphase : s.regs.phase = .idle) (hdata : w.data = 0) :
    Answers c s (fun t => t = s.elapse dt) := by
  have hrow : (s.elapse dt).commitRow shut off now w = s.elapse dt :=
    State.commitRow_none (by rwa [State.elapse_dev]) (by rwa [State.elapse_regs]) hdata
  exact answers_wr_quiet hs hw hc (by rw [hrow]) hrow

/-- R396: while a commit is in flight the write is discarded as COMMIT_BUSY. -/
theorem answers_commit_busy (hst : ¬ shut s.dev.st) (hphase : s.regs.phase ≠ .idle) :
    Answers c s (fun t => s.discards t dt off w reasonCommitBusy) := by
  refine answers_wr hs hw hc ?_
  rw [State.commitRow_busy (by rwa [State.elapse_dev]) (by rwa [State.elapse_regs])]
  exact State.discards_discard hs dt off w _

/-- In a device state that does not take it the write is discarded as STATE, whatever is in flight. -/
theorem answers_commit_shut (hst : shut s.dev.st) :
    Answers c s (fun t => s.discards t dt off w reasonState) := by
  refine answers_wr hs hw hc ?_
  rw [State.commitRow_shut (by rwa [State.elapse_dev])]
  exact State.discards_discard hs dt off w _

end

/-- Settles O13: each clause is one branch of the write that both rows are, DV_COMMIT shut in SAFE and DV_COMMIT_NOW outside
SET-UP. -/
theorem commitsStart : Obligations.CommitsStart := by
  unfold Obligations.CommitsStart
  intro s dt w hs
  refine ⟨fun hw => ?_, fun hw => ?_⟩
  · have hc := exec_dvCommit s dt w
    exact ⟨answers_commit_start hs hw hc, answers_commit_none hs hw hc, answers_commit_busy hs hw hc,
      answers_commit_shut hs hw hc⟩
  · have hc := exec_dvCommitNow s dt w
    exact ⟨fun hst => answers_commit_start hs hw hc (not_not.2 hst), fun hst => answers_commit_none hs hw hc (not_not.2 hst),
      fun hst => answers_commit_busy hs hw hc (not_not.2 hst), answers_commit_shut hs hw hc⟩

end Sys2Proof.Machine
end

section
/-!
PROOFS. The recovery of the field die (chapter 16, R503 to R507) and its end in SAFE (R512, R513). What the other units do beside an
event is bounded once (`State.Aside`): they leave the fault state, the registers and the device alone, take no report back, and
ask for a bounded number of slubs, none of which stands before those of the device.
-/

namespace Sys2Proof.Machine

/-! ## What is reported beside an event -/

/-- From a to b reports are added: none is taken back, no slub is logged yet, and at most n more wait, which stand behind those of
the device's own state (codes up to 0x0003). -/
structure Rep.Adds (n : Nat) (a b : Rep) : Prop where
  grows : Rep.Grows a b
  total : b.total = a.total
  whOld : b.whOld = a.whOld
  slubs : ∃ l, b.slubReqs = a.slubReqs ++ l ∧ l.length ≤ n ∧ ∀ q ∈ l, 3 < q.code

section
variable {m n : Nat} {a b c : Rep}

theorem Rep.Adds.of_same (h : Rep.Grows a b) (g : Rep.Same a b) : Rep.Adds 0 a b :=
  ⟨h, g.total, g.whOld, [], by rw [g.slubReqs, List.append_nil], le_rfl, fun _ hq => nomatch hq⟩

theorem Rep.Adds.refl (a : Rep) : Rep.Adds 0 a a := .of_same (.refl a) (.refl a)

theorem Rep.Adds.trans (h : Rep.Adds m a b) (g : Rep.Adds n b c) : Rep.Adds (m + n) a c := by
  obtain ⟨l, hl, hlen, hcode⟩ := h.slubs
  obtain ⟨l', hl', hlen', hcode'⟩ := g.slubs
  refine ⟨h.grows.trans g.grows, g.total.trans h.total, g.whOld.trans h.whOld, l ++ l', ?_, ?_, fun q hq => ?_⟩
  · rw [hl', hl, List.append_assoc]
  · rw [List.length_append]
    exact Nat.add_le_add hlen hlen'
  · exact (List.mem_append.1 hq).elim (hcode q) (hcode' q)

theorem Rep.Adds.mono (h : Rep.Adds m a b) (hmn : m ≤ n) : Rep.Adds n a b := by
  obtain ⟨l, hl, hlen, hcode⟩ := h.slubs
  exact ⟨h.grows, h.total, h.whOld, l, hl, hlen.trans hmn, hcode⟩

theorem Rep.adds_slubAt (r : Rep) (time : BitVec 64) (turn : BitVec 48) {code : Nat} (d0 d1 d2 : Word) (hcode : 3 < code) :
    Rep.Adds 1 r (r.slubAt time turn code d0 d1 d2) :=
  ⟨⟨⟨[], (List.append_nil _).symm⟩, fun _ => Nat.min_le_right _ _, fun _ _ h => h⟩, rfl, rfl, [_], rfl, le_rfl,
    fun _ hq => List.mem_singleton.1 hq ▸ hcode⟩

theorem Rep.adds_entry (r : Rep) (x : Ctx) (p : Port) (k : Nat) (e : EntryBody) : Rep.Adds 0 r (r.entry x p k e).1 :=
  .of_same (Rep.grows_entry r x p k e) (Rep.same_entry r x p k e)

end

/-- From a to b units beside the field bridge act: the fault state, the registers, the device, the time base and the turn number
stay, and at most n slubs more wait. -/
structure State.Aside (n : Nat) (a b : State) : Prop where
  fa : b.fa = a.fa
  regs : b.regs = a.regs
  dev : b.dev = a.dev
  now : b.now = a.now
  turn : b.tm.turn = a.tm.turn
  rep : Rep.Adds n a.rep b.rep

/-- From a to b segment feeds act under the registers that the field die has: feeds and reports alone change. -/
structure State.FeedsAct (n : Nat) (a b : State) : Prop where
  rest : b = { a with fd := b.fd, rep := b.rep }
  cfg : b.fd.cfg = a.fd.cfg
  rep : Rep.Adds n a.rep b.rep

section
variable {m n : Nat} {a b c : State}

theorem State.Aside.refl (a : State) : State.Aside 0 a a := ⟨rfl, rfl, rfl, rfl, rfl, .refl _⟩

theorem State.Aside.trans (h : State.Aside m a b) (g : State.Aside n b c) : State.Aside (m + n) a c :=
  ⟨g.fa.trans h.fa, g.regs.trans h.regs, g.dev.trans h.dev, g.now.trans h.now, g.turn.trans h.turn, h.rep.trans g.rep⟩

theorem State.Aside.mono (h : State.Aside m a b) (hmn : m ≤ n) : State.Aside n a b :=
  ⟨h.fa, h.regs, h.dev, h.now, h.turn, h.rep.mono hmn⟩

theorem State.Aside.ite {p : Prop} [Decidable p] (hb : State.Aside n a b) (hc : State.Aside n a c) :
    State.Aside n a (if p then b else c) := by
  split
  · exact hb
  · exact hc

theorem State.Aside.raise (h : State.Aside n a b) (i : Nat) : State.Aside n a (b.raise i) :=
  have hraise : b.Aside 0 (b.raise i) := ⟨rfl, rfl, rfl, rfl, rfl, .of_same (b.raise_grows i) (b.raise_same i)⟩
  h.trans hraise

theorem State.Aside.count (h : State.Aside n a b) (i : Nat) : State.Aside n a (b.count i) :=
  have hcount : b.Aside 0 (b.count i) := ⟨rfl, rfl, rfl, rfl, rfl, .of_same (b.count_grows i) (b.count_same i)⟩
  h.trans hcount

theorem State.Aside.complete (h : State.Aside n a b) (d : Desc) (x : Compl) : State.Aside n a (b.complete d x) :=
  have hcomplete : b.Aside 0 (b.complete d x) :=
    ⟨rfl, rfl, rfl, rfl, rfl, .of_same (b.complete_grows d x) (b.complete_same d x)⟩
  h.trans hcomplete

theorem State.Aside.slub (h : State.Aside n a b) {k : Nat} (x y z : Nat) (hk : 3 < k) :
    State.Aside (n + 1) a (b.slub k x y z) :=
  h.trans ⟨rfl, rfl, rfl, rfl, rfl, Rep.adds_slubAt _ _ _ _ _ _ hk⟩

theorem State.Aside.slubAt (h : State.Aside n a b) (time : BitVec 64) (turn : BitVec 48) {k : Nat} (x y z : Nat) (hk : 3 < k) :
    State.Aside (n + 1) a (b.slubAt time turn k x y z) :=
  h.trans ⟨rfl, rfl, rfl, rfl, rfl, Rep.adds_slubAt _ _ _ _ _ _ hk⟩

theorem State.status_adds (s : State) (e : EntryBody) : Rep.Adds 0 s.rep (s.status e).rep := by
  unfold State.status State.notifyBoth
  simp only
  split <;> split
  · exact (Rep.adds_entry _ _ _ _ _).trans (Rep.adds_entry _ _ _ _ _)
  · exact Rep.adds_entry _ _ _ _ _
  · exact Rep.adds_entry _ _ _ _ _
  · exact .refl _

theorem State.Aside.status (h : State.Aside n a b) (e : EntryBody) : State.Aside n a (b.status e) :=
  have hstatus : b.Aside 0 (b.status e) := ⟨rfl, rfl, rfl, rfl, rfl, b.status_adds e⟩
  h.trans hstatus

theorem State.FeedsAct.refl (a : State) : State.FeedsAct 0 a a := ⟨rfl, rfl, .refl _⟩

theorem State.FeedsAct.trans (h : State.FeedsAct m a b) (g : State.FeedsAct n b c) : State.FeedsAct (m + n) a c :=
  ⟨g.rest.trans (by rw [h.rest]), g.cfg.trans h.cfg, h.rep.trans g.rep⟩

theorem State.FeedsAct.mono (h : State.FeedsAct m a b) (hmn : m ≤ n) : State.FeedsAct n a b :=
  ⟨h.rest, h.cfg, h.rep.mono hmn⟩

theorem State.FeedsAct.ite {p : Prop} [Decidable p] (hb : State.FeedsAct n a b) (hc : State.FeedsAct n a c) :
    State.FeedsAct n a (if p then b else c) := by
  split
  · exact hb
  · exact hc

theorem State.FeedsAct.raise (h : State.FeedsAct n a b) (i : Nat) : State.FeedsAct n a (b.raise i) :=
  have hraise : b.FeedsAct 0 (b.raise i) := ⟨rfl, rfl, .of_same (b.raise_grows i) (b.raise_same i)⟩
  h.trans hraise

theorem State.FeedsAct.count (h : State.FeedsAct n a b) (i : Nat) : State.FeedsAct n a (b.count i) :=
  have hcount : b.FeedsAct 0 (b.count i) := ⟨rfl, rfl, .of_same (b.count_grows i) (b.count_same i)⟩
  h.trans hcount

theorem State.FeedsAct.aside (h : State.FeedsAct n a b) : State.Aside n a b :=
  ⟨(congrArg State.fa h.rest).trans rfl, (congrArg State.regs h.rest).trans rfl, (congrArg State.dev h.rest).trans rfl,
    (congrArg State.now h.rest).trans rfl, (congrArg (fun x : State => x.tm.turn) h.rest).trans rfl, h.rep⟩

/-- What each unit of a list does adds up. -/
theorem foldl_adds {α : Type} {R : Nat → State → State → Prop} (hrefl : ∀ a, R 0 a a)
    (htrans : ∀ {m n a b c}, R m a b → R n b c → R (m + n) a c) {f : State → α → State} (hf : ∀ a x, R n a (f a x))
    (l : List α) (a : State) : R (l.length * n) a (l.foldl f a) := by
  induction l generalizing a with
  | nil => rw [List.length_nil, Nat.zero_mul]; exact hrefl a
  | cons x l ih =>
    rw [List.length_cons, Nat.succ_mul, Nat.add_comm]
    exact htrans (hf a x) (ih _)

theorem State.Aside.foldl {α : Type} {f : State → α → State} (hf : ∀ a x, State.Aside n a (f a x)) (l : List α) (a : State) :
    State.Aside (l.length * n) a (l.foldl f a) := foldl_adds .refl .trans hf l a

theorem State.FeedsAct.foldl {α : Type} {f : State → α → State} (hf : ∀ a x, State.FeedsAct n a (f a x)) (l : List α)
    (a : State) : State.FeedsAct (l.length * n) a (l.foldl f a) := foldl_adds .refl .trans hf l a

end

/-! ## Segment feeds -/

section
variable (s : State) (n cause : Nat)

theorem State.setFeed_feedsAct (f : Feed) : s.FeedsAct 0 (s.setFeed n f) := ⟨rfl, rfl, .refl _⟩

theorem State.feedCause_feedsAct : s.FeedsAct 1 (s.feedCause n cause) :=
  ⟨rfl, rfl, Rep.adds_slubAt _ _ _ _ _ _ (by decide)⟩

/-- A pass gate that turns off is reported by one slub. -/
theorem State.gateOff_feedsAct (st : FeedMode) : s.FeedsAct 1 (s.gateOff n cause st) := by
  have hcause : ∀ f, s.FeedsAct 1 (((s.setFeed n f).feedCause n cause).count (feedCounter n cause)) := fun f =>
    ((s.setFeed_feedsAct n f).trans ((s.setFeed n f).feedCause_feedsAct n cause)).count _
  have hpg := fun f => State.FeedsAct.ite (p := (s.feed n).pg = true) ((hcause f).raise (0x1E0 + 4 * n)) (hcause f)
  have hsource := fun f => State.FeedsAct.ite (p := 1 ≤ cause ∧ cause ≤ 6) ((hpg f).raise (0x1E1 + 4 * n))
    (.ite (p := cause = 7 ∨ cause = 8) ((hpg f).raise (0x1E2 + 4 * n)) (hpg f))
  exact .ite ((hsource _).raise _) (hsource _)

theorem State.leaveOff_feedsAct : s.FeedsAct 0 (s.leaveOff n) :=
  .ite (s.setFeed_feedsAct n _) (.ite (s.setFeed_feedsAct n _) (s.setFeed_feedsAct n _))

theorem State.coolOn_feedsAct : s.FeedsAct 0 (s.coolOn n) := .ite (s.leaveOff_feedsAct n) (.refl s)

theorem State.feedEn_feedsAct : s.FeedsAct 1 (s.feedEn n) := by
  have hset : ∀ f, s.FeedsAct 0 (s.setFeed n f) := s.setFeed_feedsAct n
  have hkeep : s.FeedsAct 1 s := (State.FeedsAct.refl s).mono (by decide)
  unfold State.feedEn
  refine .ite (.ite ((hset _).mono (by decide)) hkeep) (.ite hkeep (.ite (s.gateOff_feedsAct n 9 _) (.ite ?_ ?_)))
  · exact ((hset _).count _).mono (by decide)
  · exact (hset _).trans (State.feedCause_feedsAct _ n 9)

theorem State.feedHold_feedsAct : s.FeedsAct 1 (s.feedHold n cause) := by
  unfold State.feedHold
  refine .ite (s.gateOff_feedsAct n cause _) (.ite (((State.FeedsAct.refl s).count _).mono (by decide)) (.ite ?_ ?_))
  · exact (State.FeedsAct.refl s).mono (by decide)
  · exact (s.setFeed_feedsAct n _).trans (State.feedCause_feedsAct _ n cause)

theorem State.feedOff_feedsAct : s.FeedsAct 1 (s.feedOff n) :=
  (s.setFeed_feedsAct n _).trans (State.feedHold_feedsAct _ n 9)

end

/-! ## Loop outputs and host captures -/

section
variable (s : State)

theorem State.setLoopOut_aside (n : Nat) (v : LoopOut) : s.Aside 0 (s.setLoopOut n v) := ⟨rfl, rfl, rfl, rfl, rfl, .refl _⟩

theorem State.outFail_aside (n cause : Nat) : s.Aside 1 (s.outFail n cause) :=
  .ite (((s.setLoopOut_aside n _).slub n cause 0 (by decide)).raise _) ((s.setLoopOut_aside n _).mono (by decide))

theorem State.dropSent_aside : s.Aside 0 s.dropSent := State.Aside.foldl (fun a n => a.setLoopOut_aside n _) outputs s

theorem State.setLine_aside (ch : Nat) (v : LineCh) : s.Aside 0 (s.setLine ch v) := ⟨rfl, rfl, rfl, rfl, rfl, .refl _⟩

theorem State.captureTimeout_aside (ch : Nat) : s.Aside 0 (s.captureTimeout ch) := by
  unfold State.captureTimeout
  split
  · exact .refl s
  · exact (s.setLine_aside ch _).complete _ _

end

/-! ## Breaches of the promise -/

section
variable (s : State) (n ch cause : Nat)

theorem State.setStream_aside (x : Stream) : s.Aside 0 (s.setStream n x) := ⟨rfl, rfl, rfl, rfl, rfl, .refl _⟩
theorem State.setBreach_aside (b : Breach) : s.Aside 0 (s.setBreach ch b) := ⟨rfl, rfl, rfl, rfl, rfl, .refl _⟩
theorem State.mapRels_aside (f : Rel → Rel) : s.Aside 0 (s.mapRels ch f) := ⟨rfl, rfl, rfl, rfl, rfl, .refl _⟩

variable {s n} in
/-- A covered release is judged without a slub (R182). -/
theorem State.judge_aside {r : Rel} (late : Option Int) (hcov : r.cov = true) : s.Aside 0 (s.judge n r late) := by
  unfold State.judge
  split
  · exact .refl s
  · simp only [hcov, Bool.not_true, Bool.and_false, Bool.false_eq_true, if_false]
    have hset := fun y => s.setStream_aside n y
    split
    · exact .ite ((hset _).trans (State.setBreach_aside _ _ _)) (hset _)
    · exact State.Aside.complete (.ite ((hset _).trans (State.setBreach_aside _ _ _)) (hset _)) _ _

theorem State.judgeGone_aside {l : List Rel} (hl : ∀ r ∈ l, r.cov = true) : s.Aside 0 (s.judgeGone n l) := by
  induction l generalizing s with
  | nil => exact .refl s
  | cons r l ih =>
    rw [List.forall_mem_cons] at hl
    exact (State.judge_aside none hl.1).trans (ih _ hl.2)

theorem State.cover_aside (t : BitVec 64) : s.Aside 0 (s.cover t n) := by
  unfold State.cover
  split
  · exact .refl s
  · refine (s.setStream_aside n _).trans (State.judgeGone_aside _ n fun r hr => ?_)
    obtain ⟨r', -, rfl⟩ := List.mem_map.1 hr
    rfl

theorem State.coverAll_aside (t : BitVec 64) (l : List Nat) : s.Aside 0 (s.coverAll t l) :=
  State.Aside.foldl (fun a n => a.cover_aside n t) l s

theorem State.breachBegin_aside (i : Instant) (kf : Word) (l : List Nat) : s.Aside 1 (s.breachBegin i ch cause kf l) := by
  have hcover := fun x f =>
    ((s.setBreach_aside ch x).trans (State.mapRels_aside _ ch f)).trans (State.coverAll_aside _ i.time l)
  exact ((((hcover _ _).slubAt i.time i.turn ch cause kf.toNat (by decide)).count _).status _).raise _

theorem State.breachWiden_aside (i : Instant) (kf : Word) (l : List Nat) : s.Aside 1 (s.breachWiden i ch cause kf l) := by
  have hcover := fun x => (s.setBreach_aside ch x).trans (State.coverAll_aside _ i.time l)
  exact .ite (((hcover _).slubAt i.time i.turn ch cause _ (by decide)).status _) ((hcover _).mono (by decide))

/-- A broken assumption is reported by one slub at most (R177, R178). -/
theorem State.detect_aside (kf : Word) (feed : Nat) : s.Aside 1 (s.detect ch cause kf feed) := by
  have hsrc : s.Aside 0 (if cause = 1 ∨ cause = 2 then (s.chCount ch 24).raise 0x1A4
      else if cause = 3 then (s.chCount ch 25).raise 0x1A5 else s) :=
    .ite (((State.Aside.refl s).count _).raise _) (.ite (((State.Aside.refl s).count _).raise _) (.refl s))
  exact hsrc.trans (.ite (State.breachWiden_aside _ ch cause _ kf _) (State.breachBegin_aside _ ch cause _ kf _))

end

/-! ## Modes of channels -/

section
variable (s : State) (ch : Nat)

theorem State.setCh_aside (c : Channel) : s.Aside 0 (s.setCh ch c) := ⟨rfl, rfl, rfl, rfl, rfl, .refl _⟩
theorem State.unchoose_aside : s.Aside 0 (s.unchoose ch) := ⟨rfl, rfl, rfl, rfl, rfl, .refl _⟩

theorem State.Aside.spEvent {s b : State} {n : Nat} (h : s.Aside n b) (off : Nat) : s.Aside (n + 1) (b.spEvent ch off) :=
  (h.slub _ _ _ (by omega)).raise _

theorem State.report_aside : s.Aside 1 (s.report ch) :=
  .ite (s.detect_aside ch 4 0 0) ((State.Aside.refl s).mono (by decide))

theorem State.warnUpd_aside : s.Aside 1 (s.warnUpd ch) :=
  .ite ((s.setCh_aside ch _).spEvent ch 2) ((s.setCh_aside ch _).mono (by decide))

theorem State.enterSt_aside (st : ChState) : s.Aside 2 (s.enterSt ch st) := by
  have hset := fun c => (s.setCh_aside ch c).mono (Nat.zero_le 1)
  have hrep : ∀ b, s.Aside 1 b → s.Aside 2 (if (s.ch ch).st.part != st.part then b.report ch else b) := fun b h =>
    .ite (h.trans (b.report_aside ch)) (h.mono (by decide))
  unfold State.enterSt
  refine .ite ((State.Aside.refl s).mono (by decide)) (hrep _ ?_)
  cases st
  case errorPassive => exact (s.setCh_aside ch _).spEvent ch 1
  case errorActive => exact (s.setCh_aside ch _).spEvent ch 3
  case quarantined => exact (s.setCh_aside ch _).spEvent ch 5
  all_goals exact hset _

theorem State.setMode_aside (m : ChMode) : s.Aside 4 (s.setMode ch m) := by
  have hback : s.Aside 0 (if m = .normal ∨ m = .loopback then s else s.unchoose ch) := .ite (.refl s) (s.unchoose_aside ch)
  have hset := fun c => hback.trans (State.setCh_aside _ ch c)
  unfold State.setMode
  refine .ite ((s.setCh_aside ch _).mono (by decide)) (State.Aside.trans (m := 3) (.ite ?_ (.ite ?_ ?_)) (State.report_aside _ ch))
  · exact ((hset _).trans (State.enterSt_aside _ ch _)).trans (State.warnUpd_aside _ ch)
  · exact ((hset _).trans (State.enterSt_aside _ ch _)).mono (by decide)
  · exact (hset _).mono (by decide)

theorem State.commitMode_aside (m : ChMode) : s.Aside 4 (s.commitMode ch m) := by
  have hset := fun c => (s.setCh_aside ch c).mono (Nat.zero_le 4)
  have hmode := s.setMode_aside ch m
  exact .ite (hset _) (.ite (.ite hmode (hset _)) (.ite hmode (hset _)))

end

/-! ## The role of a ply member -/

section
variable (s : State)

theorem State.refreshLimit_aside : s.Aside 0 s.refreshLimit :=
  have hlim := fun x => (⟨rfl, rfl, rfl, rfl, rfl, .refl _⟩ : s.Aside 0 { s with tm := { s.tm with devLimit := x } })
  .ite ((hlim _).raise _) (hlim _)

theorem State.refreshSource_aside : s.Aside 0 s.refreshSource := by
  have htm : ∀ x : TurnSt, x.turn = s.tm.turn → s.Aside 0 { s with tm := x } := fun _ hx =>
    ⟨rfl, rfl, rfl, rfl, hx, .refl _⟩
  exact (htm _ (by rfl)).trans (State.refreshLimit_aside _)

theorem State.refreshTrip_aside : s.Aside 0 s.refreshTrip := ⟨rfl, rfl, rfl, rfl, rfl, .refl _⟩

/-- A member that does not become ACTING sends no commands across the bridge. -/
theorem State.setRole_aside {r : PlyRole} (hr : r ≠ .acting) : s.Aside 0 (s.setRole r) := by
  have hpl : ∀ (b : State) (p : PlySt), b.Aside 0 { b with pl := p } := fun _ _ => ⟨rfl, rfl, rfl, rfl, rfl, .refl _⟩
  have hrole := ((hpl s { s.pl with role := r }).trans (State.refreshSource_aside _)).trans (State.refreshTrip_aside _)
  unfold State.setRole
  simp only
  rw [if_neg fun e => hr e.1]
  exact .ite ((hrole.trans (hpl _ _)).raise _) hrole

end

/-! ## Many slubs of one instant -/

/-- A slub that does not stand before the first of a list is put behind it. -/
theorem insSlub_cons {a b : SlubReq} (l : List SlubReq) (h : a.before b = false) : insSlub a (b :: l) = b :: insSlub a l := by
  rw [insSlub, h]
  rfl

theorem length_insSlub (a : SlubReq) (l : List SlubReq) : (insSlub a l).length = l.length + 1 := by
  induction l with
  | nil => rfl
  | cons b l ih =>
    unfold insSlub
    split
    · rfl
    · rw [List.length_cons, ih, List.length_cons]

theorem SlubReq.before_of_code_lt {a b : SlubReq} (h : b.code < a.code) : a.before b = false := by
  simp only [SlubReq.before, Bool.or_eq_false_iff, Bool.and_eq_false_iff, decide_eq_false_iff_not]
  exact ⟨by omega, .inl (by omega)⟩

/-- Two slubs that stand before all others of the instant stay at the front of the order (R499). -/
theorem foldl_insSlub_behind {q q' : SlubReq} {l : List SlubReq} (hq : ∀ a ∈ l, q.code < a.code)
    (hq' : ∀ a ∈ l, q'.code < a.code) (m : List SlubReq) :
    ∃ m', l.foldl (fun m a => insSlub a m) (q :: q' :: m) = q :: q' :: m' ∧ m'.length = m.length + l.length := by
  induction l generalizing m with
  | nil => exact ⟨m, rfl, rfl⟩
  | cons a l ih =>
    rw [List.forall_mem_cons] at hq hq'
    obtain ⟨m', hm, hlen⟩ := ih hq.2 hq'.2 (insSlub a m)
    refine ⟨m', ?_, ?_⟩
    · rw [List.foldl_cons, insSlub_cons _ (SlubReq.before_of_code_lt hq.1), insSlub_cons _ (SlubReq.before_of_code_lt hq'.1), hm]
    · rw [hlen, length_insSlub, List.length_cons]
      omega

/-- Slubs that are written leave every place of the log but theirs. -/
theorem Rep.look_foldSlubs (c : Ctx) (l : List SlubReq) (r : Rep) {k : Nat}
    (hk : ∀ i, i < l.length → k ≠ (r.total + BitVec.ofNat 32 i).toNat % 4096) :
    Tbl.look (l.foldl (fun a q => a.writeSlub c q) r).log k = Tbl.look r.log k ∧
    (l.foldl (fun a q => a.writeSlub c q) r).total = r.total + BitVec.ofNat 32 l.length := by
  induction l generalizing r with
  | nil => exact ⟨rfl, (BitVec.add_zero _).symm⟩
  | cons q l ih =>
    obtain ⟨hlog, htotal, -⟩ := Rep.writeSlub_log r c q
    have hnext : ∀ i, (r.writeSlub c q).total + BitVec.ofNat 32 i = r.total + BitVec.ofNat 32 (i + 1) := fun i => by
      rw [htotal, Nat.add_comm, BitVec.ofNat_add, BitVec.add_assoc]
      rfl
    obtain ⟨hlook, htot⟩ := ih (r.writeSlub c q) fun i hi => by
      rw [hnext]
      exact hk _ (Nat.succ_lt_succ hi)
    have h0 : k ≠ r.total.toNat % 4096 := by simpa using hk 0 (Nat.succ_pos _)
    exact ⟨by rw [List.foldl_cons, hlook, hlog, Tbl.look_ins_ne _ _ h0], by rw [List.foldl_cons, htot, hnext]; rfl⟩

/-- The first two slubs of an instant are in the log after it, where those behind them do not fill the log (R499, R500). -/
theorem Rep.flush_first_two {r : Rep} (c : Ctx) {q q' : SlubReq} {l : List SlubReq}
    (h : r.slubReqs.foldl (fun l a => insSlub a l) [] = q :: q' :: l) (hl : l.length + 2 < 4096) :
    Tbl.look (r.flush c).log (r.total.toNat % 4096) = some (r.slubOf q) ∧
    ∃ r' : Rep, Tbl.look (r.flush c).log ((r.total + 1).toNat % 4096) = some (r'.slubOf q') := by
  let r1 := Rep.writeSlub { r with slubReqs := [] } c q
  let r2 := r1.writeSlub c q'
  have hw : r.writeSlubs c = l.foldl (fun a x => a.writeSlub c x) r2 := by
    simp only [Rep.writeSlubs, h, List.foldl, r1, r2]
  obtain ⟨hlog1, htot1, -⟩ : r1.log = _ ∧ r1.total = r.total + 1 ∧ _ := Rep.writeSlub_log _ c q
  obtain ⟨hlog2, htot2, -⟩ : r2.log = _ ∧ r2.total = r1.total + 1 ∧ _ := Rep.writeSlub_log r1 c q'
  have hat : ∀ i, r2.total + BitVec.ofNat 32 i = r.total + BitVec.ofNat 32 (2 + i) := fun i => by
    rw [htot2, htot1, BitVec.ofNat_add, BitVec.add_assoc, BitVec.add_assoc, ← BitVec.add_assoc (1 : BitVec 32)]
    rfl
  have hkeeps : ∀ j, j < 2 →
      Tbl.look (r.flush c).log ((r.total + BitVec.ofNat 32 j).toNat % 4096) =
        Tbl.look r2.log ((r.total + BitVec.ofNat 32 j).toNat % 4096) := fun j hj => by
    obtain ⟨hlook, htot⟩ := Rep.look_foldSlubs c l r2 (k := (r.total + BitVec.ofNat 32 j).toNat % 4096) fun i hi => by
      rw [hat]
      exact slot_add_ne r.total (by omega) (by omega)
    rw [Rep.look_flush_log r c, hw, hlook]
    rw [hw, htot, hat]
    exact slot_add_ne r.total (by omega) (by omega)
  have h01 : r.total.toNat % 4096 ≠ (r.total + 1).toNat % 4096 := by
    simpa using slot_add_ne r.total (show 0 < 1 by decide) (by decide)
  constructor
  · have h0 := hkeeps 0 (by decide)
    rw [BitVec.add_zero] at h0
    rw [h0, hlog2, htot1, Tbl.look_ins_ne _ _ h01, hlog1]
    exact Tbl.look_ins_self _ _ _
  · refine ⟨r1, (hkeeps 1 (by decide)).trans ?_⟩
    rw [hlog2, htot1]
    exact Tbl.look_ins_self _ _ _

section
variable {s u v : State}

/-- What acts aside asks for slubs under the same time and turn. -/
theorem State.Aside.slubReq {n : Nat} (h : State.Aside n u v) (k a b c : Nat) : v.slubReq k a b c = u.slubReq k a b c := by
  unfold State.slubReq
  rw [h.now, h.turn]

/-- Two slubs of the device are the first of their instant, whatever acts aside (R499). -/
theorem State.logs_flush_aside {n k a b c k' a' b' c' : Nat} (h : State.Aside n u v) (hn : n + 2 < 4096)
    (ht : u.rep.total = s.rep.total) (hk : k < k') (hk' : k' ≤ 3)
    (hq : u.rep.slubReqs = [u.slubReq k' a' b' c', u.slubReq k a b c]) :
    s.logs v.flush k a b c ∧ s.logsNext v.flush k' a' b' c' := by
  obtain ⟨l, hl, hlen, hcode⟩ := h.rep.slubs
  rw [hq, ← h.slubReq, ← h.slubReq] at hl
  have hb : (v.slubReq k a b c).before (v.slubReq k' a' b' c') = true := by simp [SlubReq.before, State.slubReq, hk]
  obtain ⟨m, hm, hmlen⟩ := foldl_insSlub_behind (q := v.slubReq k a b c) (q' := v.slubReq k' a' b' c') (l := l)
    (fun x hx => lt_of_le_of_lt (hk.le.trans hk') (hcode x hx)) (fun x hx => lt_of_le_of_lt hk' (hcode x hx)) []
  have hsorted : v.rep.slubReqs.foldl (fun l a => insSlub a l) [] = v.slubReq k a b c :: v.slubReq k' a' b' c' :: m := by
    rw [hl, List.foldl_append, ← hm]
    simp only [List.foldl, insSlub, hb, if_true]
  obtain ⟨h1, r', h2⟩ := Rep.flush_first_two v.ctx hsorted (by rw [hmlen, List.length_nil]; omega)
  rw [h.rep.total, ht] at h1 h2
  exact ⟨⟨_, h1, rfl, rfl, rfl, rfl, rfl, rfl, rfl⟩, ⟨_, h2, rfl, rfl, rfl, rfl, rfl⟩⟩

/-- A count on top of others is in its counter. -/
theorem State.counts_count_grown {c n : Nat} (h : Rep.Grows s.rep u.rep) : s.counts (u.countN c n) c n := by
  have hbefore := h.counter c
  have hcount := Rep.counter_count u.rep u.ctx c n
  unfold State.counts
  exact le_trans (by omega) hcount

end

/-! ## What the end of an instant leaves of what acts aside -/

section
variable {u v : State} {n : Nat}

theorem State.Aside.live (h : State.Aside n u v) : v.regs.live = u.regs.live := congrArg RegSt.live h.regs

/-- With no commit of group WHORL in the instant, what acts aside and the end of the instant take no report back. -/
theorem State.Aside.flush_grows (h : State.Aside n u v) (hold : u.rep.whOld = none) : Rep.Grows u.rep v.flush.rep :=
  h.rep.grows.trans (State.flush_grows (h.rep.whOld.trans hold))

end

/-! ## A transfer is sent again -/

section
variable {s : State} {x : Xfer} {tag code a b c : Nat}

theorem State.slubOnce_adds (s : State) (tag a b c : Nat) (hcode : 3 < code) :
    Rep.Adds 1 s.rep (s.slubOnce tag code a b c).rep := by
  unfold State.slubOnce
  simp only
  split
  · exact (Rep.Adds.refl _).mono (by decide)
  · obtain ⟨hgrows, htotal, hold, hslubs⟩ :=
      Rep.adds_slubAt s.rep s.now s.tm.turn (BitVec.ofNat 32 a) (BitVec.ofNat 32 b) (BitVec.ofNat 32 c) hcode
    exact ⟨⟨hgrows.out, hgrows.counter, hgrows.pends⟩, htotal, hold, hslubs⟩

theorem State.slubOnce_reports (s : State) (tag code a b c : Nat) : s.Reports (s.slubOnce tag code a b c) := rfl

/-- The first slub of its kind in the turn waits for the end of the instant. -/
theorem State.slubOnce_slubReqs (h : s.rep.first.contains tag = false) :
    (s.slubOnce tag code a b c).rep.slubReqs = s.rep.slubReqs ++ [s.slubReq code a b c] := by
  unfold State.slubOnce
  rw [h]
  rfl

theorem State.slubOnce_first_ne {i : Nat} (h : i ≠ tag) :
    (s.slubOnce tag code a b c).rep.first.contains i = s.rep.first.contains i := by
  unfold State.slubOnce
  simp only
  split
  · rfl
  · simp [Rep.slub, Rep.slubAt, h]

/-- The transfer waits anew, before its retry is reported (R503). -/
def State.resent (s : State) (x : Xfer) : State :=
  { s.useFree with
    fa := { s.fa with
      field := .retrying
      xfers := s.fa.xfers.filter (fun y => decide (y ≠ x)) ++ [{ x with at_ := s.clock, tries := x.tries + 1 }] } }

theorem State.resend_eq (s : State) (x : Xfer) :
    s.resend x = (((s.resent x).count 5760).slubOnce 0x20005 0x1202 (s.retrySeq x.kind) 0 0).raiseOnce 0x005 0x005 := rfl

theorem State.retrySeq_posted {p : Posted} (hk : x.kind = .posted) (hp : s.fa.posted = some p) :
    s.retrySeq x.kind = p.seq.toNat := by
  unfold State.retrySeq
  rw [hk, hp]

theorem State.resend_reports (s : State) (x : Xfer) : (s.resent x).Reports (s.resend x).flush :=
  ((State.count_reports _ _).trans (State.slubOnce_reports _ _ _ _ _ _)).trans
    ((State.raiseOnce_reports _ _ _).trans (State.flush_reports _))

variable {dt : Nat}

/-- R503: what a retry leaves at the end of its instant. -/
theorem State.resend_flush (hs : s.ready) (x : Xfer) :
    let t := ((s.elapse dt).resend x).flush
    t = { s.elapse dt with
          rep := t.rep, free := s.free + 1
          fa := { s.fa with
            field := .retrying
            xfers := s.fa.xfers.filter (fun y => decide (y ≠ x)) ++
              [{ x with at_ := s.clock + dt, tries := x.tries + 1 }] } } ∧
    s.counts t 5760 1 ∧ (s.rep.first.contains 0x005 = false → s.raises t 0x005) ∧
    (∀ p, x.kind = .posted → s.fa.posted = some p → s.rep.first.contains 0x20005 = false →
      s.logs t 0x1202 p.seq.toNat 0 0) := by
  obtain ⟨hreqs, -, hold, -⟩ := State.elapse_settled hs dt
  have hrep : ((s.elapse dt).resent x).rep = s.rep := State.elapse_rep hs.2.2 dt
  have hreports := State.resend_reports (s.elapse dt) x
  have hcounts : s.counts (((s.elapse dt).resent x).count 5760) 5760 1 :=
    State.counts_count (congrArg (Rep.counter · 5760) hrep)
  have hfirst : (((s.elapse dt).resent x).count 5760).rep.first = s.rep.first :=
    (State.count_fires _ _).first.trans (congrArg Rep.first hrep)
  have hreqs' : (((s.elapse dt).resent x).count 5760).rep.slubReqs = [] := by rw [State.count_slubReqs]; exact hreqs
  have hold' : (((s.elapse dt).resent x).count 5760).rep.whOld = none := by rw [State.count_whOld]; exact hold
  have htotal : (((s.elapse dt).resent x).count 5760).rep.total = s.rep.total := by rw [State.count_total, hrep]
  have hlive : (((s.elapse dt).resent x).count 5760).regs.live = s.regs.live := State.elapse_live s dt
  rw [State.resend_eq] at hreports ⊢
  generalize hu : ((s.elapse dt).resent x).count 5760 = u at hcounts hfirst hreqs' hold' htotal hlive hreports ⊢
  have hslub := u.slubOnce_adds 0x20005 ((s.elapse dt).retrySeq x.kind) 0 0 (code := 0x1202) (by decide)
  have hend := (State.raiseOnce_whOld _ 0x005 0x005).trans (hslub.whOld.trans hold')
  refine ⟨?_, ?_, fun hf => State.raises_flush (State.raises_raiseOnce hlive (hslub.whOld.trans hold') ?_) hend,
    fun p hk hp hf => ?_⟩
  · rw [← State.elapse_clock, ← State.elapse_free s dt, ← State.elapse_fa s dt]
    exact hreports
  · exact State.counts_flush (State.counts_mono hcounts (hslub.grows.trans (State.raiseOnce_grows _ _ _))) hend
  · rw [State.slubOnce_first_ne (by decide), hfirst]
    exact hf
  · rw [State.retrySeq_posted hk (by rwa [State.elapse_fa])]
    refine State.logs_flush ?_ ?_
    · rw [State.raiseOnce_total, (u.slubOnce_adds _ _ _ _ (by decide)).total, htotal]
    · rw [State.raiseOnce_slubReqs, State.slubOnce_slubReqs (by rw [hfirst]; exact hf), hreqs']
      rfl

end

/-! ## The field-die reset -/

section
variable {s : State} {dt : Nat}

/-- The field die goes into reset, and that is reported (R503 to R505). -/
def State.fieldDown (s : State) : State :=
  ((({ s with
      fa := { s.fa with
        field := .inReset, attempts := s.fa.attempts + 1, resetAt := s.clock, holdDone := false, xfers := [] } } : State).slub
    0x1203 (s.fa.attempts + 1) 0 0).raise 0x006).count 5761

/-- Once the field die is in reset and the posted write is lost, outputs fail and host captures end (R505). -/
theorem State.fieldReset_aside (s : State) : s.fieldDown.losePosted.Aside 8 s.fieldReset :=
  ((State.dropSent_aside _).trans (State.Aside.foldl (fun a k => a.outFail_aside k 4) outputs _)).trans
    (State.Aside.foldl (fun a c => a.captureTimeout_aside c) _ _)

theorem State.losePosted_none (h : s.fa.posted = none) : s.losePosted = s := by
  unfold State.losePosted
  rw [h]

theorem State.losePosted_some {p : Posted} (h : s.fa.posted = some p) :
    s.losePosted = State.count { s with
      fa := { s.fa with posted := none, lost := s.fa.lost ++ [p.seq] }
      regs := { s.regs with
        shadow := Tbl.put s.regs.shadow p.off (resetAt p.off) (Tbl.lookD s.regs.fieldShadow p.off (resetAt p.off)) } } 5762 := by
  unfold State.losePosted
  rw [h]

/-- A posted write that is lost waits no more, and is remembered (R504, R506). -/
theorem State.losePosted_fa (s : State) :
    s.losePosted.fa = { s.fa with posted := none, lost := s.fa.lost ++ (s.fa.posted.map Posted.seq).toList } := by
  cases h : s.fa.posted with
  | none =>
    rw [State.losePosted_none h, Option.map_none, Option.toList_none, List.append_nil, ← h]
  | some p => rw [State.losePosted_some h]; rfl

theorem State.losePosted_keeps (s : State) :
    s.losePosted.regs.live = s.regs.live ∧ s.losePosted.dev = s.dev ∧ s.losePosted.rep.whOld = s.rep.whOld ∧
    Rep.Grows s.rep s.losePosted.rep := by
  cases h : s.fa.posted with
  | none => rw [State.losePosted_none h]; exact ⟨rfl, rfl, rfl, .refl _⟩
  | some p =>
    rw [State.losePosted_some h]
    exact ⟨rfl, rfl, by rw [State.count_whOld], State.count_grows _ _⟩

/-- From s to t a field-die reset begins (R503 to R507): a posted write is lost, named later, and its shadow is the acknowledged
value again. -/
def State.fieldResets (s t : State) (dt : Nat) : Prop :=
  t.fa.field = .inReset ∧ t.fa.attempts = s.fa.attempts + 1 ∧ t.fa.resetAt = s.clock + dt ∧ t.fa.holdDone = false ∧
  t.fa.posted = none ∧ s.raises t 0x006 ∧ s.counts t 5761 1 ∧ t.regs.live = s.regs.live ∧ t.dev = s.dev ∧
  ∀ p, s.fa.posted = some p →
    t.fa.lost = s.fa.lost ++ [p.seq] ∧ s.counts t 5762 1 ∧
    t.shadow p.off = Tbl.lookD s.regs.fieldShadow p.off (resetAt p.off)

/-- What the start of the reset reports. -/
theorem State.fieldDown_reports (hs : s.ready) :
    s.raises (s.elapse dt).fieldDown 0x006 ∧ s.counts (s.elapse dt).fieldDown 5761 1 ∧
    (s.elapse dt).fieldDown.rep.whOld = none ∧ Rep.Grows s.rep (s.elapse dt).fieldDown.rep := by
  have hold := State.elapse_whOld (dt := dt) hs
  have hgrows : Rep.Grows s.rep (s.elapse dt).rep := by rw [State.elapse_rep hs.2.2]; exact .refl _
  have hlive := State.elapse_live s dt
  unfold State.fieldDown
  generalize hu : State.slub _ 0x1203 _ _ _ = u
  have hrep : Rep.Grows s.rep u.rep ∧ u.rep.whOld = none ∧ u.regs.live = s.regs.live := by
    subst hu
    exact ⟨hgrows.trans (State.slub_grows _ _ _ _ _), hold, hlive⟩
  obtain ⟨hslub, hold, hlive⟩ := hrep
  have hraised := hslub.trans (State.raise_grows u 0x006)
  refine ⟨State.raises_mono (State.raises_raise hlive hold) (State.count_grows _ _), State.counts_count_grown hraised, ?_,
    hraised.trans (State.count_grows _ _)⟩
  rw [State.count_whOld, State.raise_whOld, hold]

/-- Once the field die is in reset and the posted write is lost, nothing aside undoes it. -/
theorem State.fieldResets_flush (hs : s.ready) {n : Nat} {v : State} (haside : (s.elapse dt).fieldDown.losePosted.Aside n v) :
    s.fieldResets v.flush dt := by
  obtain ⟨hraises, hcounts, hold, hgrows⟩ := State.fieldDown_reports (dt := dt) hs
  obtain ⟨hlive, hdev, hwh, hlost⟩ := State.losePosted_keeps (s.elapse dt).fieldDown
  have hflush := haside.flush_grows (hwh.trans hold)
  have hfa := haside.fa.trans (State.losePosted_fa _)
  refine ⟨congrArg FaultSt.field hfa, ?_, ?_, congrArg FaultSt.holdDone hfa, congrArg FaultSt.posted hfa,
    State.raises_mono hraises (hlost.trans hflush), State.counts_mono hcounts (hlost.trans hflush), ?_, ?_, fun p hp => ?_⟩
  · rw [← State.elapse_fa s dt]
    exact congrArg FaultSt.attempts hfa
  · rw [← State.elapse_clock]
    exact congrArg FaultSt.resetAt hfa
  · exact haside.live.trans (hlive.trans (State.elapse_live s dt))
  · exact haside.dev.trans (hdev.trans (State.elapse_dev s dt))
  · have hposted : (s.elapse dt).fieldDown.fa.posted = some p := (congrArg FaultSt.posted (s.elapse_fa dt)).trans hp
    have hsome := State.losePosted_some hposted
    refine ⟨?_, State.counts_mono ?_ hflush, ?_⟩
    · rw [← State.elapse_fa s dt]
      refine (congrArg FaultSt.lost hfa).trans ?_
      rw [hposted]
      rfl
    · rw [hsome]
      exact State.counts_count_grown hgrows
    · have hregs := haside.regs.trans (congrArg State.regs hsome)
      refine (congrArg (fun r : RegSt => Tbl.lookD r.shadow p.off (resetAt p.off)) hregs).trans ?_
      rw [← State.elapse_regs s dt]
      exact Tbl.lookD_put_self _ _ _ _

end

/-! ## The end of the reset -/

section
variable {s : State} {dt : Nat}

/-- The field die is back, with the committed configuration of the feeds (R504, R506, R507). -/
def State.fieldBack (s : State) : State :=
  { s with
    fa := { s.fa with
      field := .normal, attempts := 0, upAt := s.clock, holdDone := false, lost := []
      lostFirst := s.fa.lost.headD 0xFFFF, lostLast := s.fa.lost.getLastD 0xFFFF }
    fd := { s.fd with cfg := s.fdLive } }

/-- The feeds under the committed configuration. -/
def State.feedsRestored (s : State) : State :=
  (List.range 8).foldl State.coolOn ((List.range 8).foldl State.feedEn s.fieldBack)

theorem State.fieldEnd_eq (s : State) :
    s.fieldEnd = (s.feedsRestored.slub 0x1204
      ((s.fa.lost.headD 0xFFFF).toNat + 65536 * (s.fa.lost.getLastD 0xFFFF).toNat) s.fa.lost.length 0).raise 0x007 := rfl

theorem State.feedsRestored_feedsAct (s : State) : s.fieldBack.FeedsAct 8 s.feedsRestored :=
  (State.FeedsAct.foldl (fun a n => a.feedEn_feedsAct n) (List.range 8) _).trans
    (State.FeedsAct.foldl (fun a n => a.coolOn_feedsAct n) (List.range 8) _)

/-- R506: the feeds restored and the lost writes reported, at the end of the instant. -/
theorem State.fieldBack_flush (hs : s.ready) {n : Nat} {v : State} (h : (s.elapse dt).fieldBack.FeedsAct n v) (k a b c : Nat) :
    let t := ((v.slub k a b c).raise 0x007).flush
    t.fa = { s.fa with
      field := .normal, attempts := 0, upAt := s.clock + dt, holdDone := false, lost := [],
      lostFirst := s.fa.lost.headD 0xFFFF, lostLast := s.fa.lost.getLastD 0xFFFF } ∧
    t = { s.elapse dt with fa := t.fa, fd := t.fd, rep := t.rep } ∧ s.raises t 0x007 ∧ t.fd.cfg = s.fdLive := by
  have hold : v.rep.whOld = none := h.rep.whOld.trans (State.elapse_whOld hs)
  have hlive : (v.slub k a b c).regs.live = s.regs.live := h.aside.live.trans (State.elapse_live s dt)
  refine ⟨?_, ?_, State.raises_flush (State.raises_raise hlive hold) ((State.raise_whOld _ _).trans hold), h.cfg.trans ?_⟩
  · rw [← State.elapse_clock, ← State.elapse_fa s dt]
    exact h.aside.fa
  · have hrest : ∀ d r r' t, v = { (s.elapse dt).fieldBack with fd := d, rep := r } → t = { v with rep := r' } →
        t = { s.elapse dt with fa := t.fa, fd := t.fd, rep := t.rep } := by
      rintro d r r' t rfl rfl
      rfl
    exact hrest _ _ _ _ h.rest (((v.slub_reports k a b c).trans (State.raise_reports _ _)).trans (State.flush_reports _))
  · show (s.elapse dt).fdLive = s.fdLive
    unfold State.fdLive
    rw [State.elapse_regs]

end

/-! ## SAFE -/

section
variable {s : State} {dt cause : Nat}

/-- SAFE is entered with a cause, before the other units follow (R512, R565). -/
def State.safeNow (s : State) (cause : Nat) : State :=
  ((({ s with fa := { s.fa with safeCause := cause }, dev := { s.dev with runPend := false } } : State).toState .safe).slub
    0x0002 cause 0 0).raise 0x000

/-- On the entry of SAFE channels, outputs, feeds and the ply member follow (R513). -/
theorem State.enterSafe_aside (h : s.dev.st = .setUp ∨ s.dev.st = .run) : (s.safeNow cause).Aside 80 (s.enterSafe cause) := by
  have hmodes := State.Aside.foldl (fun a c => a.commitMode_aside c .listenOnly) channels (s.safeNow cause)
  have houts := fun b => State.Aside.foldl (fun a n => a.outFail_aside n 5) outputs b
  have hfeeds : ∀ (p : Nat → Bool) (b : State), b.Aside 8 (((List.range 8).filter p).foldl State.feedOff b) := fun p b =>
    (State.Aside.foldl (fun a n => (a.feedOff_feedsAct n).aside) _ b).mono (by simpa using List.length_filter_le p (List.range 8))
  have hrole : ∀ b : State, b.Aside 0 (if b.plyMember && decide (b.pl.role ≠ .out) then b.setRole .out else b) := fun b =>
    .ite (b.setRole_aside (by decide)) (.refl b)
  unfold State.enterSafe
  rw [if_pos h]
  exact (((hmodes.trans (houts _)).trans (hfeeds _ _)).trans (hrole _)).trans (State.refreshTrip_aside _)

/-- R565: what a change of the device state reports. -/
theorem State.toState_reports {u : State} (hlive : u.regs.live = s.regs.live) (hold : u.rep.whOld = none) (d : DevState) :
    s.raises (u.toState d) 0x05A ∧ (u.toState d).rep.whOld = none ∧ (u.toState d).rep.total = u.rep.total ∧
    (u.toState d).rep.slubReqs = u.rep.slubReqs ++ [(u.toState d).slubReq 0x0003 u.dev.st.code d.code 0] := by
  unfold State.toState
  refine ⟨State.raises_raise hlive hold, ?_, ?_, ?_⟩
  · rw [State.raise_whOld, State.slub_whOld, hold]
  · rw [State.raise_total, State.slub_total]
  · rw [State.raise_slubReqs, State.slub_slubReqs]
    rfl

theorem State.safeNow_reports (hs : s.ready) :
    s.raises ((s.elapse dt).safeNow cause) 0x000 ∧ s.raises ((s.elapse dt).safeNow cause) 0x05A ∧
    ((s.elapse dt).safeNow cause).rep.whOld = none ∧ ((s.elapse dt).safeNow cause).rep.total = s.rep.total ∧
    ((s.elapse dt).safeNow cause).rep.slubReqs =
      [((s.elapse dt).safeNow cause).slubReq 0x0003 s.dev.st.code 5 0,
        ((s.elapse dt).safeNow cause).slubReq 0x0002 cause 0 0] := by
  let u : State := { s.elapse dt with
    fa := { (s.elapse dt).fa with safeCause := cause }, dev := { (s.elapse dt).dev with runPend := false } }
  have hu : (s.elapse dt).safeNow cause = ((u.toState .safe).slub 0x0002 cause 0 0).raise 0x000 := rfl
  have hlive : (u.toState .safe).regs.live = s.regs.live := State.elapse_live s dt
  have htotal : u.rep.total = s.rep.total := congrArg Rep.total (State.elapse_rep hs.2.2 dt)
  have hreqs : u.rep.slubReqs = [] := State.elapse_slubReqs hs
  have hdev := congrArg DevSt.st (State.elapse_dev s dt)
  have hcode : u.dev.st = s.dev.st := hdev
  obtain ⟨hstate, hold, htot, hslubs⟩ := State.toState_reports (u := u) (State.elapse_live s dt) (State.elapse_whOld hs) .safe
  rw [hreqs, hcode, List.nil_append] at hslubs
  rw [hu]
  generalize u.toState .safe = v at *
  refine ⟨State.raises_raise hlive hold,
    State.raises_mono hstate ((State.slub_grows _ _ _ _ _).trans (State.raise_grows _ _)), ?_, ?_, ?_⟩
  · rw [State.raise_whOld, State.slub_whOld, hold]
  · rw [State.raise_total, State.slub_total, htot, htotal]
  · rw [State.raise_slubReqs, State.slub_slubReqs, hslubs]
    rfl

/-- R507, R512, R565: what the entry of SAFE leaves at the end of its instant. -/
theorem State.enterSafe_flush (hs : s.ready) (h : s.dev.st = .setUp ∨ s.dev.st = .run) :
    let t := ((s.elapse dt).enterSafe cause).flush
    t.dev = { s.dev with st := .safe, runPend := false } ∧ t.fa.safeCause = cause ∧ t.regs.live = s.regs.live ∧
    s.raises t 0x000 ∧ s.raises t 0x05A ∧ s.logs t 0x0002 cause 0 0 ∧ s.logsNext t 0x0003 s.dev.st.code 5 0 := by
  obtain ⟨hsafe, hstate, hold, htotal, hreqs⟩ := State.safeNow_reports (dt := dt) (cause := cause) hs
  have haside : ((s.elapse dt).safeNow cause).Aside 80 ((s.elapse dt).enterSafe cause) :=
    State.enterSafe_aside (by rwa [State.elapse_dev])
  have hflush := haside.flush_grows hold
  obtain ⟨hfirst, hnext⟩ := State.logs_flush_aside haside (by decide) htotal (by decide) (by decide) hreqs
  refine ⟨?_, congrArg FaultSt.safeCause haside.fa, haside.live.trans (State.elapse_live s dt),
    State.raises_mono hsafe hflush, State.raises_mono hstate hflush, hfirst, hnext⟩
  rw [← State.elapse_dev s dt]
  exact haside.dev

end

/-! ## The commands -/

section
variable {s : State} {dt : Nat}

theorem State.elapse_fieldUp (s : State) (dt : Nat) : (s.elapse dt).fieldUp = decide (s.fa.field ≠ .inReset) := by
  rw [State.fieldUp, State.elapse_fa]

/-- R503: a transfer that is late with tries left. -/
theorem answers_bridgeTimeout_retry (hs : s.ready) {x : Xfer} (hup : s.fa.field ≠ .inReset)
    (hlate : (s.elapse dt).bridgeLate = some x) (htries : x.tries < s.fld 0xF0004 8 3) :
    Answers (.bridgeTimeout dt) s (fun t =>
      t = { s.elapse dt with
            rep := t.rep, free := s.free + 1
            fa := { s.fa with
              field := .retrying
              xfers := s.fa.xfers.filter (fun y => decide (y ≠ x)) ++
                [{ x with at_ := s.clock + dt, tries := x.tries + 1 }] } } ∧
      s.counts t 5760 1 ∧ (s.rep.first.contains 0x005 = false → s.raises t 0x005) ∧
      (∀ p, x.kind = .posted → s.fa.posted = some p → s.rep.first.contains 0x20005 = false →
        s.logs t 0x1202 p.seq.toNat 0 0)) := by
  have hfield : (s.elapse dt).fieldUp = true := by rw [State.elapse_fieldUp, decide_eq_true_eq]; exact hup
  refine answers_at hs (show execBridgeTimeout dt s = _ from rfl) ?_
  simp only [hfield, hlate]
  rw [if_pos (by rwa [State.elapse_fld])]
  exact State.resend_flush hs x

/-- R503: a transfer that is late after its last try. -/
theorem answers_bridgeTimeout_reset (hs : s.ready) {x : Xfer} (hup : s.fa.field ≠ .inReset)
    (hlate : (s.elapse dt).bridgeLate = some x) (htries : s.fld 0xF0004 8 3 ≤ x.tries) :
    Answers (.bridgeTimeout dt) s (fun t => s.fieldResets t dt) := by
  have hfield : (s.elapse dt).fieldUp = true := by rw [State.elapse_fieldUp, decide_eq_true_eq]; exact hup
  refine answers_at hs (show execBridgeTimeout dt s = _ from rfl) ?_
  simp only [hfield, hlate]
  rw [if_neg (by rw [State.elapse_fld]; exact Nat.not_lt.2 htries)]
  exact State.fieldResets_flush hs (State.fieldReset_aside _)

/-- R503, R505: in reset, or with no transfer late, nothing happens. -/
theorem answers_bridgeTimeout_none (hs : s.ready) (h : s.fa.field = .inReset ∨ (s.elapse dt).bridgeLate = none) :
    Answers (.bridgeTimeout dt) s (fun t => t = s.elapse dt) := by
  refine answers_at hs (show execBridgeTimeout dt s = _ from rfl) ?_
  have hrest := State.flush_rest (State.elapse_settled hs dt)
  rcases h with h | h
  · have hfield : (s.elapse dt).fieldUp = false := by rw [State.elapse_fieldUp, h]; rfl
    simp only [hfield]
    exact hrest
  · simp only [h]
    cases (s.elapse dt).fieldUp <;> exact hrest

/-- R504: the reset has been held for 100 µs. -/
theorem answers_fieldResetHoldEnd (hs : s.ready) (hf : s.fa.field = .inReset) (hheld : 100000 ≤ s.clock + dt - s.fa.resetAt) :
    Answers (.fieldResetHoldEnd dt) s (fun t => t = { s.elapse dt with fa := { s.fa with holdDone := true } }) := by
  refine answers_at hs (show execFieldResetHoldEnd dt s = _ from rfl) ?_
  rw [if_pos (by rw [State.elapse_fa, State.elapse_clock, hf]; simpa using hheld), ← State.elapse_fa s dt]
  exact State.flush_rest (s := { s.elapse dt with fa := { (s.elapse dt).fa with holdDone := true } }) (State.elapse_settled hs dt)

/-- R504, R506: the reset ends once its hold is over. -/
theorem answers_fieldResetEnd (hs : s.ready) (hf : s.fa.field = .inReset) :
    (s.fa.holdDone = false → Answers (.fieldResetEnd dt) s (fun t => t = s.elapse dt)) ∧
    (s.fa.holdDone = true →
      Answers (.fieldResetEnd dt) s (fun t =>
        t.fa = { s.fa with
          field := .normal, attempts := 0, upAt := s.clock + dt, holdDone := false, lost := [],
          lostFirst := s.fa.lost.headD 0xFFFF, lostLast := s.fa.lost.getLastD 0xFFFF } ∧
        t = { s.elapse dt with fa := t.fa, fd := t.fd, rep := t.rep } ∧ s.raises t 0x007 ∧ t.fd.cfg = s.fdLive)) := by
  refine ⟨fun hh => ?_, fun hh => ?_⟩ <;> refine answers_at hs (show execFieldResetEnd dt s = _ from rfl) ?_
  · rw [if_neg (by rw [State.elapse_fa, hh, Bool.and_false]; decide)]
    exact State.flush_rest (State.elapse_settled hs dt)
  · rw [if_pos (by rw [State.elapse_fa, hf, hh]; rfl), State.fieldEnd_eq]
    exact State.fieldBack_flush hs (s.elapse dt).feedsRestored_feedsAct _ _ _ _

/-- R507: 1 ms after its start the reset starts again, and after the third attempt the device enters SAFE. -/
theorem answers_fieldResetRestart_due (hs : s.ready) (hf : s.fa.field = .inReset)
    (hdue : 1000000 ≤ s.clock + dt - s.fa.resetAt) :
    (s.fa.attempts < 3 → Answers (.fieldResetRestart dt) s (fun t => s.fieldResets t dt)) ∧
    (3 ≤ s.fa.attempts → s.dev.st = .setUp ∨ s.dev.st = .run →
      Answers (.fieldResetRestart dt) s (fun t =>
        t.dev = { s.dev with st := .safe, runPend := false } ∧ t.fa.safeCause = 2 ∧ t.regs.live = s.regs.live ∧
        s.raises t 0x000 ∧ s.raises t 0x05A ∧ s.logs t 0x0002 2 0 0 ∧ s.logsNext t 0x0003 s.dev.st.code 5 0)) := by
  have hopen : (decide ((s.elapse dt).fa.field = .inReset) &&
      decide ((s.elapse dt).clock - (s.elapse dt).fa.resetAt ≥ 1000000)) = true := by
    rw [State.elapse_fa, State.elapse_clock, hf]
    simpa using hdue
  refine ⟨fun ha => ?_, fun ha hst => ?_⟩ <;> refine answers_at hs (show execFieldResetRestart dt s = _ from rfl) ?_ <;>
    rw [if_pos hopen, State.elapse_fa]
  · rw [if_pos ha]
    exact State.fieldResets_flush hs (State.fieldReset_aside _)
  · rw [if_neg (Nat.not_lt.2 ha)]
    exact State.enterSafe_flush hs hst

theorem answers_fieldResetRestart_early (hs : s.ready) (hearly : s.clock + dt - s.fa.resetAt < 1000000) :
    Answers (.fieldResetRestart dt) s (fun t => t = s.elapse dt) := by
  refine answers_at hs (show execFieldResetRestart dt s = _ from rfl) ?_
  rw [if_neg (by rw [State.elapse_fa, State.elapse_clock, Bool.and_eq_true, decide_eq_true_eq, decide_eq_true_eq]; omega)]
  exact State.flush_rest (State.elapse_settled hs dt)

end

/-- Settles O54: a retry, a reset, its end and the entry of SAFE are each one change of the fault state with its reports, beside which
the other units act (`State.Aside`); what they report stands behind the two slubs of SAFE (`State.logs_flush_aside`). -/
theorem fieldDieRecovers : Obligations.FieldDieRecovers := by
  unfold Obligations.FieldDieRecovers
  intro s dt hs
  exact ⟨fun x hup hlate => ⟨answers_bridgeTimeout_retry hs hup hlate, answers_bridgeTimeout_reset hs hup hlate⟩,
    answers_bridgeTimeout_none hs,
    fun hf => ⟨answers_fieldResetHoldEnd hs hf, (answers_fieldResetEnd hs hf).1, (answers_fieldResetEnd hs hf).2,
      answers_fieldResetRestart_due hs hf, answers_fieldResetRestart_early hs⟩⟩

end Sys2Proof.Machine
end

section
/-!
PROOFS. The step and what every command keeps (chapters 0, 16, 19, 20): every command answers, leaves no report of its instant
waiting, and in OFF and RESET only supplies, RST_N and the TAP act. First what the commands that act in OFF and RESET answer;
all others have one of the two shapes of `rowForm`.
-/

namespace Sys2Proof.Machine

/-- A command answers a next state, in which nothing waits where nothing waited before. -/
def AnswersSettled (c : Instr) (s : State) : Prop := ∃ t, exec c s = .next t ∧ (s.settled → t.settled)

/-! ## The time that goes by -/

/-- What a cycle leaves to the next is reported at once. -/
theorem State.newCycle_settled {s : State} (h : s.settled) : s.newCycle.settled := by
  show s.nextOwner.settled
  unfold State.nextOwner
  split
  · exact State.flush_settled _
  · split
    · exact State.flush_settled _
    · exact h

theorem State.settled_elapse {s : State} (h : s.settled) (dt : Nat) : (s.elapse dt).settled := by
  unfold State.elapse
  split
  · exact h
  · exact State.newCycle_settled h

theorem State.settled_elapseUp {s : State} (h : s.settled) (dt : Nat) : (if s.up then s.elapse dt else s).settled := by
  split
  · exact State.settled_elapse h dt
  · exact h

/-! ## Supplies, RST_N and the TAP -/

theorem State.wiped_settled (s : State) (st : DevState) (cause : Nat) : (s.wiped st cause).settled := ⟨rfl, rfl, rfl, rfl⟩

theorem State.supplyUp_settled {s : State} (h : s.settled) (n : Nat) : (s.supplyUp n).settled := by
  unfold State.supplyUp
  simp only; split
  · exact State.wiped_settled _ _ _
  · exact h

theorem State.supplyDown_settled {s : State} (h : s.settled) (n : Nat) : (s.supplyDown n).settled := by
  unfold State.supplyDown
  simp only; split
  · exact h
  · split
    · exact State.wiped_settled _ _ _
    · split
      · exact State.wiped_settled _ _ _
      · exact h

theorem State.resetPin_settled {s : State} (h : s.settled) : s.resetPin.settled := by
  unfold State.resetPin
  simp only; split
  · exact State.wiped_settled _ _ _
  · exact h

/-- With the registers and the terms of reset the applied correction is within its limit, so its source stays silent. -/
theorem State.refreshLimit_rep {s : State} (hregs : s.regs = {}) (hfreq : s.tm.freqTerm = 0) (hphase : s.tm.phaseTerm = 0) :
    s.refreshLimit.rep = s.rep := by
  have hsum : s.rateSum = 0 := by
    have htrim : signedOf 20 (s.fld 0x10014 0 20) = 0 := by
      unfold State.fld State.live
      rw [hregs]
      decide +kernel
    simp [State.rateSum, htrim, hfreq, hphase]
  have hmax : 0 ≤ s.devMax := by unfold State.devMax; positivity
  unfold State.refreshLimit
  simp [hsum, not_lt.2 hmax]

theorem State.leaveReset_settled {s : State} (h : s.settled) (plyId : Fin 4) (pos : Fin 32) (prio : Bool) :
    (s.leaveReset plyId pos prio).settled := by
  unfold State.leaveReset
  split
  · unfold State.settled State.refreshSource
    rw [State.refreshLimit_rep rfl rfl rfl]
    exact ⟨rfl, rfl, rfl, rfl⟩
  · exact h

theorem State.tapRow_settled {c : Instr} {s : State} {dt : Nat} {f : State → State} (hc : exec c s = s.tapRow dt f)
    (hf : ∀ u : State, u.settled → (f u).settled) : AnswersSettled c s := by
  unfold State.tapRow at hc
  split at hc
  case isTrue hup => exact ⟨_, hc.trans (State.at_up hup), fun _ => State.flush_settled _⟩
  case isFalse =>
    refine ⟨_, hc, fun h => ?_⟩
    split
    · exact h
    · exact hf s h

/-! ## Every command -/

/-- A command that acts in OFF and RESET leaves nothing waiting. -/
theorem answersSettled_of_actsInReset {c : Instr} (s : State) (h : c.actsInReset = true) : AnswersSettled c s := by
  cases c with
  | supplyPresent dt n => exact ⟨_, rfl, fun hs => State.supplyUp_settled (State.settled_elapseUp hs dt) _⟩
  | supplyLoss dt n => exact ⟨_, rfl, fun hs => State.supplyDown_settled (State.settled_elapseUp hs dt) _⟩
  | resetAssert dt => exact ⟨_, rfl, fun hs => State.resetPin_settled (State.settled_elapseUp hs dt)⟩
  | leaveReset dt plyId pos prio => exact ⟨_, rfl, fun hs => State.leaveReset_settled hs plyId pos prio⟩
  | tapIdcode => exact State.tapRow_settled (show execTapIdcode _ s = _ from rfl) fun _ hu => hu
  | tapSamplePreload => exact State.tapRow_settled (show execTapSamplePreload _ s = _ from rfl) fun _ hu => hu
  | tapBypass => exact State.tapRow_settled (show execTapBypass _ s = _ from rfl) fun _ hu => hu
  | trstAssert => exact State.tapRow_settled (show execTrstAssert _ s = _ from rfl) fun _ hu => hu
  | _ => cases h

theorem answersSettled (c : Instr) (s : State) : AnswersSettled c s := by
  cases h : c.actsInReset
  case false =>
    rcases (rowForm c s h).cases with ⟨-, u, hu⟩ | ⟨-, hc⟩
    · exact ⟨_, hu, fun _ => State.flush_settled u⟩
    · exact ⟨s, hc, id⟩
  case true => exact answersSettled_of_actsInReset s h

/-- Settles O3: an empty queue changes nothing, and a command that runs leaves nothing waiting (`answersSettled`): its instant
ends, or it begins a state in which nothing waits. -/
theorem noReportOutlivesItsInstant : Obligations.NoReportOutlivesItsInstant := by
  unfold Obligations.NoReportOutlivesItsInstant
  intro s t hs ht
  unfold step at ht
  split at ht
  · cases ht
    exact hs
  case h_2 c rest _ =>
    obtain ⟨t', ht', hset⟩ := answersSettled c { s with pending := rest }
    cases ht'.symm.trans ht
    exact hset hs

/-- Settles O1, by the two cases of the queue that a step looks at. -/
theorem stepRunsTheFrontCommand : Obligations.StepRunsTheFrontCommand := by
  unfold Obligations.StepRunsTheFrontCommand
  constructor
  · intro s c rest h
    unfold step
    rw [h]
  · intro s h
    unfold step
    rw [h]

/-- Settles O2: every command answers, whatever waits (`answersSettled`). -/
theorem everyCommandAnswers : Obligations.EveryCommandAnswers := by
  unfold Obligations.EveryCommandAnswers
  intro c s
  obtain ⟨t, ht, -⟩ := answersSettled c s
  exact ⟨t, ht⟩

/-- Settles O4: the state of reset has every field at its default, and its tables list nothing. -/
theorem resetLeavesTheSpecsValues : Obligations.ResetLeavesTheSpecsValues := by
  unfold Obligations.ResetLeavesTheSpecsValues
  refine ⟨by decide, rfl, rfl, rfl, rfl, rfl, rfl, rfl, rfl, rfl, fun off => rfl, fun off => rfl, fun c => rfl, ?_,
    fun c => rfl, fun n => rfl⟩
  intro p i
  cases p <;> rfl

/-- Settles O5: a command of either shape changes nothing while the device does not run. -/
theorem offAndResetAreInert : Obligations.OffAndResetAreInert := by
  unfold Obligations.OffAndResetAreInert
  intro c s hup hc
  rcases (rowForm c s hc).cases with ⟨hup', -⟩ | ⟨-, hexec⟩
  · rw [hup] at hup'
    cases hup'
  · exact hexec

end Sys2Proof.Machine
end

section
/-!
PROOFS. What a command has reported, as one record: the sources it raised, what it counted, the slubs that wait for the end of its
instant, its completions, and what has left the device. One rule for each operation that reports (`State.Tells`), and one for the
end of the instant (`State.Told`), so that a proof about a command only lists its reports.
-/

namespace Sys2Proof.Machine

/-! ## Rings that stay -/

/-- From a to b each port changes in its view of the sources alone: its rings, its settings and its requests stay. -/
def Rep.RingsKept (a b : Rep) : Prop :=
  ∀ p, ∃ src fresh freshAt, b.port p = { a.port p with src := src, fresh := fresh, freshAt := freshAt }

theorem Rep.RingsKept.of_port {a b : Rep} (h : ∀ p, b.port p = a.port p) : Rep.RingsKept a b := fun p => ⟨_, _, _, h p⟩

theorem Rep.RingsKept.refl (a : Rep) : Rep.RingsKept a a := .of_port fun _ => rfl

theorem Rep.RingsKept.trans {a b c : Rep} (h : Rep.RingsKept a b) (g : Rep.RingsKept b c) : Rep.RingsKept a c := fun p => by
  obtain ⟨_, _, _, h⟩ := h p
  obtain ⟨x, y, z, g⟩ := g p
  exact ⟨x, y, z, by rw [g, h]⟩

theorem Rep.ringsKept_bump (r : Rep) (i n : Nat) : Rep.RingsKept r (r.bump i n).1 := by
  unfold Rep.bump; simp only; split <;> exact .of_port fun _ => rfl

theorem Rep.ringsKept_present (r : Rep) (p : Port) (k i : Nat) (x : SrcState) :
    Rep.RingsKept r (r.setPort p ((r.port p).present k i x)).askReq := fun q => by
  by_cases h : q = p
  · subst h
    exact ⟨_, _, _, Rep.port_setPort_self r q _⟩
  · exact ⟨_, _, _, Rep.port_setPort_ne r _ h⟩

mutual
theorem Rep.ringsKept_fireOne (n : Nat) (c : Ctx) (w : Word) (r : Rep) (i : Nat) (p : Port) :
    Rep.RingsKept r (Rep.fireOne n c w r i p) := by
  have hfull : ∀ k, Rep.RingsKept r
      (if (r.bump (whCounter p k) 1).2 then Rep.fireN n c (r.bump (whCounter p k) 1).1 0x05E else (r.bump (whCounter p k) 1).1) :=
    fun k => by
      split
      · exact (Rep.ringsKept_bump r _ _).trans (Rep.ringsKept_fireN n c _ _)
      · exact Rep.ringsKept_bump r _ _
  unfold Rep.fireOne
  simp only
  split
  · split
    · exact Rep.ringsKept_present r p _ i _
    · exact hfull 0
  · exact hfull 1
  termination_by 2 * n + 1

theorem Rep.ringsKept_fireN (n : Nat) (c : Ctx) (r : Rep) (i : Nat) : Rep.RingsKept r (Rep.fireN n c r i) := by
  cases n with
  | zero => exact .refl r
  | succ n =>
    rw [Rep.fireN_succ]
    simp only
    split
    · split <;> split
      · exact (Rep.ringsKept_fireOne n c _ r i .a).trans (Rep.ringsKept_fireOne n c _ _ i .b)
      · exact Rep.ringsKept_fireOne n c _ r i .b
      · exact Rep.ringsKept_fireOne n c _ r i .a
      · exact .refl r
    · exact .refl r
  termination_by 2 * n
end

theorem Rep.ringsKept_fire (r : Rep) (c : Ctx) (i : Nat) : Rep.RingsKept r (r.fire c i) := Rep.ringsKept_fireN 4 c r i

theorem Rep.ringsKept_count (r : Rep) (c : Ctx) (i n : Nat) : Rep.RingsKept r (r.count c i n) := by
  unfold Rep.count; simp only; split
  · exact (Rep.ringsKept_bump r i n).trans (Rep.ringsKept_fire _ c _)
  · exact Rep.ringsKept_bump r i n

theorem Rep.fires_fireOnce_first (r : Rep) (c : Ctx) (g i x : Nat) (h : x ≠ g) :
    (r.fireOnce c g i).first.contains x = r.first.contains x := by
  unfold Rep.fireOnce
  split
  · rfl
  · rw [(Rep.fires_fire _ c i).first]
    simp [h]

/-! ## What has been reported -/

/-- A record of reports: sources raised, those raised at most once in the turn with their flags, counters advanced, slubs that
wait, completions, outputs, flags of the turn used up. -/
structure Account where
  srcs : List Nat := []
  once : List (Nat × Nat) := []
  cts : List (Nat × Nat) := []
  slubs : List SlubReq := []
  compls : List (Desc × Compl) := []
  outs : List Output := []
  tags : List Nat := []

/-- A completion has been written to its skein (R332, R364). -/
def State.wrote (s : State) (out : List Output) (d : Desc) (c : Compl) : Prop :=
  ∃ i h l, out = s.rep.out ++ l ∧
    Output.entry d.port (s.claimedBy d) i (((s.port d.port).skn (s.claimedBy d)).slotAddr i 128) h (.completion c) ∈ l

/-- Since state s, at rest, the reports of a record have been made, and wait with their slubs for the end of the instant. -/
structure State.Tells (s : State) (k : Account) (r : Rep) : Prop where
  grows : Rep.Grows s.rep r
  total : r.total = s.rep.total
  whOld : r.whOld = none
  slubs : r.slubReqs = k.slubs
  raises : ∀ i ∈ k.srcs, ∀ p, s.routed p i → r.pends p i
  once : ∀ e ∈ k.once, s.rep.first.contains e.1 = false → ∀ p, s.routed p e.2 → r.pends p e.2
  counts : ∀ c ∈ k.cts, min ctMax (s.rep.counter c.1 + c.2) ≤ r.counter c.1
  wrote : ∀ e ∈ k.compls, s.wrote r.out e.1 e.2
  outs : ∀ o ∈ k.outs, ∃ l, r.out = s.rep.out ++ l ∧ o ∈ l
  first : ∀ g, g ∉ k.tags → r.first.contains g = s.rep.first.contains g

/-- Since state s the reports of a record have been made and the instant has ended: the slubs are in the log in the order of
R499. -/
structure State.Told (s : State) (k : Account) (t : State) : Prop where
  grows : Rep.Grows s.rep t.rep
  raises : ∀ i ∈ k.srcs, s.raises t i
  once : ∀ e ∈ k.once, s.rep.first.contains e.1 = false → s.raises t e.2
  counts : ∀ c ∈ k.cts, s.counts t c.1 c.2
  completes : ∀ e ∈ k.compls, s.completes t e.1 e.2
  outs : ∀ o ∈ k.outs, s.putsOut t o
  logs : ∀ a b c d, k.slubs = [t.slubReq a b c d] → s.logs t a b c d
  logsFirst : ∀ {a b c d a' b' c' d'} (l : List SlubReq), l.length + 2 < 4096 →
    k.slubs.foldl (fun l a => insSlub a l) [] = t.slubReq a b c d :: t.slubReq a' b' c' d' :: l →
    s.logs t a b c d ∧ s.logsNext t a' b' c' d'

section
variable {s b : State} {k : Account} {r : Rep}

/-- At rest nothing is reported yet. -/
theorem State.Tells.start (hs : s.settled) : s.Tells {} s.rep := by
  obtain ⟨hreqs, -, hold, -⟩ := hs
  exact ⟨.refl _, rfl, hold, hreqs, by simp, by simp, by simp, by simp, by simp, fun _ _ => rfl⟩

theorem State.Tells.elapse (hs : s.ready) (dt : Nat) : s.Tells {} (s.elapse dt).rep := by
  rw [State.elapse_rep hs.2.2]
  exact .start hs.2.1

/-- What takes nothing back, logs nothing and asks for nothing keeps the record. -/
theorem State.Tells.mono {r' : Rep} (h : s.Tells k r) (hg : Rep.Grows r r') (htotal : r'.total = r.total)
    (hold : r'.whOld = r.whOld) (hreqs : r'.slubReqs = r.slubReqs) (hfirst : r'.first = r.first) : s.Tells k r' := by
  obtain ⟨m, hm⟩ := hg.out
  have hout : ∀ {o : Output}, (∃ l, r.out = s.rep.out ++ l ∧ o ∈ l) → ∃ l, r'.out = s.rep.out ++ l ∧ o ∈ l := by
    rintro o ⟨l, hl, ho⟩
    exact ⟨l ++ m, by rw [hm, hl, List.append_assoc], List.mem_append_left m ho⟩
  refine ⟨h.grows.trans hg, htotal.trans h.total, hold.trans h.whOld, hreqs.trans h.slubs,
    fun i hi p hp => hg.pends p i (h.raises i hi p hp), fun e he hf p hp => hg.pends p _ (h.once e he hf p hp),
    fun c hc => ?_, fun e he => ?_, fun o ho => hout (h.outs o ho),
    fun g hgt => by rw [hfirst, h.first g hgt]⟩
  · have := h.counts c hc
    have := hg.counter c.1
    omega
  · obtain ⟨i, x, l, hl⟩ := h.wrote e he
    exact ⟨i, x, hout ⟨l, hl⟩⟩

theorem State.Tells.fires {r' : Rep} (h : s.Tells k r) (hg : Rep.Grows r r') (hsame : Rep.Same r r') (hf : Rep.Fires r r') :
    s.Tells k r' := h.mono hg hsame.total hsame.whOld hsame.slubReqs hf.first

/-- A source raised. -/
theorem State.Tells.raise (h : s.Tells k b.rep) (i : Nat) (hlive : b.regs.live = s.regs.live) :
    s.Tells { k with srcs := i :: k.srcs } (b.raise i).rep := by
  have hm := h.fires (b.raise_grows i) (b.raise_same i) (b.raise_fires i)
  refine ⟨hm.grows, hm.total, hm.whOld, hm.slubs, fun j hj => ?_, hm.once, hm.counts, hm.wrote, hm.outs, hm.first⟩
  rcases List.mem_cons.1 hj with rfl | hj
  · exact State.raises_raise hlive h.whOld
  · exact hm.raises j hj

/-- A counter advanced. -/
theorem State.Tells.countN (h : s.Tells k b.rep) (c n : Nat) : s.Tells { k with cts := (c, n) :: k.cts } (b.countN c n).rep := by
  have hm := h.fires (b.countN_grows c n) (b.countN_same c n) (Rep.fires_count _ _ _ _)
  refine ⟨hm.grows, hm.total, hm.whOld, hm.slubs, hm.raises, hm.once, fun x hx => ?_, hm.wrote, hm.outs, hm.first⟩
  rcases List.mem_cons.1 hx with rfl | hx
  · have hb := Rep.counter_count b.rep b.ctx c n
    have hs := h.grows.counter c
    show _ ≤ (b.rep.count b.ctx c n).counter c
    simp only
    omega
  · exact hm.counts x hx

theorem State.Tells.count (h : s.Tells k b.rep) (c : Nat) : s.Tells { k with cts := (c, 1) :: k.cts } (b.count c).rep :=
  h.countN c 1

/-- A slub asked for. -/
theorem State.Tells.slubAt (h : s.Tells k b.rep) (time : BitVec 64) (turn : BitVec 48) (c x y z : Nat) :
    s.Tells { k with slubs := k.slubs ++ [⟨time, turn, c, BitVec.ofNat 32 x, BitVec.ofNat 32 y, BitVec.ofNat 32 z⟩] }
      (b.slubAt time turn c x y z).rep := by
  refine ⟨⟨h.grows.out, h.grows.counter, h.grows.pends⟩, h.total, h.whOld, ?_, h.raises, h.once, h.counts, h.wrote, h.outs, h.first⟩
  exact congrArg (· ++ [_]) h.slubs

theorem State.Tells.slub (h : s.Tells k b.rep) (c x y z : Nat) :
    s.Tells { k with slubs := k.slubs ++ [b.slubReq c x y z] } (b.slub c x y z).rep := h.slubAt _ _ _ _ _ _

/-- Something leaves the device. -/
theorem State.Tells.emit (h : s.Tells k b.rep) (o : Output) : s.Tells { k with outs := o :: k.outs } (b.emit o).rep := by
  have hm := h.fires (b.emit_grows o) (b.emit_same o) (b.emit_fires o)
  refine ⟨hm.grows, hm.total, hm.whOld, hm.slubs, hm.raises, hm.once, hm.counts, hm.wrote, fun x hx => ?_, hm.first⟩
  rcases List.mem_cons.1 hx with rfl | hx
  · obtain ⟨l, hl⟩ := h.grows.out
    exact ⟨l ++ [x], by show b.rep.out ++ [x] = _; rw [hl, List.append_assoc], by simp⟩
  · exact hm.outs x hx

/-- A source raised at most once in a turn. -/
theorem State.Tells.raiseOnce (h : s.Tells k b.rep) (g i : Nat) : s.Tells { k with tags := g :: k.tags } (b.raiseOnce g i).rep := by
  have hg := b.raiseOnce_grows g i
  have hsame := b.raiseOnce_same g i
  have hm : s.Tells { k with tags := g :: k.tags } { (b.raiseOnce g i).rep with first := b.rep.first } := by
    have hm := h.mono (r' := { (b.raiseOnce g i).rep with first := b.rep.first }) ⟨hg.out, hg.counter, hg.pends⟩ hsame.total
      hsame.whOld hsame.slubReqs rfl
    exact ⟨hm.grows, hm.total, hm.whOld, hm.slubs, hm.raises, hm.once, hm.counts, hm.wrote, hm.outs,
      fun x hx => hm.first x fun hx' => hx (List.mem_cons_of_mem _ hx')⟩
  refine ⟨⟨hm.grows.out, hm.grows.counter, hm.grows.pends⟩, hm.total, hm.whOld, hm.slubs, hm.raises, hm.once, hm.counts, hm.wrote, hm.outs,
    fun x hx => ?_⟩
  rw [List.mem_cons, not_or] at hx
  exact (Rep.fires_fireOnce_first _ _ _ _ _ hx.1).trans (h.first x hx.2)

/-- Where it is raised for the first time in the turn it is presented. -/
theorem State.Tells.raiseFirst (h : s.Tells k b.rep) (g i : Nat) (hlive : b.regs.live = s.regs.live) (htag : g ∉ k.tags) :
    s.Tells { k with once := (g, i) :: k.once, tags := g :: k.tags } (b.raiseOnce g i).rep := by
  have hm := h.raiseOnce g i
  refine ⟨hm.grows, hm.total, hm.whOld, hm.slubs, hm.raises, fun e he hf => ?_, hm.counts, hm.wrote, hm.outs, hm.first⟩
  rcases List.mem_cons.1 he with rfl | he
  · exact State.raises_raiseOnce hlive h.whOld ((h.first g htag).trans hf)
  · exact hm.once e he hf

/-- An entry to a skein. -/
theorem State.Tells.entry (h : s.Tells k b.rep) (p : Port) (n : Nat) (e : EntryBody) : s.Tells k (b.entry p n e).rep :=
  h.fires (b.entry_grows p n e) (b.entry_same p n e) (Rep.fires_entry _ _ _ _ _)

theorem State.Tells.notifyBoth (h : s.Tells k b.rep) (off : Nat) (e : EntryBody) : s.Tells k (b.notifyBoth off e).rep := by
  have hentry : ∀ {r : Rep} p n, s.Tells k r → s.Tells k (r.entry b.ctx p n e).1 := fun p n hr =>
    hr.fires (Rep.grows_entry _ _ _ _ _) (Rep.same_entry _ _ _ _ _) (Rep.fires_entry _ _ _ _ _)
  unfold State.notifyBoth
  simp only
  split <;> split
  · exact hentry _ _ (hentry _ _ h)
  · exact hentry _ _ h
  · exact hentry _ _ h
  · exact h

/-- A hank asked for. -/
theorem State.Tells.hank (h : s.Tells k b.rep) (kind sub aux : Nat) (body : BitVec 64) :
    s.Tells k (b.hank kind sub aux body).rep := by
  unfold State.hank Rep.hank
  simp only
  split
  · exact ⟨⟨h.grows.out, h.grows.counter, h.grows.pends⟩, h.total, h.whOld, h.slubs, h.raises, h.once, h.counts, h.wrote, h.outs, h.first⟩
  · exact h

theorem State.Tells.askReq (h : s.Tells k b.rep) : s.Tells k b.askReq.rep :=
  h.mono b.askReq_grows rfl rfl rfl rfl

/-! ## Completions -/

theorem Rep.writeEntry_out (r : Rep) (c : Ctx) (p : Port) (n : Nat) (e : EntryBody) :
    ∃ i h l, (r.writeEntry c p n e).out = r.out ++ l ∧
      Output.entry p n i (((r.port p).skn n).slotAddr i 128) h e ∈ l := by
  let g := (r.port p).skn n
  let hdr : EntryHdr := {
    phase := phaseOf g.log2 g.own, lost := decide (g.lost > 0), lostCount := min g.lost 65535, wtime := c.now }
  let r1 := (r.setSk p n { g with own := g.own + 1, lost := 0 }).emit (.entry p n g.own (g.slotAddr g.own 128) hdr e)
  have hgrows : Rep.Grows r1 (r.writeEntry c p n e) :=
    ((Rep.grows_emit r1 _).trans (Rep.grows_writeHeader _ _ _)).trans (Rep.grows_notify _ _ _ _)
  obtain ⟨l, hl⟩ := hgrows.out
  exact ⟨g.own, hdr, .entry p n g.own (g.slotAddr g.own 128) hdr e :: l, hl.trans (List.append_assoc _ _ _), by simp [g]⟩

/-- A descriptor's other ring settings do not matter for its completion skein. -/
theorem Rep.skn_setDs (r : Rep) (p : Port) (d n : Nat) (g : Ring) : ((r.setDs p d g).port p).skn n = (r.port p).skn n := by
  unfold Rep.setDs
  rw [Rep.port_setPort_self]
  rfl

theorem Rep.RingsKept.canComplete {d : Desc} (hk : Rep.RingsKept s.rep r) (h : s.canComplete d) :
    (r.port d.port).canWrite = true ∧ ((r.port d.port).dsr d.distaff.val).claimed d.index = s.claimedBy d ∧
    (r.port d.port).skn (s.claimedBy d) = (s.port d.port).skn (s.claimedBy d) ∧
    (r.port d.port).serves ((s.port d.port).skn (s.claimedBy d)) = true := by
  obtain ⟨x, y, z, hp⟩ := hk d.port
  obtain ⟨hserves, -⟩ := h
  have hwrite : (s.port d.port).canWrite = true := by
    simp only [PortSt.serves, Bool.and_eq_true] at hserves
    exact hserves.1.1.2
  rw [hp]
  exact ⟨hwrite, rfl, rfl, hserves⟩

theorem State.complete_fires_first (d : Desc) (c : Compl) : (b.complete d c).rep.first = b.rep.first := by
  have hsk : ∀ (r : Rep) (p : Port) (n : Nat) (g : Ring), (r.setSk p n g).first = r.first := fun _ _ _ _ => rfl
  unfold State.complete Rep.complete
  simp only
  split
  · split
    · exact (Rep.fires_count _ _ _ _).first
    · split
      · exact (Rep.fires_writeEntry _ _ _ _ _).first
      · rfl
  · rfl

theorem State.Tells.keepComplete (h : s.Tells k b.rep) (d : Desc) (c : Compl) : s.Tells k (b.complete d c).rep :=
  h.mono (b.complete_grows d c) (b.complete_total d c) (b.complete_whOld d c) (b.complete_slubReqs d c)
    (State.complete_fires_first d c)

/-- A completion written to the skein that reserved its entry, while the rings are as they were. -/
theorem State.Tells.complete (h : s.Tells k b.rep) {d : Desc} {c : Compl} (hk : Rep.RingsKept s.rep b.rep) (hcan : s.canComplete d)
    (hc : d.cmpl = true ∨ c.status ≠ 0) : s.Tells { k with compls := (d, c) :: k.compls } (b.complete d c).rep := by
  have hm := h.keepComplete d c
  refine ⟨hm.grows, hm.total, hm.whOld, hm.slubs, hm.raises, hm.once, hm.counts, fun e he => ?_, hm.outs, hm.first⟩
  rcases List.mem_cons.1 he with rfl | he
  case inr => exact hm.wrote e he
  obtain ⟨hwrite, hclaim, hskn, hserves⟩ := hk.canComplete hcan
  obtain ⟨-, hroom⟩ := hcan
  have hst : (d.cmpl || decide (c.status ≠ 0)) = true := by simpa using hc
  let g := (b.rep.port d.port).dsr d.distaff.val
  let r := b.rep.setDs d.port d.distaff.val (g.unclaim d.index)
  have hport : r.port d.port = { b.rep.port d.port with ds := Tbl.put (b.rep.port d.port).ds d.distaff.val {} (g.unclaim d.index) } :=
    Rep.port_setPort_self _ _ _
  have hsk : (r.port d.port).skn (s.claimedBy d) = (s.port d.port).skn (s.claimedBy d) := by rw [hport]; exact hskn
  let x := (s.port d.port).skn (s.claimedBy d)
  have hrep : (b.complete d c).rep =
      (r.setSk d.port (s.claimedBy d) { x with reserved := x.reserved - 1 }).writeEntry b.ctx d.port (s.claimedBy d) (.completion c) := by
    have hw : (r.port d.port).canWrite = true := by rw [hport]; exact hwrite
    have hfull : ((r.port d.port).serves x && decide (x.used < 2 ^ x.log2)) = true := by
      rw [hport, Bool.and_eq_true]
      exact ⟨hserves, by simpa using hroom⟩
    show (if _ then _ else _) = _
    rw [if_pos hst, hclaim]
    unfold Rep.complete
    simp only
    rw [show (r.port d.port).skn (s.claimedBy d) = x from hsk, hw, if_neg (by decide), if_pos hfull]
  obtain ⟨i, hdr, l, hl, hmem⟩ := Rep.writeEntry_out
    (r.setSk d.port (s.claimedBy d) { x with reserved := x.reserved - 1 }) b.ctx d.port (s.claimedBy d) (.completion c)
  obtain ⟨m, hm⟩ := h.grows.out
  have hslot : ((r.setSk d.port (s.claimedBy d) { x with reserved := x.reserved - 1 }).port d.port).skn (s.claimedBy d) =
      { x with reserved := x.reserved - 1 } := by
    unfold Rep.setSk PortSt.skn
    rw [Rep.port_setPort_self]
    exact Tbl.lookD_put_self _ _ _ _
  rw [hslot] at hmem
  refine ⟨i, hdr, m ++ l, ?_, List.mem_append_right m hmem⟩
  rw [hrep, hl]
  show b.rep.out ++ l = _
  rw [hm, List.append_assoc]

/-! ## The end of the instant -/

theorem State.Tells.told {v : State} (h : s.Tells k v.rep) : s.Told k v.flush := by
  have hg : Rep.Grows v.rep v.flush.rep := State.flush_grows h.whOld
  obtain ⟨m, hm⟩ := hg.out
  refine ⟨h.grows.trans hg, fun i hi p hp => hg.pends p i (h.raises i hi p hp),
    fun e he hf p hp => hg.pends p _ (h.once e he hf p hp), fun c hc => ?_, fun e he => ?_, fun o ho => ?_,
    fun a b c d hq => State.logs_flush h.total (h.slubs.trans hq), fun l hl hq => ?_⟩
  · have := h.counts c hc
    have := hg.counter c.1
    unfold State.counts
    omega
  · obtain ⟨i, x, l, hl, hmem⟩ := h.wrote e he
    exact ⟨i, x, l ++ m, by rw [hm, hl, List.append_assoc], List.mem_append_left m hmem⟩
  · obtain ⟨l, hl, hmem⟩ := h.outs o ho
    exact ⟨l ++ m, by rw [hm, hl, List.append_assoc], List.mem_append_left m hmem⟩
  · rw [← h.slubs] at hq
    obtain ⟨h1, r', h2⟩ := Rep.flush_first_two v.ctx hq hl
    rw [h.total] at h1 h2
    exact ⟨⟨_, h1, rfl, rfl, rfl, rfl, rfl, rfl, rfl⟩, ⟨_, h2, rfl, rfl, rfl, rfl, rfl⟩⟩

end

/-- A command at a free instant that reports nothing answers what the state becomes. -/
theorem answers_becomes {c : Instr} {s : State} {dt : Nat} {g : State → State} {P : State → Prop} {v : State} (hs : s.ready)
    (hc : exec c s = s.at_ dt g) (hg : g (s.elapse dt) = v) (hrep : v.rep = (s.elapse dt).rep) (hP : P v) : Answers c s P := by
  subst hg
  exact answers_quiet hs hc hrep hP

/-- So does a register write that passes the checks. -/
theorem answers_wr_becomes {c : Instr} {s : State} {dt off : Nat} {w : Wr} {g : State → State} {P : State → Prop} {v : State}
    (hs : s.ready) (hw : s.passes off w) (hc : exec c s = s.at_ dt (fun u => u.wr off w g)) (hg : g (s.elapse dt) = v)
    (hrep : v.rep = (s.elapse dt).rep) (hP : P v) : Answers c s P := by
  subst hg
  exact answers_wr_quiet hs hw hc hrep hP

/-- A command at a free instant whose meaning is a change of the state beside the reports of a record. -/
theorem answers_tells {c : Instr} {s : State} {dt : Nat} {g : State → State} {P : State → Prop} {v : State} {r : Rep} {k : Account}
    (hs : s.ready) (hc : exec c s = s.at_ dt g) (hg : g (s.elapse dt) = { v with rep := r }) (h : s.Tells k r)
    (hP : ∀ r', s.Told k { v with rep := r' } → P { v with rep := r' }) : Answers c s P := by
  refine answers_at hs hc ?_
  rw [hg]
  exact hP _ (State.Tells.told (v := { v with rep := r }) h)

/-- So is a register write that passes the checks. -/
theorem answers_wr_tells {c : Instr} {s : State} {dt off : Nat} {w : Wr} {g : State → State} {P : State → Prop} {v : State} {r : Rep}
    {k : Account} (hs : s.ready) (hw : s.passes off w) (hc : exec c s = s.at_ dt (fun u => u.wr off w g))
    (hg : g (s.elapse dt) = { v with rep := r }) (h : s.Tells k r)
    (hP : ∀ r', s.Told k { v with rep := r' } → P { v with rep := r' }) : Answers c s P := by
  refine answers_tells hs hc ?_ h hP
  rw [State.wr_pass ((State.wrReason_elapse hs.2.2 dt off w).trans hw), hg]

end Sys2Proof.Machine
end

section
/-!
PROOFS. Reference events in RUN, holdover, its alarm, and the end of the TURN_OUT pulse (chapter 2, R62 to R72). A PPS and a
TURN_IN edge are one command (`exec_edge`) that differs in its source and in its reference period.
-/

namespace Sys2Proof.Machine

/-! ## The limit of the correction -/

theorem State.refreshLimit_eq (s : State) :
    s.refreshLimit = { s with tm := { s.tm with devLimit := s.refreshLimit.tm.devLimit }, rep := s.refreshLimit.rep } := by
  unfold State.refreshLimit
  simp only
  split <;> rfl

theorem State.Tells.refreshLimit {s b : State} {k : Account} (h : s.Tells k b.rep) : s.Tells k b.refreshLimit.rep := by
  unfold State.refreshLimit
  simp only
  split
  · let v : State := { b with tm := { b.tm with devLimit := decide (b.rateSum > b.devMax) || decide (b.rateSum < -b.devMax) } }
    exact h.fires (v.raise_grows 0x048) (v.raise_same 0x048) (v.raise_fires 0x048)
  · exact h

/-! ## Edges -/

/-- An edge of the source n, at a reference period of p ns (R62, R70, R72). -/
def State.edge (k : RefKind) (n p : Nat) (u : State) : State :=
  if u.tm.srcActive.toNat = n then u.refEvent k (nearestMultiple p u.now) p else u

/-- Both edges are no time cells. -/
theorem exec_edge {c : Instr} {s : State} {dt n p : Nat}
    (h : (c = .ppsEvent dt ∧ n = 1 ∧ p = 1000000000) ∨ (c = .turnInEvent dt ∧ n = 2 ∧ p = s.lenUs * 1000)) :
    ∃ k : RefKind, (k = .pps ∨ k = .turnIn) ∧ ∃ g, exec c s = s.at_ dt g ∧ g (s.elapse dt) = (s.elapse dt).edge k n p := by
  have hsrc : ∀ (x : BitVec 2) (i : Nat), i < 4 → (x = BitVec.ofNat 2 i ↔ x.toNat = i) := fun x i hi => by
    rw [← BitVec.toNat_inj, BitVec.toNat_ofNat, Nat.mod_eq_of_lt hi]
  rcases h with ⟨rfl, rfl, rfl⟩ | ⟨rfl, rfl, rfl⟩
  · exact ⟨.pps, .inl rfl, _, rfl, if_congr (hsrc _ 1 (by decide)) rfl rfl⟩
  · refine ⟨.turnIn, .inr rfl, _, rfl, ?_⟩
    rw [← State.elapse_lenUs s dt]
    exact if_congr (hsrc _ 2 (by decide)) rfl rfl

section
variable {u : State} {k : RefKind} {target : BitVec 64} {p : Nat}

/-- An edge in the cycle of a LOAD_TIME is discarded (R70). -/
theorem State.refEvent_loaded (h : u.tm.loadClk = some u.clock) : u.refEvent k target p = u := by
  unfold State.refEvent
  simp only [h, if_true]

/-- What an accepted edge leaves in RUN: the time base does not jump (R64). -/
theorem State.acceptEvent_run (hrun : u.dev.st = .run) (e : Int) :
    u.acceptEvent k target e p =
      { u with
        tm := { u.tm.accept k.isCell e p u.clock with devLimit := (u.acceptEvent k target e p).tm.devLimit }
        rep := (u.acceptEvent k target e p).rep } := by
  have hstep : (decide (u.dev.st = .setUp) && !u.tm.stepped && decide (e.natAbs > 1000)) = false := by simp [hrun]
  unfold State.acceptEvent
  simp only [hstep, Bool.false_eq_true, if_false]
  rw [State.refreshLimit_eq]
  split <;> rfl

theorem State.Tells.acceptEvent_run {s : State} {a : Account} (h : s.Tells a u.rep) (hrun : u.dev.st = .run) (e : Int) :
    s.Tells a (u.acceptEvent k target e p).rep := by
  have hstep : (decide (u.dev.st = .setUp) && !u.tm.stepped && decide (e.natAbs > 1000)) = false := by simp [hrun]
  let v : State := { u with tm := u.tm.accept k.isCell e p u.clock }
  unfold State.acceptEvent
  simp only [hstep, Bool.false_eq_true, if_false]
  refine State.Tells.refreshLimit ?_
  split
  · exact h.fires (v.raise_grows 0x044) (v.raise_same 0x044) (v.raise_fires 0x044)
  · exact h

theorem State.refEvent_accepted (hk : k = .pps ∨ k = .turnIn) (hload : u.tm.loadClk ≠ some u.clock)
    (hwin : (target - u.now).toInt.natAbs ≤ u.fld 0x10010 16 8 * 1000) :
    u.refEvent k target p = u.acceptEvent k target (target - u.now).toInt p := by
  unfold State.refEvent
  simp only [decide_eq_false (Nat.not_lt.2 hwin), Bool.and_false, if_neg hload]
  rcases hk with rfl | rfl <;> rfl

/-- An edge beyond the window is counted and, at the third in a row, reported (R65). -/
def State.rejectEdge (u : State) (e : Int) : State :=
  let v := { u.count 5120 with tm := u.tm.reject e }
  if u.tm.rejRun + 1 = 3 then (v.slub 0x0103 (BitVec.ofInt 32 e).toNat 0 0).raise 0x046 else v

theorem State.refEvent_rejected (hk : k = .pps ∨ k = .turnIn) (hrun : u.dev.st = .run) (hload : u.tm.loadClk ≠ some u.clock)
    (hwin : u.fld 0x10010 16 8 * 1000 < (target - u.now).toInt.natAbs) :
    u.refEvent k target p = u.rejectEdge (target - u.now).toInt := by
  unfold State.refEvent State.rejectEdge
  simp only [decide_eq_true hwin, decide_eq_true hrun, Bool.true_or, Bool.and_true, if_neg hload, gt_iff_lt, if_true]
  rcases hk with rfl | rfl <;> rfl

end

section
variable {c : Instr} {s : State} {dt : Nat} {g : State → State} {e : Int} (hs : s.ready) (hc : exec c s = s.at_ dt g)
include hs hc

/-- R63 to R67: an edge within the window. -/
theorem answers_edge_accepted (hrun : s.dev.st = .run) {k : RefKind} {target : BitVec 64} {p : Nat}
    (hg : g (s.elapse dt) = (s.elapse dt).acceptEvent k target e p) :
    Answers c s (fun t =>
      t = { s.elapse dt with tm := t.tm, rep := t.rep } ∧ t.tm.phaseTerm = (e : Rat) / (16 * p) ∧
      t.tm.freqTerm = (if s.tm.locked then s.tm.freqTerm + (e : Rat) / (256 * p) else s.tm.freqTerm) ∧
      t.tm.phaseErr = satErr e ∧ t.tm.holdover = false ∧ t.tm.acceptedAt = t.clock ∧ t.tm.turn = s.tm.turn) := by
  have hrun' : (s.elapse dt).dev.st = .run := by rw [State.elapse_dev, hrun]
  rw [← State.elapse_tm s dt]
  have heq := State.acceptEvent_run hrun' e (k := k) (target := target) (p := p)
  have htells := (State.Tells.elapse hs dt).acceptEvent_run hrun' e (k := k) (target := target) (p := p)
  obtain ⟨b, hb⟩ : ∃ b, g (s.elapse dt) = b := ⟨_, rfl⟩
  rw [← hg, hb] at htells heq
  refine answers_tells (v := { s.elapse dt with tm := { (s.elapse dt).tm.accept k.isCell e p (s.elapse dt).clock with
    devLimit := b.tm.devLimit } }) hs hc (hb.trans heq) htells fun r _ => ?_
  exact ⟨rfl, rfl, rfl, rfl, rfl, rfl, rfl⟩

/-- R65: an edge beyond the window. -/
theorem answers_edge_rejected (hg : g (s.elapse dt) = (s.elapse dt).rejectEdge e) :
    Answers c s (fun t =>
      t = { s.elapse dt with
        tm := { s.tm with rejRun := t.tm.rejRun, goodRun := t.tm.goodRun, locked := t.tm.locked }, rep := t.rep } ∧
      s.counts t 5120 1 ∧ t.tm.locked = (s.tm.locked && decide (e.natAbs < 2000)) ∧
      (s.tm.rejRun = 2 → s.raises t 0x046 ∧ s.logs t 0x0103 (BitVec.ofInt 32 e).toNat 0 0) ∧
      (s.tm.rejRun ≠ 2 → t.tm.rejRun = s.tm.rejRun + 1)) := by
  let v : State := { s.elapse dt with tm := s.tm.reject e }
  let x : State := { (s.elapse dt).count 5120 with tm := s.tm.reject e }
  have hx : s.Tells _ x.rep := (State.Tells.elapse hs dt).count 5120
  unfold State.rejectEdge at hg
  simp only [State.elapse_tm] at hg
  by_cases h2 : s.tm.rejRun = 2
  · rw [if_pos (by omega)] at hg
    refine answers_tells (v := v) hs hc (hg.trans rfl)
      ((hx.slub 0x0103 (BitVec.ofInt 32 e).toNat 0 0).raise 0x046 (State.elapse_live s dt)) fun r told => ?_
    exact ⟨rfl, told.counts (5120, 1) (by simp), rfl, fun _ => ⟨told.raises 0x046 (by simp), told.logs _ _ _ _ rfl⟩,
      fun h => absurd h2 h⟩
  · rw [if_neg (by omega)] at hg
    refine answers_tells (v := v) hs hc (hg.trans rfl) hx fun r told => ?_
    exact ⟨rfl, told.counts (5120, 1) (by simp), rfl, fun h => absurd h h2, fun _ => if_neg (by omega)⟩

end

/-- Settles O8: an edge of a pin that is not the source, or in the cycle of a load, is left alone; within the window it is
accepted without a step of the time base, beyond it rejected (`State.edge`). -/
theorem referenceEdgesInRun : Obligations.ReferenceEdgesInRun := by
  unfold Obligations.ReferenceEdgesInRun
  intro s dt hs hrun c n p hc
  obtain ⟨k, hk, g, hexec, hg⟩ := exec_edge hc
  have hclk : (s.elapse dt).tm.loadClk = some (s.elapse dt).clock ↔ s.tm.loadClk = some (s.clock + dt) := by
    rw [State.elapse_tm, State.elapse_clock]
  unfold State.edge at hg
  rw [State.elapse_tm] at hg
  refine ⟨fun h => ?_, fun hn hload hwin => ?_, fun hn hload hwin => ?_⟩
  · have hsame : g (s.elapse dt) = s.elapse dt := by
      rw [hg]
      split
      case isTrue hn => exact State.refEvent_loaded (hclk.2 (h.resolve_left (not_not.2 hn)))
      case isFalse => rfl
    exact answers_quiet hs hexec (by rw [hsame]) hsame
  · rw [if_pos hn, State.refEvent_accepted hk (fun h => hload (hclk.1 h)) (by rwa [State.elapse_fld])] at hg
    exact answers_edge_accepted hs hexec hrun hg
  · rw [if_pos hn, State.refEvent_rejected hk (by rwa [State.elapse_dev]) (fun h => hload (hclk.1 h))
      (by rwa [State.elapse_fld])] at hg
    exact answers_edge_rejected hs hexec hg

/-! ## Holdover and the pulse -/

section
variable {s : State} {dt : Nat}

theorem State.elapse_refPeriod (s : State) (dt : Nat) : (s.elapse dt).refPeriod = s.refPeriod := by
  unfold State.refPeriod
  rw [State.elapse_tm, State.elapse_lenUs]

/-- R68: the time base enters holdover. -/
def TurnSt.heldOver (t : TurnSt) : TurnSt :=
  { t with holdover := true, phaseTerm := 0, locked := false, goodRun := 0, holdTurns := 0 }

theorem answers_holdoverEntry (hs : s.ready) {T : Nat} (hT : s.refPeriod = some T) (hhold : s.tm.holdover = false)
    (hlate : 2 * T ≤ s.clock + dt - s.tm.acceptedAt) :
    Answers (.holdoverEntry dt) s (fun t =>
      t = { s.elapse dt with tm := t.tm, rep := t.rep } ∧ t.tm.holdover = true ∧ t.tm.phaseTerm = 0 ∧
      t.tm.freqTerm = s.tm.freqTerm ∧ t.tm.locked = false ∧ t.tm.turn = s.tm.turn ∧ s.raises t 0x045) := by
  have hopen : (!(s.elapse dt).tm.holdover && decide ((s.elapse dt).clock - (s.elapse dt).tm.acceptedAt ≥ 2 * T)) = true := by
    rw [State.elapse_tm, State.elapse_clock, hhold]
    simpa using hlate
  let x : State := { s.elapse dt with tm := (s.elapse dt).tm.heldOver }
  have hx := ((State.Tells.count (b := x) (State.Tells.elapse hs dt) 5123).raise 0x045 (State.elapse_live s dt)).refreshLimit
  refine answers_tells (v := { s.elapse dt with
      tm := { (s.elapse dt).tm.heldOver with devLimit := ((x.count 5123).raise 0x045).refreshLimit.tm.devLimit } })
    hs (show execHoldoverEntry dt s = _ from rfl) ?_ hx fun r told => ?_
  · simp only [State.elapse_refPeriod, hT, hopen, if_true]
    exact State.refreshLimit_eq _
  · rw [← State.elapse_tm s dt]
    exact ⟨rfl, rfl, rfl, rfl, rfl, rfl, told.raises 0x045 (by simp)⟩

theorem answers_cascadeAlarm (hs : s.ready) (hsrc : s.tm.srcActive = 3) (hply : s.tm.plyFollow = false)
    (hhold : s.tm.holdover = true) (hturns : 64 ≤ s.tm.holdTurns) (halarm : s.tm.cascadeAlarm = false) :
    Answers (.cascadeAlarm dt) s (fun t =>
      t = { s.elapse dt with tm := { s.tm with cascadeAlarm := true }, rep := t.rep } ∧ s.raises t 0x047 ∧
      s.logs t 0x0104 0 0 0) := by
  rw [← State.elapse_tm s dt]
  let v : State := { s.elapse dt with tm := { (s.elapse dt).tm with cascadeAlarm := true } }
  refine answers_tells (v := v) hs (show execCascadeAlarm dt s = _ from rfl) ?_
    ((State.Tells.slub (b := v) (State.Tells.elapse hs dt) 0x0104 0 0 0).raise 0x047 (State.elapse_live s dt)) fun r told => ?_
  · rw [if_pos (by simp [hsrc, hply, hhold, hturns, halarm])]
    rfl
  · exact ⟨rfl, told.raises 0x047 (by simp), told.logs _ _ _ _ rfl⟩

/-- With the pulse over TURN_OUTP is below TURN_OUTN while the device runs. -/
theorem State.turnOutPin_low {t : State} (hoff : t.dev.st ≠ .off) (hpulse : t.tm.pulse = false) : t.turnOutPin = .low := by
  unfold State.turnOutPin
  rw [if_neg hoff, hpulse, Bool.and_false, Bool.false_and]
  rfl

theorem State.up_not_off (h : s.up = true) : s.dev.st ≠ .off := by
  unfold State.up at h
  simp only [Bool.and_eq_true, decide_eq_true_eq] at h
  exact h.1

theorem answers_turnOutPulseEnd (hs : s.ready) :
    (s.outWidthUs * 1000 ≤ ((s.elapse dt).now - s.tm.origin).toNat →
      Answers (.turnOutPulseEnd dt) s (fun t =>
        t = { s.elapse dt with tm := { s.tm with pulse := false } } ∧ t.turnOutPin = .low)) ∧
    (((s.elapse dt).now - s.tm.origin).toNat < s.outWidthUs * 1000 →
      Answers (.turnOutPulseEnd dt) s (fun t => t = s.elapse dt)) := by
  have hwidth : (s.elapse dt).outWidthUs = s.outWidthUs := s.elapse_fld dt _ _ _
  have hc : exec (.turnOutPulseEnd dt) s = s.at_ dt _ := show execTurnOutPulseEnd dt s = _ from rfl
  refine ⟨fun h => ?_, fun h => ?_⟩
  · rw [← State.elapse_tm s dt, ← hwidth] at *
    refine answers_becomes (v := { s.elapse dt with tm := { (s.elapse dt).tm with pulse := false } }) hs hc
      (if_pos (by simpa using h)) rfl ⟨rfl, State.turnOutPin_low ?_ rfl⟩
    exact (congrArg DevSt.st (s.elapse_dev dt)).trans_ne (State.up_not_off hs.1)
  · rw [← State.elapse_tm s dt, ← hwidth] at *
    exact answers_becomes hs hc (if_neg (by simpa using h)) rfl rfl

end

/-- Settles O9: the entry of holdover and its alarm are one change of the time base each, with their reports; the end of the pulse
changes the pulse alone. -/
theorem holdoverAlarmAndPulseEnd : Obligations.HoldoverAlarmAndPulseEnd := by
  unfold Obligations.HoldoverAlarmAndPulseEnd
  intro s dt hs
  exact ⟨fun T => answers_holdoverEntry hs, answers_cascadeAlarm hs, (answers_turnOutPulseEnd hs).1, (answers_turnOutPulseEnd hs).2⟩

end Sys2Proof.Machine
end

section
/-!
PROOFS. What discards a register write (chapter 12, R353, R382 to R386, R390, R400, R551). All rows that are a register write have
one shape (`exec_regWrite`), so the checks are looked at once, in the order of `State.wrReason`.
-/

namespace Sys2Proof.Machine

/-- A command that is a register write passes its checks before its own rule is looked at. -/
theorem exec_regWrite {c : Instr} {dt off : Nat} {w : Wr} (s : State) (h : c.regWrite = some (dt, off, w)) :
    ∃ f, exec c s = s.at_ dt (fun u => u.wr off w f) := by
  cases c with
  | loadTime => cases h; exact ⟨_, rfl⟩
  | loadTurn => cases h; exact ⟨_, rfl⟩
  | recover => cases h; exact ⟨_, rfl⟩
  | release => cases h; exact ⟨_, rfl⟩
  | emInsert => cases h; exact ⟨_, rfl⟩
  | emDelete => cases h; exact ⟨_, rfl⟩
  | emRead => cases h; exact ⟨_, rfl⟩
  | routeWrite => cases h; exact ⟨_, rfl⟩
  | routeRead => cases h; exact ⟨_, rfl⟩
  | baseline => cases h; exact ⟨_, rfl⟩
  | loClear => cases h; exact ⟨_, rfl⟩
  | loLock => cases h; exact ⟨_, rfl⟩
  | fdCmdOn => cases h; exact ⟨_, rfl⟩
  | fdCmdOff => cases h; exact ⟨_, rfl⟩
  | fdCmdClear => cases h; exact ⟨_, rfl⟩
  | fdLock => cases h; exact ⟨_, rfl⟩
  | portEnWrite => cases h; exact ⟨_, rfl⟩
  | ringEnable => cases h; exact ⟨_, rfl⟩
  | ringDisable => cases h; exact ⟨_, rfl⟩
  | candidacy => cases h; exact ⟨_, rfl⟩
  | accept => cases h; exact ⟨_, rfl⟩
  | handoverGo => cases h; exact ⟨_, rfl⟩
  | whDoorbell => cases h; exact ⟨_, rfl⟩
  | whComplete => cases h; exact ⟨_, rfl⟩
  | whHold => cases h; exact ⟨_, rfl⟩
  | registerWrite => cases h; exact ⟨_, rfl⟩
  | dvCommit => cases h; exact ⟨_, rfl⟩
  | dvCommitNow => cases h; exact ⟨_, rfl⟩
  | dvLock => cases h; exact ⟨_, rfl⟩
  | plLock => cases h; exact ⟨_, rfl⟩
  | ksLock => cases h; exact ⟨_, rfl⟩
  | ctClearGo => cases h; exact ⟨_, rfl⟩
  | ctClearAll => cases h; exact ⟨_, rfl⟩
  | ctSnapNow => cases h; exact ⟨_, rfl⟩
  | ctSnapAtBoundary => cases h; exact ⟨_, rfl⟩
  | dvCmdRun => cases h; exact ⟨_, rfl⟩
  | sliverFlush => cases h; exact ⟨_, rfl⟩
  | retrain => cases h; exact ⟨_, rfl⟩
  | csPeerdbGo => cases h; exact ⟨_, rfl⟩
  | rpDoffGo => cases h; exact ⟨_, rfl⟩
  | rpCmdBurn => cases h; exact ⟨_, rfl⟩
  | restart => cases h; exact ⟨_, rfl⟩
  | _ => cases h

/-! ## The order of the checks -/

section
variable {s : State} {off : Nat} {w : Wr}

theorem State.wrReason_partial (hbe : w.be ≠ 15) : s.wrReason off w = some reasonPartial := if_pos hbe

theorem State.wrReason_unmapped (hbe : w.be = 15) (hmap : mapped off = false) : s.wrReason off w = some reasonUnmapped :=
  (if_neg (not_not.2 hbe)).trans (if_pos hmap)

/-- The checks that the ports' own registers pass for either port (R352, R353). -/
theorem State.wrReason_shared (hbe : w.be = 15) (hmap : mapped off = true) (hpp : portPrivate off = false) :
    s.wrReason off w =
      if s.loading then some reasonState
      else if s.ownerStart ≠ some w.port then some reasonNotOwner
      else if s.frozen off then some reasonFrozen
      else if fieldReg off && s.fieldBusy then some reasonBusy
      else if ksReg off && s.ks.posted.isSome then some reasonBusy
      else none := by
  unfold State.wrReason
  rw [if_neg (not_not.2 hbe), if_neg (by rw [hmap]; decide), if_neg (by rw [hpp]; decide)]

theorem State.ownerStart_steady (h : s.steady) : s.ownerStart = s.ow.owner := by
  unfold State.ownerStart
  rw [h.1]
  rfl

/-- The field die and the key store have no register in common. -/
theorem fieldReg_of_ksReg (h : ksReg off = true) : fieldReg off = false := by
  simp only [ksReg, fieldReg, decide_eq_true_eq, decide_eq_false_iff_not] at *
  omega

end

/-! ## What a discarded write answers -/

section
variable {c : Instr} {s : State} {dt off : Nat} {w : Wr} (hs : s.ready) (hc : c.regWrite = some (dt, off, w))
include hs hc

theorem answers_discard {r : Nat} (hr : s.wrReason off w = some r) (hbusy : r ≠ reasonBusy) :
    Answers c s (fun t => s.discards t dt off w r) := by
  obtain ⟨f, hexec⟩ := exec_regWrite s hc
  refine answers_at hs hexec ?_
  rw [State.wr_fail ((State.wrReason_elapse hs.2.2 dt off w).trans hr), if_neg hbusy]
  exact State.discards_discard hs dt off w r

/-- A write to a busy slow register is discarded as BUSY and, for each of the two, reported in its own way (R400, R551). -/
theorem answers_dropBusy (hr : s.wrReason off w = some reasonBusy) :
    Answers c s (fun t => s.discards t dt off w 4 ∧
      (ksReg off = false → s.rep.first.contains 0x060 = false → s.raises t 0x060) ∧ (ksReg off = true → s.raises t 0x026)) := by
  obtain ⟨f, hexec⟩ := exec_regWrite s hc
  have hwr : (s.elapse dt).wr off w f = (s.elapse dt).dropBusy off w.port := by
    rw [State.wr_fail ((State.wrReason_elapse hs.2.2 dt off w).trans hr), if_pos rfl]
  let v : State := { s.elapse dt with
    regs := { (s.elapse dt).regs with discOff := off, discPort := w.port, discReason := reasonBusy } }
  have hv : s.Tells _ ((s.elapse dt).discard off w.port reasonBusy).rep :=
    ((State.Tells.elapse hs dt).count (b := v) (5184 + 64 * w.port.idx)).raiseFirst 0x05B 0x05B (State.elapse_live s dt) (by simp)
  have hdisc : ∀ {k : Account} {t}, s.Told k t → t = { v with rep := t.rep } → (5184 + 64 * w.port.idx, 1) ∈ k.cts →
      (0x05B, 0x05B) ∈ k.once → s.discards t dt off w 4 := fun told ht hct honce => by
    refine ⟨?_, told.counts _ hct, told.once _ honce⟩
    rw [← State.elapse_regs s dt]
    exact ht
  cases hks : ksReg off
  · have hdrop : (s.elapse dt).dropBusy off w.port = ((s.elapse dt).discard off w.port reasonBusy).raiseOnce 0x060 0x060 := by
      unfold State.dropBusy
      rw [hks]
      rfl
    refine answers_tells (v := v) hs hexec (hwr.trans (hdrop.trans rfl))
      (hv.raiseFirst 0x060 0x060 (State.elapse_live s dt) (by simp)) fun r told => ?_
    exact ⟨hdisc told rfl (by simp) (by simp), fun _ => told.once (0x060, 0x060) (by simp), nofun⟩
  · have hdrop : (s.elapse dt).dropBusy off w.port = (((s.elapse dt).discard off w.port reasonBusy).count 5836).raise 0x026 := by
      unfold State.dropBusy
      rw [hks]
      rfl
    refine answers_tells (v := v) hs hexec (hwr.trans (hdrop.trans rfl))
      ((hv.count 5836).raise 0x026 (State.elapse_live s dt)) fun r told => ?_
    exact ⟨hdisc told rfl (by simp) (by simp), nofun, fun _ => told.raises 0x026 (by simp)⟩

end

/-- Settles O11: the reason is the first of the checks that fails, and the write is discarded with it. -/
theorem discardedRegisterWrites : Obligations.DiscardedRegisterWrites := by
  unfold Obligations.DiscardedRegisterWrites
  intro c s dt off w hs hc
  refine ⟨fun hbe => answers_discard hs hc (State.wrReason_partial hbe) (by decide),
    fun hbe hmap => answers_discard hs hc (State.wrReason_unmapped hbe hmap) (by decide), fun hbe hmap hpp => ?_⟩
  have hreason := State.wrReason_shared (s := s) hbe hmap hpp
  rw [State.ownerStart_steady hs.2.2] at hreason
  refine ⟨fun hload => ?_, fun hload hown => ?_, fun hload hown hfrz => ?_, fun hload hown hfrz hreg hbusy => ?_,
    fun hload hown hfrz hreg hbusy => ?_⟩
  · exact answers_discard hs hc (by rw [hreason, hload]; rfl) (by decide)
  · exact answers_discard hs hc (by rw [hreason, hload, if_pos hown]; rfl) (by decide)
  · exact answers_discard hs hc (by rw [hreason, hload, if_neg (not_not.2 hown), hfrz]; rfl) (by decide)
  · obtain ⟨t, ht, hd, hfield, -⟩ := answers_dropBusy hs hc
      (by rw [hreason, hload, if_neg (not_not.2 hown), hfrz, hreg, hbusy]; rfl)
    refine ⟨t, ht, hd, hfield ?_⟩
    cases hks : ksReg off
    · rfl
    · rw [fieldReg_of_ksReg hks] at hreg
      cases hreg
  · obtain ⟨t, ht, hd, -, hkey⟩ := answers_dropBusy hs hc
      (by rw [hreason, hload, if_neg (not_not.2 hown), hfrz, fieldReg_of_ksReg hreg, hreg, hbusy]; rfl)
    exact ⟨t, ht, hd, hkey hreg⟩

end Sys2Proof.Machine
end

section
/-!
PROOFS. What a register write that passes its checks stores (chapter 12, R380 to R402, R488, R551), the lock bits, the counters'
clears and copies, and DV_CMD.RUN. The rule of a buffered register is cut into its steps (`State.storeFields`), with one law for
each.
-/

namespace Sys2Proof.Machine

/-- A command at a free instant that leaves nothing waiting answers what the state becomes. -/
theorem answers_settles {c : Instr} {s : State} {dt : Nat} {g : State → State} {P : State → Prop} {v : State} (hs : s.ready)
    (hc : exec c s = s.at_ dt g) (hg : g (s.elapse dt) = v) (hv : v.settled) (hP : P v) : Answers c s P := by
  refine answers_at hs hc ?_
  rwa [hg, State.flush_rest hv]

theorem answers_wr_settles {c : Instr} {s : State} {dt off : Nat} {w : Wr} {g : State → State} {P : State → Prop} {v : State}
    (hs : s.ready) (hw : s.passes off w) (hc : exec c s = s.at_ dt (fun u => u.wr off w g)) (hg : g (s.elapse dt) = v)
    (hv : v.settled) (hP : P v) : Answers c s P :=
  answers_settles hs hc ((State.wr_pass ((State.wrReason_elapse hs.2.2 dt off w).trans hw)).trans hg) hv hP

/-! ## Merged words -/

theorem mergeBits_zero (old new : Word) : mergeBits 0 old new = old := by
  show (old &&& ~~~(0#32)) ||| (new &&& 0#32) = old
  rw [BitVec.and_zero, BitVec.or_zero, show ~~~(0#32) = BitVec.allOnes 32 from rfl, BitVec.and_allOnes]

/-- The bits that no lock guards, whether the mask of the guarded bits is cut to the register's fields or not. -/
theorem and_not_and (m g : Word) : m &&& ~~~(g &&& m) = m &&& ~~~g := by
  ext i hi
  simp only [BitVec.getElem_and, BitVec.getElem_not]
  cases m[i] <;> simp

/-! ## Only registers, the bridge and the reports -/

/-- From a to b only registers, the field bridge and the reporting plane change. -/
def State.StoresOnly (a b : State) : Prop := b = { a with regs := b.regs, fa := b.fa, rep := b.rep }

theorem State.StoresOnly.trans {a b c : State} (h : a.StoresOnly b) (g : b.StoresOnly c) : a.StoresOnly c := by
  have hall : ∀ r f p r' f' p', b = { a with regs := r, fa := f, rep := p } → c = { b with regs := r', fa := f', rep := p' } →
      c = { a with regs := c.regs, fa := c.fa, rep := c.rep } := by
    rintro _ _ _ _ _ _ rfl rfl
    rfl
  exact hall _ _ _ _ _ _ h g

/-! ## The steps of a store -/

/-- Fields that a set lock guards are not written (R398). -/
def State.storeGuarded (u : State) (off : Nat) (p : Port) (g : Word) : State := if g ≠ 0 then u.lockedWrite off p else u

/-- Fields of type RW go to the shadow (R388). -/
def State.storeShadow (u : State) (off : Nat) (m v : Word) : State := if m ≠ 0 then u.setShadow off m v else u

/-- A write to the field die is posted (R400). -/
def State.storePosted (u : State) (off : Nat) (m v : Word) : State :=
  if fieldReg off && decide (m ≠ 0) then u.post off v else u

/-- Fields of type RWI are written at once (R380). -/
def State.storeAtOnce (u : State) (off : Nat) (m v : Word) : State :=
  if m ≠ 0 then u.setRwi off (mergeBits m (u.rwi off) v) else u

/-- A register of type WM is written under the mask in its upper half. -/
def State.storeMasked (u : State) (off : Nat) (wm v : Word) : State :=
  if wm ≠ 0 then u.setRwi off (mergeBits (BitVec.ofNat 32 (fieldOf v 16 16)) (u.rwi off) (v &&& 0xFFFF)) else u

/-- A write to a register of the map, under its fields' types. -/
def State.storeFields (u : State) (off : Nat) (w : Wr) (d : RegDef) : State :=
  let rw := d.maskOf (fun t => decide (t = .rw))
  let g := u.guardMask off &&& rw
  ((((u.storeGuarded off w.port g).storeShadow off (rw &&& ~~~g) w.data).storePosted off (rw &&& ~~~g) w.data).storeAtOnce off
    (d.maskOf (fun t => decide (t = .rwi))) w.data).storeMasked off (d.maskOf (fun t => decide (t = .wm))) w.data

section
variable (u : State) (off : Nat) (p : Port) (m v : Word)

theorem State.storeGuarded_spec :
    u.StoresOnly (u.storeGuarded off p m) ∧ (u.storeGuarded off p m).fa = u.fa ∧
    (u.storeGuarded off p m).regs.shadow = u.regs.shadow ∧ (u.storeGuarded off p m).regs.live = u.regs.live ∧
    (u.storeGuarded off p m).regs.rwi = u.regs.rwi ∧ (u.storeGuarded off p m).regs.dirty = u.regs.dirty ∧
    (m ≠ 0 → (u.storeGuarded off p m).regs.discReason = 3 ∧ (u.storeGuarded off p m).regs.discOff = off) := by
  unfold State.storeGuarded
  split
  case isTrue hm =>
    unfold State.lockedWrite
    simp only
    split <;> exact ⟨rfl, rfl, rfl, rfl, rfl, rfl, fun _ => ⟨rfl, rfl⟩⟩
  case isFalse hm => exact ⟨rfl, rfl, rfl, rfl, rfl, rfl, fun h => absurd h hm⟩

theorem State.storeShadow_spec :
    u.StoresOnly (u.storeShadow off m v) ∧ (u.storeShadow off m v).rep = u.rep ∧ (u.storeShadow off m v).fa = u.fa ∧
    (u.storeShadow off m v).regs = { u.regs with
      shadow := (u.storeShadow off m v).regs.shadow, dirty := (u.storeShadow off m v).regs.dirty } ∧
    (∀ o, o ≠ off → (u.storeShadow off m v).shadow o = u.shadow o) ∧
    (u.storeShadow off m v).shadow off = mergeBits m (u.shadow off) v ∧
    ∀ g, groupOf off = some g →
      (u.storeShadow off m v).regs.dirty = if m = 0 then u.regs.dirty else u.regs.dirty ||| BitVec.ofNat 32 (2 ^ g) := by
  unfold State.storeShadow
  split
  case isTrue hm =>
    refine ⟨rfl, rfl, rfl, rfl, fun o ho => Tbl.lookD_put_ne _ _ _ _ ho, Tbl.lookD_put_self _ _ _ _, fun g hg => ?_⟩
    simp only [State.setShadow, hg]
  case isFalse hm =>
    rw [not_not.1 hm, mergeBits_zero]
    exact ⟨rfl, rfl, rfl, rfl, fun _ _ => rfl, rfl, fun _ _ => rfl⟩

theorem State.storePosted_spec :
    u.StoresOnly (u.storePosted off m v) ∧ (u.storePosted off m v).rep = u.rep ∧ (u.storePosted off m v).regs = u.regs ∧
    (fieldReg off = true ∧ m ≠ 0 →
      (u.storePosted off m v).fa.posted = some { seq := u.fa.seq + 1, off := off, data := v } ∧
      (u.storePosted off m v).fa.seq = u.fa.seq + 1) ∧
    (¬(fieldReg off = true ∧ m ≠ 0) → (u.storePosted off m v).fa = u.fa) := by
  have hcond : (fieldReg off && decide (m ≠ 0)) = true ↔ fieldReg off = true ∧ m ≠ 0 := by
    rw [Bool.and_eq_true, decide_eq_true_eq]
  unfold State.storePosted
  split
  case isTrue h =>
    refine ⟨?_, u.sendOver_rep _, u.sendOver_regs _, fun _ => ⟨rfl, rfl⟩, fun hn => absurd (hcond.1 h) hn⟩
    unfold State.post
    rw [State.sendOver_eq]
    rfl
  case isFalse h => exact ⟨rfl, rfl, rfl, fun hy => absurd (hcond.2 hy) h, fun _ => rfl⟩

/-- A register written at once changes alone. -/
theorem State.setRwi_spec (x : Word) :
    u.StoresOnly (u.setRwi off x) ∧ (∀ o, o ≠ off → (u.setRwi off x).rwi o = u.rwi o) ∧ (u.setRwi off x).rwi off = x :=
  ⟨rfl, fun _ ho => Tbl.lookD_put_ne _ _ _ _ ho, Tbl.lookD_put_self _ _ _ _⟩

theorem State.storeAtOnce_spec :
    u.StoresOnly (u.storeAtOnce off m v) ∧ (u.storeAtOnce off m v).rep = u.rep ∧ (u.storeAtOnce off m v).fa = u.fa ∧
    (u.storeAtOnce off m v).regs = { u.regs with rwi := (u.storeAtOnce off m v).regs.rwi } ∧
    (∀ o, o ≠ off → (u.storeAtOnce off m v).rwi o = u.rwi o) ∧
    (u.storeAtOnce off m v).rwi off = mergeBits m (u.rwi off) v := by
  unfold State.storeAtOnce
  split
  case isTrue =>
    obtain ⟨honly, hne, hself⟩ := u.setRwi_spec off (mergeBits m (u.rwi off) v)
    exact ⟨honly, rfl, rfl, rfl, hne, hself⟩
  case isFalse hm =>
    rw [not_not.1 hm, mergeBits_zero]
    exact ⟨rfl, rfl, rfl, rfl, fun _ _ => rfl, rfl⟩

theorem State.storeMasked_spec :
    u.StoresOnly (u.storeMasked off m v) ∧ (u.storeMasked off m v).rep = u.rep ∧ (u.storeMasked off m v).fa = u.fa ∧
    (u.storeMasked off m v).regs = { u.regs with rwi := (u.storeMasked off m v).regs.rwi } ∧
    (∀ o, o ≠ off → (u.storeMasked off m v).rwi o = u.rwi o) ∧ (m = 0 → (u.storeMasked off m v).rwi off = u.rwi off) := by
  unfold State.storeMasked
  split
  case isTrue hm =>
    obtain ⟨honly, hne, -⟩ := u.setRwi_spec off (mergeBits (BitVec.ofNat 32 (fieldOf v 16 16)) (u.rwi off) (v &&& 0xFFFF))
    exact ⟨honly, rfl, rfl, rfl, hne, fun h => absurd h hm⟩
  case isFalse => exact ⟨rfl, rfl, rfl, rfl, fun _ _ => rfl, fun _ => rfl⟩

end

/-- What a store leaves: the steps put together. -/
theorem State.storeFields_spec (u : State) (off : Nat) (w : Wr) (d : RegDef) :
    let rw := d.maskOf (fun t => decide (t = .rw))
    let free := rw &&& ~~~(u.guardMask off)
    let im := d.maskOf (fun t => decide (t = .rwi))
    let t := u.storeFields off w d
    u.StoresOnly t ∧ t.rep = (u.storeGuarded off w.port (u.guardMask off &&& rw)).rep ∧
    t.regs.live = u.regs.live ∧ (∀ o, o ≠ off → t.shadow o = u.shadow o ∧ t.rwi o = u.rwi o) ∧
    t.shadow off = mergeBits free (u.shadow off) w.data ∧
    (∀ g, groupOf off = some g → t.regs.dirty = if free = 0 then u.regs.dirty else u.regs.dirty ||| BitVec.ofNat 32 (2 ^ g)) ∧
    (d.maskOf (fun t => decide (t = .wm)) = 0 → t.rwi off = mergeBits im (u.rwi off) w.data) ∧
    (fieldReg off = true ∧ free ≠ 0 →
      t.fa.posted = some { seq := u.fa.seq + 1, off := off, data := w.data } ∧ t.fa.seq = u.fa.seq + 1) ∧
    (¬(fieldReg off = true ∧ free ≠ 0) → t.fa = u.fa) ∧
    (u.guardMask off &&& rw ≠ 0 → t.regs.discReason = 3 ∧ t.regs.discOff = off) := by
  intro rw free im t
  let g := u.guardMask off &&& rw
  have hfree : rw &&& ~~~g = free := and_not_and _ _
  let u1 := u.storeGuarded off w.port g
  let u2 := u1.storeShadow off free w.data
  let u3 := u2.storePosted off free w.data
  let u4 := u3.storeAtOnce off im w.data
  have ht : t = u4.storeMasked off (d.maskOf (fun t => decide (t = .wm))) w.data := by
    show u.storeFields off w d = _
    unfold State.storeFields
    simp only
    rw [show rw &&& ~~~g = free from hfree]
  obtain ⟨ho1, hfa1, hsh1, hlive1, hrwi1, hdirty1, hdisc1⟩ := u.storeGuarded_spec off w.port g
  obtain ⟨ho2, hrep2, hfa2, hregs2, hne2, hself2, hdirty2⟩ := u1.storeShadow_spec off free w.data
  obtain ⟨ho3, hrep3, hregs3, hpost3, hnone3⟩ := u2.storePosted_spec off free w.data
  obtain ⟨ho4, hrep4, hfa4, hregs4, hne4, hself4⟩ := u3.storeAtOnce_spec off im w.data
  obtain ⟨ho5, hrep5, hfa5, hregs5, hne5, hself5⟩ := u4.storeMasked_spec off (d.maskOf (fun t => decide (t = .wm))) w.data
  have hregs : t.regs = { u2.regs with rwi := t.regs.rwi } := by
    rw [ht, hregs5, hregs4, hregs3]
  have hshadow : t.regs.shadow = u2.regs.shadow := by rw [hregs]
  have hrwi2 : ∀ o, u2.rwi o = u.rwi o := fun o => by
    show Tbl.lookD u2.regs.rwi o (resetAt o) = _
    rw [hregs2]
    exact congrArg (fun x => Tbl.lookD x o (resetAt o)) hrwi1
  have hrwi3 : ∀ o, u3.rwi o = u.rwi o := fun o => by
    rw [← hrwi2]
    exact congrArg (fun x : RegSt => Tbl.lookD x.rwi o (resetAt o)) hregs3
  have hshadow1 : ∀ o, u1.shadow o = u.shadow o := fun o => congrArg (fun x => Tbl.lookD x o (resetAt o)) hsh1
  have hshadowT : ∀ o, t.shadow o = u2.shadow o := fun o => congrArg (fun x => Tbl.lookD x o (resetAt o)) hshadow
  have hfa : t.fa = u3.fa := by rw [ht, hfa5, hfa4]
  refine ⟨?_, ?_, ?_, fun o ho => ⟨?_, ?_⟩, ?_, fun x hx => ?_, fun hwm => ?_, fun h => ?_, fun h => ?_, fun h => ?_⟩
  · rw [ht]
    exact (((ho1.trans ho2).trans ho3).trans ho4).trans ho5
  · rw [ht, hrep5, hrep4, hrep3, hrep2]
  · rw [hregs]
    exact (congrArg RegSt.live hregs2).trans hlive1
  · rw [hshadowT, hne2 o ho, hshadow1]
  · rw [ht, hne5 o ho, hne4 o ho, hrwi3]
  · rw [hshadowT, hself2, hshadow1]
  · rw [hregs]
    exact (hdirty2 x hx).trans (by rw [hdirty1])
  · rw [ht, hself5 hwm, hself4, hrwi3]
  · rw [hfa]
    obtain ⟨hp, hq⟩ := hpost3 h
    rw [hp, hq, hfa2, hfa1]
    exact ⟨rfl, rfl⟩
  · rw [hfa, hnone3 h, hfa2, hfa1]
  · rw [hregs]
    exact ⟨(congrArg RegSt.discReason hregs2).trans (hdisc1 h).1, (congrArg RegSt.discOff hregs2).trans (hdisc1 h).2⟩

/-! ## The branches of a store -/

section
variable {u : State} {off : Nat} {w : Wr}

theorem msixOff_false (hpp : ¬(0x2000 ≤ off ∧ off < 0x3000)) : msixOff off = false := by
  simp only [msixOff, Bool.or_eq_false_iff, decide_eq_false_iff_not]
  omega

/-- A table register while a table command runs (R124). -/
theorem State.regStore_busy (hpp : ¬(0x2000 ≤ off ∧ off < 0x3000)) (htbl : tblReg off = true) (hcmd : u.cr.cmd.isSome = true) :
    u.regStore off w = u.discard off w.port reasonBusy := by
  unfold State.regStore
  rw [if_neg (by rw [msixOff_false hpp]; decide), if_neg hpp, if_pos (by rw [htbl, hcmd]; rfl)]

/-- The registers of the relay window are three. -/
theorem window_offsets {x : RegDef × List Nat} (hw : 0xB8014 ≤ off ∧ off < 0xB8020) (hat : regAt off = some x) :
    off = 0xB8014 ∨ off = 0xB8018 ∨ off = 0xB801C := by
  obtain ⟨hlo, hhi⟩ := hw
  have hnone : ∀ k, k < 12 → k ≠ 0 → k ≠ 4 → k ≠ 8 → regAt (0xB8014 + k) = none := by decide +kernel
  by_contra hne
  have h := hnone (off - 0xB8014) (by omega) (by omega) (by omega) (by omega)
  rw [show 0xB8014 + (off - 0xB8014) = off by omega, hat] at h
  cases h

/-- A register of the relay window holds a word of the shadow of the entry that the index names (R488). -/
theorem State.regStore_window {d : RegDef} {ix : List Nat} (hw : 0xB8014 ≤ off ∧ off < 0xB8020) (hat : regAt off = some (d, ix)) :
    u.regStore off w =
      { u with
        cs := { u.cs with
          rlyShadow := Tbl.put u.cs.rlyShadow (fieldOf (u.rwi 0xB8010) 0 12) relayReset
            ((Tbl.lookD u.cs.rlyShadow (fieldOf (u.rwi 0xB8010) 0 12) relayReset).set ((off - 0xB8014) / 4)
              (mergeBits (d.maskOf (fun t => decide (t = .rw)))
                ((Tbl.lookD u.cs.rlyShadow (fieldOf (u.rwi 0xB8010) 0 12) relayReset).getD ((off - 0xB8014) / 4) 0) w.data)) }
        regs := { u.regs with dirty := u.regs.dirty ||| BitVec.ofNat 32 (2 ^ 26) } } := by
  have hpp : ¬(0x2000 ≤ off ∧ off < 0x3000) := by omega
  have htbl : tblReg off = false := by simp only [tblReg, decide_eq_false_iff_not]; omega
  unfold State.regStore
  rw [if_neg (by rw [msixOff_false hpp]; decide), if_neg hpp, if_neg (by rw [htbl, Bool.false_and]; decide), if_pos (window_offsets hw hat), hat]
  rfl

/-- The plain registers: what is neither the port's own, nor a table register at work, nor in the relay window. -/
theorem State.regStore_plain {d : RegDef} {ix : List Nat} (hpp : ¬(0x2000 ≤ off ∧ off < 0x3000))
    (hw : ¬(0xB8014 ≤ off ∧ off < 0xB8020)) (htbl : tblReg off = false ∨ u.cr.cmd = none) (hat : regAt off = some (d, ix)) :
    u.regStore off w = if ksReg off then { u with ks := { u.ks with posted := some (off, w.data) } } else u.storeFields off w d := by
  have hcmd : (tblReg off && u.cr.cmd.isSome) = false := by
    rcases htbl with h | h <;> rw [h]
    · rfl
    · exact Bool.and_false _
  unfold State.regStore
  rw [if_neg (by rw [msixOff_false hpp]; decide), if_neg hpp, if_neg (by rw [hcmd]; decide), if_neg (by omega), hat]
  rfl

end

/-! ## REGISTER_WRITE -/

theorem State.Tells.discard {s b : State} {k : Account} (h : s.Tells k b.rep) (off : Nat) (p : Port) (r : Nat) :
    s.Tells { k with cts := (5184 + 64 * p.idx, 1) :: k.cts, tags := 0x05B :: k.tags } (b.discard off p r).rep :=
  (State.Tells.count (b := { b with regs := { b.regs with discOff := off, discPort := p, discReason := r } }) h _).raiseOnce _ _

/-- A write that a lock shuts out is counted as a discarded one. -/
theorem State.Tells.storeGuarded {s b : State} (h : s.Tells {} b.rep) (off : Nat) (p : Port) (g : Word) :
    ∃ k, s.Tells k (b.storeGuarded off p g).rep ∧ (g ≠ 0 → (5184 + 64 * p.idx, 1) ∈ k.cts) := by
  unfold State.storeGuarded
  split
  case isTrue =>
    unfold State.lockedWrite
    simp only
    split
    · exact ⟨_, (h.discard off p reasonLocked).count _, fun _ => by simp⟩
    · exact ⟨_, h.discard off p reasonLocked, fun _ => by simp⟩
  case isFalse hg => exact ⟨_, h, fun hy => absurd hy hg⟩

theorem State.elapse_guardMask (s : State) (dt off : Nat) : (s.elapse dt).guardMask off = s.guardMask off := by
  unfold State.guardMask State.lock
  rw [State.elapse_locks]

theorem State.elapse_shadow (s : State) (dt off : Nat) : (s.elapse dt).shadow off = s.shadow off := by
  unfold State.shadow
  rw [State.elapse_regs]

section
variable {s : State} {dt off : Nat} {w : Wr} {d : RegDef} {ix : List Nat} (hs : s.ready) (hw : s.passes off w)
include hs hw

theorem answers_registerWrite_busy (hpp : ¬(0x2000 ≤ off ∧ off < 0x3000)) (htbl : tblReg off = true)
    (hcmd : s.cr.cmd.isSome = true) : Answers (.registerWrite dt off w) s (fun t => s.discards t dt off w 4) := by
  refine answers_wr hs hw (show execRegisterWrite dt off w s = _ from rfl) ?_
  rw [State.regStore_busy hpp htbl (by rwa [State.elapse_cr])]
  exact State.discards_discard hs dt off w 4

theorem answers_registerWrite_key (hat : regAt off = some (d, ix)) (hks : ksReg off = true) :
    Answers (.registerWrite dt off w) s (fun t => t = { s.elapse dt with ks := { s.ks with posted := some (off, w.data) } }) := by
  have hoff : 0x100000 ≤ off ∧ off < 0x110000 := by simpa [ksReg] using hks
  have htbl : tblReg off = false := by simp only [tblReg, decide_eq_false_iff_not]; omega
  refine answers_wr_becomes hs hw (show execRegisterWrite dt off w s = _ from rfl)
    ((State.regStore_plain (by omega) (by omega) (.inl htbl) hat).trans (if_pos hks)) rfl ?_
  rw [State.elapse_ks]

theorem answers_registerWrite_window (hat : regAt off = some (d, ix)) (hwin : 0xB8014 ≤ off ∧ off < 0xB8020) :
    let i := fieldOf (s.rwi 0xB8010) 0 12
    let k := (off - 0xB8014) / 4
    let old := Tbl.lookD s.cs.rlyShadow i relayReset
    Answers (.registerWrite dt off w) s (fun t =>
      t = { s.elapse dt with
            cs := { s.cs with rlyShadow := t.cs.rlyShadow }
            regs := { s.regs with dirty := s.regs.dirty ||| BitVec.ofNat 32 (2 ^ 26) } } ∧
      Tbl.lookD t.cs.rlyShadow i relayReset =
        old.set k (mergeBits (d.maskOf (fun t => decide (t = .rw))) (old.getD k 0) w.data) ∧
      ∀ j, j ≠ i → Tbl.lookD t.cs.rlyShadow j relayReset = Tbl.lookD s.cs.rlyShadow j relayReset) := by
  intro i k old
  refine answers_wr_becomes hs hw (show execRegisterWrite dt off w s = _ from rfl) (State.regStore_window hwin hat) rfl ?_
  rw [State.elapse_cs, State.elapse_regs, State.elapse_rwi]
  exact ⟨rfl, Tbl.lookD_put_self _ _ _ _, fun j hj => Tbl.lookD_put_ne _ _ _ _ hj⟩

theorem answers_registerWrite_fields (hat : regAt off = some (d, ix)) (hpp : ¬(0x2000 ≤ off ∧ off < 0x3000))
    (hks : ksReg off = false) (hwin : ¬(0xB8014 ≤ off ∧ off < 0xB8020)) (htbl : tblReg off = false ∨ s.cr.cmd = none) :
    let rw := d.maskOf (fun t => decide (t = .rw))
    let free := rw &&& ~~~(s.guardMask off)
    let im := d.maskOf (fun t => decide (t = .rwi))
    Answers (.registerWrite dt off w) s (fun t =>
      t = { s.elapse dt with regs := t.regs, fa := t.fa, rep := t.rep } ∧
      t.regs.live = s.regs.live ∧ (∀ o, o ≠ off → t.shadow o = s.shadow o ∧ t.rwi o = s.rwi o) ∧
      t.shadow off = mergeBits free (s.shadow off) w.data ∧
      (∀ g, groupOf off = some g → t.regs.dirty = if free = 0 then s.regs.dirty else s.regs.dirty ||| BitVec.ofNat 32 (2 ^ g)) ∧
      (d.maskOf (fun t => decide (t = .wm)) = 0 → t.rwi off = mergeBits im (s.rwi off) w.data) ∧
      (fieldReg off = true ∧ free ≠ 0 →
        t.fa.posted = some { seq := s.fa.seq + 1, off := off, data := w.data } ∧ t.fa.seq = s.fa.seq + 1) ∧
      (¬(fieldReg off = true ∧ free ≠ 0) → t.fa = s.fa) ∧
      (s.guardMask off &&& rw ≠ 0 → t.regs.discReason = 3 ∧ t.regs.discOff = off ∧ s.counts t (5184 + 64 * w.port.idx) 1)) := by
  intro rw free im
  have hstore : (s.elapse dt).regStore off w = (s.elapse dt).storeFields off w d :=
    (State.regStore_plain hpp hwin (by rwa [State.elapse_cr]) hat).trans (if_neg (by rw [hks]; decide))
  have hspec := (s.elapse dt).storeFields_spec off w d
  simp only [State.elapse_guardMask, State.elapse_shadow, State.elapse_rwi, State.elapse_regs, State.elapse_fa] at hspec
  obtain ⟨honly, hrep, hlive, hother, hshadow, hdirty, hrwi, hpost, hnone, hdisc⟩ := hspec
  obtain ⟨k, htells, hct⟩ := (State.Tells.elapse hs dt).storeGuarded off w.port (s.guardMask off &&& rw)
  obtain ⟨b, hb⟩ : ∃ b, (s.elapse dt).regStore off w = b := ⟨_, rfl⟩
  rw [← hrep] at htells
  rw [← hstore, hb] at htells honly hlive hother hshadow hdirty hrwi hpost hnone hdisc
  refine answers_wr_tells (v := b) hs hw (show execRegisterWrite dt off w s = _ from rfl) hb htells fun r told => ?_
  refine ⟨?_, hlive, hother, hshadow, hdirty, hrwi, hpost, hnone, fun h => ⟨(hdisc h).1, (hdisc h).2, told.counts _ (hct h)⟩⟩
  rw [show b = _ from honly]

end

/-- Settles O12: each clause is one branch of the store, the last one the fields of a plain register (`State.storeFields`). -/
theorem registerWritesGoToTheShadow : Obligations.RegisterWritesGoToTheShadow := by
  unfold Obligations.RegisterWritesGoToTheShadow
  intro s dt off w d ix hs hw hat hpp
  exact ⟨answers_registerWrite_busy hs hw hpp, answers_registerWrite_key hs hw hat, answers_registerWrite_window hs hw hat,
    answers_registerWrite_fields hs hw hat hpp⟩

end Sys2Proof.Machine
end

section
/-!
PROOFS. The lock bits (chapter 12, R398, R399), the counters' clears and copies (R413, R414), the acknowledgement of a posted write
(R402), and DV_CMD.RUN (R578).
-/

namespace Sys2Proof.Machine

/-! ## Locks -/

theorem mergeBits_and (m g x y : Word) (h : x &&& g = y &&& g) : mergeBits m x y &&& g = y &&& g := by
  unfold mergeBits
  ext i hi
  have hbit := congrArg (fun v : Word => v[i]) h
  simp only [BitVec.getElem_and, BitVec.getElem_or, BitVec.getElem_not] at hbit ⊢
  cases hm : m[i] <;> simp [hbit]

theorem mergeBits_and_self (m x y : Word) : mergeBits m x y &&& m = y &&& m := by
  unfold mergeBits
  ext i hi
  simp only [BitVec.getElem_and, BitVec.getElem_or, BitVec.getElem_not]
  cases hm : m[i] <;> simp

/-- The masked bits of a register hold their live value in the shadow. -/
def RegSt.restored (r : RegSt) (g : Nat × Word) : Prop :=
  Tbl.lookD r.shadow g.1 (resetAt g.1) &&& g.2 = Tbl.lookD r.live g.1 (resetAt g.1) &&& g.2

theorem RegSt.restored_restoreShadow (r : RegSt) (g : Nat × Word) : (r.restoreShadow g.1 g.2).restored g := by
  unfold RegSt.restored RegSt.restoreShadow
  simp only [Tbl.lookD_put_self]
  exact mergeBits_and_self _ _ _

/-- What holds its live value keeps it while other fields are restored. -/
theorem RegSt.restored.restoreShadow {r : RegSt} {g : Nat × Word} (h : r.restored g) (off : Nat) (m : Word) :
    (r.restoreShadow off m).restored g := by
  unfold RegSt.restored RegSt.restoreShadow
  simp only
  by_cases ho : g.1 = off
  · subst ho
    rw [Tbl.lookD_put_self]
    exact mergeBits_and _ _ _ _ h
  · rw [Tbl.lookD_put_ne _ _ _ _ ho]
    exact h

/-- The fields of a list are restored one by one. -/
def RegSt.restoreAll (r : RegSt) (gs : List (Nat × Word)) : RegSt := gs.foldl (fun r g => r.restoreShadow g.1 g.2) r

theorem RegSt.restoreAll_keeps {g : Nat × Word} (gs : List (Nat × Word)) :
    ∀ {r : RegSt}, r.restored g → (r.restoreAll gs).restored g := by
  induction gs with
  | nil => exact fun h => h
  | cons x gs ih => exact fun h => ih (h.restoreShadow x.1 x.2)

theorem RegSt.restoreAll_spec (r : RegSt) (gs : List (Nat × Word)) :
    r.restoreAll gs = { r with shadow := (r.restoreAll gs).shadow, fieldShadow := (r.restoreAll gs).fieldShadow } ∧
    ∀ g ∈ gs, (r.restoreAll gs).restored g := by
  induction gs generalizing r with
  | nil => exact ⟨rfl, fun g hg => nomatch hg⟩
  | cons x gs ih =>
    obtain ⟨hrest, hmem⟩ := ih (r.restoreShadow x.1 x.2)
    refine ⟨hrest, fun g hg => ?_⟩
    rcases List.mem_cons.1 hg with rfl | hg
    · exact RegSt.restoreAll_keeps gs (r.restored_restoreShadow g)
    · exact hmem g hg

theorem RegSt.restoreAll_live (r : RegSt) (gs : List (Nat × Word)) : (r.restoreAll gs).live = r.live :=
  (congrArg RegSt.live (r.restoreAll_spec gs).1).trans rfl
theorem RegSt.restoreAll_dirty (r : RegSt) (gs : List (Nat × Word)) : (r.restoreAll gs).dirty = r.dirty :=
  (congrArg RegSt.dirty (r.restoreAll_spec gs).1).trans rfl

/-- The bits of a word that a lock register does not hold yet. -/
def State.freshLocks (s : State) (off : Nat) (bits : Word) : Word := bits &&& ~~~(s.lock off)

/-- The fields that newly set lock bits guard. -/
def lockedFields (off : Nat) (fresh : Word) : List (Nat × Word) :=
  (List.range 32).flatMap (fun i => if bitOf fresh i then lockGuards off i else [])

/-- Lock bits set, before they are reported. -/
def State.lockBits (s : State) (off : Nat) (bits : Word) : State :=
  { s with
    locks := Tbl.put s.locks off 0 (s.lock off ||| bits), regs := s.regs.restoreAll (lockedFields off (s.freshLocks off bits)) }

theorem State.setLock_eq (s : State) (off : Nat) (bits : Word) :
    s.setLock off bits =
      if s.freshLocks off bits = 0 then s.lockBits off bits else ((s.lockBits off bits).raise 0x05F).coverChange := rfl

theorem State.coverChange_eq (s : State) :
    s.coverChange =
      { s with
        regs := { s.regs with passValid := false, graceOn := true, graceLeft := s.fld 0x1020 4 4 }, rep := s.coverChange.rep } := by
  unfold State.coverChange
  simp only
  split <;> rfl

theorem State.Tells.coverChange {s b : State} {k : Account} (h : s.Tells k b.rep) : s.Tells k b.coverChange.rep := by
  unfold State.coverChange
  simp only
  split
  · let v : State := { b with regs := { b.regs with passValid := false, graceOn := true, graceLeft := b.fld 0x1020 4 4 } }
    exact h.fires (v.count_grows 5729) (v.count_same 5729) (Rep.fires_count _ _ _ _)
  · exact h

/-- What locks leave: their registers restored, the locks set, and what the pass over the covered image keeps. -/
theorem State.setLock_spec (s : State) (off : Nat) (bits : Word) :
    s.setLock off bits = { s with regs := (s.setLock off bits).regs, locks := (s.lockBits off bits).locks, rep := (s.setLock off bits).rep } ∧
    (s.setLock off bits).regs.live = s.regs.live ∧ (s.setLock off bits).regs.dirty = s.regs.dirty ∧
    (s.setLock off bits).regs.shadow = (s.lockBits off bits).regs.shadow := by
  have hlive : (s.lockBits off bits).regs.live = s.regs.live := RegSt.restoreAll_live _ _
  have hdirty : (s.lockBits off bits).regs.dirty = s.regs.dirty := RegSt.restoreAll_dirty _ _
  rw [State.setLock_eq]
  split
  · exact ⟨rfl, hlive, hdirty, rfl⟩
  · rw [State.coverChange_eq]
    exact ⟨rfl, hlive, hdirty, rfl⟩

theorem State.Tells.setLock {s b : State} (h : s.Tells {} b.rep) (hlive : b.regs.live = s.regs.live) (off : Nat) (bits : Word) :
    ∃ k, s.Tells k (b.setLock off bits).rep ∧ (b.freshLocks off bits ≠ 0 → 0x05F ∈ k.srcs) := by
  rw [State.setLock_eq]
  split
  case isTrue hz => exact ⟨_, h, fun hne => absurd hz hne⟩
  case isFalse =>
    have hl : (b.lockBits off bits).regs.live = s.regs.live :=
      (RegSt.restoreAll_live _ _).trans hlive
    exact ⟨_, (State.Tells.raise (b := b.lockBits off bits) h 0x05F hl).coverChange, fun _ => by simp⟩

/-- A bit of a lock written 1 and not set before is fresh. -/
theorem State.freshLocks_bit {s : State} {off b : Nat} {data : Word} (hb : b < 2) (hw : bitOf data b = true)
    (hl : bitOf (s.lock off) b = false) : bitOf (s.freshLocks off (data &&& 3)) b = true := by
  unfold bitOf at *
  unfold State.freshLocks
  have h3 : (3 : Word).getLsbD b = true := by
    have : b = 0 ∨ b = 1 := by omega
    rcases this with rfl | rfl <;> decide
  have hb32 : b < 32 := by omega
  simp only [BitVec.getLsbD_and, BitVec.getLsbD_not, hw, hl, h3, hb32]
  rfl

theorem answers_setLock {c : Instr} {s : State} {dt off : Nat} {w : Wr} (hs : s.ready) (hw : s.passes off w)
    (hc : exec c s = s.at_ dt (fun u => u.wr off w (fun u => u.setLock off (w.data &&& 3)))) :
    Answers c s (fun t =>
      t = { s.elapse dt with regs := t.regs, locks := t.locks, rep := t.rep } ∧
      t.lock off = s.lock off ||| (w.data &&& 3) ∧ (∀ o, o ≠ off → t.lock o = s.lock o) ∧
      t.regs.live = s.regs.live ∧ t.regs.dirty = s.regs.dirty ∧
      (∀ b g, b < 2 → bitOf w.data b = true → bitOf (s.lock off) b = false → g ∈ lockGuards off b →
        t.shadow g.1 &&& g.2 = s.live g.1 &&& g.2) ∧
      (∀ b, b < 2 → bitOf w.data b = true → bitOf (s.lock off) b = false → s.raises t 0x05F)) := by
  obtain ⟨hspec, hlive, hdirty, hshadow⟩ := (s.elapse dt).setLock_spec off (w.data &&& 3)
  obtain ⟨k, htells, hsrc⟩ := (State.Tells.elapse hs dt).setLock (congrArg RegSt.live (s.elapse_regs dt)) off (w.data &&& 3)
  have hfields := ((s.elapse dt).regs.restoreAll_spec (lockedFields off ((s.elapse dt).freshLocks off (w.data &&& 3)))).2
  have hlock : ∀ o, (s.elapse dt).lock o = s.lock o := fun o => by unfold State.lock; rw [State.elapse_locks]
  have hfresh : ∀ b, b < 2 → bitOf w.data b = true → bitOf (s.lock off) b = false →
      bitOf ((s.elapse dt).freshLocks off (w.data &&& 3)) b = true := fun b hb hd hl =>
    State.freshLocks_bit hb hd (by rw [hlock]; exact hl)
  obtain ⟨b, hb⟩ : ∃ b, (s.elapse dt).setLock off (w.data &&& 3) = b := ⟨_, rfl⟩
  rw [hb] at hspec hlive hdirty hshadow htells
  refine answers_wr_tells (v := b) hs hw hc hb htells fun r told => ?_
  have hlocks : b.locks = Tbl.put (s.elapse dt).locks off 0 ((s.elapse dt).lock off ||| (w.data &&& 3)) :=
    (congrArg State.locks hspec).trans rfl
  have hold : (s.elapse dt).regs = s.regs := s.elapse_regs dt
  refine ⟨by rw [show b = _ from hspec], ?_, fun o ho => ?_, hlive.trans (congrArg RegSt.live hold),
    hdirty.trans (congrArg RegSt.dirty hold), fun n g hn hd hl hg => ?_, fun n hn hd hl => told.raises 0x05F (hsrc ?_)⟩
  · show Tbl.lookD b.locks off 0 = _
    rw [hlocks, Tbl.lookD_put_self, hlock]
  · show Tbl.lookD b.locks o 0 = _
    rw [hlocks, Tbl.lookD_put_ne _ _ _ _ ho]
    exact hlock o
  · have hmem : g ∈ lockedFields off ((s.elapse dt).freshLocks off (w.data &&& 3)) := by
      refine List.mem_flatMap.2 ⟨n, List.mem_range.2 (by omega), ?_⟩
      rw [hfresh n hn hd hl]
      exact hg
    have hres := hfields g hmem
    unfold RegSt.restored at hres
    rw [RegSt.restoreAll_live] at hres
    show Tbl.lookD b.regs.shadow g.1 (resetAt g.1) &&& g.2 = _
    rw [hshadow]
    exact hres.trans (by rw [hold]; rfl)
  · intro hz
    have := hfresh n hn hd hl
    rw [hz] at this
    simp [bitOf] at this

/-- Settles O16: both lock registers are one command (`State.setLock`). -/
theorem locksAreSet : Obligations.LocksAreSet := by
  unfold Obligations.LocksAreSet
  intro s dt w hs c off hc hw
  rcases hc with ⟨rfl, rfl⟩ | ⟨rfl, rfl⟩
  · exact answers_setLock hs hw rfl
  · exact answers_setLock hs hw rfl

/-! ## Counters -/

theorem Tbl.look_filter {α : Type} (f : Nat → Bool) (t : Tbl α) (k : Nat) :
    Tbl.look (t.filter (fun e => f e.1)) k = if f k then Tbl.look t k else none := by
  induction t with
  | nil => simp [Tbl.look]
  | cons e t ih =>
    obtain ⟨j, v⟩ := e
    by_cases hk : k = j
    · subst hk
      by_cases hj : f k = true <;> simp [Tbl.look, hj, ih]
    · by_cases hj : f j = true <;> simp [Tbl.look, hj, hk, ih]

theorem Tbl.look_map {α β : Type} (f : α → β) (t : Tbl α) (k : Nat) :
    Tbl.look (t.map (fun e => (e.1, f e.2))) k = (Tbl.look t k).map f := by
  induction t with
  | nil => rfl
  | cons e t ih =>
    obtain ⟨j, v⟩ := e
    by_cases hk : k = j
    · simp [Tbl.look, hk]
    · simp only [List.map_cons, Tbl.look, if_neg hk, ih]

/-- A cleared bank counts 0, every other bank what it did (R413). -/
theorem State.clearBank_counter (s : State) (b c : Nat) :
    (s.clearBank b).rep.counter c = if c / 64 = b then 0 else s.rep.counter c := by
  show ((Tbl.look (s.rep.ct.filter (fun e => decide (e.1 / 64 ≠ b))) c).getD 0) = _
  rw [Tbl.look_filter (fun j => decide (j / 64 ≠ b))]
  by_cases h : c / 64 = b
  · simp [h]
  · simp only [h, ne_eq, not_false_eq_true, decide_true, if_true, if_false]
    rfl

/-- A write of CT_CLEAR that names a bank, or all of them. -/
theorem exec_ctClear {s : State} {dt : Nat} {w : Wr} {c : Instr} {f : State → State}
    (hc : exec c s = s.at_ dt (fun u => u.ctClear w f)) :
    exec c s = s.at_ dt (fun u => u.wr 0xD0004 w (fun u =>
      if bitOf w.data 8 && decide (fieldOf w.data 0 7 ≥ 120) then u.discard 0xD0004 w.port reasonInvalid
      else f (u.setRwi 0xD0004 (BitVec.ofNat 32 (fieldOf w.data 0 7))))) := hc

/-- The counters of a reporting plane copied with the time and the turn (R414). -/
def State.snapped (s : State) (r : Rep) : State :=
  { s with regs := { s.regs with held := r.ct, ctTime := s.now, ctTurn := s.tm.turn, ctPending := false } }

section
variable {s : State} {dt : Nat} {w : Wr} (hs : s.ready)
include hs

theorem answers_ctClearGo (hw : s.passes 0xD0004 w) (h8 : bitOf w.data 8 = true) (hb : fieldOf w.data 0 7 < 120) :
    Answers (.ctClearGo dt w) s (fun t =>
      t = { s.elapse dt with regs := t.regs, rep := t.rep } ∧ t.rwi 0xD0004 = BitVec.ofNat 32 (fieldOf w.data 0 7) ∧
      ∀ c, t.rep.counter c = if c / 64 = fieldOf w.data 0 7 then 0 else s.rep.counter c) := by
  have hg : (bitOf w.data 8 && decide (fieldOf w.data 0 7 ≥ 120)) = false := by
    rw [Bool.and_eq_false_iff, decide_eq_false_iff_not]; omega
  have hset := State.elapse_settled hs dt
  refine answers_wr_settles (v := ((s.elapse dt).setRwi 0xD0004 (BitVec.ofNat 32 (fieldOf w.data 0 7))).clearBank (fieldOf w.data 0 7))
    hs hw (exec_ctClear rfl) (by simp only [hg, Bool.false_eq_true, if_false]; rw [if_pos h8]) hset ⟨rfl, Tbl.lookD_put_self _ _ _ _, fun c => ?_⟩
  rw [State.clearBank_counter]
  show (if _ then _ else (s.elapse dt).rep.counter c) = _
  rw [State.elapse_rep hs.2.2]

theorem answers_ctClearGo_beyond (hw : s.passes 0xD0004 w) (h8 : bitOf w.data 8 = true) (hb : 120 ≤ fieldOf w.data 0 7) :
    Answers (.ctClearGo dt w) s (fun t => s.discards t dt 0xD0004 w 10) := by
  refine answers_wr hs hw (exec_ctClear rfl) ?_
  simp only [h8, ge_iff_le, hb, decide_true, Bool.and_self, if_true]
  exact State.discards_discard hs dt _ w _

theorem answers_ctClearAll (hw : s.passes 0xD0004 w) (h8 : bitOf w.data 8 = false) (h9 : bitOf w.data 9 = true) :
    Answers (.ctClearAll dt w) s (fun t =>
      t = { s.elapse dt with regs := t.regs, rep := t.rep, dr := { s.dr with streams := t.dr.streams } } ∧
      t.rwi 0xD0004 = BitVec.ofNat 32 (fieldOf w.data 0 7) ∧ (∀ c, t.rep.counter c = 0) ∧
      ∀ n x, s.stream n = some x → t.stream n = some { x with releases := 0, misses := 0, uncovered := 0 }) := by
  have hset := State.elapse_settled hs dt
  refine answers_wr_settles (v := ((s.elapse dt).setRwi 0xD0004 (BitVec.ofNat 32 (fieldOf w.data 0 7))).clearAll)
    hs hw (exec_ctClear rfl) (by simp only [h8, h9, Bool.false_and, Bool.false_eq_true, if_false, if_true]) hset
    ⟨?_, Tbl.lookD_put_self _ _ _ _, fun c => rfl, fun n x hx => ?_⟩
  · rw [← State.elapse_dr s dt]
    rfl
  · show Tbl.look ((s.elapse dt).dr.streams.map (fun e => (e.1, { e.2 with releases := 0, misses := 0, uncovered := 0 }))) n = _
    rw [State.elapse_dr]
    exact (Tbl.look_map (fun x : Stream => { x with releases := 0, misses := 0, uncovered := 0 }) s.dr.streams n).trans
      (congrArg (Option.map _) hx)

theorem answers_ctSnapNow (hw : s.passes 0xD0000 w) (h0 : bitOf w.data 0 = true) :
    Answers (.ctSnapNow dt w) s (fun t =>
      t = { s.elapse dt with
            regs := { s.regs with held := t.regs.held, ctTime := t.now, ctTurn := t.tm.turn, ctPending := false }
            rep := t.rep } ∧
      (s.regs.ctPending = false → ∀ c, Tbl.lookD t.regs.held c 0 = s.rep.counter c) ∧
      (s.regs.ctPending = true → s.counts t (5184 + 64 * w.port.idx + 7) 1)) := by
  rw [← State.elapse_regs s dt]
  have hc : exec (.ctSnapNow dt w) s = s.at_ dt (fun u => u.wr 0xD0000 w (fun u =>
      if bitOf w.data 0 then (if u.regs.ctPending then u.count (5184 + 64 * w.port.idx + 7) else u).snapshot else u)) := rfl
  have htells := State.Tells.elapse hs dt
  by_cases hp : (s.elapse dt).regs.ctPending = true
  · refine answers_wr_tells (v := (s.elapse dt).snapped ((s.elapse dt).count (5184 + 64 * w.port.idx + 7)).rep) hs hw hc
      (by rw [if_pos h0, if_pos hp]; rfl) (htells.count _) fun r told => ?_
    generalize ((s.elapse dt).count (5184 + 64 * w.port.idx + 7)).rep = r' at told ⊢
    exact ⟨rfl, fun h => absurd (hp.symm.trans h) (by decide), fun _ => told.counts (_, 1) (List.mem_singleton.2 rfl)⟩
  · refine answers_wr_tells (v := (s.elapse dt).snapped (s.elapse dt).rep) hs hw hc
      (by rw [if_pos h0, if_neg hp]; rfl) htells fun r told => ⟨rfl, fun _ c => ?_, fun h => absurd h hp⟩
    show (s.elapse dt).rep.counter c = _
    rw [State.elapse_rep hs.2.2]

theorem answers_ctSnapAtBoundary (hw : s.passes 0xD0000 w) (h1 : bitOf w.data 1 = true) :
    Answers (.ctSnapAtBoundary dt w) s (fun t => t = { s.elapse dt with regs := { s.regs with ctPending := true } }) := by
  refine answers_wr_becomes hs hw (show exec (.ctSnapAtBoundary dt w) s = _ from rfl) (if_pos h1) rfl ?_
  rw [State.elapse_regs]

end

/-- Settles O17: one clause for each command of the counters. -/
theorem countersClearAndCopy : Obligations.CountersClearAndCopy := by
  unfold Obligations.CountersClearAndCopy
  intro s dt w hs
  exact ⟨fun hw => ⟨answers_ctClearGo hs hw, answers_ctClearGo_beyond hs hw, answers_ctClearAll hs hw⟩,
    fun hw => ⟨answers_ctSnapNow hs hw, answers_ctSnapAtBoundary hs hw⟩⟩

/-! ## The acknowledgement of a posted write, and RUN -/

theorem State.loClear_aside (s : State) (bits : Word) : s.Aside 0 (s.loClear bits) :=
  State.Aside.foldl (n := 0) (fun a n => a.setLoopOut_aside n _) _ s

theorem State.holdEnds_feedsAct (s : State) (n : Nat) : s.FeedsAct 0 (s.holdEnds n) :=
  .ite (s.leaveOff_feedsAct n) (.refl s)

theorem State.feedOn_aside (s : State) (n : Nat) : s.Aside 0 (s.feedOn n) :=
  (State.Aside.foldl (n := 0) (fun a c => a.setLine_aside c _) channels s).trans
    ((State.setFeed_feedsAct _ n _).trans (State.holdEnds_feedsAct _ n)).aside

theorem State.feedClear_aside (s : State) (n : Nat) : s.Aside 0 (s.feedClear n) :=
  .ite ((s.setFeed_feedsAct n _).trans (State.leaveOff_feedsAct _ n)).aside ((State.Aside.refl s).count _)

/-- What a write does at the field die leaves the bridge, the live image and, but for a lock, the acknowledged values. -/
theorem State.delivered_spec (s : State) (p : Posted) :
    (s.delivered p).fa = s.fa ∧ (s.delivered p).regs.live = s.regs.live ∧
    (lockMask p.off = 0 → (s.delivered p).regs.fieldShadow = s.regs.fieldShadow) := by
  have haside : ∀ {n : Nat} {t : State}, s.Aside n t →
      t.fa = s.fa ∧ t.regs.live = s.regs.live ∧ (lockMask p.off = 0 → t.regs.fieldShadow = s.regs.fieldShadow) := fun h =>
    ⟨h.fa, congrArg RegSt.live h.regs, fun _ => congrArg RegSt.fieldShadow h.regs⟩
  unfold State.delivered
  split
  case isTrue hoff =>
    obtain ⟨hspec, hlive, -, -⟩ := s.setLock_spec p.off (p.data &&& 1)
    have hmask : lockMask p.off ≠ 0 := by
      rcases hoff with h | h <;> rw [h] <;> decide +kernel
    exact ⟨(congrArg State.fa hspec).trans rfl, hlive, fun h => absurd h hmask⟩
  case isFalse =>
    split
    · exact haside (s.loClear_aside _)
    · split
      · unfold State.fdDelivered
        split
        · exact haside (s.feedOn_aside _)
        · split
          · exact haside (s.feedOff_feedsAct _).aside
          · split
            · exact haside (s.feedClear_aside _)
            · exact haside (.refl s)
      · exact haside (.refl s)

/-- The acknowledgement of a posted write, before the write acts at the field die. -/
def State.ackPosted (u : State) (p : Posted) : State :=
  { u.acked .posted with
    fa := { (u.acked .posted).fa with posted := none }
    regs := { (u.acked .posted).regs with
      fieldShadow := Tbl.put (u.acked .posted).regs.fieldShadow p.off (resetAt p.off) ((u.acked .posted).shadow p.off) } }

theorem State.ackPosted_spec (u : State) (p : Posted) :
    (u.ackPosted p).fa.seq = u.fa.seq ∧ (u.ackPosted p).fa.posted = none ∧
    (u.fa.field ≠ .inReset → (u.ackPosted p).fa.field ≠ .inReset) ∧ (u.ackPosted p).regs.live = u.regs.live ∧
    Tbl.lookD (u.ackPosted p).regs.fieldShadow p.off (resetAt p.off) = u.shadow p.off := by
  refine ⟨rfl, rfl, fun hne => ?_, rfl, Tbl.lookD_put_self _ _ _ _⟩
  show (if _ then _ else _) ≠ _
  split
  · decide
  · exact hne

/-- FIELD_WRITE_ACK after the time that goes by. -/
def State.fieldAck (u : State) : State :=
  match u.fa.posted with
  | some p => if u.fieldUp then (u.ackPosted p).delivered p else u
  | none => u

theorem State.fieldAck_posted {u : State} {p : Posted} (hp : u.fa.posted = some p) (hup : u.fieldUp = true) :
    u.fieldAck = (u.ackPosted p).delivered p := by
  unfold State.fieldAck
  rw [hp]
  exact if_pos hup

section
variable {s : State} {dt : Nat} (hs : s.ready)
include hs

theorem answers_fieldWriteAck {p : Posted} (hp : s.fa.posted = some p) (hup : s.fieldUp = true) :
    Answers (.fieldWriteAck dt) s (fun t =>
      t.fa.posted = none ∧ t.fa.seq = s.fa.seq ∧ t.fieldBusy = false ∧ t.regs.live = s.regs.live ∧
      (lockMask p.off = 0 → Tbl.lookD t.regs.fieldShadow p.off (resetAt p.off) = s.shadow p.off)) := by
  let u := s.elapse dt
  have hpost : u.fa.posted = some p := by rw [State.elapse_fa, hp]
  have hup' : u.fieldUp = true := by rwa [State.elapse_fieldUp]
  have hne : u.fa.field ≠ .inReset := by simpa [State.fieldUp] using hup'
  refine answers_at (g := State.fieldAck) hs rfl ?_
  rw [State.fieldAck_posted hpost hup']
  obtain ⟨hfa, hlive, hfs⟩ := (u.ackPosted p).delivered_spec p
  obtain ⟨hseq, hnone, hfield, hlive', hval⟩ := u.ackPosted_spec p
  refine ⟨(congrArg FaultSt.posted hfa).trans hnone, ?_, ?_, ?_, fun hm => ?_⟩
  · exact (congrArg FaultSt.seq hfa).trans (hseq.trans (congrArg FaultSt.seq (s.elapse_fa dt)))
  · show ((State.delivered _ _).fa.posted.isSome || decide ((State.delivered _ _).fa.field = .inReset)) = false
    rw [hfa, hnone, decide_eq_false (hfield hne)]
    rfl
  · exact hlive.trans (hlive'.trans (congrArg RegSt.live (s.elapse_regs dt)))
  · show Tbl.lookD (State.delivered _ _).regs.fieldShadow _ _ = _
    rw [hfs hm, hval, State.elapse_shadow]

theorem answers_dvCmdRun {w : Wr} (hw : s.passes 0x1004 w) (h0 : bitOf w.data 0 = true) :
    (s.dev.st = .setUp →
      Answers (.dvCmdRun dt w) s (fun t => t = { s.elapse dt with dev := { s.dev with runPend := true } })) ∧
    (s.dev.st ≠ .setUp → Answers (.dvCmdRun dt w) s (fun t => s.discards t dt 0x1004 w 7)) := by
  have hc : exec (.dvCmdRun dt w) s = s.at_ dt (fun u => u.wr 0x1004 w (fun u =>
    if bitOf w.data 0 then
      if u.dev.st = .setUp then { u with dev := { u.dev with runPend := true } } else u.discard 0x1004 w.port reasonState
    else u)) := rfl
  refine ⟨fun hst => ?_, fun hst => ?_⟩
  · refine answers_wr_becomes (v := { s.elapse dt with dev := { (s.elapse dt).dev with runPend := true } }) hs hw hc
      (by rw [if_pos h0, if_pos (by rw [State.elapse_dev, hst])]) rfl ?_
    rw [State.elapse_dev]
  · refine answers_wr hs hw hc ?_
    rw [if_pos h0, if_neg (by rwa [State.elapse_dev])]
    exact State.discards_discard hs dt _ w _

end

/-- Settles O18: what a delivered write does at the field die is bounded by `State.delivered_spec`. -/
theorem fieldWritesAndRunCommand : Obligations.FieldWritesAndRunCommand := by
  unfold Obligations.FieldWritesAndRunCommand
  intro s dt hs
  exact ⟨fun p hp hup => answers_fieldWriteAck hs hp hup, fun w hw h0 => answers_dvCmdRun hs hw h0⟩

end Sys2Proof.Machine
end

section
/-!
PROOFS. Hank output, the trace buffer, RESTART and the TAP (chapter 19, R556 to R559, R561, R566). A source that is raised and a
counter that advances leave the hanks and the trace buffer alone (`Rep.FiresOnly`).
-/

namespace Sys2Proof.Machine

/-! ## What a firing leaves alone -/

/-- From a to b only what fires, counts and leaves the device changes. -/
def Rep.FiresOnly (a b : Rep) : Prop :=
  b = { a with out := b.out, ports := b.ports, ct := b.ct, satSeen := b.satSeen, first := b.first, whDue := b.whDue }

theorem Rep.FiresOnly.refl (a : Rep) : Rep.FiresOnly a a := rfl

theorem Rep.FiresOnly.trans {a b c : Rep} (h : Rep.FiresOnly a b) (g : Rep.FiresOnly b c) : Rep.FiresOnly a c := by
  have hall : ∀ o p x y f w o' p' x' y' f' w',
      b = { a with out := o, ports := p, ct := x, satSeen := y, first := f, whDue := w } →
      c = { b with out := o', ports := p', ct := x', satSeen := y', first := f', whDue := w' } →
      c = { a with out := c.out, ports := c.ports, ct := c.ct, satSeen := c.satSeen, first := c.first, whDue := c.whDue } := by
    rintro _ _ _ _ _ _ _ _ _ _ _ _ rfl rfl
    rfl
  exact hall _ _ _ _ _ _ _ _ _ _ _ _ h g

theorem Rep.firesOnly_bump (r : Rep) (i n : Nat) : Rep.FiresOnly r (r.bump i n).1 := by
  unfold Rep.bump; simp only; split <;> rfl

mutual
theorem Rep.firesOnly_fireOne (n : Nat) (c : Ctx) (w : Word) (r : Rep) (i : Nat) (p : Port) :
    Rep.FiresOnly r (Rep.fireOne n c w r i p) := by
  have hfull : ∀ k, Rep.FiresOnly r
      (if (r.bump (whCounter p k) 1).2 then Rep.fireN n c (r.bump (whCounter p k) 1).1 0x05E else (r.bump (whCounter p k) 1).1) :=
    fun k => by
      split
      · exact (Rep.firesOnly_bump r _ _).trans (Rep.firesOnly_fireN n c _ _)
      · exact Rep.firesOnly_bump r _ _
  unfold Rep.fireOne
  simp only
  split
  · split
    · rfl
    · exact hfull 0
  · exact hfull 1
  termination_by 2 * n + 1

theorem Rep.firesOnly_fireN (n : Nat) (c : Ctx) (r : Rep) (i : Nat) : Rep.FiresOnly r (Rep.fireN n c r i) := by
  cases n with
  | zero => exact .refl r
  | succ n =>
    rw [Rep.fireN_succ]
    simp only
    split
    · split <;> split
      · exact (Rep.firesOnly_fireOne n c _ r i .a).trans (Rep.firesOnly_fireOne n c _ _ i .b)
      · exact Rep.firesOnly_fireOne n c _ r i .b
      · exact Rep.firesOnly_fireOne n c _ r i .a
      · exact .refl r
    · exact .refl r
  termination_by 2 * n
end

theorem Rep.firesOnly_fire (r : Rep) (c : Ctx) (i : Nat) : Rep.FiresOnly r (r.fire c i) := Rep.firesOnly_fireN 4 c r i

theorem Rep.firesOnly_count (r : Rep) (c : Ctx) (i n : Nat) : Rep.FiresOnly r (r.count c i n) := by
  unfold Rep.count; simp only; split
  · exact (Rep.firesOnly_bump r i n).trans (Rep.firesOnly_fire _ c _)
  · exact Rep.firesOnly_bump r i n

theorem Rep.firesOnly_fireOnce (r : Rep) (c : Ctx) (g i : Nat) : Rep.FiresOnly r (r.fireOnce c g i) := by
  unfold Rep.fireOnce; split
  · exact .refl r
  · exact Rep.FiresOnly.trans (b := { r with first := r.first ++ [g] }) rfl (Rep.firesOnly_fire _ c _)

theorem Rep.firesOnly_evalReq (r : Rep) (c : Ctx) (p : Port) : Rep.FiresOnly r (r.evalReq c p) := by
  unfold Rep.evalReq; simp only; split
  · split <;> rfl
  · exact .refl r

theorem State.raise_firesOnly (s : State) (i : Nat) : Rep.FiresOnly s.rep (s.raise i).rep := Rep.firesOnly_fire _ _ _
theorem State.countN_firesOnly (s : State) (c n : Nat) : Rep.FiresOnly s.rep (s.countN c n).rep := Rep.firesOnly_count _ _ _ _

/-- With no slub and no hank of its own the end of an instant only asks the ports for their requests. -/
theorem Rep.firesOnly_flush {r : Rep} (c : Ctx) (hs : r.slubReqs = []) (hh : r.hankReqs = []) (hw : r.whOld = none) :
    Rep.FiresOnly r (r.flush c) := by
  have hall : r.writeAll c = r := by
    cases r
    simp only at hs hh
    subst hs hh
    rfl
  unfold Rep.flush
  rw [hall, Rep.whorlViews_none c hw]
  unfold Rep.whorlReqs
  split
  · exact ((Rep.firesOnly_evalReq r c .a).trans (Rep.firesOnly_evalReq _ c .b)).trans rfl
  · exact .refl r

theorem Answers.mono {c : Instr} {s : State} {P Q : State → Prop} (h : Answers c s P) (hPQ : ∀ t, P t → Q t) : Answers c s Q := by
  obtain ⟨t, ht, hp⟩ := h
  exact ⟨t, ht, hPQ t hp⟩

/-- A command at a free instant that writes no slub and no hank: what it leaves of the hanks and the trace buffer stays. -/
theorem answers_fires {c : Instr} {s : State} {dt : Nat} {g : State → State} {P : State → Prop} {v : State} {r : Rep} {k : Account}
    (hs : s.ready) (hc : exec c s = s.at_ dt g) (hg : g (s.elapse dt) = { v with rep := r }) (h : s.Tells k r) (hreq : r.slubReqs = [])
    (hh : r.hankReqs = []) (hP : ∀ r', s.Told k { v with rep := r' } → Rep.FiresOnly r r' → P { v with rep := r' }) : Answers c s P := by
  refine answers_at hs hc ?_
  rw [hg]
  let v' : State := { v with rep := r }
  exact hP _ (State.Tells.told (v := v') h) (Rep.firesOnly_flush v'.ctx hreq hh h.whOld)

/-! ## Hank output -/

/-- The trace buffer takes no hank: it is frozen, or the hanks after its stopping slub have come (R557). -/
def State.traceClosed (s : State) : Prop := s.rep.frozen = true ∨ (s.rep.stopSeen = true ∧ s.fld 0x110000 16 16 ≤ s.rep.post)

/-- The queue without its oldest hank, which leaves for the port while OUT_EN is 1 (R556). -/
def State.portHank (u : State) (h : Hank) (l : List Hank) : State :=
  let v : State := { u with rep := { u.rep with hanks := l } }
  if v.bit 0x110000 0 then v.emit (.hank h) else v

/-- BUF_EN is 1 and the trace buffer takes hanks. -/
def State.traceOpen (v : State) : Bool :=
  v.bit 0x110000 1 && (!v.rep.frozen && !(v.rep.stopSeen && decide (v.rep.post ≥ v.post_)))

/-- HANK_OUTPUT after the time that goes by. -/
def State.hankOut (u : State) : State :=
  match u.rep.hanks with
  | [] => u
  | h :: l => if (u.portHank h l).traceOpen then (u.portHank h l).traceHank u.rep.headSlot h else u.portHank h l

theorem State.portHank_traceOpen (u : State) (h : Hank) (l : List Hank) : (u.portHank h l).traceOpen = u.traceOpen := by
  unfold State.portHank
  simp only
  split <;> rfl

theorem State.traceOpen_iff {u : State} : u.traceOpen = true ↔ u.bit 0x110000 1 = true ∧ ¬u.traceClosed := by
  unfold State.traceOpen State.traceClosed State.post_
  simp only [Bool.and_eq_true, Bool.not_eq_true', Bool.and_eq_false_iff, decide_eq_false_iff_not, not_or, not_and, ge_iff_le,
    Bool.not_eq_true]
  constructor
  · rintro ⟨hb, hf, hs⟩
    exact ⟨hb, hf, fun hst => hs.resolve_left (by rw [hst]; decide)⟩
  · rintro ⟨hb, hf, hs⟩
    exact ⟨hb, hf, (Bool.eq_false_or_eq_true u.rep.stopSeen).elim (fun h => .inr (hs h)) .inl⟩

theorem State.portHank_eq (u : State) (h : Hank) (l : List Hank) :
    u.portHank h l = { u with rep := { u.rep with hanks := l, out := (u.portHank h l).rep.out } } := by
  unfold State.portHank
  simp only
  split <;> rfl

theorem State.portHank_off {u : State} {h : Hank} {l : List Hank} (hb : u.bit 0x110000 0 = false) :
    (u.portHank h l).rep = { u.rep with hanks := l } := by
  let v : State := { u with rep := { u.rep with hanks := l } }
  show (if v.bit 0x110000 0 then v.emit (.hank h) else v).rep = _
  have hv : v.bit 0x110000 0 = false := hb
  rw [if_neg (by rw [hv]; decide)]

theorem State.Tells.portHank {s u : State} {k : Account} (hk : s.Tells k u.rep) (h : Hank) (l : List Hank) :
    ∃ k', s.Tells k' (u.portHank h l).rep ∧ (u.bit 0x110000 0 = true → Output.hank h ∈ k'.outs) := by
  let v : State := { u with rep := { u.rep with hanks := l } }
  have hv : s.Tells k v.rep := hk.mono ⟨⟨[], (List.append_nil _).symm⟩, fun _ => Nat.min_le_right _ _, fun _ _ h => h⟩ rfl rfl rfl rfl
  have hbit : v.bit 0x110000 0 = u.bit 0x110000 0 := rfl
  show ∃ k', s.Tells k' (if v.bit 0x110000 0 then v.emit (.hank h) else v).rep ∧ _
  split
  case isTrue => exact ⟨_, hv.emit (.hank h), fun _ => by simp⟩
  case isFalse hb => exact ⟨_, hv, fun h => absurd (hbit.trans h) hb⟩

section
variable {u : State} {h : Hank} {l : List Hank}

theorem State.hankOut_closed (hq : u.rep.hanks = h :: l) (hcl : u.bit 0x110000 1 = false ∨ u.traceClosed) :
    u.hankOut = u.portHank h l := by
  have hcond : u.traceOpen ≠ true := fun ho => by
    obtain ⟨hb, hop⟩ := State.traceOpen_iff.1 ho
    exact hcl.elim (fun h => by rw [h] at hb; cases hb) hop
  unfold State.hankOut
  rw [hq]
  exact if_neg (by rwa [State.portHank_traceOpen])

theorem State.hankOut_open (hq : u.rep.hanks = h :: l) (hb : u.bit 0x110000 1 = true) (hop : ¬u.traceClosed) :
    u.hankOut = (u.portHank h l).traceHank u.rep.headSlot h := by
  unfold State.hankOut
  rw [hq]
  exact if_pos (by rw [State.portHank_traceOpen]; exact State.traceOpen_iff.2 ⟨hb, hop⟩)

/-- A hank in the trace buffer, before the drain. -/
def State.traced (v : State) (slot : Nat) (h : Hank) : State :=
  { v with
    rep := { v.rep with
      trace := Tbl.ins v.rep.trace slot h
      fill := min traceSize (v.rep.fill + 1)
      post := if v.rep.stopSeen then v.rep.post + 1 else v.rep.post
      undrained := if v.bit 0x110018 6 then [slot] else [] } }

/-- With nothing undrained before it a hank overwrites none that waits for the drain. -/
theorem State.traceHank_drained {v : State} {slot : Nat} (hu : v.rep.undrained = []) :
    v.traceHank slot h = (v.traced slot h).drainHanks := by
  unfold State.traceHank
  simp only [hu, List.contains_nil, List.filter_nil, List.nil_append, Bool.false_eq_true, if_false]
  rfl

/-- The drain of one hank to the host ring (R559). -/
def State.drained (v : State) (h : Hank) : State :=
  ({ v with
    rep := { v.rep.emit (.drain v.drainPort (v.rep.drainProd.toNat % 2 ^ (v.fld 0x110018 0 5)) (v.drainAddr v.rep.drainProd) h) with
      drainProd := v.rep.drainProd + 1, undrained := [] } }).raiseOnce 0x02B 0x02B

theorem State.drainHanks_one {v : State} {slot : Nat} (hu : v.rep.undrained = [slot]) (hl : Tbl.look v.rep.trace slot = some h)
    (hw : (v.port v.drainPort).canWrite = true) : v.drainHanks = v.drained h := by
  unfold State.drainHanks
  simp only [hw, hu, List.isEmpty_cons, Bool.not_false, Bool.and_self, if_true, List.foldl_cons, List.foldl_nil, hl]
  rfl

theorem State.drainHanks_none {v : State} (h : v.rep.undrained = [] ∨ (v.port v.drainPort).canWrite = false) : v.drainHanks = v := by
  unfold State.drainHanks
  rcases h with h | h
  · simp [h]
  · simp [h]

theorem State.drained_firesOnly (v : State) (h : Hank) :
    Rep.FiresOnly { v.rep with drainProd := v.rep.drainProd + 1, undrained := [] } (v.drained h).rep := by
  let o := Output.drain v.drainPort (v.rep.drainProd.toNat % 2 ^ (v.fld 0x110018 0 5)) (v.drainAddr v.rep.drainProd) h
  exact Rep.FiresOnly.trans (b := { v.rep.emit o with drainProd := v.rep.drainProd + 1, undrained := [] }) rfl
    (Rep.firesOnly_fireOnce _ v.ctx _ _)

theorem State.Tells.traced {s v : State} {k : Account} (hk : s.Tells k v.rep) (slot : Nat) (h : Hank) : s.Tells k (v.traced slot h).rep :=
  hk.mono ⟨⟨[], (List.append_nil _).symm⟩, fun _ => Nat.min_le_right _ _, fun _ _ h => h⟩ rfl rfl rfl rfl

theorem State.Tells.drained {s v : State} {k : Account} (hk : s.Tells k v.rep) (h : Hank) :
    ∃ k', s.Tells k' (v.drained h).rep ∧ (∀ o ∈ k.outs, o ∈ k'.outs) ∧
      Output.drain v.drainPort (v.rep.drainProd.toNat % 2 ^ (v.fld 0x110018 0 5)) (v.drainAddr v.rep.drainProd) h ∈ k'.outs := by
  let o := Output.drain v.drainPort (v.rep.drainProd.toNat % 2 ^ (v.fld 0x110018 0 5)) (v.drainAddr v.rep.drainProd) h
  let w : State := { v with rep := { v.rep.emit o with drainProd := v.rep.drainProd + 1, undrained := [] } }
  have hw : s.Tells _ w.rep := (hk.emit o).mono
    ⟨⟨[], (List.append_nil _).symm⟩, fun _ => Nat.min_le_right _ _, fun _ _ h => h⟩ rfl rfl rfl rfl
  exact ⟨_, hw.raiseOnce 0x02B 0x02B, fun x hx => List.mem_cons_of_mem _ hx, by simp [o]⟩

end

/-- What a hank that has left the queue for an open trace buffer leaves of the reporting plane, where nothing waited for the drain. -/
def Rep.tracedBy (a b : Rep) (h : Hank) (l : List Hank) : Prop :=
  b.hanks = l ∧ b.trace = Tbl.ins a.trace a.headSlot h ∧ b.fill = min traceSize (a.fill + 1) ∧
  b.post = (if a.stopSeen then a.post + 1 else a.post) ∧ b.slubReqs = a.slubReqs ∧ b.hankReqs = a.hankReqs

theorem Rep.tracedBy.firesOnly {a b c : Rep} {h : Hank} {l : List Hank} (ht : Rep.tracedBy a b h l) (hf : Rep.FiresOnly b c) :
    Rep.tracedBy a c h l := by
  obtain ⟨h1, h2, h3, h4, h5, h6⟩ := ht
  unfold Rep.tracedBy
  rw [show c = _ from hf]
  exact ⟨h1, h2, h3, h4, h5, h6⟩

theorem State.traced_tracedBy (u : State) (h : Hank) (l : List Hank) :
    Rep.tracedBy u.rep ((u.portHank h l).traced u.rep.headSlot h).rep h l := by
  rw [State.portHank_eq]
  exact ⟨rfl, rfl, rfl, rfl, rfl, rfl⟩

theorem State.elapse_bit (s : State) (dt off i : Nat) : (s.elapse dt).bit off i = s.bit off i := by
  unfold State.bit State.live
  rw [State.elapse_regs]

theorem exec_hankOutput (s : State) (dt : Nat) : exec (.hankOutput dt) s = s.at_ dt State.hankOut := rfl

/-- A hank that enters the trace buffer: where the drain is off, where its port cannot write, and where the hank is drained. -/
theorem State.traceHank_cases {v : State} (slot : Nat) (h : Hank) (hu : v.rep.undrained = []) :
    (v.bit 0x110018 6 = false → v.traceHank slot h = v.traced slot h) ∧
    (v.bit 0x110018 6 = true → (v.port v.drainPort).canWrite = false → v.traceHank slot h = v.traced slot h) ∧
    (v.bit 0x110018 6 = true → (v.port v.drainPort).canWrite = true → v.traceHank slot h = (v.traced slot h).drained h) := by
  rw [State.traceHank_drained hu]
  have hund : (v.traced slot h).rep.undrained = if v.bit 0x110018 6 then [slot] else [] := rfl
  refine ⟨fun hb => State.drainHanks_none (.inl ?_), fun hb hw => State.drainHanks_none (.inr hw),
    fun hb hw => State.drainHanks_one (slot := slot) ?_ (Tbl.look_ins_self _ _ _) hw⟩
  · rw [hund, hb]
    rfl
  · rw [hund, hb]
    rfl

section
variable {s : State} {dt : Nat} (hs : s.ready)
include hs

theorem answers_hankOutput_none (hq : s.rep.hanks = []) : Answers (.hankOutput dt) s (fun t => t = s.elapse dt) := by
  refine answers_becomes (v := s.elapse dt) hs (exec_hankOutput s dt) ?_ rfl rfl
  unfold State.hankOut
  rw [State.elapse_rep hs.2.2, hq]

theorem State.elapse_traceClosed : (s.elapse dt).traceClosed ↔ s.traceClosed := by
  unfold State.traceClosed
  rw [State.elapse_rep hs.2.2, State.elapse_fld]

theorem answers_hankOutput_closed {h : Hank} {l : List Hank} (hq : s.rep.hanks = h :: l)
    (hcl : s.bit 0x110000 1 = false ∨ s.traceClosed) :
    Answers (.hankOutput dt) s (fun t =>
      (t = { s.elapse dt with rep := t.rep } ∧ t.rep.hanks = l ∧ (s.bit 0x110000 0 = true → s.putsOut t (.hank h))) ∧
      t.rep.trace = s.rep.trace ∧ t.rep.fill = s.rep.fill ∧ (s.bit 0x110000 0 = false → t.rep = { s.rep with hanks := l })) := by
  have hu : (s.elapse dt).rep = s.rep := State.elapse_rep hs.2.2 dt
  obtain ⟨k, htells, hout⟩ := (State.Tells.elapse hs dt).portHank h l
  have heq := (s.elapse dt).portHank_eq h l
  have hoff := State.portHank_off (u := s.elapse dt) (h := h) (l := l)
  have hopen := State.hankOut_closed (u := s.elapse dt) (by rw [hu]; exact hq) (hcl.imp (by rw [State.elapse_bit]; exact id)
    (State.elapse_traceClosed hs).2)
  rw [State.elapse_bit] at hout hoff
  rw [hu] at heq hoff
  obtain ⟨b, hb⟩ : ∃ b, (s.elapse dt).portHank h l = b := ⟨_, rfl⟩
  rw [hb] at heq htells hoff hopen
  obtain ⟨hreqs, hhanks, hwh, hdue⟩ := State.elapse_settled hs dt
  rw [hu] at hreqs hhanks hwh hdue
  have hrep : b.rep = { s.rep with hanks := l, out := b.rep.out } := (congrArg State.rep heq).trans rfl
  have hset : b.settled := by
    unfold State.settled
    rw [hrep]
    exact ⟨hreqs, hhanks, hwh, hdue⟩
  refine answers_settles (v := b) hs (exec_hankOutput s dt) hopen hset ⟨⟨by rw [show b = _ from heq], ?_, fun h0 => ?_⟩, ?_, ?_, hoff⟩
  · rw [hrep]
  · exact htells.outs _ (hout h0)
  · rw [hrep]
  · rw [hrep]

/-- A hank that has entered the trace buffer, whatever the drain did. -/
theorem answers_hankOutput_traced {h : Hank} {l : List Hank} {r : Rep} {a : Account}
    (hout : s.bit 0x110000 0 = true → Output.hank h ∈ a.outs) (ht : Rep.tracedBy s.rep r h l) (htell : s.Tells a r)
    (hfin : (s.elapse dt).hankOut = { (s.elapse dt).portHank h l with rep := r }) :
    Answers (.hankOutput dt) s (fun t =>
      ((t = { s.elapse dt with rep := t.rep } ∧ t.rep.hanks = l ∧ (s.bit 0x110000 0 = true → s.putsOut t (.hank h))) ∧
      Tbl.look t.rep.trace s.rep.headSlot = some h ∧ t.rep.fill = min 131072 (s.rep.fill + 1) ∧
      t.rep.post = (if s.rep.stopSeen then s.rep.post + 1 else s.rep.post) ∧
      (∀ k, k ≠ s.rep.headSlot → Tbl.look t.rep.trace k = Tbl.look s.rep.trace k)) ∧
      t.rep.drainProd = r.drainProd ∧ t.rep.undrained = r.undrained ∧ ∀ o ∈ a.outs, s.putsOut t o) := by
  obtain ⟨hreqs, hhanks, -, -⟩ := hs.2.1
  have hby := ht
  obtain ⟨-, -, -, -, hr1, hr2⟩ := hby
  have heq := (s.elapse dt).portHank_eq h l
  obtain ⟨v, hv⟩ : ∃ v, (s.elapse dt).portHank h l = v := ⟨_, rfl⟩
  rw [hv] at heq hfin
  refine answers_fires (v := v) hs (exec_hankOutput s dt) hfin htell (hr1.trans hreqs) (hr2.trans hhanks) fun r' told hf => ?_
  obtain ⟨h1, h2, h3, h4, -, -⟩ := ht.firesOnly hf
  have hrest : r'.drainProd = r.drainProd ∧ r'.undrained = r.undrained := by rw [show r' = _ from hf]; exact ⟨rfl, rfl⟩
  refine ⟨⟨⟨by rw [show v = _ from heq], h1, fun h0 => told.outs _ (hout h0)⟩, ?_, h3, h4, fun j hj => ?_⟩,
    hrest.1, hrest.2, told.outs⟩
  · show Tbl.look r'.trace _ = _
    rw [h2, Tbl.look_ins_self]
  · show Tbl.look r'.trace _ = _
    rw [h2, Tbl.look_ins_ne _ _ hj]

/-- What the drain looks at is as it was. -/
theorem State.portHank_drain (h : Hank) (l : List Hank) :
    let v := (s.elapse dt).portHank h l
    v.bit 0x110018 6 = s.bit 0x110018 6 ∧ v.drainPort = s.drainPort ∧ v.port v.drainPort = s.port s.drainPort ∧
    v.drainAddr v.rep.drainProd = s.drainAddr s.rep.drainProd ∧ v.rep.drainProd = s.rep.drainProd ∧
    v.fld 0x110018 0 5 = s.fld 0x110018 0 5 ∧ v.rep.undrained = s.rep.undrained := by
  intro v
  have heq : v = _ := (s.elapse dt).portHank_eq h l
  have hvrep : v.rep = { s.rep with hanks := l, out := v.rep.out } := by
    rw [← State.elapse_rep hs.2.2 dt]
    exact (congrArg State.rep heq).trans rfl
  have hlive : v.regs = s.regs := ((congrArg State.regs heq).trans rfl).trans (s.elapse_regs dt)
  have hbit : ∀ off i, v.bit off i = s.bit off i := fun off i => by unfold State.bit State.live; rw [hlive]
  have hfld : ∀ off lo w, v.fld off lo w = s.fld off lo w := fun off lo w => by unfold State.fld State.live; rw [hlive]
  have hdp : v.drainPort = s.drainPort := by unfold State.drainPort; rw [hbit]
  refine ⟨hbit _ _, hdp, ?_, ?_, ?_, hfld _ _ _, ?_⟩
  · unfold State.port
    rw [hdp, hvrep]
    rfl
  · unfold State.drainAddr State.live
    rw [hfld, hlive, hvrep]
  · rw [hvrep]
  · rw [hvrep]

theorem answers_hankOutput_open {h : Hank} {l : List Hank} (hq : s.rep.hanks = h :: l) (hb : s.bit 0x110000 1 = true)
    (hop : ¬s.traceClosed) (hun : s.rep.undrained = []) :
    Answers (.hankOutput dt) s (fun t =>
      (t = { s.elapse dt with rep := t.rep } ∧ t.rep.hanks = l ∧ (s.bit 0x110000 0 = true → s.putsOut t (.hank h))) ∧
      Tbl.look t.rep.trace s.rep.headSlot = some h ∧ t.rep.fill = min 131072 (s.rep.fill + 1) ∧
      t.rep.post = (if s.rep.stopSeen then s.rep.post + 1 else s.rep.post) ∧
      (∀ k, k ≠ s.rep.headSlot → Tbl.look t.rep.trace k = Tbl.look s.rep.trace k) ∧
      (s.bit 0x110018 6 = true → (s.port s.drainPort).canWrite = true →
        s.putsOut t (.drain s.drainPort (s.rep.drainProd.toNat % 2 ^ (s.fld 0x110018 0 5)) (s.drainAddr s.rep.drainProd) h) ∧
        t.rep.drainProd = s.rep.drainProd + 1 ∧ t.rep.undrained = []) ∧
      (s.bit 0x110018 6 = true → (s.port s.drainPort).canWrite = false → t.rep.undrained = [s.rep.headSlot]) ∧
      (s.bit 0x110018 6 = false → t.rep.undrained = [])) := by
  have hu : (s.elapse dt).rep = s.rep := State.elapse_rep hs.2.2 dt
  obtain ⟨k, htells, hout⟩ := (State.Tells.elapse hs dt).portHank h l
  have hby := (s.elapse dt).traced_tracedBy h l
  have hopen := State.hankOut_open (u := s.elapse dt) (by rw [hu]; exact hq) (by rw [State.elapse_bit]; exact hb)
    (fun h => hop ((State.elapse_traceClosed hs).1 h))
  obtain ⟨h6, hdp, hport, haddr, hprod, hlog, hund⟩ := State.portHank_drain (dt := dt) hs h l
  rw [hu] at hby hopen
  rw [State.elapse_bit] at hout
  have hbase := fun r a => answers_hankOutput_traced (dt := dt) (h := h) (l := l) (r := r) (a := a) hs
  obtain ⟨v, hv⟩ : ∃ v, (s.elapse dt).portHank h l = v := ⟨_, rfl⟩
  simp only [hv] at htells hby hopen h6 hdp hport haddr hprod hlog hund hbase
  obtain ⟨hoff, hwait, hdrain⟩ := v.traceHank_cases s.rep.headSlot h (hund.trans hun)
  rw [← hopen, h6] at hoff
  rw [← hopen, h6, hport] at hwait hdrain
  have hstays : (v.traced s.rep.headSlot h).rep.undrained = if s.bit 0x110018 6 then [s.rep.headSlot] else [] := by rw [← h6]; rfl
  by_cases hb6 : s.bit 0x110018 6 = true
  case neg =>
    rw [Bool.not_eq_true] at hb6
    refine (hbase _ _ hout hby (htells.traced _ h) (hoff hb6)).mono fun t ⟨⟨h1, h2, h3, h4, h5⟩, _, hund', _⟩ =>
      ⟨h1, h2, h3, h4, h5, fun h => absurd (h.symm.trans hb6) (by decide), fun h => absurd (h.symm.trans hb6) (by decide), fun _ => ?_⟩
    rw [hund', hstays, hb6]
    rfl
  case pos =>
    by_cases hw : (s.port s.drainPort).canWrite = true
    case neg =>
      rw [Bool.not_eq_true] at hw
      refine (hbase _ _ hout hby (htells.traced _ h) (hwait hb6 hw)).mono fun t ⟨⟨h1, h2, h3, h4, h5⟩, _, hund', _⟩ =>
        ⟨h1, h2, h3, h4, h5, fun _ h => absurd (h.symm.trans hw) (by decide), fun _ _ => ?_, fun h => absurd (h.symm.trans hb6) (by decide)⟩
      rw [hund', hstays, hb6]
      rfl
    case pos =>
      obtain ⟨a, htell, hmem, hdr⟩ := (htells.traced s.rep.headSlot h).drained h
      have hfo := (v.traced s.rep.headSlot h).drained_firesOnly h
      have hby' : Rep.tracedBy s.rep ((v.traced s.rep.headSlot h).drained h).rep h l :=
        Rep.tracedBy.firesOnly (b := { (v.traced s.rep.headSlot h).rep with drainProd := v.rep.drainProd + 1, undrained := [] }) hby hfo
      refine (hbase _ _ (fun h0 => hmem _ (hout h0)) hby' htell (hdrain hb6 hw)).mono fun t ⟨⟨h1, h2, h3, h4, h5⟩, hp, hund', houts⟩ =>
        ⟨h1, h2, h3, h4, h5, fun _ _ => ⟨?_, ?_, ?_⟩, fun _ h => absurd (h.symm.trans hw) (by decide),
          fun h => absurd (h.symm.trans hb6) (by decide)⟩
      · have := houts _ hdr
        rw [← hdp, ← hlog, ← haddr, ← hprod]
        exact this
      · rw [hp, show ((v.traced s.rep.headSlot h).drained h).rep = _ from hfo, ← hprod]
        rfl
      · rw [hund', show ((v.traced s.rep.headSlot h).drained h).rep = _ from hfo]

/-! ## Freezing and RESTART -/

theorem answers_traceBufferFreeze (hstop : s.rep.stopSeen = true) (hfr : s.rep.frozen = false)
    (hpost : s.fld 0x110000 16 16 ≤ s.rep.post) :
    Answers (.traceBufferFreeze dt) s (fun t =>
      t = { s.elapse dt with rep := t.rep } ∧ t.rep.frozen = true ∧ s.raises t 0x029) := by
  have hu : (s.elapse dt).rep = s.rep := State.elapse_rep hs.2.2 dt
  let v : State := { s.elapse dt with rep := { (s.elapse dt).rep with frozen := true } }
  have htells : s.Tells {} v.rep := (State.Tells.elapse hs dt).mono
    ⟨⟨[], (List.append_nil _).symm⟩, fun _ => Nat.min_le_right _ _, fun _ _ h => h⟩ rfl rfl rfl rfl
  obtain ⟨hreqs, hhanks, -, -⟩ := State.elapse_settled hs dt
  have hcond : ((s.elapse dt).rep.stopSeen && !(s.elapse dt).rep.frozen && decide ((s.elapse dt).rep.post ≥ (s.elapse dt).post_)) = true := by
    unfold State.post_
    rw [hu, State.elapse_fld, hstop, hfr]
    exact decide_eq_true hpost
  refine answers_fires (v := v) hs (show exec (.traceBufferFreeze dt) s = _ from rfl) ((if_pos hcond).trans rfl)
    (htells.raise 0x029 (congrArg RegSt.live (s.elapse_regs dt))) ?_ ?_ fun r told hf => ⟨rfl, ?_, told.raises 0x029 (by simp)⟩
  · exact (v.raise_same 0x029).slubReqs.trans hreqs
  · exact (v.raise_same 0x029).hankReqs.trans hhanks
  · exact (congrArg Rep.frozen hf).trans (v.raise_same 0x029).frozen

theorem answers_traceBufferFreeze_not
    (h : s.rep.stopSeen = false ∨ s.rep.frozen = true ∨ s.rep.post < s.fld 0x110000 16 16) :
    Answers (.traceBufferFreeze dt) s (fun t => t = s.elapse dt) := by
  refine answers_becomes (v := s.elapse dt) hs (show exec (.traceBufferFreeze dt) s = _ from rfl) (if_neg ?_) rfl rfl
  unfold State.post_
  rw [State.elapse_rep hs.2.2, State.elapse_fld]
  rcases h with h | h | h
  · simp [h]
  · simp [h]
  · simp [h]

/-- RESTART after the time that goes by (R557). -/
def State.restartTrace (u : State) : State :=
  if u.rep.undrained.length = 0 then u.clearTrace else (u.clearTrace.countN 5841 u.rep.undrained.length).raise 0x02A

theorem answers_restart {w : Wr} (hw : s.passes 0x11002C w) (h0 : bitOf w.data 0 = true) :
    Answers (.restart dt w) s (fun t =>
      t = { s.elapse dt with rep := t.rep } ∧ t.rep.trace = [] ∧ t.rep.fill = 0 ∧ t.rep.stopSeen = false ∧ t.rep.post = 0 ∧
      t.rep.frozen = false ∧ t.rep.undrained = [] ∧ t.rep.hanks = s.rep.hanks ∧
      (s.rep.undrained ≠ [] → s.counts t 5841 s.rep.undrained.length ∧ s.raises t 0x02A)) := by
  have hu : (s.elapse dt).rep = s.rep := State.elapse_rep hs.2.2 dt
  have hc : exec (.restart dt w) s = s.at_ dt (fun u => u.wr 0x11002C w (fun u => if bitOf w.data 0 then u.restartTrace else u)) := rfl
  have hset := State.elapse_settled hs dt
  have hset' := hset
  obtain ⟨hreqs, hhanks, -, -⟩ := hset'
  let v := (s.elapse dt).clearTrace
  have htells : s.Tells {} v.rep := (State.Tells.elapse hs dt).mono
    ⟨⟨[], (List.append_nil _).symm⟩, fun _ => Nat.min_le_right _ _, fun _ _ h => h⟩ rfl rfl rfl rfl
  have hhk : v.rep.hanks = s.rep.hanks := by
    show (s.elapse dt).rep.hanks = _
    rw [hu]
  by_cases hn : s.rep.undrained = []
  · have hg : (if bitOf w.data 0 then (s.elapse dt).restartTrace else s.elapse dt) = v :=
      (if_pos h0).trans (if_pos (by rw [hu, hn]; rfl))
    exact answers_wr_settles (v := v) hs hw hc hg hset
      ⟨rfl, rfl, rfl, rfl, rfl, rfl, rfl, hhk, fun h => absurd hn h⟩
  · have hg : (if bitOf w.data 0 then (s.elapse dt).restartTrace else s.elapse dt) = (v.countN 5841 s.rep.undrained.length).raise 0x02A := by
      rw [if_pos h0]
      unfold State.restartTrace
      rw [hu, if_neg fun h => hn (List.length_eq_zero_iff.1 h)]
    have hfo : Rep.FiresOnly v.rep ((v.countN 5841 s.rep.undrained.length).raise 0x02A).rep :=
      (v.countN_firesOnly _ _).trans (State.raise_firesOnly _ _)
    refine answers_fires (v := v) hs (dt := dt) hc
      (by rw [State.wr_pass ((State.wrReason_elapse hs.2.2 dt 0x11002C w).trans hw), hg]; rfl)
      ((htells.countN 5841 s.rep.undrained.length).raise 0x02A (congrArg RegSt.live (s.elapse_regs dt))) ?_ ?_ fun r told hf => ?_
    · exact (congrArg Rep.slubReqs hfo).trans hreqs
    · exact (congrArg Rep.hankReqs hfo).trans hhanks
    · have hr : Rep.FiresOnly v.rep r := hfo.trans hf
      refine ⟨rfl, ?_, ?_, ?_, ?_, ?_, ?_, ?_, fun _ => ⟨told.counts (5841, _) (by simp), told.raises 0x02A (by simp)⟩⟩
      · exact (congrArg Rep.trace hr).trans rfl
      · exact (congrArg Rep.fill hr).trans rfl
      · exact (congrArg Rep.stopSeen hr).trans rfl
      · exact (congrArg Rep.post hr).trans rfl
      · exact (congrArg Rep.frozen hr).trans rfl
      · exact (congrArg Rep.undrained hr).trans rfl
      · exact (congrArg Rep.hanks hr).trans hhk

end

/-! ## The TAP -/

/-- A command at the TAP acts at its instant where the device is up, and at once in RESET (R566). -/
theorem answers_tapRow {c : Instr} {s : State} {dt : Nat} {f : State → State} {P : State → Prop} (h : s.ready ∨ s.dev.st = .reset)
    (hc : exec c s = s.tapRow dt f) (hf : ∀ u : State, u.settled → (f u).settled) (hP : P (f (if s.up then s.elapse dt else s))) :
    Answers c s P := by
  by_cases hup : s.up = true
  · have hs : s.ready := h.resolve_right fun hr => by
      unfold State.up at hup
      rw [hr] at hup
      cases hup
    rw [if_pos hup] at hP
    refine answers_settles hs (dt := dt) (g := f) (hc.trans (if_pos hup)) rfl (hf _ (State.elapse_settled hs dt)) hP
  · rw [if_neg hup] at hP
    have hst : s.dev.st ≠ .off := by
      rcases h with hs | hr
      · exact absurd hs.1 hup
      · rw [hr]; decide
    refine ⟨_, hc.trans ((if_neg hup).trans (congrArg Host.Outcome.next (if_neg hst))), hP⟩

section
variable {s : State} {dt : Nat} (h : s.ready ∨ s.dev.st = .reset)
include h

theorem State.tapped_dev : (if s.up then s.elapse dt else s).dev = s.dev ∧ (if s.up then s.elapse dt else s).free = s.free ∧
    (if s.up then s.elapse dt else s).rep = s.rep := by
  split
  · rename_i hup
    have hs : s.ready := h.resolve_right fun hr => by
      unfold State.up at hup
      rw [hr] at hup
      cases hup
    exact ⟨s.elapse_dev dt, s.elapse_free dt, State.elapse_rep hs.2.2 dt⟩
  · exact ⟨rfl, rfl, rfl⟩

theorem answers_tapIdcode : Answers (.tapIdcode dt) s (fun t =>
    t = { (if s.up then s.elapse dt else s) with
      dev := { s.dev with tap := .idcode }, rep := { s.rep with out := s.rep.out ++ [.tap idcode] } }) := by
  obtain ⟨hdev, -, hrep⟩ := State.tapped_dev (dt := dt) h
  refine answers_tapRow h (show execTapIdcode dt s = _ from rfl) (fun _ hu => hu) ?_
  rw [← hdev, ← hrep]
  rfl

theorem answers_tapSamplePreload : Answers (.tapSamplePreload dt) s (fun t =>
    t = { (if s.up then s.elapse dt else s) with
      dev := { s.dev with tap := .sample, scan := t.dev.scan }, free := s.free + 1 } ∧ t.dev.scan.isSome = true) := by
  obtain ⟨hdev, hfree, -⟩ := State.tapped_dev (dt := dt) h
  refine answers_tapRow h (show execTapSamplePreload dt s = _ from rfl) (fun _ hu => hu) ?_
  rw [← hdev, ← hfree]
  exact ⟨rfl, rfl⟩

theorem answers_tapBypass : Answers (.tapBypass dt) s (fun t =>
    t = { (if s.up then s.elapse dt else s) with dev := { s.dev with tap := .bypass } }) := by
  obtain ⟨hdev, -, -⟩ := State.tapped_dev (dt := dt) h
  refine answers_tapRow h (show execTapBypass dt s = _ from rfl) (fun _ hu => hu) ?_
  rw [← hdev]

theorem answers_trstAssert : Answers (.trstAssert dt) s (fun t =>
    t = { (if s.up then s.elapse dt else s) with dev := { s.dev with tap := .idcode } }) := by
  obtain ⟨hdev, -, -⟩ := State.tapped_dev (dt := dt) h
  refine answers_tapRow h (show execTrstAssert dt s = _ from rfl) (fun _ hu => hu) ?_
  rw [← hdev]

end

/-- In OFF there is no TAP (R561). -/
theorem answers_tap_off {c : Instr} {s : State} {dt : Nat} (hoff : s.dev.st = .off)
    (hc : c = .tapIdcode dt ∨ c = .tapSamplePreload dt ∨ c = .tapBypass dt ∨ c = .trstAssert dt) : Answers c s (fun t => t = s) := by
  have hup : ¬s.up = true := by
    unfold State.up
    rw [hoff]
    decide
  have hrow : ∀ f, s.tapRow dt f = .next s := fun f => (if_neg hup).trans (congrArg Host.Outcome.next (if_pos hoff))
  rcases hc with rfl | rfl | rfl | rfl
  · exact ⟨s, show execTapIdcode dt s = _ from hrow _, rfl⟩
  · exact ⟨s, show execTapSamplePreload dt s = _ from hrow _, rfl⟩
  · exact ⟨s, show execTapBypass dt s = _ from hrow _, rfl⟩
  · exact ⟨s, show execTrstAssert dt s = _ from hrow _, rfl⟩

/-- A word of four fields. -/
theorem packWord_four (a b c d i j k l : Nat) :
    packWord [(i, a), (j, b), (k, c), (l, d)] = BitVec.ofNat 32 (0 + a * 2 ^ i + b * 2 ^ j + c * 2 ^ k + d * 2 ^ l) := rfl

/-- The word of IDCODE: bit 0, the part number, and what stands beside them in [11:1] and [31:28] (R561). -/
def codeWord (x y : Nat) : Word := packWord [(0, 1), (1, x), (12, 0x1618), (28, y)]

theorem codeWord_toNat {x y : Nat} (hx : x < 2048) (hy : y < 16) :
    (codeWord x y).toNat = 1 + x * 2 + 5656 * 4096 + y * 268435456 := by
  unfold codeWord
  rw [packWord_four, BitVec.toNat_ofNat]
  omega

theorem codeWord_bit0 {x y : Nat} (hx : x < 2048) (hy : y < 16) : (codeWord x y).getLsbD 0 = true := by
  unfold BitVec.getLsbD
  rw [codeWord_toNat hx hy, Nat.testBit_zero, decide_eq_true_eq]
  omega

theorem codeWord_part {x y : Nat} (hx : x < 2048) (hy : y < 16) : fieldOf (codeWord x y) 12 16 = 0x1618 := by
  unfold fieldOf
  rw [codeWord_toNat hx hy]
  omega

theorem idcode_eq : ∃ x y, x < 2048 ∧ y < 16 ∧ idcode = codeWord x y := by
  have hx : Config.jedec.toNat < 2048 := Config.jedec.isLt
  have hy : Config.coreStep.toNat < 16 := Config.coreStep.isLt
  refine ⟨Config.jedec.toNat, Config.coreStep.toNat, hx, hy, ?_⟩
  delta idcode codeWord
  exact Eq.refl (packWord [(0, 1), (1, Config.jedec.toNat), (12, 0x1618), (28, Config.coreStep.toNat)])

theorem idcode_fields : idcode.getLsbD 0 = true ∧ fieldOf idcode 12 16 = 0x1618 := by
  obtain ⟨x, y, hx, hy, h⟩ := idcode_eq
  rw [h]
  exact ⟨codeWord_bit0 hx hy, codeWord_part hx hy⟩

/-- Settles O58: hank output by the state of the trace buffer, then its freeze, RESTART, and the TAP's four commands. -/
theorem hanksAreTracedAndTheTapSelects : Obligations.HanksAreTracedAndTheTapSelects := by
  unfold Obligations.HanksAreTracedAndTheTapSelects
  refine ⟨fun s dt hs => ⟨answers_hankOutput_none hs, fun h l hq => ⟨fun hcl => ?_, fun hb hop hun => ?_⟩,
    answers_traceBufferFreeze hs, answers_traceBufferFreeze_not hs, fun w hw h0 => answers_restart hs hw h0⟩,
    fun s dt => ⟨fun h => ?_, fun hoff c hc => answers_tap_off hoff hc, idcode_fields⟩⟩
  · exact answers_hankOutput_closed hs hq hcl
  · exact answers_hankOutput_open hs hq hb hop hun
  · exact ⟨answers_tapIdcode h, answers_tapSamplePreload h, answers_tapBypass h, answers_trstAssert h⟩

end Sys2Proof.Machine
end

section
/-!
PROOFS. The commands of the exact-match table and of the routes (chapter 4, R122 to R125, Table 4.2).
-/

namespace Sys2Proof.Machine

/-! ## Commands that change the covered image -/

/-- The registers after a change of the covered image (R406, R407). -/
def State.coveredRegs (v : State) : RegSt := { v.regs with passValid := false, graceOn := true, graceLeft := v.fld 0x1020 4 4 }

/-- A register write at a free instant that changes the covered image and reports nothing of its own. -/
theorem answers_wr_covers {c : Instr} {s : State} {dt off : Nat} {w : Wr} {g : State → State} {P : State → Prop} {v : State}
    (hs : s.ready) (hw : s.passes off w) (hc : exec c s = s.at_ dt (fun u => u.wr off w g)) (hg : g (s.elapse dt) = v.coverChange)
    (hrep : v.rep = (s.elapse dt).rep) (hP : ∀ r, P { v with regs := v.coveredRegs, rep := r }) : Answers c s P := by
  have htells : s.Tells {} v.coverChange.rep := by
    refine State.Tells.coverChange ?_
    rw [hrep]
    exact .elapse hs dt
  obtain ⟨r, hr⟩ : ∃ r, v.coverChange.rep = r := ⟨_, rfl⟩
  have heq := v.coverChange_eq
  rw [hr] at heq htells
  exact answers_wr_tells (v := { v with regs := v.coveredRegs }) hs hw hc (hg.trans heq) htells fun r' _ => hP r'

/-! ## The commands -/

/-- The three commands of the exact-match table are one write (R124). -/
theorem exec_emCmd {s : State} {dt : Nat} {w : Wr} {c : Instr} (h : c = .emInsert dt w ∨ c = .emDelete dt w ∨ c = .emRead dt w) :
    ∃ (bit : Nat) (f : State → State), exec c s = s.at_ dt (fun u => u.wr 0x4800C w (fun u =>
      if u.cr.cmd.isSome then u.discard 0x4800C w.port reasonBusy
      else if bitsSet w.data 3 > 1 then u.tblStart true 7 none else if bitOf w.data bit then f u else u)) := by
  rcases h with rfl | rfl | rfl
  · exact ⟨0, State.emInsert, rfl⟩
  · exact ⟨1, State.emDelete, rfl⟩
  · exact ⟨2, State.emRead, rfl⟩

theorem exec_rtCmd {s : State} {dt : Nat} {w : Wr} {c : Instr} (h : c = .routeWrite dt w ∨ c = .routeRead dt w) :
    ∃ (bit : Nat) (f : State → State), exec c s = s.at_ dt (fun u => u.wr 0x4802C w (fun u =>
      if u.cr.cmd.isSome then u.discard 0x4802C w.port reasonBusy
      else if bitsSet w.data 2 > 1 then u.tblStart false 3 none else if bitOf w.data bit then f u else u)) := by
  rcases h with rfl | rfl
  · exact ⟨0, State.rtWrite, rfl⟩
  · exact ⟨1, State.rtRead, rfl⟩

section
variable {s : State} {dt : Nat} {w : Wr} (hs : s.ready)
include hs

theorem answers_emCmd_busy {c : Instr} (hw : s.passes 0x4800C w) (hb : s.cr.cmd.isSome = true)
    (h : c = .emInsert dt w ∨ c = .emDelete dt w ∨ c = .emRead dt w) : Answers c s (fun t => s.discards t dt 0x4800C w 4) := by
  obtain ⟨bit, f, hc⟩ := exec_emCmd h
  refine answers_wr hs hw hc ?_
  rw [State.elapse_cr, if_pos hb]
  exact State.discards_discard hs dt _ w _

theorem answers_rtCmd_busy {c : Instr} (hw : s.passes 0x4802C w) (hb : s.cr.cmd.isSome = true)
    (h : c = .routeWrite dt w ∨ c = .routeRead dt w) : Answers c s (fun t => s.discards t dt 0x4802C w 4) := by
  obtain ⟨bit, f, hc⟩ := exec_rtCmd h
  refine answers_wr hs hw hc ?_
  rw [State.elapse_cr, if_pos hb]
  exact State.discards_discard hs dt _ w _

/-- A command that only shows its result. -/
theorem answers_tblStart {c : Instr} {off : Nat} {g : State → State} {em : Bool} {r : Nat} {i : Option Nat} (hw : s.passes off w)
    (hc : exec c s = s.at_ dt (fun u => u.wr off w g)) (hg : g (s.elapse dt) = (s.elapse dt).tblStart em r i) :
    Answers c s (fun t => t = { s.elapse dt with cr := { s.cr with cmd := some { em := em, result := r, index := i } } }) := by
  refine answers_wr_becomes hs hw hc hg rfl ?_
  rw [← State.elapse_cr s dt]
  rfl

theorem answers_emCmd_two {c : Instr} (hw : s.passes 0x4800C w) (hidle : s.cr.cmd = none) (h2 : 1 < bitsSet w.data 3)
    (h : c = .emInsert dt w ∨ c = .emDelete dt w ∨ c = .emRead dt w) :
    Answers c s (fun t => t = { s.elapse dt with cr := { s.cr with cmd := t.cr.cmd } } ∧
      t.cr.cmd = some { em := true, result := 7, index := none }) := by
  obtain ⟨bit, f, hc⟩ := exec_emCmd h
  refine (answers_tblStart (em := true) (r := 7) (i := none) hs hw hc ?_).mono ?_
  · rw [State.elapse_cr, hidle, if_neg (by decide), if_pos h2]
  · rintro t rfl
    exact ⟨rfl, rfl⟩

theorem answers_rtCmd_two {c : Instr} (hw : s.passes 0x4802C w) (hidle : s.cr.cmd = none) (h2 : 1 < bitsSet w.data 2)
    (h : c = .routeWrite dt w ∨ c = .routeRead dt w) :
    Answers c s (fun t =>
      t = { s.elapse dt with cr := { s.cr with cmd := some { em := false, result := 3, index := none } } }) := by
  obtain ⟨bit, f, hc⟩ := exec_rtCmd h
  refine answers_tblStart hs hw hc ?_
  rw [State.elapse_cr, hidle, if_neg (by decide), if_pos h2]

end

/-- What a command of a table leaves alone. -/
def State.TableOnly (s t : State) (dt : Nat) : Prop :=
  t = { s.elapse dt with
        cr := { s.cr with em := t.cr.em, rt := t.cr.rt, cmd := t.cr.cmd, emHits := t.cr.emHits }
        mm := { s.mm with emBad := t.mm.emBad }, regs := t.regs, rep := t.rep } ∧
  t.regs.live = s.regs.live ∧ t.regs.shadow = s.regs.shadow

/-- Entry i of the exact-match table alone is changed. -/
def State.EmOnly (s t : State) (i : Nat) (e : Option EmEntry) : Prop :=
  Tbl.look t.cr.em i = e ∧ ∀ k, k ≠ i → Tbl.look t.cr.em k = Tbl.look s.cr.em k

/-- A command bit written alone while no table command is in progress runs its command. -/
theorem exec_emCmd_run {s : State} {dt bit : Nat} {w : Wr} {c : Instr} {f : State → State} (hidle : s.cr.cmd = none)
    (hc : exec c s = s.at_ dt (fun u => u.emCmd bit w f)) (hone : ¬1 < bitsSet w.data 3) (hbit : bitOf w.data bit = true) :
    ∃ g, exec c s = s.at_ dt (fun u => u.wr 0x4800C w g) ∧ g (s.elapse dt) = f (s.elapse dt) := by
  refine ⟨_, hc, ?_⟩
  rw [State.elapse_cr, hidle, if_neg (by decide), if_neg hone, if_pos hbit]

theorem exec_rtCmd_run {s : State} {dt bit : Nat} {w : Wr} {c : Instr} {f : State → State} (hidle : s.cr.cmd = none)
    (hc : exec c s = s.at_ dt (fun u => u.rtCmd bit w f)) (hone : ¬1 < bitsSet w.data 2) (hbit : bitOf w.data bit = true) :
    ∃ g, exec c s = s.at_ dt (fun u => u.wr 0x4802C w g) ∧ g (s.elapse dt) = f (s.elapse dt) := by
  refine ⟨_, hc, ?_⟩
  rw [State.elapse_cr, hidle, if_neg (by decide), if_neg hone, if_pos hbit]

/-- A command writes the exact-match table, in which entry i is mended, and shows a result. -/
def State.emWrite (u : State) (i : Nat) (x : Tbl EmEntry) (r : Nat) : State :=
  (({ u.emMend i with cr := { u.cr with em := x } }).tblStart true r (some i)).coverChange

theorem State.emInsert_found {u : State} {i : Nat} {e : EmEntry} (hfdf : fieldOf (u.rwi 0x48004) 4 2 ≠ 3)
    (hf : u.emFind u.emCh u.emIde u.emId = some i) (hl : Tbl.look u.cr.em i = some e) :
    u.emInsert = u.emWrite i (Tbl.ins u.cr.em i
      { e with fdf := fieldOf (u.rwi 0x48004) 4 2, route := fieldOf (u.rwi 0x48004) 16 12 }) 2 := by
  unfold State.emInsert Tbl.lookD
  simp only [if_neg hfdf, hf, hl]
  rfl

theorem State.emInsert_free {u : State} {i : Nat} (hfdf : fieldOf (u.rwi 0x48004) 4 2 ≠ 3)
    (hf : u.emFind u.emCh u.emIde u.emId = none) (hl : u.emFree u.emCh u.emIde u.emId = some i) :
    u.emInsert = u.emWrite i (Tbl.ins u.cr.em i ⟨u.emCh, u.emIde, u.emId, fieldOf (u.rwi 0x48004) 4 2,
      fieldOf (u.rwi 0x48004) 16 12, 0⟩) 1 := by
  unfold State.emInsert
  simp only [if_neg hfdf, hf, hl]
  rfl

theorem State.emInsert_full {u : State} (hfdf : fieldOf (u.rwi 0x48004) 4 2 ≠ 3)
    (hf : u.emFind u.emCh u.emIde u.emId = none) (hl : u.emFree u.emCh u.emIde u.emId = none) :
    u.emInsert = u.tblStart true 5 none := by
  unfold State.emInsert
  simp only [if_neg hfdf, hf, hl]

theorem State.emDelete_found {u : State} {i : Nat} (hfdf : fieldOf (u.rwi 0x48004) 4 2 ≠ 3)
    (hf : u.emFind u.emCh u.emIde u.emId = some i) : u.emDelete = u.emWrite i (Tbl.del u.cr.em i) 3 := by
  unfold State.emDelete
  simp only [if_neg hfdf, hf]
  rfl

theorem State.emDelete_none {u : State} (hfdf : fieldOf (u.rwi 0x48004) 4 2 ≠ 3)
    (hf : u.emFind u.emCh u.emIde u.emId = none) : u.emDelete = u.tblStart true 6 none := by
  unfold State.emDelete
  simp only [if_neg hfdf, hf]

/-- A READ loads the words of CR_EM_KEY and CR_EM_ARG and the hits of entry i (R123). -/
def State.emLoaded (u : State) (x y : Word) (h i : Nat) : State :=
  ({ (u.setRwi 0x48000 x).setRwi 0x48004 y with cr := { u.cr with emHits := h } } : State).tblStart true 4 (some i)

theorem State.emLoaded_eq (u : State) (x y : Word) (h i : Nat) :
    ({ (u.setRwi 0x48000 x).setRwi 0x48004 y with
      cr := { ((u.setRwi 0x48000 x).setRwi 0x48004 y).cr with emHits := h } } : State).tblStart true 4 (some i) = u.emLoaded x y h i :=
  rfl

theorem State.emShow_tblStart (u : State) (e : EmEntry) (i : Nat) :
    (u.emShow e).tblStart true 4 (some i) =
      u.emLoaded (packWord [(0, e.id.toNat), (29, b01 e.ide)]) (packWord [(0, e.ch), (4, e.fdf), (16, e.route)]) e.hits i :=
  u.emLoaded_eq (packWord [(0, e.id.toNat), (29, b01 e.ide)]) (packWord [(0, e.ch), (4, e.fdf), (16, e.route)]) e.hits i

/-- What the commands look at is as it was. -/
theorem State.elapse_emKey (s : State) (dt : Nat) :
    (s.elapse dt).emFind (s.elapse dt).emCh (s.elapse dt).emIde (s.elapse dt).emId = s.emFind s.emCh s.emIde s.emId ∧
    (s.elapse dt).emFree (s.elapse dt).emCh (s.elapse dt).emIde (s.elapse dt).emId = s.emFree s.emCh s.emIde s.emId ∧
    (s.elapse dt).emCh = s.emCh ∧ (s.elapse dt).emIde = s.emIde ∧ (s.elapse dt).emId = s.emId := by
  simp only [State.emFind, State.emFree, State.emCh, State.emIde, State.emId, State.elapse_rwi, State.elapse_cr, and_self]

section
variable {s : State} {dt : Nat} {w : Wr} {c : Instr} {g : State → State} (hs : s.ready)
include hs

theorem answers_emWrite {off i r : Nat} {x : Tbl EmEntry} (hw : s.passes off w) (hc : exec c s = s.at_ dt (fun u => u.wr off w g))
    (hg : g (s.elapse dt) = (s.elapse dt).emWrite i x r) :
    Answers c s (fun t => s.TableOnly t dt ∧ t.cr.rt = s.cr.rt ∧ t.cr.em = x ∧
      t.cr.cmd = some { em := true, result := r, index := some i }) := by
  refine answers_wr_covers hs hw hc hg rfl fun rp => ?_
  unfold State.TableOnly
  rw [← State.elapse_cr s dt, ← State.elapse_mm s dt, ← State.elapse_regs s dt]
  exact ⟨⟨rfl, rfl, rfl⟩, rfl, rfl, rfl⟩

theorem answers_emShown {off r : Nat} (hw : s.passes off w) (hc : exec c s = s.at_ dt (fun u => u.wr off w g))
    (hg : g (s.elapse dt) = (s.elapse dt).tblStart true r none) :
    Answers c s (fun t => s.TableOnly t dt ∧ t.cr.rt = s.cr.rt ∧ t.cr.em = s.cr.em ∧ t.regs = s.regs ∧ t.cr.emHits = s.cr.emHits ∧
      t.cr.cmd = some { em := true, result := r, index := none }) := by
  refine answers_wr_becomes hs hw hc hg rfl ?_
  unfold State.TableOnly
  rw [← State.elapse_cr s dt, ← State.elapse_mm s dt, ← State.elapse_regs s dt]
  exact ⟨⟨rfl, rfl, rfl⟩, rfl, rfl, rfl, rfl, rfl⟩

/-- An entry shown in the registers: the words of CR_EM_KEY and CR_EM_ARG, and its hits. -/
theorem answers_emLoaded {off i h : Nat} {x y : Word} (hw : s.passes off w) (hc : exec c s = s.at_ dt (fun u => u.wr off w g))
    (hg : g (s.elapse dt) = (s.elapse dt).emLoaded x y h i) :
    Answers c s (fun t => s.TableOnly t dt ∧ t.cr.em = s.cr.em ∧ t.cr.rt = s.cr.rt ∧
      t.rwi 0x48000 = x ∧ t.rwi 0x48004 = y ∧ (∀ o, o ≠ 0x48000 → o ≠ 0x48004 → t.rwi o = s.rwi o) ∧ t.cr.emHits = h ∧
      t.cr.cmd = some { em := true, result := 4, index := some i }) := by
  refine answers_wr_becomes hs hw hc hg rfl ?_
  unfold State.TableOnly
  simp only [← State.elapse_cr s dt, ← State.elapse_mm s dt, ← State.elapse_regs s dt, ← State.elapse_rwi s dt]
  refine ⟨⟨rfl, rfl, rfl⟩, rfl, rfl, ?_, Tbl.lookD_put_self _ _ _ _, fun o h0 h1 => ?_, rfl, rfl⟩
  · exact (Tbl.lookD_put_ne _ _ _ _ (by decide)).trans (Tbl.lookD_put_self _ _ _ _)
  · exact (Tbl.lookD_put_ne _ _ _ _ h1).trans (Tbl.lookD_put_ne _ _ _ _ h0)

end

/-! ## INSERT, DELETE and READ -/

section
variable {s : State} {dt : Nat} {w : Wr} (hs : s.ready) (hw : s.passes 0x4800C w) (hidle : s.cr.cmd = none)
  (hfdf : fieldOf (s.rwi 0x48004) 4 2 ≠ 3)
include hs hw hidle hfdf

theorem answers_emInsert (hd : w.data = 1) :
    Answers (.emInsert dt w) s (fun t => s.TableOnly t dt ∧ t.cr.rt = s.cr.rt ∧
      (∀ i e, s.emFind s.emCh s.emIde s.emId = some i → Tbl.look s.cr.em i = some e →
        s.EmOnly t i (some { e with fdf := fieldOf (s.rwi 0x48004) 4 2, route := fieldOf (s.rwi 0x48004) 16 12 }) ∧
        t.cr.cmd = some { em := true, result := 2, index := some i }) ∧
      (s.emFind s.emCh s.emIde s.emId = none → ∀ i, s.emFree s.emCh s.emIde s.emId = some i →
        s.EmOnly t i (some ⟨s.emCh, s.emIde, s.emId, fieldOf (s.rwi 0x48004) 4 2, fieldOf (s.rwi 0x48004) 16 12, 0⟩) ∧
        t.cr.cmd = some { em := true, result := 1, index := some i }) ∧
      (s.emFind s.emCh s.emIde s.emId = none → s.emFree s.emCh s.emIde s.emId = none →
        t.cr.em = s.cr.em ∧ t.cr.cmd = some { em := true, result := 5, index := none })) := by
  obtain ⟨g, hc, hg⟩ := exec_emCmd_run (bit := 0) (f := State.emInsert) (w := w) hidle (show exec (.emInsert dt w) s = _ from rfl)
    (by rw [hd]; decide) (by rw [hd]; decide)
  obtain ⟨hfind, hfree, hch, hide, hid⟩ := s.elapse_emKey dt
  have hfdf' : fieldOf ((s.elapse dt).rwi 0x48004) 4 2 ≠ 3 := by rwa [State.elapse_rwi]
  cases hf : s.emFind s.emCh s.emIde s.emId with
  | some i =>
    obtain ⟨e, he⟩ : ∃ e, Tbl.look s.cr.em i = some e := by
      have h := List.find?_some hf
      cases hl : Tbl.look s.cr.em i with
      | some e => exact ⟨e, rfl⟩
      | none => simp [hl] at h
    have he' : Tbl.look (s.elapse dt).cr.em i = some e := by rw [State.elapse_cr, he]
    have hins := State.emInsert_found hfdf' (hfind.trans hf) he'
    rw [State.elapse_rwi, State.elapse_cr] at hins
    refine (answers_emWrite hs hw hc (hg.trans hins)).mono fun t ⟨h1, h2, h3, h4⟩ => ⟨h1, h2, ?_, nofun, nofun⟩
    intro i' e' hi' he'
    cases hi'
    rw [he] at he'
    cases he'
    exact ⟨⟨by rw [h3, Tbl.look_ins_self], fun k hk => by rw [h3, Tbl.look_ins_ne _ _ hk]⟩, h4⟩
  | none =>
    cases hl : s.emFree s.emCh s.emIde s.emId with
    | some i =>
      have hins := State.emInsert_free hfdf' (hfind.trans hf) (hfree.trans hl)
      rw [State.elapse_rwi, State.elapse_cr, hch, hide, hid] at hins
      refine (answers_emWrite hs hw hc (hg.trans hins)).mono fun t ⟨h1, h2, h3, h4⟩ => ⟨h1, h2, nofun, ?_, nofun⟩
      intro _ i' hi'
      cases hi'
      exact ⟨⟨by rw [h3, Tbl.look_ins_self], fun k hk => by rw [h3, Tbl.look_ins_ne _ _ hk]⟩, h4⟩
    | none =>
      have hins := State.emInsert_full hfdf' (hfind.trans hf) (hfree.trans hl)
      exact (answers_emShown hs hw hc (hg.trans hins)).mono fun t ⟨h1, h2, h3, _, _, h4⟩ => ⟨h1, h2, nofun, nofun, fun _ _ => ⟨h3, h4⟩⟩

theorem answers_emDelete (hd : w.data = 2) :
    Answers (.emDelete dt w) s (fun t => s.TableOnly t dt ∧ t.cr.rt = s.cr.rt ∧
      (∀ i, s.emFind s.emCh s.emIde s.emId = some i →
        s.EmOnly t i none ∧ t.cr.cmd = some { em := true, result := 3, index := some i }) ∧
      (s.emFind s.emCh s.emIde s.emId = none → t.cr.em = s.cr.em ∧ t.cr.cmd = some { em := true, result := 6, index := none })) := by
  obtain ⟨g, hc, hg⟩ := exec_emCmd_run (bit := 1) (f := State.emDelete) (w := w) hidle (show exec (.emDelete dt w) s = _ from rfl)
    (by rw [hd]; decide) (by rw [hd]; decide)
  obtain ⟨hfind, -⟩ := s.elapse_emKey dt
  have hfdf' : fieldOf ((s.elapse dt).rwi 0x48004) 4 2 ≠ 3 := by rwa [State.elapse_rwi]
  cases hf : s.emFind s.emCh s.emIde s.emId with
  | some i =>
    have hdel := State.emDelete_found hfdf' (hfind.trans hf)
    rw [State.elapse_cr] at hdel
    refine (answers_emWrite hs hw hc (hg.trans hdel)).mono fun t ⟨h1, h2, h3, h4⟩ => ⟨h1, h2, ?_, nofun⟩
    intro i' hi'
    cases hi'
    exact ⟨⟨by rw [h3, Tbl.look_del_self], fun k hk => by rw [h3, Tbl.look_del_ne _ hk]⟩, h4⟩
  | none =>
    exact (answers_emShown hs hw hc (hg.trans (State.emDelete_none hfdf' (hfind.trans hf)))).mono
      fun t ⟨h1, h2, h3, _, _, h4⟩ => ⟨h1, h2, nofun, fun _ => ⟨h3, h4⟩⟩

theorem answers_emRead (hd : w.data = 4) :
    let i := fieldOf (s.rwi 0x48008) 0 15
    Answers (.emRead dt w) s (fun t => s.TableOnly t dt ∧ t.cr.em = s.cr.em ∧ t.cr.rt = s.cr.rt ∧
      (∀ e, Tbl.look s.cr.em i = some e →
        t.rwi 0x48000 = packWord [(0, e.id.toNat), (29, b01 e.ide)] ∧
        t.rwi 0x48004 = packWord [(0, e.ch), (4, e.fdf), (16, e.route)] ∧
        (∀ o, o ≠ 0x48000 → o ≠ 0x48004 → t.rwi o = s.rwi o) ∧ t.cr.emHits = e.hits ∧
        t.cr.cmd = some { em := true, result := 4, index := some i }) ∧
      (Tbl.look s.cr.em i = none → t.regs = s.regs ∧ t.cr.emHits = s.cr.emHits ∧
        t.cr.cmd = some { em := true, result := 6, index := none })) := by
  intro i
  obtain ⟨g, hc, hg⟩ := exec_emCmd_run (bit := 2) (f := State.emRead) (w := w) hidle (show exec (.emRead dt w) s = _ from rfl)
    (by rw [hd]; decide) (by rw [hd]; decide)
  have hfdf' : fieldOf ((s.elapse dt).rwi 0x48004) 4 2 ≠ 3 := by rwa [State.elapse_rwi]
  cases hl : Tbl.look s.cr.em i with
  | none =>
    have hread : (s.elapse dt).emRead = (s.elapse dt).tblStart true 6 none := by
      unfold State.emRead
      simp only [if_neg hfdf']
      rw [State.elapse_rwi, State.elapse_cr, show Tbl.look s.cr.em (fieldOf (s.rwi 0x48008) 0 15) = none from hl]
    exact (answers_emShown hs hw hc (hg.trans hread)).mono fun t ⟨h1, h2, h3, h4, h5, h6⟩ => ⟨h1, h3, h2, nofun, fun _ => ⟨h4, h5, h6⟩⟩
  | some e =>
    have hread : (s.elapse dt).emRead = (s.elapse dt).emLoaded (packWord [(0, e.id.toNat), (29, b01 e.ide)])
        (packWord [(0, e.ch), (4, e.fdf), (16, e.route)]) e.hits i := by
      unfold State.emRead
      simp only [if_neg hfdf']
      rw [State.elapse_rwi, State.elapse_cr, show Tbl.look s.cr.em (fieldOf (s.rwi 0x48008) 0 15) = some e from hl]
      exact State.emShow_tblStart _ _ _
    refine (answers_emLoaded hs hw hc (hg.trans hread)).mono fun t ⟨h1, h2, h3, h4⟩ => ⟨h1, h2, h3, ?_, nofun⟩
    rintro e' he'
    cases he'
    exact h4

end

/-- An FDF of 0b11 ends every command of the exact-match table (Table 4.2; log 81). -/
theorem answers_em_malformed {s : State} {dt : Nat} {w : Wr} {c : Instr} (hs : s.ready) (hw : s.passes 0x4800C w)
    (hidle : s.cr.cmd = none) (hfdf : fieldOf (s.rwi 0x48004) 4 2 = 3)
    (h : c = .emInsert dt w ∧ w.data = 1 ∨ c = .emDelete dt w ∧ w.data = 2 ∨ c = .emRead dt w ∧ w.data = 4) :
    Answers c s (fun t => t = { s.elapse dt with cr := { s.cr with cmd := t.cr.cmd } } ∧
      t.cr.cmd = some { em := true, result := 7, index := none }) := by
  have hfdf' : fieldOf ((s.elapse dt).rwi 0x48004) 4 2 = 3 := by rwa [State.elapse_rwi]
  have hrun : ∃ g, exec c s = s.at_ dt (fun u => u.wr 0x4800C w g) ∧ g (s.elapse dt) = (s.elapse dt).tblStart true 7 none := by
    rcases h with ⟨rfl, hd⟩ | ⟨rfl, hd⟩ | ⟨rfl, hd⟩
    · obtain ⟨g, hc, hg⟩ := exec_emCmd_run (bit := 0) (f := State.emInsert) (w := w) hidle
        (show exec (.emInsert dt w) s = _ from rfl) (by rw [hd]; decide) (by rw [hd]; decide)
      exact ⟨g, hc, hg.trans (if_pos hfdf')⟩
    · obtain ⟨g, hc, hg⟩ := exec_emCmd_run (bit := 1) (f := State.emDelete) (w := w) hidle
        (show exec (.emDelete dt w) s = _ from rfl) (by rw [hd]; decide) (by rw [hd]; decide)
      exact ⟨g, hc, hg.trans (if_pos hfdf')⟩
    · obtain ⟨g, hc, hg⟩ := exec_emCmd_run (bit := 2) (f := State.emRead) (w := w) hidle
        (show exec (.emRead dt w) s = _ from rfl) (by rw [hd]; decide) (by rw [hd]; decide)
      exact ⟨g, hc, hg.trans (if_pos hfdf')⟩
  obtain ⟨g, hc, hg⟩ := hrun
  refine (answers_tblStart hs hw hc hg).mono ?_
  rintro t rfl
  exact ⟨rfl, rfl⟩

/-! ## Routes and results -/

/-- The result of a table command is shown (R124). -/
def CreelSt.shown (x : CreelSt) (k : TblCmd) : CreelSt :=
  if k.em then { x with cmd := none, emResult := k.result, emIndex := k.index.getD x.emIndex }
  else { x with cmd := none, rtResult := k.result }

/-- TABLE_COMMAND_COMPLETE after the time that goes by. -/
def State.tblDone (u : State) : State :=
  match u.cr.cmd with
  | none => u
  | some k => { u with cr := u.cr.shown k }

theorem exec_tableCommandComplete (s : State) (dt : Nat) : exec (.tableCommandComplete dt) s = s.at_ dt State.tblDone := rfl

section
variable {s : State} {dt : Nat} {w : Wr} (hs : s.ready)
include hs

theorem answers_routeWrite (hw : s.passes 0x4802C w) (hidle : s.cr.cmd = none) (hd : w.data = 1) :
    let i := fieldOf (s.rwi 0x48020) 0 12
    Answers (.routeWrite dt w) s (fun t => s.TableOnly t dt ∧ t.cr.em = s.cr.em ∧ t.route i = (s.rwi 0x48024, s.rwi 0x48028) ∧
      (∀ k, k ≠ i → t.route k = s.route k) ∧ t.cr.cmd = some { em := false, result := 1, index := none }) := by
  intro i
  obtain ⟨g, hc, hg⟩ := exec_rtCmd_run (bit := 0) (f := State.rtWrite) (w := w) hidle (show exec (.routeWrite dt w) s = _ from rfl)
    (by rw [hd]; decide) (by rw [hd]; decide)
  refine answers_wr_covers (v := ({ s.elapse dt with
    cr := { (s.elapse dt).cr with rt := Tbl.put (s.elapse dt).cr.rt i (0, 0) (s.rwi 0x48024, s.rwi 0x48028) } } : State).tblStart false 1
      none) hs hw hc (hg.trans ?_) rfl fun rp => ?_
  · unfold State.rtWrite
    simp only [State.elapse_rwi]
    rfl
  · unfold State.TableOnly State.route
    simp only [← State.elapse_cr s dt, ← State.elapse_mm s dt, ← State.elapse_regs s dt]
    exact ⟨⟨rfl, rfl, rfl⟩, rfl, Tbl.lookD_put_self _ _ _ _, fun k hk => Tbl.lookD_put_ne _ _ _ _ hk, rfl⟩

theorem answers_routeRead (hw : s.passes 0x4802C w) (hidle : s.cr.cmd = none) (hd : w.data = 2) :
    let i := fieldOf (s.rwi 0x48020) 0 12
    Answers (.routeRead dt w) s (fun t => s.TableOnly t dt ∧ t.cr.em = s.cr.em ∧ t.cr.rt = s.cr.rt ∧
      t.rwi 0x48024 = (s.route i).1 ∧ t.rwi 0x48028 = (s.route i).2 ∧
      (∀ o, o ≠ 0x48024 → o ≠ 0x48028 → t.rwi o = s.rwi o) ∧ t.cr.cmd = some { em := false, result := 2, index := none }) := by
  intro i
  obtain ⟨g, hc, hg⟩ := exec_rtCmd_run (bit := 1) (f := State.rtRead) (w := w) hidle (show exec (.routeRead dt w) s = _ from rfl)
    (by rw [hd]; decide) (by rw [hd]; decide)
  have hroute : (s.elapse dt).route (fieldOf ((s.elapse dt).rwi 0x48020) 0 12) = s.route i := by
    unfold State.route
    rw [State.elapse_cr, State.elapse_rwi]
  refine answers_wr_becomes (v := (((s.elapse dt).setRwi 0x48024 (s.route i).1).setRwi 0x48028 (s.route i).2).tblStart false 2 none)
    hs hw hc (hg.trans ?_) rfl ?_
  · unfold State.rtRead
    simp only [hroute]
  · unfold State.TableOnly
    simp only [← State.elapse_cr s dt, ← State.elapse_mm s dt, ← State.elapse_regs s dt, ← State.elapse_rwi s dt]
    refine ⟨⟨rfl, rfl, rfl⟩, rfl, rfl, ?_, Tbl.lookD_put_self _ _ _ _, fun o h0 h1 => ?_, rfl⟩
    · exact (Tbl.lookD_put_ne _ _ _ _ (by decide)).trans (Tbl.lookD_put_self _ _ _ _)
    · exact (Tbl.lookD_put_ne _ _ _ _ h1).trans (Tbl.lookD_put_ne _ _ _ _ h0)

theorem answers_tableCommandComplete {k : TblCmd} (hk : s.cr.cmd = some k) :
    Answers (.tableCommandComplete dt) s (fun t =>
      t = { s.elapse dt with
            cr := { s.cr with cmd := none, emResult := t.cr.emResult, rtResult := t.cr.rtResult, emIndex := t.cr.emIndex } } ∧
      (k.em = true → t.cr.emResult = k.result ∧ t.cr.emIndex = k.index.getD s.cr.emIndex ∧ t.cr.rtResult = s.cr.rtResult) ∧
      (k.em = false → t.cr.rtResult = k.result ∧ t.cr.emResult = s.cr.emResult ∧ t.cr.emIndex = s.cr.emIndex)) := by
  rw [← State.elapse_cr s dt] at hk ⊢
  refine answers_becomes (v := { s.elapse dt with cr := (s.elapse dt).cr.shown k }) hs (exec_tableCommandComplete s dt) ?_ rfl ?_
  · unfold State.tblDone
    rw [hk]
  · unfold CreelSt.shown
    cases k.em
    · exact ⟨rfl, nofun, fun _ => ⟨rfl, rfl, rfl⟩⟩
    · exact ⟨rfl, fun _ => ⟨rfl, rfl, rfl⟩, nofun⟩

end

/-- Settles O24: one lemma for each command and for each way in which it ends. -/
theorem tableCommands : Obligations.TableCommands := by
  unfold Obligations.TableCommands
  intro s dt w hs
  refine ⟨fun hw hidle => ⟨fun hd hfdf => answers_emInsert hs hw hidle hfdf hd, fun hd hfdf => answers_emDelete hs hw hidle hfdf hd,
      fun hd hfdf => answers_emRead hs hw hidle hfdf hd, fun c h hfdf => answers_em_malformed hs hw hidle hfdf h,
      fun h2 c h => answers_emCmd_two hs hw hidle h2 h⟩,
    fun hw hb c h => answers_emCmd_busy hs hw hb h, fun hw hb c h => answers_rtCmd_busy hs hw hb h,
    fun hw hidle => ⟨answers_routeWrite hs hw hidle, answers_routeRead hs hw hidle, fun h2 c h => answers_rtCmd_two hs hw hidle h2 h⟩,
    fun k hk => answers_tableCommandComplete hs hk⟩

end Sys2Proof.Machine
end

section
/-!
PROOFS. A descriptor that the model takes (`State.admits`): it is fetched, its completion entry is reserved, and its own rules act
in the state after that (`State.fetchedAt`); its completion is written to the skein that reserved the entry (`Rep.Claims`).
-/

namespace Sys2Proof.Machine

/-! ## Reports change the reporting plane alone -/

/-- From a to b only the reporting plane changes. -/
def State.RepOnly (a b : State) : Prop := b = { a with rep := b.rep }

section
variable {a b : State}

theorem State.RepOnly.refl (a : State) : State.RepOnly a a := rfl

theorem State.RepOnly.trans {c : State} (h : State.RepOnly a b) (g : State.RepOnly b c) : State.RepOnly a c := by
  unfold State.RepOnly at *
  rw [g, h]

variable (h : State.RepOnly a b)
include h

theorem State.RepOnly.live : b.regs.live = a.regs.live := congrArg (fun x => x.regs.live) h
theorem State.RepOnly.rep (r : Rep) : State.RepOnly a { b with rep := r } := h.trans rfl
theorem State.RepOnly.raise (i : Nat) : State.RepOnly a (b.raise i) := h.rep _
theorem State.RepOnly.raiseOnce (g i : Nat) : State.RepOnly a (b.raiseOnce g i) := h.rep _
theorem State.RepOnly.countN (c n : Nat) : State.RepOnly a (b.countN c n) := h.rep _
theorem State.RepOnly.count (c : Nat) : State.RepOnly a (b.count c) := h.rep _
theorem State.RepOnly.slub (c x y z : Nat) : State.RepOnly a (b.slub c x y z) := h.rep _
theorem State.RepOnly.slubAt (t : BitVec 64) (n : BitVec 48) (c x y z : Nat) : State.RepOnly a (b.slubAt t n c x y z) := h.rep _
theorem State.RepOnly.emit (o : Output) : State.RepOnly a (b.emit o) := h.rep _
theorem State.RepOnly.hank (k x y : Nat) (w : BitVec 64) : State.RepOnly a (b.hank k x y w) := h.rep _
theorem State.RepOnly.notifyBoth (off : Nat) (e : EntryBody) : State.RepOnly a (b.notifyBoth off e) := h.rep _
theorem State.RepOnly.complete (d : Desc) (c : Compl) : State.RepOnly a (b.complete d c) := h.rep _
theorem State.RepOnly.completeSt (d : Desc) (op st : Nat) : State.RepOnly a (b.completeSt d op st) := h.rep _
theorem State.RepOnly.reserve (p : Port) (n : Nat) (i : Word) : State.RepOnly a (b.reserve p n i) := h.rep _

end

/-- A command at a free instant that beside its reports changes the state to v. -/
theorem answers_reports {c : Instr} {s : State} {dt : Nat} {g : State → State} {P : State → Prop} {v w : State} {k : Account}
    (hs : s.ready) (hc : exec c s = s.at_ dt g) (hg : g (s.elapse dt) = w) (hw : State.RepOnly v w) (h : s.Tells k w.rep)
    (hP : ∀ r', s.Told k { v with rep := r' } → P { v with rep := r' }) : Answers c s P :=
  answers_tells hs hc (hg.trans hw) h hP

/-- So does a register write that passes the checks. -/
theorem answers_wr_reports {c : Instr} {s : State} {dt off : Nat} {x : Wr} {g : State → State} {P : State → Prop} {v w : State}
    {k : Account} (hs : s.ready) (hx : s.passes off x) (hc : exec c s = s.at_ dt (fun u => u.wr off x g))
    (hg : g (s.elapse dt) = w) (hw : State.RepOnly v w) (h : s.Tells k w.rep)
    (hP : ∀ r', s.Told k { v with rep := r' } → P { v with rep := r' }) : Answers c s P :=
  answers_wr_tells hs hx hc (hg.trans hw) h hP

/-! ## Descriptors -/

/-- A descriptor has come in, and an entry is reserved for its completion (R332). -/
def State.fetchedAt (s : State) (dt : Nat) (d : Desc) : State := (s.elapse dt).reserve d.port d.distaff.val d.index

/-- The completion skein of a descriptor is, but for its reservations, as in s, where it has room and can be written. -/
structure Rep.Claims (s : State) (d : Desc) (r : Rep) : Prop where
  write : (r.port d.port).canWrite = true
  claimed : ((r.port d.port).dsr d.distaff.val).claimed d.index = s.claimedBy d
  ring : ∃ n, (r.port d.port).skn (s.claimedBy d) = { (s.port d.port).skn (s.claimedBy d) with reserved := n }
  serves : (r.port d.port).serves ((s.port d.port).skn (s.claimedBy d)) = true
  room : ((s.port d.port).skn (s.claimedBy d)).used < 2 ^ ((s.port d.port).skn (s.claimedBy d)).log2

theorem Rep.Claims.kept {s : State} {d : Desc} {a b : Rep} (h : Rep.Claims s d a) (hk : Rep.RingsKept a b) : Rep.Claims s d b := by
  obtain ⟨x, y, z, hp⟩ := hk d.port
  obtain ⟨hw, hc, hr, hv, hroom⟩ := h
  exact ⟨by rw [hp]; exact hw, by rw [hp]; exact hc, by rw [hp]; exact hr, by rw [hp]; exact hv, hroom⟩

theorem Rep.Claims.start {s : State} {d : Desc} (h : s.canComplete d) : Rep.Claims s d s.rep := by
  obtain ⟨hwrite, hclaim, hskn, hserves⟩ := (Rep.RingsKept.refl s.rep).canComplete h
  exact ⟨hwrite, hclaim, ⟨_, hskn⟩, hserves, h.2⟩

theorem State.ringsKept_countN (b : State) (c n : Nat) : Rep.RingsKept b.rep (b.countN c n).rep := Rep.ringsKept_count b.rep b.ctx c n
theorem State.ringsKept_count (b : State) (c : Nat) : Rep.RingsKept b.rep (b.count c).rep := b.ringsKept_countN c 1
theorem State.ringsKept_raise (b : State) (i : Nat) : Rep.RingsKept b.rep (b.raise i).rep := Rep.ringsKept_fire b.rep b.ctx i
theorem State.ringsKept_slub (b : State) (c x y z : Nat) : Rep.RingsKept b.rep (b.slub c x y z).rep :=
  .of_port fun p => show b.rep.port p = b.rep.port p from rfl

/-! ## Reserving -/

/-- Reserving an entry for an index leaves its claim as it was: an older claim of the index comes first, and without one it
stands in the CSKEIN anyway. -/
theorem Ring.claimed_reserve (g : Ring) (i : Word) : ({ g with claims := g.claims ++ [(i, g.cskein)] } : Ring).claimed i = g.claimed i := by
  unfold Ring.claimed
  simp only [List.find?_append]
  cases hf : g.claims.find? (fun e => decide (e.1 = i)) with
  | some e => rfl
  | none => simp

section
variable (a : State) (p : Port) (n : Nat) (i : Word)

theorem State.reserve_port : ∃ ds sk, (a.reserve p n i).rep.port p = { a.rep.port p with ds := ds, sk := sk } ∧
    (a.reserve p n i).rep.port p.other = a.rep.port p.other := by
  have hne : p.other ≠ p := by cases p <;> decide
  have h : ∀ (r : Rep) (sk : Tbl Ring) (ds : Tbl Ring), ((r.setPort p { r.port p with sk := sk }).setPort p
      { (r.setPort p { r.port p with sk := sk }).port p with ds := ds }).port p = { r.port p with ds := ds, sk := sk } :=
    fun r sk ds => by rw [Rep.port_setPort_self, Rep.port_setPort_self]
  exact ⟨_, _, h a.rep _ _, (Rep.port_setPort_ne _ _ hne).trans (Rep.port_setPort_ne _ _ hne)⟩

theorem State.reserve_dsr : ((a.reserve p n i).rep.port p).dsr n =
    { (a.rep.port p).dsr n with claims := ((a.rep.port p).dsr n).claims ++ [(i, ((a.rep.port p).dsr n).cskein)] } := by
  unfold State.reserve Rep.setDs
  simp only
  rw [Rep.port_setPort_self]
  exact Tbl.lookD_put_self _ _ _ _

theorem State.reserve_skn (k : Nat) : ∃ m, ((a.reserve p n i).rep.port p).skn k = { (a.rep.port p).skn k with reserved := m } := by
  unfold State.reserve
  simp only
  rw [Rep.skn_setDs]
  unfold Rep.setSk PortSt.skn
  rw [Rep.port_setPort_self, Tbl.lookD_put]
  split
  · rename_i h
    subst h
    exact ⟨_, rfl⟩
  · exact ⟨_, rfl⟩

theorem State.reserve_src (q : Port) : ((a.reserve p n i).rep.port q).src = (a.rep.port q).src := by
  obtain ⟨ds, sk, hp, ho⟩ := a.reserve_port p n i
  by_cases h : q = p
  · rw [h, hp]
  · have : q = p.other := by cases p <;> cases q <;> simp_all [Port.other]
    rw [this, ho]

end

theorem State.reserve_grows (a : State) (p : Port) (n : Nat) (i : Word) : Rep.Grows a.rep (a.reserve p n i).rep :=
  ⟨⟨[], (List.append_nil _).symm⟩, fun _ => Nat.min_le_right _ _, fun q j h => by
    unfold Rep.pends at *
    rwa [State.reserve_src]⟩

theorem State.reserve_settled {a : State} (h : a.settled) (p : Port) (n : Nat) (i : Word) : (a.reserve p n i).settled := h

section
variable {s : State} {dt : Nat} {d : Desc}

theorem State.fetchedAt_repOnly : State.RepOnly (s.elapse dt) (s.fetchedAt dt d) := (State.RepOnly.refl _).reserve _ _ _

theorem State.fetchedAt_live : (s.fetchedAt dt d).regs.live = s.regs.live := congrArg RegSt.live (s.elapse_regs dt)

theorem State.fetchedAt_claims (hs : s.ready) (h : s.canComplete d) : Rep.Claims s d (s.fetchedAt dt d).rep := by
  have hrep : (s.elapse dt).rep = s.rep := State.elapse_rep hs.2.2 dt
  obtain ⟨hwrite, hclaim, ⟨m, hring⟩, hserves, hroom⟩ := Rep.Claims.start h
  obtain ⟨ds, sk, hp, -⟩ := (s.elapse dt).reserve_port d.port d.distaff.val d.index
  obtain ⟨m', hsk⟩ := (s.elapse dt).reserve_skn d.port d.distaff.val d.index (s.claimedBy d)
  have hds := (s.elapse dt).reserve_dsr d.port d.distaff.val d.index
  rw [hrep] at hp hsk hds
  refine ⟨?_, ?_, ⟨m', ?_⟩, ?_, hroom⟩
  · unfold State.fetchedAt
    rw [hp]
    exact hwrite
  · unfold State.fetchedAt
    rw [hds, Ring.claimed_reserve]
    rfl
  · unfold State.fetchedAt
    rw [hsk]
    rfl
  · unfold State.fetchedAt
    rw [hp]
    exact hserves

theorem State.Tells.fetchedAt (hs : s.ready) : s.Tells {} (s.fetchedAt dt d).rep :=
  (State.Tells.elapse hs dt).mono ((s.elapse dt).reserve_grows _ _ _) rfl rfl rfl rfl

theorem State.fetchedAt_settled (hs : s.ready) : (s.fetchedAt dt d).settled := State.elapse_settled hs dt

/-- A completion written to the skein that reserved its entry. -/
theorem State.Tells.completeClaimed {k : Account} {b : State} (h : s.Tells k b.rep) {c : Compl} (hk : Rep.Claims s d b.rep)
    (hc : d.cmpl = true ∨ c.status ≠ 0) : s.Tells { k with compls := (d, c) :: k.compls } (b.complete d c).rep := by
  have hm := h.keepComplete d c
  refine ⟨hm.grows, hm.total, hm.whOld, hm.slubs, hm.raises, hm.once, hm.counts, fun e he => ?_, hm.outs, hm.first⟩
  rcases List.mem_cons.1 he with rfl | he
  case inr => exact hm.wrote e he
  obtain ⟨hwrite, hclaim, ⟨n, hskn⟩, hserves, hroom⟩ := hk
  have hst : (d.cmpl || decide (c.status ≠ 0)) = true := by simpa using hc
  let g := (b.rep.port d.port).dsr d.distaff.val
  let r := b.rep.setDs d.port d.distaff.val (g.unclaim d.index)
  have hport : r.port d.port = { b.rep.port d.port with ds := Tbl.put (b.rep.port d.port).ds d.distaff.val {} (g.unclaim d.index) } :=
    Rep.port_setPort_self _ _ _
  let x : Ring := { (s.port d.port).skn (s.claimedBy d) with reserved := n }
  have hsk : (r.port d.port).skn (s.claimedBy d) = x := by rw [hport]; exact hskn
  have hrep : (b.complete d c).rep =
      (r.setSk d.port (s.claimedBy d) { x with reserved := x.reserved - 1 }).writeEntry b.ctx d.port (s.claimedBy d) (.completion c) := by
    have hw : (r.port d.port).canWrite = true := by rw [hport]; exact hwrite
    have hfull : ((r.port d.port).serves x && decide (x.used < 2 ^ x.log2)) = true := by
      rw [hport, Bool.and_eq_true]
      exact ⟨hserves, decide_eq_true hroom⟩
    show (if _ then _ else _) = _
    rw [if_pos hst, hclaim]
    unfold Rep.complete
    simp only
    rw [hsk, hw, if_neg (by decide), if_pos hfull]
  obtain ⟨i, hdr, l, hl, hmem⟩ := Rep.writeEntry_out
    (r.setSk d.port (s.claimedBy d) { x with reserved := x.reserved - 1 }) b.ctx d.port (s.claimedBy d) (.completion c)
  obtain ⟨m, hm⟩ := h.grows.out
  have hslot : ((r.setSk d.port (s.claimedBy d) { x with reserved := x.reserved - 1 }).port d.port).skn (s.claimedBy d) =
      { x with reserved := x.reserved - 1 } := by
    unfold Rep.setSk PortSt.skn
    rw [Rep.port_setPort_self]
    exact Tbl.lookD_put_self _ _ _ _
  rw [hslot] at hmem
  refine ⟨i, hdr, m ++ l, ?_, List.mem_append_right m hmem⟩
  rw [hrep, hl]
  show b.rep.out ++ l = _
  rw [hm, List.append_assoc]

theorem State.Tells.completeStClaimed {k : Account} {b : State} (h : s.Tells k b.rep) (hk : Rep.Claims s d b.rep) (op : Nat) {st : Nat}
    (hst : st ≠ 0) : s.Tells { k with compls := (d, complOf d op st) :: k.compls } (b.completeSt d op st).rep :=
  h.completeClaimed hk (.inr hst)

/-! ## Acceptance -/

/-- The checks that every descriptor passes (R334, R356, R513). -/
theorem State.acceptFor_admits (hd : s.admits d) {u : State} (hown : u.ownerStart = s.ownerStart) (hdev : u.dev = s.dev) {op n : Nat}
    (hop : op < 14) (f : State → State) : u.acceptFor d op n f = f u := by
  obtain ⟨⟨-, -, hstart, -⟩, howner, hresv, hsafe, -⟩ := hd
  have hst : s.ownerStart = some d.port := by unfold State.ownerStart; rw [hstart]; exact howner
  unfold State.acceptFor
  rw [hown, hst, hresv, hdev]
  simp [hsafe, Nat.not_le.2 hop]

theorem State.fetchedAt_ownerStart (hs : s.ready) : (s.fetchedAt dt d).ownerStart = s.ownerStart := by
  show (s.elapse dt).ow.start.getD (s.elapse dt).ow.owner = _
  rw [State.elapse_ow hs.2.2]
  rfl

theorem State.fetchedAt_fenced : (s.fetchedAt dt d).fenced d.port d.distaff = s.fenced d.port d.distaff := by
  show (s.elapse dt).fences.any _ = _
  rw [State.elapse_fences]
  rfl

/-- A descriptor that takes nothing from a value line acts by its own rules in the state that it is fetchedAt to. -/
theorem State.descRow_admits (hd : s.admits d) {b : DescBody} (hb : ∀ u : State, u.prefetch d b = u) {op n : Nat} (hop : op < 14)
    (f : State → State) :
    ((s.elapse dt).reserve d.port d.distaff.val d.index |>.prefetch d b |>.offerDesc d b fun u => u.acceptFor d op n f) =
      f (s.fetchedAt dt d) := by
  rw [hb]
  show (s.fetchedAt dt d).offerDesc d b _ = _
  unfold State.offerDesc
  rw [State.fetchedAt_fenced, hd.2.2.2.2, if_neg (by decide)]
  exact State.acceptFor_admits hd (State.fetchedAt_ownerStart hd.1) (s.elapse_dev dt) hop f

end

/-- A descriptor that passes its checks and whose own rules change the state to v beside their reports. -/
theorem answers_desc {c : Instr} {s : State} {dt : Nat} {d : Desc} {b : DescBody} {op n : Nat} {f : State → State} {P : State → Prop}
    {v w : State} {k : Account} (hd : s.admits d) (hc : exec c s = s.descRow dt d b (fun u => u.acceptFor d op n f))
    (hb : ∀ u : State, u.prefetch d b = u) (hop : op < 14) (hg : f (s.fetchedAt dt d) = w) (hw : State.RepOnly v w) (h : s.Tells k w.rep)
    (hP : ∀ r', s.Told k { v with rep := r' } → P { v with rep := r' }) : Answers c s P :=
  answers_reports hd.1 (hc.trans rfl) ((State.descRow_admits hd hb hop f).trans hg) hw h hP

/-- One that reports nothing. -/
theorem answers_desc_settles {c : Instr} {s : State} {dt : Nat} {d : Desc} {b : DescBody} {op n : Nat} {f : State → State}
    {P : State → Prop} {v : State} (hd : s.admits d) (hc : exec c s = s.descRow dt d b (fun u => u.acceptFor d op n f))
    (hb : ∀ u : State, u.prefetch d b = u) (hop : op < 14) (hg : f (s.fetchedAt dt d) = v) (hv : v.settled) (hP : P v) : Answers c s P :=
  answers_settles hd.1 (hc.trans rfl) ((State.descRow_admits hd hb hop f).trans hg) hv hP

end Sys2Proof.Machine
end

section
/-!
PROOFS. The key store: KEY_LOAD by its checks, its completion, KS_LOCK with the bits that wait for a load, and the posted writes.
-/

namespace Sys2Proof.Machine

/-! ## KEY_LOAD -/

/-- What KEY_LOAD does after the checks that every descriptor passes (R540). -/
def State.checkKey (s : State) (d : Desc) (b : KeyBody) : State :=
  let slot := b.slot.toNat
  if b.blobLen.toNat ≠ 24 then (s.ksResult slot 2).completeSt d 12 2
  else if s.ksLocked slot then (((s.ksResult slot 10).count 5834).raise 0x025).completeSt d 12 10
  else if blobTag b ≠ leBytes 8 b.t.toNat then
    ((((s.ksResult slot 11).count 5833).slub 0x1002 slot 0 0).raise 0x023).completeSt d 12 11
  else { s with ks := { s.ks with loads := s.ks.loads ++ [{ desc := d, slot := slot, key := blobKey b }] } }

/-- The bits of a KS_LOCK write that wait for a load into their slot. -/
def State.keyWait (s : State) (half : Nat) (data : Word) : List (Nat × Word) :=
  ((ksLockSlots half data).filter (fun i => s.loadingKey i && !s.ksLocked i)).map (fun i => (i, BitVec.ofNat 32 (2 ^ ksLockBit i)))

/-- A word without the bits of a list. -/
def clearBits (l : List (Nat × Word)) (w : Word) : Word := l.foldl (fun (m : Word) e => m &&& ~~~e.2) w

/-- KS_LOCK after the checks of a register write (R541, R551). -/
def State.lockKeys (s : State) (half : Nat) (data : Word) : State :=
  let s1 := s.setLock (0x100010 + 4 * half) (clearBits (s.keyWait half data) data)
  { s1 with ks := { s1.ks with
      lockPend := s1.ks.lockPend ++ s.keyWait half data, posted := some (0x100010 + 4 * half, data) } }

section
variable {s : State} {dt : Nat} {d : Desc} {b : KeyBody}

theorem State.fetchedAt_ksLocked (slot : Nat) : (s.fetchedAt dt d).ksLocked slot = s.ksLocked slot := by
  show bitOf (Tbl.lookD (s.elapse dt).locks _ 0) _ = _
  rw [State.elapse_locks]
  rfl

/-- The state in which a result of KEY_LOAD is shown and nothing else has changed but the reports. -/
theorem State.ksResult_repOnly (slot st : Nat) :
    State.RepOnly { s.elapse dt with ks := { s.ks with lastSlot := slot, lastResult := st } } ((s.fetchedAt dt d).ksResult slot st) := by
  rw [← s.elapse_ks dt]
  exact rfl

section
variable (hd : s.admits d)
include hd

theorem answers_keyLoad_length (h : b.blobLen.toNat ≠ 24) (hcan : s.canComplete d) :
    Answers (.keyLoad dt d b) s (fun t =>
      t = { s.elapse dt with ks := { s.ks with lastSlot := b.slot.toNat, lastResult := 2 }, rep := t.rep } ∧
      s.completes t d (complOf d 12 2)) := by
  let u := (s.fetchedAt dt d).ksResult b.slot.toNat 2
  have hu : s.Tells {} u.rep := State.Tells.fetchedAt hd.1
  refine answers_desc (f := fun u => u.checkKey d b) hd (show exec (.keyLoad dt d b) s = _ from rfl) (fun _ => rfl) (by decide)
    (if_pos h) ((State.ksResult_repOnly _ 2).completeSt d 12 2)
    (hu.completeStClaimed (b := u) (State.fetchedAt_claims hd.1 hcan) 12 (by decide)) fun r told => ?_
  exact ⟨rfl, told.completes _ List.mem_cons_self⟩

theorem answers_keyLoad_locked (hlen : b.blobLen.toNat = 24) (h : s.ksLocked b.slot.toNat = true) (hcan : s.canComplete d) :
    Answers (.keyLoad dt d b) s (fun t =>
      (t = { s.elapse dt with ks := { s.ks with lastSlot := b.slot.toNat, lastResult := 10 }, rep := t.rep } ∧
        s.completes t d (complOf d 12 10)) ∧ s.counts t 5834 1 ∧ s.raises t 0x025) := by
  let u := (s.fetchedAt dt d).ksResult b.slot.toNat 10
  have hu : s.Tells {} u.rep := State.Tells.fetchedAt hd.1
  have hkeep := (u.ringsKept_count 5834).trans ((u.count 5834).ringsKept_raise 0x025)
  have hlive := ((State.RepOnly.refl u).count 5834).live.trans (State.fetchedAt_live (dt := dt) (d := d))
  refine answers_desc (f := fun u => u.checkKey d b) hd (show exec (.keyLoad dt d b) s = _ from rfl) (fun _ => rfl) (by decide)
    ((if_neg (not_not.2 hlen)).trans (if_pos ((State.fetchedAt_ksLocked _).trans h)))
    ((((State.ksResult_repOnly _ 10).count 5834).raise 0x025).completeSt d 12 10)
    (((hu.count 5834).raise 0x025 hlive).completeStClaimed ((State.fetchedAt_claims hd.1 hcan).kept hkeep) 12 (by decide)) fun r told => ?_
  exact ⟨⟨rfl, told.completes _ List.mem_cons_self⟩, told.counts (5834, 1) (by simp), told.raises 0x025 (by simp)⟩

theorem answers_keyLoad_tag (hlen : b.blobLen.toNat = 24) (hlock : s.ksLocked b.slot.toNat = false)
    (h : blobTag b ≠ leBytes 8 b.t.toNat) (hcan : s.canComplete d) :
    Answers (.keyLoad dt d b) s (fun t =>
      (t = { s.elapse dt with ks := { s.ks with lastSlot := b.slot.toNat, lastResult := 11 }, rep := t.rep } ∧
        s.completes t d (complOf d 12 11)) ∧ s.counts t 5833 1 ∧ s.raises t 0x023 ∧ s.logs t 0x1002 b.slot.toNat 0 0) := by
  let u := (s.fetchedAt dt d).ksResult b.slot.toNat 11
  have hu : s.Tells {} u.rep := State.Tells.fetchedAt hd.1
  have hkeep := ((u.ringsKept_count 5833).trans ((u.count 5833).ringsKept_slub 0x1002 b.slot.toNat 0 0)).trans
    (State.ringsKept_raise _ 0x023)
  have hlive := (((State.RepOnly.refl u).count 5833).slub 0x1002 b.slot.toNat 0 0).live.trans (State.fetchedAt_live (dt := dt) (d := d))
  refine answers_desc (f := fun u => u.checkKey d b) hd (show exec (.keyLoad dt d b) s = _ from rfl) (fun _ => rfl) (by decide)
    ((if_neg (not_not.2 hlen)).trans ((if_neg (by rw [State.fetchedAt_ksLocked, hlock]; decide)).trans (if_pos h)))
    (((((State.ksResult_repOnly _ 11).count 5833).slub 0x1002 b.slot.toNat 0 0).raise 0x023).completeSt d 12 11)
    ((((hu.count 5833).slub 0x1002 b.slot.toNat 0 0).raise 0x023 hlive).completeStClaimed
      ((State.fetchedAt_claims hd.1 hcan).kept hkeep) 12 (by decide)) fun r told => ?_
  exact ⟨⟨rfl, told.completes _ List.mem_cons_self⟩, told.counts (5833, 1) (by simp), told.raises 0x023 (by simp),
    told.logs _ _ _ _ rfl⟩

theorem answers_keyLoad (hlen : b.blobLen.toNat = 24) (hlock : s.ksLocked b.slot.toNat = false)
    (h : blobTag b = leBytes 8 b.t.toNat) :
    Answers (.keyLoad dt d b) s (fun t =>
      t = { s.elapse dt with
            rep := t.rep
            ks := { s.ks with loads := s.ks.loads ++ [{ desc := d, slot := b.slot.toNat, key := blobKey b }] } } ∧
      t.rep.out = s.rep.out) := by
  refine answers_desc_settles (f := fun u => u.checkKey d b) hd (show exec (.keyLoad dt d b) s = _ from rfl) (fun _ => rfl) (by decide)
    ((if_neg (not_not.2 hlen)).trans ((if_neg (by rw [State.fetchedAt_ksLocked, hlock]; decide)).trans (if_neg (not_not.2 h))))
    (State.fetchedAt_settled hd.1) ⟨?_, ?_⟩
  · rw [← s.elapse_ks dt]
    rfl
  · show (s.elapse dt).rep.out = _
    rw [State.elapse_rep hd.1.2.2]

end

/-! ## KEY_LOAD_COMPLETE -/

/-- The key store after the oldest load has ended. -/
def KeySt.loaded (k : KeySt) (x : KeyLoad) (rest : List KeyLoad) : KeySt :=
  { k with
    loads := rest, slots := Tbl.ins k.slots x.slot x.key, base := Tbl.del k.base x.slot
    lastSlot := x.slot, lastResult := 0, lockPend := k.lockPend.filter (fun e => decide (e.1 ≠ x.slot)) }

/-- The end of the oldest load (R540, R541). -/
def State.endLoad (s : State) : State :=
  match s.ks.loads with
  | [] => s
  | x :: rest =>
    let s2 := (s.ks.lockPend.filter (fun e => decide (e.1 = x.slot))).foldl
      (fun (a : State) (e : Nat × Word) => a.setLock (ksLockOff e.1) e.2) { s with ks := s.ks.loaded x rest }
    ((s2.count 5832).raise 0x022).completeSt x.desc 12 0

section
variable {x : KeyLoad} {rest : List KeyLoad} (hl : s.ks.loads = x :: rest)
include hl

theorem State.endLoad_elapse {l : List (Nat × Word)} (hf : s.ks.lockPend.filter (fun e => decide (e.1 = x.slot)) = l) :
    (s.elapse dt).endLoad =
      (((l.foldl (fun (a : State) (e : Nat × Word) => a.setLock (ksLockOff e.1) e.2)
        { s.elapse dt with ks := s.ks.loaded x rest }).count 5832).raise 0x022).completeSt x.desc 12 0 := by
  subst hf
  unfold State.endLoad
  simp only [State.elapse_ks, hl]

theorem answers_keyLoadComplete (hs : s.ready) (hp : ∀ e ∈ s.ks.lockPend, e.1 ≠ x.slot) :
    Answers (.keyLoadComplete dt) s (fun t =>
      t = { s.elapse dt with ks := t.ks, rep := t.rep } ∧ t.ks.loads = rest ∧
      Tbl.look t.ks.slots x.slot = some x.key ∧ Tbl.lookD t.ks.base x.slot 0 = 0 ∧
      (∀ k, k ≠ x.slot → Tbl.look t.ks.slots k = Tbl.look s.ks.slots k) ∧ t.ks.lastSlot = x.slot ∧ t.ks.lastResult = 0 ∧
      s.counts t 5832 1 ∧ s.raises t 0x022 ∧
      (x.desc.cmpl = true → s.canComplete x.desc → s.completes t x.desc (complOf x.desc 12 0))) := by
  have hf : s.ks.lockPend.filter (fun e => decide (e.1 = x.slot)) = [] := by
    rw [List.filter_eq_nil_iff]
    exact fun e he => by simpa using hp e he
  let u : State := { s.elapse dt with ks := s.ks.loaded x rest }
  have htells := ((State.Tells.elapse hs dt : s.Tells {} u.rep).count 5832).raise 0x022
    (show (u.count 5832).regs.live = s.regs.live from congrArg RegSt.live (s.elapse_regs dt))
  have hbase : ∀ t : State, t.ks = s.ks.loaded x rest → t.ks.loads = rest ∧
      Tbl.look t.ks.slots x.slot = some x.key ∧ Tbl.lookD t.ks.base x.slot 0 = 0 ∧
      (∀ k, k ≠ x.slot → Tbl.look t.ks.slots k = Tbl.look s.ks.slots k) ∧ t.ks.lastSlot = x.slot ∧ t.ks.lastResult = 0 := by
    intro t ht
    rw [ht]
    refine ⟨rfl, Tbl.look_ins_self _ _ _, ?_, fun k hk => Tbl.look_ins_ne _ _ hk, rfl, rfl⟩
    show (Tbl.look (Tbl.del s.ks.base x.slot) x.slot).getD 0 = 0
    rw [Tbl.look_del_self]
    rfl
  by_cases hc : x.desc.cmpl = true ∧ s.canComplete x.desc
  case pos =>
    have hkeep : Rep.RingsKept s.rep ((u.count 5832).raise 0x022).rep := by
      rw [← State.elapse_rep hs.2.2 dt]
      exact (u.ringsKept_count 5832).trans ((u.count 5832).ringsKept_raise 0x022)
    refine answers_reports hs (show exec (.keyLoadComplete dt) s = s.at_ dt State.endLoad from rfl)
      (State.endLoad_elapse hl hf) ((((State.RepOnly.refl u).count 5832).raise 0x022).complete _ _) (htells.complete hkeep hc.2 (c := complOf x.desc 12 0) (.inl hc.1)) fun r told => ?_
    obtain ⟨h1, h2, h3, h4, h5, h6⟩ := hbase { u with rep := r } rfl
    exact ⟨rfl, h1, h2, h3, h4, h5, h6, told.counts (5832, 1) (by simp), told.raises 0x022 (by simp),
      fun _ _ => told.completes _ List.mem_cons_self⟩
  case neg =>
    refine answers_reports hs (show exec (.keyLoadComplete dt) s = s.at_ dt State.endLoad from rfl)
      (State.endLoad_elapse hl hf) ((((State.RepOnly.refl u).count 5832).raise 0x022).complete _ _) (htells.keepComplete x.desc (complOf x.desc 12 0)) fun r told => ?_
    obtain ⟨h1, h2, h3, h4, h5, h6⟩ := hbase { u with rep := r } rfl
    exact ⟨rfl, h1, h2, h3, h4, h5, h6, told.counts (5832, 1) (by simp), told.raises 0x022 (by simp),
      fun h1 h2 => absurd ⟨h1, h2⟩ hc⟩

theorem answers_keyLoadComplete_lock (hs : s.ready) {bit : Word} (hp : s.ks.lockPend = [(x.slot, bit)]) :
    Answers (.keyLoadComplete dt) s (fun t =>
      Tbl.look t.ks.slots x.slot = some x.key ∧ t.ks.lockPend = [] ∧
      t.lock (ksLockOff x.slot) = s.lock (ksLockOff x.slot) ||| bit) := by
  have hf : s.ks.lockPend.filter (fun e => decide (e.1 = x.slot)) = [(x.slot, bit)] := by
    rw [hp]
    simp
  let u : State := { s.elapse dt with ks := s.ks.loaded x rest }
  obtain ⟨k, htells, -⟩ := State.Tells.setLock (b := u) (State.Tells.elapse hs dt) (congrArg RegSt.live (s.elapse_regs dt))
    (ksLockOff x.slot) bit
  obtain ⟨hspec, hlive, -, -⟩ := u.setLock_spec (ksLockOff x.slot) bit
  let w := u.setLock (ksLockOff x.slot) bit
  refine answers_reports hs (show exec (.keyLoadComplete dt) s = s.at_ dt State.endLoad from rfl) (State.endLoad_elapse hl hf)
    ((((State.RepOnly.refl w).count 5832).raise 0x022).complete _ _)
    (((htells.count 5832).raise 0x022 (hlive.trans (congrArg RegSt.live (s.elapse_regs dt)))).keepComplete x.desc (complOf x.desc 12 0)) fun r told => ?_
  have hks : w.ks = s.ks.loaded x rest := congrArg State.ks hspec
  have hlk : w.locks = Tbl.put (s.elapse dt).locks (ksLockOff x.slot) 0 ((s.elapse dt).lock (ksLockOff x.slot) ||| bit) :=
    congrArg State.locks hspec
  refine ⟨?_, ?_, ?_⟩
  · show Tbl.look w.ks.slots x.slot = _
    rw [hks]
    exact Tbl.look_ins_self _ _ _
  · show w.ks.lockPend = []
    rw [hks]
    show s.ks.lockPend.filter _ = []
    rw [hp]
    simp
  · show Tbl.lookD w.locks _ 0 = _
    rw [hlk, Tbl.lookD_put_self]
    unfold State.lock
    rw [State.elapse_locks]

end

/-! ## KS_LOCK -/

theorem bitOf_two_pow {i : Nat} (hi : i < 32) : bitOf (BitVec.ofNat 32 (2 ^ i)) i = true := by
  unfold bitOf
  rw [BitVec.getLsbD_ofNat, Nat.testBit_two_pow_self, decide_eq_true hi]
  rfl

theorem clearBits_bit (l : List (Nat × Word)) (w : Word) {i : Nat} (h : ∃ e ∈ l, bitOf e.2 i = true) :
    bitOf (clearBits l w) i = false := by
  unfold clearBits bitOf
  have hoff : ∀ (l : List (Nat × Word)) (w : Word), w.getLsbD i = false →
      (l.foldl (fun (m : Word) e => m &&& ~~~e.2) w).getLsbD i = false := by
    intro l
    induction l with
    | nil => exact fun _ h => h
    | cons e l ih => exact fun w h => ih _ (by simp [h])
  induction l generalizing w with
  | nil => obtain ⟨e, he, -⟩ := h; cases he
  | cons e l ih =>
    obtain ⟨e', he, hbit⟩ := h
    rcases List.mem_cons.1 he with rfl | he
    · refine hoff l _ ?_
      unfold bitOf at hbit
      simp [hbit]
    · exact ih _ ⟨e', he, hbit⟩

theorem State.elapse_keyWait (half : Nat) (data : Word) : (s.elapse dt).keyWait half data = s.keyWait half data := by
  unfold State.keyWait State.loadingKey State.ksLocked State.lock
  simp only [State.elapse_ks, State.elapse_locks]

theorem answers_ksLock_any (hs : s.ready) (half : Fin 2) (w : Wr) (hw : s.passes (0x100010 + 4 * half.val) w) :
    let off := 0x100010 + 4 * half.val
    let now := clearBits (s.keyWait half.val w.data) w.data
    Answers (.ksLock dt half w) s (fun t =>
      t.lock off = s.lock off ||| now ∧ (∀ o, o ≠ off → t.lock o = s.lock o) ∧
      t.ks = { s.ks with lockPend := s.ks.lockPend ++ s.keyWait half.val w.data, posted := some (off, w.data) } ∧
      t.regs.live = s.regs.live ∧ (now &&& ~~~(s.lock off) ≠ 0 → s.raises t 0x05F)) := by
  intro off now
  have hlock : ∀ o, (s.elapse dt).lock o = s.lock o := fun o => by unfold State.lock; rw [State.elapse_locks]
  obtain ⟨k, htells, hsrc⟩ := (State.Tells.elapse hs dt).setLock (congrArg RegSt.live (s.elapse_regs dt)) off now
  obtain ⟨hspec, hlive, -, -⟩ := (s.elapse dt).setLock_spec off now
  obtain ⟨a, ha⟩ : ∃ a, (s.elapse dt).setLock off now = a := ⟨_, rfl⟩
  rw [ha] at htells hspec hlive
  have hks : a.ks = s.ks := (congrArg State.ks hspec).trans (s.elapse_ks dt)
  have hlk : a.locks = Tbl.put (s.elapse dt).locks off 0 ((s.elapse dt).lock off ||| now) := congrArg State.locks hspec
  let v : State := { a with ks := { s.ks with
    lockPend := s.ks.lockPend ++ s.keyWait half.val w.data, posted := some (off, w.data) } }
  refine answers_wr_tells (v := v) hs hw
    (show exec (.ksLock dt half w) s = s.at_ dt (fun u => u.wr off w (fun u => u.lockKeys half.val w.data)) from rfl) ?_ htells
    fun r told => ⟨?_, fun o ho => ?_, rfl, hlive.trans (congrArg RegSt.live (s.elapse_regs dt)), fun hne => ?_⟩
  · unfold State.lockKeys
    simp only [State.elapse_keyWait]
    rw [show (s.elapse dt).setLock _ _ = a from ha, hks]
  · show Tbl.lookD a.locks off 0 = _
    rw [hlk, Tbl.lookD_put_self, hlock]
  · show Tbl.lookD a.locks o 0 = _
    rw [hlk, Tbl.lookD_put_ne _ _ _ _ ho]
    exact hlock o
  · refine told.raises 0x05F (hsrc ?_)
    unfold State.freshLocks
    rwa [hlock]

theorem answers_ksLock (hs : s.ready) (half : Fin 2) (w : Wr) (hw : s.passes (0x100010 + 4 * half.val) w) (hl : s.ks.loads = []) :
    let off := 0x100010 + 4 * half.val
    Answers (.ksLock dt half w) s (fun t =>
      t.lock off = s.lock off ||| w.data ∧ (∀ o, o ≠ off → t.lock o = s.lock o) ∧
      t.ks = { s.ks with posted := some (off, w.data) } ∧ t.regs.live = s.regs.live ∧
      (w.data &&& ~~~(s.lock off) ≠ 0 → s.raises t 0x05F)) := by
  have hwait : s.keyWait half.val w.data = [] := by
    unfold State.keyWait State.loadingKey
    rw [hl]
    simp
  have h := answers_ksLock_any (dt := dt) hs half w hw
  rw [hwait] at h
  simp only [List.append_nil] at h
  exact h

theorem answers_ksLock_loading (hs : s.ready) (half : Fin 2) (w : Wr) (hw : s.passes (0x100010 + 4 * half.val) w) {i : Nat}
    (hi : i < 32) (hb : bitOf w.data i = true) (hload : s.loadingKey (32 * half.val + i) = true)
    (hlk : s.ksLocked (32 * half.val + i) = false) :
    Answers (.ksLock dt half w) s (fun t =>
      t.ksLocked (32 * half.val + i) = false ∧ (32 * half.val + i, BitVec.ofNat 32 (2 ^ i)) ∈ t.ks.lockPend ∧
      t.ks.posted = some (0x100010 + 4 * half.val, w.data)) := by
  have hbit : ksLockBit (32 * half.val + i) = i := by unfold ksLockBit; omega
  have hoff : ksLockOff (32 * half.val + i) = 0x100010 + 4 * half.val := by
    have := half.isLt
    unfold ksLockOff
    split <;> omega
  have hmem : (32 * half.val + i, BitVec.ofNat 32 (2 ^ i)) ∈ s.keyWait half.val w.data := by
    unfold State.keyWait
    refine List.mem_map.2 ⟨32 * half.val + i, List.mem_filter.2 ⟨?_, by rw [hload, hlk]; rfl⟩, by rw [hbit]⟩
    exact List.mem_map.2 ⟨i, List.mem_filter.2 ⟨List.mem_range.2 hi, hb⟩, rfl⟩
  refine (answers_ksLock_any hs half w hw).mono fun t ⟨hlock, _, hks, _, _⟩ => ⟨?_, ?_, by rw [hks]⟩
  · unfold State.ksLocked at hlk ⊢
    rw [hoff, hbit] at hlk ⊢
    rw [hlock]
    have hcl := clearBits_bit (s.keyWait half.val w.data) w.data ⟨_, hmem, bitOf_two_pow hi⟩
    unfold bitOf at hlk hcl ⊢
    rw [BitVec.getLsbD_or, hlk, hcl]
    rfl
  · rw [hks]
    exact List.mem_append_right _ hmem

/-! ## Posted writes -/

/-- The key store takes its posted write (R551). -/
def State.takeKeyWrite (s : State) : State :=
  match s.ks.posted with
  | none => s
  | some (off, v) =>
    let s1 := { s with ks := { s.ks with posted := none } }
    if off = 0x100020 then s1.setRwi off (v &&& 0xFFF) else s1

theorem State.takeKeyWrite_some {off : Nat} {v : Word} (h : s.ks.posted = some (off, v)) :
    (s.elapse dt).takeKeyWrite =
      if off = 0x100020 then State.setRwi { s.elapse dt with ks := { s.ks with posted := none } } off (v &&& 0xFFF)
      else { s.elapse dt with ks := { s.ks with posted := none } } := by
  unfold State.takeKeyWrite
  simp only [State.elapse_ks, h]

theorem answers_ksWriteTaken (hs : s.ready) {off : Nat} {v : Word} (h : s.ks.posted = some (off, v)) :
    (off = 0x100020 →
      Answers (.ksWriteTaken dt) s (fun t =>
        t = { s.elapse dt with ks := { s.ks with posted := none }, regs := { s.regs with rwi := t.regs.rwi } } ∧
        t.rwi 0x100020 = v &&& 0xFFF)) ∧
    (off ≠ 0x100020 →
      Answers (.ksWriteTaken dt) s (fun t => t = { s.elapse dt with ks := { s.ks with posted := none } })) := by
  have hc : exec (.ksWriteTaken dt) s = s.at_ dt State.takeKeyWrite := rfl
  refine ⟨fun ho => ?_, fun ho => ?_⟩
  · refine answers_settles hs hc ((State.takeKeyWrite_some h).trans (if_pos ho)) (State.elapse_settled hs dt) ⟨?_, ?_⟩
    · rw [← s.elapse_regs dt]
      rfl
    · subst ho
      exact Tbl.lookD_put_self _ _ _ _
  · exact answers_settles hs hc ((State.takeKeyWrite_some h).trans (if_neg ho)) (State.elapse_settled hs dt) rfl

theorem answers_ksWriteTaken_none (hs : s.ready) (h : s.ks.posted = none) :
    Answers (.ksWriteTaken dt) s (fun t => t = s.elapse dt) := by
  refine answers_settles hs (show exec (.ksWriteTaken dt) s = s.at_ dt State.takeKeyWrite from rfl) ?_ (State.elapse_settled hs dt) rfl
  unfold State.takeKeyWrite
  rw [State.elapse_ks, h]

end

/-- Settles O57: KEY_LOAD by its first failing check, its completion, KS_LOCK and the posted writes. -/
theorem keysAreLoadedAndLocked : Obligations.KeysAreLoadedAndLocked := by
  unfold Obligations.KeysAreLoadedAndLocked
  refine ⟨fun s dt d b hd => ⟨answers_keyLoad_length hd, answers_keyLoad_locked hd, fun hok => answers_keyLoad_tag hd hok.1 hok.2,
    fun hok => answers_keyLoad hd hok.1 hok.2⟩, fun s dt hs => ⟨fun x rest hl => answers_keyLoadComplete hl hs,
    fun x rest bit hl => answers_keyLoadComplete_lock hl hs, fun half w => ?_, fun off v => answers_ksWriteTaken hs,
    answers_ksWriteTaken_none hs⟩⟩
  exact fun hw => ⟨answers_ksLock hs half w hw, fun i hi => answers_ksLock_loading hs half w hw hi⟩

end Sys2Proof.Machine
end

section
/-!
PROOFS. The segment feeds: what one feed's turn-off, hold and way out of an off state leave, what a quarantine's end leaves, and what
they report.
-/

namespace Sys2Proof.Machine

/-! ## Records that say at least as much -/

/-- A record says at least what another says, with the same slubs and completions. -/
structure Account.Le (k k' : Account) : Prop where
  srcs : ∀ i ∈ k.srcs, i ∈ k'.srcs
  cts : ∀ e ∈ k.cts, e ∈ k'.cts
  outs : ∀ o ∈ k.outs, o ∈ k'.outs
  compls : ∀ e ∈ k.compls, e ∈ k'.compls
  slubs : k'.slubs = k.slubs
  tags : k'.tags = k.tags

theorem Account.Le.refl (k : Account) : k.Le k := ⟨fun _ h => h, fun _ h => h, fun _ h => h, fun _ h => h, rfl, rfl⟩

theorem Account.Le.trans {a b c : Account} (h : a.Le b) (g : b.Le c) : a.Le c :=
  ⟨fun i hi => g.srcs i (h.srcs i hi), fun i hi => g.cts i (h.cts i hi), fun i hi => g.outs i (h.outs i hi),
    fun i hi => g.compls i (h.compls i hi), g.slubs.trans h.slubs, g.tags.trans h.tags⟩

theorem Account.Le.raised (k : Account) (i : Nat) : k.Le { k with srcs := i :: k.srcs } :=
  ⟨fun _ h => List.mem_cons_of_mem _ h, fun _ h => h, fun _ h => h, fun _ h => h, rfl, rfl⟩

theorem Account.Le.counted (k : Account) (e : Nat × Nat) : k.Le { k with cts := e :: k.cts } :=
  ⟨fun _ h => h, fun _ h => List.mem_cons_of_mem _ h, fun _ h => h, fun _ h => h, rfl, rfl⟩

section
variable {s b : State} {k : Account}

theorem State.Tells.ite {c : State} {l l' : List Nat} {p : Prop} [Decidable p] (h : s.Tells { k with srcs := l } b.rep)
    (g : s.Tells { k with srcs := l' } c.rep) : s.Tells { k with srcs := if p then l else l' } (if p then b else c).rep := by
  by_cases hp : p
  · rw [if_pos hp, if_pos hp]
    exact h
  · rw [if_neg hp, if_neg hp]
    exact g

theorem State.RepOnly.ite {a c : State} {p : Prop} [Decidable p] (hb : State.RepOnly a b) (hc : State.RepOnly a c) :
    State.RepOnly a (if p then b else c) := by
  split
  · exact hb
  · exact hc

end

/-! ## One feed -/

@[simp] theorem State.setFeed_feed_self (s : State) (n : Nat) (f : Feed) : (s.setFeed n f).feed n = f := Tbl.lookD_put_self _ _ _ _

theorem State.setFeed_feed_ne (s : State) {n k : Nat} (f : Feed) (h : k ≠ n) : (s.setFeed n f).feed k = s.feed k :=
  Tbl.lookD_put_ne _ _ _ _ h

/-- From a to b one feed and the reports change. -/
def State.OneFeed (n : Nat) (a b : State) : Prop :=
  b = { a with fd := b.fd, rep := b.rep } ∧ b.fd.cfg = a.fd.cfg ∧ ∀ k, k ≠ n → b.feed k = a.feed k

section
variable {n : Nat} {a b c : State}

theorem State.OneFeed.refl (n : Nat) (a : State) : State.OneFeed n a a := ⟨rfl, rfl, fun _ _ => rfl⟩

theorem State.OneFeed.trans (h : State.OneFeed n a b) (g : State.OneFeed n b c) : State.OneFeed n a c := by
  obtain ⟨h1, h2, h3⟩ := h
  obtain ⟨g1, g2, g3⟩ := g
  exact ⟨g1.trans (by rw [h1]), g2.trans h2, fun k hk => (g3 k hk).trans (h3 k hk)⟩

theorem State.OneFeed.ite {p : Prop} [Decidable p] (hb : State.OneFeed n a b) (hc : State.OneFeed n a c) :
    State.OneFeed n a (if p then b else c) := by
  split
  · exact hb
  · exact hc

theorem State.RepOnly.feed (h : State.RepOnly a b) (k : Nat) : b.feed k = a.feed k := congrArg (fun x => x.feed k) h

theorem State.RepOnly.oneFeed (h : State.RepOnly a b) (n : Nat) : State.OneFeed n a b :=
  have hfd : b.fd = a.fd := by rw [show b = _ from h]
  ⟨Eq.trans h (by rw [hfd]), congrArg FieldSt.cfg hfd, fun k _ => h.feed k⟩

theorem State.setFeed_oneFeed (s : State) (n : Nat) (f : Feed) : State.OneFeed n s (s.setFeed n f) :=
  ⟨rfl, rfl, fun _ hk => s.setFeed_feed_ne f hk⟩

theorem State.OneFeed.live (h : State.OneFeed n a b) : b.regs.live = a.regs.live := congrArg (fun x => x.regs.live) h.1
theorem State.OneFeed.clock (h : State.OneFeed n a b) : b.clock = a.clock := congrArg (fun x => x.clock) h.1
theorem State.OneFeed.path (h : State.OneFeed n a b) : b.path = a.path := congrArg (fun x => x.path) h.1

theorem State.OneFeed.only {s : State} {dt : Nat} (h : State.OneFeed n (s.elapse dt) b) (r : Rep) :
    s.onlyFeed { b with rep := r } dt n := by
  obtain ⟨h1, h2, h3⟩ := h
  refine ⟨?_, h2.trans (by rw [State.elapse_fd]), fun k hk => (h3 k hk).trans (State.elapse_feed s dt k)⟩
  rw [h1]

end

/-! ## What an event of a feed leaves -/

section
variable (s : State) (n cause : Nat)

/-- The feed after a cause is recorded. -/
def State.causeFd : State := s.modFeed n (fun f => { f with cause := cause })

theorem State.feedCause_repOnly : State.RepOnly (s.causeFd n cause) (s.feedCause n cause) := (State.RepOnly.refl _).slub _ _ _ _

theorem State.causeFd_feed : (s.causeFd n cause).feed n = { s.feed n with cause := cause } := State.setFeed_feed_self _ _ _

theorem State.causeFd_oneFeed : State.OneFeed n s (s.causeFd n cause) := State.setFeed_oneFeed _ _ _

/-- A feed whose pass gate turns off. -/
def State.offFeed (f : Feed) (st : FeedMode) : Feed :=
  { f with
    st := st, pg := false, drive := .off, cause := cause, onTime := s.clock - f.rampAt, offSince := s.clock
    coolEnd := s.clock + 10 * (s.clock - f.rampAt), metAt := some (s.clock, rowOf cause (decide (st = .disabled))) }

/-- The state in which it has turned off. -/
def State.gateOffFd (st : FeedMode) : State :=
  (s.setFeed n { s.offFeed cause (s.feed n) st with cause := (s.feed n).cause }).causeFd n cause

theorem State.gateOff_repOnly (st : FeedMode) : State.RepOnly (s.gateOffFd n cause st) (s.gateOff n cause st) := by
  have h := (State.feedCause_repOnly (s.setFeed n { s.offFeed cause (s.feed n) st with cause := (s.feed n).cause }) n cause).count
    (feedCounter n cause)
  have h1 := State.RepOnly.ite (p := (s.feed n).pg = true) (h.raise (0x1E0 + 4 * n)) h
  have h2 := State.RepOnly.ite (p := 1 ≤ cause ∧ cause ≤ 6) (h1.raise (0x1E1 + 4 * n))
    (.ite (p := cause = 7 ∨ cause = 8) (h1.raise (0x1E2 + 4 * n)) h1)
  exact .ite (p := st = .latched) (h2.raise (0x1E3 + 4 * n)) h2

theorem State.gateOffFd_feed (st : FeedMode) : (s.gateOffFd n cause st).feed n = s.offFeed cause (s.feed n) st := by
  unfold State.gateOffFd
  rw [State.causeFd_feed, State.setFeed_feed_self]
  rfl

theorem State.gateOffFd_oneFeed (st : FeedMode) : State.OneFeed n s (s.gateOffFd n cause st) :=
  (s.setFeed_oneFeed n _).trans (State.causeFd_oneFeed _ _ _)

theorem State.gateOff_oneFeed (st : FeedMode) : State.OneFeed n s (s.gateOff n cause st) :=
  (s.gateOffFd_oneFeed n cause st).trans ((s.gateOff_repOnly n cause st).oneFeed n)

theorem State.gateOff_feed (st : FeedMode) : (s.gateOff n cause st).feed n = s.offFeed cause (s.feed n) st :=
  ((s.gateOff_repOnly n cause st).feed n).trans (s.gateOffFd_feed n cause st)

end

/-- The sources of a turn-off (R310): power good, the trip or the supply, and LATCHED. -/
def offSrcs (l : List Nat) (pg : Bool) (n cause : Nat) (st : FeedMode) : List Nat :=
  let l1 := if pg = true then (0x1E0 + 4 * n) :: l else l
  let l2 := if 1 ≤ cause ∧ cause ≤ 6 then (0x1E1 + 4 * n) :: l1
    else if cause = 7 ∨ cause = 8 then (0x1E2 + 4 * n) :: l1 else l1
  if st = .latched then (0x1E3 + 4 * n) :: l2 else l2

theorem mem_offSrcs {l : List Nat} {pg : Bool} {n cause : Nat} {st : FeedMode} {i : Nat} :
    i ∈ offSrcs l pg n cause st ↔ (st = .latched ∧ i = 0x1E3 + 4 * n) ∨ ((1 ≤ cause ∧ cause ≤ 6) ∧ i = 0x1E1 + 4 * n) ∨
      ((cause = 7 ∨ cause = 8) ∧ i = 0x1E2 + 4 * n) ∨ (pg = true ∧ i = 0x1E0 + 4 * n) ∨ i ∈ l := by
  have hcons : ∀ (p : Prop) [Decidable p] (x : Nat) (l : List Nat), i ∈ (if p then x :: l else l) ↔ (p ∧ i = x) ∨ i ∈ l := by
    intro p _ x l
    by_cases hp : p <;> simp [hp]
  have hmid : ∀ l : List Nat, i ∈ (if 1 ≤ cause ∧ cause ≤ 6 then (0x1E1 + 4 * n) :: l
      else if cause = 7 ∨ cause = 8 then (0x1E2 + 4 * n) :: l else l) ↔
      ((1 ≤ cause ∧ cause ≤ 6) ∧ i = 0x1E1 + 4 * n) ∨ ((cause = 7 ∨ cause = 8) ∧ i = 0x1E2 + 4 * n) ∨ i ∈ l := by
    intro l
    by_cases h : 1 ≤ cause ∧ cause ≤ 6
    · have h78 : ¬(cause = 7 ∨ cause = 8) := by omega
      simp [h, h78]
    · rw [if_neg h, hcons]
      exact (or_iff_right fun hi => h hi.1).symm
  unfold offSrcs
  rw [hcons, hmid, hcons]

/-- What a pass gate that turns off reports: its slub, its counter and its sources. -/
theorem State.Tells.gateOff {s b : State} {k : Account} (h : s.Tells k b.rep) (hlive : b.regs.live = s.regs.live) (n cause : Nat)
    (st : FeedMode) :
    s.Tells { k with
      slubs := k.slubs ++ [b.slubReq 0x0802 n st.code cause], cts := (feedCounter n cause, 1) :: k.cts
      srcs := offSrcs k.srcs (b.feed n).pg n cause st } (b.gateOff n cause st).rep := by
  let x := b.setFeed n { b.offFeed cause (b.feed n) st with cause := (b.feed n).cause }
  have hq : (x.causeFd n cause).slubReq 0x0802 n (x.feed n).st.code cause = b.slubReq 0x0802 n st.code cause := by
    rw [show x.feed n = _ from State.setFeed_feed_self _ _ _]
    rfl
  have hcount := (State.Tells.slub (b := x.causeFd n cause) h 0x0802 n (x.feed n).st.code cause).count (feedCounter n cause)
  rw [hq] at hcount
  have hx : (x.causeFd n cause).regs.live = s.regs.live := hlive
  have hr := (State.feedCause_repOnly x n cause).count (feedCounter n cause)
  have h1 := (hcount.raise (0x1E0 + 4 * n) (hr.live.trans hx)).ite (p := (b.feed n).pg = true) hcount
  have hr1 := State.RepOnly.ite (p := (b.feed n).pg = true) (hr.raise (0x1E0 + 4 * n)) hr
  have h2 := (h1.raise (0x1E1 + 4 * n) (hr1.live.trans hx)).ite (p := 1 ≤ cause ∧ cause ≤ 6)
    ((h1.raise (0x1E2 + 4 * n) (hr1.live.trans hx)).ite (p := cause = 7 ∨ cause = 8) h1)
  have hr2 := State.RepOnly.ite (p := 1 ≤ cause ∧ cause ≤ 6) (hr1.raise (0x1E1 + 4 * n))
    (.ite (p := cause = 7 ∨ cause = 8) (hr1.raise (0x1E2 + 4 * n)) hr1)
  exact (h2.raise (0x1E3 + 4 * n) (hr2.live.trans hx)).ite (p := st = .latched) h2

end Sys2Proof.Machine
end

section
/-!
PROOFS. What turns a feed off, and its cool-down: the end of a quarantine as the line watch sees it, then each event with its cause.
-/

namespace Sys2Proof.Machine

/-! ## The end of a quarantine -/

/-- From a to b the line watch and the reports change. -/
def State.LineOnly (a b : State) : Prop := b = { a with lw := b.lw, rep := b.rep }

theorem State.LineOnly.refl (a : State) : State.LineOnly a a := rfl

theorem State.LineOnly.trans {a b c : State} (h : State.LineOnly a b) (g : State.LineOnly b c) : State.LineOnly a c := by
  unfold State.LineOnly at *
  rw [g, h]

theorem State.LineOnly.live {a b : State} (h : State.LineOnly a b) : b.regs.live = a.regs.live := congrArg (fun x => x.regs.live) h
theorem State.LineOnly.feed {a b : State} (h : State.LineOnly a b) (k : Nat) : b.feed k = a.feed k := congrArg (fun x => x.feed k) h

@[simp] theorem State.setLine_line_self (s : State) (c : Nat) (v : LineCh) : (s.setLine c v).line c = v := Tbl.lookD_put_self _ _ _ _

theorem State.setLine_line_ne (s : State) {c k : Nat} (v : LineCh) (h : k ≠ c) : (s.setLine c v).line k = s.line k :=
  Tbl.lookD_put_ne _ _ _ _ h

/-- The end of a quarantine on one channel. -/
def State.quarEndOn (s : State) (feed event c : Nat) : State :=
  match (s.line c).quars.find? (fun q => decide (q.feed = feed)) with
  | some q =>
    ((s.modLine c (fun v => { v with quars := v.quars.filter (fun q => decide (q.feed ≠ feed)) })).quarRecord c event feed
      q.action 0x3F).raise 0x1C6
  | none => s

theorem State.quarEnd_eq (s : State) (feed event : Nat) :
    s.quarEnd feed event = channels.foldl (fun a c => a.quarEndOn feed event c) s := rfl

section
variable {s a : State} {k : Account} (feed event : Nat)

theorem State.quarEndOn_lineOnly (c : Nat) : State.LineOnly a (a.quarEndOn feed event c) := by
  unfold State.quarEndOn
  split <;> exact rfl

theorem State.quarEndOn_line_ne {c j : Nat} (h : j ≠ c) : (a.quarEndOn feed event c).line j = a.line j := by
  unfold State.quarEndOn
  split
  · exact a.setLine_line_ne _ h
  · rfl

theorem State.quarEndOn_line (c : Nat) :
    (a.quarEndOn feed event c).line c = { a.line c with quars := (a.line c).quars.filter (fun q => decide (q.feed ≠ feed)) } := by
  unfold State.quarEndOn
  cases hf : (a.line c).quars.find? (fun q => decide (q.feed = feed)) with
  | some q => exact a.setLine_line_self _ _
  | none =>
    have hall : ∀ q ∈ (a.line c).quars, decide (q.feed ≠ feed) = true := by
      simpa using hf
    rw [List.filter_eq_self.2 hall]

theorem State.Tells.quarEndOn (h : s.Tells k a.rep) (hlive : a.regs.live = s.regs.live) (c : Nat) :
    ∃ k', k.Le k' ∧ s.Tells k' (a.quarEndOn feed event c).rep ∧
      ((∃ q ∈ (a.line c).quars, q.feed = feed) → 0x1C6 ∈ k'.srcs) := by
  unfold State.quarEndOn
  cases hf : (a.line c).quars.find? (fun q => decide (q.feed = feed)) with
  | some q =>
    let b := a.modLine c (fun v => { v with quars := v.quars.filter (fun q => decide (q.feed ≠ feed)) })
    have hb : s.Tells k b.rep := h
    exact ⟨_, .raised k 0x1C6, (State.Tells.notifyBoth hb 0x60000 _).raise 0x1C6 hlive, fun _ => List.mem_cons_self⟩
  | none => exact ⟨k, .refl k, h, fun ⟨q, hq, hqf⟩ => absurd hqf (by simpa using List.find?_eq_none.1 hf q hq)⟩

theorem State.quarEnds_lineOnly (l : List Nat) : State.LineOnly a (l.foldl (fun a c => a.quarEndOn feed event c) a) := by
  induction l generalizing a with
  | nil => exact .refl a
  | cons c l ih => exact (State.quarEndOn_lineOnly feed event c).trans ih

theorem State.quarEnds_line (l : List Nat) (hl : l.Nodup) (j : Nat) :
    (l.foldl (fun a c => a.quarEndOn feed event c) a).line j =
      if j ∈ l then { a.line j with quars := (a.line j).quars.filter (fun q => decide (q.feed ≠ feed)) } else a.line j := by
  induction l generalizing a with
  | nil => simp
  | cons c l ih =>
    rw [List.nodup_cons] at hl
    rw [List.foldl_cons, ih hl.2]
    by_cases hj : j = c
    · subst hj
      rw [if_neg hl.1, if_pos List.mem_cons_self, State.quarEndOn_line]
    · simp only [List.mem_cons, hj, false_or, State.quarEndOn_line_ne feed event hj]

theorem State.Tells.quarEnds (l : List Nat) (hl : l.Nodup) (h : s.Tells k a.rep) (hlive : a.regs.live = s.regs.live) :
    ∃ k', k.Le k' ∧ s.Tells k' (l.foldl (fun a c => a.quarEndOn feed event c) a).rep ∧
      ((∃ c ∈ l, ∃ q ∈ (a.line c).quars, q.feed = feed) → 0x1C6 ∈ k'.srcs) := by
  induction l generalizing a k with
  | nil => exact ⟨k, .refl k, h, fun ⟨c, hc, _⟩ => nomatch hc⟩
  | cons c l ih =>
    rw [List.nodup_cons] at hl
    obtain ⟨k1, hle1, h1, hsrc1⟩ := h.quarEndOn feed event hlive c
    obtain ⟨k2, hle2, h2, hsrc2⟩ := ih hl.2 h1 ((State.quarEndOn_lineOnly feed event c).live.trans hlive)
    refine ⟨k2, hle1.trans hle2, h2, fun ⟨j, hj, q, hq, hqf⟩ => ?_⟩
    rcases List.mem_cons.1 hj with rfl | hj
    · exact hle2.srcs _ (hsrc1 ⟨q, hq, hqf⟩)
    · refine hsrc2 ⟨j, hj, q, ?_, hqf⟩
      rw [State.quarEndOn_line_ne feed event fun e : j = c => hl.1 (e ▸ hj)]
      exact hq

theorem channels_nodup : channels.Nodup := List.nodup_range

theorem State.Tells.quarEnd (h : s.Tells k a.rep) (hlive : a.regs.live = s.regs.live) :
    ∃ k', k.Le k' ∧ s.Tells k' (a.quarEnd feed event).rep ∧
      ((∃ c ∈ channels, ∃ q ∈ (a.line c).quars, q.feed = feed) → 0x1C6 ∈ k'.srcs) :=
  h.quarEnds feed event channels channels_nodup hlive

theorem State.quarEnd_lineOnly : State.LineOnly a (a.quarEnd feed event) := State.quarEnds_lineOnly feed event channels

theorem State.quarFail_lineOnly : State.LineOnly a (a.quarFail feed) := by
  unfold State.quarFail
  split
  · exact State.quarEnd_lineOnly feed 6
  · exact .refl a

theorem State.Tells.quarFail (h : s.Tells k a.rep) (hlive : a.regs.live = s.regs.live) :
    ∃ k', k.Le k' ∧ s.Tells k' (a.quarFail feed).rep := by
  unfold State.quarFail
  split
  · obtain ⟨k', hle, ht, -⟩ := h.quarEnd feed 6 hlive
    exact ⟨k', hle, ht⟩
  · exact ⟨k, .refl k, h⟩

end

/-! ## Turn-offs -/

/-- A turn-off with this cause consumes a retry (R302). -/
abbrev State.mayRetry (s : State) (n cause : Nat) : Prop :=
  cause ≤ 4 ∧ fieldOf (s.fcfg n 0) 1 2 = 1 ∧ (s.feed n).retries < fieldOf (s.fcfg n 0) 4 4

/-- The state in which a retry has been consumed, where one is. -/
def State.retryUsed (s : State) (n cause : Nat) : State :=
  if s.mayRetry n cause then s.setFeed n { s.feed n with retries := (s.feed n).retries + 1 } else s

/-- The mode that a trip ends in. -/
def State.tripMode (s : State) (n cause : Nat) : FeedMode := if s.mayRetry n cause then .cooling else .latched

theorem State.trip_eq (s : State) (n cause : Nat) :
    s.trip n cause = ((s.retryUsed n cause).gateOff n cause (s.tripMode n cause)).quarFail n := by
  unfold State.trip State.retryUsed State.tripMode State.mayRetry
  by_cases h : cause ≤ 4 ∧ fieldOf (s.fcfg n 0) 1 2 = 1 ∧ (s.feed n).retries < fieldOf (s.fcfg n 0) 4 4
  · simp [h]
  · have h' : (decide (cause ≤ 4) && decide (fieldOf (s.fcfg n 0) 1 2 = 1) && decide ((s.feed n).retries < fieldOf (s.fcfg n 0) 4 4)) = false := by
      rw [← Bool.not_eq_true]
      simpa [Bool.and_eq_true, and_assoc] using h
    simp only [h', if_neg h]
    rfl

theorem State.retryUsed_oneFeed (s : State) (n cause : Nat) : State.OneFeed n s (s.retryUsed n cause) :=
  .ite (s.setFeed_oneFeed n _) (.refl n s)

theorem State.retryUsed_rep (s : State) (n cause : Nat) : (s.retryUsed n cause).rep = s.rep := by
  unfold State.retryUsed
  split <;> rfl

theorem State.elapse_mayRetry (s : State) (dt n cause : Nat) : (s.elapse dt).mayRetry n cause ↔ s.mayRetry n cause := by
  unfold State.mayRetry State.fcfg
  rw [State.elapse_fd, State.elapse_feed]

theorem State.elapse_retryUsed_feed (s : State) (dt n cause : Nat) :
    ((s.elapse dt).retryUsed n cause).feed n = { s.feed n with
      retries := if s.mayRetry n cause then (s.feed n).retries + 1 else (s.feed n).retries } := by
  unfold State.retryUsed
  by_cases h : s.mayRetry n cause
  · rw [if_pos ((s.elapse_mayRetry dt n cause).2 h), State.setFeed_feed_self, State.elapse_feed, if_pos h]
  · rw [if_neg fun h' => h ((s.elapse_mayRetry dt n cause).1 h'), State.elapse_feed, if_neg h]

section
variable {s : State} {dt n : Nat} (hs : s.ready)
include hs

/-- An event that turns the pass gate off, with or without the end of a quarantine behind it. -/
theorem answers_gateOff {c : Instr} {g : State → State} {a w : State} {cause : Nat} {st : FeedMode} {k : Account} (hc : exec c s = s.at_ dt g)
    (hg : g (s.elapse dt) = w) (ha : State.OneFeed n (s.elapse dt) a) (hk : s.Tells k a.rep) (hno : k.slubs = [])
    (hw : w = a.gateOff n cause st ∨ w = (a.gateOff n cause st).quarFail n) :
    Answers c s (fun t =>
      t = { s.elapse dt with fd := t.fd, lw := t.lw, rep := t.rep } ∧ (∀ j, j ≠ n → t.feed j = s.feed j) ∧
      t.feed n = a.offFeed cause (a.feed n) st ∧ s.logs t 0x0802 n st.code cause ∧
      ((a.feed n).pg = true → s.raises t (0x1E0 + 4 * n)) ∧ (1 ≤ cause → cause ≤ 6 → s.raises t (0x1E1 + 4 * n)) ∧
      (cause = 7 ∨ cause = 8 → s.raises t (0x1E2 + 4 * n)) ∧ (st = .latched → s.raises t (0x1E3 + 4 * n))) := by
  have hlive : a.regs.live = s.regs.live := ha.live.trans (congrArg RegSt.live (s.elapse_regs dt))
  have hoff := State.Tells.gateOff hk hlive n cause st
  have hone := ha.trans (a.gateOff_oneFeed n cause st)
  have hfeed := a.gateOff_feed n cause st
  have hq : (a.slubReq 0x0802 n st.code cause) = (s.elapse dt).slubReq 0x0802 n st.code cause := by rw [ha.1]; rfl
  rw [hq] at hoff
  obtain ⟨b, hb⟩ : ∃ b, a.gateOff n cause st = b := ⟨_, rfl⟩
  rw [hb] at hoff hone hfeed hw
  obtain ⟨k', hle, htell, hline⟩ : ∃ k', Account.Le _ k' ∧ s.Tells k' w.rep ∧ State.LineOnly b w := by
    rcases hw with rfl | rfl
    · exact ⟨_, .refl _, hoff, .refl _⟩
    · obtain ⟨k', hle, htell⟩ := hoff.quarFail n (hone.live.trans (congrArg RegSt.live (s.elapse_regs dt)))
      exact ⟨k', hle, htell, State.quarFail_lineOnly n⟩
  have hrest : w = { s.elapse dt with fd := w.fd, lw := w.lw, rep := w.rep } := by rw [hline, hone.1]
  refine answers_tells (v := { s.elapse dt with fd := w.fd, lw := w.lw }) hs hc (hg.trans hrest) htell fun r told => ?_
  have hsrc : ∀ i, i ∈ offSrcs k.srcs (a.feed n).pg n cause st → s.raises { s.elapse dt with fd := w.fd, lw := w.lw, rep := r } i :=
    fun i hi => told.raises i (hle.srcs i hi)
  refine ⟨rfl, fun j hj => ?_, ?_, ?_, fun h => hsrc _ ?_, fun h1 h6 => hsrc _ ?_, fun h => hsrc _ ?_, fun h => hsrc _ ?_⟩
  · exact ((hline.feed j).trans (hone.2.2 j hj)).trans (State.elapse_feed s dt j)
  · exact (hline.feed n).trans hfeed
  · exact told.logs _ _ _ _ (hle.slubs.trans (by rw [hno]; rfl))
  · exact mem_offSrcs.2 (.inr (.inr (.inr (.inl ⟨h, rfl⟩))))
  · exact mem_offSrcs.2 (.inr (.inl ⟨⟨h1, h6⟩, rfl⟩))
  · exact mem_offSrcs.2 (.inr (.inr (.inl ⟨h, rfl⟩)))
  · exact mem_offSrcs.2 (.inl ⟨h, rfl⟩)

/-- The feed that a turn-off with a cause leaves (Tables 9.6 and 9.8). -/
def State.turnedOff (s : State) (n cause now : Nat) : Feed :=
  { s.feed n with
    st := if 7 ≤ cause then .wait else if s.mayRetry n cause then .cooling else .latched
    retries := if s.mayRetry n cause then (s.feed n).retries + 1 else (s.feed n).retries
    pg := false, drive := .off, cause := cause, onTime := now - (s.feed n).rampAt, offSince := now
    coolEnd := now + 10 * (now - (s.feed n).rampAt), metAt := some (now, rowOf cause false) }

/-- What the statement says of a turn-off. -/
def State.turnsOff (s t : State) (dt n cause : Nat) : Prop :=
  t = { s.elapse dt with fd := t.fd, lw := t.lw, rep := t.rep } ∧ (∀ k, k ≠ n → t.feed k = s.feed k) ∧
  t.feed n = s.turnedOff n cause (s.clock + dt) ∧ s.logs t 0x0802 n (t.feed n).st.code cause ∧
  ((s.feed n).pg = true → s.raises t (0x1E0 + 4 * n)) ∧ (cause ≤ 5 → s.raises t (0x1E1 + 4 * n)) ∧
  (7 ≤ cause → s.raises t (0x1E2 + 4 * n)) ∧ ((t.feed n).st = .latched → s.raises t (0x1E3 + 4 * n))

theorem answers_trip {c : Instr} {g : State → State} {cause : Nat} (hc : exec c s = s.at_ dt g)
    (hg : g (s.elapse dt) = (s.elapse dt).trip n cause) (h1 : 1 ≤ cause) (h5 : cause ≤ 5) :
    Answers c s (fun t => s.turnsOff t dt n cause) := by
  have hone := (s.elapse dt).retryUsed_oneFeed n cause
  have hfeed := s.elapse_retryUsed_feed dt n cause
  have hmode : (s.elapse dt).tripMode n cause = if s.mayRetry n cause then .cooling else .latched :=
    ite_congr (propext (s.elapse_mayRetry dt n cause)) (fun _ => rfl) (fun _ => rfl)
  refine (answers_gateOff hs hc (hg.trans (State.trip_eq _ n cause)) hone
    ((State.retryUsed_rep (s.elapse dt) n cause).symm ▸ State.Tells.elapse hs dt) rfl (.inr rfl)).mono
    fun t ⟨hrest, hne, hn, hlog, hpg, h16, h78, hlat⟩ => ?_
  rw [hmode] at hn hlog hlat
  rw [hfeed] at hn
  rw [hfeed] at hpg
  have hst : t.feed n = s.turnedOff n cause (s.clock + dt) := by
    rw [hn]
    unfold State.offFeed State.turnedOff
    rw [hone.clock, State.elapse_clock, if_neg (by omega : ¬7 ≤ cause)]
    have : decide ((if s.mayRetry n cause then FeedMode.cooling else .latched) = .disabled) = false := by split <;> rfl
    rw [this]
  have hmode' : (t.feed n).st = if s.mayRetry n cause then .cooling else .latched := by rw [hn]; rfl
  exact ⟨hrest, hne, hst, hmode' ▸ hlog, hpg, fun _ => h16 h1 (by omega), fun h => by omega, fun h => hlat (hmode' ▸ h)⟩

theorem answers_loss {c : Instr} {g : State → State} {cause : Nat} (hc : exec c s = s.at_ dt g)
    (hg : g (s.elapse dt) = (s.elapse dt).gateOff n cause .wait) (hcause : cause = 7 ∨ cause = 8) :
    Answers c s (fun t => s.turnsOff t dt n cause) := by
  have hno : ¬s.mayRetry n cause := fun h => by have := h.1; omega
  refine (answers_gateOff hs hc hg (.refl n _) (State.Tells.elapse hs dt) rfl (.inl rfl)).mono fun t ⟨hrest, hne, hn, hlog, hpg, h16, h78, hlat⟩ => ?_
  rw [State.elapse_feed] at hn hpg
  have hst : t.feed n = s.turnedOff n cause (s.clock + dt) := by
    rw [hn]
    unfold State.offFeed State.turnedOff
    rw [State.elapse_clock, if_pos (by omega : 7 ≤ cause), if_neg hno]
    rfl
  have hmode : (t.feed n).st = .wait := by rw [hn]; rfl
  exact ⟨hrest, hne, hst, by rw [hmode]; exact hlog, hpg, fun h => by omega, fun _ => h78 hcause, fun h => by rw [hmode] at h; cases h⟩

end

/-! ## The events of Table 9.8 -/

/-- The events that turn a feed off when their condition holds, with their causes. -/
def State.offEvent (s : State) (dt : Nat) (n : Fin 8) (c : Instr) (cause : Nat) : Prop :=
  let f := s.feed n.val
  let now := s.clock + dt
  (c = .feedStartTimeout dt n ∧ cause = 4 ∧ f.st ≠ .on ∧ fieldOf (s.fcfg n.val 0) 24 8 * 1000000 ≤ now - f.rampAt) ∨
  (c = .feedGateFail dt n ∧ cause = 5 ∧ ∃ a, f.chargeSince = some a ∧ 5000000 ≤ now - a) ∨
  (c = .feedSupplyLoss dt n ∧ cause = 7 ∧ 10 ≤ f.outRun) ∨
  (c = .feedOvervolt dt n ∧ cause = 8 ∧ (3 ≤ f.overA ∨ 3 ≤ f.overB))

/-- An event of a feed's supervision as a change of the state (R308). -/
def State.offRow (n cause : Nat) (p : State → Feed → Bool) (f : State → State) (s : State) : State :=
  if p s (s.feed n) && (s.feed n).st.gateOn then f s
  else if p s (s.feed n) && s.feedMet n (rowOf cause false) then s.count (feedCounter n cause)
  else s

section
variable {s : State} {dt : Nat} {n : Fin 8}

theorem State.offEvent.row {c : Instr} {cause : Nat} (h : s.offEvent dt n c cause) :
    ∃ p f, exec c s = s.at_ dt (State.offRow n.val cause p f) ∧ p (s.elapse dt) ((s.elapse dt).feed n.val) = true ∧
      ((1 ≤ cause ∧ cause ≤ 5 ∧ ∀ u, f u = u.trip n.val cause) ∨ ((cause = 7 ∨ cause = 8) ∧ ∀ u, f u = u.gateOff n.val cause .wait)) := by
  have hcfg : (s.elapse dt).fcfg n.val 0 = s.fcfg n.val 0 := by unfold State.fcfg; rw [State.elapse_fd]
  rcases h with ⟨rfl, rfl, hst, ht⟩ | ⟨rfl, rfl, a, ha, ht⟩ | ⟨rfl, rfl, hrun⟩ | ⟨rfl, rfl, hover⟩
  · refine ⟨fun u f => decide (f.st ≠ .on) && decide (u.clock - f.rampAt ≥ fieldOf (u.fcfg n.val 0) 24 8 * 1000000), _,
      show exec (.feedStartTimeout dt n) s = _ from rfl, ?_, .inl ⟨by decide, by decide, fun _ => rfl⟩⟩
    simp only [State.elapse_feed, State.elapse_clock, hcfg, Bool.and_eq_true, decide_eq_true_eq]
    exact ⟨hst, ht⟩
  · refine ⟨fun u f => match f.chargeSince with | some t => decide (u.clock - t ≥ 5000000) | none => false, _,
      show exec (.feedGateFail dt n) s = _ from rfl, ?_, .inl ⟨by decide, by decide, fun _ => rfl⟩⟩
    simp only [State.elapse_feed, State.elapse_clock, ha, decide_eq_true_eq]
    exact ht
  · refine ⟨fun _ f => decide (f.outRun ≥ 10), _, show exec (.feedSupplyLoss dt n) s = _ from rfl, ?_, .inr ⟨.inl rfl, fun _ => rfl⟩⟩
    rw [State.elapse_feed]
    exact decide_eq_true hrun
  · refine ⟨fun _ f => decide (f.overA ≥ 3 ∨ f.overB ≥ 3), _, show exec (.feedOvervolt dt n) s = _ from rfl, ?_, .inr ⟨.inr rfl, fun _ => rfl⟩⟩
    rw [State.elapse_feed]
    exact decide_eq_true hover

variable (hs : s.ready)
include hs

theorem answers_offEvent {c : Instr} {cause : Nat} (hon : (s.feed n.val).st.gateOn = true) (h : s.offEvent dt n c cause) :
    Answers c s (fun t => s.turnsOff t dt n.val cause) := by
  obtain ⟨p, f, hc, hp, hf⟩ := h.row
  have hrow : State.offRow n.val cause p f (s.elapse dt) = f (s.elapse dt) :=
    if_pos (by rw [hp, State.elapse_feed, hon]; rfl)
  rcases hf with ⟨h1, h5, hf⟩ | ⟨h78, hf⟩
  · exact answers_trip hs hc (hrow.trans (hf _)) h1 h5
  · exact answers_loss hs hc (hrow.trans (hf _)) h78

theorem answers_fastTrip {i : Int} {cause : Nat} (hon : (s.feed n.val).st.gateOn = true) (hi : (s.tripLevel n.val : Int) ≤ i)
    (hcause : cause = if (s.feed n.val).st = .ramp then 3 else 2) :
    Answers (.feedFastTrip dt { feed := n, i := i }) s (fun t => s.turnsOff t dt n.val cause) := by
  have hlevel : (s.elapse dt).tripLevel n.val = s.tripLevel n.val := by
    unfold State.tripLevel State.fcfg
    rw [State.elapse_fd, State.elapse_feed]
  refine answers_trip hs (g := fun u => if (u.feed n.val).st.gateOn && decide (i ≥ (u.tripLevel n.val : Nat))
    then u.trip n.val (if (u.feed n.val).st = .ramp then 3 else 2) else u)
    (show exec (.feedFastTrip dt { feed := n, i := i }) s = _ from rfl) ?_ ?_ ?_
  · simp only [State.elapse_feed, hlevel, hon]
    rw [if_pos (by simpa using hi), hcause]
  · subst hcause
    split <;> omega
  · subst hcause
    split <;> omega

theorem answers_fastTrip_not {i : Int} (h : (s.feed n.val).st.gateOn = false ∨ i < (s.tripLevel n.val : Int)) :
    Answers (.feedFastTrip dt { feed := n, i := i }) s (fun t => t = s.elapse dt) := by
  have hlevel : (s.elapse dt).tripLevel n.val = s.tripLevel n.val := by
    unfold State.tripLevel State.fcfg
    rw [State.elapse_fd, State.elapse_feed]
  refine answers_settles hs (dt := dt) (g := fun u => if (u.feed n.val).st.gateOn && decide (i ≥ (u.tripLevel n.val : Nat))
    then u.trip n.val (if (u.feed n.val).st = .ramp then 3 else 2) else u)
    (show exec (.feedFastTrip dt { feed := n, i := i }) s = _ from rfl) (if_neg ?_) (State.elapse_settled hs dt) rfl
  rw [State.elapse_feed, hlevel]
  rcases h with h | h
  · simp [h]
  · simp [h]

/-- An event below one that has turned the gate off in the same instant is counted alone (R308). -/
theorem answers_offEvent_below {c : Instr} {cause row : Nat} (hoff : (s.feed n.val).st.gateOn = false)
    (hmet : (s.feed n.val).metAt = some (s.clock + dt, row)) (hrow : row < rowOf cause false) (h : s.offEvent dt n c cause) :
    Answers c s (fun t => t = { s.elapse dt with rep := t.rep } ∧ s.counts t (feedCounter n.val cause) 1) := by
  obtain ⟨p, f, hc, hp, -⟩ := h.row
  have hm : (s.elapse dt).feedMet n.val (rowOf cause false) = true := by
    unfold State.feedMet
    rw [State.elapse_feed, hmet]
    simp only [State.elapse_clock, decide_true, Bool.true_and, decide_eq_true_eq]
    exact hrow
  have hg : State.offRow n.val cause p f (s.elapse dt) = (s.elapse dt).count (feedCounter n.val cause) :=
    (if_neg (by rw [State.elapse_feed, hoff]; simp)).trans (if_pos (by rw [hp, hm]; rfl))
  exact answers_reports hs hc hg ((State.RepOnly.refl _).count _) ((State.Tells.elapse hs dt).count _)
    fun r told => ⟨rfl, told.counts _ List.mem_cons_self⟩

/-! ## QP_SHORT and the end of a cool-down -/

/-- QP_SHORT without the end of a quarantine. -/
def State.shorted (s : State) (n : Nat) : State :=
  let s1 := (s.modFeed n (fun f => { f with
    st := .latched, shortRun := 0, quar := false, metAt := some (s.clock, rowOf 6 false) })).feedCause n 6
  let s2 := (s1.count (feedCounter n 6)).raise (0x1E1 + 4 * n)
  if (s.feed n).st = .latched then s2 else s2.raise (0x1E3 + 4 * n)

theorem answers_qpShort (hdis : (s.feed n.val).st ≠ .disabled) (hoff : (s.feed n.val).st.gateOn = false)
    (hrun : 10 ≤ (s.feed n.val).shortRun) :
    Answers (.feedQpShort dt n) s (fun t =>
      t = { s.elapse dt with fd := t.fd, lw := t.lw, rep := t.rep } ∧ (∀ k, k ≠ n.val → t.feed k = s.feed k) ∧
      t.feed n.val = { s.feed n.val with
        st := .latched, shortRun := 0, quar := false, cause := 6, metAt := some (s.clock + dt, rowOf 6 false) } ∧
      s.logs t 0x0802 n.val 7 6 ∧ s.raises t (0x1E1 + 4 * n.val) ∧
      ((s.feed n.val).st ≠ .latched → s.raises t (0x1E3 + 4 * n.val))) := by
  let u := s.elapse dt
  let f' : Feed := { u.feed n.val with st := .latched, shortRun := 0, quar := false, metAt := some (u.clock, rowOf 6 false) }
  let x := u.setFeed n.val f'
  have hxf : x.feed n.val = f' := u.setFeed_feed_self _ _
  have hcause : (x.causeFd n.val 6).slubReq 0x0802 n.val (x.feed n.val).st.code 6 = u.slubReq 0x0802 n.val 7 6 := by
    rw [hxf]
    rfl
  have hlive : (x.causeFd n.val 6).regs.live = s.regs.live := congrArg RegSt.live (s.elapse_regs dt)
  have hr := ((State.feedCause_repOnly x n.val 6).count (feedCounter n.val 6)).raise (0x1E1 + 4 * n.val)
  have h0 : s.Tells {} (x.causeFd n.val 6).rep := State.Tells.elapse hs dt
  have htells := ((State.Tells.slub (b := x.causeFd n.val 6) h0 0x0802 n.val (x.feed n.val).st.code 6).count
    (feedCounter n.val 6)).raise (0x1E1 + 4 * n.val)
    (((State.feedCause_repOnly x n.val 6).count (feedCounter n.val 6)).live.trans hlive)
  rw [hcause] at htells
  have hall := htells.ite (p := (u.feed n.val).st = .latched) (htells.raise (0x1E3 + 4 * n.val) (hr.live.trans hlive))
  have hrep : State.RepOnly (x.causeFd n.val 6) (u.shorted n.val) :=
    .ite (p := (u.feed n.val).st = .latched) hr (hr.raise _)
  replace hall : s.Tells _ (u.shorted n.val).rep := hall
  obtain ⟨b, hb⟩ : ∃ b, u.shorted n.val = b := ⟨_, rfl⟩
  rw [hb] at hall
  have hone : State.OneFeed n.val u b := hb ▸ ((u.setFeed_oneFeed _ _).trans (x.causeFd_oneFeed _ _)).trans (hrep.oneFeed _)
  have hfeed : b.feed n.val = { f' with cause := 6 } := by
    rw [← hb, hrep.feed, State.causeFd_feed, hxf]
  obtain ⟨w, hw⟩ : ∃ w, (if b.inQuar n.val then b.quarEnd n.val 6 else b) = w := ⟨_, rfl⟩
  obtain ⟨k', hle, htell, hline⟩ : ∃ k', Account.Le _ k' ∧ s.Tells k' w.rep ∧ State.LineOnly b w := by
    by_cases hq : b.inQuar n.val = true
    · rw [if_pos hq] at hw
      subst hw
      obtain ⟨k', hle, ht, -⟩ := hall.quarEnd n.val 6 (hone.live.trans (congrArg RegSt.live (s.elapse_regs dt)))
      exact ⟨k', hle, ht, State.quarEnd_lineOnly _ _⟩
    · rw [if_neg hq] at hw
      subst hw
      exact ⟨_, .refl _, hall, .refl _⟩
  have hrest : w = { s.elapse dt with fd := w.fd, lw := w.lw, rep := w.rep } := by rw [hline, hone.1]
  have hcond : (decide ((u.feed n.val).st ≠ .disabled) && !(u.feed n.val).st.gateOn && decide ((u.feed n.val).shortRun ≥ 10)) = true := by
    rw [State.elapse_feed]
    simp [hdis, hoff, hrun]
  refine answers_tells (v := { s.elapse dt with fd := w.fd, lw := w.lw }) hs (show exec (.feedQpShort dt n) s = _ from rfl)
    ((if_pos hcond).trans ((?_ : u.qpShort n.val = w).trans hrest)) htell fun r told => ?_
  · rw [← hw, ← hb]
    rfl
  have hsrc : ∀ i, i ∈ _ → s.raises { s.elapse dt with fd := w.fd, lw := w.lw, rep := r } i :=
    fun i hi => told.raises i (hle.srcs i hi)
  refine ⟨rfl, fun k hk => ?_, ?_, told.logs _ _ _ _ (hle.slubs.trans rfl), hsrc _ ?_, fun hl => hsrc _ ?_⟩
  · exact ((hline.feed k).trans (hone.2.2 k hk)).trans (State.elapse_feed s dt k)
  · refine (hline.feed n.val).trans (hfeed.trans ?_)
    show ({ u.feed n.val with st := _, shortRun := _, quar := _, cause := _, metAt := some (u.clock, _) } : Feed) = _
    rw [State.elapse_feed, State.elapse_clock]
  · show _ ∈ ite _ _ _
    split <;> simp
  · show _ ∈ ite _ _ _
    rw [State.elapse_feed, if_neg hl]
    exact List.mem_cons_self

end

/-- Leaving an off state changes one feed (R303, R305). -/
theorem State.leaveOff_oneFeed (u : State) (n : Nat) : State.OneFeed n u (u.leaveOff n) :=
  .ite (u.setFeed_oneFeed _ _) (.ite (u.setFeed_oneFeed _ _) (u.setFeed_oneFeed _ _))

/-- What leaving an off state leaves of the feed. -/
theorem State.leaveOff_feed (u : State) (n : Nat) :
    let f := u.feed n
    let g := (u.leaveOff n).feed n
    g.st = (if f.isHeld then .held else if f.qualified && u.path then .ramp else .wait) ∧ g.cause = f.cause ∧
      g.retries = f.retries ∧ g.isHeld = f.isHeld ∧ g.cycleEnd = f.cycleEnd ∧ g.pg = f.pg ∧
      (f.isHeld = false → f.qualified = true → u.path = true → g.drive = .slew ∧ g.rampAt = u.clock) ∧ (u.leaveOff n).rep = u.rep := by
  intro f g
  have hg : g = (if f.isHeld then u.setFeed n { f with st := .held } else if f.qualified && u.path then u.enterRamp n
    else u.setFeed n { f with st := .wait }).feed n := rfl
  have hrep : (u.leaveOff n).rep = u.rep := by
    unfold State.leaveOff
    simp only
    split
    · rfl
    · split <;> rfl
  by_cases hh : f.isHeld = true
  · rw [if_pos hh, State.setFeed_feed_self] at hg
    rw [if_pos hh, hg]
    exact ⟨rfl, rfl, rfl, rfl, rfl, rfl, fun h => absurd hh (by rw [h]; decide), hrep⟩
  · rw [if_neg hh] at hg
    rw [if_neg hh]
    by_cases hq : (f.qualified && u.path) = true
    · rw [if_pos hq, State.enterRamp, State.modFeed, State.setFeed_feed_self] at hg
      rw [if_pos hq, hg]
      exact ⟨rfl, rfl, rfl, rfl, rfl, rfl, fun _ _ _ => ⟨rfl, rfl⟩, hrep⟩
    · rw [if_neg hq, State.setFeed_feed_self] at hg
      rw [if_neg hq, hg]
      exact ⟨rfl, rfl, rfl, rfl, rfl, rfl, fun _ h1 h2 => absurd (by rw [h1, h2]; rfl) hq, hrep⟩

theorem State.elapse_path (s : State) (dt : Nat) : (s.elapse dt).path = s.path := by unfold State.path; rw [State.elapse_fa]

section
variable {s : State} {dt : Nat} {n : Fin 8} (hs : s.ready)
include hs

theorem answers_coolingEnd (hst : (s.feed n.val).st = .cooling) (hend : (s.feed n.val).coolEnd ≤ s.clock + dt) (hp : s.path = true) :
    Answers (.feedCoolingEnd dt n) s (fun t =>
      s.onlyFeed t dt n.val ∧ (t.feed n.val).cause = (s.feed n.val).cause ∧ (t.feed n.val).retries = (s.feed n.val).retries ∧
      (t.feed n.val).st = if (s.feed n.val).isHeld then .held else if (s.feed n.val).qualified then .ramp else .wait) := by
  have hcond : (decide (((s.elapse dt).feed n.val).st = .cooling) && decide (((s.elapse dt).feed n.val).coolEnd ≤ (s.elapse dt).clock) &&
      (s.elapse dt).path) = true := by
    rw [State.elapse_feed, State.elapse_clock, State.elapse_path]
    simp [hst, hend, hp]
  obtain ⟨h1, h2, h3, -, -, -, -, hrep⟩ := (s.elapse dt).leaveOff_feed n.val
  rw [State.elapse_feed, State.elapse_path, hp, Bool.and_true] at h1
  rw [State.elapse_feed] at h2 h3
  refine answers_becomes hs (show exec (.feedCoolingEnd dt n) s = _ from rfl) (if_pos hcond) hrep ⟨?_, h2, h3, h1⟩
  exact ((s.elapse dt).leaveOff_oneFeed n.val).only _

theorem answers_coolingEnd_not (hp : s.path = false) :
    Answers (.feedCoolingEnd dt n) s (fun t => t = s.elapse dt) := by
  refine answers_becomes hs (show exec (.feedCoolingEnd dt n) s = _ from rfl) (if_neg ?_) rfl rfl
  show ¬(_ && (s.elapse dt).path) = true
  rw [State.elapse_path, hp, Bool.and_false]
  decide

end

/-- Settles O36: each turn-off is a pass gate that turns off with a cause, and the cool-down ends by the feed's hold. -/
theorem feedsTurnOffWithTheirCause : Obligations.FeedsTurnOffWithTheirCause := by
  unfold Obligations.FeedsTurnOffWithTheirCause
  intro s dt n hs
  refine ⟨fun c cause hon h => ?_, fun c cause row hoff hmet hrow h => answers_offEvent_below hs hoff hmet hrow h,
    fun i h => answers_fastTrip_not hs h, answers_qpShort hs, answers_coolingEnd hs, fun _ hp => answers_coolingEnd_not hs hp⟩
  rcases h with ⟨i, rfl, hi, hcause⟩ | h
  · exact answers_fastTrip hs hon hi hcause
  · exact answers_offEvent hs hon h

end Sys2Proof.Machine
end

section
/-!
PROOFS. The supervision of the segment feeds: a set of measurements, a tick, qualification, the retry count and the ORing gates.
-/

namespace Sys2Proof.Machine

/-! ## Measurements -/

/-- The trip integrator after a measurement. -/
def State.measAcc (s : State) (n : Nat) (m : FeedMeas) : Rat :=
  if (s.feed n).st.gateOn || decide ((s.feed n).acc > 0) then s.integrate n m.i (s.feed n).acc else (s.feed n).acc

/-- The feed after a measurement. -/
def State.measFeed (s : State) (n : Nat) (m : FeedMeas) : Feed :=
  { s.measured n ((s.feed n).addEnergy m) m with acc := s.measAcc n m }

/-- How many supplies leave their window. -/
def State.measLeft (s : State) (n : Nat) (m : FeedMeas) : Nat :=
  (if (s.feed n).aOk && !(s.measFeed n m).aOk then 1 else 0) + (if (s.feed n).bOk && !(s.measFeed n m).bOk then 1 else 0)

/-- A measurement before it trips (R282, R283, R286, R298). -/
def State.measure (s : State) (n : Nat) (m : FeedMeas) : State :=
  let s1 := s.setFeed n (s.measFeed n m)
  if s.measLeft n m > 0 then (s1.countN (5376 + 8 * n + 6) (s.measLeft n m)).raise (0x1E2 + 4 * n) else s1

theorem State.feedMeasure_eq (s : State) (n : Nat) (m : FeedMeas) :
    s.feedMeasure n m =
      (let full := decide (s.curveI n 0 ≤ m.i) && decide (s.measAcc n m ≥ 1)
       if full && (s.feed n).st.gateOn then (s.measure n m).trip n 1
       else if full && decide ((s.feed n).acc < 1) && s.feedMet n 3 then (s.measure n m).count (feedCounter n 1)
       else s.measure n m) := rfl

section
variable (s : State) (dt n : Nat) (m : FeedMeas)

theorem State.elapse_fcfg (o : Nat) : (s.elapse dt).fcfg n o = s.fcfg n o := by unfold State.fcfg; rw [State.elapse_fd]

theorem State.elapse_curveI (k : Nat) : (s.elapse dt).curveI n k = s.curveI n k := by unfold State.curveI; rw [State.elapse_fcfg]

theorem State.elapse_curveR (k : Nat) : (s.elapse dt).curveR n k = s.curveR n k := by unfold State.curveR; rw [State.elapse_fcfg]

theorem State.elapse_integrate (i : Int) (acc : Rat) : (s.elapse dt).integrate n i acc = s.integrate n i acc := by
  unfold State.integrate State.breakerRate
  simp only [State.elapse_curveI, State.elapse_curveR, State.elapse_fcfg]

theorem State.elapse_measAcc : (s.elapse dt).measAcc n m =
    if (s.feed n).st.gateOn = true ∨ 0 < (s.feed n).acc then s.integrate n m.i (s.feed n).acc else (s.feed n).acc := by
  unfold State.measAcc
  rw [State.elapse_feed, State.elapse_integrate]
  by_cases h : (s.feed n).st.gateOn = true ∨ 0 < (s.feed n).acc
  · rw [if_pos h, if_pos (by simpa [Bool.or_eq_true] using h)]
  · rw [if_neg h, if_neg (by simpa [Bool.or_eq_true] using h)]

theorem State.elapse_inWindow (v : Nat) : (s.elapse dt).inWindow n v = s.inWindow n v := by
  unfold State.inWindow
  rw [State.elapse_fcfg]

theorem State.measure_repOnly : State.RepOnly (s.setFeed n (s.measFeed n m)) (s.measure n m) :=
  .ite (((State.RepOnly.refl _).countN _ _).raise _) (.refl _)

theorem State.measure_oneFeed : State.OneFeed n s (s.measure n m) :=
  (s.setFeed_oneFeed n _).trans ((s.measure_repOnly n m).oneFeed n)

theorem State.measure_feed : (s.measure n m).feed n = s.measFeed n m :=
  ((s.measure_repOnly n m).feed n).trans (s.setFeed_feed_self n _)

theorem State.Tells.measure {s u : State} {k : Account} (h : s.Tells k u.rep) (hlive : u.regs.live = s.regs.live) :
    ∃ k', k.Le k' ∧ s.Tells k' (u.measure n m).rep ∧ (0 < u.measLeft n m → (0x1E2 + 4 * n) ∈ k'.srcs) := by
  unfold State.measure
  by_cases hl : u.measLeft n m > 0
  · simp only [if_pos hl]
    let x := u.setFeed n (u.measFeed n m)
    have hx : s.Tells k x.rep := h
    have hr : (x.countN (5376 + 8 * n + 6) (u.measLeft n m)).regs.live = s.regs.live := ((State.RepOnly.refl x).countN _ _).live.trans hlive
    exact ⟨_, (Account.Le.counted k _).trans (.raised _ _), (hx.countN _ _).raise _ hr, fun _ => List.mem_cons_self⟩
  · simp only [if_neg hl]
    exact ⟨k, .refl k, h, fun h => absurd h hl⟩

/-- The energy counts on modulo 2^64, its fraction below a microjoule (R283). -/
theorem Feed.addEnergy_energy (f : Feed) :
    let e := f.energy.toNat * 100000 + f.eFrac + (max ((m.vout : Int) * m.i) 0).toNat
    (f.addEnergy m).energy.toNat * 100000 + (f.addEnergy m).eFrac = e % (2 ^ 64 * 100000) ∧
      ((f.addEnergy m).eWrap ≠ f.eWrap ↔ 2 ^ 64 * 100000 ≤ e) := by
  have hmax : (max ((m.vout : Int) * m.i) 0).toNat = ((m.vout : Int) * m.i).toNat := by omega
  simp only [hmax]
  unfold Feed.addEnergy
  simp only [BitVec.toNat_ofNat]
  generalize ((m.vout : Int) * m.i).toNat = p
  generalize f.energy.toNat = w
  refine ⟨by omega, ?_⟩
  rw [Bool.xor_comm]
  by_cases h : 2 ^ 64 * 100000 ≤ w * 100000 + f.eFrac + p
  · have : decide (w + (f.eFrac + p) / 100000 ≥ 2 ^ 64) = true := decide_eq_true (by omega)
    simp only [this, h, iff_true]
    cases f.eWrap <;> decide
  · have : decide (w + (f.eFrac + p) / 100000 ≥ 2 ^ 64) = false := decide_eq_false (by omega)
    simp only [this, h, iff_false]
    cases f.eWrap <;> decide

end

section
variable {s : State} {dt : Nat} {n : Fin 8} (hs : s.ready) (m : FeedMeas)
include hs

theorem answers_feedMeasurement
    (h : ¬(s.curveI n.val 0 ≤ m.i ∧ 1 ≤ (s.elapse dt).measAcc n.val m) ∨ (s.feed n.val).st.gateOn = false) :
    Answers (.feedMeasurement dt n m.i m.volts m.vgs) s (fun t =>
      s.onlyFeed t dt n.val ∧ t.feed n.val = (s.elapse dt).measFeed n.val m ∧
      (0 < (s.elapse dt).measLeft n.val m → s.raises t (0x1E2 + 4 * n.val))) := by
  have hnot : ¬((decide ((s.elapse dt).curveI n.val 0 ≤ m.i) && decide ((s.elapse dt).measAcc n.val m ≥ 1) &&
      ((s.elapse dt).feed n.val).st.gateOn) = true) := by
    rw [State.elapse_feed, State.elapse_curveI]
    rcases h with h | h
    · intro h'
      simp only [Bool.and_eq_true, decide_eq_true_eq] at h'
      exact h h'.1
    · rw [h, Bool.and_false]
      decide
  obtain ⟨k, hle, htells, hsrc⟩ := (State.Tells.elapse hs dt).measure n.val m (congrArg RegSt.live (s.elapse_regs dt))
  have hone := (s.elapse dt).measure_oneFeed n.val m
  have hfeed := (s.elapse dt).measure_feed n.val m
  obtain ⟨b, hb⟩ : ∃ b, (s.elapse dt).measure n.val m = b := ⟨_, rfl⟩
  rw [hb] at htells hone hfeed
  obtain ⟨k', w, hw, hrep, hle', ht⟩ : ∃ k' w, (s.elapse dt).feedMeasure n.val m = w ∧ State.RepOnly b w ∧ k.Le k' ∧ s.Tells k' w.rep := by
    rw [State.feedMeasure_eq]
    simp only [if_neg hnot, hb]
    split
    · exact ⟨_, _, rfl, (State.RepOnly.refl b).count _, .counted _ _, htells.count _⟩
    · exact ⟨_, _, rfl, .refl b, .refl k, htells⟩
  refine answers_reports hs (show exec (.feedMeasurement dt n m.i m.volts m.vgs) s = s.at_ dt (fun u => u.feedMeasure n.val m) from rfl)
    hw hrep ht fun r told => ⟨hone.only r, hfeed, fun hl => told.raises _ (hle'.srcs _ (hsrc hl))⟩

theorem answers_feedMeasurement_full (hfull : s.curveI n.val 0 ≤ m.i ∧ 1 ≤ (s.elapse dt).measAcc n.val m)
    (hon : (s.feed n.val).st.gateOn = true) :
    Answers (.feedMeasurement dt n m.i m.volts m.vgs) s (fun t =>
      (t.feed n.val).acc = (s.elapse dt).measAcc n.val m ∧ (t.feed n.val).pg = false ∧ (t.feed n.val).cause = 1 ∧
      s.raises t (0x1E1 + 4 * n.val) ∧
      (t.feed n.val).st = (if fieldOf (s.fcfg n.val 0) 1 2 = 1 ∧ (s.feed n.val).retries < fieldOf (s.fcfg n.val 0) 4 4
        then .cooling else .latched) ∧
      ∀ k, k ≠ n.val → t.feed k = s.feed k) := by
  have hcond : (decide ((s.elapse dt).curveI n.val 0 ≤ m.i) && decide ((s.elapse dt).measAcc n.val m ≥ 1) &&
      ((s.elapse dt).feed n.val).st.gateOn) = true := by
    rw [State.elapse_feed, State.elapse_curveI, hon, decide_eq_true hfull.1, decide_eq_true hfull.2]
    rfl
  obtain ⟨k, hle, htells, -⟩ := (State.Tells.elapse hs dt).measure n.val m (congrArg RegSt.live (s.elapse_regs dt))
  have hone := (s.elapse dt).measure_oneFeed n.val m
  have hfeed := (s.elapse dt).measure_feed n.val m
  have hg : (s.elapse dt).feedMeasure n.val m = ((s.elapse dt).measure n.val m).trip n.val 1 := by
    rw [State.feedMeasure_eq]
    exact if_pos hcond
  obtain ⟨b, hb⟩ : ∃ b, (s.elapse dt).measure n.val m = b := ⟨_, rfl⟩
  rw [hb] at htells hone hfeed hg
  have hret : (b.feed n.val).retries = (s.feed n.val).retries := by
    rw [hfeed, ← State.elapse_feed s dt]
    rfl
  have hmay : b.mayRetry n.val 1 ↔ fieldOf (s.fcfg n.val 0) 1 2 = 1 ∧ (s.feed n.val).retries < fieldOf (s.fcfg n.val 0) 4 4 := by
    unfold State.mayRetry State.fcfg
    rw [hone.2.1, hret, State.elapse_fd]
    simp
  have hmode : b.tripMode n.val 1 = if fieldOf (s.fcfg n.val 0) 1 2 = 1 ∧ (s.feed n.val).retries < fieldOf (s.fcfg n.val 0) 4 4
      then .cooling else .latched := ite_congr (propext hmay) (fun _ => rfl) (fun _ => rfl)
  have hacc : ((b.retryUsed n.val 1).feed n.val).acc = (s.elapse dt).measAcc n.val m := by
    unfold State.retryUsed
    split
    · rw [State.setFeed_feed_self, hfeed]
      rfl
    · rw [hfeed]
      rfl
  refine (answers_gateOff hs
    (show exec (.feedMeasurement dt n m.i m.volts m.vgs) s = s.at_ dt (fun u => u.feedMeasure n.val m) from rfl)
    (hg.trans (b.trip_eq n.val 1)) (hone.trans (b.retryUsed_oneFeed n.val 1)) ((b.retryUsed_rep n.val 1).symm ▸ htells) hle.slubs
    (.inr rfl)).mono fun t ⟨_, hne, hn, _, _, h16, _, _⟩ => ?_
  rw [hn, hmode]
  exact ⟨hacc, rfl, rfl, h16 (by decide) (by decide), rfl, hne⟩

/-! ## Supervision ticks -/

end

/-- The feed after a supervision tick (R280, R281, R288, R290, R293 to R295, R300). -/
def State.tickFeed (s : State) (n : Nat) (m : FeedMeas) : Feed :=
  let f := s.feed n
  let ends := decide (f.st = .ramp) && decide (m.vout + 300 ≥ m.vcom)
  let drive := if ends then .full else if f.st = .ramp then s.rampDrive n f m else f.drive
  let timer := decide (s.curveI n 0 ≤ m.i) || decide (drive = .power)
  let weak := decide (m.vgs < 2000)
  let charge :=
    match f.st with
    | .ramp => if weak then f.chargeSince else none
    | .qualify => if weak then some (f.chargeSince.getD s.clock) else none
    | .on => if weak then some (f.chargeSince.getD s.clock) else none
    | _ => none
  { f with
    st := if ends then .qualify else f.st
    drive := drive
    ftimer := timer
    chargeSince := charge
    aGate := f.aGate.tick m.va m.vcom, bGate := f.bGate.tick m.vb m.vcom
    tickOut := m.vout
    qTicks := if ends then 0 else if decide (f.st = .qualify) then (if timer || f.ftimer then 0 else f.qTicks + 1) else f.qTicks }

/-- Does a tick withhold power good in the last tick of the qualification (R295)? -/
def State.withholds (s : State) (n : Nat) (m : FeedMeas) : Bool :=
  decide ((s.feed n).st = .qualify) && (s.tickFeed n m).ftimer && decide ((s.feed n).qTicks = 1999)

theorem State.feedTick_eq (s : State) (n : Nat) (m : FeedMeas) :
    s.feedTick n m = if s.withholds n m then (s.setFeed n (s.tickFeed n m)).count (5376 + 8 * n + 5)
      else s.setFeed n (s.tickFeed n m) := rfl

theorem OrGate.tick_off {v vcom : Nat} (h : v ≤ vcom) : OrGate.off.tick v vcom = .off := if_pos ⟨rfl, h⟩

theorem OrGate.tick_above (g : OrGate) {v vcom : Nat} (h : vcom < v) :
    g.tick v vcom = if vcom + 25 < v then .full else .regulated := if_neg fun h' => by omega

theorem State.rampDrive_cases (s : State) (n : Nat) (f : Feed) (m : FeedMeas) :
    s.rampDrive n f m = .slew ∨
      s.rampDrive n f m = .power ∧ (fieldOf (s.fcfg n 0x10) 0 16 * 100000 : Nat) ≤ ((m.vcom : Int) - m.vout) * m.i := by
  unfold State.rampDrive
  simp only
  split
  · rename_i h
    rw [Bool.and_eq_true, decide_eq_true_eq] at h
    exact .inr ⟨rfl, h.1⟩
  · exact .inl rfl

/-- What a tick leaves of its feed. -/
theorem State.tickFeed_spec (s : State) (n : Nat) (m : FeedMeas) :
    let f := s.feed n
    let g := s.tickFeed n m
    let ends := f.st = .ramp ∧ m.vcom ≤ m.vout + 300
    (g.ftimer = true ↔ s.curveI n 0 ≤ m.i ∨ g.drive = .power) ∧
    g.st = (if ends then .qualify else f.st) ∧ g.pg = f.pg ∧ g.acc = f.acc ∧
    (ends → g.drive = .full ∧ g.qTicks = 0) ∧ (f.st ≠ .ramp → g.drive = f.drive) ∧
    (f.st = .ramp → ¬ends → (g.drive = .slew ∨ g.drive = .power) ∧
      (g.drive = .power → (fieldOf (s.fcfg n 0x10) 0 16 * 100000 : Nat) ≤ ((m.vcom : Int) - m.vout) * m.i)) ∧
    (f.aGate = .off → m.va ≤ m.vcom → g.aGate = .off) ∧
    (m.vcom < m.va → g.aGate = if m.vcom + 25 < m.va then .full else .regulated) ∧
    (f.bGate = .off → m.vb ≤ m.vcom → g.bGate = .off) ∧
    (m.vcom < m.vb → g.bGate = if m.vcom + 25 < m.vb then .full else .regulated) ∧
    (f.st = .qualify → g.qTicks = (if g.ftimer = true ∨ f.ftimer = true then 0 else f.qTicks + 1)) := by
  intro f g ends
  have hends : (decide (f.st = .ramp) && decide (m.vout + 300 ≥ m.vcom)) = decide ends := (Bool.decide_and _ _).symm
  have hst : g.st = if (decide (f.st = .ramp) && decide (m.vout + 300 ≥ m.vcom)) then .qualify else f.st := rfl
  have hdrive : g.drive = if (decide (f.st = .ramp) && decide (m.vout + 300 ≥ m.vcom)) then .full
      else if f.st = .ramp then s.rampDrive n f m else f.drive := rfl
  have htimer : g.ftimer = (decide (s.curveI n 0 ≤ m.i) || decide (g.drive = .power)) := rfl
  have hticks : g.qTicks = if (decide (f.st = .ramp) && decide (m.vout + 300 ≥ m.vcom)) then 0
      else if decide (f.st = .qualify) then (if g.ftimer || f.ftimer then 0 else f.qTicks + 1) else f.qTicks := rfl
  rw [hends] at hst hdrive hticks
  simp only [decide_eq_true_eq, Bool.or_eq_true] at hst hdrive hticks
  refine ⟨by rw [htimer, Bool.or_eq_true, decide_eq_true_eq, decide_eq_true_eq], hst, rfl, rfl, fun h => ⟨?_, ?_⟩, fun h => ?_,
    fun hr hn => ?_, fun ha hv => ?_, fun hv => OrGate.tick_above _ hv, fun hb hv => ?_, fun hv => OrGate.tick_above _ hv, fun hq => ?_⟩
  · rw [hdrive, if_pos h]
  · rw [hticks, if_pos h]
  · rw [hdrive, if_neg fun h' => h h'.1, if_neg h]
  · rw [hdrive, if_neg hn, if_pos hr]
    rcases s.rampDrive_cases n f m with hd | ⟨hd, hp⟩
    · exact ⟨.inl hd, fun h => by rw [hd] at h; cases h⟩
    · exact ⟨.inr hd, fun _ => hp⟩
  · show f.aGate.tick m.va m.vcom = .off
    rw [ha]
    exact OrGate.tick_off hv
  · show f.bGate.tick m.vb m.vcom = .off
    rw [hb]
    exact OrGate.tick_off hv
  · have hn : ¬ends := fun h => by rw [h.1] at hq; cases hq
    rw [hticks, if_neg hn, if_pos hq]

/-- Has power good lasted for the time of R304? -/
def State.pgLasted (s : State) (n : Nat) (f : Feed) : Bool :=
  f.pg && decide (s.clock - f.pgSince ≥ fieldOf (s.fcfg n 0x18) 16 8 * 1000000000)

section
variable {s : State} {dt : Nat} {n : Fin 8} (hs : s.ready)
include hs

theorem answers_feedTick (m : FeedMeas) :
    Answers (.feedSupervisionTick dt n m.i m.vout m.vcom m.vgs (m.va, m.vb)) s (fun t =>
      s.onlyFeed t dt n.val ∧ t.feed n.val = (s.elapse dt).tickFeed n.val m ∧
      ((s.elapse dt).withholds n.val m = true → s.counts t (5376 + 8 * n.val + 5) 1)) := by
  let x := (s.elapse dt).setFeed n.val ((s.elapse dt).tickFeed n.val m)
  have hx : s.Tells {} x.rep := State.Tells.elapse hs dt
  have hone : State.OneFeed n.val (s.elapse dt) x := State.setFeed_oneFeed _ _ _
  have hfeed : x.feed n.val = _ := State.setFeed_feed_self _ _ _
  have hc : exec (.feedSupervisionTick dt n m.i m.vout m.vcom m.vgs (m.va, m.vb)) s = s.at_ dt (fun u => u.feedTick n.val m) := rfl
  have hg := (s.elapse dt).feedTick_eq n.val m
  by_cases hw : (s.elapse dt).withholds n.val m = true
  · rw [if_pos hw] at hg
    exact answers_reports hs hc hg ((State.RepOnly.refl x).count _) (hx.count _) fun r told =>
      ⟨hone.only r, hfeed, fun _ => told.counts _ List.mem_cons_self⟩
  · rw [if_neg hw] at hg
    exact answers_settles hs hc hg (State.elapse_settled hs dt) ⟨hone.only _, hfeed, fun h => absurd h hw⟩

theorem answers_feedSupervisionTick (m : FeedMeas) :
    Answers (.feedSupervisionTick dt n m.i m.vout m.vcom m.vgs (m.va, m.vb)) s (fun t =>
      s.onlyFeed t dt n.val ∧
      let f := s.feed n.val
      let g := t.feed n.val
      let ends := f.st = .ramp ∧ m.vcom ≤ m.vout + 300
      (g.ftimer = true ↔ s.curveI n.val 0 ≤ m.i ∨ g.drive = .power) ∧
      g.st = (if ends then .qualify else f.st) ∧ g.pg = f.pg ∧ g.acc = f.acc ∧
      (ends → g.drive = .full ∧ g.qTicks = 0) ∧ (f.st ≠ .ramp → g.drive = f.drive) ∧
      (f.st = .ramp → ¬ends → (g.drive = .slew ∨ g.drive = .power) ∧
        (g.drive = .power → (fieldOf (s.fcfg n.val 0x10) 0 16 * 100000 : Nat) ≤ ((m.vcom : Int) - m.vout) * m.i)) ∧
      (f.aGate = .off → m.va ≤ m.vcom → g.aGate = .off) ∧
      (m.vcom < m.va → g.aGate = if m.vcom + 25 < m.va then .full else .regulated) ∧
      (f.bGate = .off → m.vb ≤ m.vcom → g.bGate = .off) ∧
      (m.vcom < m.vb → g.bGate = if m.vcom + 25 < m.vb then .full else .regulated) ∧
      (f.st = .qualify → g.qTicks = (if g.ftimer = true ∨ f.ftimer = true then 0 else f.qTicks + 1)) ∧
      (f.st = .qualify → f.qTicks = 1999 → g.ftimer = true → s.counts t (5376 + 8 * n.val + 5) 1)) := by
  have hspec := (s.elapse dt).tickFeed_spec n.val m
  simp only [State.elapse_feed, State.elapse_curveI, State.elapse_fcfg] at hspec
  obtain ⟨h1, h2, h3, h4, h5, h6, h7, h8, h9, h10, h11, h12⟩ := hspec
  refine (answers_feedTick hs m).mono fun t ⟨honly, hfeed, hcount⟩ => ⟨honly, ?_⟩
  rw [hfeed]
  refine ⟨h1, h2, h3, h4, h5, h6, h7, h8, h9, h10, h11, h12, fun hq ht hf => hcount ?_⟩
  unfold State.withholds
  rw [State.elapse_feed, hf, decide_eq_true hq, decide_eq_true ht]
  rfl

/-! ## Qualification -/


theorem answers_feedSupplyQualified (hst : (s.feed n.val).st = .wait) (hq : (s.feed n.val).qualified = true) (hp : s.path = true)
    (hh : (s.feed n.val).isHeld = false) :
    Answers (.feedSupplyQualified dt n) s (fun t =>
      s.onlyFeed t dt n.val ∧ (t.feed n.val).st = .ramp ∧ (t.feed n.val).rampAt = s.clock + dt ∧
      (t.feed n.val).drive = .slew ∧ (t.feed n.val).cause = (s.feed n.val).cause) := by
  have hcond : (decide (((s.elapse dt).feed n.val).st = .wait) && ((s.elapse dt).feed n.val).qualified && (s.elapse dt).path) = true := by
    rw [State.elapse_feed, State.elapse_path, decide_eq_true hst, hq, hp]
    rfl
  obtain ⟨h1, h2, -, -, -, -, h7, hrep⟩ := (s.elapse dt).leaveOff_feed n.val
  rw [State.elapse_feed, State.elapse_path, hp, hq, hh] at h1 h7
  rw [State.elapse_feed] at h2
  obtain ⟨hd, hr⟩ := h7 rfl rfl rfl
  refine answers_becomes hs (show exec (.feedSupplyQualified dt n) s = _ from rfl) (if_pos hcond) hrep
    ⟨((s.elapse dt).leaveOff_oneFeed n.val).only _, h1, hr.trans (s.elapse_clock dt), hd, h2⟩

/-- Power good comes: the feed, and then the end of its quarantine. -/
theorem answers_feedQualifyComplete (hst : (s.feed n.val).st = .qualify) (hq : 2000 ≤ (s.feed n.val).qTicks)
    (hf : (s.feed n.val).ftimer = false) :
    Answers (.feedQualifyComplete dt n) s (fun t =>
      t = { s.elapse dt with fd := t.fd, lw := t.lw, dr := t.dr, rep := t.rep } ∧
      t.feed n.val = { s.feed n.val with st := .on, pg := true, pgSince := s.clock + dt } ∧ s.raises t (0x1E0 + 4 * n.val) ∧
      (∀ k, k ≠ n.val → t.feed k = s.feed k) ∧ t.dr.quarFeeds = s.dr.quarFeeds.filter (fun k => decide (k ≠ n.val)) ∧
      ∀ c, c < 16 →
        t.line c = { s.line c with quars := (s.line c).quars.filter (fun q => decide (q.feed ≠ n.val)) } ∧
        (∀ q, q ∈ (s.line c).quars → q.feed = n.val → s.raises t 0x1C6)) := by
  let u := s.elapse dt
  let x := u.modFeed n.val (fun f => { f with st := .on, pg := true, pgSince := u.clock })
  have hx : s.Tells {} x.rep := State.Tells.elapse hs dt
  have hxl : x.regs.live = s.regs.live := congrArg RegSt.live (s.elapse_regs dt)
  have hraise := hx.raise (0x1E0 + 4 * n.val) hxl
  have hrep : State.RepOnly x (x.raise (0x1E0 + 4 * n.val)) := (State.RepOnly.refl x).raise _
  have hone : State.OneFeed n.val u (x.raise (0x1E0 + 4 * n.val)) := (u.setFeed_oneFeed n.val _).trans (hrep.oneFeed _)
  have hfeed : (x.raise (0x1E0 + 4 * n.val)).feed n.val = { u.feed n.val with st := .on, pg := true, pgSince := u.clock } :=
    (hrep.feed _).trans (u.setFeed_feed_self _ _)
  have hg : (if decide ((u.feed n.val).qTicks ≥ 2000) && !(u.feed n.val).ftimer then
      (if (u.feed n.val).st = .qualify then u.powerGood n.val
      else if u.feedMet n.val 8 && decide ((u.feed n.val).offSince = u.clock) then
        (u.modFeed n.val (fun f => { f with qTicks := 0 })).count (5376 + 8 * n.val + 5)
      else u) else u) = (x.raise (0x1E0 + 4 * n.val)).quarPg n.val := by
    rw [if_pos (by rw [State.elapse_feed, decide_eq_true hq, hf]; rfl), if_pos (by rw [State.elapse_feed, hst])]
    rfl
  obtain ⟨b, hb⟩ : ∃ b, x.raise (0x1E0 + 4 * n.val) = b := ⟨_, rfl⟩
  rw [hb] at hraise hone hfeed hg
  have hlive : b.regs.live = s.regs.live := hone.live.trans (congrArg RegSt.live (s.elapse_regs dt))
  obtain ⟨k, hle, htell, hsrc⟩ := hraise.quarEnd n.val 3 hlive
  have hline : State.LineOnly b (b.quarEnd n.val 3) := State.quarEnd_lineOnly n.val 3
  have hlines := State.quarEnds_line (a := b) n.val 3 channels channels_nodup
  have hbl : ∀ c, b.line c = s.line c := fun c => by
    rw [hone.1]
    show Tbl.lookD (s.elapse dt).lw c {} = _
    rw [State.elapse_lw]
    rfl
  have hdr : b.dr = s.dr := by
    rw [hone.1]
    exact s.elapse_dr dt
  obtain ⟨w, hw⟩ : ∃ w, b.quarEnd n.val 3 = w := ⟨_, rfl⟩
  have hw' : channels.foldl (fun a c => a.quarEndOn n.val 3 c) b = w := hw
  rw [hw] at htell hline
  rw [hw'] at hlines
  have hg2 : b.quarPg n.val = { s.elapse dt with
      fd := w.fd, lw := w.lw, dr := { s.dr with quarFeeds := s.dr.quarFeeds.filter (fun f => decide (f ≠ n.val)) }, rep := w.rep } := by
    unfold State.quarPg
    rw [hw]
    simp only
    rw [hline, ← hdr, hone.1]
  refine answers_tells (v := { s.elapse dt with
      fd := w.fd, lw := w.lw, dr := { s.dr with quarFeeds := s.dr.quarFeeds.filter (fun f => decide (f ≠ n.val)) } }) hs
    (show exec (.feedQualifyComplete dt n) s = _ from rfl) (hg.trans hg2) htell fun r told => ?_
  refine ⟨rfl, ?_, told.raises _ (hle.srcs _ List.mem_cons_self), fun k hk => ?_, rfl, fun c hc => ⟨?_, fun q hq hqf => ?_⟩⟩
  · refine ((hline.feed n.val).trans hfeed).trans ?_
    show ({ u.feed n.val with st := _, pg := _, pgSince := u.clock } : Feed) = _
    rw [State.elapse_feed, State.elapse_clock]
  · exact ((hline.feed k).trans (hone.2.2 k hk)).trans (State.elapse_feed s dt k)
  · refine (hlines c).trans ?_
    rw [if_pos (show c ∈ channels from List.mem_range.2 hc), hbl]
  · exact told.raises _ (hsrc ⟨c, List.mem_range.2 hc, q, by rw [hbl]; exact hq, hqf⟩)

theorem answers_feedRetryClear (hpg : (s.feed n.val).pg = true)
    (ht : fieldOf (s.fcfg n.val 0x18) 16 8 * 1000000000 ≤ s.clock + dt - (s.feed n.val).pgSince) :
    Answers (.feedRetryClear dt n) s (fun t => s.onlyFeed t dt n.val ∧ t.feed n.val = { s.feed n.val with retries := 0 }) := by
  have hcond : (s.elapse dt).pgLasted n.val ((s.elapse dt).feed n.val) = true := by
    unfold State.pgLasted
    rw [State.elapse_feed, State.elapse_clock, State.elapse_fcfg, hpg, decide_eq_true ht]
    rfl
  refine answers_becomes hs (show exec (.feedRetryClear dt n) s = s.feedRow dt n.val (fun u f => u.pgLasted n.val f)
    (fun u => u.modFeed n.val (fun f => { f with retries := 0 })) from rfl) (if_pos hcond) rfl
    ⟨((s.elapse dt).setFeed_oneFeed n.val _).only _, ?_⟩
  refine (State.setFeed_feed_self _ _ _).trans ?_
  rw [State.elapse_feed]

/-! ## ORing gates -/

theorem answers_oringReverse (sideB : Bool) (v vcom : Nat) :
    (v + 10 < vcom →
      Answers (.oringReverse dt n { sideB := sideB, v := v, vcom := vcom }) s (fun t =>
        s.onlyFeed t dt n.val ∧
        t.feed n.val = if sideB then { s.feed n.val with bGate := .off } else { s.feed n.val with aGate := .off })) ∧
    (vcom ≤ v + 10 → Answers (.oringReverse dt n { sideB := sideB, v := v, vcom := vcom }) s (fun t => t = s.elapse dt)) := by
  refine ⟨fun h => ?_, fun h => ?_⟩
  · refine answers_becomes hs (show exec (.oringReverse dt n { sideB := sideB, v := v, vcom := vcom }) s = _ from rfl) (if_pos h) rfl
      ⟨((s.elapse dt).setFeed_oneFeed n.val _).only _, ?_⟩
    refine (State.setFeed_feed_self _ _ _).trans ?_
    rw [State.elapse_feed]
  · exact answers_becomes hs (show exec (.oringReverse dt n { sideB := sideB, v := v, vcom := vcom }) s = _ from rfl)
      (if_neg (Nat.not_lt.2 h)) rfl rfl

end

/-- Settles O35: measurements, ticks, the way to power good, the retry count, and the ORing gates. -/
theorem feedsAreMeasuredAndSupervised : Obligations.FeedsAreMeasuredAndSupervised := by
  unfold Obligations.FeedsAreMeasuredAndSupervised
  intro s dt n hs f
  refine ⟨fun m => ?_, fun m => answers_feedSupervisionTick hs m, answers_feedSupplyQualified hs, answers_feedQualifyComplete hs,
    answers_feedRetryClear hs, answers_oringReverse hs⟩
  have hacc := s.elapse_measAcc dt n.val m
  refine ⟨fun h => ?_, fun hfull hon => ?_⟩
  · obtain ⟨he1, he2⟩ := Feed.addEnergy_energy m f
    refine (answers_feedMeasurement hs m (dt := dt) (hacc ▸ h)).mono fun t ⟨honly, hfeed, hleft⟩ => ⟨honly, ?_⟩
    have hmf : (s.elapse dt).measFeed n.val m =
        { (s.elapse dt).measured n.val (f.addEnergy m) m with acc := (s.elapse dt).measAcc n.val m } := by
      unfold State.measFeed
      rw [State.elapse_feed]
    have ha : ((s.elapse dt).measFeed n.val m).aOk = s.inWindow n.val m.va := State.elapse_inWindow s dt n.val m.va
    have hb : ((s.elapse dt).measFeed n.val m).bOk = s.inWindow n.val m.vb := State.elapse_inWindow s dt n.val m.vb
    have hl : (s.elapse dt).measLeft n.val m =
        (if f.aOk && !(t.feed n.val).aOk then 1 else 0) + (if f.bOk && !(t.feed n.val).bOk then 1 else 0) := by
      unfold State.measLeft
      rw [State.elapse_feed, hfeed]
    refine ⟨?_, ?_, ?_, ?_, ?_, ?_, ?_, ?_, ?_, ⟨?_, ?_⟩, fun hx => hleft ?_⟩
    · rw [hfeed, hmf]; rfl
    · rw [hfeed, hmf]; rfl
    · rw [hfeed, hmf]; rfl
    · rw [hfeed, hmf]; rfl
    · rw [hfeed, hmf]; rfl
    · rw [hfeed]; exact hacc
    · rw [hfeed, hmf, ← s.elapse_path dt]; rfl
    · rw [hfeed]; exact ha
    · rw [hfeed]; exact hb
    · rw [hfeed, hmf]; exact he1
    · rw [hfeed, hmf]; exact he2
    · rw [hl]
      rcases hx with ⟨h1, h2⟩ | ⟨h1, h2⟩
      · rw [h1, h2]
        simp
      · rw [h1, h2]
        simp
  · refine (answers_feedMeasurement_full hs m (dt := dt) (hacc ▸ hfull) hon).mono fun t h => ?_
    rwa [hacc] at h

end Sys2Proof.Machine
end

section
/-!
PROOFS. Relations that helpers of the model keep: a relation between states that holds under reports (`Frame`), and one that holds
under changes of the streams and breaches too (`DrFrame`); each operation over the promise is followed once for all of them. Reports
that stay reported whatever else happens in the instant (`State.Hears`).
-/

namespace Sys2Proof.Machine

/-- A relation between states that reports keep. -/
structure Frame (R : State → State → Prop) : Prop where
  refl : ∀ a, R a a
  trans : ∀ {a b c}, R a b → R b c → R a c
  rep : ∀ a r, Rep.Grows a.rep r → r.whOld = a.rep.whOld → R a { a with rep := r }

/-- A relation between states that reports and changes of streams and breaches keep. -/
structure DrFrame (R : State → State → Prop) : Prop extends Frame R where
  dr : ∀ a x, R a { a with dr := x }

section
variable {R : State → State → Prop} {a b : State}

theorem Frame.ite (_ : Frame R) {c : State} {p : Prop} [Decidable p] (h : R a b) (g : R a c) : R a (if p then b else c) := by
  split
  · exact h
  · exact g

section
variable (F : Frame R) (h : R a b)
include F h

theorem Frame.reported (r : Rep) (hg : Rep.Grows b.rep r) (hw : r.whOld = b.rep.whOld) : R a { b with rep := r } :=
  F.trans h (F.rep b r hg hw)

theorem Frame.raise (i : Nat) : R a (b.raise i) := F.reported h _ (b.raise_grows i) (b.raise_same i).whOld
theorem Frame.raiseOnce (g i : Nat) : R a (b.raiseOnce g i) := F.reported h _ (b.raiseOnce_grows g i) (b.raiseOnce_same g i).whOld
theorem Frame.countN (c n : Nat) : R a (b.countN c n) := F.reported h _ (b.countN_grows c n) (b.countN_same c n).whOld
theorem Frame.count (c : Nat) : R a (b.count c) := F.countN h c 1
theorem Frame.emit (o : Output) : R a (b.emit o) := F.reported h _ (b.emit_grows o) (b.emit_same o).whOld
theorem Frame.slubAt (t : BitVec 64) (n : BitVec 48) (c x y z : Nat) : R a (b.slubAt t n c x y z) :=
  F.reported h _ ⟨⟨[], (List.append_nil _).symm⟩, fun _ => Nat.min_le_right _ _, fun _ _ h => h⟩ rfl
theorem Frame.slub (c x y z : Nat) : R a (b.slub c x y z) :=
  F.reported h _ ⟨⟨[], (List.append_nil _).symm⟩, fun _ => Nat.min_le_right _ _, fun _ _ h => h⟩ rfl
theorem Frame.complete (d : Desc) (c : Compl) : R a (b.complete d c) := F.reported h _ (b.complete_grows d c) (b.complete_whOld d c)

theorem Frame.notifyBoth (off : Nat) (e : EntryBody) : R a (b.notifyBoth off e) := by
  have hentry : ∀ (p : Port) (n : Nat) (r : Rep), Rep.Grows b.rep r ∧ r.whOld = b.rep.whOld →
      Rep.Grows b.rep (r.entry b.ctx p n e).1 ∧ (r.entry b.ctx p n e).1.whOld = b.rep.whOld := fun p n r ⟨hg, hw⟩ =>
    ⟨hg.trans (Rep.grows_entry r b.ctx p n e), (Rep.same_entry r b.ctx p n e).whOld.trans hw⟩
  have hkeep : Rep.Grows b.rep b.rep ∧ b.rep.whOld = b.rep.whOld := ⟨.refl _, rfl⟩
  have hA : ∀ p : Prop, [Decidable p] → ∀ q n (r : Rep), Rep.Grows b.rep r ∧ r.whOld = b.rep.whOld →
      Rep.Grows b.rep (if p then (r.entry b.ctx q n e).1 else r) ∧ (if p then (r.entry b.ctx q n e).1 else r).whOld = b.rep.whOld := by
    intro p _ q n r hr
    split
    · exact hentry _ _ _ hr
    · exact hr
  obtain ⟨hg, hw⟩ := hA (b.bit off 15 = true) .b (b.fld off 8 7) _ (hA (b.bit off 7 = true) .a (b.fld off 0 7) b.rep hkeep)
  exact F.reported h _ hg hw

theorem Frame.status (e : EntryBody) : R a (b.status e) := F.notifyBoth h _ e
theorem Frame.lineRecord (r : LineRec) : R a (b.lineRecord r) := F.notifyBoth h _ _
theorem Frame.quarRecord (c e f : Nat) (x : Bool) (n : Nat) : R a (b.quarRecord c e f x n) := F.lineRecord h _
theorem Frame.chCount (c n : Nat) : R a (b.chCount c n) := F.count h _

end

theorem Frame.foldl (F : Frame R) {α : Type} {f : State → α → State} (hf : ∀ b x, R b (f b x)) (l : List α) (a : State) :
    R a (l.foldl f a) := by
  induction l generalizing a with
  | nil => exact F.refl a
  | cons x l ih => exact F.trans (hf a x) (ih _)

/-! ## The promise -/

section
variable (F : DrFrame R) (a : State) (n : Nat)
include F

theorem DrFrame.setStream (x : Stream) : R a (a.setStream n x) := F.dr a _

theorem DrFrame.modStream (f : Stream → Stream) : R a (a.modStream n f) := by
  unfold State.modStream
  split
  · exact F.setStream a n _
  · exact F.refl a

theorem DrFrame.setBreach (b : Breach) : R a (a.setBreach n b) := F.dr a _
theorem DrFrame.mapRels (f : Rel → Rel) : R a (a.mapRels n f) := F.dr a _

theorem DrFrame.judge (r : Rel) (late : Option Int) : R a (a.judge n r late) := by
  unfold State.judge
  split
  · exact F.refl a
  · rename_i x _
    have hset := F.setStream a n (x.judged r late r.cov)
    obtain ⟨s1, hs1⟩ : ∃ s1, a.setStream n (x.judged r late r.cov) = s1 := ⟨_, rfl⟩
    rw [hs1] at hset
    simp only [hs1]
    have hmid : ∀ (miss : Bool) (x : Nat), R a (if (miss && !r.cov) = true then
        (State.slub { s1 with dr := { s1.dr with uncovTurn := s1.dr.uncovTurn + 1 } } 0x0405 n x 0).raise 0x1A6
        else if (miss && (s1.breach r.ch).on) = true then
          s1.setBreach r.ch { s1.breach r.ch with covered := (s1.breach r.ch).covered + 1 }
        else s1) := fun _ _ =>
      F.ite (F.raise (F.slub (F.trans hset (F.dr s1 _)) _ _ _ _) _) (F.ite (F.trans hset (F.setBreach s1 _ _)) hset)
    split
    · exact hmid _ _
    · exact F.complete (hmid _ _) _ _

theorem DrFrame.judgeGone (l : List Rel) : R a (a.judgeGone n l) := by
  induction l generalizing a with
  | nil => exact F.refl a
  | cons r l ih => exact F.trans (F.judge a n r none) (ih _)

theorem DrFrame.relEnd (id : Nat) (sof eof : BitVec 64) : R a (a.relEnd n id sof eof) := by
  unfold State.relEnd
  split
  · exact F.refl a
  · split
    · exact F.refl a
    · exact F.judge a n _ _

theorem DrFrame.relGone (id status : Nat) : R a (a.relGone n id status) := by
  unfold State.relGone
  split
  · exact F.refl a
  · split
    · exact F.refl a
    · exact F.ite (F.judge a n _ _) (F.setStream a n _)

theorem DrFrame.cover (t : BitVec 64) : R a (a.cover t n) := by
  unfold State.cover
  split
  · exact F.refl a
  · exact F.trans (F.setStream a n _) (F.judgeGone _ n _)

theorem DrFrame.coverAll (t : BitVec 64) (l : List Nat) : R a (a.coverAll t l) := F.foldl (fun b k => F.cover b k t) l a

theorem DrFrame.breachBegin (i : Instant) (cause : Nat) (kf : Word) (l : List Nat) : R a (a.breachBegin i n cause kf l) :=
  have hbegin : R a _ := F.trans (F.trans (F.setBreach a n _) (F.mapRels _ n _)) (F.coverAll _ i.time l)
  F.raise (F.status (F.chCount (F.slubAt hbegin _ _ _ _ _ _) _ _) _) _

theorem DrFrame.breachWiden (i : Instant) (cause : Nat) (kf : Word) (l : List Nat) : R a (a.breachWiden i n cause kf l) :=
  have hwiden : R a _ := F.trans (F.setBreach a n _) (F.coverAll _ i.time l)
  F.ite (F.status (F.slubAt hwiden _ _ _ _ _ _) _) hwiden

theorem DrFrame.detectAt (i : Instant) (cause : Nat) (kf : Word) (feed : Nat) : R a (a.detectAt i n cause kf feed) := by
  have hsrc : R a (if cause = 1 ∨ cause = 2 then (a.chCount n 24).raise 0x1A4
      else if cause = 3 then (a.chCount n 25).raise 0x1A5 else a) :=
    F.ite (F.raise (F.chCount (F.refl a) _ _) _) (F.ite (F.raise (F.chCount (F.refl a) _ _) _) (F.refl a))
  exact F.ite (F.trans hsrc (F.breachWiden _ n i cause kf _)) (F.trans hsrc (F.breachBegin _ n i cause kf _))

theorem DrFrame.detect (cause : Nat) (kf : Word) (feed : Nat) : R a (a.detect n cause kf feed) := F.detectAt a n _ cause kf feed

theorem DrFrame.quarBreach (feed : Nat) : R a (a.quarBreach feed) :=
  F.trans (F.dr a _) (F.foldl (fun b c => F.detect b c 5 0xFFFFFFFF feed) _ _)

end

end

/-! ## Changes of streams, breaches and reports alone -/

/-- From a to b streams, breaches and reports change, and no report is taken back. -/
def State.DrOnly (a b : State) : Prop := b = { a with dr := b.dr, rep := b.rep } ∧ Rep.Grows a.rep b.rep ∧ b.rep.whOld = a.rep.whOld

theorem State.drOnly_frame : DrFrame State.DrOnly where
  refl a := ⟨rfl, .refl _, rfl⟩
  trans := fun ⟨h1, h2, h3⟩ ⟨g1, g2, g3⟩ => ⟨g1.trans (by rw [h1]), h2.trans g2, g3.trans h3⟩
  rep _ _ hg hw := ⟨rfl, hg, hw⟩
  dr _ _ := ⟨rfl, .refl _, rfl⟩

/-! ## What stays reported -/

/-- Since state s, at rest, the sources, counts, completions and outputs of a record have been reported. -/
structure State.Hears (s : State) (k : Account) (r : Rep) : Prop where
  grows : Rep.Grows s.rep r
  whOld : r.whOld = none
  raises : ∀ i ∈ k.srcs, ∀ p, s.routed p i → r.pends p i
  counts : ∀ c ∈ k.cts, min ctMax (s.rep.counter c.1 + c.2) ≤ r.counter c.1
  wrote : ∀ e ∈ k.compls, s.wrote r.out e.1 e.2
  outs : ∀ o ∈ k.outs, ∃ l, r.out = s.rep.out ++ l ∧ o ∈ l

/-- Since state s they have been reported and the instant has ended. -/
structure State.Heard (s : State) (k : Account) (t : State) : Prop where
  grows : Rep.Grows s.rep t.rep
  raises : ∀ i ∈ k.srcs, s.raises t i
  counts : ∀ c ∈ k.cts, s.counts t c.1 c.2
  completes : ∀ e ∈ k.compls, s.completes t e.1 e.2
  outs : ∀ o ∈ k.outs, s.putsOut t o

section
variable {s : State} {k : Account} {r r' : Rep}

theorem State.Tells.hears (h : s.Tells k r) : s.Hears k r := ⟨h.grows, h.whOld, h.raises, h.counts, h.wrote, h.outs⟩

theorem State.Hears.mono (h : s.Hears k r) (hg : Rep.Grows r r') (hw : r'.whOld = r.whOld) : s.Hears k r' := by
  obtain ⟨m, hm⟩ := hg.out
  have hout : ∀ {o : Output}, (∃ l, r.out = s.rep.out ++ l ∧ o ∈ l) → ∃ l, r'.out = s.rep.out ++ l ∧ o ∈ l := by
    rintro o ⟨l, hl, ho⟩
    exact ⟨l ++ m, by rw [hm, hl, List.append_assoc], List.mem_append_left m ho⟩
  refine ⟨h.grows.trans hg, hw.trans h.whOld, fun i hi p hp => hg.pends p i (h.raises i hi p hp), fun c hc => ?_,
    fun e he => ?_, fun o ho => hout (h.outs o ho)⟩
  · have := h.counts c hc
    have := hg.counter c.1
    omega
  · obtain ⟨i, x, l, hl⟩ := h.wrote e he
    exact ⟨i, x, hout ⟨l, hl⟩⟩

theorem State.Hears.start (hs : s.ready) (dt : Nat) : s.Hears {} (s.elapse dt).rep := (State.Tells.elapse hs dt).hears

section
variable {b : State} (h : s.Hears k b.rep)
include h

theorem State.Hears.raise (i : Nat) (hlive : b.regs.live = s.regs.live) : s.Hears { k with srcs := i :: k.srcs } (b.raise i).rep := by
  have hm := h.mono (b.raise_grows i) (b.raise_same i).whOld
  refine ⟨hm.grows, hm.whOld, fun j hj => ?_, hm.counts, hm.wrote, hm.outs⟩
  rcases List.mem_cons.1 hj with rfl | hj
  · exact State.raises_raise hlive h.whOld
  · exact hm.raises j hj

theorem State.Hears.countN (c n : Nat) : s.Hears { k with cts := (c, n) :: k.cts } (b.countN c n).rep := by
  have hm := h.mono (b.countN_grows c n) (b.countN_same c n).whOld
  refine ⟨hm.grows, hm.whOld, hm.raises, fun x hx => ?_, hm.wrote, hm.outs⟩
  rcases List.mem_cons.1 hx with rfl | hx
  · have hb := Rep.counter_count b.rep b.ctx c n
    have hg := h.grows.counter c
    show _ ≤ (b.rep.count b.ctx c n).counter c
    simp only
    omega
  · exact hm.counts x hx

theorem State.Hears.count (c : Nat) : s.Hears { k with cts := (c, 1) :: k.cts } (b.count c).rep := h.countN c 1

theorem State.Hears.emit (o : Output) : s.Hears { k with outs := o :: k.outs } (b.emit o).rep := by
  have hm := h.mono (b.emit_grows o) (b.emit_same o).whOld
  refine ⟨hm.grows, hm.whOld, hm.raises, hm.counts, hm.wrote, fun x hx => ?_⟩
  rcases List.mem_cons.1 hx with rfl | hx
  · obtain ⟨l, hl⟩ := h.grows.out
    exact ⟨l ++ [x], by show b.rep.out ++ [x] = _; rw [hl, List.append_assoc], by simp⟩
  · exact hm.outs x hx

end

theorem State.Hears.heard {v : State} (h : s.Hears k v.rep) : s.Heard k v.flush := by
  have hg : Rep.Grows v.rep v.flush.rep := State.flush_grows h.whOld
  have hm := h.mono (r' := { v.flush.rep with whOld := v.rep.whOld }) ⟨hg.out, hg.counter, hg.pends⟩ rfl
  refine ⟨h.grows.trans hg, hm.raises, hm.counts, fun e he => ?_, hm.outs⟩
  obtain ⟨i, x, l, hl, hmem⟩ := hm.wrote e he
  exact ⟨i, x, l, hl, hmem⟩

end

/-- A command at a free instant whose meaning is a state, and what stays reported. -/
theorem answers_hears {c : Instr} {s : State} {dt : Nat} {g : State → State} {P : State → Prop} {w : State} {k : Account}
    (hs : s.ready) (hc : exec c s = s.at_ dt g) (hg : g (s.elapse dt) = w) (h : s.Hears k w.rep)
    (hP : ∀ r', s.Heard k { w with rep := r' } → P { w with rep := r' }) : Answers c s P := by
  refine answers_at hs hc ?_
  rw [hg]
  exact hP _ h.heard

end Sys2Proof.Machine
end

section
/-!
PROOFS. Commands for the segment feeds, by descriptor, by register write and by a commit that reaches the field die.
-/

namespace Sys2Proof.Machine

/-- A descriptor that passes its checks and whose own rules lead to a state, with what stays reported. -/
theorem answers_desc_hears {c : Instr} {s : State} {dt : Nat} {d : Desc} {b : DescBody} {op n : Nat} {f : State → State}
    {P : State → Prop} {w : State} {k : Account} (hd : s.admits d) (hc : exec c s = s.descRow dt d b (fun u => u.acceptFor d op n f))
    (hb : ∀ u : State, u.prefetch d b = u) (hop : op < 14) (hg : f (s.fetchedAt dt d) = w) (h : s.Hears k w.rep)
    (hP : ∀ r', s.Heard k { w with rep := r' } → P { w with rep := r' }) : Answers c s P :=
  answers_hears hd.1 (hc.trans rfl) ((State.descRow_admits hd hb hop f).trans hg) h hP

/-- From a to b feeds, the line watch and the reports change. -/
def State.FeedLine (a b : State) : Prop := b = { a with fd := b.fd, lw := b.lw, rep := b.rep }

theorem State.FeedLine.trans {a b c : State} (h : State.FeedLine a b) (g : State.FeedLine b c) : State.FeedLine a c := by
  unfold State.FeedLine at *
  rw [g, h]

theorem State.OneFeed.feedLine {n : Nat} {a b : State} (h : State.OneFeed n a b) : State.FeedLine a b := by
  unfold State.FeedLine
  rw [h.1]

theorem State.LineOnly.feedLine {a b : State} (h : State.LineOnly a b) : State.FeedLine a b := by
  unfold State.FeedLine
  rw [show b = _ from h]

/-- From a to b feeds and the reports change. -/
def State.FdOnly (a b : State) : Prop := b = { a with fd := b.fd, rep := b.rep }

theorem State.FdOnly.trans {a b c : State} (h : State.FdOnly a b) (g : State.FdOnly b c) : State.FdOnly a c := by
  unfold State.FdOnly at *
  rw [g, h]

/-! ## What reaches a feed's hold -/

section
variable (b : State) (n cause : Nat)

/-- The feed that a hold leaves (R285, R305). -/
def State.heldFeed (f : Feed) : Feed :=
  if f.st.gateOn then b.offFeed cause f .held else { f with st := if f.st = .wait then .held else f.st, cause := cause }

variable {b n} in
/-- A hold that no event of a higher row of Table 9.8 meets. -/
theorem State.feedHold_spec (hmet : b.feedMet n 7 = false) (hdis : (b.feed n).st ≠ .disabled) :
    State.OneFeed n b (b.feedHold n cause) ∧ (b.feedHold n cause).feed n = b.heldFeed cause (b.feed n) := by
  unfold State.feedHold State.heldFeed
  by_cases hon : (b.feed n).st.gateOn = true
  · simp only [if_pos hon]
    exact ⟨b.gateOff_oneFeed n cause _, b.gateOff_feed n cause _⟩
  · simp only [if_neg hon, hmet, if_neg hdis, Bool.false_eq_true, if_false]
    let x := b.setFeed n { b.feed n with st := if (b.feed n).st = .wait then .held else (b.feed n).st }
    refine ⟨((b.setFeed_oneFeed n _).trans (x.causeFd_oneFeed n cause)).trans ((x.feedCause_repOnly n cause).oneFeed n), ?_⟩
    refine ((x.feedCause_repOnly n cause).feed n).trans ?_
    rw [State.causeFd_feed, show x.feed n = _ from State.setFeed_feed_self _ _ _]

variable {b n} in
theorem State.Tells.feedHold {s : State} {k : Account} (h : s.Tells k b.rep) (hlive : b.regs.live = s.regs.live)
    (hmet : b.feedMet n 7 = false) (hdis : (b.feed n).st ≠ .disabled) :
    ∃ k', s.Tells k' (b.feedHold n cause).rep ∧
      k'.slubs = k.slubs ++ [b.slubReq 0x0802 n (b.heldFeed cause (b.feed n)).st.code cause] := by
  unfold State.feedHold State.heldFeed
  by_cases hon : (b.feed n).st.gateOn = true
  · simp only [if_pos hon]
    exact ⟨_, h.gateOff hlive n cause .held, rfl⟩
  · simp only [if_neg hon, hmet, if_neg hdis, Bool.false_eq_true, if_false]
    let x := b.setFeed n { b.feed n with st := if (b.feed n).st = .wait then .held else (b.feed n).st }
    have hx : s.Tells k (x.causeFd n cause).rep := h
    refine ⟨_, hx.slub 0x0802 n (x.feed n).st.code cause, ?_⟩
    rw [show x.feed n = _ from State.setFeed_feed_self _ _ _]
    rfl

theorem State.heldFeed_spec (f : Feed) :
    let g := b.heldFeed cause f
    g.hold = f.hold ∧ g.quar = f.quar ∧ g.cycleEnd = f.cycleEnd ∧ g.cause = cause ∧
      g.st = (if f.st.gateOn = true ∨ f.st = .wait then .held else f.st) ∧ (f.st.gateOn = true → g.pg = false) := by
  intro g
  by_cases hon : f.st.gateOn = true
  · have hg : g = b.offFeed cause f .held := if_pos hon
    rw [hg, if_pos (.inl hon)]
    exact ⟨rfl, rfl, rfl, rfl, rfl, fun _ => rfl⟩
  · have hg : g = { f with st := if f.st = .wait then .held else f.st, cause := cause } := if_neg hon
    rw [hg]
    refine ⟨rfl, rfl, rfl, rfl, ?_, fun h => absurd h hon⟩
    show (if f.st = .wait then FeedMode.held else f.st) = _
    by_cases hw : f.st = .wait
    · rw [if_pos hw, if_pos (Or.inr hw)]
    · rw [if_neg hw, if_neg fun h : _ ∨ _ => h.elim hon hw]

/-- A hold ends: the feed goes on where no other holds it. -/
theorem State.holdEnds_spec :
    let f := b.feed n
    let g := (b.holdEnds n).feed n
    State.OneFeed n b (b.holdEnds n) ∧ (b.holdEnds n).rep = b.rep ∧ g.isHeld = f.isHeld ∧ g.cause = f.cause ∧ g.cycleEnd = f.cycleEnd ∧
      g.st = if f.st = .held ∧ f.isHeld = false then (if f.qualified && b.path then .ramp else .wait) else f.st := by
  intro f g
  by_cases h : (decide (f.st = .held) && !f.isHeld) = true
  · have he : b.holdEnds n = b.leaveOff n := if_pos h
    rw [Bool.and_eq_true, decide_eq_true_eq, Bool.not_eq_true'] at h
    obtain ⟨h1, h2, -, h4, h5, -, -, hrep⟩ := b.leaveOff_feed n
    refine ⟨he ▸ b.leaveOff_oneFeed n, he ▸ hrep, ?_, ?_, ?_, ?_⟩
    · exact (congrArg (fun x => (x.feed n).isHeld) he).trans h4
    · exact (congrArg (fun x => (x.feed n).cause) he).trans h2
    · exact (congrArg (fun x => (x.feed n).cycleEnd) he).trans h5
    · refine (congrArg (fun x => (x.feed n).st) he).trans (h1.trans ?_)
      rw [if_pos h, if_neg (by rw [h.2]; decide)]
  · have he : b.holdEnds n = b := if_neg h
    rw [Bool.and_eq_true, decide_eq_true_eq, Bool.not_eq_true'] at h
    refine ⟨he.symm ▸ .refl n b, by rw [he], ?_, ?_, ?_, ?_⟩
    · exact congrArg (fun x => (x.feed n).isHeld) he
    · exact congrArg (fun x => (x.feed n).cause) he
    · exact congrArg (fun x => (x.feed n).cycleEnd) he
    · rw [if_neg h]
      exact congrArg (fun x => (x.feed n).st) he

end

/-! ## Descriptors -/

/-- What FEED_CMD does after the checks that every descriptor passes (R306). -/
def State.feedCmd (s : State) (d : Desc) (act n offMs : Nat) : State :=
  if decide (act = 0) || decide (act > 5) || (if act = 3 then decide (offMs < 10) else decide (offMs ≠ 0)) ||
      !bitOf (s.fcfg n 0) 0 then
    s.complete d { complOf d 8 2 with fstate := (s.feed n).st.code }
  else if s.path = false then s.complete d { complOf d 8 5 with fstate := (s.feed n).st.code }
  else
    let s1 := s.feedAct n act offMs
    s1.complete d { complOf d 8 0 with fstate := (s1.feed n).st.code }

section
variable {s : State} {dt : Nat} {d : Desc}

theorem State.fetchedAt_feed (n : Nat) : (s.fetchedAt dt d).feed n = s.feed n := State.elapse_feed s dt n
theorem State.fetchedAt_fcfg (n o : Nat) : (s.fetchedAt dt d).fcfg n o = s.fcfg n o := s.elapse_fcfg dt n o
theorem State.fetchedAt_path : (s.fetchedAt dt d).path = s.path := s.elapse_path dt
theorem State.fetchedAt_clock : (s.fetchedAt dt d).clock = s.clock + dt := s.elapse_clock dt
theorem State.fetchedAt_line (c : Nat) : (s.fetchedAt dt d).line c = s.line c := by
  show Tbl.lookD (s.elapse dt).lw c {} = _
  rw [State.elapse_lw]
  rfl

theorem State.feedCmd_bad {u : State} {act n offMs : Nat}
    (h : bitOf (u.fcfg n 0) 0 = false ∨ (act = 3 ∧ offMs < 10)) :
    u.feedCmd d act n offMs = u.complete d { complOf d 8 2 with fstate := (u.feed n).st.code } := by
  refine if_pos ?_
  rcases h with h | ⟨rfl, h⟩
  · simp [h]
  · simp [h]

theorem State.feedCmd_ok {u : State} {act n offMs : Nat} (ha : 1 ≤ act ∧ act ≤ 5) (hen : bitOf (u.fcfg n 0) 0 = true)
    (hp : u.path = true) (hoff : if act = 3 then 10 ≤ offMs else offMs = 0) :
    u.feedCmd d act n offMs =
      (u.feedAct n act offMs).complete d { complOf d 8 0 with fstate := ((u.feedAct n act offMs).feed n).st.code } := by
  have hno : ¬(decide (act = 0) || decide (act > 5) || (if act = 3 then decide (offMs < 10) else decide (offMs ≠ 0)) ||
      !bitOf (u.fcfg n 0) 0) = true := by
    rw [hen]
    by_cases h3 : act = 3
    · rw [if_pos h3] at hoff
      rw [if_pos h3]
      simp only [Bool.or_eq_true, decide_eq_true_eq, Bool.not_true, Bool.false_eq_true, or_false]
      omega
    · rw [if_neg h3] at hoff
      rw [if_neg h3]
      simp only [Bool.or_eq_true, decide_eq_true_eq, Bool.not_true, Bool.false_eq_true, or_false]
      omega
  exact (if_neg hno).trans (if_neg (by rw [hp]; decide))

/-- Each FEED_CMD is `State.feedCmd` behind the checks of a descriptor. -/
theorem exec_feedCmd (n : Fin 8) {c : Instr} {act ms : Nat}
    (h : (c = .feedCmdOn dt d n ∧ act = 1 ∧ ms = 0) ∨ (c = .feedCmdOff dt d n ∧ act = 2 ∧ ms = 0) ∨
      (∃ x : BitVec 16, c = .feedCmdCycle dt d n x ∧ act = 3 ∧ ms = x.toNat) ∨ (c = .feedCmdQuarantine dt d n ∧ act = 4 ∧ ms = 0) ∨
      (c = .feedCmdClear dt d n ∧ act = 5 ∧ ms = 0)) :
    ∃ b, (∀ u : State, u.prefetch d b = u) ∧ exec c s = s.descRow dt d b (fun u => u.acceptFor d 8 0 (fun u => u.feedCmd d act n.val ms)) := by
  rcases h with ⟨rfl, rfl, rfl⟩ | ⟨rfl, rfl, rfl⟩ | ⟨x, rfl, rfl, rfl⟩ | ⟨rfl, rfl, rfl⟩ | ⟨rfl, rfl, rfl⟩
  · exact ⟨.feedCmd 1 n 0, fun _ => rfl, rfl⟩
  · exact ⟨.feedCmd 2 n 0, fun _ => rfl, rfl⟩
  · exact ⟨.feedCmd 3 n x, fun _ => rfl, rfl⟩
  · exact ⟨.feedCmd 4 n 0, fun _ => rfl, rfl⟩
  · exact ⟨.feedCmd 5 n 0, fun _ => rfl, rfl⟩

/-- A FEED_CMD that its checks refuse is MALFORMED (R306). -/
theorem answers_feedCmd_bad {c : Instr} {n : Fin 8} {act ms : Nat} (hd : s.admits d) (hcan : s.canComplete d)
    (hc : ∃ b, (∀ u : State, u.prefetch d b = u) ∧
      exec c s = s.descRow dt d b (fun u => u.acceptFor d 8 0 (fun u => u.feedCmd d act n.val ms)))
    (h : bitOf (s.fcfg n.val 0) 0 = false ∨ (act = 3 ∧ ms < 10)) :
    Answers c s (fun t =>
      t = { s.elapse dt with rep := t.rep } ∧ s.completes t d { complOf d 8 2 with fstate := (s.feed n.val).st.code }) := by
  obtain ⟨b, hb, hc⟩ := hc
  have hg := State.feedCmd_bad (d := d) (u := s.fetchedAt dt d) (n := n.val) (act := act) (offMs := ms)
    (by rw [State.fetchedAt_fcfg]; exact h)
  rw [State.fetchedAt_feed] at hg
  refine answers_desc hd hc hb (by decide) hg (State.fetchedAt_repOnly.complete _ _)
    (State.Tells.completeClaimed (State.Tells.fetchedAt hd.1) (State.fetchedAt_claims hd.1 hcan) (.inr (show (2 : Nat) ≠ 0 by decide)))
    fun r told => ⟨rfl, told.completes _ List.mem_cons_self⟩

/-- One that passes them acts on its feed and completes. -/
theorem answers_feedCmd {c : Instr} {n : Fin 8} {act ms : Nat} {P : State → Prop} {k : Account} {w : State} (hd : s.admits d)
    (hc : ∃ b, (∀ u : State, u.prefetch d b = u) ∧
      exec c s = s.descRow dt d b (fun u => u.acceptFor d 8 0 (fun u => u.feedCmd d act n.val ms)))
    (ha : 1 ≤ act ∧ act ≤ 5) (hen : bitOf (s.fcfg n.val 0) 0 = true) (hp : s.path = true)
    (hms : if act = 3 then 10 ≤ ms else ms = 0) (hw : (s.fetchedAt dt d).feedAct n.val act ms = w) (htells : s.Tells k w.rep)
    (hP : ∀ r', s.Told k { w with rep := r' } → P { w with rep := r' }) : Answers c s P := by
  obtain ⟨b, hb, hc⟩ := hc
  have hg := State.feedCmd_ok (d := d) (u := s.fetchedAt dt d) ha (by rw [State.fetchedAt_fcfg]; exact hen)
    (by rw [State.fetchedAt_path]; exact hp) hms
  rw [hw] at hg
  exact answers_desc (v := w) hd hc hb (by decide) hg ((State.RepOnly.refl w).complete _ _) (htells.keepComplete _ _) hP

end

/-! ## ON and CLEAR -/

/-- ON ends the waiting restarts of a feed's quarantines. -/
def State.quarsRestarted (s : State) (n : Nat) : State :=
  channels.foldl (fun (a : State) c =>
    a.modLine c (fun v => { v with quars := v.quars.map (fun q => if q.feed = n then { q with restarted := true } else q) })) s

theorem State.quarsRestarted_spec (s : State) (n : Nat) : State.LineOnly s (s.quarsRestarted n) ∧ (s.quarsRestarted n).rep = s.rep := by
  have h : ∀ (l : List Nat) (a : State), State.LineOnly a (l.foldl (fun (a : State) c =>
      a.modLine c (fun v => { v with quars := v.quars.map (fun q => if q.feed = n then { q with restarted := true } else q) })) a) ∧
      (l.foldl (fun (a : State) c =>
        a.modLine c (fun v => { v with quars := v.quars.map (fun q => if q.feed = n then { q with restarted := true } else q) })) a).rep = a.rep := by
    intro l
    induction l with
    | nil => exact fun a => ⟨.refl a, rfl⟩
    | cons c l ih =>
      intro a
      have hmod : State.LineOnly a (a.modLine c (fun v => { v with
        quars := v.quars.map (fun q => if q.feed = n then { q with restarted := true } else q) })) := rfl
      exact ⟨hmod.trans (ih _).1, (ih _).2.trans rfl⟩
  exact h channels s

theorem State.feedOn_eq (s : State) (n : Nat) : s.feedOn n =
    ((s.quarsRestarted n).modFeed n (fun f => { f with hold := s.safeHold n, cycleEnd := none, quar := false })).holdEnds n := rfl

section
variable {s : State} {dt : Nat} {d : Desc} {n : Fin 8} (hd : s.admits d) (hen : bitOf (s.fcfg n.val 0) 0 = true) (hp : s.path = true)
include hd hen hp

theorem answers_feedCmdOn :
    Answers (.feedCmdOn dt d n) s (fun t =>
      t = { s.elapse dt with fd := t.fd, lw := t.lw, rep := t.rep } ∧ (∀ k, k ≠ n.val → t.feed k = s.feed k) ∧
      (t.feed n.val).isHeld = false ∧ (t.feed n.val).cause = (s.feed n.val).cause ∧
      (t.feed n.val).st = (if (s.feed n.val).st = .held then
        (if (s.feed n.val).qualified && s.path then FeedMode.ramp else .wait) else (s.feed n.val).st)) := by
  let u := s.fetchedAt dt d
  obtain ⟨hline, hlrep⟩ := u.quarsRestarted_spec n.val
  have hfeed : ∀ k, (u.quarsRestarted n.val).feed k = s.feed k := fun k => (hline.feed k).trans (State.fetchedAt_feed k)
  obtain ⟨b, hb⟩ : ∃ b, u.quarsRestarted n.val = b := ⟨_, rfl⟩
  rw [hb] at hline hlrep hfeed
  have hsafe : u.safeHold n.val = false := by
    unfold State.safeHold
    rw [show u.dev = s.dev from s.elapse_dev dt, decide_eq_false hd.2.2.2.1]
    rfl
  let x := b.modFeed n.val (fun f => { f with hold := u.safeHold n.val, cycleEnd := none, quar := false })
  have hxf : x.feed n.val = { s.feed n.val with hold := false, cycleEnd := none, quar := false } := by
    rw [show x.feed n.val = _ from State.setFeed_feed_self _ _ _, hfeed, hsafe]
  have hxp : x.path = s.path := by
    show b.path = _
    rw [hline]
    exact State.fetchedAt_path (d := d)
  obtain ⟨hone, hrep, h1, h2, -, h4⟩ := x.holdEnds_spec n.val
  rw [hxf] at h1 h2 h4
  rw [hxp, if_congr (and_iff_left (show ({ s.feed n.val with hold := false, cycleEnd := none, quar := false } : Feed).isHeld = false from rfl))
    rfl rfl] at h4
  have hact : u.feedAct n.val 1 0 = x.holdEnds n.val := by
    refine (u.feedOn_eq n.val).trans ?_
    rw [hb]
  refine answers_feedCmd hd (exec_feedCmd n (.inl ⟨rfl, rfl, rfl⟩)) (by decide) hen hp rfl hact
    (k := {}) ?_ fun r _ => ⟨?_, fun k hk => ?_, h1, h2, h4⟩
  · rw [hrep]
    show s.Tells {} b.rep
    rw [hlrep]
    exact State.Tells.fetchedAt hd.1
  · have hall : State.FeedLine (s.elapse dt) (x.holdEnds n.val) :=
      (((State.fetchedAt_repOnly.oneFeed n.val).feedLine.trans hline.feedLine).trans (b.setFeed_oneFeed n.val _).feedLine).trans
        hone.feedLine
    rw [show x.holdEnds n.val = _ from hall]
  · refine (hone.2.2 k hk).trans ((b.setFeed_feed_ne _ hk).trans (hfeed k))

theorem answers_feedCmdClear :
    Answers (.feedCmdClear dt d n) s (fun t =>
      s.onlyFeed t dt n.val ∧
      ((s.feed n.val).st = .latched → (t.feed n.val).retries = 0 ∧ (t.feed n.val).cause = (s.feed n.val).cause ∧
        (t.feed n.val).st = if (s.feed n.val).isHeld then .held
          else (if (s.feed n.val).qualified && s.path then FeedMode.ramp else .wait)) ∧
      ((s.feed n.val).st ≠ .latched → t.fd = s.fd ∧ s.counts t (5376 + 8 * n.val + 7) 1)) := by
  let u := s.fetchedAt dt d
  have hut : s.Tells {} u.rep := State.Tells.fetchedAt hd.1
  have huf : u.feed n.val = s.feed n.val := State.fetchedAt_feed n.val
  have hone : State.OneFeed n.val (s.elapse dt) u := State.fetchedAt_repOnly.oneFeed n.val
  by_cases hl : (s.feed n.val).st = .latched
  · let x := u.setFeed n.val { u.feed n.val with retries := 0 }
    have hact : u.feedAct n.val 5 0 = x.leaveOff n.val := (if_pos (huf ▸ hl) : u.feedClear n.val = _)
    obtain ⟨h1, h2, h3, -, -, -, -, hrep⟩ := x.leaveOff_feed n.val
    have hxf : x.feed n.val = { s.feed n.val with retries := 0 } := by
      rw [show x.feed n.val = _ from State.setFeed_feed_self _ _ _, huf]
    have hxp : x.path = s.path := State.fetchedAt_path (d := d)
    rw [hxf, hxp] at h1
    rw [hxf] at h2 h3
    refine answers_feedCmd hd (exec_feedCmd n (.inr (.inr (.inr (.inr ⟨rfl, rfl, rfl⟩))))) (by decide) hen hp rfl hact
      (k := {}) (hrep.symm ▸ hut) fun r _ => ⟨?_, fun _ => ⟨h3, h2, h1⟩, fun h => absurd hl h⟩
    exact ((hone.trans (u.setFeed_oneFeed _ _)).trans (x.leaveOff_oneFeed _)).only r
  · have hact : u.feedAct n.val 5 0 = u.count (5376 + 8 * n.val + 7) := (if_neg (huf ▸ hl) : u.feedClear n.val = _)
    refine answers_feedCmd hd (exec_feedCmd n (.inr (.inr (.inr (.inr ⟨rfl, rfl, rfl⟩))))) (by decide) hen hp rfl hact
      (hut.count _) fun r told => ⟨?_, fun h => absurd h hl, fun _ => ⟨s.elapse_fd dt, told.counts _ List.mem_cons_self⟩⟩
    exact (hone.trans (((State.RepOnly.refl u).count _).oneFeed _)).only r

/-! ## OFF, CYCLE and QUARANTINE -/

/-- A command that holds the feed, in no instant of an event of a higher row. -/
theorem answers_feedHold {c : Instr} {act ms : Nat} {h : Feed → Feed}
    (hc : (c = .feedCmdOff dt d n ∧ act = 2 ∧ ms = 0) ∨ (∃ x : BitVec 16, c = .feedCmdCycle dt d n x ∧ act = 3 ∧ ms = x.toNat) ∨
      (c = .feedCmdQuarantine dt d n ∧ act = 4 ∧ ms = 0)) (hms : if act = 3 then 10 ≤ ms else ms = 0)
    (hact : (s.fetchedAt dt d).feedAct n.val act ms = ((s.fetchedAt dt d).modFeed n.val h).feedHold n.val 9)
    (hst : ∀ f, (h f).st = f.st ∧ (h f).metAt = f.metAt)
    (hmet : (s.elapse dt).feedMet n.val 7 = false) (hdis : (s.feed n.val).st ≠ .disabled) :
    Answers c s (fun t =>
      s.onlyFeed t dt n.val ∧ (t.feed n.val).hold = (h (s.feed n.val)).hold ∧ (t.feed n.val).cycleEnd = (h (s.feed n.val)).cycleEnd ∧
      (t.feed n.val).cause = 9 ∧
      (t.feed n.val).st = (if (s.feed n.val).st.gateOn = true ∨ (s.feed n.val).st = .wait then .held else (s.feed n.val).st) ∧
      ((s.feed n.val).st.gateOn = true → (t.feed n.val).pg = false) ∧ s.logs t 0x0802 n.val (t.feed n.val).st.code 9) := by
  let u := s.fetchedAt dt d
  let x := u.modFeed n.val h
  have hxf : x.feed n.val = h (s.feed n.val) := by
    rw [show x.feed n.val = _ from State.setFeed_feed_self _ _ _, State.fetchedAt_feed]
  have hxmet : x.feedMet n.val 7 = false := by
    rw [← hmet]
    unfold State.feedMet
    rw [hxf, (hst _).2, State.elapse_feed]
    rfl
  have hxdis : (x.feed n.val).st ≠ .disabled := by rw [hxf, (hst _).1]; exact hdis
  have hx : s.Tells {} x.rep := State.Tells.fetchedAt hd.1
  obtain ⟨hone, hfeed⟩ := State.feedHold_spec 9 hxmet hxdis
  obtain ⟨k, htells, hslub⟩ := hx.feedHold 9 (State.fetchedAt_live (d := d)) hxmet hxdis
  obtain ⟨h1, h2, h3, h4, h5, h6⟩ := x.heldFeed_spec 9 (x.feed n.val)
  obtain ⟨b, hb⟩ : ∃ b, x.feedHold n.val 9 = b := ⟨_, rfl⟩
  rw [hb] at hone hfeed htells
  rw [← hfeed] at h1 h2 h3 h4 h5 h6 hslub
  rw [hxf] at h1 h2 h3 h5 h6
  rw [(hst _).1] at h5 h6
  have hall : State.OneFeed n.val (s.elapse dt) b :=
    ((State.fetchedAt_repOnly.oneFeed n.val).trans (u.setFeed_oneFeed n.val _)).trans hone
  have hcc := exec_feedCmd (s := s) n (c := c) (act := act) (ms := ms) (dt := dt) (d := d) (by
    rcases hc with h | h | h
    · exact .inr (.inl h)
    · exact .inr (.inr (.inl h))
    · exact .inr (.inr (.inr (.inl h))))
  have ha : 1 ≤ act ∧ act ≤ 5 := by rcases hc with ⟨-, rfl, -⟩ | ⟨_, -, rfl, -⟩ | ⟨-, rfl, -⟩ <;> decide
  refine answers_feedCmd hd hcc ha hen hp hms (hact.trans hb) htells fun r told =>
    ⟨hall.only r, h1, h3, h4, h5, h6, told.logs _ _ _ _ (hslub.trans ?_)⟩
  have hq : x.slubReq 0x0802 n.val (b.feed n.val).st.code 9 = (State.slubReq { b with rep := r } 0x0802 n.val (b.feed n.val).st.code 9) := by
    rw [hone.1]
    rfl
  exact congrArg (fun q => [q]) hq

theorem answers_feedCmdOff {c : Instr} (hmet : (s.elapse dt).feedMet n.val 7 = false) (hdis : (s.feed n.val).st ≠ .disabled)
    (hc : c = .feedCmdOff dt d n ∨ (c = .feedCmdQuarantine dt d n ∧ s.reqFor n.val = none)) :
    Answers c s (fun t =>
      s.onlyFeed t dt n.val ∧ (t.feed n.val).hold = true ∧ (t.feed n.val).cause = 9 ∧
      (t.feed n.val).st = (if (s.feed n.val).st.gateOn = true ∨ (s.feed n.val).st = .wait then .held else (s.feed n.val).st) ∧
      ((s.feed n.val).st.gateOn = true → (t.feed n.val).pg = false) ∧ s.logs t 0x0802 n.val (t.feed n.val).st.code 9) := by
  have hreq : (s.fetchedAt dt d).reqFor n.val = s.reqFor n.val := by
    unfold State.reqFor
    simp only [State.fetchedAt_line]
  rcases hc with rfl | ⟨rfl, hnone⟩
  · refine (answers_feedHold hd hen hp (h := fun f => { f with hold := true }) (.inl ⟨rfl, rfl, rfl⟩) rfl rfl (fun _ => ⟨rfl, rfl⟩)
      hmet hdis).mono fun t ⟨h1, h2, _, h4, h5, h6, h7⟩ => ⟨h1, h2, h4, h5, h6, h7⟩
  · have hact : (s.fetchedAt dt d).feedAct n.val 4 0 = (s.fetchedAt dt d).feedOff n.val := by
      show (s.fetchedAt dt d).feedQuar n.val = _
      unfold State.feedQuar
      rw [hreq, hnone, ite_self]
    refine (answers_feedHold hd hen hp (h := fun f => { f with hold := true }) (.inr (.inr ⟨rfl, rfl, rfl⟩)) rfl hact (fun _ => ⟨rfl, rfl⟩)
      hmet hdis).mono fun t ⟨h1, h2, _, h4, h5, h6, h7⟩ => ⟨h1, h2, h4, h5, h6, h7⟩

theorem answers_feedCmdCycle (hmet : (s.elapse dt).feedMet n.val 7 = false) (hdis : (s.feed n.val).st ≠ .disabled) {off : BitVec 16}
    (hoff : 10 ≤ off.toNat) :
    Answers (.feedCmdCycle dt d n off) s (fun t =>
      s.onlyFeed t dt n.val ∧ (t.feed n.val).cycleEnd = some (s.clock + dt + off.toNat * 1000000) ∧ (t.feed n.val).cause = 9 ∧
      (t.feed n.val).st = (if (s.feed n.val).st.gateOn = true ∨ (s.feed n.val).st = .wait then .held else (s.feed n.val).st)) := by
  refine (answers_feedHold hd hen hp (h := fun f => { f with cycleEnd := some ((s.fetchedAt dt d).clock + off.toNat * 1000000) })
    (.inr (.inl ⟨off, rfl, rfl, rfl⟩)) hoff rfl (fun _ => ⟨rfl, rfl⟩) hmet hdis).mono fun t ⟨h1, _, h3, h4, h5, _, _⟩ => ⟨h1, ?_, h4, h5⟩
  rw [h3]
  show some ((s.fetchedAt dt d).clock + _) = _
  rw [State.fetchedAt_clock]

/-- QUARANTINE approves the feed's pending request (R207). -/
theorem answers_feedCmdQuarantine (hmet : (s.elapse dt).feedMet n.val 7 = false) (hdis : (s.feed n.val).st ≠ .disabled) {ch : Nat}
    {q : QuarReq} (hmay : s.mayQuar = true) (hreq : s.reqFor n.val = some ch)
    (hfind : (s.line ch).reqs.find? (fun r => decide (r.feed = n.val)) = some q) :
    Answers (.feedCmdQuarantine dt d n) s (fun t =>
      (t.line ch).reqs = (s.line ch).reqs.filter (fun r => decide (r.feed ≠ n.val)) ∧ (t.feed n.val).quar = true ∧
      (t.feed n.val).cause = 10 ∧ s.raises t 0x1C5 ∧
      (t.line ch).quars = (s.line ch).quars ++
        [{ feed := n.val, action := q.action, restart := s.clock + dt + q.offMs * 1000000, restarted := false }] ∧
      t.regs.live = s.regs.live ∧ ∀ k, k ≠ n.val → t.feed k = s.feed k) := by
  have hqf : q.feed = n.val := by simpa using List.find?_some hfind
  let u := s.fetchedAt dt d
  have hureq : u.reqFor n.val = s.reqFor n.val := by
    unfold State.reqFor
    simp only [u, State.fetchedAt_line]
  have hmu : u.mayQuar = s.mayQuar := by
    have h1 : u.dev = s.dev := s.elapse_dev dt
    have h2 : u.pl = s.pl := s.elapse_pl dt
    have h3 : u.plyMember = s.plyMember := by
      unfold State.plyMember State.bit State.live
      rw [h1, show u.regs = s.regs from s.elapse_regs dt]
    unfold State.mayQuar
    rw [h1, h2, h3]
  let x := u.modLine ch (fun v => { v with
    reqs := v.reqs.filter (fun r => decide (r.feed ≠ q.feed))
    quars := v.quars ++ [{ feed := q.feed, action := q.action, restart := u.clock + q.offMs * 1000000, restarted := false }] })
  let y := x.modFeed q.feed (fun f => { f with quar := true })
  have hyf : y.feed n.val = { s.feed n.val with quar := true } := by
    have hy : y.feed q.feed = { u.feed q.feed with quar := true } := State.setFeed_feed_self _ _ _
    rwa [hqf, State.fetchedAt_feed] at hy
  have humet : u.feedMet q.feed 7 = false := by rw [hqf]; exact hmet
  have hymet : y.feedMet n.val 7 = false := by
    rw [← hmet]
    unfold State.feedMet
    rw [hyf, State.elapse_feed]
    rfl
  have hydis : (y.feed n.val).st ≠ .disabled := by rw [hyf]; exact hdis
  have hy : s.Tells {} y.rep := State.Tells.fetchedAt hd.1
  obtain ⟨hone, hfeed⟩ := State.feedHold_spec 10 hymet hydis
  obtain ⟨k, htells, -⟩ := hy.feedHold 10 (State.fetchedAt_live (d := d)) hymet hydis
  obtain ⟨-, h2, -, h4, -, -⟩ := y.heldFeed_spec 10 (y.feed n.val)
  rw [← hfeed] at h2 h4
  have hact : u.feedAct n.val 4 0 = ((((y.feedHold n.val 10).raise 0x1C5).count (64 * ch + 31)).quarRecord ch 2 q.feed q.action q.node).quarBreach q.feed := by
    show u.feedQuar n.val = _
    unfold State.feedQuar
    rw [hureq, hmu, hmay, if_pos rfl, hreq]
    simp only
    rw [State.fetchedAt_line, hfind]
    show u.quarStart ch q = _
    unfold State.quarStart
    rw [humet, if_neg (by decide), ← hqf]
  obtain ⟨b, hb⟩ : ∃ b, y.feedHold n.val 10 = b := ⟨_, rfl⟩
  rw [hb] at hone htells h2 h4 hact
  have hblive : b.regs.live = s.regs.live := hone.live.trans (State.fetchedAt_live (d := d))
  have hears := htells.hears.raise 0x1C5 hblive
  have F := State.drOnly_frame
  obtain ⟨bd, hbb, hc⟩ := exec_feedCmd (s := s) n (c := .feedCmdQuarantine dt d n) (dt := dt) (d := d)
    (.inr (.inr (.inr (.inl ⟨rfl, rfl, rfl⟩))))
  have hg := State.feedCmd_ok (d := d) (u := u) (n := n.val) (act := 4) (offMs := 0) (by decide) (by rw [State.fetchedAt_fcfg]; exact hen)
    (by rw [State.fetchedAt_path]; exact hp) rfl
  obtain ⟨w, hw⟩ : ∃ w, u.feedAct n.val 4 0 = w := ⟨_, rfl⟩
  have hframe : State.DrOnly (b.raise 0x1C5) (w.complete d { complOf d 8 0 with fstate := (w.feed n.val).st.code }) := by
    rw [← hw, hact]
    exact F.complete (F.trans (F.quarRecord (F.count (F.refl _) _) _ _ _ _ _) (F.quarBreach _ _)) _ _
  rw [hw] at hg
  obtain ⟨z, hz⟩ : ∃ z, w.complete d { complOf d 8 0 with fstate := (w.feed n.val).st.code } = z := ⟨_, rfl⟩
  rw [hz] at hg hframe
  obtain ⟨hrest, hgrow, hwh⟩ := hframe
  have hzl : z.lw = b.lw := by rw [hrest]; rfl
  have hzf : z.fd = b.fd := by rw [hrest]; rfl
  have hzr : z.regs = b.regs := by rw [hrest]; rfl
  have hbl : b.line ch = { s.line ch with
      reqs := (s.line ch).reqs.filter (fun r => decide (r.feed ≠ n.val))
      quars := (s.line ch).quars ++ [{ feed := n.val, action := q.action, restart := s.clock + dt + q.offMs * 1000000, restarted := false }] } := by
    rw [hone.1]
    show y.line ch = _
    refine (u.setLine_line_self ch _).trans ?_
    rw [State.fetchedAt_line, State.fetchedAt_clock, hqf]
  have hline : ∀ r, (State.line { z with rep := r } ch) = b.line ch := fun r => by
    show Tbl.lookD z.lw ch {} = _
    rw [hzl]
    rfl
  have hzfeed : ∀ (r : Rep) k, (State.feed { z with rep := r } k) = b.feed k := fun r k => by
    show Tbl.lookD z.fd.feeds k {} = _
    rw [hzf]
    rfl
  refine answers_desc_hears hd hc hbb (by decide) hg (hears.mono hgrow hwh) fun r heard => ⟨?_, ?_, ?_, heard.raises _ List.mem_cons_self, ?_, ?_, fun k hk => ?_⟩
  · rw [hline, hbl]
  · rw [hzfeed, h2, hyf]
  · rw [hzfeed, h4]
  · rw [hline, hbl]
  · exact (congrArg RegSt.live hzr).trans hblive
  · rw [hzfeed, hone.2.2 k hk]
    exact (x.setFeed_feed_ne _ (hqf ▸ hk)).trans (State.fetchedAt_feed (d := d) k)

end

/-! ## The end of a CYCLE, and register writes -/

section
variable {s : State} {dt : Nat} {n : Fin 8} (hs : s.ready)
include hs

theorem answers_feedCycleEnd {a : Nat} (ha : (s.feed n.val).cycleEnd = some a) (hle : a ≤ s.clock + dt) :
    Answers (.feedCycleEnd dt n) s (fun t =>
      s.onlyFeed t dt n.val ∧ (t.feed n.val).cycleEnd = none ∧
      (t.feed n.val).st = if (s.feed n.val).st = .held ∧ (s.feed n.val).hold = false ∧ (s.feed n.val).quar = false
        then (if (s.feed n.val).qualified && s.path then FeedMode.ramp else .wait) else (s.feed n.val).st) := by
  let u := s.elapse dt
  let x := u.modFeed n.val (fun f => { f with cycleEnd := none })
  have hxf : x.feed n.val = { s.feed n.val with cycleEnd := none } := by
    rw [show x.feed n.val = _ from State.setFeed_feed_self _ _ _, State.elapse_feed]
  have hxp : x.path = s.path := s.elapse_path dt
  obtain ⟨hone, hrep, -, -, h3, h4⟩ := x.holdEnds_spec n.val
  rw [hxf] at h3 h4
  rw [hxp] at h4
  have hcond : (match ((s.elapse dt).feed n.val).cycleEnd with | some t => decide (t ≤ (s.elapse dt).clock) | none => false) = true := by
    rw [State.elapse_feed, ha, State.elapse_clock]
    exact decide_eq_true hle
  have hheld : ({ s.feed n.val with cycleEnd := none } : Feed).isHeld = false ↔ (s.feed n.val).hold = false ∧ (s.feed n.val).quar = false := by
    unfold Feed.isHeld
    simp
  rw [if_congr (and_congr_right fun _ => hheld) rfl rfl] at h4
  exact answers_becomes hs (show exec (.feedCycleEnd dt n) s = _ from rfl) (if_pos hcond) hrep
    ⟨((u.setFeed_oneFeed n.val _).trans hone).only _, h3, h4⟩

/-- What a posted register write leaves (R400). -/
theorem answers_posts {c : Instr} {off : Nat} {w : Wr} {g : State → State} (hw : s.passes off w)
    (hc : exec c s = s.at_ dt (fun u => u.wr off w g)) (hg : g (s.elapse dt) = (s.elapse dt).post off w.data) :
    Answers c s (fun t => t = { s.elapse dt with fa := t.fa } ∧
      t.fa.posted = some { seq := s.fa.seq + 1, off := off, data := w.data }) := by
  have hsend : ∀ k, ((s.elapse dt).sendOver k) = { s.elapse dt with fa := ((s.elapse dt).sendOver k).fa } := fun k => by
    unfold State.sendOver
    split <;> rfl
  have hpost : (s.elapse dt).post off w.data = { s.elapse dt with fa := ((s.elapse dt).post off w.data).fa } := by
    unfold State.post
    rw [hsend]
  refine answers_wr_settles hs hw hc (hg.trans hpost) (State.elapse_settled hs dt) ⟨rfl, ?_⟩
  show some _ = _
  rw [← s.elapse_fa dt]

theorem answers_fdCmd {c : Instr} {w : Wr} (hw : s.passes (fdBase n.val + 0x40) w)
    (hc : c = .fdCmdOn dt n w ∨ c = .fdCmdOff dt n w ∨ c = .fdCmdClear dt n w) :
    (bitsSet w.data 3 ≤ 1 →
      Answers c s (fun t => t = { s.elapse dt with fa := t.fa } ∧
        t.fa.posted = some { seq := s.fa.seq + 1, off := fdBase n.val + 0x40, data := w.data })) ∧
    (1 < bitsSet w.data 3 → Answers c s (fun t => s.discards t dt (fdBase n.val + 0x40) w 10)) := by
  have hex : exec c s = s.at_ dt (fun u => u.fdCmd n.val w) := by rcases hc with rfl | rfl | rfl <;> rfl
  refine ⟨fun hb => answers_posts hs hw (hex.trans rfl) (if_neg (Nat.not_lt.2 hb)), fun hb => ?_⟩
  refine answers_at hs hex ?_
  have hg : (s.elapse dt).fdCmd n.val w = (s.elapse dt).discard (fdBase n.val + 0x40) w.port 10 :=
    (State.wr_pass ((State.wrReason_elapse hs.2.2 dt _ w).trans hw)).trans (if_pos hb)
  rw [hg]
  exact State.discards_discard hs dt _ w 10

/-! ## A commit at the field die -/

end

/-- What each of a list of feeds becomes, one after the other. -/
theorem foldl_feeds {f : State → Nat → State} {I : State → Prop} {Q : Nat → Feed → Feed → Prop}
    (hone : ∀ a k, State.OneFeed k a (f a k)) (hI : ∀ {a b k}, State.OneFeed k a b → I a → I b)
    (hQ : ∀ a k, I a → Q k (a.feed k) ((f a k).feed k)) (l : List Nat) (hl : l.Nodup) (a : State) (ha : I a) :
    (∀ k ∈ l, Q k (a.feed k) ((l.foldl f a).feed k)) ∧ (∀ k, k ∉ l → (l.foldl f a).feed k = a.feed k) ∧
      State.FdOnly a (l.foldl f a) ∧ (l.foldl f a).fd.cfg = a.fd.cfg := by
  induction l generalizing a with
  | nil => exact ⟨fun k hk => (nomatch hk), fun _ _ => rfl, rfl, rfl⟩
  | cons k l ih =>
    rw [List.nodup_cons] at hl
    have h1 := hone a k
    obtain ⟨ih1, ih2, ih3, ih4⟩ := ih hl.2 (f a k) (hI h1 ha)
    refine ⟨fun j hj => ?_, fun j hj => ?_, State.FdOnly.trans h1.1 ih3, ih4.trans h1.2.1⟩
    · rcases List.mem_cons.1 hj with rfl | hj
      · rw [List.foldl_cons, ih2 _ hl.1]
        exact hQ a _ ha
      · have hne : j ≠ k := fun e => hl.1 (e ▸ hj)
        rw [← h1.2.2 j hne]
        exact ih1 j hj
    · rw [List.mem_cons, not_or] at hj
      exact (ih2 j hj.2).trans (h1.2.2 j hj.1)

theorem State.feedEn_oneFeed (a : State) (n : Nat) : State.OneFeed n a (a.feedEn n) := by
  unfold State.feedEn
  refine .ite (.ite (a.setFeed_oneFeed n _) (.refl n a)) (.ite (.refl n a) (.ite (a.gateOff_oneFeed n 9 _) (.ite ?_ ?_)))
  · exact (a.setFeed_oneFeed n _).trans (((State.RepOnly.refl _).count _).oneFeed n)
  · let x := a.setFeed n { a.feed n with st := .disabled, metAt := some (a.clock, rowOf 9 true) }
    exact ((a.setFeed_oneFeed n _).trans (x.causeFd_oneFeed n 9)).trans ((x.feedCause_repOnly n 9).oneFeed n)

/-- What EN as committed makes of a feed at a time of the clock of intervals (R284, R285). -/
def Feed.enabledAs (f : Feed) (en : Bool) (clock : Nat) (g : Feed) : Prop :=
  g.st = (if en then (if f.st = .disabled then (if f.isHeld then .held else .wait) else f.st) else .disabled) ∧
  (en = false → f.st ≠ .disabled → f.st.gateOn = true ∨
    (match f.metAt with | some (t, r) => decide (t = clock) && decide (r < 6) | none => false) = false → g.cause = 9)

theorem State.feedEns_feedsAct (l : List Nat) (a : State) : State.FeedsAct (l.length * 1) a (l.foldl State.feedEn a) :=
  State.FeedsAct.foldl (fun b k => b.feedEn_feedsAct k) l a

theorem State.feedEn_feed (a : State) (n : Nat) :
    (a.feed n).enabledAs (bitOf (a.fcfg n 0) 0) a.clock ((a.feedEn n).feed n) := by
  let f := a.feed n
  let g := (a.feedEn n).feed n
  obtain ⟨en, hen'⟩ : ∃ en, bitOf (a.fcfg n 0) 0 = en := ⟨_, rfl⟩
  rw [hen']
  show f.enabledAs en a.clock g
  unfold Feed.enabledAs
  cases hen : en with
  | true =>
    have hg : g = (if f.st = .disabled then a.setFeed n { f with st := if f.isHeld then .held else .wait } else a).feed n :=
      congrArg (fun x => State.feed x n) (if_pos (hen'.trans hen))
    refine ⟨?_, nofun⟩
    rw [hg]
    by_cases hd : f.st = .disabled
    · rw [if_pos hd, State.setFeed_feed_self]
      simp [hd]
    · rw [if_neg hd]
      simp only [if_true, if_neg hd]
      rfl
  | false =>
    have hg : g = (if f.st = .disabled then a else if f.st.gateOn then a.gateOff n 9 .disabled
        else if a.feedMet n 6 then (a.setFeed n { f with st := .disabled }).count (feedCounter n 9)
        else (a.setFeed n { f with st := .disabled, metAt := some (a.clock, rowOf 9 true) }).feedCause n 9).feed n :=
      congrArg (fun x => State.feed x n) (if_neg (by rw [hen', hen]; decide))
    rw [hg]
    by_cases hd : f.st = .disabled
    · rw [if_pos hd]
      exact ⟨hd, fun _ h => absurd hd h⟩
    · rw [if_neg hd]
      by_cases hon : f.st.gateOn = true
      · rw [if_pos hon, State.gateOff_feed]
        exact ⟨rfl, fun _ _ _ => rfl⟩
      · rw [if_neg hon]
        by_cases hm : a.feedMet n 6 = true
        · rw [if_pos hm]
          have hc : ((a.setFeed n { f with st := .disabled }).count (feedCounter n 9)).feed n = { f with st := .disabled } :=
            (((State.RepOnly.refl _).count _).feed n).trans (a.setFeed_feed_self n _)
          rw [hc]
          exact ⟨rfl, fun _ _ h => absurd (h.resolve_left hon) (by
            show ¬a.feedMet n 6 = false
            rw [hm]
            decide)⟩
        · rw [if_neg hm]
          let x := a.setFeed n { f with st := .disabled, metAt := some (a.clock, rowOf 9 true) }
          have hc : (x.feedCause n 9).feed n = { f with st := .disabled, metAt := some (a.clock, rowOf 9 true), cause := 9 } := by
            rw [(x.feedCause_repOnly n 9).feed, State.causeFd_feed, show x.feed n = _ from a.setFeed_feed_self n _]
          rw [show x.feedCause n 9 = (a.setFeed n { f with st := .disabled, metAt := some (a.clock, rowOf 9 true) }).feedCause n 9 from rfl] at hc
          rw [hc]
          exact ⟨rfl, fun _ _ _ => rfl⟩

/-- The configuration that a commit brings to the field die holds the live word of every feed register. -/
theorem State.fdLive_look (s : State) {k : Nat} (hk : k < 8) : Tbl.lookD s.fdLive (fdBase k) (resetAt (fdBase k)) = s.live (fdBase k) := by
  have h := Tbl.look_filter (fun o => decide (0xA8000 ≤ o) && decide (o < 0xA8800)) s.regs.live (fdBase k)
  have hin : (decide (0xA8000 ≤ fdBase k) && decide (fdBase k < 0xA8800)) = true := by
    unfold fdBase
    simp only [Bool.and_eq_true, decide_eq_true_eq]
    omega
  rw [if_pos hin] at h
  unfold State.live Tbl.lookD State.fdLive
  rw [h]

theorem answers_fieldCommitArrival {s : State} {dt : Nat} (hs : s.ready) (hp : s.path = true) :
    Answers (.fieldCommitArrival dt) s (fun t =>
      t.fd.cfg = s.fdLive ∧ t.regs.live = s.regs.live ∧
      ∀ k, k < 8 →
        let en := bitOf (s.live (fdBase k)) 0
        let g := s.feed k
        (t.feed k).st = (if en then (if g.st = .disabled then (if g.isHeld then .held else .wait) else g.st)
          else .disabled) ∧
        (en = false → g.st ≠ .disabled → g.st.gateOn = true ∨ (s.elapse dt).feedMet k 6 = false → (t.feed k).cause = 9)) := by
  let u := s.elapse dt
  let a : State := { u.acked .commit with fd := { u.fd with cfg := u.fdLive } }
  have hfl : u.fdLive = s.fdLive := by unfold State.fdLive; rw [show u.regs = s.regs from s.elapse_regs dt]
  have hg : (if u.path then (u.acked .commit).fdRestore else u) = (List.range 8).foldl State.feedEn a :=
    (if_pos (by rw [State.elapse_path, hp])).trans rfl
  have haf : ∀ k, a.feed k = s.feed k := State.elapse_feed s dt
  have hQ : ∀ (b : State) (k : Nat), b.fd.cfg = s.fdLive ∧ b.clock = u.clock → k < 8 →
      (b.feed k).enabledAs (bitOf (s.live (fdBase k)) 0) u.clock ((b.feedEn k).feed k) := by
    intro b k ⟨i1, i2⟩ hk
    have h := b.feedEn_feed k
    have hcfg : b.fcfg k 0 = s.live (fdBase k) := by
      unfold State.fcfg
      rw [i1]
      exact s.fdLive_look hk
    rwa [hcfg, i2] at h
  obtain ⟨h1, -, h3, h4⟩ := foldl_feeds (f := State.feedEn) (I := fun b => b.fd.cfg = s.fdLive ∧ b.clock = u.clock)
    (Q := fun k f g => k < 8 → f.enabledAs (bitOf (s.live (fdBase k)) 0) u.clock g) State.feedEn_oneFeed
    (fun h ⟨i1, i2⟩ => ⟨h.2.1.trans i1, h.clock.trans i2⟩) hQ (List.range 8) List.nodup_range a ⟨hfl, rfl⟩
  have hears : s.Hears {} ((List.range 8).foldl State.feedEn a).rep :=
    (State.Hears.start hs dt).mono (State.feedEns_feedsAct _ a).rep.grows (State.feedEns_feedsAct _ a).rep.whOld
  refine answers_hears hs (show exec (.fieldCommitArrival dt) s = _ from rfl) hg hears fun r _ => ⟨h4.trans hfl, ?_, fun k hk => ?_⟩
  · refine (congrArg (fun x : State => x.regs.live) (show _ = _ from h3)).trans ?_
    exact congrArg RegSt.live (s.elapse_regs dt)
  · obtain ⟨g1, g2⟩ := h1 k (List.mem_range.2 hk) hk
    rw [haf] at g1 g2
    refine ⟨g1, fun he hd hm => g2 he hd (hm.imp_right fun hm => ?_)⟩
    unfold State.feedMet at hm
    rwa [State.elapse_feed] at hm

/-- Settles O37: each FEED_CMD by its action on the holds, the end of a CYCLE, the posted writes, and a commit at the field die. -/
theorem feedCommandsActOnHolds : Obligations.FeedCommandsActOnHolds := by
  unfold Obligations.FeedCommandsActOnHolds
  intro s dt n f now free
  refine ⟨fun d hd hen hp => ⟨answers_feedCmdOn hd hen hp, fun hmet hdis => ⟨fun c hc => answers_feedCmdOff hd hen hp hmet hdis hc,
      fun off hoff => answers_feedCmdCycle hd hen hp hmet hdis hoff,
      fun ch q hmay hreq hfind => answers_feedCmdQuarantine hd hen hp hmet hdis hmay hreq hfind⟩, answers_feedCmdClear hd hen hp⟩,
    fun d hd hcan hen c hc => ?_, fun d ms hd hcan hms => ?_, fun hs => ⟨fun a ha hle => answers_feedCycleEnd hs ha hle,
      fun w hw c hc => answers_fdCmd hs hw hc, fun w hw => answers_posts hs hw rfl rfl, answers_fieldCommitArrival hs⟩⟩
  · rcases hc with rfl | rfl | rfl | rfl | ⟨ms, rfl⟩
    · exact answers_feedCmd_bad hd hcan (exec_feedCmd n (.inl ⟨rfl, rfl, rfl⟩)) (.inl hen)
    · exact answers_feedCmd_bad hd hcan (exec_feedCmd n (.inr (.inl ⟨rfl, rfl, rfl⟩))) (.inl hen)
    · exact answers_feedCmd_bad hd hcan (exec_feedCmd n (.inr (.inr (.inr (.inl ⟨rfl, rfl, rfl⟩))))) (.inl hen)
    · exact answers_feedCmd_bad hd hcan (exec_feedCmd n (.inr (.inr (.inr (.inr ⟨rfl, rfl, rfl⟩))))) (.inl hen)
    · exact answers_feedCmd_bad hd hcan (exec_feedCmd n (.inr (.inr (.inl ⟨ms, rfl, rfl, rfl⟩)))) (.inl hen)
  · exact answers_feedCmd_bad hd hcan (exec_feedCmd n (.inr (.inr (.inl ⟨ms, rfl, rfl, rfl⟩)))) (.inr ⟨rfl, hms⟩)

end Sys2Proof.Machine
end

section
/-!
PROOFS. Loop inputs and outputs: what changes one output, what changes one input, and the commands and readings that do.
-/

namespace Sys2Proof.Machine

/-! ## One unit of many -/

section
variable {α : Type} {get : State → Nat → α} {f : State → Nat → State} {I : State → Prop}

/-- What each unit of a list becomes, one after the other, where a step changes its own unit alone. -/
theorem foldl_units {Q : Nat → α → α → Prop} (hne : ∀ a k j, j ≠ k → get (f a k) j = get a j) (hI : ∀ a k, I a → I (f a k))
    (hQ : ∀ a k, I a → Q k (get a k) (get (f a k) k)) (l : List Nat) (hl : l.Nodup) (a : State) (ha : I a) :
    (∀ k ∈ l, Q k (get a k) (get (l.foldl f a) k)) ∧ (∀ k, k ∉ l → get (l.foldl f a) k = get a k) ∧ I (l.foldl f a) := by
  induction l generalizing a with
  | nil => exact ⟨fun k hk => (nomatch hk), fun _ _ => rfl, ha⟩
  | cons k l ih =>
    rw [List.nodup_cons] at hl
    obtain ⟨ih1, ih2, ih3⟩ := ih hl.2 (f a k) (hI a k ha)
    refine ⟨fun j hj => ?_, fun j hj => ?_, ih3⟩
    · rcases List.mem_cons.1 hj with rfl | hj
      · rw [List.foldl_cons, ih2 _ hl.1]
        exact hQ a _ ha
      · rw [← hne a k j fun e => hl.1 (e ▸ hj)]
        exact ih1 j hj
    · rw [List.mem_cons, not_or] at hj
      exact (ih2 j hj.2).trans (hne a k j hj.1)

/-- What each unit of a list reports stays reported while the others follow. -/
theorem foldl_tells {H : Account → State → Prop} {D : Nat → α → Prop} {W : Nat → Account → Prop}
    (hne : ∀ a k j, j ≠ k → get (f a k) j = get a j) (hI : ∀ a k, I a → I (f a k))
    (hW : ∀ k K K', W k K → (∀ i ∈ K.srcs, i ∈ K'.srcs) → (∀ e ∈ K.cts, e ∈ K'.cts) → W k K')
    (hstep : ∀ a k K, I a → H K a → ∃ K', (∀ i ∈ K.srcs, i ∈ K'.srcs) ∧ (∀ e ∈ K.cts, e ∈ K'.cts) ∧ H K' (f a k) ∧
      (D k (get a k) → W k K'))
    (l : List Nat) (hl : l.Nodup) (a : State) (ha : I a) (K : Account) (h : H K a) :
    ∃ K', (∀ i ∈ K.srcs, i ∈ K'.srcs) ∧ (∀ e ∈ K.cts, e ∈ K'.cts) ∧ H K' (l.foldl f a) ∧ ∀ k ∈ l, D k (get a k) → W k K' := by
  induction l generalizing a K with
  | nil => exact ⟨K, fun _ h => h, fun _ h => h, h, fun k hk => (nomatch hk)⟩
  | cons k l ih =>
    rw [List.nodup_cons] at hl
    obtain ⟨K1, hs1, hc1, h1, hw1⟩ := hstep a k K ha h
    obtain ⟨K2, hs2, hc2, h2, hw2⟩ := ih hl.2 (f a k) (hI a k ha) K1 h1
    refine ⟨K2, fun i hi => hs2 i (hs1 i hi), fun e he => hc2 e (hc1 e he), h2, fun j hj hd => ?_⟩
    rcases List.mem_cons.1 hj with rfl | hj
    · exact hW _ _ _ (hw1 hd) hs2 hc2
    · exact hw2 j hj (by rwa [hne a k j fun e => hl.1 (e ▸ hj)])

end

/-! ## One output, one input -/

section
variable (s : State) (n : Nat)

@[simp] theorem State.setLoopOut_self (v : LoopOut) : (s.setLoopOut n v).loopOut n = v := Tbl.lookD_put_self _ _ _ _

theorem State.setLoopOut_ne {n k : Nat} (v : LoopOut) (h : k ≠ n) : (s.setLoopOut n v).loopOut k = s.loopOut k :=
  Tbl.lookD_put_ne _ _ _ _ h

@[simp] theorem State.setLoopIn_self (v : LoopIn) : (s.setLoopIn n v).loopIn n = v := Tbl.lookD_put_self _ _ _ _

theorem State.setLoopIn_ne {n k : Nat} (v : LoopIn) (h : k ≠ n) : (s.setLoopIn n v).loopIn k = s.loopIn k :=
  Tbl.lookD_put_ne _ _ _ _ h

theorem State.elapse_loopOut (dt : Nat) : (s.elapse dt).loopOut n = s.loopOut n := by
  unfold State.loopOut
  rw [State.elapse_lio]

theorem State.elapse_loopIn (dt : Nat) : (s.elapse dt).loopIn n = s.loopIn n := by
  unfold State.loopIn
  rw [State.elapse_lio]

/-- From a to b one output and the reports change. -/
def State.OneOut (n : Nat) (a b : State) : Prop :=
  b = { a with lio := b.lio, rep := b.rep } ∧ b.lio.ins = a.lio.ins ∧ ∀ m, m ≠ n → b.loopOut m = a.loopOut m

/-- From a to b one input and the reports change. -/
def State.OneIn (n : Nat) (a b : State) : Prop :=
  b = { a with lio := b.lio, rep := b.rep } ∧ b.lio.outs = a.lio.outs ∧ ∀ m, m ≠ n → b.loopIn m = a.loopIn m

variable {n} {a b c : State}

theorem State.OneOut.trans (h : State.OneOut n a b) (g : State.OneOut n b c) : State.OneOut n a c := by
  obtain ⟨h1, h2, h3⟩ := h
  obtain ⟨g1, g2, g3⟩ := g
  exact ⟨g1.trans (by rw [h1]), g2.trans h2, fun k hk => (g3 k hk).trans (h3 k hk)⟩

theorem State.OneIn.trans (h : State.OneIn n a b) (g : State.OneIn n b c) : State.OneIn n a c := by
  obtain ⟨h1, h2, h3⟩ := h
  obtain ⟨g1, g2, g3⟩ := g
  exact ⟨g1.trans (by rw [h1]), g2.trans h2, fun k hk => (g3 k hk).trans (h3 k hk)⟩

theorem State.setLoopOut_oneOut (s : State) (n : Nat) (v : LoopOut) : State.OneOut n s (s.setLoopOut n v) :=
  ⟨rfl, rfl, fun _ hk => s.setLoopOut_ne v hk⟩

theorem State.setLoopIn_oneIn (s : State) (n : Nat) (v : LoopIn) : State.OneIn n s (s.setLoopIn n v) :=
  ⟨rfl, rfl, fun _ hk => s.setLoopIn_ne v hk⟩

theorem State.RepOnly.lio (h : State.RepOnly a b) : b.lio = a.lio := by rw [show b = _ from h]

theorem State.RepOnly.loopOut (h : State.RepOnly a b) (k : Nat) : b.loopOut k = a.loopOut k := by
  unfold State.loopOut
  rw [h.lio]

theorem State.RepOnly.loopIn (h : State.RepOnly a b) (k : Nat) : b.loopIn k = a.loopIn k := by
  unfold State.loopIn
  rw [h.lio]

theorem State.RepOnly.oneOut (h : State.RepOnly a b) (n : Nat) : State.OneOut n a b :=
  ⟨Eq.trans h (by rw [h.lio]), by rw [h.lio], fun k _ => h.loopOut k⟩

theorem State.RepOnly.oneIn (h : State.RepOnly a b) (n : Nat) : State.OneIn n a b :=
  ⟨Eq.trans h (by rw [h.lio]), by rw [h.lio], fun k _ => h.loopIn k⟩

/-- Only one output has changed since s, beside the reports. -/
theorem State.OneOut.only {dt : Nat} (h : State.OneOut n (s.elapse dt) b) (r : Rep) :
    ({ b with rep := r } : State) = { s.elapse dt with lio := b.lio, rep := r } ∧ b.lio.ins = s.lio.ins ∧
      ∀ m, m ≠ n → b.loopOut m = s.loopOut m := by
  obtain ⟨h1, h2, h3⟩ := h
  refine ⟨?_, h2.trans (by rw [State.elapse_lio]), fun k hk => (h3 k hk).trans (State.elapse_loopOut s k dt)⟩
  rw [h1]

end

/-! ## Events of an output -/

section
variable (s : State) (n cause : Nat)

/-- The output after a cause of failure is recorded (R270). -/
def State.failedOut : LoopOut :=
  let o := s.loopOut n
  { o with
    causes := if !o.causes.contains cause then o.causes ++ [cause] else o.causes, failed := true
    failAct := if o.failed then o.failAct else s.fld (loBase n + 8) 0 2
    latAt := if cause ≤ 2 then some s.clock else o.latAt }

theorem State.outFail_repOnly : State.RepOnly (s.setLoopOut n (s.failedOut n cause)) (s.outFail n cause) :=
  .ite (((State.RepOnly.refl _).slub 0x0705 n cause 0).raise (0x210 + n)) (.refl _)

theorem State.outFail_oneOut : State.OneOut n s (s.outFail n cause) :=
  (s.setLoopOut_oneOut n _).trans ((s.outFail_repOnly n cause).oneOut n)

theorem State.outFail_out : (s.outFail n cause).loopOut n = s.failedOut n cause :=
  ((s.outFail_repOnly n cause).loopOut n).trans (s.setLoopOut_self n _)

end

/-- The output that a command has reached (R262, Table 8.3). -/
def State.arrivedOut (s : State) (n : Nat) (c : Option Word) : LoopOut :=
  let o := s.loopOut n
  let l := o.causes.filter (fun x => decide (x ≠ 3) && decide (x ≠ 4))
  { o with
    cmd := c, code := match c with | some w => dacOf w | none => 0
    sent := none, cmdAt := s.clock, changedAt := if c = o.cmd then o.changedAt else s.clock
    causes := l, failed := if l.length < o.causes.length then !l.isEmpty || o.clearWait else o.failed }

/-- COMPLIANCE_CHANGE on an output (R268). -/
def State.compliance (s : State) (n mv : Nat) : State :=
  let o := s.loopOut n
  if mv < 1500 then
    if o.comp then s else ((s.setLoopOut n { o with comp := true }).count (5474 + 4 * n)).raiseOnce 0x218 0x218
  else if mv ≥ 2000 then s.setLoopOut n { o with comp := false }
  else s

/-- OUTPUT_MISWIRING on an output (R269). -/
def State.miswire (s : State) (n : Nat) (vout vrtn vloop : Int) : State :=
  let o := s.loopOut n
  let m := s.loMode n
  let above := if vout > vloop + 300 then decide (m = 1) || o.above else if vout ≤ vloop - 300 then false else o.above
  let rev := if vout < vrtn then decide (m = 2) else false
  let s1 := s.setLoopOut n { o with above := above, reverse := rev }
  let s2 := if above && !o.above then (s1.slub 0x0704 n 0 0).raise (0x210 + n) else s1
  if rev && !o.reverse then (s2.slub 0x0704 n 1 0).raise (0x210 + n) else s2

/-- OUTPUT_WATCHDOG on an output (R270). -/
def State.watchdog (s : State) (n : Nat) : State :=
  let o := s.loopOut n
  if decide (s.clock - o.cmdAt ≥ s.fld (loBase n + 8) 8 8 * 1000000) && !o.causes.contains 3 then
    (s.count (5475 + 4 * n)).outFail n 3
  else s

section
variable {s : State} {dt : Nat} {n : Fin 8} (hs : s.ready)
include hs

theorem answers_outputCommandArrival {c : Option Word} (hsent : (s.loopOut n.val).sent = some c) (hup : s.fieldUp = true) :
    Answers (.outputCommandArrival dt n) s (fun t =>
      t = { s.elapse dt with lio := t.lio, fa := { s.fa with field := t.fa.field, xfers := t.fa.xfers } } ∧
      t.lio.ins = s.lio.ins ∧ (∀ m, m ≠ n.val → t.loopOut m = s.loopOut m) ∧
      t.fa.xfers = s.fa.xfers.filter (fun x => decide (x.kind ≠ .output n.val)) ∧
      (t.loopOut n.val).cmd = c ∧ (∀ w, c = some w → (t.loopOut n.val).code = dacOf w) ∧
      (t.loopOut n.val).sent = none ∧ (t.loopOut n.val).cmdAt = s.clock + dt ∧
      (t.loopOut n.val).causes = (s.loopOut n.val).causes.filter (fun x => decide (x ≠ 3) && decide (x ≠ 4))) := by
  let u := (s.elapse dt).acked (.output n.val)
  have huo : ∀ m, u.loopOut m = s.loopOut m := fun m => State.elapse_loopOut s m dt
  let v := u.arrivedOut n.val c
  have hg : (if (s.elapse dt).fieldUp then u.cmdArrives n.val else s.elapse dt) = u.setLoopOut n.val v := by
    rw [if_pos ((State.elapse_fieldUp s dt).trans hup)]
    unfold State.cmdArrives
    simp only
    rw [show (u.loopOut n.val).sent = some c from by rw [huo]; exact hsent]
    rfl
  have hfa : u.fa = (State.acked s (.output n.val)).fa := by
    unfold u State.acked
    simp only [State.elapse_fa]
  have hself : (u.setLoopOut n.val v).loopOut n.val = v := State.setLoopOut_self _ _ _
  refine answers_settles hs (show exec (.outputCommandArrival dt n) s = _ from rfl) hg (State.elapse_settled hs dt)
    ⟨?_, ?_, fun m hm => (State.setLoopOut_ne _ _ hm).trans (huo m), ?_, ?_, fun w hw => ?_, ?_, ?_, ?_⟩
  · rw [← s.elapse_fa dt]
    rfl
  · show (s.elapse dt).lio.ins = _
    rw [State.elapse_lio]
  · show (s.elapse dt).fa.xfers.filter _ = _
    rw [State.elapse_fa]
  · rw [hself]
    rfl
  · rw [hself]
    subst hw
    rfl
  · rw [hself]
    rfl
  · rw [hself]
    exact s.elapse_clock dt
  · rw [hself]
    show (u.loopOut n.val).causes.filter _ = _
    rw [huo]

theorem answers_complianceChange_low {mv : Nat} (hmv : mv < 1500) (hc : (s.loopOut n.val).comp = false) :
    Answers (.complianceChange dt n mv) s (fun t =>
      (t = { s.elapse dt with lio := t.lio, rep := t.rep } ∧ t.lio.ins = s.lio.ins ∧ ∀ m, m ≠ n.val → t.loopOut m = s.loopOut m) ∧
      t.loopOut n.val = { s.loopOut n.val with comp := true } ∧ s.counts t (5474 + 4 * n.val) 1 ∧
      (s.rep.first.contains 0x218 = false → s.raises t 0x218)) := by
  let u := s.elapse dt
  let x := u.setLoopOut n.val { u.loopOut n.val with comp := true }
  have hg : u.compliance n.val mv = (x.count (5474 + 4 * n.val)).raiseOnce 0x218 0x218 := by
    unfold State.compliance
    simp only
    rw [if_pos hmv, if_neg (by rw [State.elapse_loopOut, hc]; decide)]
  have hx : s.Tells {} x.rep := State.Tells.elapse hs dt
  have hr := (State.RepOnly.refl x).count (5474 + 4 * n.val)
  have hlive : (x.count (5474 + 4 * n.val)).regs.live = s.regs.live := hr.live.trans (congrArg RegSt.live (s.elapse_regs dt))
  refine answers_reports (v := x) hs (show exec (.complianceChange dt n mv) s = s.at_ dt (fun u => u.compliance n.val mv) from rfl) hg (hr.raiseOnce _ _)
    ((hx.count _).raiseFirst 0x218 0x218 hlive (by simp)) fun r told =>
    ⟨(u.setLoopOut_oneOut n.val _).only s r, ?_, told.counts _ List.mem_cons_self, told.once (0x218, 0x218) List.mem_cons_self⟩
  refine (State.setLoopOut_self u n.val _).trans ?_
  rw [State.elapse_loopOut]

theorem answers_complianceChange_high {mv : Nat} (hmv : 2000 ≤ mv) :
    Answers (.complianceChange dt n mv) s (fun t =>
      (t = { s.elapse dt with lio := t.lio, rep := t.rep } ∧ t.lio.ins = s.lio.ins ∧ ∀ m, m ≠ n.val → t.loopOut m = s.loopOut m) ∧
      t.loopOut n.val = { s.loopOut n.val with comp := false }) := by
  let u := s.elapse dt
  refine answers_becomes (v := u.setLoopOut n.val { u.loopOut n.val with comp := false }) hs
    (show exec (.complianceChange dt n mv) s = s.at_ dt (fun u => u.compliance n.val mv) from rfl) ((if_neg (by omega)).trans (if_pos hmv)) rfl
    ⟨(u.setLoopOut_oneOut n.val _).only s _, ?_⟩
  refine (State.setLoopOut_self u n.val _).trans ?_
  rw [State.elapse_loopOut]

theorem answers_vloopBelow3V {mv : Nat} :
    Answers (.vloopBelow3V dt mv) s (fun t =>
      t = { s.elapse dt with lio := { s.lio with vlow := decide (mv < 3000) } } ∧
      (mv < 3000 → s.loMode n.val = 1 → s.acts = true → (s.loopOut n.val).modeWait = false → t.outState n.val = .blocked)) := by
  refine answers_becomes hs (show exec (.vloopBelow3V dt mv) s =
    s.at_ dt (fun u => { u with lio := { u.lio with vlow := decide (mv < 3000) } }) from rfl) rfl rfl ⟨by rw [← s.elapse_lio dt], fun hmv hm ha hw => ?_⟩
  obtain ⟨t, ht⟩ : ∃ t : State, ({ s.elapse dt with lio := { (s.elapse dt).lio with vlow := decide (mv < 3000) } } : State) = t := ⟨_, rfl⟩
  have hmode : t.loMode n.val = 1 := by
    rw [← ht, ← hm]
    unfold State.loMode State.fld State.live
    rw [← s.elapse_regs dt]
  have hacts : t.acts = true := by
    rw [← ht, ← ha]
    unfold State.acts State.plyMember State.bit State.live
    rw [← s.elapse_regs dt, ← s.elapse_dev dt, ← s.elapse_pl dt]
  have hout : (t.loopOut n.val).modeWait = false := by
    rw [← ht, ← hw, ← State.elapse_loopOut s n.val dt]
    rfl
  have hlow : t.lio.vlow = true := by
    rw [← ht]
    exact decide_eq_true hmv
  rw [ht]
  unfold State.outState
  simp [hmode, hacts, hout, hlow]

theorem answers_outputMiswiring (vout vrtn vloop : Int) :
    Answers (.outputMiswiring dt n vout vrtn vloop) s (fun t =>
      (t = { s.elapse dt with lio := t.lio, rep := t.rep } ∧ t.lio.ins = s.lio.ins ∧ ∀ m, m ≠ n.val → t.loopOut m = s.loopOut m) ∧
      (s.loMode n.val = 1 → vloop + 300 < vout → (t.loopOut n.val).above = true) ∧
      (vout ≤ vloop - 300 → (t.loopOut n.val).above = false) ∧
      (vrtn ≤ vout → (t.loopOut n.val).reverse = false) ∧
      (s.loMode n.val = 2 → vout < vrtn → (t.loopOut n.val).reverse = true) ∧
      ((t.loopOut n.val).above = true ∧ (s.loopOut n.val).above = false ∨ (t.loopOut n.val).reverse = true ∧ (s.loopOut n.val).reverse = false →
        s.raises t (0x210 + n.val))) := by
  let u := s.elapse dt
  have hmode : u.loMode n.val = s.loMode n.val := s.elapse_fld dt _ _ _
  have huo : u.loopOut n.val = s.loopOut n.val := State.elapse_loopOut s n.val dt
  let above := if vout > vloop + 300 then decide (s.loMode n.val = 1) || (s.loopOut n.val).above
    else if vout ≤ vloop - 300 then false else (s.loopOut n.val).above
  let rev := if vout < vrtn then decide (s.loMode n.val = 2) else false
  let x := u.setLoopOut n.val { s.loopOut n.val with above := above, reverse := rev }
  have hx : s.Tells {} x.rep := State.Tells.elapse hs dt
  have hlive : x.regs.live = s.regs.live := congrArg RegSt.live (s.elapse_regs dt)
  let y := if above && !(s.loopOut n.val).above then (x.slub 0x0704 n.val 0 0).raise (0x210 + n.val) else x
  have hy : State.RepOnly x y := .ite (((State.RepOnly.refl x).slub _ _ _ _).raise _) (.refl x)
  let z := if rev && !(s.loopOut n.val).reverse then (y.slub 0x0704 n.val 1 0).raise (0x210 + n.val) else y
  have hz : State.RepOnly x z := .ite ((hy.slub _ _ _ _).raise _) hy
  have hself : x.loopOut n.val = { s.loopOut n.val with above := above, reverse := rev } := State.setLoopOut_self _ _ _
  obtain ⟨k1, ht1, hr1⟩ : ∃ k : Account, s.Hears k y.rep ∧ (above = true ∧ (s.loopOut n.val).above = false → (0x210 + n.val) ∈ k.srcs) := by
    by_cases h : (above && !(s.loopOut n.val).above) = true
    · have hyy : y = (x.slub 0x0704 n.val 0 0).raise (0x210 + n.val) := if_pos h
      rw [hyy]
      exact ⟨_, (hx.slub _ _ _ _).hears.raise _ (((State.RepOnly.refl x).slub _ _ _ _).live.trans hlive), fun _ => List.mem_cons_self⟩
    · have hyy : y = x := if_neg h
      rw [hyy]
      exact ⟨_, hx.hears, fun ⟨h1, h2⟩ => absurd (by rw [h1, h2]; rfl) h⟩
  obtain ⟨k2, ht2, hs2, hr2⟩ : ∃ k : Account, s.Hears k z.rep ∧ (∀ i ∈ k1.srcs, i ∈ k.srcs) ∧
      (rev = true ∧ (s.loopOut n.val).reverse = false → (0x210 + n.val) ∈ k.srcs) := by
    by_cases h : (rev && !(s.loopOut n.val).reverse) = true
    · have hzz : z = (y.slub 0x0704 n.val 1 0).raise (0x210 + n.val) := if_pos h
      rw [hzz]
      have hslub : s.Hears k1 (y.slub 0x0704 n.val 1 0).rep :=
        ht1.mono ⟨⟨[], (List.append_nil _).symm⟩, fun _ => Nat.min_le_right _ _, fun _ _ h => h⟩ rfl
      exact ⟨_, hslub.raise _ ((hy.slub _ _ _ _).live.trans hlive), fun i hi => List.mem_cons_of_mem _ hi, fun _ => List.mem_cons_self⟩
    · have hzz : z = y := if_neg h
      rw [hzz]
      exact ⟨_, ht1, fun _ h => h, fun ⟨h1, h2⟩ => absurd (by rw [h1, h2]; rfl) h⟩
  have hg : u.miswire n.val vout vrtn vloop = z := by
    unfold State.miswire
    simp only [hmode, huo]
    rfl
  have hone : State.OneOut n.val u z := (u.setLoopOut_oneOut n.val _).trans (hz.oneOut n.val)
  have hzo : z.loopOut n.val = { s.loopOut n.val with above := above, reverse := rev } := (hz.loopOut _).trans hself
  refine answers_hears hs (show exec (.outputMiswiring dt n vout vrtn vloop) s = s.at_ dt (fun u => u.miswire n.val vout vrtn vloop) from rfl)
    hg ht2 fun r heard => ?_
  have hto : (State.loopOut { z with rep := r } n.val) = { s.loopOut n.val with above := above, reverse := rev } := hzo
  refine ⟨hone.only s r, fun hm hv => ?_, fun hv => ?_, fun hv => ?_, fun hm hv => ?_, fun h => heard.raises _ ?_⟩
  · rw [hto]
    show (if _ then _ else _) = _
    rw [if_pos hv, hm]
    rfl
  · rw [hto]
    show (if _ then _ else _) = _
    rw [if_neg (by omega), if_pos hv]
  · rw [hto]
    exact if_neg (by omega)
  · rw [hto]
    show (if _ then _ else _) = _
    rw [if_pos hv, hm]
    rfl
  · rw [hto] at h
    exact h.elim (fun h => hs2 _ (hr1 h)) hr2

theorem answers_outputWatchdog (ht : s.fld (loBase n.val + 8) 8 8 * 1000000 ≤ s.clock + dt - (s.loopOut n.val).cmdAt)
    (h3 : (s.loopOut n.val).causes.contains 3 = false) :
    Answers (.outputWatchdog dt n) s (fun t =>
      (t = { s.elapse dt with lio := t.lio, rep := t.rep } ∧ t.lio.ins = s.lio.ins ∧ ∀ m, m ≠ n.val → t.loopOut m = s.loopOut m) ∧
      (t.loopOut n.val).causes = (s.loopOut n.val).causes ++ [3] ∧ (t.loopOut n.val).failed = true ∧
      ((s.loopOut n.val).causes = [] → s.raises t (0x210 + n.val) ∧ s.logs t 0x0705 n.val 3 0) ∧ s.counts t (5475 + 4 * n.val) 1) := by
  let u := s.elapse dt
  let x := u.count (5475 + 4 * n.val)
  have hxr : State.RepOnly u x := (State.RepOnly.refl u).count _
  have hxo : x.loopOut n.val = s.loopOut n.val := (hxr.loopOut _).trans (State.elapse_loopOut s n.val dt)
  have hx := (State.Tells.elapse hs dt).count (5475 + 4 * n.val)
  have hlive : x.regs.live = s.regs.live := hxr.live.trans (congrArg RegSt.live (s.elapse_regs dt))
  have hcond : (decide (u.clock - (u.loopOut n.val).cmdAt ≥ u.fld (loBase n.val + 8) 8 8 * 1000000) &&
      !(u.loopOut n.val).causes.contains 3) = true := by
    rw [State.elapse_loopOut, State.elapse_clock, State.elapse_fld, h3, decide_eq_true ht]
    rfl
  have hfresh : (!(s.loopOut n.val).causes.contains 3) = true := by rw [h3]; rfl
  have hone : State.OneOut n.val u (x.outFail n.val 3) := (hxr.oneOut n.val).trans (x.outFail_oneOut n.val 3)
  have hout : (x.outFail n.val 3).loopOut n.val = x.failedOut n.val 3 := x.outFail_out n.val 3
  have hcauses : (x.failedOut n.val 3).causes = (s.loopOut n.val).causes ++ [3] := by
    show (if (!(x.loopOut n.val).causes.contains 3) = true then (x.loopOut n.val).causes ++ [3] else _) = _
    rw [hxo, if_pos hfresh]
  have hrep := x.outFail_repOnly n.val 3
  obtain ⟨f, hf⟩ : ∃ f, x.failedOut n.val 3 = f := ⟨_, rfl⟩
  have hfo : x.outFail n.val 3 = if (s.loopOut n.val).causes = [] then ((x.setLoopOut n.val f).slub 0x0705 n.val 3 0).raise (0x210 + n.val)
      else x.setLoopOut n.val f := by
    rw [← hf]
    unfold State.outFail
    simp only
    by_cases he : (s.loopOut n.val).causes = []
    · rw [if_pos he, hxo, if_pos (by rw [hfresh, he]; rfl)]
      rw [State.failedOut, hxo]
    · rw [if_neg he, hxo, if_neg (by simp [List.isEmpty_iff, he])]
      rw [State.failedOut, hxo]
  obtain ⟨k, htell, hct, hsl, hsr⟩ : ∃ k : Account, s.Tells k (x.outFail n.val 3).rep ∧ (5475 + 4 * n.val, 1) ∈ k.cts ∧
      ((s.loopOut n.val).causes = [] → k.slubs = [u.slubReq 0x0705 n.val 3 0]) ∧ ((s.loopOut n.val).causes = [] → (0x210 + n.val) ∈ k.srcs) := by
    rw [hfo]
    have hy : s.Tells _ (x.setLoopOut n.val f).rep := hx
    by_cases he : (s.loopOut n.val).causes = []
    · rw [if_pos he]
      exact ⟨_, (hy.slub 0x0705 n.val 3 0).raise (0x210 + n.val) (((State.RepOnly.refl (x.setLoopOut n.val f)).slub _ _ _ _).live.trans hlive),
        List.mem_cons_self, fun _ => rfl, fun _ => List.mem_cons_self⟩
    · rw [if_neg he]
      exact ⟨_, hy, List.mem_cons_self, fun h => absurd h he, fun h => absurd h he⟩
  obtain ⟨w, hw⟩ : ∃ w, x.outFail n.val 3 = w := ⟨_, rfl⟩
  rw [hw] at hone hout htell
  have hq : ∀ r, u.slubReq 0x0705 n.val 3 0 = State.slubReq { w with rep := r } 0x0705 n.val 3 0 := fun r => by rw [hone.1]; rfl
  refine answers_tells (v := w) hs (show exec (.outputWatchdog dt n) s = s.at_ dt (fun u => u.watchdog n.val) from rfl) ((if_pos hcond).trans (hw.trans rfl)) htell
    fun r told => ⟨hone.only s r, ?_, ?_, fun he => ⟨told.raises _ (hsr he), told.logs _ _ _ _ ((hsl he).trans (by rw [hq r]))⟩, told.counts _ hct⟩
  · show (w.loopOut n.val).causes = _
    rw [hout, hcauses]
  · show (w.loopOut n.val).failed = true
    rw [hout]
    rfl

end

/-- Settles O39: a command, COMP, miswiring, a low VLOOP, the watchdog, and the posted writes. -/
theorem loopOutputsFollowTheirEvents : Obligations.LoopOutputsFollowTheirEvents := by
  unfold Obligations.LoopOutputsFollowTheirEvents
  intro s dt n hs
  exact ⟨fun c hsent hup => answers_outputCommandArrival hs hsent hup,
    fun mv => ⟨fun hmv hc => answers_complianceChange_low hs hmv hc, fun hmv => answers_complianceChange_high hs hmv,
      answers_vloopBelow3V hs⟩, answers_outputMiswiring hs, answers_outputWatchdog hs,
    fun w => ⟨fun hw => answers_posts hs hw rfl rfl, fun hw => answers_posts hs hw rfl rfl⟩⟩

end Sys2Proof.Machine
end

section
/-!
PROOFS. The readings of a capture point, the readings that are missing, and the limiters of the loop inputs.
-/

namespace Sys2Proof.Machine

theorem inputs_nodup : inputs.Nodup := List.nodup_range
theorem outputs_nodup : outputs.Nodup := List.nodup_range

/-! ## Inputs -/

section
variable (s : State) (n : Nat)

theorem State.setClass_repOnly (c : Nat) : State.RepOnly (s.setLoopIn n { s.loopIn n with cls := c }) (s.setClass n c) :=
  .ite (((State.RepOnly.refl _).slub 0x0702 n c 0).raise (0x200 + n)) (.refl _)

theorem State.setClass_oneIn (c : Nat) : State.OneIn n s (s.setClass n c) :=
  (s.setLoopIn_oneIn n _).trans ((s.setClass_repOnly n c).oneIn n)

theorem State.setClass_in (c : Nat) : (s.setClass n c).loopIn n = { s.loopIn n with cls := c } :=
  ((s.setClass_repOnly n c).loopIn n).trans (s.setLoopIn_self n _)

variable {s} in
theorem State.Hears.setClass {a : State} {K : Account} (h : s.Hears K a.rep) (hlive : a.regs.live = s.regs.live) (c : Nat) :
    ∃ K', (∀ i ∈ K.srcs, i ∈ K'.srcs) ∧ (∀ e ∈ K.cts, e ∈ K'.cts) ∧ s.Hears K' (a.setClass n c).rep ∧
      (classFailed c ≠ classFailed (a.loopIn n).cls → (0x200 + n) ∈ K'.srcs) := by
  unfold State.setClass
  let x := a.setLoopIn n { a.loopIn n with cls := c }
  have hx : s.Hears K x.rep := h
  have hslub : s.Hears K (x.slub 0x0702 n c 0).rep :=
    hx.mono ⟨⟨[], (List.append_nil _).symm⟩, fun _ => Nat.min_le_right _ _, fun _ _ h => h⟩ rfl
  by_cases hc : (classFailed c != classFailed (a.loopIn n).cls) = true
  · simp only [hc, if_true]
    exact ⟨{ K with srcs := (0x200 + n) :: K.srcs }, fun _ hi => List.mem_cons_of_mem _ hi, fun _ he => he, hslub.raise (0x200 + n) hlive,
      fun _ => List.mem_cons_self⟩
  · simp only [hc]
    exact ⟨K, fun _ h => h, fun _ h => h, hx, fun hne => absurd (bne_iff_ne.2 hne) hc⟩

/-- An input after its reading has arrived. -/
def State.readIn (x : LioReadings) : LoopIn :=
  let v := s.loopIn n
  let c := currentMa (x.ins.getD n 0) (s.fld (liBase n) 8 16)
  { v with reading := fOf c, missing := false, cls := Sys2Proof.Machine.classOf (s.fld (liBase n) 0 2) v.openAt.isSome c }

theorem State.inReading_oneIn (x : LioReadings) : State.OneIn n s (s.inReading x n) :=
  (s.setLoopIn_oneIn n _).trans (State.setClass_oneIn _ n _)

theorem State.inReading_in (x : LioReadings) : (s.inReading x n).loopIn n = s.readIn n x := by
  unfold State.inReading
  rw [State.setClass_in, State.setLoopIn_self]
  rfl

end

/-! ## What a readback changes -/

/-- From a to b loop inputs and outputs, spares and reports change; no report is taken back and none of the capture point's
readings is waited for anew. -/
structure State.LioActs (a b : State) : Prop where
  rest : b = { a with lio := b.lio, rp := b.rp, rep := b.rep }
  wait : b.lio.wait = a.lio.wait
  grows : Rep.Grows a.rep b.rep
  whOld : b.rep.whOld = a.rep.whOld

theorem State.lioActs_frame : Frame State.LioActs where
  refl a := ⟨rfl, rfl, .refl _, rfl⟩
  trans := fun ⟨h1, h2, h3, h4⟩ ⟨g1, g2, g3, g4⟩ => ⟨g1.trans (by rw [h1]), g2.trans h2, h3.trans g3, g4.trans h4⟩
  rep _ _ hg hw := ⟨rfl, rfl, hg, hw⟩

theorem State.LioActs.live {a b : State} (h : State.LioActs a b) : b.regs.live = a.regs.live := by rw [h.rest]

/-- So, where of the outputs only one changes, which keeps its readback and its command. -/
structure State.OutStep (n : Nat) (a b : State) : Prop where
  acts : State.LioActs a b
  ins : b.lio.ins = a.lio.ins
  others : ∀ m, m ≠ n → b.loopOut m = a.loopOut m
  rbv : (b.loopOut n).rbv = (a.loopOut n).rbv
  cmd : (b.loopOut n).cmd = (a.loopOut n).cmd

theorem State.outStep_frame (n : Nat) : Frame (State.OutStep n) where
  refl a := ⟨State.lioActs_frame.refl a, rfl, fun _ _ => rfl, rfl, rfl⟩
  trans h g := ⟨State.lioActs_frame.trans h.acts g.acts, g.ins.trans h.ins, fun m hm => (g.others m hm).trans (h.others m hm),
    g.rbv.trans h.rbv, g.cmd.trans h.cmd⟩
  rep a r hg hw := ⟨State.lioActs_frame.rep a r hg hw, rfl, fun _ _ => rfl, rfl, rfl⟩

section
variable (a : State) (n : Nat)

theorem State.setLoopOut_acts (v : LoopOut) : State.LioActs a (a.setLoopOut n v) := ⟨rfl, rfl, .refl _, rfl⟩

theorem State.setLoopOut_step {v : LoopOut} (hr : v.rbv = (a.loopOut n).rbv) (hc : v.cmd = (a.loopOut n).cmd) :
    State.OutStep n a (a.setLoopOut n v) :=
  ⟨a.setLoopOut_acts n v, rfl, fun _ hm => a.setLoopOut_ne v hm, by rw [State.setLoopOut_self, hr], by rw [State.setLoopOut_self, hc]⟩

theorem State.outFail_step (cause : Nat) : State.OutStep n a (a.outFail n cause) := by
  have hset := a.setLoopOut_step n (v := a.failedOut n cause) rfl rfl
  exact (State.outStep_frame n).ite ((State.outStep_frame n).raise ((State.outStep_frame n).slub hset _ _ _ _) _) hset

theorem State.spareOut_step (k i : Nat) : State.OutStep n a (a.spareOut k i) := by
  have hrp : ∀ x, State.OutStep n a { a with rp := x } := fun x => ⟨⟨rfl, rfl, .refl _, rfl⟩, rfl, fun _ _ => rfl, rfl, rfl⟩
  have F := State.outStep_frame n
  exact F.ite (F.refl a) (F.raise (F.slub (hrp _) _ _ _ _) _)

theorem State.halfFails_step (b : Bool) : State.OutStep n a (a.halfFails n b) := by
  have F := State.outStep_frame n
  have hset : State.OutStep n a (a.setLoopOut n (if b then { a.loopOut n with halfB := true } else { a.loopOut n with halfA := true })) :=
    a.setLoopOut_step n (by cases b <;> rfl) (by cases b <;> rfl)
  have hrep := F.raise (F.slub hset 0x0703 n (b01 b) 0) (0x210 + n)
  exact F.ite (F.trans (F.trans hrep (State.outFail_step _ n 2)) (State.spareOut_step _ n 6 n)) hrep

theorem State.compareReadback_step : State.OutStep n a (a.compareReadback n) := by
  have F := State.outStep_frame n
  have hset : ∀ k, State.OutStep n a (a.setLoopOut n { a.loopOut n with run := k }) := fun k => a.setLoopOut_step n rfl rfl
  unfold State.compareReadback
  simp only
  split
  · exact F.count (F.refl a) _
  · have hbad := F.count (hset (min 15 ((a.loopOut n).run + 1))) (5473 + 4 * n)
    exact F.ite (F.ite (F.trans hbad (State.outFail_step _ n 1)) hbad) (hset 0)

theorem State.checkHalves_step (x y : Nat) : State.OutStep n a (a.checkHalves n x y) := by
  have F := State.outStep_frame n
  have hset : ∀ i j, State.OutStep n a (a.setLoopOut n { a.loopOut n with runA := i, runB := j }) := fun i j => a.setLoopOut_step n rfl rfl
  have hhalf : ∀ (p : Prop) [Decidable p] (b : State) (c : Bool), State.OutStep n a b →
      State.OutStep n a (if p then b.halfFails n c else b) := fun p _ b c hb => F.ite (F.trans hb (b.halfFails_step n c)) hb
  unfold State.checkHalves
  simp only
  split
  · exact hset 0 0
  · exact hhalf _ _ true (hhalf _ _ false (hset _ _))

theorem State.outReadings_spec (x : LioReadings) :
    State.LioActs a (a.outReadings x n) ∧ (a.outReadings x n).lio.ins = a.lio.ins ∧
      (∀ m, m ≠ n → (a.outReadings x n).loopOut m = a.loopOut m) ∧
      ((a.outReadings x n).loopOut n).rbv = currentOf (x.rbs.getD n 0) (a.fld (loBase n) 16 16) ∧
      ((a.outReadings x n).loopOut n).cmd = (a.loopOut n).cmd := by
  let v : LoopOut := { a.loopOut n with
    rbv := currentOf (x.rbs.getD n 0) (a.fld (loBase n) 16 16), head := min 65535 (x.heads.getD n 0) }
  have h : State.OutStep n (a.setLoopOut n v) (a.outReadings x n) :=
    (State.outStep_frame n).trans (State.compareReadback_step _ n) (State.checkHalves_step _ n _ _)
  refine ⟨State.lioActs_frame.trans (a.setLoopOut_acts n v) h.acts, h.ins, fun m hm => (h.others m hm).trans (a.setLoopOut_ne v hm),
    h.rbv.trans ?_, h.cmd.trans ?_⟩
  · rw [State.setLoopOut_self]
  · rw [State.setLoopOut_self]

end

/-! ## The readings of a capture point -/

theorem State.fld_of_live {a s : State} (h : a.regs.live = s.regs.live) (off lo w : Nat) : a.fld off lo w = s.fld off lo w := by
  unfold State.fld State.live
  rw [h]

section
variable {s : State} (x : LioReadings)

/-- The readings of all inputs and then of all outputs, in a state with the live registers of s. -/
theorem State.Hears.readings {u : State} (hlive : u.regs.live = s.regs.live) (h : s.Hears {} u.rep) :
    let t := u.readings x
    ∃ K, s.Hears K t.rep ∧ t.lio.wait = false ∧ t.regs.live = s.regs.live ∧
      (∀ n, n < 16 →
        (let c := currentMa (x.ins.getD n 0) (s.fld (liBase n) 8 16)
         let k := Sys2Proof.Machine.classOf (s.fld (liBase n) 0 2) (u.loopIn n).openAt.isSome c
         (t.loopIn n).reading = fOf c ∧ (t.loopIn n).cls = k ∧ (t.loopIn n).missing = false ∧
          (t.loopIn n).openAt = (u.loopIn n).openAt ∧ (classFailed k ≠ classFailed (u.loopIn n).cls → (0x200 + n) ∈ K.srcs))) ∧
      ∀ n, n < 8 → (t.loopOut n).rbv = currentOf (x.rbs.getD n 0) (s.fld (loBase n) 16 16) ∧
        (t.loopOut n).cmd = (u.loopOut n).cmd := by
  intro t
  let a : State := { u with
    lio := { u.lio with wait := false, missing := false, vloop := min 65535 x.vloop }, tw := { u.tw with feedMissing := false } }
  let I : State → Prop := fun b => b.regs.live = s.regs.live ∧ b.lio.wait = false
  have hone := fun (b : State) (n : Nat) => b.inReading_oneIn n x
  have hacts : ∀ b n, State.LioActs b (b.inReading x n) := by
    intro b n
    have F := State.lioActs_frame
    have hset : ∀ (c : State) (v : LoopIn), State.LioActs c (c.setLoopIn n v) := fun _ _ => ⟨rfl, rfl, .refl _, rfl⟩
    exact F.ite (F.raise (F.slub (F.trans (hset b _) (hset _ _)) _ _ _ _) _) (F.trans (hset b _) (hset _ _))
  have hIin : ∀ b n, I b → I (b.inReading x n) := fun b n ⟨h1, h2⟩ => ⟨(hacts b n).live.trans h1, (hacts b n).wait.trans h2⟩
  have haI : I a := ⟨hlive, rfl⟩
  obtain ⟨hin, -, hI1⟩ := foldl_units (get := State.loopIn) (f := fun b n => b.inReading x n) (I := I)
    (Q := fun n v w => w = { v with
      reading := fOf (currentMa (x.ins.getD n 0) (s.fld (liBase n) 8 16)), missing := false
      cls := Sys2Proof.Machine.classOf (s.fld (liBase n) 0 2) v.openAt.isSome (currentMa (x.ins.getD n 0) (s.fld (liBase n) 8 16)) })
    (fun b n j hj => (hone b n).2.2 j hj) hIin (fun b n hb => by
      rw [State.inReading_in]
      unfold State.readIn
      rw [State.fld_of_live hb.1, State.fld_of_live hb.1]) inputs inputs_nodup a haI
  obtain ⟨K, -, -, hK, hKin⟩ := foldl_tells (get := State.loopIn) (f := fun b n => b.inReading x n) (I := I)
    (H := fun K b => s.Hears K b.rep) (W := fun n K => (0x200 + n) ∈ K.srcs)
    (D := fun n v => classFailed (Sys2Proof.Machine.classOf (s.fld (liBase n) 0 2) v.openAt.isSome (currentMa (x.ins.getD n 0) (s.fld (liBase n) 8 16))) ≠
      classFailed v.cls)
    (fun b n j hj => (hone b n).2.2 j hj) hIin (fun n K K' h1 h2 _ => h2 _ h1) (fun b n K hb hK => by
      let y := b.setLoopIn n { b.loopIn n with reading := fOf (currentMa (x.ins.getD n 0) (b.fld (liBase n) 8 16)), missing := false }
      have hy : s.Hears K y.rep := hK
      obtain ⟨K', h1, h2, h3, h4⟩ := hy.setClass n (show y.regs.live = _ from hb.1)
        (Sys2Proof.Machine.classOf (b.fld (liBase n) 0 2) (b.loopIn n).openAt.isSome (currentMa (x.ins.getD n 0) (b.fld (liBase n) 8 16)))
      refine ⟨K', h1, h2, h3, fun hd => h4 ?_⟩
      rw [show y.loopIn n = _ from b.setLoopIn_self n _, State.fld_of_live hb.1, State.fld_of_live hb.1]
      exact hd) inputs inputs_nodup a haI {} h
  have houts : ∀ (l : List Nat) (b : State), (l.foldl (fun b n => b.inReading x n) b).lio.outs = b.lio.outs := by
    intro l
    induction l with
    | nil => exact fun _ => rfl
    | cons n l ih => exact fun b => (ih _).trans (hone b n).2.1
  obtain ⟨b, hb⟩ : ∃ b, inputs.foldl (fun b n => b.inReading x n) a = b := ⟨_, rfl⟩
  have hbo : b.lio.outs = u.lio.outs := hb ▸ houts inputs a
  rw [hb] at hin hI1 hK
  obtain ⟨hout, -, -⟩ := foldl_units (get := State.loopOut) (f := fun b n => b.outReadings x n) (I := I)
    (Q := fun n v w => w.rbv = currentOf (x.rbs.getD n 0) (s.fld (loBase n) 16 16) ∧ w.cmd = v.cmd)
    (fun b n j hj => (b.outReadings_spec n x).2.2.1 j hj)
    (fun b n ⟨h1, h2⟩ => ⟨(b.outReadings_spec n x).1.live.trans h1, (b.outReadings_spec n x).1.wait.trans h2⟩)
    (fun b n hb => by
      obtain ⟨-, -, -, h4, h5⟩ := b.outReadings_spec n x
      exact ⟨h4.trans (by rw [State.fld_of_live hb.1]), h5⟩) outputs outputs_nodup b hI1
  have hall : State.LioActs b t ∧ t.lio.ins = b.lio.ins := by
    have h : ∀ (l : List Nat) (c : State), State.LioActs c (l.foldl (fun b n => b.outReadings x n) c) ∧
        (l.foldl (fun b n => b.outReadings x n) c).lio.ins = c.lio.ins := by
      intro l
      induction l with
      | nil => exact fun c => ⟨State.lioActs_frame.refl c, rfl⟩
      | cons n l ih =>
        exact fun c => ⟨State.lioActs_frame.trans (c.outReadings_spec n x).1 (ih _).1, (ih _).2.trans (c.outReadings_spec n x).2.1⟩
    have ht : t = outputs.foldl (fun b n => b.outReadings x n) b := by
      rw [← hb]
      rfl
    rw [ht]
    exact h outputs b
  obtain ⟨hact, hins⟩ := hall
  have ht : outputs.foldl (fun b n => b.outReadings x n) b = t := by
    rw [← hb]
    rfl
  rw [ht] at hout
  refine ⟨K, hK.mono hact.grows hact.whOld, hact.wait.trans hI1.2, hact.live.trans hI1.1, fun n hn => ?_, fun n hn => ?_⟩
  · have htin : t.loopIn n = b.loopIn n := by
      unfold State.loopIn
      rw [hins]
    intro c k
    have hbn := hin n (List.mem_range.2 hn)
    rw [htin, hbn]
    exact ⟨rfl, rfl, rfl, rfl, fun hc => hKin n (List.mem_range.2 hn) hc⟩
  · have hbn : b.loopOut n = u.loopOut n := by
      unfold State.loopOut
      rw [hbo]
    rw [← hbn]
    exact hout n (List.mem_range.2 hn)

end

/-- Readings arrive across the field bridge (R25, R503). -/
def State.takeReadings (s : State) (x : LioReadings) : State :=
  if s.fieldUp then
    let s1 := s.acked .strobe
    if s.lio.wait && decide (s.clock - s.lio.capAt ≤ 10000) then s1.readings x else s1
  else s

theorem exec_captureReadingsArrival (s : State) (dt : Nat) (x : LioReadings) :
    exec (.captureReadingsArrival dt x) s = s.at_ dt (fun u => u.takeReadings x) := rfl

theorem State.takeReadings_inTime {s : State} (x : LioReadings) (hup : s.fieldUp = true) (hw : s.lio.wait = true)
    (ht : s.clock - s.lio.capAt ≤ 10000) : s.takeReadings x = (s.acked .strobe).readings x := by
  unfold State.takeReadings
  simp only [hup, hw, decide_eq_true ht, Bool.and_true, if_true]

theorem State.takeReadings_late {s : State} (x : LioReadings) (hup : s.fieldUp = true)
    (h : s.lio.wait = false ∨ 10000 < s.clock - s.lio.capAt) : s.takeReadings x = s.acked .strobe := by
  have hno : (s.lio.wait && decide (s.clock - s.lio.capAt ≤ 10000)) = false := by
    rcases h with h | h
    · rw [h, Bool.false_and]
    · rw [decide_eq_false (Nat.not_le.2 h), Bool.and_false]
  unfold State.takeReadings
  simp only [hup, hno, if_true, Bool.false_eq_true, if_false]

section
variable {s : State} {dt : Nat} (hs : s.ready)
include hs

theorem answers_captureReadingsArrival (x : LioReadings) (hw : s.lio.wait = true) (hup : s.fieldUp = true)
    (ht : s.clock + dt - s.lio.capAt ≤ 10000) :
    Answers (.captureReadingsArrival dt x) s (fun t =>
      t.lio.wait = false ∧ t.regs.live = s.regs.live ∧
      (∀ n, n < 16 →
        let c := currentMa (x.ins.getD n 0) (s.fld (liBase n) 8 16)
        let k := Sys2Proof.Machine.classOf (s.fld (liBase n) 0 2) (s.loopIn n).openAt.isSome c
        (t.loopIn n).reading = fOf c ∧ (t.loopIn n).cls = k ∧ (t.loopIn n).missing = false ∧
        (t.loopIn n).openAt = (s.loopIn n).openAt ∧
        (classFailed k ≠ classFailed (s.loopIn n).cls → s.raises t (0x200 + n))) ∧
      ∀ n, n < 8 → (t.loopOut n).rbv = currentOf (x.rbs.getD n 0) (s.fld (loBase n) 16 16) ∧
        (t.loopOut n).cmd = (s.loopOut n).cmd) := by
  obtain ⟨u, hu⟩ : ∃ u, (s.elapse dt).acked .strobe = u := ⟨_, rfl⟩
  have hg : (s.elapse dt).takeReadings x = u.readings x := by
    rw [State.takeReadings_inTime x ((State.elapse_fieldUp s dt).trans hup) (by rw [State.elapse_lio, hw])
      (by rw [State.elapse_lio, State.elapse_clock]; exact ht), hu]
  obtain ⟨K, hK, h1, h2, h3, h4⟩ := State.Hears.readings x (s := s) (u := u) (by rw [← hu]; exact congrArg RegSt.live (s.elapse_regs dt))
    (by rw [← hu]; exact State.Hears.start hs dt)
  have hui : ∀ n, u.loopIn n = s.loopIn n := fun n => by rw [← hu]; exact State.elapse_loopIn s n dt
  have huo : ∀ n, u.loopOut n = s.loopOut n := fun n => by rw [← hu]; exact State.elapse_loopOut s n dt
  obtain ⟨w, hw⟩ : ∃ w, u.readings x = w := ⟨_, rfl⟩
  rw [hw] at hg hK h1 h2 h3 h4
  refine answers_hears hs (exec_captureReadingsArrival s dt x) hg hK
    fun r heard => ⟨h1, h2, fun n hn => ?_, fun n hn => ?_⟩
  · obtain ⟨g1, g2, g3, g4, g5⟩ := h3 n hn
    rw [hui] at g2 g4 g5
    exact ⟨g1, g2, g3, g4, fun hc => heard.raises _ (g5 hc)⟩
  · rw [← huo]
    exact h4 n hn

theorem answers_captureReadingsArrival_late (x : LioReadings) (hup : s.fieldUp = true)
    (h : s.lio.wait = false ∨ 10000 < s.clock + dt - s.lio.capAt) :
    Answers (.captureReadingsArrival dt x) s (fun t => t = { s.elapse dt with fa := t.fa }) := by
  have hg : (s.elapse dt).takeReadings x = (s.elapse dt).acked .strobe :=
    State.takeReadings_late x ((State.elapse_fieldUp s dt).trans hup) (by rw [State.elapse_lio, State.elapse_clock]; exact h)
  exact answers_becomes hs (exec_captureReadingsArrival s dt x) hg rfl rfl

end

/-! ## Missing readings -/

section
variable (s : State)

/-- The reading of an input is missing. -/
def State.missIn (n : Nat) : State := (s.setLoopIn n { s.loopIn n with missing := true }).count (5441 + 2 * n)
/-- The readback of an output is missing. -/
def State.missOut (n : Nat) : State := (s.modLoopOut n (fun o => { o with runA := 0, runB := 0 })).count (5472 + 4 * n)
/-- The readings of a capture point are missing, before any input or output is looked at. -/
def State.missAll : State :=
  { s with lio := { s.lio with wait := false, missing := true }, tw := { s.tw with feedMissing := !s.fieldUp } }

theorem State.readingsMissing_eq (h : s.lio.wait = true) : s.readingsMissing =
    ((outputs.foldl State.missOut (inputs.foldl State.missIn s.missAll)).slub 0x1205 (1 + 2 * b01 (!s.fieldUp)) 0 0).raise 0x21A :=
  if_pos h

/-- Loop inputs and outputs and reports are all that differs, and the capture point is as it was. -/
structure State.LioOnly (a b : State) : Prop where
  rest : b = { a with lio := b.lio, rep := b.rep }
  wait : b.lio.wait = a.lio.wait
  missing : b.lio.missing = a.lio.missing

variable {s} in
theorem State.LioOnly.trans {b c : State} (h : State.LioOnly s b) (g : State.LioOnly b c) : State.LioOnly s c := by
  obtain ⟨h1, h2, h3⟩ := h
  obtain ⟨g1, g2, g3⟩ := g
  exact ⟨g1.trans (by rw [h1]), g2.trans h2, g3.trans h3⟩

theorem State.missIn_spec (n : Nat) : State.LioOnly s (s.missIn n) ∧ (s.missIn n).lio.outs = s.lio.outs ∧
    (s.missIn n).loopIn n = { s.loopIn n with missing := true } ∧ ∀ m, m ≠ n → (s.missIn n).loopIn m = s.loopIn m :=
  ⟨⟨rfl, rfl, rfl⟩, rfl, s.setLoopIn_self n _, fun _ hm => s.setLoopIn_ne _ hm⟩

theorem State.missOut_spec (n : Nat) : State.LioOnly s (s.missOut n) ∧ (s.missOut n).lio.ins = s.lio.ins ∧
    (s.missOut n).loopOut n = { s.loopOut n with runA := 0, runB := 0 } ∧ ∀ m, m ≠ n → (s.missOut n).loopOut m = s.loopOut m :=
  ⟨⟨rfl, rfl, rfl⟩, rfl, s.setLoopOut_self n _, fun _ hm => s.setLoopOut_ne _ hm⟩

/-- Every input and every output misses its reading. -/
theorem State.missEach : let t := outputs.foldl State.missOut (inputs.foldl State.missIn s)
    State.LioOnly s t ∧ (∀ n, n < 16 → t.loopIn n = { s.loopIn n with missing := true }) ∧
      ∀ n, n < 8 → t.loopOut n = { s.loopOut n with runA := 0, runB := 0 } := by
  have hrefl : State.LioOnly s s := ⟨rfl, rfl, rfl⟩
  have houts : ∀ (l : List Nat) (b : State), (l.foldl State.missIn b).lio.outs = b.lio.outs := fun l => by
    induction l with
    | nil => exact fun _ => rfl
    | cons n l ih => exact fun b => (ih _).trans (b.missIn_spec n).2.1
  have hins : ∀ (l : List Nat) (b : State), (l.foldl State.missOut b).lio.ins = b.lio.ins := fun l => by
    induction l with
    | nil => exact fun _ => rfl
    | cons n l ih => exact fun b => (ih _).trans (b.missOut_spec n).2.1
  obtain ⟨hin, -, hI⟩ := foldl_units (get := State.loopIn) (f := State.missIn) (I := State.LioOnly s)
    (Q := fun _ v w => w = { v with missing := true }) (fun b n j hj => (b.missIn_spec n).2.2.2 j hj)
    (fun b n hb => hb.trans (b.missIn_spec n).1) (fun b n _ => (b.missIn_spec n).2.2.1) inputs inputs_nodup s hrefl
  obtain ⟨b, hb⟩ : ∃ b, inputs.foldl State.missIn s = b := ⟨_, rfl⟩
  have hbo : b.lio.outs = s.lio.outs := hb ▸ houts inputs s
  rw [hb] at hin hI ⊢
  obtain ⟨hout, -, hI2⟩ := foldl_units (get := State.loopOut) (f := State.missOut) (I := State.LioOnly s)
    (Q := fun _ v w => w = { v with runA := 0, runB := 0 }) (fun b n j hj => (b.missOut_spec n).2.2.2 j hj)
    (fun b n hb => hb.trans (b.missOut_spec n).1) (fun b n _ => (b.missOut_spec n).2.2.1) outputs outputs_nodup b hI
  refine ⟨hI2, fun n hn => ?_, fun n hn => ?_⟩
  · have h := hin n (List.mem_range.2 hn)
    unfold State.loopIn at h ⊢
    rw [hins]
    exact h
  · have h := hout n (List.mem_range.2 hn)
    have hbn : b.loopOut n = s.loopOut n := by
      unfold State.loopOut
      rw [hbo]
    rw [hbn] at h
    exact h

variable {s} in
/-- What the missing readings count. -/
theorem State.Tells.missEach {a : State} (h : s.Tells {} a.rep) :
    ∃ K, s.Tells K (outputs.foldl State.missOut (inputs.foldl State.missIn a)).rep ∧ K.slubs = [] ∧
      ∀ n, n < 8 → (5472 + 4 * n, 1) ∈ K.cts := by
  have hI : ∀ (f : State → Nat → State) (b : State) (k : Nat), True → True := fun _ _ _ h => h
  obtain ⟨K, -, -, ⟨hK, hK0⟩, -⟩ := foldl_tells (get := State.loopIn) (f := State.missIn) (I := fun _ => True)
    (H := fun K b => s.Tells K b.rep ∧ K.slubs = []) (D := fun _ _ => True) (W := fun _ _ => True)
    (fun b n j hj => (b.missIn_spec n).2.2.2 j hj) (fun _ _ h => h) (fun _ _ _ h _ _ => h)
    (fun b n K _ hK => ⟨{ K with cts := (5441 + 2 * n, 1) :: K.cts }, fun _ h => h, fun _ h => List.mem_cons_of_mem _ h,
      ⟨State.Tells.count (s := s) (b := b.setLoopIn n { b.loopIn n with missing := true }) hK.1 (5441 + 2 * n), hK.2⟩, fun h => h⟩)
    inputs inputs_nodup a trivial {} ⟨h, rfl⟩
  obtain ⟨K', -, -, ⟨hK', hK0'⟩, hw⟩ := foldl_tells (get := State.loopOut) (f := State.missOut) (I := fun _ => True)
    (H := fun K b => s.Tells K b.rep ∧ K.slubs = []) (D := fun _ _ => True) (W := fun n K => (5472 + 4 * n, 1) ∈ K.cts)
    (fun b n j hj => (b.missOut_spec n).2.2.2 j hj) (fun _ _ h => h) (fun _ _ _ h _ h2 => h2 _ h)
    (fun b n K _ hK => ⟨{ K with cts := (5472 + 4 * n, 1) :: K.cts }, fun _ h => h, fun _ h => List.mem_cons_of_mem _ h,
      ⟨State.Tells.count (s := s) (b := b.modLoopOut n (fun o => { o with runA := 0, runB := 0 })) hK.1 (5472 + 4 * n), hK.2⟩,
      fun _ => List.mem_cons_self⟩)
    outputs outputs_nodup _ trivial K ⟨hK, hK0⟩
  exact ⟨K', hK', hK0', fun n hn => hw n (List.mem_range.2 hn) trivial⟩

end

section
variable {s : State} {dt : Nat} (hs : s.ready)
include hs

omit hs in
theorem exec_captureReadingsTimeout (s : State) (dt : Nat) : exec (.captureReadingsTimeout dt) s =
    s.at_ dt (fun u => if u.clock - u.lio.capAt ≥ 10000 then u.readingsMissing else u) := rfl

theorem answers_captureReadingsTimeout (hw : s.lio.wait = true) (ht : 10000 ≤ s.clock + dt - s.lio.capAt) :
    Answers (.captureReadingsTimeout dt) s (fun t =>
      t = { s.elapse dt with lio := t.lio, tw := t.tw, rep := t.rep } ∧ t.lio.wait = false ∧ t.lio.missing = true ∧
      s.raises t 0x21A ∧ s.logs t 0x1205 (if s.fieldUp = true then 1 else 3) 0 0 ∧
      (∀ n, n < 16 → t.loopIn n = { s.loopIn n with missing := true }) ∧
      ∀ n, n < 8 → t.loopOut n = { s.loopOut n with runA := 0, runB := 0 } ∧ s.counts t (5472 + 4 * n) 1) := by
  obtain ⟨u, hu⟩ : ∃ u, s.elapse dt = u := ⟨_, rfl⟩
  have hwu : u.lio.wait = true := by rw [← hu, State.elapse_lio, hw]
  have hup : u.fieldUp = s.fieldUp := hu ▸ State.elapse_fieldUp s dt
  obtain ⟨hrest, hins, houts⟩ := u.missAll.missEach
  obtain ⟨K, hK, hK0, hcts⟩ := State.Tells.missEach (s := s) (a := u.missAll) (hu ▸ State.Tells.elapse hs dt)
  obtain ⟨a, ha⟩ : ∃ a, outputs.foldl State.missOut (inputs.foldl State.missIn u.missAll) = a := ⟨_, rfl⟩
  rw [ha] at hrest hins houts hK
  obtain ⟨hrest, hwait, hmiss⟩ := hrest
  have hlive : a.regs.live = s.regs.live := by
    rw [hrest]
    exact hu ▸ State.elapse_live s dt
  have hslub : s.Tells { K with slubs := [a.slubReq 0x1205 (1 + 2 * b01 (!u.fieldUp)) 0 0] }
      (a.slub 0x1205 (1 + 2 * b01 (!u.fieldUp)) 0 0).rep := by
    have h := hK.slub 0x1205 (1 + 2 * b01 (!u.fieldUp)) 0 0
    rw [hK0] at h
    exact h
  have hfm : 1 + 2 * b01 (!u.fieldUp) = if s.fieldUp = true then 1 else 3 := by
    rw [hup]
    cases s.fieldUp <;> rfl
  rw [hfm] at hslub
  refine answers_reports hs (exec_captureReadingsTimeout s dt)
    (by rw [hu, if_pos (by rw [← hu, State.elapse_clock, State.elapse_lio]; exact ht), u.readingsMissing_eq hwu, ha, hfm])
    (v := a) (((State.RepOnly.refl a).slub _ _ _ _).raise 0x21A) (hslub.raise 0x21A hlive) fun r told => ⟨?_, hwait, hmiss,
      told.raises _ List.mem_cons_self, told.logs _ _ _ _ rfl, fun n hn => ?_, fun n hn => ⟨?_, told.counts _ (hcts n hn)⟩⟩
  · rw [hrest, ← hu]
    rfl
  · refine (hins n hn).trans ?_
    rw [show u.missAll.loopIn n = u.loopIn n from rfl, ← hu, State.elapse_loopIn]
  · refine (houts n hn).trans ?_
    rw [show u.missAll.loopOut n = u.loopOut n from rfl, ← hu, State.elapse_loopOut]

end

/-! ## The limiters -/

section
variable (s : State) (n : Nat)

/-- An input whose limiter has opened (R258). -/
def State.openedIn : LoopIn :=
  { s.loopIn n with openAt := some s.clock, test := false, cls := if s.fld (liBase n) 0 2 = 0 then (s.loopIn n).cls else 6 }

theorem State.limiterOpens_spec : State.OneIn n s (s.limiterOpens n) ∧ (s.limiterOpens n).loopIn n = s.openedIn n := by
  obtain ⟨a, ha⟩ : ∃ a, s.setLoopIn n { s.loopIn n with openAt := some s.clock, test := false } = a := ⟨_, rfl⟩
  have hone : State.OneIn n s (a.count (5440 + 2 * n)) :=
    (ha ▸ s.setLoopIn_oneIn n _ : State.OneIn n s a).trans (((State.RepOnly.refl a).count _).oneIn n)
  have hin : (a.count (5440 + 2 * n)).loopIn n = { s.loopIn n with openAt := some s.clock, test := false } :=
    (((State.RepOnly.refl a).count _).loopIn n).trans (ha ▸ s.setLoopIn_self n _)
  unfold State.limiterOpens State.openedIn
  rw [ha]
  by_cases hm : s.fld (liBase n) 0 2 = 0
  · simp only [hm, if_true]
    exact ⟨hone, hin⟩
  · simp only [hm, if_false]
    refine ⟨hone.trans (State.setClass_oneIn _ n 6), (State.setClass_in _ n 6).trans ?_⟩
    rw [hin]

variable {s} in
theorem State.Hears.limiterOpens {u : State} (h : s.Hears {} u.rep) (hlive : u.regs.live = s.regs.live) :
    ∃ K, s.Hears K (u.limiterOpens n).rep ∧ (5440 + 2 * n, 1) ∈ K.cts := by
  let a := u.setLoopIn n { u.loopIn n with openAt := some u.clock, test := false }
  have ha : s.Hears {} a.rep := h
  have hcount := ha.count (5440 + 2 * n)
  unfold State.limiterOpens
  by_cases hm : u.fld (liBase n) 0 2 = 0
  · simp only [hm, if_true]
    exact ⟨_, hcount, List.mem_cons_self⟩
  · simp only [hm, if_false]
    obtain ⟨K, -, hcts, hK, -⟩ := hcount.setClass n (((State.RepOnly.refl a).count _).live.trans hlive) 6
    exact ⟨K, hK, hcts _ List.mem_cons_self⟩

end

/-- What an input's opened limiter changes since state s. -/
def State.opened (s t : State) (dt n : Nat) : Prop :=
  t = { s.elapse dt with lio := t.lio, rep := t.rep } ∧ t.lio.outs = s.lio.outs ∧
  t.loopIn n = { s.loopIn n with
    openAt := some (s.clock + dt), test := false, cls := if s.fld (liBase n) 0 2 = 0 then (s.loopIn n).cls else 6 } ∧
  (∀ m, m ≠ n → t.loopIn m = s.loopIn m) ∧ s.counts t (5440 + 2 * n) 1

section
variable {s : State} {dt : Nat} (hs : s.ready)
include hs

/-- A command that opens the limiter of input n, in a state u that has at most closed it before. -/
theorem answers_limiterOpens {c : Instr} {g : State → State} {n : Nat} {u : State} (hc : exec c s = s.at_ dt g)
    (hg : g (s.elapse dt) = u.limiterOpens n) (hu : State.OneIn n (s.elapse dt) u) (hrep : u.rep = (s.elapse dt).rep)
    (hin : u.loopIn n = s.loopIn n ∨ u.loopIn n = { s.loopIn n with openAt := none, test := false }) :
    Answers c s (fun t => s.opened t dt n) := by
  have hlive : u.regs.live = s.regs.live := by
    rw [hu.1]
    exact s.elapse_live dt
  obtain ⟨h1, h2⟩ := u.limiterOpens_spec n
  obtain ⟨K, hK, hct⟩ := State.Hears.limiterOpens (s := s) (u := u) n (by rw [hrep]; exact State.Hears.start hs dt) hlive
  obtain ⟨w, hw⟩ : ∃ w, u.limiterOpens n = w := ⟨_, rfl⟩
  rw [hw] at hg h1 h2 hK
  obtain ⟨h3, h4, h5⟩ := hu.trans h1
  refine answers_hears hs hc hg hK fun r heard => ⟨?_, h4.trans (by rw [State.elapse_lio]), h2.trans ?_,
    fun m hm => (h5 m hm).trans (s.elapse_loopIn m dt), heard.counts _ hct⟩
  · rw [h3]
  · unfold State.openedIn
    rw [State.fld_of_live hlive, show u.clock = s.clock + dt by rw [hu.1]; exact s.elapse_clock dt]
    rcases hin with hin | hin <;> rw [hin]

theorem answers_limiterOpen (n : Fin 16) (ho : (s.loopIn n.val).openAt = none) :
    Answers (.limiterOpen dt n) s (fun t => s.opened t dt n.val) := by
  refine answers_limiterOpens hs (show exec (.limiterOpen dt n) s =
    s.at_ dt (fun u => if (u.loopIn n.val).openAt.isNone then u.limiterOpens n.val else u) from rfl) (if_pos ?_)
    ⟨rfl, rfl, fun _ _ => rfl⟩ rfl (.inl (s.elapse_loopIn n.val dt))
  rw [State.elapse_loopIn, ho]
  rfl

/-- The limiter of an input closes for its test (R258). -/
def State.closedFor (u : State) (n : Nat) : State := u.setLoopIn n { u.loopIn n with openAt := none, test := false }

omit hs in
theorem exec_limiterTest (s : State) (dt : Nat) (n : Fin 16) (b : Bool) : exec (.limiterTest dt n b) s = s.at_ dt (fun u =>
    if (u.loopIn n.val).test then (if b then (u.closedFor n.val).limiterOpens n.val else u.closedFor n.val) else u) := rfl

theorem answers_limiterTest_opens (n : Fin 16) (ht : (s.loopIn n.val).test = true) :
    Answers (.limiterTest dt n true) s (fun t => s.opened t dt n.val) := by
  refine answers_limiterOpens hs (exec_limiterTest s dt n true) ((if_pos ?_).trans (if_pos rfl)) (State.setLoopIn_oneIn _ _ _) rfl (.inr ?_)
  · rw [State.elapse_loopIn, ht]
  · unfold State.closedFor
    rw [State.setLoopIn_self, State.elapse_loopIn]

theorem answers_limiterTest_closes (n : Fin 16) (ht : (s.loopIn n.val).test = true) :
    Answers (.limiterTest dt n false) s (fun t =>
      t = { s.elapse dt with lio := t.lio } ∧ t.lio.outs = s.lio.outs ∧
      t.loopIn n.val = { s.loopIn n.val with openAt := none, test := false } ∧ ∀ m, m ≠ n.val → t.loopIn m = s.loopIn m) := by
  refine answers_becomes hs (exec_limiterTest s dt n false) ((if_pos ?_).trans (if_neg (by decide))) rfl
    ⟨rfl, show (s.elapse dt).lio.outs = _ from congrArg LioSt.outs (s.elapse_lio dt), ?_, fun m hm => ?_⟩
  · rw [State.elapse_loopIn, ht]
  · unfold State.closedFor
    rw [State.setLoopIn_self, State.elapse_loopIn]
  · exact (State.setLoopIn_ne _ _ hm).trans (s.elapse_loopIn m dt)

end

/-- Settles O38: every input and every output has a reading of its own, a missing one is marked where it is missing, and a limiter
that opens counts and classifies its own input alone. -/
theorem loopInputsAreClassified : Obligations.LoopInputsAreClassified := by
  intro s dt hs
  refine ⟨fun x => answers_captureReadingsArrival hs x, fun x => answers_captureReadingsArrival_late hs x,
    answers_captureReadingsTimeout hs, fun n => ⟨answers_limiterOpen hs n, fun ht => ⟨answers_limiterTest_opens hs n ht,
      answers_limiterTest_closes hs n ht⟩⟩⟩

end Sys2Proof.Machine
end

section
/-!
PROOFS. The line watch of one channel: shorts, trends and baselines.
-/

namespace Sys2Proof.Machine

/-! ## One channel's line watch -/

/-- From a to b the line watch of one channel and the reports change. -/
def State.OneLine (n : Nat) (a b : State) : Prop :=
  b = { a with lw := b.lw, rep := b.rep } ∧ ∀ k, k ≠ n → b.line k = a.line k

section
variable {n : Nat} {a b c s : State}

theorem State.OneLine.refl (a : State) : State.OneLine n a a := ⟨rfl, fun _ _ => rfl⟩

theorem State.OneLine.trans (h : State.OneLine n a b) (g : State.OneLine n b c) : State.OneLine n a c := by
  obtain ⟨h1, h2⟩ := h
  obtain ⟨g1, g2⟩ := g
  exact ⟨g1.trans (by rw [h1]), fun k hk => (g2 k hk).trans (h2 k hk)⟩

theorem State.setLine_oneLine (a : State) (n : Nat) (v : LineCh) : State.OneLine n a (a.setLine n v) :=
  ⟨rfl, fun _ hk => a.setLine_line_ne v hk⟩

theorem State.RepOnly.lw (h : State.RepOnly a b) : b.lw = a.lw := by rw [show b = _ from h]

theorem State.RepOnly.line (h : State.RepOnly a b) (k : Nat) : b.line k = a.line k := by
  unfold State.line
  rw [h.lw]

theorem State.RepOnly.oneLine (h : State.RepOnly a b) (n : Nat) : State.OneLine n a b :=
  ⟨Eq.trans h (by rw [h.lw]), fun k _ => h.line k⟩

theorem State.elapse_line (s : State) (k dt : Nat) : (s.elapse dt).line k = s.line k := by
  unfold State.line
  rw [State.elapse_lw]

theorem State.elapse_ch (s : State) (k dt : Nat) : (s.elapse dt).ch k = s.ch k := by
  unfold State.ch
  rw [State.elapse_chs]

theorem State.OneLine.only {dt : Nat} (h : State.OneLine n (s.elapse dt) b) (r : Rep) :
    s.onlyLine { b with rep := r } dt n := by
  obtain ⟨h1, h2⟩ := h
  refine ⟨?_, fun k hk => (h2 k hk).trans (s.elapse_line k dt)⟩
  rw [h1]

theorem State.OneLine.live (h : State.OneLine n a b) : b.regs.live = a.regs.live := by rw [h.1]
theorem State.OneLine.clock (h : State.OneLine n a b) : b.clock = a.clock := by rw [h.1]
theorem State.OneLine.dr (h : State.OneLine n a b) : b.dr = a.dr := by rw [h.1]
theorem State.OneLine.feed (h : State.OneLine n a b) (k : Nat) : b.feed k = a.feed k := by rw [h.1]; rfl

end

/-! ## Shorts (R202) -/

section
variable (s : State) (ch : Nat) (h l : Int)

/-- One run of R202 goes on, or ends. -/
def runStep (b : Bool) (n : Nat) : Nat := if b then min 8 (n + 1) else 0

/-- The taps beyond their limits, and within. -/
def State.tapsBad : List Bool :=
  let hi : Int := (s.fld (lwBase ch + 12) 0 16 : Nat)
  let lo : Int := (s.fld (lwBase ch + 12) 16 16 : Nat)
  [decide (h > hi), decide (h < lo), decide (l > hi), decide (l < lo)]
def State.tapsOk : List Bool :=
  let hi : Int := (s.fld (lwBase ch + 12) 0 16 : Nat)
  let lo : Int := (s.fld (lwBase ch + 12) 16 16 : Nat)
  [decide (lo ≤ h ∧ h ≤ hi), decide (lo ≤ h ∧ h ≤ hi), decide (lo ≤ l ∧ l ≤ hi), decide (lo ≤ l ∧ l ≤ hi)]

/-- The short bits after an evaluation, from the runs beyond and within. -/
def shortBits (br kr : List Nat) (short : List Bool) : List Bool :=
  (List.range 4).map (fun i => if br.getD i 0 ≥ 8 then true else if kr.getD i 0 ≥ 8 then false else short.getD i false)

/-- The line watch of a channel after an evaluation of its taps. -/
def State.evaluated : LineCh :=
  let v := s.line ch
  let br := List.zipWith runStep (s.tapsBad ch h l) v.badRun
  let kr := List.zipWith runStep (s.tapsOk ch h l) v.okRun
  { v with badRun := br, okRun := kr, short := shortBits br kr v.short, shortAt := some s.clock }

theorem State.shortEval_eq : s.shortEval ch h l =
    if (List.range 4).any (fun i => (s.evaluated ch h l).short.getD i false && !(s.line ch).short.getD i false)
    then (s.setLine ch (s.evaluated ch h l)).raise 0x1C2 else s.setLine ch (s.evaluated ch h l) := rfl

theorem zipWith_runStep (b : List Bool) (r : List Nat) (hb : b.length = 4) (hr : r.length = 4) (i : Nat) (hi : i < 4) :
    (List.zipWith runStep b r).getD i 0 = runStep (b.getD i false) (r.getD i 0) := by
  have h1 : i < b.length := by omega
  have h2 : i < r.length := by omega
  rw [List.getD_eq_getElem _ _ (by rw [List.length_zipWith]; omega), List.getElem_zipWith, List.getD_eq_getElem _ _ h1,
    List.getD_eq_getElem _ _ h2]

theorem shortBits_get (br kr : List Nat) (short : List Bool) (i : Nat) (hi : i < 4) :
    (shortBits br kr short).getD i false =
      if br.getD i 0 ≥ 8 then true else if kr.getD i 0 ≥ 8 then false else short.getD i false := by
  unfold shortBits
  rw [List.getD_eq_getElem _ _ (by rw [List.length_map, List.length_range]; exact hi), List.getElem_map, List.getElem_range]

theorem State.tapsBad_get {hi lo : Int} (hhi : (s.fld (lwBase ch + 12) 0 16 : Nat) = hi)
    (hlo : (s.fld (lwBase ch + 12) 16 16 : Nat) = lo) (i : Nat) (hi4 : i < 4) :
    (s.tapsBad ch h l).getD i false = true ↔ if i = 0 then hi < h else if i = 1 then h < lo else if i = 2 then hi < l else l < lo := by
  unfold State.tapsBad
  rw [hhi, hlo]
  interval_cases i <;> simp

theorem State.tapsOk_get {hi lo : Int} (hhi : (s.fld (lwBase ch + 12) 0 16 : Nat) = hi)
    (hlo : (s.fld (lwBase ch + 12) 16 16 : Nat) = lo) (i : Nat) (hi4 : i < 4) :
    (s.tapsOk ch h l).getD i false = true ↔ if i < 2 then lo ≤ h ∧ h ≤ hi else lo ≤ l ∧ l ≤ hi := by
  unfold State.tapsOk
  rw [hhi, hlo]
  interval_cases i <;> simp

variable {s ch h l} in
/-- A run beyond a limit that this evaluation goes on with, and one that it ends. -/
theorem State.evaluated_badRun (hlen : (s.line ch).badRun.length = 4) (i : Nat) (hi : i < 4) :
    (s.evaluated ch h l).badRun.getD i 0 = runStep ((s.tapsBad ch h l).getD i false) ((s.line ch).badRun.getD i 0) :=
  zipWith_runStep _ _ rfl hlen i hi

variable {s ch h l} in
theorem State.evaluated_short_bad (hlen : (s.line ch).badRun.length = 4) {i : Nat} (hi : i < 4)
    (hbad : (s.tapsBad ch h l).getD i false = true) (h7 : (s.line ch).badRun.getD i 0 = 7) :
    (s.evaluated ch h l).short.getD i false = true := by
  refine (shortBits_get _ _ _ i hi).trans (if_pos ?_)
  rw [zipWith_runStep _ _ rfl hlen i hi, hbad, h7]
  decide

variable {s ch h l} in
theorem State.evaluated_short_ok (hlen : (s.line ch).badRun.length = 4) (hlenk : (s.line ch).okRun.length = 4) {i : Nat} (hi : i < 4)
    (hbad : ¬(s.tapsBad ch h l).getD i false = true) (hok : (s.tapsOk ch h l).getD i false = true)
    (h7 : (s.line ch).okRun.getD i 0 = 7) : (s.evaluated ch h l).short.getD i false = false := by
  refine (shortBits_get _ _ _ i hi).trans ?_
  rw [if_neg, if_pos]
  · rw [zipWith_runStep _ _ rfl hlenk i hi, hok, h7]
    decide
  · rw [zipWith_runStep _ _ rfl hlen i hi, Bool.eq_false_iff.2 hbad]
    exact Nat.not_succ_le_zero 7

theorem State.shortEval_repOnly : State.RepOnly (s.setLine ch (s.evaluated ch h l)) (s.shortEval ch h l) := by
  rw [State.shortEval_eq]
  exact .ite ((State.RepOnly.refl _).raise _) (.refl _)

variable {s} in
/-- A short bit newly set raises its source. -/
theorem State.Tells.shortEval {u : State} (hu : s.Tells {} u.rep) (hlive : u.regs.live = s.regs.live) :
    ∃ K, s.Tells K (u.shortEval ch h l).rep ∧ ∀ i, i < 4 → (u.evaluated ch h l).short.getD i false = true →
      (u.line ch).short.getD i false = false → 0x1C2 ∈ K.srcs := by
  rw [State.shortEval_eq]
  by_cases hany : (List.range 4).any (fun i => (u.evaluated ch h l).short.getD i false && !(u.line ch).short.getD i false) = true
  · rw [if_pos hany]
    exact ⟨_, State.Tells.raise (b := u.setLine ch (u.evaluated ch h l)) hu 0x1C2 hlive, fun _ _ _ _ => List.mem_cons_self⟩
  · rw [if_neg hany]
    refine ⟨{}, hu, fun i hi h1 h2 => absurd (List.any_eq_true.2 ⟨i, List.mem_range.2 hi, ?_⟩) hany⟩
    rw [h1, h2]
    rfl

theorem State.shortDue_of (u : State) (hon : u.lineOn ch = true) (hidle : (u.ch ch).wire = .idle)
    (hat : ∀ a, (u.line ch).shortAt = some a → a + 100000 ≤ u.clock) : u.shortDue ch = true := by
  unfold State.shortDue
  rw [hon, decide_eq_true hidle]
  cases hq : (u.line ch).shortAt with
  | none => rfl
  | some a => exact decide_eq_true (hat a hq)

theorem State.not_shortDue_of (u : State) (h : u.lineOn ch = false ∨ (u.ch ch).wire ≠ .idle ∨
    (∃ a, (u.line ch).shortAt = some a ∧ u.clock < a + 100000)) : ¬u.shortDue ch = true := by
  unfold State.shortDue
  rcases h with h | h | ⟨a, h, hlt⟩
  · simp [h]
  · simp [h]
  · simp [h, hlt]

end

section
variable {s : State} {dt : Nat} (hs : s.ready) (ch : Fin 16)
include hs

theorem answers_shortEvaluation (h l : Int) (hon : s.lineOn ch.val = true) (hidle : (s.ch ch.val).wire = .idle)
    (hat : ∀ a, (s.line ch.val).shortAt = some a → a + 100000 ≤ s.clock + dt) (hbr : (s.line ch.val).badRun.length = 4)
    (hkr : (s.line ch.val).okRun.length = 4) :
    let v := s.line ch.val
    let hi : Int := (s.fld (lwBase ch.val + 12) 0 16 : Nat)
    let lo : Int := (s.fld (lwBase ch.val + 12) 16 16 : Nat)
    let bad := fun (i : Nat) => if i = 0 then hi < h else if i = 1 then h < lo else if i = 2 then hi < l else l < lo
    let ok := fun (i : Nat) => if i < 2 then lo ≤ h ∧ h ≤ hi else lo ≤ l ∧ l ≤ hi
    Answers (.shortEvaluation dt ch h l) s (fun t =>
      s.onlyLine t dt ch.val ∧ (t.line ch.val).shortAt = some t.clock ∧
      ∀ i, i < 4 →
        (bad i → v.badRun.getD i 0 = 7 → (t.line ch.val).short.getD i false = true ∧
          (v.short.getD i false = false → s.raises t 0x1C2)) ∧
        (ok i → ¬bad i → v.okRun.getD i 0 = 7 → (t.line ch.val).short.getD i false = false) ∧
        (bad i → (t.line ch.val).badRun.getD i 0 = min 8 (v.badRun.getD i 0 + 1)) ∧
        (¬bad i → (t.line ch.val).badRun.getD i 0 = 0)) := by
  intro v hi lo bad ok
  obtain ⟨u, hu⟩ : ∃ u, s.elapse dt = u := ⟨_, rfl⟩
  have hline : u.line ch.val = v := hu ▸ s.elapse_line ch.val dt
  have hlive : u.regs.live = s.regs.live := hu ▸ s.elapse_live dt
  have hdue : u.shortDue ch.val = true := by
    subst hu
    exact State.shortDue_of ch.val _ ((State.elapse_bit s dt _ _).trans hon) ((congrArg Channel.wire (s.elapse_ch ch.val dt)).trans hidle)
      (by rw [hline, State.elapse_clock]; exact hat)
  have hbad : ∀ i, i < 4 → (bad i ↔ (u.tapsBad ch.val h l).getD i false = true) := fun i hi4 =>
    (u.tapsBad_get ch.val h l (by rw [State.fld_of_live hlive]) (by rw [State.fld_of_live hlive]) i hi4).symm
  have hok : ∀ i, i < 4 → (ok i ↔ (u.tapsOk ch.val h l).getD i false = true) := fun i hi4 =>
    (u.tapsOk_get ch.val h l (by rw [State.fld_of_live hlive]) (by rw [State.fld_of_live hlive]) i hi4).symm
  clear_value v
  subst hline
  rw [← s.elapse_line ch.val dt, hu] at hbr hkr
  obtain ⟨K, hK, hsrc⟩ := State.Tells.shortEval (s := s) (u := u) ch.val h l (hu ▸ State.Tells.elapse hs dt) hlive
  obtain ⟨x, hx⟩ : ∃ x, u.evaluated ch.val h l = x := ⟨_, rfl⟩
  refine answers_reports hs (show exec (.shortEvaluation dt ch h l) s =
    s.at_ dt (fun u => if u.shortDue ch.val then u.shortEval ch.val h l else u) from rfl) (by rw [hu, if_pos hdue])
    (v := u.setLine ch.val x) (hx ▸ u.shortEval_repOnly ch.val h l) hK fun r told => ?_
  have hself : ({ u.setLine ch.val x with rep := r } : State).line ch.val = u.evaluated ch.val h l :=
    (u.setLine_line_self ch.val x).trans hx.symm
  rw [hself]
  refine ⟨(hu ▸ u.setLine_oneLine ch.val x : State.OneLine ch.val (s.elapse dt) _).only r, rfl, fun i hi4 => ⟨fun hb h7 => ?_, fun ho hb h7 => ?_,
    fun hb => ?_, fun hb => ?_⟩⟩
  · have hset := State.evaluated_short_bad hbr hi4 ((hbad i hi4).1 hb) h7
    exact ⟨hset, fun hnew => told.raises _ (hsrc i hi4 hset hnew)⟩
  · exact State.evaluated_short_ok hbr hkr hi4 (fun h => hb ((hbad i hi4).2 h)) ((hok i hi4).1 ho) h7
  · rw [State.evaluated_badRun hbr i hi4, (hbad i hi4).1 hb]
    rfl
  · rw [State.evaluated_badRun hbr i hi4, Bool.eq_false_iff.2 fun h => hb ((hbad i hi4).2 h)]
    rfl

theorem answers_shortEvaluation_idle (h l : Int) (hno : s.lineOn ch.val = false ∨ (s.ch ch.val).wire ≠ .idle ∨
    (∃ a, (s.line ch.val).shortAt = some a ∧ s.clock + dt < a + 100000)) :
    Answers (.shortEvaluation dt ch h l) s (fun t => t = s.elapse dt) := by
  refine answers_settles hs (show exec (.shortEvaluation dt ch h l) s =
    s.at_ dt (fun u => if u.shortDue ch.val then u.shortEval ch.val h l else u) from rfl)
    (if_neg (State.not_shortDue_of ch.val _ ?_)) (State.elapse_settled hs dt) rfl
  rw [State.elapse_line, State.elapse_clock, State.elapse_ch, show (s.elapse dt).lineOn ch.val = s.lineOn ch.val from State.elapse_bit s dt _ _]
  exact hno

end

/-! ## Trends (R203) -/

theorem foldl_or_bit (l : List Nat) (m : Word) {k : Nat} (hk : k < 32) (h : bitOf m k = true ∨ k ∈ l) :
    bitOf (l.foldl (fun m k => m ||| BitVec.ofNat 32 (2 ^ k)) m) k = true := by
  have hor : ∀ a b : Word, bitOf (a ||| b) k = (bitOf a k || bitOf b k) := fun a b => BitVec.getLsbD_or
  induction l generalizing m with
  | nil => exact h.elim id (fun h => nomatch h)
  | cons j l ih =>
    refine ih _ ?_
    rw [hor, Bool.or_eq_true]
    rcases h with h | h
    · exact .inl (.inl h)
    · rcases List.mem_cons.1 h with rfl | h
      · exact .inl (.inr (bitOf_two_pow hk))
      · exact .inr h

section
variable (s : State) (ch : Nat)

/-- The nodes whose means exceed their baselines at the end of a trend interval. -/
def State.trendHits : List Nat :=
  (((s.line ch).sig.map (fun e => (e.1, e.2.endInterval))).filter (fun e => e.2.alarm (s.fld (lwBase ch + 0x18) 24 8))).map (·.1)

/-- The line watch of a channel after a trend interval. -/
def State.trended : LineCh :=
  { s.line ch with
    sig := (s.line ch).sig.map (fun e => (e.1, e.2.endInterval)), trendTurns := 0
    trendMap := (s.trendHits ch).foldl (fun m k => m ||| BitVec.ofNat 32 (2 ^ k)) (s.line ch).trendMap }

theorem State.trendEnd_eq : s.trendEnd ch =
    if (s.trendHits ch).isEmpty then s.setLine ch (s.trended ch) else (s.setLine ch (s.trended ch)).raise 0x1C3 := rfl

variable {s ch} in
theorem State.mem_trendHits {k : Nat} {g : Signature} (hg : (k, g) ∈ (s.line ch).sig)
    (ha : g.endInterval.alarm (s.fld (lwBase ch + 0x18) 24 8) = true) : k ∈ s.trendHits ch :=
  List.mem_map.2 ⟨_, List.mem_filter.2 ⟨List.mem_map.2 ⟨_, hg, rfl⟩, ha⟩, rfl⟩

end

section
variable {s : State} {dt : Nat} (hs : s.ready) (ch : Fin 16)
include hs

theorem answers_trendIntervalEnd (hon : s.lineOn ch.val = true)
    (hturns : s.fld (lwBase ch.val + 0x18) 0 24 ≤ (s.line ch.val).trendTurns) :
    Answers (.trendIntervalEnd dt ch) s (fun t =>
      s.onlyLine t dt ch.val ∧ (t.line ch.val).trendTurns = 0 ∧
      (t.line ch.val).sig = (s.line ch.val).sig.map (fun e => (e.1, e.2.endInterval)) ∧
      ∀ k g, (k, g) ∈ (s.line ch.val).sig → k < 32 → g.endInterval.alarm (s.fld (lwBase ch.val + 0x18) 24 8) = true →
        bitOf (t.line ch.val).trendMap k = true ∧ s.raises t 0x1C3) := by
  obtain ⟨u, hu⟩ : ∃ u, s.elapse dt = u := ⟨_, rfl⟩
  have hline : u.line ch.val = s.line ch.val := hu ▸ s.elapse_line ch.val dt
  have hlive : u.regs.live = s.regs.live := hu ▸ s.elapse_live dt
  have hfld : ∀ lo w, u.fld (lwBase ch.val + 0x18) lo w = s.fld (lwBase ch.val + 0x18) lo w := State.fld_of_live hlive _
  obtain ⟨x, hx⟩ : ∃ x, u.trended ch.val = x := ⟨_, rfl⟩
  have hdue : (u.lineOn ch.val && decide ((u.line ch.val).trendTurns ≥ u.fld (lwBase ch.val + 0x18) 0 24)) = true := by
    rw [hline, hfld, decide_eq_true hturns, show u.lineOn ch.val = s.lineOn ch.val from hu ▸ State.elapse_bit s dt _ _, hon]
    rfl
  have hself : ∀ r, ({ u.setLine ch.val x with rep := r } : State).line ch.val = x := fun r => u.setLine_line_self ch.val x
  have htells : ∃ K, s.Tells K (u.trendEnd ch.val).rep ∧ (u.trendHits ch.val ≠ [] → 0x1C3 ∈ K.srcs) := by
    have h0 : s.Tells {} u.rep := hu ▸ State.Tells.elapse hs dt
    rw [State.trendEnd_eq]
    cases hl : (u.trendHits ch.val).isEmpty with
    | true => exact ⟨{}, h0, fun h => absurd (List.isEmpty_iff.1 hl) h⟩
    | false => exact ⟨_, State.Tells.raise (b := u.setLine ch.val (u.trended ch.val)) h0 0x1C3 hlive, fun _ => List.mem_cons_self⟩
  obtain ⟨K, hK, hsrc⟩ := htells
  refine answers_reports hs (show exec (.trendIntervalEnd dt ch) s = s.at_ dt (fun u =>
      if u.lineOn ch.val && decide ((u.line ch.val).trendTurns ≥ u.fld (lwBase ch.val + 0x18) 0 24) then u.trendEnd ch.val else u) from rfl)
    (by rw [hu, if_pos hdue]) (v := u.setLine ch.val x)
    (by rw [State.trendEnd_eq, hx]; exact .ite (.refl _) ((State.RepOnly.refl _).raise _)) hK fun r told => ?_
  rw [hself, ← hx]
  refine ⟨(hu ▸ u.setLine_oneLine ch.val _ : State.OneLine ch.val (s.elapse dt) _).only r, rfl, ?_, fun k g hg hk ha => ?_⟩
  · rw [← hline]
    rfl
  · have hmem : k ∈ u.trendHits ch.val := State.mem_trendHits (hline ▸ hg) (by rw [hfld]; exact ha)
    exact ⟨foldl_or_bit _ _ hk (.inr hmem), told.raises _ (hsrc (List.ne_nil_of_mem hmem))⟩

theorem answers_baseline (w : Wr) (hw : s.passes 0x60008 w) :
    Answers (.baseline dt w) s (fun t =>
      t = { s.elapse dt with lw := t.lw } ∧
      (bitOf w.data ch.val = true → t.line ch.val = { s.line ch.val with
        sig := (s.line ch.val).sig.map (fun e => (e.1, { e.2 with base := some (e.2.mu.getD 3 0, e.2.mu.getD 4 0) })) }) ∧
      (bitOf w.data ch.val = false → t.line ch.val = s.line ch.val)) := by
  obtain ⟨u, hu⟩ : ∃ u, s.elapse dt = u := ⟨_, rfl⟩
  have hline : u.line ch.val = s.line ch.val := hu ▸ s.elapse_line ch.val dt
  obtain ⟨h1, h2, h3⟩ := foldl_units (get := State.line) (f := State.takeBase) (I := fun b => b = { u with lw := b.lw })
    (Q := fun _ v x => x = { v with
      sig := v.sig.map (fun e => (e.1, { e.2 with base := some (e.2.mu.getD 3 0, e.2.mu.getD 4 0) })) })
    (fun b k j hj => b.setLine_line_ne _ hj) (fun b k hb => by
      rw [hb]
      rfl) (fun b k _ => b.setLine_line_self k _)
    (channels.filter (fun c => bitOf w.data c)) (channels_nodup.filter _) u rfl
  obtain ⟨t, ht⟩ : ∃ t, (channels.filter (fun c => bitOf w.data c)).foldl State.takeBase u = t := ⟨_, rfl⟩
  rw [ht] at h1 h2 h3
  refine answers_wr_becomes hs hw (show exec (.baseline dt w) s = s.at_ dt (fun u => u.wr 0x60008 w (fun u =>
      (channels.filter (fun c => bitOf w.data c)).foldl State.takeBase u)) from rfl) (by rw [hu, ht]) (by rw [hu, h3])
    ⟨hu ▸ h3, fun hb => ?_, fun hb => ?_⟩
  · rw [← hline]
    exact h1 ch.val (List.mem_filter.2 ⟨List.mem_range.2 ch.isLt, hb⟩)
  · rw [← hline]
    exact h2 ch.val fun hm => Bool.false_ne_true (hb.symm.trans (List.mem_filter.1 hm).2)

end

/-- Settles O33: the four runs of R202 and their short bits, the end of a trend interval, and BASELINE channel by channel. -/
theorem lineHealthIsJudged : Obligations.LineHealthIsJudged := by
  intro s dt ch hs
  exact ⟨fun h l hon hidle hat _ hbr hkr => answers_shortEvaluation hs ch h l hon hidle hat hbr hkr,
    fun h l hno => answers_shortEvaluation_idle hs ch h l hno, answers_trendIntervalEnd hs ch, answers_baseline hs ch⟩

end Sys2Proof.Machine
end

section
/-!
PROOFS. Attributions of the line watch: the node that is nearest, what is charged to it, and the request that may follow.
-/

namespace Sys2Proof.Machine

/-! ## The nearest signature (R197, R198) -/

theorem nearest_concat (l : List (Nat × Rat)) (e : Nat × Rat) :
    nearest (l ++ [e]) = match nearest l with | none => some e | some b => if e.2 < b.2 then some e else some b := by
  unfold nearest
  exact List.foldl_append.trans rfl

/-- The nearest of a list is no farther than any other, and where the keys rise it has the lowest of equals. -/
theorem nearest_spec (l : List (Nat × Rat)) :
    (nearest l = none → l = []) ∧ ∀ b, nearest l = some b → b ∈ l ∧ (∀ e ∈ l, b.2 ≤ e.2) ∧
      ((l.map (·.1)).Pairwise (· < ·) → ∀ e ∈ l, e.2 = b.2 → b.1 ≤ e.1) := by
  induction l using List.reverseRecOn with
  | nil => exact ⟨fun _ => rfl, fun b h => nomatch h⟩
  | append_singleton l x ih =>
    obtain ⟨hnone, hsome⟩ := ih
    rw [nearest_concat]
    cases hn : nearest l with
    | none =>
      rw [hnone hn]
      refine ⟨fun h => (nomatch h), fun b hb => ?_⟩
      obtain rfl : x = b := Option.some.inj hb
      simp
    | some c =>
      obtain ⟨hmem, hle, hlow⟩ := hsome c hn
      have hpre : ((l ++ [x]).map (·.1)).Pairwise (· < ·) → (l.map (·.1)).Pairwise (· < ·) ∧ ∀ e ∈ l, e.1 < x.1 := by
        intro h
        rw [List.map_append, List.pairwise_append] at h
        exact ⟨h.1, fun e he => h.2.2 e.1 (List.mem_map_of_mem he) x.1 (by simp)⟩
      by_cases hlt : x.2 < c.2
      · refine ⟨fun h => (by simp [hlt] at h), fun b hb => ?_⟩
        obtain rfl : x = b := by simpa [hlt] using hb
        refine ⟨by simp, fun e he => ?_, fun _ e he heq => ?_⟩
        · rcases List.mem_append.1 he with he | he
          · exact le_of_lt (lt_of_lt_of_le hlt (hle e he))
          · rw [List.mem_singleton.1 he]
        · rcases List.mem_append.1 he with he | he
          · exact absurd heq (ne_of_gt (lt_of_lt_of_le hlt (hle e he)))
          · rw [List.mem_singleton.1 he]
      · refine ⟨fun h => (by simp [hlt] at h), fun b hb => ?_⟩
        obtain rfl : c = b := by simpa [hlt] using hb
        refine ⟨List.mem_append_left _ hmem, fun e he => ?_, fun hp e he heq => ?_⟩
        · rcases List.mem_append.1 he with he | he
          · exact hle e he
          · rw [List.mem_singleton.1 he]
            exact not_lt.1 hlt
        · rcases List.mem_append.1 he with he | he
          · exact hlow (hpre hp).1 e he heq
          · rw [List.mem_singleton.1 he]
            exact le_of_lt ((hpre hp).2 c hmem)

/-- The distances of the mature signatures. -/
def LineCh.distances (v : LineCh) (x : List (Option Int)) : List (Nat × Rat) :=
  (v.sig.filter (fun e => e.2.mature)).map (fun e => (e.1, e.2.distance x))

theorem LineCh.mem_distances {v : LineCh} {x : List (Option Int)} {k : Nat} {g : Signature} (h : (k, g) ∈ v.sig)
    (hm : g.mature = true) : (k, g.distance x) ∈ v.distances x :=
  List.mem_map.2 ⟨(k, g), List.mem_filter.2 ⟨h, hm⟩, rfl⟩

/-- The verdict of Table 6.2 over the distances of the mature signatures: what `State.attributed` shows and judges by
(`State.attributed_eq`). -/
def LineCh.verdict (v : LineCh) (bits : Nat) (x : List (Option Int)) : Verdict6 :=
  if bits < 2 ∨ (x.filter (·.isSome)).length = 0 then ⟨0x3F, 0, 3, 0x3F, none, none⟩
  else
    match nearest (v.distances x) with
    | none => ⟨0x3F, 0, 4, 0x3F, none, none⟩
    | some b =>
      if b.2 > 4 then
        ⟨0x3E, 0, 2, ((nearest ((v.distances x).filter (fun e => decide (e.1 ≠ b.1)))).map (·.1)).getD 0x3F, some b.2,
          (nearest ((v.distances x).filter (fun e => decide (e.1 ≠ b.1)))).map (·.2)⟩
      else
        match nearest ((v.distances x).filter (fun e => decide (e.1 ≠ b.1))) with
        | some c => ⟨b.1, confOf b.2 c.2, 0, c.1, some b.2, some c.2⟩
        | none => ⟨b.1, confOf b.2 4, 1, 0x3F, some b.2, none⟩

/-- A verdict that names a node names the nearest one, at a distance of at most 4. -/
theorem LineCh.verdict_names (v : LineCh) (bits : Nat) (x : List (Option Int)) (h : (v.verdict bits x).reason ≤ 1) :
    ∃ b, nearest (v.distances x) = some b ∧ b.2 ≤ 4 ∧ (v.verdict bits x).node = b.1 := by
  by_cases hbits : bits < 2 ∨ (x.filter (·.isSome)).length = 0
  · have hr : (v.verdict bits x).reason = 3 := by
      unfold LineCh.verdict
      rw [if_pos hbits]
    omega
  · cases hn : nearest (v.distances x) with
    | none =>
      have hr : (v.verdict bits x).reason = 4 := by
        unfold LineCh.verdict
        rw [if_neg hbits, hn]
      omega
    | some b =>
      by_cases hfar : b.2 > 4
      · have hr : (v.verdict bits x).reason = 2 := by
          unfold LineCh.verdict
          simp only [if_neg hbits, hn, if_pos hfar]
        omega
      · refine ⟨b, rfl, not_lt.1 hfar, ?_⟩
        unfold LineCh.verdict
        simp only [if_neg hbits, hn, if_neg hfar]
        split <;> rfl

theorem LineCh.verdict_spec (v : LineCh) (bits : Nat) (x : List (Option Int)) (h : (v.verdict bits x).reason ≤ 1) :
    let o := v.verdict bits x
    ∃ h, (o.node, h) ∈ v.sig ∧ h.mature = true ∧ h.distance x ≤ 4 ∧
      (∀ k h', (k, h') ∈ v.sig → h'.mature = true → h.distance x ≤ h'.distance x) ∧
      ((v.sig.map (·.1)).Pairwise (· < ·) → ∀ k h', (k, h') ∈ v.sig → h'.mature = true →
        h'.distance x = h.distance x → o.node ≤ k) := by
  intro o
  obtain ⟨b, hb, h4, hnode⟩ := v.verdict_names bits x h
  obtain ⟨hmem, hle, hlow⟩ := (nearest_spec _).2 b hb
  obtain ⟨e, he, rfl⟩ := List.mem_map.1 hmem
  obtain ⟨hsig, hmat⟩ := List.mem_filter.1 he
  refine ⟨e.2, ?_, hmat, h4, fun k g hg hgm => hle _ (LineCh.mem_distances hg hgm), fun hp k g hg hgm heq => ?_⟩
  · rw [show o.node = e.1 from hnode]
    exact hsig
  · rw [show o.node = e.1 from hnode]
    refine hlow ?_ _ (LineCh.mem_distances hg hgm) heq
    unfold LineCh.distances
    rw [List.map_map]
    exact hp.sublist (List.filter_sublist.map _)

/-! ## What a candidate leaves -/

/-- From a to b the quarantines and requests of the line watch, feeds, breaches and reports change. -/
structure State.SigKept (a b : State) : Prop where
  rest : b = { a with lw := b.lw, fd := b.fd, dr := b.dr, rep := b.rep }
  sig : ∀ k, (b.line k).sig = (a.line k).sig
  blames : ∀ k, (b.line k).blames = (a.line k).blames
  grows : Rep.Grows a.rep b.rep
  whOld : b.rep.whOld = a.rep.whOld

theorem State.sigKept_frame : DrFrame State.SigKept where
  refl a := ⟨rfl, fun _ => rfl, fun _ => rfl, .refl _, rfl⟩
  trans h g := ⟨g.rest.trans (by rw [h.rest]), fun k => (g.sig k).trans (h.sig k), fun k => (g.blames k).trans (h.blames k),
    h.grows.trans g.grows, g.whOld.trans h.whOld⟩
  rep _ _ hg hw := ⟨rfl, fun _ => rfl, fun _ => rfl, hg, hw⟩
  dr _ _ := ⟨rfl, fun _ => rfl, fun _ => rfl, .refl _, rfl⟩

section
variable (a : State) (ch n : Nat)

theorem State.modLine_sigKept {f : LineCh → LineCh} (hs : ∀ v, (f v).sig = v.sig) (hb : ∀ v, (f v).blames = v.blames) :
    State.SigKept a (a.modLine ch f) := by
  have hline : ∀ k, (a.modLine ch f).line k = if k = ch then f (a.line ch) else a.line k := fun k => by
    split
    · next h =>
      rw [h]
      exact a.setLine_line_self ch _
    · next h => exact a.setLine_line_ne _ h
  refine ⟨rfl, fun k => ?_, fun k => ?_, .refl _, rfl⟩
  · rw [hline]
    split
    · next h => rw [hs, h]
    · rfl
  · rw [hline]
    split
    · next h => rw [hb, h]
    · rfl

theorem State.OneFeed.sigKept {a b : State} (h : State.OneFeed n a b) (hg : Rep.Grows a.rep b.rep)
    (hw : b.rep.whOld = a.rep.whOld) : State.SigKept a b :=
  ⟨by rw [h.1], fun k => by rw [h.1]; rfl, fun k => by rw [h.1]; rfl, hg, hw⟩

theorem State.feedHold_sigKept (cause : Nat) : State.SigKept a (a.feedHold n cause) := by
  have h := a.feedHold_feedsAct n cause
  exact ⟨by rw [h.rest], fun k => by rw [h.rest]; rfl, fun k => by rw [h.rest]; rfl, h.rep.grows, h.rep.whOld⟩

theorem State.quarStart_sigKept (q : QuarReq) : State.SigKept a (a.quarStart ch q) := by
  have F := State.sigKept_frame
  have hfeed : ∀ (b : State) (v : Feed), State.SigKept b (b.setFeed q.feed v) := fun b v =>
    ⟨rfl, fun _ => rfl, fun _ => rfl, .refl _, rfl⟩
  unfold State.quarStart
  refine F.ite (F.quarRecord (F.count ?_ _) _ _ _ _ _) ?_
  · exact a.modLine_sigKept ch (fun _ => rfl) (fun _ => rfl)
  · refine F.trans (F.quarRecord (F.count (F.raise (F.trans (F.trans ?_ (hfeed _ _)) (State.feedHold_sigKept _ _ _)) _) _) _ _ _ _ _)
      (F.quarBreach _ _)
    exact a.modLine_sigKept ch (fun _ => rfl) (fun _ => rfl)

theorem State.candidate_sigKept (node : Nat) : State.SigKept a (a.candidate ch node) := by
  have F := State.sigKept_frame
  unfold State.candidate
  refine F.ite (F.refl a) (F.ite (F.count (F.refl a) _) (F.ite (F.quarRecord (F.refl a) _ _ _ _ _) (F.ite ?_ (a.quarStart_sigKept ch _))))
  refine F.quarRecord (F.raise ?_ _) _ _ _ _ _
  exact a.modLine_sigKept ch (fun _ => rfl) (fun _ => rfl)

end

/-! ## What a candidate is judged by -/

theorem State.bit_of_live {a s : State} (h : a.regs.live = s.regs.live) (off i : Nat) : a.bit off i = s.bit off i := by
  unfold State.bit State.live
  rw [h]

section
variable {s : State}

theorem State.elapse_declared (s : State) (dt ch : Nat) : (s.elapse dt).declared ch = s.declared ch := by
  unfold State.declared State.chForeign
  rw [State.elapse_dr]

theorem State.elapse_nodeFeed (s : State) (dt ch node : Nat) : (s.elapse dt).nodeFeed ch node = s.nodeFeed ch node := by
  unfold State.nodeFeed
  rw [State.elapse_declared]

theorem State.elapse_nodeConflict (s : State) (dt ch node : Nat) : (s.elapse dt).nodeConflict ch node = s.nodeConflict ch node := by
  unfold State.nodeConflict
  rw [State.elapse_declared, State.elapse_nodeFeed]

theorem State.elapse_mayQuar (s : State) (dt : Nat) : (s.elapse dt).mayQuar = s.mayQuar := by
  unfold State.mayQuar State.plyMember
  rw [State.elapse_dev, State.elapse_pl, State.elapse_bit]

variable {ch : Nat} {a b : State} (h : State.OneLine ch a b)
include h

theorem State.OneLine.nodeFeed {c node : Nat} : b.nodeFeed c node = a.nodeFeed c node := by rw [h.1]; rfl
theorem State.OneLine.nodeConflict {c node : Nat} : b.nodeConflict c node = a.nodeConflict c node := by rw [h.1]; rfl
theorem State.OneLine.mayQuar : b.mayQuar = a.mayQuar := by rw [h.1]; rfl

theorem State.OneLine.sameRequests (hs : ∀ k, a.line k = s.line k) (hq : (b.line ch).quars = (s.line ch).quars)
    (hr : (b.line ch).reqs = (s.line ch).reqs) (k : Nat) :
    (b.line k).quars = (s.line k).quars ∧ (b.line k).reqs = (s.line k).reqs := by
  by_cases hk : k = ch
  · rw [hk]
    exact ⟨hq, hr⟩
  · rw [h.2 k hk, hs]
    exact ⟨rfl, rfl⟩

omit h in
theorem State.inQuar_congr (h : ∀ k, (a.line k).quars = (b.line k).quars) (feed : Nat) : a.inQuar feed = b.inQuar feed := by
  unfold State.inQuar
  simp only [h]

omit h in
theorem State.reqFor_congr (h : ∀ k, (a.line k).reqs = (b.line k).reqs) (feed : Nat) : a.reqFor feed = b.reqFor feed := by
  unfold State.reqFor
  simp only [h]

end

/-! ## An attribution -/

section
variable {s : State} {k : Account} {b : State}

theorem State.Hears.lineRecord (h : s.Hears k b.rep) (r : LineRec) : s.Hears k (b.lineRecord r).rep :=
  have hd := State.drOnly_frame.toFrame.lineRecord (State.drOnly_frame.refl b) r
  h.mono hd.2.1 hd.2.2

end

section
variable (s : State) (ch node : Nat) (turn : BitVec 48)

/-- The turns charged to a node with this one (R205). -/
def State.charges : List Nat :=
  ((Tbl.lookD (s.line ch).sig node {}).blames ++ [turn.toNat]).filter
    (fun t => decide (t + s.fld (lwBase ch + 0x10) 16 16 > turn.toNat))

/-- The line watch of a channel with its node charged. -/
def State.charged : State := s.modLine ch (fun v => { v with
  sig := Tbl.put v.sig node {} { Tbl.lookD v.sig node {} with blames := s.charges ch node turn } })

/-- The request that a candidate makes (R206). -/
def State.requestFor : QuarReq :=
  { feed := s.nodeFeed ch node, action := s.bit (lwBase ch + 0x14) 2, offMs := s.fld (lwBase ch + 0x14) 3 13
    left := s.fld (lwBase ch + 0x14) 16 16, node := node }

theorem State.blame_eq : s.blame ch node turn =
    if (s.charges ch node turn).length ≥ s.fld (lwBase ch + 0x10) 0 4 then (s.charged ch node turn).candidate ch node
    else s.charged ch node turn := rfl

theorem State.charged_oneLine : State.OneLine ch s (s.charged ch node turn) := s.setLine_oneLine ch _

theorem State.blame_kept : State.SigKept (s.charged ch node turn) (s.blame ch node turn) := by
  rw [State.blame_eq]
  exact State.sigKept_frame.ite (State.candidate_sigKept _ _ _) (State.sigKept_frame.refl _)

/-- A candidate under policy REQUEST whose feed drives and is in no quarantine. -/
theorem State.candidate_requests (hfeed : s.nodeFeed ch node < 8) (hon : s.bit 0x60004 (s.nodeFeed ch node) = true)
    (hconf : s.nodeConflict ch node = false) (hpol : s.fld (lwBase ch + 0x14) 0 2 = 1) (hmay : s.mayQuar = true)
    (hquar : s.inQuar (s.nodeFeed ch node) = false) (hreq : s.reqFor (s.nodeFeed ch node) = none)
    (hgate : (s.feed (s.nodeFeed ch node)).st.gateOn = true) : s.candidate ch node =
    ((s.modLine ch (fun v => { v with reqs := v.reqs ++ [s.requestFor ch node] })).raise 0x1C4).quarRecord ch 1
      (s.nodeFeed ch node) (s.bit (lwBase ch + 0x14) 2) node := by
  unfold State.candidate
  simp only [hon, hconf, hpol, hmay, hquar, hreq, hgate, Nat.not_le.2 hfeed, Bool.true_eq_false, Bool.false_eq_true, or_self, if_false,
    Option.isSome_none, Nat.one_ne_zero, if_true]
  rfl

end

section
variable (s : State) (ch : Nat) (arb : Option BitSpan) (bits : List BitSpan) (b : Blame) (rest : List Blame)

/-- The verdict on a capture. -/
def State.verdict : Verdict6 := (s.line ch).verdict (flagBits arb bits) (b.measured arb bits)

/-- The LINE_RECORD of an attribution (Table 6.6). -/
def State.attribution : LineRec :=
  let x := b.measured arb bits
  let o := s.verdict ch arb bits b
  { kind := 2, ch := ch, node := o.node, conf := o.conf, reason := o.reason, key := b.key.getD 0xFFFFFFFF, time := b.time, turn := b.turn
    levels := shownLevels x none, expNode := b.expect, second := o.second, dBest := distShown o.dBest, dSecond := distShown o.dSecond
    capture := b.cap }

/-- An attribution before anything is charged. -/
def State.recorded : State :=
  (((s.modLine ch (fun v => { v with blames := rest })).count (64 * ch + 29)).lineRecord (s.attribution ch arb bits b)).raise 0x1C0

variable {s ch b rest} in
theorem State.attributed_eq (h : (s.line ch).blames = b :: rest) : s.attributed ch arb bits =
    let o := s.verdict ch arb bits b
    let s2 := s.recorded ch arb bits b rest
    if decide (o.reason ≤ 1) && decide (o.conf ≥ s2.fld (lwBase ch + 0x10) 4 7) then s2.blame ch o.node b.turn else s2 := by
  unfold State.attributed
  rw [h]
  rfl

theorem State.recorded_repOnly : State.RepOnly (s.modLine ch (fun v => { v with blames := rest })) (s.recorded ch arb bits b rest) :=
  (((State.RepOnly.refl _).count _).notifyBoth _ _).raise _

theorem State.recorded_oneLine : State.OneLine ch s (s.recorded ch arb bits b rest) :=
  (s.setLine_oneLine ch _).trans ((s.recorded_repOnly ch arb bits b rest).oneLine ch)

theorem State.recorded_line : (s.recorded ch arb bits b rest).line ch = { s.line ch with blames := rest } :=
  ((s.recorded_repOnly ch arb bits b rest).line ch).trans (s.setLine_line_self ch _)

end

section
variable {s : State} {dt : Nat} (hs : s.ready)
include hs

theorem answers_attribution (ch : Fin 16) (arb : Option BitSpan) (bits : List BitSpan) {b : Blame} {rest : List Blame}
    (hb : (s.line ch.val).blames = b :: rest) :
    let v := s.line ch.val
    let o := s.verdict ch.val arb bits b
    let bab := s.live (lwBase ch.val + 0x10)
    let charged := ((Tbl.lookD v.sig o.node {}).blames ++ [b.turn.toNat]).filter
      (fun k => decide (k + fieldOf bab 16 16 > b.turn.toNat))
    let feed := s.nodeFeed ch.val o.node
    Answers (.attribution dt ch arb bits) s (fun t =>
      (t.line ch.val).blames = rest ∧ s.raises t 0x1C0 ∧ s.counts t (64 * ch.val + 29) 1 ∧ t.regs.live = s.regs.live ∧
      (1 < o.reason ∨ o.conf < fieldOf bab 4 7 →
        s.onlyLine t dt ch.val ∧ t.line ch.val = { v with blames := rest }) ∧
      (o.reason ≤ 1 ∧ fieldOf bab 4 7 ≤ o.conf → (Tbl.lookD (t.line ch.val).sig o.node {}).blames = charged) ∧
      (o.reason ≤ 1 ∧ fieldOf bab 4 7 ≤ o.conf ∧ fieldOf bab 0 4 ≤ charged.length → feed < 8 → s.bit 0x60004 feed = true →
        s.nodeConflict ch.val o.node = false → s.fld (lwBase ch.val + 0x14) 0 2 = 1 → s.mayQuar = true →
        s.inQuar feed = false → s.reqFor feed = none → (s.feed feed).st.gateOn = true →
        s.raises t 0x1C4 ∧ s.onlyLine t dt ch.val ∧ ∃ r, (t.line ch.val).reqs = v.reqs ++ [r] ∧ r.feed = feed ∧ r.node = o.node ∧
          r.left = s.fld (lwBase ch.val + 0x14) 16 16 ∧ r.action = s.bit (lwBase ch.val + 0x14) 2)) := by
  intro v o bab charged feed
  obtain ⟨u, hu⟩ : ∃ u, s.elapse dt = u := ⟨_, rfl⟩
  have hline : u.line ch.val = v := hu ▸ s.elapse_line ch.val dt
  have hulive : u.regs.live = s.regs.live := hu ▸ s.elapse_live dt
  have hver : u.verdict ch.val arb bits b = o := by
    unfold State.verdict
    rw [hline]
    rfl
  have hatt := State.attributed_eq (s := u) arb bits (by rw [hline]; exact hb)
  have hone := u.recorded_oneLine ch.val arb bits b rest
  have hxl := (u.recorded_line ch.val arb bits b rest).trans (by rw [hline])
  have hx : s.Hears { srcs := [0x1C0], cts := [(64 * ch.val + 29, 1)] } (u.recorded ch.val arb bits b rest).rep := by
    have h0 : s.Hears {} (u.modLine ch.val (fun v => { v with blames := rest })).rep := hu ▸ State.Hears.start hs dt
    exact ((h0.count (64 * ch.val + 29)).lineRecord _).raise 0x1C0 hulive
  obtain ⟨x, hxe⟩ : ∃ x, u.recorded ch.val arb bits b rest = x := ⟨_, rfl⟩
  rw [hver, hxe] at hatt
  rw [hxe] at hone hxl hx
  have hxlive : x.regs.live = s.regs.live := hone.live.trans hulive
  simp only [State.fld_of_live hxlive] at hatt
  have hc : exec (.attribution dt ch arb bits) s = s.at_ dt (fun u => u.attributed ch.val arb bits) := rfl
  by_cases hcharge : o.reason ≤ 1 ∧ fieldOf bab 4 7 ≤ o.conf
  · have hg : u.attributed ch.val arb bits = x.blame ch.val o.node b.turn :=
      hatt.trans (if_pos (by rw [decide_eq_true hcharge.1, Bool.true_and]; exact decide_eq_true hcharge.2))
    obtain ⟨y, hy⟩ : ∃ y, x.charged ch.val o.node b.turn = y := ⟨_, rfl⟩
    have hkept := x.blame_kept ch.val o.node b.turn
    have hyline : y.line ch.val = { v with
        blames := rest, sig := Tbl.put v.sig o.node {} { Tbl.lookD v.sig o.node {} with blames := charged } } := by
      refine (congrArg (fun z => z.line ch.val) hy.symm).trans ((x.setLine_line_self ch.val _).trans ?_)
      unfold State.charges
      rw [hxl, State.fld_of_live hxlive]
      rfl
    have hyone : State.OneLine ch.val u y := hone.trans (hy ▸ x.charged_oneLine ch.val o.node b.turn)
    have hylive : y.regs.live = s.regs.live := hyone.live.trans hulive
    have hlen : (x.charges ch.val o.node b.turn) = charged := by
      unfold State.charges
      rw [hxl, State.fld_of_live hxlive]
      rfl
    have hyrep : y.rep = x.rep := hy ▸ rfl
    have hblame := x.blame_eq ch.val o.node b.turn
    rw [hy, hlen, State.fld_of_live hxlive] at hblame
    rw [hy] at hkept
    obtain ⟨z, hz⟩ : ∃ z, x.blame ch.val o.node b.turn = z := ⟨_, rfl⟩
    rw [hz] at hkept hg hblame
    have hno : ¬(1 < o.reason ∨ o.conf < fieldOf bab 4 7) := by omega
    have hbl : (z.line ch.val).blames = rest := (hkept.blames ch.val).trans (congrArg LineCh.blames hyline)
    have hsig : (Tbl.lookD (z.line ch.val).sig o.node {}).blames = charged := by
      rw [hkept.sig, hyline, Tbl.lookD_put_self]
    have hzlive : z.regs.live = s.regs.live := (congrArg (fun a => a.regs.live) hkept.rest).trans hylive
    have hzh := hx.mono (r' := z.rep) (hyrep ▸ hkept.grows) (hkept.whOld.trans (congrArg Rep.whOld hyrep))
    by_cases hreq : fieldOf bab 0 4 ≤ charged.length ∧ feed < 8 ∧ s.bit 0x60004 feed = true ∧ s.nodeConflict ch.val o.node = false ∧
        s.fld (lwBase ch.val + 0x14) 0 2 = 1 ∧ s.mayQuar = true ∧ s.inQuar feed = false ∧ s.reqFor feed = none ∧
        (s.feed feed).st.gateOn = true
    · obtain ⟨hn, hf, hon, hconf, hpol, hmay, hquar, hpend, hgate⟩ := hreq
      have hquars : ∀ k, (y.line k).quars = (s.line k).quars ∧ (y.line k).reqs = (s.line k).reqs :=
        hyone.sameRequests (fun k => hu ▸ s.elapse_line k dt) (by rw [hyline]) (by rw [hyline])
      have hyfeed : y.nodeFeed ch.val o.node = feed := hyone.nodeFeed.trans (hu ▸ State.elapse_nodeFeed s dt ch.val o.node)
      have hyfld : ∀ lo w, y.fld (lwBase ch.val + 0x14) lo w = s.fld (lwBase ch.val + 0x14) lo w := State.fld_of_live hylive _
      have hybit : ∀ off i, y.bit off i = s.bit off i := State.bit_of_live hylive
      have hreqz : z = ((y.modLine ch.val (fun v => { v with reqs := v.reqs ++ [y.requestFor ch.val o.node] })).raise 0x1C4).quarRecord
          ch.val 1 (y.nodeFeed ch.val o.node) (y.bit (lwBase ch.val + 0x14) 2) o.node := by
        refine (hblame.trans (if_pos hn)).trans (State.candidate_requests y ch.val o.node (by rwa [hyfeed]) (by rwa [hyfeed, hybit])
          (hyone.nodeConflict.trans ((hu ▸ State.elapse_nodeConflict s dt ch.val o.node).trans hconf)) (by rwa [hyfld])
          (hyone.mayQuar.trans ((hu ▸ State.elapse_mayQuar s dt).trans hmay)) ?_ ?_ ?_)
        · rw [hyfeed]
          exact (State.inQuar_congr (fun k => (hquars k).1) feed).trans hquar
        · rw [hyfeed]
          exact (State.reqFor_congr (fun k => (hquars k).2) feed).trans hpend
        · rw [hyfeed, hyone.feed, ← hu, State.elapse_feed]
          exact hgate
      have hzrep : State.RepOnly (y.modLine ch.val (fun v => { v with reqs := v.reqs ++ [y.requestFor ch.val o.node] })) z := by
        rw [hreqz]
        exact ((State.RepOnly.refl _).raise _).notifyBoth _ _
      have hzone : State.OneLine ch.val (s.elapse dt) z := hu ▸ (hyone.trans (y.setLine_oneLine ch.val _)).trans (hzrep.oneLine ch.val)
      have hzline : (z.line ch.val).reqs = v.reqs ++ [y.requestFor ch.val o.node] := by
        rw [hzrep.line, State.modLine, State.setLine_line_self, hyline]
      have hyh : s.Hears { srcs := [0x1C0], cts := [(64 * ch.val + 29, 1)] }
          (y.modLine ch.val (fun v => { v with reqs := v.reqs ++ [y.requestFor ch.val o.node] })).rep := hyrep ▸ hx
      have hzh4 : s.Hears { srcs := [0x1C4, 0x1C0], cts := [(64 * ch.val + 29, 1)] } z.rep := by
        rw [hreqz]
        exact (hyh.raise 0x1C4 hylive).lineRecord _
      exact answers_hears hs hc (hu ▸ hg) hzh4 fun r heard => ⟨hbl, heard.raises _ (by simp), heard.counts _ List.mem_cons_self, hzlive,
        fun h => absurd h hno, fun _ => hsig, fun _ _ _ _ _ _ _ _ _ => ⟨heard.raises _ List.mem_cons_self, hzone.only r, _, hzline, hyfeed, rfl,
          hyfld _ _, hybit _ _⟩⟩
    · exact answers_hears hs hc (hu ▸ hg) hzh fun r heard => ⟨hbl, heard.raises _ List.mem_cons_self, heard.counts _ List.mem_cons_self,
        hzlive, fun h => absurd h hno, fun _ => hsig, fun h1 h2 h3 h4 h5 h6 h7 h8 h9 =>
          absurd ⟨h1.2.2, h2, h3, h4, h5, h6, h7, h8, h9⟩ hreq⟩
  · have hg : u.attributed ch.val arb bits = x := hatt.trans (if_neg fun h => hcharge (by rwa [Bool.and_eq_true, decide_eq_true_eq, decide_eq_true_eq] at h))
    refine answers_hears hs hc (hu ▸ hg) hx fun r heard => ⟨?_, heard.raises _ List.mem_cons_self, heard.counts _ List.mem_cons_self, hxlive,
      fun _ => ⟨State.OneLine.only (hu ▸ hone) r, hxl⟩, fun h => absurd h hcharge, fun h => absurd ⟨h.1, h.2.1⟩ hcharge⟩
    exact congrArg LineCh.blames hxl

end

/-- Settles O32: the verdict is the nearest mature signature, and the charge and the request follow from it. -/
theorem attributionsBlameANode : Obligations.AttributionsBlameANode := by
  intro s dt ch arb bits b rest hs hb v x o g bab charged feed
  refine (answers_attribution hs ch arb bits hb).mono fun t ⟨h1, h2, h3, h4, h5, h6, h7⟩ =>
    ⟨h1, h2, h3, h4, fun hr => v.verdict_spec _ x hr, h5, h6, h7⟩

end Sys2Proof.Machine
end

section
/-!
PROOFS. A host capture whose completion finds no room: the LINE_RECORD of the capture takes the last entry of the skein.
-/

namespace Sys2Proof.Machine

/-- Is an entry that leaves the device a completion? -/
def Output.isCompletion : Output → Bool
  | .entry _ _ _ _ _ (.completion _) => true
  | _ => false

namespace LastEntry

/-- A LINE_CAPTURE on channel 0. -/
def desc : Desc := { port := .a, distaff := 0, index := 0, cmpl := true, tag := 0, resv := false }
def body : CaptureBody := { ch := 0, trigger := 0, timeout := 1, key := 0, addr := 0 }
def armed : Armed := { desc := desc, body := body, left := 1, hit := some { time := 0, turn := 0, key := 0 } }

/-- RUN, with skein 0 of port A one entry short of full and nothing reserved in it, LW_NOTIFY sending line records there, and a
host capture armed on channel 0 whose trigger has come. -/
def state : State :=
  { State.reset with
    dev := { st := .run }
    ow := { owner := some .a }
    rep := { ports := [(0, { portEn := true, busMaster := true, sk := [(0, { en := true, st := .running, own := 63 })] })] }
    regs := { State.reset.regs with live := Tbl.put State.reset.regs.live 0x60000 (resetAt 0x60000) 0x80 }
    lw := [(0, { armed := some armed })] }

theorem state_ready : state.ready := by decide +kernel

theorem canComplete : state.canComplete desc := by decide +kernel

theorem freeCap : (state.line 0).freeCap = some 0 := by decide +kernel

/-- No completion leaves the device: the skein is full when it would be written. -/
theorem no_completion : (match exec (.lineCaptureTrigger 0 0 []) state with | .next t => t.rep.out.any Output.isCompletion | _ => true) = false := by
  decide +kernel

end LastEntry

/-- Refutes O34: a capture's LINE_RECORD, in a skein that holds no reservation for the capture's completion, fills the skein, and the
completion waits. -/
theorem not_quarantinesAndHostCaptures : ¬ Obligations.QuarantinesAndHostCaptures := by
  intro h
  obtain ⟨-, -, -, h⟩ := h LastEntry.state 0 0 LastEntry.state_ready
  obtain ⟨h, -, -⟩ := h LastEntry.armed rfl
  obtain ⟨h, -⟩ := h [] _ rfl
  obtain ⟨t, ht, -, -, -, -, -, -, hc⟩ := h 0 LastEntry.freeCap
  obtain ⟨i, x, hout⟩ := hc LastEntry.canComplete rfl
  have hno := LastEntry.no_completion
  rw [ht] at hno
  obtain ⟨l, hl, hmem⟩ := hout
  have hyes : t.rep.out.any Output.isCompletion = true := List.any_eq_true.2 ⟨_, by rw [hl]; exact List.mem_append_right _ hmem, rfl⟩
  exact Bool.false_ne_true (hno.symm.trans hyes)

end Sys2Proof.Machine
end

section
/-!
PROOFS. Supplies, RST_N and the way out of RESET.
-/

namespace Sys2Proof.Machine

/-- What a reset leaves (R564 to R567), from the state s whose queue, fuses and outputs it keeps. -/
def State.keptBy (s t : State) (st : DevState) (cause : Nat) : Prop :=
  t.dev.st = st ∧ t.dev.cause = cause ∧ t.dev.phase = 0 ∧ t.now = 0 ∧ t.tm.turn = 0 ∧
  t = { State.reset with
        pending := s.pending, free := s.free + 1, rep := { out := s.rep.out }, rp := { fuses := t.rp.fuses }
        tm := { State.reset.tm with srcActive := t.tm.srcActive }
        dev := {
          st := st, cause := cause, supplies := t.dev.supplies, rstN := t.dev.rstN, plyId := t.dev.plyId, pos := t.dev.pos
          ownPrio := t.dev.ownPrio, tap := t.dev.tap } } ∧
  (s.rp.burn = none → t.rp.fuses = s.rp.fuses) ∧
  ∀ b, s.rp.burn = some b → t.rp.fuses = s.rp.fuses ∨ t.rp.fuses = Tbl.ins s.rp.fuses b.entry (false, b.data)

theorem State.cutBurn_none {s : State} (h : s.rp.burn = none) : s.cutBurn = s.rp.fuses := by
  unfold State.cutBurn
  rw [h]

theorem State.cutBurn_some {s : State} {b : Burn} (h : s.rp.burn = some b) :
    s.cutBurn = s.rp.fuses ∨ s.cutBurn = Tbl.ins s.rp.fuses b.entry (false, b.data) := by
  unfold State.cutBurn
  rw [h]
  by_cases hf : Config.freeNat s.free % 2 = 1
  · exact .inr (if_pos hf)
  · exact .inl (if_neg hf)

/-- A state that is wiped, with other straps and another source in use. -/
theorem State.keptBy_wiped {s u : State} {st : DevState} {cause : Nat} {x : DevSt} {src : BitVec 2}
    (hp : u.pending = s.pending) (hf : u.free = s.free) (ho : u.rep.out = s.rep.out) (hr : u.rp = s.rp)
    (hx : x = {
      st := st, cause := cause, supplies := x.supplies, rstN := x.rstN, plyId := x.plyId, pos := x.pos
      ownPrio := x.ownPrio, tap := x.tap }) :
    s.keptBy { u.wiped st cause with dev := x, tm := { State.reset.tm with srcActive := src } } st cause := by
  have hcut : u.cutBurn = s.cutBurn := by
    unfold State.cutBurn
    rw [hr, hf]
  refine ⟨by rw [hx], by rw [hx], by rw [hx], rfl, rfl, ?_, fun h => hcut.trans (State.cutBurn_none h),
    fun b h => (State.cutBurn_some h).imp hcut.trans hcut.trans⟩
  unfold State.wiped
  rw [hp, hf, ho]
  exact congrArg (fun y => ({ State.reset with
    pending := s.pending, free := s.free + 1, rep := { out := s.rep.out }, rp := { fuses := u.cutBurn }
    tm := { State.reset.tm with srcActive := src }, dev := y } : State)) hx

/-- The state in which a command of the supplies or of RST_N acts. -/
def State.actsIn (s : State) (dt : Nat) : State := if s.up then s.elapse dt else s

section
variable {s : State} {dt : Nat} (hs : s.up = true → s.steady)

theorem State.actsIn_dev : (s.actsIn dt).dev = s.dev := by
  unfold State.actsIn
  split
  · exact s.elapse_dev dt
  · rfl

theorem State.actsIn_up : (s.actsIn dt).up = s.up := by
  unfold State.up
  rw [State.actsIn_dev]

theorem State.actsIn_down (h : s.up = false) : s.actsIn dt = s := if_neg (by rw [h]; decide)

theorem State.down_of_off (h : s.dev.st = .off) : s.up = false := by
  unfold State.up
  rw [h]
  decide

theorem State.down_of_reset (h : s.dev.st = .reset) : s.up = false := by
  unfold State.up
  rw [h]
  decide

include hs in
theorem State.keptBy_at {st : DevState} {cause : Nat} {x : DevSt} {src : BitVec 2} {v : State}
    (hv : v = { (s.actsIn dt) with dev := v.dev })
    (hx : x = {
      st := st, cause := cause, supplies := x.supplies, rstN := x.rstN, plyId := x.plyId, pos := x.pos
      ownPrio := x.ownPrio, tap := x.tap }) :
    s.keptBy { v.wiped st cause with dev := x, tm := { State.reset.tm with srcActive := src } } st cause := by
  have hat : (s.actsIn dt).pending = s.pending ∧ (s.actsIn dt).free = s.free ∧ (s.actsIn dt).rep.out = s.rep.out ∧ (s.actsIn dt).rp = s.rp := by
    unfold State.actsIn
    split
    · next h => exact ⟨s.elapse_pending dt, s.elapse_free dt, congrArg Rep.out (State.elapse_rep (hs h) dt), s.elapse_rp dt⟩
    · exact ⟨rfl, rfl, rfl, rfl⟩
  obtain ⟨h1, h2, h3, h4⟩ := hat
  rw [hv]
  exact State.keptBy_wiped h1 h2 h3 h4 hx

include hs in
/-- A reset leaves a state that is wiped, with the straps and the TAP that it had. -/
theorem State.keptBy_wiped_at {st : DevState} {cause : Nat} {v : State} (hv : v = { (s.actsIn dt) with dev := v.dev }) :
    s.keptBy (v.wiped st cause) st cause :=
  State.keptBy_at (src := 0) hs hv rfl

include hs in
theorem answers_supplyLoss (n : Fin 7) : let left := supplyBits s.dev.supplies n.val false
    (s.dev.st ≠ .off → left = 0 →
      Answers (.supplyLoss dt n) s (fun t => s.keptBy t .off s.dev.cause ∧ t.dev.supplies = 0 ∧ t.dev.tap = .idcode)) ∧
    (s.up = true → left ≠ 0 →
      Answers (.supplyLoss dt n) s (fun t => s.keptBy t .reset 2 ∧ t.dev.supplies = left ∧ t.dev.tap = s.dev.tap)) ∧
    (s.dev.st = .off ∨ (s.dev.st = .reset ∧ left ≠ 0) →
      Answers (.supplyLoss dt n) s (fun t => t = { s with dev := { s.dev with supplies := left } })) := by
  intro left
  have hc : exec (.supplyLoss dt n) s = .next ((s.actsIn dt).supplyDown n.val) := rfl
  obtain ⟨v, hv⟩ : ∃ v : State, { (s.actsIn dt) with dev := { (s.actsIn dt).dev with supplies := supplyBits (s.actsIn dt).dev.supplies n.val false } } = v :=
    ⟨_, rfl⟩
  have hdown : (s.actsIn dt).supplyDown n.val = if (s.actsIn dt).dev.st = .off then v else if v.dev.supplies = 0 then v.wiped .off (s.actsIn dt).dev.cause
      else if (s.actsIn dt).up then v.wiped .reset 2 else v := by
    rw [← hv]
    rfl
  have hsup : v.dev.supplies = left := by
    rw [← hv]
    exact congrArg (fun x : DevSt => supplyBits x.supplies n.val false) (State.actsIn_dev (s := s) (dt := dt))
  have htap : v.dev.tap = s.dev.tap := by
    rw [← hv]
    exact (congrArg DevSt.tap (State.actsIn_dev (s := s) (dt := dt)) :)
  have hrest : v = { (s.actsIn dt) with dev := v.dev } := by rw [← hv]
  rw [State.actsIn_dev, State.actsIn_up, hsup] at hdown
  refine ⟨fun hoff hleft => ⟨_, hc, ?_⟩, fun hup hleft => ⟨_, hc, ?_⟩, fun h => ⟨_, hc, ?_⟩⟩
  · rw [hdown, if_neg hoff, if_pos hleft]
    exact ⟨State.keptBy_wiped_at hs hrest, hsup.trans hleft, rfl⟩
  · have hoff : s.dev.st ≠ .off := fun h => Bool.false_ne_true ((State.down_of_off h).symm.trans hup)
    rw [hdown, if_neg hoff, if_neg hleft, if_pos hup]
    exact ⟨State.keptBy_wiped_at hs hrest, hsup, htap⟩
  · have hno : s.up = false := h.elim State.down_of_off fun h => State.down_of_reset h.1
    have hstay : (s.actsIn dt).supplyDown n.val = v := by
      rw [hdown]
      rcases h with h | ⟨h, hleft⟩
      · exact if_pos h
      · rw [if_neg (by rw [h]; decide), if_neg hleft, if_neg (by rw [hno]; decide)]
    rw [hstay, ← hv, State.actsIn_down hno]

include hs in
theorem answers_supplyPresent (n : Fin 7) :
    (s.dev.st = .off →
      Answers (.supplyPresent dt n) s (fun t => s.keptBy t .reset 0 ∧ t.dev.supplies = supplyBits s.dev.supplies n.val true)) ∧
    (s.dev.st = .reset →
      Answers (.supplyPresent dt n) s (fun t => t = { s with dev := { s.dev with supplies := supplyBits s.dev.supplies n.val true } })) := by
  have hc : exec (.supplyPresent dt n) s = .next ((s.actsIn dt).supplyUp n.val) := rfl
  refine ⟨fun h => ⟨_, hc, ?_⟩, fun h => ⟨_, hc, ?_⟩⟩
  · have hat : s.actsIn dt = s := State.actsIn_down (State.down_of_off h)
    rw [hat, show s.supplyUp n.val = _ from if_pos h]
    exact ⟨State.keptBy_wiped_at (dt := dt) hs (by rw [hat]), rfl⟩
  · rw [State.actsIn_down (State.down_of_reset h), show s.supplyUp n.val = _ from if_neg (by rw [h]; decide)]

include hs in
theorem answers_resetAssert :
    (s.up = true →
      Answers (.resetAssert dt) s (fun t =>
        s.keptBy t .reset 1 ∧ t.dev.rstN = false ∧ t.dev.supplies = s.dev.supplies ∧ t.dev.plyId = s.dev.plyId ∧
        t.dev.pos = s.dev.pos ∧ t.dev.ownPrio = s.dev.ownPrio ∧ t.dev.tap = s.dev.tap)) ∧
    (s.up = false → Answers (.resetAssert dt) s (fun t => t = { s with dev := { s.dev with rstN := false } })) := by
  have hc : exec (.resetAssert dt) s = .next ((s.actsIn dt).resetPin) := rfl
  refine ⟨fun h => ⟨_, hc, ?_⟩, fun h => ⟨_, hc, ?_⟩⟩
  · obtain ⟨v, hv⟩ : ∃ v : State, { (s.actsIn dt) with dev := { (s.actsIn dt).dev with rstN := false } } = v := ⟨_, rfl⟩
    have hpin : (s.actsIn dt).resetPin = v.wiped .reset 1 := by
      rw [← hv]
      exact if_pos (State.actsIn_up.trans h)
    have hdev : v.dev = { s.dev with rstN := false } := by
      rw [← hv]
      exact congrArg (fun x : DevSt => ({ x with rstN := false } : DevSt)) (State.actsIn_dev (s := s) (dt := dt))
    rw [hpin]
    refine ⟨State.keptBy_wiped_at (dt := dt) hs (by rw [← hv]), ?_⟩
    show v.dev.rstN = _ ∧ v.dev.supplies = _ ∧ v.dev.plyId = _ ∧ v.dev.pos = _ ∧ v.dev.ownPrio = _ ∧ v.dev.tap = _
    rw [hdev]
    exact ⟨rfl, rfl, rfl, rfl, rfl, rfl⟩
  · rw [State.actsIn_down h, show s.resetPin = _ from if_neg (by rw [h]; decide)]

end

/-! ## Out of RESET (R42, R565) -/

/-- With its registers reset the device corrects nothing and belongs to no ply. -/
theorem State.reset_rate (s : State) (hregs : s.regs = State.reset.regs) (hf : s.tm.freqTerm = 0) (hp : s.tm.phaseTerm = 0) :
    s.rateSum = 0 ∧ 0 ≤ s.devMax ∧ s.plyMember = false ∧ s.tsrc = 0 := by
  have hfld : ∀ off lo w, s.fld off lo w = State.reset.fld off lo w := fun off lo w => by
    unfold State.fld State.live
    rw [hregs]
  refine ⟨?_, ?_, ?_, ?_⟩
  · unfold State.rateSum
    rw [hfld, hf, hp, show signedOf 20 (State.reset.fld 0x10014 0 20) = 0 by decide +kernel]
    simp
  · unfold State.devMax
    positivity
  · unfold State.plyMember State.bit State.live
    rw [hregs, show bitOf (Tbl.lookD State.reset.regs.live 0xB0000 (resetAt 0xB0000)) 0 = false by decide +kernel]
    rfl
  · unfold State.tsrc
    rw [hfld]
    decide +kernel

theorem State.refreshSource_eq (s : State) {b : Bool} (h : s.follows = b) :
    s.refreshSource = ({ s with
      tm := { s.tm with
        srcActive := BitVec.ofNat 2 (if b then 3 else s.tsrc)
        plyFollow := s.plyMember && decide (s.pl.role ≠ .acting)
        acceptedAt := if s.tm.srcActive.toNat = (if b then 3 else s.tsrc) then s.tm.acceptedAt else s.clock
        holdover := s.tm.holdover && decide ((if b then 3 else s.tsrc) ≠ 0)
        holdTurns := if (if b then 3 else s.tsrc) = 0 then 0 else s.tm.holdTurns } } : State).refreshLimit := by
  unfold State.refreshSource
  rw [h]

/-- A state just wiped follows nobody but over the cascade. -/
theorem State.wiped_refreshSource (s : State) (cause : Nat) (x : DevSt) :
    ({ s.wiped .selfTest cause with dev := x } : State).refreshSource =
      { s.wiped .selfTest cause with
        dev := x, tm := { State.reset.tm with srcActive := if x.pos ≠ 0 then 3 else 0 } } := by
  obtain ⟨-, -, hply, htsrc⟩ := State.reset_rate { s.wiped .selfTest cause with dev := x } rfl rfl rfl
  have hlimit : ∀ tm : TurnSt, tm.freqTerm = 0 → tm.phaseTerm = 0 → tm.devLimit = false →
      ({ s.wiped .selfTest cause with dev := x, tm := tm } : State).refreshLimit = { s.wiped .selfTest cause with dev := x, tm := tm } := by
    intro tm hf hp hl
    obtain ⟨h1, h2, -, -⟩ := State.reset_rate { s.wiped .selfTest cause with dev := x, tm := tm } rfl hf hp
    have hno : (decide (({ s.wiped .selfTest cause with dev := x, tm := tm } : State).rateSum >
          ({ s.wiped .selfTest cause with dev := x, tm := tm } : State).devMax) ||
        decide (({ s.wiped .selfTest cause with dev := x, tm := tm } : State).rateSum <
          -({ s.wiped .selfTest cause with dev := x, tm := tm } : State).devMax)) = false := by
      rw [h1, decide_eq_false (not_lt.2 h2), decide_eq_false (not_lt.2 (neg_nonpos.2 h2))]
      rfl
    unfold State.refreshLimit
    rw [hno]
    simp only [Bool.false_and, Bool.false_eq_true, if_false]
    rw [← hl]
  by_cases hpos : x.pos = 0
  · rw [if_neg (not_not.2 hpos), State.refreshSource_eq _ (b := false) (by unfold State.follows; rw [hply]; exact decide_eq_false (not_not.2 hpos)),
      hply, htsrc]
    exact hlimit { State.reset.tm with srcActive := 0 } rfl rfl rfl
  · rw [if_pos hpos, State.refreshSource_eq _ (b := true) (by unfold State.follows; rw [hply]; exact decide_eq_true hpos), hply]
    exact hlimit { State.reset.tm with srcActive := 3 } rfl rfl rfl

theorem answers_leaveReset {s : State} {dt : Nat} (id : Fin 4) (pos : Fin 32) (prio : Bool) :
    (s.dev.st = .reset → s.dev.supplies = 127 →
      Answers (.leaveReset dt id pos prio) s (fun t =>
        s.keptBy t .selfTest s.dev.cause ∧ t.tm.srcActive = (if pos.val ≠ 0 then 3 else 0) ∧ t.dev.rstN = true ∧
        t.dev.plyId = id.val ∧ t.dev.pos = pos.val ∧ t.dev.ownPrio = prio)) ∧
    (s.dev.st ≠ .reset ∨ s.dev.supplies ≠ 127 → Answers (.leaveReset dt id pos prio) s (fun t => t = s)) := by
  have hc : exec (.leaveReset dt id pos prio) s = .next (s.leaveReset id pos prio) := rfl
  refine ⟨fun hst hsup => ⟨_, hc, ?_⟩, fun h => ⟨_, hc, ?_⟩⟩
  · rw [show s.leaveReset id pos prio = _ from if_pos (by rw [hst, hsup]; decide), State.wiped_refreshSource]
    exact ⟨State.keptBy_wiped rfl rfl rfl rfl rfl, rfl, rfl, rfl, rfl, rfl⟩
  · refine if_neg fun hb => ?_
    rw [Bool.and_eq_true, decide_eq_true_eq, decide_eq_true_eq] at hb
    exact h.elim (fun h => h hb.1) fun h => h hb.2

/-- Settles O59: each way into RESET or OFF ends in a state that is wiped, and the way out takes the straps. -/
theorem resetsReturnTheMachine : Obligations.ResetsReturnTheMachine := by
  intro s dt hs kept
  refine ⟨fun n => ?_, answers_resetAssert hs |>.1, answers_resetAssert hs |>.2, answers_leaveReset⟩
  obtain ⟨h1, h2, h3⟩ := answers_supplyLoss (dt := dt) hs n
  obtain ⟨h4, h5⟩ := answers_supplyPresent (dt := dt) hs n
  exact ⟨h1, h2, h3, h4, h5⟩

end Sys2Proof.Machine
end

section
/-!
PROOFS. The power-up test and the mapping of spindles and lanes.
-/

namespace Sys2Proof.Machine

/-- A spindle and the spindle that serves a channel of the same number. -/
def State.seat (s : State) (n : Nat) : Spindle × Nat := (s.spindle n, s.spOf n)

section
variable (s : State)

theorem State.setSpindle_self (n : Nat) (v : Spindle) : (s.setSpindle n v).spindle n = v := Tbl.lookD_put_self _ _ _ _
theorem State.setSpindle_ne {n k : Nat} (v : Spindle) (h : k ≠ n) : (s.setSpindle n v).spindle k = s.spindle k :=
  Tbl.lookD_put_ne _ _ _ _ h

/-! ## The test of a device without faults -/

/-- The marks of an earlier self-check are gone (R521). -/
def State.unmarked : State :=
  (List.range 18).foldl (fun (b : State) n => b.setSpindle n { b.spindle n with selfOk := true })
    { s with tw := { s.tw with lanes := [0, 1, 2, 3, 4], spare := none } }

theorem State.unmarked_spec : s.unmarked = { s with tw := { s.tw with lanes := [0, 1, 2, 3, 4], spare := none }, sps := s.unmarked.sps } ∧
    ∀ n, (s.unmarked.spindle n).role = (s.spindle n).role := by
  obtain ⟨h1, h2, h3⟩ := foldl_units (get := State.spindle) (f := fun (b : State) n => b.setSpindle n { b.spindle n with selfOk := true })
    (I := fun b => b = { s with tw := { s.tw with lanes := [0, 1, 2, 3, 4], spare := none }, sps := b.sps })
    (Q := fun _ v w => w.role = v.role) (fun b n k hk => b.setSpindle_ne _ hk) (fun b n hb => by rw [hb]; rfl)
    (fun b n _ => by rw [State.setSpindle_self]) (List.range 18) List.nodup_range
    { s with tw := { s.tw with lanes := [0, 1, 2, 3, 4], spare := none } } rfl
  refine ⟨h3, fun n => ?_⟩
  by_cases hn : n ∈ List.range 18
  · exact h1 n hn
  · exact congrArg Spindle.role (h2 n hn)

/-- Spindle n is seated: it serves channel n, or is a spare. -/
def State.seatOne (n : Nat) : State :=
  let b := s.setSpindle n { s.spindle n with role := if n < 16 then .active else .spare }
  if n < 16 then { b with chSp := Tbl.put b.chSp n n n } else b

theorem State.seatOne_spec (n : Nat) : s.seatOne n = { s with sps := (s.seatOne n).sps, chSp := (s.seatOne n).chSp } ∧
    (∀ k, k ≠ n → (s.seatOne n).seat k = s.seat k) ∧
    ((s.seatOne n).spindle n).role = (if n < 16 then .active else .spare) ∧ (n < 16 → (s.seatOne n).spOf n = n) := by
  unfold State.seatOne
  by_cases hn : n < 16
  · simp only [if_pos hn]
    refine ⟨rfl, fun k hk => Prod.ext ?_ ?_, ?_, fun _ => ?_⟩
    · exact s.setSpindle_ne _ hk
    · exact Tbl.lookD_put_ne _ _ _ _ hk
    · exact congrArg Spindle.role (s.setSpindle_self n _)
    · exact Tbl.lookD_put_self _ _ _ _
  · simp only [if_neg hn]
    exact ⟨rfl, fun k hk => Prod.ext (s.setSpindle_ne _ hk) rfl, congrArg Spindle.role (s.setSpindle_self n _), fun h => absurd h hn⟩

/-- The spindles that may serve. -/
def State.serviceable : List Nat := (List.range 18).filter (fun n => decide ((s.spindle n).role ≠ .retired))

theorem State.serviceable_all (h : ∀ n, n < 18 → (s.spindle n).role ≠ .retired) : s.serviceable = List.range 18 :=
  List.filter_eq_self.2 fun n hn => decide_eq_true (h n (List.mem_range.1 hn))

theorem State.mapSpindles_all (h : ∀ n, n < 18 → (s.spindle n).role ≠ .retired) :
    s.mapSpindles = (List.range 18).foldl State.seatOne s := by
  have hok : (List.range 18).filter (fun n => decide ((s.spindle n).role ≠ .retired)) = List.range 18 := s.serviceable_all h
  unfold State.mapSpindles
  rw [hok]
  simp only [List.length_range]
  refine (if_neg (by decide)).trans (List.foldl_ext _ _ _ fun a n hn => ?_)
  have hget : (List.range 18).getD n 0 = n := by
    rw [List.getD_eq_getElem _ _ (by rw [List.length_range]; exact List.mem_range.1 hn), List.getElem_range]
  simp only [hget]
  rfl

theorem State.mapSpindles_spec (h : ∀ n, n < 18 → (s.spindle n).role ≠ .retired) :
    s.mapSpindles = { s with sps := s.mapSpindles.sps, chSp := s.mapSpindles.chSp } ∧
    (∀ n, n < 18 → (s.mapSpindles.spindle n).role = (if n < 16 then .active else .spare)) ∧ ∀ n, n < 16 → s.mapSpindles.spOf n = n := by
  obtain ⟨h1, -, h3⟩ := foldl_units (get := State.seat) (f := State.seatOne) (I := fun b => b = { s with sps := b.sps, chSp := b.chSp })
    (Q := fun n _ w => w.1.role = (if n < 16 then .active else .spare) ∧ (n < 16 → w.2 = n))
    (fun b n k hk => (b.seatOne_spec n).2.1 k hk) (fun b n hb => (b.seatOne_spec n).1.trans (by rw [hb]))
    (fun b n _ => (b.seatOne_spec n).2.2) (List.range 18) List.nodup_range s rfl
  rw [← s.mapSpindles_all h] at h1 h3
  obtain ⟨t, ht⟩ : ∃ t, s.mapSpindles = t := ⟨_, rfl⟩
  rw [ht] at h1 h3 ⊢
  exact ⟨h3, fun n hn => (h1 n (List.mem_range.2 hn)).1, fun n hn => (h1 n (List.mem_range.2 (by omega))).2 hn⟩

theorem State.unmarked_rp : s.unmarked.rp = s.rp := by rw [s.unmarked_spec.1]

/-- What is left of the test of a device without faults and without fuses: spindles and lanes are seated. -/
theorem State.selfTest_clean (hf : s.rp.fuses = []) :
    s.selfTest { spindles := [], lanes := [], rows := [], cols := [] } =
      let s3 := s.unmarked.mapSpindles.mapLanes
      { s3 with rp := { s3.rp with
        result := if (false || decide (s.unmarked.serviceable.length < 16) || decide (s.unmarked.tw.lanes.length < 4)) = true then 3
          else if s3.rp.soft > 0 then 2 else 1 } } := by
  have hfu : s.unmarked.rp.fuses = [] := by rw [s.unmarked_rp, hf]
  unfold State.selfTest
  simp only [show (List.range 18).foldl (fun (b : State) n => b.setSpindle n { b.spindle n with selfOk := true })
    { s with tw := { s.tw with lanes := [0, 1, 2, 3, 4], spare := none } } = s.unmarked from rfl, hfu, List.foldl_nil, List.map_nil, List.eraseDups_nil, List.filter_nil]
  rfl

theorem State.mapLanes_five (h : s.tw.lanes = [0, 1, 2, 3, 4]) :
    s.mapLanes = { s with tw := { s.tw with lanes := [0, 1, 2, 3], spare := some 4 } } := by
  unfold State.mapLanes
  rw [h]
  rfl

theorem State.selfTest_spec (hf : s.rp.fuses = []) (hsoft : s.rp.soft = 0) (h : ∀ n, n < 18 → (s.spindle n).role ≠ .retired) :
    let t := s.selfTest { spindles := [], lanes := [], rows := [], cols := [] }
    t = { s with sps := t.sps, chSp := t.chSp, tw := { s.tw with lanes := [0, 1, 2, 3], spare := some 4 }, rp := { s.rp with result := 1 } } ∧
    (∀ n, n < 18 → (t.spindle n).role = (if n < 16 then .active else .spare)) ∧ ∀ n, n < 16 → t.spOf n = n := by
  obtain ⟨h1, h2⟩ := s.unmarked_spec
  have hroles : ∀ n, n < 18 → (s.unmarked.spindle n).role ≠ .retired := fun n hn => by rw [h2]; exact h n hn
  obtain ⟨g1, g2, g3⟩ := s.unmarked.mapSpindles_spec hroles
  have hclean := s.selfTest_clean hf
  have hlanes : s.unmarked.tw = { s.tw with lanes := [0, 1, 2, 3, 4], spare := none } := by rw [h1]
  have hrp := s.unmarked_rp
  rw [State.serviceable_all _ hroles, hlanes] at hclean
  obtain ⟨u, hu⟩ : ∃ u, s.unmarked = u := ⟨_, rfl⟩
  obtain ⟨v, hv⟩ : ∃ v, u.mapSpindles = v := ⟨_, rfl⟩
  rw [hu] at h1 g1 hclean hlanes g2 g3 hrp
  rw [hv] at g1 g2 g3 hclean
  have hvl : v.tw = { s.tw with lanes := [0, 1, 2, 3, 4], spare := none } := by rw [g1, ← hlanes]
  have hvr : v.rp = s.rp := by rw [g1, ← hrp]
  rw [State.mapLanes_five v (by rw [hvl])] at hclean
  intro t
  have ht : t = { v with tw := { s.tw with lanes := [0, 1, 2, 3], spare := some 4 }, rp := { s.rp with result := 1 } } := by
    refine hclean.trans ?_
    simp only [hvl, hvr, hsoft]
    rfl
  rw [ht]
  refine ⟨?_, g2, g3⟩
  rw [g1, h1]

/-! ## The test of a device with faults -/

/-- From a to b the device state stays and what is retired stays retired. -/
structure State.Tested (a b : State) : Prop where
  dev : b.dev = a.dev
  retired : ∀ n, (a.spindle n).role = .retired → (b.spindle n).role = .retired

theorem State.tested_frame : Frame State.Tested where
  refl _ := ⟨rfl, fun _ h => h⟩
  trans h g := ⟨g.dev.trans h.dev, fun n hn => g.retired n (h.retired n hn)⟩
  rep _ _ _ _ := ⟨rfl, fun _ h => h⟩

theorem State.Tested.of_sps {a b : State} (hd : b.dev = a.dev) (hs : b.sps = a.sps) : State.Tested a b :=
  ⟨hd, fun n h => by unfold State.spindle at *; rw [hs]; exact h⟩

theorem State.spareOut_tested (k n : Nat) : State.Tested s (s.spareOut k n) := by
  have F := State.tested_frame
  refine F.ite (F.refl s) (F.raise (F.slub ?_ _ _ _ _) _)
  exact .of_sps rfl rfl

theorem State.burnNext_tested : State.Tested s s.burnNext := by
  have F := State.tested_frame
  have hrp : ∀ x, State.Tested s { s with rp := x } := fun _ => .of_sps rfl rfl
  unfold State.burnNext
  simp only
  split
  · exact hrp _
  · exact F.ite (F.ite (hrp _) (F.trans (hrp _) (State.spareOut_tested _ _ _))) (F.refl s)

theorem State.softRepair_tested (w : Word) : State.Tested s (s.softRepair w) := by
  refine State.tested_frame.trans ?_ (State.burnNext_tested _)
  exact .of_sps rfl rfl

theorem State.softSpindle_tested (n : Nat) : State.Tested s (s.softSpindle n) ∧ ((s.softSpindle n).spindle n).role = .retired := by
  have F := State.tested_frame
  unfold State.softSpindle
  by_cases h : (s.spindle n).role = .retired
  · rw [if_pos h]
    exact ⟨F.refl s, h⟩
  · rw [if_neg h]
    obtain ⟨a, ha⟩ : ∃ a, s.setSpindle n { s.spindle n with role := .retired, selfOk := false } = a := ⟨_, rfl⟩
    have hself : (a.spindle n).role = .retired := by rw [← ha, State.setSpindle_self]
    have hset : State.Tested s a := ⟨ha ▸ rfl, fun k hk => by
      by_cases hkn : k = n
      · rw [hkn]
        exact hself
      · rw [← ha, State.setSpindle_ne _ _ hkn]
        exact hk⟩
    have hrep := a.softRepair_tested (fuseWord 1 n 0)
    rw [ha]
    exact ⟨F.trans hset hrep, hrep.retired n hself⟩

theorem State.softLane_tested (n : Nat) : State.Tested s (s.softLane n) := by
  have F := State.tested_frame
  refine F.ite (F.trans ?_ (State.softRepair_tested _ _)) (F.refl s)
  exact .of_sps rfl rfl

theorem State.softRow_tested (a : State × Bool) (row : Nat) : State.Tested a.1 (State.softRow a row).1 := by
  unfold State.softRow
  split
  · refine State.tested_frame.trans ?_ (State.softRepair_tested _ _)
    exact .of_sps rfl rfl
  · exact State.spareOut_tested _ _ _

theorem State.softCol_tested (a : State × Bool) (mc : Nat) : State.Tested a.1 (State.softCol a mc).1 := by
  unfold State.softCol
  split
  · refine State.tested_frame.trans ?_ (State.softRepair_tested _ _)
    exact .of_sps rfl rfl
  · exact State.spareOut_tested _ _ _

theorem foldl_tested {f : State × Bool → Nat → State × Bool} (hf : ∀ a x, State.Tested a.1 (f a x).1) (l : List Nat) (a : State × Bool) :
    State.Tested a.1 (l.foldl f a).1 := by
  induction l generalizing a with
  | nil => exact State.tested_frame.refl _
  | cons x l ih => exact State.tested_frame.trans (hf a x) (ih _)

theorem State.softSpindles_retired (l : List (Fin 18)) (n : Fin 18) (h : n ∈ l) :
    ((l.foldl (fun (b : State) n => b.softSpindle n.val) s).spindle n.val).role = .retired := by
  induction l generalizing s with
  | nil => exact nomatch h
  | cons k l ih =>
    rcases List.mem_cons.1 h with rfl | h
    · have hall := State.tested_frame.foldl (f := fun (b : State) (n : Fin 18) => b.softSpindle n.val)
        (fun b n => (b.softSpindle_tested n.val).1) l (s.softSpindle n.val)
      exact hall.retired _ (s.softSpindle_tested n.val).2
    · exact ih _ h

/-- Three spindles that may not serve leave fewer than 16. -/
theorem State.serviceable_few {a b c : Nat} (ha : a < 18) (hb : b < 18) (hc : c < 18) (hab : a ≠ b) (hbc : b ≠ c) (hac : a ≠ c)
    (ra : (s.spindle a).role = .retired) (rb : (s.spindle b).role = .retired) (rc : (s.spindle c).role = .retired) :
    s.serviceable.length < 16 := by
  have hlen := List.length_eq_length_filter_add (l := List.range 18) (fun n => decide ((s.spindle n).role ≠ .retired))
  have hsub : [a, b, c] ⊆ (List.range 18).filter (fun n => !decide ((s.spindle n).role ≠ .retired)) := by
    intro x hx
    simp only [List.mem_cons, List.not_mem_nil, or_false] at hx
    refine List.mem_filter.2 ⟨List.mem_range.2 ?_, ?_⟩
    · rcases hx with rfl | rfl | rfl <;> assumption
    · rcases hx with rfl | rfl | rfl
      · simp [ra]
      · simp [rb]
      · simp [rc]
  have hthree := (List.subperm_of_subset (by simp [hab, hbc, hac]) hsub).length_le
  rw [List.length_range] at hlen
  unfold State.serviceable
  simp only [List.length_cons, List.length_nil] at hthree
  omega

theorem State.mapSpindles_dev : s.mapSpindles.dev = s.dev := by
  have hset : ∀ (l : List Nat) (f : State → Nat → State), (∀ a i, (f a i).dev = a.dev) → ∀ a : State, (l.foldl f a).dev = a.dev := by
    intro l f hf
    induction l with
    | nil => exact fun _ => rfl
    | cons x l ih => exact fun a => (ih _).trans (hf a x)
  unfold State.mapSpindles
  simp only
  have hall := hset (List.range ((List.range 18).filter (fun n => decide ((s.spindle n).role ≠ .retired))).length)
  split
  · refine (State.spareOut_tested _ 1 18).dev.trans (hall _ (fun a i => ?_) s)
    split <;> rfl
  · refine hall _ (fun a i => ?_) s
    split <;> rfl

theorem State.mapLanes_dev : s.mapLanes.dev = s.dev := by
  unfold State.mapLanes
  simp only
  split
  · exact (State.spareOut_tested _ 4 5).dev
  · rfl

/-- The test with its faulty columns and rows named, once fuses have been applied. -/
def State.tested (cols rows : List Nat) (spindles : List (Fin 18)) (lanes : List (Fin 5)) : State :=
  let a := rows.foldl State.softRow (cols.foldl State.softCol (s, false))
  let s2 := lanes.foldl (fun (b : State) n => b.softLane n.val) (spindles.foldl (fun (b : State) n => b.softSpindle n.val) a.1)
  let s3 := s2.mapSpindles.mapLanes
  { s3 with rp := { s3.rp with
    result := if (a.2 || decide (s2.serviceable.length < 16) || decide (s2.tw.lanes.length < 4)) = true then 3
      else if s3.rp.soft > 0 then 2 else 1 } }

/-- A test that finds three spindles faulty fails. -/
theorem State.selfTest_fails (hf : s.rp.fuses = []) (x : SelfTest) {a b c : Fin 18} (ha : a ∈ x.spindles) (hb : b ∈ x.spindles)
    (hc : c ∈ x.spindles) (hab : a ≠ b) (hbc : b ≠ c) (hac : a ≠ c) :
    (s.selfTest x).rp.result = 3 ∧ (s.selfTest x).dev = s.dev := by
  have F := State.tested_frame
  have hfu : s.unmarked.rp.fuses = [] := by rw [s.unmarked_rp, hf]
  obtain ⟨cols, rows, h⟩ : ∃ cols rows : List Nat, s.selfTest x = s.unmarked.tested cols rows x.spindles x.lanes := by
    unfold State.selfTest
    simp only [show (List.range 18).foldl (fun (b : State) n => b.setSpindle n { b.spindle n with selfOk := true })
      { s with tw := { s.tw with lanes := [0, 1, 2, 3, 4], spare := none } } = s.unmarked from rfl, hfu, List.foldl_nil]
    exact ⟨_, _, rfl⟩
  have hdev : s.unmarked.dev = s.dev := by rw [s.unmarked_spec.1]
  rw [h, ← hdev]
  generalize s.unmarked = u
  obtain ⟨v, hv⟩ : ∃ v, (rows.foldl State.softRow (cols.foldl State.softCol (u, false))) = v := ⟨_, rfl⟩
  have huv : State.Tested u v.1 := hv ▸ F.trans (foldl_tested State.softCol_tested cols (u, false)) (foldl_tested State.softRow_tested rows _)
  obtain ⟨w, hw⟩ : ∃ w, x.spindles.foldl (fun (b : State) n => b.softSpindle n.val) v.1 = w := ⟨_, rfl⟩
  have hvw : State.Tested v.1 w := hw ▸ F.foldl (fun b n => (b.softSpindle_tested n.val).1) x.spindles v.1
  obtain ⟨y, hy⟩ : ∃ y, x.lanes.foldl (fun (b : State) n => b.softLane n.val) w = y := ⟨_, rfl⟩
  have hwy : State.Tested w y := hy ▸ F.foldl (fun b n => b.softLane_tested n.val) x.lanes w
  have hret : ∀ n ∈ x.spindles, (y.spindle n.val).role = .retired := fun n hn =>
    hwy.retired _ (hw ▸ State.softSpindles_retired v.1 x.spindles n hn)
  have hfew := y.serviceable_few a.isLt b.isLt c.isLt (Fin.val_ne_of_ne hab) (Fin.val_ne_of_ne hbc) (Fin.val_ne_of_ne hac)
    (hret a ha) (hret b hb) (hret c hc)
  have hydev : y.dev = u.dev := (F.trans (F.trans huv hvw) hwy).dev
  unfold State.tested
  simp only [hv, hw, hy]
  exact ⟨if_pos (by rw [decide_eq_true hfew, Bool.or_true, Bool.true_or]), (State.mapLanes_dev _).trans ((State.mapSpindles_dev _).trans hydev)⟩

/-! ## SET-UP is entered -/

/-- With a blank fuse array the next repair, if there is one, only joins the burn. -/
theorem State.burnNext_blank (hf : s.rp.fuses = []) :
    s.burnNext = { s with rp := s.burnNext.rp } ∧ s.burnNext.rp.result = s.rp.result := by
  unfold State.burnNext
  simp only
  split
  · exact ⟨rfl, rfl⟩
  · split
    · rw [hf, if_pos (by decide)]
      exact ⟨rfl, rfl⟩
    · exact ⟨rfl, rfl⟩

/-- SET-UP is entered, before the next repair is burned. -/
def State.setUpEntered : State :=
  let s1 := s.toState .setUp
  { s1 with dev := { s1.dev with phase := 1 }, ow := { s1.ow with electing := true, electEnd := s1.clock + 2000000 } }

/-- SELF_TEST_COMPLETE, in the state of its instant. -/
def State.selfTestDone (x : SelfTest) : State :=
  if decide (s.dev.st = .selfTest) && decide (s.rp.result = 0) then
    let s1 := s.selfTest x
    if s1.rp.result = 3 then s1 else s1.enterSetUp
  else s

theorem exec_selfTestComplete (dt : Nat) (x : SelfTest) : exec (.selfTestComplete dt x) s = s.at_ dt (fun u => u.selfTestDone x) := rfl

theorem State.enterSetUp_eq : s.enterSetUp = s.setUpEntered.burnNext := rfl

end

section
variable {s : State} {dt : Nat} (hs : s.ready)
include hs

theorem answers_selfTestComplete_clean (hst : s.dev.st = .selfTest) (hres : s.rp.result = 0) (hf : s.rp.fuses = [])
    (hsoft : s.rp.soft = 0) (hroles : ∀ n, n < 18 → (s.spindle n).role ≠ .retired) :
    Answers (.selfTestComplete dt { spindles := [], lanes := [], rows := [], cols := [] }) s (fun t =>
      t.dev = { s.dev with st := .setUp, phase := 1 } ∧ t.rp.result = 1 ∧ t.ow.electing = true ∧
      t.ow.electEnd = s.clock + dt + 2000000 ∧ t.ow.owner = s.ow.owner ∧ (∀ n, n < 16 → t.spOf n = n) ∧
      (∀ n, n < 18 → (t.spindle n).role = (if n < 16 then .active else .spare)) ∧ t.tw.lanes = [0, 1, 2, 3] ∧
      t.tw.spare = some 4 ∧ s.raises t 0x05A ∧ s.logs t 0x0003 2 3 0) := by
  obtain ⟨u, hu⟩ : ∃ u, s.elapse dt = u := ⟨_, rfl⟩
  have hrp : u.rp = s.rp := hu ▸ s.elapse_rp dt
  have hdev : u.dev = s.dev := hu ▸ s.elapse_dev dt
  have hrolesu : ∀ n, n < 18 → (u.spindle n).role ≠ .retired := fun n hn => by
    rw [← hu, show (s.elapse dt).spindle n = s.spindle n from congrArg (fun x => Tbl.lookD x n (spindleReset n)) (s.elapse_sps dt)]
    exact hroles n hn
  obtain ⟨h1, h2, h3⟩ := u.selfTest_spec (by rw [hrp, hf]) (by rw [hrp, hsoft]) hrolesu
  obtain ⟨v, hv⟩ : ∃ v, u.selfTest { spindles := [], lanes := [], rows := [], cols := [] } = v := ⟨_, rfl⟩
  rw [hv] at h1 h2 h3
  have hvrp : v.rp = { s.rp with result := 1 } := by rw [h1, hrp]
  have hvdev : v.dev = s.dev := by rw [h1, hdev]
  have hvow : v.ow = s.ow := by rw [h1, ← hu]; exact State.elapse_ow hs.2.2 dt
  have hvclk : v.clock = s.clock + dt := by rw [h1, ← hu]; exact s.elapse_clock dt
  have hvlive : v.regs.live = s.regs.live := by rw [h1, ← hu]; exact s.elapse_live dt
  have hvrep : s.Tells {} v.rep := by
    rw [h1, ← hu]
    exact State.Tells.elapse hs dt
  have hvtw : v.tw.lanes = [0, 1, 2, 3] ∧ v.tw.spare = some 4 := by
    rw [h1]
    exact ⟨rfl, rfl⟩
  obtain ⟨w, hw⟩ : ∃ w, v.setUpEntered = w := ⟨_, rfl⟩
  have hwrp : w.rp = v.rp := by rw [← hw]; rfl
  obtain ⟨hb1, hb2⟩ := w.burnNext_blank (by rw [hwrp, hvrp]; exact hf)
  let x : State := { v with dev := { v.dev with st := .setUp } }
  have htell : s.Tells { srcs := [0x05A], slubs := [x.slubReq 0x0003 v.dev.st.code 3 0] } w.rep := by
    rw [← hw]
    have hx : s.Tells {} x.rep := hvrep
    exact (hx.slub 0x0003 v.dev.st.code 3 0).raise 0x05A hvlive
  have hxw : x.slubReq 0x0003 v.dev.st.code 3 0 = w.slubReq 0x0003 2 3 0 := by
    rw [← hw, hvdev, hst]
    rfl
  rw [hxw] at htell
  have hg : u.selfTestDone { spindles := [], lanes := [], rows := [], cols := [] } = { w with rp := w.burnNext.rp } := by
    unfold State.selfTestDone
    rw [hdev, hrp, hst, hres, if_pos (by decide), hv]
    have hno : v.rp.result ≠ 3 := by
      rw [hvrp]
      exact (by decide : (1 : Nat) ≠ 3)
    exact (if_neg hno).trans (v.enterSetUp_eq.trans (hw ▸ hb1))
  refine answers_reports hs (exec_selfTestComplete s dt _)
    (v := { w with rp := w.burnNext.rp }) (by rw [hu]; exact hg) (State.RepOnly.refl _) htell fun r told => ?_
  obtain ⟨w1, w2, w3, w4, w5, w6⟩ : w.dev = { v.dev with st := .setUp, phase := 1 } ∧
      w.ow = { v.ow with electing := true, electEnd := v.clock + 2000000 } ∧ w.chSp = v.chSp ∧ w.sps = v.sps ∧ w.tw = v.tw ∧ True := by
    rw [← hw]
    exact ⟨rfl, rfl, rfl, rfl, rfl, trivial⟩
  refine ⟨w1.trans (by rw [hvdev]), hb2.trans (by rw [hwrp, hvrp]), congrArg OwnSt.electing w2, ?_, ?_, fun n hn => ?_, fun n hn => ?_,
    (congrArg TwistSt.lanes w5).trans hvtw.1, (congrArg TwistSt.spare w5).trans hvtw.2, told.raises _ List.mem_cons_self, told.logs _ _ _ _ rfl⟩
  · exact (congrArg OwnSt.electEnd w2).trans (by rw [hvclk])
  · exact (congrArg OwnSt.owner w2).trans (by rw [hvow])
  · exact (congrArg (fun x => Tbl.lookD x n n) w3).trans (h3 n hn)
  · exact (congrArg (fun x => (Tbl.lookD x n (spindleReset n)).role) w4).trans (h2 n hn)

theorem answers_selfTestComplete_faults (hst : s.dev.st = .selfTest) (hres : s.rp.result = 0) (hf : s.rp.fuses = [])
    (x : SelfTest) {a b c : Fin 18} (ha : a ∈ x.spindles) (hb : b ∈ x.spindles) (hc : c ∈ x.spindles) (hab : a ≠ b)
    (hbc : b ≠ c) (hac : a ≠ c) : Answers (.selfTestComplete dt x) s (fun t => t.rp.result = 3 ∧ t.dev.st = .selfTest) := by
  obtain ⟨u, hu⟩ : ∃ u, s.elapse dt = u := ⟨_, rfl⟩
  have hrp : u.rp = s.rp := hu ▸ s.elapse_rp dt
  have hdev : u.dev = s.dev := hu ▸ s.elapse_dev dt
  obtain ⟨h1, h2⟩ := u.selfTest_fails (by rw [hrp, hf]) x ha hb hc hab hbc hac
  refine answers_at hs (exec_selfTestComplete s dt x) ?_
  have hg : u.selfTestDone x = u.selfTest x := by
    unfold State.selfTestDone
    rw [hdev, hrp, hst, hres, if_pos (by decide)]
    exact if_pos h1
  rw [hu, hg]
  exact ⟨h1, (congrArg DevSt.st h2).trans (by rw [hdev, hst])⟩

theorem answers_selfTestComplete_late (x : SelfTest) (h : s.dev.st ≠ .selfTest ∨ s.rp.result ≠ 0) :
    Answers (.selfTestComplete dt x) s (fun t => t = s.elapse dt) := by
  refine answers_settles hs (exec_selfTestComplete s dt x) (if_neg ?_) (State.elapse_settled hs dt) rfl
  rw [State.elapse_dev, State.elapse_rp, Bool.and_eq_true, decide_eq_true_eq, decide_eq_true_eq]
  exact fun hb => h.elim (fun h => h hb.1) fun h => h hb.2

/-! ## The image -/

theorem answers_imageMagicRead (m : Word) (hp : s.dev.phase = 1) (hm : s.dev.magic = false) :
    (m = 0x4947574D →
      Answers (.imageMagicRead dt m) s (fun t => t = { s.elapse dt with dev := { s.dev with magic := true } })) ∧
    (m ≠ 0x4947574D →
      Answers (.imageMagicRead dt m) s (fun t =>
        t = { s.elapse dt with dev := { s.dev with phase := 3, result := 1, boot := none } })) := by
  have hc : exec (.imageMagicRead dt m) s = s.at_ dt (fun s => if decide (s.dev.phase = 1) && !s.dev.magic then
      if m = imageMagic then { s with dev := { s.dev with magic := true } } else s.loadEnds 1 else s) := rfl
  have hgo : (decide ((s.elapse dt).dev.phase = 1) && !(s.elapse dt).dev.magic) = true := by
    rw [State.elapse_dev, hp, hm]
    rfl
  refine ⟨fun h => answers_settles hs hc ((if_pos hgo).trans (if_pos h)) (State.elapse_settled hs dt) ?_,
    fun h => answers_settles hs hc ((if_pos hgo).trans (if_neg h)) (State.elapse_settled hs dt) ?_⟩
  · rw [← s.elapse_dev dt]
  · rw [← s.elapse_dev dt]
    rfl

/-- The reports without the trace, which the loader uses as its buffer (R573). -/
def Rep.untraced (r : Rep) : Rep := { r with trace := [], fill := 0, stopSeen := false, post := 0, frozen := false, undrained := [] }

/-- IMAGE_READ_COMPLETE, in the state of its instant. -/
def State.imageRead (s : State) (l : List Byte) : State :=
  if decide (s.dev.phase = 1) && s.dev.magic then
    let s1 := s.clearTrace
    match imageBad l with
    | some (r, sec) => ({ s1 with dev := { s1.dev with errSection := sec } }).loadEnds r
    | none => s1.applyImage l
  else s

omit hs in
theorem exec_imageReadComplete (s : State) (dt : Nat) (l : List Byte) :
    exec (.imageReadComplete dt l) s = s.at_ dt (fun u => u.imageRead l) := rfl

theorem answers_imageReadComplete_bad {l : List Byte} (hp : s.dev.phase = 1) (hm : s.dev.magic = true) {r : Nat}
    (hbad : imageBad l = some (r, 0xFF)) : Answers (.imageReadComplete dt l) s (fun t =>
      t = { s.elapse dt with
            dev := { s.dev with phase := 3, result := r, errSection := 0xFF, boot := none }, rep := s.rep.untraced }) := by
  have hg : (s.elapse dt).imageRead l = { s.elapse dt with
      dev := { s.dev with phase := 3, result := r, errSection := 0xFF, boot := none }, rep := s.rep.untraced } := by
    have hgo : (decide ((s.elapse dt).dev.phase = 1) && (s.elapse dt).dev.magic) = true := by
      rw [State.elapse_dev, hp, hm]
      rfl
    unfold State.imageRead
    rw [if_pos hgo]
    simp only [hbad]
    rw [← s.elapse_dev dt, ← State.elapse_rep hs.2.2 dt]
    rfl
  exact answers_settles hs (exec_imageReadComplete s dt l) hg hs.2.1 rfl

omit hs in
theorem entriesOf_empty {l : List Byte} (hlen : ∀ x ∈ sectionsOf l, x.len = 0) (kind : Nat) : entriesOf l kind = [] := by
  unfold entriesOf
  refine List.flatMap_eq_nil_iff.2 fun i hi => ?_
  simp only
  split
  · have hmem : (sectionsOf l).getD i ⟨0, 0, 0, false⟩ ∈ sectionsOf l := by
      rw [List.getD_eq_getElem _ _ (List.mem_range.1 hi)]
      exact List.getElem_mem _
    rw [hlen _ hmem, Nat.zero_div]
    rfl
  · rfl

omit hs in
theorem bootDrafts_empty {l : List Byte} (hlen : ∀ x ∈ sectionsOf l, x.len = 0) : bootDrafts l = [] := by
  unfold bootDrafts
  rw [entriesOf_empty hlen, entriesOf_empty hlen]
  exact List.flatMap_eq_nil_iff.2 fun _ _ => rfl

omit hs in
theorem State.applyImage_empty (s : State) {l : List Byte} (hlen : ∀ x ∈ sectionsOf l, x.len = 0) (hclean : s.regs.dirty = 0) :
    s.applyImage l = { s with
      dev := { s.dev with
        phase := 2, build := imgWord l 0x18, autoRun := bitOf (imgWord l 0xC) 0
        forceRun := bitOf (imgWord l 0xC) 1, boot := some { crcRef := imgWord l 0x14, locks := [] } } } := by
  unfold State.applyImage
  simp only [entriesOf_empty hlen, bootDrafts_empty hlen, List.map_nil, List.foldl_nil]
  exact if_pos hclean

theorem answers_imageReadComplete_empty {l : List Byte} (hp : s.dev.phase = 1) (hm : s.dev.magic = true)
    (hok : imageBad l = none) (hlen : ∀ x ∈ sectionsOf l, x.len = 0) (hclean : s.regs.dirty = 0) :
    Answers (.imageReadComplete dt l) s (fun t =>
      t = { s.elapse dt with
            dev := { s.dev with
              phase := 2, build := imgWord l 0x18, autoRun := bitOf (imgWord l 0xC) 0
              forceRun := bitOf (imgWord l 0xC) 1, boot := some { crcRef := imgWord l 0x14, locks := [] } }
            rep := s.rep.untraced }) := by
  have hg : (s.elapse dt).imageRead l = { s.elapse dt with
      dev := { s.dev with
        phase := 2, build := imgWord l 0x18, autoRun := bitOf (imgWord l 0xC) 0
        forceRun := bitOf (imgWord l 0xC) 1, boot := some { crcRef := imgWord l 0x14, locks := [] } }
      rep := s.rep.untraced } := by
    have hgo : (decide ((s.elapse dt).dev.phase = 1) && (s.elapse dt).dev.magic) = true := by
      rw [State.elapse_dev, hp, hm]
      rfl
    unfold State.imageRead
    rw [if_pos hgo]
    simp only [hok]
    rw [State.applyImage_empty _ hlen (by rw [show (s.elapse dt).clearTrace.regs = s.regs from s.elapse_regs dt]; exact hclean),
      ← s.elapse_dev dt, ← State.elapse_rep hs.2.2 dt]
    rfl
  exact answers_settles hs (exec_imageReadComplete s dt l) hg hs.2.1 rfl

/-! ## The end of loading -/

omit hs in
/-- The case of R574 that a header shows. -/
theorem imageBad_header (l : List Byte) :
    let len := (imgWord l 8).toNat
    let part := fieldOf (imgWord l 0x10) 0 16
    let ver := fieldOf (imgWord l 4) 0 8
    let crc := crc32 (l.take 0x3C ++ (l.drop 0x40).take (len - 0x40))
    let n := fieldOf (imgWord l 4) 16 16
    (part ≠ 0x1618 → imageBad l = some (4, 0xFF)) ∧
    (part = 0x1618 → ver ≠ 1 → imageBad l = some (5, 0xFF)) ∧
    (part = 0x1618 → ver = 1 → len < 0x80 ∨ 0x200000 < len → imageBad l = some (7, 0xFF)) ∧
    (part = 0x1618 → ver = 1 → 0x80 ≤ len → len ≤ 0x200000 → crc ≠ imgWord l 0x3C → imageBad l = some (6, 0xFF)) ∧
    (part = 0x1618 → ver = 1 → 0x80 ≤ len → len ≤ 0x200000 → crc = imgWord l 0x3C → n = 0 ∨ 64 < n → imageBad l = some (7, 0xFF)) := by
  have hfits : ∀ {n : Nat}, 0x80 ≤ n → n ≤ 0x200000 → ¬(n < 0x80 ∨ n > 0x200000) := fun h1 h2 => by omega
  refine ⟨fun h => ?_, fun h1 h => ?_, fun h1 h2 h => ?_, fun h1 h2 h3 h4 h => ?_, fun h1 h2 h3 h4 h5 h => ?_⟩ <;> unfold imageBad
  · exact if_pos h
  · exact (if_neg (not_not.2 h1)).trans (if_pos h)
  · exact (if_neg (not_not.2 h1)).trans ((if_neg (not_not.2 h2)).trans (if_pos h))
  · exact (if_neg (not_not.2 h1)).trans ((if_neg (not_not.2 h2)).trans ((if_neg (hfits h3 h4)).trans (if_pos h)))
  · exact (if_neg (not_not.2 h1)).trans ((if_neg (not_not.2 h2)).trans ((if_neg (hfits h3 h4)).trans ((if_neg (not_not.2 h5)).trans (if_pos h))))

/-- LOADING_END, in the state of its instant. -/
def State.loadingDone (s : State) : State :=
  match s.dev.boot with
  | some b =>
    if decide (s.dev.phase = 2) && !s.bootDrafting then
      let s1 := (b.locks.foldl State.bootLock (s.setRwi 0x1024 b.crcRef)).clearTrace
      let go := s1.dev.autoRun && (decide (s1.dev.refused = 0) || s1.dev.forceRun) && decide (s1.dev.st = .setUp)
      let s2 := { s1 with dev := { s1.dev with runPend := s1.dev.runPend || go } }
      s2.loadEnds (if s2.dev.refused = 0 then 2 else 3)
    else s
  | none => s

omit hs in
theorem exec_loadingEnd (s : State) (dt : Nat) : exec (.loadingEnd dt) s = s.at_ dt (fun u => u.loadingDone) := rfl

omit hs in
theorem State.elapse_bootDrafting (s : State) (dt : Nat) : (s.elapse dt).bootDrafting = s.bootDrafting := by
  unfold State.bootDrafting
  rw [State.elapse_dr]

theorem answers_loadingEnd {b : BootLeft} (hb : s.dev.boot = some b) (hl : b.locks = []) (hp : s.dev.phase = 2) :
    let go := s.dev.autoRun = true ∧ (s.dev.refused = 0 ∨ s.dev.forceRun = true) ∧ s.dev.st = .setUp
    (s.bootDrafting = false →
      Answers (.loadingEnd dt) s (fun t =>
        t = { s.elapse dt with dev := t.dev, regs := { s.regs with rwi := t.regs.rwi }, rep := t.rep } ∧
        t.rwi 0x1024 = b.crcRef ∧ t.dev.phase = 3 ∧ t.dev.result = (if s.dev.refused = 0 then 2 else 3) ∧
        t.dev.boot = none ∧ t.dev.st = s.dev.st ∧ (go → t.dev.runPend = true) ∧ (¬go → t.dev.runPend = s.dev.runPend) ∧
        t.rep.trace = [] ∧ t.rep.log = s.rep.log)) ∧
    (s.bootDrafting = true → Answers (.loadingEnd dt) s (fun t => t = s.elapse dt)) := by
  intro go
  obtain ⟨u, hu⟩ : ∃ u, s.elapse dt = u := ⟨_, rfl⟩
  have hdev : u.dev = s.dev := hu ▸ s.elapse_dev dt
  have hdraft : u.bootDrafting = s.bootDrafting := hu ▸ s.elapse_bootDrafting dt
  have hrep : u.rep = s.rep := hu ▸ State.elapse_rep hs.2.2 dt
  have hregs : u.regs = s.regs := hu ▸ s.elapse_regs dt
  refine ⟨fun h => ?_, fun h => ?_⟩
  · obtain ⟨g, hgo⟩ : ∃ g, (s.dev.autoRun && (decide (s.dev.refused = 0) || s.dev.forceRun) && decide (s.dev.st = .setUp)) = g := ⟨_, rfl⟩
    let v : State := { u.setRwi 0x1024 b.crcRef with
      rep := s.rep.untraced
      dev := { s.dev with phase := 3, boot := none, result := if s.dev.refused = 0 then 2 else 3, runPend := s.dev.runPend || g } }
    have hg : u.loadingDone = v := by
      unfold State.loadingDone
      rw [hdev, hb]
      simp only [hp, hdraft, h, hl, List.foldl_nil]
      rw [if_pos (by decide)]
      show State.loadEnds _ _ = { u.setRwi 0x1024 b.crcRef with
        rep := s.rep.untraced
        dev := { s.dev with phase := 3, boot := none, result := if s.dev.refused = 0 then 2 else 3, runPend := s.dev.runPend || g } }
      rw [show (u.setRwi 0x1024 b.crcRef).clearTrace.dev = s.dev from hdev, ← hgo, ← hrep]
      rfl
    have hgiff : g = true ↔ go := by
      rw [← hgo, Bool.and_eq_true, Bool.and_eq_true, Bool.or_eq_true, decide_eq_true_eq, decide_eq_true_eq, and_assoc]
    refine answers_settles hs (exec_loadingEnd s dt) (v := v) (by rw [hu]; exact hg) hs.2.1 ⟨?_, Tbl.lookD_put_self _ _ _ _, rfl, rfl, rfl, rfl, fun h => ?_, fun h => ?_,
      rfl, rfl⟩
    · rw [hu, ← hregs]
      rfl
    · exact (congrArg (s.dev.runPend || ·) (hgiff.2 h)).trans (Bool.or_true _)
    · exact (congrArg (s.dev.runPend || ·) (Bool.eq_false_iff.2 fun hg => h (hgiff.1 hg))).trans (Bool.or_false _)
  · refine answers_settles hs (exec_loadingEnd s dt) ?_ (State.elapse_settled hs dt) rfl
    rw [hu]
    unfold State.loadingDone
    rw [hdev, hb]
    simp only [hp, hdraft, h]
    exact if_neg (by decide)

end

/-- Settles O60: the self-test without and with faults, the checks of an image in their order, and the end of loading. -/
theorem selfTestAndImage : Obligations.SelfTestAndImage := by
  intro s dt hs
  refine ⟨fun hst hres hf => ⟨fun hsoft hroles => answers_selfTestComplete_clean hs hst hres hf hsoft hroles,
      fun x a b c ha hb hc hab hbc hac => answers_selfTestComplete_faults hs hst hres hf x ha hb hc hab hbc hac⟩,
    answers_selfTestComplete_late hs, fun m hp hm => answers_imageMagicRead hs m hp hm, fun l hp hm => ?_,
    fun b hb hl hp => answers_loadingEnd hs hb hl hp⟩
  obtain ⟨h1, h2, h3, h4, h5⟩ := imageBad_header l
  intro len part ver crc n cleared ends
  have hbad : ∀ r, imageBad l = some (r, 0xFF) → ends r := fun r h => answers_imageReadComplete_bad hs hp hm h
  exact ⟨fun a => hbad _ (h1 a), fun a b => hbad _ (h2 a b), fun a b c => hbad _ (h3 a b c), fun a b c d e => hbad _ (h4 a b c d e),
    fun a b c d e f => hbad _ (h5 a b c d e f), answers_imageReadComplete_empty hs hp hm⟩

end Sys2Proof.Machine
end

section
/-!
PROOFS. Doffs, aging monitors and fuses.
-/

namespace Sys2Proof.Machine

/-! ## Hanks take nothing back -/

theorem State.hank_keeps (s : State) (kind sub aux : Nat) (body : BitVec 64) :
    Rep.Grows s.rep (s.hank kind sub aux body).rep ∧ (s.hank kind sub aux body).rep.whOld = s.rep.whOld := by
  unfold State.hank Rep.hank
  simp only
  split
  · exact ⟨⟨⟨[], (List.append_nil _).symm⟩, fun _ => Nat.min_le_right _ _, fun _ _ h => h⟩, rfl⟩
  · exact ⟨.refl _, rfl⟩

theorem Frame.hank {R : State → State → Prop} (F : Frame R) {a b : State} (h : R a b) (kind sub aux : Nat) (body : BitVec 64) :
    R a (b.hank kind sub aux body) :=
  F.reported h _ (b.hank_keeps kind sub aux body).1 (b.hank_keeps kind sub aux body).2

/-! ## Repairs that wait for their burn -/

/-- From a to b the repair state and the reports change; the doff and the fuses stay, and no report is taken back. -/
structure State.Burns (a b : State) : Prop where
  rest : b = { a with rp := b.rp, rep := b.rep }
  doff : b.rp.doff = a.rp.doff
  fuses : b.rp.fuses = a.rp.fuses
  grows : Rep.Grows a.rep b.rep
  whOld : b.rep.whOld = a.rep.whOld

theorem State.burns_frame : Frame State.Burns where
  refl _ := ⟨rfl, rfl, rfl, .refl _, rfl⟩
  trans h g := ⟨g.rest.trans (by rw [h.rest]), g.doff.trans h.doff, g.fuses.trans h.fuses, h.grows.trans g.grows, g.whOld.trans h.whOld⟩
  rep _ _ hg hw := ⟨rfl, rfl, rfl, hg, hw⟩

section
variable (s : State)

theorem State.spareOut_burns (k n : Nat) : State.Burns s (s.spareOut k n) := by
  have F := State.burns_frame
  refine F.ite (F.refl s) (F.raise (F.slub ?_ _ _ _ _) _)
  exact ⟨rfl, rfl, rfl, .refl _, rfl⟩

theorem State.burnNext_burns : State.Burns s s.burnNext := by
  have F := State.burns_frame
  have hrp : ∀ q b n, State.Burns s { s with rp := { s.rp with queue := q, burn := b, burnNow := n } } := fun _ _ _ =>
    ⟨rfl, rfl, rfl, .refl _, rfl⟩
  unfold State.burnNext
  simp only
  split
  · exact hrp _ _ _
  · next w rest _ =>
    exact F.ite (F.ite (hrp _ _ _) (F.trans (hrp rest s.rp.burn s.rp.burnNow) (State.spareOut_burns _ _ _))) (F.refl s)

theorem State.queueBurn_burns (w : Word) : State.Burns s (s.queueBurn w) := by
  refine State.burns_frame.trans ?_ (State.burnNext_burns _)
  exact ⟨rfl, rfl, rfl, .refl _, rfl⟩

end

section
variable {s k : State}

/-- At most one slub follows when the next repair cannot be burned. -/
theorem State.Tells.spareOut {s b : State} {k : Account} (h : s.Tells k b.rep) (hlive : b.regs.live = s.regs.live) (x n : Nat) :
    s.Tells (if b.rp.exhausted.contains (x, n) then k else
      { k with slubs := k.slubs ++ [b.slubReq 0x0F09 x 0 0], srcs := 0x018 :: k.srcs }) (b.spareOut x n).rep := by
  unfold State.spareOut
  split
  · exact h
  · have hx : s.Tells k ({ b with rp := { b.rp with exhausted := b.rp.exhausted ++ [(x, n)] } } : State).rep := h
    exact (hx.slub 0x0F09 x 0 0).raise 0x018 hlive

end

/-- The next burn begins in silence, or is given up with a slub. -/
theorem State.Tells.burnNext {s b : State} {k : Account} (h : s.Tells k b.rep) (hlive : b.regs.live = s.regs.live) :
    s.Tells k b.burnNext.rep ∨
      s.Tells { k with slubs := k.slubs ++ [b.slubReq 0x0F09 7 0 0], srcs := 0x018 :: k.srcs } b.burnNext.rep := by
  unfold State.burnNext
  simp only
  split
  · exact .inl h
  · next w rest _ =>
    by_cases hgo : (decide (b.dev.st = .setUp ∨ b.dev.st = .run) && (b.bit 0xF8000 0 || b.rp.burnNow) && b.rp.burn.isNone) = true
    · rw [if_pos hgo]
      by_cases he : Tbl.firstFree b.rp.fuses 0 < 256
      · rw [if_pos he]
        exact .inl h
      · rw [if_neg he]
        have hx : s.Tells k ({ b with rp := { b.rp with queue := rest } } : State).rep := h
        have hsp := hx.spareOut hlive 7 w.toNat
        split at hsp
        · exact .inl hsp
        · exact .inr hsp
    · rw [if_neg hgo]
      exact .inl h

/-! ## RP_DOFF (R526, R531) -/

section
variable {s : State} {dt : Nat} (hs : s.ready)

/-- RP_DOFF.GO behind the checks of a register write. -/
def State.doffAsked (s : State) (w : Wr) : State :=
  let tgt := fieldOf w.data 4 5
  if s.rp.doff.isSome then s.discard 0xF800C w.port reasonState
  else if decide (tgt ≠ 0x1F) && !s.isSpare tgt then s.discard 0xF800C w.port reasonInvalid
  else
    match (if tgt = 0x1F then s.lowestSpare else some tgt) with
    | some t => (s.setRwi 0xF800C (w.data &&& 0x1FF)).startDoff (fieldOf w.data 0 4) t true
    | none => (s.setRwi 0xF800C (w.data &&& 0x1FF)).spareOut 1 (s.spOf (fieldOf w.data 0 4))

theorem State.doffGo_asked {u : State} {w : Wr} (hw : u.passes 0xF800C w) (hb : bitOf w.data 16 = true) :
    u.doffGo w = u.doffAsked w := by
  refine (State.wr_pass hw).trans (if_neg ?_)
  rw [hb]
  decide

theorem State.elapse_isSpare (s : State) (dt n : Nat) : (s.elapse dt).isSpare n = s.isSpare n := by
  unfold State.isSpare State.spindle
  rw [State.elapse_sps]

theorem State.elapse_lowestSpare (s : State) (dt : Nat) : (s.elapse dt).lowestSpare = s.lowestSpare := by
  unfold State.lowestSpare
  simp only [State.elapse_isSpare]

theorem State.elapse_spOf (s : State) (dt n : Nat) : (s.elapse dt).spOf n = s.spOf n := by
  unfold State.spOf
  rw [State.elapse_chSp]

theorem State.elapse_spindle (s : State) (dt n : Nat) : (s.elapse dt).spindle n = s.spindle n := by
  unfold State.spindle
  rw [State.elapse_sps]

include hs

theorem answers_rpDoffGo (w : Wr) (hw : s.passes 0xF800C w) (hb : bitOf w.data 16 = true) :
    let tgt := fieldOf w.data 4 5
    (s.rp.doff.isSome = true → Answers (.rpDoffGo dt w) s (fun t => s.discards t dt 0xF800C w 7)) ∧
    (s.rp.doff = none → tgt ≠ 0x1F → s.isSpare tgt = false →
      Answers (.rpDoffGo dt w) s (fun t => s.discards t dt 0xF800C w 10)) ∧
    (∀ k, s.rp.doff = none → (tgt = 0x1F ∧ s.lowestSpare = some k) ∨ (tgt ≠ 0x1F ∧ s.isSpare tgt = true ∧ k = tgt) →
      Answers (.rpDoffGo dt w) s (fun t =>
        t = { s.elapse dt with
              regs := { s.regs with rwi := t.regs.rwi }
              rp := { s.rp with
                doff := some { ch := fieldOf w.data 0 4, target := k, soft := true, ready := false, turns := 0 } } } ∧
        t.rwi 0xF800C = w.data &&& 0x1FF)) ∧
    (s.rp.doff = none → tgt = 0x1F → s.lowestSpare = none →
      s.rp.exhausted.contains (1, s.spOf (fieldOf w.data 0 4)) = false →
      Answers (.rpDoffGo dt w) s (fun t => t.rp.doff = none ∧ s.raises t 0x018 ∧ s.logs t 0x0F09 1 0 0)) := by
  intro tgt
  obtain ⟨u, hu⟩ : ∃ u, s.elapse dt = u := ⟨_, rfl⟩
  have hrp : u.rp = s.rp := hu ▸ s.elapse_rp dt
  have hspare : ∀ n, u.isSpare n = s.isSpare n := fun n => hu ▸ s.elapse_isSpare dt n
  have hlow : u.lowestSpare = s.lowestSpare := hu ▸ s.elapse_lowestSpare dt
  have hregs : u.regs = s.regs := hu ▸ s.elapse_regs dt
  have hc : exec (.rpDoffGo dt w) s = s.at_ dt (fun u => u.doffGo w) := rfl
  have hpass : u.passes 0xF800C w := hu ▸ (State.wrReason_elapse hs.2.2 dt _ w).trans hw
  have hgo : (s.elapse dt).doffGo w = u.doffAsked w := by rw [hu, State.doffGo_asked hpass hb]
  have hask : ∀ {v : State}, u.rp.doff = none → ¬(decide (tgt ≠ 0x1F) && !u.isSpare tgt) = true →
      (match (if tgt = 0x1F then u.lowestSpare else some tgt) with
        | some t => (u.setRwi 0xF800C (w.data &&& 0x1FF)).startDoff (fieldOf w.data 0 4) t true
        | none => (u.setRwi 0xF800C (w.data &&& 0x1FF)).spareOut 1 (u.spOf (fieldOf w.data 0 4))) = v → u.doffAsked w = v := by
    intro v h1 h2 h3
    unfold State.doffAsked
    rw [h1]
    exact (if_neg Bool.false_ne_true).trans ((if_neg h2).trans h3)
  refine ⟨fun h => answers_at hs hc ?_, fun h1 h2 h3 => answers_at hs hc ?_, fun k h1 h2 => ?_, fun h1 h2 h3 h4 => ?_⟩
  · have h7 : u.doffAsked w = u.discard 0xF800C w.port 7 := if_pos (by rw [hrp]; exact h)
    rw [hgo, h7, ← hu]
    exact State.discards_discard hs dt _ w 7
  · have h10 : u.doffAsked w = u.discard 0xF800C w.port 10 := by
      refine (if_neg (by rw [hrp, h1]; decide)).trans (if_pos ?_)
      rw [hspare, h3, decide_eq_true h2]
      rfl
    rw [hgo, h10, ← hu]
    exact State.discards_discard hs dt _ w 10
  · have hval : u.doffAsked w = (u.setRwi 0xF800C (w.data &&& 0x1FF)).startDoff (fieldOf w.data 0 4) k true := by
      rcases h2 with ⟨ht, hk⟩ | ⟨ht, hsp, rfl⟩
      · refine hask (by rw [hrp, h1]) (by rw [decide_eq_false (not_not.2 ht), Bool.false_and]; exact Bool.false_ne_true) ?_
        rw [if_pos ht, hlow, hk]
      · refine hask (by rw [hrp, h1]) (by rw [hspare, hsp]; simp) ?_
        rw [if_neg ht]
    refine answers_settles hs hc (hgo.trans hval) (hu ▸ State.elapse_settled hs dt) ⟨?_, Tbl.lookD_put_self _ _ _ _⟩
    rw [hu, ← hregs, ← hrp]
    rfl
  · have hval : u.doffAsked w = (u.setRwi 0xF800C (w.data &&& 0x1FF)).spareOut 1 (u.spOf (fieldOf w.data 0 4)) := by
      refine hask (by rw [hrp, h1]) (by rw [decide_eq_false (not_not.2 h2), Bool.false_and]; exact Bool.false_ne_true) ?_
      rw [if_pos h2, hlow, h3]
    obtain ⟨x, hx⟩ : ∃ x, u.setRwi 0xF800C (w.data &&& 0x1FF) = x := ⟨_, rfl⟩
    rw [hx] at hval
    have hxrp : x.rp = s.rp := hx ▸ hrp
    have hno : x.rp.exhausted.contains (1, u.spOf (fieldOf w.data 0 4)) = false := by
      rw [hxrp, ← hu, State.elapse_spOf]
      exact h4
    have htell := State.Tells.spareOut (s := s) (b := x) (k := {}) (hx ▸ hu ▸ State.Tells.elapse hs dt) (by rw [← hx]; show u.regs.live = _; rw [hregs])
      1 (u.spOf (fieldOf w.data 0 4))
    rw [hno, if_neg Bool.false_ne_true] at htell
    obtain ⟨y, hy⟩ : ∃ y, x.spareOut 1 (u.spOf (fieldOf w.data 0 4)) = y := ⟨_, rfl⟩
    have hb := x.spareOut_burns 1 (u.spOf (fieldOf w.data 0 4))
    rw [hy] at hb htell hval
    have hreq : x.slubReq 0x0F09 1 0 0 = y.slubReq 0x0F09 1 0 0 := by rw [hb.rest]; rfl
    rw [hreq] at htell
    exact answers_reports hs hc (hgo.trans hval) (State.RepOnly.refl _) htell fun r told =>
      ⟨hb.doff.trans (by rw [hxrp, h1]), told.raises _ List.mem_cons_self, told.logs _ _ _ _ rfl⟩

end

/-! ## The doff (R527 to R531) -/

section
variable (s : State)

/-- The switch of a doff without its reports (R528 to R530). -/
def State.switched (d : Doff) : State :=
  let old := s.spOf d.ch
  let s0 := (s.unchoose d.ch).clearTx (2 * old + 1)
  let s1 := { s0 with chSp := Tbl.put s0.chSp d.ch d.ch d.target, rp := { s0.rp with doff := none } }
  (s1.setSpindle d.target { s1.spindle d.target with role := .active }).setSpindle old {
    s1.spindle old with role := if d.soft && (s.spindle old).selfOk then .spare else .retired, inReset := some d.ch }

/-- One spindle's part in a switch is reported. -/
def State.switchSeen (d : Doff) (n : Nat) : State :=
  (s.slub 0x021B (d.ch + 256 * n) (s.spD1 d.ch) 0).raise (0x080 + 16 * n + 0xB)

/-- The reports of a switch. -/
def State.switchTold (d : Doff) (old : Nat) : State :=
  ((((((s.slub 0x0F03 d.ch old d.target).raise 0x011).count 5824).switchSeen d old).switchSeen d d.target).hank 7 0 d.ch
    (BitVec.ofNat 64 (old + 256 * d.target)))

theorem State.doffSwitch_eq (d : Doff) : s.doffSwitch d =
    if d.soft && (s.spindle (s.spOf d.ch)).selfOk then (s.switched d).switchTold d (s.spOf d.ch)
    else ((s.switched d).switchTold d (s.spOf d.ch)).queueBurn (fuseWord 1 (s.spOf d.ch) 0) := rfl

theorem State.switchTold_repOnly (d : Doff) (old : Nat) : State.RepOnly s (s.switchTold d old) := by
  have hseen : ∀ {b : State} n, State.RepOnly s b → State.RepOnly s (b.switchSeen d n) := fun n h => (h.slub _ _ _ _).raise _
  exact (hseen _ (hseen _ ((((State.RepOnly.refl s).slub _ _ _ _).raise _).count _))).hank _ _ _ _

theorem State.setCh_self (n : Nat) (v : Channel) : (s.setCh n v).ch n = v := Tbl.lookD_put_self _ _ _ _
theorem State.setCh_ne {n k : Nat} (v : Channel) (h : k ≠ n) : (s.setCh n v).ch k = s.ch k := Tbl.lookD_put_ne _ _ _ _ h

/-- Clearing a transmit sliver changes the memory and the reports, and takes none back. -/
theorem State.clearTx_spec (sl : Nat) : s.clearTx sl = { s with mm := (s.clearTx sl).mm, rep := (s.clearTx sl).rep } ∧
    Rep.Grows s.rep (s.clearTx sl).rep ∧ (s.clearTx sl).rep.whOld = s.rep.whOld := by
  obtain ⟨b, n, hb, h⟩ : ∃ (b : State) (n : Nat), b = { s with mm := b.mm } ∧ s.clearTx sl = b.countN (5504 + 4 * sl + 2) n :=
    ⟨_, _, by unfold State.setSliver; rfl, rfl⟩
  have hbr : b.rep = s.rep := by rw [hb]
  rw [h, ← hbr]
  exact ⟨(show b.countN _ _ = { b with rep := _ } from rfl).trans (by rw [hb]; rfl), b.countN_grows _ _, (b.countN_same _ _).whOld⟩

theorem State.switched_spec (d : Doff) (hne : d.target ≠ s.spOf d.ch) :
    let t := s.switched d
    let old := s.spOf d.ch
    t = { s with chs := t.chs, chSp := t.chSp, sps := t.sps, rp := t.rp, mm := t.mm, rep := t.rep } ∧
    Rep.Grows s.rep t.rep ∧ t.rep.whOld = s.rep.whOld ∧
    t.rp.doff = none ∧ t.spOf d.ch = d.target ∧ (∀ k, k ≠ d.ch → t.spOf k = s.spOf k ∧ t.ch k = s.ch k) ∧
    t.ch d.ch = { s.ch d.ch with chosen := none, offered := false } ∧ (t.spindle d.target).role = .active ∧
    (t.spindle old).inReset = some d.ch ∧
    (t.spindle old).role = (if d.soft = true ∧ (s.spindle old).selfOk = true then .spare else .retired) := by
  intro t old
  obtain ⟨a, ha⟩ : ∃ a, s.unchoose d.ch = a := ⟨_, rfl⟩
  have ha1 : a = { s with chs := a.chs, mm := a.mm } := by rw [← ha]; rfl
  have ha2 : a.chs = (s.setCh d.ch { s.ch d.ch with chosen := none, offered := false }).chs := by rw [← ha]; rfl
  obtain ⟨h1, h2, h3⟩ := a.clearTx_spec (2 * old + 1)
  obtain ⟨b, hb⟩ : ∃ b, a.clearTx (2 * old + 1) = b := ⟨_, rfl⟩
  rw [hb] at h1 h2 h3
  have hrep : a.rep = s.rep := by rw [ha1]
  have hch : ∀ k, b.ch k = (s.setCh d.ch { s.ch d.ch with chosen := none, offered := false }).ch k := fun k => by
    unfold State.ch
    rw [h1, ha2]
    rfl
  have ht : t = (({ b with chSp := Tbl.put b.chSp d.ch d.ch d.target, rp := { b.rp with doff := none } } : State).setSpindle d.target
      { b.spindle d.target with role := .active }).setSpindle old
        { b.spindle old with role := if d.soft && (s.spindle old).selfOk then .spare else .retired, inReset := some d.ch } := by
    rw [← hb, ← ha]
    rfl
  have hsp : b.chSp = s.chSp := by rw [h1, ha1]
  have htch : ∀ k, t.ch k = b.ch k := fun k => by rw [ht]; rfl
  have htsp : ∀ k, t.spOf k = Tbl.lookD (Tbl.put s.chSp d.ch d.ch d.target) k k := fun k => by rw [ht, ← hsp]; rfl
  refine ⟨?_, ?_, ?_, ?_, ?_, fun k hk => ⟨?_, ?_⟩, ?_, ?_, ?_, ?_⟩
  · rw [ht, h1, ha1]
    rfl
  · rw [ht, ← hrep]
    exact h2
  · rw [ht, ← hrep]
    exact h3
  · rw [ht]
    rfl
  · exact (htsp _).trans (Tbl.lookD_put_self _ _ _ _)
  · exact (htsp k).trans (Tbl.lookD_put_ne _ _ _ _ hk)
  · exact (htch k).trans ((hch k).trans (s.setCh_ne _ hk))
  · exact (htch _).trans ((hch _).trans (s.setCh_self _ _))
  · rw [ht, State.setSpindle_ne _ _ hne, State.setSpindle_self]
  · rw [ht, State.setSpindle_self]
  · rw [ht, State.setSpindle_self]
    simp only [Bool.and_eq_true]

theorem State.Hears.switchSeen {s b : State} {k : Account} (h : s.Hears k b.rep) (hlive : b.regs.live = s.regs.live) (d : Doff) (n : Nat) :
    s.Hears { k with srcs := (0x080 + 16 * n + 0xB) :: k.srcs } (b.switchSeen d n).rep := by
  have hs : s.Hears k (b.slub 0x021B (d.ch + 256 * n) (b.spD1 d.ch) 0).rep :=
    h.mono ⟨⟨[], (List.append_nil _).symm⟩, fun _ => Nat.min_le_right _ _, fun _ _ h => h⟩ rfl
  exact hs.raise _ hlive

end

section
variable {s : State} {dt : Nat} (hs : s.ready)
include hs

/-- DOFF_PREPARED, in the state of its instant. -/
def State.doffReady (s : State) : State :=
  match s.rp.doff with
  | some d => { s with rp := { s.rp with doff := some { d with ready := true } } }
  | none => s

omit hs in
theorem exec_doffPrepared (s : State) (dt : Nat) : exec (.doffPrepared dt) s = s.at_ dt State.doffReady := rfl

theorem answers_doffPrepared {d : Doff} (hd : s.rp.doff = some d) :
    Answers (.doffPrepared dt) s (fun t => t = { s.elapse dt with rp := { s.rp with doff := some { d with ready := true } } }) := by
  have hg : (s.elapse dt).doffReady = { s.elapse dt with rp := { s.rp with doff := some { d with ready := true } } } := by
    unfold State.doffReady
    rw [State.elapse_rp, hd]
  exact answers_settles hs (exec_doffPrepared s dt) hg (State.elapse_settled hs dt) rfl

/-- Has a doff its opportunity (R528)? -/
def State.doffOpen (s : State) (d : Doff) : Prop :=
  d.ready = true ∧ ((s.ch d.ch).st = .off ∨ (s.ch d.ch).st.busOff = true ∨
    ((s.ch d.ch).st.part = true ∧ ((s.ch d.ch).wire = .idle ∨ (s.ch d.ch).wire = .gap)))

/-- DOFF_SWITCH, in the state of its instant. -/
def State.doffTurn (s : State) : State :=
  match s.rp.doff with
  | some d =>
    let c := s.ch d.ch
    if d.ready && (decide (c.st = .off) || c.st.busOff || (c.st.part && decide (c.wire = .idle ∨ c.wire = .gap))) then s.doffSwitch d else s
  | none => s

omit hs in
theorem State.doffTurn_eq {s : State} {d : Doff} (hd : s.rp.doff = some d) :
    (s.doffOpen d → s.doffTurn = s.doffSwitch d) ∧ (¬s.doffOpen d → s.doffTurn = s) := by
  have hiff : s.doffOpen d ↔ (d.ready && (decide ((s.ch d.ch).st = .off) || (s.ch d.ch).st.busOff ||
      ((s.ch d.ch).st.part && decide ((s.ch d.ch).wire = .idle ∨ (s.ch d.ch).wire = .gap)))) = true := by
    unfold State.doffOpen
    simp only [Bool.and_eq_true, Bool.or_eq_true, decide_eq_true_eq, or_assoc]
  unfold State.doffTurn
  rw [hd]
  exact ⟨fun h => if_pos (hiff.1 h), fun h => if_neg fun hb => h (hiff.2 hb)⟩

omit hs in
theorem exec_doffSwitch (s : State) (dt : Nat) : exec (.doffSwitch dt) s = s.at_ dt State.doffTurn := rfl

theorem answers_doffSwitch {d : Doff} (hd : s.rp.doff = some d) :
    let old := s.spOf d.ch
    (¬s.doffOpen d → Answers (.doffSwitch dt) s (fun t => t = s.elapse dt)) ∧
    (s.doffOpen d → d.target ≠ old →
      Answers (.doffSwitch dt) s (fun t =>
        t = { s.elapse dt with
              chs := t.chs, chSp := t.chSp, sps := t.sps, rp := t.rp, mm := t.mm, rep := t.rep } ∧
        t.rp.doff = none ∧ t.spOf d.ch = d.target ∧ (∀ k, k ≠ d.ch → t.spOf k = s.spOf k ∧ t.ch k = s.ch k) ∧
        t.ch d.ch = { s.ch d.ch with chosen := none, offered := false } ∧ (t.spindle d.target).role = .active ∧
        (t.spindle old).inReset = some d.ch ∧
        (t.spindle old).role = (if d.soft = true ∧ (s.spindle old).selfOk = true then .spare else .retired) ∧
        s.counts t 5824 1 ∧ s.raises t 0x011 ∧ s.raises t (0x080 + 16 * old + 0xB) ∧
        s.raises t (0x080 + 16 * d.target + 0xB))) := by
  intro old
  obtain ⟨u, hu⟩ : ∃ u, s.elapse dt = u := ⟨_, rfl⟩
  have hrp : u.rp = s.rp := hu ▸ s.elapse_rp dt
  have hch : ∀ k, u.ch k = s.ch k := fun k => hu ▸ s.elapse_ch k dt
  have hsp : ∀ k, u.spOf k = s.spOf k := fun k => hu ▸ s.elapse_spOf dt k
  have hsps : ∀ k, u.spindle k = s.spindle k := fun k => hu ▸ s.elapse_spindle dt k
  obtain ⟨hyes, hno⟩ := State.doffTurn_eq (s := u) (by rw [hrp]; exact hd)
  have hopen : u.doffOpen d ↔ s.doffOpen d := by
    unfold State.doffOpen
    rw [hch]
  refine ⟨fun h => answers_settles hs (exec_doffSwitch s dt) (by rw [hu]; exact hno fun h' => h (hopen.1 h'))
    (hu ▸ State.elapse_settled hs dt) hu.symm, fun h hne => ?_⟩
  obtain ⟨h1, hgrow, hold, h4⟩ := u.switched_spec d (by rw [hsp]; exact hne)
  simp only [hsp, hch, hsps] at h4
  have hsw := u.doffSwitch_eq d
  rw [hsp, hsps] at hsw
  obtain ⟨a, ha⟩ : ∃ a, u.switched d = a := ⟨_, rfl⟩
  rw [ha] at h1 hgrow hold h4 hsw
  have halive : a.regs.live = s.regs.live := by rw [h1, ← hu]; exact s.elapse_live dt
  have hal : s.Hears {} a.rep := (hu ▸ State.Hears.start hs dt : s.Hears {} u.rep).mono hgrow hold
  obtain ⟨b, hb⟩ : ∃ b, a.switchTold d old = b := ⟨_, rfl⟩
  have hab := a.switchTold_repOnly d old
  have hbh : s.Hears { srcs := [0x080 + 16 * d.target + 0xB, 0x080 + 16 * old + 0xB, 0x011], cts := [(5824, 1)] } b.rep := by
    have h0 : s.Hears {} (a.slub 0x0F03 d.ch old d.target).rep :=
      hal.mono ⟨⟨[], (List.append_nil _).symm⟩, fun _ => Nat.min_le_right _ _, fun _ _ h => h⟩ rfl
    have h2 := (((h0.raise 0x011 halive).count 5824).switchSeen halive d old).switchSeen halive d d.target
    rw [← hb]
    exact h2.mono (State.hank_keeps _ _ _ _ _).1 (State.hank_keeps _ _ _ _ _).2
  rw [hb] at hab hsw
  obtain ⟨w, hw⟩ : ∃ w, u.doffSwitch d = w := ⟨_, rfl⟩
  have hbw : State.Burns b w := by
    rw [← hw, hsw]
    exact State.burns_frame.ite (State.burns_frame.refl b) (b.queueBurn_burns _)
  have hall : w = { u with chs := a.chs, chSp := a.chSp, sps := a.sps, rp := w.rp, mm := a.mm, rep := w.rep } := by
    rw [hbw.rest, show b = _ from hab, h1]
  obtain ⟨g1, g2, g3, g4, g5, g6, g7⟩ := h4
  have hwa : w.chs = a.chs ∧ w.chSp = a.chSp ∧ w.sps = a.sps := by
    rw [hall]
    exact ⟨rfl, rfl, rfl⟩
  obtain ⟨e1, e2, e3⟩ := hwa
  have hwch : ∀ k, w.ch k = a.ch k := fun k => congrArg (fun x : Tbl Channel => Tbl.lookD x k {}) e1
  have hwsp : ∀ k, w.spOf k = a.spOf k := fun k => congrArg (fun x => Tbl.lookD x k k) e2
  have hws : ∀ k, w.spindle k = a.spindle k := fun k => congrArg (fun x => Tbl.lookD x k (spindleReset k)) e3
  refine answers_hears hs (exec_doffSwitch s dt) (by rw [hu, hyes (hopen.2 h), hw]) (hbh.mono hbw.grows hbw.whOld) fun r heard => ?_
  refine ⟨?_, ?_, (hwsp _).trans g2, fun k hk => ⟨(hwsp k).trans (g3 k hk).1, (hwch k).trans (g3 k hk).2⟩, (hwch _).trans g4,
    (congrArg Spindle.role (hws _)).trans g5, (congrArg Spindle.inReset (hws _)).trans g6, (congrArg Spindle.role (hws _)).trans g7,
    heard.counts (5824, 1) List.mem_cons_self, heard.raises _ (by simp), heard.raises _ (by simp), heard.raises _ (by simp)⟩
  · rw [hu, hall]
  · show w.rp.doff = none
    rw [hbw.doff, show b.rp = a.rp by rw [show b = _ from hab], g1]

/-- DOFF_ABANDON, in the state of its instant. -/
def State.doffGivenUp (s : State) : State :=
  match s.rp.doff with
  | some d => if d.turns ≥ 64 then (({ s with rp := { s.rp with doff := none } } : State).raise 0x012).count 5825 else s
  | none => s

omit hs in
theorem exec_doffAbandon (s : State) (dt : Nat) : exec (.doffAbandon dt) s = s.at_ dt State.doffGivenUp := rfl

theorem answers_doffAbandon {d : Doff} (hd : s.rp.doff = some d) :
    (64 ≤ d.turns →
      Answers (.doffAbandon dt) s (fun t =>
        t = { s.elapse dt with rp := { s.rp with doff := none }, rep := t.rep } ∧ s.raises t 0x012 ∧ s.counts t 5825 1)) ∧
    (d.turns < 64 → Answers (.doffAbandon dt) s (fun t => t = s.elapse dt)) := by
  obtain ⟨u, hu⟩ : ∃ u, s.elapse dt = u := ⟨_, rfl⟩
  have hrp : u.rp = s.rp := hu ▸ s.elapse_rp dt
  have hval : u.doffGivenUp = if d.turns ≥ 64 then (({ u with rp := { s.rp with doff := none } } : State).raise 0x012).count 5825 else u := by
    unfold State.doffGivenUp
    rw [hrp, hd]
  refine ⟨fun h => ?_, fun h => answers_settles hs (exec_doffAbandon s dt) (by rw [hu, hval, if_neg (Nat.not_le.2 h)])
    (hu ▸ State.elapse_settled hs dt) hu.symm⟩
  have h0 : s.Tells {} ({ u with rp := { s.rp with doff := none } } : State).rep := hu ▸ State.Tells.elapse hs dt
  refine answers_reports hs (exec_doffAbandon s dt) (by rw [hu, hval, if_pos h]) (((State.RepOnly.refl _).raise _).count _)
    ((h0.raise 0x012 (hu ▸ s.elapse_live dt)).count 5825) fun r told => ⟨by rw [hu], told.raises _ List.mem_cons_self,
      told.counts (5825, 1) List.mem_cons_self⟩

/-! ## Fuses (R535 to R537) -/

theorem answers_rpCmdBurn (w : Wr) (hw : s.passes 0xF8008 w) (hb : bitOf w.data 0 = true) :
    (s.rp.queue = [] →
      Answers (.rpCmdBurn dt w) s (fun t => t = { s.elapse dt with rp := { s.rp with burnNow := false } })) ∧
    (∀ x q, s.rp.queue = x :: q → s.rp.burn = none → s.dev.st = .setUp ∨ s.dev.st = .run →
      Tbl.firstFree s.rp.fuses 0 < 256 →
      Answers (.rpCmdBurn dt w) s (fun t =>
        t = { s.elapse dt with
              rp := { s.rp with
                burnNow := true, queue := q
                burn := some { entry := Tbl.firstFree s.rp.fuses 0, data := x, half := false } } })) := by
  have hc : exec (.rpCmdBurn dt w) s = s.at_ dt (fun u => u.wr 0xF8008 w (fun s =>
    if bitOf w.data 0 then ({ s with rp := { s.rp with burnNow := true } }).burnNext else s)) := rfl
  obtain ⟨u, hu⟩ : ∃ u, s.elapse dt = u := ⟨_, rfl⟩
  have hrp : u.rp = s.rp := hu ▸ s.elapse_rp dt
  have hdev : u.dev = s.dev := hu ▸ s.elapse_dev dt
  refine ⟨fun h => ?_, fun x q hq hn hst hlt => ?_⟩
  · refine answers_wr_settles hs hw hc (v := { u with rp := { s.rp with burnNow := false } }) ?_ (hu ▸ State.elapse_settled hs dt) (by rw [hu])
    rw [hu, hb, if_pos rfl]
    unfold State.burnNext
    rw [hrp]
    simp only [h]
  · refine answers_wr_settles hs hw hc (v := { u with rp := { s.rp with
      burnNow := true, queue := q, burn := some { entry := Tbl.firstFree s.rp.fuses 0, data := x, half := false } } }) ?_
      (hu ▸ State.elapse_settled hs dt) (by rw [hu])
    rw [hu, hb, if_pos rfl]
    unfold State.burnNext
    rw [hrp]
    simp only [hq, hdev, hn, Bool.or_true, Bool.and_true, Option.isNone_none, decide_eq_true hst, if_true, hlt]

/-- FUSE_DATA_WORD_WRITTEN and FUSE_BURN_COMPLETE, in the state of their instant. -/
def State.fuseHalf (s : State) : State :=
  match s.rp.burn with
  | some b =>
    if b.half then s
    else { s with
      rp := { s.rp with burn := some { b with half := true }, fuses := Tbl.ins s.rp.fuses b.entry (false, b.data) } }
  | none => s

def State.fuseBurned (s : State) : State :=
  match s.rp.burn with
  | some b =>
    if b.half then
      let s1 := { s with
        rp := { s.rp with burn := none, fuses := Tbl.ins s.rp.fuses b.entry (true, b.data) } }
      (((s1.raise 0x016).slub 0x0F07 b.entry 0 0).count 5827).burnNext
    else s
  | none => s

omit hs in
theorem exec_fuseDataWordWritten (s : State) (dt : Nat) : exec (.fuseDataWordWritten dt) s = s.at_ dt State.fuseHalf := rfl
omit hs in
theorem exec_fuseBurnComplete (s : State) (dt : Nat) : exec (.fuseBurnComplete dt) s = s.at_ dt State.fuseBurned := rfl

theorem answers_fuse_half {b : Burn} (hb : s.rp.burn = some b) (hh : b.half = false) :
    Answers (.fuseDataWordWritten dt) s (fun t =>
      t = { s.elapse dt with rp := { s.rp with burn := some { b with half := true }, fuses := t.rp.fuses } } ∧
      Tbl.look t.rp.fuses b.entry = some (false, b.data) ∧
      ∀ k, k ≠ b.entry → Tbl.look t.rp.fuses k = Tbl.look s.rp.fuses k) ∧
    Answers (.fuseBurnComplete dt) s (fun t => t = s.elapse dt) := by
  obtain ⟨u, hu⟩ : ∃ u, s.elapse dt = u := ⟨_, rfl⟩
  have hrp : u.rp = s.rp := hu ▸ s.elapse_rp dt
  refine ⟨answers_settles hs (exec_fuseDataWordWritten s dt)
      (v := { u with rp := { s.rp with burn := some { b with half := true }, fuses := Tbl.ins s.rp.fuses b.entry (false, b.data) } }) ?_
      (hu ▸ State.elapse_settled hs dt) ⟨by rw [hu], Tbl.look_ins_self _ _ _, fun k hk => Tbl.look_ins_ne _ _ hk⟩,
    answers_settles hs (exec_fuseBurnComplete s dt) ?_ (hu ▸ State.elapse_settled hs dt) hu.symm⟩
  · rw [hu]
    unfold State.fuseHalf
    rw [hrp, hb]
    simp only [hh]
    rfl
  · rw [hu]
    unfold State.fuseBurned
    rw [hrp, hb]
    simp only [hh]
    rfl

theorem answers_fuseBurnComplete {b : Burn} (hb : s.rp.burn = some b) (hh : b.half = true) :
    Answers (.fuseBurnComplete dt) s (fun t =>
      t = { s.elapse dt with rp := t.rp, rep := t.rep } ∧ Tbl.look t.rp.fuses b.entry = some (true, b.data) ∧
      (∀ k, k ≠ b.entry → Tbl.look t.rp.fuses k = Tbl.look s.rp.fuses k) ∧ s.raises t 0x016 ∧ s.counts t 5827 1 ∧
      s.logs t 0x0F07 b.entry 0 0) := by
  obtain ⟨u, hu⟩ : ∃ u, s.elapse dt = u := ⟨_, rfl⟩
  have hrp : u.rp = s.rp := hu ▸ s.elapse_rp dt
  obtain ⟨v, hv⟩ : ∃ v : State, { u with rp := { s.rp with burn := none, fuses := Tbl.ins s.rp.fuses b.entry (true, b.data) } } = v := ⟨_, rfl⟩
  have hval : u.fuseBurned = (((v.raise 0x016).slub 0x0F07 b.entry 0 0).count 5827).burnNext := by
    unfold State.fuseBurned
    rw [hrp, hb, ← hv]
    simp only [hh]
    rfl
  have hvlive : v.regs.live = s.regs.live := by
    rw [← hv]
    exact hu ▸ s.elapse_live dt
  have hv0 : s.Tells {} v.rep := by
    rw [← hv]
    exact hu ▸ State.Tells.elapse hs dt
  have hv1 := (((hv0.raise 0x016 hvlive).slub 0x0F07 b.entry 0 0).count 5827)
  obtain ⟨x, hx⟩ : ∃ x, ((v.raise 0x016).slub 0x0F07 b.entry 0 0).count 5827 = x := ⟨_, rfl⟩
  have hxr : State.RepOnly v x := hx ▸ ((((State.RepOnly.refl v).raise _).slub _ _ _ _).count _)
  rw [hx] at hval hv1
  have hburn := x.burnNext_burns
  obtain ⟨w, hw⟩ : ∃ w, x.burnNext = w := ⟨_, rfl⟩
  have hend := hv1.burnNext (hxr.live.trans hvlive)
  rw [hw] at hburn hval hend
  have hrest : w = { u with rp := w.rp, rep := w.rep } := by
    rw [hburn.rest, show x = _ from hxr, ← hv]
  have hfuses : w.rp.fuses = Tbl.ins s.rp.fuses b.entry (true, b.data) := by
    rw [hburn.fuses, show x.rp = v.rp by rw [show x = _ from hxr], ← hv]
  have hclk : ∀ c y, (v.raise 0x016).slubReq c y 0 0 = w.slubReq c y 0 0 := fun c y => by
    rw [hrest, ← hv]
    rfl
  have hclx : ∀ c y, x.slubReq c y 0 0 = w.slubReq c y 0 0 := fun c y => by
    rw [hburn.rest]
    rfl
  have hlook : Tbl.look w.rp.fuses b.entry = some (true, b.data) ∧
      ∀ k, k ≠ b.entry → Tbl.look w.rp.fuses k = Tbl.look s.rp.fuses k := by
    rw [hfuses]
    exact ⟨Tbl.look_ins_self _ _ _, fun k hk => Tbl.look_ins_ne _ _ hk⟩
  rw [hclk, hclx] at hend
  rcases hend with hend | hend
  · exact answers_reports hs (exec_fuseBurnComplete s dt) (by rw [hu, hval]) (State.RepOnly.refl _) hend fun r told =>
      ⟨by rw [hu, hrest], hlook.1, hlook.2, told.raises _ (by simp), told.counts (5827, 1) List.mem_cons_self, told.logs _ _ _ _ rfl⟩
  · refine answers_reports hs (exec_fuseBurnComplete s dt) (by rw [hu, hval]) (State.RepOnly.refl _) hend fun r told =>
      ⟨by rw [hu, hrest], hlook.1, hlook.2, told.raises _ (by simp), told.counts (5827, 1) List.mem_cons_self, ?_⟩
    refine (told.logsFirst (a' := 0x0F09) (b' := 7) (c' := 0) (d' := 0) [] (by decide) ?_).1
    have hb : (w.slubReq 0x0F09 7 0 0).before (w.slubReq 0x0F07 b.entry 0 0) = false :=
      SlubReq.before_of_code_lt (by decide : (0x0F07 : Nat) < 0x0F09)
    simp only [List.nil_append, List.cons_append, List.foldl_cons, List.foldl_nil]
    exact insSlub_cons [] hb

end

/-! ## Aging monitors (R534) -/

section
variable (s : State) (i m : Nat)

/-- The monitors' state with one margin taken. -/
def State.marginTaken : State :=
  { s with
    rp := { s.rp with
      margins := Tbl.put s.rp.margins i 0 m
      warned := if m < s.fld 0xF8004 0 10 then (if s.rp.warned.contains i then s.rp.warned else s.rp.warned ++ [i])
        else s.rp.warned.filter (· ≠ i)
      acted := if m < s.fld 0xF8004 16 10 then (if s.rp.acted.contains i then s.rp.acted else s.rp.acted ++ [i])
        else s.rp.acted.filter (· ≠ i) } }

theorem State.margin_eq : s.margin i m =
    let s1 := s.marginTaken i m
    let s2 := if m < s.fld 0xF8004 0 10 ∧ s.rp.warned.contains i = false then
      (s1.slub 0x0F06 (monitorOf i).1 (monitorOf i).2 m).raise 0x014 else s1
    if m < s.fld 0xF8004 16 10 ∧ s.rp.acted.contains i = false then
      (s2.slub 0x0F06 (monitorOf i).1 (monitorOf i).2 m).raise 0x015 else s2 := by
  unfold State.margin State.marginTaken
  simp only [Bool.and_eq_true, decide_eq_true_eq, Bool.not_eq_true']

theorem State.margin_repOnly : State.RepOnly (s.marginTaken i m) (s.margin i m) := by
  rw [State.margin_eq]
  have h := State.RepOnly.ite (p := m < s.fld 0xF8004 0 10 ∧ s.rp.warned.contains i = false)
    (((State.RepOnly.refl (s.marginTaken i m)).slub 0x0F06 (monitorOf i).1 (monitorOf i).2 m).raise 0x014) (State.RepOnly.refl _)
  exact .ite ((h.slub _ _ _ _).raise _) h

/-- What a monitor shows: its margin and whether each threshold has been reported. -/
def State.monitor : Nat × Bool × Bool := (Tbl.lookD s.rp.margins i 0, s.rp.warned.contains i, s.rp.acted.contains i)

theorem contains_after {l : List Nat} {p : Prop} [Decidable p] :
    (if p then (if l.contains i then l else l ++ [i]) else l.filter (· ≠ i)).contains i = decide p ∧
      ∀ j, j ≠ i → (if p then (if l.contains i then l else l ++ [i]) else l.filter (· ≠ i)).contains j = l.contains j := by
  by_cases hp : p
  · by_cases hc : l.contains i = true
    · simp only [hp, hc, if_true, decide_true]
      exact ⟨trivial, fun _ _ => trivial⟩
    · simp only [hp, hc, if_true, decide_true]
      exact ⟨by simp, fun j hj => by simp [hj]⟩
  · simp only [hp, if_false, decide_false]
    refine ⟨by simp, fun j hj => ?_⟩
    rw [Bool.eq_iff_iff, List.contains_iff_mem, List.contains_iff_mem, List.mem_filter]
    simp [hj]

theorem State.marginTaken_monitor : (s.marginTaken i m).monitor i = (m, decide (m < s.fld 0xF8004 0 10), decide (m < s.fld 0xF8004 16 10)) ∧
    ∀ j, j ≠ i → (s.marginTaken i m).monitor j = s.monitor j := by
  refine ⟨?_, fun j hj => ?_⟩
  · exact Prod.ext (Tbl.lookD_put_self _ _ _ _) (Prod.ext (contains_after i).1 (contains_after i).1)
  · exact Prod.ext (Tbl.lookD_put_ne _ _ _ _ hj) (Prod.ext ((contains_after i).2 j hj) ((contains_after i).2 j hj))

theorem State.margin_monitor (j : Nat) : (s.margin i m).monitor j = (s.marginTaken i m).monitor j := by
  rw [show s.margin i m = _ from s.margin_repOnly i m]
  rfl

variable {s} in
/-- A crossing of a threshold raises its source. -/
theorem State.Hears.margin {b : State} {k : Account} (h : s.Hears k b.rep) (hlive : b.regs.live = s.regs.live) :
    ∃ k', (∀ i ∈ k.srcs, i ∈ k'.srcs) ∧ (∀ e ∈ k.cts, e ∈ k'.cts) ∧ s.Hears k' (b.margin i m).rep ∧
      (m < b.fld 0xF8004 0 10 → b.rp.warned.contains i = false → 0x014 ∈ k'.srcs) ∧
      (m < b.fld 0xF8004 16 10 → b.rp.acted.contains i = false → 0x015 ∈ k'.srcs) := by
  have hslub : ∀ {k : Account} {c : State} x y z w, s.Hears k c.rep → s.Hears k (c.slub x y z w).rep := fun _ _ _ _ h =>
    h.mono ⟨⟨[], (List.append_nil _).symm⟩, fun _ => Nat.min_le_right _ _, fun _ _ h => h⟩ rfl
  have h1 : s.Hears k (b.marginTaken i m).rep := h
  rw [State.margin_eq]
  by_cases hw : m < b.fld 0xF8004 0 10 ∧ b.rp.warned.contains i = false <;>
    by_cases ha : m < b.fld 0xF8004 16 10 ∧ b.rp.acted.contains i = false
  · simp only [if_pos hw, if_pos ha]
    exact ⟨{ k with srcs := 0x015 :: 0x014 :: k.srcs }, fun i hi => List.mem_cons_of_mem _ (List.mem_cons_of_mem _ hi), fun _ he => he,
      (hslub 0x0F06 (monitorOf i).1 (monitorOf i).2 m ((hslub 0x0F06 (monitorOf i).1 (monitorOf i).2 m h1).raise 0x014 hlive)).raise 0x015 hlive,
      fun _ _ => by simp, fun _ _ => by simp⟩
  · simp only [if_pos hw, if_neg ha]
    exact ⟨{ k with srcs := 0x014 :: k.srcs }, fun i hi => List.mem_cons_of_mem _ hi, fun _ he => he,
      (hslub 0x0F06 (monitorOf i).1 (monitorOf i).2 m h1).raise 0x014 hlive, fun _ _ => by simp, fun h h' => absurd ⟨h, h'⟩ ha⟩
  · simp only [if_neg hw, if_pos ha]
    exact ⟨{ k with srcs := 0x015 :: k.srcs }, fun i hi => List.mem_cons_of_mem _ hi, fun _ he => he,
      (hslub 0x0F06 (monitorOf i).1 (monitorOf i).2 m h1).raise 0x015 hlive, fun h h' => absurd ⟨h, h'⟩ hw, fun _ _ => by simp⟩
  · simp only [if_neg hw, if_neg ha]
    exact ⟨k, fun _ hi => hi, fun _ he => he, h1, fun h h' => absurd ⟨h, h'⟩ hw, fun h h' => absurd ⟨h, h'⟩ ha⟩

end

/-- AGING_CHECK, in the state of its instant. -/
def State.agingChecked (s : State) (margins : List Nat) : State :=
  let s1 := (List.range 46).foldl (fun (a : State) i => a.margin i (min 1023 (margins.getD i 0))) s
  if s1.bit 0xF8000 1 then s1.rp.acted.foldl State.ageAct s1 else s1

theorem exec_agingCheck (s : State) (dt : Nat) (margins : List Nat) :
    exec (.agingCheck dt margins) s = s.at_ dt (fun u => u.agingChecked margins) := rfl

theorem State.agingChecked_quiet {u w : State} {margins : List Nat}
    (hw : (List.range 46).foldl (fun (a : State) i => a.margin i (min 1023 (margins.getD i 0))) u = w)
    (h : w.bit 0xF8000 1 = false) : u.agingChecked margins = w := by
  unfold State.agingChecked
  simp only [hw, h]
  rfl

section
variable {s : State} {dt : Nat} (hs : s.ready)
include hs

theorem answers_agingCheck (margins : List Nat) (hauto : s.bit 0xF8000 1 = false) :
    Answers (.agingCheck dt margins) s (fun t =>
      t = { s.elapse dt with
            rp := { s.rp with margins := t.rp.margins, warned := t.rp.warned, acted := t.rp.acted }, rep := t.rep } ∧
      ∀ i, i < 46 →
        let m := min 1023 (margins.getD i 0)
        Tbl.lookD t.rp.margins i 0 = m ∧
        (t.rp.warned.contains i = true ↔ m < s.fld 0xF8004 0 10) ∧ (t.rp.acted.contains i = true ↔ m < s.fld 0xF8004 16 10) ∧
        (m < s.fld 0xF8004 0 10 → s.rp.warned.contains i = false → s.raises t 0x014) ∧
        (m < s.fld 0xF8004 16 10 → s.rp.acted.contains i = false → s.raises t 0x015)) := by
  obtain ⟨u, hu⟩ : ∃ u, s.elapse dt = u := ⟨_, rfl⟩
  have hrp : u.rp = s.rp := hu ▸ s.elapse_rp dt
  have hulive : u.regs.live = s.regs.live := hu ▸ s.elapse_live dt
  let f : State → Nat → State := fun a i => a.margin i (min 1023 (margins.getD i 0))
  let I : State → Prop := fun b => b = { u with
    rp := { u.rp with margins := b.rp.margins, warned := b.rp.warned, acted := b.rp.acted }, rep := b.rep }
  have hlive : ∀ {b}, I b → b.regs.live = s.regs.live := fun {b} hb => (congrArg (fun x : State => x.regs.live) hb).trans hulive
  have hI : ∀ b i, I b → I (f b i) := fun b i hb => by
    show f b i = _
    rw [show f b i = _ from b.margin_repOnly i _, hb]
    rfl
  have hne : ∀ b i j, j ≠ i → (f b i).monitor j = b.monitor j := fun b i j hj =>
    (b.margin_monitor i _ j).trans ((b.marginTaken_monitor i _).2 j hj)
  obtain ⟨h1, -, h3⟩ := foldl_units (get := State.monitor) (f := f) (I := I)
    (Q := fun i _ w => w = (min 1023 (margins.getD i 0), decide (min 1023 (margins.getD i 0) < s.fld 0xF8004 0 10),
      decide (min 1023 (margins.getD i 0) < s.fld 0xF8004 16 10))) hne hI (fun b i hb => by
      rw [b.margin_monitor, (b.marginTaken_monitor i _).1, State.fld_of_live (hlive hb), State.fld_of_live (hlive hb)])
    (List.range 46) List.nodup_range u rfl
  obtain ⟨K, -, -, hK, hw⟩ := foldl_tells (get := State.monitor) (f := f) (I := I) (H := fun K b => s.Hears K b.rep)
    (D := fun i v => v = s.monitor i)
    (W := fun i K => (min 1023 (margins.getD i 0) < s.fld 0xF8004 0 10 → s.rp.warned.contains i = false → 0x014 ∈ K.srcs) ∧
      (min 1023 (margins.getD i 0) < s.fld 0xF8004 16 10 → s.rp.acted.contains i = false → 0x015 ∈ K.srcs))
    hne hI (fun i K K' ⟨h1, h2⟩ hle _ => ⟨fun a b => hle _ (h1 a b), fun a b => hle _ (h2 a b)⟩)
    (fun b i K hb hK => by
      obtain ⟨K', g1, g2, g3, g4, g5⟩ := hK.margin i (min 1023 (margins.getD i 0)) (hlive hb)
      rw [State.fld_of_live (hlive hb)] at g4 g5
      refine ⟨K', g1, g2, g3, fun hd => ⟨fun a hc => g4 a ?_, fun a hc => g5 a ?_⟩⟩
      · exact (congrArg (fun x => x.2.1) hd).trans hc
      · exact (congrArg (fun x => x.2.2) hd).trans hc) (List.range 46) List.nodup_range u rfl {} (hu ▸ State.Hears.start hs dt)
  obtain ⟨w, hwe⟩ : ∃ w, (List.range 46).foldl f u = w := ⟨_, rfl⟩
  rw [hwe] at h1 h3 hK
  have hmon : ∀ i, u.monitor i = s.monitor i := fun i => by
    unfold State.monitor
    rw [hrp]
  refine answers_hears hs (exec_agingCheck s dt margins) (by
    rw [hu]
    exact (State.agingChecked_quiet hwe ((State.bit_of_live (hlive h3) _ _).trans hauto))) hK fun r heard => ⟨?_, fun i hi => ?_⟩
  · rw [hu, h3, hrp]
  · have hm := h1 i (List.mem_range.2 hi)
    obtain ⟨g1, g2⟩ := hw i (List.mem_range.2 hi) (hmon i)
    refine ⟨congrArg (fun x => x.1) hm, ?_, ?_, fun a b => heard.raises _ (g1 a b), fun a b => heard.raises _ (g2 a b)⟩
    · rw [show w.rp.warned.contains i = _ from congrArg (fun x => x.2.1) hm, decide_eq_true_eq]
    · rw [show w.rp.acted.contains i = _ from congrArg (fun x => x.2.2) hm, decide_eq_true_eq]

end

/-- Settles O56: a doff from RP_DOFF to its switch or its end, the aging monitors, and the burn of a fuse entry. -/
theorem doffsAgingAndFuses : Obligations.DoffsAgingAndFuses := by
  intro s dt hs
  refine ⟨fun w hw hb => answers_rpDoffGo hs w hw hb, fun d hd => ?_, fun m h => answers_agingCheck hs m h,
    fun w hw hb => answers_rpCmdBurn hs w hw hb, fun b hb => ⟨answers_fuse_half hs hb, answers_fuseBurnComplete hs hb⟩⟩
  obtain ⟨h1, h2⟩ := answers_doffSwitch (dt := dt) hs hd
  obtain ⟨h3, h4⟩ := answers_doffAbandon (dt := dt) hs hd
  exact ⟨answers_doffPrepared hs hd, h1, h2, h3, h4⟩

end Sys2Proof.Machine
end

section
/-!
PROOFS. How a bobbin leaves a ready set and how a channel goes from state to state: relations that these operations keep, and what
they make of the channel itself.
-/

namespace Sys2Proof.Machine

/-- A relation that reports and changes of the promise, the creel, the key store and the grace of the configuration CRC keep. -/
structure FreeFrame (R : State → State → Prop) : Prop extends DrFrame R where
  cr : ∀ a x, R a { a with cr := x }
  ks : ∀ a x, R a { a with ks := x }
  grace : ∀ a v g l, R a { a with regs := { a.regs with passValid := v, graceOn := g, graceLeft := l } }

/-- A relation that reports and changes of the promise, the creel, the memory, the key store and the grace of the configuration CRC
keep: what the settling of a bobbin changes beside its channel. -/
structure SettleFrame (R : State → State → Prop) : Prop extends FreeFrame R where
  mm : ∀ a x, R a { a with mm := x }

/-- A relation that reports and changes of the promise and of one channel keep. -/
structure ChanFrame (ch : Nat) (R : State → State → Prop) : Prop extends DrFrame R where
  chan : ∀ a c, R a (a.setCh ch c)

/-- A relation that changes of the memory keep too: a frame chosen may go back. -/
structure ModeFrame (ch : Nat) (R : State → State → Prop) : Prop extends ChanFrame ch R where
  mm : ∀ a x, R a { a with mm := x }

/-- A relation that both keep. -/
structure WireFrame (ch : Nat) (R : State → State → Prop) : Prop extends SettleFrame R where
  chan : ∀ a c, R a (a.setCh ch c)

section
variable {R : State → State → Prop} {ch : Nat}

theorem WireFrame.modeFrame (F : WireFrame ch R) : ModeFrame ch R := { F with }

theorem Frame.spEvent (F : Frame R) {a b : State} (h : R a b) (c off : Nat) : R a (b.spEvent c off) := F.raise (F.slub h _ _ _ _) _

theorem State.Hears.slub {s b : State} {k : Account} (h : s.Hears k b.rep) (c x y z : Nat) : s.Hears k (b.slub c x y z).rep :=
  h.mono ⟨⟨[], (List.append_nil _).symm⟩, fun _ => Nat.min_le_right _ _, fun _ _ h => h⟩ rfl

theorem State.Hears.spEvent {s b : State} {k : Account} (h : s.Hears k b.rep) (hlive : b.regs.live = s.regs.live) (c off : Nat) :
    s.Hears { k with srcs := (0x080 + 16 * b.spOf c + off) :: k.srcs } (b.spEvent c off).rep :=
  State.Hears.raise (b := b.slub (0x0210 + off) (b.spD0 c) (b.spD1 c) 0) (h.slub _ _ _ _) _ hlive

/-! ## What stays reported beside other changes -/

theorem State.spEvent_repOnly {a b : State} (h : State.RepOnly a b) {c off : Nat} : State.RepOnly a (b.spEvent c off) :=
  (h.slub _ _ _ _).raise _

/-- A command at a free instant whose meaning is a state beside reports, and what stays reported. -/
theorem answers_hears_reports {c : Instr} {s : State} {dt : Nat} {g : State → State} {P : State → Prop} {v w : State} {k : Account}
    (hs : s.ready) (hc : exec c s = s.at_ dt g) (hg : g (s.elapse dt) = w) (hw : State.RepOnly v w) (h : s.Hears k w.rep)
    (hP : ∀ r', s.Heard k { v with rep := r' } → P { v with rep := r' }) : Answers c s P :=
  answers_hears hs hc (hg.trans hw) h hP

/-! ## A bobbin leaves (R94, R95, R131) -/

section
variable (F : FreeFrame R) (a : State)
include F

theorem FreeFrame.refreshLow : R a a.refreshLow := by
  have h := F.cr a { a.cr with low := decide (a.bobFree < a.fld 0x48030 0 17) }
  exact F.ite (F.raise h _) h

theorem FreeFrame.freeBob (i : Nat) : R a (a.freeBob i) := by
  unfold State.freeBob
  split
  · exact F.refl a
  · exact F.trans (F.cr a _) (F.refreshLow _)

theorem FreeFrame.coverChange : R a a.coverChange := by
  have h := F.grace a false true (a.fld 0x1020 4 4)
  exact F.ite (F.count h _) h

theorem FreeFrame.closeDone (n : Nat) : R a (a.closeDone n) := by
  unfold State.closeDone
  split
  · exact F.refl a
  · rename_i x _
    refine F.ite ?_ (F.refl a)
    obtain ⟨s2, hs2⟩ : ∃ s2, (a.setStream n
      { x with st := .closed, reserve := 0, closeDesc := none, breach := false, stale := false }).setUse x.cfg.ch.val
        { a.use x.cfg.ch.val with res := (a.use x.cfg.ch.val).res - x.reserve } = s2 := ⟨_, rfl⟩
    have h2 : R a s2 := hs2 ▸ F.trans (F.setStream a n _) (F.cr _ _)
    simp only [hs2]
    have h4 : ∀ b : State, R a b → ∀ e, R a (b.status e).coverChange := fun b h e => F.trans (F.status h e) (F.coverChange _)
    have hall : ∀ b : State, R a b → R a (match x.closeDesc with
        | none => b
        | some d => b.complete d { complOf d 3 0 with stream := n, turn := a.tm.turn }) := fun b h => by
      split
      · exact h
      · exact F.complete h _ _
    exact hall _ (h4 _ (F.ite (F.trans h2 (F.ks _ _)) h2) _)

theorem FreeFrame.releaseUsed (n : Nat) : R a (a.releaseUsed n) := F.trans (F.modStream a n _) (F.closeDone _ n)

theorem FreeFrame.sendCompl (d : Desc) (st : Nat) (sof eof : BitVec 64) (errt : Bool) : R a (a.sendCompl d st sof eof errt) :=
  F.complete (F.refl a) _ _

end

/-- A channel after a bobbin left its ready set. -/
def Channel.dropped (c : Channel) (e : Ready) : Channel :=
  { c with
    ready := c.ready.filter (fun x => decide (x.bob ≠ e.bob))
    chosen := if c.chosen = some e.bob then none else c.chosen }

/-- The state after a bobbin left a ready set, before the bobbin is settled. -/
def State.dropCh (s : State) (ch : Nat) (e : Ready) : State := s.setCh ch ((s.ch ch).dropped e)

/-- And its record has left the transmit sliver. -/
def State.dropRec (s : State) (ch : Nat) (e : Ready) : State :=
  (s.dropCh ch e).setSliver ((s.dropCh ch e).txSliver ch) (((s.dropCh ch e).sliver ((s.dropCh ch e).txSliver ch)).drop e.bob)

section
variable (F : FreeFrame R) (a : State)
include F

theorem FreeFrame.dropReady (e : Ready) : R (a.dropRec ch e) (a.dropReady ch e) := F.freeBob _ _

theorem FreeFrame.leaveUnsent (e : Ready) (x y : Nat) : R (a.dropRec ch e) (a.leaveUnsent ch e x y) := by
  have h := FreeFrame.dropReady (ch := ch) F a e
  unfold State.leaveUnsent
  simp only
  split
  · exact F.trans h (F.sendCompl _ _ _ _ _ _)
  · exact F.trans (F.trans (F.trans h (F.modStream _ _ _)) (F.relGone _ _ _ _)) (F.releaseUsed _ _)

theorem FreeFrame.abort (e : Ready) : R (a.dropRec ch e) (a.abort ch e) :=
  F.spEvent (F.chCount (F.leaveUnsent a e 5 5) _ _) _ _

end

section
variable (F : SettleFrame R) (a : State)
include F

theorem SettleFrame.leaveUnsent (e : Ready) (x y : Nat) : R (a.dropCh ch e) (a.leaveUnsent ch e x y) :=
  F.trans (F.mm _ _) (F.toFreeFrame.leaveUnsent a e x y)

theorem SettleFrame.abort (e : Ready) : R (a.dropCh ch e) (a.abort ch e) := F.trans (F.mm _ _) (F.toFreeFrame.abort a e)

end

section
variable (F : WireFrame ch R) (a : State)
include F

theorem WireFrame.leaveUnsent (e : Ready) (x y : Nat) : R a (a.leaveUnsent ch e x y) :=
  F.trans (F.chan a _) (F.toSettleFrame.leaveUnsent a e x y)

theorem WireFrame.abort (e : Ready) : R a (a.abort ch e) := F.trans (F.chan a _) (F.toSettleFrame.abort a e)

theorem WireFrame.abortAll (l : List Ready) : R a (a.abortAll ch l) := F.foldl (fun b e => F.abort b e) l a

theorem WireFrame.removeStreams : R a (a.removeStreams ch) := F.foldl (fun b e => F.leaveUnsent b e 5 0) _ a

end

/-! ## A channel changes its state (R84 to R88, R100 to R112) -/

section
variable (F : ChanFrame ch R) (a : State)
include F

theorem ChanFrame.report : R a (a.report ch) := F.ite (F.detect a ch 4 0 0) (F.refl a)

theorem ChanFrame.warnUpd : R a (a.warnUpd ch) := F.ite (F.spEvent (F.chan a _) _ _) (F.chan a _)

theorem ChanFrame.enterSt (st : ChState) : R a (a.enterSt ch st) := by
  have h : ∀ b, R a b → R a (match st with
      | .errorPassive => b.spEvent ch 1
      | .errorActive => b.spEvent ch 3
      | .quarantined => b.spEvent ch 5
      | _ => b) := fun b h => by
    split
    · exact F.spEvent h _ _
    · exact F.spEvent h _ _
    · exact F.spEvent h _ _
    · exact h
  have h2 := h _ (F.chan a { a.ch ch with st := st })
  exact F.ite (F.refl a) (F.ite (F.trans h2 (F.report _)) h2)

theorem ChanFrame.holdEnd : R a (a.holdEnd ch) :=
  F.ite (F.trans (F.chan a _) (F.enterSt _ _)) (F.trans (F.chan a _) (F.enterSt _ _))

end

section
variable (F : ModeFrame ch R) (a : State)
include F

theorem ModeFrame.unchoose : R a (a.unchoose ch) := F.trans (F.chan a _) (F.mm _ _)

theorem ModeFrame.setMode (m : ChMode) : R a (a.setMode ch m) := by
  have h0 : R a (if m = .normal ∨ m = .loopback then a else a.unchoose ch) := F.ite (F.refl a) (F.unchoose a)
  obtain ⟨s0, hs0⟩ : ∃ s0, (if m = .normal ∨ m = .loopback then a else a.unchoose ch) = s0 := ⟨_, rfl⟩
  unfold State.setMode
  simp only
  rw [hs0] at h0 ⊢
  have hch : ∀ f, R a (s0.modCh ch f) := fun _ => F.trans h0 (F.chan s0 _)
  refine F.ite (F.chan a _) (F.trans (F.ite ?_ (F.ite ?_ (hch _))) (F.report _))
  · exact F.trans (F.trans (hch _) (F.enterSt _ _)) (F.warnUpd _)
  · exact F.trans (hch _) (F.enterSt _ _)

theorem ModeFrame.enterActive : R a (a.enterActive ch) := by
  have h := F.enterSt a .errorActive
  unfold State.enterActive
  simp only
  split
  · exact F.trans h (F.setMode _ _)
  · exact h

end

section
variable (F : WireFrame ch R) (a : State)
include F

theorem WireFrame.busOffEntry : R a (a.busOffEntry ch) := by
  have C := F.modeFrame
  have h1 : ∀ v, R a ((a.setCh ch v).unchoose ch) := fun v => F.trans (F.chan a v) (C.unchoose _)
  have h2 : ∀ v, R a (((((a.setCh ch v).unchoose ch).chCount ch 10).spEvent ch 0).removeStreams ch) := fun v =>
    F.trans (F.spEvent (F.chCount (h1 v) _ _) _ _) (F.removeStreams _)
  have h3 := fun v => F.trans (F.trans (h2 v) (F.chan _ { (((((a.setCh ch v).unchoose ch).chCount ch 10).spEvent ch 0).removeStreams ch).ch ch with
    holdLeft := a.fld (spChBase ch + 0x14) 8 8 })) (C.enterSt _ .boHold)
  exact F.ite (F.trans (h2 _) (C.enterSt _ _)) (F.ite (F.trans (h3 _) (C.holdEnd _)) (h3 _))

theorem WireFrame.confine : R a (a.confine ch) := by
  have C := F.modeFrame
  have h := C.warnUpd a
  exact F.ite (F.ite (F.trans h (F.busOffEntry _)) (F.ite (F.trans h (C.enterSt _ _)) (F.trans h (C.enterActive _)))) h

end

end

/-! ## What becomes of the channel -/

theorem State.keepsChs_frame : SettleFrame (fun a b => b.chs = a.chs) where
  refl _ := rfl
  trans h g := g.trans h
  rep _ _ _ _ := rfl
  dr _ _ := rfl
  cr _ _ := rfl
  mm _ _ := rfl
  ks _ _ := rfl
  grace _ _ _ _ := rfl

theorem State.ch_of_chs {a b : State} (h : b.chs = a.chs) (k : Nat) : b.ch k = a.ch k := by unfold State.ch; rw [h]

section
variable (a : State) (ch : Nat)

theorem State.report_ch (k : Nat) : (a.report ch).ch k = a.ch k :=
  State.ch_of_chs (State.keepsChs_frame.ite (State.keepsChs_frame.detect a ch 4 0 0) rfl) k

theorem State.spEvent_ch (off k : Nat) : (a.spEvent ch off).ch k = a.ch k := rfl

theorem State.chCount_ch (off k : Nat) : (a.chCount ch off).ch k = a.ch k := rfl

theorem State.warnUpd_ch : (a.warnUpd ch).ch ch =
    { a.ch ch with warn := decide (max (a.ch ch).tec (a.ch ch).recn ≥ a.fld (spChBase ch + 0x10) 0 8) } := by
  unfold State.warnUpd
  simp only
  split
  · exact (State.spEvent_ch _ _ _ _).trans (State.setCh_self _ _ _)
  · exact State.setCh_self _ _ _

theorem State.enterSt_ch (st : ChState) : (a.enterSt ch st).ch ch = { a.ch ch with st := st } := by
  have hsrc : ∀ b : State, (match st with
      | .errorPassive => b.spEvent ch 1
      | .errorActive => b.spEvent ch 3
      | .quarantined => b.spEvent ch 5
      | _ => b).ch ch = b.ch ch := fun b => by
    split
    · rfl
    · rfl
    · rfl
    · rfl
  have hset := (hsrc (a.setCh ch { a.ch ch with st := st })).trans (a.setCh_self _ _)
  unfold State.enterSt
  simp only
  split
  · next h => rw [← h]
  · split
    · exact (State.report_ch _ _ _).trans hset
    · exact hset

theorem State.unchoose_ch : (a.unchoose ch).ch ch = { a.ch ch with chosen := none, offered := false } := a.setCh_self _ _

theorem State.enterActive_ch (h : (a.ch ch).heldMode = false) : (a.enterActive ch).ch ch = { a.ch ch with st := .errorActive } := by
  have hst := a.enterSt_ch ch .errorActive
  obtain ⟨b, hb⟩ : ∃ b, a.enterSt ch .errorActive = b := ⟨_, rfl⟩
  rw [hb] at hst
  have hno : (if (b.ch ch).heldMode then (b.ch ch).pendMode else none) = none := if_neg (by rw [hst, h]; exact Bool.false_ne_true)
  unfold State.enterActive
  simp only
  rw [hb, hno]
  exact hst

theorem State.leaveUnsent_ch (e : Ready) (x y k : Nat) : (a.leaveUnsent ch e x y).ch k = (a.dropCh ch e).ch k :=
  State.ch_of_chs (State.keepsChs_frame.leaveUnsent a e x y) k

theorem State.abort_ch (e : Ready) (k : Nat) : (a.abort ch e).ch k = (a.dropCh ch e).ch k :=
  State.ch_of_chs (State.keepsChs_frame.abort a e) k

end

/-- From c to c' bobbins left the ready set, with them perhaps the one chosen. -/
structure Channel.Shed (c c' : Channel) (gone : List Ready) : Prop where
  rest : c' = { c with ready := c'.ready, chosen := c'.chosen }
  ready : c'.ready = c.ready.filter (fun x => gone.all (fun e => decide (x.bob ≠ e.bob)))
  chosen : c'.chosen = c.chosen ∨ c'.chosen = none

theorem Channel.Shed.mem {c c' : Channel} {gone : List Ready} (h : c.Shed c' gone) {x : Ready} :
    x ∈ c'.ready ↔ x ∈ c.ready ∧ ∀ e ∈ gone, x.bob ≠ e.bob := by
  rw [h.ready]
  simp

theorem Channel.Shed.cons {c c' : Channel} {e : Ready} {gone : List Ready} (h : (c.dropped e).Shed c' gone) : c.Shed c' (e :: gone) := by
  obtain ⟨h1, h2, h3⟩ := h
  have hch : (c.dropped e).chosen = c.chosen ∨ (c.dropped e).chosen = none := by
    show (if c.chosen = some e.bob then none else c.chosen) = _ ∨ (if c.chosen = some e.bob then none else c.chosen) = _
    split
    · exact .inr rfl
    · exact .inl rfl
  refine ⟨h1, ?_, ?_⟩
  · rw [h2]
    show (c.ready.filter _).filter _ = _
    rw [List.filter_filter]
    exact List.filter_congr fun x _ => by rw [List.all_cons, Bool.and_comm]
  · rcases h3 with h3 | h3
    · rw [h3]
      exact hch
    · exact .inr h3

/-- Bobbins that leave one after the other, whatever becomes of them. -/
theorem State.foldl_shed {ch : Nat} {f : State → Ready → State} (hf : ∀ a e, (f a e).ch ch = (a.dropCh ch e).ch ch) (l : List Ready)
    (a : State) : (a.ch ch).Shed ((l.foldl f a).ch ch) l := by
  induction l generalizing a with
  | nil => exact ⟨rfl, by simp, .inl rfl⟩
  | cons e l ih =>
    have h := ih (f a e)
    rw [hf, State.dropCh, State.setCh_self] at h
    exact h.cons

theorem State.removeStreams_shed (a : State) (ch : Nat) : (a.ch ch).Shed ((a.removeStreams ch).ch ch)
    ((a.ch ch).ready.filter (fun e => match e.kind with | .stream _ _ => true | .send _ => false)) :=
  State.foldl_shed (fun a e => a.leaveUnsent_ch ch e 5 0 ch) _ a

/-! ## What else changes -/

/-- From a to b one channel, the promise, the creel, the memory, the key store and the grace of the configuration CRC change, and no
report is taken back. -/
structure State.WireOnly (ch : Nat) (a b : State) : Prop where
  rest : b = { a with chs := b.chs, cr := b.cr, mm := b.mm, ks := b.ks, dr := b.dr, regs := b.regs, rep := b.rep }
  regs : b.regs = { a.regs with passValid := b.regs.passValid, graceOn := b.regs.graceOn, graceLeft := b.regs.graceLeft }
  others : ∀ n, n ≠ ch → b.ch n = a.ch n
  grows : Rep.Grows a.rep b.rep
  whOld : b.rep.whOld = a.rep.whOld

theorem State.wireOnly_frame (ch : Nat) : WireFrame ch (State.WireOnly ch) where
  refl _ := ⟨rfl, rfl, fun _ _ => rfl, .refl _, rfl⟩
  trans h g := ⟨g.rest.trans (by rw [h.rest]), g.regs.trans (by rw [h.regs]), fun n hn => (g.others n hn).trans (h.others n hn),
    h.grows.trans g.grows, g.whOld.trans h.whOld⟩
  rep _ _ hg hw := ⟨rfl, rfl, fun _ _ => rfl, hg, hw⟩
  dr _ _ := ⟨rfl, rfl, fun _ _ => rfl, .refl _, rfl⟩
  cr _ _ := ⟨rfl, rfl, fun _ _ => rfl, .refl _, rfl⟩
  mm _ _ := ⟨rfl, rfl, fun _ _ => rfl, .refl _, rfl⟩
  ks _ _ := ⟨rfl, rfl, fun _ _ => rfl, .refl _, rfl⟩
  grace _ _ _ _ := ⟨rfl, rfl, fun _ _ => rfl, .refl _, rfl⟩
  chan a _ := ⟨rfl, rfl, fun _ hn => a.setCh_ne _ hn, .refl _, rfl⟩

/-- From a to b one channel, the promise and the memory change, and no report is taken back. -/
structure State.ModeOnly (ch : Nat) (a b : State) : Prop where
  rest : b = { a with chs := b.chs, mm := b.mm, dr := b.dr, rep := b.rep }
  others : ∀ n, n ≠ ch → b.ch n = a.ch n
  grows : Rep.Grows a.rep b.rep
  whOld : b.rep.whOld = a.rep.whOld

theorem State.modeOnly_frame (ch : Nat) : ModeFrame ch (State.ModeOnly ch) where
  refl _ := ⟨rfl, fun _ _ => rfl, .refl _, rfl⟩
  trans h g := ⟨g.rest.trans (by rw [h.rest]), fun n hn => (g.others n hn).trans (h.others n hn), h.grows.trans g.grows,
    g.whOld.trans h.whOld⟩
  rep _ _ hg hw := ⟨rfl, fun _ _ => rfl, hg, hw⟩
  dr _ _ := ⟨rfl, fun _ _ => rfl, .refl _, rfl⟩
  mm _ _ := ⟨rfl, fun _ _ => rfl, .refl _, rfl⟩
  chan a _ := ⟨rfl, fun _ hn => a.setCh_ne _ hn, .refl _, rfl⟩

theorem State.keepsMm_frame (ch : Nat) : ChanFrame ch (fun a b => b.mm = a.mm) where
  refl _ := rfl
  trans h g := g.trans h
  rep _ _ _ _ := rfl
  dr _ _ := rfl
  chan _ _ := rfl

section
variable {ch : Nat} {a b : State}

theorem State.WireOnly.live (h : State.WireOnly ch a b) : b.regs.live = a.regs.live := by rw [h.regs]
theorem State.ModeOnly.live (h : State.ModeOnly ch a b) : b.regs.live = a.regs.live := by rw [h.rest]
theorem State.WireOnly.spOf (h : State.WireOnly ch a b) (k : Nat) : b.spOf k = a.spOf k := by rw [h.rest]; rfl
theorem State.ModeOnly.spOf (h : State.ModeOnly ch a b) (k : Nat) : b.spOf k = a.spOf k := by rw [h.rest]; rfl

end

end Sys2Proof.Machine
end

section
/-!
PROOFS. Spindles without progress or with a failed self-check (R508, R509, R526).
-/

namespace Sys2Proof.Machine

/-- Only bobbins of SENDs. -/
def Ready.isSend (e : Ready) : Bool := match e.kind with | .send _ => true | .stream _ _ => false

section
variable (s : State) (ch : Nat)

theorem State.clearTx_recs (sl : Nat) : ((s.clearTx sl).sliver sl).recs = [] :=
  congrArg Sliver.recs (Tbl.lookD_put_self _ _ _ _)

/-- A channel whose spindle is reset, before its bobbins leave (R509). -/
def State.resetBegun : State :=
  (s.setSpindle (s.spOf ch) { s.spindle (s.spOf ch) with inReset := some ch }).modCh ch (fun c => { c with
    wire := .idle, chosen := none, offered := false, idleTurns := 0, integWait := false })

/-- Its ready set emptied. -/
def State.resetDrained : State :=
  ((s.ch ch).ready.filter Ready.isSend).foldl (fun (a : State) e => a.leaveUnsent ch e 4 0) ((s.resetBegun ch).removeStreams ch)

/-- Its transmit sliver emptied, and a frame in reception lost. -/
def State.resetCleared : State :=
  let t := (s.resetDrained ch).clearTx (2 * s.spOf ch + 1)
  if decide ((s.ch ch).wire = .otherFrame) then (t.chCount ch 13).count (5504 + 8 * s.spOf ch + 3) else t

theorem State.resetServing_eq : s.resetServing ch =
    if (s.ch ch).st.part then (s.resetCleared ch).enterSt ch .integrating else s.resetCleared ch := rfl

theorem State.resetBegun_ch : (s.resetBegun ch).ch ch =
    { s.ch ch with wire := .idle, chosen := none, offered := false, idleTurns := 0, integWait := false } := State.setCh_self _ _ _

theorem State.resetDrained_ready : ((s.resetDrained ch).ch ch).ready = [] := by
  have h1 := (s.resetBegun ch).removeStreams_shed ch
  have h2 := State.foldl_shed (fun a e => a.leaveUnsent_ch ch e 4 0 ch) ((s.ch ch).ready.filter Ready.isSend)
    ((s.resetBegun ch).removeStreams ch)
  refine List.eq_nil_iff_forall_not_mem.2 fun x hx => ?_
  obtain ⟨hx1, hsend⟩ := h2.mem.1 hx
  obtain ⟨hx2, hstream⟩ := h1.mem.1 hx1
  rw [State.resetBegun_ch] at hx2 hstream
  cases hk : x.kind with
  | send d => exact hsend x (List.mem_filter.2 ⟨hx2, by rw [Ready.isSend, hk]⟩) rfl
  | stream n r => exact hstream x (List.mem_filter.2 ⟨hx2, by rw [hk]⟩) rfl

theorem State.resetDrained_rest : ∃ r o, (s.resetDrained ch).ch ch = { (s.resetBegun ch).ch ch with ready := r, chosen := o } := by
  have h1 := (s.resetBegun ch).removeStreams_shed ch
  have h2 := State.foldl_shed (fun a e => a.leaveUnsent_ch ch e 4 0 ch) ((s.ch ch).ready.filter Ready.isSend)
    ((s.resetBegun ch).removeStreams ch)
  exact ⟨_, _, h2.rest.trans (by rw [h1.rest])⟩

theorem State.resetServing_wire : State.WireOnly ch
    (s.setSpindle (s.spOf ch) { s.spindle (s.spOf ch) with inReset := some ch }) (s.resetServing ch) := by
  have W := State.wireOnly_frame ch
  have h2 : State.WireOnly ch (s.setSpindle (s.spOf ch) { s.spindle (s.spOf ch) with inReset := some ch }) (s.resetDrained ch) :=
    W.trans (W.trans (W.chan _ _) (W.removeStreams _)) (W.foldl (fun b e => W.leaveUnsent b e 4 0) _ _)
  have h3 : State.WireOnly ch (s.resetDrained ch) ((s.resetDrained ch).clearTx (2 * s.spOf ch + 1)) := W.countN (W.mm _ _) _ _
  have h4 : State.WireOnly ch (s.setSpindle (s.spOf ch) { s.spindle (s.spOf ch) with inReset := some ch }) (s.resetCleared ch) :=
    W.trans h2 (W.ite (W.count (W.chCount h3 _ _) _) h3)
  rw [State.resetServing_eq]
  exact W.ite (W.trans h4 (W.modeFrame.enterSt _ _)) h4

theorem State.resetServing_spec :
    let t := s.resetServing ch
    (t.ch ch).idleTurns = 0 ∧ (t.ch ch).wire = .idle ∧ (t.ch ch).tec = (s.ch ch).tec ∧ (t.ch ch).recn = (s.ch ch).recn ∧
    (t.ch ch).ready = [] ∧ (t.sliver (2 * s.spOf ch + 1)).recs = [] := by
  intro t
  have hcleared : ((s.resetCleared ch).ch ch) = ((s.resetDrained ch).ch ch) ∧
      ((s.resetCleared ch).sliver (2 * s.spOf ch + 1)).recs = [] := by
    obtain ⟨hrest, -, -⟩ := (s.resetDrained ch).clearTx_spec (2 * s.spOf ch + 1)
    have h := (s.resetDrained ch).clearTx_recs (2 * s.spOf ch + 1)
    unfold State.resetCleared
    obtain ⟨e, he⟩ : ∃ e, (s.resetDrained ch).clearTx (2 * s.spOf ch + 1) = e := ⟨_, rfl⟩
    rw [he] at h hrest ⊢
    have hch : e.ch ch = (s.resetDrained ch).ch ch := State.ch_of_chs (by rw [hrest]) _
    simp only
    split
    · exact ⟨hch, h⟩
    · exact ⟨hch, h⟩
  obtain ⟨hch, hrecs⟩ := hcleared
  have hready := s.resetDrained_ready ch
  obtain ⟨r, o, hrest⟩ := s.resetDrained_rest ch
  rw [State.resetBegun_ch] at hrest
  obtain ⟨b, hb⟩ : ∃ b, s.resetCleared ch = b := ⟨_, rfl⟩
  obtain ⟨x, hx⟩ : ∃ x, (s.resetDrained ch).ch ch = x := ⟨_, rfl⟩
  rw [hb, hx] at hch
  rw [hb] at hrecs
  rw [hx] at hready hrest
  have hend : ∃ st, t.ch ch = { x with st := st } ∧ t.mm = b.mm := by
    have ht : t = if (s.ch ch).st.part then b.enterSt ch .integrating else b := hb ▸ s.resetServing_eq ch
    rw [ht]
    split
    · exact ⟨.integrating, by rw [b.enterSt_ch ch, hch], (State.keepsMm_frame ch).enterSt b _⟩
    · exact ⟨x.st, hch, rfl⟩
  obtain ⟨st, htch, hmm⟩ := hend
  rw [htch]
  refine ⟨?_, ?_, ?_, ?_, hready, ?_⟩
  · rw [hrest]
  · rw [hrest]
  · rw [hrest]
  · rw [hrest]
  · unfold State.sliver at hrecs ⊢
    rw [hmm]
    exact hrecs

end

/-! ## A spindle without progress (R508) -/

section
variable {s : State} {dt : Nat} (hs : s.ready) (ch : Fin 16)

/-- Is a channel's spindle without progress (R508)? -/
def State.stuck (s : State) (ch : Nat) : Prop :=
  let c := s.ch ch
  c.st ≠ .off ∧ c.st ≠ .boHold ∧ c.st ≠ .boWait ∧ c.st ≠ .quarantined ∧ s.fld 0xF0004 16 12 ≤ c.idleTurns

/-- What SPINDLE_PROGRESS_TIMEOUT does, in the state of its instant. -/
def State.progressLost (s : State) (ch : Nat) : State :=
  let c := s.ch ch
  let counts := decide (c.st ≠ .off) && decide (c.st ≠ .boHold) && decide (c.st ≠ .boWait) && decide (c.st ≠ .quarantined)
  if counts && decide (c.idleTurns ≥ s.fld 0xF0004 16 12) then
    let d0 := s.spD0 ch
    let s1 := s.modCh ch (fun c => { c with idleTurns := 0 })
    let r := if s1.fld 0xF0004 28 2 = 1 then s1.relieve ch true else (s1.resetServing ch, false)
    ((r.1.slub 0x0220 d0 (b01 r.2) 0).raise 0x008).count 5763
  else s

theorem exec_spindleProgressTimeout (s : State) :
    exec (.spindleProgressTimeout dt ch) s = s.at_ dt (fun s => s.progressLost ch.val) := rfl

theorem State.progressLost_idle {u : State} {ch : Nat} (h : ¬u.stuck ch) : u.progressLost ch = u := by
  refine if_neg fun hg => h ?_
  simp only [Bool.and_eq_true, decide_eq_true_eq] at hg
  obtain ⟨⟨⟨⟨h1, h2⟩, h3⟩, h4⟩, h5⟩ := hg
  exact ⟨h1, h2, h3, h4, h5⟩

theorem State.progressLost_stuck {u : State} {ch : Nat} (h : u.stuck ch) :
    u.progressLost ch =
      let s1 := u.modCh ch (fun c => { c with idleTurns := 0 })
      let r := if s1.fld 0xF0004 28 2 = 1 then s1.relieve ch true else (s1.resetServing ch, false)
      ((r.1.slub 0x0220 (u.spD0 ch) (b01 r.2) 0).raise 0x008).count 5763 := by
  obtain ⟨h1, h2, h3, h4, h5⟩ := h
  refine if_pos ?_
  simp only [Bool.and_eq_true, decide_eq_true_eq]
  exact ⟨⟨⟨⟨h1, h2⟩, h3⟩, h4⟩, h5⟩

theorem State.elapse_stuck (s : State) (dt ch : Nat) : (s.elapse dt).stuck ch ↔ s.stuck ch := by
  unfold State.stuck
  rw [State.elapse_ch, State.elapse_fld]

include hs

theorem answers_spindleProgressTimeout_reset (hdue : s.stuck ch.val) (hact : s.fld 0xF0004 28 2 ≠ 1) :
    let sp := s.spOf ch.val
    Answers (.spindleProgressTimeout dt ch) s (fun t =>
      (t.spindle sp).inReset = some ch.val ∧ (t.ch ch.val).idleTurns = 0 ∧ (t.ch ch.val).wire = .idle ∧
      (t.ch ch.val).tec = (s.ch ch.val).tec ∧ (t.ch ch.val).recn = (s.ch ch.val).recn ∧ (t.ch ch.val).ready = [] ∧
      (t.sliver (2 * sp + 1)).recs = [] ∧ t.rp = s.rp ∧ t.regs.live = s.regs.live ∧ s.raises t 0x008 ∧ s.counts t 5763 1) := by
  intro sp
  obtain ⟨u, hu⟩ : ∃ u, s.elapse dt = u := ⟨_, rfl⟩
  have hstuck : u.stuck ch.val := hu ▸ (s.elapse_stuck dt ch.val).2 hdue
  obtain ⟨b, hb⟩ : ∃ b, u.modCh ch.val (fun c => { c with idleTurns := 0 }) = b := ⟨_, rfl⟩
  have hbr : b = { u with chs := b.chs } := by rw [← hb]; rfl
  have hbch : b.ch ch.val = { s.ch ch.val with idleTurns := 0 } := by
    rw [← hb, ← hu]
    exact (State.setCh_self _ _ _).trans (by rw [State.elapse_ch])
  have hbsp : b.spOf ch.val = sp := by
    rw [hbr, ← hu]
    exact s.elapse_spOf dt ch.val
  have hblive : b.regs.live = s.regs.live := by rw [hbr, ← hu, State.elapse_regs]
  have hbrp : b.rp = s.rp := by rw [hbr, ← hu, State.elapse_rp]
  have hw := b.resetServing_wire ch.val
  have hspec := b.resetServing_spec ch.val
  obtain ⟨v, hv⟩ : ∃ v, b.resetServing ch.val = v := ⟨_, rfl⟩
  rw [hv, hbsp] at hw
  simp only [hv, hbsp, hbch] at hspec
  obtain ⟨h1, h2, h3, h4, h5, h6⟩ := hspec
  have hg : (s.elapse dt).progressLost ch.val = ((v.slub 0x0220 (u.spD0 ch.val) 0 0).raise 0x008).count 5763 := by
    rw [hu, State.progressLost_stuck hstuck]
    have hfld : ¬b.fld 0xF0004 28 2 = 1 := by
      rw [hbr, ← hu]
      exact fun h => hact ((s.elapse_fld dt _ _ _).symm.trans h)
    simp only [hb, if_neg hfld, hv]
    rfl
  have hlive : v.regs.live = s.regs.live := hw.live.trans hblive
  have hhear : s.Hears {} v.rep := by
    refine State.Hears.mono (State.Hears.start hs dt) ?_ ?_
    · rw [hu, show u.rep = b.rep by rw [hbr]]
      exact hw.grows
    · rw [hu, show u.rep = b.rep by rw [hbr]]
      exact hw.whOld
  refine answers_hears_reports hs (exec_spindleProgressTimeout ch s) hg (v := v)
    ((((State.RepOnly.refl v).slub _ _ _ _).raise _).count _) (State.Hears.count (b := (v.slub 0x0220 (u.spD0 ch.val) 0 0).raise 0x008)
      (State.Hears.raise (b := v.slub 0x0220 (u.spD0 ch.val) 0 0) (hhear.slub _ _ _ _) _ hlive) _) fun r heard => ?_
  refine ⟨?_, h1, h2, h3, h4, h5, h6, ?_, hlive, heard.raises _ (by simp), heard.counts (5763, 1) List.mem_cons_self⟩
  · have hsps : v.sps = (b.setSpindle sp { b.spindle sp with inReset := some ch.val }).sps := by rw [hw.rest]
    show (v.spindle sp).inReset = _
    unfold State.spindle
    rw [hsps]
    exact congrArg Spindle.inReset (State.setSpindle_self b sp _)
  · show v.rp = _
    rw [hw.rest]
    exact hbrp

theorem answers_spindleProgressTimeout_doff (hdue : s.stuck ch.val) (hact : s.fld 0xF0004 28 2 = 1) {k : Nat}
    (hk : s.lowestSpare = some k) (hnone : s.rp.doff = none) :
    Answers (.spindleProgressTimeout dt ch) s (fun t =>
      t = { s.elapse dt with
            rp := { s.rp with doff := some { ch := ch.val, target := k, soft := true, ready := false, turns := 0 } }
            chs := t.chs, rep := t.rep } ∧
      t.ch ch.val = { s.ch ch.val with idleTurns := 0 } ∧ s.raises t 0x008 ∧ s.counts t 5763 1 ∧
      s.logs t 0x0220 (s.spD0 ch.val) 1 0) := by
  obtain ⟨u, hu⟩ : ∃ u, s.elapse dt = u := ⟨_, rfl⟩
  have hstuck : u.stuck ch.val := hu ▸ (s.elapse_stuck dt ch.val).2 hdue
  have htell : s.Tells {} u.rep := hu ▸ State.Tells.elapse hs dt
  have hlive : u.regs.live = s.regs.live := by rw [← hu, State.elapse_regs]
  have hrp : u.rp = s.rp := hu ▸ s.elapse_rp dt
  have hsp0 : u.spD0 ch.val = s.spD0 ch.val := by rw [← hu]; unfold State.spD0; rw [State.elapse_spOf]
  obtain ⟨b, hb⟩ : ∃ b, u.modCh ch.val (fun c => { c with idleTurns := 0 }) = b := ⟨_, rfl⟩
  have hbr : b = { u with chs := b.chs } := by rw [← hb]; rfl
  have hbch : b.ch ch.val = { s.ch ch.val with idleTurns := 0 } := by
    rw [← hb, ← hu]
    exact (State.setCh_self _ _ _).trans (by rw [State.elapse_ch])
  obtain ⟨v, hv⟩ : ∃ v, b.startDoff ch.val k true = v := ⟨_, rfl⟩
  have hvr : v = { u with
      rp := { s.rp with doff := some { ch := ch.val, target := k, soft := true, ready := false, turns := 0 } }, chs := v.chs } := by
    rw [← hv, ← hrp, hbr]
    rfl
  have hg : (s.elapse dt).progressLost ch.val = ((v.slub 0x0220 (s.spD0 ch.val) 1 0).raise 0x008).count 5763 := by
    rw [hu, State.progressLost_stuck hstuck, hsp0]
    have hfld : b.fld 0xF0004 28 2 = 1 := by
      rw [hbr, ← hu]
      exact (s.elapse_fld dt _ _ _).trans hact
    have hrel : b.relieve ch.val true = (v, true) := by
      unfold State.relieve
      rw [show b.lowestSpare = some k by rw [hbr, ← hu]; exact (s.elapse_lowestSpare dt).trans hk]
      simp only
      rw [show b.rp.doff.isNone = true by rw [hbr]; show u.rp.doff.isNone = true; rw [hrp, hnone]; rfl, if_pos rfl, hv]
    simp only [hb, if_pos hfld, hrel]
    rfl
  have hvrep : v.rep = u.rep := by rw [hvr]
  have hvl : v.regs.live = s.regs.live := by rw [hvr]; exact hlive
  refine answers_reports hs (exec_spindleProgressTimeout ch s) hg (v := v)
    ((((State.RepOnly.refl v).slub _ _ _ _).raise _).count _)
    (State.Tells.count (b := (v.slub 0x0220 (s.spD0 ch.val) 1 0).raise 0x008)
      (State.Tells.raise (b := v.slub 0x0220 (s.spD0 ch.val) 1 0) (State.Tells.slub (hvrep ▸ htell) _ _ _ _) _ hvl) _)
    fun r told => ⟨?_, ?_, told.raises _ (by simp), told.counts (5763, 1) List.mem_cons_self, told.logs _ _ _ _ rfl⟩
  · rw [hu]
    rw [hvr]
  · show v.ch ch.val = _
    rw [← hv]
    exact hbch

theorem answers_spindleResetComplete {n : Nat} (hn : n < 18) (hin : (s.spindle n).inReset = some ch.val)
    (hfirst : ∀ k, k < n → (s.spindle k).inReset ≠ some ch.val) :
    Answers (.spindleResetComplete dt ch) s (fun t =>
      t = { s.elapse dt with sps := t.sps, rep := t.rep } ∧ t.spindle n = { s.spindle n with inReset := none } ∧
      (∀ k, k ≠ n → t.spindle k = s.spindle k) ∧ s.counts t 5764 1 ∧ s.logs t 0x0221 (ch.val + 256 * n) 0 0) := by
  obtain ⟨u, hu⟩ : ∃ u, s.elapse dt = u := ⟨_, rfl⟩
  have hsp : ∀ k, u.spindle k = s.spindle k := fun k => hu ▸ s.elapse_spindle dt k
  have hfind : (List.range 18).find? (fun k => decide ((u.spindle k).inReset = some ch.val)) = some n := by
    rw [List.find?_range_eq_some]
    refine ⟨by rw [hsp, hin]; simp, List.mem_range.2 hn, fun k hk => ?_⟩
    rw [hsp]
    simpa using hfirst k hk
  obtain ⟨v, hv⟩ : ∃ v, u.setSpindle n { u.spindle n with inReset := none } = v := ⟨_, rfl⟩
  have hvr : v = { u with sps := v.sps } := by rw [← hv]; rfl
  have hc : exec (.spindleResetComplete dt ch) s = s.at_ dt (fun s =>
    match (List.range 18).find? (fun n => decide ((s.spindle n).inReset = some ch.val)) with
    | some n =>
      ((s.setSpindle n { s.spindle n with inReset := none }).slub 0x0221 (ch.val + 256 * n) 0 0).count 5764
    | none => s) := rfl
  have hvrep : v.rep = (s.elapse dt).rep := by rw [hvr, hu]
  refine answers_reports hs hc (w := (v.slub 0x0221 (ch.val + 256 * n) 0 0).count 5764) (v := v) ?_ ((State.RepOnly.refl v).slub _ _ _ _ |>.count _)
    (State.Tells.count (b := v.slub 0x0221 (ch.val + 256 * n) 0 0) (State.Tells.slub (hvrep ▸ State.Tells.elapse hs dt) _ _ _ _) _)
    fun r told => ⟨?_, ?_, fun k hk => ?_, told.counts (5764, 1) List.mem_cons_self, told.logs _ _ _ _ rfl⟩
  · rw [hu, hfind]
    simp only
    rw [hv]
  · rw [hu]
    rw [hvr]
  · show v.spindle n = _
    rw [← hv, State.setSpindle_self, hsp]
  · show v.spindle k = _
    rw [← hv, State.setSpindle_ne _ _ hk, hsp]

end

/-! ## A failed self-check (R508, R526) -/

section
variable {s : State} {dt : Nat} (hs : s.ready) (sp : Fin 18)

theorem exec_spindleSelfCheckFailed (s : State) :
    exec (.spindleSelfCheckFailed dt sp) s = s.at_ dt (fun s => s.selfCheckFails sp.val) := rfl

/-- A spindle that serves no channel has failed, with its reports. -/
def State.spareFails (s : State) (n : Nat) : State :=
  let s1 := s.setSpindle n { s.spindle n with selfOk := false }
  ((s1.slub 0x021A (Config.freeNat s1.free % 16 + 256 * n) (Config.freeNat (s1.free + 1)) 0).raise
    (0x080 + 16 * n + 0xA)).useFree.useFree

theorem State.selfCheckFails_none {u : State} {n : Nat} (h : channels.find? (fun c => decide (u.spOf c = n)) = none) :
    u.selfCheckFails n =
      if ((u.spareFails n).spindle n).role = .spare then
        ((u.spareFails n).setSpindle n { (u.spareFails n).spindle n with role := .retired }).queueBurn (fuseWord 1 n 0)
      else u.spareFails n := by
  unfold State.selfCheckFails
  simp only [h]
  rfl

theorem State.spareFails_spec (u : State) (n : Nat) :
    State.RepOnly { u.setSpindle n { u.spindle n with selfOk := false } with free := u.free + 2 } (u.spareFails n) := rfl

theorem State.find_channels_none {u : State} {n : Nat} (h : ∀ c, c < 16 → u.spOf c ≠ n) :
    channels.find? (fun c => decide (u.spOf c = n)) = none := by
  rw [List.find?_eq_none]
  intro c hc
  simpa using h c (List.mem_range.1 hc)

include hs

theorem answers_spindleSelfCheckFailed_serving {c k : Nat} (hc : c < 16) (hserves : s.spOf c = sp.val)
    (hfirst : ∀ i, i < c → s.spOf i ≠ sp.val) (hk : s.lowestSpare = some k) (hnone : s.rp.doff = none) :
    Answers (.spindleSelfCheckFailed dt sp) s (fun t =>
      t = { s.elapse dt with
            sps := t.sps
            rp := { s.rp with doff := some { ch := c, target := k, soft := false, ready := false, turns := 0 } }, rep := t.rep } ∧
      t.spindle sp.val = { s.spindle sp.val with selfOk := false } ∧ s.raises t (0x080 + 16 * sp.val + 0xA) ∧
      s.logs t 0x021A (s.spD0 c) (s.spD1 c) 0) := by
  obtain ⟨u, hu⟩ : ∃ u, s.elapse dt = u := ⟨_, rfl⟩
  have hsp : ∀ k, u.spindle k = s.spindle k := fun k => hu ▸ s.elapse_spindle dt k
  have hspof : ∀ k, u.spOf k = s.spOf k := fun k => hu ▸ s.elapse_spOf dt k
  have hrp : u.rp = s.rp := hu ▸ s.elapse_rp dt
  have hfind : channels.find? (fun c => decide (u.spOf c = sp.val)) = some c := by
    refine List.find?_range_eq_some.2 ⟨by rw [hspof, hserves]; simp, List.mem_range.2 hc, fun i hi => ?_⟩
    rw [hspof]
    simpa using hfirst i hi
  obtain ⟨v, hv⟩ : ∃ v, u.setSpindle sp.val { u.spindle sp.val with selfOk := false } = v := ⟨_, rfl⟩
  have hvr : v = { u with sps := v.sps } := by rw [← hv]; rfl
  have hvsp : ∀ k, v.isSpare k = u.isSpare k := fun k => by
    have hsame : (v.spindle k).role = (u.spindle k).role ∧ (v.spindle k).inReset = (u.spindle k).inReset := by
      rw [← hv]
      by_cases h : k = sp.val
      · rw [h, State.setSpindle_self]
        exact ⟨rfl, rfl⟩
      · rw [State.setSpindle_ne _ _ h]
        exact ⟨rfl, rfl⟩
    unfold State.isSpare
    rw [hsame.1, hsame.2]
  have hlow : v.lowestSpare = some k := by
    rw [← hk, ← s.elapse_lowestSpare dt, hu]
    unfold State.lowestSpare
    simp only [hvsp]
  have hvrep : v.rep = (s.elapse dt).rep := by rw [hvr, hu]
  have hvl : v.regs.live = s.regs.live := by rw [hvr, ← hu]; show (s.elapse dt).regs.live = _; rw [State.elapse_regs]
  have hvrp : v.rp = s.rp := by rw [hvr]; exact hrp
  have hspc : v.spOf c = sp.val := by rw [hvr]; exact (hspof c).trans hserves
  have htell : s.Tells { srcs := [0x080 + 16 * v.spOf c + 0xA], slubs := [v.slubReq 0x021A (v.spD0 c) (v.spD1 c) 0] } (v.spEvent c 0xA).rep :=
    State.Tells.raise (b := v.slub 0x021A (v.spD0 c) (v.spD1 c) 0)
      (State.Tells.slub (hvrep ▸ State.Tells.elapse hs dt) 0x021A (v.spD0 c) (v.spD1 c) 0) _ hvl
  have hgo : u.selfCheckFails sp.val = (v.spEvent c 0xA).startDoff c k false := by
    unfold State.selfCheckFails
    simp only [hfind, hv]
    unfold State.relieve
    rw [show (v.spEvent c 0xA).lowestSpare = some k from hlow]
    simp only
    rw [show (v.spEvent c 0xA).rp.doff.isNone = true by
      show v.rp.doff.isNone = true
      rw [hvrp, hnone]
      rfl, if_pos rfl]
  have hd0 : v.spD0 c = s.spD0 c := by
    unfold State.spD0
    rw [hspc, hserves]
  have hd1 : v.spD1 c = s.spD1 c := by
    unfold State.spD1
    rw [show v.ch c = s.ch c by rw [hvr, ← hu]; exact s.elapse_ch c dt]
  rw [hspc, hd0, hd1] at htell
  obtain ⟨y, hy⟩ : ∃ y, v.startDoff c k false = y := ⟨_, rfl⟩
  have hyr : y = { u with
      sps := v.sps, rp := { s.rp with doff := some { ch := c, target := k, soft := false, ready := false, turns := 0 } } } := by
    rw [← hy, ← hvrp, hvr]
    rfl
  have hfinal : (v.spEvent c 0xA).startDoff c k false = { y with rep := (v.spEvent c 0xA).rep } := by rw [← hy]; rfl
  have hreq : v.slubReq 0x021A (s.spD0 c) (s.spD1 c) 0 = y.slubReq 0x021A (s.spD0 c) (s.spD1 c) 0 := by
    rw [hyr, hvr]
    rfl
  rw [hreq] at htell
  refine answers_tells hs (exec_spindleSelfCheckFailed sp s) ((congrArg (fun a : State => a.selfCheckFails sp.val) hu).trans (hgo.trans hfinal))
    htell fun r told => ⟨?_, ?_, told.raises _ (by simp), told.logs _ _ _ _ rfl⟩
  · rw [hyr, hu]
  · show y.spindle sp.val = _
    rw [← hsp, ← u.setSpindle_self sp.val { u.spindle sp.val with selfOk := false }, hv, hyr]
    rfl

theorem State.spareFails_elapse {u : State} (hu : s.elapse dt = u) : ∃ x, u.spareFails sp.val = x ∧
    x = { u with sps := x.sps, free := s.free + 2, rep := x.rep } ∧
    x.spindle sp.val = { s.spindle sp.val with selfOk := false } ∧ (∀ k, k ≠ sp.val → x.spindle k = s.spindle k) ∧
    s.Hears { srcs := [0x080 + 16 * sp.val + 0xA] } x.rep ∧ x.regs.live = s.regs.live := by
  have hsp : ∀ k, u.spindle k = s.spindle k := fun k => hu ▸ s.elapse_spindle dt k
  have hfree : u.free = s.free := hu ▸ s.elapse_free dt
  have hlive : u.regs.live = s.regs.live := by rw [← hu, State.elapse_regs]
  obtain ⟨b, hb⟩ : ∃ b, u.setSpindle sp.val { u.spindle sp.val with selfOk := false } = b := ⟨_, rfl⟩
  have hbr : b.rep = (s.elapse dt).rep := by rw [← hb, hu]; rfl
  have hbl : b.regs.live = s.regs.live := by rw [← hb]; exact hlive
  have hhear : s.Hears { srcs := [0x080 + 16 * sp.val + 0xA] } (u.spareFails sp.val).rep := by
    have h0 : s.Hears {} b.rep := hbr ▸ State.Hears.start hs dt
    have h1 := State.Hears.raise (h0.slub 0x021A (Config.freeNat b.free % 16 + 256 * sp.val) (Config.freeNat (b.free + 1)) 0)
      (0x080 + 16 * sp.val + 0xA) hbl
    have hx : u.spareFails sp.val = ((b.slub 0x021A (Config.freeNat b.free % 16 + 256 * sp.val) (Config.freeNat (b.free + 1)) 0).raise
        (0x080 + 16 * sp.val + 0xA)).useFree.useFree := by rw [← hb]; rfl
    obtain ⟨c, hc⟩ : ∃ c, (b.slub 0x021A (Config.freeNat b.free % 16 + 256 * sp.val) (Config.freeNat (b.free + 1)) 0).raise
        (0x080 + 16 * sp.val + 0xA) = c := ⟨_, rfl⟩
    rw [hc] at h1 hx
    rw [hx]
    exact h1
  have hspec : State.RepOnly { b with free := u.free + 2 } (u.spareFails sp.val) := hb ▸ u.spareFails_spec sp.val
  obtain ⟨x, hx⟩ : ∃ x, u.spareFails sp.val = x := ⟨_, rfl⟩
  rw [hx] at hspec hhear
  have hxsp : ∀ k, x.spindle k = b.spindle k := fun k => by rw [hspec]; rfl
  refine ⟨x, hx, ?_, ?_, fun k hk => ?_, hhear, by rw [hspec]; exact hbl⟩
  · rw [hspec, ← hfree, ← hb]
    rfl
  · rw [hxsp, ← hb, State.setSpindle_self, hsp]
  · rw [hxsp, ← hb, State.setSpindle_ne _ _ hk, hsp]

theorem answers_spindleSelfCheckFailed_spare (hno : ∀ c, c < 16 → s.spOf c ≠ sp.val) (hrole : (s.spindle sp.val).role = .spare) :
    Answers (.spindleSelfCheckFailed dt sp) s (fun t =>
      t = { s.elapse dt with sps := t.sps, rp := t.rp, rep := t.rep, free := s.free + 2 } ∧
      t.spindle sp.val = { s.spindle sp.val with selfOk := false, role := .retired } ∧
      (∀ k, k ≠ sp.val → t.spindle k = s.spindle k) ∧ s.raises t (0x080 + 16 * sp.val + 0xA)) := by
  obtain ⟨u, hu⟩ : ∃ u, s.elapse dt = u := ⟨_, rfl⟩
  obtain ⟨x, hx, hrest, hself, hne, hhear, hlive⟩ := State.spareFails_elapse hs sp hu
  have hsp : ∀ k, u.spindle k = s.spindle k := fun k => hu ▸ s.elapse_spindle dt k
  obtain ⟨v, hv⟩ : ∃ v, x.setSpindle sp.val { x.spindle sp.val with role := .retired } = v := ⟨_, rfl⟩
  have hvr : v = { x with sps := v.sps } := by rw [← hv]; rfl
  have hb := v.queueBurn_burns (fuseWord 1 sp.val 0)
  obtain ⟨y, hy⟩ : ∃ y, v.queueBurn (fuseWord 1 sp.val 0) = y := ⟨_, rfl⟩
  rw [hy] at hb
  have hg : (s.elapse dt).selfCheckFails sp.val = y := by
    rw [hu, State.selfCheckFails_none (State.find_channels_none fun c hc => hu ▸ (s.elapse_spOf dt c).symm ▸ hno c hc), hx,
      if_pos (by rw [hself]; exact hrole), hv, hy]
  have hvrep : v.rep = x.rep := by rw [hvr]
  have hspy : ∀ k, y.spindle k = v.spindle k := fun k => by rw [hb.rest]; rfl
  refine answers_hears hs (exec_spindleSelfCheckFailed sp s) hg (hhear.mono (hvrep ▸ hb.grows) (hb.whOld.trans (by rw [hvrep])))
    fun r heard => ⟨?_, ?_, fun k hk => ?_, heard.raises _ List.mem_cons_self⟩
  · rw [hb.rest, hvr, hrest, hu]
  · show y.spindle sp.val = _
    rw [hspy, ← hv, State.setSpindle_self, hself]
  · show y.spindle k = _
    rw [hspy, ← hv, State.setSpindle_ne _ _ hk, hne k hk]

theorem answers_spindleSelfCheckFailed_other (hno : ∀ c, c < 16 → s.spOf c ≠ sp.val) (hrole : (s.spindle sp.val).role ≠ .spare) :
    Answers (.spindleSelfCheckFailed dt sp) s (fun t =>
      t = { s.elapse dt with sps := t.sps, rep := t.rep, free := s.free + 2 } ∧
      t.spindle sp.val = { s.spindle sp.val with selfOk := false } ∧
      (∀ k, k ≠ sp.val → t.spindle k = s.spindle k) ∧ s.raises t (0x080 + 16 * sp.val + 0xA)) := by
  obtain ⟨u, hu⟩ : ∃ u, s.elapse dt = u := ⟨_, rfl⟩
  obtain ⟨x, hx, hrest, hself, hne, hhear, hlive⟩ := State.spareFails_elapse hs sp hu
  have hg : (s.elapse dt).selfCheckFails sp.val = x := by
    rw [hu, State.selfCheckFails_none (State.find_channels_none fun c hc => hu ▸ (s.elapse_spOf dt c).symm ▸ hno c hc), hx,
      if_neg (by rw [hself]; exact hrole)]
  refine answers_hears hs (exec_spindleSelfCheckFailed sp s) hg hhear
    fun r heard => ⟨?_, hself, hne, heard.raises _ List.mem_cons_self⟩
  rw [hrest, hu]

end

/-- Settles O55, by the channel that a reset leaves with an empty ready set (`State.resetServing_spec`). -/
theorem spindlesAreRelieved : Obligations.SpindlesAreRelieved := by
  unfold Obligations.SpindlesAreRelieved
  intro s dt hs doff
  refine ⟨fun ch => ⟨fun hno => ?_, fun hdue hact => answers_spindleProgressTimeout_reset hs ch hdue hact,
    fun k hdue hact hk hnone => answers_spindleProgressTimeout_doff hs ch hdue hact hk hnone,
    fun n hn hin hfirst => answers_spindleResetComplete hs ch hn hin hfirst⟩,
    fun sp => ⟨fun c k hc hserves hfirst hk hnone => answers_spindleSelfCheckFailed_serving hs sp hc hserves hfirst hk hnone,
      fun hno hrole => answers_spindleSelfCheckFailed_spare hs sp hno hrole,
      fun hno hrole => answers_spindleSelfCheckFailed_other hs sp hno hrole⟩⟩
  exact answers_settles hs (exec_spindleProgressTimeout ch s) (v := s.elapse dt)
    (State.progressLost_idle fun h => hno ((s.elapse_stuck dt ch.val).1 h)) (State.elapse_settled hs dt) rfl

end Sys2Proof.Machine
end

section
/-!
PROOFS. A channel at the end of its hold-off, recovery and bus integration, and a mode taking effect (R86 to R89, R106 to R111).
-/

namespace Sys2Proof.Machine

/-! ## What a mode makes of a channel -/

section
variable (a : State) (ch : Nat)

/-- A channel after the frame chosen went back, where the mode sends nothing. -/
def Channel.backed (c : Channel) (m : ChMode) : Channel :=
  if m = .normal ∨ m = .loopback then c else { c with chosen := none, offered := false }

theorem State.backed_ch (m : ChMode) :
    (if m = .normal ∨ m = .loopback then a else a.unchoose ch).ch ch = (a.ch ch).backed m := by
  unfold Channel.backed
  split
  · rfl
  · exact a.unchoose_ch ch

theorem Channel.backed_rest (c : Channel) (m : ChMode) : ∃ x o, c.backed m = { c with chosen := x, offered := o } := by
  unfold Channel.backed
  split
  · exact ⟨_, _, rfl⟩
  · exact ⟨_, _, rfl⟩

theorem State.setMode_same {m : ChMode} (h : (a.ch ch).mode = m) :
    (a.setMode ch m).ch ch = { a.ch ch with pendMode := none, heldMode := false } := by
  unfold State.setMode
  simp only
  rw [if_pos h]
  exact State.setCh_self _ _ _

theorem State.setMode_off (h : (a.ch ch).mode ≠ .off) : ∃ w, (a.setMode ch .off).ch ch = { (a.ch ch).backed .off with
    mode := .off, pendMode := none, heldMode := false, tec := 0, recn := 0, boHist := [], holdLeft := 0, heldRecover := false,
    integWait := false, recov := 0, wire := .idle, st := .off, warn := w } := by
  unfold State.setMode
  simp only
  rw [if_neg h, ← a.backed_ch ch .off]
  obtain ⟨b, hb⟩ : ∃ b, (if (.off : ChMode) = .normal ∨ (.off : ChMode) = .loopback then a else a.unchoose ch) = b := ⟨_, rfl⟩
  rw [hb, if_pos trivial, State.report_ch, State.warnUpd_ch, State.enterSt_ch]
  unfold State.modCh
  rw [State.setCh_self]
  exact ⟨_, rfl⟩

theorem State.setMode_from_off {m : ChMode} (h : (a.ch ch).mode = .off) (hm : m ≠ .off) :
    (a.setMode ch m).ch ch = { (a.ch ch).backed m with
      mode := m, pendMode := none, heldMode := false, lec := 0, st := .integrating } := by
  unfold State.setMode
  simp only
  rw [if_neg (by rw [h]; exact Ne.symm hm), ← a.backed_ch ch m]
  obtain ⟨b, hb⟩ : ∃ b, (if m = .normal ∨ m = .loopback then a else a.unchoose ch) = b := ⟨_, rfl⟩
  rw [hb, if_neg hm, if_pos h, State.report_ch, State.enterSt_ch]
  unfold State.modCh
  rw [State.setCh_self]

theorem State.setMode_other {m : ChMode} (h : (a.ch ch).mode ≠ .off) (hm : m ≠ .off) (hne : (a.ch ch).mode ≠ m) :
    (a.setMode ch m).ch ch = { (a.ch ch).backed m with mode := m, pendMode := none, heldMode := false } := by
  unfold State.setMode
  simp only
  rw [if_neg hne, ← a.backed_ch ch m]
  obtain ⟨b, hb⟩ : ∃ b, (if m = .normal ∨ m = .loopback then a else a.unchoose ch) = b := ⟨_, rfl⟩
  rw [hb, if_neg hm, if_neg h, State.report_ch]
  exact State.setCh_self _ _ _

/-- A mode that takes effect is in force, and nothing waits; the ready set stays. -/
theorem State.setMode_mode (m : ChMode) : ((a.setMode ch m).ch ch).mode = m ∧ ((a.setMode ch m).ch ch).pendMode = none ∧
    ((a.setMode ch m).ch ch).ready = (a.ch ch).ready := by
  obtain ⟨x, o, hx⟩ := (a.ch ch).backed_rest m
  by_cases h : (a.ch ch).mode = m
  · rw [a.setMode_same ch h]
    exact ⟨h, rfl, rfl⟩
  by_cases hm : m = .off
  · subst hm
    obtain ⟨w, hw⟩ := a.setMode_off ch h
    rw [hw, hx]
    exact ⟨rfl, rfl, rfl⟩
  by_cases hoff : (a.ch ch).mode = .off
  · rw [a.setMode_from_off ch hoff hm, hx]
    exact ⟨rfl, rfl, rfl⟩
  · rw [a.setMode_other ch hoff hm h, hx]
    exact ⟨rfl, rfl, rfl⟩

/-- Between two modes other than OFF the error state and its counters stay. -/
theorem State.setMode_keeps {m : ChMode} (h : (a.ch ch).mode ≠ .off) (hm : m ≠ .off) :
    ((a.setMode ch m).ch ch).st = (a.ch ch).st := by
  obtain ⟨x, o, hx⟩ := (a.ch ch).backed_rest m
  by_cases hs : (a.ch ch).mode = m
  · rw [a.setMode_same ch hs]
  · rw [a.setMode_other ch h hm hs, hx]

/-- What a mode leaves of the counters and the bus integration: as they were, or at 0. -/
theorem State.setMode_resets (m : ChMode) :
    let t := (a.setMode ch m).ch ch
    (t.tec = (a.ch ch).tec ∨ t.tec = 0) ∧ (t.recn = (a.ch ch).recn ∨ t.recn = 0) ∧ (t.recov = (a.ch ch).recov ∨ t.recov = 0) ∧
    (t.integWait = (a.ch ch).integWait ∨ t.integWait = false) := by
  intro t
  obtain ⟨x, o, hx⟩ := (a.ch ch).backed_rest m
  by_cases h : (a.ch ch).mode = m
  · rw [show t = _ from a.setMode_same ch h]
    exact ⟨.inl rfl, .inl rfl, .inl rfl, .inl rfl⟩
  by_cases hm : m = .off
  · subst hm
    obtain ⟨w, hw⟩ := a.setMode_off ch h
    rw [show t = _ from hw]
    exact ⟨.inr rfl, .inr rfl, .inr rfl, .inr rfl⟩
  by_cases hoff : (a.ch ch).mode = .off
  · rw [show t = _ from a.setMode_from_off ch hoff hm, hx]
    exact ⟨.inl rfl, .inl rfl, .inl rfl, .inl rfl⟩
  · rw [show t = _ from a.setMode_other ch hoff hm h, hx]
    exact ⟨.inl rfl, .inl rfl, .inl rfl, .inl rfl⟩

/-! ## Back to ERROR_ACTIVE -/

/-- The mode that waits for ERROR_ACTIVE takes effect (R111). -/
theorem State.enterActive_held {m : ChMode} (hh : (a.ch ch).heldMode = true) (hp : (a.ch ch).pendMode = some m) :
    a.enterActive ch = (a.enterSt ch .errorActive).setMode ch m := by
  have hst := a.enterSt_ch ch .errorActive
  obtain ⟨b, hb⟩ : ∃ b, a.enterSt ch .errorActive = b := ⟨_, rfl⟩
  rw [hb] at hst
  have hsome : (if (b.ch ch).heldMode then (b.ch ch).pendMode else none) = some m := by
    rw [if_pos (by rw [hst]; exact hh), hst]
    exact hp
  unfold State.enterActive
  simp only
  rw [hb, hsome]

theorem State.enterActive_plain (h : (a.ch ch).heldMode = false ∨ (a.ch ch).pendMode = none) :
    a.enterActive ch = a.enterSt ch .errorActive := by
  have hst := a.enterSt_ch ch .errorActive
  obtain ⟨b, hb⟩ : ∃ b, a.enterSt ch .errorActive = b := ⟨_, rfl⟩
  rw [hb] at hst
  have hno : (if (b.ch ch).heldMode then (b.ch ch).pendMode else none) = none := by
    rw [hst]
    rcases h with h | h
    · exact if_neg (by rw [h]; exact Bool.false_ne_true)
    · split
      · exact h
      · rfl
  unfold State.enterActive
  simp only
  rw [hb, hno]

/-- The ways back to ERROR_ACTIVE: with the mode of before, or with the one that waited. -/
theorem State.enterActive_spec :
    let t := (a.enterActive ch).ch ch
    let c := a.ch ch
    (c.heldMode = false ∨ c.pendMode = none → t = { c with st := .errorActive }) ∧
    (∀ m, c.heldMode = true → c.pendMode = some m → m ≠ .off → c.mode ≠ .off →
      t.st = .errorActive ∧ t.mode = m ∧ t.pendMode = none) ∧
    (t.tec = c.tec ∨ t.tec = 0) ∧ (t.recn = c.recn ∨ t.recn = 0) ∧ (t.recov = c.recov ∨ t.recov = 0) ∧
    (t.integWait = c.integWait ∨ t.integWait = false) := by
  intro t c
  have hst := a.enterSt_ch ch .errorActive
  have hplain : c.heldMode = false ∨ c.pendMode = none → t = { c with st := .errorActive } := fun h =>
    (congrArg (fun x : State => x.ch ch) (a.enterActive_plain ch h)).trans hst
  have hheld : ∀ m, c.heldMode = true → c.pendMode = some m →
      t = ((a.enterSt ch .errorActive).setMode ch m).ch ch := fun m h1 h2 =>
    congrArg (fun x : State => x.ch ch) (a.enterActive_held ch h1 h2)
  obtain ⟨b, hb⟩ : ∃ b, a.enterSt ch .errorActive = b := ⟨_, rfl⟩
  rw [hb] at hst hheld
  refine ⟨hplain, fun m h1 h2 hm hoff => ?_, ?_⟩
  · obtain ⟨g1, g2, -⟩ := b.setMode_mode ch m
    rw [hheld m h1 h2]
    exact ⟨(b.setMode_keeps ch (by rw [hst]; exact hoff) hm).trans (by rw [hst]), g1, g2⟩
  · by_cases hn : c.heldMode = false ∨ c.pendMode = none
    · rw [hplain hn]
      exact ⟨.inl rfl, .inl rfl, .inl rfl, .inl rfl⟩
    · obtain ⟨h1, h2⟩ := not_or.1 hn
      obtain ⟨m, hm⟩ := Option.ne_none_iff_exists'.1 h2
      have h := b.setMode_resets ch m
      simp only [hst] at h
      rw [hheld m (by simpa using h1) hm]
      exact h

end

/-! ## What stays reported -/

section
variable {s b : State} {k : Account} {ch : Nat}

theorem State.Hears.modeOnly {w : State} (h : s.Hears k b.rep) (hm : State.ModeOnly ch b w) : s.Hears k w.rep := h.mono hm.grows hm.whOld

/-- The return to ERROR_ACTIVE raises its source. -/
theorem State.Hears.enterSt_active (h : s.Hears k b.rep) (hlive : b.regs.live = s.regs.live) (hst : (b.ch ch).st ≠ .errorActive) :
    s.Hears { k with srcs := (0x080 + 16 * b.spOf ch + 3) :: k.srcs } (b.enterSt ch .errorActive).rep := by
  obtain ⟨x, hx⟩ : ∃ x, b.setCh ch { b.ch ch with st := .errorActive } = x := ⟨_, rfl⟩
  have hxr : x = { b with chs := x.chs } := by rw [← hx]; rfl
  have h1 : s.Hears { k with srcs := (0x080 + 16 * x.spOf ch + 3) :: k.srcs } (x.spEvent ch 3).rep :=
    State.Hears.spEvent (by rw [hxr]; exact h) (by rw [hxr]; exact hlive) ch 3
  rw [show x.spOf ch = b.spOf ch by rw [hxr]; rfl] at h1
  have hgo : b.enterSt ch .errorActive =
      if (b.ch ch).st.part != ChState.errorActive.part then (x.spEvent ch 3).report ch else x.spEvent ch 3 := by
    rw [← hx]
    exact if_neg hst
  rw [hgo]
  split
  · exact h1.modeOnly ((State.modeOnly_frame ch).toChanFrame.report _)
  · exact h1

end

end Sys2Proof.Machine
end

section
/-!
PROOFS. The rows of a channel's way from state to state.
-/

namespace Sys2Proof.Machine

section
variable {s : State} {dt : Nat} (ch : Fin 16)

/-- The end of bus integration, in the state of its instant. -/
def State.integrated (s : State) (ch : Nat) : State :=
  let c := s.ch ch
  if c.st = .integrating then
    let s1 := (s.setCh ch { c with integWait := false, wire := .idle, idleTurns := 0 }).spEvent ch 4
    if c.tec > 127 ∨ c.recn > 127 then s1.enterSt ch .errorPassive else s1.enterActive ch
  else if c.st = .recovering then s.setCh ch { c with recov := min 127 (c.recov + 1) }
  else if c.integWait then (s.setCh ch { c with integWait := false, wire := .idle, idleTurns := 0 }).spEvent ch 4
  else s

theorem exec_busIntegrationComplete : exec (.busIntegrationComplete dt ch) s = s.at_ dt (fun s => s.integrated ch.val) := rfl

/-- A mode taking effect, in the state of its instant. -/
def State.modeActs (s : State) (ch : Nat) : State :=
  let c := s.ch ch
  match c.pendMode with
  | some m =>
    if !c.heldMode && (decide (c.wire ≠ .ownFrame ∧ c.wire ≠ .otherFrame) || c.integWait) then
      (s.modCh ch (fun c => { c with wire := .gap })).setMode ch m
    else s
  | none => s

theorem exec_modeTakesEffect : exec (.modeTakesEffect dt ch) s = s.at_ dt (fun s => s.modeActs ch.val) := rfl

/-- The end of a recovery, in the state of its instant. -/
def State.recovered (s : State) (ch : Nat) : State :=
  if (s.ch ch).st = .recovering ∧ (s.ch ch).recov = 127 then
    ((((s.modCh ch (fun c => { c with tec := 0, recn := 0, recov := 0, wire := .idle, idleTurns := 0 })).warnUpd
      ch).spEvent ch 4)).enterActive ch
  else s

theorem exec_recoveryComplete : exec (.recoveryComplete dt ch) s = s.at_ dt (fun s => s.recovered ch.val) := rfl

/-- The end of a hold-off, in the state of its instant. -/
def State.holdOver (s : State) (ch : Nat) : State :=
  if decide ((s.ch ch).st = .boHold) && decide ((s.ch ch).holdLeft = 0) then s.holdEnd ch else s

theorem exec_holdoffEnd : exec (.holdoffEnd dt ch) s = s.at_ dt (fun s => s.holdOver ch.val) := rfl

/-- One channel, with the promise and the memory, has changed since state s. -/
def State.ModeFramed (s : State) (dt ch : Nat) (t : State) : Prop :=
  t = { s.elapse dt with chs := t.chs, rep := t.rep, dr := t.dr, mm := t.mm } ∧ ∀ n, n ≠ ch → t.ch n = s.ch n

variable {ch} in
theorem State.ModeOnly.framed {n : Nat} {u w : State} (hu : s.elapse dt = u) (h : State.ModeOnly n u w) (r : Rep) :
    s.ModeFramed dt n { w with rep := r } := by
  subst hu
  exact ⟨by rw [h.rest], fun k hk => (h.others k hk).trans (s.elapse_ch k dt)⟩

variable (hs : s.ready)
include hs

theorem answers_holdoffEnd (hst : (s.ch ch.val).st = .boHold) (hleft : (s.ch ch.val).holdLeft = 0) :
    Answers (.holdoffEnd dt ch) s (fun t =>
      s.ModeFramed dt ch.val t ∧
      t.ch ch.val =
        if s.fld (spChBase ch.val + 0x14) 0 2 = 1 ∧ (s.ch ch.val).heldRecover = false then
          { s.ch ch.val with st := .boWait, holdLeft := 0 }
        else { s.ch ch.val with st := .recovering, holdLeft := 0, heldRecover := false, recov := 0 }) := by
  obtain ⟨u, hu⟩ : ∃ u, s.elapse dt = u := ⟨_, rfl⟩
  have hch : u.ch ch.val = s.ch ch.val := hu ▸ s.elapse_ch ch.val dt
  have hm := (State.modeOnly_frame ch.val).toChanFrame.holdEnd u
  have hval : (u.holdEnd ch.val).ch ch.val =
        if s.fld (spChBase ch.val + 0x14) 0 2 = 1 ∧ (s.ch ch.val).heldRecover = false then
          { s.ch ch.val with st := .boWait, holdLeft := 0 }
        else { s.ch ch.val with st := .recovering, holdLeft := 0, heldRecover := false, recov := 0 } := by
    unfold State.holdEnd
    simp only
    rw [← hu, State.elapse_fld, hu, hch]
    simp only [Bool.and_eq_true, decide_eq_true_eq, Bool.not_eq_true']
    split
    · rw [State.enterSt_ch, State.setCh_self]
    · rw [State.enterSt_ch, State.setCh_self]
  have hg : (s.elapse dt).holdOver ch.val = u.holdEnd ch.val := by
    rw [hu]
    exact if_pos (by rw [hch, hst, hleft]; rfl)
  refine answers_hears hs (exec_holdoffEnd ch) hg ((hu ▸ State.Hears.start hs dt).modeOnly hm) fun r _ =>
    ⟨State.ModeOnly.framed hu hm r, hval⟩

theorem answers_busIntegrationComplete_counts (hst : (s.ch ch.val).st = .recovering) (hlt : (s.ch ch.val).recov < 127) :
    Answers (.busIntegrationComplete dt ch) s (fun t =>
      t = { s.elapse dt with chs := t.chs } ∧ t.ch ch.val = { s.ch ch.val with recov := (s.ch ch.val).recov + 1 } ∧
      ∀ n, n ≠ ch.val → t.ch n = s.ch n) := by
  obtain ⟨u, hu⟩ : ∃ u, s.elapse dt = u := ⟨_, rfl⟩
  have hch : u.ch ch.val = s.ch ch.val := hu ▸ s.elapse_ch ch.val dt
  have hg : (s.elapse dt).integrated ch.val = u.setCh ch.val { s.ch ch.val with recov := (s.ch ch.val).recov + 1 } := by
    rw [hu]
    unfold State.integrated
    simp only
    rw [hch, if_neg (by rw [hst]; decide), if_pos hst, Nat.min_eq_right (by omega)]
  refine answers_settles hs (exec_busIntegrationComplete ch) hg (hu ▸ State.elapse_settled hs dt)
    ⟨by rw [hu]; rfl, State.setCh_self _ _ _, fun n hn => ?_⟩
  rw [State.setCh_ne _ _ hn, ← hu, State.elapse_ch]

theorem answers_recoveryComplete (hst : (s.ch ch.val).st = .recovering) (hdone : (s.ch ch.val).recov = 127) :
    let c := s.ch ch.val
    Answers (.recoveryComplete dt ch) s (fun t =>
      s.ModeFramed dt ch.val t ∧ (t.ch ch.val).tec = 0 ∧ (t.ch ch.val).recn = 0 ∧ (t.ch ch.val).recov = 0 ∧
      (c.heldMode = false ∨ c.pendMode = none →
        (t.ch ch.val).st = .errorActive ∧ (t.ch ch.val).mode = c.mode ∧ (t.ch ch.val).pendMode = c.pendMode) ∧
      (∀ m, c.heldMode = true → c.pendMode = some m → m ≠ .off → c.mode ≠ .off →
        (t.ch ch.val).st = .errorActive ∧ (t.ch ch.val).mode = m ∧ (t.ch ch.val).pendMode = none) ∧
      s.raises t (0x080 + 16 * s.spOf ch.val + 4) ∧ s.raises t (0x080 + 16 * s.spOf ch.val + 3)) := by
  intro c
  obtain ⟨u, hu⟩ : ∃ u, s.elapse dt = u := ⟨_, rfl⟩
  have hch : u.ch ch.val = c := hu ▸ s.elapse_ch ch.val dt
  have M := State.modeOnly_frame ch.val
  obtain ⟨x, hx⟩ : ∃ x, (u.modCh ch.val (fun c => { c with tec := 0, recn := 0, recov := 0, wire := .idle, idleTurns := 0 })).warnUpd
    ch.val = x := ⟨_, rfl⟩
  have hxm : State.ModeOnly ch.val u x := hx ▸ M.trans (M.chan u _) (M.toChanFrame.warnUpd _)
  have hxch : ∃ w, x.ch ch.val = { c with tec := 0, recn := 0, recov := 0, wire := .idle, idleTurns := 0, warn := w } := by
    rw [← hx, State.warnUpd_ch]
    unfold State.modCh
    rw [State.setCh_self, hch]
    exact ⟨_, rfl⟩
  obtain ⟨w, hw⟩ := hxch
  obtain ⟨y, hy⟩ : ∃ y, x.spEvent ch.val 4 = y := ⟨_, rfl⟩
  have hych : y.ch ch.val = { c with tec := 0, recn := 0, recov := 0, wire := .idle, idleTurns := 0, warn := w } := by
    rw [← hy]
    exact hw
  have hxlive : x.regs.live = s.regs.live := by rw [hxm.live, ← hu, State.elapse_regs]
  have hxsp : x.spOf ch.val = s.spOf ch.val := by rw [hxm.spOf, ← hu, State.elapse_spOf]
  have hym : State.ModeOnly ch.val u y := hy ▸ M.spEvent hxm _ _
  have hyl : y.regs.live = s.regs.live := by rw [← hy]; exact hxlive
  have hysp : y.spOf ch.val = s.spOf ch.val := by rw [← hy]; exact hxsp
  have hhear : s.Hears { srcs := [0x080 + 16 * s.spOf ch.val + 4] } y.rep := by
    rw [← hy, ← hxsp]
    exact State.Hears.spEvent ((hu ▸ State.Hears.start hs dt).modeOnly hxm) hxlive _ _
  have hg : (s.elapse dt).recovered ch.val = y.enterActive ch.val := by
    rw [hu, ← hy, ← hx]
    exact if_pos ⟨by rw [hch]; exact hst, by rw [hch]; exact hdone⟩
  have hend := M.enterActive y
  have hspec := y.enterActive_spec ch.val
  simp only [hych] at hspec
  obtain ⟨hplain, hheld, htec, hrec, hrecov, -⟩ := hspec
  have hraise : s.Hears { srcs := [0x080 + 16 * s.spOf ch.val + 3, 0x080 + 16 * s.spOf ch.val + 4] } (y.enterActive ch.val).rep := by
    have h3 := hhear.enterSt_active (ch := ch.val) hyl (by rw [hych]; show c.st ≠ _; rw [hst]; decide)
    rw [hysp] at h3
    by_cases hn : (y.ch ch.val).heldMode = false ∨ (y.ch ch.val).pendMode = none
    · rw [y.enterActive_plain ch.val hn]
      exact h3
    · obtain ⟨g1, g2⟩ := not_or.1 hn
      obtain ⟨m, hm⟩ := Option.ne_none_iff_exists'.1 g2
      rw [y.enterActive_held ch.val (by simpa using g1) hm]
      exact h3.modeOnly (M.setMode _ _)
  refine answers_hears hs (exec_recoveryComplete ch) hg hraise fun r heard =>
    ⟨State.ModeOnly.framed hu (M.trans hym hend) r, htec.elim id id, hrec.elim id id, hrecov.elim id id, fun h => ?_, hheld,
      heard.raises _ (by simp), heard.raises _ (by simp)⟩
  show ((y.enterActive ch.val).ch ch.val).st = _ ∧ ((y.enterActive ch.val).ch ch.val).mode = _ ∧
    ((y.enterActive ch.val).ch ch.val).pendMode = _
  rw [hplain h]
  exact ⟨rfl, rfl, rfl⟩

theorem answers_busIntegrationComplete_active (hst : (s.ch ch.val).st = .integrating) (htec : (s.ch ch.val).tec ≤ 127)
    (hrec : (s.ch ch.val).recn ≤ 127) :
    let c := s.ch ch.val
    Answers (.busIntegrationComplete dt ch) s (fun t =>
      s.ModeFramed dt ch.val t ∧ (t.ch ch.val).integWait = false ∧
      (c.heldMode = false ∨ c.pendMode = none → (t.ch ch.val).st = .errorActive ∧ (t.ch ch.val).mode = c.mode) ∧
      (∀ m, c.heldMode = true → c.pendMode = some m → m ≠ .off → c.mode ≠ .off →
        (t.ch ch.val).st = .errorActive ∧ (t.ch ch.val).mode = m ∧ (t.ch ch.val).pendMode = none) ∧
      s.raises t (0x080 + 16 * s.spOf ch.val + 4)) := by
  intro c
  obtain ⟨u, hu⟩ : ∃ u, s.elapse dt = u := ⟨_, rfl⟩
  have hch : u.ch ch.val = c := hu ▸ s.elapse_ch ch.val dt
  have M := State.modeOnly_frame ch.val
  obtain ⟨x, hx⟩ : ∃ x, u.setCh ch.val { c with integWait := false, wire := .idle, idleTurns := 0 } = x := ⟨_, rfl⟩
  have hxm : State.ModeOnly ch.val u x := hx ▸ M.chan u _
  have hxch : x.ch ch.val = { c with integWait := false, wire := .idle, idleTurns := 0 } := hx ▸ State.setCh_self _ _ _
  have hxlive : x.regs.live = s.regs.live := by rw [hxm.live, ← hu, State.elapse_regs]
  have hxsp : x.spOf ch.val = s.spOf ch.val := by rw [hxm.spOf, ← hu, State.elapse_spOf]
  obtain ⟨y, hy⟩ : ∃ y, x.spEvent ch.val 4 = y := ⟨_, rfl⟩
  have hych : y.ch ch.val = { c with integWait := false, wire := .idle, idleTurns := 0 } := by
    rw [← hy]
    exact hxch
  have hym : State.ModeOnly ch.val u y := hy ▸ M.spEvent hxm _ _
  have hhear : s.Hears { srcs := [0x080 + 16 * s.spOf ch.val + 4] } y.rep := by
    rw [← hy, ← hxsp]
    exact State.Hears.spEvent ((hu ▸ State.Hears.start hs dt).modeOnly hxm) hxlive _ _
  have hg : (s.elapse dt).integrated ch.val = y.enterActive ch.val := by
    rw [hu, ← hy, ← hx]
    unfold State.integrated
    simp only
    rw [hch, if_pos hst, if_neg (not_or.2 ⟨Nat.not_lt.2 htec, Nat.not_lt.2 hrec⟩)]
  have hspec := y.enterActive_spec ch.val
  simp only [hych] at hspec
  obtain ⟨hplain, hheld, -, -, -, hint⟩ := hspec
  have hend := M.enterActive y
  refine answers_hears hs (exec_busIntegrationComplete ch) hg (hhear.modeOnly hend) fun r heard =>
    ⟨State.ModeOnly.framed hu (M.trans hym hend) r, hint.elim id id, fun h => ?_, hheld, heard.raises _ (by simp)⟩
  show ((y.enterActive ch.val).ch ch.val).st = _ ∧ ((y.enterActive ch.val).ch ch.val).mode = _
  rw [hplain h]
  exact ⟨rfl, rfl⟩

theorem answers_busIntegrationComplete_waits (hst : (s.ch ch.val).st ≠ .integrating) (hst' : (s.ch ch.val).st ≠ .recovering)
    (hw : (s.ch ch.val).integWait = true) :
    Answers (.busIntegrationComplete dt ch) s (fun t =>
      t = { s.elapse dt with chs := t.chs, rep := t.rep } ∧
      t.ch ch.val = { s.ch ch.val with integWait := false, wire := .idle, idleTurns := 0 } ∧
      (∀ n, n ≠ ch.val → t.ch n = s.ch n) ∧ s.raises t (0x080 + 16 * s.spOf ch.val + 4)) := by
  obtain ⟨u, hu⟩ : ∃ u, s.elapse dt = u := ⟨_, rfl⟩
  have hch : u.ch ch.val = s.ch ch.val := hu ▸ s.elapse_ch ch.val dt
  obtain ⟨x, hx⟩ : ∃ x, u.setCh ch.val { s.ch ch.val with integWait := false, wire := .idle, idleTurns := 0 } = x := ⟨_, rfl⟩
  have hxr : x = { u with chs := x.chs } := by rw [← hx]; rfl
  have hxlive : x.regs.live = s.regs.live := by rw [hxr, ← hu]; show (s.elapse dt).regs.live = _; rw [State.elapse_regs]
  have hxsp : x.spOf ch.val = s.spOf ch.val := by rw [hxr, ← hu]; exact s.elapse_spOf dt _
  have hg : (s.elapse dt).integrated ch.val = x.spEvent ch.val 4 := by
    rw [hu, ← hx]
    unfold State.integrated
    simp only
    rw [hch, if_neg hst, if_neg hst', if_pos hw]
  have hxrep : x.rep = (s.elapse dt).rep := by rw [hxr, hu]
  have hhear : s.Hears { srcs := [0x080 + 16 * s.spOf ch.val + 4] } (x.spEvent ch.val 4).rep := by
    rw [← hxsp]
    exact State.Hears.spEvent (hxrep ▸ State.Hears.start hs dt) hxlive _ _
  refine answers_hears hs (exec_busIntegrationComplete ch) hg hhear fun r heard => ⟨?_, ?_, fun n hn => ?_, heard.raises _ (by simp)⟩
  · rw [hu]
    show ({ x with rep := r } : State) = { u with chs := x.chs, rep := r }
    rw [hxr]
  · show x.ch ch.val = _
    rw [← hx]
    exact State.setCh_self _ _ _
  · show x.ch n = _
    rw [← hx, State.setCh_ne _ _ hn, ← hu, State.elapse_ch]

theorem answers_modeTakesEffect {m : ChMode} (hp : (s.ch ch.val).pendMode = some m) (hh : (s.ch ch.val).heldMode = false)
    (hne : (s.ch ch.val).mode ≠ m)
    (hw : ((s.ch ch.val).wire ≠ .ownFrame ∧ (s.ch ch.val).wire ≠ .otherFrame) ∨ (s.ch ch.val).integWait = true) :
    let c := s.ch ch.val
    Answers (.modeTakesEffect dt ch) s (fun t =>
      s.ModeFramed dt ch.val t ∧ (t.ch ch.val).mode = m ∧ (t.ch ch.val).pendMode = none ∧ (t.ch ch.val).ready = c.ready ∧
      (m = .off → (t.ch ch.val).st = .off ∧ (t.ch ch.val).tec = 0 ∧ (t.ch ch.val).recn = 0 ∧ (t.ch ch.val).boHist = []) ∧
      (c.mode = .off → (t.ch ch.val).st = .integrating ∧ (t.ch ch.val).lec = 0)) := by
  intro c
  obtain ⟨u, hu⟩ : ∃ u, s.elapse dt = u := ⟨_, rfl⟩
  have hch : u.ch ch.val = c := hu ▸ s.elapse_ch ch.val dt
  have M := State.modeOnly_frame ch.val
  obtain ⟨x, hx⟩ : ∃ x, u.modCh ch.val (fun c => { c with wire := .gap }) = x := ⟨_, rfl⟩
  have hxm : State.ModeOnly ch.val u x := hx ▸ M.chan u _
  have hxch : x.ch ch.val = { c with wire := .gap } := by
    rw [← hx, ← hch]
    exact State.setCh_self _ _ _
  have hg : (s.elapse dt).modeActs ch.val = x.setMode ch.val m := by
    rw [hu, ← hx]
    unfold State.modeActs
    simp only
    rw [hch, hp]
    refine if_pos ?_
    rw [hh]
    simpa using hw
  have hend := M.setMode x m
  obtain ⟨h1, h2, h3⟩ := x.setMode_mode ch.val m
  refine answers_hears hs (exec_modeTakesEffect ch) hg ((hu ▸ State.Hears.start hs dt).modeOnly (M.trans hxm hend)) fun r _ =>
    ⟨State.ModeOnly.framed hu (M.trans hxm hend) r, h1, h2, h3.trans (by rw [hxch]), fun hm => ?_, fun hoff => ?_⟩
  · subst hm
    obtain ⟨w, hw⟩ := x.setMode_off ch.val (by rw [hxch]; exact hne)
    show ((x.setMode ch.val .off).ch ch.val).st = _ ∧ ((x.setMode ch.val .off).ch ch.val).tec = _ ∧
      ((x.setMode ch.val .off).ch ch.val).recn = _ ∧ ((x.setMode ch.val .off).ch ch.val).boHist = _
    rw [hw]
    exact ⟨rfl, rfl, rfl, rfl⟩
  · show ((x.setMode ch.val m).ch ch.val).st = _ ∧ ((x.setMode ch.val m).ch ch.val).lec = _
    rw [x.setMode_from_off ch.val (by rw [hxch]; exact hoff) fun h => hne (by rw [h]; exact hoff)]
    exact ⟨rfl, rfl⟩

end

/-- Settles O20, by what a mode and the return to ERROR_ACTIVE make of a channel (`State.enterActive_spec`). -/
theorem channelStatesGoOn : Obligations.ChannelStatesGoOn := by
  unfold Obligations.ChannelStatesGoOn
  intro s dt ch hs c frame
  refine ⟨fun hst hleft => answers_holdoffEnd ch hs hst hleft,
    fun hst => ⟨fun hlt => answers_busIntegrationComplete_counts ch hs hst hlt, fun hdone => answers_recoveryComplete ch hs hst hdone⟩,
    fun hst htec hrec => answers_busIntegrationComplete_active ch hs hst htec hrec,
    fun h1 h2 hw => answers_busIntegrationComplete_waits ch hs h1 h2 hw,
    fun m hp hh hne hw => answers_modeTakesEffect ch hs hp hh hne hw, fun hh _ => ?_⟩
  refine answers_settles hs (exec_modeTakesEffect ch) (v := s.elapse dt) ?_ (State.elapse_settled hs dt) rfl
  unfold State.modeActs
  simp only
  split
  · exact if_neg (by rw [State.elapse_ch, hh]; simp)
  · rfl

end Sys2Proof.Machine
end

section
/-!
PROOFS. The ready set: the choice of its head, the transmit timeout, and its order (R90 to R95).
-/

namespace Sys2Proof.Machine

section
variable {s : State} {dt : Nat} (hs : s.ready) (ch : Fin 16)

/-- FRAME_CHOICE, in the state of its instant. -/
def State.mayChoose (s : State) (ch : Nat) (poison : Bool) : State :=
  let c := s.ch ch
  if c.wire = .ownFrame ∨ c.wire = .otherFrame then s else (s.setCh ch { c with wire := .idle }).choose ch poison

theorem exec_frameChoice (poison : Bool) : exec (.frameChoice dt ch poison) s = s.at_ dt (fun s => s.mayChoose ch.val poison) := rfl

/-- Is a bobbin on the wire? -/
def Channel.onWire (c : Channel) (e : Ready) : Bool := decide (c.wire = .ownFrame) && decide (c.chosen = some e.bob)

/-- A bobbin on the wire at its fourth boundary is doomed, not cut. -/
def Channel.doom (c : Channel) (e : Ready) : Ready := if decide (e.age ≥ 4) && c.onWire e then { e with doomed := true } else e

/-- The bobbins at their fourth boundary that are not on the wire. -/
def Channel.overdue (c : Channel) : List Ready := c.ready.filter (fun e => decide (e.age ≥ 4) && !c.onWire e)

/-- TRANSMIT_TIMEOUT, in the state of its instant. -/
def State.timedOut (s : State) (ch : Nat) : State :=
  (s.setCh ch { s.ch ch with ready := (s.ch ch).ready.map (s.ch ch).doom }).abortAll ch (s.ch ch).overdue

theorem exec_transmitTimeout : exec (.transmitTimeout dt ch) s = s.at_ dt (fun s => s.timedOut ch.val) := rfl

/-- The transmit sliver after the record of a bobbin was pushed, unless it was there, and begun (R421, R426). -/
def Sliver.begun (v : Sliver) (ch : Nat) (e : Ready) (b : Bobbin) : Sliver :=
  (match v.recs with
  | x :: _ => if x.bob = e.bob then v else v.flushHead.push (txRec ch e.bob b.frame)
  | [] => v.push (txRec ch e.bob b.frame)).begin_

/-- The head of a ready set chosen, before it is offered. -/
def State.headChosen (s : State) (ch : Nat) (e : Ready) (b : Bobbin) : State :=
  (s.setCh ch { s.ch ch with chosen := some e.bob, offered := false }).setSliver (s.txSliver ch)
    ((s.sliver (s.txSliver ch)).begun ch e b)

theorem State.choose_head {u : State} {ch : Nat} {e : Ready} {l : List Ready} {b : Bobbin} (hmay : (u.ch ch).maySend = true)
    (hw : (u.ch ch).wire = .idle) (hno : (u.ch ch).chosen = none) (hready : (u.ch ch).ready = e :: l) (hd : e.doomed = false)
    (hb : u.bob e.bob = some b) :
    u.choose ch false =
      if (u.ch ch).mode = .loopback then u.headChosen ch e b
      else (u.headChosen ch e b).emit (.offer ch (sentFrame (u.ch ch) b.frame)) := by
  have hfind : (u.ch ch).ready.find? (fun e => !e.doomed) = some e := by rw [hready, List.find?_cons_of_pos (by rw [hd]; rfl)]
  unfold State.choose
  refine (if_neg (by rw [hmay, hw]; decide)).trans ?_
  rw [hno]
  simp only [hfind, hb]
  exact (if_neg Bool.false_ne_true).trans rfl

theorem State.choose_silent {u : State} {ch : Nat} (h : (u.ch ch).maySend = false) : u.choose ch false = u := by
  unfold State.choose
  simp only [h]
  rfl

include hs

theorem answers_frameChoice_head {e : Ready} {l : List Ready} {b : Bobbin} (hmay : (s.ch ch.val).maySend = true)
    (hw : (s.ch ch.val).wire = .gap) (hno : (s.ch ch.val).chosen = none) (hready : (s.ch ch.val).ready = e :: l)
    (hd : e.doomed = false) (hb : s.bob e.bob = some b) :
    let c := s.ch ch.val
    Answers (.frameChoice dt ch false) s (fun t =>
      t = { s.elapse dt with chs := t.chs, mm := t.mm, rep := t.rep } ∧ (t.ch ch.val).chosen = some e.bob ∧
      (t.ch ch.val).ready = c.ready ∧ (c.mode ≠ .loopback → s.putsOut t (.offer ch.val (sentFrame c b.frame))) ∧
      (c.mode = .loopback → t.rep.out = s.rep.out)) := by
  intro c
  obtain ⟨u, hu⟩ : ∃ u, s.elapse dt = u := ⟨_, rfl⟩
  have hch : u.ch ch.val = c := hu ▸ s.elapse_ch ch.val dt
  obtain ⟨x, hx⟩ : ∃ x, u.setCh ch.val { c with wire := .idle } = x := ⟨_, rfl⟩
  have hxch : x.ch ch.val = { c with wire := .idle } := hx ▸ State.setCh_self _ _ _
  have hxr : x = { u with chs := x.chs } := by rw [← hx]; rfl
  have hxb : x.bob e.bob = some b := by
    rw [← hb]
    unfold State.bob
    rw [hxr, ← hu, ← s.elapse_cr dt]
  have hgo : (s.elapse dt).mayChoose ch.val false = x.choose ch.val false := by
    rw [hu, ← hx, ← hch]
    exact if_neg (by rw [hch]; show ¬((s.ch ch.val).wire = _ ∨ (s.ch ch.val).wire = _); rw [hw]; decide)
  rw [State.choose_head (e := e) (l := l) (b := b) (by rw [hxch]; exact hmay) (by rw [hxch]) (by rw [hxch]; exact hno)
    (by rw [hxch]; exact hready) hd hxb] at hgo
  obtain ⟨v, hv⟩ : ∃ v, x.headChosen ch.val e b = v := ⟨_, rfl⟩
  have hvr : v = { u with chs := v.chs, mm := v.mm } := by rw [← hv, ← hx]; rfl
  have hvch : v.ch ch.val = { c with wire := .idle, chosen := some e.bob, offered := false } := by
    rw [← hv]
    exact (State.setCh_self _ _ _).trans (by rw [hxch])
  have hvrep : v.rep = (s.elapse dt).rep := by rw [hvr, hu]
  rw [hv, hxch] at hgo
  have hfr : sentFrame { c with wire := .idle } b.frame = sentFrame c b.frame := rfl
  rw [hfr] at hgo
  by_cases hmode : c.mode = .loopback
  · rw [if_pos hmode] at hgo
    refine answers_settles hs (exec_frameChoice ch false) hgo ?_ ⟨?_, ?_, ?_, fun h => absurd hmode h, fun _ => ?_⟩
    · rw [hvr, ← hu]
      exact State.elapse_settled hs dt
    · rw [hu]
      exact hvr.trans (by rw [hvr])
    · rw [hvch]
    · rw [hvch]
    · rw [hvrep, State.elapse_rep hs.2.2]
  · rw [if_neg hmode] at hgo
    refine answers_reports hs (exec_frameChoice ch false) hgo (v := v) ((State.RepOnly.refl v).emit _)
      (State.Tells.emit (b := v) (hvrep ▸ State.Tells.elapse hs dt) _) fun r told => ⟨?_, ?_, ?_, fun _ => ?_, fun h => absurd h hmode⟩
    · rw [hu, hvr]
    · show (v.ch ch.val).chosen = _
      rw [hvch]
    · show (v.ch ch.val).ready = _
      rw [hvch]
    · exact told.outs _ List.mem_cons_self

theorem answers_frameChoice_silent (hmay : (s.ch ch.val).maySend = false) (h1 : (s.ch ch.val).wire ≠ .ownFrame)
    (h2 : (s.ch ch.val).wire ≠ .otherFrame) :
    Answers (.frameChoice dt ch false) s (fun t =>
      t = { s.elapse dt with chs := t.chs } ∧ t.ch ch.val = { s.ch ch.val with wire := .idle }) := by
  obtain ⟨u, hu⟩ : ∃ u, s.elapse dt = u := ⟨_, rfl⟩
  have hch : u.ch ch.val = s.ch ch.val := hu ▸ s.elapse_ch ch.val dt
  have hgo : (s.elapse dt).mayChoose ch.val false = u.setCh ch.val { s.ch ch.val with wire := .idle } := by
    rw [hu, ← hch]
    refine (if_neg (by rw [hch]; exact not_or.2 ⟨h1, h2⟩)).trans (State.choose_silent ?_)
    rw [State.setCh_self, hch]
    exact hmay
  exact answers_settles hs (exec_frameChoice ch false) hgo (hu ▸ State.elapse_settled hs dt) ⟨by rw [hu]; rfl, State.setCh_self _ _ _⟩

theorem answers_transmitTimeout :
    let c := s.ch ch.val
    Answers (.transmitTimeout dt ch) s (fun t =>
      (∀ e ∈ (t.ch ch.val).ready, e.age < 4 ∨ (e.doomed = true ∧ c.wire = .ownFrame ∧ c.chosen = some e.bob)) ∧
      (∀ e ∈ c.ready, e.age < 4 → (∀ x ∈ c.ready, x.bob = e.bob → x = e) → e ∈ (t.ch ch.val).ready)) := by
  intro c
  obtain ⟨u, hu⟩ : ∃ u, s.elapse dt = u := ⟨_, rfl⟩
  have hch : u.ch ch.val = c := hu ▸ s.elapse_ch ch.val dt
  have hbob : ∀ e, (c.doom e).bob = e.bob := fun e => by
    unfold Channel.doom
    split
    · rfl
    · rfl
  obtain ⟨x, hx⟩ : ∃ x, u.setCh ch.val { c with ready := c.ready.map c.doom } = x := ⟨_, rfl⟩
  have hxch : x.ch ch.val = { c with ready := c.ready.map c.doom } := hx ▸ State.setCh_self _ _ _
  have hg : (s.elapse dt).timedOut ch.val = x.abortAll ch.val c.overdue := by
    rw [hu, ← hx, ← hch]
    rfl
  have hshed := State.foldl_shed (fun a e => a.abort_ch ch.val e ch.val) c.overdue x
  have hmem : ∀ e, e ∈ ((x.abortAll ch.val c.overdue).ch ch.val).ready ↔
      e ∈ c.ready.map c.doom ∧ ∀ k ∈ c.overdue, e.bob ≠ k.bob := fun e => by
    have h := hshed.mem (x := e)
    rw [hxch] at h
    exact h
  have W := State.wireOnly_frame ch.val
  have hw := W.abortAll x c.overdue
  have hxrep : x.rep = (s.elapse dt).rep := by rw [← hx, hu]; rfl
  refine answers_hears hs (exec_transmitTimeout ch) hg ((hxrep ▸ State.Hears.start hs dt).mono hw.grows hw.whOld)
    fun r _ => ⟨fun e he => ?_, fun e he hage huniq => ?_⟩
  · obtain ⟨hmap, hne⟩ := (hmem e).1 he
    obtain ⟨k, hk, rfl⟩ := List.mem_map.1 hmap
    by_cases h4 : k.age < 4
    · refine .inl ?_
      rw [show c.doom k = k from if_neg (by simp [h4])]
      exact h4
    by_cases hon : c.onWire k = true
    · refine .inr ?_
      rw [show c.doom k = { k with doomed := true } from if_pos (by simp [hon, Nat.le_of_not_lt h4])]
      have hon' := hon
      simp only [Channel.onWire, Bool.and_eq_true, decide_eq_true_eq] at hon'
      exact ⟨rfl, hon'.1, hon'.2⟩
    · refine absurd (hbob k) (hne k (List.mem_filter.2 ⟨hk, ?_⟩))
      simp [hon, Nat.le_of_not_lt h4]
  · refine (hmem e).2 ⟨List.mem_map.2 ⟨e, he, if_neg (by simp [hage])⟩, fun k hk hbk => ?_⟩
    obtain ⟨hk1, hk2⟩ := List.mem_filter.1 hk
    rw [huniq k hk1 hbk.symm] at hk2
    simp [Nat.not_le.2 hage] at hk2

end

/-- A bobbin enters a ready set behind those with a lower key, and before the first with a higher one. -/
theorem mem_insReady {e x : Ready} {l : List Ready} (h : x ∈ insReady e l) : x = e ∨ x ∈ l := by
  induction l with
  | nil => exact .inl (List.mem_singleton.1 h)
  | cons a l ih =>
    unfold insReady at h
    split at h
    · rcases List.mem_cons.1 h with h | h
      · exact .inl h
      · exact .inr h
    · rcases List.mem_cons.1 h with h | h
      · exact .inr (h ▸ List.mem_cons_self)
      · exact (ih h).imp_right (List.mem_cons_of_mem a)

theorem insReady_pairwise (e : Ready) (l : List Ready) (h : l.Pairwise (fun a b => a.key.toNat ≤ b.key.toNat)) :
    (insReady e l).Pairwise (fun a b => a.key.toNat ≤ b.key.toNat) := by
  induction l with
  | nil => exact List.pairwise_singleton _ _
  | cons a l ih =>
    obtain ⟨ha, hl⟩ := List.pairwise_cons.1 h
    unfold insReady
    split
    · next hlt =>
      refine List.pairwise_cons.2 ⟨fun x hx => ?_, h⟩
      rcases List.mem_cons.1 hx with rfl | hx
      · exact Nat.le_of_lt hlt
      · exact Nat.le_trans (Nat.le_of_lt hlt) (ha x hx)
    · next hge =>
      refine List.pairwise_cons.2 ⟨fun x hx => ?_, ih hl⟩
      rcases mem_insReady hx with rfl | hx
      · exact Nat.le_of_not_lt hge
      · exact ha x hx

/-- Settles O22, by the bobbins that an abort takes out of the ready set (`State.foldl_shed`) and by induction on the set. -/
theorem readySetIsServedFromItsHead : Obligations.ReadySetIsServedFromItsHead := by
  unfold Obligations.ReadySetIsServedFromItsHead
  intro s dt ch hs c
  exact ⟨fun e l b hmay hw hno hready hd hb => answers_frameChoice_head hs ch hmay hw hno hready hd hb,
    fun hmay h1 h2 => answers_frameChoice_silent hs ch hmay h1 h2, answers_transmitTimeout hs ch, insReady_pairwise⟩

end Sys2Proof.Machine
end

section
/-!
PROOFS. Frames on the wire: relations that the line watch, the checks of frames and the error counters keep, and what they make of the
channel.
-/

namespace Sys2Proof.Machine

/-- A relation that reports and changes of the promise, the line watch and the ply keep. -/
structure LineFrame (R : State → State → Prop) : Prop extends DrFrame R where
  lw : ∀ a x, R a { a with lw := x }
  pl : ∀ a x, R a { a with pl := x }

/-- A relation that changes of one channel keep too. -/
structure AirFrame (ch : Nat) (R : State → State → Prop) : Prop extends LineFrame R where
  chan : ∀ a c, R a (a.setCh ch c)

/-- A relation that whatever a frame on the wire changes keeps. -/
structure BusFrame (ch : Nat) (R : State → State → Prop) : Prop extends WireFrame ch R where
  lw : ∀ a x, R a { a with lw := x }
  pl : ∀ a x, R a { a with pl := x }

section
variable {R : State → State → Prop} {ch : Nat}

theorem AirFrame.chanFrame (F : AirFrame ch R) : ChanFrame ch R := { F with }
theorem BusFrame.air (F : BusFrame ch R) : AirFrame ch R := { F with }

/-! ## The line watch -/

section
variable (F : LineFrame R) (a : State)
include F

theorem LineFrame.setLine (v : LineCh) : R a (a.setLine ch v) := F.lw a _
theorem LineFrame.modLine (f : LineCh → LineCh) : R a (a.modLine ch f) := F.lw a _

theorem LineFrame.judgeTerm : R a (a.judgeTerm ch) := F.ite (F.raise (F.lw a _) _) (F.lw a _)

theorem LineFrame.estimate (dom : Int) : R a (a.estimate ch dom) := F.trans (F.lw a _) (F.judgeTerm _)

theorem LineFrame.lineFrame (own : Bool) (f : Sys2Proof.Frame) (eof : BitVec 64) (w : Option Wave) : R a (a.lineFrame ch own f eof w) := by
  unfold State.lineFrame
  refine F.ite (F.refl a) ?_
  simp only
  split
  · exact F.count (F.refl a) _
  · exact F.refl a
  · next k m _ _ =>
    obtain ⟨s1, hs1⟩ : ∃ s1, a.modLine ch (fun v => { v with sig := Tbl.put v.sig k {} { (Tbl.lookD (a.line ch).sig k {}).add m with
      every := if (decide (a.fld (lwBase ch) 8 8 ≠ 0) && decide (((Tbl.lookD (a.line ch).sig k {}).add m).every + 1 ≥ a.fld (lwBase ch) 8 8)) = true
        then 0 else ((Tbl.lookD (a.line ch).sig k {}).add m).every + 1 } }) = s1 := ⟨_, rfl⟩
    have h1 : R a s1 := hs1 ▸ F.modLine a _
    rw [hs1]
    have h2 : R a (if a.fld (lwBase ch + 4) 0 5 = k then s1.estimate ch (m.x.headD 0) else s1) :=
      F.ite (F.trans h1 (F.estimate _ _)) h1
    exact F.ite (F.lineRecord h2 _) h2

theorem LineFrame.lineError (own : Bool) (key : Option Word) (e : ErrInfo) : R a (a.lineError ch own key e) := by
  unfold State.lineError
  have h0 : R a (a.modLine ch (fun v => { v with errs := v.errs + 1 })) := F.modLine a _
  refine F.ite (F.refl a) (F.ite h0 ?_)
  simp only
  split
  · exact F.count h0 _
  · exact F.trans h0 (F.lw _ _)

theorem LineFrame.noteTrigger (key : Option Word) (err : Bool) : R a (a.noteTrigger ch key err) := by
  unfold State.noteTrigger
  split
  · exact F.refl a
  · exact F.ite (F.modLine a _) (F.refl a)

theorem LineFrame.frameHank (sent : Bool) (f : Sys2Proof.Frame) (dur : Nat) (errt poison : Bool) :
    R a (a.frameHank ch sent f dur errt poison) := F.ite (F.hank (F.refl a) _ _ _ _) (F.refl a)

/-! ## The checks of frames (R171, R172, R454, R462) -/

theorem LineFrame.checkForeign (f : Sys2Proof.Frame) : R a (a.checkForeign ch f) := by
  unfold State.checkForeign
  simp only
  split
  · exact F.detectAt _ _ _ _ _ _
  · exact F.ite (F.trans (F.dr a _) (F.detectAt _ _ _ _ _ _)) (F.ite (F.trans (F.dr a _) (F.detectAt _ _ _ _ _ _)) (F.dr a _))

theorem LineFrame.judgeOther (f : Sys2Proof.Frame) : R a (a.judgeOther ch f) := F.ite (F.refl a) (F.checkForeign a f)

theorem LineFrame.shadowCompare (n : Nat) (x : Stream) (f : Sys2Proof.Frame) (eof : BitVec 64) : R a (a.shadowCompare n x f eof) := by
  unfold State.shadowCompare
  split
  · exact F.refl a
  · have h1 := fun y => F.setStream a n y
    simp only
    split
    · exact h1 _
    · exact F.ite (h1 _) (F.raiseOnce (F.slub (F.count (F.trans (h1 _) (F.pl _ _)) _) _ _ _ _) _ _)

theorem LineFrame.ownByWire (n : Nat) (f : Sys2Proof.Frame) (sof eof : BitVec 64) : R a (a.ownByWire n f sof eof) := by
  unfold State.ownByWire
  split
  · exact F.refl a
  · simp only
    split
    · exact F.trans (F.shadowCompare a _ _ _ _) (F.relEnd _ _ _ _ _)
    · exact F.shadowCompare a _ _ _ _

end

/-! ## Errors and their flags (R99, R173) -/

section
variable (F : AirFrame ch R) (a : State)
include F

theorem AirFrame.errorModel : R a (a.errorModel ch) := F.ite (F.trans (F.chan a _) (F.detect _ _ _ _ _)) (F.chan a _)

theorem AirFrame.pexEvent : R a (a.pexEvent ch) := F.spEvent (F.chCount (F.chan a _) _ _) _ _

theorem AirFrame.tdc (f : Sys2Proof.Frame) : R a (a.tdc ch f) := by
  unfold State.tdc
  split
  · exact F.refl a
  · exact F.ite (F.spEvent (F.chCount (F.chan a _) _ _) _ _) (F.chan a _)

end

section
variable (F : BusFrame ch R) (a : State)
include F

theorem BusFrame.attemptFailed (e : Ready) : R a (a.attemptFailed ch e) :=
  F.ite (F.trans (F.modeFrame.unchoose a) (F.abort _ e)) (F.modeFrame.unchoose a)

end

end

/-! ## Instances -/

theorem State.keepsChs_line : LineFrame (fun a b => b.chs = a.chs) where
  toDrFrame := State.keepsChs_frame.toDrFrame
  lw _ _ := rfl
  pl _ _ := rfl

/-- From a to b one channel, the promise, the creel, the memory, the key store, the line watch, the ply and the grace of the
configuration CRC change, and no report is taken back. -/
structure State.BusOnly (ch : Nat) (a b : State) : Prop where
  rest : b = { a with chs := b.chs, cr := b.cr, mm := b.mm, ks := b.ks, dr := b.dr, lw := b.lw, pl := b.pl, regs := b.regs, rep := b.rep }
  regs : b.regs = { a.regs with passValid := b.regs.passValid, graceOn := b.regs.graceOn, graceLeft := b.regs.graceLeft }
  grows : Rep.Grows a.rep b.rep
  whOld : b.rep.whOld = a.rep.whOld

theorem State.busOnly_frame (ch : Nat) : BusFrame ch (State.BusOnly ch) where
  refl _ := ⟨rfl, rfl, .refl _, rfl⟩
  trans h g := ⟨g.rest.trans (by rw [h.rest]), g.regs.trans (by rw [h.regs]), h.grows.trans g.grows, g.whOld.trans h.whOld⟩
  rep _ _ hg hw := ⟨rfl, rfl, hg, hw⟩
  dr _ _ := ⟨rfl, rfl, .refl _, rfl⟩
  cr _ _ := ⟨rfl, rfl, .refl _, rfl⟩
  mm _ _ := ⟨rfl, rfl, .refl _, rfl⟩
  ks _ _ := ⟨rfl, rfl, .refl _, rfl⟩
  grace _ _ _ _ := ⟨rfl, rfl, .refl _, rfl⟩
  chan _ _ := ⟨rfl, rfl, .refl _, rfl⟩
  lw _ _ := ⟨rfl, rfl, .refl _, rfl⟩
  pl _ _ := ⟨rfl, rfl, .refl _, rfl⟩

/-- From a to b one channel, the promise, the line watch and the ply change, and no report is taken back. -/
structure State.AirOnly (ch : Nat) (a b : State) : Prop where
  rest : b = { a with chs := b.chs, dr := b.dr, lw := b.lw, pl := b.pl, rep := b.rep }
  grows : Rep.Grows a.rep b.rep
  whOld : b.rep.whOld = a.rep.whOld

theorem State.airOnly_frame (ch : Nat) : AirFrame ch (State.AirOnly ch) where
  refl _ := ⟨rfl, .refl _, rfl⟩
  trans h g := ⟨g.rest.trans (by rw [h.rest]), h.grows.trans g.grows, g.whOld.trans h.whOld⟩
  rep _ _ hg hw := ⟨rfl, hg, hw⟩
  dr _ _ := ⟨rfl, .refl _, rfl⟩
  lw _ _ := ⟨rfl, .refl _, rfl⟩
  pl _ _ := ⟨rfl, .refl _, rfl⟩
  chan _ _ := ⟨rfl, .refl _, rfl⟩

section
variable {ch : Nat} {a b : State}

theorem State.AirOnly.bus (h : State.AirOnly ch a b) : State.BusOnly ch a b :=
  ⟨h.rest.trans (by rw [h.rest]), by rw [h.rest], h.grows, h.whOld⟩

theorem State.BusOnly.live (h : State.BusOnly ch a b) : b.regs.live = a.regs.live := by rw [h.regs]
theorem State.BusOnly.tm (h : State.BusOnly ch a b) : b.tm = a.tm := by rw [h.rest]
theorem State.BusOnly.clock (h : State.BusOnly ch a b) : b.clock = a.clock := by rw [h.rest]
theorem State.BusOnly.spOf (h : State.BusOnly ch a b) (k : Nat) : b.spOf k = a.spOf k := by rw [h.rest]; rfl

theorem State.Hears.bus {s : State} {k : Account} (h : s.Hears k a.rep) (g : State.BusOnly ch a b) : s.Hears k b.rep :=
  h.mono g.grows g.whOld

end

end Sys2Proof.Machine
end

section
/-!
PROOFS. Errors on the wire: the error counters and states that follow them (R99 to R107).
-/

namespace Sys2Proof.Machine

/-! ## Bus-off (R102 to R107) -/

section
variable (a : State) (ch : Nat)

theorem State.holdEnd_ch : (a.holdEnd ch).ch ch =
    if a.fld (spChBase ch + 0x14) 0 2 = 1 ∧ (a.ch ch).heldRecover = false then { a.ch ch with st := .boWait, holdLeft := 0 }
    else { a.ch ch with st := .recovering, holdLeft := 0, heldRecover := false, recov := 0 } := by
  unfold State.holdEnd
  simp only [Bool.and_eq_true, decide_eq_true_eq, Bool.not_eq_true']
  split
  · rw [State.enterSt_ch, State.setCh_self]
  · rw [State.enterSt_ch, State.setCh_self]

/-- Turns in which the channel entered bus-off, with this one. -/
def State.busOffs : List Nat := (a.ch ch).boHist ++ [a.tm.turn.toNat]

/-- A channel that enters bus-off, after its frame went back. -/
def State.busOffBegun : State :=
  (a.modCh ch (fun c => { c with boHist := a.busOffs ch, heldRecover := false, wire := .idle })).unchoose ch

/-- Its entry reported, and its stream bobbins removed. -/
def State.busOffLeft : State := (((a.busOffBegun ch).chCount ch 10).spEvent ch 0).removeStreams ch

/-- Its hold-off begun. -/
def State.busOffHeld : State :=
  ((a.busOffLeft ch).modCh ch (fun c => { c with holdLeft := a.fld (spChBase ch + 0x14) 8 8 })).enterSt ch .boHold

theorem State.busOffEntry_eq : a.busOffEntry ch =
    if decide (a.fld (spChBase ch + 0x14) 0 2 = 2) &&
        decide (((a.busOffs ch).filter (fun t => decide (t + a.fld (spChBase ch + 0x18) 0 16 > a.tm.turn.toNat))).length ≥
          a.fld (spChBase ch + 0x14) 16 4) then (a.busOffLeft ch).enterSt ch .quarantined
    else if a.fld (spChBase ch + 0x14) 8 8 = 0 then (a.busOffHeld ch).holdEnd ch else a.busOffHeld ch := rfl

/-- What bus-off leaves of a channel: its counters and its last error stay, no stream bobbin is ready. -/
structure Channel.Expelled (c t : Channel) : Prop where
  tec : t.tec = c.tec
  recn : t.recn = c.recn
  lec : t.lec = c.lec
  chosen : t.chosen = none
  ready : ∀ x ∈ t.ready, x ∈ c.ready ∧ ∀ n k, x.kind ≠ .stream n k

theorem State.busOffLeft_ch : (a.ch ch).Expelled ((a.busOffLeft ch).ch ch) := by
  have hbegun : (a.busOffBegun ch).ch ch =
      { a.ch ch with boHist := a.busOffs ch, heldRecover := false, wire := .idle, chosen := none, offered := false } := by
    unfold State.busOffBegun State.modCh
    rw [State.unchoose_ch, State.setCh_self]
  obtain ⟨b, hb⟩ : ∃ b, ((a.busOffBegun ch).chCount ch 10).spEvent ch 0 = b := ⟨_, rfl⟩
  have hbch : b.ch ch = (a.busOffBegun ch).ch ch := by rw [← hb, State.spEvent_ch, State.chCount_ch]
  have hshed := b.removeStreams_shed ch
  have ht : a.busOffLeft ch = b.removeStreams ch := by rw [← hb]; rfl
  rw [ht]
  obtain ⟨t, ht'⟩ : ∃ t, (b.removeStreams ch).ch ch = t := ⟨_, rfl⟩
  rw [ht', hbch, hbegun] at hshed
  rw [ht']
  refine ⟨by rw [hshed.rest], by rw [hshed.rest], by rw [hshed.rest], hshed.chosen.elim id id, fun x hx => ?_⟩
  obtain ⟨h1, h2⟩ := hshed.mem.1 hx
  refine ⟨h1, fun n k hk => h2 x (List.mem_filter.2 ⟨h1, by rw [hk]⟩) rfl⟩

theorem State.busOffEntry_ch :
    let t := (a.busOffEntry ch).ch ch
    (a.ch ch).Expelled t ∧ (t.st = .boHold ∨ t.st = .recovering ∨ t.st = .boWait ∨ t.st = .quarantined) := by
  intro t
  have hleft := a.busOffLeft_ch ch
  obtain ⟨b, hb⟩ : ∃ b, a.busOffLeft ch = b := ⟨_, rfl⟩
  have hst : ∀ (x : Channel) st, (a.ch ch).Expelled x → (a.ch ch).Expelled { x with st := st } := fun _ _ h =>
    ⟨h.tec, h.recn, h.lec, h.chosen, h.ready⟩
  have hheld : (a.busOffHeld ch).ch ch = { b.ch ch with holdLeft := a.fld (spChBase ch + 0x14) 8 8, st := .boHold } := by
    unfold State.busOffHeld State.modCh
    rw [State.enterSt_ch, State.setCh_self, hb]
  rw [hb] at hleft
  have hheldKept : (a.ch ch).Expelled ((a.busOffHeld ch).ch ch) := by
    rw [hheld]
    exact ⟨hleft.tec, hleft.recn, hleft.lec, hleft.chosen, hleft.ready⟩
  have ht : t = (a.busOffEntry ch).ch ch := rfl
  obtain ⟨z, hz⟩ : ∃ z, a.busOffHeld ch = z := ⟨_, rfl⟩
  rw [hz] at hheld hheldKept
  rw [ht, State.busOffEntry_eq, hb, hz]
  clear ht hz hb
  clear t
  split
  · rw [State.enterSt_ch]
    exact ⟨hst _ _ hleft, .inr (.inr (.inr rfl))⟩
  · split
    · rw [State.holdEnd_ch]
      obtain ⟨h1, h2, h3, h4, h5⟩ := hheldKept
      split
      · exact ⟨⟨h1, h2, h3, h4, h5⟩, .inr (.inr (.inl rfl))⟩
      · exact ⟨⟨h1, h2, h3, h4, h5⟩, .inr (.inl rfl)⟩
    · exact ⟨hheldKept, .inl (by rw [hheld])⟩

end

section
variable {s b : State} {k : Account} {ch : Nat}

theorem State.Hears.wire {w : State} (h : s.Hears k b.rep) (hm : State.WireOnly ch b w) : s.Hears k w.rep := h.mono hm.grows hm.whOld

/-- Entry to bus-off is counted and raises its source. -/
theorem State.Hears.busOffEntry (h : s.Hears k b.rep) (hlive : b.regs.live = s.regs.live) :
    s.Hears { k with srcs := (0x080 + 16 * b.spOf ch) :: k.srcs, cts := (64 * ch + 10, 1) :: k.cts } (b.busOffEntry ch).rep := by
  have W := State.wireOnly_frame ch
  have M := W.modeFrame
  have hbegun : State.WireOnly ch b (b.busOffBegun ch) := W.trans (W.chan b _) (M.unchoose _)
  obtain ⟨x, hx⟩ : ∃ x, b.busOffBegun ch = x := ⟨_, rfl⟩
  rw [hx] at hbegun
  have hcount := State.Hears.count (b := x) (h.wire hbegun) (64 * ch + 10)
  obtain ⟨y, hy⟩ : ∃ y, x.chCount ch 10 = y := ⟨_, rfl⟩
  have hyr : State.RepOnly x y := by rw [← hy]; exact (State.RepOnly.refl x).count _
  have hcount' : s.Hears { k with cts := (64 * ch + 10, 1) :: k.cts } y.rep := by rw [← hy]; exact hcount
  have hraise := State.Hears.spEvent (b := y) hcount' (hyr.live.trans (hbegun.live.trans hlive)) ch 0
  rw [show y.spOf ch = b.spOf ch by rw [hyr]; exact hbegun.spOf ch] at hraise
  have hleft : State.WireOnly ch (y.spEvent ch 0) (b.busOffLeft ch) := by
    rw [show b.busOffLeft ch = (y.spEvent ch 0).removeStreams ch by rw [← hy, ← hx]; rfl]
    exact W.removeStreams _
  have hheld : State.WireOnly ch (y.spEvent ch 0) (b.busOffHeld ch) := W.trans (W.trans hleft (W.chan _ _)) (M.toChanFrame.enterSt _ _)
  refine State.Hears.wire hraise ?_ (ch := ch)
  rw [State.busOffEntry_eq]
  exact W.ite (W.trans hleft (M.toChanFrame.enterSt _ _)) (W.ite (W.trans hheld (M.toChanFrame.holdEnd _)) hheld)

end

/-! ## Fault confinement (R100 to R102) -/

section
variable (a : State) (ch : Nat)

theorem State.confine_mild (hp : (a.ch ch).st.part = true) (hh : (a.ch ch).heldMode = false) (ht : (a.ch ch).tec ≤ 255) :
    a.confine ch = if (a.ch ch).tec > 127 ∨ (a.ch ch).recn > 127 then (a.warnUpd ch).enterSt ch .errorPassive
      else (a.warnUpd ch).enterSt ch .errorActive := by
  have hw := a.warnUpd_ch ch
  obtain ⟨b, hb⟩ : ∃ b, a.warnUpd ch = b := ⟨_, rfl⟩
  rw [hb] at hw
  unfold State.confine
  simp only
  rw [hb, hw, if_pos hp, if_neg (Nat.not_lt.2 ht), b.enterActive_plain ch (.inl (by rw [hw]; exact hh))]

theorem State.confine_mild_ch (hp : (a.ch ch).st.part = true) (hh : (a.ch ch).heldMode = false) (ht : (a.ch ch).tec ≤ 255) :
    ∃ w, (a.confine ch).ch ch = { a.ch ch with
      warn := w, st := if (a.ch ch).tec > 127 ∨ (a.ch ch).recn > 127 then .errorPassive else .errorActive } := by
  rw [a.confine_mild ch hp hh ht]
  split
  · rw [State.enterSt_ch, State.warnUpd_ch]
    exact ⟨_, rfl⟩
  · rw [State.enterSt_ch, State.warnUpd_ch]
    exact ⟨_, rfl⟩

theorem ChanFrame.confine_mild {R : State → State → Prop} {ch : Nat} (F : ChanFrame ch R) (a : State) (hp : (a.ch ch).st.part = true)
    (hh : (a.ch ch).heldMode = false) (ht : (a.ch ch).tec ≤ 255) : R a (a.confine ch) := by
  rw [a.confine_mild ch hp hh ht]
  exact F.ite (F.trans (F.warnUpd a) (F.enterSt _ _)) (F.trans (F.warnUpd a) (F.enterSt _ _))

theorem State.confine_off (hp : (a.ch ch).st.part = true) (ht : 255 < (a.ch ch).tec) :
    a.confine ch = (a.warnUpd ch).busOffEntry ch := by
  have hw := a.warnUpd_ch ch
  obtain ⟨b, hb⟩ : ∃ b, a.warnUpd ch = b := ⟨_, rfl⟩
  rw [hb] at hw
  unfold State.confine
  simp only
  rw [hb, hw, if_pos hp, if_pos ht]

theorem State.confine_off_ch (hp : (a.ch ch).st.part = true) (ht : 255 < (a.ch ch).tec) :
    let t := (a.confine ch).ch ch
    (a.ch ch).Expelled t ∧ (t.st = .boHold ∨ t.st = .recovering ∨ t.st = .boWait ∨ t.st = .quarantined) := by
  intro t
  have hw := a.warnUpd_ch ch
  have h := (a.warnUpd ch).busOffEntry_ch ch
  rw [show t = ((a.warnUpd ch).busOffEntry ch).ch ch from congrArg (fun x : State => x.ch ch) (a.confine_off ch hp ht)]
  obtain ⟨⟨h1, h2, h3, h4, h5⟩, hst⟩ := h
  rw [hw] at h1 h2 h3 h5
  exact ⟨⟨h1, h2, h3, h4, h5⟩, hst⟩

end

theorem State.Hears.confine_off {s b : State} {k : Account} {ch : Nat} (h : s.Hears k b.rep) (hlive : b.regs.live = s.regs.live)
    (hp : (b.ch ch).st.part = true) (ht : 255 < (b.ch ch).tec) :
    s.Hears { k with srcs := (0x080 + 16 * b.spOf ch) :: k.srcs, cts := (64 * ch + 10, 1) :: k.cts } (b.confine ch).rep := by
  have hm := (State.modeOnly_frame ch).toChanFrame.warnUpd b
  have h1 := State.Hears.busOffEntry (ch := ch) (h.modeOnly hm) (hm.live.trans hlive)
  rw [hm.spOf] at h1
  rw [b.confine_off ch hp ht]
  exact h1

end Sys2Proof.Machine
end

section
/-!
PROOFS. An error flag from its first bit to the error state that follows (R89, R99 to R107, R173).
-/

namespace Sys2Proof.Machine

/-! ## The stages of an error -/

section
variable (s : State) (ch : Nat) (e : ErrInfo)

/-- The frame of this device that an error meets, with its bobbin. -/
def State.errFlight : Option (Ready × Sys2Proof.Frame) := if (s.ch ch).wire = .ownFrame then s.inFlight ch else none

/-- The frame that an error meets, as far as it is known. -/
def State.errFrame : Option Sys2Proof.Frame := match s.errFlight ch with | some x => some x.2 | none => e.frame

/-- As much of another node's frame as came is checked. -/
def State.errJudged : State :=
  match (if (s.errFlight ch).isSome || decide ((s.ch ch).wire ≠ .otherFrame) then none else e.frame) with
  | some f => s.judgeOther ch f
  | none => s

/-- The error is counted and reported. -/
def State.errTold (cls : ErrClass) : State :=
  ((((s.errJudged ch e).chCount ch (lecOf cls + 1)).chCount ch 8).spEvent ch 0xE)

/-- The line watch and the error model have seen it. -/
def State.errSeen (cls : ErrClass) : State :=
  let key := (s.errFrame ch e).map (fun f => f.key)
  (((s.errTold ch e cls).lineError ch (s.errFlight ch).isSome key e).noteTrigger ch key true).errorModel ch

/-- A channel after an error, before its bobbin is settled. -/
def Channel.afterError (c : Channel) (own : Bool) (e : ErrInfo) (cls : ErrClass) (key : Option Word) (now : BitVec 64) : Channel :=
  { (c.errored own e) with
    lec := lecOf cls, wire := .errorFrame, idleTurns := 0
    integWait := decide (c.mode = .restricted)
    retrans := match own, key with
      | false, some k => if c.retrans.contains k then c.retrans else c.retrans ++ [k]
      | _, _ => c.retrans
    ready := c.ready.map (fun r => if own && decide (c.chosen = some r.bob) then
      { r with sofT := c.sof, errT := some now } else r) }

/-- TEC and REC have moved, and the frame is traced. -/
def State.errCounted (cls : ErrClass) : State :=
  let b := (s.errSeen ch e cls).modCh ch (fun c =>
    c.afterError (s.errFlight ch).isSome e cls ((s.errFrame ch e).map (fun f => f.key)) s.now)
  match s.errFrame ch e with
  | some f => b.frameHank ch (s.errFlight ch).isSome f (durOf (s.now - (s.ch ch).sof).toNat) true false
  | none => b

/-- The frame of this device has failed. -/
def State.errSettled (cls : ErrClass) : State :=
  match s.errFlight ch with
  | some (r, f) =>
    (if s.pastRes ch f then (s.errCounted ch e cls).tdc ch f else s.errCounted ch e cls).attemptFailed ch
      { r with sofT := (s.ch ch).sof, errT := some s.now }
  | none => s.errCounted ch e cls

theorem State.errorFlag_eq : s.errorFlag ch e =
    if !(s.ch ch).taking || (decide ((s.ch ch).mode = .loopback) && !(s.errFlight ch).isSome) then s
    else if s.classOf ch (s.errFlight ch).isSome e.cls = .pex then (s.errJudged ch e).pexEvent ch
    else (s.errSettled ch e (s.classOf ch (s.errFlight ch).isSome e.cls)).confine ch := by
  unfold State.errorFlag State.errSettled State.errCounted State.errFrame
  rfl

theorem State.errFlight_isSome : (s.errFlight ch).isSome = (decide ((s.ch ch).wire = .ownFrame) && (s.inFlight ch).isSome) := by
  unfold State.errFlight
  split
  · next h => rw [decide_eq_true h, Bool.true_and]
  · next h => rw [decide_eq_false h, Bool.false_and]; rfl

/-! ## What they leave of the channel -/

/-- The counters, the last error and the state of a channel, as those of x. -/
structure Channel.ErrLike (x u : Channel) : Prop where
  tec : u.tec = x.tec
  recn : u.recn = x.recn
  lec : u.lec = x.lec
  st : u.st = x.st
  held : u.heldMode = x.heldMode

theorem Channel.errored_rest (c : Channel) (own : Bool) (e : ErrInfo) : ∃ t r, c.errored own e = { c with tec := t, recn := r } := by
  unfold Channel.errored
  split
  · exact ⟨_, _, rfl⟩
  · split
    · exact ⟨_, _, rfl⟩
    · exact ⟨_, _, rfl⟩

theorem Channel.errored_errTimes (c : Channel) (own : Bool) (e : ErrInfo) (l : List Nat) :
    (({ c with errTimes := l } : Channel).errored own e).tec = (c.errored own e).tec ∧
    (({ c with errTimes := l } : Channel).errored own e).recn = (c.errored own e).recn := by
  unfold Channel.errored
  split
  · exact ⟨rfl, rfl⟩
  · split
    · exact ⟨rfl, rfl⟩
    · exact ⟨rfl, rfl⟩

theorem State.errJudged_line {R : State → State → Prop} (F : LineFrame R) : R s (s.errJudged ch e) := by
  unfold State.errJudged
  split
  · exact F.judgeOther s _
  · exact F.refl s

theorem State.errJudged_ch : (s.errJudged ch e).ch ch = s.ch ch := State.ch_of_chs (s.errJudged_line ch e State.keepsChs_line) ch

theorem State.errTold_ch (cls : ErrClass) : (s.errTold ch e cls).ch ch = s.ch ch := by
  unfold State.errTold
  rw [State.spEvent_ch, State.chCount_ch, State.chCount_ch, State.errJudged_ch]

theorem State.errorModel_ch : ∃ l, (s.errorModel ch).ch ch = { s.ch ch with errTimes := l } := by
  have h : ∀ (p : Bool) (l : List Nat),
      ((if p then (s.setCh ch { s.ch ch with errTimes := l }).detect ch 3 0 0 else s.setCh ch { s.ch ch with errTimes := l }).ch ch) =
        { s.ch ch with errTimes := l } := fun p l => by
    split
    · exact (State.ch_of_chs (State.keepsChs_line.detect _ _ _ _ _) ch).trans (State.setCh_self _ _ _)
    · exact State.setCh_self _ _ _
  exact ⟨_, h _ _⟩

theorem State.errSeen_ch (cls : ErrClass) : ∃ l, (s.errSeen ch e cls).ch ch = { s.ch ch with errTimes := l } := by
  have L := State.keepsChs_line
  obtain ⟨b, hb⟩ : ∃ b, ((s.errTold ch e cls).lineError ch (s.errFlight ch).isSome ((s.errFrame ch e).map (fun f => f.key)) e).noteTrigger
    ch ((s.errFrame ch e).map (fun f => f.key)) true = b := ⟨_, rfl⟩
  have hch : b.ch ch = s.ch ch := by
    rw [← hb, ← s.errTold_ch ch e cls]
    exact State.ch_of_chs (L.trans (L.lineError _ _ _ _) (L.noteTrigger _ _ _)) ch
  have h := b.errorModel_ch ch
  rw [hch] at h
  unfold State.errSeen
  simp only
  rw [hb]
  exact h

theorem State.errCounted_ch (cls : ErrClass) :
    Channel.ErrLike { (s.ch ch).errored (s.errFlight ch).isSome e with lec := lecOf cls } ((s.errCounted ch e cls).ch ch) := by
  obtain ⟨l, hl⟩ := s.errSeen_ch ch e cls
  obtain ⟨b, hb⟩ : ∃ b, (s.errSeen ch e cls).modCh ch (fun c =>
    c.afterError (s.errFlight ch).isSome e cls ((s.errFrame ch e).map (fun f => f.key)) s.now) = b := ⟨_, rfl⟩
  have hch : b.ch ch = ({ s.ch ch with errTimes := l } : Channel).afterError (s.errFlight ch).isSome e cls
      ((s.errFrame ch e).map (fun f => f.key)) s.now := by
    rw [← hb, ← hl]
    exact State.setCh_self _ _ _
  have hc : (s.errCounted ch e cls).ch ch = b.ch ch := by
    unfold State.errCounted
    simp only
    rw [hb]
    split
    · exact State.ch_of_chs (State.keepsChs_line.frameHank b _ _ _ _ _) ch
    · rfl
  obtain ⟨h1, h2⟩ := (s.ch ch).errored_errTimes (s.errFlight ch).isSome e l
  obtain ⟨t, r, h3⟩ := ({ s.ch ch with errTimes := l } : Channel).errored_rest (s.errFlight ch).isSome e
  obtain ⟨t', r', h4⟩ := (s.ch ch).errored_rest (s.errFlight ch).isSome e
  rw [hc, hch]
  unfold Channel.afterError
  refine ⟨h1, h2, rfl, ?_, ?_⟩
  · rw [h4, h3]
  · rw [h4, h3]

theorem State.tdc_ch (f : Sys2Proof.Frame) : ∃ v p, (s.tdc ch f).ch ch = { s.ch ch with tdcv := v, ssp := p } := by
  unfold State.tdc
  split
  · exact ⟨_, _, rfl⟩
  · simp only
    split
    · rw [State.spEvent_ch, State.chCount_ch]
      exact ⟨_, _, State.setCh_self _ _ _⟩
    · exact ⟨_, _, State.setCh_self _ _ _⟩

theorem State.attemptFailed_ch (r : Ready) : ∃ c o l, (s.attemptFailed ch r).ch ch = { s.ch ch with chosen := c, offered := o, ready := l } := by
  have hun := s.unchoose_ch ch
  unfold State.attemptFailed
  simp only
  split
  · rw [State.abort_ch, State.dropCh, State.setCh_self, hun]
    exact ⟨_, _, _, rfl⟩
  · rw [hun]
    exact ⟨_, _, _, rfl⟩

theorem State.errSettled_ch (cls : ErrClass) :
    Channel.ErrLike { (s.ch ch).errored (s.errFlight ch).isSome e with lec := lecOf cls } ((s.errSettled ch e cls).ch ch) := by
  obtain ⟨h1, h2, h3, h4, h5⟩ := s.errCounted_ch ch e cls
  obtain ⟨b, hb⟩ : ∃ b, s.errCounted ch e cls = b := ⟨_, rfl⟩
  rw [hb] at h1 h2 h3 h4 h5
  unfold State.errSettled
  rw [hb]
  split
  · next r f _ =>
    have htdc : ∃ v p, (if s.pastRes ch f then b.tdc ch f else b).ch ch = { b.ch ch with tdcv := v, ssp := p } := by
      split
      · exact b.tdc_ch ch f
      · exact ⟨_, _, rfl⟩
    obtain ⟨d, hd⟩ : ∃ d, (if s.pastRes ch f then b.tdc ch f else b) = d := ⟨_, rfl⟩
    rw [hd] at htdc ⊢
    obtain ⟨v, p, hv⟩ := htdc
    obtain ⟨x, o, l, hx⟩ := d.attemptFailed_ch ch { r with sofT := (s.ch ch).sof, errT := some s.now }
    rw [hx, hv]
    exact ⟨h1, h2, h3, h4, h5⟩
  · exact ⟨h1, h2, h3, h4, h5⟩

end

/-! ## What they report -/

section
variable {s b : State} {k : Account} {ch : Nat}

theorem State.Hears.chCount (h : s.Hears k b.rep) (c n : Nat) : s.Hears { k with cts := (64 * c + n, 1) :: k.cts } (b.chCount c n).rep :=
  h.count _

theorem State.errTold_bus (a : State) (e : ErrInfo) (cls : ErrClass) : State.AirOnly ch a (a.errTold ch e cls) := by
  have A := State.airOnly_frame ch
  exact A.spEvent (A.chCount (A.chCount (a.errJudged_line ch e A.toLineFrame) _ _) _ _) _ _

theorem State.Hears.errTold (h : s.Hears k b.rep) (hlive : b.regs.live = s.regs.live) (e : ErrInfo) (cls : ErrClass) :
    s.Hears { k with srcs := (0x080 + 16 * b.spOf ch + 0xE) :: k.srcs, cts := (64 * ch + 8, 1) :: (64 * ch + (lecOf cls + 1), 1) :: k.cts }
      (b.errTold ch e cls).rep := by
  have hj : State.AirOnly ch b (b.errJudged ch e) := b.errJudged_line ch e (State.airOnly_frame ch).toLineFrame
  obtain ⟨x, hx⟩ : ∃ x, b.errJudged ch e = x := ⟨_, rfl⟩
  rw [hx] at hj
  have h2 := State.Hears.chCount (b := x.chCount ch (lecOf cls + 1)) (State.Hears.chCount (b := x) (h.bus hj.bus) ch (lecOf cls + 1)) ch 8
  obtain ⟨y, hy⟩ : ∃ y, (x.chCount ch (lecOf cls + 1)).chCount ch 8 = y := ⟨_, rfl⟩
  have hyr : State.RepOnly x y := by rw [← hy]; exact ((State.RepOnly.refl x).count _).count _
  rw [hy] at h2
  have h3 := h2.spEvent (hyr.live.trans (hj.bus.live.trans hlive)) ch 0xE
  rw [show y.spOf ch = b.spOf ch by rw [hyr]; exact hj.bus.spOf ch] at h3
  rw [show b.errTold ch e cls = y.spEvent ch 0xE by rw [← hy, ← hx]; rfl]
  exact h3

theorem State.errSeen_air {R : State → State → Prop} (F : AirFrame ch R) (a : State) (e : ErrInfo) (cls : ErrClass) :
    R (a.errTold ch e cls) (a.errSeen ch e cls) :=
  F.trans (F.trans (F.lineError _ _ _ _) (F.noteTrigger _ _ _)) (F.errorModel _)

theorem State.errCounted_air {R : State → State → Prop} (F : AirFrame ch R) (a : State) (e : ErrInfo) (cls : ErrClass) :
    R (a.errTold ch e cls) (a.errCounted ch e cls) := by
  have h := fun v => F.trans (State.errSeen_air F a e cls) (F.chan (a.errSeen ch e cls) v)
  unfold State.errCounted
  simp only
  split
  · exact F.trans (h _) (F.frameHank _ _ _ _ _ _)
  · exact h _

theorem State.errSettled_bus {R : State → State → Prop} (F : BusFrame ch R) (a : State) (e : ErrInfo) (cls : ErrClass) :
    R (a.errTold ch e cls) (a.errSettled ch e cls) := by
  have h := State.errCounted_air F.air a e cls
  unfold State.errSettled
  split
  · exact F.trans (F.ite (F.trans h (F.air.tdc _ _)) h) (F.attemptFailed _ _)
  · exact h

end

/-! ## ERROR_FLAG -/

section
variable {s : State} {dt : Nat} (hs : s.ready) (ch : Fin 16) (e : ErrInfo)

theorem exec_errorFlag (s : State) : exec (.errorFlag dt ch e) s = s.at_ dt (fun s => s.errorFlag ch.val e) := rfl

theorem State.elapse_bob (s : State) (dt n : Nat) : (s.elapse dt).bob n = s.bob n := by unfold State.bob; rw [State.elapse_cr]

theorem State.elapse_inFlight (s : State) (dt c : Nat) : (s.elapse dt).inFlight c = s.inFlight c := by
  unfold State.inFlight
  simp only [State.elapse_ch, State.elapse_bob]

/-- The class under which an error is taken. -/
def lecTaken (e : ErrInfo) : Nat := if e.cls = .pex then 2 else lecOf e.cls

theorem State.classOf_pex {u : State} {own : Bool} (h : e.cls = .pex) (hown : own = false) (hb : u.bit (spChBase ch.val) 6 = true) :
    u.classOf ch.val own e.cls = .pex := by
  unfold State.classOf
  rw [if_neg (by rw [hown, hb]; simp)]
  exact h

theorem State.classOf_error {u : State} {own : Bool} (h : e.cls ≠ .pex ∨ own = true ∨ u.bit (spChBase ch.val) 6 = false) :
    u.classOf ch.val own e.cls ≠ .pex ∧ lecOf (u.classOf ch.val own e.cls) = lecTaken e := by
  unfold State.classOf lecTaken
  by_cases hc : e.cls = .pex
  · rw [if_pos ⟨hc, h.resolve_left (not_not.2 hc)⟩, if_pos hc]
    exact ⟨by decide, rfl⟩
  · rw [if_neg (fun h => hc h.1), if_neg hc]
    exact ⟨hc, rfl⟩

theorem Channel.taking_part {c : Channel} (h : c.taking = true) : c.st.part = true := by
  unfold Channel.taking at h
  simp only [Bool.and_eq_true] at h
  exact h.1.1

include hs

theorem answers_errorFlag_pex (ht : (s.ch ch.val).taking = true) (hm : (s.ch ch.val).mode ≠ .loopback) (hc : e.cls = .pex)
    (hown : (decide ((s.ch ch.val).wire = .ownFrame) && (s.inFlight ch.val).isSome) = false) (hb : s.bit (spChBase ch.val) 6 = true) :
    Answers (.errorFlag dt ch e) s (fun t =>
      t = { s.elapse dt with chs := t.chs, dr := t.dr, rep := t.rep } ∧ (∀ n, n ≠ ch.val → t.ch n = s.ch n) ∧
      t.ch ch.val = { s.ch ch.val with lec := 7, integWait := true, wire := .otherFrame } ∧ s.counts t (64 * ch.val + 11) 1 ∧
      s.raises t (0x080 + 16 * s.spOf ch.val + 6)) := by
  obtain ⟨u, hu⟩ : ∃ u, s.elapse dt = u := ⟨_, rfl⟩
  have hch : ∀ k, u.ch k = s.ch k := fun k => hu ▸ s.elapse_ch k dt
  have hflight : (u.errFlight ch.val).isSome = false := by
    rw [State.errFlight_isSome, hch, ← hu, State.elapse_inFlight]
    exact hown
  have hcls : u.classOf ch.val (u.errFlight ch.val).isSome e.cls = .pex := by
    refine State.classOf_pex ch e hc hflight ?_
    rw [← hu]
    exact (State.elapse_bit s dt _ _).trans hb
  have hg : (s.elapse dt).errorFlag ch.val e = (u.errJudged ch.val e).pexEvent ch.val := by
    rw [hu, State.errorFlag_eq, if_neg (by rw [hch, ht, decide_eq_false hm]; simp), if_pos hcls]
  have hj : State.DrOnly u (u.errJudged ch.val e) := by
    unfold State.errJudged State.judgeOther
    have D := State.drOnly_frame
    have hcheck : ∀ f, State.DrOnly u (u.checkForeign ch.val f) := fun f => by
      unfold State.checkForeign
      simp only
      split
      · exact D.detectAt _ _ _ _ _ _
      · exact D.ite (D.trans (D.dr u _) (D.detectAt _ _ _ _ _ _)) (D.ite (D.trans (D.dr u _) (D.detectAt _ _ _ _ _ _)) (D.dr u _))
    split
    · exact D.ite (D.refl u) (hcheck _)
    · exact D.refl u
  have hjch := fun k => (State.ch_of_chs (u.errJudged_line ch.val e State.keepsChs_line) k).trans (hch k)
  obtain ⟨x, hx⟩ : ∃ x, u.errJudged ch.val e = x := ⟨_, rfl⟩
  rw [hx] at hj hg hjch
  obtain ⟨hrest, hgrows, hold⟩ := hj
  have hxl : x.regs.live = s.regs.live := by rw [hrest, ← hu]; show (s.elapse dt).regs.live = _; rw [State.elapse_regs]
  have hxsp : x.spOf ch.val = s.spOf ch.val := by rw [hrest, ← hu]; exact s.elapse_spOf dt _
  obtain ⟨y, hy⟩ : ∃ y, x.modCh ch.val (fun c => { c with lec := 7, integWait := true, wire := .otherFrame }) = y := ⟨_, rfl⟩
  have hyr : y = { x with chs := y.chs } := by rw [← hy]; rfl
  have hyrep : y.rep = x.rep := by rw [hyr]
  have hysp : y.spOf ch.val = s.spOf ch.val := by rw [hyr]; exact hxsp
  have hxhear : s.Hears {} x.rep := (hu ▸ State.Hears.start hs dt).mono hgrows hold
  have hhear := State.Hears.spEvent (b := y.chCount ch.val 11) (State.Hears.chCount (b := y) (hyrep ▸ hxhear) ch.val 11)
    (by rw [hyr]; exact hxl) ch.val 6
  rw [show (y.chCount ch.val 11).spOf ch.val = s.spOf ch.val from hysp] at hhear
  have hg' : (s.elapse dt).errorFlag ch.val e = (y.chCount ch.val 11).spEvent ch.val 6 := by rw [hg, ← hy]; rfl
  refine answers_hears_reports hs (exec_errorFlag ch e s) hg' (State.spEvent_repOnly ((State.RepOnly.refl y).count _)) hhear fun r heard =>
    ⟨?_, fun n hn => ?_, ?_, heard.counts (64 * ch.val + 11, 1) List.mem_cons_self, heard.raises _ List.mem_cons_self⟩
  · show ({ y with rep := r } : State) = { s.elapse dt with chs := y.chs, dr := y.dr, rep := r }
    rw [hyr, hrest, hu]
  · show y.ch n = _
    rw [← hy]
    exact (State.setCh_ne _ _ hn).trans (hjch n)
  · show y.ch ch.val = _
    rw [← hy, ← hjch]
    exact State.setCh_self _ _ _

theorem answers_errorFlag (ht : (s.ch ch.val).taking = true) (hm : (s.ch ch.val).mode ≠ .loopback)
    (hh : (s.ch ch.val).heldMode = false) {own : Bool}
    (hown : own = (decide ((s.ch ch.val).wire = .ownFrame) && (s.inFlight ch.val).isSome))
    (hc : e.cls ≠ .pex ∨ own = true ∨ s.bit (spChBase ch.val) 6 = false) :
    let c := s.ch ch.val
    Answers (.errorFlag dt ch e) s (fun t =>
      let lec := if e.cls = .pex then 2 else lecOf e.cls
      let x := c.errored own e
      let u := t.ch ch.val
      u.lec = lec ∧ u.tec = x.tec ∧ u.recn = x.recn ∧ s.counts t (64 * ch.val + 8) 1 ∧
      s.counts t (64 * ch.val + lec + 1) 1 ∧ s.raises t (0x080 + 16 * s.spOf ch.val + 0xE) ∧
      (c.mode = .listenOnly ∨ c.mode = .restricted → u.tec = c.tec ∧ u.recn = c.recn) ∧
      (u.tec ≤ 255 → u.st = (if u.tec > 127 ∨ u.recn > 127 then .errorPassive else .errorActive)) ∧
      (u.tec > 255 →
        (u.st = .boHold ∨ u.st = .recovering ∨ u.st = .boWait ∨ u.st = .quarantined) ∧
        s.raises t (0x080 + 16 * s.spOf ch.val) ∧ s.counts t (64 * ch.val + 10) 1 ∧
        ∀ r ∈ u.ready, ∀ n k, r.kind ≠ .stream n k)) := by
  intro c
  obtain ⟨u, hu⟩ : ∃ u, s.elapse dt = u := ⟨_, rfl⟩
  have hch : ∀ k, u.ch k = s.ch k := fun k => hu ▸ s.elapse_ch k dt
  have hflight : (u.errFlight ch.val).isSome = own := by
    rw [State.errFlight_isSome, hch, ← hu, State.elapse_inFlight]
    exact hown.symm
  have hcls := State.classOf_error (u := u) ch e (own := own) (by rw [← hu, State.elapse_bit]; exact hc)
  obtain ⟨cls, hcls'⟩ : ∃ cls, u.classOf ch.val own e.cls = cls := ⟨_, rfl⟩
  rw [hcls'] at hcls
  obtain ⟨hnp, hlec⟩ := hcls
  have hg : (s.elapse dt).errorFlag ch.val e = (u.errSettled ch.val e cls).confine ch.val := by
    rw [hu, State.errorFlag_eq, if_neg (by rw [hch, ht, decide_eq_false hm]; simp), hflight, hcls', if_neg hnp]
  have hlike := u.errSettled_ch ch.val e cls
  rw [hch, hflight, hlec] at hlike
  have hbus : State.BusOnly ch.val (u.errTold ch.val e cls) (u.errSettled ch.val e cls) :=
    State.errSettled_bus (State.busOnly_frame ch.val) u e cls
  have htold := (State.errTold_bus (ch := ch.val) u e cls).bus
  have hulive : u.regs.live = s.regs.live := by rw [← hu, State.elapse_regs]
  have husp : u.spOf ch.val = s.spOf ch.val := hu ▸ s.elapse_spOf dt ch.val
  have hhear := (State.Hears.errTold (ch := ch.val) (hu ▸ State.Hears.start hs dt) hulive e cls).bus hbus
  rw [husp, hlec] at hhear
  obtain ⟨v, hv⟩ : ∃ v, u.errSettled ch.val e cls = v := ⟨_, rfl⟩
  rw [hv] at hg hlike hbus hhear
  have hvlive : v.regs.live = s.regs.live := hbus.live.trans (htold.live.trans hulive)
  have hvsp : v.spOf ch.val = s.spOf ch.val := (hbus.spOf _).trans ((htold.spOf _).trans husp)
  obtain ⟨h1, h2, h3, h4, h5⟩ := hlike
  obtain ⟨et, er, he⟩ := c.errored_rest own e
  have hvp : (v.ch ch.val).st.part = true := by
    rw [h4, show (s.ch ch.val).errored own e = _ from he]
    exact Channel.taking_part ht
  have hvh : (v.ch ch.val).heldMode = false := by
    rw [h5, show (s.ch ch.val).errored own e = _ from he]
    exact hh
  have hmode : c.mode = .listenOnly ∨ c.mode = .restricted → (c.errored own e).tec = c.tec ∧ (c.errored own e).recn = c.recn := fun h => by
    unfold Channel.errored
    rw [if_pos h]
    exact ⟨rfl, rfl⟩
  by_cases htec : (v.ch ch.val).tec ≤ 255
  · have hmild : ((v.confine ch.val).ch ch.val).lec = (v.ch ch.val).lec ∧ ((v.confine ch.val).ch ch.val).tec = (v.ch ch.val).tec ∧
        ((v.confine ch.val).ch ch.val).recn = (v.ch ch.val).recn ∧ ((v.confine ch.val).ch ch.val).st =
          (if ((v.confine ch.val).ch ch.val).tec > 127 ∨ ((v.confine ch.val).ch ch.val).recn > 127 then .errorPassive else .errorActive) := by
      obtain ⟨w, hw⟩ := v.confine_mild_ch ch.val hvp hvh htec
      rw [hw]
      exact ⟨rfl, rfl, rfl, rfl⟩
    have hend : State.BusOnly ch.val v (v.confine ch.val) :=
      (State.busOnly_frame ch.val).air.chanFrame.confine_mild v hvp hvh htec
    have hhear' := hhear.bus hend
    obtain ⟨w, hw⟩ : ∃ w, v.confine ch.val = w := ⟨_, rfl⟩
    rw [hw] at hg hmild hhear'
    obtain ⟨g3, g1, g2, gst⟩ := hmild
    exact answers_hears hs (exec_errorFlag ch e s) hg hhear' fun r heard => ⟨g3.trans h3, g1.trans h1, g2.trans h2, heard.counts (64 * ch.val + 8, 1) List.mem_cons_self, heard.counts (64 * ch.val + (lecTaken e + 1), 1) (by simp),
      heard.raises _ List.mem_cons_self, fun h => ⟨(g1.trans h1).trans (hmode h).1, (g2.trans h2).trans (hmode h).2⟩,
      fun _ => gst, fun h => absurd (g1 ▸ h : 255 < (v.ch ch.val).tec) (Nat.not_lt.2 htec)⟩
  · have hgt := Nat.lt_of_not_le htec
    obtain ⟨⟨g1, g2, g3, -, g4⟩, gst⟩ := v.confine_off_ch ch.val hvp hgt
    have hoff := hhear.confine_off (ch := ch.val) hvlive hvp hgt
    rw [hvsp] at hoff
    obtain ⟨w, hw⟩ : ∃ w, v.confine ch.val = w := ⟨_, rfl⟩
    rw [hw] at hg g1 g2 g3 g4 gst hoff
    refine answers_hears hs (exec_errorFlag ch e s) hg hoff fun r heard =>
      ⟨g3.trans h3, g1.trans h1, g2.trans h2, heard.counts (64 * ch.val + 8, 1) (by simp), heard.counts (64 * ch.val + (lecTaken e + 1), 1) (by simp),
        heard.raises _ (by simp), fun h => ⟨(g1.trans h1).trans (hmode h).1, (g2.trans h2).trans (hmode h).2⟩,
        fun h => absurd (g1 ▸ h : (v.ch ch.val).tec ≤ 255) htec, fun _ => ⟨gst, heard.raises _ List.mem_cons_self,
          heard.counts (64 * ch.val + 10, 1) List.mem_cons_self, fun x hx => (g4 x hx).2⟩⟩

end

/-- Settles O23, by the stages of an error (`State.errSettled_ch`) and the fault confinement that follows (`State.confine_mild_ch`,
`State.confine_off_ch`). -/
theorem errorsConfineAChannel : Obligations.ErrorsConfineAChannel := by
  unfold Obligations.ErrorsConfineAChannel
  intro s dt ch e hs ht hm hh c own
  exact ⟨fun hc hown hb => answers_errorFlag_pex hs ch e ht hm hc hown hb, fun hc => answers_errorFlag hs ch e ht hm hh rfl hc⟩

end Sys2Proof.Machine
end

section
/-!
PROOFS. A frame from its start to its end: sent, received, or beaten in arbitration (R75, R89, R93 to R98, R113).
-/

namespace Sys2Proof.Machine

/-! ## The relation of a received frame -/

theorem State.keepsStore_air (ch : Nat) : AirFrame ch (fun a b => b.mm = a.mm ∧ b.cr = a.cr) where
  refl _ := ⟨rfl, rfl⟩
  trans h g := ⟨g.1.trans h.1, g.2.trans h.2⟩
  rep _ _ _ _ := ⟨rfl, rfl⟩
  dr _ _ := ⟨rfl, rfl⟩
  lw _ _ := ⟨rfl, rfl⟩
  pl _ _ := ⟨rfl, rfl⟩
  chan _ _ := ⟨rfl, rfl⟩

theorem State.BusOnly.refl (ch : Nat) (a : State) : State.BusOnly ch a a := (State.busOnly_frame ch).refl a

/-! ## Overload frames -/

theorem Channel.overloaded_rest (c : Channel) (own : Bool) (ovl : Option Nat) :
    ∃ t r, c.overloaded own ovl = { c with tec := t, recn := r } := by
  unfold Channel.overloaded
  split
  · exact ⟨_, _, rfl⟩
  · split
    · exact ⟨_, _, rfl⟩
    · exact ⟨_, _, rfl⟩

theorem Channel.overloaded_tec {c d : Channel} {ovl : Option Nat} (own : Bool) (hm : d.mode = c.mode) (ht : d.tec = c.tec)
    (hr : d.recn = c.recn) :
    (d.overloaded own ovl).tec = (c.overloaded own ovl).tec ∧ (d.overloaded own ovl).recn = (c.overloaded own ovl).recn := by
  unfold Channel.overloaded
  rw [hm, ht, hr]
  split
  · exact ⟨ht, hr⟩
  · split
    · exact ⟨rfl, rfl⟩
    · exact ⟨rfl, rfl⟩

/-- An overload flag of another node's frame does not move TEC. -/
theorem Channel.overloaded_other_tec (c : Channel) (ovl : Option Nat) : (c.overloaded false ovl).tec = c.tec := by
  unfold Channel.overloaded
  split
  · rfl
  · rfl

/-! ## A record for the receive sliver (R113) -/

/-- The record of a frame. -/
def rxRec (ch : Nat) (f : Sys2Proof.Frame) (sof eof : BitVec 64) (loopback : Bool) : SlvRec :=
  { words := recWords f.data.length, frame := f, ch := ch, loopback := loopback, errt := false, sof := sof, eof := eof
    bob := 0, poisonHdr := false, poisonPay := false }

section
variable (a : State) (ch : Nat) (f : Sys2Proof.Frame) (sof eof : BitVec 64) (lb : Bool)

theorem State.pushRx_eq : a.pushRx ch f sof eof lb =
    if recWords f.data.length ≤ (a.sliver (2 * a.spOf ch)).freeWords then
      a.setSliver (2 * a.spOf ch) ((a.sliver (2 * a.spOf ch)).push (rxRec ch f sof eof lb))
    else ((a.chCount ch 13).count (5504 + 4 * (2 * a.spOf ch) + 3)).spEvent ch 9 := rfl

theorem State.rxDropped_repOnly :
    State.RepOnly a (((a.chCount ch 13).count (5504 + 4 * (2 * a.spOf ch) + 3)).spEvent ch 9) :=
  State.spEvent_repOnly (((State.RepOnly.refl a).count _).count _)

theorem State.pushRx_ch : (a.pushRx ch f sof eof lb).chs = a.chs := by
  rw [State.pushRx_eq]
  split
  · rfl
  · rw [State.rxDropped_repOnly]

theorem BusFrame.pushRx {R : State → State → Prop} {ch : Nat} (F : BusFrame ch R) (a : State) : R a (a.pushRx ch f sof eof lb) := by
  rw [State.pushRx_eq]
  exact F.ite (F.mm a _) (F.spEvent (F.count (F.chCount (F.refl a) _ _) _) _ _)

theorem State.pushRx_fits (h : recWords f.data.length ≤ (a.sliver (2 * a.spOf ch)).freeWords) :
    ((a.pushRx ch f sof eof lb).sliver (2 * a.spOf ch)).recs = (a.sliver (2 * a.spOf ch)).recs ++ [rxRec ch f sof eof lb] := by
  rw [State.pushRx_eq, if_pos h]
  exact congrArg Sliver.recs (Tbl.lookD_put_self _ _ _ _)

theorem State.pushRx_cr : (a.pushRx ch f sof eof lb).cr = a.cr := by
  rw [State.pushRx_eq]
  split
  · rfl
  · rw [State.rxDropped_repOnly]

end

theorem State.pushRx_drops {a : State} {ch : Nat} {f : Sys2Proof.Frame} (sof eof : BitVec 64) (lb : Bool)
    (h : (a.sliver (2 * a.spOf ch)).freeWords < recWords f.data.length) :
    (a.pushRx ch f sof eof lb).mm = a.mm ∧
    ∀ {s : State} {k : Account}, s.Hears k a.rep → a.regs.live = s.regs.live →
      s.Hears { k with srcs := (0x080 + 16 * a.spOf ch + 9) :: k.srcs
                       cts := (5504 + 4 * (2 * a.spOf ch) + 3, 1) :: (64 * ch + 13, 1) :: k.cts } (a.pushRx ch f sof eof lb).rep := by
  obtain ⟨b, hb⟩ : ∃ b, (a.chCount ch 13).count (5504 + 4 * (2 * a.spOf ch) + 3) = b := ⟨_, rfl⟩
  have hbr : State.RepOnly a b := by rw [← hb]; exact ((State.RepOnly.refl a).count _).count _
  have hgo : a.pushRx ch f sof eof lb = b.spEvent ch 9 := by
    rw [State.pushRx_eq, if_neg (Nat.not_le.2 h), hb]
  rw [hgo]
  have hrep : (b.spEvent ch 9).mm = b.mm := by rw [State.spEvent_repOnly (State.RepOnly.refl b) (c := ch) (off := 9)]
  refine ⟨hrep.trans (by rw [hbr]), fun {s k} hk hl => ?_⟩
  have h1 := State.Hears.count (b := a.chCount ch 13) (hk.chCount ch 13) (5504 + 4 * (2 * a.spOf ch) + 3)
  rw [hb] at h1
  have h2 := h1.spEvent (hbr.live.trans hl) ch 9
  rw [show b.spOf ch = a.spOf ch by rw [hbr]; rfl] at h2
  exact h2

/-! ## A frame of another node (R98, R113) -/

section
variable (s : State) (ch : Nat) (f : Sys2Proof.Frame)

/-- A channel after a frame of another node, its error state apart. -/
def Channel.afterTaken (c : Channel) (ovl : Option Nat) : Channel :=
  { (({ c with recn := if !decide (c.mode = .normal) then c.recn else if c.recn > 127 then 120 else c.recn - 1 } : Channel).overloaded
      false ovl) with wire := wireAfter ovl, idleTurns := 0 }

/-- The frame is counted and goes to the receive sliver. -/
def State.takenIn (ovl : Option Nat) : State :=
  ((s.setCh ch ((s.ch ch).afterTaken ovl)).chCount ch 0).pushRx ch f (s.ch ch).sof s.now false

/-- It is checked. -/
def State.takenChecked (ovl : Option Nat) : State :=
  match (if s.plyMember then s.txWithKey ch f.key else none) with
  | some e => (s.takenIn ch f ovl).ownByWire e.1 f (s.ch ch).sof s.now
  | none => (s.takenIn ch f ovl).checkForeign ch f

/-- It is seen by the line watch and the trace. -/
def State.takenSeen (lw : Option Wave) (ovl : Option Nat) : State :=
  let a := (s.takenChecked ch f ovl).modCh ch (fun c => { c with retrans := c.retrans.filter (fun k => decide (k ≠ f.key)) })
  ((a.lineFrame ch false f s.now lw).noteTrigger ch (some f.key) false).frameHank ch false f (durOf (s.now - (s.ch ch).sof).toNat) false false

theorem State.takeFrame_eq (lw : Option Wave) (ovl : Option Nat) (ht : (s.ch ch).taking = true) (hw : (s.ch ch).wire = .otherFrame)
    (hm : (s.ch ch).mode ≠ .loopback) : s.takeFrame ch f lw ovl = (s.takenSeen ch f lw ovl).confine ch := by
  unfold State.takeFrame
  refine (if_neg (by rw [ht, hw, decide_eq_false hm]; decide)).trans ?_
  unfold State.takenSeen State.takenChecked State.takenIn
  rfl

theorem State.takenIn_ch (ovl : Option Nat) : (s.takenIn ch f ovl).ch ch = (s.ch ch).afterTaken ovl := by
  unfold State.takenIn
  rw [State.ch_of_chs (State.pushRx_ch _ _ _ _ _ _), State.chCount_ch, State.setCh_self]

theorem State.takenChecked_line {R : State → State → Prop} (F : LineFrame R) (ovl : Option Nat) :
    R (s.takenIn ch f ovl) (s.takenChecked ch f ovl) := by
  unfold State.takenChecked
  split
  · exact F.ownByWire _ _ _ _ _
  · exact F.checkForeign _ _

theorem State.takenSeen_air {R : State → State → Prop} {ch : Nat} (F : AirFrame ch R) (lw : Option Wave) (ovl : Option Nat) :
    R (s.takenIn ch f ovl) (s.takenSeen ch f lw ovl) :=
  F.trans (F.trans (F.trans (F.trans (s.takenChecked_line ch f F.toLineFrame ovl) (F.chan _ _)) (F.lineFrame _ _ _ _ _))
    (F.noteTrigger _ _ _)) (F.frameHank _ _ _ _ _ _)

theorem State.takenSeen_ch (lw : Option Wave) (ovl : Option Nat) :
    ∃ l, (s.takenSeen ch f lw ovl).ch ch = { (s.ch ch).afterTaken ovl with retrans := l } := by
  have L := State.keepsChs_line
  have hc : (s.takenChecked ch f ovl).ch ch = (s.ch ch).afterTaken ovl := by
    rw [← s.takenIn_ch ch f ovl]
    exact State.ch_of_chs (s.takenChecked_line ch f L ovl) ch
  obtain ⟨b, hb⟩ : ∃ b, (s.takenChecked ch f ovl).modCh ch (fun c => { c with
    retrans := c.retrans.filter (fun k => decide (k ≠ f.key)) }) = b := ⟨_, rfl⟩
  have hbch : ∃ l, b.ch ch = { (s.ch ch).afterTaken ovl with retrans := l } := by
    rw [← hb, ← hc]
    exact ⟨_, State.setCh_self _ _ _⟩
  have hsame : (s.takenSeen ch f lw ovl).ch ch = b.ch ch := by
    unfold State.takenSeen
    simp only
    rw [hb]
    exact State.ch_of_chs (L.trans (L.trans (L.lineFrame _ _ _ _ _) (L.noteTrigger _ _ _)) (L.frameHank _ _ _ _ _ _)) ch
  rw [hsame]
  exact hbch

end

end Sys2Proof.Machine
end

section
/-!
PROOFS. Frames of this device, and the rows of frames on the wire.
-/

namespace Sys2Proof.Machine

section
variable (s : State) (ch : Nat) (e : Ready) (f : Sys2Proof.Frame)

/-- A channel after a frame of this device, its error state apart. -/
def Channel.afterSent (c : Channel) (e : Ready) (ovl : Option Nat) : Channel :=
  { (({ c with tec := c.tec - 1 } : Channel).overloaded true ovl) with
    wire := wireAfter ovl, idleTurns := 0, chosen := none, offered := false
    ready := c.ready.filter (fun x => decide (x.bob ≠ e.bob)) }

/-- The delay measured and the frame counted. -/
def State.sentCounted : State := (s.tdc ch f).chCount ch 1

/-- The bobbin has left the ready set. -/
def State.sentBegun (ovl : Option Nat) : State := (s.sentCounted ch f).modCh ch (fun c => c.afterSent e ovl)

/-- It is free, and what it carried is settled. -/
def State.sentSettled (ovl : Option Nat) : State :=
  let a := s.sentBegun ch e f ovl
  let b := (a.setSliver (a.txSliver ch) (a.sliver (a.txSliver ch)).done).freeBob e.bob
  match e.kind with
  | .send d => b.sendCompl d 0 (s.ch ch).sof s.now false
  | .stream n r => (b.relEnd n r (s.ch ch).sof s.now).releaseUsed n

/-- The receive sliver, the line watch and the trace have seen it. -/
def State.sentSeen (lw : Option Wave) (ovl : Option Nat) : State :=
  let a := s.sentSettled ch e f ovl
  let b := if (s.ch ch).mode = .loopback then (a.chCount ch 0).pushRx ch f (s.ch ch).sof s.now true else a
  ((b.lineFrame ch true f s.now lw).noteTrigger ch (some f.key) false).frameHank ch true f (durOf (s.now - (s.ch ch).sof).toNat) false false

variable {s ch e f}

theorem State.sent_eq {lw : Option Wave} {ovl : Option Nat} (hw : (s.ch ch).wire = .ownFrame) (hf : s.inFlight ch = some (e, f)) :
    s.sent ch lw ovl = (s.sentSeen ch e f lw ovl).confine ch := by
  have h : (if (s.ch ch).wire = .ownFrame then s.inFlight ch else none) = some (e, f) := (if_pos hw).trans hf
  unfold State.sent
  simp only [h]
  rfl

variable (s ch e f)

theorem State.sentBegun_ch (ovl : Option Nat) :
    ∃ v p, (s.sentBegun ch e f ovl).ch ch = ({ s.ch ch with tdcv := v, ssp := p } : Channel).afterSent e ovl := by
  obtain ⟨v, p, h⟩ := s.tdc_ch ch f
  obtain ⟨b, hb⟩ : ∃ b, s.tdc ch f = b := ⟨_, rfl⟩
  rw [hb] at h
  refine ⟨v, p, ?_⟩
  unfold State.sentBegun State.sentCounted State.modCh
  rw [hb, State.setCh_self, State.chCount_ch, h]

theorem State.sentSettled_settle {R : State → State → Prop} (F : SettleFrame R) (ovl : Option Nat) :
    R (s.sentBegun ch e f ovl) (s.sentSettled ch e f ovl) := by
  have h : ∀ (a : State) n v, R a ((a.setSliver n v).freeBob e.bob) := fun a n v => F.trans (F.mm a _) (F.freeBob _ _)
  unfold State.sentSettled
  simp only
  split
  · exact F.trans (h _ _ _) (F.sendCompl _ _ _ _ _ _)
  · exact F.trans (F.trans (h _ _ _) (F.relEnd _ _ _ _ _)) (F.releaseUsed _ _)

theorem State.sentSeen_bus (lw : Option Wave) (ovl : Option Nat) :
    State.BusOnly ch (s.sentSettled ch e f ovl) (s.sentSeen ch e f lw ovl) := by
  have F := State.busOnly_frame ch
  have A := F.air.toLineFrame
  exact A.trans (A.trans (A.trans (F.ite (F.trans (F.chCount (F.refl _) _ _) (F.pushRx _ _ _ _ _)) (F.refl _)) (A.lineFrame _ _ _ _ _))
    (A.noteTrigger _ _ _)) (A.frameHank _ _ _ _ _ _)

theorem State.sentSeen_ch (lw : Option Wave) (ovl : Option Nat) :
    ∃ v p, (s.sentSeen ch e f lw ovl).ch ch = ({ s.ch ch with tdcv := v, ssp := p } : Channel).afterSent e ovl := by
  have L := State.keepsChs_line
  obtain ⟨v, p, h⟩ := s.sentBegun_ch ch e f ovl
  have h1 : (s.sentSettled ch e f ovl).chs = (s.sentBegun ch e f ovl).chs := s.sentSettled_settle ch e f State.keepsChs_frame ovl
  obtain ⟨a, ha⟩ : ∃ a, s.sentSettled ch e f ovl = a := ⟨_, rfl⟩
  rw [ha] at h1
  obtain ⟨b, hb⟩ : ∃ b, (if (s.ch ch).mode = .loopback then (a.chCount ch 0).pushRx ch f (s.ch ch).sof s.now true else a) = b := ⟨_, rfl⟩
  have h2 : b.chs = a.chs := by
    rw [← hb]
    split
    · exact State.pushRx_ch _ _ _ _ _ _
    · rfl
  have h3 : (s.sentSeen ch e f lw ovl).chs = b.chs := by
    unfold State.sentSeen
    simp only
    rw [ha, hb]
    exact L.trans (L.trans (L.lineFrame _ _ _ _ _) (L.noteTrigger _ _ _)) (L.frameHank _ _ _ _ _ _)
  exact ⟨v, p, (State.ch_of_chs (h3.trans (h2.trans h1)) ch).trans h⟩

theorem State.sentBegun_bus (lw : Option Wave) (ovl : Option Nat) : State.BusOnly ch (s.sentCounted ch f) (s.sentSeen ch e f lw ovl) :=
  have F := State.busOnly_frame ch
  F.trans (F.chan _ _) (F.trans (s.sentSettled_settle ch e f F.toSettleFrame ovl) (s.sentSeen_bus ch e f lw ovl))

end

/-! ## The rows -/

section
variable {s : State} {dt : Nat} (hs : s.ready) (ch : Fin 16)

theorem exec_startOfFrame (edges : List Nat) :
    exec (.startOfFrame dt { ch := ch, edges := edges }) s = s.at_ dt (fun s => s.startFrame ch.val edges) := rfl
theorem exec_frameSent (lw : Option Wave) (ovl : Option Nat) :
    exec (.frameSent dt ch lw ovl) s = s.at_ dt (fun s => s.sent ch.val lw ovl) := rfl
theorem exec_frameReceived (f : Sys2Proof.Frame) (lw : Option Wave) (ovl : Option Nat) :
    exec (.frameReceived dt ch f { lw := lw, ovl := ovl }) s = s.at_ dt (fun s => s.received ch.val f lw ovl) := rfl

/-- ARBITRATION_LOST, in the state of its instant. -/
def State.beaten (s : State) (ch : Nat) : State :=
  if (s.ch ch).wire = .ownFrame then
    match s.inFlight ch with
    | none => s
    | some (e, _) => ((s.modCh ch (fun c => { c with wire := .otherFrame })).chCount ch 9).attemptFailed ch e
  else s

theorem exec_arbitrationLost : exec (.arbitrationLost dt ch) s = s.at_ dt (fun s => s.beaten ch.val) := rfl

include hs

theorem answers_startOfFrame (edges : List Nat) (ht : (s.ch ch.val).taking = true) (h1 : (s.ch ch.val).wire ≠ .ownFrame)
    (h2 : (s.ch ch.val).wire ≠ .otherFrame) {own : Bool} (hown : own = ((s.ch ch.val).chosen.isSome && (s.ch ch.val).maySend))
    (h3 : (s.ch ch.val).mode ≠ .loopback ∨ own = true) :
    let c := s.ch ch.val
    Answers (.startOfFrame dt { ch := ch, edges := edges }) s (fun t =>
      t = { s.elapse dt with chs := t.chs } ∧ (∀ n, n ≠ ch.val → t.ch n = s.ch n) ∧ (t.ch ch.val).sof = t.now ∧
      (t.ch ch.val).sofTurn = s.tm.turn ∧ (t.ch ch.val).ready = c.ready ∧ (t.ch ch.val).chosen = c.chosen ∧
      (t.ch ch.val).wire = if own = true then .ownFrame else .otherFrame) := by
  intro c
  obtain ⟨u, hu⟩ : ∃ u, s.elapse dt = u := ⟨_, rfl⟩
  have hch : ∀ k, u.ch k = s.ch k := fun k => hu ▸ s.elapse_ch k dt
  have hg : (s.elapse dt).startFrame ch.val edges = u.setCh ch.val { c with
      sof := u.now, sofClk := u.clock, sofTurn := u.tm.turn, sofAge := 0, edges := edges
      wire := if own then .ownFrame else .otherFrame, offered := own } := by
    rw [hu]
    unfold State.startFrame
    simp only
    rw [hch, hown]
    refine if_neg ?_
    rw [ht, decide_eq_false (not_or.2 ⟨h1, h2⟩)]
    rcases h3 with h3 | h3
    · rw [decide_eq_false h3]
      simp
    · rw [← hown, h3]
      simp
  obtain ⟨v, hv⟩ : ∃ v, u.setCh ch.val { c with
      sof := u.now, sofClk := u.clock, sofTurn := u.tm.turn, sofAge := 0, edges := edges
      wire := if own then .ownFrame else .otherFrame, offered := own } = v := ⟨_, rfl⟩
  have hvr : v = { u with chs := v.chs } := by rw [← hv]; rfl
  have hvch : v.ch ch.val = _ := hv ▸ State.setCh_self u ch.val _
  rw [hv] at hg
  refine answers_settles hs (exec_startOfFrame ch edges) hg (by rw [hvr, ← hu]; exact State.elapse_settled hs dt)
    ⟨by rw [hu]; exact hvr, fun n hn => ?_, ?_, ?_, ?_, ?_, ?_⟩
  · rw [← hv, State.setCh_ne _ _ hn, hch]
  · rw [hvch, hvr]
  · rw [hvch, ← hu, State.elapse_tm]
  · rw [hvch]
  · rw [hvch]
  · rw [hvch]

theorem answers_frameSent (ht : (s.ch ch.val).taking = true) (hh : (s.ch ch.val).heldMode = false)
    {e : Ready} {f : Sys2Proof.Frame} (lw : Option Wave) (ovl : Option Nat) (hw : (s.ch ch.val).wire = .ownFrame)
    (hf : s.inFlight ch.val = some (e, f)) :
    let c := s.ch ch.val
    let tec := (({ c with tec := c.tec - 1 } : Channel).overloaded true ovl).tec
    Answers (.frameSent dt ch lw ovl) s (fun t =>
      (t.ch ch.val).tec = tec ∧ (t.ch ch.val).chosen = none ∧ s.counts t (64 * ch.val + 1) 1 ∧ t.tm = s.tm ∧
      t.regs.live = s.regs.live ∧
      (tec ≤ 255 → (t.ch ch.val).ready = c.ready.filter (fun x => decide (x.bob ≠ e.bob)) ∧
        (t.ch ch.val).wire = wireAfter ovl) ∧
      (255 < tec → s.counts t (64 * ch.val + 10) 1 ∧ ∀ x ∈ (t.ch ch.val).ready, x.bob ≠ e.bob)) := by
  intro c tec
  obtain ⟨u, hu⟩ : ∃ u, s.elapse dt = u := ⟨_, rfl⟩
  have hch : ∀ k, u.ch k = s.ch k := fun k => hu ▸ s.elapse_ch k dt
  have hg : (s.elapse dt).sent ch.val lw ovl = (u.sentSeen ch.val e f lw ovl).confine ch.val := by
    rw [hu]
    exact State.sent_eq (by rw [hch]; exact hw) (by rw [← hu, State.elapse_inFlight]; exact hf)
  obtain ⟨vv, pp, hvch⟩ := u.sentSeen_ch ch.val e f lw ovl
  have hbus := u.sentBegun_bus ch.val e f lw ovl
  have htdc : State.BusOnly ch.val u (u.tdc ch.val f) := (State.busOnly_frame ch.val).air.tdc u f
  obtain ⟨x, hx⟩ : ∃ x, u.tdc ch.val f = x := ⟨_, rfl⟩
  rw [hx] at htdc
  have hcounted : u.sentCounted ch.val f = x.chCount ch.val 1 := by rw [← hx]; rfl
  rw [hcounted] at hbus
  have hhear := (State.Hears.chCount (b := x) ((hu ▸ State.Hears.start hs dt : s.Hears {} u.rep).bus htdc) ch.val 1).bus hbus
  have hux : State.BusOnly ch.val u (x.chCount ch.val 1) := (State.busOnly_frame ch.val).chCount htdc _ _
  have huv := (State.busOnly_frame ch.val).trans hux hbus
  obtain ⟨v, hv⟩ : ∃ v, u.sentSeen ch.val e f lw ovl = v := ⟨_, rfl⟩
  rw [hv] at hg hvch hhear huv
  rw [hch] at hvch
  obtain ⟨tt, rr, hover⟩ := ({ ({ c with tdcv := vv, ssp := pp } : Channel) with tec := c.tec - 1 } : Channel).overloaded_rest true ovl
  have hvtec : (v.ch ch.val).tec = tec := by
    rw [hvch]
    exact (Channel.overloaded_tec (c := { c with tec := c.tec - 1 }) (d := { c with tdcv := vv, ssp := pp, tec := c.tec - 1 }) true rfl rfl rfl).1
  have hvst : (v.ch ch.val).st = c.st ∧ (v.ch ch.val).heldMode = c.heldMode := by
    rw [hvch]
    unfold Channel.afterSent
    simp only
    rw [show ({ (s.ch ch.val) with tdcv := vv, ssp := pp, tec := (s.ch ch.val).tec - 1 } : Channel).overloaded true ovl = _ from hover]
    exact ⟨rfl, rfl⟩
  have hvready : (v.ch ch.val).ready = c.ready.filter (fun x => decide (x.bob ≠ e.bob)) ∧ (v.ch ch.val).wire = wireAfter ovl ∧
      (v.ch ch.val).chosen = none := by
    rw [hvch]
    exact ⟨rfl, rfl, rfl⟩
  have hvp : (v.ch ch.val).st.part = true := by
    rw [hvst.1]
    exact Channel.taking_part ht
  have hvh : (v.ch ch.val).heldMode = false := hvst.2.trans hh
  have hvlive : v.regs.live = s.regs.live := huv.live.trans (by rw [← hu, State.elapse_regs])
  have htm : u.tm = s.tm := hu ▸ s.elapse_tm dt
  have hend : State.BusOnly ch.val v (v.confine ch.val) := (State.busOnly_frame ch.val).confine v
  by_cases hle : (v.ch ch.val).tec ≤ 255
  · have hmild : ((v.confine ch.val).ch ch.val).tec = (v.ch ch.val).tec ∧ ((v.confine ch.val).ch ch.val).chosen = (v.ch ch.val).chosen ∧
        ((v.confine ch.val).ch ch.val).ready = (v.ch ch.val).ready ∧ ((v.confine ch.val).ch ch.val).wire = (v.ch ch.val).wire := by
      obtain ⟨w, hw⟩ := v.confine_mild_ch ch.val hvp hvh hle
      rw [hw]
      exact ⟨rfl, rfl, rfl, rfl⟩
    have hhear' := hhear.bus hend
    obtain ⟨w, hw⟩ : ∃ w, v.confine ch.val = w := ⟨_, rfl⟩
    rw [hw] at hg hmild hhear' hend
    obtain ⟨g1, g2, g3, g4⟩ := hmild
    exact answers_hears hs (exec_frameSent ch lw ovl) hg hhear' fun r heard =>
      ⟨g1.trans hvtec, g2.trans hvready.2.2, heard.counts (64 * ch.val + 1, 1) List.mem_cons_self, hend.tm.trans (huv.tm.trans htm),
        hend.live.trans hvlive, fun _ => ⟨g3.trans hvready.1, g4.trans hvready.2.1⟩, fun h => absurd hle (by rw [hvtec]; exact Nat.not_le.2 h)⟩
  · have hgt := Nat.lt_of_not_le hle
    obtain ⟨⟨g1, -, -, g2, g3⟩, -⟩ := v.confine_off_ch ch.val hvp hgt
    have hoff := hhear.confine_off (ch := ch.val) hvlive hvp hgt
    obtain ⟨w, hw⟩ : ∃ w, v.confine ch.val = w := ⟨_, rfl⟩
    rw [hw] at hg g1 g2 g3 hoff hend
    refine answers_hears hs (exec_frameSent ch lw ovl) hg hoff fun r heard =>
      ⟨g1.trans hvtec, g2, heard.counts (64 * ch.val + 1, 1) (by simp), hend.tm.trans (huv.tm.trans htm),
        hend.live.trans hvlive, fun h => absurd (hvtec ▸ h) hle, fun _ => ⟨heard.counts (64 * ch.val + 10, 1) List.mem_cons_self, fun x hx => ?_⟩⟩
    have hmem := (g3 x hx).1
    rw [hvready.1] at hmem
    simpa using (List.mem_filter.1 hmem).2

theorem answers_frameReceived (htec : (s.ch ch.val).tec ≤ 255) (ht : (s.ch ch.val).taking = true) (hh : (s.ch ch.val).heldMode = false)
    (f : Sys2Proof.Frame) (lw : Option Wave) (ovl : Option Nat) (hw : (s.ch ch.val).wire = .otherFrame)
    (hm : (s.ch ch.val).mode ≠ .loopback) (hfd : f.fdf = false ∨ s.bit (spChBase ch.val) 4 = true) :
    let c := s.ch ch.val
    let v := s.sliver (2 * s.spOf ch.val)
    let recn := if c.mode = .normal then (if c.recn > 127 then 120 else c.recn - 1) else c.recn
    Answers (.frameReceived dt ch f { lw := lw, ovl := ovl }) s (fun t =>
      (t.ch ch.val).wire = wireAfter ovl ∧ (t.ch ch.val).ready = c.ready ∧ (t.ch ch.val).tec = c.tec ∧
      (t.ch ch.val).recn = (({ c with recn := recn } : Channel).overloaded false ovl).recn ∧
      s.counts t (64 * ch.val) 1 ∧ t.cr = s.cr ∧
      (recWords f.data.length ≤ v.freeWords →
        ∃ x, (t.sliver (2 * s.spOf ch.val)).recs = v.recs ++ [x] ∧ x.frame = f ∧ x.sof = c.sof ∧ x.eof = t.now) ∧
      (v.freeWords < recWords f.data.length →
        t.sliver (2 * s.spOf ch.val) = v ∧ s.counts t (64 * ch.val + 13) 1 ∧
        s.raises t (0x080 + 16 * s.spOf ch.val + 9))) := by
  intro c v recn
  obtain ⟨u, hu⟩ : ∃ u, s.elapse dt = u := ⟨_, rfl⟩
  have hch : ∀ k, u.ch k = s.ch k := fun k => hu ▸ s.elapse_ch k dt
  have hg : (s.elapse dt).received ch.val f lw ovl = (u.takenSeen ch.val f lw ovl).confine ch.val := by
    rw [hu, ← State.takeFrame_eq u ch.val f lw ovl (by rw [hch]; exact ht) (by rw [hch]; exact hw) (by rw [hch]; exact hm)]
    refine if_neg ?_
    rw [← hu, State.elapse_bit]
    rcases hfd with h | h
    · rw [h]
      simp
    · rw [h]
      simp
  obtain ⟨l, hseen⟩ := u.takenSeen_ch ch.val f lw ovl
  rw [hch] at hseen
  obtain ⟨b, hb⟩ : ∃ b, (u.setCh ch.val ((s.ch ch.val).afterTaken ovl)).chCount ch.val 0 = b := ⟨_, rfl⟩
  have hbr : b = { u with chs := b.chs, rep := b.rep } := by rw [← hb]; rfl
  have hin : u.takenIn ch.val f ovl = b.pushRx ch.val f c.sof u.now false := by
    rw [← hb]
    unfold State.takenIn
    rw [hch]
  have hbsp : b.spOf ch.val = s.spOf ch.val := by rw [hbr, ← hu]; exact s.elapse_spOf dt _
  have hbslv : b.sliver (2 * s.spOf ch.val) = v := by
    show _ = s.sliver _
    unfold State.sliver
    rw [hbr, ← s.elapse_mm dt, hu]
  have hblive : b.regs.live = s.regs.live := by rw [hbr, ← hu]; show (s.elapse dt).regs.live = _; rw [State.elapse_regs]
  have hbhear : s.Hears { cts := [(64 * ch.val + 0, 1)] } b.rep := by
    rw [← hb]
    exact State.Hears.chCount (b := u.setCh ch.val ((s.ch ch.val).afterTaken ovl)) (hu ▸ State.Hears.start hs dt) ch.val 0
  have hair := u.takenSeen_air f (State.airOnly_frame ch.val) lw ovl
  have hstore := u.takenSeen_air f (State.keepsStore_air ch.val) lw ovl
  have hinbus : State.BusOnly ch.val b (u.takenIn ch.val f ovl) := by
    rw [hin]
    exact (State.busOnly_frame ch.val).pushRx _ _ _ _ b
  obtain ⟨x, hx⟩ : ∃ x, u.takenSeen ch.val f lw ovl = x := ⟨_, rfl⟩
  rw [hx] at hg hseen hair hstore
  obtain ⟨tt, rr, hover⟩ := ({ c with recn := if !decide (c.mode = .normal) then c.recn else if c.recn > 127 then 120 else c.recn - 1 } :
    Channel).overloaded_rest false ovl
  have htecx : (x.ch ch.val).tec = c.tec := by
    rw [hseen]
    exact Channel.overloaded_other_tec _ _
  have hxst : (x.ch ch.val).st = c.st ∧ (x.ch ch.val).heldMode = c.heldMode ∧ (x.ch ch.val).ready = c.ready ∧
      (x.ch ch.val).wire = wireAfter ovl := by
    rw [hseen]
    unfold Channel.afterTaken
    rw [show ({ s.ch ch.val with recn := _ } : Channel).overloaded false ovl = _ from hover]
    exact ⟨rfl, rfl, rfl, rfl⟩
  have hxrec : (x.ch ch.val).recn = (({ c with recn := recn } : Channel).overloaded false ovl).recn := by
    rw [hseen]
    refine (Channel.overloaded_tec (c := { c with recn := recn }) (d := { c with
      recn := if !decide (c.mode = .normal) then c.recn else if c.recn > 127 then 120 else c.recn - 1 }) false rfl rfl ?_).2
    show (if !decide (c.mode = .normal) then c.recn else if c.recn > 127 then 120 else c.recn - 1) = recn
    by_cases h : c.mode = .normal
    · simp only [recn, h]
      rfl
    · simp only [recn, decide_eq_false h, if_neg h]
      rfl
  have hxp : (x.ch ch.val).st.part = true := by
    rw [hxst.1]
    exact Channel.taking_part ht
  have hxh : (x.ch ch.val).heldMode = false := hxst.2.1.trans hh
  have hle : (x.ch ch.val).tec ≤ 255 := htecx ▸ htec
  have hmild : ((x.confine ch.val).ch ch.val).tec = (x.ch ch.val).tec ∧ ((x.confine ch.val).ch ch.val).recn = (x.ch ch.val).recn ∧
      ((x.confine ch.val).ch ch.val).ready = (x.ch ch.val).ready ∧ ((x.confine ch.val).ch ch.val).wire = (x.ch ch.val).wire := by
    obtain ⟨w, hw⟩ := x.confine_mild_ch ch.val hxp hxh hle
    rw [hw]
    exact ⟨rfl, rfl, rfl, rfl⟩
  have hend := (State.airOnly_frame ch.val).chanFrame.confine_mild x hxp hxh hle
  have hendStore := (State.keepsStore_air ch.val).chanFrame.confine_mild x hxp hxh hle
  obtain ⟨w, hw⟩ : ∃ w, x.confine ch.val = w := ⟨_, rfl⟩
  rw [hw] at hg hmild hend hendStore
  obtain ⟨g1, g2, g3, g4⟩ := hmild
  have hbw : State.BusOnly ch.val (u.takenIn ch.val f ovl) w := ((State.airOnly_frame ch.val).trans hair hend).bus
  have hmm : w.mm = (u.takenIn ch.val f ovl).mm := hendStore.1.trans hstore.1
  have hcr : w.cr = s.cr := by
    rw [hendStore.2, hstore.2, hin, State.pushRx_cr, hbr, ← hu]
    exact s.elapse_cr dt
  have hnow : w.now = u.now := by
    rw [((State.airOnly_frame ch.val).trans hair hend).rest]
    show (u.takenIn ch.val f ovl).now = _
    rw [hinbus.rest]
    show b.now = _
    rw [hbr]
  have hslv : w.sliver (2 * s.spOf ch.val) = (b.pushRx ch.val f c.sof u.now false).sliver (2 * b.spOf ch.val) := by
    unfold State.sliver
    rw [hmm, hin, hbsp]
  rw [hin] at hbw
  by_cases hfit : recWords f.data.length ≤ v.freeWords
  · have hfits := b.pushRx_fits ch.val f c.sof u.now false (by rw [hbsp, hbslv]; exact hfit)
    rw [← hslv, hbsp, hbslv] at hfits
    have hhear := (hbhear.bus ((State.busOnly_frame ch.val).pushRx f c.sof u.now false b)).bus hbw
    exact answers_hears hs (exec_frameReceived ch f lw ovl) hg hhear fun r heard =>
      ⟨g4.trans hxst.2.2.2, g3.trans hxst.2.2.1, g1.trans htecx, g2.trans hxrec, heard.counts (64 * ch.val + 0, 1) (by simp), hcr,
        fun _ => ⟨rxRec ch.val f c.sof u.now false, hfits, rfl, rfl, hnow.symm⟩, fun h => absurd hfit (Nat.not_le.2 h)⟩
  · have hno : (b.sliver (2 * b.spOf ch.val)).freeWords < recWords f.data.length := by
      rw [hbsp, hbslv]
      exact Nat.lt_of_not_le hfit
    obtain ⟨hsame, hdrop⟩ := State.pushRx_drops (ch := ch.val) c.sof u.now false hno
    have hhear := (hdrop hbhear hblive).bus hbw
    rw [hbsp] at hhear
    refine answers_hears hs (exec_frameReceived ch f lw ovl) hg hhear fun r heard =>
      ⟨g4.trans hxst.2.2.2, g3.trans hxst.2.2.1, g1.trans htecx, g2.trans hxrec, heard.counts (64 * ch.val + 0, 1) (by simp), hcr,
        fun h => absurd h hfit, fun _ => ⟨?_, heard.counts (64 * ch.val + 13, 1) (by simp), heard.raises _ List.mem_cons_self⟩⟩
    show w.sliver (2 * s.spOf ch.val) = v
    rw [hslv, ← hbslv, ← hbsp]
    unfold State.sliver
    rw [hsame]

theorem answers_frameReceived_fd (htec : (s.ch ch.val).tec ≤ 255) (ht : (s.ch ch.val).taking = true) (hh : (s.ch ch.val).heldMode = false)
    (f : Sys2Proof.Frame) (lw : Option Wave) (ovl : Option Nat) (hw : (s.ch ch.val).wire = .otherFrame)
    (hm : (s.ch ch.val).mode ≠ .loopback) (hfdf : f.fdf = true) (hen : s.bit (spChBase ch.val) 4 = false) :
    Answers (.frameReceived dt ch f { lw := lw, ovl := ovl }) s (fun t =>
      t.mm.slv = s.mm.slv ∧ (t.ch ch.val).lec = (if s.bit (spChBase ch.val) 6 = true then 7 else 2)) := by
  obtain ⟨u, hu⟩ : ∃ u, s.elapse dt = u := ⟨_, rfl⟩
  have hch : ∀ k, u.ch k = s.ch k := fun k => hu ▸ s.elapse_ch k dt
  obtain ⟨e, he⟩ : ∃ e : ErrInfo, { cls := .pex, frame := some f, exempt := false, eights := 0, rxEight := false
                                    pairs := match lw with | some w => w.prev.pairs ++ w.bits.flatMap (fun b => b.pairs) | none => [] } = e :=
    ⟨_, rfl⟩
  have hcls : e.cls = .pex := by rw [← he]
  have hflight : (u.errFlight ch.val).isSome = false := by
    rw [State.errFlight_isSome, hch, hw]
    rfl
  have hnone : u.errFlight ch.val = none := Option.isSome_eq_false_iff.1 hflight |> Option.isNone_iff_eq_none.1
  have hbit : u.bit (spChBase ch.val) 6 = s.bit (spChBase ch.val) 6 := hu ▸ s.elapse_bit dt _ _
  have hslv : u.mm.slv = s.mm.slv := by rw [← hu, State.elapse_mm]
  have hgo : (s.elapse dt).received ch.val f lw ovl = u.errorFlag ch.val e := by
    rw [hu, ← he]
    refine if_pos ?_
    rw [← hu, State.elapse_bit, hfdf, hen]
    rfl
  have hnot : ¬(!(u.ch ch.val).taking || (decide ((u.ch ch.val).mode = .loopback) && !(u.errFlight ch.val).isSome)) = true := by
    rw [hch, ht, decide_eq_false hm]
    simp
  rw [State.errorFlag_eq, if_neg hnot] at hgo
  have K := State.keepsStore_air ch.val
  have A := State.airOnly_frame ch.val
  by_cases hb : s.bit (spChBase ch.val) 6 = true
  · have hpex := State.classOf_pex ch e hcls hflight (hbit.trans hb)
    rw [if_pos hpex] at hgo
    have hstore := K.trans (u.errJudged_line ch.val e K.toLineFrame) (K.pexEvent _)
    have hair := A.trans (u.errJudged_line ch.val e A.toLineFrame) (A.pexEvent _)
    have hlec : (((u.errJudged ch.val e).pexEvent ch.val).ch ch.val).lec = 7 := by
      unfold State.pexEvent
      rw [State.spEvent_ch, State.chCount_ch]
      unfold State.modCh
      rw [State.setCh_self]
    obtain ⟨w, hw'⟩ : ∃ w, (u.errJudged ch.val e).pexEvent ch.val = w := ⟨_, rfl⟩
    rw [hw'] at hgo hstore hair hlec
    refine answers_hears hs (exec_frameReceived ch f lw ovl) hgo ((hu ▸ State.Hears.start hs dt : s.Hears {} u.rep).bus hair.bus)
      fun r _ => ⟨?_, ?_⟩
    · show w.mm.slv = _
      rw [hstore.1, hslv]
    · rw [if_pos hb]
      exact hlec
  · obtain ⟨hnp, hlec⟩ := State.classOf_error (u := u) ch e (own := (u.errFlight ch.val).isSome)
      (.inr (.inr (hbit.trans (Bool.not_eq_true _ ▸ hb))))
    obtain ⟨cls, hcls'⟩ : ∃ cls, u.classOf ch.val (u.errFlight ch.val).isSome e.cls = cls := ⟨_, rfl⟩
    rw [hcls'] at hgo hnp hlec
    rw [if_neg hnp] at hgo
    obtain ⟨h1, h2, h3, h4, h5⟩ := u.errSettled_ch ch.val e cls
    have hset : u.errSettled ch.val e cls = u.errCounted ch.val e cls := by
      unfold State.errSettled
      rw [hnone]
    have htold := (State.errTold_bus (ch := ch.val) u e cls)
    have hstoreTold : (u.errTold ch.val e cls).mm = u.mm ∧ (u.errTold ch.val e cls).cr = u.cr :=
      K.spEvent (K.chCount (K.chCount (u.errJudged_line ch.val e K.toLineFrame) _ _) _ _) _ _
    have hair := A.trans htold (State.errCounted_air A u e cls)
    have hstore := K.trans hstoreTold (State.errCounted_air K u e cls)
    rw [hch, hflight] at h1 h2 h3 h4 h5
    obtain ⟨tt, rr, her⟩ := (s.ch ch.val).errored_rest false e
    have htec' : ((s.ch ch.val).errored false e).tec = (s.ch ch.val).tec := by
      unfold Channel.errored
      split
      · rfl
      · rfl
    rw [hset] at hgo h1 h2 h3 h4 h5
    obtain ⟨v, hv⟩ : ∃ v, u.errCounted ch.val e cls = v := ⟨_, rfl⟩
    rw [hv] at hgo h1 h2 h3 h4 h5 hair hstore
    have hvp : (v.ch ch.val).st.part = true := by
      rw [h4, her]
      exact Channel.taking_part ht
    have hvh : (v.ch ch.val).heldMode = false := by
      rw [h5, her]
      exact hh
    have hle : (v.ch ch.val).tec ≤ 255 := by
      rw [h1]
      exact htec' ▸ htec
    have hend := A.chanFrame.confine_mild v hvp hvh hle
    have hendStore := K.chanFrame.confine_mild v hvp hvh hle
    have hlec' : ((v.confine ch.val).ch ch.val).lec = (v.ch ch.val).lec := by
      obtain ⟨w, hw⟩ := v.confine_mild_ch ch.val hvp hvh hle
      rw [hw]
    obtain ⟨w, hw'⟩ : ∃ w, v.confine ch.val = w := ⟨_, rfl⟩
    rw [hw'] at hgo hend hendStore hlec'
    refine answers_hears hs (exec_frameReceived ch f lw ovl) hgo
      ((hu ▸ State.Hears.start hs dt : s.Hears {} u.rep).bus (A.trans hair hend).bus) fun r _ => ⟨?_, ?_⟩
    · show w.mm.slv = _
      rw [hendStore.1, hstore.1, hslv]
    · rw [if_neg hb]
      refine hlec'.trans (h3.trans ?_)
      rw [hlec]
      exact if_pos hcls

theorem answers_arbitrationLost {e : Ready} {f : Sys2Proof.Frame} (hw : (s.ch ch.val).wire = .ownFrame)
    (hf : s.inFlight ch.val = some (e, f)) (hd : e.doomed = false) :
    let c := s.ch ch.val
    Answers (.arbitrationLost dt ch) s (fun t =>
      t = { s.elapse dt with chs := t.chs, mm := t.mm, rep := t.rep } ∧ (t.ch ch.val).ready = c.ready ∧
      (t.ch ch.val).chosen = none ∧ (t.ch ch.val).wire = .otherFrame ∧ s.counts t (64 * ch.val + 9) 1 ∧
      t.sliver (s.txSliver ch.val) = (s.sliver (s.txSliver ch.val)).rewind) := by
  intro c
  obtain ⟨u, hu⟩ : ∃ u, s.elapse dt = u := ⟨_, rfl⟩
  have hch : ∀ k, u.ch k = s.ch k := fun k => hu ▸ s.elapse_ch k dt
  obtain ⟨x, hx⟩ : ∃ x, u.modCh ch.val (fun c => { c with wire := .otherFrame }) = x := ⟨_, rfl⟩
  have hxr : x = { u with chs := x.chs } := by rw [← hx]; rfl
  have hxch : x.ch ch.val = { c with wire := .otherFrame } := by
    rw [← hx, show c = u.ch ch.val from (hch _).symm]
    exact State.setCh_self _ _ _
  have hgo : (s.elapse dt).beaten ch.val = (x.chCount ch.val 9).unchoose ch.val := by
    have hin : u.inFlight ch.val = some (e, f) := by rw [← hu, State.elapse_inFlight]; exact hf
    rw [hu, ← hx]
    unfold State.beaten
    rw [if_pos (by rw [hch]; exact hw), hin]
    exact if_neg (by rw [hd]; exact Bool.false_ne_true)
  have hxrep : x.rep = (s.elapse dt).rep := by rw [hxr, hu]
  obtain ⟨v, hv⟩ : ∃ v, x.unchoose ch.val = v := ⟨_, rfl⟩
  have hvr : v = { x with chs := v.chs, mm := v.mm } := by rw [← hv]; rfl
  have hvch : v.ch ch.val = { c with wire := .otherFrame, chosen := none, offered := false } := by
    rw [← hv, State.unchoose_ch, hxch]
  have htx : x.txSliver ch.val = s.txSliver ch.val := by
    unfold State.txSliver State.spOf
    rw [hxr, ← hu]
    show 2 * Tbl.lookD (s.elapse dt).chSp _ _ + 1 = _
    rw [State.elapse_chSp]
  have hvslv : v.sliver (s.txSliver ch.val) = (s.sliver (s.txSliver ch.val)).rewind := by
    have h : (x.unchoose ch.val).sliver (x.txSliver ch.val) = (x.sliver (x.txSliver ch.val)).rewind := Tbl.lookD_put_self _ _ _ _
    rw [hv, htx] at h
    rw [h]
    unfold State.sliver
    rw [hxr, ← s.elapse_mm dt, hu]
  have hrep : State.RepOnly v ((x.chCount ch.val 9).unchoose ch.val) := by rw [← hv]; rfl
  have hhear := State.Hears.chCount (b := x) (hxrep ▸ State.Hears.start hs dt) ch.val 9
  refine answers_hears_reports hs (exec_arbitrationLost ch) hgo hrep hhear fun r heard =>
    ⟨?_, ?_, ?_, ?_, heard.counts (64 * ch.val + 9, 1) List.mem_cons_self, hvslv⟩
  · show ({ v with rep := r } : State) = { s.elapse dt with chs := v.chs, mm := v.mm, rep := r }
    rw [hvr, hxr, hu]
  · show (v.ch ch.val).ready = _
    rw [hvch]
  · show (v.ch ch.val).chosen = _
    rw [hvch]
  · show (v.ch ch.val).wire = _
    rw [hvch]

end

/-- Settles O21, by the stages of a frame sent (`State.sentSeen_ch`) and of a frame received (`State.takenSeen_ch`). -/
theorem framesOnTheWire : Obligations.FramesOnTheWire := by
  unfold Obligations.FramesOnTheWire
  intro s dt ch hs htec ht hh c own
  exact ⟨fun edges h1 h2 h3 => answers_startOfFrame hs ch edges ht h1 h2 rfl h3,
    fun e f lw ovl hw hf => answers_frameSent hs ch ht hh lw ovl hw hf,
    fun f lw ovl hw hm hfd => answers_frameReceived hs ch htec ht hh f lw ovl hw hm hfd,
    fun f lw ovl hw hm hfdf hen => answers_frameReceived_fd hs ch htec ht hh f lw ovl hw hm hfdf hen,
    fun e f hw hf hd => answers_arbitrationLost hs ch hw hf hd⟩

end Sys2Proof.Machine
end

section
/-!
PROOFS. Sliver flushes (R430), scrubbing and the start of a row retirement (R432 to R435, R523, R524).
-/

namespace Sys2Proof.Machine

/-! ## Flushes -/

section
variable {s : State} {dt : Nat} (hs : s.ready) (n : Fin 36)

theorem State.setSliver_self (s : State) (n : Nat) (v : Sliver) : (s.setSliver n v).sliver n = v := Tbl.lookD_put_self _ _ _ _
theorem State.setSliver_ne (s : State) {n k : Nat} (v : Sliver) (h : k ≠ n) : (s.setSliver n v).sliver k = s.sliver k :=
  Tbl.lookD_put_ne _ _ _ _ h

theorem State.elapse_sliver (s : State) (dt k : Nat) : (s.elapse dt).sliver k = s.sliver k := by
  unfold State.sliver
  rw [State.elapse_mm]

/-- SLIVER_FLUSH_EFFECT, in the state of its instant. -/
def State.flushEffect (s : State) (n : Nat) : State :=
  let v := s.sliver n
  if v.flushing = false then s
  else if n % 2 = 0 then s.flushRx n
  else if v.flight.isNone then s.flushTx n
  else s

theorem exec_sliverFlushEffect (s : State) : exec (.sliverFlushEffect dt n) s = s.at_ dt (fun s => s.flushEffect n.val) := rfl

theorem Sliver.rewind_none {v : Sliver} (h : v.flight = none) : v.rewind = v := by
  unfold Sliver.rewind
  rw [h]

/-- The record of a bobbin that is not in an empty sliver. -/
theorem Sliver.drop_empty {v : Sliver} (b : Nat) (h : v.recs = []) (hf : v.flight = none) : v.drop b = v := by
  unfold Sliver.drop
  simp only [hf, h]

theorem State.clearTx_sliver (a : State) {k : Nat} (h : (a.sliver k).flight = none) :
    (a.clearTx k).sliver k = { a.sliver k with r := (a.sliver k).w, m := (a.sliver k).w, recs := [], flushing := false } := by
  have hc : (a.clearTx k).sliver k =
      { (a.sliver k).rewind with r := (a.sliver k).rewind.w, m := (a.sliver k).rewind.w, recs := [], flushing := false } :=
    Tbl.lookD_put_self _ _ _ _
  rw [hc, Sliver.rewind_none h]

theorem State.keepsMm_free : FreeFrame (fun a b => b.mm = a.mm) where
  refl _ := rfl
  trans h g := g.trans h
  rep _ _ _ _ := rfl
  dr _ _ := rfl
  cr _ _ := rfl
  ks _ _ := rfl
  grace _ _ _ _ := rfl

/-- An abort leaves an empty sliver alone. -/
theorem State.abort_sliver (a : State) (ch : Nat) (e : Ready) {k : Nat} (hr : (a.sliver k).recs = []) (hf : (a.sliver k).flight = none) :
    (a.abort ch e).sliver k = a.sliver k := by
  have hdrop : (a.dropRec ch e).sliver k = a.sliver k := by
    unfold State.dropRec
    by_cases h : k = (a.dropCh ch e).txSliver ch
    · rw [← h, State.setSliver_self]
      exact Sliver.drop_empty _ hr hf
    · exact State.setSliver_ne _ _ h
  rw [← hdrop]
  have hmm : (a.abort ch e).mm = (a.dropRec ch e).mm := State.keepsMm_free.abort a e
  unfold State.sliver
  rw [hmm]

theorem State.flushEffect_tx {u : State} {n : Nat} (hf : (u.sliver n).flushing = true) (hn : n % 2 = 1)
    (hfl : (u.sliver n).flight = none) : u.flushEffect n = u.flushTx n := by
  unfold State.flushEffect
  simp only
  rw [if_neg (by rw [hf]; decide), if_neg (by omega), if_pos (by rw [hfl]; rfl)]

include hs

theorem answers_sliverFlush (w : Wr) (hw : s.passes (0xC0004 + 16 * n.val) w) (hb : bitOf w.data 0 = true) :
    Answers (.sliverFlush dt n w) s (fun t =>
      t = { s.elapse dt with mm := t.mm } ∧ t.sliver n.val = { s.sliver n.val with flushing := true } ∧
      (∀ k, k ≠ n.val → t.sliver k = s.sliver k) ∧ t.mm.rows = s.mm.rows) := by
  have hc : exec (.sliverFlush dt n w) s = s.at_ dt (fun u => u.wr (0xC0004 + 16 * n.val) w (fun s =>
    if bitOf w.data 0 then s.setSliver n.val { s.sliver n.val with flushing := true } else s)) := rfl
  obtain ⟨u, hu⟩ : ∃ u, s.elapse dt = u := ⟨_, rfl⟩
  refine answers_wr_settles hs hw hc (v := u.setSliver n.val { u.sliver n.val with flushing := true }) ?_
    (hu ▸ State.elapse_settled hs dt) ⟨by rw [hu]; rfl, ?_, fun k hk => ?_, ?_⟩
  · rw [hu, hb, if_pos rfl]
  · rw [State.setSliver_self, ← hu, State.elapse_sliver]
  · rw [State.setSliver_ne _ _ hk, ← hu, State.elapse_sliver]
  · show u.mm.rows = _
    rw [← hu, State.elapse_mm]

theorem answers_sliverFlushEffect_rx (hf : (s.sliver n.val).flushing = true) (hn : n.val % 2 = 0) :
    let v := s.sliver n.val
    Answers (.sliverFlushEffect dt n) s (fun t =>
      t = { s.elapse dt with mm := t.mm, rep := t.rep } ∧
      t.sliver n.val = { v with r := v.w, m := v.w, recs := [], flushing := false } ∧
      (∀ k, k ≠ n.val → t.sliver k = s.sliver k) ∧ s.counts t (5504 + 4 * n.val + 2) v.recs.length) := by
  intro v
  obtain ⟨u, hu⟩ : ∃ u, s.elapse dt = u := ⟨_, rfl⟩
  have hsl : ∀ k, u.sliver k = s.sliver k := fun k => hu ▸ s.elapse_sliver dt k
  obtain ⟨x, hx⟩ : ∃ x, u.setSliver n.val { v with r := v.w, m := v.w, recs := [], flushing := false } = x := ⟨_, rfl⟩
  have hxr : x = { u with mm := x.mm } := by rw [← hx]; rfl
  have hg : (s.elapse dt).flushEffect n.val = x.countN (5504 + 4 * n.val + 2) v.recs.length := by
    rw [hu, ← hx]
    unfold State.flushEffect State.flushRx
    simp only
    rw [hsl, if_neg (by rw [hf]; decide), if_pos hn]
  have hrep : x.rep = (s.elapse dt).rep := by rw [hxr, hu]
  refine answers_hears_reports hs (exec_sliverFlushEffect n s) hg ((State.RepOnly.refl x).countN _ _)
    (State.Hears.countN (b := x) (hrep ▸ State.Hears.start hs dt) _ _) fun r heard =>
    ⟨?_, ?_, fun k hk => ?_, heard.counts (5504 + 4 * n.val + 2, v.recs.length) List.mem_cons_self⟩
  · rw [hu]
    show ({ x with rep := r } : State) = { u with mm := x.mm, rep := r }
    rw [hxr]
  · show x.sliver n.val = _
    rw [← hx, State.setSliver_self]
  · show x.sliver k = _
    rw [← hx, State.setSliver_ne _ _ hk, hsl]

theorem answers_sliverFlushEffect_none (hf : (s.sliver n.val).flushing = true) (hn : n.val % 2 = 1)
    (hfl : (s.sliver n.val).flight = none) (hr : (s.sliver n.val).recs = []) :
    Answers (.sliverFlushEffect dt n) s (fun t =>
      t = { s.elapse dt with mm := t.mm, rep := t.rep } ∧ (t.sliver n.val).flushing = false) := by
  obtain ⟨u, hu⟩ : ∃ u, s.elapse dt = u := ⟨_, rfl⟩
  have hsl : ∀ k, u.sliver k = s.sliver k := fun k => hu ▸ s.elapse_sliver dt k
  have hg : (s.elapse dt).flushEffect n.val = u.clearTx n.val := by
    rw [hu, State.flushEffect_tx (by rw [hsl]; exact hf) hn (by rw [hsl]; exact hfl)]
    unfold State.flushTx
    simp only
    rw [hsl, hr]
    rfl
  obtain ⟨hrest, hgrows, hold⟩ := u.clearTx_spec n.val
  have hsliver := u.clearTx_sliver (k := n.val) (by rw [hsl]; exact hfl)
  obtain ⟨x, hx⟩ : ∃ x, u.clearTx n.val = x := ⟨_, rfl⟩
  rw [hx] at hrest hgrows hold hsliver hg
  refine answers_hears hs (exec_sliverFlushEffect n s) hg ((hu ▸ State.Hears.start hs dt : s.Hears {} u.rep).mono hgrows hold)
    fun r _ => ⟨?_, ?_⟩
  · rw [hu]
    show ({ x with rep := r } : State) = { u with mm := x.mm, rep := r }
    rw [hrest]
  · show (x.sliver n.val).flushing = false
    rw [hsliver]

theorem answers_sliverFlushEffect_one {x : SlvRec} {e : Ready} (hf : (s.sliver n.val).flushing = true) (hn : n.val % 2 = 1)
    (hfl : (s.sliver n.val).flight = none) (hr : (s.sliver n.val).recs = [x]) (he : (s.ch x.ch).readyOf x.bob = some e) :
    Answers (.sliverFlushEffect dt n) s (fun t =>
      (t.sliver n.val).recs = [] ∧ (t.sliver n.val).flushing = false ∧ s.counts t (5504 + 4 * n.val + 2) 1 ∧
      s.counts t (64 * x.ch + 14) 1 ∧ ∀ y ∈ (t.ch x.ch).ready, y.bob ≠ e.bob) := by
  obtain ⟨u, hu⟩ : ∃ u, s.elapse dt = u := ⟨_, rfl⟩
  have hsl : ∀ k, u.sliver k = s.sliver k := fun k => hu ▸ s.elapse_sliver dt k
  have hch : ∀ k, u.ch k = s.ch k := fun k => hu ▸ s.elapse_ch k dt
  obtain ⟨hrest, -, -⟩ := u.clearTx_spec n.val
  have hsliver := u.clearTx_sliver (k := n.val) (by rw [hsl]; exact hfl)
  have hcount : s.Hears { cts := [(5504 + 4 * n.val + 2, 1)] } (u.clearTx n.val).rep := by
    obtain ⟨b, hb⟩ : ∃ b, u.setSliver n.val { u.sliver n.val with r := (u.sliver n.val).w, m := (u.sliver n.val).w, recs := [], flushing := false } = b :=
      ⟨_, rfl⟩
    have h : u.clearTx n.val = b.countN (5504 + 4 * n.val + 2) 1 := by
      rw [← hb]
      unfold State.clearTx
      simp only
      rw [Sliver.rewind_none (by rw [hsl]; exact hfl), hsl, hr]
      rfl
    rw [h]
    exact State.Hears.countN (b := b) (by rw [← hb, ← hu]; exact State.Hears.start hs dt) _ _
  obtain ⟨b, hb⟩ : ∃ b, u.clearTx n.val = b := ⟨_, rfl⟩
  rw [hb] at hrest hsliver hcount
  have hbch : ∀ k, b.ch k = s.ch k := fun k => (State.ch_of_chs (by rw [hrest]) k).trans (hch k)
  have hg : (s.elapse dt).flushEffect n.val = b.abort x.ch e := by
    rw [hu, State.flushEffect_tx (by rw [hsl]; exact hf) hn (by rw [hsl]; exact hfl)]
    unfold State.flushTx
    simp only
    rw [hsl, hr, hb]
    show (match (b.ch x.ch).readyOf x.bob with
      | some e => b.abort x.ch e
      | none => b) = _
    rw [hbch, he]
  have hab := b.abort_sliver x.ch e (k := n.val) (by rw [hsliver]) (by rw [hsliver, hsl]; exact hfl)
  have hready : ((b.abort x.ch e).ch x.ch).ready = (b.ch x.ch).ready.filter (fun y => decide (y.bob ≠ e.bob)) := by
    rw [State.abort_ch, State.dropCh, State.setCh_self]
    rfl
  have W := State.wireOnly_frame x.ch
  have hleave := W.leaveUnsent b e 5 5
  obtain ⟨y, hy⟩ : ∃ y, b.leaveUnsent x.ch e 5 5 = y := ⟨_, rfl⟩
  rw [hy] at hleave
  have hend : State.WireOnly x.ch (y.chCount x.ch 14) (b.abort x.ch e) := by
    rw [show b.abort x.ch e = (y.chCount x.ch 14).spEvent x.ch 8 by rw [← hy]; rfl]
    exact W.spEvent (W.refl _) _ _
  have hhear := (State.Hears.chCount (b := y) (hcount.wire hleave) x.ch 14).wire hend
  obtain ⟨z, hz⟩ : ∃ z, b.abort x.ch e = z := ⟨_, rfl⟩
  rw [hz] at hg hab hready hhear
  refine answers_hears hs (exec_sliverFlushEffect n s) hg hhear fun r heard =>
    ⟨?_, ?_, heard.counts (5504 + 4 * n.val + 2, 1) (by simp), heard.counts (64 * x.ch + 14, 1) List.mem_cons_self, fun w hw => ?_⟩
  · show (z.sliver n.val).recs = []
    rw [hab, hsliver]
  · show (z.sliver n.val).flushing = false
    rw [hab, hsliver]
  · have hw' : w ∈ (z.ch x.ch).ready := hw
    rw [hready] at hw'
    simpa using (List.mem_filter.1 hw').2

end

end Sys2Proof.Machine
end

section
/-!
PROOFS. The scrubber, what its findings do, and the start of a row retirement.
-/

namespace Sys2Proof.Machine

/-! ## What a row's finding leaves -/

section
variable (s : State) (e : RowErr)

/-- The row's count of corrected reads has advanced. -/
def State.rowMarked : State :=
  { s with mm := { s.mm with
    rows := Tbl.put s.mm.rows e.row.val {} { s.row e.row.val with ce := min 255 ((s.row e.row.val).ce + e.ce) }
    lastCe := if 0 < e.ce then e.row.val else s.mm.lastCe } }

/-- And it is counted. -/
def State.rowSeen : State :=
  let s1 := s.setRow e.row.val { s.row e.row.val with ce := min 255 ((s.row e.row.val).ce + e.ce) }
  (if e.ce > 0 then ({ s1 with mm := { s1.mm with lastCe := e.row.val } } : State).countN (5696 + e.region.val - 1) e.ce else s1).countN
    5728 e.dropped

theorem State.rowErr_eq (h : e.region.val ≠ 0) : s.rowErr e =
    let t := if e.ue then ((s.rowSeen e).ueReport e.row.val e.region.val).ueEffect e.row.val e.region.val e.item else s.rowSeen e
    if 0 < e.ce ∧ s.fld 0xC8000 16 8 ≤ min 255 ((s.row e.row.val).ce + e.ce) then t.retireRow e.row.val else t := by
  unfold State.rowErr
  simp only
  rw [if_neg h]
  rfl

theorem State.rowSeen_repOnly : State.RepOnly (s.rowMarked e) (s.rowSeen e) := by
  unfold State.rowSeen State.rowMarked
  simp only
  split
  · exact ((State.RepOnly.refl _).countN _ _).countN _ _
  · exact (State.RepOnly.refl _).countN _ _

theorem State.rowMarked_row : (s.rowMarked e).row e.row.val = { s.row e.row.val with ce := min 255 ((s.row e.row.val).ce + e.ce) } :=
  Tbl.lookD_put_self _ _ _ _
theorem State.rowMarked_row_ne {k : Nat} (h : k ≠ e.row.val) : (s.rowMarked e).row k = s.row k := Tbl.lookD_put_ne _ _ _ _ h

/-- The scrubber has gone on (R433). -/
def State.scrubbedTo (t : State) : State :=
  { t with mm := { t.mm with
    nextRow := (s.mm.nextRow + s.fld 0xC8000 0 13) % 32768
    passes := t.mm.passes + BitVec.ofNat 16 ((s.mm.nextRow + s.fld 0xC8000 0 13) / 32768) } }

/-- SCRUB, in the state of its instant. -/
def State.scrubs (errs : List RowErr) : State :=
  s.scrubbedTo ((errs.filter (fun e => decide ((e.row.val + 32768 - s.mm.nextRow) % 32768 < s.fld 0xC8000 0 13))).foldl State.rowErr s)

theorem State.scrubs_one {s : State} {e : RowErr} (h : (e.row.val + 32768 - s.mm.nextRow) % 32768 < s.fld 0xC8000 0 13) :
    s.scrubs [e] = s.scrubbedTo (s.rowErr e) := by
  unfold State.scrubs
  rw [List.filter_cons_of_pos (by simpa using h)]
  rfl

theorem State.scrubbedTo_row (t : State) (k : Nat) : (s.scrubbedTo t).row k = t.row k := rfl

end

theorem exec_scrub (dt : Nat) (errs : List RowErr) (s : State) : exec (.scrub dt errs) s = s.at_ dt (fun s => s.scrubs errs) := rfl

section
variable {s u : State} {k : Account}

theorem State.Tells.rowSeen (h : s.Tells k u.rep) (e : RowErr) :
    s.Tells { k with cts := (5728, e.dropped) :: (if 0 < e.ce then [(5696 + e.region.val - 1, e.ce)] else []) ++ k.cts } (u.rowSeen e).rep := by
  unfold State.rowSeen
  simp only
  split
  · exact State.Tells.countN (State.Tells.countN (b := { u.setRow e.row.val { u.row e.row.val with
      ce := min 255 ((u.row e.row.val).ce + e.ce) } with mm := _ }) h _ _) _ _
  · exact State.Tells.countN (b := u.setRow e.row.val { u.row e.row.val with ce := min 255 ((u.row e.row.val).ce + e.ce) }) h _ _

/-- An uncorrectable word, its report apart. -/
def State.ueMarked (s : State) (row region : Nat) : State :=
  { s with mm := { s.mm with
    rows := Tbl.put s.mm.rows row {} { s.row row with ue := true }, lastUeRow := row, lastUeRegion := region } }

theorem State.ueReport_repOnly (row region : Nat) : State.RepOnly (u.ueMarked row region) (u.ueReport row region) :=
  (((State.RepOnly.refl _).count _).slub _ _ _ _).raise _

theorem State.Tells.ueReport (h : s.Tells k u.rep) (hlive : u.regs.live = s.regs.live) (row region : Nat) :
    s.Tells { k with srcs := 0x009 :: k.srcs, cts := (5712 + region - 1, 1) :: k.cts, slubs := k.slubs ++ [u.slubReq 0x0C04 row region 0] }
      (u.ueReport row region).rep := by
  obtain ⟨b, hb⟩ : ∃ b, u.ueMarked row region = b := ⟨_, rfl⟩
  have hbr : b = { u with mm := b.mm } := by rw [← hb]; rfl
  have h1 : s.Tells k b.rep := by rw [hbr]; exact h
  have h2 := State.Tells.count (b := b) h1 (5712 + region - 1)
  obtain ⟨c, hc⟩ : ∃ c, b.count (5712 + region - 1) = c := ⟨_, rfl⟩
  rw [hc] at h2
  have hcr : State.RepOnly b c := by rw [← hc]; exact (State.RepOnly.refl b).count _
  have h3 := State.Tells.raise (b := c.slub 0x0C04 row region 0) (State.Tells.slub (b := c) h2 0x0C04 row region 0) 0x009
    (hcr.live.trans (by rw [hbr]; exact hlive))
  rw [show c.slubReq 0x0C04 row region 0 = u.slubReq 0x0C04 row region 0 by rw [hcr, hbr]; rfl] at h3
  rw [show u.ueReport row region = (c.slub 0x0C04 row region 0).raise 0x009 by rw [← hc, ← hb]; rfl]
  exact h3

/-! ## Cached ring words are fetched again -/

theorem State.Tells.modDs (h : s.Tells k u.rep) (p : Port) (d : Nat) (f : Ring → Ring) : s.Tells k (u.modDs p d f).rep :=
  h.mono (Rep.grows_setDs _ _ _ _) (Rep.same_setDs _ _ _ _).total (Rep.same_setDs _ _ _ _).whOld (Rep.same_setDs _ _ _ _).slubReqs rfl

theorem State.Tells.keepEmit (h : s.Tells k u.rep) (o : Output) : s.Tells k (u.emit o).rep :=
  h.fires (u.emit_grows o) (u.emit_same o) (u.emit_fires o)

theorem State.readProd_tells (h : s.Tells k u.rep) (p : Port) (d : Nat) : s.Tells k (u.readProd p d).rep := by
  unfold State.readProd
  split
  · split
    · exact State.Tells.keepEmit (u := u.modDs p d _) (h.modDs p d _) _
    · exact h.modDs p d _
  · exact h

theorem State.readProd_repOnly (u : State) (p : Port) (d : Nat) : State.RepOnly u (u.readProd p d) := by
  unfold State.readProd
  split
  · split
    · exact (State.RepOnly.refl u).rep _
    · exact (State.RepOnly.refl u).rep _
  · exact .refl u

theorem State.issues_keep {α : Type} (p : Port) (f : α → HostRead) (l : List α) (h : s.Tells k u.rep) :
    State.RepOnly u (l.foldl (fun (a : State) x => a.issue p (f x)) u) ∧
    s.Tells k (l.foldl (fun (a : State) x => a.issue p (f x)) u).rep := by
  induction l generalizing u with
  | nil => exact ⟨.refl u, h⟩
  | cons x l ih =>
    obtain ⟨h1, h2⟩ := ih (u := u.issue p (f x)) (State.Tells.keepEmit (u := u) h _)
    exact ⟨State.RepOnly.trans ((State.RepOnly.refl u).emit _) h1, h2⟩

theorem State.cacheUe_keeps (h : s.Tells k u.rep) (p : Port) (d : Fin 128) :
    State.RepOnly u (u.cacheUe p d) ∧ s.Tells k (u.cacheUe p d).rep := by
  unfold State.cacheUe
  simp only
  split
  · obtain ⟨h1, h2⟩ := State.issues_keep p (HostRead.desc d) _ (h.modDs p d.val _)
    exact ⟨State.RepOnly.trans (State.RepOnly.trans ((State.RepOnly.refl u).rep _) h1) (State.readProd_repOnly _ _ _),
      State.readProd_tells h2 _ _⟩
  · exact ⟨.refl u, h⟩

end

/-! ## The rows of the scrubber -/

section
variable {s : State} {dt : Nat} (hs : s.ready) (e : RowErr)

theorem State.elapse_row (s : State) (dt k : Nat) : (s.elapse dt).row k = s.row k := by
  unfold State.row
  rw [State.elapse_mm]

/-- The scrubber has read SCRUB_ROWS rows on since state s (R433). -/
def State.WentOn (s t : State) : Prop :=
  t.mm.nextRow = (s.mm.nextRow + s.fld 0xC8000 0 13) % 32768 ∧
  t.mm.passes = s.mm.passes + BitVec.ofNat 16 ((s.mm.nextRow + s.fld 0xC8000 0 13) / 32768)

theorem State.scrubbedTo_wentOn {u t : State} (hu : s.elapse dt = u) (h : t.mm.passes = u.mm.passes) : s.WentOn (u.scrubbedTo t) := by
  subst hu
  have hmm := s.elapse_mm dt
  have hf := s.elapse_fld dt 0xC8000 0 13
  refine ⟨?_, ?_⟩
  · show ((s.elapse dt).mm.nextRow + (s.elapse dt).fld 0xC8000 0 13) % 32768 = _
    rw [hmm, hf]
  · show t.mm.passes + BitVec.ofNat 16 (((s.elapse dt).mm.nextRow + (s.elapse dt).fld 0xC8000 0 13) / 32768) = _
    rw [h, hmm, hf]

theorem State.scrubbedTo_rep (u t : State) (r : Rep) : u.scrubbedTo { t with rep := r } = { u.scrubbedTo t with rep := r } := rfl

include hs

theorem answers_scrub_none :
    Answers (.scrub dt []) s (fun t => t = { s.elapse dt with mm := t.mm } ∧ s.WentOn t ∧ t.mm.rows = s.mm.rows) := by
  obtain ⟨u, hu⟩ : ∃ u, s.elapse dt = u := ⟨_, rfl⟩
  refine answers_settles hs (exec_scrub dt [] s) (v := u.scrubbedTo u) (by rw [hu]; rfl) (hu ▸ State.elapse_settled hs dt)
    ⟨by rw [hu]; rfl, State.scrubbedTo_wentOn hu rfl, ?_⟩
  show u.mm.rows = _
  rw [← hu, State.elapse_mm]

/-- SCRUB with one finding, from the state that the finding leaves beside its reports. -/
theorem answers_scrub_one {u w v : State} {k : Account} {P : State → Prop} (hu : s.elapse dt = u)
    (hin : (e.row.val + 32768 - s.mm.nextRow) % 32768 < s.fld 0xC8000 0 13) (hw : u.rowErr e = w) (hv : State.RepOnly v w)
    (h : s.Tells k w.rep) (hP : ∀ r, s.Told k { u.scrubbedTo v with rep := r } → P { u.scrubbedTo v with rep := r }) :
    Answers (.scrub dt [e]) s P := by
  subst hu
  refine answers_tells hs (exec_scrub dt [e] s) (v := (s.elapse dt).scrubbedTo v) (r := w.rep) ?_ h hP
  rw [State.scrubs_one (by rw [State.elapse_mm, State.elapse_fld]; exact hin), hw]
  exact congrArg (s.elapse dt).scrubbedTo hv

theorem answers_scrub_ce (hin : (e.row.val + 32768 - s.mm.nextRow) % 32768 < s.fld 0xC8000 0 13) (hreg : e.region.val ≠ 0)
    (hue : e.ue = false) (hce : 0 < e.ce) (hlow : min 255 ((s.row e.row.val).ce + e.ce) < s.fld 0xC8000 16 8) :
    Answers (.scrub dt [e]) s (fun t =>
      t = { s.elapse dt with mm := t.mm, rep := t.rep } ∧ s.WentOn t ∧
      t.row e.row.val = { s.row e.row.val with ce := min 255 ((s.row e.row.val).ce + e.ce) } ∧
      (∀ k, k ≠ e.row.val → t.row k = s.row k) ∧
      t.mm.lastCe = e.row.val ∧ s.counts t (5696 + e.region.val - 1) e.ce) := by
  obtain ⟨u, hu⟩ : ∃ u, s.elapse dt = u := ⟨_, rfl⟩
  have hrow : ∀ k, u.row k = s.row k := fun k => hu ▸ s.elapse_row dt k
  have hval : u.rowErr e = u.rowSeen e := by
    rw [State.rowErr_eq u e hreg]
    simp only
    rw [if_neg, hue, if_neg Bool.false_ne_true]
    rw [hrow, ← hu, State.elapse_fld]
    exact fun h => Nat.not_le.2 hlow h.2
  have htell := State.Tells.rowSeen (s := s) (hu ▸ State.Tells.elapse hs dt) e
  rw [if_pos hce] at htell
  refine answers_scrub_one hs e hu hin hval (State.rowSeen_repOnly u e) htell fun r told =>
    ⟨by rw [hu]; rfl, State.scrubbedTo_wentOn hu rfl, ?_, fun k hk => ?_, if_pos hce,
      told.counts (5696 + e.region.val - 1, e.ce) (by simp)⟩
  · show (u.rowMarked e).row e.row.val = _
    rw [State.rowMarked_row, hrow]
  · show (u.rowMarked e).row k = _
    rw [State.rowMarked_row_ne u e hk, hrow]

theorem answers_scrub_retires (hin : (e.row.val + 32768 - s.mm.nextRow) % 32768 < s.fld 0xC8000 0 13) (hreg : e.region.val ≠ 0)
    {k : Nat} (hue : e.ue = false) (hce : 0 < e.ce) (hhigh : s.fld 0xC8000 16 8 ≤ min 255 ((s.row e.row.val).ce + e.ce))
    (hcopy : s.rp.copy = none) (hq : s.rp.rowQueue = []) (hk : s.freeSpareRow e.row.val = some k) :
    Answers (.scrub dt [e]) s (fun t =>
      t = { s.elapse dt with
            mm := t.mm, rep := t.rep
            rp := { s.rp with copy := some { row := e.row.val, spare := k, copied := false } } } ∧ s.WentOn t) := by
  obtain ⟨u, hu⟩ : ∃ u, s.elapse dt = u := ⟨_, rfl⟩
  have hrow : ∀ k, u.row k = s.row k := fun k => hu ▸ s.elapse_row dt k
  have hrp : u.rp = s.rp := hu ▸ s.elapse_rp dt
  have hseen := State.rowSeen_repOnly u e
  have htell := State.Tells.rowSeen (s := s) (hu ▸ State.Tells.elapse hs dt) e
  obtain ⟨b, hb⟩ : ∃ b, u.rowSeen e = b := ⟨_, rfl⟩
  have hval : u.rowErr e = b.retireRow e.row.val := by
    rw [State.rowErr_eq u e hreg]
    simp only
    rw [if_pos, hue, if_neg Bool.false_ne_true, hb]
    rw [hrow, ← hu, State.elapse_fld]
    exact ⟨hce, hhigh⟩
  rw [hb] at hseen htell
  have hbrp : b.rp = s.rp := by rw [hseen]; exact hrp
  have hret : b.retireRow e.row.val = { b with rp := { s.rp with copy := some { row := e.row.val, spare := k, copied := false } } } := by
    have hspare : b.freeSpareRow e.row.val = some k := by
      rw [← hk]
      unfold State.freeSpareRow
      rw [hbrp]
    unfold State.retireRow State.startRow
    rw [hspare, hbrp]
    simp only [hcopy, hq]
    rfl
  refine answers_scrub_one hs e hu hin (hval.trans hret) (v := { u.rowMarked e with
    rp := { s.rp with copy := some { row := e.row.val, spare := k, copied := false } } }) ?_ htell fun r _ =>
    ⟨by rw [hu]; rfl, State.scrubbedTo_wentOn hu rfl⟩
  rw [hseen]
  rfl

/-- What an uncorrectable word has left and reported since state s (R432, R435). -/
def State.UeFound (s : State) (e : RowErr) (t : State) : Prop :=
  s.WentOn t ∧ (t.row e.row.val).ue = true ∧ t.mm.lastUeRow = e.row.val ∧ t.mm.lastUeRegion = e.region.val ∧
  s.counts t (5712 + e.region.val - 1) 1 ∧ s.raises t 0x009 ∧ s.logs t 0x0C04 e.row.val e.region.val 0

omit hs in
theorem State.ueFound_of {u v : State} {r : Rep} (hu : s.elapse dt = u) (hv : State.RepOnly { u with mm := v.mm, cr := v.cr } v)
    {x : Tbl Nat} (hmm : v.mm = { ((u.rowMarked e).ueMarked e.row.val e.region.val).mm with emBad := x })
    (told : s.Told { srcs := [0x009], cts := [(5712 + e.region.val - 1, 1), (5728, e.dropped)]
                     slubs := [u.slubReq 0x0C04 e.row.val e.region.val 0] } { u.scrubbedTo v with rep := r }) :
    s.UeFound e { u.scrubbedTo v with rep := r } := by
  have hrow : v.row e.row.val = { (u.rowMarked e).row e.row.val with ue := true } := by
    unfold State.row
    rw [hmm]
    exact Tbl.lookD_put_self _ _ _ _
  have hreq : u.slubReq 0x0C04 e.row.val e.region.val 0 = ({ u.scrubbedTo v with rep := r } : State).slubReq 0x0C04 e.row.val e.region.val 0 := by
    rw [hv]
    rfl
  refine ⟨State.scrubbedTo_wentOn hu (by rw [hmm]; rfl), ?_, ?_, ?_, told.counts (5712 + e.region.val - 1, 1) List.mem_cons_self,
    told.raises _ List.mem_cons_self, told.logs _ _ _ _ (by rw [hreq])⟩
  · show (v.row e.row.val).ue = true
    rw [hrow]
  · show v.mm.lastUeRow = _
    rw [hmm]
    rfl
  · show v.mm.lastUeRegion = _
    rw [hmm]
    rfl

/-- The report of an uncorrectable word, before its effect. -/
theorem State.ueStage {u : State} (hu : s.elapse dt = u) (hreg : e.region.val ≠ 0) (hue : e.ue = true) (hce : e.ce = 0) :
    ∃ b, State.RepOnly ((u.rowMarked e).ueMarked e.row.val e.region.val) b ∧
      s.Tells { srcs := [0x009], cts := [(5712 + e.region.val - 1, 1), (5728, e.dropped)]
                slubs := [u.slubReq 0x0C04 e.row.val e.region.val 0] } b.rep ∧
      u.rowErr e = b.ueEffect e.row.val e.region.val e.item := by
  have hseen := State.rowSeen_repOnly u e
  have htell := State.Tells.rowSeen (s := s) (hu ▸ State.Tells.elapse hs dt) e
  rw [if_neg (by omega)] at htell
  obtain ⟨a, ha⟩ : ∃ a, u.rowSeen e = a := ⟨_, rfl⟩
  rw [ha] at hseen htell
  have hlive : a.regs.live = s.regs.live := by
    rw [hseen, ← hu]
    show (s.elapse dt).regs.live = _
    rw [State.elapse_regs]
  have hreport := htell.ueReport hlive e.row.val e.region.val
  rw [show a.slubReq 0x0C04 e.row.val e.region.val 0 = u.slubReq 0x0C04 e.row.val e.region.val 0 by rw [hseen]; rfl] at hreport
  refine ⟨a.ueReport e.row.val e.region.val, ?_, hreport, ?_⟩
  · refine State.RepOnly.trans ?_ (State.ueReport_repOnly _ _)
    rw [hseen]
    rfl
  · rw [State.rowErr_eq u e hreg]
    simp only
    rw [if_neg (by omega), if_pos hue, ha]

theorem answers_scrub_em (hin : (e.row.val + 32768 - s.mm.nextRow) % 32768 < s.fld 0xC8000 0 13)
    (hue : e.ue = true) (hce : e.ce = 0) (hreg : e.region.val = 7) :
    Answers (.scrub dt [e]) s (fun t => t = { s.elapse dt with mm := t.mm, rep := t.rep } ∧ s.UeFound e t ∧
      Tbl.look t.mm.emBad (e.item % 32768) = some e.row.val) := by
  obtain ⟨u, hu⟩ : ∃ u, s.elapse dt = u := ⟨_, rfl⟩
  obtain ⟨b, hb, htell, hval⟩ := State.ueStage hs e hu (by omega) hue hce
  have heff : b.ueEffect e.row.val e.region.val e.item =
      { b with mm := { b.mm with emBad := Tbl.ins b.mm.emBad (e.item % 32768) e.row.val } } := by
    rw [hreg]
    rfl
  obtain ⟨M, hM⟩ : ∃ M, (u.rowMarked e).ueMarked e.row.val e.region.val = M := ⟨_, rfl⟩
  have hMu : M = { u with mm := M.mm } := by rw [← hM]; rfl
  rw [hM] at hb
  refine answers_scrub_one hs e hu hin (hval.trans heff) (v := { M with mm := { M.mm with emBad := Tbl.ins M.mm.emBad (e.item % 32768) e.row.val } })
    ?_ htell fun r told => ⟨?_, State.ueFound_of e hu ?_ (x := Tbl.ins M.mm.emBad (e.item % 32768) e.row.val) ?_ told, ?_⟩
  · rw [hb]
    rfl
  · rw [hu, hMu]
    rfl
  · rw [hMu]
    rfl
  · rw [← hM]
  · exact Tbl.look_ins_self _ _ _

theorem answers_scrub_cache (hin : (e.row.val + 32768 - s.mm.nextRow) % 32768 < s.fld 0xC8000 0 13)
    (hue : e.ue = true) (hce : e.ce = 0) (hreg : e.region.val = 10) :
    Answers (.scrub dt [e]) s (fun t => t = { s.elapse dt with mm := t.mm, rep := t.rep } ∧ s.UeFound e t) := by
  obtain ⟨u, hu⟩ : ∃ u, s.elapse dt = u := ⟨_, rfl⟩
  obtain ⟨b, hb, htell, hval⟩ := State.ueStage hs e hu (by omega) hue hce
  have heff : b.ueEffect e.row.val e.region.val e.item =
      b.cacheUe (if e.item / 128 % 2 = 0 then .a else .b) (finOf 128 (by decide) e.item) := by
    rw [hreg]
    rfl
  obtain ⟨hrep, htell'⟩ := State.cacheUe_keeps htell (if e.item / 128 % 2 = 0 then .a else .b) (finOf 128 (by decide) e.item)
  obtain ⟨M, hM⟩ : ∃ M, (u.rowMarked e).ueMarked e.row.val e.region.val = M := ⟨_, rfl⟩
  have hMu : M = { u with mm := M.mm } := by rw [← hM]; rfl
  rw [hM] at hb
  refine answers_scrub_one hs e hu hin (hval.trans heff) (v := M) (State.RepOnly.trans hb hrep) htell' fun r told =>
    ⟨?_, State.ueFound_of e hu ?_ (x := M.mm.emBad) ?_ told⟩
  · rw [hu, hMu]
    rfl
  · rw [hMu]
    rfl
  · rw [← hM]

theorem answers_scrub_bobbin (hin : (e.row.val + 32768 - s.mm.nextRow) % 32768 < s.fld 0xC8000 0 13)
    (hue : e.ue = true) (hce : e.ce = 0) {b : Bobbin} (hreg : e.region.val = 1) (hbob : s.bob e.item = some b) (hcls : b.cls = .rx) :
    Answers (.scrub dt [e]) s (fun t => t = { s.elapse dt with mm := t.mm, cr := t.cr, rep := t.rep } ∧ s.UeFound e t ∧
      t.bob e.item = some { b with poison := true }) := by
  obtain ⟨u, hu⟩ : ∃ u, s.elapse dt = u := ⟨_, rfl⟩
  obtain ⟨c, hb, htell, hval⟩ := State.ueStage hs e hu (by omega) hue hce
  obtain ⟨M, hM⟩ : ∃ M, (u.rowMarked e).ueMarked e.row.val e.region.val = M := ⟨_, rfl⟩
  have hMu : M = { u with mm := M.mm } := by rw [← hM]; rfl
  rw [hM] at hb
  have hcbob : c.bob e.item = some b := by
    rw [← hbob, ← s.elapse_bob dt, hu]
    unfold State.bob
    rw [hb, hMu]
  have heff : c.ueEffect e.row.val e.region.val e.item =
      { c with cr := { c.cr with bobs := Tbl.ins c.cr.bobs e.item { b with poison := true } } } := by
    rw [hreg]
    show c.creelUe e.item = _
    unfold State.creelUe
    rw [hcbob]
    simp only [hcls]
  refine answers_scrub_one hs e hu hin (hval.trans heff) (v := { M with cr := { M.cr with bobs := Tbl.ins M.cr.bobs e.item { b with poison := true } } })
    ?_ htell fun r told => ⟨?_, State.ueFound_of e hu ?_ (x := M.mm.emBad) ?_ told, ?_⟩
  · rw [hb]
    rfl
  · rw [hu, hMu]
    rfl
  · rw [hMu]
    rfl
  · rw [← hM]
  · exact Tbl.look_ins_self _ _ _

theorem answers_rowCopyComplete {c : RowCopy} (hcopy : s.rp.copy = some c) :
    Answers (.rowCopyComplete dt) s (fun t =>
      t = { s.elapse dt with rp := { s.rp with copy := some { c with copied := true } } }) := by
  have hc : exec (.rowCopyComplete dt) s = s.at_ dt (fun s =>
    match s.rp.copy with
    | some c => { s with rp := { s.rp with copy := some { c with copied := true } } }
    | none => s) := rfl
  obtain ⟨u, hu⟩ : ∃ u, s.elapse dt = u := ⟨_, rfl⟩
  have hrp : u.rp = s.rp := hu ▸ s.elapse_rp dt
  refine answers_settles hs hc (v := { u with rp := { s.rp with copy := some { c with copied := true } } }) ?_
    (hu ▸ State.elapse_settled hs dt) (by rw [hu])
  rw [hu, hrp, hcopy]

theorem answers_rowCopyComplete_none (hcopy : s.rp.copy = none) :
    Answers (.rowCopyComplete dt) s (fun t => t = s.elapse dt) := by
  have hc : exec (.rowCopyComplete dt) s = s.at_ dt (fun s =>
    match s.rp.copy with
    | some c => { s with rp := { s.rp with copy := some { c with copied := true } } }
    | none => s) := rfl
  refine answers_settles hs hc (v := s.elapse dt) ?_ (State.elapse_settled hs dt) rfl
  rw [State.elapse_rp, hcopy]

end

/-- Settles O53, by the stages of a finding (`State.rowErr_eq`, `State.ueStage`). -/
theorem sliversFlushAndRowsAreScrubbed : Obligations.SliversFlushAndRowsAreScrubbed := by
  unfold Obligations.SliversFlushAndRowsAreScrubbed
  intro s dt hs
  refine ⟨fun n w hw hb => answers_sliverFlush hs n w hw hb, fun n => ?_, ?_,
    fun c hc => answers_rowCopyComplete hs hc, fun hc => answers_rowCopyComplete_none hs hc⟩
  · intro v
    refine ⟨fun hf => ?_, fun hf hn => answers_sliverFlushEffect_rx hs n hf hn, fun hf hn hfl => ?_,
      fun hf hn hfl hr => answers_sliverFlushEffect_none hs n hf hn hfl hr,
      fun x e hf hn hfl hr he => answers_sliverFlushEffect_one hs n hf hn hfl hr he⟩
    · refine answers_settles hs (exec_sliverFlushEffect n s) (v := s.elapse dt) ?_ (State.elapse_settled hs dt) rfl
      exact if_pos (by rw [State.elapse_sliver]; exact hf)
    · refine answers_settles hs (exec_sliverFlushEffect n s) (v := s.elapse dt) ?_ (State.elapse_settled hs dt) rfl
      unfold State.flushEffect
      simp only
      rw [State.elapse_sliver, if_neg (by rw [hf]; decide), if_neg (by omega), if_neg (by rw [Option.isNone_iff_eq_none]; exact fun h => by rw [h] at hfl; cases hfl)]
  · intro n a mm
    refine ⟨?_, fun e hin hreg => ?_⟩
    · exact Answers.mono (answers_scrub_none hs) fun t ⟨h1, h2, h3⟩ => ⟨h1, h2, h3⟩
    · intro c
      refine ⟨fun hue hce hlow => ?_, fun k hue hce hhigh hcopy hq hk => ?_, fun hue hce => ?_⟩
      · exact answers_scrub_ce hs e hin hreg hue hce hlow
      · exact answers_scrub_retires hs e hin hreg hue hce hhigh hcopy hq hk
      · intro found
        exact ⟨fun hr => answers_scrub_em hs e hin hue hce hr, fun hr => answers_scrub_cache hs e hin hue hce hr,
          fun b hr hbob hcls => answers_scrub_bobbin hs e hin hue hce hr hbob hcls⟩

end Sys2Proof.Machine
end

section
/-!
PROOFS. A STREAM_DATA from the value line behind a skein table that is not in canonical form: the entry reserved for its completion
counts the skein's reads twice, and the port has no room for the read of the line. (`Obligations.StreamDataIsTakenOrHeld` asks for no
canonical tables.)
-/

namespace Sys2Proof.Machine

/-- Is something that leaves the device the read of a value line? -/
def Output.isValueRead : Output → Bool
  | .valueRead _ _ _ => true
  | _ => false

namespace SkeinTwice

/-- A STREAM_DATA without data, for stream 0. -/
def desc : Desc := { port := .a, distaff := 0, index := 0, cmpl := true, tag := 0, resv := false }
def body : DataBody := { stream := 0, len := 0, indirect := false, payAddr := 0, data := [] }

/-- A LIVE sporadic stream that takes its payloads from the value line; its last release was accepted at 0. -/
def stream : Stream :=
  { cfg := { stream := 0, ch := 0, format := 0, kind := 1, source := 2, auth := false, vport := .a, keySlot := 0, id := 0,
             ide := false, len := 0, vlead := 1, period := 0, offIa := 10, deadline := 10, jitter := 0, stale := 0, vaddr := 64 }
    key := 0, cNs := 0, rNs := 0, reserve := 1, q := 0, liveTurn := 0, st := .live, toLive := 0, lastAcc := some 0 }

/-- The skeins of port A, skein 1 listed before skein 0; 32 reads of skein 0's index are outstanding. -/
def skeins : Tbl Ring := [(1, { en := true }), (0, { en := true, reading := List.replicate 32 0 })]

/-- RUN, port A owner and enabled. -/
def state : State :=
  { State.reset with
    dev := { st := .run }
    ow := { owner := some .a }
    rep := { ports := [(0, { portEn := true, busMaster := true, sk := skeins })] }
    dr := { State.reset.dr with streams := [(0, stream)] } }

theorem state_admits : state.admits desc := by decide +kernel

theorem stream_listed : state.stream body.stream.val = some stream := by decide +kernel

theorem has_room : (state.port stream.cfg.vport).portEn = true ∧ (state.port stream.cfg.vport).canWrite = true ∧
    state.readRoom stream.cfg.vport = true := by decide +kernel

theorem asks_for_the_line : dataBad stream body = false ∧ state.acts = true ∧ fromValueLine stream body = true := by decide +kernel

/-- No read of a value line is issued: with skein 0 listed twice, 64 reads count as outstanding. -/
theorem no_valueRead :
    (match exec (.streamData 0 desc body) state with | .next t => t.rep.out.any Output.isValueRead | _ => true) = false := by
  decide +kernel

end SkeinTwice

/-- Refutes O29: in a port whose skein table is out of order, the reservation for the completion lists the distaff's skein a second time;
its reads count twice, and the read of the value line waits for room that the port had before. -/
theorem not_streamDataIsTakenOrHeld : ¬ Obligations.StreamDataIsTakenOrHeld := by
  intro h
  obtain ⟨hgood, hacts, hline⟩ := SkeinTwice.asks_for_the_line
  obtain ⟨hen, hwrite, hroom⟩ := SkeinTwice.has_room
  obtain ⟨-, -, h, -, -⟩ := h SkeinTwice.state 0 SkeinTwice.desc SkeinTwice.body SkeinTwice.stream SkeinTwice.state_admits
    SkeinTwice.stream_listed
  obtain ⟨t, ht, -, ⟨l, hl, hmem⟩, -⟩ := h hgood hacts rfl hline hen hwrite hroom 0 rfl (by decide)
  have hno := SkeinTwice.no_valueRead
  rw [ht] at hno
  have hyes : t.rep.out.any Output.isValueRead = true :=
    List.any_eq_true.2 ⟨_, by rw [hl]; exact List.mem_append_right _ hmem, rfl⟩
  exact Bool.false_ne_true (hno.symm.trans hyes)

end Sys2Proof.Machine
end

section
/-!
PROOFS. PLY_CMD at acceptance (R467, R470) and a synchronisation that does not end (R465).
-/

namespace Sys2Proof.Machine

/-! ## What a member knows of its ply -/

/-- From a to b nothing changes that a member knows of its ply: its registers, its device state, and the ply block. -/
def State.SamePly (a b : State) : Prop := b.regs = a.regs ∧ b.dev = a.dev ∧ b.pl = a.pl ∧ b.tm = a.tm

theorem State.samePly_fetchedAt (s : State) (dt : Nat) (d : Desc) : State.SamePly s (s.fetchedAt dt d) :=
  ⟨s.elapse_regs dt, s.elapse_dev dt, s.elapse_pl dt, s.elapse_tm dt⟩

theorem State.samePly_elapse (s : State) (dt : Nat) : State.SamePly s (s.elapse dt) :=
  ⟨s.elapse_regs dt, s.elapse_dev dt, s.elapse_pl dt, s.elapse_tm dt⟩

section
variable {a b : State} (h : State.SamePly a b)
include h

theorem State.SamePly.plyMember : b.plyMember = a.plyMember := by
  obtain ⟨hr, hd, -, -⟩ := h
  unfold State.plyMember State.bit State.live
  rw [hr, hd]

theorem State.SamePly.mem (j : Nat) : b.mem j = a.mem j := by unfold State.mem; rw [h.2.2.1]

theorem State.SamePly.own : b.own = a.own := congrArg DevSt.plyId h.2.1

theorem State.SamePly.view : b.view = a.view := by unfold State.view; simp only [h.own, h.mem]

theorem State.SamePly.roleOf (j : Nat) : b.roleOf j = a.roleOf j := by unfold State.roleOf; rw [h.own, h.mem, h.2.2.1]

theorem State.SamePly.isDemoted (j : Nat) : b.isDemoted j = a.isDemoted j := by unfold State.isDemoted; rw [h.own, h.mem, h.2.2.1]

theorem State.SamePly.actor : b.actor = a.actor := by unfold State.actor; simp only [h.view, h.roleOf]

theorem State.SamePly.plyResult : b.plyResult = a.plyResult := by
  have hdem : b.isDemoted = a.isDemoted := funext h.isDemoted
  unfold State.plyResult
  simp only [h.view, hdem, h.roleOf, h.actor, h.2.2.1]

theorem State.SamePly.plyCmdBad (act m : Nat) : b.plyCmdBad act m = a.plyCmdBad act m := by
  unfold State.plyCmdBad
  rw [h.roleOf, h.view, h.isDemoted]

end

/-! ## PLY_CMD at acceptance -/

/-- May FORCE wait for the next boundary (Table 14.4)? -/
abbrev State.mayForce (s : State) (m : Nat) : Prop :=
  m = s.own ∧ s.dev.st = .run ∧ (s.pl.role = .standby ∨ s.pl.role = .joining) ∧ s.actor = none ∧ s.pl.force = none

/-- Is a SWITCH, DEMOTE or REINSTATE malformed on the acting member (Table 14.4)? -/
abbrev State.badPly (s : State) (act m : Nat) : Prop :=
  2 < m ∨ (act = 1 ∧ (s.roleOf m ≠ 2 ∨ s.view.contains m = false ∨ s.isDemoted m = true)) ∨ (act = 3 ∧ s.isDemoted m = false)

theorem State.plyCmdBad_iff (s : State) (act m : Nat) : s.plyCmdBad act m = true ↔ s.badPly act m := by
  simp only [State.plyCmdBad, State.badPly, Bool.or_eq_true, Bool.and_eq_true, decide_eq_true_eq, Bool.not_eq_true', or_assoc]

theorem State.mayForce_iff (s : State) (m : Nat) : (decide (m = s.own) && decide (s.dev.st = .run) &&
    decide (s.pl.role = .standby ∨ s.pl.role = .joining) && s.actor.isNone && s.pl.force.isNone) = true ↔ s.mayForce m := by
  simp only [State.mayForce, Bool.and_eq_true, decide_eq_true_eq, Option.isNone_iff_eq_none, and_assoc]

/-- The descriptor's own rules (R467, R470). -/
def State.plyRule (d : Desc) (act m : Nat) (s : State) : State :=
  if s.plyMember = false ∨ act = 0 ∨ act > 4 then s.plyDone (some d) 2
  else if act = 4 then
    if decide (m = s.own) && decide (s.dev.st = .run) && decide (s.pl.role = .standby ∨ s.pl.role = .joining) &&
        s.actor.isNone && s.pl.force.isNone then
      { s with pl := { s.pl with force := some d } }
    else s.plyDone (some d) 2
  else if s.pl.role ≠ .acting then s.plyDone (some d) 3
  else if s.plyCmdBad act m then s.plyDone (some d) 2
  else s.plyWide d 10 (.cmd act m) (fun s => s)

/-- A command is the PLY_CMD of an action. -/
abbrev IsPlyCmd (c : Instr) (dt : Nat) (d : Desc) (m : Fin 4) (act : Nat) : Prop :=
  (c = .plySwitch dt d m ∧ act = 1) ∨ (c = .plyDemote dt d m ∧ act = 2) ∨ (c = .plyReinstate dt d m ∧ act = 3) ∨
    (c = .plyForce dt d m ∧ act = 4)

theorem actOf_isPlyCmd {c : Instr} {dt : Nat} {d : Desc} {m : Fin 4} {act : Nat} (h : IsPlyCmd c dt d m act) :
    act ≠ 0 ∧ act ≤ 4 := by
  obtain ⟨-, rfl⟩ | ⟨-, rfl⟩ | ⟨-, rfl⟩ | ⟨-, rfl⟩ := h <;> decide

theorem exec_plyCmd {c : Instr} {dt : Nat} {d : Desc} {m : Fin 4} {act : Nat} (h : IsPlyCmd c dt d m act) (s : State) :
    exec c s = s.descRow dt d (.plyCmd act m) (fun u => u.acceptFor d 10 0 (State.plyRule d act m.val)) := by
  obtain ⟨rfl, rfl⟩ | ⟨rfl, rfl⟩ | ⟨rfl, rfl⟩ | ⟨rfl, rfl⟩ := h <;> rfl

section
variable {s : State} {dt : Nat} {d : Desc} {m : Fin 4} {c : Instr} {act : Nat} (hd : s.admits d) (hc : IsPlyCmd c dt d m act)
include hd hc

/-- A PLY_CMD that completes at once. -/
theorem answers_plyCmd_done {st : Nat} (hst : st ≠ 0)
    (h : State.plyRule d act m.val (s.fetchedAt dt d) = (s.fetchedAt dt d).plyDone (some d) st) (hcan : s.canComplete d) :
    Answers c s (fun t =>
      t = { s.elapse dt with rep := t.rep } ∧
      s.completes t d { complOf d 10 st with turn := s.tm.turn, plyResult := s.plyResult }) := by
  have hply := s.samePly_fetchedAt dt d
  have hdone : (s.fetchedAt dt d).plyDone (some d) st =
      (s.fetchedAt dt d).complete d { complOf d 10 st with turn := s.tm.turn, plyResult := s.plyResult } := by
    unfold State.plyDone
    simp only
    rw [hply.plyResult, hply.2.2.2]
  exact answers_desc hd (exec_plyCmd hc s) (fun _ => rfl) (by decide) (h.trans hdone) (State.fetchedAt_repOnly.complete d _)
    (State.Tells.completeClaimed (State.Tells.fetchedAt hd.1) (State.fetchedAt_claims hd.1 hcan) (.inr hst))
    fun r told => ⟨rfl, told.completes _ List.mem_cons_self⟩

theorem answers_plyCmd_single (h : s.plyMember = false) (hcan : s.canComplete d) :
    Answers c s (fun t =>
      t = { s.elapse dt with rep := t.rep } ∧
      s.completes t d { complOf d 10 2 with turn := s.tm.turn, plyResult := s.plyResult }) :=
  answers_plyCmd_done hd hc (by decide) (if_pos (.inl ((s.samePly_fetchedAt dt d).plyMember.trans h))) hcan

section
variable (hp : s.plyMember = true)
include hp

omit hd in
/-- On a ply member the action decides. -/
theorem plyRule_member : State.plyRule d act m.val (s.fetchedAt dt d) =
    if act = 4 then
      if decide (m.val = s.own) && decide (s.dev.st = .run) && decide (s.pl.role = .standby ∨ s.pl.role = .joining) &&
          s.actor.isNone && s.pl.force.isNone then
        { s.fetchedAt dt d with pl := { s.pl with force := some d } }
      else (s.fetchedAt dt d).plyDone (some d) 2
    else if s.pl.role ≠ .acting then (s.fetchedAt dt d).plyDone (some d) 3
    else if s.plyCmdBad act m.val then (s.fetchedAt dt d).plyDone (some d) 2
    else (s.fetchedAt dt d).plyWide d 10 (.cmd act m.val) (fun s => s) := by
  have hply := s.samePly_fetchedAt dt d
  obtain ⟨h0, h4⟩ := actOf_isPlyCmd hc
  have hmay : ¬((s.fetchedAt dt d).plyMember = false ∨ act = 0 ∨ act > 4) := by
    rw [hply.plyMember, hp]
    rintro (h | h | h)
    · exact Bool.false_ne_true h.symm
    · exact h0 h
    · exact absurd h4 (Nat.not_le.2 h)
  unfold State.plyRule
  rw [if_neg hmay, hply.own, hply.actor, hply.plyCmdBad, hply.2.1, hply.2.2.1]
  simp only [← hply.2.1]

theorem answers_plyCmd_notActing (ha : act ≠ 4) (h : s.pl.role ≠ .acting) (hcan : s.canComplete d) :
    Answers c s (fun t =>
      t = { s.elapse dt with rep := t.rep } ∧
      s.completes t d { complOf d 10 3 with turn := s.tm.turn, plyResult := s.plyResult }) :=
  answers_plyCmd_done hd hc (by decide) ((plyRule_member hc hp).trans ((if_neg ha).trans (if_pos h))) hcan

theorem answers_plyCmd_bad (ha : act ≠ 4) (h : s.pl.role = .acting) (hb : s.badPly act m.val) (hcan : s.canComplete d) :
    Answers c s (fun t =>
      t = { s.elapse dt with rep := t.rep } ∧
      s.completes t d { complOf d 10 2 with turn := s.tm.turn, plyResult := s.plyResult }) :=
  answers_plyCmd_done hd hc (by decide) ((plyRule_member hc hp).trans ((if_neg ha).trans ((if_neg (not_not.2 h)).trans
    (if_pos ((s.plyCmdBad_iff _ _).2 hb))))) hcan

theorem answers_plyCmd_kept (ha : act ≠ 4) (h : s.pl.role = .acting) (hb : ¬s.badPly act m.val) :
    Answers c s (fun t =>
      t = { s.elapse dt with rep := t.rep, pl := { s.pl with descs := t.pl.descs } } ∧ t.rep.out = s.rep.out ∧
      t.pl.descs = s.pl.descs ++ [{ turn := s.tm.turn, desc := some d, act := .cmd act m.val, sent := false }]) := by
  have hply := s.samePly_fetchedAt dt d
  have hrule : State.plyRule d act m.val (s.fetchedAt dt d) = { s.fetchedAt dt d with
      pl := { s.pl with
        descs := s.pl.descs ++ [{ turn := s.tm.turn, desc := some d, act := .cmd act m.val, sent := false }] } } := by
    rw [plyRule_member hc hp, if_neg ha, if_neg (not_not.2 h), if_neg (fun hx => hb ((s.plyCmdBad_iff _ _).1 hx))]
    unfold State.plyWide
    rw [hply.plyMember, hply.2.2.1, if_pos hp, if_pos h, ← hply.2.2.2]
  refine answers_desc_settles hd (exec_plyCmd hc s) (fun _ => rfl) (by decide) hrule (State.fetchedAt_settled hd.1) ⟨rfl, ?_, rfl⟩
  exact (congrArg Rep.out (State.elapse_rep hd.1.2.2 dt) : (s.elapse dt).rep.out = _)

theorem answers_plyForce_kept (ha : act = 4) (h : s.mayForce m.val) :
    Answers c s (fun t =>
      t = { s.elapse dt with rep := t.rep, pl := { s.pl with force := some d } } ∧ t.rep.out = s.rep.out) := by
  refine answers_desc_settles hd (exec_plyCmd hc s) (fun _ => rfl) (by decide)
    ((plyRule_member hc hp).trans ((if_pos ha).trans (if_pos ((s.mayForce_iff m.val).2 h)))) (State.fetchedAt_settled hd.1) ⟨rfl, ?_⟩
  exact (congrArg Rep.out (State.elapse_rep hd.1.2.2 dt) : (s.elapse dt).rep.out = _)

theorem answers_plyForce_refused (ha : act = 4) (h : ¬s.mayForce m.val) (hcan : s.canComplete d) :
    Answers c s (fun t =>
      t = { s.elapse dt with rep := t.rep } ∧
      s.completes t d { complOf d 10 2 with turn := s.tm.turn, plyResult := s.plyResult }) :=
  answers_plyCmd_done hd hc (by decide) ((plyRule_member hc hp).trans ((if_pos ha).trans
    (if_neg fun hx => h ((s.mayForce_iff m.val).1 hx)))) hcan

end

end

/-! ## JOIN_SYNC_TIMEOUT -/

/-- A synchronisation whose 64 turns have passed (R465). -/
def State.joinTimeout (s : State) : State :=
  if decide (s.pl.role = .joining) && !s.pl.installed.isEmpty && decide (s.pl.syncTurns ≥ 64) then
    let n := s.pl.syncFails + 1
    let s1 := { s with pl := { s.pl with syncFails := n } }
    if n ≥ 3 then s1.demote s1.own else s1.startSync
  else s

theorem exec_joinSyncTimeout (dt : Nat) (s : State) : exec (.joinSyncTimeout dt) s = s.at_ dt State.joinTimeout := rfl

/-- A role other than ACTING is taken by a member that does not act: the time source and the trip lines follow it. -/
theorem State.setRole_eq (s : State) {r : PlyRole} (h : s.pl.role ≠ .acting) (hr : r ≠ .acting) :
    s.setRole r = ({ s with pl := { s.pl with role := r } }).refreshSource.refreshTrip := by
  unfold State.setRole
  simp only
  rw [if_neg (fun hx => hr hx.1), if_neg (fun hx => h hx.1)]

/-- The source in use follows: the time block changes, and DEV_LIMIT may be reported. -/
theorem State.Tells.refreshSource {s b : State} {k : Account} (h : s.Tells k b.rep) :
    ∃ tm r, b.refreshSource = { b with tm := tm, rep := r } ∧ s.Tells k r := by
  have heq : ∃ tm, b.refreshSource = State.refreshLimit { b with tm := tm } := ⟨_, rfl⟩
  obtain ⟨tm, heq⟩ := heq
  rw [heq]
  exact ⟨_, _, State.refreshLimit_eq _, State.Tells.refreshLimit (b := { b with tm := tm }) h⟩

section
variable {s : State} {dt : Nat} (hs : s.ready)
include hs

theorem answers_joinSync_idle (h : s.pl.role ≠ .joining ∨ s.pl.installed = [] ∨ s.pl.syncTurns < 64) :
    Answers (.joinSyncTimeout dt) s (fun t => t = s.elapse dt) := by
  refine answers_becomes hs (exec_joinSyncTimeout dt s) (if_neg ?_) rfl rfl
  rw [State.elapse_pl]
  rcases h with h | h | h
  · simp [h]
  · simp [h]
  · simp [Nat.not_le.2 h]

section
variable (hr : s.pl.role = .joining) (hi : s.pl.installed ≠ []) (ht : 64 ≤ s.pl.syncTurns)
include hr hi ht

omit hs in
theorem joinTimeout_elapse : (s.elapse dt).joinTimeout =
    let s1 : State := { s.elapse dt with pl := { s.pl with syncFails := s.pl.syncFails + 1 } }
    if s.pl.syncFails + 1 ≥ 3 then s1.demote s1.own else s1.startSync := by
  unfold State.joinTimeout
  rw [State.elapse_pl, if_pos (by simp [hr, hi, ht])]

theorem answers_joinSync_again (hf : s.pl.syncFails < 2) :
    Answers (.joinSyncTimeout dt) s (fun t =>
      t = { s.elapse dt with
            rep := t.rep
            pl := { s.pl with syncFails := s.pl.syncFails + 1, install := [], installed := [], syncTurns := 0, agreeRun := 0 } } ∧
      s.counts t 5895 1) := by
  let v : State := { s.elapse dt with
    pl := { s.pl with syncFails := s.pl.syncFails + 1, install := [], installed := [], syncTurns := 0, agreeRun := 0 } }
  exact answers_reports hs (exec_joinSyncTimeout dt s)
    ((joinTimeout_elapse hr hi ht).trans (if_neg (by omega))) ((State.RepOnly.refl v).count 5895)
    ((State.Tells.elapse hs dt : s.Tells {} v.rep).count 5895) fun r told => ⟨rfl, told.counts (5895, 1) (by simp)⟩

theorem answers_joinSync_demoted (hf : 2 ≤ s.pl.syncFails) :
    Answers (.joinSyncTimeout dt) s (fun t =>
      t = { s.elapse dt with pl := t.pl, tm := t.tm, rep := t.rep } ∧ t.pl.role = .demoted ∧ s.raises t 0x303 ∧
      s.counts t 5894 1) := by
  let u : State := { s.elapse dt with pl := { s.pl with syncFails := s.pl.syncFails + 1, role := .demoted } }
  have hdem : (s.elapse dt).joinTimeout = ((u.refreshSource.refreshTrip).count 5894).raise 0x303 := by
    let s1 : State := { s.elapse dt with pl := { s.pl with syncFails := s.pl.syncFails + 1 } }
    have hrole : s1.pl.role = .joining := hr
    have hd : s1.demote s1.own = ((s1.setRole .demoted).count 5894).raise 0x303 := by
      unfold State.demote
      rw [if_pos rfl, hrole, if_neg (by decide), if_neg (by decide)]
    rw [joinTimeout_elapse hr hi ht]
    simp only
    rw [if_pos (by omega)]
    refine hd.trans ?_
    rw [State.setRole_eq _ (by rw [hrole]; decide) (by decide)]
  obtain ⟨tm, r, hsrc, htells⟩ := State.Tells.refreshSource (b := u) (State.Tells.elapse hs dt)
  obtain ⟨x, hx⟩ : ∃ x, u.refreshSource.refreshTrip = { u with tm := tm, rep := r, pl := { u.pl with tripOut := x } } :=
    ⟨_, congrArg State.refreshTrip hsrc⟩
  rw [hx] at hdem
  exact answers_reports hs (exec_joinSyncTimeout dt s) hdem (((State.RepOnly.refl _).count 5894).raise 0x303)
    ((htells.count 5894).raise 0x303 (congrArg RegSt.live (s.elapse_regs dt))) fun r' told =>
      ⟨rfl, rfl, told.raises 0x303 (by simp), told.counts (5894, 1) (by simp)⟩

end

end

/-- Settles O50, action by action, on a device that is no member, one that does not act, and the acting one; then a synchronisation by the
number of its failures. -/
theorem plyCommandsAndJoining : Obligations.PlyCommandsAndJoining := by
  unfold Obligations.PlyCommandsAndJoining
  refine ⟨fun s dt d m c act hd hc => ⟨?_, ?_, ?_, ?_, ?_, ?_⟩, fun s dt hs => ⟨fun hr hi ht => ⟨?_, ?_⟩, answers_joinSync_idle hs⟩⟩
  · exact fun h hcan => answers_plyCmd_single hd hc h hcan
  · exact fun hp ha h hcan => answers_plyCmd_notActing hd hc hp ha h hcan
  · exact fun hp ha h hb hcan => answers_plyCmd_bad hd hc hp ha h hb hcan
  · exact fun hp ha h hb => answers_plyCmd_kept hd hc hp ha h hb
  · exact fun hp ha h => answers_plyForce_kept hd hc hp ha h
  · exact fun hp ha h hcan => answers_plyForce_refused hd hc hp ha h hcan
  · exact fun hf => answers_joinSync_again hs hr hi ht hf
  · exact fun hf => answers_joinSync_demoted hs hr hi ht hf

end Sys2Proof.Machine
end

section
/-!
PROOFS. The checks of a descriptor at acceptance (R334, R356, R513), NOP and FENCE (R335, R342), with the read of a value line that may
start when a STREAM_DATA is fetched (R338).
-/

namespace Sys2Proof.Machine

/-! ## The value line read of a STREAM_DATA -/

/-- From a to b no port changes but in the value line reads that wait on it. -/
def Rep.WaitsMore (a b : Rep) : Prop := ∀ p, ∃ w, b.port p = { a.port p with valueWait := w }

theorem Rep.Claims.waitsMore {s : State} {d : Desc} {a b : Rep} (h : Rep.Claims s d a) (hk : Rep.WaitsMore a b) : Rep.Claims s d b := by
  obtain ⟨w, hp⟩ := hk d.port
  obtain ⟨hw, hc, hr, hv, hroom⟩ := h
  exact ⟨by rw [hp]; exact hw, by rw [hp]; exact hc, by rw [hp]; exact hr, by rw [hp]; exact hv, hroom⟩

theorem Rep.waitsMore_setPort (r : Rep) (p : Port) (w : List (Nat × Nat)) :
    Rep.WaitsMore r (r.setPort p { r.port p with valueWait := w }) := fun q => by
  by_cases h : q = p
  · subst h
    exact ⟨_, Rep.port_setPort_self _ _ _⟩
  · exact ⟨_, Rep.port_setPort_ne _ _ h⟩

theorem State.Tells.setValueWait {s : State} {k : Account} {r : Rep} (h : s.Tells k r) (p : Port) (w : List (Nat × Nat)) :
    s.Tells k (r.setPort p { r.port p with valueWait := w }) :=
  h.mono (Rep.grows_setPort fun _ hi => hi) rfl rfl rfl rfl

/-- From a to b only the streams and the reporting plane change, and of a port what waits to be read. -/
structure State.ReadsLine (a b : State) : Prop where
  eq : b = { a with dr := { a.dr with streams := b.dr.streams }, rep := b.rep }
  waits : Rep.WaitsMore a.rep b.rep
  tells : ∀ {s : State} {k : Account}, s.Tells k a.rep → s.Tells k b.rep

theorem State.ReadsLine.refl (a : State) : State.ReadsLine a a := ⟨rfl, fun _ => ⟨_, rfl⟩, fun h => h⟩

theorem State.ReadsLine.trans {a b c : State} (h : State.ReadsLine a b) (g : State.ReadsLine b c) : State.ReadsLine a c :=
  ⟨by rw [g.eq, h.eq],
    fun p => by
      obtain ⟨w, hp⟩ := h.waits p
      obtain ⟨x, gp⟩ := g.waits p
      exact ⟨x, by rw [gp, hp]⟩,
    fun t => g.tells (h.tells t)⟩

theorem State.ReadsLine.setStream (a : State) (n : Nat) (x : Stream) : State.ReadsLine a (a.setStream n x) :=
  ⟨rfl, fun _ => ⟨_, rfl⟩, fun h => h⟩

theorem State.ReadsLine.modStream (a : State) (n : Nat) (f : Stream → Stream) : State.ReadsLine a (a.modStream n f) := by
  unfold State.modStream
  split
  · exact .setStream _ _ _
  · exact .refl a

theorem State.readsLine_startValue (u : State) (n : Nat) (x : Stream) : State.ReadsLine u (u.startValue n x).1 := by
  unfold State.startValue
  simp only
  split
  · split
    · let v := u.setStream n { x with vSeq := x.vSeq + 1, vFlight := x.vFlight ++ [(x.vSeq, u.clock)] }
      exact ⟨rfl, fun _ => ⟨_, rfl⟩, fun h => State.Tells.fires (r := v.rep) h (v.emit_grows _) (v.emit_same _) (v.emit_fires _)⟩
    · exact ⟨rfl, Rep.waitsMore_setPort _ _ _, fun h => h.setValueWait _ _⟩
  · exact .refl u

theorem State.readsLine_prefetch (u : State) (d : Desc) (b : DescBody) : State.ReadsLine u (u.prefetch d b) := by
  unfold State.prefetch
  split
  · split
    · exact .refl u
    · split
      · exact (State.readsLine_startValue u _ _).trans (.modStream _ _ _)
      · exact .refl u
  · exact .refl u

/-! ## Rows -/

/-- A body that is not a STREAM_DATA takes nothing from a value line. -/
abbrev DescBody.plain (b : DescBody) : Prop := ∀ x, b ≠ .data x

theorem State.prefetch_plain {b : DescBody} (h : b.plain) (u : State) (d : Desc) : u.prefetch d b = u := by
  cases b with
  | data x => exact absurd rfl (h x)
  | _ => rfl

/-- What the read of its line leaves behind is taken out of the stream before a STREAM_DATA is judged. -/
def State.takeLine (s : State) (d : Desc) : DescBody → State
  | .data b => s.modStream b.stream.val (fun y => { y with
      vPre := y.vPre.filter (fun e => decide (e.1 ≠ (d.port, d.distaff, d.index))) })
  | _ => s

theorem State.readsLine_takeLine (u : State) (d : Desc) (b : DescBody) : State.ReadsLine u (u.takeLine d b) := by
  cases b with
  | data x => exact .modStream _ _ _
  | _ => exact .refl u

theorem State.takeLine_plain {b : DescBody} (h : b.plain) (u : State) (d : Desc) : u.takeLine d b = u := by
  cases b with
  | data x => exact absurd rfl (h x)
  | _ => rfl

/-- Every row that names a descriptor offers it for acceptance by its body. -/
theorem exec_descriptor {c : Instr} {dt : Nat} {d : Desc} {b : DescBody} (h : c.descriptor = some (dt, d, b)) (s : State) :
    exec c s = s.descRow dt d b (fun u => u.acceptAny d b) := by
  unfold Instr.descriptor at h
  split at h <;> cases h <;> rfl

/-- The opcodes of the rows are those of Table 10.7. -/
theorem opcode_of_descriptor {c : Instr} {dt : Nat} {d : Desc} {b : DescBody} (h : c.descriptor = some (dt, d, b)) : b.opcode < 14 := by
  unfold Instr.descriptor at h
  split at h <;> cases h <;> simp [DescBody.opcode]

/-- Acceptance begins with the checks of R334, R356 and R513. -/
theorem State.acceptAny_eq (d : Desc) (b : DescBody) (u : State) :
    ∃ f : State → State, u.acceptAny d b = (u.takeLine d b).acceptFor d b.opcode b.subject f := by
  cases b <;>
    simp only [State.acceptAny, State.acceptNop, State.acceptSend, State.acceptOpen, State.acceptClose, State.acceptData,
      State.acceptForeign, State.acceptLoopParam, State.acceptLoopMode, State.acceptFeed, State.acceptCapture, State.acceptPly,
      State.acceptFence, State.acceptKeyLoad, State.acceptChCmd, State.accept] <;>
    exact ⟨_, rfl⟩

/-- A completion that asks for no entry gives its reservation back, and reports nothing. -/
theorem State.complete_silent (u : State) {d : Desc} {c : Compl} (hcm : d.cmpl = false) (hst : c.status = 0) :
    (u.complete d c).rep.out = u.rep.out ∧ (u.settled → (u.complete d c).settled) := by
  unfold State.complete
  simp only
  rw [hcm, hst, if_neg (by decide)]
  exact ⟨rfl, fun h => h⟩

/-! ## What the checks refuse -/

section
variable {s : State} {dt : Nat} {d : Desc} {b : DescBody}

/-- The state in which a row offers its descriptor. -/
def State.offeredAt (s : State) (dt : Nat) (d : Desc) (b : DescBody) : State := (s.fetchedAt dt d).prefetch d b

theorem State.readsLine_offeredAt : State.ReadsLine (s.fetchedAt dt d) (s.offeredAt dt d b) := State.readsLine_prefetch _ _ _

/-- What a line read leaves: the rest of the state is that of the fetch. -/
theorem State.ReadsLine.fetched_eq {w : State} (h : State.ReadsLine (s.fetchedAt dt d) w) :
    w = { s.elapse dt with dr := { s.dr with streams := w.dr.streams }, rep := w.rep } := by
  conv_lhs => rw [h.eq]
  rw [show (s.fetchedAt dt d).dr = s.dr from s.elapse_dr dt]
  rfl

theorem State.ReadsLine.fetched_ownerStart {w : State} (h : State.ReadsLine (s.fetchedAt dt d) w) (hs : s.ready) :
    w.ownerStart = s.ow.owner := by
  rw [h.eq]
  show (s.elapse dt).ow.start.getD (s.elapse dt).ow.owner = _
  rw [State.elapse_ow hs.2.2, hs.2.2.1]
  rfl

theorem State.ReadsLine.fetched_dev {w : State} (h : State.ReadsLine (s.fetchedAt dt d) w) : w.dev = s.dev := by
  rw [h.eq]
  exact s.elapse_dev dt

theorem State.ReadsLine.fetched_fenced {w : State} (h : State.ReadsLine (s.fetchedAt dt d) w) :
    w.fenced d.port d.distaff = s.fenced d.port d.distaff := by
  rw [h.eq]
  exact State.fetchedAt_fenced

/-- A refused descriptor completes with the status and what its body names, and nothing else is done. -/
abbrev State.refusedOnly (s : State) (dt : Nat) (d : Desc) (b : DescBody) (st : Nat) (t : State) : Prop :=
  t = { s.elapse dt with rep := t.rep, dr := { s.dr with streams := t.dr.streams } } ∧ (b.plain → t.dr = s.dr) ∧
  s.completes t d { complOf d b.opcode st with stream := b.subject }

/-- A row whose descriptor is refused in the state w. -/
theorem answers_refused {c : Instr} {w : State} {st : Nat} (hs : s.ready) (hcan : s.canComplete d)
    (hc : exec c s = s.descRow dt d b (fun u => u.acceptAny d b)) (hf : s.fenced d.port d.distaff = false)
    (hw : State.ReadsLine (s.fetchedAt dt d) w) (hplain : b.plain → w = s.fetchedAt dt d) (hst : st ≠ 0 ∨ d.cmpl = true)
    (hg : (s.offeredAt dt d b).acceptAny d b = w.refuse d b.opcode b.subject st) : Answers c s (s.refusedOnly dt d b st) := by
  have hoffer : (s.offeredAt dt d b).offerDesc d b (fun u => u.acceptAny d b) =
      w.complete d { complOf d b.opcode st with stream := b.subject } := by
    unfold State.offerDesc
    rw [State.readsLine_offeredAt.fetched_fenced, hf, if_neg (by decide)]
    exact hg
  refine answers_reports hs (hc.trans rfl) hoffer ((State.RepOnly.refl w).complete d _)
    ((hw.tells (State.Tells.fetchedAt hs)).completeClaimed ((State.fetchedAt_claims hs hcan).waitsMore hw.waits) hst.symm)
    fun r told => ⟨?_, ?_, told.completes _ List.mem_cons_self⟩
  · show { w with rep := r } = { s.elapse dt with rep := r, dr := { s.dr with streams := w.dr.streams } }
    conv_lhs => rw [hw.fetched_eq]
  · intro hp
    show w.dr = s.dr
    rw [hplain hp]
    exact s.elapse_dr dt

/-- The checks refuse with a status. -/
theorem answers_refused_by {c : Instr} {st : Nat} (hs : s.ready) (hcan : s.canComplete d) (hc : c.descriptor = some (dt, d, b))
    (hf : s.fenced d.port d.distaff = false) (hst : st ≠ 0)
    (hg : ∀ (u : State) f, u.ownerStart = s.ow.owner → u.dev = s.dev →
      u.acceptFor d b.opcode b.subject f = u.refuse d b.opcode b.subject st) : Answers c s (s.refusedOnly dt d b st) := by
  obtain ⟨f, hacc⟩ := State.acceptAny_eq d b (s.offeredAt dt d b)
  have hw := (State.readsLine_offeredAt (s := s) (dt := dt) (d := d) (b := b)).trans (State.readsLine_takeLine _ d b)
  refine answers_refused hs hcan (exec_descriptor hc s) hf hw (fun hp => ?_) (.inl hst) ?_
  · rw [State.takeLine_plain hp]
    exact State.prefetch_plain hp _ _
  · rw [hacc]
    exact hg _ _ (hw.fetched_ownerStart hs) hw.fetched_dev

section
variable {c : Instr} (hs : s.ready) (hc : c.descriptor = some (dt, d, b))
include hs hc

/-- Behind a FENCE with HOLD a descriptor waits. -/
theorem answers_fenced (hf : s.fenced d.port d.distaff = true) :
    Answers c s (fun t =>
      t = { s.elapse dt with
        holds := s.holds ++ [{ desc := d, body := b }], rep := t.rep, dr := { s.dr with streams := t.dr.streams } } ∧
      (b.plain → t.dr = s.dr ∧ t.rep.out = s.rep.out)) := by
  have hw := State.readsLine_offeredAt (s := s) (dt := dt) (d := d) (b := b)
  have hholds : (s.offeredAt dt d b).holds = s.holds := by
    rw [hw.eq]
    exact s.elapse_holds dt
  have hoffer : (s.offeredAt dt d b).offerDesc d b (fun u => u.acceptAny d b) =
      { s.offeredAt dt d b with holds := s.holds ++ [{ desc := d, body := b }] } := by
    unfold State.offerDesc
    rw [hw.fetched_fenced, hf, if_pos rfl, hholds]
  have heq : ∀ r, ({ s.offeredAt dt d b with holds := s.holds ++ [{ desc := d, body := b }], rep := r } : State) =
      { s.elapse dt with
        holds := s.holds ++ [{ desc := d, body := b }], rep := r, dr := { s.dr with streams := (s.offeredAt dt d b).dr.streams } } :=
    fun r => by conv_lhs => rw [hw.fetched_eq]
  by_cases hp : b.plain
  · have hfetch : s.offeredAt dt d b = s.fetchedAt dt d := State.prefetch_plain hp _ _
    refine answers_settles hs ((exec_descriptor hc s).trans rfl) hoffer ?_ ⟨heq _, fun _ => ⟨?_, ?_⟩⟩
    · show (s.offeredAt dt d b).settled
      rw [hfetch]
      exact State.fetchedAt_settled hs
    · show (s.offeredAt dt d b).dr = _
      rw [hfetch]
      exact s.elapse_dr dt
    · show (s.offeredAt dt d b).rep.out = _
      rw [hfetch]
      show (s.elapse dt).rep.out = _
      rw [State.elapse_rep hs.2.2]
  · exact answers_tells (v := { s.offeredAt dt d b with holds := s.holds ++ [{ desc := d, body := b }] }) hs ((exec_descriptor hc s).trans rfl)
      (hoffer.trans rfl) (hw.tells (State.Tells.fetchedAt hs))
      fun r told => ⟨heq r, fun h => absurd h hp⟩

section
variable (hf : s.fenced d.port d.distaff = false) (hcan : s.canComplete d)
include hf hcan

theorem answers_notOwner (hop : b.opcode ≠ 0) (h : s.ow.owner ≠ some d.port) : Answers c s (s.refusedOnly dt d b 3) :=
  answers_refused_by hs hcan hc hf (by decide) fun u f hu _ => by
    unfold State.acceptFor
    rw [hu, if_pos (by simp [hop, h])]

theorem answers_reserved (hop : b.opcode = 0 ∨ s.ow.owner = some d.port) (h : d.resv = true) :
    Answers c s (s.refusedOnly dt d b 2) :=
  answers_refused_by hs hcan hc hf (by decide) fun u f hu _ => by
    unfold State.acceptFor
    rw [hu, if_neg (by rcases hop with h | h <;> simp [h]), if_neg (Nat.not_le.2 (opcode_of_descriptor hc)), if_pos h]

theorem answers_inSafe (hown : s.ow.owner = some d.port) (hr : d.resv = false) (hst : s.dev.st = .safe)
    (h : refusedInSafe b.opcode = true) : Answers c s (s.refusedOnly dt d b 2) :=
  answers_refused_by hs hcan hc hf (by decide) fun u f hu hdev => by
    unfold State.acceptFor
    rw [hu, hdev, if_neg (by simp [hown]), if_neg (Nat.not_le.2 (opcode_of_descriptor hc)), if_neg (by simp [hr]), if_pos (by simp [hst, h])]

end

omit hs hc in
/-- A NOP that passes completes OK. -/
theorem acceptAny_nop (hb : b = .nop) (hr : d.resv = false) (u : State) : u.acceptAny d b = u.completeSt d 0 0 := by
  subst hb
  simp only [State.acceptAny, State.acceptNop, State.accept, State.acceptFor]
  rw [if_neg (by simp), if_neg (by decide), if_neg (by simp [hr]), if_neg (by simp [refusedInSafe])]

theorem answers_nop (hf : s.fenced d.port d.distaff = false) (hcan : s.canComplete d) (hb : b = .nop) (hr : d.resv = false)
    (hcm : d.cmpl = true) : Answers c s (s.refusedOnly dt d b 0) := by
  refine answers_refused hs hcan (exec_descriptor hc s) hf (.refl _) (fun _ => rfl) (.inr hcm) ?_
  rw [acceptAny_nop hb hr]
  subst hb
  rfl

/-- A NOP without CMPL leaves nothing but the reservation it gives back. -/
theorem answers_nop_quiet (hf : s.fenced d.port d.distaff = false) (hb : b = .nop) (hr : d.resv = false) (hcm : d.cmpl = false) :
    Answers c s (fun t => t = { s.elapse dt with rep := t.rep } ∧ t.rep.out = s.rep.out) := by
  have hoffer : (s.fetchedAt dt d).offerDesc d b (fun u => u.acceptAny d b) = (s.fetchedAt dt d).completeSt d 0 0 := by
    unfold State.offerDesc
    rw [State.fetchedAt_fenced, hf, if_neg (by decide)]
    exact acceptAny_nop hb hr _
  obtain ⟨hout, hset⟩ := (s.fetchedAt dt d).complete_silent (c := complOf d 0 0) hcm rfl
  obtain ⟨w, hw⟩ : ∃ w, (s.fetchedAt dt d).completeSt d 0 0 = w := ⟨_, rfl⟩
  have honly : State.RepOnly (s.elapse dt) w := hw ▸ State.fetchedAt_repOnly.completeSt d 0 0
  rw [show (s.fetchedAt dt d).complete d (complOf d 0 0) = w from hw] at hout hset
  subst hb
  refine answers_settles hs ((exec_descriptor hc s).trans rfl) (hoffer.trans hw) (hset (State.fetchedAt_settled hs)) ⟨honly, hout.trans ?_⟩
  show (s.elapse dt).rep.out = _
  rw [State.elapse_rep hs.2.2]

end

end

/-! ## FENCE -/

section
variable {s : State} {dt : Nat} {d : Desc} {turn : BitVec 48} {hold : Bool} (hd : s.admits d)
include hd

/-- A FENCE's own rules (R342). -/
def State.fenceRule (d : Desc) (turn : BitVec 48) (hold : Bool) (s : State) : State :=
  if s.turnBegun turn then s.fenceOk d turn
  else if (turn - s.tm.turn).toNat ≤ 2 ^ 32 then { s with fences := s.fences ++ [{ desc := d, turn := turn, hold := hold }] }
  else s.completeSt d 11 2

omit hd in
theorem exec_fence (s : State) (dt : Nat) (d : Desc) (turn : BitVec 48) (hold : Bool) :
    exec (.fence dt d turn hold) s = s.descRow dt d (.fence turn hold) (fun u => u.acceptFor d 11 0 (State.fenceRule d turn hold)) := rfl

omit hd in
theorem State.fetchedAt_tm : (s.fetchedAt dt d).tm = s.tm := s.elapse_tm dt

omit hd in
theorem State.fetchedAt_turnBegun : (s.fetchedAt dt d).turnBegun turn = s.turnBegun turn := by
  unfold State.turnBegun
  rw [State.fetchedAt_tm]

theorem answers_fence_begun (h : s.turnBegun turn = true) (hcan : s.canComplete d) (hcm : d.cmpl = true) :
    Answers (.fence dt d turn hold) s (fun t =>
      t = { s.elapse dt with rep := t.rep } ∧ s.completes t d { complOf d 11 0 with turn := turn, timeA := s.tm.bound }) := by
  have hrule : State.fenceRule d turn hold (s.fetchedAt dt d) =
      (s.fetchedAt dt d).complete d { complOf d 11 0 with turn := turn, timeA := s.tm.bound } := by
    unfold State.fenceRule State.fenceOk
    rw [State.fetchedAt_turnBegun, if_pos h, State.fetchedAt_tm]
  exact answers_desc hd (exec_fence s dt d turn hold) (fun _ => rfl) (by decide) hrule (State.fetchedAt_repOnly.complete d _)
    ((State.Tells.fetchedAt hd.1).completeClaimed (State.fetchedAt_claims hd.1 hcan) (.inl hcm))
    fun r told => ⟨rfl, told.completes _ List.mem_cons_self⟩

theorem answers_fence_kept (h : s.turnBegun turn = false) (hfar : (turn - s.tm.turn).toNat ≤ 2 ^ 32) :
    Answers (.fence dt d turn hold) s (fun t =>
      t = { s.elapse dt with fences := s.fences ++ [{ desc := d, turn := turn, hold := hold }], rep := t.rep }) := by
  have hrule : State.fenceRule d turn hold (s.fetchedAt dt d) =
      { s.fetchedAt dt d with fences := s.fences ++ [{ desc := d, turn := turn, hold := hold }] } := by
    rw [← s.elapse_fences dt]
    unfold State.fenceRule
    rw [State.fetchedAt_turnBegun, h, if_neg (by decide), if_pos (by rw [State.fetchedAt_tm]; exact hfar)]
    rfl
  exact answers_desc_settles hd (exec_fence s dt d turn hold) (fun _ => rfl) (by decide) hrule (State.fetchedAt_settled hd.1) rfl

theorem answers_fence_far (h : s.turnBegun turn = false) (hfar : 2 ^ 32 < (turn - s.tm.turn).toNat) (hcan : s.canComplete d) :
    Answers (.fence dt d turn hold) s (fun t => t = { s.elapse dt with rep := t.rep } ∧ s.completes t d (complOf d 11 2)) := by
  have hrule : State.fenceRule d turn hold (s.fetchedAt dt d) = (s.fetchedAt dt d).completeSt d 11 2 := by
    unfold State.fenceRule
    rw [State.fetchedAt_turnBegun, h, if_neg (by decide), State.fetchedAt_tm, if_neg (Nat.not_le.2 hfar)]
  exact answers_desc hd (exec_fence s dt d turn hold) (fun _ => rfl) (by decide) hrule (State.fetchedAt_repOnly.completeSt d 11 2)
    ((State.Tells.fetchedAt hd.1).completeStClaimed (State.fetchedAt_claims hd.1 hcan) 11 (by decide))
    fun r told => ⟨rfl, told.completes _ List.mem_cons_self⟩

end

/-- Settles O43, check by check in the order of acceptance, then NOP and the three answers of a FENCE. -/
theorem descriptorsAreChecked : Obligations.DescriptorsAreChecked := by
  unfold Obligations.DescriptorsAreChecked
  refine ⟨fun c s dt d b hs hc => ⟨?_, fun hf hcan => ⟨?_, ?_, ?_, ?_⟩, ?_⟩, fun s dt d turn hold hd => ⟨?_, ?_, ?_⟩⟩
  · exact fun hf => answers_fenced hs hc hf
  · exact fun hop h => answers_notOwner hs hc hf hcan hop h
  · exact fun hop h => answers_reserved hs hc hf hcan hop h
  · exact fun hown hr hst h => answers_inSafe hs hc hf hcan hown hr hst h
  · exact fun hb hr hcm => answers_nop hs hc hf hcan hb hr hcm
  · exact fun hf hb hr hcm => answers_nop_quiet hs hc hf hb hr hcm
  · exact fun h hcan hcm => answers_fence_begun hd h hcan hcm
  · exact fun h hfar => answers_fence_kept hd h hfar
  · exact fun h hfar hcan => answers_fence_far hd h hfar hcan

end Sys2Proof.Machine
end

section
/-!
PROOFS. Bobbins taken from the creel and entered into a ready set (R88 to R91, R133), and the SENDs that do so (R96, R155, R337).
-/

namespace Sys2Proof.Machine

/-! ## A bobbin is taken -/

/-- From a to b one bobbin more of a channel is taken, at the lowest free index. -/
structure State.Takes (x : Bobbin) (a b : State) : Prop where
  rest : b = { a with cr := b.cr, rep := b.rep }
  bob : b.bob a.nextBob = some x
  use : b.use x.ch = (a.use x.ch).upd x.cls (· + 1)
  tells : ∀ {s : State} {k : Account}, s.Tells k a.rep → s.Tells k b.rep

theorem State.refreshLow_eq (u : State) :
    u.refreshLow = { u with cr := { u.cr with low := u.refreshLow.cr.low }, rep := u.refreshLow.rep } := by
  unfold State.refreshLow
  simp only
  split <;> rfl

theorem State.Tells.refreshLow {s u : State} {k : Account} (h : s.Tells k u.rep) : s.Tells k u.refreshLow.rep := by
  unfold State.refreshLow
  simp only
  split
  · let v : State := { u with cr := { u.cr with low := decide (u.bobFree < u.fld 0x48030 0 17) } }
    exact h.fires (v.raise_grows 0x021) (v.raise_same 0x021) (v.raise_fires 0x021)
  · exact h

theorem State.takes_takeBob (u : State) (x : Bobbin) : State.Takes x u (u.takeBob x) := by
  let v : State := { u with cr := { u.cr with
    bobs := Tbl.ins u.cr.bobs u.nextBob x, use := Tbl.put u.cr.use x.ch {} ((u.use x.ch).upd x.cls (· + 1)) } }
  have hv : u.takeBob x = v.refreshLow := rfl
  have heq := v.refreshLow_eq
  rw [hv]
  refine ⟨?_, ?_, ?_, fun h => State.Tells.refreshLow (u := v) h⟩
  · rw [heq]
  · unfold State.bob
    rw [heq]
    exact Tbl.look_ins_self _ _ _
  · rw [show v.refreshLow.use x.ch = v.use x.ch by unfold State.use; rw [heq]]
    exact Tbl.lookD_put_self _ _ _ _

/-! ## A bobbin is entered -/

/-- From a to b a channel chooses, or does not: its ready set and all else of the channels stays. -/
structure State.Chooses (ch : Nat) (a b : State) : Prop where
  rest : b = { a with chs := b.chs, mm := b.mm, rep := b.rep }
  same : b.ch ch = { a.ch ch with chosen := (b.ch ch).chosen, offered := (b.ch ch).offered }
  tells : ∀ {s : State} {k : Account}, s.Tells k a.rep → s.Tells k b.rep

theorem State.Chooses.refl (ch : Nat) (a : State) : State.Chooses ch a a := ⟨rfl, rfl, fun h => h⟩

theorem State.Chooses.emit {ch : Nat} {a b : State} (h : State.Chooses ch a b) (o : Output) : State.Chooses ch a (b.emit o) :=
  ⟨(congrArg (fun t : State => { t with rep := (b.emit o).rep }) h.rest), h.same, fun ht => (h.tells ht).fires (b.emit_grows o) (b.emit_same o) (b.emit_fires o)⟩

theorem State.chooses_choose (u : State) (ch : Nat) : State.Chooses ch u (u.choose ch false) := by
  have hhead : ∀ e b, State.Chooses ch u (u.headChosen ch e b) := fun e b => by
    have hch : (u.headChosen ch e b).ch ch = { u.ch ch with chosen := some e.bob, offered := false } := State.setCh_self _ _ _
    exact ⟨rfl, by rw [hch], fun h => h⟩
  unfold State.choose
  simp only [Bool.false_and, Bool.false_eq_true, if_false]
  split
  · exact .refl ch u
  · split
    · split <;> exact .refl ch u
    · split
      · exact .refl ch u
      · split
        · exact .refl ch u
        · rename_i e _ _ b _
          split
          · exact hhead e b
          · exact (hhead e b).emit _

/-- The entry that a bobbin makes in a ready set. -/
def freshEntry (bob : Nat) (key : Word) (kind : ReadyKind) : Ready :=
  { bob := bob, key := key, kind := kind, age := 0, doomed := false, sofT := 0, errT := none }

/-- From a to b an entry joins the ready set of a channel, which may choose it at once. -/
structure State.Enters (ch : Nat) (e : Ready) (a b : State) : Prop where
  rest : b = { a with chs := b.chs, mm := b.mm, rep := b.rep }
  same : b.ch ch = { a.ch ch with ready := insReady e (a.ch ch).ready, chosen := (b.ch ch).chosen, offered := (b.ch ch).offered }
  tells : ∀ {s : State} {k : Account}, s.Tells k a.rep → s.Tells k b.rep

theorem State.enters_enterReady (u : State) (ch bob : Nat) (key : Word) (kind : ReadyKind) :
    State.Enters ch (freshEntry bob key kind) u (u.enterReady ch bob key kind) := by
  obtain ⟨v, hv⟩ : ∃ v, u.setCh ch { u.ch ch with ready := insReady (freshEntry bob key kind) (u.ch ch).ready } = v := ⟨_, rfl⟩
  have hch : v.ch ch = { u.ch ch with ready := insReady (freshEntry bob key kind) (u.ch ch).ready } := hv ▸ State.setCh_self _ _ _
  have hrest : v = { u with chs := v.chs } := by rw [← hv]; rfl
  have heq : u.enterReady ch bob key kind = if (u.ch ch).ready.isEmpty then v.choose ch false else v := by rw [← hv]; rfl
  rw [heq]
  split
  · obtain ⟨hr, hs, ht⟩ := v.chooses_choose ch
    refine ⟨?_, ?_, fun h => ht (by rw [hrest]; exact h)⟩
    · rw [hr, hrest]
    · rw [hs, hch]
  · exact ⟨hrest.trans (by rw [hrest]), by rw [hch], fun h => by rw [hrest]; exact h⟩

/-! ## SEND -/

section
variable {s : State} {dt : Nat} {d : Desc}

theorem State.fetchedAt_eq : s.fetchedAt dt d = { s with
    now := (s.elapse dt).now, frac := (s.elapse dt).frac, clock := (s.elapse dt).clock,
    rep := (s.fetchedAt dt d).rep, ow := (s.elapse dt).ow } := by
  have h : State.RepOnly (s.elapse dt) (s.fetchedAt dt d) := State.fetchedAt_repOnly
  conv_lhs => rw [h]
  rw [State.elapse_eq]

theorem State.fetchedAt_sendBad (b : SendBody) : (s.fetchedAt dt d).sendBad b = s.sendBad b := by rw [State.fetchedAt_eq]; rfl
theorem State.fetchedAt_acts : (s.fetchedAt dt d).acts = s.acts := by rw [State.fetchedAt_eq]; rfl
theorem State.fetchedAt_setFull (ch : Nat) : (s.fetchedAt dt d).setFull ch = s.setFull ch := by rw [State.fetchedAt_eq]; rfl
theorem State.fetchedAt_sendOk (ch : Nat) : (s.fetchedAt dt d).sendOk ch = s.sendOk ch := by rw [State.fetchedAt_eq]; rfl
theorem State.fetchedAt_ch (ch : Nat) : (s.fetchedAt dt d).ch ch = s.ch ch := by rw [State.fetchedAt_eq]; rfl
theorem State.fetchedAt_use (ch : Nat) : (s.fetchedAt dt d).use ch = s.use ch := by rw [State.fetchedAt_eq]; rfl
theorem State.fetchedAt_nextBob : (s.fetchedAt dt d).nextBob = s.nextBob := by rw [State.fetchedAt_eq]; rfl
theorem State.fetchedAt_dr : (s.fetchedAt dt d).dr = s.dr := s.elapse_dr dt

end

/-- The rules of a SEND (R96, R155, R337). -/
def State.sendRule (d : Desc) (b : SendBody) (s : State) : State :=
  let ch := b.ch.val
  if s.sendBad b then s.completeSt d 1 2
  else if s.acts = false then s.completeSt d 1 7
  else if s.setFull ch ∨ s.sendOk ch = false then s.sendNone ch d
  else
    let bob := s.nextBob
    let s1 := s.takeBob (txBobbin ch (SendBody.frame b) .send)
    if s1.sendDue ch && (s1.ch ch).sendQueue.isEmpty then s1.enterSend ch bob d
    else s1.modCh ch (fun c => { c with sendQueue := c.sendQueue ++ [(bob, d)] })

theorem exec_send (s : State) (dt : Nat) (d : Desc) (b : SendBody) :
    exec (.send dt d b) s = s.descRow dt d (.send b) (fun u => u.acceptFor d 1 0 (State.sendRule d b)) := rfl

/-- A waiting SEND bobbin enters: the channel has sent now. -/
theorem State.enterSend_enters {u : State} {bob : Nat} {x : Bobbin} (ch : Nat) (d : Desc) (h : u.bob bob = some x) :
    State.Enters ch (freshEntry bob x.frame.key (.send d)) (u.modCh ch fun c => { c with lastSend := some u.clock }) (u.enterSend ch bob d) := by
  unfold State.enterSend
  rw [h]
  exact State.enters_enterReady _ _ _ _ _

section
variable {s : State} {dt : Nat} {d : Desc} {b : SendBody} (hd : s.admits d)
include hd

theorem answers_send_bad (h : s.sendBad b = true) (hcan : s.canComplete d) :
    Answers (.send dt d b) s (fun t => t = { s.elapse dt with rep := t.rep } ∧ s.completes t d (complOf d 1 2)) :=
  answers_desc hd (exec_send s dt d b) (fun _ => rfl) (by decide) (if_pos ((State.fetchedAt_sendBad b).trans h))
    (State.fetchedAt_repOnly.completeSt d 1 2)
    ((State.Tells.fetchedAt hd.1).completeStClaimed (State.fetchedAt_claims hd.1 hcan) 1 (by decide))
    fun r told => ⟨rfl, told.completes _ List.mem_cons_self⟩

section
variable (hgood : s.sendBad b = false)
include hgood

theorem answers_send_idle (h : s.acts = false) (hcan : s.canComplete d) :
    Answers (.send dt d b) s (fun t => t = { s.elapse dt with rep := t.rep } ∧ s.completes t d (complOf d 1 7)) :=
  answers_desc hd (exec_send s dt d b) (fun _ => rfl) (by decide)
    ((if_neg (by rw [State.fetchedAt_sendBad, hgood]; decide)).trans (if_pos (State.fetchedAt_acts.trans h)))
    (State.fetchedAt_repOnly.completeSt d 1 7)
    ((State.Tells.fetchedAt hd.1).completeStClaimed (State.fetchedAt_claims hd.1 hcan) 1 (by decide))
    fun r told => ⟨rfl, told.completes _ List.mem_cons_self⟩

section
variable (hacts : s.acts = true)
include hacts

theorem answers_send_none (h : s.setFull b.ch.val = true ∨ s.sendOk b.ch.val = false) (hcan : s.canComplete d) :
    Answers (.send dt d b) s (fun t =>
      t = { s.elapse dt with rep := t.rep } ∧ s.completes t d (complOf d 1 7) ∧ s.counts t (64 * b.ch.val + 22) 1) := by
  obtain ⟨w, hw⟩ : ∃ w, s.fetchedAt dt d = w := ⟨_, rfl⟩
  have htells : s.Tells {} w.rep := hw ▸ State.Tells.fetchedAt hd.1
  have hclaims : Rep.Claims s d w.rep := hw ▸ State.fetchedAt_claims hd.1 hcan
  have honly : State.RepOnly (s.elapse dt) w := hw ▸ State.fetchedAt_repOnly
  have hrule : State.sendRule d b (s.fetchedAt dt d) = (w.count (64 * b.ch.val + 22)).completeSt d 1 7 := by
    unfold State.sendRule
    simp only
    rw [if_neg (by rw [State.fetchedAt_sendBad, hgood]; decide), if_neg (by rw [State.fetchedAt_acts, hacts]; decide),
      if_pos (by rw [State.fetchedAt_setFull, State.fetchedAt_sendOk]; exact h), hw]
    rfl
  exact answers_desc hd (exec_send s dt d b) (fun _ => rfl) (by decide) hrule ((honly.count _).completeSt d 1 7)
    ((htells.count _).completeStClaimed (hclaims.kept (w.ringsKept_count _)) 1 (by decide))
    fun r told => ⟨rfl, told.completes _ List.mem_cons_self, told.counts (64 * b.ch.val + 22, 1) (by simp)⟩

section
variable (hfull : s.setFull b.ch.val = false) (hok : s.sendOk b.ch.val = true)
include hfull hok

omit hd in
/-- A SEND with room takes its bobbin. -/
theorem sendRule_room : ∃ v, State.Takes (txBobbin b.ch.val (SendBody.frame b) .send) (s.fetchedAt dt d) v ∧
    State.sendRule d b (s.fetchedAt dt d) =
      if (s.elapse dt).sendDue b.ch.val && (s.ch b.ch.val).sendQueue.isEmpty then v.enterSend b.ch.val s.nextBob d
      else v.modCh b.ch.val (fun c => { c with sendQueue := c.sendQueue ++ [(s.nextBob, d)] }) := by
  obtain ⟨v, hv⟩ : ∃ v, (s.fetchedAt dt d).takeBob (txBobbin b.ch.val (SendBody.frame b) .send) = v := ⟨_, rfl⟩
  have htakes := hv ▸ State.takes_takeBob (s.fetchedAt dt d) (txBobbin b.ch.val (SendBody.frame b) .send)
  have hdue : v.sendDue b.ch.val = (s.elapse dt).sendDue b.ch.val := by
    have hkeep : v.chs = (s.elapse dt).chs ∧ v.regs = (s.elapse dt).regs ∧ v.clock = (s.elapse dt).clock := by
      have hro : State.RepOnly (s.elapse dt) (s.fetchedAt dt d) := State.fetchedAt_repOnly
      rw [htakes.rest, hro]
      exact ⟨rfl, rfl, rfl⟩
    obtain ⟨hchs, hregs, hclock⟩ := hkeep
    unfold State.sendDue State.live State.ch
    rw [hchs, hregs, hclock]
  have hch : v.ch b.ch.val = s.ch b.ch.val := by
    rw [← State.fetchedAt_ch (s := s) (dt := dt) (d := d), htakes.rest]
    rfl
  refine ⟨v, htakes, ?_⟩
  unfold State.sendRule
  simp only
  rw [if_neg (by rw [State.fetchedAt_sendBad, hgood]; decide), if_neg (by rw [State.fetchedAt_acts, hacts]; decide),
    if_neg (by rw [State.fetchedAt_setFull, State.fetchedAt_sendOk, hfull, hok]; decide), hv, hdue, hch, State.fetchedAt_nextBob]

theorem answers_send_enters (hdue : (s.elapse dt).sendDue b.ch.val = true) (hq : (s.ch b.ch.val).sendQueue = []) :
    Answers (.send dt d b) s (fun t =>
      (t.ch b.ch.val).ready = insReady ⟨s.nextBob, (SendBody.frame b).key, .send d, 0, false, 0, none⟩ (s.ch b.ch.val).ready ∧
      (t.ch b.ch.val).lastSend = some t.clock ∧ t.bob s.nextBob = some (txBobbin b.ch.val (SendBody.frame b) .send) ∧
      (t.use b.ch.val).send = (s.use b.ch.val).send + 1 ∧ t.dr = s.dr) := by
  obtain ⟨v, htakes, hrule⟩ := sendRule_room (dt := dt) (d := d) hgood hacts hfull hok
  rw [hdue, hq, if_pos (by decide)] at hrule
  obtain ⟨u, hu⟩ : ∃ u, s.fetchedAt dt d = u := ⟨_, rfl⟩
  have hbob := htakes.bob
  rw [State.fetchedAt_nextBob] at hbob
  have henters := State.enterSend_enters b.ch.val d hbob
  obtain ⟨m, hm⟩ : ∃ m, v.modCh b.ch.val (fun c => { c with lastSend := some v.clock }) = m := ⟨_, rfl⟩
  obtain ⟨w, hw⟩ : ∃ w, v.enterSend b.ch.val s.nextBob d = w := ⟨_, rfl⟩
  rw [hm, hw] at henters
  rw [hw] at hrule
  have hvch : v.ch b.ch.val = s.ch b.ch.val := by
    rw [← State.fetchedAt_ch (s := s) (dt := dt) (d := d), htakes.rest]
    rfl
  have hmch : m.ch b.ch.val = { s.ch b.ch.val with lastSend := some v.clock } := by
    rw [← hm]
    exact (State.setCh_self _ _ _).trans (by rw [hvch])
  have hmrest : m = { v with chs := m.chs } := by rw [← hm]; rfl
  refine answers_desc hd (exec_send s dt d b) (fun _ => rfl) (by decide) hrule (State.RepOnly.refl w)
    (henters.tells (by rw [hmrest]; exact htakes.tells (State.Tells.fetchedAt hd.1))) fun r _ => ⟨?_, ?_, ?_, ?_, ?_⟩
  · show (w.ch _).ready = _
    rw [henters.same, hmch]
    rfl
  · show (w.ch _).lastSend = some w.clock
    rw [henters.same, hmch, henters.rest, hmrest]
  · show w.bob _ = _
    rw [henters.rest, hmrest]
    exact hbob
  · show (w.use _).send = _
    have huse := htakes.use
    rw [State.fetchedAt_use] at huse
    rw [henters.rest, hmrest]
    exact congrArg ChUse.send huse
  · have hdr : w.dr = v.dr := by rw [henters.rest, hmrest]
    exact hdr.trans ((congrArg State.dr htakes.rest).trans (State.fetchedAt_dr (d := d)))

theorem answers_send_waits (hno : ¬((s.elapse dt).sendDue b.ch.val = true ∧ (s.ch b.ch.val).sendQueue = [])) :
    Answers (.send dt d b) s (fun t =>
      (t.ch b.ch.val).ready = (s.ch b.ch.val).ready ∧ (t.ch b.ch.val).sendQueue = (s.ch b.ch.val).sendQueue ++ [(s.nextBob, d)] ∧
      (t.use b.ch.val).send = (s.use b.ch.val).send + 1 ∧ t.dr = s.dr) := by
  obtain ⟨v, htakes, hrule⟩ := sendRule_room (dt := dt) (d := d) hgood hacts hfull hok
  rw [if_neg (by rw [Bool.and_eq_true, List.isEmpty_iff]; exact hno)] at hrule
  have hvch : v.ch b.ch.val = s.ch b.ch.val := by
    rw [← State.fetchedAt_ch (s := s) (dt := dt) (d := d), htakes.rest]
    rfl
  obtain ⟨m, hm⟩ : ∃ m, v.modCh b.ch.val (fun c => { c with sendQueue := c.sendQueue ++ [(s.nextBob, d)] }) = m := ⟨_, rfl⟩
  have hmch : m.ch b.ch.val = { s.ch b.ch.val with sendQueue := (s.ch b.ch.val).sendQueue ++ [(s.nextBob, d)] } := by
    rw [← hm]
    exact (State.setCh_self _ _ _).trans (by rw [hvch])
  have hmrest : m = { v with chs := m.chs } := by rw [← hm]; rfl
  rw [hm] at hrule
  refine answers_desc hd (exec_send s dt d b) (fun _ => rfl) (by decide) hrule (State.RepOnly.refl m)
    (by rw [hmrest]; exact htakes.tells (State.Tells.fetchedAt hd.1)) fun r _ => ⟨?_, ?_, ?_, ?_⟩
  · show (m.ch _).ready = _
    rw [hmch]
  · show (m.ch _).sendQueue = _
    rw [hmch]
  · show (m.use _).send = _
    have huse := htakes.use
    rw [State.fetchedAt_use] at huse
    rw [hmrest]
    exact congrArg ChUse.send huse
  · have hdr : m.dr = v.dr := by rw [hmrest]
    exact hdr.trans ((congrArg State.dr htakes.rest).trans (State.fetchedAt_dr (d := d)))

end

end

end

end

/-! ## SEND_READY_ENTRY -/

/-- The oldest waiting SEND bobbin enters (R155). -/
def State.sendEntry (ch : Nat) (s : State) : State :=
  match (s.ch ch).sendQueue with
  | [] => s
  | (bob, d) :: q =>
    if s.sendDue ch then (s.modCh ch (fun c => { c with sendQueue := q })).enterSend ch bob d else s

theorem exec_sendReadyEntry (dt : Nat) (ch : Fin 16) (s : State) : exec (.sendReadyEntry dt ch) s = s.at_ dt (State.sendEntry ch.val) := rfl

theorem answers_sendReadyEntry {s : State} {dt : Nat} {ch : Fin 16} {bob : Nat} {d : Desc} {q : List (Nat × Desc)} {x : Bobbin}
    (hs : s.ready) (hq : (s.ch ch.val).sendQueue = (bob, d) :: q) (hdue : (s.elapse dt).sendDue ch.val = true) (hb : s.bob bob = some x) :
    Answers (.sendReadyEntry dt ch) s (fun t =>
      (t.ch ch.val).ready = insReady ⟨bob, x.frame.key, .send d, 0, false, 0, none⟩ (s.ch ch.val).ready ∧
      (t.ch ch.val).sendQueue = q ∧ (t.ch ch.val).lastSend = some t.clock ∧ t.cr = s.cr ∧ t.dr = s.dr) := by
  obtain ⟨u, hu⟩ : ∃ u, (s.elapse dt).modCh ch.val (fun c => { c with sendQueue := q }) = u := ⟨_, rfl⟩
  have hurest : u = { s.elapse dt with chs := u.chs } := by rw [← hu]; rfl
  have huch : u.ch ch.val = { s.ch ch.val with sendQueue := q } := by
    rw [← hu]
    exact (State.setCh_self _ _ _).trans (by rw [State.elapse_ch])
  have hub : u.bob bob = some x := by
    rw [← hb, ← s.elapse_bob dt bob, hurest]
    rfl
  have hgo : (s.elapse dt).sendEntry ch.val = u.enterSend ch.val bob d := by
    unfold State.sendEntry
    rw [State.elapse_ch, hq]
    simp only
    rw [if_pos hdue, hu]
  have henters := State.enterSend_enters ch.val d hub
  obtain ⟨m, hm⟩ : ∃ m, u.modCh ch.val (fun c => { c with lastSend := some u.clock }) = m := ⟨_, rfl⟩
  obtain ⟨w, hw⟩ : ∃ w, u.enterSend ch.val bob d = w := ⟨_, rfl⟩
  rw [hm, hw] at henters
  have hmch : m.ch ch.val = { s.ch ch.val with sendQueue := q, lastSend := some u.clock } := by
    rw [← hm]
    exact (State.setCh_self _ _ _).trans (by rw [huch])
  have hmrest : m = { s.elapse dt with chs := m.chs } := by rw [← hm, hurest]; rfl
  have huclock : u.clock = (s.elapse dt).clock := by rw [hurest]
  refine answers_reports hs (exec_sendReadyEntry dt ch s) (hgo.trans hw) (State.RepOnly.refl w)
    (henters.tells (by rw [hmrest]; exact State.Tells.elapse hs dt)) fun r _ => ⟨?_, ?_, ?_, ?_, ?_⟩
  · show (w.ch _).ready = _
    rw [henters.same, hmch]
    rfl
  · show (w.ch _).sendQueue = _
    rw [henters.same, hmch]
  · show (w.ch _).lastSend = some w.clock
    rw [henters.same, hmch, henters.rest, hmrest, huclock]
  · show w.cr = _
    rw [henters.rest, hmrest]
    exact s.elapse_cr dt
  · show w.dr = _
    rw [henters.rest, hmrest]
    exact s.elapse_dr dt

/-- Settles O31, by what refuses a SEND in its order, then by whether its bobbin enters at once. -/
theorem sendsUseTheSharedPool : Obligations.SendsUseTheSharedPool := by
  unfold Obligations.SendsUseTheSharedPool
  refine fun s dt => ⟨fun d b hd => ⟨?_, ?_, ?_, ?_, ?_⟩, fun ch bob d q x hs hq hdue hb => answers_sendReadyEntry hs hq hdue hb⟩
  · exact fun hg ⟨ha, hf, ho⟩ ⟨hdue, hq⟩ => answers_send_enters hd hg ha hf ho hdue hq
  · exact fun hg ⟨ha, hf, ho⟩ hno => answers_send_waits hd hg ha hf ho hno
  · exact fun hg ha hcan => answers_send_idle hd hg ha hcan
  · exact fun hg ha h hcan => answers_send_none hd hg ha h hcan
  · exact fun hb hcan => answers_send_bad hd hb hcan

end Sys2Proof.Machine
end

section
/-!
PROOFS. Releases of a stream without authentication that this member sends (R88, R139, R147, R149).
-/

namespace Sys2Proof.Machine

/-! ## What judging a release leaves of the streams -/

theorem State.setStream_self (u : State) (n : Nat) (x : Stream) : (u.setStream n x).stream n = some x := Tbl.look_ins_self _ _ _

theorem State.setStream_ne (u : State) {n k : Nat} (x : Stream) (h : k ≠ n) : (u.setStream n x).stream k = u.stream k :=
  Tbl.look_ins_ne _ _ h

theorem State.stream_of_streams {a b : State} (h : b.dr.streams = a.dr.streams) (k : Nat) : b.stream k = a.stream k := by
  unfold State.stream
  rw [h]

/-- Reports keep the streams. -/
theorem State.keepsStreams_frame : Frame (fun a b => b.dr.streams = a.dr.streams) where
  refl _ := rfl
  trans h g := g.trans h
  rep _ _ _ _ := rfl

theorem State.judge_streams {u : State} {n : Nat} {x : Stream} (h : u.stream n = some x) (r : Rel) (late : Option Int) :
    (u.judge n r late).dr.streams = (u.setStream n (x.judged r late r.cov)).dr.streams := by
  have F := State.keepsStreams_frame
  unfold State.judge
  rw [h]
  simp only
  obtain ⟨v, hv⟩ : ∃ v, u.setStream n (x.judged r late r.cov) = v := ⟨_, rfl⟩
  rw [hv]
  have hmid : ∀ (miss : Bool) (z : Nat), (if (miss && !r.cov) = true then
      (State.slub { v with dr := { v.dr with uncovTurn := v.dr.uncovTurn + 1 } } 0x0405 n z 0).raise 0x1A6
      else if (miss && (v.breach r.ch).on) = true then
        v.setBreach r.ch { v.breach r.ch with covered := (v.breach r.ch).covered + 1 }
      else v).dr.streams = v.dr.streams := fun miss z => by
    split
    · rfl
    · split <;> rfl
  split
  · exact hmid _ _
  · exact F.complete (hmid _ _) _ _

theorem Stream.judged_kept (x : Stream) (r : Rel) (late : Option Int) (cov : Bool) :
    (x.judged r late cov).releases = x.releases ∧ (x.judged r late cov).used = x.used := by
  unfold Stream.judged
  simp only
  split <;> exact ⟨rfl, rfl⟩

/-- A release that leaves without a frame: counts of its own stream, and no other stream. -/
theorem State.relGone_streams {u : State} {n : Nat} {x : Stream} (h : u.stream n = some x) (id st : Nat) :
    (∃ y, (u.relGone n id st).stream n = some y ∧ y.releases = x.releases ∧ y.used = x.used) ∧
    ∀ k, k ≠ n → (u.relGone n id st).stream k = u.stream k := by
  unfold State.relGone
  rw [h]
  simp only
  split
  · exact ⟨⟨x, h, rfl, rfl⟩, fun _ _ => rfl⟩
  · split
    · rename_i r _ _
      have hj := State.judge_streams h { r with gone := true, status := st } none
      exact ⟨⟨_, (State.stream_of_streams hj n).trans (u.setStream_self n _), x.judged_kept _ _ _⟩,
        fun k hk => (State.stream_of_streams hj k).trans (u.setStream_ne _ hk)⟩
    · exact ⟨⟨_, u.setStream_self n _, rfl, rfl⟩, fun k hk => u.setStream_ne _ hk⟩

/-! ## A release -/

/-- A stream after a release of its own, but for the release itself. -/
def Stream.drawn (x : Stream) (given : Option (List Byte)) : Stream :=
  { x with
    releases := satCount (x.releases + 1), nextRel := x.nextRel + 1
    valueLate := if decide (x.cfg.source = 2) && given.isNone && x.valueLater then min (2 ^ 32 - 1) (x.valueLate + 1) else x.valueLate
    vFor := if given.isNone then x.vFor.tail else x.vFor }

/-- Where its value line came late, the release counts that too. -/
def State.lateCounted (u : State) (x : Stream) (given : Option (List Byte)) : State :=
  if decide (x.cfg.source = 2) && given.isNone && x.valueLater then u.count (5184 + 64 * x.cfg.vport.idx + 4) else u

theorem State.lateCounted_repOnly (u : State) (x : Stream) (given : Option (List Byte)) : State.RepOnly u (u.lateCounted x given) :=
  State.RepOnly.ite ((State.RepOnly.refl u).count _) (State.RepOnly.refl u)

/-- The frame of a release. -/
def State.drawnFrame (u : State) (x : Stream) (given : Option (List Byte)) : Sys2Proof.Frame :=
  (x.drawn given).frame (fitBytes x.cfg.len.toNat (given.getD (u.sourceBytes x)))

section
variable {u : State} {n : Nat} {x : Stream} (hx : u.stream n = some x) (hauth : x.cfg.auth = false)
include hx hauth

/-- Without a bobbin a release goes at once. -/
theorem State.makeRelease_none (hsends : u.sends x = true) (at_ : BitVec 64) (given : Option (List Byte)) (d : Option Desc)
    (h : (u.ch x.cfg.ch.val).noBobbin = true ∨ x.reserve ≤ x.used) :
    ∃ (r : Rel) (w : State), State.RepOnly ((u.lateCounted x given).setStream n { x.drawn given with rels := x.rels ++ [r] }) w ∧
      u.makeRelease n at_ given d = w.relGone n x.nextRel 0 := by
  unfold State.makeRelease
  rw [hx]
  simp only [hauth, Bool.false_and, Bool.false_eq_true, if_false]
  rw [hsends]
  by_cases hno : (u.ch x.cfg.ch.val).noBobbin = true
  · rw [if_pos hno]
    exact ⟨_, _, .refl _, rfl⟩
  · rw [if_neg hno, if_neg (by decide), if_pos (h.resolve_left hno)]
    exact ⟨_, _, (State.RepOnly.refl _).slub _ _ _ _, rfl⟩

/-- A release takes a bobbin. -/
theorem State.makeRelease_taken (hsends : u.sends x = true) (at_ : BitVec 64) (given : Option (List Byte)) (d : Option Desc)
    (hno : (u.ch x.cfg.ch.val).noBobbin = false) (hused : x.used < x.reserve) :
    ∃ r : Rel, u.makeRelease n at_ given d =
      (((u.lateCounted x given).setStream n { x.drawn given with rels := x.rels ++ [r], used := x.used + 1 }).takeBob
        (txBobbin x.cfg.ch.val (u.drawnFrame x given) .stream)).enterReady x.cfg.ch.val (u.lateCounted x given).nextBob x.key
        (.stream n x.nextRel) := by
  have hfill : u.fillBytes (x.drawn given) given = fitBytes x.cfg.len.toNat (given.getD (u.sourceBytes x)) := by
    unfold State.fillBytes
    rw [if_neg (by rw [show (x.drawn given).cfg.auth = false from hauth]; decide)]
    rfl
  unfold State.drawnFrame
  rw [← hfill]
  unfold State.makeRelease
  rw [hx]
  simp only [hauth, Bool.false_and, Bool.false_eq_true, if_false]
  rw [hsends, hno, if_neg (by decide), if_neg (by decide), if_neg (Nat.not_le.2 hused)]
  exact ⟨_, rfl⟩

end

/-- What a bobbin of a stream that is taken and entered leaves. -/
theorem State.released_leaves {u v : State} (hv : State.RepOnly u v) (n : Nat) (y : Stream) (b : Bobbin) (hb : b.cls = .stream)
    (key : Word) (kind : ReadyKind) {t : State}
    (ht : ((v.setStream n y).takeBob b).enterReady b.ch v.nextBob key kind = t) :
    t.stream n = some y ∧ (∀ k, k ≠ n → t.stream k = u.stream k) ∧
    (t.ch b.ch).ready = insReady (freshEntry u.nextBob key kind) (u.ch b.ch).ready ∧
    t.bob u.nextBob = some b ∧ (t.use b.ch).stream = (u.use b.ch).stream + 1 ∧ t.clock = u.clock := by
  have hnext : v.nextBob = u.nextBob := by rw [hv]; rfl
  rw [hnext] at ht
  have hnext2 : (v.setStream n y).nextBob = u.nextBob := hnext
  have hself : (v.setStream n y).stream n = some y := State.setStream_self _ _ _
  have hne : ∀ k, k ≠ n → (v.setStream n y).stream k = u.stream k := fun k hk => by
    rw [State.setStream_ne _ _ hk, hv]
    rfl
  have hch : (v.setStream n y).ch b.ch = u.ch b.ch := by rw [hv]; rfl
  have huse : (v.setStream n y).use b.ch = u.use b.ch := by rw [hv]; rfl
  have hclock : (v.setStream n y).clock = u.clock := by rw [hv]; rfl
  obtain ⟨a, ha⟩ : ∃ a, v.setStream n y = a := ⟨_, rfl⟩
  rw [ha] at ht hnext2 hself hne hch huse hclock
  obtain ⟨c, hc⟩ : ∃ c, a.takeBob b = c := ⟨_, rfl⟩
  have htakes : State.Takes b a c := hc ▸ a.takes_takeBob b
  rw [hc] at ht
  have henters : State.Enters b.ch (freshEntry u.nextBob key kind) c t := ht ▸ c.enters_enterReady _ _ _ _
  have hchs : c.chs = a.chs := by rw [htakes.rest]
  have hcr : t.cr = c.cr := by rw [henters.rest]
  have hdr : t.dr = a.dr := by rw [henters.rest, htakes.rest]
  have hst : ∀ k, t.stream k = a.stream k := fun k => State.stream_of_streams (congrArg (·.streams) hdr) k
  refine ⟨(hst n).trans hself, fun k hk => (hst k).trans (hne k hk), ?_, ?_, ?_, ?_⟩
  · rw [henters.same, State.ch_of_chs hchs, hch]
  · have h := htakes.bob
    rw [hnext2] at h
    unfold State.bob at h ⊢
    rw [hcr]
    exact h
  · have h := htakes.use
    unfold State.use at h huse ⊢
    rw [hcr, h, huse, hb]
    rfl
  · exact (by rw [henters.rest, htakes.rest] : t.clock = a.clock).trans hclock

/-! ## The commands -/

/-- The rules of a cyclic release (R147). -/
def State.cyclicRule (n : Nat) (s : State) : State :=
  match s.stream n with
  | none => s
  | some x =>
    let t := s.tm.bound + BitVec.ofNat 64 (s.relOffset x.cfg)
    if decide (s.dev.st = .run) && decide (x.st = .live) && decide (x.cfg.kind = 0) && decide (x.relIn = some 0) &&
        !x.relDone && s.reached t then
      (s.setStream n { x with relDone := true }).makeRelease n t none none
    else s

theorem exec_streamRelease (s : State) (dt : Nat) (n : Fin 4096) :
    exec (.streamRelease dt n) s = s.at_ dt (State.cyclicRule n.val) := rfl

/-- The rules of a sporadic release (R149). -/
def State.sporadicRule (n : Nat) (s : State) : State :=
  match s.stream n with
  | none => s
  | some x =>
    if x.held.isSome && decide (x.heldAt ≤ s.clock) && decide (s.dev.st = .run) && decide (x.st = .live) then s.acceptHeld n else s

theorem exec_sporadicAcceptance (s : State) (dt : Nat) (n : Fin 4096) :
    exec (.sporadicAcceptance dt n) s = s.at_ dt (State.sporadicRule n.val) := rfl

section
variable {s : State} {dt : Nat} {n : Nat} {x : Stream}

theorem State.elapse_stream (s : State) (dt k : Nat) : (s.elapse dt).stream k = s.stream k :=
  State.stream_of_streams (congrArg (·.streams) (s.elapse_dr dt)) k

theorem cyclicRule_due (hx : s.stream n = some x) (hrun : s.dev.st = .run) (hlive : x.st = .live) (hkind : x.cfg.kind = 0)
    (hin : x.relIn = some 0) (hdone : x.relDone = false)
    (hreach : (s.elapse dt).reached (s.tm.bound + BitVec.ofNat 64 (s.relOffset x.cfg)) = true) :
    State.cyclicRule n (s.elapse dt) = ((s.elapse dt).setStream n { x with relDone := true }).makeRelease n
      (s.tm.bound + BitVec.ofNat 64 (s.relOffset x.cfg)) none none := by
  have hoff : (s.elapse dt).relOffset x.cfg = s.relOffset x.cfg := by rw [State.elapse_eq]; rfl
  unfold State.cyclicRule
  rw [State.elapse_stream, hx]
  simp only
  rw [hoff, State.elapse_tm, State.elapse_dev, hreach, hrun, hlive, hkind, hin, hdone]
  rfl

theorem sporadicRule_due {o : Option Desc} {f : DataBody} (hx : s.stream n = some x) (hrun : s.dev.st = .run) (hlive : x.st = .live)
    (hheld : x.held = some (o, f)) (hat : x.heldAt ≤ s.clock + dt) :
    State.sporadicRule n (s.elapse dt) =
      ((s.elapse dt).setStream n { x with held := none, lastAcc := some (s.elapse dt).clock }).makeRelease n (s.elapse dt).now
        (if f.len = 0 ∧ x.cfg.source ≠ 3 then none else some f.data) o := by
  unfold State.sporadicRule State.acceptHeld
  rw [State.elapse_stream, hx]
  simp only [hheld]
  rw [State.elapse_clock, State.elapse_dev, hrun, hlive, if_pos (by simp [hat])]

end

/-- What a stream brings to its release: what its command has changed beside the fields that a release reads. -/
structure Stream.Same (x y : Stream) : Prop where
  cfg : y.cfg = x.cfg
  releases : y.releases = x.releases
  nextRel : y.nextRel = x.nextRel
  used : y.used = x.used
  reserve : y.reserve = x.reserve
  key : y.key = x.key
  sends : ∀ s : State, s.sends y = s.sends x
  bytes : ∀ s : State, s.sourceBytes y = s.sourceBytes x

theorem Stream.same_relDone (x : Stream) : x.Same { x with relDone := true } := ⟨rfl, rfl, rfl, rfl, rfl, rfl, fun _ => rfl, fun _ => rfl⟩

theorem Stream.same_accepted (x : Stream) (c : Nat) : x.Same { x with held := none, lastAcc := some c } :=
  ⟨rfl, rfl, rfl, rfl, rfl, rfl, fun _ => rfl, fun _ => rfl⟩

section
variable {s : State} {dt n : Nat} {x y : Stream} {c : Instr} {g : State → State} {at_ : BitVec 64} {given : Option (List Byte)}
  {d : Option Desc}
  (hs : s.ready) (hc : exec c s = s.at_ dt g) (hauth : x.cfg.auth = false) (hsends : s.sends x = true) (hy : x.Same y)
  (hg : g (s.elapse dt) = ((s.elapse dt).setStream n y).makeRelease n at_ given d)
include hs hc hauth hsends hy hg

/-- A command that makes a release, where a bobbin is to be had. -/
theorem answers_released_taken (hno : (s.ch x.cfg.ch.val).noBobbin = false) (hused : x.used < x.reserve) :
    Answers c s (fun t =>
      (∃ z, t.stream n = some z ∧ z.releases = satCount (x.releases + 1) ∧ z.used = x.used + 1 ∧ z.nextRel = x.nextRel + 1 ∧
        z.relDone = y.relDone ∧ z.held = y.held ∧ z.lastAcc = y.lastAcc) ∧
      (t.ch x.cfg.ch.val).ready = insReady (freshEntry s.nextBob x.key (.stream n x.nextRel)) (s.ch x.cfg.ch.val).ready ∧
      t.bob s.nextBob = some (txBobbin x.cfg.ch.val (x.frame (fitBytes x.cfg.len.toNat (given.getD (s.sourceBytes x)))) .stream) ∧
      (t.use x.cfg.ch.val).stream = (s.use x.cfg.ch.val).stream + 1 ∧ (∀ k, k ≠ n → t.stream k = s.stream k) ∧
      t.clock = (s.elapse dt).clock) := by
  obtain ⟨hcfg, hrel, hnext, hu, hres, hkey, hsy, hby⟩ := hy
  have hself : ((s.elapse dt).setStream n y).stream n = some y := State.setStream_self _ _ _
  have hne : ∀ k, k ≠ n → ((s.elapse dt).setStream n y).stream k = s.stream k := fun k hk =>
    (State.setStream_ne _ _ hk).trans (State.elapse_stream s dt k)
  have hch : ∀ i, ((s.elapse dt).setStream n y).ch i = s.ch i := fun i => s.elapse_ch i dt
  have hsnd : ((s.elapse dt).setStream n y).sends x = true := by rw [State.elapse_eq]; exact hsends
  have hbytes : ((s.elapse dt).setStream n y).sourceBytes x = s.sourceBytes x := by rw [State.elapse_eq]; rfl
  have hbob : ((s.elapse dt).setStream n y).nextBob = s.nextBob := by rw [State.elapse_eq]; rfl
  have huse : ∀ i, ((s.elapse dt).setStream n y).use i = s.use i := fun i => by rw [State.elapse_eq]; rfl
  have hclock : ((s.elapse dt).setStream n y).clock = (s.elapse dt).clock := rfl
  obtain ⟨u, hu'⟩ : ∃ u, (s.elapse dt).setStream n y = u := ⟨_, rfl⟩
  rw [hu'] at hself hne hch hsnd hbytes hbob huse hclock hg
  obtain ⟨r, hr⟩ := State.makeRelease_taken hself (by rw [hcfg, hauth]) ((hsy u).trans hsnd) at_ given d (by rw [hch, hcfg]; exact hno)
    (by rw [hu, hres]; exact hused)
  obtain ⟨hz, ho, hready, hb, huse', hcl⟩ := State.released_leaves (u.lateCounted_repOnly y given) n _
    (txBobbin y.cfg.ch.val (u.drawnFrame y given) .stream) rfl y.key (.stream n y.nextRel) hr.symm
  refine answers_at hs hc ?_
  rw [hg]
  have hf : u.drawnFrame y given = x.frame (fitBytes x.cfg.len.toNat (given.getD (s.sourceBytes x))) := by
    unfold State.drawnFrame Stream.frame Stream.drawn
    simp only [hcfg]
    rw [hby, hbytes]
  simp only [txBobbin] at hready huse'
  rw [hcfg, hch, hbob, hkey, hnext] at hready
  rw [hcfg, huse] at huse'
  rw [hbob, hf, hcfg] at hb
  exact ⟨⟨_, hz, congrArg (fun v => satCount (v + 1)) hrel, congrArg (· + 1) hu, congrArg (· + 1) hnext, rfl, rfl, rfl⟩, hready, hb,
    huse', fun k hk => (ho k hk).trans (hne k hk), hcl.trans hclock⟩

/-- A command that makes a release, where none is to be had. -/
theorem answers_released_none (h : (s.ch x.cfg.ch.val).noBobbin = true ∨ x.reserve ≤ x.used) :
    Answers c s (fun t => t.cr = s.cr ∧ t.chs = s.chs ∧ (∀ k, k ≠ n → t.stream k = s.stream k) ∧
      ∃ z, t.stream n = some z ∧ z.releases = satCount (x.releases + 1) ∧ z.used = x.used) := by
  obtain ⟨hcfg, hrel, hnext, hu, hres, hkey, hsy, hby⟩ := hy
  have hself : ((s.elapse dt).setStream n y).stream n = some y := State.setStream_self _ _ _
  have hne : ∀ k, k ≠ n → ((s.elapse dt).setStream n y).stream k = s.stream k := fun k hk =>
    (State.setStream_ne _ _ hk).trans (State.elapse_stream s dt k)
  have hch : ∀ i, ((s.elapse dt).setStream n y).ch i = s.ch i := fun i => s.elapse_ch i dt
  have hchs : ((s.elapse dt).setStream n y).chs = s.chs := s.elapse_chs dt
  have hcr : ((s.elapse dt).setStream n y).cr = s.cr := s.elapse_cr dt
  have hsnd : ((s.elapse dt).setStream n y).sends x = true := by rw [State.elapse_eq]; exact hsends
  obtain ⟨u, hu'⟩ : ∃ u, (s.elapse dt).setStream n y = u := ⟨_, rfl⟩
  rw [hu'] at hself hne hch hchs hcr hsnd hg
  obtain ⟨r, w, hw, hr⟩ := State.makeRelease_none hself (by rw [hcfg, hauth]) ((hsy u).trans hsnd) at_ given d
    (by rw [hch, hcfg, hu, hres]; exact h)
  have hlate := u.lateCounted_repOnly y given
  obtain ⟨v, hv⟩ : ∃ v, u.lateCounted y given = v := ⟨_, rfl⟩
  rw [hv] at hw hlate
  have hwself : w.stream n = some { y.drawn given with rels := y.rels ++ [r] } := by
    rw [hw]
    exact State.setStream_self _ _ _
  have hwne : ∀ k, k ≠ n → w.stream k = u.stream k := fun k hk => by
    rw [hw]
    exact (State.setStream_ne v _ hk).trans (by rw [hlate]; rfl)
  have hwcr : w.cr = u.cr := by rw [hw, hlate]; rfl
  have hwchs : w.chs = u.chs := by rw [hw, hlate]; rfl
  obtain ⟨⟨z, hz, hzr, hzu⟩, ho⟩ := State.relGone_streams hwself y.nextRel 0
  have hdr : State.DrOnly w (w.relGone n y.nextRel 0) := State.drOnly_frame.relGone _ _ _ _
  refine answers_at hs hc ?_
  rw [hg, hr]
  obtain ⟨t, ht⟩ : ∃ t, w.relGone n y.nextRel 0 = t := ⟨_, rfl⟩
  rw [ht] at hz ho hdr ⊢
  have hcrt : t.cr = w.cr := by rw [hdr.1]
  have hchst : t.chs = w.chs := by rw [hdr.1]
  exact ⟨(hcrt.trans hwcr).trans hcr, (hchst.trans hwchs).trans hchs, fun k hk => (ho k hk).trans ((hwne k hk).trans (hne k hk)),
    z, hz, hzr.trans (congrArg (fun v => satCount (v + 1)) hrel), hzu.trans hu⟩

end

/-- Settles O28: both commands make one release, and a release takes a bobbin or goes at once. -/
theorem releasesTakeABobbin : Obligations.ReleasesTakeABobbin := by
  unfold Obligations.ReleasesTakeABobbin
  intro s dt n x hs hrun hx hlive hauth hsends ch c hcase
  rcases hcase with ⟨rfl, hkind, hin, hdone, hreach⟩ | ⟨rfl, hheld, hat⟩
  · have hg := cyclicRule_due (dt := dt) hx hrun hlive hkind hin hdone hreach
    have hy := Stream.same_relDone x
    refine ⟨fun hno hused => (answers_released_taken hs (exec_streamRelease s dt n) hauth hsends hy hg hno hused).mono
      (fun t ⟨⟨z, hz, h1, h2, h3, h4, _, _⟩, hready, hb, huse, ho, _⟩ => ⟨⟨z, hz, h1, h2, h3, fun _ => h4, fun h => by cases h⟩,
        ⟨_, hready, rfl, rfl, rfl, rfl⟩, ⟨_, hb, rfl, rfl, rfl, rfl, rfl, rfl, fun _ => rfl, fun _ _ h => by cases h⟩, huse, ho⟩),
      fun h => answers_released_none hs (exec_streamRelease s dt n) hauth hsends hy hg h⟩
  · obtain ⟨⟨o, f⟩, hof⟩ := Option.isSome_iff_exists.1 hheld
    have hg := sporadicRule_due hx hrun hlive hof hat
    have hy := Stream.same_accepted x (s.elapse dt).clock
    refine ⟨fun hno hused => (answers_released_taken hs (exec_sporadicAcceptance s dt n) hauth hsends hy hg hno hused).mono
      (fun t ⟨⟨z, hz, h1, h2, h3, _, h5, h6⟩, hready, hb, huse, ho, hcl⟩ => ⟨⟨z, hz, h1, h2, h3, (fun h => by cases h),
        fun _ => ⟨h5, h6.trans (congrArg some hcl.symm)⟩⟩,
        ⟨_, hready, rfl, rfl, rfl, rfl⟩, ⟨_, hb, rfl, rfl, rfl, rfl, rfl, rfl, (fun h => by cases h), fun o' f' _ hof' => ?_⟩, huse, ho⟩),
      fun h => answers_released_none hs (exec_sporadicAcceptance s dt n) hauth hsends hy hg h⟩
    obtain ⟨rfl, rfl⟩ := Prod.mk.inj (Option.some.inj (hof.symm.trans hof'))
    simp only [txBobbin, Stream.frame]
    split <;> rfl

end Sys2Proof.Machine
end

section
/-!
PROOFS. Value line reads and the ring engine that issues them (R148, R331, R346), and releases whose deadline passes (R181, R182).
-/

namespace Sys2Proof.Machine

/-! ## What the ring engine may change -/

/-- From a to b only the reporting plane changes, and no value line read that waits. -/
structure State.EngineOnly (a b : State) : Prop where
  only : State.RepOnly a b
  waits : ∀ q, (b.port q).valueWait = (a.port q).valueWait

section
variable {a b c : State}

theorem State.EngineOnly.refl (a : State) : State.EngineOnly a a := ⟨.refl a, fun _ => rfl⟩

theorem State.EngineOnly.trans (h : State.EngineOnly a b) (g : State.EngineOnly b c) : State.EngineOnly a c :=
  ⟨h.only.trans g.only, fun q => (g.waits q).trans (h.waits q)⟩

theorem Rep.valueWait_setPort {r : Rep} {p : Port} {x : PortSt} (h : x.valueWait = (r.port p).valueWait) (q : Port) :
    ((r.setPort p x).port q).valueWait = (r.port q).valueWait := by
  by_cases hq : q = p
  · subst hq
    rw [Rep.port_setPort_self, h]
  · rw [Rep.port_setPort_ne _ _ hq]

theorem Rep.valueWait_setDs (r : Rep) (p : Port) (d : Nat) (g : Ring) (q : Port) :
    ((r.setDs p d g).port q).valueWait = (r.port q).valueWait := by
  unfold Rep.setDs
  exact Rep.valueWait_setPort (by rfl) q

theorem Rep.valueWait_setSk (r : Rep) (p : Port) (k : Nat) (g : Ring) (q : Port) :
    ((r.setSk p k g).port q).valueWait = (r.port q).valueWait := by
  unfold Rep.setSk
  exact Rep.valueWait_setPort (by rfl) q

theorem State.engineOnly_setPort (a : State) {p : Port} {x : PortSt} (h : x.valueWait = (a.port p).valueWait) :
    State.EngineOnly a { a with rep := a.rep.setPort p x } := ⟨(State.RepOnly.refl a).rep _, Rep.valueWait_setPort h⟩

theorem State.engineOnly_modDs (a : State) (p : Port) (d : Nat) (f : Ring → Ring) : State.EngineOnly a (a.modDs p d f) :=
  a.engineOnly_setPort rfl

theorem State.EngineOnly.issue (h : State.EngineOnly a b) (p : Port) (r : HostRead) : State.EngineOnly a (b.issue p r) :=
  h.trans ⟨(State.RepOnly.refl b).emit _, fun _ => rfl⟩

theorem State.engineOnly_foldl {α : Type} {f : State → α → State} (hf : ∀ u x, State.EngineOnly u (f u x)) (l : List α) (a : State) :
    State.EngineOnly a (l.foldl f a) := by
  induction l generalizing a with
  | nil => exact .refl a
  | cons x l ih => exact (hf a x).trans (ih _)

theorem State.engineOnly_readProd (a : State) (p : Port) (d : Nat) : State.EngineOnly a (a.readProd p d) := by
  unfold State.readProd
  split
  · split
    · exact (a.engineOnly_modDs p d _).issue _ _
    · exact a.engineOnly_modDs p d _
  · exact .refl a

theorem State.engineOnly_readPay (a : State) (p : Port) (d : Fin 128) : State.EngineOnly a (a.readPay p d) := by
  unfold State.readPay
  simp only
  split
  · exact .refl a
  · split
    · exact (a.engineOnly_modDs p d.val _).issue _ _
    · exact .refl a

theorem State.engineOnly_reserve (a : State) (p : Port) (d : Nat) (i : Word) : State.EngineOnly a (a.reserve p d i) := by
  refine ⟨(State.RepOnly.refl a).reserve _ _ _, fun q => ?_⟩
  change (((a.rep.setSk p _ _).setDs p d _).port q).valueWait = (a.rep.port q).valueWait
  rw [Rep.valueWait_setDs, Rep.valueWait_setSk]

theorem State.engineOnly_fetchOne (a : State) (p : Port) (d : Fin 128) : State.EngineOnly a (a.fetchOne p d) := by
  unfold State.fetchOne
  split
  · exact ((a.engineOnly_reserve p d.val _).trans (State.engineOnly_modDs _ p d.val _)).issue _ _
  · exact .refl a

theorem State.engineOnly_fetchRing (a : State) (p : Port) (d : Fin 128) : State.EngineOnly a (a.fetchRing p d) :=
  State.engineOnly_foldl (fun u _ => u.engineOnly_fetchOne p d) _ a

theorem State.engineOnly_visits (n : Nat) (a : State) : State.EngineOnly a (State.visits n a) := by
  induction n generalizing a with
  | zero => exact .refl a
  | succ n ih =>
    unfold State.visits
    split
    · exact .refl a
    · rename_i p d _
      have h1 := a.engineOnly_fetchRing p (finOf 128 (by decide) d)
      generalize a.fetchRing p _ = v at h1 ⊢
      have h2 : State.EngineOnly v (v.setPort p { v.port p with visit := d + 1 }) := v.engineOnly_setPort rfl
      refine State.EngineOnly.trans (h1.trans (h2.trans ?_)) (ih _)
      exact ⟨(State.RepOnly.refl _).rep _, fun _ => rfl⟩

end

/-! ## What waited is issued -/

/-- From a to b beside the reporting plane only reads of value lines begin. -/
structure State.Flies (a b : State) : Prop where
  rest : b = { a with dr := { a.dr with streams := b.dr.streams }, rep := b.rep }
  more : ∀ n x, a.stream n = some x → ∃ l, b.stream n = some { x with vFlight := x.vFlight ++ l }

section
variable {a b c : State}

theorem State.RepOnly.flies (h : State.RepOnly a b) : State.Flies a b :=
  ⟨by rw [h], fun n x hx => ⟨[], by rw [h, List.append_nil]; exact hx⟩⟩

theorem State.Flies.trans (h : State.Flies a b) (g : State.Flies b c) : State.Flies a c :=
  ⟨by rw [g.rest, h.rest], fun n x hx => by
    obtain ⟨l, hl⟩ := h.more n x hx
    obtain ⟨m, hm⟩ := g.more n _ hl
    exact ⟨l ++ m, by rw [hm, List.append_assoc]⟩⟩

theorem State.flies_read {m : Nat} {x : Stream} (h : a.stream m = some x) (e : Nat × Nat) :
    State.Flies a (a.setStream m { x with vFlight := x.vFlight ++ [e] }) := by
  refine ⟨rfl, fun n y hy => ?_⟩
  by_cases hn : n = m
  · subst hn
    rw [h] at hy
    cases hy
    exact ⟨[e], State.setStream_self _ _ _⟩
  · exact ⟨[], by rw [State.setStream_ne _ _ hn, hy, List.append_nil]⟩

theorem State.flies_issueValues (n : Nat) (a : State) (p : Port) : State.Flies a (State.issueValues n a p) := by
  induction n generalizing a with
  | zero => exact (State.RepOnly.refl a).flies
  | succ n ih =>
    unfold State.issueValues
    split
    · exact (State.RepOnly.refl a).flies
    · rename_i m k rest _
      split
      · refine State.Flies.trans ?_ (ih _)
        have h1 : State.RepOnly a (a.setPort p { a.port p with valueWait := rest }) := (State.RepOnly.refl a).rep _
        split
        · exact h1.flies
        · rename_i x hx
          exact (h1.flies.trans (State.flies_read (a := a.setPort p { a.port p with valueWait := rest }) hx _)).trans
            ((State.RepOnly.refl _).emit _).flies
      · exact (State.RepOnly.refl a).flies

theorem State.engineOnly_reads (a : State) (p : Port) :
    State.EngineOnly a (let b := (a.port p).ds.foldl (fun (a : State) e => if e.2.wantProd then a.readProd p e.1 else a) a
      (b.port p).ds.foldl (fun (a : State) e => a.readPay p (finOf 128 (by decide) e.1)) b) := by
  refine State.EngineOnly.trans (State.engineOnly_foldl (fun u e => ?_) _ a) (State.engineOnly_foldl (fun u e => ?_) _ _)
  · split
    · exact u.engineOnly_readProd _ _
    · exact .refl u
  · exact u.engineOnly_readPay _ _

theorem State.flies_issueWaiting (a : State) (p : Port) : State.Flies a (a.issueWaiting p) :=
  (State.flies_issueValues _ a p).trans (State.engineOnly_reads _ p).only.flies

/-- With nothing waiting no read of a value line begins. -/
theorem State.issueWaiting_idle {a : State} {p : Port} (h : (a.port p).valueWait = []) : State.EngineOnly a (a.issueWaiting p) := by
  unfold State.issueWaiting
  rw [h]
  exact State.engineOnly_reads a p

theorem State.flies_serve (a : State) : State.Flies a a.serve :=
  ((State.flies_issueWaiting a .a).trans (State.flies_issueWaiting _ .b)).trans (State.engineOnly_visits _ _).only.flies

theorem State.serve_idle {a : State} (ha : (a.port .a).valueWait = []) (hb : (a.port .b).valueWait = []) : State.EngineOnly a a.serve := by
  have h1 := State.issueWaiting_idle ha
  have h2 := State.issueWaiting_idle ((h1.waits .b).trans hb)
  exact (h1.trans h2).trans (State.engineOnly_visits _ _)

end

/-! ## The rows of the value lines -/

/-- The rules of a value line read that is due (R148). -/
def State.lineRule (n : Nat) (s : State) : State :=
  match s.stream n with
  | none => s
  | some x =>
    if decide (x.st = .live ∨ x.st = .pending) && decide (x.cfg.source = 2) && decide (x.cfg.kind = 0) && s.readDue x then s.valueRead n
    else s

theorem exec_valueLineReadStart (s : State) (dt : Nat) (n : Fin 4096) :
    exec (.valueLineReadStart dt n) s = s.at_ dt (State.lineRule n.val) := rfl

/-- A stream when a value line read of it ends (R148, R346). -/
def Stream.lineRead (x : Stream) (nth k : Nat) (good : Bool) (data : List Byte) : Stream :=
  { x with
    vFlight := x.vFlight.eraseIdx nth, vline := if good then fitBytes 64 data else x.vline, vDone := if good then k + 1 else x.vDone }

/-- The rules of the end of a value line read (R148, R346). -/
def State.lineDoneRule (n nth : Nat) (ok : Bool) (data : List Byte) (s : State) : State :=
  match s.stream n with
  | none => s
  | some x =>
    match x.vFlight[nth]? with
    | none => s
    | some (k, t) =>
      (s.setStream n (x.lineRead nth k
        (ok && decide (s.clock - t ≤ (s.port x.cfg.vport).cplTmo * 1000) && decide (x.vDone ≤ k)) data)).serve

theorem exec_valueLineReadComplete (s : State) (dt : Nat) (n : Fin 4096) (nth : Nat) (ok : Bool) (data : List Byte) :
    exec (.valueLineReadComplete dt n nth ok data) s = s.at_ dt (State.lineDoneRule n.val nth ok data) := rfl

/-- A stream whose reads older than CPL_TMO are given up (R346). -/
def Stream.linesLeft (x : Stream) (s : State) : Stream :=
  { x with vFlight := x.vFlight.filter (fun e => decide (s.clock - e.2 < (s.port x.cfg.vport).cplTmo * 1000)) }

/-- The rules of a read timeout (R346). -/
def State.lineTimeoutRule (n : Nat) (s : State) : State := (s.modStream n (fun x => x.linesLeft s)).serve

theorem exec_valueLineReadTimeout (s : State) (dt : Nat) (n : Fin 4096) :
    exec (.valueLineReadTimeout dt n) s = s.at_ dt (State.lineTimeoutRule n.val) := rfl

section
variable {s : State} {dt n : Nat} {x : Stream} (hs : s.ready) (hx : s.stream n = some x)
include hs hx

omit hx in
theorem State.elapse_outReads (p : Port) : (s.elapse dt).outReads p = s.outReads p := by
  unfold State.outReads State.port
  rw [State.elapse_rep hs.2.2, State.elapse_dr]

omit hx in
/-- A row that changes one stream and lets the ring engine go on. -/
theorem answers_serves {c : Instr} {g : State → State} {y : Stream} (hc : exec c s = s.at_ dt g)
    (hg : g (s.elapse dt) = ((s.elapse dt).setStream n y).serve) :
    Answers c s (fun t => t = { s.elapse dt with rep := t.rep, dr := { s.dr with streams := t.dr.streams } } ∧
      ∃ l, ((s.port .a).valueWait = [] ∧ (s.port .b).valueWait = [] → l = []) ∧
        t.stream n = some { y with vFlight := y.vFlight ++ l }) := by
  obtain ⟨u, hu⟩ : ∃ u, (s.elapse dt).setStream n y = u := ⟨_, rfl⟩
  have hself : u.stream n = some y := hu ▸ State.setStream_self _ _ _
  have hrest : u = { s.elapse dt with dr := { s.dr with streams := u.dr.streams } } := by
    rw [← hu, ← State.elapse_dr (s := s) (dt := dt)]
    rfl
  have hport : ∀ p, u.port p = s.port p := fun p => by
    unfold State.port
    rw [hrest]
    show (s.elapse dt).rep.port p = _
    rw [State.elapse_rep hs.2.2]
  have hfl := u.flies_serve
  obtain ⟨l, hl⟩ := hfl.more n y hself
  refine answers_at hs hc ?_
  rw [hg, hu]
  have hidle := fun ha hb => (State.serve_idle (a := u) ha hb).only
  obtain ⟨t, ht⟩ : ∃ t, u.serve = t := ⟨_, rfl⟩
  rw [ht] at hfl hl hidle ⊢
  refine ⟨?_, ?_⟩
  · have h : t = { s.elapse dt with rep := t.rep, dr := { s.dr with streams := t.dr.streams } } := by
      rw [hfl.rest, hrest]
    exact congrArg (fun v : State => { v with rep := t.flush.rep }) h
  · by_cases hw : (s.port .a).valueWait = [] ∧ (s.port .b).valueWait = []
    · have h := hidle (by rw [hport]; exact hw.1) (by rw [hport]; exact hw.2)
      refine ⟨[], fun _ => rfl, ?_⟩
      have h2 : t.stream n = some y := by rw [h]; exact hself
      rw [List.append_nil]
      exact h2
    · exact ⟨l, fun h => absurd h hw, hl⟩

theorem answers_lineDone {nth k a : Nat} {data : List Byte} {m : Fin 4096} (hm : m.val = n) (hf : x.vFlight[nth]? = some (k, a)) :
    Answers (.valueLineReadComplete dt m nth true data) s (fun t =>
      t = { s.elapse dt with rep := t.rep, dr := { s.dr with streams := t.dr.streams } } ∧
      ∃ l, ((s.port .a).valueWait = [] ∧ (s.port .b).valueWait = [] → l = []) ∧
        t.stream n = some { x.lineRead nth k (decide (s.clock + dt - a ≤ (s.port x.cfg.vport).cplTmo * 1000) && decide (x.vDone ≤ k)) data
          with vFlight := x.vFlight.eraseIdx nth ++ l }) := by
  subst hm
  refine answers_serves (y := x.lineRead nth k _ data) hs (exec_valueLineReadComplete s dt m nth true data) ?_
  unfold State.lineDoneRule
  rw [State.elapse_stream, hx]
  simp only [hf]
  rw [State.elapse_clock, State.elapse_port hs.2.2, Bool.true_and]

theorem answers_lineTimeout {m : Fin 4096} (hm : m.val = n) :
    Answers (.valueLineReadTimeout dt m) s (fun t =>
      t = { s.elapse dt with rep := t.rep, dr := { s.dr with streams := t.dr.streams } } ∧
      ∃ l, ((s.port .a).valueWait = [] ∧ (s.port .b).valueWait = [] → l = []) ∧
        t.stream n = some { x with
          vFlight := x.vFlight.filter (fun e => decide (s.clock + dt - e.2 < (s.port x.cfg.vport).cplTmo * 1000)) ++ l }) := by
  subst hm
  have hy : x.linesLeft (s.elapse dt) = { x with
      vFlight := x.vFlight.filter (fun e => decide (s.clock + dt - e.2 < (s.port x.cfg.vport).cplTmo * 1000)) } := by
    unfold Stream.linesLeft
    rw [State.elapse_clock, State.elapse_port hs.2.2]
  refine answers_serves (y := { x with
      vFlight := x.vFlight.filter (fun e => decide (s.clock + dt - e.2 < (s.port x.cfg.vport).cplTmo * 1000)) })
    hs (exec_valueLineReadTimeout s dt m) ?_
  unfold State.lineTimeoutRule State.modStream
  rw [State.elapse_stream, hx]
  simp only
  rw [hy]

/-- A value line read that is due begins, with its number and its instant. -/
theorem answers_lineStart {m : Fin 4096} (hm : m.val = n) (hlive : x.st = .live) (hsrc : x.cfg.source = 2) (hkind : x.cfg.kind = 0)
    (hfor : x.vFor = []) (hin : x.relIn = some 0) (hdone : x.relDone = false)
    (hlead : (s.elapse dt).reached (s.tm.bound + BitVec.ofNat 64 (s.relOffset x.cfg) - BitVec.ofNat 64 (x.cfg.vlead.toNat * 1000)) = true)
    (hyet : (s.elapse dt).reached (s.tm.bound + BitVec.ofNat 64 (s.relOffset x.cfg)) = false)
    (hen : (s.port x.cfg.vport).portEn = true) (hcan : (s.port x.cfg.vport).canWrite = true) (hroom : s.readRoom x.cfg.vport = true) :
    Answers (.valueLineReadStart dt m) s (fun t =>
      s.putsOut t (.valueRead x.cfg.vport n x.cfg.vaddr) ∧
      t.stream n = some { x with vSeq := x.vSeq + 1, vFor := [some x.vSeq], vFlight := x.vFlight ++ [(x.vSeq, t.clock)] }) := by
  subst hm
  have hst : (s.elapse dt).stream m.val = some x := (State.elapse_stream s dt _).trans hx
  have hoff : (s.elapse dt).relOffset x.cfg = s.relOffset x.cfg := by rw [State.elapse_eq]; rfl
  have hdue : (s.elapse dt).readDue x = true := by
    unfold State.readDue State.turnsToRelease State.releaseInstant
    rw [hin, hdone, hfor]
    simp only [Bool.false_eq_true, if_false, List.length_nil, Nat.zero_mul, if_true]
    rw [hoff, State.elapse_tm, hlead, hyet]
    rfl
  have hen' : ((s.elapse dt).port x.cfg.vport).portEn = true := by rw [State.elapse_port hs.2.2]; exact hen
  have hcan' : ((s.elapse dt).port x.cfg.vport).canWrite = true := by rw [State.elapse_port hs.2.2]; exact hcan
  have hroom' : (s.elapse dt).readRoom x.cfg.vport = true := by
    unfold State.readRoom
    rw [State.elapse_outReads hs]
    exact hroom
  have hrule : State.lineRule m.val (s.elapse dt) = (s.elapse dt).valueRead m.val := by
    unfold State.lineRule
    rw [hst]
    simp only
    rw [hdue, if_pos (by simp [hlive, hsrc, hkind])]
  have htells := State.Tells.elapse hs dt
  obtain ⟨u, hu⟩ : ∃ u, s.elapse dt = u := ⟨_, rfl⟩
  have hg : State.valueRead u m.val =
      (((u.setStream m.val { x with vSeq := x.vSeq + 1, vFlight := x.vFlight ++ [(x.vSeq, u.clock)] }).emit
        (.valueRead x.cfg.vport m.val x.cfg.vaddr)).setStream m.val
        { x with vSeq := x.vSeq + 1, vFor := [some x.vSeq], vFlight := x.vFlight ++ [(x.vSeq, u.clock)] }) := by
    unfold State.valueRead
    rw [← hu, hst, hu]
    simp only
    unfold State.startValue
    simp only
    rw [← hu, hen', hcan', hroom', hu]
    simp only [Bool.and_self, if_true]
    unfold State.modStream
    rw [show ((u.setStream m.val { x with vSeq := x.vSeq + 1, vFlight := x.vFlight ++ [(x.vSeq, u.clock)] }).emit
      (.valueRead x.cfg.vport m.val x.cfg.vaddr)).stream m.val = some { x with vSeq := x.vSeq + 1, vFlight := x.vFlight ++ [(x.vSeq, u.clock)] }
      from State.setStream_self _ _ _]
    simp only
    rw [hfor]
    rfl
  have htells' := (hu ▸ htells).emit (b := u.setStream m.val { x with vSeq := x.vSeq + 1, vFlight := x.vFlight ++ [(x.vSeq, u.clock)] })
    (.valueRead x.cfg.vport m.val x.cfg.vaddr)
  rw [← hu] at hg htells'
  refine answers_reports hs (exec_valueLineReadStart s dt m) (hrule.trans hg) (State.RepOnly.refl _) htells' fun r told => ⟨?_, ?_⟩
  · exact told.outs _ List.mem_cons_self
  · exact State.setStream_self _ _ _

end

/-! ## Deadlines -/

theorem exec_releaseDeadline (s : State) (dt : Nat) (n : Fin 4096) :
    exec (.releaseDeadline dt n) s = s.at_ dt (fun u => u.deadline n.val) := rfl

/-- The stream of a release after its deadline has passed without a frame. -/
def Stream.missed (x : Stream) (r : Rel) : Stream :=
  Stream.judged { x with rels := [{ r with past := true }] } { r with past := true } none r.cov

theorem Stream.missed_counts (x : Stream) {r : Rel} (hold : r.old = false) :
    (x.missed r).rels = [] ∧ (x.missed r).misses = satCount (x.misses + 1) ∧ (x.missed r).minSlack = min x.minSlack (-(2 ^ 31)) ∧
    (x.missed r).uncovered = if r.cov then x.uncovered else satCount (x.uncovered + 1) := by
  unfold Stream.missed Stream.judged
  simp only [hold, Bool.false_eq_true, if_false]
  cases r.cov <;> simp

section
variable {u : State} {n : Nat} {x : Stream} {r : Rel} (hx : u.stream n = some x) (hrel : x.rels = [r]) (hun : r.unheard = true)
  (hdue : u.reached r.due = true)
include hx hrel hun hdue

/-- The stream, its last release passed. -/
theorem State.deadline_eq : u.deadline n =
    (u.setStream n { x with rels := [{ r with past := true }] }).judge n { r with past := true } none := by
  have hun' : Rel.unheard { r with past := true } = true := hun
  unfold State.deadline
  rw [hx]
  simp only [hrel, List.map_cons, List.map_nil, List.filter_cons, List.filter_nil, hdue, if_true, hun]
  rfl

theorem State.deadline_streams : (u.deadline n).stream n = some (x.missed r) := by
  rw [State.deadline_eq hx hrel hun hdue]
  exact (State.stream_of_streams (State.judge_streams (State.setStream_self _ _ _) _ _) n).trans (State.setStream_self _ _ _)

/-- What an uncovered miss reports. -/
theorem State.deadline_uncovered (hdesc : r.desc = none) (hcov : r.cov = false) : ∃ v : State, v = { u with dr := v.dr } ∧
    u.deadline n = (v.slub 0x0405 n (2 ^ 31 - 1) 0).raise 0x1A6 := by
  have hsat : (sat32 (2 ^ 31 - 1)).toNat = 2 ^ 31 - 1 := by decide
  rw [State.deadline_eq hx hrel hun hdue]
  unfold State.judge
  rw [State.setStream_self]
  simp only [hdesc, hcov, Option.getD_none, hsat]
  rw [if_pos (show (true && !false) = true from rfl)]
  exact ⟨_, rfl, rfl⟩

end

/-- Settles O30: a read that begins is numbered, the engine only begins more of them, and a deadline judges its release. -/
theorem valueLinesAndDeadlines : Obligations.ValueLinesAndDeadlines := by
  unfold Obligations.ValueLinesAndDeadlines
  intro s dt n x hs hx
  refine ⟨fun h1 h2 h3 h4 h5 h6 h7 h8 h9 h10 h11 => answers_lineStart hs hx rfl h1 h2 h3 h4 h5 h6 h7 h8 h9 h10 h11,
    fun nth k a data hf => answers_lineDone hs hx rfl hf, answers_lineTimeout hs hx rfl, ?_⟩
  intro r hrel hold hun hdesc hdue
  have hst : (s.elapse dt).stream n.val = some x := (State.elapse_stream s dt _).trans hx
  have hself := State.deadline_streams hst hrel hun hdue
  obtain ⟨c1, c2, c3, c4⟩ := x.missed_counts hold
  by_cases hcov : r.cov = true
  · exact answers_at hs (exec_releaseDeadline s dt n) ⟨_, hself, c1, c2, c3, c4, fun h => absurd (hcov.symm.trans h) (by decide)⟩
  · have hcov := Bool.eq_false_iff.2 hcov
    obtain ⟨v, hrest, hv⟩ := State.deadline_uncovered hst hrel hun hdue hdesc hcov
    rw [hv] at hself
    have hlive : v.regs.live = s.regs.live := by rw [hrest]; exact congrArg (·.live) (s.elapse_regs dt)
    have htells : s.Tells {} v.rep := by rw [hrest]; exact State.Tells.elapse hs dt
    have htells1 := htells.slub 0x0405 n.val (2 ^ 31 - 1) 0
    have hw : State.RepOnly v (v.slub 0x0405 n.val (2 ^ 31 - 1) 0) := (State.RepOnly.refl v).slub _ _ _ _
    generalize v.slub 0x0405 n.val (2 ^ 31 - 1) 0 = w at hv hself htells1 hw
    refine answers_reports hs (exec_releaseDeadline s dt n) hv (hw.raise 0x1A6) (htells1.raise 0x1A6 (by rw [hw]; exact hlive))
      fun r' told => ⟨_, ?_, c1, c2, c3, c4, fun _ => ⟨told.raises _ List.mem_cons_self, told.logs _ _ _ _ rfl⟩⟩
    rw [hw] at hself
    exact hself

end Sys2Proof.Machine
end

section
/-!
PROOFS. Commands at an instant of the turn schedule, and the loops of the twist engine: lanes and evaluations (R220, R221, R230, R233).
-/

namespace Sys2Proof.Machine

/-! ## An instant of the schedule -/

section
variable {s : State} {t : BitVec 64}

theorem State.advanceTo_eq (s : State) (t : BitVec 64) : s.advanceTo t = { s with
    now := (s.advanceTo t).now, frac := (s.advanceTo t).frac, clock := (s.advanceTo t).clock,
    rep := (s.advanceTo t).rep, ow := (s.advanceTo t).ow } := by
  unfold State.advanceTo
  simp only
  split
  · rw [State.newCycle_eq]
  · rfl

@[simp] theorem State.advanceTo_pending : (s.advanceTo t).pending = s.pending := by rw [State.advanceTo_eq]
@[simp] theorem State.advanceTo_free : (s.advanceTo t).free = s.free := by rw [State.advanceTo_eq]
@[simp] theorem State.advanceTo_dev : (s.advanceTo t).dev = s.dev := by rw [State.advanceTo_eq]
@[simp] theorem State.advanceTo_tm : (s.advanceTo t).tm = s.tm := by rw [State.advanceTo_eq]
@[simp] theorem State.advanceTo_regs : (s.advanceTo t).regs = s.regs := by rw [State.advanceTo_eq]
@[simp] theorem State.advanceTo_locks : (s.advanceTo t).locks = s.locks := by rw [State.advanceTo_eq]
@[simp] theorem State.advanceTo_cr : (s.advanceTo t).cr = s.cr := by rw [State.advanceTo_eq]
@[simp] theorem State.advanceTo_dr : (s.advanceTo t).dr = s.dr := by rw [State.advanceTo_eq]
@[simp] theorem State.advanceTo_fa : (s.advanceTo t).fa = s.fa := by rw [State.advanceTo_eq]
@[simp] theorem State.advanceTo_fd : (s.advanceTo t).fd = s.fd := by rw [State.advanceTo_eq]
@[simp] theorem State.advanceTo_lw : (s.advanceTo t).lw = s.lw := by rw [State.advanceTo_eq]
@[simp] theorem State.advanceTo_pl : (s.advanceTo t).pl = s.pl := by rw [State.advanceTo_eq]
@[simp] theorem State.advanceTo_tw : (s.advanceTo t).tw = s.tw := by rw [State.advanceTo_eq]
@[simp] theorem State.advanceTo_lio : (s.advanceTo t).lio = s.lio := by rw [State.advanceTo_eq]

theorem State.advanceTo_rep (h : s.steady) (t : BitVec 64) : (s.advanceTo t).rep = s.rep := by
  unfold State.advanceTo
  rw [State.newCycle_steady h]
  simp only
  split <;> rfl

/-- Time comes to an instant that lies ahead. -/
theorem State.advanceTo_ahead (h0 : (t - s.now).toNat ≠ 0) (h1 : (t - s.now).toNat < 2 ^ 63) :
    (s.advanceTo t).now = t ∧ (s.advanceTo t).clock = s.clock + s.refTime (t - s.now).toNat := by
  unfold State.advanceTo
  simp only
  rw [if_pos ⟨h0, h1⟩]
  exact ⟨rfl, rfl⟩

theorem State.Tells.advance (hs : s.ready) (t : BitVec 64) : s.Tells {} (s.advanceTo t).rep := by
  rw [State.advanceTo_rep hs.2.2]
  exact .start hs.2.1

theorem State.advanceTo_settled (hs : s.ready) (t : BitVec 64) : (s.advanceTo t).settled := by
  unfold State.settled
  rw [State.advanceTo_rep hs.2.2]
  exact hs.2.1

/-- What a command at its instant answers. -/
theorem answers_sched {c : Instr} {g : State → State} {P : State → Prop} (hs : s.ready) (hc : exec c s = s.sched t g)
    (hP : P (g (s.advanceTo t)).flush) : Answers c s P :=
  ⟨_, hc.trans (State.sched_up hs.1), hP⟩

theorem answers_sched_hears {c : Instr} {g : State → State} {P : State → Prop} {w : State} {k : Account} (hs : s.ready)
    (hc : exec c s = s.sched t g) (hg : g (s.advanceTo t) = w) (h : s.Hears k w.rep)
    (hP : ∀ r', s.Heard k { w with rep := r' } → P { w with rep := r' }) : Answers c s P := by
  refine answers_sched hs hc ?_
  rw [hg]
  exact hP _ h.heard

theorem answers_sched_settles {c : Instr} {g : State → State} {P : State → Prop} {v : State} (hs : s.ready)
    (hc : exec c s = s.sched t g) (hg : g (s.advanceTo t) = v) (hv : v.settled) (hP : P v) : Answers c s P := by
  refine answers_sched hs hc ?_
  rwa [hg, State.flush_rest hv]

end

/-! ## One loop -/

theorem State.setLoop_self (u : State) (k : Nat) (v : Loop) : (u.setLoop k v).loop k = v := Tbl.lookD_put_self _ _ _ _
theorem State.setLoop_ne (u : State) {k j : Nat} (v : Loop) (h : j ≠ k) : (u.setLoop k v).loop j = u.loop j := Tbl.lookD_put_ne _ _ _ _ h
theorem State.modLoop_self (u : State) (k : Nat) (f : Loop → Loop) : (u.modLoop k f).loop k = f (u.loop k) := State.setLoop_self _ _ _
theorem State.modLoop_ne (u : State) {k j : Nat} (f : Loop → Loop) (h : j ≠ k) : (u.modLoop k f).loop j = u.loop j :=
  State.setLoop_ne _ _ h

theorem State.loop_of_tw {a b : State} (h : b.tw.loops = a.tw.loops) (k : Nat) : b.loop k = a.loop k := by
  unfold State.loop
  rw [h]

theorem State.RepOnly.loop {a b : State} (h : State.RepOnly a b) (k : Nat) : b.loop k = a.loop k := State.loop_of_tw (by rw [h]) k

/-! ## Lanes take the loops that may start -/

/-- From a to b only more lanes run. -/
structure State.Issues (a b : State) : Prop where
  rest : b = { a with tw := { a.tw with running := b.tw.running } }
  more : ∀ e ∈ a.tw.running, e ∈ b.tw.running

section
variable {a b c : State}

theorem State.Issues.refl (a : State) : State.Issues a a := ⟨rfl, fun _ h => h⟩

theorem State.Issues.trans (h : State.Issues a b) (g : State.Issues b c) : State.Issues a c :=
  ⟨by rw [g.rest, h.rest], fun e he => g.more e (h.more e he)⟩

theorem State.Issues.loops (h : State.Issues a b) : b.tw.loops = a.tw.loops := by rw [h.rest]
theorem State.Issues.loop (h : State.Issues a b) (k : Nat) : b.loop k = a.loop k := State.loop_of_tw h.loops k
theorem State.Issues.regs (h : State.Issues a b) : b.regs = a.regs := by rw [h.rest]

theorem State.Issues.runs (h : State.Issues a b) {k : Nat} (hk : a.runs k = true) : b.runs k = true := by
  obtain ⟨e, he, hek⟩ := List.any_eq_true.1 hk
  exact List.any_eq_true.2 ⟨e, h.more e he, hek⟩

/-- A loop that may not start may not start while more lanes run. -/
theorem State.Issues.mayStart (h : State.Issues a b) {k : Nat} (hk : a.mayStart k = false) : b.mayStart k = false := by
  have hready : b.loopReady k = a.loopReady k := by
    unfold State.loopReady
    simp only [h.loop, h.regs]
  unfold State.mayStart at hk ⊢
  simp only [h.loop, hready] at hk ⊢
  cases hr : a.runs k with
  | true => simp [h.runs hr]
  | false =>
    rw [hr] at hk
    cases b.runs k with
    | true => simp
    | false => exact hk

end

theorem Tbl.mem_ins_of_absent {α : Type} {t : Tbl α} {k : Nat} {v : α} (h : Tbl.look t k = none) :
    (k, v) ∈ Tbl.ins t k v ∧ ∀ e ∈ t, e ∈ Tbl.ins t k v := by
  induction t with
  | nil => exact ⟨by simp [Tbl.ins], fun e he => (nomatch he)⟩
  | cons x t ih =>
    obtain ⟨j, y⟩ := x
    unfold Tbl.look at h
    have hjk : ¬ k = j := fun e => by simp [e] at h
    obtain ⟨ih1, ih2⟩ := ih (by simpa [hjk] using h)
    unfold Tbl.ins
    split
    · exact ⟨List.mem_cons_self, fun e he => List.mem_cons_of_mem _ he⟩
    · refine ⟨List.mem_cons_of_mem _ ih1, fun e he => ?_⟩
      rcases List.mem_cons.1 he with rfl | he
      · exact List.mem_cons_self
      · exact List.mem_cons_of_mem _ (ih2 e he)

/-- A lane takes a loop, where it is idle and one may start. -/
def State.issueLane (a : State) (l : Nat) : State :=
  if (Tbl.look a.tw.running l).isSome then a
  else
    match (loopsOf a.regs.live).find? (fun k => a.mayStart k) with
    | some k => { a with tw := { a.tw with running := Tbl.ins a.tw.running l k } }
    | none => a

theorem State.issueLoops_eq (u : State) :
    u.issueLoops = if decide (u.dev.st = .run) && u.tw.opened then u.tw.lanes.foldl State.issueLane u else u := rfl

/-- A lane is not idle, or no loop may start. -/
def State.laneServed (u : State) (l : Nat) : Prop :=
  Tbl.look u.tw.running l = none → ∀ i ∈ loopsOf u.regs.live, u.mayStart i = false

theorem State.issueLane_spec (a : State) (l : Nat) :
    State.Issues a (a.issueLane l) ∧ (∀ j, (Tbl.look a.tw.running j).isSome → (Tbl.look (a.issueLane l).tw.running j).isSome) ∧
    (a.issueLane l).laneServed l := by
  unfold State.issueLane
  split
  · rename_i h
    exact ⟨.refl a, fun _ h => h, fun h0 => by rw [h0] at h; cases h⟩
  · rename_i h
    have hnone : Tbl.look a.tw.running l = none := by simpa using h
    split
    · rename_i k _
      obtain ⟨-, hmore⟩ := Tbl.mem_ins_of_absent (v := k) hnone
      refine ⟨⟨rfl, hmore⟩, fun j hj => ?_, fun h0 => ?_⟩
      · by_cases hjl : j = l
        · subst hjl
          exact Option.isSome_iff_exists.2 ⟨_, Tbl.look_ins_self _ _ _⟩
        · show (Tbl.look (Tbl.ins a.tw.running l k) j).isSome
          rw [Tbl.look_ins_ne _ _ hjl]
          exact hj
      · have h0 : Tbl.look (Tbl.ins a.tw.running l k) l = none := h0
        rw [Tbl.look_ins_self] at h0
        cases h0
    · rename_i hf
      exact ⟨.refl a, fun _ h => h, fun _ i hi => by simpa using List.find?_eq_none.1 hf i hi⟩

theorem State.foldl_issueLane (l : List Nat) (a : State) :
    State.Issues a (l.foldl State.issueLane a) ∧
    (∀ j, (Tbl.look a.tw.running j).isSome → (Tbl.look (l.foldl State.issueLane a).tw.running j).isSome) ∧
    (∀ j, a.laneServed j → (l.foldl State.issueLane a).laneServed j) ∧ ∀ j ∈ l, (l.foldl State.issueLane a).laneServed j := by
  induction l generalizing a with
  | nil => exact ⟨.refl a, fun _ h => h, fun _ h => h, fun _ h => (nomatch h)⟩
  | cons x l ih =>
    obtain ⟨h1, h2, h3⟩ := a.issueLane_spec x
    obtain ⟨ih1, ih2, ih3, ih4⟩ := ih (a.issueLane x)
    refine ⟨h1.trans ih1, fun j hj => ih2 j (h2 j hj), fun j hj => ih3 j fun h0 i hi => ?_, fun j hj => ?_⟩
    · have hi' : i ∈ loopsOf a.regs.live := by rw [← h1.regs]; exact hi
      refine h1.mayStart (hj ?_ i hi')
      by_contra hne
      have := h2 j (Option.isSome_iff_ne_none.2 hne)
      rw [h0] at this
      cases this
    · rcases List.mem_cons.1 hj with rfl | hj
      · exact ih3 _ h3
      · exact ih4 j hj

/-- No lane is left idle while a loop may start (R220). -/
theorem State.issueLoops_spec (u : State) : State.Issues u u.issueLoops ∧
    (u.dev.st = .run → u.tw.opened = true → ∀ l ∈ u.tw.lanes, u.issueLoops.laneServed l) := by
  rw [State.issueLoops_eq]
  split
  · obtain ⟨h1, -, -, h4⟩ := State.foldl_issueLane u.tw.lanes u
    exact ⟨h1, fun _ _ => h4⟩
  · rename_i h
    refine ⟨.refl u, fun h1 h2 => ?_⟩
    rw [h1, h2] at h
    exact absurd rfl h

/-! ## An evaluation -/

/-- A loop's evaluation gives one value to each of its stages. -/
theorem length_evalLoop (t : Img) (k : Nat) (x : LoopIn_) : (evalLoop t k x).vals.length = stagesOf t k := by
  have hstep : ∀ (l : List Nat) (f : LoopEval → Nat → LoopEval) (_ : ∀ e i, (f e i).vals.length = e.vals.length + 1) (e : LoopEval),
      (l.foldl f e).vals.length = e.vals.length + l.length := by
    intro l f hf
    induction l with
    | nil => exact fun e => rfl
    | cons i l ih =>
      intro e
      rw [List.foldl_cons, ih, hf, List.length_cons]
      omega
  unfold evalLoop
  rw [hstep _ _ (fun e i => by simp), List.length_range]
  simp

/-- What the evaluation of a loop that a lane runs gives. -/
def State.result (s : State) (k : Nat) : LoopEval :=
  evalLoop s.regs.live k {
    dt := s.loopDt k, taps := s.taps s.soonOut k, stages := (s.loop k).stages, auto := decide ((s.loop k).mode = .auto)
    track := (s.loop k).out, flags := s.downFlags k }

/-- The state after an evaluation, but for what it reports. -/
def State.evalKept (s : State) (k : Nat) : State :=
  let s1 := (s.keepTaps s.soonOut k (List.range 8)).modLoop k (fun v => { v with eval := some (s.result k) })
  { s1 with tw := { s1.tw with cyc := (s1.clock - s1.tw.startAt) * 3 / 5 } }

theorem State.evaluate_eq (s : State) (k : Nat) : s.evaluate k =
    if (s.result k).replaced > 0 then ((s.evalKept k).countN (4096 + 4 * k) (s.result k).replaced).raiseOnce 0x222 0x222
    else s.evalKept k := rfl

theorem State.evalKept_spec (s : State) (k : Nat) :
    s.evalKept k = { s with tw := (s.evalKept k).tw } ∧ (∀ j, j ≠ k → (s.evalKept k).loop j = s.loop j) ∧
    (s.evalKept k).loop k = { s.loop k with eval := some (s.result k), taps := ((s.evalKept k).loop k).taps } := by
  obtain ⟨u, hu⟩ : ∃ u, s.keepTaps s.soonOut k (List.range 8) = u := ⟨_, rfl⟩
  have hself : ∃ tp, u.loop k = { s.loop k with taps := tp } := hu ▸ ⟨_, State.modLoop_self s k _⟩
  have hne : ∀ j, j ≠ k → u.loop j = s.loop j := fun j hj => hu ▸ State.modLoop_ne s _ hj
  have hrest : u = { s with tw := u.tw } := by rw [← hu]; rfl
  obtain ⟨tp, htp⟩ := hself
  obtain ⟨w, hw⟩ : ∃ w, u.modLoop k (fun v => { v with eval := some (s.result k) }) = w := ⟨_, rfl⟩
  have hwself : w.loop k = { s.loop k with taps := tp, eval := some (s.result k) } := by
    rw [← hw, State.modLoop_self, htp]
  have hwne : ∀ j, j ≠ k → w.loop j = s.loop j := fun j hj => by rw [← hw, State.modLoop_ne _ _ hj, hne j hj]
  have hwrest : w = { s with tw := w.tw } := by
    rw [← hw]
    show { u with tw := _ } = _
    rw [hrest]
    rfl
  have heq : s.evalKept k = { w with tw := { w.tw with cyc := (w.clock - w.tw.startAt) * 3 / 5 } } := by
    unfold State.evalKept
    rw [hu]
    simp only
    rw [hw]
  have hl : ∀ j, (s.evalKept k).loop j = w.loop j := fun j => State.loop_of_tw (by rw [heq]) j
  refine ⟨by rw [heq, hwrest], fun j hj => (hl j).trans (hwne j hj), ?_⟩
  rw [hl k, hwself]

theorem exec_loopEvaluationComplete (s : State) (dt : Nat) (k : Fin 256) :
    exec (.loopEvaluationComplete dt k) s = s.at_ dt (fun u => u.evalDone k.val) := rfl

/-- The lane of a loop is idle again. -/
def State.laneFreed (s : State) (k : Nat) : State :=
  { s with tw := { s.tw with running := s.tw.running.filter (fun e => decide (e.2 ≠ k)) } }

section
variable {s : State} {dt : Nat} (hs : s.ready) (k : Fin 256)
include hs

theorem answers_evaluation_stray (h : s.runs k.val = false) : Answers (.loopEvaluationComplete dt k) s (fun t => t = s.elapse dt) := by
  have hr : (s.elapse dt).runs k.val = false := by
    unfold State.runs at h ⊢
    rw [State.elapse_tw]
    exact h
  exact answers_settles hs (exec_loopEvaluationComplete s dt k) (if_neg (by rw [hr]; decide)) (State.elapse_settled hs dt) rfl

theorem answers_evaluation (hrun : s.dev.st = .run) (h : s.runs k.val = true) (hdead : (s.loop k.val).dead = false) :
    Answers (.loopEvaluationComplete dt k) s (fun t =>
      t = { s.elapse dt with tw := t.tw, rep := t.rep } ∧ (∀ j, j ≠ k.val → t.loop j = s.loop j) ∧
      ∃ e : LoopEval, t.loop k.val = { s.loop k.val with eval := some e, taps := (t.loop k.val).taps } ∧
        e.vals.length = stagesOf s.regs.live k.val ∧
        (0 < e.replaced → s.counts t (4096 + 4 * k.val) e.replaced ∧ (s.rep.first.contains 0x222 = false → s.raises t 0x222)) ∧
        (s.tw.opened = true → ∀ l ∈ t.tw.lanes, t.laneServed l)) := by
  have hr : (s.elapse dt).runs k.val = true := by
    unfold State.runs at h ⊢
    rw [State.elapse_tw]
    exact h
  obtain ⟨u, hu⟩ : ∃ u, (s.elapse dt).laneFreed k.val = u := ⟨_, rfl⟩
  have hrest : u = { s.elapse dt with tw := u.tw } := by rw [← hu]; rfl
  have hutw : u.tw = { s.tw with running := u.tw.running } := by
    rw [← hu, ← State.elapse_tw (s := s) (dt := dt)]
    rfl
  have hloop : ∀ j, u.loop j = s.loop j := State.loop_of_tw (by rw [hutw])
  have hlive : u.regs.live = s.regs.live := by rw [hrest]; exact congrArg (·.live) (s.elapse_regs dt)
  have hdev : u.dev = s.dev := by rw [hrest]; exact s.elapse_dev dt
  have htells : s.Tells {} u.rep := by rw [hrest]; exact State.Tells.elapse hs dt
  have hg : (s.elapse dt).evalDone k.val = (u.evaluate k.val).issueLoops := by
    unfold State.evalDone
    rw [if_pos hr]
    simp only
    rw [show ({ s.elapse dt with tw := { (s.elapse dt).tw with
      running := (s.elapse dt).tw.running.filter (fun e => decide (e.2 ≠ k.val)) } } : State) = u from hu, hloop, hdead,
      if_neg (by decide)]
  obtain ⟨hvrest, hvne, hvself⟩ := u.evalKept_spec k.val
  have hvlanes : (u.evalKept k.val).tw.opened = u.tw.opened := rfl
  have heval : ∃ w K, u.evaluate k.val = w ∧ State.RepOnly (u.evalKept k.val) w ∧ s.Tells K w.rep ∧
      (0 < (u.result k.val).replaced → (4096 + 4 * k.val, (u.result k.val).replaced) ∈ K.cts ∧ (0x222, 0x222) ∈ K.once) := by
    have ht : s.Tells {} (u.evalKept k.val).rep := by rw [hvrest]; exact htells
    have hlv : (u.evalKept k.val).regs.live = s.regs.live := by rw [hvrest]; exact hlive
    rw [State.evaluate_eq]
    generalize u.evalKept k.val = v at ht hlv
    generalize u.result k.val = e
    by_cases h0 : e.replaced > 0
    · rw [if_pos h0]
      exact ⟨_, _, rfl, ((State.RepOnly.refl v).countN _ _).raiseOnce _ _,
        (ht.countN (4096 + 4 * k.val) e.replaced).raiseFirst 0x222 0x222 hlv (by simp),
        fun _ => ⟨List.mem_cons_self, List.mem_cons_self⟩⟩
    · rw [if_neg h0]
      exact ⟨v, _, rfl, .refl v, ht, fun h => absurd h h0⟩
  obtain ⟨w, K, hw, hwv, hwt, hK⟩ := heval
  rw [hw] at hg
  have hlen : (u.result k.val).vals.length = stagesOf s.regs.live k.val := by rw [← hlive]; exact length_evalLoop _ _ _
  generalize u.result k.val = e at hvself hK hlen
  generalize u.evalKept k.val = v at hvrest hvne hvself hvlanes hwv
  obtain ⟨hiss, hserve⟩ := w.issueLoops_spec
  have hserve := hserve (by rw [hwv, hvrest]; exact (congrArg (·.st) hdev).trans hrun)
  generalize w.issueLoops = t at hg hiss hserve
  have htw : ∀ j, t.loop j = v.loop j := fun j => (hiss.loop j).trans (hwv.loop j)
  have htt : s.Tells K t.rep := by rw [hiss.rest]; exact hwt
  have hlanes : t.tw.lanes = w.tw.lanes := by rw [hiss.rest]
  refine answers_reports hs (exec_loopEvaluationComplete s dt k) hg (State.RepOnly.refl t) htt fun r told => ⟨?_, ?_, e, ?_, hlen, ?_, ?_⟩
  · have h1 : t = { s.elapse dt with tw := t.tw, rep := t.rep } := by rw [hiss.rest, hwv, hvrest, hrest]
    exact congrArg (fun x : State => { x with rep := r }) h1
  · exact fun j hj => ((htw j).trans (hvne j hj)).trans (hloop j)
  · have := (htw k.val).trans hvself
    rw [hloop, ← htw] at this
    exact this
  · exact fun h0 => ⟨told.counts (4096 + 4 * k.val, e.replaced) (hK h0).1, fun hf => told.once (0x222, 0x222) (hK h0).2 hf⟩
  · intro hop l hl
    exact hserve (by rw [hwv, hvlanes, hutw]; exact hop) l (hlanes ▸ hl)

end

/-- A loop that may start reads no loop that still has to finish. -/
theorem State.reads_of_mayStart {s : State} {i : Nat} (h : s.mayStart i = true) {j : Nat} (hj : j ∈ readsOf s.regs.live i)
    (hdue : (s.loop j).due = true) (hmode : (s.loop j).mode ≠ .off) : (s.loop j).eval.isSome = true := by
  unfold State.mayStart State.loopReady at h
  simp only [Bool.and_eq_true, List.all_eq_true, Bool.or_eq_true, Bool.not_eq_true', decide_eq_true_eq] at h
  rcases h.2 j hj with (h1 | h1) | h1
  · rw [hdue] at h1
    cases h1
  · exact absurd h1 hmode
  · exact h1

end Sys2Proof.Machine
end

section
/-!
PROOFS. The release point of a turn for the loops of a single device (R237, R243, R245, R248).
-/

namespace Sys2Proof.Machine

/-! ## What acts on one loop -/

/-- From a to b one loop changes, and with it images of streams and the reporting plane. -/
structure State.LoopAct (k : Nat) (a b : State) : Prop where
  rest : b = { a with tw := b.tw, dr := b.dr, rep := b.rep }
  others : ∀ j, j ≠ k → b.loop j = a.loop j
  grows : Rep.Grows a.rep b.rep
  whOld : b.rep.whOld = a.rep.whOld

theorem State.loopAct_frame (k : Nat) : Frame (State.LoopAct k) where
  refl a := ⟨rfl, fun _ _ => rfl, .refl _, rfl⟩
  trans := fun h g => ⟨by rw [g.rest, h.rest], fun j hj => (g.others j hj).trans (h.others j hj), h.grows.trans g.grows,
    g.whOld.trans h.whOld⟩
  rep _ _ hg hw := ⟨rfl, fun _ _ => rfl, hg, hw⟩

section
variable {k : Nat} {a b : State}

theorem State.LoopAct.setLoop (a : State) (k : Nat) (v : Loop) : State.LoopAct k a (a.setLoop k v) :=
  ⟨rfl, fun _ hj => State.setLoop_ne _ _ hj, .refl _, rfl⟩

theorem State.LoopAct.modLoop (a : State) (k : Nat) (f : Loop → Loop) : State.LoopAct k a (a.modLoop k f) := .setLoop _ _ _

theorem State.LoopAct.setStream (a : State) (k n : Nat) (x : Stream) : State.LoopAct k a (a.setStream n x) :=
  ⟨rfl, fun _ _ => rfl, .refl _, rfl⟩

theorem State.LoopAct.live (h : State.LoopAct k a b) : b.regs.live = a.regs.live := by rw [h.rest]
theorem State.LoopAct.plyMember (h : State.LoopAct k a b) : b.plyMember = a.plyMember := by rw [h.rest]; rfl

theorem State.LoopAct.hears {s : State} {K : Account} (h : State.LoopAct k a b) (ht : s.Hears K a.rep) : s.Hears K b.rep :=
  ht.mono h.grows h.whOld

end

/-! ## The counts and the mode of a loop -/

theorem State.loopStep_of {a b : State} {k : Nat} (hl : b.regs.live = a.regs.live) (hk : b.loop k = a.loop k) :
    b.loopStep k = a.loopStep k := by
  unfold State.loopStep
  rw [hl, hk]

/-- A loop that falls back reports it. -/
theorem State.fellBack_repOnly (u : State) (k c : Nat) : State.RepOnly u (u.fellBack k c) :=
  (((State.RepOnly.refl u).count _).slub _ _ _ _).raise _

/-- What a loop reports when its counts and its mode have taken effect. -/
def Account.settles (u : State) (k : Nat) (K : Account) : Prop :=
  (u.loop k).mode ≠ .off →
    ((u.loop k).due = true → (u.loop k).eval = none → (4096 + 4 * k + 1, 1) ∈ K.cts) ∧
    ((u.loopStep k).1.mode = .fallback → (u.loop k).mode ≠ .fallback → 0x230 + k / 8 ∈ K.srcs)

theorem State.settleLoop_off {u : State} {k : Nat} (h : (u.loop k).mode = .off) : u.settleLoop k = u := if_pos h

theorem State.settleLoop_act (u : State) (k : Nat) : State.LoopAct k u (u.settleLoop k) := by
  have F := State.loopAct_frame k
  unfold State.settleLoop
  simp only
  have h1 := State.LoopAct.setLoop u k (u.loopStep k).1
  have h2 := F.ite (p := ((u.loop k).due && (u.loop k).eval.isNone) = true) (F.count h1 (4096 + 4 * k + 1)) h1
  have h3 := F.ite (p := (u.loopStep k).1.mode = .fallback ∧ (u.loop k).mode ≠ .fallback)
    (F.raise (F.slub (F.count h2 (4096 + 4 * k + 2)) 0x0603 k (u.loopStep k).1.cause 0) (0x230 + k / 8)) h2
  exact F.ite (F.refl u) (F.ite (F.raise h3 _) h3)

theorem State.settleLoop_loop {u : State} {k : Nat} (h : (u.loop k).mode ≠ .off) : (u.settleLoop k).loop k = (u.loopStep k).1 := by
  unfold State.settleLoop
  simp only
  rw [if_neg h]
  have h1 : (u.setLoop k (u.loopStep k).1).loop k = (u.loopStep k).1 := State.setLoop_self _ _ _
  generalize u.setLoop k (u.loopStep k).1 = a at h1 ⊢
  have r1 : State.RepOnly a (if ((u.loop k).due && (u.loop k).eval.isNone) = true then a.count (4096 + 4 * k + 1) else a) :=
    .ite ((State.RepOnly.refl a).count _) (.refl a)
  generalize (if ((u.loop k).due && (u.loop k).eval.isNone) = true then a.count (4096 + 4 * k + 1) else a) = b at r1 ⊢
  have r2 : State.RepOnly b (if (u.loopStep k).1.mode = .fallback ∧ (u.loop k).mode ≠ .fallback then
      b.fellBack k (u.loopStep k).1.cause else b) := .ite (b.fellBack_repOnly k _) (.refl b)
  generalize (if (u.loopStep k).1.mode = .fallback ∧ (u.loop k).mode ≠ .fallback then
      b.fellBack k (u.loopStep k).1.cause else b) = c at r2 ⊢
  have r3 : State.RepOnly c (if (u.loopStep k).2 = true then c.raise 0x225 else c) := .ite ((State.RepOnly.refl c).raise _) (.refl c)
  exact ((r1.trans r2).trans r3).loop k |>.trans h1

section
variable {s : State}

theorem State.settleLoop_hears {u : State} {k : Nat} {K : Account} (ht : s.Hears K u.rep) (hlive : u.regs.live = s.regs.live) :
    ∃ K', (∀ i ∈ K.srcs, i ∈ K'.srcs) ∧ (∀ e ∈ K.cts, e ∈ K'.cts) ∧ s.Hears K' (u.settleLoop k).rep ∧ Account.settles u k K' := by
  by_cases hoff : (u.loop k).mode = .off
  · rw [State.settleLoop_off hoff]
    exact ⟨K, fun _ h => h, fun _ h => h, ht, fun h => absurd hoff h⟩
  unfold State.settleLoop Account.settles
  simp only
  rw [if_neg hoff]
  have h0 : s.Hears K (u.setLoop k (u.loopStep k).1).rep := ht
  have hl0 : (u.setLoop k (u.loopStep k).1).regs.live = s.regs.live := hlive
  generalize u.setLoop k (u.loopStep k).1 = a at h0 hl0 ⊢
  obtain ⟨b, K1, hb, hb1, hbl, hbs, hbc, hbd⟩ : ∃ b K1,
      (if ((u.loop k).due && (u.loop k).eval.isNone) = true then a.count (4096 + 4 * k + 1) else a) = b ∧ s.Hears K1 b.rep ∧
      b.regs.live = s.regs.live ∧ (∀ i ∈ K.srcs, i ∈ K1.srcs) ∧ (∀ e ∈ K.cts, e ∈ K1.cts) ∧
      ((u.loop k).due = true → (u.loop k).eval = none → (4096 + 4 * k + 1, 1) ∈ K1.cts) := by
    split
    · exact ⟨_, _, rfl, h0.count _, hl0, fun _ h => h, fun _ h => List.mem_cons_of_mem _ h, fun _ _ => List.mem_cons_self⟩
    · rename_i hn
      exact ⟨_, _, rfl, h0, hl0, fun _ h => h, fun _ h => h, fun h1 h2 => absurd (by rw [h1, h2]; rfl) hn⟩
  rw [hb]
  obtain ⟨c, K2, hc, hc1, hcl, hcs, hcc, hcd⟩ : ∃ c K2,
      (if (u.loopStep k).1.mode = .fallback ∧ (u.loop k).mode ≠ .fallback then b.fellBack k (u.loopStep k).1.cause else b) = c ∧
      s.Hears K2 c.rep ∧ c.regs.live = s.regs.live ∧ (∀ i ∈ K1.srcs, i ∈ K2.srcs) ∧ (∀ e ∈ K1.cts, e ∈ K2.cts) ∧
      ((u.loopStep k).1.mode = .fallback → (u.loop k).mode ≠ .fallback → 0x230 + k / 8 ∈ K2.srcs) := by
    split
    · have h1 := (hb1.count (4096 + 4 * k + 2)).slub 0x0603 k (u.loopStep k).1.cause 0
      exact ⟨_, _, rfl, h1.raise (0x230 + k / 8) hbl, hbl, fun _ h => List.mem_cons_of_mem _ h, fun _ h => List.mem_cons_of_mem _ h,
        fun _ _ => List.mem_cons_self⟩
    · rename_i hn
      exact ⟨_, _, rfl, hb1, hbl, fun _ h => h, fun _ h => h, fun h1 h2 => absurd ⟨h1, h2⟩ hn⟩
  rw [hc]
  have hgrow : Rep.Grows c.rep (if (u.loopStep k).2 = true then c.raise 0x225 else c).rep ∧
      (if (u.loopStep k).2 = true then c.raise 0x225 else c).rep.whOld = c.rep.whOld := by
    split
    · exact ⟨c.raise_grows _, (c.raise_same _).whOld⟩
    · exact ⟨.refl _, rfl⟩
  exact ⟨K2, fun i h => hcs i (hbs i h), fun e h => hcc e (hbc e h), hc1.mono hgrow.1 hgrow.2,
    fun _ => ⟨fun h1 h2 => hcc _ (hbd h1 h2), hcd⟩⟩

end

/-! ## A loop publishes -/

theorem State.sinkStream_act (u : State) (k j : Nat) (y : Word) :
    State.LoopAct k u (u.sinkStream k j y).1 ∧ (u.sinkStream k j y).1.loop k = u.loop k := by
  have F := State.loopAct_frame k
  unfold State.sinkStream
  simp only
  split
  · exact ⟨F.count (F.refl u) _, rfl⟩
  · split
    · exact ⟨.setStream u k _ _, rfl⟩
    · exact ⟨F.count (F.refl u) _, rfl⟩

theorem State.sinkPub_act (u : State) (k j : Nat) (y : Word) :
    State.LoopAct k u (u.sinkPub k j y) ∧ ∃ x, (u.sinkPub k j y).loop k = { u.loop k with sinks := x } := by
  have F := State.loopAct_frame k
  have hite : ∀ (p : Prop) [Decidable p] (x y : State × Bool × Bool), (State.LoopAct k u x.1 ∧ x.1.loop k = u.loop k) →
      (State.LoopAct k u y.1 ∧ y.1.loop k = u.loop k) →
      State.LoopAct k u (if p then x else y).1 ∧ (if p then x else y).1.loop k = u.loop k := fun p _ x y hx hy => by
    split
    · exact hx
    · exact hy
  unfold State.sinkPub
  simp only
  generalize hx : (ite (snkKind u.regs.live k j = 1 ∨ snkKind u.regs.live k j = 2) _ _ : State × Bool × Bool) = r
  have hr : State.LoopAct k u r.1 ∧ r.1.loop k = u.loop k := by
    rw [← hx]
    exact hite _ _ _ (u.sinkStream_act k j y) (hite _ _ _ ⟨F.refl u, rfl⟩
      (hite _ _ _ ⟨F.raise (F.refl u) _, ((State.RepOnly.refl u).raise _).loop k⟩ ⟨F.refl u, rfl⟩))
  exact ⟨F.trans hr.1 (.modLoop r.1 k _), _, (State.modLoop_self _ _ _).trans (by rw [hr.2])⟩

/-- No sink of a loop is voted on: a single device. -/
def noVotes : Nat → Option Vote := fun _ => none

theorem State.publish_act (u : State) (k : Nat) (votes : Nat → Option Vote) :
    State.LoopAct k u (u.publish k votes) ∧ ∃ x, (u.publish k votes).loop k = { u.loop k with
      out := (loopOutNow u.regs.live k (u.loop k) (u.loop k).eval (u.fbOut k (u.loop k)) votes).1
      outStale := (loopOutNow u.regs.live k (u.loop k) (u.loop k).eval (u.fbOut k (u.loop k)) votes).2
      eval := none, due := false, dead := false, sinks := x } := by
  have F := State.loopAct_frame k
  have hfold : ∀ (l : List Nat) (g : Nat → Option Word) (a : State), State.LoopAct k u a → (∃ x, a.loop k = { u.loop k with sinks := x }) →
      let b := l.foldl (fun (a : State) j => match g j with | some y => a.sinkPub k j y | none => a) a
      State.LoopAct k u b ∧ ∃ x, b.loop k = { u.loop k with sinks := x } := by
    intro l g
    induction l with
    | nil => exact fun a h1 h2 => ⟨h1, h2⟩
    | cons j l ih =>
      intro a h1 h2
      rw [List.foldl_cons]
      refine ih _ ?_ ?_
      · split
        · exact F.trans h1 (a.sinkPub_act k j _).1
        · exact h1
      · split
        · rename_i y _
          obtain ⟨x, hx⟩ := h2
          obtain ⟨z, hz⟩ := (a.sinkPub_act k j y).2
          exact ⟨z, by rw [hz, hx]⟩
        · exact h2
  unfold State.publish
  simp only
  generalize hb : List.foldl _ u _ = b
  have hspec : State.LoopAct k u b ∧ ∃ x, b.loop k = { u.loop k with sinks := x } := by
    rw [← hb]
    exact hfold _ (fun j => sinkValue u.regs.live k j (u.loop k) (u.loop k).eval (u.fbOut k (u.loop k)) votes) u (F.refl u) ⟨_, rfl⟩
  obtain ⟨h1, x, hx⟩ := hspec
  refine ⟨F.trans h1 (.modLoop _ k _), ?_⟩
  rw [State.modLoop_self, hx]
  exact ⟨_, rfl⟩

/-- Without votes a loop's mode alone decides its output. -/
theorem loopOutNow_noVotes (t : Img) (k : Nat) (v : Loop) (e : Option LoopEval) (fb : Word) :
    loopOutNow t k v e fb noVotes =
      match v.mode with
      | .auto => (match e with | some e => e.val (outStageOf t k) | none => (v.out, v.outStale))
      | .manual => if e.isSome then (v.man, false) else (v.out, v.outStale)
      | .fallback => (fb, false)
      | .off => (v.out, v.outStale) := by
  have hf : ∀ l : List Nat, l.findSome? (fun j => noVotes j) = none := fun l => by
    induction l with
    | nil => rfl
    | cons x l ih => exact ih
  unfold loopOutNow
  simp only [hf, ite_self] <;> rfl

/-! ## Loops that are abandoned -/

/-- A list built by taking some of another's members in turn. -/
theorem mem_foldl_taken {c : List Nat → Nat → Bool} (ks : List Nat) (acc : List Nat) (k : Nat) :
    (k ∈ ks.foldl (fun l i => if c l i then l ++ [i] else l) acc → k ∈ acc ∨ (k ∈ ks ∧ ∃ l, c l k = true)) ∧
    (k ∈ acc ∨ (k ∈ ks ∧ ∀ l, c l k = true) → k ∈ ks.foldl (fun l i => if c l i then l ++ [i] else l) acc) := by
  induction ks generalizing acc with
  | nil => exact ⟨fun h => .inl h, fun h => h.elim id fun h => (nomatch h.1)⟩
  | cons x ks ih =>
    obtain ⟨ih1, ih2⟩ := ih (if c acc x then acc ++ [x] else acc)
    refine ⟨fun h => ?_, fun h => ih2 ?_⟩
    · rcases ih1 h with h | ⟨h, l, hl⟩
      · split at h
        · rename_i hc
          rcases List.mem_append.1 h with h | h
          · exact .inl h
          · cases List.mem_singleton.1 h
            exact .inr ⟨List.mem_cons_self, _, hc⟩
        · exact .inl h
      · exact .inr ⟨List.mem_cons_of_mem _ h, l, hl⟩
    · rcases h with h | ⟨h, hl⟩
      · refine .inl ?_
        split
        · exact List.mem_append_left _ h
        · exact h
      · rcases List.mem_cons.1 h with rfl | h
        · rw [if_pos (hl acc)]
          exact .inl (List.mem_append_right _ List.mem_cons_self)
        · exact .inr ⟨h, hl⟩

/-- Is a loop abandoned, where those of a list are? -/
def State.abandons (s : State) (l : List Nat) (k : Nat) : Bool :=
  (s.loop k).due && decide ((s.loop k).mode ≠ .off) && ((s.loop k).eval.isNone || (readsOf s.regs.live k).any (fun j => l.contains j))

theorem State.abandonedLoops_eq (s : State) :
    s.abandonedLoops = (loopsOf s.regs.live).foldl (fun l k => if s.abandons l k then l ++ [k] else l) [] := rfl

theorem State.abandonedLoops_of {a b : State} (hl : b.regs.live = a.regs.live) (hk : ∀ k, b.loop k = a.loop k) :
    b.abandonedLoops = a.abandonedLoops := by
  rw [State.abandonedLoops_eq, State.abandonedLoops_eq]
  unfold State.abandons
  simp only [hl, hk]

section
variable {s : State} {k : Nat}

theorem State.of_abandoned (h : k ∈ s.abandonedLoops) : (s.loop k).due = true ∧ (s.loop k).mode ≠ .off := by
  rw [State.abandonedLoops_eq] at h
  rcases (mem_foldl_taken _ _ _).1 h with h | ⟨-, l, hl⟩
  · cases h
  · unfold State.abandons at hl
    simp only [Bool.and_eq_true, decide_eq_true_eq] at hl
    exact hl.1

theorem State.abandoned_of_pending (hk : k ∈ loopsOf s.regs.live) (hdue : (s.loop k).due = true) (hmode : (s.loop k).mode ≠ .off)
    (he : (s.loop k).eval = none) : k ∈ s.abandonedLoops := by
  rw [State.abandonedLoops_eq]
  refine (mem_foldl_taken _ _ _).2 (.inr ⟨hk, fun l => ?_⟩)
  unfold State.abandons
  rw [hdue, he]
  simp [hmode]

end

/-- From a to b loops change alone. -/
def State.LoopsOnly (a b : State) : Prop := b = { a with tw := { a.tw with loops := b.tw.loops } }

theorem State.foldl_dropped (l : List Nat) (a : State) :
    State.LoopsOnly a (l.foldl (fun (a : State) k => a.modLoop k (fun v => { v with eval := none })) a) ∧
    ∀ k, (l.foldl (fun (a : State) k => a.modLoop k (fun v => { v with eval := none })) a).loop k =
      if k ∈ l then { a.loop k with eval := none } else a.loop k := by
  induction l generalizing a with
  | nil => exact ⟨rfl, fun k => rfl⟩
  | cons x l ih =>
    obtain ⟨ih1, ih2⟩ := ih (a.modLoop x (fun v => { v with eval := none }))
    refine ⟨?_, fun k => ?_⟩
    · unfold State.LoopsOnly at ih1 ⊢
      rw [List.foldl_cons, ih1]
      rfl
    · rw [List.foldl_cons, ih2 k]
      by_cases hk : k = x
      · subst hk
        rw [State.modLoop_self, if_pos List.mem_cons_self, ite_self]
      · rw [State.modLoop_ne _ _ hk]
        simp only [List.mem_cons, hk, false_or]

theorem State.dropAbandoned_loop (s : State) (k : Nat) :
    s.dropAbandoned.loop k = if k ∈ s.abandonedLoops then { s.loop k with eval := none } else s.loop k :=
  (State.foldl_dropped _ _).2 k

theorem State.dropAbandoned_only (s : State) : State.LoopsOnly s s.dropAbandoned := (State.foldl_dropped _ _).1

/-! ## The release of the loops -/

/-- A loop once its mode is settled. -/
def State.settledLoop (z : State) (k : Nat) : Loop := if (z.loop k).mode = .off then z.loop k else (z.loopStep k).1

theorem State.settledLoop_of {a b : State} {k : Nat} (hl : b.regs.live = a.regs.live) (hk : b.loop k = a.loop k) :
    b.settledLoop k = a.settledLoop k := by
  unfold State.settledLoop
  rw [hk, State.loopStep_of hl hk]

/-- A loop once it has published, on a single device. -/
def Loop.published (v : Loop) (t : Img) (k : Nat) (fb : Word) (x : Tbl SinkSt) : Loop :=
  { v with
    out := (loopOutNow t k v v.eval fb noVotes).1, outStale := (loopOutNow t k v v.eval fb noVotes).2
    eval := none, due := false, dead := false, sinks := x }

theorem State.settle_fold {ks : List Nat} (hnd : ks.Nodup) (a : State) :
    (∀ k ∈ ks, (ks.foldl State.settleLoop a).loop k = a.settledLoop k) ∧
    (ks.foldl State.settleLoop a).regs.live = a.regs.live ∧ (ks.foldl State.settleLoop a).plyMember = a.plyMember ∧
    ∀ {s : State} {K : Account}, s.Hears K a.rep → a.regs.live = s.regs.live →
      ∃ K', (∀ i ∈ K.srcs, i ∈ K'.srcs) ∧ (∀ e ∈ K.cts, e ∈ K'.cts) ∧ s.Hears K' (ks.foldl State.settleLoop a).rep ∧
        ∀ k ∈ ks, Account.settles a k K' := by
  have hI : ∀ (b : State) (k : Nat), (b.regs.live = a.regs.live ∧ b.plyMember = a.plyMember) →
      ((b.settleLoop k).regs.live = a.regs.live ∧ (b.settleLoop k).plyMember = a.plyMember) := fun b k h =>
    ⟨(b.settleLoop_act k).live.trans h.1, (b.settleLoop_act k).plyMember.trans h.2⟩
  have hone : ∀ (b : State) (k j : Nat), j ≠ k → (b.settleLoop k).loop j = b.loop j := fun b k j hj => (b.settleLoop_act k).others j hj
  obtain ⟨h1, -, h3⟩ := foldl_units (get := State.loop) (f := State.settleLoop)
    (I := fun b : State => b.regs.live = a.regs.live ∧ b.plyMember = a.plyMember)
    (Q := fun k v w => v = a.loop k → w = a.settledLoop k) hone hI
    (fun b k hb hv => by
      rw [← State.settledLoop_of hb.1 hv]
      unfold State.settledLoop
      split
      · rename_i hoff
        rw [State.settleLoop_off hoff]
      · rename_i hoff
        exact State.settleLoop_loop hoff) ks hnd a ⟨rfl, rfl⟩
  refine ⟨fun k hk => h1 k hk rfl, h3.1, h3.2, fun {s K} ht hlive => ?_⟩
  obtain ⟨K', hs, hc, hK, hW⟩ := foldl_tells (get := State.loop) (f := State.settleLoop)
    (I := fun b : State => b.regs.live = a.regs.live) (H := fun K (b : State) => s.Hears K b.rep)
    (D := fun k v => v = a.loop k) (W := fun k K => Account.settles a k K) hone
    (fun b k hb => (b.settleLoop_act k).live.trans hb)
    (fun k K K' hW hs hc hoff => ⟨fun h1 h2 => hc _ ((hW hoff).1 h1 h2), fun h1 h2 => hs _ ((hW hoff).2 h1 h2)⟩)
    (fun b k K hb hK => by
      obtain ⟨K', hs, hc, hK', hW⟩ := State.settleLoop_hears (k := k) hK (hb.trans hlive)
      refine ⟨K', hs, hc, hK', fun hv => ?_⟩
      unfold Account.settles at hW ⊢
      rw [hv, State.loopStep_of hb hv] at hW
      exact hW)
    ks hnd a rfl K ht
  exact ⟨K', hs, hc, hK, fun k hk => hW k hk rfl⟩

theorem State.votesOf_single {u : State} (h : u.plyMember = false) (sets : List (Nat × List SinkVal)) (k : Nat) :
    u.votesOf sets k = noVotes := by
  unfold State.votesOf noVotes
  simp only [h, Bool.false_and, Bool.false_eq_true, if_false]

theorem State.publish_fold {ks : List Nat} (hnd : ks.Nodup) (sets : List (Nat × List SinkVal)) {a : State} (hply : a.plyMember = false) :
    let b := ks.foldl (fun (a : State) k => a.publish k (a.votesOf sets k)) a
    (∀ k ∈ ks, ∃ fb x, b.loop k = (a.loop k).published a.regs.live k fb x) ∧ b.regs.live = a.regs.live ∧
    ∀ {s : State} {K : Account}, s.Hears K a.rep → s.Hears K b.rep := by
  have hone : ∀ (b : State) (k j : Nat), j ≠ k → (b.publish k (b.votesOf sets k)).loop j = b.loop j := fun b k j hj =>
    (b.publish_act k _).1.others j hj
  obtain ⟨h1, -, h3⟩ := foldl_units (get := State.loop) (f := fun (a : State) k => a.publish k (a.votesOf sets k))
    (I := fun b : State => b.regs.live = a.regs.live ∧ b.plyMember = false ∧ ∀ {s : State} {K : Account}, s.Hears K a.rep → s.Hears K b.rep)
    (Q := fun k v w => ∃ fb x, w = v.published a.regs.live k fb x) hone
    (fun b k hb => ⟨(b.publish_act k _).1.live.trans hb.1, (b.publish_act k _).1.plyMember.trans hb.2.1,
      fun ht => (b.publish_act k _).1.hears (hb.2.2 ht)⟩)
    (fun b k hb => by
      obtain ⟨-, x, hx⟩ := b.publish_act k (b.votesOf sets k)
      rw [hb.1, State.votesOf_single hb.2.1] at hx
      exact ⟨_, x, (by rw [State.votesOf_single hb.2.1]; exact hx)⟩) ks hnd a ⟨rfl, hply, fun h => h⟩
  exact ⟨h1, h3.1, h3.2.2⟩

/-- The overrun of a turn is reported. -/
theorem State.overrun_spec {s u : State} {K : Account} (ht : s.Hears K u.rep) (hlive : u.regs.live = s.regs.live) :
    u.overrun.regs = u.regs ∧ u.overrun.plyMember = u.plyMember ∧ (∀ k, u.overrun.loop k = u.loop k) ∧
    ∃ K', (∀ i ∈ K.srcs, i ∈ K'.srcs) ∧ s.Hears K' u.overrun.rep ∧ (u.abandonedLoops ≠ [] → 0x220 ∈ K'.srcs) := by
  unfold State.overrun
  simp only
  split
  · rename_i h
    exact ⟨rfl, rfl, fun _ => rfl, K, fun _ h => h, ht, fun hne => absurd (List.length_eq_zero_iff.1 h) hne⟩
  · have h0 : s.Hears K ({ u with tw := { u.tw with abandoned := true } } : State).rep := ht
    have h1 := h0.slub 0x0602 u.abandonedLoops.length 0 0
    have r1 := ((State.RepOnly.refl { u with tw := { u.tw with abandoned := true } }).slub 0x0602 u.abandonedLoops.length 0 0).raise 0x220
    have h2 := h1.raise 0x220 hlive
    generalize State.raise _ 0x220 = w at r1 h2 ⊢
    exact ⟨by rw [r1], by rw [r1]; rfl, fun k => State.loop_of_tw (by rw [r1]) k, _, fun _ h => List.mem_cons_of_mem _ h, h2,
      fun _ => List.mem_cons_self⟩

/-- What the release of a loop starts from: an abandoned loop keeps nothing of its evaluation (R221). -/
def State.released (u : State) (k : Nat) : Loop := if k ∈ u.abandonedLoops then { u.loop k with eval := none } else u.loop k

section
variable {s u : State} {K : Account} (hply : u.plyMember = false) (hnd : (loopsOf u.regs.live).Nodup) (ht : s.Hears K u.rep)
  (hlive : u.regs.live = s.regs.live)
include hply hnd ht hlive

theorem State.releaseLoops_single : ∃ z : State, z.regs.live = u.regs.live ∧ (∀ k, z.loop k = u.released k) ∧
    (∀ k ∈ loopsOf u.regs.live, ∃ fb x, u.releaseLoops.loop k = (z.settledLoop k).published u.regs.live k fb x) ∧
    ∃ K', (∀ i ∈ K.srcs, i ∈ K'.srcs) ∧ s.Hears K' u.releaseLoops.rep ∧ (∀ k ∈ loopsOf u.regs.live, Account.settles z k K') ∧
      (∀ k ∈ loopsOf u.regs.live, k ∈ u.abandonedLoops → 0x220 ∈ K'.srcs) := by
  have hdrop := u.dropAbandoned_only
  have hloops := u.dropAbandoned_loop
  unfold State.releaseLoops
  simp only
  generalize u.dropAbandoned = a at hdrop hloops ⊢
  have hat : s.Hears K a.rep := by rw [hdrop]; exact ht
  have hal : a.regs.live = u.regs.live := by rw [hdrop]
  have hap : a.plyMember = false := by rw [hdrop]; exact hply
  have hpr : a.plyRelease a.outSets = a := if_neg (by rw [hap]; decide)
  rw [hpr]
  obtain ⟨ho1, ho2, ho3, K1, hK1, hK1t, hK1o⟩ := State.overrun_spec hat (hal.trans hlive)
  generalize a.overrun = z at ho1 ho2 ho3 hK1t ⊢
  obtain ⟨hs1, hs2, hs3, hs4⟩ := State.settle_fold hnd z
  have hzl : z.regs.live = u.regs.live := by rw [ho1, hal]
  obtain ⟨K2, hK2, -, hK2t, hK2s⟩ := hs4 hK1t (hzl.trans hlive)
  generalize (loopsOf u.regs.live).foldl State.settleLoop z = b at hs1 hs2 hs3 hK2t ⊢
  have hbp : b.plyMember = false := (hs3.trans ho2).trans hap
  rw [if_neg (by rw [hbp]; decide)]
  obtain ⟨hp1, -, hp3⟩ := State.publish_fold hnd a.outSets hbp
  refine ⟨z, hzl, fun k => (ho3 k).trans (hloops k), fun k hk => ?_, K2, fun i h => hK2 i (hK1 i h), hp3 hK2t, hK2s, fun k hk hab => ?_⟩
  · obtain ⟨fb, x, hx⟩ := hp1 k hk
    rw [hs1 k hk, hs2, hzl] at hx
    exact ⟨fb, x, hx⟩
  · refine hK2 _ (hK1o (List.ne_nil_of_mem (a := k) (State.abandoned_of_pending ?_ ?_ ?_ ?_)))
    · rw [hal]; exact hk
    · rw [hloops, if_pos hab]; exact (State.of_abandoned hab).1
    · rw [hloops, if_pos hab]; exact (State.of_abandoned hab).2
    · rw [hloops, if_pos hab]

end

/-! ## Commands to the outputs -/

/-- From a to b outputs and transfers across the bridge change, and the bridge's state stays. -/
structure State.SendsOver (a b : State) : Prop where
  rest : b = { a with fa := b.fa, lio := b.lio }
  up : b.fieldUp = a.fieldUp

theorem State.SendsOver.trans {a b c : State} (h : State.SendsOver a b) (g : State.SendsOver b c) : State.SendsOver a c :=
  ⟨by rw [g.rest, h.rest], g.up.trans h.up⟩

/-- An output's command is sent (R262). -/
def State.sendCommand (s a : State) (n : Nat) : State :=
  (a.sendOver (.output n)).modLoopOut n (fun o => { o with
    sent := if s.fieldUp then some (s.command n) else none, modeWait := false, failed := !o.causes.isEmpty
    run := if o.clearWait then 0 else o.run, clearWait := false, single := o.halfA || o.halfB })

theorem State.sendCommands_eq (s : State) : s.sendCommands = outputs.foldl (fun a n => s.sendCommand a n) s := rfl

theorem State.sendOver_sendsOver (a : State) (k : XferKind) : State.SendsOver a (a.sendOver k) := by
  unfold State.sendOver
  split
  · exact ⟨rfl, rfl⟩
  · exact ⟨rfl, rfl⟩

theorem State.sendCommand_sendsOver (s a : State) (n : Nat) : State.SendsOver a (s.sendCommand a n) :=
  (a.sendOver_sendsOver _).trans ⟨rfl, rfl⟩

theorem State.sendCommands_spec (s : State) : State.SendsOver s s.sendCommands ∧
    ∀ n, n < 8 → (s.sendCommands.loopOut n).modeWait = false ∧
      (s.sendCommands.loopOut n).sent = if s.fieldUp then some (s.command n) else none := by
  rw [State.sendCommands_eq]
  obtain ⟨h1, -, h3⟩ := foldl_units (get := State.loopOut) (f := fun a n => s.sendCommand a n) (I := fun a => State.SendsOver s a)
    (Q := fun n _ o => o.modeWait = false ∧ o.sent = if s.fieldUp then some (s.command n) else none)
    (fun a k j hj => by
      unfold State.sendCommand State.modLoopOut
      rw [State.setLoopOut_ne _ _ hj]
      unfold State.loopOut
      rw [State.sendOver_lio])
    (fun a k h => h.trans (s.sendCommand_sendsOver a k))
    (fun a k _ => by
      unfold State.sendCommand State.modLoopOut
      rw [State.setLoopOut_self]
      exact ⟨rfl, rfl⟩) outputs (by decide) s ⟨rfl, rfl⟩
  exact ⟨h3, fun n hn => h1 n (List.mem_range.2 hn)⟩

/-! ## The release point -/

theorem exec_releasePoint (s : State) :
    exec .releasePoint s = s.sched (s.offsetAt s.releaseUs) (fun u => if u.tm.releaseDone then u else u.releasePoint) := rfl

/-- The release point is reported and the lanes stop. -/
def State.releaseOpened (s : State) : State :=
  ({ s with tm := { s.tm with releaseDone := true }, tw := { s.tw with opened := false, running := [] } } : State).raise 0x042

theorem State.releasePoint_eq (s : State) : s.releasePoint =
    (if s.releaseOpened.dev.st = .run then s.releaseOpened.releaseLoops else s.releaseOpened).refreshTrip.sendCommands := rfl

theorem State.releaseOpened_spec (u : State) :
    u.releaseOpened = { u with
      tm := { u.tm with releaseDone := true }, tw := { u.tw with opened := false, running := [] }, rep := u.releaseOpened.rep } := rfl

theorem State.Tells.releaseOpened {s u : State} (h : s.Tells {} u.rep) (hlive : u.regs.live = s.regs.live) :
    s.Tells { srcs := [0x042] } u.releaseOpened.rep :=
  State.Tells.raise (b := { u with tm := { u.tm with releaseDone := true }, tw := { u.tw with opened := false, running := [] } })
    h 0x042 hlive

section
variable {u : State} {k : Nat}

/-- A loop in AUTO whose evaluation has completed takes it over, unless too many of them were stale (R243, R245). -/
theorem State.loopStep_completed {e : LoopEval} (hauto : (u.loop k).mode = .auto) (he : (u.loop k).eval = some e) :
    let y := (e.val (outStageOf u.regs.live k)).2
    (u.loopStep k).1.stages = e.stages ∧ (u.loopStep k).1.stale = y ∧ (u.loopStep k).1.ovrRun = 0 ∧ (u.loopStep k).1.eval = some e ∧
    (y = false → (u.loopStep k).1.mode = .auto ∧ (u.loopStep k).1.staleRun = 0) ∧
    (y = true → (u.loop k).staleRun + 1 < staleEvalsOf u.regs.live k →
      (u.loopStep k).1.mode = .auto ∧ (u.loopStep k).1.staleRun = (u.loop k).staleRun + 1) ∧
    (y = true → staleEvalsOf u.regs.live k ≤ (u.loop k).staleRun + 1 →
      (u.loopStep k).1.mode = .fallback ∧ (u.loopStep k).1.cause = 1) := by
  unfold State.loopStep
  simp only [he, hauto]
  cases hy : (e.val (outStageOf u.regs.live k)).2 with
  | false => simp
  | true =>
    simp only [if_true, and_true, true_and]
    by_cases hn : staleEvalsOf u.regs.live k ≤ (u.loop k).staleRun + 1
    · rw [if_pos hn]
      exact ⟨rfl, rfl, rfl, rfl, fun h => absurd h (by decide), fun _ h => absurd h (Nat.not_lt.2 hn), fun _ _ => ⟨rfl, rfl⟩⟩
    · rw [if_neg hn]
      simp [hn]

/-- A loop that is not completed keeps its stages, and counts (R221, R248). -/
theorem State.loopStep_abandoned (hdue : (u.loop k).due = true) (he : (u.loop k).eval = none) :
    (u.loopStep k).1.stages = (u.loop k).stages ∧ (u.loopStep k).1.ovrRun = min 3 ((u.loop k).ovrRun + 1) ∧
    (u.loopStep k).1.eval = none ∧ (u.loopStep k).1.out = (u.loop k).out ∧
    ((u.loop k).mode = .auto → (u.loop k).ovrRun < 2 → (u.loopStep k).1.mode = .auto) ∧
    ((u.loop k).mode = .auto → 2 ≤ (u.loop k).ovrRun → (u.loopStep k).1.mode = .fallback ∧ (u.loopStep k).1.cause = 2) := by
  unfold State.loopStep
  simp only [he, hdue, if_true]
  by_cases h : (u.loop k).mode = .auto ∧ min 3 ((u.loop k).ovrRun + 1) = 3
  · rw [if_pos h]
    exact ⟨rfl, rfl, rfl, rfl, fun _ h2 => by have := h.2; omega, fun _ _ => ⟨rfl, rfl⟩⟩
  · rw [if_neg h]
    exact ⟨rfl, rfl, rfl, rfl, fun h1 _ => h1, fun h1 h2 => absurd ⟨h1, by omega⟩ h⟩

end

/-- What the release of a turn makes of each loop. -/
theorem answers_releasePoint_single {s : State} (hs : s.ready) (hrun : s.dev.st = .run) (hply : s.plyMember = false)
    (hdone : s.tm.releaseDone = false) (hnd : (loopsOf s.regs.live).Nodup) :
    Answers .releasePoint s (fun t => ∃ z : State, z.regs.live = s.regs.live ∧ ∀ k ∈ loopsOf s.regs.live,
      z.loop k = s.released k ∧ (∃ fb x, t.loop k = (z.settledLoop k).published s.regs.live k fb x) ∧
      ((z.loop k).mode ≠ .off →
        ((z.loop k).due = true → (z.loop k).eval = none → s.counts t (4096 + 4 * k + 1) 1) ∧
        ((z.loopStep k).1.mode = .fallback → (z.loop k).mode ≠ .fallback → s.raises t (0x230 + k / 8))) ∧
      (k ∈ s.abandonedLoops → s.raises t 0x220)) := by
  have htells := State.Tells.advance hs (s.offsetAt s.releaseUs)
  have hat := s.advanceTo_eq (s.offsetAt s.releaseUs)
  have hlive : (s.advanceTo (s.offsetAt s.releaseUs)).regs.live = s.regs.live := by rw [State.advanceTo_regs]
  have htells := htells.releaseOpened hlive
  obtain ⟨u, hu⟩ : ∃ u, (s.advanceTo (s.offsetAt s.releaseUs)).releaseOpened = u := ⟨_, rfl⟩
  have hrest := (s.advanceTo (s.offsetAt s.releaseUs)).releaseOpened_spec
  rw [hu] at htells hrest
  have hul : u.regs.live = s.regs.live := by rw [hrest]; exact hlive
  have hup : u.plyMember = false := by
    rw [hrest, hat]
    exact hply
  have hud : u.dev.st = .run := by
    rw [hrest, hat]
    exact hrun
  have hloops : ∀ k, u.loop k = s.loop k := State.loop_of_tw (by rw [hrest, hat])
  have hab : u.abandonedLoops = s.abandonedLoops := State.abandonedLoops_of hul hloops
  have hrel : ∀ k, u.released k = s.released k := fun k => by
    unfold State.released
    rw [hab, hloops]
  obtain ⟨z, hzl, hz, hpub, K, -, hK, hsett, hover⟩ := State.releaseLoops_single hup (by rw [hul]; exact hnd) htells.hears hul
  rw [hul] at hpub hsett hover hzl
  obtain ⟨hsend, -⟩ := u.releaseLoops.refreshTrip.sendCommands_spec
  have hg : (if (s.advanceTo (s.offsetAt s.releaseUs)).tm.releaseDone then s.advanceTo (s.offsetAt s.releaseUs)
      else (s.advanceTo (s.offsetAt s.releaseUs)).releasePoint) = u.releaseLoops.refreshTrip.sendCommands := by
    rw [State.advanceTo_tm, hdone, if_neg (by decide), State.releasePoint_eq, hu, if_pos hud]
  generalize u.releaseLoops = v at hpub hK hsend hg
  have hw : v.refreshTrip.sendCommands.rep = v.rep ∧ v.refreshTrip.sendCommands.tw = v.tw := by
    rw [hsend.rest]
    exact ⟨rfl, rfl⟩
  generalize v.refreshTrip.sendCommands = w at hw hg
  refine answers_sched_hears hs (exec_releasePoint s) hg (hw.1 ▸ hK) fun r heard => ⟨z, hzl, fun k hk => ⟨(hz k).trans (hrel k), ?_, ?_, ?_⟩⟩
  · obtain ⟨fb, x, hx⟩ := hpub k hk
    exact ⟨fb, x, (State.loop_of_tw (congrArg (·.loops) hw.2) k).trans hx⟩
  · exact fun hm => ⟨fun h1 h2 => heard.counts (4096 + 4 * k + 1, 1) ((hsett k hk hm).1 h1 h2),
      fun h1 h2 => heard.raises _ ((hsett k hk hm).2 h1 h2)⟩
  · exact fun h => heard.raises _ (hover k hk (hab.symm ▸ h))

/-- Settles O41: a lane's result is the evaluation of its loop, and the release point settles and publishes each loop in turn. -/
theorem loopsEvaluateAndPublish : Obligations.LoopsEvaluateAndPublish := by
  unfold Obligations.LoopsEvaluateAndPublish
  intro s dt hs hrun hply
  refine ⟨fun k => ⟨fun h => answers_evaluation_stray hs k h, fun h hdead => (answers_evaluation hs k hrun h hdead).mono
    fun t ⟨h1, h2, e, h3, h4, h5, h6⟩ => ⟨h1, h2, e, h3, h4, h5, fun hop l hl hn i hi => ?_⟩⟩, fun i hi j hj hdue hm =>
      State.reads_of_mayStart hi hj hdue hm, fun hdone hnd => (answers_releasePoint_single hs hrun hply hdone hnd).mono
    fun t ⟨z, hzl, hk⟩ k hmem => ?_⟩
  · have hl' : t.regs.live = s.regs.live := by rw [h1]; exact congrArg (·.live) (s.elapse_regs dt)
    exact h6 hop l hl hn i (hl' ▸ hi)
  obtain ⟨hz, ⟨fb, x, hw⟩, hrep, hover⟩ := hk k hmem
  unfold State.settledLoop at hw
  refine ⟨fun e hnab hauto he => ?_, fun hab => ?_, fun hoff => ?_⟩
  · have hz : z.loop k = s.loop k := hz.trans (if_neg hnab)
    rw [← hz] at hauto he ⊢
    have hne : (z.loop k).mode ≠ .off := by rw [hauto]; decide
    obtain ⟨h1, h2, h3, h4, h5, h6, h7⟩ := State.loopStep_completed hauto he
    rw [hzl] at h2 h5 h6 h7
    rw [if_neg hne] at hw
    rw [hw]
    refine ⟨h1, h2, h3, rfl, rfl, fun hy => ?_, fun hy hn => ?_, fun hy hn => ?_⟩
    · unfold Loop.published
      rw [loopOutNow_noVotes, h4]
      simp only [(h5 hy).1]
      exact ⟨trivial, trivial, hy, (h5 hy).2⟩
    · unfold Loop.published
      rw [loopOutNow_noVotes, h4]
      simp only [(h6 hy hn).1]
      exact ⟨trivial, (h6 hy hn).2, trivial, hy⟩
    · exact ⟨(h7 hy hn).1, (h7 hy hn).2, (hrep hne).2 (h7 hy hn).1 (by rw [hauto]; decide)⟩
  · obtain ⟨hdue, hmode⟩ := State.of_abandoned hab
    have hz : z.loop k = { s.loop k with eval := none } := hz.trans (if_pos hab)
    have hzm : (z.loop k).mode = (s.loop k).mode := by rw [hz]
    have hzd : (z.loop k).due = true := by rw [hz]; exact hdue
    have hze : (z.loop k).eval = none := by rw [hz]
    have hne : (z.loop k).mode ≠ .off := by rw [hzm]; exact hmode
    obtain ⟨h1, h2, h3, h4, h5, h6⟩ := State.loopStep_abandoned hzd hze
    have hzs : (z.loop k).stages = (s.loop k).stages := by rw [hz]
    have hzo : (z.loop k).ovrRun = (s.loop k).ovrRun := by rw [hz]
    have hzout : (z.loop k).out = (s.loop k).out := by rw [hz]
    rw [if_neg hne] at hw
    rw [hw]
    refine ⟨hover hab, (hrep hne).1 hzd hze, h1.trans hzs, rfl, h2.trans (by rw [hzo]), fun ⟨ha, ho⟩ => ?_, fun ⟨ha, ho⟩ => ?_⟩
    · have hm := h5 (hzm.trans ha) (by rw [hzo]; exact ho)
      unfold Loop.published
      rw [loopOutNow_noVotes, h3]
      simp only [hm]
      exact ⟨trivial, h4.trans hzout⟩
    · exact h6 (hzm.trans ha) (by rw [hzo]; exact ho)
  · have hnab : k ∉ s.abandonedLoops := fun h => (State.of_abandoned h).2 hoff
    have hz : z.loop k = s.loop k := hz.trans (if_neg hnab)
    rw [hz, if_pos hoff] at hw
    rw [hw]
    unfold Loop.published
    rw [loopOutNow_noVotes]
    simp only [hoff]
    exact ⟨trivial, trivial⟩

end Sys2Proof.Machine
end

section
/-!
PROOFS. What reports and the ring engine leave of a port: its settings, its stack, and of its rings all that does not move with the
entries and the reads themselves.
-/

namespace Sys2Proof.Machine

/-! ## What stays of a port -/

/-- What entries and completions leave of a skein. -/
def Ring.asSkein (g : Ring) : Ring :=
  { g with own := 0, lost := 0, reserved := 0, lastNotify := none, deferred := false, waiting := [] }

/-- What completions and reads leave of a distaff. -/
def Ring.asDistaff (g : Ring) : Ring := { g with claims := [], reading := [], wantProd := false, flight := [], payAt := none, payTries := 0 }

/-- From q to x reports are made for a port and reads are issued for it. -/
structure PortSt.Turn (q x : PortSt) : Prop where
  rest : x = { q with
    src := x.src, fresh := x.fresh, freshAt := x.freshAt, ds := x.ds, sk := x.sk, visit := x.visit, valueWait := x.valueWait
    outstanding := x.outstanding, msixPend := x.msixPend }
  quiet : q.canWrite = false → x.outstanding = q.outstanding ∧ x.msixPend = q.msixPend
  ds : ∀ d, (x.dsr d).asDistaff = (q.dsr d).asDistaff
  sk : ∀ k, (x.skn k).asSkein = (q.skn k).asSkein
  wfDs : Tbl.wf {} q.ds = true → Tbl.wf {} x.ds = true
  wfSk : Tbl.wf {} q.sk = true → Tbl.wf {} x.sk = true

/-- From a to b reports are made and reads are issued. -/
def Rep.Turns (a b : Rep) : Prop := ∀ p, PortSt.Turn (a.port p) (b.port p)

section
variable {a b c : Rep}

theorem PortSt.Turn.refl (q : PortSt) : PortSt.Turn q q :=
  ⟨rfl, fun _ => ⟨rfl, rfl⟩, fun _ => rfl, fun _ => rfl, fun h => h, fun h => h⟩

theorem PortSt.Turn.canWrite {q x : PortSt} (h : PortSt.Turn q x) : x.canWrite = q.canWrite := by
  rw [h.rest]
  rfl

theorem PortSt.Turn.trans {q x y : PortSt} (h : PortSt.Turn q x) (g : PortSt.Turn x y) : PortSt.Turn q y := by
  refine ⟨?_, fun hq => ?_, fun d => (g.ds d).trans (h.ds d), fun k => (g.sk k).trans (h.sk k),
    fun w => g.wfDs (h.wfDs w), fun w => g.wfSk (h.wfSk w)⟩
  · rw [g.rest, h.rest]
  · obtain ⟨h1, h2⟩ := h.quiet hq
    obtain ⟨g1, g2⟩ := g.quiet (h.canWrite.trans hq)
    exact ⟨g1.trans h1, g2.trans h2⟩

theorem Rep.Turns.of_port (h : ∀ p, b.port p = a.port p) : Rep.Turns a b := fun p => by
  rw [h p]
  exact .refl _

theorem Rep.Turns.refl (a : Rep) : Rep.Turns a a := .of_port fun _ => rfl

theorem Rep.Turns.trans (h : Rep.Turns a b) (g : Rep.Turns b c) : Rep.Turns a c := fun p => (h p).trans (g p)

theorem Rep.RingsKept.turns (h : Rep.RingsKept a b) : Rep.Turns a b := fun p => by
  obtain ⟨x, y, z, hp⟩ := h p
  rw [hp]
  exact ⟨rfl, fun _ => ⟨rfl, rfl⟩, fun _ => rfl, fun _ => rfl, fun h => h, fun h => h⟩

theorem Rep.turns_setPort {r : Rep} {p : Port} {x : PortSt} (h : PortSt.Turn (r.port p) x) : Rep.Turns r (r.setPort p x) := fun q => by
  by_cases hq : q = p
  · subst hq
    rw [Rep.port_setPort_self]
    exact h
  · rw [Rep.port_setPort_ne _ _ hq]
    exact .refl _

theorem Rep.turns_setSk {r : Rep} {p : Port} {k : Nat} {g : Ring} (h : g.asSkein = ((r.port p).skn k).asSkein) :
    Rep.Turns r (r.setSk p k g) := by
  refine Rep.turns_setPort ⟨rfl, fun _ => ⟨rfl, rfl⟩, fun _ => rfl, fun j => ?_, fun h => h, Tbl.wf_put⟩
  show Ring.asSkein (Tbl.lookD (Tbl.put (r.port p).sk k {} g) j {}) = _
  by_cases hj : j = k
  · subst hj
    rw [Tbl.lookD_put_self]
    exact h
  · rw [Tbl.lookD_put_ne _ _ _ _ hj]
    rfl

theorem Rep.turns_setDs {r : Rep} {p : Port} {d : Nat} {g : Ring} (h : g.asDistaff = ((r.port p).dsr d).asDistaff) :
    Rep.Turns r (r.setDs p d g) := by
  refine Rep.turns_setPort ⟨rfl, fun _ => ⟨rfl, rfl⟩, fun j => ?_, fun _ => rfl, Tbl.wf_put, fun h => h⟩
  show Ring.asDistaff (Tbl.lookD (Tbl.put (r.port p).ds d {} g) j {}) = _
  by_cases hj : j = d
  · subst hj
    rw [Tbl.lookD_put_self]
    exact h
  · rw [Tbl.lookD_put_ne _ _ _ _ hj]
    rfl

theorem Rep.turns_foldl {α : Type} {f : Rep → α → Rep} (hf : ∀ r x, Rep.Turns r (f r x)) (l : List α) (r : Rep) :
    Rep.Turns r (l.foldl f r) := by
  induction l generalizing r with
  | nil => exact .refl r
  | cons x l ih => exact (hf r x).trans (ih _)

theorem Rep.turns_ite {p : Prop} [Decidable p] (h : Rep.Turns a b) (g : Rep.Turns a c) : Rep.Turns a (if p then b else c) := by
  split
  · exact h
  · exact g

/-! ## Reports -/

theorem Rep.turns_emit (r : Rep) (o : Output) : Rep.Turns r (r.emit o) := .of_port fun _ => rfl
theorem Rep.turns_fire (r : Rep) (x : Ctx) (i : Nat) : Rep.Turns r (r.fire x i) := (Rep.ringsKept_fire r x i).turns
theorem Rep.turns_count (r : Rep) (x : Ctx) (i n : Nat) : Rep.Turns r (r.count x i n) := (Rep.ringsKept_count r x i n).turns

theorem Rep.turns_fireOnce (r : Rep) (x : Ctx) (g i : Nat) : Rep.Turns r (r.fireOnce x g i) := by
  unfold Rep.fireOnce
  split
  · exact .refl r
  · exact Rep.Turns.trans (b := { r with first := r.first ++ [g] }) (.of_port fun _ => rfl) (Rep.turns_fire _ _ _)

theorem Rep.turns_writeHeader (r : Rep) (x : Ctx) (p : Port) : Rep.Turns r (r.writeHeader x p) := by
  unfold Rep.writeHeader
  simp only
  split
  · exact r.turns_emit _
  · exact .refl r

theorem Rep.turns_notify (r : Rep) (x : Ctx) (p : Port) (k : Nat) : Rep.Turns r (r.notify x p k) := by
  have hset : ∀ l d, Rep.Turns r (r.setSk p k { (r.port p).skn k with lastNotify := l, deferred := d }) := fun _ _ =>
    Rep.turns_setSk rfl
  unfold Rep.notify
  simp only
  split
  · exact .refl r
  · exact Rep.turns_ite ((hset _ _).trans (Rep.turns_fire _ _ _)) (hset ((r.port p).skn k).lastNotify true)

theorem Rep.turns_writeEntry (r : Rep) (x : Ctx) (p : Port) (k : Nat) (e : EntryBody) : Rep.Turns r (r.writeEntry x p k e) := by
  have hset : Rep.Turns r (r.setSk p k { (r.port p).skn k with own := ((r.port p).skn k).own + 1, lost := 0 }) := Rep.turns_setSk rfl
  unfold Rep.writeEntry
  simp only
  exact ((((hset.trans (Rep.turns_emit _ _)).trans (Rep.turns_emit _ _)).trans (Rep.turns_writeHeader _ _ _)).trans
    (Rep.turns_notify _ _ _ _))

theorem Rep.turns_entry (r : Rep) (x : Ctx) (p : Port) (k : Nat) (e : EntryBody) : Rep.Turns r (r.entry x p k e).1 := by
  unfold Rep.entry
  simp only
  split
  · dsimp only
    exact r.turns_writeEntry x p k e
  · exact Rep.Turns.trans (Rep.turns_setSk (g := { (r.port p).skn k with lost := ((r.port p).skn k).lost + 1 }) rfl) (Rep.turns_count _ _ _ _)

theorem Rep.turns_complete (r : Rep) (x : Ctx) (p : Port) (k : Nat) (e : EntryBody) : Rep.Turns r (r.complete x p k e) := by
  have hset : Rep.Turns r (r.setSk p k { (r.port p).skn k with reserved := ((r.port p).skn k).reserved - 1 }) := Rep.turns_setSk rfl
  unfold Rep.complete
  simp only
  split
  · exact hset.trans (Rep.turns_count _ _ _ _)
  · split
    · exact hset.trans (Rep.turns_writeEntry _ _ _ _ _)
    · exact Rep.turns_setSk rfl

theorem Rep.turns_flushWaiting (n : Nat) (x : Ctx) (r : Rep) (p : Port) (k : Nat) : Rep.Turns r (Rep.flushWaiting n x r p k) := by
  induction n generalizing r with
  | zero => exact .refl r
  | succ n ih =>
    unfold Rep.flushWaiting
    simp only
    split
    · exact .refl r
    · rename_i b bs _
      have hset : Rep.Turns r (r.setSk p k { (r.port p).skn k with waiting := bs, reserved := ((r.port p).skn k).reserved - 1 }) :=
        Rep.turns_setSk rfl
      split
      · exact (hset.trans (Rep.turns_writeEntry _ _ _ _ _)).trans (ih _)
      · exact .refl r

/-! ## The end of an instant -/

theorem Rep.turns_slubSkeins (r : Rep) (x : Ctx) (s : Slub) : Rep.Turns r (r.slubSkeins x s) := by
  unfold Rep.slubSkeins
  have h1 := Rep.turns_ite (p := bitOf (x.reg 0xF0000) 7 = true) (Rep.turns_entry r x .a (x.fld 0xF0000 0 7) (.slub s)) (Rep.Turns.refl r)
  exact Rep.turns_ite (Rep.turns_ite (h1.trans (Rep.turns_entry _ _ _ _ _)) h1) (.refl r)

theorem Rep.turns_writeSlub (r : Rep) (x : Ctx) (q : SlubReq) : Rep.Turns r (r.writeSlub x q) := by
  unfold Rep.writeSlub
  simp only
  generalize hb : ({ r with log := _, total := _, slubsTurn := _, stopSeen := _ } : Rep) = b
  have hb' : Rep.Turns r b := .of_port fun p => by rw [← hb]; rfl
  have h2 := Rep.turns_ite (p := (Tbl.look r.log (r.total.toNat % 4096)).isSome = true) (hb'.trans (Rep.turns_count b x 5765 1)) hb'
  generalize (if (Tbl.look r.log (r.total.toNat % 4096)).isSome = true then b.count x 5765 1 else b) = c at h2 ⊢
  generalize hs : ({ time := q.time, turn := q.turn, block := _, sev := _, code := _, seq := _, d0 := _, d1 := _, d2 := _ } : Slub) = sl
  have h3 := h2.trans (Rep.turns_slubSkeins c x sl)
  generalize c.slubSkeins x sl = d at h3 ⊢
  have h4 := Rep.turns_ite (p := x.fld 0xF0000 20 3 ≤ slubSev q.code q.d2) (h3.trans (Rep.turns_fire _ x 0x004)) h3
  exact Rep.turns_ite (h4.trans (.of_port fun _ => rfl)) h4

theorem Rep.turns_writeSlubs (r : Rep) (x : Ctx) : Rep.Turns r (r.writeSlubs x) :=
  Rep.Turns.trans (b := { r with slubReqs := [] }) (.of_port fun _ => rfl) (Rep.turns_foldl (fun r q => r.turns_writeSlub x q) _ _)

theorem Rep.turns_pushHank (r : Rep) (x : Ctx) (k sub aux : Nat) (body : BitVec 64) : Rep.Turns r (r.pushHank x k sub aux body).1 := by
  have hdrop : Rep.Turns r ({ r with hkDropped := r.hkDropped + 1, hkTurnDrops := r.hkTurnDrops + 1, hkTotal := r.hkTotal + 1 } : Rep) :=
    .of_port fun _ => rfl
  unfold Rep.pushHank
  simp only
  split
  · split
    · split
      · exact .of_port fun _ => rfl
      · exact hdrop.trans (Rep.turns_count _ _ _ _)
    · exact .of_port fun _ => rfl
  · exact hdrop.trans (Rep.turns_count _ _ _ _)

theorem Rep.turns_pushHanks (r : Rep) (x : Ctx) : Rep.Turns r (r.pushHanks x).1 := by
  have hfold : ∀ (l : List HankReq) (y : Rep × Bool), Rep.Turns r y.1 → Rep.Turns r (l.foldl (fun (a : Rep × Bool) q =>
      let z := a.1.pushHank x q.kind q.sub q.aux q.body
      (z.1, a.2 || z.2)) y).1 := by
    intro l
    induction l with
    | nil => exact fun _ h => h
    | cons q l ih => exact fun y h => ih _ (h.trans (Rep.turns_pushHank y.1 x q.kind q.sub q.aux q.body))
  exact hfold _ ({ r with hankReqs := [] }, false) (.of_port fun _ => rfl)

theorem Rep.turns_writeAll (r : Rep) (x : Ctx) : Rep.Turns r (r.writeAll x) := by
  have h1 := (Rep.turns_writeSlubs r x).trans (Rep.turns_pushHanks _ x)
  unfold Rep.writeAll
  simp only
  split
  · exact ((h1.trans (Rep.turns_writeSlub _ x _)).trans (Rep.turns_fire _ x 0x028)).trans (Rep.turns_pushHanks _ x)
  · exact h1

theorem Rep.turns_evalReq (r : Rep) (x : Ctx) (p : Port) : Rep.Turns r (r.evalReq x p) := by
  have hset : ∀ m, (r.port p).canWrite = true → Rep.Turns r (r.setPort p { r.port p with outstanding := true, msixPend := m }) := fun m hw =>
    Rep.turns_setPort ⟨rfl, fun h => absurd (hw.symm.trans h) (by decide), fun _ => rfl, fun _ => rfl, fun h => h, fun h => h⟩
  unfold Rep.evalReq
  simp only
  split
  · rename_i h
    have hw : (r.port p).canWrite = true := by
      simp only [Bool.and_eq_true] at h
      exact h.2
    split
    · exact hset _ hw
    · exact (hset (r.port p).msixPend hw).trans (Rep.turns_emit _ _)
  · exact .refl r

/-- At the end of an instant without a commit. -/
theorem Rep.turns_flush {r : Rep} (x : Ctx) (h : r.whOld = none) : Rep.Turns r (r.flush x) := by
  have h1 := Rep.turns_writeAll r x
  have h2 : (r.writeAll x).whorlViews x = r.writeAll x := Rep.whorlViews_none x ((Rep.writeAll_spec r x).2.2.2.trans h)
  unfold Rep.flush Rep.whorlReqs
  rw [h2]
  generalize r.writeAll x = b at h1 ⊢
  split
  · have h3 := h1.trans ((Rep.turns_evalReq b x .a).trans (Rep.turns_evalReq (b.evalReq x .a) x .b))
    generalize (b.evalReq x .a).evalReq x .b = d at h3 ⊢
    exact Rep.Turns.trans (b := d) h3 (.of_port fun _ => rfl)
  · exact h1

end

end Sys2Proof.Machine
end

section
/-!
PROOFS. Rings that stall (R347), and ports that leave service (R314, R349, R357, R365, R379).
-/

namespace Sys2Proof.Machine

/-! ## Reports for a port -/

theorem Rep.dsr_setSk (r : Rep) (p : Port) (k n : Nat) (g : Ring) : ((r.setSk p k g).port p).dsr n = (r.port p).dsr n := by
  unfold Rep.setSk
  rw [Rep.port_setPort_self]
  rfl

theorem Rep.dsr_setDs_self (r : Rep) (p : Port) (d : Nat) (g : Ring) : ((r.setDs p d g).port p).dsr d = g := by
  unfold Rep.setDs
  rw [Rep.port_setPort_self]
  exact Tbl.lookD_put_self _ _ _ _

theorem Rep.dsr_setDs_ne (r : Rep) (p : Port) {d j : Nat} (g : Ring) (h : j ≠ d) :
    ((r.setDs p d g).port p).dsr j = (r.port p).dsr j := by
  unfold Rep.setDs
  rw [Rep.port_setPort_self]
  exact Tbl.lookD_put_ne _ _ _ _ h

theorem Rep.skn_setSk_self (r : Rep) (p : Port) (k : Nat) (g : Ring) : ((r.setSk p k g).port p).skn k = g := by
  unfold Rep.setSk
  rw [Rep.port_setPort_self]
  exact Tbl.lookD_put_self _ _ _ _

theorem Rep.skn_setSk_ne (r : Rep) (p : Port) {k j : Nat} (g : Ring) (h : j ≠ k) :
    ((r.setSk p k g).port p).skn j = (r.port p).skn j := by
  unfold Rep.setSk
  rw [Rep.port_setPort_self]
  exact Tbl.lookD_put_ne _ _ _ _ h

/-- From a to b reports are made and reads are issued, and no more. -/
structure State.PortReports (a b : State) : Prop where
  only : State.RepOnly a b
  turns : Rep.Turns a.rep b.rep
  whOld : b.rep.whOld = a.rep.whOld
  tells : ∀ {s : State} {k : Account}, s.Tells k a.rep → s.Tells k b.rep

section
variable {a b c : State}

theorem State.PortReports.refl (a : State) : State.PortReports a a := ⟨.refl a, .refl _, rfl, fun h => h⟩

theorem State.PortReports.trans (h : State.PortReports a b) (g : State.PortReports b c) : State.PortReports a c :=
  ⟨h.only.trans g.only, h.turns.trans g.turns, g.whOld.trans h.whOld, fun t => g.tells (h.tells t)⟩

theorem State.PortReports.ite {p : Prop} [Decidable p] (h : State.PortReports a b) (g : State.PortReports a c) :
    State.PortReports a (if p then b else c) := by
  split
  · exact h
  · exact g

theorem State.PortReports.foldl {α : Type} {f : State → α → State} (hf : ∀ u x, State.PortReports u (f u x)) (l : List α) (u : State) :
    State.PortReports u (l.foldl f u) := by
  induction l generalizing u with
  | nil => exact .refl u
  | cons x l ih => exact (hf u x).trans (ih _)

/-- A record that fires. -/
theorem State.PortReports.of_fires (a : State) {r : Rep} (ht : Rep.Turns a.rep r) (hg : Rep.Grows a.rep r) (hs : Rep.Same a.rep r)
    (hf : Rep.Fires a.rep r) : State.PortReports a { a with rep := r } := ⟨rfl, ht, hs.whOld, fun h => h.fires hg hs hf⟩

theorem State.portReports_raise (a : State) (i : Nat) : State.PortReports a (a.raise i) :=
  .of_fires a (Rep.turns_fire _ _ _) (a.raise_grows i) (a.raise_same i) (a.raise_fires i)

theorem State.portReports_countN (a : State) (i n : Nat) : State.PortReports a (a.countN i n) :=
  .of_fires a (Rep.turns_count _ _ _ _) (a.countN_grows i n) (a.countN_same i n) (Rep.fires_count _ _ _ _)

theorem State.portReports_count (a : State) (i : Nat) : State.PortReports a (a.count i) := a.portReports_countN i 1

theorem State.portReports_emit (a : State) (o : Output) : State.PortReports a (a.emit o) :=
  .of_fires a (Rep.turns_emit _ _) (a.emit_grows o) (a.emit_same o) (a.emit_fires o)

theorem State.portReports_setDs (a : State) {p : Port} {d : Nat} {g : Ring} (h : g.asDistaff = ((a.port p).dsr d).asDistaff) :
    State.PortReports a { a with rep := a.rep.setDs p d g } :=
  ⟨rfl, Rep.turns_setDs h, rfl, fun t => t.mono (Rep.grows_setDs _ _ _ _) rfl rfl rfl rfl⟩

theorem State.portReports_setSk (a : State) {p : Port} {k : Nat} {g : Ring} (h : g.asSkein = ((a.port p).skn k).asSkein) :
    State.PortReports a { a with rep := a.rep.setSk p k g } :=
  ⟨rfl, Rep.turns_setSk h, rfl, fun t => t.mono (Rep.grows_setPort fun _ hi => hi) rfl rfl rfl rfl⟩

theorem State.portReports_complete (a : State) (d : Desc) (x : Compl) : State.PortReports a (a.complete d x) := by
  refine ⟨rfl, ?_, State.complete_whOld a d x, fun h => h.keepComplete d x⟩
  have h1 : Rep.Turns a.rep (a.rep.setDs d.port d.distaff.val (((a.rep.port d.port).dsr d.distaff.val).unclaim d.index)) :=
    Rep.turns_setDs rfl
  unfold State.complete
  simp only
  generalize a.rep.setDs d.port d.distaff.val _ = r at h1 ⊢
  exact Rep.turns_ite (h1.trans (Rep.turns_complete _ _ _ _ _)) (h1.trans (Rep.turns_setSk rfl))

theorem State.portReports_refuse (a : State) (d : Desc) (op n st : Nat) : State.PortReports a (a.refuse d op n st) := a.portReports_complete _ _

theorem State.portReports_unaccepted (a : State) (d : Desc) (b : DescBody) (st : Nat) : State.PortReports a (a.unaccepted d b st) := by
  unfold State.unaccepted
  simp only
  split
  · exact (a.portReports_count _).trans (State.portReports_refuse _ _ _ _ _)
  · exact a.portReports_refuse _ _ _ _

theorem State.portReports_header (a : State) (p : Port) : State.PortReports a { a with rep := a.rep.writeHeader a.ctx p } := by
  have h := Rep.turns_writeHeader a.rep a.ctx p
  unfold Rep.writeHeader at h ⊢
  simp only at h ⊢
  split
  · exact a.portReports_emit _
  · exact .refl a

theorem State.portReports_unreserve (a : State) (p : Port) (d : Nat) (i : Word) : State.PortReports a (a.unreserve p d i) := by
  let g := (a.rep.port p).dsr d
  have h1 : State.PortReports a { a with rep := a.rep.setSk p (g.claimed i) { (a.rep.port p).skn (g.claimed i) with
    reserved := ((a.rep.port p).skn (g.claimed i)).reserved - 1 } } := a.portReports_setSk rfl
  refine h1.trans (State.portReports_setDs _ ?_)
  unfold State.port
  rw [Rep.dsr_setSk]
  rfl

theorem State.portReports_dropFlight (a : State) (p : Port) (d : Nat) : State.PortReports a (a.dropFlight p d) := by
  have hgive := State.PortReports.foldl
    (fun (u : State) (k : Nat) => u.portReports_unreserve p d (((a.port p).dsr d).own + BitVec.ofNat 32 k))
    (List.range ((a.port p).dsr d).flight.length) a
  unfold State.dropFlight
  simp only
  generalize List.foldl _ a _ = b at hgive ⊢
  exact hgive.trans (State.portReports_setDs b rfl)

/-! ## A ring stalls -/

/-- A distaff that stalls. -/
def Ring.stalledDs (g : Ring) (err : Nat) (idx : Word) : Ring := { g with st := .stalled, err := err, errIdx := idx, fetched := [] }

/-- A skein that stalls. -/
def Ring.stalledSk (g : Ring) (err : Nat) (idx : Word) : Ring := { g with st := .stalled, err := err, errIdx := idx, reading := [] }

/-- The reports of a stall (R347). -/
def State.stallMarked (s : State) (p : Port) (skein : Bool) (n err : Nat) (idx : Word) : State :=
  (s.slub 0x0902 (stallD0 p skein n) err idx.toNat).raise 0x340

theorem State.stall_idle {u : State} {p : Port} {kd : Bool} {n err : Nat} {idx : Word} {st : Nat}
    (h : (if kd then (u.port p).skn n else (u.port p).dsr n).st ≠ .running) : u.stall p kd n err idx st = u := by
  unfold State.stall
  exact if_pos h

theorem State.stall_ds {u : State} {p : Port} {n : Nat} (err : Nat) (idx : Word) (st : Nat) (h : ((u.port p).dsr n).st = .running) :
    ∃ (a : State) (l : List HeldDesc), State.PortReports u a ∧
      State.PortReports (({ a.modDs p n (fun g => g.stalledDs err idx) with holds := l } : State).stallMarked p false n err idx)
        (u.stall p false n err idx st) := by
  refine ⟨u.dropFlight p n, (u.dropFlight p n).holds.filter (fun h => !(decide (h.desc.port = p) && decide (h.desc.distaff.val = n))),
    u.portReports_dropFlight p n, ?_⟩
  unfold State.stall
  simp only [Bool.false_eq_true, if_false]
  rw [if_neg (not_not.2 h)]
  refine ((State.portReports_header _ p).trans (State.PortReports.foldl (fun v x => v.portReports_unaccepted _ _ _) _ _)).trans
    (State.PortReports.foldl (fun v x => v.portReports_unaccepted _ _ _) _ _)

theorem State.stall_sk {u : State} {p : Port} {n : Nat} (err : Nat) (idx : Word) (st : Nat) (h : ((u.port p).skn n).st = .running) :
    State.PortReports ((u.modSk p n (fun g => g.stalledSk err idx)).stallMarked p true n err idx) (u.stall p true n err idx st) := by
  unfold State.stall
  simp only [if_true]
  rw [if_neg (not_not.2 h)]
  exact State.portReports_header _ p

end

end Sys2Proof.Machine
end

section
/-!
PROOFS. Ports that leave service (R314, R349, R357, R365, R379).
-/

namespace Sys2Proof.Machine

/-! ## What a port that is halted keeps -/

/-- From q to x reads are given up and rings stall. -/
structure PortSt.Halt (q x : PortSt) : Prop where
  rest : x = { q with
    src := x.src, fresh := x.fresh, freshAt := x.freshAt, ds := x.ds, sk := x.sk, visit := x.visit, valueWait := x.valueWait
    outstanding := x.outstanding, msixPend := x.msixPend, sumBusy := x.sumBusy }
  quiet : q.canWrite = false → x.outstanding = q.outstanding ∧ x.msixPend = q.msixPend
  wfDs : Tbl.wf {} q.ds = true → Tbl.wf {} x.ds = true
  wfSk : Tbl.wf {} q.sk = true → Tbl.wf {} x.sk = true

theorem PortSt.Turn.halt {q x : PortSt} (h : PortSt.Turn q x) : PortSt.Halt q x :=
  ⟨by rw [h.rest], h.quiet, h.wfDs, h.wfSk⟩

theorem PortSt.Halt.refl (q : PortSt) : PortSt.Halt q q := ⟨rfl, fun _ => ⟨rfl, rfl⟩, fun h => h, fun h => h⟩

theorem PortSt.Halt.canWrite {q x : PortSt} (h : PortSt.Halt q x) : x.canWrite = q.canWrite := by
  rw [h.rest]
  rfl

theorem PortSt.Halt.trans {q x y : PortSt} (h : PortSt.Halt q x) (g : PortSt.Halt x y) : PortSt.Halt q y := by
  refine ⟨by rw [g.rest, h.rest], fun hq => ?_, fun w => g.wfDs (h.wfDs w), fun w => g.wfSk (h.wfSk w)⟩
  obtain ⟨h1, h2⟩ := h.quiet hq
  obtain ⟨g1, g2⟩ := g.quiet (h.canWrite.trans hq)
  exact ⟨g1.trans h1, g2.trans h2⟩

/-- From a to b a port is being halted. -/
structure State.Halting (p : Port) (a b : State) : Prop where
  only : b = { a with holds := b.holds, rep := b.rep }
  whOld : b.rep.whOld = a.rep.whOld
  port : PortSt.Halt (a.port p) (b.port p)

/-- The state of a ring once its port is halted. -/
def RingState.halted (x : RingState) : RingState := if x = .running then .stalled else x

theorem RingState.halted_halted (x : RingState) : x.halted.halted = x.halted := by
  cases x <;> rfl

/-- The states of the distaffs of a port. -/
def State.dsSt (s : State) (p : Port) (d : Nat) : RingState := ((s.port p).dsr d).st
/-- The states of the skeins of a port. -/
def State.skSt (s : State) (p : Port) (k : Nat) : RingState := ((s.port p).skn k).st

section
variable {p : Port} {a b c : State}

theorem State.Halting.refl (p : Port) (a : State) : State.Halting p a a := ⟨rfl, rfl, .refl _⟩

theorem State.Halting.trans (h : State.Halting p a b) (g : State.Halting p b c) : State.Halting p a c :=
  ⟨by rw [g.only, h.only], g.whOld.trans h.whOld, h.port.trans g.port⟩

theorem State.PortReports.halting (h : State.PortReports a b) (p : Port) : State.Halting p a b :=
  ⟨by rw [h.only], h.whOld, (h.turns p).halt⟩

theorem State.PortReports.dsSt (h : State.PortReports a b) (p : Port) (d : Nat) : b.dsSt p d = a.dsSt p d := by
  show ((b.rep.port p).dsr d).asDistaff.st = ((a.rep.port p).dsr d).asDistaff.st
  rw [(h.turns p).ds d]

theorem State.PortReports.skSt (h : State.PortReports a b) (p : Port) (k : Nat) : b.skSt p k = a.skSt p k := by
  show ((b.rep.port p).skn k).asSkein.st = ((a.rep.port p).skn k).asSkein.st
  rw [(h.turns p).sk k]

theorem State.modDs_halting (a : State) (p : Port) (d : Nat) (f : Ring → Ring) : State.Halting p a (a.modDs p d f) := by
  refine ⟨rfl, rfl, ?_⟩
  unfold State.modDs State.port Rep.setDs
  rw [Rep.port_setPort_self]
  exact ⟨rfl, fun _ => ⟨rfl, rfl⟩, Tbl.wf_put, fun h => h⟩

theorem State.modSk_halting (a : State) (p : Port) (k : Nat) (f : Ring → Ring) : State.Halting p a (a.modSk p k f) := by
  refine ⟨rfl, rfl, ?_⟩
  unfold State.modSk State.port Rep.setSk
  rw [Rep.port_setPort_self]
  exact ⟨rfl, fun _ => ⟨rfl, rfl⟩, fun h => h, Tbl.wf_put⟩

theorem State.modDs_dsSt (a : State) (p : Port) (d : Nat) (f : Ring → Ring) (j : Nat) :
    (a.modDs p d f).dsSt p j = if j = d then (f ((a.port p).dsr d)).st else a.dsSt p j := by
  unfold State.dsSt State.modDs State.port
  split
  · rename_i h
    rw [h, Rep.dsr_setDs_self]
  · rename_i h
    rw [Rep.dsr_setDs_ne _ _ _ h]

theorem State.modSk_skSt (a : State) (p : Port) (k : Nat) (f : Ring → Ring) (j : Nat) :
    (a.modSk p k f).skSt p j = if j = k then (f ((a.port p).skn k)).st else a.skSt p j := by
  unfold State.skSt State.modSk State.port
  split
  · rename_i h
    rw [h, Rep.skn_setSk_self]
  · rename_i h
    rw [Rep.skn_setSk_ne _ _ _ h]

theorem State.modDs_skSt (a : State) (p : Port) (d : Nat) (f : Ring → Ring) (j : Nat) : (a.modDs p d f).skSt p j = a.skSt p j := by
  unfold State.skSt State.modDs State.port Rep.setDs
  rw [Rep.port_setPort_self]
  rfl

theorem State.modSk_dsSt (a : State) (p : Port) (k : Nat) (f : Ring → Ring) (j : Nat) : (a.modSk p k f).dsSt p j = a.dsSt p j := by
  unfold State.dsSt State.modSk State.port Rep.setSk
  rw [Rep.port_setPort_self]
  rfl

theorem State.portReports_slub (a : State) (x y z w : Nat) : State.Halting p a (a.slub x y z w) ∧
    (∀ d, (a.slub x y z w).dsSt p d = a.dsSt p d) ∧ ∀ k, (a.slub x y z w).skSt p k = a.skSt p k :=
  ⟨⟨rfl, rfl, .refl _⟩, fun _ => rfl, fun _ => rfl⟩

theorem State.stallMarked_halting (a : State) (kd : Bool) (n err : Nat) (idx : Word) :
    State.Halting p a (a.stallMarked p kd n err idx) ∧ (∀ d, (a.stallMarked p kd n err idx).dsSt p d = a.dsSt p d) ∧
    ∀ k, (a.stallMarked p kd n err idx).skSt p k = a.skSt p k := by
  obtain ⟨h1, h2, h3⟩ := State.portReports_slub (p := p) a 0x0902 (stallD0 p kd n) err idx.toNat
  unfold State.stallMarked
  generalize a.slub 0x0902 (stallD0 p kd n) err idx.toNat = b at h1 h2 h3 ⊢
  have h := b.portReports_raise 0x340
  exact ⟨h1.trans (h.halting p), fun d => (h.dsSt p d).trans (h2 d), fun k => (h.skSt p k).trans (h3 k)⟩

/-- A distaff stalls, and no other ring. -/
theorem State.stall_ds_halts (u : State) (p : Port) (n err : Nat) (idx : Word) (st : Nat) :
    State.Halting p u (u.stall p false n err idx st) ∧
    (∀ d, (u.stall p false n err idx st).dsSt p d = if d = n then (u.dsSt p d).halted else u.dsSt p d) ∧
    ∀ k, (u.stall p false n err idx st).skSt p k = u.skSt p k := by
  by_cases h : ((u.port p).dsr n).st = .running
  · obtain ⟨a, l, ha, hb⟩ := State.stall_ds err idx st h
    have h1 := a.modDs_halting p n (fun g => g.stalledDs err idx)
    have h1ds := a.modDs_dsSt p n (fun g => g.stalledDs err idx)
    have h1sk := a.modDs_skSt p n (fun g => g.stalledDs err idx)
    generalize a.modDs p n (fun g => g.stalledDs err idx) = c at hb h1 h1ds h1sk
    have h2 : State.Halting p c { c with holds := l } := ⟨rfl, rfl, .refl _⟩
    have h2ds : ∀ d, ({ c with holds := l } : State).dsSt p d = c.dsSt p d := fun _ => rfl
    have h2sk : ∀ k, ({ c with holds := l } : State).skSt p k = c.skSt p k := fun _ => rfl
    generalize ({ c with holds := l } : State) = e at hb h2 h2ds h2sk
    obtain ⟨h3, h3ds, h3sk⟩ := State.stallMarked_halting (p := p) e false n err idx
    refine ⟨(((ha.halting p).trans h1).trans (h2.trans h3)).trans (hb.halting p), fun d => ?_, fun k => ?_⟩
    · rw [hb.dsSt, h3ds, h2ds, h1ds, ha.dsSt]
      split
      · rename_i hd
        subst hd
        rw [show u.dsSt p d = .running from h]
        rfl
      · rfl
    · rw [hb.skSt, h3sk, h2sk, h1sk, ha.skSt]
  · rw [State.stall_idle (kd := false) h]
    refine ⟨.refl p u, fun d => ?_, fun _ => rfl⟩
    split
    · rename_i hd
      subst hd
      exact (if_neg h).symm
    · rfl

/-- A skein stalls, and no other ring. -/
theorem State.stall_sk_halts (u : State) (p : Port) (n err : Nat) (idx : Word) (st : Nat) :
    State.Halting p u (u.stall p true n err idx st) ∧
    (∀ k, (u.stall p true n err idx st).skSt p k = if k = n then (u.skSt p k).halted else u.skSt p k) ∧
    ∀ d, (u.stall p true n err idx st).dsSt p d = u.dsSt p d := by
  by_cases h : ((u.port p).skn n).st = .running
  · have hb := State.stall_sk err idx st h
    have h1 := u.modSk_halting p n (fun g => g.stalledSk err idx)
    have h1sk := u.modSk_skSt p n (fun g => g.stalledSk err idx)
    have h1ds := u.modSk_dsSt p n (fun g => g.stalledSk err idx)
    generalize u.modSk p n (fun g => g.stalledSk err idx) = c at hb h1 h1ds h1sk
    obtain ⟨h3, h3ds, h3sk⟩ := State.stallMarked_halting (p := p) c true n err idx
    refine ⟨(h1.trans h3).trans (hb.halting p), fun k => ?_, fun d => ?_⟩
    · rw [hb.skSt, h3sk, h1sk]
      split
      · rename_i hk
        subst hk
        rw [show u.skSt p k = .running from h]
        rfl
      · rfl
    · rw [hb.dsSt, h3ds, h1ds]
  · rw [State.stall_idle (kd := true) h]
    refine ⟨.refl p u, fun k => ?_, fun _ => rfl⟩
    split
    · rename_i hk
      subst hk
      exact (if_neg h).symm
    · rfl

/-! ## Every ring of a port -/

/-- What each step of a list halts adds up. -/
theorem foldl_halts {α : Type} {f : State → α → State} {key : α → Nat} {get other : State → Nat → RingState}
    (hf : ∀ u x, State.Halting p u (f u x) ∧ (∀ j, get (f u x) j = if j = key x then (get u j).halted else get u j) ∧
      ∀ j, other (f u x) j = other u j) (l : List α) (u : State) :
    State.Halting p u (l.foldl f u) ∧ (∀ j, get (l.foldl f u) j = if j ∈ l.map key then (get u j).halted else get u j) ∧
      ∀ j, other (l.foldl f u) j = other u j := by
  induction l generalizing u with
  | nil => exact ⟨.refl p u, fun _ => rfl, fun _ => rfl⟩
  | cons x l ih =>
    obtain ⟨h1, h2, h3⟩ := hf u x
    obtain ⟨i1, i2, i3⟩ := ih (f u x)
    refine ⟨h1.trans i1, fun j => ?_, fun j => (i3 j).trans (h3 j)⟩
    rw [List.foldl_cons, i2, h2, List.map_cons]
    by_cases hx : j = key x
    · rw [if_pos hx, if_pos (List.mem_cons.2 (.inl hx)), RingState.halted_halted, ite_self]
    · simp only [List.mem_cons, hx, false_or, if_false]

/-- A ring that runs is in its table. -/
theorem halted_of_absent {t : Tbl Ring} {k : Nat} (h : k ∉ t.map (·.1)) : (Tbl.lookD t k {}).st.halted = (Tbl.lookD t k {}).st := by
  have hnone : Tbl.look t k = none := by
    induction t with
    | nil => rfl
    | cons e t ih =>
      rw [List.map_cons, List.mem_cons, not_or] at h
      unfold Tbl.look
      rw [if_neg h.1]
      exact ih h.2
  unfold Tbl.lookD
  rw [hnone]
  rfl

/-- From a to b reads of a port are given up and its rings stay as they are. -/
structure State.GivesUp (p : Port) (a b : State) : Prop where
  halting : State.Halting p a b
  ds : ∀ d, b.dsSt p d = a.dsSt p d
  sk : ∀ k, b.skSt p k = a.skSt p k

theorem State.GivesUp.trans (h : State.GivesUp p a b) (g : State.GivesUp p b c) : State.GivesUp p a c :=
  ⟨h.halting.trans g.halting, fun d => (g.ds d).trans (h.ds d), fun k => (g.sk k).trans (h.sk k)⟩

theorem State.PortReports.givesUp (h : State.PortReports a b) (p : Port) : State.GivesUp p a b := ⟨h.halting p, h.dsSt p, h.skSt p⟩

theorem State.GivesUp.foldl {α : Type} {f : State → α → State} (hf : ∀ u x, State.GivesUp p u (f u x)) (l : List α) (u : State) :
    State.GivesUp p u (l.foldl f u) := by
  induction l generalizing u with
  | nil => exact (State.PortReports.refl u).givesUp p
  | cons x l ih => exact (hf u x).trans (ih _)

theorem State.modDs_givesUp (a : State) (p : Port) (d : Nat) {f : Ring → Ring} (hf : ∀ g, (f g).st = g.st) :
    State.GivesUp p a (a.modDs p d f) := by
  refine ⟨a.modDs_halting p d f, fun j => ?_, a.modDs_skSt p d f⟩
  rw [State.modDs_dsSt, hf]
  split
  · rename_i h
    rw [h]
    rfl
  · rfl

theorem State.modSk_givesUp (a : State) (p : Port) (k : Nat) {f : Ring → Ring} (hf : ∀ g, (f g).st = g.st) :
    State.GivesUp p a (a.modSk p k f) := by
  refine ⟨a.modSk_halting p k f, a.modSk_dsSt p k f, fun j => ?_⟩
  rw [State.modSk_skSt, hf]
  split
  · rename_i h
    rw [h]
    rfl
  · rfl

theorem State.setPort_halting (a : State) (p : Port) {x : PortSt} (h : PortSt.Halt (a.port p) x) : State.Halting p a (a.setPort p x) := by
  refine ⟨rfl, rfl, ?_⟩
  show PortSt.Halt _ ((a.rep.setPort p x).port p)
  rw [Rep.port_setPort_self]
  exact h

theorem State.port_setPort_self (a : State) (p : Port) (x : PortSt) : (a.setPort p x).port p = x := Rep.port_setPort_self _ _ _

theorem State.dropReads_givesUp (u : State) (p : Port) : State.GivesUp p u (u.dropReads p) := by
  have h1 : State.GivesUp p u (u.setPort p { u.port p with sumBusy := false, valueWait := [] }) := by
    refine ⟨u.setPort_halting p ⟨rfl, fun _ => ⟨rfl, rfl⟩, fun h => h, fun h => h⟩, fun d => ?_, fun k => ?_⟩
    · unfold State.dsSt
      rw [State.port_setPort_self]
      rfl
    · unfold State.skSt
      rw [State.port_setPort_self]
      rfl
  have h2 := State.GivesUp.foldl (p := p) (f := fun (a : State) (e : Nat × Ring) =>
    (a.dropFlight p e.1).modDs p e.1 (fun g => { g with fetched := g.fetched.map (fun x => { x with wantsPay := false }) }))
    (fun v e => ((v.portReports_dropFlight p e.1).givesUp p).trans (State.modDs_givesUp _ p _ fun _ => rfl)) (u.port p).ds
    (u.setPort p { u.port p with sumBusy := false, valueWait := [] })
  unfold State.dropReads
  simp only
  generalize List.foldl _ (u.setPort p _) _ = b at h2 ⊢
  exact (h1.trans h2).trans (State.GivesUp.foldl (f := fun (a : State) (e : Nat × Ring) => a.modSk p e.1 (fun g => { g with reading := [] }))
    (fun v e => State.modSk_givesUp v p e.1 fun _ => rfl) _ b)

/-- Every running ring of the port stalls (R349). -/
theorem State.stallPort_spec (u : State) (p : Port) (st : Nat) : State.Halting p u (u.stallPort p st) ∧
    (∀ d, (u.stallPort p st).dsSt p d = (u.dsSt p d).halted) ∧ ∀ k, (u.stallPort p st).skSt p k = (u.skSt p k).halted := by
  have h1 := u.dropReads_givesUp p
  unfold State.stallPort
  simp only
  generalize u.dropReads p = a at h1 ⊢
  obtain ⟨h2, h2sk, h2ds⟩ := foldl_halts (p := p) (key := fun e : Nat × Ring => e.1) (get := fun s k => s.skSt p k) (other := fun s d => s.dsSt p d)
    (f := fun (a : State) (e : Nat × Ring) =>
      ((a.stall p true e.1 5 e.2.own st).modSk p e.1 (fun g => { g with waiting := [], reserved := g.reserved - g.waiting.length })).countN
        (5184 + 64 * p.idx + 5) ((((a.stall p true e.1 5 e.2.own st).port p).skn e.1).waiting.length))
    (fun v e => by
      obtain ⟨g1, g2, g3⟩ := v.stall_sk_halts p e.1 5 e.2.own st
      generalize v.stall p true e.1 5 e.2.own st = w at g1 g2 g3 ⊢
      have g4 := (w.modSk_givesUp p e.1 (f := fun g => { g with waiting := [], reserved := g.reserved - g.waiting.length })
        fun _ => rfl).trans ((State.portReports_countN _ (5184 + 64 * p.idx + 5) (((w.port p).skn e.1).waiting.length)).givesUp p)
      exact ⟨g1.trans g4.halting, fun k => (g4.sk k).trans (g2 k), fun d => (g4.ds d).trans (g3 d)⟩) (a.port p).sk a
  have hsk : ∀ k, (if k ∈ (a.port p).sk.map (fun e => e.1) then (a.skSt p k).halted else a.skSt p k) = (a.skSt p k).halted := fun k => by
    split
    · rfl
    · rename_i h
      exact (halted_of_absent h).symm
  generalize List.foldl _ a (a.port p).sk = b at h2 h2sk h2ds ⊢
  obtain ⟨h3, h3ds, h3sk⟩ := foldl_halts (p := p) (key := fun e : Nat × Ring => e.1) (get := fun s d => s.dsSt p d) (other := fun s k => s.skSt p k)
    (f := fun (a : State) (e : Nat × Ring) => a.stall p false e.1 5 e.2.own st)
    (fun v e => v.stall_ds_halts p e.1 5 e.2.own st) (b.port p).ds b
  have hds : ∀ d, (if d ∈ (b.port p).ds.map (fun e => e.1) then (b.dsSt p d).halted else b.dsSt p d) = (b.dsSt p d).halted := fun d => by
    split
    · rfl
    · rename_i h
      exact (halted_of_absent h).symm
  exact ⟨(h1.halting.trans h2).trans h3, fun d => by rw [h3ds, hds, h2ds, h1.ds], fun k => by rw [h3sk, h2sk, hsk, h1.sk]⟩

end

/-! ## The owner's link is gone -/

theorem State.turns_lapse (u : State) (c : Nat) : Rep.Turns u.rep (u.lapse c).rep := by
  have hslub : ∀ (v : State) (x y z w : Nat), Rep.Turns v.rep (v.slub x y z w).rep := fun _ _ _ _ _ => .of_port fun _ => rfl
  have hset : ∀ (v : State) (o : Option Port), Rep.Turns v.rep (v.setOwner o).rep := fun v o => by
    by_cases ho : v.ow.owner = o
    · rw [State.setOwner_same ho]
      exact .refl _
    · have hp : Rep.Turns v.rep (v.passOwner o).rep := .of_port fun _ => rfl
      rcases State.setOwner_changes ho with e | e <;> rw [e]
      · exact hp
      · exact hp.trans (Rep.turns_fire _ _ _)
  have hl : ∀ p, Rep.Turns u.rep (u.lapsed p c).rep := fun p => (hslub (u.withdrawn p c) _ _ _ _).trans (Rep.turns_fire _ _ _)
  cases ho : u.ow.owner with
  | none =>
    unfold State.lapse
    rw [ho]
    exact .refl _
  | some p =>
    rcases State.lapse_changes (cause := c) ho with e | e <;> rw [e]
    · exact (hl p).trans (hset _ _)
    · exact ((hl p).trans (hset _ _)).trans (Rep.turns_fire _ _ _)

section
variable {s v : State} {dt : Nat} {p : Port} {c : Instr} {g : State → State} {o : OwnSt}

/-- The end of a row that takes a port out of service: the ownership of its port lapses (R365). -/
theorem answers_leaves (hs : s.ready) (hc : exec c s = s.at_ dt g)
    (hg : g (s.elapse dt) = if v.ow.owner = some p then v.lapse 2 else { v with ow := o })
    (hv : v = { s.elapse dt with holds := v.holds, rep := v.rep }) (hw : v.rep.whOld = none) :
    Answers c s (fun t => t = { s.elapse dt with ow := t.ow, holds := t.holds, rep := t.rep } ∧ PortSt.Turn (v.port p) (t.port p) ∧
      (s.ow.owner = some p → t.ow.owner = (if s.ow.cand p.other then some p.other else none) ∧ t.ow.lapse = 2 ∧
        t.ow.cand p = false ∧ s.raises t 0x054) ∧ (s.ow.owner ≠ some p → t.ow = o)) := by
  have how : v.ow = s.ow := by rw [hv]; exact State.elapse_ow hs.2.2 dt
  have hlive : v.regs.live = s.regs.live := by rw [hv]; exact State.elapse_live s dt
  refine answers_at hs hc ?_
  rw [hg, how]
  by_cases ho : s.ow.owner = some p
  · rw [if_pos ho]
    have hov : v.ow.owner = some p := by rw [how, ho]
    have hlow := State.lapse_ow (cause := 2) hov
    have hkeep := (State.lapse_keeps (cause := 2) hov).2.1
    have hraise := (State.raises_lapse (cause := 2) hov hlive hw).1
    have heq := State.lapse_eq (s := v) 2
    have hturn := v.turns_lapse 2
    have hheir : v.heir p = if s.ow.cand p.other then some p.other else none := by unfold State.heir; rw [how]
    generalize v.lapse 2 = w at hlow hkeep hraise heq hturn ⊢
    have hww : w.rep.whOld = none := hkeep.trans hw
    have hfl : Rep.Turns w.rep w.flush.rep := Rep.turns_flush w.ctx hww
    have h1 : w = { s.elapse dt with ow := w.ow, holds := w.holds, rep := w.rep } := by rw [heq, hv]
    refine ⟨congrArg (fun x : State => { x with rep := w.flush.rep }) h1, (hturn p).trans (hfl p), fun _ => ?_, fun h => absurd ho h⟩
    have h2 : w.flush.ow = w.ow := rfl
    rw [h2, hlow]
    refine ⟨hheir, rfl, ?_, State.raises_flush hraise hww⟩
    exact OwnSt.cand_setCand_self v.ow p false
  · rw [if_neg ho]
    have hfl : Rep.Turns v.rep (State.flush { v with ow := o }).rep := Rep.turns_flush _ hw
    refine ⟨?_, hfl p, fun h => absurd h ho, fun _ => rfl⟩
    exact congrArg (fun x : State => { x with ow := o, rep := (State.flush { v with ow := o }).rep }) hv

/-- What a halted port shows when its row is done. -/
theorem PortSt.Turn.shows {q x : PortSt} (h : PortSt.Turn q x) (hw : q.canWrite = false) :
    (∀ k, (x.dsr k).st = (q.dsr k).st) ∧ (∀ k, (x.skn k).st = (q.skn k).st) ∧ x.busMaster = q.busMaster ∧ x.linkUp = q.linkUp ∧
    x.stack = q.stack ∧ x.outstanding = q.outstanding ∧ x.hold = q.hold ∧ x.portEn = q.portEn := by
  refine ⟨fun k => ?_, fun k => ?_, by rw [h.rest], by rw [h.rest], by rw [h.rest], (h.quiet hw).1, by rw [h.rest], by rw [h.rest]⟩
  · show (x.dsr k).asDistaff.st = (q.dsr k).asDistaff.st
    rw [h.ds]
  · show (x.skn k).asSkein.st = (q.skn k).asSkein.st
    rw [h.sk]

end

/-! ## A port whose rings have stalled -/

/-- A port of the state in which its Bus Master Enable, and perhaps its link, has gone. -/
def State.portOff (s : State) (p : Port) (up : Bool) : State := s.setPort p { s.port p with linkUp := up, busMaster := false }

section
variable {s : State} {dt : Nat} {p : Port} (hs : s.ready) (up : Bool) (st : Nat)
include hs

/-- What the stall of its rings leaves of a port without Bus Master Enable. -/
theorem State.stallPort_off : ∃ v, ((s.elapse dt).portOff p up).stallPort p st = v ∧
    v = { s.elapse dt with holds := v.holds, rep := v.rep } ∧ v.rep.whOld = none ∧
    PortSt.Halt { s.port p with linkUp := up, busMaster := false } (v.port p) ∧
    (∀ k, ((v.port p).dsr k).st = ((s.port p).dsr k).st.halted) ∧ ∀ k, ((v.port p).skn k).st = ((s.port p).skn k).st.halted := by
  have hport : ((s.elapse dt).portOff p up).port p = { s.port p with linkUp := up, busMaster := false } := by
    unfold State.portOff
    rw [State.port_setPort_self, State.elapse_port hs.2.2]
  have hu : (s.elapse dt).portOff p up = { s.elapse dt with rep := ((s.elapse dt).portOff p up).rep } := rfl
  have hw : ((s.elapse dt).portOff p up).rep.whOld = none := State.elapse_whOld hs
  generalize (s.elapse dt).portOff p up = u at hport hu hw ⊢
  obtain ⟨h1, h2, h3⟩ := u.stallPort_spec p st
  generalize u.stallPort p st = v at h1 h2 h3 ⊢
  unfold State.dsSt at h2
  unfold State.skSt at h3
  rw [hport] at h2 h3
  refine ⟨v, rfl, by rw [h1.only, hu], h1.whOld.trans hw, hport ▸ h1.port, h2, h3⟩

end

/-! ## Settings return to their reset values -/

theorem Tbl.look_filter_ne_default {t : Tbl Ring} {lo : Nat} (hs : Tbl.sortedFrom lo t = true) (k : Nat) :
    Tbl.lookD (t.filter (fun e => decide (e.2 ≠ {}))) k {} = Tbl.lookD t k {} := by
  have hf := Tbl.sortedFrom_filter (fun e : Nat × Ring => decide (e.2 ≠ {})) hs
  unfold Tbl.lookD
  cases hk : Tbl.look t k with
  | none =>
    cases hl : Tbl.look (t.filter (fun e => decide (e.2 ≠ {}))) k with
    | none => rfl
    | some v =>
      have hm := (List.mem_filter.1 ((Tbl.look_eq_some_iff hf).1 hl)).1
      rw [(Tbl.look_eq_some_iff hs).2 hm] at hk
      cases hk
  | some v =>
    by_cases hv : v = {}
    · subst hv
      cases hl : Tbl.look (t.filter (fun e => decide (e.2 ≠ {}))) k with
      | none => rfl
      | some w =>
        have hm := (List.mem_filter.1 ((Tbl.look_eq_some_iff hf).1 hl)).1
        rw [(Tbl.look_eq_some_iff hs).2 hm] at hk
        cases hk
        rfl
    · have hm : (k, v) ∈ t.filter (fun e => decide (e.2 ≠ {})) :=
        List.mem_filter.2 ⟨(Tbl.look_eq_some_iff hs).1 hk, decide_eq_true hv⟩
      rw [(Tbl.look_eq_some_iff hf).2 hm]

theorem Tbl.sortedFrom_map {α β : Type} (f : α → β) {t : Tbl α} {lo : Nat} (hs : Tbl.sortedFrom lo t = true) :
    Tbl.sortedFrom lo (t.map (fun e => (e.1, f e.2))) = true := by
  induction t generalizing lo with
  | nil => rfl
  | cons e t ih =>
    simp only [Tbl.sortedFrom, Bool.and_eq_true, decide_eq_true_eq, List.map_cons] at hs ⊢
    exact ⟨hs.1, ih hs.2⟩

/-- The rings of a table return to their reset settings. -/
theorem Tbl.lookD_resetSettings {t : Tbl Ring} (h : Tbl.wf {} t = true) (k : Nat) :
    Tbl.lookD ((Tbl.mapVal (fun _ g => Ring.resetSettings g) t).filter (fun e => decide (e.2 ≠ {}))) k {} =
      (Tbl.lookD t k {}).resetSettings := by
  have hm : Tbl.mapVal (fun _ g => Ring.resetSettings g) t = t.map (fun e => (e.1, Ring.resetSettings e.2)) := rfl
  rw [hm, Tbl.look_filter_ne_default (Tbl.sortedFrom_map Ring.resetSettings (Tbl.sortedFrom_of_wf h))]
  unfold Tbl.lookD
  rw [Tbl.look_map]
  cases Tbl.look t k <;> rfl

/-! ## The rows -/

theorem exec_linkDown (s : State) (dt : Nat) (p : Port) : exec (.linkDown dt p) s =
    s.at_ dt (fun u => (((u.setPort p { u.port p with linkUp := false, busMaster := false }).stallPort p 5).clearWhorl p).linkLapse p) := rfl
theorem exec_busMasterDisable (s : State) (dt : Nat) (p : Port) : exec (.busMasterDisable dt p) s =
    s.at_ dt (fun u => ((u.setPort p { u.port p with busMaster := false }).stallPort p 5).linkLapse p) := rfl
theorem exec_functionLevelReset (s : State) (dt : Nat) (p : Port) : exec (.functionLevelReset dt p) s =
    s.at_ dt (fun u => (u.setPort p { u.port p with busMaster := false }).portReset p) := rfl
theorem exec_perstAssert (s : State) (dt : Nat) (p : Port) : exec (.perstAssert dt p) s =
    s.at_ dt (fun u => (u.setPort p { u.port p with linkUp := false, busMaster := false }).portReset p) := rfl

/-- From s to t port p has left service (R314, R349, R365). -/
def State.leaves (s t : State) (dt : Nat) (p : Port) : Prop :=
  t = { s.elapse dt with ow := t.ow, holds := t.holds, rep := t.rep } ∧
  (∀ k, ((t.port p).dsr k).st = ((s.port p).dsr k).st.halted) ∧ (∀ k, ((t.port p).skn k).st = ((s.port p).skn k).st.halted) ∧
  (t.port p).busMaster = false ∧
  (s.ow.owner = some p → t.ow.owner = (if s.ow.cand p.other then some p.other else none) ∧ t.ow.lapse = 2 ∧
    t.ow.cand p = false ∧ s.raises t 0x054)

/-- A port's view once its stack is empty (R379). -/
def PortSt.cleared (q : PortSt) : PortSt := { q.emptyStack with outstanding := false, hold := false }

theorem State.clearWhorl_port (u : State) (p : Port) : (u.clearWhorl p).port p = (u.port p).cleared := State.port_setPort_self _ _ _

/-- A port that keeps its ownership is not changed by the loss of its link. -/
theorem State.linkLapse_eq (u : State) (p : Port) : u.linkLapse p = if u.ow.owner = some p then u.lapse 2 else { u with ow := u.ow } := rfl

section
variable {s : State} {dt : Nat} {p : Port} (hs : s.ready)
include hs

theorem answers_busMasterDisable : Answers (.busMasterDisable dt p) s (fun t =>
    s.leaves t dt p ∧ (t.port p).linkUp = (s.port p).linkUp ∧ (t.port p).stack = (s.port p).stack ∧ (t.port p).hold = (s.port p).hold ∧
    (t.port p).portEn = (s.port p).portEn ∧ (s.ow.owner ≠ some p → t.ow = s.ow)) := by
  obtain ⟨v, hv, hrest, hw, hport, hds, hsk⟩ := State.stallPort_off (dt := dt) (p := p) hs (s.port p).linkUp 5
  have hoff : (s.elapse dt).setPort p { (s.elapse dt).port p with busMaster := false } = (s.elapse dt).portOff p (s.port p).linkUp := by
    unfold State.portOff
    rw [State.elapse_port hs.2.2]
  have hcw : (v.port p).canWrite = false := hport.canWrite.trans (Bool.and_false _)
  have how : v.ow = s.ow := by rw [hrest]; exact State.elapse_ow hs.2.2 dt
  refine (answers_leaves (p := p) (o := v.ow) hs (exec_busMasterDisable s dt p) ?_ hrest hw).mono fun t ⟨h1, h2, h3, h4⟩ => ?_
  · rw [hoff, hv]
    exact v.linkLapse_eq p
  · obtain ⟨g1, g2, g3, g4, g5, g6, g7, g8⟩ := h2.shows hcw
    have hr := hport.rest
    exact ⟨⟨h1, fun k => (g1 k).trans (hds k), fun k => (g2 k).trans (hsk k), g3.trans (by rw [hr]), h3⟩, g4.trans (by rw [hr]),
      g5.trans (by rw [hr]), g7.trans (by rw [hr]), g8.trans (by rw [hr]), fun ho => (h4 ho).trans how⟩

/-- The state of a port that has left service and whose stack is empty. -/
theorem State.cleared_off (up : Bool) (st : Nat) : ∃ v, (((s.elapse dt).portOff p up).stallPort p st).clearWhorl p = v ∧
    v = { s.elapse dt with holds := v.holds, rep := v.rep } ∧ v.rep.whOld = none ∧
    (∀ k, ((v.port p).dsr k).st = ((s.port p).dsr k).st.halted) ∧ (∀ k, ((v.port p).skn k).st = ((s.port p).skn k).st.halted) ∧
    (v.port p).busMaster = false ∧ (v.port p).linkUp = up ∧ (v.port p).stack = [] ∧ (v.port p).outstanding = false ∧
    (v.port p).hold = false ∧ (v.port p).portEn = (s.port p).portEn ∧
    (Tbl.wf {} (s.port p).ds = true → Tbl.wf {} (v.port p).ds = true) ∧ (Tbl.wf {} (s.port p).sk = true → Tbl.wf {} (v.port p).sk = true) := by
  obtain ⟨v, hv, hrest, hw, hport, hds, hsk⟩ := State.stallPort_off (dt := dt) (p := p) hs up st
  have hr := hport.rest
  have hwd := hport.wfDs
  have hws := hport.wfSk
  rw [hv]
  refine ⟨_, rfl, ?_, hw, ?_, ?_, ?_, ?_, ?_, ?_, ?_, ?_, ?_, ?_⟩
  · exact congrArg (fun x : State => { x with rep := (v.clearWhorl p).rep }) hrest
  all_goals rw [State.clearWhorl_port]
  · exact hds
  · exact hsk
  · exact (congrArg PortSt.busMaster hr).trans rfl
  · exact (congrArg PortSt.linkUp hr).trans rfl
  · rfl
  · rfl
  · rfl
  · exact (congrArg PortSt.portEn hr).trans rfl
  · exact hwd
  · exact hws

theorem answers_linkDown : Answers (.linkDown dt p) s (fun t =>
    s.leaves t dt p ∧ (t.port p).linkUp = false ∧ (t.port p).stack = [] ∧ (t.port p).outstanding = false ∧ (t.port p).hold = false ∧
    (t.port p).portEn = (s.port p).portEn ∧ (s.ow.owner ≠ some p → t.ow = s.ow)) := by
  obtain ⟨v, hv, hrest, hw, hds, hsk, hbm, hup, hstk, hout, hhold, hen, -, -⟩ := State.cleared_off (dt := dt) (p := p) hs false 5
  have hcw : (v.port p).canWrite = false := by
    unfold PortSt.canWrite
    rw [hup]
    rfl
  have how : v.ow = s.ow := by rw [hrest]; exact State.elapse_ow hs.2.2 dt
  refine (answers_leaves (p := p) (o := v.ow) hs (exec_linkDown s dt p) ?_ hrest hw).mono fun t ⟨h1, h2, h3, h4⟩ => ?_
  · exact (congrArg (·.linkLapse p) hv).trans (v.linkLapse_eq p)
  · obtain ⟨g1, g2, g3, g4, g5, g6, g7, g8⟩ := h2.shows hcw
    exact ⟨⟨h1, fun k => (g1 k).trans (hds k), fun k => (g2 k).trans (hsk k), g3.trans hbm, h3⟩, g4.trans hup, g5.trans hstk,
      g6.trans hout, g7.trans hhold, g8.trans hen, fun ho => (h4 ho).trans how⟩

/-- A port of which the settings have returned to their reset values. -/
theorem answers_portReset {c : Instr} {g : State → State} (up : Bool) (hc : exec c s = s.at_ dt g)
    (hg : g (s.elapse dt) = ((s.elapse dt).portOff p up).portReset p) (hwd : Tbl.wf {} (s.port p).ds = true)
    (hws : Tbl.wf {} (s.port p).sk = true) :
    Answers c s (fun t => (s.leaves t dt p ∧ (t.port p).stack = [] ∧ (t.port p).outstanding = false ∧ (t.port p).hold = false ∧
      (t.port p).portEn = false ∧ (t.port p).dbAddr = 0 ∧ (t.port p).stAddr = 0 ∧ (t.port p).ringFmt = 0 ∧ (t.port p).reportEvery = 0 ∧
      (∀ k, ((t.port p).dsr k).en = false ∧ ((t.port p).dsr k).base = 0 ∧ ((t.port p).skn k).en = false ∧ ((t.port p).skn k).base = 0 ∧
        ((t.port p).skn k).notify = 0) ∧ (s.ow.owner ≠ some p → t.ow = s.ow.setCand p false)) ∧ (t.port p).linkUp = up) := by
  obtain ⟨v, hv, hrest, hw, hds, hsk, hbm, hup, hstk, hout, hhold, -, hvd, hvs⟩ := State.cleared_off (dt := dt) (p := p) hs up 9
  have hds' : ∀ k, ((v.port p).resetSettings).dsr k = ((v.port p).dsr k).resetSettings := Tbl.lookD_resetSettings (hvd hwd)
  have hsk' : ∀ k, ((v.port p).resetSettings).skn k = ((v.port p).skn k).resetSettings := Tbl.lookD_resetSettings (hvs hws)
  obtain ⟨w, hwv⟩ : ∃ w, v.setPort p (v.port p).resetSettings = w := ⟨_, rfl⟩
  have hwp : w.port p = (v.port p).resetSettings := hwv ▸ State.port_setPort_self v p _
  have hwr : w = { s.elapse dt with holds := w.holds, rep := w.rep } := by
    rw [← hwv]
    exact congrArg (fun x : State => { x with rep := (v.setPort p (v.port p).resetSettings).rep }) hrest
  have hww : w.rep.whOld = none := hwv ▸ hw
  have how : w.ow = s.ow := by rw [hwr]; exact State.elapse_ow hs.2.2 dt
  have hcw : (w.port p).canWrite = false := by
    rw [hwp]
    show ((v.port p).linkUp && (v.port p).busMaster) = false
    rw [hbm, Bool.and_false]
  refine (answers_leaves (p := p) (o := w.ow.setCand p false) hs hc ?_ hwr hww).mono fun t ⟨h1, h2, h3, h4⟩ => ?_
  · rw [hg]
    unfold State.portReset
    simp only
    rw [hv, hwv]
  · obtain ⟨g1, g2, g3, g4, g5, g6, g7, g8⟩ := h2.shows hcw
    have hd : ∀ k, ((t.port p).dsr k).asDistaff = (((v.port p).dsr k).resetSettings).asDistaff := fun k => by
      rw [h2.ds k, hwp, hds']
    have hk : ∀ k, ((t.port p).skn k).asSkein = (((v.port p).skn k).resetSettings).asSkein := fun k => by
      rw [h2.sk k, hwp, hsk']
    have hr := h2.rest
    rw [hwp] at g1 g2 g3 g4 g5 g6 g7 g8 hr
    refine ⟨⟨⟨h1, fun k => (g1 k).trans ?_, fun k => (g2 k).trans ?_, g3.trans hbm, h3⟩, g5.trans hstk, g6.trans hout, g7.trans hhold, g8,
      by rw [hr]; rfl, by rw [hr]; rfl, by rw [hr]; rfl, by rw [hr]; rfl, fun k => ⟨?_, ?_, ?_, ?_, ?_⟩,
      fun ho => (h4 ho).trans (by rw [how])⟩, g4.trans hup⟩
    · rw [hds']; exact hds k
    · rw [hsk']; exact hsk k
    · exact (congrArg Ring.en (hd k)).trans rfl
    · exact (congrArg Ring.base (hd k)).trans rfl
    · exact (congrArg Ring.en (hk k)).trans rfl
    · exact (congrArg Ring.base (hk k)).trans rfl
    · exact (congrArg Ring.notify (hk k)).trans rfl

end

end Sys2Proof.Machine
end

section
/-!
PROOFS. A port returns to service (R314, R374): its waiting request message goes out.
-/

namespace Sys2Proof.Machine

/-! ## A request that stays -/

/-- The better of a source and the best before it. -/
def Ctx.better (c : Ctx) (i : Nat) : Option Nat → Nat
  | none => i
  | some b => if c.prio i > c.prio b then i else b

theorem Ctx.bestOf_pending (c : Ctx) (l : Tbl SrcState) (i : Nat) :
    c.bestOf (l ++ [(i, .pending)]) = some (c.better i (c.bestOf l)) := by
  unfold Ctx.bestOf
  rw [List.foldl_append]
  simp only [List.foldl_cons, List.foldl_nil]
  split
  · rename_i h
    rw [h]
    rfl
  · rename_i b h
    rw [h]
    unfold Ctx.better
    simp only
    split <;> rfl

theorem Ctx.bestOf_other (c : Ctx) (l : Tbl SrcState) (i : Nat) {x : SrcState} (h : x ≠ .pending) :
    c.bestOf (l ++ [(i, x)]) = c.bestOf l := by
  unfold Ctx.bestOf
  rw [List.foldl_append]
  cases x with
  | pending => exact absurd rfl h
  | inactive => rfl
  | active => rfl
  | activePending => rfl

/-- The source that is best waits. -/
theorem Ctx.mem_of_bestOf (c : Ctx) {l : Tbl SrcState} {b : Nat} (h : c.bestOf l = some b) : (b, SrcState.pending) ∈ l := by
  induction l using List.reverseRecOn generalizing b with
  | nil => cases h
  | append_singleton l e ih =>
    obtain ⟨i, x⟩ := e
    by_cases hx : x = .pending
    · subst hx
      rw [c.bestOf_pending] at h
      have hb := Option.some.inj h
      cases hm : c.bestOf l with
      | none =>
        rw [hm] at hb
        simp [← hb, Ctx.better]
      | some m =>
        rw [hm] at hb
        unfold Ctx.better at hb
        by_cases hj : c.prio i > c.prio m
        · simp [← hb, hj]
        · simp only [hj, if_false] at hb
          exact List.mem_append_left _ (ih (hm.trans (congrArg some hb)))
    · rw [c.bestOf_other _ _ hx] at h
      exact List.mem_append_left _ (ih h)

/-- None that waits has a higher priority. -/
theorem Ctx.bestOf_ge (c : Ctx) {l : Tbl SrcState} {i : Nat} (h : (i, SrcState.pending) ∈ l) :
    ∃ b, c.bestOf l = some b ∧ c.prio i ≤ c.prio b := by
  induction l using List.reverseRecOn with
  | nil => cases h
  | append_singleton l e ih =>
    obtain ⟨j, x⟩ := e
    by_cases hx : x = .pending
    · subst hx
      refine ⟨_, c.bestOf_pending l j, ?_⟩
      obtain hm | hm := List.mem_append.1 h
      · obtain ⟨b, hb, hp⟩ := ih hm
        rw [hb]
        unfold Ctx.better
        simp only
        split <;> omega
      · cases List.mem_singleton.1 hm
        unfold Ctx.better
        split
        · exact Nat.le_refl _
        · split <;> omega
    · rw [c.bestOf_other _ _ hx]
      obtain hm | hm := List.mem_append.1 h
      · exact ih hm
      · cases List.mem_singleton.1 hm
        exact absurd rfl hx

/-- From q to x a port's sources that wait go on waiting, and its requests, its settings and its stack stay. -/
structure PortSt.Calls (q x : PortSt) : Prop where
  rest : x = { q with src := x.src, fresh := x.fresh, freshAt := x.freshAt, ds := x.ds, sk := x.sk }
  waits : ∀ i, (i, SrcState.pending) ∈ q.src → (i, SrcState.pending) ∈ x.src

theorem PortSt.Calls.refl (q : PortSt) : PortSt.Calls q q := ⟨rfl, fun _ h => h⟩

theorem PortSt.Calls.trans {q x y : PortSt} (h : PortSt.Calls q x) (g : PortSt.Calls x y) : PortSt.Calls q y :=
  ⟨by rw [g.rest, h.rest], fun i w => g.waits i (h.waits i w)⟩

theorem PortSt.Calls.req {q x : PortSt} {c d : Ctx} (h : PortSt.Calls q x) (hl : d.live = c.live) (hr : c.req q = true) :
    d.req x = true := by
  have hprio : ∀ i, d.prio i = c.prio i := fun i => by unfold Ctx.prio Ctx.src Ctx.reg; rw [hl]
  have hhold : x.hold = q.hold := by rw [h.rest]
  have hrun : x.running = q.running := by rw [h.rest]; rfl
  unfold Ctx.req at hr ⊢
  cases hb : c.best q with
  | none => rw [hb] at hr; cases hr
  | some b =>
    rw [hb] at hr
    simp only at hr
    obtain ⟨b', hb', hp⟩ := d.bestOf_ge (h.waits b (c.mem_of_bestOf hb))
    have hbest : d.best x = some b' := hb'
    rw [hprio, hprio] at hp
    rw [hbest]
    simp only
    rw [hhold, hrun, hprio]
    rw [Bool.and_eq_true] at hr ⊢
    refine ⟨hr.1, ?_⟩
    have h2 := hr.2
    cases hx : q.running with
    | none => rfl
    | some y =>
      rw [hx] at h2
      simp only [decide_eq_true_eq] at h2 ⊢
      omega

/-- From a to b reports are made that leave each port's requests as they are, and no slub and no hank. -/
structure Rep.Calls (a b : Rep) : Prop where
  port : ∀ p, PortSt.Calls (a.port p) (b.port p)
  due : a.whDue = true → b.whDue = true
  same : Rep.Same a b
  grows : Rep.Grows a b

section
variable {a b c : Rep}

theorem Rep.Calls.refl (a : Rep) : Rep.Calls a a := ⟨fun _ => .refl _, fun h => h, .refl a, .refl a⟩

theorem Rep.Calls.trans (h : Rep.Calls a b) (g : Rep.Calls b c) : Rep.Calls a c :=
  ⟨fun p => (h.port p).trans (g.port p), fun w => g.due (h.due w), h.same.trans g.same, h.grows.trans g.grows⟩

theorem Rep.calls_setPort {r : Rep} {p : Port} {x : PortSt} (h : PortSt.Calls (r.port p) x) (hg : Rep.Grows r (r.setPort p x)) :
    Rep.Calls r (r.setPort p x) := by
  refine ⟨fun q => ?_, fun w => w, ⟨rfl, rfl, rfl, rfl, rfl, rfl, rfl, rfl, rfl, rfl⟩, hg⟩
  by_cases hq : q = p
  · subst hq
    rw [Rep.port_setPort_self]
    exact h
  · rw [Rep.port_setPort_ne _ _ hq]
    exact .refl _

theorem Rep.calls_setDs (r : Rep) (p : Port) (d : Nat) (g : Ring) : Rep.Calls r (r.setDs p d g) :=
  Rep.calls_setPort ⟨rfl, fun _ h => h⟩ (Rep.grows_setPort fun _ h => h)

theorem Rep.calls_setSk (r : Rep) (p : Port) (k : Nat) (g : Ring) : Rep.Calls r (r.setSk p k g) :=
  Rep.calls_setPort ⟨rfl, fun _ h => h⟩ (Rep.grows_setPort fun _ h => h)

theorem Rep.calls_askReq (r : Rep) : Rep.Calls r r.askReq :=
  ⟨fun _ => .refl _, fun _ => rfl, ⟨rfl, rfl, rfl, rfl, rfl, rfl, rfl, rfl, rfl, rfl⟩,
    ⟨⟨[], by simp [Rep.askReq]⟩, fun _ => Nat.min_le_right _ _, fun _ _ h => h⟩⟩

theorem Rep.calls_emit (r : Rep) (o : Output) : Rep.Calls r (r.emit o) :=
  ⟨fun _ => .refl _, fun h => h, Rep.same_emit r o, Rep.grows_emit r o⟩

/-- Entries that a firing does not replace. -/
theorem Tbl.mem_ins {α : Type} {t : Tbl α} {e : Nat × α} {k : Nat} {v : α} (h : e ∈ t) (hk : Tbl.look t k ≠ some e.2) :
    e ∈ Tbl.ins t k v := by
  induction t with
  | nil => cases h
  | cons x t ih =>
    obtain ⟨j, y⟩ := x
    unfold Tbl.ins
    unfold Tbl.look at hk
    by_cases h1 : k < j
    · rw [if_pos h1]
      exact List.mem_cons_of_mem _ h
    · rw [if_neg h1]
      by_cases h2 : k = j
      · rw [if_pos h2] at hk ⊢
        obtain he | he := List.mem_cons.1 h
        · rw [he] at hk
          exact absurd rfl hk
        · exact List.mem_cons_of_mem _ he
      · rw [if_neg h2] at hk ⊢
        obtain he | he := List.mem_cons.1 h
        · rw [he]
          exact List.mem_cons_self
        · exact List.mem_cons_of_mem _ (ih he hk)

theorem PortSt.calls_present {q : PortSt} {x : SrcState} (k i : Nat) (h : (Tbl.lookD q.src i .inactive).fired = some x) :
    PortSt.Calls q (q.present k i x) := by
  refine ⟨rfl, fun j hj => ?_⟩
  have hx : x ≠ .inactive := by
    rintro rfl
    cases hy : Tbl.lookD q.src i .inactive <;> rw [hy] at h <;> cases h
  have hn : Tbl.look q.src i ≠ some .pending := fun hl => by
    have : Tbl.lookD q.src i .inactive = .pending := by unfold Tbl.lookD; rw [hl]; rfl
    rw [this] at h
    cases h
  show _ ∈ Tbl.put q.src i .inactive x
  unfold Tbl.put
  rw [if_neg hx]
  exact Tbl.mem_ins hj hn

theorem Rep.bump_port (r : Rep) (i n : Nat) : (∀ p, (r.bump i n).1.port p = r.port p) ∧ (r.bump i n).1.whDue = r.whDue := by
  unfold Rep.bump
  simp only
  split <;> exact ⟨fun _ => rfl, rfl⟩

theorem Rep.calls_bump (r : Rep) (i n : Nat) : Rep.Calls r (r.bump i n).1 := by
  obtain ⟨h1, h2⟩ := r.bump_port i n
  exact ⟨fun p => h1 p ▸ .refl _, fun h => h2.trans h, Rep.same_bump r i n, Rep.grows_bump r i n⟩

mutual
theorem Rep.calls_fireOne (n : Nat) (c : Ctx) (w : Word) (r : Rep) (i : Nat) (p : Port) : Rep.Calls r (Rep.fireOne n c w r i p) := by
  have hfull : ∀ k, Rep.Calls r
      (if (r.bump (whCounter p k) 1).2 then Rep.fireN n c (r.bump (whCounter p k) 1).1 0x05E else (r.bump (whCounter p k) 1).1) :=
    fun k => by
      split
      · exact (Rep.calls_bump r _ _).trans (Rep.calls_fireN n c _ _)
      · exact Rep.calls_bump r _ _
  have hg := Rep.grows_fireOne n c w r i p
  have hs := Rep.same_fireOne n c w r i p
  unfold Rep.fireOne at hg hs ⊢
  simp only at hg hs ⊢
  split
  · rename_i h12
    rw [if_pos h12] at hg hs
    split
    · rename_i x hx
      rw [hx] at hg hs
      refine ⟨fun q => ?_, fun _ => rfl, hs, hg⟩
      by_cases h : q = p
      · subst h
        show PortSt.Calls _ ((r.setPort q _).port q)
        rw [Rep.port_setPort_self]
        exact PortSt.calls_present _ _ hx
      · show PortSt.Calls _ ((r.setPort p _).port q)
        rw [Rep.port_setPort_ne _ _ h]
        exact .refl _
    · exact hfull 0
  · exact hfull 1
  termination_by 2 * n + 1

theorem Rep.calls_fireN (n : Nat) (c : Ctx) (r : Rep) (i : Nat) : Rep.Calls r (Rep.fireN n c r i) := by
  cases n with
  | zero => exact .refl r
  | succ n =>
    rw [Rep.fireN_succ]
    simp only
    split
    · split <;> split
      · exact (Rep.calls_fireOne n c _ r i .a).trans (Rep.calls_fireOne n c _ _ i .b)
      · exact Rep.calls_fireOne n c _ r i .b
      · exact Rep.calls_fireOne n c _ r i .a
      · exact .refl r
    · exact .refl r
  termination_by 2 * n
end

theorem Rep.calls_fireOnce (r : Rep) (c : Ctx) (g i : Nat) : Rep.Calls r (r.fireOnce c g i) := by
  unfold Rep.fireOnce
  split
  · exact .refl r
  · refine .trans (b := { r with first := r.first ++ [g] }) ?_ (Rep.calls_fireN 4 c _ i)
    exact ⟨fun _ => .refl _, fun h => h, ⟨rfl, rfl, rfl, rfl, rfl, rfl, rfl, rfl, rfl, rfl⟩,
      ⟨⟨[], by simp⟩, fun _ => Nat.min_le_right _ _, fun _ _ h => h⟩⟩

end

/-! ## The indexes and the hanks that waited -/

/-- From a to b reports are made that leave the requests as they are. -/
def State.Calls (a b : State) : Prop := State.RepOnly a b ∧ Rep.Calls a.rep b.rep

section
variable {a b c : State}

theorem State.Calls.refl (a : State) : State.Calls a a := ⟨.refl a, .refl _⟩

theorem State.Calls.trans (h : State.Calls a b) (g : State.Calls b c) : State.Calls a c := ⟨h.1.trans g.1, h.2.trans g.2⟩

theorem State.Calls.foldl {α : Type} {f : State → α → State} (hf : ∀ u x, State.Calls u (f u x)) (l : List α) (u : State) :
    State.Calls u (l.foldl f u) := by
  induction l generalizing u with
  | nil => exact .refl u
  | cons x l ih => exact (hf u x).trans (ih _)

theorem State.Calls.ite {p : Prop} [Decidable p] (h : State.Calls a b) (g : State.Calls a c) : State.Calls a (if p then b else c) := by
  split
  · exact h
  · exact g

theorem State.calls_emit (a : State) (o : Output) : State.Calls a (a.emit o) := ⟨rfl, Rep.calls_emit _ _⟩
theorem State.calls_modDs (a : State) (p : Port) (d : Nat) (f : Ring → Ring) : State.Calls a (a.modDs p d f) := ⟨rfl, Rep.calls_setDs _ _ _ _⟩
theorem State.calls_modSk (a : State) (p : Port) (k : Nat) (f : Ring → Ring) : State.Calls a (a.modSk p k f) := ⟨rfl, Rep.calls_setSk _ _ _ _⟩
theorem State.calls_raiseOnce (a : State) (g i : Nat) : State.Calls a (a.raiseOnce g i) := ⟨rfl, Rep.calls_fireOnce _ _ _ _⟩

theorem State.calls_header (a : State) (p : Port) : State.Calls a { a with rep := a.rep.writeHeader a.ctx p } := by
  unfold Rep.writeHeader
  simp only
  split
  · exact a.calls_emit _
  · exact .refl a

/-- The indexes that are owed are written to the status page. -/
theorem State.calls_payIndexes (a : State) (p : Port) : State.Calls a (a.payIndexes p) := by
  have hds : ∀ (u : State) (e : Nat × Ring), State.Calls u (if e.2.owes then
      (u.modDs p e.1 (fun g => { g with owes := false })).emit (.dsCons p e.1 ((u.port p).dsr e.1).own ((a.port p).consAddr e.1)) else u) :=
    fun u e => .ite ((u.calls_modDs p e.1 _).trans (State.calls_emit _ _)) (.refl u)
  have hsk : ∀ (u : State) (e : Nat × Ring), State.Calls u (if e.2.owes then
      (u.modSk p e.1 (fun g => { g with owes := false })).emit (.skProd p e.1 ((u.port p).skn e.1).own ((a.port p).prodAddr e.1)) else u) :=
    fun u e => .ite ((u.calls_modSk p e.1 _).trans (State.calls_emit _ _)) (.refl u)
  unfold State.payIndexes
  simp only
  exact .ite (((State.Calls.foldl hds _ _).trans (State.Calls.foldl hsk _ _)).trans (State.calls_header _ p)) (.refl a)

/-- The hanks that wait for the drain are written to the host. -/
theorem State.calls_drainHanks (a : State) : State.Calls a a.drainHanks := by
  have hone : ∀ (u : State) (slot : Nat), State.Calls u (match Tbl.look u.rep.trace slot with
      | some h =>
        let b := u.emit (.drain a.drainPort (u.rep.drainProd.toNat % 2 ^ (u.fld 0x110018 0 5)) (u.drainAddr u.rep.drainProd) h)
        { b with rep := { b.rep with drainProd := b.rep.drainProd + 1 } }
      | none => u) := fun u slot => by
    split
    · refine (u.calls_emit _).trans ⟨rfl, fun _ => .refl _, fun h => h, ⟨rfl, rfl, rfl, rfl, rfl, rfl, rfl, rfl, rfl, rfl⟩,
        ⟨⟨[], by simp⟩, fun _ => Nat.min_le_right _ _, fun _ _ h => h⟩⟩
    · exact .refl u
  have hfold := State.Calls.foldl hone a.rep.undrained a
  unfold State.drainHanks
  simp only
  refine .ite (hfold.trans ?_) (.refl a)
  generalize List.foldl _ a a.rep.undrained = u
  refine .trans (b := { u with rep := { u.rep with undrained := [] } }) ?_ (State.calls_raiseOnce _ _ _)
  exact ⟨rfl, fun _ => .refl _, fun h => h, ⟨rfl, rfl, rfl, rfl, rfl, rfl, rfl, rfl, rfl, rfl⟩,
    ⟨⟨[], by simp⟩, fun _ => Nat.min_le_right _ _, fun _ _ h => h⟩⟩

end

/-! ## A port in service again -/

/-- A port whose link is up and whose Bus Master Enable is set. -/
def PortSt.upAgain (q : PortSt) : PortSt := { q with linkUp := true, busMaster := true }

theorem exec_busMasterEnable (s : State) (dt : Nat) (p : Port) : exec (.busMasterEnable dt p) s =
    s.at_ dt (fun u => (({ u with rep := ((u.rep.setPort p (u.port p).upAgain).deliverMsix p).askReq }).payIndexes p).drainHanks) := rfl

/-- The message that waits for the port to write goes out. -/
theorem Rep.deliverMsix_spec (r : Rep) (p : Port) : (∃ m, (r.deliverMsix p).port p = { r.port p with msixPend := m }) ∧
    Rep.Same r (r.deliverMsix p) ∧ Rep.Grows r (r.deliverMsix p) ∧
    ((r.port p).msixPend = true → (r.port p).msixMask = false → (r.port p).canWrite = true →
      ∃ l, (r.deliverMsix p).out = r.out ++ l ∧ Output.msix p (r.port p).msixAddr (r.port p).msixData ∈ l) := by
  unfold Rep.deliverMsix
  simp only
  split
  · refine ⟨⟨false, ?_⟩, ⟨rfl, rfl, rfl, rfl, rfl, rfl, rfl, rfl, rfl, rfl⟩, ?_, fun _ _ _ => ⟨[_], rfl, List.mem_singleton_self _⟩⟩
    · show (r.setPort p _).port p = _
      exact Rep.port_setPort_self _ _ _
    · exact (Rep.grows_setPort (v := { r.port p with msixPend := false }) fun _ h => h).trans (Rep.grows_emit _ _)
  · rename_i h
    exact ⟨⟨_, rfl⟩, .refl r, .refl r, fun h1 h2 h3 => absurd (by simp [h1, h2, h3]) h⟩

/-- At the end of an instant that writes nothing the whorl evaluates its requests. -/
theorem Rep.flush_requests {r : Rep} (c : Ctx) (h1 : r.slubReqs = []) (h2 : r.hankReqs = []) (h3 : r.whOld = none) (h4 : r.whDue = true) :
    r.flush c = { (r.evalReq c .a).evalReq c .b with whDue := false } := by
  cases r
  simp only at h1 h2 h3 h4
  subst h1 h2 h3 h4
  rfl

/-- What the evaluation of a request leaves of the ports, and its message. -/
theorem Rep.evalReq_spec (r : Rep) (c : Ctx) (p : Port) :
    (∀ q, ∃ o m, (r.evalReq c p).port q = { r.port q with outstanding := o, msixPend := m }) ∧
    (∀ q, q ≠ p → (r.evalReq c p).port q = r.port q) ∧
    (c.req (r.port p) = true → (r.port p).outstanding = false → (r.port p).canWrite = true → (r.port p).msixMask = false →
      ∃ l, (r.evalReq c p).out = r.out ++ l ∧ Output.msix p (r.port p).msixAddr (r.port p).msixData ∈ l) := by
  have hset : ∀ m q, ∃ o m', (r.setPort p { r.port p with outstanding := true, msixPend := m }).port q =
      { r.port q with outstanding := o, msixPend := m' } := fun m q => by
    by_cases hq : q = p
    · subst hq
      exact ⟨true, m, Rep.port_setPort_self _ _ _⟩
    · exact ⟨_, _, Rep.port_setPort_ne _ _ hq⟩
  unfold Rep.evalReq
  simp only
  split
  · split
    · rename_i hm
      exact ⟨hset true, fun q hq => Rep.port_setPort_ne _ _ hq, fun _ _ _ h => by rw [hm] at h; cases h⟩
    · exact ⟨hset _, fun q hq => Rep.port_setPort_ne _ _ hq, fun _ _ _ _ => ⟨[_], rfl, List.mem_singleton_self _⟩⟩
  · rename_i h
    exact ⟨fun q => ⟨_, _, rfl⟩, fun _ _ => rfl, fun h1 h2 h3 _ => absurd (by simp [h1, h2, h3]) h⟩

theorem mem_out_of_earlier {α : Type} {a b c : List α} {x : α} (h : ∃ l, b = a ++ l ∧ x ∈ l) (g : ∃ l, c = b ++ l) :
    ∃ l, c = a ++ l ∧ x ∈ l := by
  obtain ⟨l, hl, hx⟩ := h
  obtain ⟨m, hm⟩ := g
  exact ⟨l ++ m, by rw [hm, hl, List.append_assoc], List.mem_append_left _ hx⟩

theorem mem_out_of_later {α : Type} {a b c : List α} {x : α} (g : ∃ l, b = a ++ l) (h : ∃ l, c = b ++ l ∧ x ∈ l) :
    ∃ l, c = a ++ l ∧ x ∈ l := by
  obtain ⟨l, hl, hx⟩ := h
  obtain ⟨m, hm⟩ := g
  exact ⟨m ++ l, by rw [hl, hm, List.append_assoc], List.mem_append_right _ hx⟩

/-- The requests of both ports are evaluated: what each port keeps, and the message of a request that waits. -/
theorem Rep.evalReqs_spec (r : Rep) (c : Ctx) (p : Port) :
    (∃ o m, ((r.evalReq c .a).evalReq c .b).port p = { r.port p with outstanding := o, msixPend := m }) ∧
    (c.req (r.port p) = true → (r.port p).outstanding = false → (r.port p).canWrite = true → (r.port p).msixMask = false →
      ∃ l, ((r.evalReq c .a).evalReq c .b).out = r.out ++ l ∧ Output.msix p (r.port p).msixAddr (r.port p).msixData ∈ l) := by
  obtain ⟨ha1, ha2, ha3⟩ := r.evalReq_spec c .a
  obtain ⟨hb1, hb2, hb3⟩ := (r.evalReq c .a).evalReq_spec c .b
  obtain ⟨o, m, ho⟩ := ha1 p
  obtain ⟨o', m', ho'⟩ := hb1 p
  refine ⟨⟨o', m', by rw [ho', ho]⟩, fun h1 h2 h3 h4 => ?_⟩
  cases p with
  | a => exact mem_out_of_earlier (ha3 h1 h2 h3 h4) (Rep.grows_evalReq _ _ _).out
  | b =>
    rw [ha2 .b (by decide)] at hb3
    exact mem_out_of_later (Rep.grows_evalReq _ _ _).out (hb3 h1 h2 h3 h4)

section
variable {s : State} {dt : Nat} {p : Port} (hs : s.ready)
include hs

theorem answers_busMasterEnable : Answers (.busMasterEnable dt p) s (fun t =>
    t = { s.elapse dt with rep := t.rep } ∧ (t.port p).busMaster = true ∧ (t.port p).linkUp = true ∧
    (t.port p).stack = (s.port p).stack ∧ (t.port p).portEn = (s.port p).portEn ∧
    ((s.port p).msixMask = false → (s.port p).msixPend = true ∨ (s.ctx.req (s.port p) = true ∧ (s.port p).outstanding = false) →
      s.putsOut t (.msix p (s.port p).msixAddr (s.port p).msixData))) := by
  refine answers_at hs (exec_busMasterEnable s dt p) ?_
  obtain ⟨hq1, hq2, hq3, hq4⟩ := State.elapse_settled hs dt
  have hport := State.elapse_port hs.2.2 dt p
  have hrep := State.elapse_rep hs.2.2 dt
  have hlive := s.elapse_live dt
  generalize s.elapse dt = e at hport hrep hlive hq1 hq2 hq3 hq4 ⊢
  rw [hport]
  obtain ⟨r1, hr1⟩ : ∃ r1, e.rep.setPort p (s.port p).upAgain = r1 := ⟨_, rfl⟩
  have hp1 : r1.port p = (s.port p).upAgain := hr1 ▸ Rep.port_setPort_self _ _ _
  have hg1 : Rep.Grows s.rep r1 := by
    rw [← hr1, ← hrep]
    exact Rep.grows_setPort fun i hi => by rw [hrep] at hi; exact hi
  have hs1 : Rep.Same e.rep r1 := hr1 ▸ ⟨rfl, rfl, rfl, rfl, rfl, rfl, rfl, rfl, rfl, rfl⟩
  rw [hr1]
  obtain ⟨⟨m, hp2⟩, hs2, hg2, hmsg⟩ := r1.deliverMsix_spec p
  generalize r1.deliverMsix p = r2 at hp2 hs2 hg2 hmsg ⊢
  have hcalls := ({ e with rep := r2.askReq }).calls_payIndexes p |>.trans (State.calls_drainHanks _)
  generalize (State.payIndexes { e with rep := r2.askReq } p).drainHanks = v at hcalls ⊢
  obtain ⟨hv, hc⟩ := hcalls
  have hcall : Rep.Calls r2 v.rep := (Rep.calls_askReq r2).trans hc
  have hsame : Rep.Same e.rep v.rep := (hs1.trans hs2).trans hcall.same
  have hctx : v.ctx.live = s.ctx.live := (congrArg (fun x : State => x.regs.live) hv).trans hlive
  obtain ⟨⟨o, m', hpt⟩, hreq⟩ := v.rep.evalReqs_spec v.ctx p
  have hpv := hc.port p
  have hflush : v.flush = { v with rep := { (v.rep.evalReq v.ctx .a).evalReq v.ctx .b with whDue := false } } := by
    unfold State.flush
    rw [Rep.flush_requests v.ctx (hsame.slubReqs.trans hq1) (hsame.hankReqs.trans hq2) (hsame.whOld.trans hq3) (hc.due rfl)]
  have hgrow : ∃ l, ((v.rep.evalReq v.ctx .a).evalReq v.ctx .b).out = v.rep.out ++ l :=
    ((Rep.grows_evalReq _ _ _).trans (Rep.grows_evalReq _ _ _)).out
  rw [hflush]
  generalize (v.rep.evalReq v.ctx .a).evalReq v.ctx .b = z at hpt hreq hgrow ⊢
  have hp3 : PortSt.Calls { (s.port p).upAgain with msixPend := m } (v.rep.port p) := by
    rw [← hp1, ← hp2]
    exact hpv
  have hkeep : (v.rep.port p).busMaster = true ∧ (v.rep.port p).linkUp = true ∧ (v.rep.port p).stack = (s.port p).stack ∧
      (v.rep.port p).portEn = (s.port p).portEn ∧ (v.rep.port p).outstanding = (s.port p).outstanding ∧
      (v.rep.port p).msixMask = (s.port p).msixMask ∧ (v.rep.port p).msixAddr = (s.port p).msixAddr ∧
      (v.rep.port p).msixData = (s.port p).msixData := by
    rw [hp3.rest]
    exact ⟨rfl, rfl, rfl, rfl, rfl, rfl, rfl, rfl⟩
  obtain ⟨k1, k2, k3, k4, k5, k6, k7, k8⟩ := hkeep
  have hz : ({ v with rep := { z with whDue := false } } : State).port p = { v.rep.port p with outstanding := o, msixPend := m' } := hpt
  refine ⟨congrArg (fun x : State => { x with rep := { z with whDue := false } }) hv, by rw [hz]; exact k1, by rw [hz]; exact k2,
    by rw [hz]; exact k3, by rw [hz]; exact k4, fun hmask hwait => ?_⟩
  show ∃ l, z.out = s.rep.out ++ l ∧ _ ∈ l
  obtain hpend | ⟨hr, hout⟩ := hwait
  · rw [hp1] at hmsg
    have h2 := hmsg hpend hmask rfl
    exact mem_out_of_earlier (mem_out_of_earlier (mem_out_of_later hg1.out h2) hcall.grows.out) hgrow
  · rw [k7, k8] at hreq
    have hw : (v.rep.port p).canWrite = true := by
      unfold PortSt.canWrite
      rw [k1, k2]
      rfl
    have hrv : v.ctx.req (v.rep.port p) = true := by
      refine PortSt.Calls.req (c := s.ctx) hp3 hctx ?_
      exact hr
    exact mem_out_of_later ((hg1.trans hg2).trans hcall.grows).out (hreq hrv (k5.trans hout) hw (k6.trans hmask))

end

/-- Settles O46: each row leaves the rings halted and the ownership lapsed, and a request that waits goes out when the port returns. -/
theorem portsLeaveService : Obligations.PortsLeaveService := by
  intro s dt p hs q halted reset
  refine ⟨answers_linkDown hs, answers_busMasterDisable hs, fun hwd hws => ⟨?_, ?_⟩, answers_busMasterEnable hs⟩
  · refine answers_portReset hs (s.port p).linkUp (exec_functionLevelReset s dt p) ?_ hwd hws
    unfold State.portOff
    rw [State.elapse_port hs.2.2]
  · exact answers_portReset hs false (exec_perstAssert s dt p) rfl hwd hws

end Sys2Proof.Machine
end

section
/-!
PROOFS. Settings of a port (R320 to R322): what an instant without slubs and hanks leaves of a port, and writes that are discarded.
-/

namespace Sys2Proof.Machine

/-- From q to x sources fire at a port and its request is evaluated. -/
def PortSt.Still (q x : PortSt) : Prop :=
  x = { q with src := x.src, fresh := x.fresh, freshAt := x.freshAt, outstanding := x.outstanding, msixPend := x.msixPend }

theorem PortSt.Still.refl (q : PortSt) : PortSt.Still q q := rfl

theorem PortSt.Still.trans {q x y : PortSt} (h : PortSt.Still q x) (g : PortSt.Still x y) : PortSt.Still q y := by
  unfold PortSt.Still at h g ⊢
  rw [g, h]

theorem PortSt.Still.selected {q x : PortSt} (h : PortSt.Still q x) : x.selected = q.selected := by
  rw [h]
  rfl

theorem PortSt.Still.skn {q x : PortSt} (h : PortSt.Still q x) (k : Nat) : x.skn k = q.skn k := by
  rw [h]
  rfl

theorem Rep.RingsKept.still {a b : Rep} (h : Rep.RingsKept a b) (p : Port) : PortSt.Still (a.port p) (b.port p) := by
  obtain ⟨_, _, _, hp⟩ := h p
  rw [hp]
  rfl

/-- The end of an instant that writes no slub and no hank. -/
theorem Rep.flush_still {r : Rep} (c : Ctx) (h1 : r.slubReqs = []) (h2 : r.hankReqs = []) (h3 : r.whOld = none) (p : Port) :
    PortSt.Still (r.port p) ((r.flush c).port p) := by
  cases h4 : r.whDue with
  | false =>
    rw [Rep.flush_rest c h1 h2 h3 h4]
    exact .refl _
  | true =>
    obtain ⟨⟨o, m, hp⟩, -⟩ := r.evalReqs_spec c p
    rw [Rep.flush_requests c h1 h2 h3 h4]
    generalize (r.evalReq c .a).evalReq c .b = z at hp ⊢
    show PortSt.Still _ (z.port p)
    rw [hp]
    rfl

theorem Rep.ringsKept_fireOnce (r : Rep) (c : Ctx) (g i : Nat) : Rep.RingsKept r (r.fireOnce c g i) := by
  unfold Rep.fireOnce
  split
  · exact .refl r
  · exact Rep.RingsKept.trans (b := { r with first := r.first ++ [g] }) (.of_port fun _ => rfl) (Rep.ringsKept_fire _ _ _)

section
variable {s v : State} {dt off : Nat} {w : Wr}

theorem State.discard_ringsKept (v : State) (off : Nat) (p : Port) (r : Nat) : Rep.RingsKept v.rep (v.discard off p r).rep :=
  (Rep.ringsKept_count _ _ _ _).trans (Rep.ringsKept_fireOnce _ _ _ _)

theorem State.discard_still (v : State) (off : Nat) (p : Port) (r : Nat) : Rep.Same v.rep (v.discard off p r).rep :=
  (Rep.same_count _ _ _ _).trans (Rep.same_fireOnce _ _ _ _)

/-- A discarded write counts and raises 0x05B at its first in the turn (R386). -/
theorem State.Tells.discardFirst {k : Account} (h : s.Tells k v.rep) (off : Nat) (p : Port) (r : Nat) (hlive : v.regs.live = s.regs.live)
    (htag : 0x05B ∉ k.tags) :
    s.Tells { k with cts := (5184 + 64 * p.idx, 1) :: k.cts, once := (0x05B, 0x05B) :: k.once, tags := 0x05B :: k.tags }
      (v.discard off p r).rep := by
  rw [State.discard_eq]
  exact State.Tells.raiseFirst (State.Tells.count (b := { v with regs := _ }) h _) 0x05B 0x05B hlive htag

/-- A write that is discarded once it has changed settings of its port. -/
theorem answers_wr_discards {c : Instr} {g : State → State} {r : Nat} (hs : s.ready) (hw : s.passes off w)
    (hc : exec c s = s.at_ dt (fun u => u.wr off w g)) (hg : g (s.elapse dt) = v.discard off w.port r)
    (hv : v = { s.elapse dt with rep := v.rep }) (ht : s.Tells {} v.rep) (hh : v.rep.hankReqs = []) :
    Answers c s (fun t => s.discards t dt off w r ∧ PortSt.Still (v.port w.port) (t.port w.port)) := by
  have hlive : v.regs.live = s.regs.live := by rw [hv]; exact State.elapse_live s dt
  have htells := ht.discardFirst off w.port r hlive (by simp)
  have hsame := v.discard_still off w.port r
  have hstill := (v.discard_ringsKept off w.port r).still w.port
  have heq : v.discard off w.port r = { s.elapse dt with
      rep := (v.discard off w.port r).rep, regs := { s.regs with discOff := off, discPort := w.port, discReason := r } } := by
    rw [← State.elapse_regs s dt]
    exact congrArg (fun x : State => { x with
      rep := (v.discard off w.port r).rep, regs := { x.regs with discOff := off, discPort := w.port, discReason := r } }) hv
  refine answers_wr hs hw hc ?_
  rw [hg]
  generalize v.discard off w.port r = x at htells hsame hstill heq ⊢
  have htold := htells.told
  have hfl := Rep.flush_still x.ctx (hsame.slubReqs.trans ht.slubs) (hsame.hankReqs.trans hh) (hsame.whOld.trans ht.whOld) w.port
  exact ⟨⟨congrArg (fun y : State => { y with rep := x.flush.rep }) heq, htold.counts _ List.mem_cons_self,
    htold.once (0x05B, 0x05B) List.mem_cons_self⟩, hstill.trans hfl⟩

/-- A write that is discarded. -/
theorem answers_wr_discarded {c : Instr} {g : State → State} {r : Nat} (hs : s.ready) (hw : s.passes off w)
    (hc : exec c s = s.at_ dt (fun u => u.wr off w g)) (hg : g (s.elapse dt) = (s.elapse dt).discard off w.port r) :
    Answers c s (fun t => s.discards t dt off w r ∧ PortSt.Still (s.port w.port) (t.port w.port)) := by
  have h := answers_wr_discards hs hw hc hg rfl (.elapse hs dt) (State.elapse_settled hs dt).2.1
  rwa [State.elapse_port hs.2.2] at h

/-- A write that takes settings of its port. -/
theorem answers_wr_takes {c : Instr} {g : State → State} {x : PortSt} (hs : s.ready) (hw : s.passes off w)
    (hc : exec c s = s.at_ dt (fun u => u.wr off w g)) (hg : g (s.elapse dt) = (s.elapse dt).setPort w.port x) :
    Answers c s (fun t => t = { s.elapse dt with rep := t.rep } ∧ t.port w.port = x) := by
  obtain ⟨h1, h2, h3, h4⟩ := State.elapse_settled hs dt
  refine answers_wr hs hw hc ?_
  rw [hg, State.flush_rest (s := (s.elapse dt).setPort w.port x) ⟨h1, h2, h3, h4⟩]
  exact ⟨rfl, State.port_setPort_self _ _ _⟩

end

/-! ## Writes to the ports' own block -/

/-- The offsets of the ports' own settings. -/
def portSettings : List Nat := [0x2008, 0x200C, 0x2010, 0x2014, 0x2018, 0x201C, 0x2020, 0x2040, 0x2044, 0x2048]

theorem portSettings_mapped : ∀ off ∈ portSettings, mapped off = true ∧ portPrivate off = true ∧ msixOff off = false ∧
    0x2000 ≤ off ∧ off < 0x3000 := by decide

/-- A whole write to the ports' own block passes the checks. -/
theorem State.passes_private (s : State) {off : Nat} {w : Wr} (hbe : w.be = 15) (hm : mapped off = true) (hp : portPrivate off = true) :
    s.passes off w := by
  show s.wrReason off w = none
  unfold State.wrReason
  rw [if_neg (not_not.2 hbe), hm, hp]
  rfl

theorem exec_registerWrite (s : State) (dt off : Nat) (w : Wr) :
    exec (.registerWrite dt off w) s = s.at_ dt (fun u => u.wr off w (fun u => u.regStore off w)) := rfl

section
variable {s : State} {dt off : Nat} {w : Wr} {x y : PortSt} {r : Nat} (hs : s.ready) (hbe : w.be = 15) (hoff : off ∈ portSettings)
include hs hbe hoff

/-- A setting that is taken. -/
theorem answers_setting (h : (s.port w.port).ppWrite off w.data = (x, none)) :
    Answers (.registerWrite dt off w) s (fun t => t = { s.elapse dt with rep := t.rep } ∧ t.port w.port = x) := by
  obtain ⟨hm, hp, hx, hlo, hhi⟩ := portSettings_mapped off hoff
  refine answers_wr_takes hs (s.passes_private hbe hm hp) (exec_registerWrite s dt off w) ?_
  unfold State.regStore
  rw [hx, if_neg Bool.false_ne_true, if_pos ⟨hlo, hhi⟩, State.elapse_port hs.2.2, h]

/-- A setting that is discarded. -/
theorem answers_setting_discarded (h : (s.port w.port).ppWrite off w.data = (x, some r)) :
    Answers (.registerWrite dt off w) s (fun t => s.discards t dt off w r ∧ PortSt.Still (s.port w.port) (t.port w.port)) := by
  obtain ⟨hm, hp, hx, hlo, hhi⟩ := portSettings_mapped off hoff
  refine answers_wr_discarded hs (s.passes_private hbe hm hp) (exec_registerWrite s dt off w) ?_
  unfold State.regStore
  rw [hx, if_neg Bool.false_ne_true, if_pos ⟨hlo, hhi⟩, State.elapse_port hs.2.2, h]

end

/-- The port settings that need PORT_EN to be 0 (R320). -/
theorem PortSt.ppWrite_enabled {q : PortSt} (h : q.portEn = true) (v : Word) :
    ∀ off ∈ [0x2008, 0x200C, 0x2010, 0x2014, 0x2018, 0x201C, 0x2020], q.ppWrite off v = (q, some 8) := by
  simp only [List.forall_mem_cons]
  unfold PortSt.ppWrite
  simp [h, reasonEnabled]

/-- The ring settings that need EN to be 0 (R322). -/
theorem PortSt.ppWrite_ringEnabled {q : PortSt} (h : q.selected.en = true) (v : Word) :
    ∀ off ∈ [0x2044, 0x2048], q.ppWrite off v = (q, some 8) := by
  unfold PortSt.selected at h
  simp only [List.forall_mem_cons]
  unfold PortSt.ppWrite
  simp [h, reasonEnabled]

/-- A port with another selected ring. -/
def PortSt.withSelected (q : PortSt) (g : Ring) : PortSt :=
  if q.ringKind then { q with sk := Tbl.put q.sk q.ringSel {} g } else { q with ds := Tbl.put q.ds q.ringSel {} g }

theorem PortSt.selected_withSelected (q : PortSt) (g : Ring) : (q.withSelected g).selected = g := by
  unfold PortSt.withSelected
  split
  · rename_i h
    exact (if_pos h).trans (Tbl.lookD_put_self _ _ _ _)
  · rename_i h
    exact (if_neg h).trans (Tbl.lookD_put_self _ _ _ _)

theorem PortSt.ppWrite_base {q : PortSt} (h : q.selected.en = false) (v : Word) :
    q.ppWrite 0x2044 v = (q.withSelected { q.selected with base := hi32 q.selected.base ++ v }, none) ∧
    q.ppWrite 0x2048 v = (q.withSelected { q.selected with base := v ++ lo32 q.selected.base }, none) := by
  unfold PortSt.selected at h
  unfold PortSt.ppWrite PortSt.withSelected PortSt.selected hi32 lo32
  cases hk : q.ringKind with
  | false =>
    rw [hk] at h
    have hen : (q.dsr q.ringSel).en = false := h
    simp only [hen, Nat.reduceEqDiff, if_false, if_true, Bool.false_eq_true, and_self]
  | true =>
    rw [hk] at h
    have hen : (q.skn q.ringSel).en = false := h
    simp only [hen, Nat.reduceEqDiff, if_false, if_true, Bool.false_eq_true, and_self]

end Sys2Proof.Machine
end

section
/-!
PROOFS. The ring engine at work (R319, R331): the indexes that are owed, what waits for a skein, and the reads that go out.
-/

namespace Sys2Proof.Machine

/-! ## What the engine leaves -/

/-- What serving leaves of a distaff. -/
def Ring.asServed (g : Ring) : Ring := { g.asDistaff with owes := false }

/-- What serving leaves of a skein. -/
def Ring.asFilled (g : Ring) : Ring := { g.asSkein with owes := false }

/-- From q to x a port is served. -/
structure PortSt.Runs (q x : PortSt) : Prop where
  rest : x = { q with
    src := x.src, fresh := x.fresh, freshAt := x.freshAt, ds := x.ds, sk := x.sk, visit := x.visit, valueWait := x.valueWait
    outstanding := x.outstanding, msixPend := x.msixPend }
  ds : ∀ d, (x.dsr d).asServed = (q.dsr d).asServed
  sk : ∀ k, (x.skn k).asFilled = (q.skn k).asFilled

/-- From a to b the rings of the ports are served, and reads of value lines begin. -/
structure State.Runs (a b : State) : Prop where
  only : b = { a with rep := b.rep, dr := { a.dr with streams := b.dr.streams } }
  port : ∀ p, PortSt.Runs (a.port p) (b.port p)
  grows : Rep.Grows a.rep b.rep
  whOld : b.rep.whOld = a.rep.whOld

section
variable {a b c : State}

theorem PortSt.Runs.refl (q : PortSt) : PortSt.Runs q q := ⟨rfl, fun _ => rfl, fun _ => rfl⟩

theorem PortSt.Runs.trans {q x y : PortSt} (h : PortSt.Runs q x) (g : PortSt.Runs x y) : PortSt.Runs q y :=
  ⟨by rw [g.rest, h.rest], fun d => (g.ds d).trans (h.ds d), fun k => (g.sk k).trans (h.sk k)⟩

theorem PortSt.Turn.runs {q x : PortSt} (h : PortSt.Turn q x) : PortSt.Runs q x :=
  ⟨h.rest, fun d => congrArg (fun g : Ring => { g with owes := false }) (h.ds d),
    fun k => congrArg (fun g : Ring => { g with owes := false }) (h.sk k)⟩

theorem PortSt.Runs.canWrite {q x : PortSt} (h : PortSt.Runs q x) : x.canWrite = q.canWrite := by
  rw [h.rest]
  rfl

theorem State.Runs.refl (a : State) : State.Runs a a := ⟨rfl, fun _ => .refl _, .refl _, rfl⟩

theorem State.Runs.trans (h : State.Runs a b) (g : State.Runs b c) : State.Runs a c :=
  ⟨by rw [g.only, h.only], fun p => (h.port p).trans (g.port p), h.grows.trans g.grows, g.whOld.trans h.whOld⟩

theorem State.Runs.ite {p : Prop} [Decidable p] (h : State.Runs a b) (g : State.Runs a c) : State.Runs a (if p then b else c) := by
  split
  · exact h
  · exact g

theorem State.Runs.foldl {α : Type} {f : State → α → State} (hf : ∀ u x, State.Runs u (f u x)) (l : List α) (u : State) :
    State.Runs u (l.foldl f u) := by
  induction l generalizing u with
  | nil => exact .refl u
  | cons x l ih => exact (hf u x).trans (ih _)

/-- A record that takes nothing back. -/
theorem State.Runs.of_turns (a : State) {r : Rep} (ht : Rep.Turns a.rep r) (hg : Rep.Grows a.rep r) (hw : r.whOld = a.rep.whOld) :
    State.Runs a { a with rep := r } := ⟨rfl, fun p => (ht p).runs, hg, hw⟩

theorem State.runs_emit (a : State) (o : Output) : State.Runs a (a.emit o) := .of_turns a (Rep.turns_emit _ _) (a.emit_grows o) rfl

theorem State.Runs.emit (h : State.Runs a b) (o : Output) : State.Runs a (b.emit o) := h.trans (b.runs_emit o)

theorem State.Runs.issue (h : State.Runs a b) (p : Port) (r : HostRead) : State.Runs a (b.issue p r) := h.emit _

theorem State.runs_modDs (a : State) (p : Port) (d : Nat) {f : Ring → Ring} (h : ∀ g, (f g).asServed = g.asServed) :
    State.Runs a (a.modDs p d f) := by
  refine ⟨rfl, fun q => ?_, Rep.grows_setDs _ _ _ _, rfl⟩
  show PortSt.Runs _ ((a.rep.setDs p d _).port q)
  by_cases hq : q = p
  · subst hq
    unfold Rep.setDs
    rw [Rep.port_setPort_self]
    refine ⟨rfl, fun j => ?_, fun _ => rfl⟩
    show Ring.asServed (Tbl.lookD (Tbl.put (a.rep.port q).ds d {} (f ((a.port q).dsr d))) j {}) = _
    by_cases hj : j = d
    · subst hj
      rw [Tbl.lookD_put_self]
      exact h _
    · rw [Tbl.lookD_put_ne _ _ _ _ hj]
      rfl
  · unfold Rep.setDs
    rw [Rep.port_setPort_ne _ _ hq]
    exact .refl _

theorem State.runs_modSk (a : State) (p : Port) (k : Nat) {f : Ring → Ring} (h : ∀ g, (f g).asFilled = g.asFilled) :
    State.Runs a (a.modSk p k f) := by
  refine ⟨rfl, fun q => ?_, Rep.grows_setSk _ _ _ _, rfl⟩
  show PortSt.Runs _ ((a.rep.setSk p k _).port q)
  by_cases hq : q = p
  · subst hq
    unfold Rep.setSk
    rw [Rep.port_setPort_self]
    refine ⟨rfl, fun _ => rfl, fun j => ?_⟩
    show Ring.asFilled (Tbl.lookD (Tbl.put (a.rep.port q).sk k {} (f ((a.port q).skn k))) j {}) = _
    by_cases hj : j = k
    · subst hj
      rw [Tbl.lookD_put_self]
      exact h _
    · rw [Tbl.lookD_put_ne _ _ _ _ hj]
      rfl
  · unfold Rep.setSk
    rw [Rep.port_setPort_ne _ _ hq]
    exact .refl _

theorem State.runs_header (a : State) (p : Port) : State.Runs a { a with rep := a.rep.writeHeader a.ctx p } := by
  unfold Rep.writeHeader
  simp only
  split
  · exact a.runs_emit _
  · exact .refl a

/-! ## Reads go out -/

theorem State.runs_setStream (a : State) (n : Nat) (x : Stream) : State.Runs a (a.setStream n x) := ⟨rfl, fun _ => .refl _, .refl _, rfl⟩

theorem State.runs_setPort (a : State) {p : Port} {x : PortSt} (h : PortSt.Runs (a.port p) x)
    (hg : Rep.Grows a.rep (a.rep.setPort p x)) : State.Runs a (a.setPort p x) := by
  refine ⟨rfl, fun q => ?_, hg, rfl⟩
  show PortSt.Runs _ ((a.rep.setPort p x).port q)
  by_cases hq : q = p
  · subst hq
    rw [Rep.port_setPort_self]
    exact h
  · rw [Rep.port_setPort_ne _ _ hq]
    exact .refl _

theorem State.runs_issueValues (n : Nat) (a : State) (p : Port) : State.Runs a (State.issueValues n a p) := by
  induction n generalizing a with
  | zero => exact .refl a
  | succ n ih =>
    unfold State.issueValues
    split
    · exact .refl a
    · rename_i rest _
      split
      · refine State.Runs.trans (b := a.setPort p { a.port p with valueWait := rest })
          (a.runs_setPort ⟨rfl, fun _ => rfl, fun _ => rfl⟩ (Rep.grows_setPort fun _ h => h)) ?_
        generalize a.setPort p { a.port p with valueWait := rest } = u
        split
        · exact ih u
        · exact ((u.runs_setStream _ _).trans (State.runs_emit _ _)).trans (ih _)
      · exact .refl a

theorem State.runs_readProd (a : State) (p : Port) (d : Nat) : State.Runs a (a.readProd p d) := by
  unfold State.readProd
  refine .ite (.ite (.issue ?_ _ _) ?_) (.refl a)
  · exact a.runs_modDs p d fun _ => rfl
  · exact a.runs_modDs p d fun _ => rfl

theorem State.runs_readPay (a : State) (p : Port) (d : Fin 128) : State.Runs a (a.readPay p d) := by
  unfold State.readPay
  simp only
  split
  · exact .refl a
  · refine .ite (.issue ?_ _ _) (.refl a)
    exact a.runs_modDs p d.val fun _ => rfl

theorem State.runs_issueWaiting (a : State) (p : Port) : State.Runs a (a.issueWaiting p) := by
  unfold State.issueWaiting
  simp only
  have h1 := State.runs_issueValues (a.port p).valueWait.length a p
  generalize State.issueValues (a.port p).valueWait.length a p = u at h1 ⊢
  have h2 := State.Runs.foldl (f := fun (a : State) (e : Nat × Ring) => if e.2.wantProd then a.readProd p e.1 else a)
    (fun v e => .ite (v.runs_readProd p e.1) (.refl v)) (u.port p).ds u
  generalize List.foldl _ u _ = v at h2 ⊢
  exact (h1.trans h2).trans (State.Runs.foldl (fun w e => w.runs_readPay p _) _ v)

theorem State.runs_reserve (a : State) (p : Port) (d : Nat) (i : Word) : State.Runs a (a.reserve p d i) := by
  unfold State.reserve
  simp only
  refine .of_turns a (Rep.Turns.trans (b := a.rep.setSk p ((a.rep.port p).dsr d).cskein
    { (a.rep.port p).skn ((a.rep.port p).dsr d).cskein with
      reserved := ((a.rep.port p).skn ((a.rep.port p).dsr d).cskein).reserved + 1 }) (Rep.turns_setSk rfl) (Rep.turns_setDs ?_)) ?_ rfl
  · rw [Rep.dsr_setSk]
    rfl
  · exact (Rep.grows_setSk _ _ _ _).trans (Rep.grows_setDs _ _ _ _)

theorem State.runs_fetchOne (a : State) (p : Port) (d : Fin 128) : State.Runs a (a.fetchOne p d) := by
  unfold State.fetchOne
  simp only
  refine .ite (.issue ?_ _ _) (.refl a)
  refine (a.runs_reserve p d.val (((a.port p).dsr d.val).own + BitVec.ofNat 32 ((a.port p).dsr d.val).flight.length)).trans ?_
  exact State.runs_modDs _ p d.val fun _ => rfl

theorem State.runs_visits (n : Nat) (a : State) : State.Runs a (State.visits n a) := by
  induction n generalizing a with
  | zero => exact .refl a
  | succ n ih =>
    unfold State.visits
    split
    · exact .refl a
    · rename_i p d _
      have h1 : State.Runs a (a.fetchRing p (finOf 128 (by decide) d)) := State.Runs.foldl (fun u _ => u.runs_fetchOne p _) _ a
      generalize a.fetchRing p (finOf 128 (by decide) d) = u at h1 ⊢
      have h2 := u.runs_setPort (p := p) (x := { u.port p with visit := d + 1 }) ⟨rfl, fun _ => rfl, fun _ => rfl⟩
        (Rep.grows_setPort fun _ h => h)
      simp only
      generalize u.setPort p { u.port p with visit := d + 1 } = v at h2 ⊢
      refine ((h1.trans h2).trans (b := v) ?_).trans (ih _)
      exact ⟨rfl, fun _ => .refl _, ⟨⟨[], by simp⟩, fun _ => Nat.min_le_right _ _, fun _ _ h => h⟩, rfl⟩

theorem State.runs_serve (a : State) : State.Runs a a.serve :=
  ((a.runs_issueWaiting .a).trans (State.runs_issueWaiting _ .b)).trans (State.runs_visits _ _)

/-! ## What waits for a skein -/

theorem Rep.grows_flushWaiting (n : Nat) (x : Ctx) (r : Rep) (p : Port) (k : Nat) :
    Rep.Grows r (Rep.flushWaiting n x r p k) ∧ (Rep.flushWaiting n x r p k).whOld = r.whOld := by
  induction n generalizing r with
  | zero => exact ⟨.refl r, rfl⟩
  | succ n ih =>
    unfold Rep.flushWaiting
    simp only
    split
    · exact ⟨.refl r, rfl⟩
    · rename_i e l _
      split
      · have h1 := Rep.grows_setSk r p k { (r.port p).skn k with waiting := l, reserved := ((r.port p).skn k).reserved - 1 }
        have hw : (r.setSk p k { (r.port p).skn k with waiting := l, reserved := ((r.port p).skn k).reserved - 1 }).whOld = r.whOld := rfl
        generalize r.setSk p k { (r.port p).skn k with waiting := l, reserved := ((r.port p).skn k).reserved - 1 } = u at h1 hw ⊢
        obtain ⟨i1, i2⟩ := ih (u.writeEntry x p k e)
        exact ⟨(h1.trans (Rep.grows_writeEntry u x p k e)).trans i1, (i2.trans (Rep.same_writeEntry u x p k e).whOld).trans hw⟩
      · exact ⟨.refl r, rfl⟩

theorem State.runs_flushSkein (a : State) (p : Port) (k : Nat) : State.Runs a (a.flushSkein p k) := by
  obtain ⟨hg, hw⟩ := Rep.grows_flushWaiting (((a.port p).skn k).waiting.length) a.ctx a.rep p k
  exact .of_turns a (Rep.turns_flushWaiting _ _ _ _ _) hg hw

/-! ## Indexes that are owed -/

/-- The index of a distaff that owes it is written. -/
def State.payDs (q : PortSt) (p : Port) (a : State) (e : Nat × Ring) : State :=
  if e.2.owes then (a.modDs p e.1 (fun g => { g with owes := false })).emit (.dsCons p e.1 ((a.port p).dsr e.1).own (q.consAddr e.1)) else a

/-- The index of a skein that owes it is written. -/
def State.paySk (q : PortSt) (p : Port) (a : State) (e : Nat × Ring) : State :=
  if e.2.owes then (a.modSk p e.1 (fun g => { g with owes := false })).emit (.skProd p e.1 ((a.port p).skn e.1).own (q.prodAddr e.1)) else a

theorem State.payIndexes_eq (a : State) (p : Port) : a.payIndexes p =
    if (a.port p).portEn && (a.port p).canWrite then
      { (a.port p).sk.foldl (State.paySk (a.port p) p) ((a.port p).ds.foldl (State.payDs (a.port p) p) a) with
        rep := ((a.port p).sk.foldl (State.paySk (a.port p) p) ((a.port p).ds.foldl (State.payDs (a.port p) p) a)).rep.writeHeader
          ((a.port p).sk.foldl (State.paySk (a.port p) p) ((a.port p).ds.foldl (State.payDs (a.port p) p) a)).ctx p }
    else a := rfl

theorem State.runs_payDs (q : PortSt) (p : Port) (a : State) (e : Nat × Ring) : State.Runs a (a.payDs q p e) :=
  .ite (.emit (a.runs_modDs p e.1 (f := fun g => { g with owes := false }) fun _ => rfl) _) (.refl a)

theorem State.runs_paySk (q : PortSt) (p : Port) (a : State) (e : Nat × Ring) : State.Runs a (a.paySk q p e) :=
  .ite (.emit (a.runs_modSk p e.1 (f := fun g => { g with owes := false }) fun _ => rfl) _) (.refl a)

theorem PortSt.Runs.dsr_own {q x : PortSt} (h : PortSt.Runs q x) (d : Nat) : (x.dsr d).own = (q.dsr d).own := by
  show (x.dsr d).asServed.own = (q.dsr d).asServed.own
  rw [h.ds d]

/-- The indexes of a list of distaffs go out. -/
theorem State.payDs_out (q : PortSt) (p : Port) {l : Tbl Ring} {k : Nat} {g : Ring} (hm : (k, g) ∈ l) (ho : g.owes = true) (a : State) :
    ∃ m, (l.foldl (State.payDs q p) a).rep.out = a.rep.out ++ m ∧ Output.dsCons p k ((a.port p).dsr k).own (q.consAddr k) ∈ m := by
  induction l generalizing a with
  | nil => cases hm
  | cons e l ih =>
    have hr := State.runs_payDs q p a e
    rw [List.foldl_cons]
    obtain rfl | hm := List.mem_cons.1 hm
    · refine mem_out_of_earlier ?_ (State.Runs.foldl (State.runs_payDs q p) l (a.payDs q p (k, g))).grows.out
      unfold State.payDs
      rw [if_pos ho]
      exact ⟨[_], rfl, List.mem_singleton_self _⟩
    · have h := ih hm (a.payDs q p e)
      rw [(hr.port p).dsr_own] at h
      exact mem_out_of_later hr.grows.out h

end

end Sys2Proof.Machine
end

section
/-!
PROOFS. Ports and rings that are enabled, disabled, and notified (R319 to R323, R348).
-/

namespace Sys2Proof.Machine

/-! ## Indexes go out -/

section
variable {a b : State} {p : Port}

theorem State.runs_payIndexes (a : State) (p : Port) : State.Runs a (a.payIndexes p) := by
  have h := (State.Runs.foldl (State.runs_payDs (a.port p) p) (a.port p).ds a).trans
    (State.Runs.foldl (State.runs_paySk (a.port p) p) (a.port p).sk _)
  rw [State.payIndexes_eq]
  generalize List.foldl (State.paySk (a.port p) p) _ _ = u at h ⊢
  exact .ite (h.trans (u.runs_header p)) (.refl a)

theorem State.payIndexes_idle (h : (a.port p).canWrite = false) : a.payIndexes p = a := by
  rw [State.payIndexes_eq, h, Bool.and_false]
  rfl

theorem Rep.mem_of_look {t : Tbl Ring} {k : Nat} (h : (Tbl.lookD t k {}).owes = true) : (k, Tbl.lookD t k {}) ∈ t := by
  induction t with
  | nil => cases h
  | cons e t ih =>
    obtain ⟨j, g⟩ := e
    unfold Tbl.lookD Tbl.look at h ⊢
    by_cases hk : k = j
    · subst hk
      rw [if_pos rfl]
      exact List.mem_cons_self
    · rw [if_neg hk] at h ⊢
      exact List.mem_cons_of_mem _ (ih h)

/-- The index of a distaff that owes it goes out (R319). -/
theorem State.payIndexes_ds (hen : (a.port p).portEn = true) (hw : (a.port p).canWrite = true) {k : Nat}
    (ho : ((a.port p).dsr k).owes = true) :
    ∃ m, (a.payIndexes p).rep.out = a.rep.out ++ m ∧ Output.dsCons p k ((a.port p).dsr k).own ((a.port p).consAddr k) ∈ m := by
  have h := State.payDs_out (a.port p) p (Rep.mem_of_look ho) ho a
  have hr := State.Runs.foldl (State.runs_paySk (a.port p) p) (a.port p).sk ((a.port p).ds.foldl (State.payDs (a.port p) p) a)
  rw [State.payIndexes_eq, hen, hw]
  generalize List.foldl (State.payDs (a.port p) p) a _ = u at h hr ⊢
  generalize List.foldl (State.paySk (a.port p) p) u _ = v at hr ⊢
  exact mem_out_of_earlier h (hr.trans (v.runs_header p)).grows.out

theorem State.payDs_skn (q : PortSt) (a : State) (e : Nat × Ring) (k : Nat) : ((a.payDs q p e).port p).skn k = (a.port p).skn k := by
  unfold State.payDs
  split
  · show ((a.rep.setDs p e.1 _).port p).skn k = _
    unfold Rep.setDs
    rw [Rep.port_setPort_self]
    rfl
  · rfl

theorem State.paySk_own (q : PortSt) (a : State) (e : Nat × Ring) (k : Nat) :
    (((a.paySk q p e).port p).skn k).own = ((a.port p).skn k).own := by
  unfold State.paySk
  split
  · show (((a.rep.setSk p e.1 _).port p).skn k).own = _
    by_cases hk : k = e.1
    · subst hk
      rw [Rep.skn_setSk_self]
    · rw [Rep.skn_setSk_ne _ _ _ hk]
      rfl
  · rfl

/-- The indexes of a list of skeins go out. -/
theorem State.paySk_out (q : PortSt) {l : Tbl Ring} {k : Nat} {g : Ring} (hm : (k, g) ∈ l) (ho : g.owes = true) (a : State) :
    ∃ m, (l.foldl (State.paySk q p) a).rep.out = a.rep.out ++ m ∧ Output.skProd p k ((a.port p).skn k).own (q.prodAddr k) ∈ m := by
  induction l generalizing a with
  | nil => cases hm
  | cons e l ih =>
    rw [List.foldl_cons]
    obtain rfl | hm := List.mem_cons.1 hm
    · refine mem_out_of_earlier ?_ (State.Runs.foldl (State.runs_paySk q p) l (a.paySk q p (k, g))).grows.out
      unfold State.paySk
      rw [if_pos ho]
      exact ⟨[_], rfl, List.mem_singleton_self _⟩
    · have h := ih hm (a.paySk q p e)
      rw [State.paySk_own] at h
      exact mem_out_of_later (State.runs_paySk q p a e).grows.out h

/-- The index of a skein that owes it goes out (R319). -/
theorem State.payIndexes_sk (hen : (a.port p).portEn = true) (hw : (a.port p).canWrite = true) {k : Nat}
    (ho : ((a.port p).skn k).owes = true) :
    ∃ m, (a.payIndexes p).rep.out = a.rep.out ++ m ∧ Output.skProd p k ((a.port p).skn k).own ((a.port p).prodAddr k) ∈ m := by
  have hd := State.Runs.foldl (State.runs_payDs (a.port p) p) (a.port p).ds a
  have hkeep : ∀ (l : Tbl Ring) (u : State), ((l.foldl (State.payDs (a.port p) p) u).port p).skn k = (u.port p).skn k := fun l => by
    induction l with
    | nil => exact fun _ => rfl
    | cons e l ih => exact fun u => (ih _).trans (u.payDs_skn _ e k)
  have h := State.paySk_out (p := p) (a.port p) (Rep.mem_of_look ho) ho ((a.port p).ds.foldl (State.payDs (a.port p) p) a)
  rw [hkeep] at h
  rw [State.payIndexes_eq, hen, hw]
  generalize List.foldl (State.payDs (a.port p) p) a _ = u at h hd ⊢
  generalize List.foldl (State.paySk (a.port p) p) u _ = v at h ⊢
  exact mem_out_of_earlier (mem_out_of_later hd.grows.out h) (v.runs_header p).grows.out

end

/-! ## What a served port shows -/

/-- What serving leaves of a ring of either kind. -/
def Ring.lasting (g : Ring) : Ring := g.asServed.asFilled

theorem PortSt.Runs.selected {q x : PortSt} (h : PortSt.Runs q x) : x.selected.lasting = q.selected.lasting := by
  have hk : x.ringKind = q.ringKind := by rw [h.rest]
  have hn : x.ringSel = q.ringSel := by rw [h.rest]
  unfold PortSt.selected
  rw [hk, hn]
  split
  · exact congrArg Ring.asServed (h.sk q.ringSel)
  · exact congrArg Ring.asFilled (h.ds q.ringSel)

section
variable {s b x : State} {dt off : Nat} {w : Wr} {c : Instr} {g : State → State}

/-- A write upon which the ports are served. -/
theorem answers_wr_runs (hs : s.ready) (hw : s.passes off w) (hc : exec c s = s.at_ dt (fun u => u.wr off w g)) (hg : g (s.elapse dt) = x)
    (hb : b = { s.elapse dt with rep := b.rep }) (hgrow : Rep.Grows s.rep b.rep) (hold : b.rep.whOld = none) (hx : State.Runs b x) :
    Answers c s (fun t => t = { s.elapse dt with rep := t.rep, dr := { s.dr with streams := t.dr.streams } } ∧
      (∀ p, PortSt.Runs (b.port p) (t.port p)) ∧ ∀ o, (∃ m, x.rep.out = b.rep.out ++ m ∧ o ∈ m) → s.putsOut t o) := by
  have hxw := hx.whOld.trans hold
  have hfl : State.Runs x x.flush := .of_turns x (Rep.turns_flush x.ctx hxw) (Rep.grows_flush x.ctx hxw)
    ((Rep.flush_settled x.rep x.ctx).2.2.1.trans hxw.symm)
  refine answers_wr hs hw hc ?_
  rw [hg]
  have hall := hx.trans hfl
  refine ⟨?_, hall.port, fun o ho => mem_out_of_earlier (mem_out_of_later hgrow.out ho) hfl.grows.out⟩
  generalize x.flush = t at hall ⊢
  rw [← State.elapse_dr s dt]
  refine hall.only.trans ?_
  exact congrArg (fun y : State => { y with rep := t.rep, dr := { y.dr with streams := t.dr.streams } }) hb

end

/-! ## PORT_EN -/

/-- What PORT_EN = 1 brings behind the settings (R321). -/
def State.portServed (u : State) (p : Port) (q : PortSt) : State :=
  (State.payIndexes (q.ds.foldl (fun (a : State) (e : Nat × Ring) => a.drainAll p (finOf 128 (by decide) e.1))
    (q.sk.foldl (fun (a : State) (e : Nat × Ring) => a.flushSkein p e.1) u)) p).serve

/-- A port that is enabled. -/
def PortSt.enabled (q : PortSt) (fmt clock : Nat) : PortSt :=
  { q with ringFmt := fmt, portErr := 0, portEn := true, polls := 0, genAt := clock }

/-- A port that is disabled. -/
def State.portOut (u : State) (p : Port) : State := (u.dropReads p).setPort p { (u.dropReads p).port p with portEn := false }

/-- The rules of PP_CTL (R321). -/
def State.portEnRow (u : State) (p : Port) (en : Bool) (fmt : Nat) : State :=
  if (u.port p).portEn then
    let s1 := if fmt ≠ (u.port p).ringFmt then u.discard 0x2004 p reasonEnabled else u
    if en then s1 else s1.portOut p
  else if en = false then u.setPort p { u.port p with ringFmt := fmt }
  else if ({ u.port p with ringFmt := fmt } : PortSt).enErr ≠ 0 then
    (u.setPort p { u.port p with ringFmt := fmt, portErr := ({ u.port p with ringFmt := fmt } : PortSt).enErr }).discard 0x2004 p reasonInvalid
  else (u.setPort p ((u.port p).enabled fmt u.clock)).portServed p (u.port p)

theorem exec_portEnWrite (s : State) (dt : Nat) (w : Wr) : exec (.portEnWrite dt w) s =
    s.at_ dt (fun u => u.wr 0x2004 w (fun u => u.portEnRow w.port (bitOf w.data 0) (fieldOf w.data 8 8))) := rfl

theorem State.passes_portEn (s : State) {w : Wr} (hbe : w.be = 15) : s.passes 0x2004 w :=
  s.passes_private hbe (by decide) (by decide)

theorem Ring.asServed_fetched (g : Ring) : g.asServed.fetched = g.fetched := by cases g; rfl

/-- With nothing fetched nothing is accepted. -/
theorem State.drainAll_idle {a : State} {p : Port} (h : ∀ k, ((a.port p).dsr k).fetched = []) (l : Tbl Ring) :
    l.foldl (fun (a : State) (e : Nat × Ring) => a.drainAll p (finOf 128 (by decide) e.1)) a = a := by
  induction l with
  | nil => rfl
  | cons e l ih =>
    have hone : a.drainAll p (finOf 128 (by decide) e.1) = a := by
      unfold State.drainAll
      rw [h]
      rfl
    rw [List.foldl_cons, hone]
    exact ih

theorem Tbl.fetched_of_all {t : Tbl Ring} (h : ∀ x ∈ t, x.2.fetched = []) (k : Nat) : (Tbl.lookD t k {}).fetched = [] := by
  induction t with
  | nil => rfl
  | cons e t ih =>
    obtain ⟨j, g⟩ := e
    unfold Tbl.lookD Tbl.look
    by_cases hk : k = j
    · rw [if_pos hk]
      exact h _ List.mem_cons_self
    · rw [if_neg hk]
      exact ih fun x hx => h x (List.mem_cons_of_mem _ hx)

/-- A port with nothing fetched is served: the indexes that it owes go out. -/
theorem State.portServed_spec {u : State} {p : Port} {q : PortSt} (hf : ∀ k, ((u.port p).dsr k).fetched = []) :
    State.Runs u (u.portServed p q) ∧ ((u.port p).portEn = true → (u.port p).canWrite = true → ∀ k, ((u.port p).dsr k).owes = true →
      ((q.sk.foldl (fun (a : State) (e : Nat × Ring) => a.flushSkein p e.1) u).port p).dsr k = (u.port p).dsr k →
      ∃ m, (u.portServed p q).rep.out = u.rep.out ++ m ∧ Output.dsCons p k ((u.port p).dsr k).own ((u.port p).consAddr k) ∈ m) := by
  have h1 := State.Runs.foldl (f := fun (a : State) (e : Nat × Ring) => a.flushSkein p e.1) (fun v e => v.runs_flushSkein p e.1) q.sk u
  unfold State.portServed
  generalize List.foldl (fun (a : State) (e : Nat × Ring) => a.flushSkein p e.1) u q.sk = v at h1 ⊢
  have hfv : ∀ k, ((v.port p).dsr k).fetched = [] := fun k => by
    rw [← Ring.asServed_fetched, (h1.port p).ds k, Ring.asServed_fetched]
    exact hf k
  rw [State.drainAll_idle hfv]
  have h2 := v.runs_payIndexes p
  have h3 := (v.payIndexes p).runs_serve
  refine ⟨(h1.trans h2).trans h3, fun hen hw k ho hk => ?_⟩
  have hen' : (v.port p).portEn = true := by rw [(h1.port p).rest]; exact hen
  have haddr : (v.port p).consAddr k = (u.port p).consAddr k := by rw [(h1.port p).rest]; rfl
  have h := State.payIndexes_ds hen' ((h1.port p).canWrite.trans hw) (k := k) (by rw [hk]; exact ho)
  rw [hk, haddr] at h
  exact mem_out_of_earlier (mem_out_of_later h1.grows.out h) h3.grows.out

/-- What waits for a skein touches no distaff. -/
theorem Rep.writeEntry_dsr (r : Rep) (x : Ctx) (p : Port) (k : Nat) (e : EntryBody) (d : Nat) :
    ((r.writeEntry x p k e).port p).dsr d = (r.port p).dsr d := by
  have hsk : ∀ (a : Rep) (j : Nat) (g : Ring), ((a.setSk p j g).port p).dsr d = (a.port p).dsr d := fun a j g => a.dsr_setSk p j d g
  have hheader : ∀ a : Rep, ((a.writeHeader x p).port p).dsr d = (a.port p).dsr d := fun a => by
    unfold Rep.writeHeader
    simp only
    split <;> rfl
  have hfire : ∀ (a : Rep) (i : Nat), ((a.fire x i).port p).dsr d = (a.port p).dsr d := fun a i => by
    rw [(Rep.ringsKept_fire a x i).still p]
    rfl
  have hite : ∀ {a b c : Rep} {q : Prop} [Decidable q], (b.port p).dsr d = (a.port p).dsr d → (c.port p).dsr d = (a.port p).dsr d →
      ((if q then b else c).port p).dsr d = (a.port p).dsr d := fun {_ _ _ q} _ h g => by
    by_cases hq : q
    · rw [if_pos hq]; exact h
    · rw [if_neg hq]; exact g
  have hnotify : ∀ a : Rep, ((a.notify x p k).port p).dsr d = (a.port p).dsr d := fun a => by
    unfold Rep.notify
    simp only
    refine hite rfl (hite ?_ ?_)
    · rw [hfire, hsk]
    · rw [hsk]
  unfold Rep.writeEntry
  simp only
  rw [hnotify, hheader]
  exact hsk r k _

theorem Rep.flushWaiting_dsr (n : Nat) (x : Ctx) (r : Rep) (p : Port) (k d : Nat) :
    ((Rep.flushWaiting n x r p k).port p).dsr d = (r.port p).dsr d := by
  induction n generalizing r with
  | zero => rfl
  | succ n ih =>
    unfold Rep.flushWaiting
    simp only
    split
    · rfl
    · split
      · exact (ih _).trans ((Rep.writeEntry_dsr _ _ _ _ _ _).trans (r.dsr_setSk p k d _))
      · rfl

theorem State.flushSkeins_dsr (l : Tbl Ring) (u : State) (p : Port) (d : Nat) :
    ((l.foldl (fun (a : State) (e : Nat × Ring) => a.flushSkein p e.1) u).port p).dsr d = (u.port p).dsr d := by
  induction l generalizing u with
  | nil => rfl
  | cons e l ih =>
    rw [List.foldl_cons, ih]
    exact Rep.flushWaiting_dsr _ _ _ _ _ _

section
variable {s : State} {dt : Nat} {w : Wr} (hs : s.ready) (hbe : w.be = 15)
include hs hbe

/-- PORT_EN = 1 with valid settings (R321). -/
theorem answers_portEnabled {fmt : Nat} (hfmt : fieldOf w.data 8 8 = fmt) (hen : (s.port w.port).portEn = false)
    (hbit : bitOf w.data 0 = true) (he : ({ s.port w.port with ringFmt := fmt } : PortSt).enErr = 0)
    (hf : ∀ x ∈ (s.port w.port).ds, x.2.fetched = []) : Answers (.portEnWrite dt w) s (fun t =>
      t = { s.elapse dt with rep := t.rep, dr := { s.dr with streams := t.dr.streams } } ∧
      (t.port w.port).portEn = true ∧ (t.port w.port).portErr = 0 ∧ (t.port w.port).ringFmt = fmt ∧
      (t.port w.port).genAt = s.clock + dt ∧
      ∀ k, ((s.port w.port).dsr k).owes = true → (s.port w.port).canWrite = true →
        s.putsOut t (.dsCons w.port k ((s.port w.port).dsr k).own ((s.port w.port).consAddr k))) := by
  obtain ⟨b, hb⟩ : ∃ b, (s.elapse dt).setPort w.port ((s.port w.port).enabled fmt (s.elapse dt).clock) = b := ⟨_, rfl⟩
  have hbp : b.port w.port = (s.port w.port).enabled fmt (s.clock + dt) := by
    rw [← hb, State.port_setPort_self, State.elapse_clock]
  have hbe' : b = { s.elapse dt with rep := b.rep } := hb ▸ rfl
  have hbg : Rep.Grows s.rep b.rep := by
    rw [← hb, ← State.elapse_rep hs.2.2 dt]
    exact Rep.grows_setPort fun i hi => by
      rw [State.elapse_rep hs.2.2 dt] at hi
      exact hi
  have hbw : b.rep.whOld = none := hb ▸ State.elapse_whOld hs
  have hfb : ∀ k, ((b.port w.port).dsr k).fetched = [] := fun k => by
    rw [hbp]
    exact Tbl.fetched_of_all hf k
  obtain ⟨hruns, hout⟩ := State.portServed_spec (q := s.port w.port) hfb
  have hg : (s.elapse dt).portEnRow w.port (bitOf w.data 0) (fieldOf w.data 8 8) = b.portServed w.port (s.port w.port) := by
    unfold State.portEnRow
    rw [hfmt, State.elapse_port hs.2.2, hen, hbit, if_neg Bool.false_ne_true, if_neg Bool.true_eq_false.mp, if_neg (not_not.2 he), hb]
  refine (answers_wr_runs hs (s.passes_portEn hbe) (exec_portEnWrite s dt w) hg hbe' hbg hbw hruns).mono fun t ⟨h1, h2, h3⟩ => ?_
  have hr := (h2 w.port).rest
  rw [hbp] at hr
  refine ⟨h1, by rw [hr]; rfl, by rw [hr]; rfl, by rw [hr]; rfl, by rw [hr]; rfl, fun k ho hw => h3 _ ?_⟩
  have h := hout (by rw [hbp]; rfl) (by rw [hbp]; exact hw) k (by rw [hbp]; exact ho) (State.flushSkeins_dsr _ _ _ _)
  rw [hbp] at h
  exact h

end

end Sys2Proof.Machine
end

section
/-!
PROOFS. Ports disabled, rings enabled and disabled, and coalesced notifications (R321 to R323, R348).
-/

namespace Sys2Proof.Machine

/-! ## PORT_EN discarded or cleared -/

/-- From a to b reads of port p are given up, and its summary read stays as it is. -/
structure State.Drops (p : Port) (a b : State) : Prop where
  only : State.RepOnly a b
  sum : (b.port p).sumBusy = (a.port p).sumBusy
  whOld : b.rep.whOld = a.rep.whOld

section
variable {p : Port} {a b c : State}

theorem State.Drops.trans (h : State.Drops p a b) (g : State.Drops p b c) : State.Drops p a c :=
  ⟨h.only.trans g.only, g.sum.trans h.sum, g.whOld.trans h.whOld⟩

theorem State.Drops.foldl {α : Type} {f : State → α → State} (hf : ∀ u x, State.Drops p u (f u x)) (l : List α) (u : State) :
    State.Drops p u (l.foldl f u) := by
  induction l generalizing u with
  | nil => exact ⟨.refl u, rfl, rfl⟩
  | cons x l ih => exact (hf u x).trans (ih _)

theorem State.PortReports.drops (h : State.PortReports a b) (p : Port) : State.Drops p a b :=
  ⟨h.only, (congrArg PortSt.sumBusy (h.turns p).rest).trans rfl, h.whOld⟩

theorem State.drops_modDs (a : State) (p : Port) (d : Nat) (f : Ring → Ring) : State.Drops p a (a.modDs p d f) :=
  ⟨rfl, (congrArg PortSt.sumBusy (Rep.port_setPort_self _ _ _)).trans rfl, rfl⟩

theorem State.drops_modSk (a : State) (p : Port) (k : Nat) (f : Ring → Ring) : State.Drops p a (a.modSk p k f) :=
  ⟨rfl, (congrArg PortSt.sumBusy (Rep.port_setPort_self _ _ _)).trans rfl, rfl⟩

theorem State.dropReads_spec (u : State) (p : Port) :
    State.RepOnly u (u.dropReads p) ∧ ((u.dropReads p).port p).sumBusy = false ∧ (u.dropReads p).rep.whOld = u.rep.whOld := by
  obtain ⟨x, hx⟩ : ∃ x, u.setPort p { u.port p with sumBusy := false, valueWait := [] } = x := ⟨_, rfl⟩
  have hxo : State.RepOnly u x := hx ▸ rfl
  have hxs : (x.port p).sumBusy = false := by rw [← hx, State.port_setPort_self]
  have hxw : x.rep.whOld = u.rep.whOld := hx ▸ rfl
  have h2 := State.Drops.foldl (p := p) (f := fun (a : State) (e : Nat × Ring) =>
    (a.dropFlight p e.1).modDs p e.1 (fun g => { g with fetched := g.fetched.map (fun x => { x with wantsPay := false }) }))
    (fun v e => ((v.portReports_dropFlight p e.1).drops p).trans (State.drops_modDs _ p _ _)) (u.port p).ds x
  unfold State.dropReads
  simp only
  rw [hx]
  generalize List.foldl _ x (u.port p).ds = b at h2 ⊢
  have h3 := h2.trans (State.Drops.foldl (p := p) (f := fun (a : State) (e : Nat × Ring) => a.modSk p e.1 (fun g => { g with reading := [] }))
    (fun v e => State.drops_modSk v p e.1 _) (u.port p).sk b)
  exact ⟨hxo.trans h3.only, h3.sum.trans hxs, h3.whOld.trans hxw⟩

end

theorem State.portOut_spec (u : State) (p : Port) : State.RepOnly u (u.portOut p) ∧ ((u.portOut p).port p).portEn = false ∧
    ((u.portOut p).port p).sumBusy = false ∧ (u.portOut p).rep.whOld = u.rep.whOld := by
  obtain ⟨h1, h2, h3⟩ := u.dropReads_spec p
  unfold State.portOut
  generalize u.dropReads p = v at h1 h2 h3 ⊢
  rw [State.port_setPort_self]
  exact ⟨h1.rep _, rfl, h2, h3⟩

section
variable {s : State} {dt : Nat} {w : Wr} (hs : s.ready) (hbe : w.be = 15)
include hs hbe

/-- PORT_EN = 1 with a fault in the settings (R321). -/
theorem answers_portRefused {fmt e : Nat} (hfmt : fieldOf w.data 8 8 = fmt) (hen : (s.port w.port).portEn = false)
    (hbit : bitOf w.data 0 = true) (he : ({ s.port w.port with ringFmt := fmt } : PortSt).enErr = e) (hne : e ≠ 0) :
    Answers (.portEnWrite dt w) s (fun t =>
      t = { s.elapse dt with regs := { s.regs with discOff := 0x2004, discPort := w.port, discReason := 10 }, rep := t.rep } ∧
      (t.port w.port).portEn = false ∧ (t.port w.port).portErr = e ∧ s.counts t (5184 + 64 * w.port.idx) 1) := by
  obtain ⟨b, hb⟩ : ∃ b, (s.elapse dt).setPort w.port { s.port w.port with ringFmt := fmt, portErr := e } = b := ⟨_, rfl⟩
  have hbp : b.port w.port = { s.port w.port with ringFmt := fmt, portErr := e } := hb ▸ State.port_setPort_self _ _ _
  have hg : (s.elapse dt).portEnRow w.port (bitOf w.data 0) (fieldOf w.data 8 8) = b.discard 0x2004 w.port 10 := by
    unfold State.portEnRow
    rw [hfmt, State.elapse_port hs.2.2, hen, hbit, he, if_neg Bool.false_ne_true, if_neg Bool.true_eq_false.mp, if_pos hne, hb]
    rfl
  have ht : s.Tells {} b.rep := by
    rw [← hb]
    refine (State.Tells.elapse hs dt).mono (Rep.grows_setPort fun i hi => ?_) rfl rfl rfl rfl
    rw [State.elapse_rep hs.2.2 dt] at hi
    exact hi
  refine (answers_wr_discards hs (s.passes_portEn hbe) (exec_portEnWrite s dt w) hg (hb ▸ rfl) ht
    (hb ▸ (State.elapse_settled hs dt).2.1)).mono fun t ⟨⟨h1, h2, _⟩, h3⟩ => ?_
  rw [hbp] at h3
  exact ⟨h1, by rw [h3]; exact hen, by rw [h3], h2⟩

/-- A format that differs is not taken while the port is enabled (R321). -/
theorem answers_portFormat (hen : (s.port w.port).portEn = true) (hbit : bitOf w.data 0 = true)
    (hfmt : fieldOf w.data 8 8 ≠ (s.port w.port).ringFmt) :
    Answers (.portEnWrite dt w) s (fun t => s.discards t dt 0x2004 w 8 ∧ (t.port w.port).portEn = true) := by
  have hg : (s.elapse dt).portEnRow w.port (bitOf w.data 0) (fieldOf w.data 8 8) = (s.elapse dt).discard 0x2004 w.port 8 := by
    unfold State.portEnRow
    simp only
    rw [State.elapse_port hs.2.2, hen, hbit, if_pos rfl, if_pos rfl, if_pos hfmt]
    rfl
  refine (answers_wr_discarded hs (s.passes_portEn hbe) (exec_portEnWrite s dt w) hg).mono fun t ⟨h1, h2⟩ => ⟨h1, ?_⟩
  rw [h2]
  exact hen

/-- PORT_EN = 0 (R321). -/
theorem answers_portDisabled (hen : (s.port w.port).portEn = true) (hbit : bitOf w.data 0 = false)
    (hfmt : fieldOf w.data 8 8 = (s.port w.port).ringFmt) :
    Answers (.portEnWrite dt w) s (fun t =>
      t = { s.elapse dt with rep := t.rep } ∧ (t.port w.port).portEn = false ∧ (t.port w.port).sumBusy = false) := by
  obtain ⟨h1, h2, h3, h4⟩ := (s.elapse dt).portOut_spec w.port
  have hg : (s.elapse dt).portEnRow w.port (bitOf w.data 0) (fieldOf w.data 8 8) = (s.elapse dt).portOut w.port := by
    unfold State.portEnRow
    simp only
    rw [State.elapse_port hs.2.2, hen, hbit, if_pos rfl, if_neg Bool.false_ne_true, if_neg (not_not.2 hfmt)]
  refine answers_wr hs (s.passes_portEn hbe) (exec_portEnWrite s dt w) ?_
  rw [hg]
  generalize (s.elapse dt).portOut w.port = x at h1 h2 h3 h4 ⊢
  have hfl := Rep.turns_flush x.ctx (h4.trans (State.elapse_whOld hs)) w.port
  refine ⟨congrArg (fun y : State => { y with rep := x.flush.rep }) h1, ?_, ?_⟩
  · exact (congrArg PortSt.portEn hfl.rest).trans h2
  · exact (congrArg PortSt.sumBusy hfl.rest).trans h3

end

/-! ## A ring is selected -/

theorem State.setSelected_eq (u : State) (p : Port) (g : Ring) : u.setSelected p g = u.setPort p ((u.port p).withSelected g) := by
  unfold State.setSelected PortSt.withSelected
  split <;> rfl

/-- A ring that starts (R319, R348). -/
def Ring.started (g : Ring) : Ring :=
  { g with
    en := true, st := .running, err := 0, errIdx := 0, own := 0, peer := 0, flight := [], payTries := 0, payAt := none
    fetched := [], reading := [], wantProd := false, lastNotify := none, deferred := false, owes := true }

/-- The rules of PP_RING_CFG with EN = 1 (R322). -/
def State.ringEnableRow (u : State) (p : Port) (g1 : Ring) (en : Bool) : State :=
  if en = false then u
  else if (u.port p).selected.en then (if g1 = (u.port p).selected then u else u.discard 0x204C p reasonEnabled)
  else if g1.base.toNat % 4096 ≠ 0 ∨ g1.log2 < 6 ∨ g1.log2 > 16 then (u.setSelected p g1).discard 0x204C p reasonInvalid
  else u.ringStart p g1

/-- The rules of PP_RING_CFG with EN = 0 (R348). -/
def State.ringDisableRow (u : State) (p : Port) (g1 : Ring) (en : Bool) : State :=
  if en then u
  else if (u.port p).selected.en = false then u.setSelected p g1
  else
    let s1 := if g1 = (u.port p).selected then u else u.discard 0x204C p reasonEnabled
    let s2 := if (u.port p).selected.st = .running then s1.stall p (u.port p).ringKind (u.port p).ringSel 4 (u.port p).selected.own 9 else s1
    s2.setSelected p { (s2.port p).selected with
      en := false, st := if (u.port p).selected.st = .running then .stopped else (s2.port p).selected.st }

theorem exec_ringEnable (s : State) (dt : Nat) (w : Wr) : exec (.ringEnable dt w) s =
    s.at_ dt (fun u => u.wr 0x204C w (fun u =>
      u.ringEnableRow w.port ((u.port w.port).selected.cfgWith (u.port w.port).ringKind w.data) (bitOf w.data 5))) := rfl

theorem exec_ringDisable (s : State) (dt : Nat) (w : Wr) : exec (.ringDisable dt w) s =
    s.at_ dt (fun u => u.wr 0x204C w (fun u =>
      u.ringDisableRow w.port ((u.port w.port).selected.cfgWith (u.port w.port).ringKind w.data) (bitOf w.data 5))) := rfl

theorem State.passes_ringCfg (s : State) {w : Wr} (hbe : w.be = 15) : s.passes 0x204C w := s.passes_private hbe (by decide) (by decide)

theorem State.ringStart_eq (u : State) (p : Port) (g : Ring) : u.ringStart p g =
    if (u.port p).canWrite = false then ((u.setSelected p g.started).payIndexes p).stall p (u.port p).ringKind (u.port p).ringSel 5 0 5
    else if (u.port p).ringKind then (((u.setSelected p g.started).payIndexes p).flushSkein p (u.port p).ringSel).serve
    else (u.setSelected p g.started).payIndexes p := rfl

/-! ## The selected ring stalls -/

/-- A record with the reports of a stall. -/
def Account.stalled (k : Account) (x : SlubReq) : Account := { k with srcs := 0x340 :: k.srcs, slubs := k.slubs ++ [x] }

theorem State.stallMarked_still (a : State) (p : Port) (kd : Bool) (n err : Nat) (idx : Word) :
    State.RepOnly a (a.stallMarked p kd n err idx) ∧ (∀ q, PortSt.Still (a.port q) ((a.stallMarked p kd n err idx).port q)) ∧
    (a.stallMarked p kd n err idx).rep.whOld = a.rep.whOld ∧
    ∀ {s : State} {k : Account}, s.Tells k a.rep → a.regs.live = s.regs.live →
      s.Tells (k.stalled (a.slubReq 0x0902 (stallD0 p kd n) err idx.toNat)) (a.stallMarked p kd n err idx).rep := by
  unfold State.stallMarked
  refine ⟨((State.RepOnly.refl a).slub _ _ _ _).raise _, fun q => ?_, ?_, fun ht hl => ?_⟩
  · exact (Rep.ringsKept_fire (a.slub 0x0902 (stallD0 p kd n) err idx.toNat).rep _ 0x340).still q
  · exact (State.raise_same _ 0x340).whOld
  · exact State.Tells.raise (ht.slub 0x0902 (stallD0 p kd n) err idx.toNat) 0x340 hl

theorem PortSt.selected_ds (q : PortSt) (h : q.ringKind = false) : q.selected = q.dsr q.ringSel := by
  unfold PortSt.selected
  rw [h]
  rfl

theorem PortSt.selected_sk (q : PortSt) (h : q.ringKind = true) : q.selected = q.skn q.ringSel := by
  unfold PortSt.selected
  rw [h]
  rfl

theorem PortSt.Turn.ringSel {q x : PortSt} (h : PortSt.Turn q x) : x.ringSel = q.ringSel := by rw [h.rest]
theorem PortSt.Turn.ringKind {q x : PortSt} (h : PortSt.Turn q x) : x.ringKind = q.ringKind := by rw [h.rest]

theorem Ring.asServed_own (g : Ring) : g.asServed.own = g.own := by cases g; rfl
theorem Ring.asServed_peer (g : Ring) : g.asServed.peer = g.peer := by cases g; rfl
theorem Ring.lasting_st (g : Ring) : g.lasting.st = g.st := by cases g; rfl
theorem Ring.lasting_err (g : Ring) : g.lasting.err = g.err := by cases g; rfl
theorem Ring.lasting_en (g : Ring) : g.lasting.en = g.en := by cases g; rfl
theorem Ring.lasting_log2 (g : Ring) : g.lasting.log2 = g.log2 := by cases g; rfl

theorem Ring.own_of_served {g h : Ring} (e : g.asServed = h.asServed) : g.own = h.own := by
  rw [← g.asServed_own, e, h.asServed_own]

theorem Ring.peer_of_served {g h : Ring} (e : g.asServed = h.asServed) : g.peer = h.peer := by
  rw [← g.asServed_peer, e, h.asServed_peer]

section
variable {g h : Ring} (e : g.lasting = h.lasting)
include e

theorem Ring.st_of_lasting : g.st = h.st := by
  rw [← g.lasting_st, e, h.lasting_st]

theorem Ring.err_of_lasting : g.err = h.err := by
  rw [← g.lasting_err, e, h.lasting_err]

theorem Ring.en_of_lasting : g.en = h.en := by
  rw [← g.lasting_en, e, h.lasting_en]

theorem Ring.log2_of_lasting : g.log2 = h.log2 := by
  rw [← g.lasting_log2, e, h.lasting_log2]

end

/-- A stall once its ring is marked. -/
theorem State.stall_ends {u c v : State} {p : Port} {kd : Bool} {n err : Nat} {idx : Word}
    (hc : c = { u with holds := c.holds, rep := c.rep }) (hw : c.rep.whOld = u.rep.whOld)
    (ht : ∀ {s : State} {k : Account}, s.Tells k u.rep → s.Tells k c.rep) (hb : State.PortReports (c.stallMarked p kd n err idx) v) :
    v = { u with holds := v.holds, rep := v.rep } ∧ v.rep.whOld = u.rep.whOld ∧
    (v.port p).selected.lasting = (c.port p).selected.lasting ∧
    ∀ {s : State} {k : Account}, s.Tells k u.rep → u.regs.live = s.regs.live →
      s.Tells (k.stalled (u.slubReq 0x0902 (stallD0 p kd n) err idx.toNat)) v.rep := by
  obtain ⟨m1, m2, m3, m4⟩ := c.stallMarked_still p kd n err idx
  have hreq : c.slubReq 0x0902 (stallD0 p kd n) err idx.toNat = u.slubReq 0x0902 (stallD0 p kd n) err idx.toNat :=
    (congrArg (fun y : State => y.slubReq 0x0902 (stallD0 p kd n) err idx.toNat) hc).trans rfl
  have hlive : c.regs.live = u.regs.live := (congrArg (fun y : State => y.regs.live) hc).trans rfl
  rw [hreq] at m4
  generalize c.stallMarked p kd n err idx = m at m1 m2 m3 m4 hb
  refine ⟨?_, (hb.whOld.trans m3).trans hw, ?_, fun h hl => hb.tells (m4 (ht h) (hlive.trans hl))⟩
  · rw [hb.only, m1, hc]
  · exact ((hb.turns p).runs.selected).trans (congrArg Ring.lasting (m2 p).selected)

/-- The ring that is selected stalls, with its cause, its slub and source 0x340 (R347). -/
theorem State.stall_selected {u : State} {p : Port} (err : Nat) (idx : Word) (st : Nat) (h : (u.port p).selected.st = .running) :
    ∃ v, u.stall p (u.port p).ringKind (u.port p).ringSel err idx st = v ∧ v = { u with holds := v.holds, rep := v.rep } ∧
      v.rep.whOld = u.rep.whOld ∧ (v.port p).selected.st = .stalled ∧ (v.port p).selected.err = err ∧
      ∀ {s : State} {k : Account}, s.Tells k u.rep → u.regs.live = s.regs.live →
        s.Tells (k.stalled (u.slubReq 0x0902 (stallD0 p (u.port p).ringKind (u.port p).ringSel) err idx.toNat)) v.rep := by
  cases hk : (u.port p).ringKind with
  | false =>
    rw [(u.port p).selected_ds hk] at h
    obtain ⟨a, l, ha, hb⟩ := State.stall_ds err idx st h
    obtain ⟨c, hc⟩ : ∃ c : State, { a.modDs p (u.port p).ringSel (fun g => g.stalledDs err idx) with holds := l } = c := ⟨_, rfl⟩
    have hcp : c.port p = { a.port p with
        ds := Tbl.put (a.port p).ds (u.port p).ringSel {} (((a.port p).dsr (u.port p).ringSel).stalledDs err idx) } :=
      hc ▸ Rep.port_setPort_self _ _ _
    have hsel : (c.port p).selected = ((a.port p).dsr (u.port p).ringSel).stalledDs err idx := by
      have hcs : (c.port p).ringSel = (u.port p).ringSel := by
        rw [hcp]
        exact (ha.turns p).ringSel
      rw [PortSt.selected_ds _ (by rw [hcp]; exact (ha.turns p).ringKind.trans hk), hcs, hcp]
      exact Tbl.lookD_put_self _ _ _ _
    rw [hc] at hb
    obtain ⟨e1, e2, e3, e4⟩ := State.stall_ends (u := u) (c := c) (by rw [← hc, ha.only]; rfl) (by rw [← hc]; exact ha.whOld)
      (fun t => hc ▸ (ha.tells t).mono (Rep.grows_setDs _ _ _ _) rfl rfl rfl rfl) hb
    rw [hsel] at e3
    exact ⟨_, rfl, e1, e2, Ring.st_of_lasting e3, Ring.err_of_lasting e3, e4⟩
  | true =>
    rw [(u.port p).selected_sk hk] at h
    have hb := State.stall_sk err idx st h
    obtain ⟨c, hc⟩ : ∃ c : State, u.modSk p (u.port p).ringSel (fun g => g.stalledSk err idx) = c := ⟨_, rfl⟩
    have hcp : c.port p = { u.port p with
        sk := Tbl.put (u.port p).sk (u.port p).ringSel {} (((u.port p).skn (u.port p).ringSel).stalledSk err idx) } :=
      hc ▸ Rep.port_setPort_self _ _ _
    have hsel : (c.port p).selected = ((u.port p).skn (u.port p).ringSel).stalledSk err idx := by
      rw [PortSt.selected_sk _ (by rw [hcp]; exact hk), hcp]
      exact Tbl.lookD_put_self _ _ _ _
    rw [hc] at hb
    obtain ⟨e1, e2, e3, e4⟩ := State.stall_ends (u := u) (c := c) (by rw [← hc]; rfl) (by rw [← hc]; rfl)
      (fun t => hc ▸ t.mono (Rep.grows_setSk _ _ _ _) rfl rfl rfl rfl) hb
    rw [hsel] at e3
    exact ⟨_, rfl, e1, e2, Ring.st_of_lasting e3, Ring.err_of_lasting e3, e4⟩

section
variable {s : State} {dt : Nat} {w : Wr} {g1 : Ring} (hs : s.ready) (hbe : w.be = 15)
  (hg1 : (s.port w.port).selected.cfgWith (s.port w.port).ringKind w.data = g1)

include hs in
/-- The port after settings of it have changed. -/
theorem State.setSelected_start (p : Port) (g : Ring) : ∃ b, (s.elapse dt).setSelected p g = b ∧ b = { s.elapse dt with rep := b.rep } ∧
    b.port p = (s.port p).withSelected g ∧ b.rep.whOld = none ∧ b.rep.hankReqs = [] ∧ s.Tells {} b.rep := by
  have heq : (s.elapse dt).setSelected p g = (s.elapse dt).setPort p ((s.port p).withSelected g) := by
    rw [State.setSelected_eq, State.elapse_port hs.2.2]
  have hsrc : ((s.port p).withSelected g).src = (s.port p).src := by
    unfold PortSt.withSelected
    split <;> rfl
  refine ⟨_, rfl, ?_⟩
  rw [heq]
  refine ⟨rfl, State.port_setPort_self _ _ _, State.elapse_whOld hs, (State.elapse_settled hs dt).2.1, ?_⟩
  refine (State.Tells.elapse hs dt).mono (Rep.grows_setPort fun i hi => ?_) rfl rfl rfl rfl
  rw [State.elapse_rep hs.2.2 dt] at hi
  rw [hsrc]
  exact hi

include hs hbe hg1

/-- A ring that is enabled keeps its settings (R322). -/
theorem answers_ringSettings (hbit : bitOf w.data 5 = true) (hen : (s.port w.port).selected.en = true)
    (hne : g1 ≠ (s.port w.port).selected) :
    Answers (.ringEnable dt w) s (fun t => s.discards t dt 0x204C w 8 ∧ (t.port w.port).selected = (s.port w.port).selected) := by
  refine (answers_wr_discarded hs (s.passes_ringCfg hbe) (exec_ringEnable s dt w) ?_).mono fun t ⟨h1, h2⟩ => ⟨h1, h2.selected⟩
  unfold State.ringEnableRow
  rw [State.elapse_port hs.2.2, hg1, hbit, if_neg Bool.true_eq_false.mp, if_pos hen, if_neg hne]
  rfl

/-- A ring with settings out of their ranges is not enabled (R322). -/
theorem answers_ringRefused (hbit : bitOf w.data 5 = true) (hen : (s.port w.port).selected.en = false)
    (hbad : g1.base.toNat % 4096 ≠ 0 ∨ g1.log2 < 6 ∨ 16 < g1.log2) :
    Answers (.ringEnable dt w) s (fun t => s.discards t dt 0x204C w 10 ∧ (t.port w.port).selected = g1) := by
  obtain ⟨b, hb, hbo, hbp, -, hbh, hbt⟩ := State.setSelected_start (dt := dt) hs w.port g1
  refine (answers_wr_discards hs (s.passes_ringCfg hbe) (exec_ringEnable s dt w) ?_ hbo hbt hbh).mono fun t ⟨h1, h2⟩ => ⟨h1, ?_⟩
  · unfold State.ringEnableRow
    rw [State.elapse_port hs.2.2, hg1, hbit, hen, if_neg Bool.true_eq_false.mp, if_neg Bool.false_ne_true, if_pos hbad, hb]
    rfl
  · rw [h2.selected, hbp, PortSt.selected_withSelected]

/-- Settings of a ring that is not enabled (R322). -/
theorem answers_ringConfigured (hbit : bitOf w.data 5 = false) (hen : (s.port w.port).selected.en = false) :
    Answers (.ringDisable dt w) s (fun t => t = { s.elapse dt with rep := t.rep } ∧ (t.port w.port).selected = g1) := by
  refine (answers_wr_takes hs (s.passes_ringCfg hbe) (exec_ringDisable s dt w) (x := (s.port w.port).withSelected g1) ?_).mono
    fun t ⟨h1, h2⟩ => ⟨h1, ?_⟩
  · unfold State.ringDisableRow
    rw [State.elapse_port hs.2.2, hg1, hbit, if_neg Bool.false_ne_true, if_pos hen, State.setSelected_eq, State.elapse_port hs.2.2]
  · rw [h2, PortSt.selected_withSelected]

omit hbe in
theorem ringEnableRow_starts (hbit : bitOf w.data 5 = true) (hen : (s.port w.port).selected.en = false)
    (hok : g1.base.toNat % 4096 = 0 ∧ 6 ≤ g1.log2 ∧ g1.log2 ≤ 16) :
    (s.elapse dt).ringEnableRow w.port (((s.elapse dt).port w.port).selected.cfgWith ((s.elapse dt).port w.port).ringKind w.data)
      (bitOf w.data 5) = (s.elapse dt).ringStart w.port g1 := by
  unfold State.ringEnableRow
  rw [State.elapse_port hs.2.2, hg1, hbit, hen, if_neg Bool.true_eq_false.mp, if_neg Bool.false_ne_true, if_neg]
  omega

/-- A ring enabled while its port can issue nothing stalls at once (R314). -/
theorem answers_ringStalls (hbit : bitOf w.data 5 = true) (hen : (s.port w.port).selected.en = false)
    (hok : g1.base.toNat % 4096 = 0 ∧ 6 ≤ g1.log2 ∧ g1.log2 ≤ 16) (hcw : (s.port w.port).canWrite = false) :
    Answers (.ringEnable dt w) s (fun t => t = { s.elapse dt with holds := t.holds, rep := t.rep } ∧
      (t.port w.port).selected.st = .stalled ∧ (t.port w.port).selected.err = 5 ∧ s.raises t 0x340) := by
  have hrow := ringEnableRow_starts (dt := dt) hs hg1 hbit hen hok
  obtain ⟨b, hb, hbo, hbp, hbw, -, hbt⟩ := State.setSelected_start (dt := dt) hs w.port g1.started
  have hkeep : (b.port w.port).ringKind = (s.port w.port).ringKind ∧ (b.port w.port).ringSel = (s.port w.port).ringSel ∧
      (b.port w.port).canWrite = (s.port w.port).canWrite := by
    rw [hbp]
    unfold PortSt.withSelected
    split <;> exact ⟨rfl, rfl, rfl⟩
  obtain ⟨hk, hn, hc⟩ := hkeep
  obtain ⟨v, hv, h1, h2, h3, h4, h5⟩ := State.stall_selected (u := b) (p := w.port) 5 0 5 (by
    rw [hbp, PortSt.selected_withSelected]
    rfl)
  have hstart : (s.elapse dt).ringStart w.port g1 = v := by
    rw [State.ringStart_eq, State.elapse_port hs.2.2, if_pos hcw, hb, State.payIndexes_idle (hc.trans hcw), ← hk, ← hn, hv]
  have htold := (h5 hbt ((congrArg (fun x : State => x.regs.live) hbo).trans (s.elapse_live dt))).told
  have hfl := (Rep.turns_flush v.ctx (h2.trans hbw) w.port).runs.selected
  refine answers_wr hs (s.passes_ringCfg hbe) (exec_ringEnable s dt w) ?_
  rw [hrow, hstart]
  refine ⟨?_, (Ring.st_of_lasting hfl).trans h3, (Ring.err_of_lasting hfl).trans h4, htold.raises _ List.mem_cons_self⟩
  have h6 : v = { s.elapse dt with holds := v.holds, rep := v.rep } := by rw [h1, hbo]
  exact congrArg (fun x : State => { x with rep := v.flush.rep }) h6

/-- A ring enabled starts from index 0 and its index goes out (R319, R348). -/
theorem answers_ringStarts (hbit : bitOf w.data 5 = true) (hen : (s.port w.port).selected.en = false)
    (hok : g1.base.toNat % 4096 = 0 ∧ 6 ≤ g1.log2 ∧ g1.log2 ≤ 16) (hcw : (s.port w.port).canWrite = true) :
    Answers (.ringEnable dt w) s (fun t => t = { s.elapse dt with rep := t.rep, dr := { s.dr with streams := t.dr.streams } } ∧
      (t.port w.port).selected.en = true ∧ (t.port w.port).selected.st = .running ∧ (t.port w.port).selected.log2 = g1.log2 ∧
      (t.port w.port).selected.err = 0 ∧
      ((s.port w.port).ringKind = false → (t.port w.port).selected.own = 0 ∧ (t.port w.port).selected.peer = 0) ∧
      ((s.port w.port).portEn = true → s.putsOut t (if (s.port w.port).ringKind
        then .skProd w.port (s.port w.port).ringSel 0 ((s.port w.port).prodAddr (s.port w.port).ringSel)
        else .dsCons w.port (s.port w.port).ringSel 0 ((s.port w.port).consAddr (s.port w.port).ringSel)))) := by
  have hrow := ringEnableRow_starts (dt := dt) hs hg1 hbit hen hok
  obtain ⟨b, hb, hbo, hbp, hbw, -, hbt⟩ := State.setSelected_start (dt := dt) hs w.port g1.started
  have hsel : (b.port w.port).selected = g1.started := by rw [hbp, PortSt.selected_withSelected]
  have hpay := b.runs_payIndexes w.port
  have hx : ∃ x, (s.elapse dt).ringStart w.port g1 = x ∧ State.Runs (b.payIndexes w.port) x := by
    rw [State.ringStart_eq, State.elapse_port hs.2.2, if_neg (by rw [hcw]; decide), hb]
    generalize b.payIndexes w.port = y
    split
    · exact ⟨_, rfl, (y.runs_flushSkein _ _).trans (State.runs_serve _)⟩
    · exact ⟨_, rfl, .refl y⟩
  obtain ⟨x, hx1, hx2⟩ := hx
  have hkeep : (b.port w.port).ringKind = (s.port w.port).ringKind ∧ (b.port w.port).ringSel = (s.port w.port).ringSel ∧
      (b.port w.port).canWrite = (s.port w.port).canWrite ∧ (b.port w.port).portEn = (s.port w.port).portEn ∧
      (b.port w.port).stAddr = (s.port w.port).stAddr := by
    rw [hbp]
    unfold PortSt.withSelected
    split <;> exact ⟨rfl, rfl, rfl, rfl, rfl⟩
  obtain ⟨hk, hn, hc, he, ha⟩ := hkeep
  refine (answers_wr_runs hs (s.passes_ringCfg hbe) (exec_ringEnable s dt w) (hrow.trans hx1) hbo hbt.grows hbw (hpay.trans hx2)).mono
    fun t ⟨h1, h2, h3⟩ => ?_
  have hl := (h2 w.port).selected
  rw [hsel] at hl
  refine ⟨h1, Ring.en_of_lasting hl, Ring.st_of_lasting hl, (Ring.log2_of_lasting hl).trans rfl, Ring.err_of_lasting hl, fun hkf => ?_, fun hpe => ?_⟩
  · have hkt : (t.port w.port).ringKind = false := by
      rw [(h2 w.port).rest]
      exact hk.trans hkf
    have hnt : (t.port w.port).ringSel = (b.port w.port).ringSel := by rw [(h2 w.port).rest]
    have hd := (h2 w.port).ds (b.port w.port).ringSel
    rw [← (b.port w.port).selected_ds (hk.trans hkf), hsel, ← hnt, ← (t.port w.port).selected_ds hkt] at hd
    exact ⟨Ring.own_of_served hd, Ring.peer_of_served hd⟩
  · refine h3 _ (mem_out_of_earlier ?_ hx2.grows.out)
    cases hkind : (s.port w.port).ringKind with
    | false =>
      have hds : (b.port w.port).dsr (s.port w.port).ringSel = g1.started := by
        rw [← hn, ← (b.port w.port).selected_ds (hk.trans hkind), hsel]
      have h := State.payIndexes_ds (he.trans hpe) (hc.trans hcw) (k := (s.port w.port).ringSel) (by rw [hds]; rfl)
      rw [hds] at h
      have haddr : (b.port w.port).consAddr (s.port w.port).ringSel = (s.port w.port).consAddr (s.port w.port).ringSel := by
        unfold PortSt.consAddr
        rw [ha]
      rw [haddr] at h
      exact h
    | true =>
      have hds : (b.port w.port).skn (s.port w.port).ringSel = g1.started := by
        rw [← hn, ← (b.port w.port).selected_sk (hk.trans hkind), hsel]
      have h := State.payIndexes_sk (he.trans hpe) (hc.trans hcw) (k := (s.port w.port).ringSel) (by rw [hds]; rfl)
      rw [hds] at h
      have haddr : (b.port w.port).prodAddr (s.port w.port).ringSel = (s.port w.port).prodAddr (s.port w.port).ringSel := by
        unfold PortSt.prodAddr
        rw [ha]
      rw [haddr] at h
      exact h

/-- A ring disabled stalls with cause DISABLE and reads STOPPED (R348). -/
theorem answers_ringDisabled (hbit : bitOf w.data 5 = false) (hen : (s.port w.port).selected.en = true)
    (heq : g1 = (s.port w.port).selected) :
    Answers (.ringDisable dt w) s (fun t => t = { s.elapse dt with holds := t.holds, rep := t.rep } ∧
      (t.port w.port).selected.en = false ∧
      ((s.port w.port).selected.st = .running → (t.port w.port).selected.st = .stopped ∧ (t.port w.port).selected.err = 4 ∧
        s.raises t 0x340 ∧ s.logs t 0x0902 (stallD0 w.port (s.port w.port).ringKind (s.port w.port).ringSel) 4
          (s.port w.port).selected.own.toNat) ∧
      ((s.port w.port).selected.st ≠ .running → (t.port w.port).selected.st = (s.port w.port).selected.st)) := by
  have hport := State.elapse_port hs.2.2 dt w.port
  refine answers_wr hs (s.passes_ringCfg hbe) (exec_ringDisable s dt w) ?_
  unfold State.ringDisableRow
  simp only
  rw [hport, hg1, hbit, if_neg Bool.false_ne_true, if_neg (by rw [hen]; decide), if_pos heq]
  by_cases hrun : (s.port w.port).selected.st = .running
  · rw [if_pos hrun, if_pos hrun]
    obtain ⟨v, hv, h1, h2, -, h4, h5⟩ := State.stall_selected (u := s.elapse dt) (p := w.port) 4 (s.port w.port).selected.own 9
      (by rw [hport]; exact hrun)
    rw [hport] at hv h5
    rw [hv, State.setSelected_eq]
    have ht := h5 (State.Tells.elapse hs dt) (s.elapse_live dt)
    have hsrc : ∀ g, ((v.port w.port).withSelected g).src = (v.port w.port).src := fun g => by
      unfold PortSt.withSelected
      split <;> rfl
    obtain ⟨g, hg, hgs, hge, hger⟩ : ∃ g : Ring, { (v.port w.port).selected with en := false, st := .stopped } = g ∧ g.st = .stopped ∧
        g.en = false ∧ g.err = 4 := ⟨_, rfl, rfl, rfl, h4⟩
    rw [hg]
    obtain ⟨x, hx⟩ : ∃ x, v.setPort w.port ((v.port w.port).withSelected g) = x := ⟨_, rfl⟩
    have hxs : (x.port w.port).selected = g := by rw [← hx, State.port_setPort_self, PortSt.selected_withSelected]
    have hxw : x.rep.whOld = none := hx ▸ h2.trans (State.elapse_whOld hs)
    have hxo : x = { s.elapse dt with holds := x.holds, rep := x.rep } := by
      rw [← hx]
      exact congrArg (fun y : State => { y with rep := v.rep.setPort w.port ((v.port w.port).withSelected g) }) h1
    have hxt : s.Tells (Account.stalled {} ((s.elapse dt).slubReq 0x0902 (stallD0 w.port (s.port w.port).ringKind
        (s.port w.port).ringSel) 4 (s.port w.port).selected.own.toNat)) x.rep := by
      rw [← hx]
      refine ht.mono (Rep.grows_setPort fun i hi => ?_) rfl rfl rfl rfl
      rw [hsrc]
      exact hi
    rw [hx]
    have htold := hxt.told
    have hl : (x.flush.port w.port).selected.lasting = (x.port w.port).selected.lasting :=
      (Rep.turns_flush x.ctx hxw w.port).runs.selected
    rw [hxs] at hl
    have hxf : x.flush = { s.elapse dt with holds := x.flush.holds, rep := x.flush.rep } :=
      congrArg (fun y : State => { y with rep := x.flush.rep }) hxo
    generalize x.flush = t at hl hxf htold ⊢
    refine ⟨hxf, (Ring.en_of_lasting hl).trans hge, fun _ => ⟨(Ring.st_of_lasting hl).trans hgs,
      (Ring.err_of_lasting hl).trans hger, htold.raises _ List.mem_cons_self, htold.logs _ _ _ _ ?_⟩, fun h => absurd hrun h⟩
    rw [hxf]
    rfl
  · rw [if_neg hrun, if_neg hrun, hport, State.setSelected_eq, hport,
      State.flush_rest (s := (s.elapse dt).setPort w.port _) (State.elapse_settled hs dt), State.port_setPort_self,
      PortSt.selected_withSelected]
    exact ⟨rfl, rfl, fun h => absurd h hrun, fun _ => rfl⟩

end

/-! ## Coalesced notifications -/

/-- The rules of a coalesced notification (R323). -/
def State.notifyRow (u : State) (p : Port) (k : Nat) : State :=
  if ((u.port p).skn k).deferred && (match ((u.port p).skn k).lastNotify with
      | none => true
      | some t => decide (t + ((u.port p).skn k).coal * 1000 ≤ u.clock)) then
    (u.modSk p k (fun g => { g with lastNotify := some u.clock, deferred := false })).raise ((u.port p).skn k).notify
  else u

theorem exec_skeinNotifyCoalesce (s : State) (dt : Nat) (p : Port) (k : Fin 128) :
    exec (.skeinNotifyCoalesce dt p k) s = s.at_ dt (fun u => u.notifyRow p k.val) := rfl

/-- A notification that waited for its interval fires (R323). -/
theorem answers_notified {s : State} {dt : Nat} {p : Port} {k : Fin 128} (hs : s.ready) (hd : ((s.port p).skn k.val).deferred = true)
    (hl : ∀ a, ((s.port p).skn k.val).lastNotify = some a → a + ((s.port p).skn k.val).coal * 1000 ≤ s.clock + dt) :
    Answers (.skeinNotifyCoalesce dt p k) s (fun t => t = { s.elapse dt with rep := t.rep } ∧
      s.raises t ((s.port p).skn k.val).notify ∧
      (t.port p).skn k.val = { (s.port p).skn k.val with lastNotify := some (s.clock + dt), deferred := false }) := by
  obtain ⟨h1, h2, h3, -⟩ := State.elapse_settled hs dt
  have hport := State.elapse_port hs.2.2 dt p
  have hclock := s.elapse_clock dt
  obtain ⟨x, hx⟩ : ∃ x, (s.elapse dt).modSk p k.val (fun g => { g with lastNotify := some (s.clock + dt), deferred := false }) = x := ⟨_, rfl⟩
  have hxo : x = { s.elapse dt with rep := x.rep } := hx ▸ rfl
  have hxp : (x.port p).skn k.val = { (s.port p).skn k.val with lastNotify := some (s.clock + dt), deferred := false } := by
    rw [← hx]
    refine (Rep.skn_setSk_self _ _ _ _).trans ?_
    rw [hport]
  have hxt : s.Tells {} x.rep := hx ▸ (State.Tells.elapse hs dt).mono (Rep.grows_setSk _ _ _ _) rfl rfl rfl rfl
  have hxh : x.rep.hankReqs = [] := hx ▸ h2
  have hrow : (s.elapse dt).notifyRow p k.val = x.raise ((s.port p).skn k.val).notify := by
    unfold State.notifyRow
    rw [hport, hd, hclock, hx, Bool.true_and, if_pos]
    split
    · rfl
    · rename_i a ha
      exact decide_eq_true (hl a ha)
  refine answers_at hs (exec_skeinNotifyCoalesce s dt p k) ?_
  rw [hrow]
  have ht := hxt.raise ((s.port p).skn k.val).notify ((congrArg (fun y : State => y.regs.live) hxo).trans (s.elapse_live dt))
  have hsame := x.raise_same ((s.port p).skn k.val).notify
  have hstill := (Rep.ringsKept_fire x.rep x.ctx ((s.port p).skn k.val).notify).still p
  have hro : State.RepOnly x (x.raise ((s.port p).skn k.val).notify) := rfl
  have hst : PortSt.Still (x.port p) ((x.raise ((s.port p).skn k.val).notify).port p) := hstill
  generalize x.raise ((s.port p).skn k.val).notify = y at ht hsame hst hro ⊢
  have hfl := Rep.flush_still y.ctx (hsame.slubReqs.trans hxt.slubs) (hsame.hankReqs.trans hxh) ht.whOld p
  refine ⟨?_, ht.told.raises _ List.mem_cons_self, ?_⟩
  · have hyo : y = { s.elapse dt with rep := y.rep } := by rw [hro, hxo]
    exact congrArg (fun z : State => { z with rep := y.flush.rep }) hyo
  · exact ((hst.trans hfl).skn k.val).trans hxp

/-- The port settings while PORT_EN is 0 (R320). -/
theorem PortSt.ppWrite_disabled {q : PortSt} (h : q.portEn = false) (v : Word) :
    q.ppWrite 0x2008 v = ({ q with dbAddr := hi32 q.dbAddr ++ v }, none) ∧
    q.ppWrite 0x200C v = ({ q with dbAddr := v ++ lo32 q.dbAddr }, none) ∧
    q.ppWrite 0x2010 v = ({ q with stAddr := hi32 q.stAddr ++ v }, none) ∧
    q.ppWrite 0x2014 v = ({ q with stAddr := v ++ lo32 q.stAddr }, none) ∧
    q.ppWrite 0x2018 v = ({ q with poll := fieldOf v 0 9, sweep := fieldOf v 16 11 }, none) ∧
    q.ppWrite 0x201C v = ({ q with cplTmo := fieldOf v 0 16 }, none) ∧
    q.ppWrite 0x2020 v = ({ q with reportEvery := fieldOf v 0 16, reportSkein := fieldOf v 16 7 }, none) := by
  unfold PortSt.ppWrite hi32 lo32
  simp only [h, Nat.reduceEqDiff, if_false, if_true, Bool.false_eq_true, and_self]

/-- Settles O47: settings are taken or discarded as PORT_EN and EN say, and a ring that starts, stops or notifies does so with its
index, its slub and its source. -/
theorem portsAndRingsAreEnabled : Obligations.PortsAndRingsAreEnabled := by
  intro s dt w hs hbe p q fmt e g g1 only served same sets
  have hset : ∀ off ∈ portSettings, ∀ x, q.ppWrite off w.data = (x, none) → sets off x := fun off ho x h => answers_setting hs hbe ho h
  have hring : ∀ off ∈ portSettings, ∀ g', q.ppWrite off w.data = (q.withSelected g', none) →
      Answers (.registerWrite dt off w) s (fun t => only t ∧ (t.port p).selected = g') := fun off ho g' h =>
    (answers_setting hs hbe ho h).mono fun t ⟨h1, h2⟩ => ⟨h1, by rw [h2, PortSt.selected_withSelected]⟩
  refine ⟨fun hen off ho => ?_, fun hen => ?_, hset _ (by decide) _ ?_, fun hen off ho => ?_, fun hen => ?_,
    fun hen hbit he hf => answers_portEnabled hs hbe rfl hen hbit he hf,
    fun hen hbit he => answers_portRefused hs hbe rfl hen hbit rfl he,
    fun hen hbit hfmt => answers_portFormat hs hbe hen hbit hfmt,
    fun hen hbit hfmt => answers_portDisabled hs hbe hen hbit hfmt,
    fun hbit hen h1 h2 h3 hcw => answers_ringStarts hs hbe rfl hbit hen ⟨h1, h2, h3⟩ hcw,
    fun hbit hen h1 h2 h3 hcw => answers_ringStalls hs hbe rfl hbit hen ⟨h1, h2, h3⟩ hcw,
    fun hbit hen hbad => answers_ringRefused hs hbe rfl hbit hen hbad,
    fun hbit hen => answers_ringConfigured hs hbe rfl hbit hen,
    fun hbit hen hne => answers_ringSettings hs hbe rfl hbit hen hne,
    fun hbit hen heq => answers_ringDisabled hs hbe rfl hbit hen heq,
    fun k hd hl => answers_notified hs hd hl⟩
  · have hp : off ∈ portSettings := (by decide : [0x2008, 0x200C, 0x2010, 0x2014, 0x2018, 0x201C, 0x2020] ⊆ portSettings) ho
    refine (answers_setting_discarded hs hbe hp (PortSt.ppWrite_enabled hen w.data off ho)).mono fun t ⟨h1, h2⟩ => ⟨h1, ?_⟩
    rw [h2]
    exact ⟨rfl, rfl, rfl, rfl, rfl, rfl, rfl⟩
  · obtain ⟨h1, h2, h3, h4, h5, h6, h7⟩ := PortSt.ppWrite_disabled hen w.data
    exact ⟨hset _ (by decide) _ h1, hset _ (by decide) _ h2, hset _ (by decide) _ h3, hset _ (by decide) _ h4, hset _ (by decide) _ h5,
      hset _ (by decide) _ h6, hset _ (by decide) _ h7⟩
  · unfold PortSt.ppWrite
    simp only [Nat.reduceEqDiff, if_false, if_true]
  · have hp : off ∈ portSettings := (by decide : [0x2044, 0x2048] ⊆ portSettings) ho
    exact (answers_setting_discarded hs hbe hp (PortSt.ppWrite_ringEnabled hen w.data off ho)).mono fun t ⟨h1, h2⟩ => ⟨h1, h2.selected⟩
  · obtain ⟨h1, h2⟩ := PortSt.ppWrite_base hen w.data
    exact ⟨hring _ (by decide) _ h1, hring _ (by decide) _ h2⟩

end Sys2Proof.Machine
end

section
/-!
PROOFS. The ply at work (R441 to R465): what changes of role, votes and demotions leave of the machine.
-/

namespace Sys2Proof.Machine

/-- A relation between states that reports, changes of streams, of the ply block and of the time source, and commands to the outputs
keep. -/
structure PlyFrame (R : State → State → Prop) : Prop extends DrFrame R where
  pl : ∀ a x, R a { a with pl := x }
  src : ∀ a (p : BitVec 2) (q : Bool) (c : Nat) (h : Bool) (n : Nat) (l : Bool), R a { a with tm := { a.tm with
    srcActive := p, plyFollow := q, acceptedAt := c, holdover := h, holdTurns := n, devLimit := l } }
  sends : ∀ {a b}, State.SendsOver a b → R a b

section
variable {R : State → State → Prop} (F : PlyFrame R) {a b : State}
include F

theorem PlyFrame.refreshLimit (a : State) : R a a.refreshLimit := by
  have h1 : R a { a with tm := { a.tm with devLimit := decide (a.rateSum > a.devMax) || decide (a.rateSum < -a.devMax) } } :=
    F.src a _ _ _ _ _ _
  unfold State.refreshLimit
  exact F.ite (F.raise h1 0x048) h1

theorem PlyFrame.refreshSource (a : State) : R a a.refreshSource := by
  unfold State.refreshSource
  exact F.trans (F.src a _ _ _ _ _ _) (F.refreshLimit _)

theorem PlyFrame.refreshTrip (a : State) : R a a.refreshTrip := F.pl a _

theorem PlyFrame.sendCommands (a : State) : R a a.sendCommands := F.sends a.sendCommands_spec.1

/-- A change of role (R448, R449, R453). -/
theorem PlyFrame.setRole (a : State) (r : PlyRole) : R a (a.setRole r) := by
  have h1 : R a ({ a with pl := { a.pl with role := r } } : State).refreshSource.refreshTrip :=
    F.trans (F.pl a _) (F.trans (F.refreshSource _) (F.refreshTrip _))
  unfold State.setRole
  simp only
  generalize ({ a with pl := { a.pl with role := r } } : State).refreshSource.refreshTrip = u at h1 ⊢
  have h2 : R a (if a.pl.role = .acting ∧ r ≠ .acting then
      ({ u with pl := { u.pl with releasing := false, stopAs := none } } : State).raise 0x302 else u) :=
    F.ite (F.raise (F.trans h1 (F.pl u _)) 0x302) h1
  exact F.ite (F.trans (F.raise h2 0x301) (F.sendCommands _)) h2

theorem PlyFrame.startSync (a : State) : R a a.startSync := F.count (F.pl a _) 5895

theorem PlyFrame.join (a : State) : R a a.join :=
  F.trans (F.pl a { a.pl with syncFails := 0 }) (F.trans (F.setRole _ _) (F.startSync _))

theorem PlyFrame.modMem (a : State) (j : Nat) (f : PlyMem → PlyMem) : R a (a.modMem j f) := F.pl a _

/-- A member is demoted (R449, R460, R463, R470). -/
theorem PlyFrame.demote (a : State) (j : Nat) : R a (a.demote j) := by
  unfold State.demote
  refine F.ite (F.ite (F.ite (F.refl a) ?_) (F.ite (F.refl a) ?_)) (F.ite (F.refl a) ?_)
  · exact F.raise (F.count (F.pl a _) 5894) 0x303
  · exact F.raise (F.count (F.setRole a _) 5894) 0x303
  · exact F.raise (F.count (F.modMem a j _) 5894) 0x303

/-! ## Demotions and votes at a release point -/

theorem PlyFrame.devStep (sets : List (Nat × List SinkVal)) (a : State) (j : Nat) : R a (a.devStep sets j) := by
  have h1 : R a ((a.modMem j (fun m => { m with dev := min 15 ((a.mem j).dev + 1) })).count 5890) := F.count (F.modMem a j _) 5890
  unfold State.devStep
  exact F.ite (F.ite (F.trans h1 (F.demote _ j)) h1) (F.modMem a j _)

theorem PlyFrame.shadowDemotion (a : State) : R a a.shadowDemotion := by
  unfold State.shadowDemotion
  split
  · exact F.refl a
  · exact F.ite (F.demote a _) (F.refl a)

theorem PlyFrame.demotions (a : State) (sets : List (Nat × List SinkVal)) : R a (a.demotions sets) := by
  have h1 := F.foldl (F.devStep sets) plyMembers a
  unfold State.demotions
  simp only
  generalize List.foldl _ a plyMembers = u at h1 ⊢
  refine F.trans (b := if u.outcast then u.demote u.own else u) (F.ite (F.trans h1 (F.demote u _)) h1) (F.shadowDemotion _)

theorem PlyFrame.noMajority (a : State) (sets : List (Nat × List SinkVal)) : R a (a.noMajority sets) := by
  unfold State.noMajority
  exact F.ite (F.refl a) (F.raiseOnce (F.countN (F.refl a) 5891 _) 0x30A 0x30A)

theorem PlyFrame.joinStep (a : State) (sets : List (Nat × List SinkVal)) : R a (a.joinStep sets) := by
  unfold State.joinStep
  simp only
  refine F.ite ?_ (F.refl a)
  have h1 : ∀ n, R a { a with pl := { a.pl with agreeRun := n } } := fun n => F.pl a _
  exact F.ite (F.raise (F.trans (h1 _) (F.setRole _ _)) 0x305) (h1 _)

theorem PlyFrame.plyRelease (a : State) (sets : List (Nat × List SinkVal)) : R a (a.plyRelease sets) := by
  unfold State.plyRelease
  exact F.ite (F.trans (F.trans (F.noMajority a sets) (F.demotions _ sets)) (F.joinStep _ sets)) (F.refl a)

/-! ## The release of the loops -/

theorem PlyFrame.fellBack (h : R a b) (k c : Nat) : R a (b.fellBack k c) := F.raise (F.slub (F.count h _) _ _ _ _) _

section
variable (htw : ∀ (a : State) x, R a { a with tw := x })
include htw

theorem PlyFrame.loopAct {k : Nat} (h : State.LoopAct k a b) : R a b := by
  have h1 : R a { a with rep := b.rep } := F.rep a b.rep h.grows h.whOld
  rw [h.rest]
  exact F.trans (F.trans h1 (F.dr _ b.dr)) (htw _ b.tw)

/-- Fallbacks of cause PLY (R450, R461). -/
theorem PlyFrame.plyLoop (a : State) (k : Nat) (hit : Bool) : R a (a.plyLoop k hit) := by
  unfold State.plyLoop
  simp only
  have h1 : ∀ n, R a (a.setLoop k { a.loop k with noMaj := n }) := fun n => htw a _
  have h2 : ∀ n f, R a ((a.setLoop k { a.loop k with noMaj := n }).modLoop k f) := fun n f => F.trans (h1 n) (htw _ _)
  exact F.ite (F.fellBack (h2 _ _) k 3) (F.ite (F.ite (F.raise (h2 _ _) 0x225) (h2 _ _)) (h1 _))

theorem PlyFrame.overrun (a : State) : R a a.overrun := by
  unfold State.overrun
  exact F.ite (F.refl a) (F.raise (F.slub (htw a _) _ _ _ _) 0x220)

/-- The release of the loops in RUN (R237, R243, R245, R248, R471). -/
theorem PlyFrame.releaseLoops (a : State) : R a a.releaseLoops := by
  have h0 : R a a.dropAbandoned := by
    rw [a.dropAbandoned_only]
    exact htw a _
  have h1 : R a ((a.dropAbandoned.plyRelease a.dropAbandoned.outSets).overrun) :=
    F.trans h0 (F.trans (F.plyRelease _ _) (F.overrun htw _))
  unfold State.releaseLoops
  simp only
  generalize (a.dropAbandoned.plyRelease a.dropAbandoned.outSets).overrun = u at h1 ⊢
  have h2 := F.trans h1 (F.foldl (fun v k => F.loopAct htw (v.settleLoop_act k)) (loopsOf a.regs.live) u)
  generalize List.foldl State.settleLoop u (loopsOf a.regs.live) = v at h2 ⊢
  refine F.trans (F.ite (F.trans h2 (F.foldl (fun w k => F.plyLoop htw w k _) (loopsOf a.regs.live) v)) h2)
    (F.foldl (fun w k => F.loopAct htw (w.publish_act k _).1) (loopsOf a.regs.live) _)

end

end

end Sys2Proof.Machine
end

section
/-!
PROOFS. The agreement window, the twist window and the release point of a turn (R30, R218, R220, R262).
-/

namespace Sys2Proof.Machine

/-! ## The release point -/

/-- From a to b the loops are released: the configuration, the time and the phases of the turn stay, and so does the field die. -/
structure State.Releases (a b : State) : Prop where
  live : b.regs.live = a.regs.live
  now : b.now = a.now
  clock : b.clock = a.clock
  done : b.tm.releaseDone = a.tm.releaseDone
  up : b.fieldUp = a.fieldUp
  grows : Rep.Grows a.rep b.rep
  whOld : b.rep.whOld = a.rep.whOld

theorem State.releases_frame : PlyFrame State.Releases where
  refl a := ⟨rfl, rfl, rfl, rfl, rfl, .refl _, rfl⟩
  trans h g := ⟨g.live.trans h.live, g.now.trans h.now, g.clock.trans h.clock, g.done.trans h.done, g.up.trans h.up,
    h.grows.trans g.grows, g.whOld.trans h.whOld⟩
  rep _ _ hg hw := ⟨rfl, rfl, rfl, rfl, rfl, hg, hw⟩
  dr _ _ := ⟨rfl, rfl, rfl, rfl, rfl, .refl _, rfl⟩
  pl _ _ := ⟨rfl, rfl, rfl, rfl, rfl, .refl _, rfl⟩
  src _ _ _ _ _ _ _ := ⟨rfl, rfl, rfl, rfl, rfl, .refl _, rfl⟩
  sends h := ⟨by rw [h.rest], by rw [h.rest], by rw [h.rest], by rw [h.rest], h.up, by rw [h.rest]; exact .refl _, by rw [h.rest]⟩

theorem State.command_sendsOver {a b : State} (h : State.SendsOver a b) (n : Nat) : b.command n = a.command n := by
  have hl : ∀ k, b.loop k = a.loop k := State.loop_of_tw (by rw [h.rest])
  have hr : b.regs = a.regs := by rw [h.rest]
  unfold State.command State.outCmd State.fld State.live
  simp only [hl, hr]

section
variable {s : State} (hs : s.ready)
include hs

theorem answers_releasePoint (hdone : s.tm.releaseDone = false) : Answers .releasePoint s (fun t =>
    t.now = (s.advanceTo (s.offsetAt s.releaseUs)).now ∧ t.clock = (s.advanceTo (s.offsetAt s.releaseUs)).clock ∧
    t.tm.releaseDone = true ∧ s.raises t 0x042 ∧ t.regs.live = s.regs.live ∧
    ∀ n, n < 8 → (t.loopOut n).modeWait = false ∧ (t.loopOut n).sent = (if s.fieldUp = true then some (t.command n) else none)) := by
  have htells := State.Tells.advance hs (s.offsetAt s.releaseUs)
  have htm := s.advanceTo_tm (t := s.offsetAt s.releaseUs)
  have hregs := s.advanceTo_regs (t := s.offsetAt s.releaseUs)
  have hfa : (s.advanceTo (s.offsetAt s.releaseUs)).fieldUp = s.fieldUp := by rw [s.advanceTo_eq]; rfl
  generalize hv : s.advanceTo (s.offsetAt s.releaseUs) = v at htells htm hregs hfa ⊢
  have hopen := htells.releaseOpened (congrArg RegSt.live hregs)
  have hrest := v.releaseOpened_spec
  have hrow : v.releasePoint = (if v.releaseOpened.dev.st = .run then v.releaseOpened.releaseLoops else v.releaseOpened).refreshTrip.sendCommands :=
    v.releasePoint_eq
  generalize v.releaseOpened = u at hopen hrest hrow
  have F := State.releases_frame
  have htw : ∀ (a : State) x, State.Releases a { a with tw := x } := fun _ _ => ⟨rfl, rfl, rfl, rfl, rfl, .refl _, rfl⟩
  have hz : State.Releases u (if u.dev.st = .run then u.releaseLoops else u).refreshTrip :=
    F.trans (F.ite (F.releaseLoops htw u) (F.refl u)) (F.refreshTrip _)
  generalize (if u.dev.st = .run then u.releaseLoops else u).refreshTrip = z at hz hrow
  obtain ⟨h1, h2⟩ := z.sendCommands_spec
  have hw := F.trans hz (F.sends h1)
  have hcmd := State.command_sendsOver h1
  have hg : (if v.tm.releaseDone then v else v.releasePoint) = z.sendCommands := by
    rw [htm, hdone, hrow]
    rfl
  generalize z.sendCommands = w at h1 h2 hw hcmd hg
  have hfield : z.fieldUp = s.fieldUp := by
    rw [hz.up, hrest]
    exact hfa
  have hhear : s.Hears { srcs := [0x042] } w.rep := hopen.hears.mono hw.grows hw.whOld
  refine answers_sched_hears hs (exec_releasePoint s) (hv ▸ hg) hhear fun r heard => ⟨?_, ?_, ?_, heard.raises _ List.mem_cons_self, ?_, fun n hn => ?_⟩
  · exact hw.now.trans (by rw [hrest])
  · exact hw.clock.trans (by rw [hrest])
  · exact hw.done.trans (by rw [hrest])
  · exact hw.live.trans (by rw [hrest]; exact congrArg RegSt.live hregs)
  · obtain ⟨g1, g2⟩ := h2 n hn
    rw [hfield, ← hcmd n] at g2
    exact ⟨g1, g2⟩

/-! ## The agreement window -/

omit hs in
theorem exec_agreementWindowEnd (s : State) : exec .agreementWindowEnd s = s.sched (s.offsetAt (s.capUs + s.agreeUs)) (fun u =>
    if u.tm.agreeDone then u
    else
      let u1 := { u with tm := { u.tm with agreeDone := true } }
      if u1.plyMember && decide (u1.dev.st = .run) then u1.agree else u1) := rfl

omit hs in
theorem State.agree_only (u : State) : u.agree = { u with tw := u.agree.tw, pl := u.agree.pl } := by
  have hfold : ∀ (l : List (Nat × Nat)) (a : State), ∃ x, l.foldl (fun (a : State) e => a.keepTaps (fun _ => none) e.1 [e.2]) a = { a with tw := x } :=
    fun l => by
      induction l with
      | nil => exact fun a => ⟨_, rfl⟩
      | cons e l ih =>
        intro a
        obtain ⟨x, hx⟩ := ih (a.keepTaps (fun _ => none) e.1 [e.2])
        exact ⟨x, hx⟩
  obtain ⟨x, hx⟩ := hfold (agreeTaps u.regs.live) u
  unfold State.agree
  simp only
  rw [hx]

theorem answers_agreementWindowEnd (hdone : s.tm.agreeDone = false) : Answers .agreementWindowEnd s (fun t =>
    t.now = (s.advanceTo (s.offsetAt (s.capUs + s.agreeUs))).now ∧ t.clock = (s.advanceTo (s.offsetAt (s.capUs + s.agreeUs))).clock ∧
    t.tm.agreeDone = true ∧ t.regs.live = s.regs.live ∧ (s.plyMember = false → t.pl = s.pl ∧ t.tw = s.tw)) := by
  have hset := State.advanceTo_settled hs (s.offsetAt (s.capUs + s.agreeUs))
  have heq := s.advanceTo_eq (s.offsetAt (s.capUs + s.agreeUs))
  have htm := s.advanceTo_tm (t := s.offsetAt (s.capUs + s.agreeUs))
  generalize hv : s.advanceTo (s.offsetAt (s.capUs + s.agreeUs)) = v at hset heq htm ⊢
  have hlive : v.regs.live = s.regs.live := by rw [heq]
  have hply : v.plyMember = s.plyMember := by rw [heq]; rfl
  have hkeep : v.pl = s.pl ∧ v.tw = s.tw := by rw [heq]; exact ⟨rfl, rfl⟩
  obtain ⟨u, hu⟩ : ∃ u : State, { v with tm := { v.tm with agreeDone := true } } = u := ⟨_, rfl⟩
  have hup : u.plyMember = s.plyMember := hu ▸ hply
  have hg : (if v.tm.agreeDone then v else if u.plyMember && decide (u.dev.st = .run) then u.agree else u) =
      if u.plyMember && decide (u.dev.st = .run) then u.agree else u := by
    rw [htm, hdone]
    rfl
  rw [← hu] at hg
  refine answers_sched_settles hs (exec_agreementWindowEnd s) (v := if u.plyMember && decide (u.dev.st = .run) then u.agree else u)
    (by rw [hv, ← hu]; exact hg) ?_ ?_
  · split
    · rw [u.agree_only, ← hu]
      exact hset
    · rw [← hu]
      exact hset
  · split
    · rename_i h
      rw [u.agree_only, ← hu]
      refine ⟨rfl, rfl, rfl, hlive, fun hp => ?_⟩
      rw [hup, hp] at h
      cases h
    · rw [← hu]
      exact ⟨rfl, rfl, rfl, hlive, fun _ => hkeep⟩

/-! ## The twist window -/

/-- The loops that are due are issued (R218, R220). -/
def State.twistOpened (u : State) : State :=
  { u with tm := { u.tm with twistDone := true }, tw := { u.tw with startAt := u.clock, opened := true, cyc := 0, running := [] } }

/-- A loop becomes due. -/
def State.loopComesDue (u : State) (k : Nat) : State := u.modLoop k (fun v => { v with due := true, dead := false, eval := none })

omit hs in
theorem exec_twistWindowStart (s : State) : exec .twistWindowStart s = s.sched (s.offsetAt s.twistUs) (fun u =>
    if u.tm.twistDone then u
    else if u.dev.st = .run then
      (((loopsOf u.regs.live).filter (fun k => loopDue u.regs.live k u.tm.turn.toNat)).foldl State.loopComesDue u.twistOpened).issueLoops
    else u.twistOpened) := rfl

omit hs in
/-- Each loop of a list becomes due, and no other. -/
theorem State.foldl_loopComesDue (l : List Nat) (a : State) : State.LoopsOnly a (l.foldl State.loopComesDue a) ∧
    (∀ k ∈ l, ((l.foldl State.loopComesDue a).loop k).due = true ∧ ((l.foldl State.loopComesDue a).loop k).eval = none) ∧
    (∀ k, (a.loop k).due = true → (a.loop k).eval = none → ((l.foldl State.loopComesDue a).loop k).due = true ∧
      ((l.foldl State.loopComesDue a).loop k).eval = none) ∧
    ∀ k, k ∉ l → (l.foldl State.loopComesDue a).loop k = a.loop k := by
  induction l generalizing a with
  | nil => exact ⟨rfl, fun k h => (nomatch h), fun k h1 h2 => ⟨h1, h2⟩, fun _ _ => rfl⟩
  | cons j l ih =>
    obtain ⟨h1, h2, h3, h4⟩ := ih (a.loopComesDue j)
    have hself : (a.loopComesDue j).loop j = { a.loop j with due := true, dead := false, eval := none } := State.modLoop_self _ _ _
    have hne : ∀ k, k ≠ j → (a.loopComesDue j).loop k = a.loop k := fun k hk => State.modLoop_ne _ _ hk
    refine ⟨?_, fun k hk => ?_, fun k hd he => ?_, fun k hk => ?_⟩
    · have h0 : State.LoopsOnly a (a.loopComesDue j) := rfl
      unfold State.LoopsOnly at h0 h1 ⊢
      rw [List.foldl_cons, h1, h0]
    · rcases List.mem_cons.1 hk with rfl | hk
      · exact h3 _ (by rw [hself]) (by rw [hself])
      · exact h2 k hk
    · by_cases hk : k = j
      · subst hk
        exact h3 k (by rw [hself]) (by rw [hself])
      · exact h3 k (by rw [hne k hk]; exact hd) (by rw [hne k hk]; exact he)
    · rw [List.mem_cons, not_or] at hk
      exact (h4 k hk.2).trans (hne k hk.1)

theorem answers_twistWindowStart (hdone : s.tm.twistDone = false) : Answers .twistWindowStart s (fun t =>
    t.now = (s.advanceTo (s.offsetAt s.twistUs)).now ∧ t.clock = (s.advanceTo (s.offsetAt s.twistUs)).clock ∧
    t.tm.twistDone = true ∧ t.regs = s.regs ∧ t.tw.startAt = t.clock ∧ t.rep = s.rep ∧
    (s.dev.st = .run → ∀ k, loopOn s.regs.live k = true → k ∈ loopsOf s.regs.live →
      (s.tm.turn.toNat % 2 ^ periodOf s.regs.live k = phaseOfLoop s.regs.live k → (t.loop k).due = true ∧ (t.loop k).eval = none) ∧
      (s.tm.turn.toNat % 2 ^ periodOf s.regs.live k ≠ phaseOfLoop s.regs.live k → t.loop k = s.loop k)) ∧
    (s.dev.st = .run → ∀ l ∈ t.tw.lanes, Tbl.look t.tw.running l = none → ∀ k ∈ loopsOf s.regs.live, t.mayStart k = false) ∧
    (s.dev.st ≠ .run → t.tw.loops = s.tw.loops)) := by
  obtain ⟨hset, hrep⟩ := And.intro (State.advanceTo_settled hs (s.offsetAt s.twistUs)) (State.advanceTo_rep hs.2.2 (s.offsetAt s.twistUs))
  have heq := s.advanceTo_eq (s.offsetAt s.twistUs)
  generalize hv : s.advanceTo (s.offsetAt s.twistUs) = v at hset hrep heq ⊢
  obtain ⟨htm, hregs, hdev, htw⟩ : v.tm = s.tm ∧ v.regs = s.regs ∧ v.dev = s.dev ∧ v.tw = s.tw := by
    rw [heq]
    exact ⟨rfl, rfl, rfl, rfl⟩
  by_cases hrun : s.dev.st = .run
  · obtain ⟨l, hl⟩ : ∃ l, (loopsOf s.regs.live).filter (fun k => loopDue s.regs.live k s.tm.turn.toNat) = l := ⟨_, rfl⟩
    obtain ⟨f1, f2, -, f4⟩ := State.foldl_loopComesDue l v.twistOpened
    have hg : (if v.tm.twistDone then v
        else if v.dev.st = .run then
          (((loopsOf v.regs.live).filter (fun k => loopDue v.regs.live k v.tm.turn.toNat)).foldl State.loopComesDue v.twistOpened).issueLoops
        else v.twistOpened) = (l.foldl State.loopComesDue v.twistOpened).issueLoops := by
      rw [htm, hdone, hdev, if_neg Bool.false_ne_true, if_pos hrun, hregs, hl]
    generalize l.foldl State.loopComesDue v.twistOpened = u at f1 f2 f4 hg
    obtain ⟨g1, g2⟩ := u.issueLoops_spec
    have hlanes : u.issueLoops.tw.lanes = u.tw.lanes := by rw [g1.rest]
    have hone : ∀ k, u.issueLoops.loop k = u.loop k := g1.loop
    have huo : u = { v.twistOpened with tw := u.tw } := by rw [f1]
    have hstart : u.tw.startAt = v.clock ∧ u.tw.opened = true := by rw [f1]; exact ⟨rfl, rfl⟩
    have hserved := g2 (by rw [huo]; exact (congrArg DevSt.st hdev).trans hrun) hstart.2
    have hrest := g1.rest
    generalize u.issueLoops = w at g1 hlanes hone hserved hrest hg
    have hwo : w = { v.twistOpened with tw := w.tw } := by rw [hrest, huo]
    have hws : w.tw.startAt = v.clock := by rw [hrest]; exact hstart.1
    have hwr : w.regs = s.regs := by rw [hwo]; exact hregs
    refine answers_sched_settles hs (exec_twistWindowStart s) (hv ▸ hg) (by rw [hwo]; exact hset) ⟨by rw [hwo]; rfl, by rw [hwo]; rfl,
      by rw [hwo]; rfl, hwr, by rw [hws, hwo]; rfl, by rw [hwo]; exact hrep, fun _ k _ hk => ⟨fun hd => ?_, fun hd => ?_⟩,
      fun _ j hj hn k hk => hserved j (hlanes ▸ hj) hn k (by rw [hwr]; exact hk), fun h => absurd hrun h⟩
    · rw [hone]
      exact f2 k (hl ▸ List.mem_filter.2 ⟨hk, decide_eq_true hd⟩)
    · have hnl : k ∉ l := fun h => hd (by
        rw [← hl] at h
        exact of_decide_eq_true (List.mem_filter.1 h).2)
      rw [hone, f4 k hnl]
      exact State.loop_of_tw (congrArg (·.loops) htw) k
  · have hg : (if v.tm.twistDone then v
        else if v.dev.st = .run then
          (((loopsOf v.regs.live).filter (fun k => loopDue v.regs.live k v.tm.turn.toNat)).foldl State.loopComesDue v.twistOpened).issueLoops
        else v.twistOpened) = v.twistOpened := by
      rw [htm, hdone, hdev, if_neg Bool.false_ne_true, if_neg hrun]
    exact answers_sched_settles hs (exec_twistWindowStart s) (v := v.twistOpened) (by rw [hv]; exact hg) hset ⟨rfl, rfl, rfl, hregs, rfl, hrep, fun h => absurd h hrun,
      fun h => absurd h hrun, fun _ => congrArg (·.loops) htw⟩

/-! ## Phases that have passed -/

theorem answers_phaseDone {c : Instr} {g : State → State} {x : BitVec 64} (hc : exec c s = s.sched x g)
    (hg : g (s.advanceTo x) = s.advanceTo x) : Answers c s (fun t => t = s.advanceTo x) :=
  answers_sched_settles hs hc hg (State.advanceTo_settled hs x) rfl

end

end Sys2Proof.Machine
end

section
/-!
PROOFS. The capture point of a turn (R30, R34, R131, R204, R225, R455).
-/

namespace Sys2Proof.Machine

/-! ## Snapshots of the twist slots -/

/-- From a to b one twist slot takes its snapshot, and the bobbin that it held may be released. -/
structure State.SnapAct (k : Nat) (a b : State) : Prop where
  rest : b = { a with tw := { a.tw with slots := b.tw.slots }, cr := b.cr, rep := b.rep }
  others : ∀ j, j ≠ k → b.twSlot j = a.twSlot j
  held : ∀ i, (b.twSlot k).held = some i → (a.twSlot k).held = some i
  bobs : ∀ i, (a.twSlot k).held ≠ some i → b.bob i = a.bob i
  grows : Rep.Grows a.rep b.rep
  whOld : b.rep.whOld = a.rep.whOld

/-- From a to b a bobbin loses a holder. -/
structure State.Drops1 (i : Nat) (a b : State) : Prop where
  rest : b = { a with cr := b.cr, rep := b.rep }
  bobs : ∀ j, j ≠ i → b.bob j = a.bob j
  grows : Rep.Grows a.rep b.rep
  whOld : b.rep.whOld = a.rep.whOld

section
variable {a b : State} {i k : Nat}

theorem State.refreshLow_spec (a : State) : a.refreshLow = { a with cr := a.refreshLow.cr, rep := a.refreshLow.rep } ∧
    (∀ j, a.refreshLow.bob j = a.bob j) ∧ Rep.Grows a.rep a.refreshLow.rep ∧ a.refreshLow.rep.whOld = a.rep.whOld := by
  unfold State.refreshLow
  simp only
  split
  · exact ⟨rfl, fun _ => rfl, State.raise_grows _ _, (State.raise_same _ _).whOld⟩
  · exact ⟨rfl, fun _ => rfl, .refl _, rfl⟩

theorem State.dropHolder_spec (a : State) (i : Nat) : State.Drops1 i a (a.dropHolder i) := by
  unfold State.dropHolder
  split
  · exact ⟨rfl, fun _ _ => rfl, .refl _, rfl⟩
  · split
    · unfold State.freeBob
      split
      · exact ⟨rfl, fun _ _ => rfl, .refl _, rfl⟩
      · rename_i x _
        obtain ⟨u, hu⟩ : ∃ u : State, { a with cr := { a.cr with
          bobs := Tbl.del a.cr.bobs i, use := Tbl.put a.cr.use x.ch {} ((a.use x.ch).upd x.cls (· - 1)) } } = u := ⟨_, rfl⟩
        have hbob : ∀ j, j ≠ i → u.bob j = a.bob j := fun j hj => by
          rw [← hu]
          exact Tbl.look_del_ne _ hj
        have huo : u = { a with cr := u.cr } := hu ▸ rfl
        obtain ⟨h1, h2, h3, h4⟩ := u.refreshLow_spec
        simp only
        rw [hu]
        have hur : u.rep = a.rep := by rw [huo]
        rw [hur] at h3 h4
        exact ⟨by rw [h1, huo], fun j hj => (h2 j).trans (hbob j hj), h3, h4⟩
    · exact ⟨rfl, fun j hj => Tbl.look_ins_ne _ _ hj, .refl _, rfl⟩

theorem State.setTwSlot_self (a : State) (k : Nat) (v : TwistSlot) : (a.setTwSlot k v).twSlot k = v := Tbl.lookD_put_self _ _ _ _
theorem State.setTwSlot_ne (a : State) {j k : Nat} (v : TwistSlot) (h : j ≠ k) : (a.setTwSlot k v).twSlot j = a.twSlot j :=
  Tbl.lookD_put_ne _ _ _ _ h

theorem State.snapAct_set {v : TwistSlot} (h : ∀ i, v.held = some i → (a.twSlot k).held = some i) : State.SnapAct k a (a.setTwSlot k v) := by
  refine ⟨rfl, fun j hj => a.setTwSlot_ne v hj, fun i hi => ?_, fun _ _ => rfl, .refl _, rfl⟩
  rw [State.setTwSlot_self] at hi
  exact h i hi

theorem State.snapAct_drop {v : TwistSlot} (hh : (a.twSlot k).held = some i) (h : v.held = none) :
    State.SnapAct k a ((a.setTwSlot k v).dropHolder i) := by
  have h1 := State.dropHolder_spec (a.setTwSlot k v) i
  have hself := a.setTwSlot_self k v
  have hne : ∀ j, j ≠ k → (a.setTwSlot k v).twSlot j = a.twSlot j := fun j hj => a.setTwSlot_ne v hj
  have hslot : ∀ j, ((a.setTwSlot k v).dropHolder i).twSlot j = (a.setTwSlot k v).twSlot j := fun j => by
    unfold State.twSlot
    rw [h1.rest]
  refine ⟨?_, fun j hj => (hslot j).trans (hne j hj), fun j hj => ?_, fun j hj => h1.bobs j fun e => hj (e ▸ hh), h1.grows, h1.whOld⟩
  · rw [h1.rest]
    rfl
  · rw [hslot, hself, h] at hj
    cases hj

theorem TwistSlot.older_held (v : TwistSlot) (low : Option (BitVec 64)) (cut : BitVec 64) (o : Option Nat) : (v.older low cut o).held = o := by
  unfold TwistSlot.older
  split <;> rfl

/-- The bobbin that a slot holds, where there is one. -/
def State.heldBob (s : State) (k : Nat) : Option (Nat × Bobbin) := (s.twSlot k).held.bind (fun i => (s.bob i).map (fun b => (i, b)))

/-- A slot whose snapshot is not its held bobbin's. -/
theorem State.snapSlot_eq (s : State) (cut : BitVec 64) (k : Nat) : s.snapSlot cut k =
    match s.heldBob k with
    | none => s.setTwSlot k ((s.twSlot k).older s.tm.cut cut (s.twSlot k).held)
    | some (i, b) =>
      if earlier b.time cut = false then s.setTwSlot k ((s.twSlot k).older s.tm.cut cut (some i))
      else if b.poison || !inSnapshot s.tm.cut cut b.time then (s.setTwSlot k ((s.twSlot k).older s.tm.cut cut none)).dropHolder i
      else (s.setTwSlot k { held := none, snap := some b.frame, age := 0 }).dropHolder i := by
  unfold State.snapSlot State.heldBob
  rfl

theorem State.held_of_heldBob {s : State} {x : Bobbin} (h : s.heldBob k = some (i, x)) : (s.twSlot k).held = some i := by
  unfold State.heldBob at h
  obtain ⟨j, hj, hx⟩ := Option.bind_eq_some_iff.1 h
  obtain ⟨y, -, hy⟩ := Option.map_eq_some_iff.1 hx
  rw [hj, (Prod.mk.inj hy).1]

theorem State.snapSlot_act (a : State) (cut : BitVec 64) (k : Nat) : State.SnapAct k a (a.snapSlot cut k) := by
  rw [State.snapSlot_eq]
  split
  · exact State.snapAct_set fun i hi => by rwa [TwistSlot.older_held] at hi
  · rename_i i x hx
    have hh := State.held_of_heldBob hx
    split
    · exact State.snapAct_set fun j hj => by
        rw [TwistSlot.older_held] at hj
        exact hh.trans hj
    · split
      · exact State.snapAct_drop hh (TwistSlot.older_held _ _ _ _)
      · exact State.snapAct_drop hh rfl

/-- A slot after the snapshot of the bobbin that it holds (R34, R225). -/
def TwistSlot.after (v : TwistSlot) (low : Option (BitVec 64)) (cut : BitVec 64) (i : Nat) (b : Bobbin) : TwistSlot :=
  if earlier b.time cut = false then v.older low cut (some i)
  else if b.poison || !inSnapshot low cut b.time then v.older low cut none
  else { held := none, snap := some b.frame, age := 0 }

theorem State.snapSlot_after {x : Bobbin} (hh : (a.twSlot k).held = some i) (hb : a.bob i = some x) (cut : BitVec 64) :
    (a.snapSlot cut k).twSlot k = (a.twSlot k).after a.tm.cut cut i x := by
  have hx : a.heldBob k = some (i, x) := by
    unfold State.heldBob
    rw [hh]
    simp only [Option.bind_some, hb, Option.map_some]
  have hdrop : ∀ v, ((a.setTwSlot k v).dropHolder i).twSlot k = v := fun v => by
    refine Eq.trans ?_ (a.setTwSlot_self k v)
    unfold State.twSlot
    rw [(State.dropHolder_spec (a.setTwSlot k v) i).rest]
  rw [State.snapSlot_eq, hx]
  unfold TwistSlot.after
  simp only
  split
  · exact a.setTwSlot_self k _
  · split
    · exact hdrop _
    · exact hdrop _

/-- From a to b twist slots take their snapshots. -/
def State.SnapOnly (a b : State) : Prop :=
  b = { a with tw := { a.tw with slots := b.tw.slots }, cr := b.cr, rep := b.rep } ∧ Rep.Grows a.rep b.rep ∧ b.rep.whOld = a.rep.whOld

theorem State.foldl_snapSlot (cut : BitVec 64) (l : List Nat) (a : State) :
    State.SnapOnly a (l.foldl (fun (a : State) k => a.snapSlot cut k) a) := by
  induction l generalizing a with
  | nil => exact ⟨rfl, .refl _, rfl⟩
  | cons y l ih =>
    have hy := a.snapSlot_act cut y
    rw [List.foldl_cons]
    obtain ⟨i1, i2, i3⟩ := ih (a.snapSlot cut y)
    generalize a.snapSlot cut y = c at hy i1 i2 i3
    exact ⟨by rw [i1, hy.rest], hy.grows.trans i2, i3.trans hy.whOld⟩

/-- Every slot of a list takes its snapshot; the bobbin that one slot alone holds is there when its turn comes. -/
theorem State.snapSlots_spec (cut : BitVec 64) (l : List Nat) (hnd : l.Nodup) (a : State) :
    (∀ k, k ∉ l → (l.foldl (fun (a : State) k => a.snapSlot cut k) a).twSlot k = a.twSlot k) ∧
    ∀ k ∈ l, ∀ i x, (a.twSlot k).held = some i → (∀ j, j ≠ k → (a.twSlot j).held ≠ some i) → a.bob i = some x →
      (l.foldl (fun (a : State) k => a.snapSlot cut k) a).twSlot k = (a.twSlot k).after a.tm.cut cut i x := by
  induction l generalizing a with
  | nil => exact ⟨fun _ _ => rfl, fun k h => (nomatch h)⟩
  | cons y l ih =>
    rw [List.nodup_cons] at hnd
    have hy := a.snapSlot_act cut y
    have hself := fun i x hh hb => State.snapSlot_after (a := a) (k := y) (i := i) (x := x) hh hb cut
    rw [List.foldl_cons]
    obtain ⟨i4, i5⟩ := ih hnd.2 (a.snapSlot cut y)
    have htm : (a.snapSlot cut y).tm = a.tm := by rw [hy.rest]
    generalize a.snapSlot cut y = c at hy hself i4 i5 htm
    refine ⟨fun k hk => ?_, fun k hk i x hh hu hb => ?_⟩
    · rw [List.mem_cons, not_or] at hk
      exact (i4 k hk.2).trans (hy.others k hk.1)
    · rcases List.mem_cons.1 hk with rfl | hk
      · exact (i4 k hnd.1).trans (hself i x hh hb)
      · have hne : k ≠ y := fun e => hnd.1 (e ▸ hk)
        have hne' : y ≠ k := fun e => hne e.symm
        rw [i5 k hk i x (by rw [hy.others k hne]; exact hh) (fun j hj => ?_) (by rw [hy.bobs i (hu y hne')]; exact hb), hy.others k hne, htm]
        by_cases hjy : j = y
        · subst hjy
          exact fun h => hu j hj (hy.held i h)
        · rw [hy.others j hjy]
          exact hu j hj

end

/-! ## Snapshots of streams, feeds and lines -/

theorem State.snapStream_dr (cut : BitVec 64) (a : State) (n : Nat) : State.DrOnly a (a.snapStream cut n) := by
  have F := State.drOnly_frame
  unfold State.snapStream
  split
  · exact F.refl a
  · rename_i x _
    have h : ∀ v, State.DrOnly a (a.setStream n v) := fun v => F.dr a _
    exact F.ite (F.ite (F.raise (F.status (h _) _) 0x1A7) (F.ite (F.status (h _) _) (h _))) (F.refl a)

theorem lookD_foldl_put {β : Type} [DecidableEq β] {d : β} (f : Nat → β) (l : List Nat) (t : Tbl β) (k : Nat) :
    Tbl.lookD (l.foldl (fun (t : Tbl β) n => Tbl.put t n d (f n)) t) k d = if k ∈ l then f k else Tbl.lookD t k d := by
  induction l generalizing t with
  | nil => rfl
  | cons n l ih =>
    rw [List.foldl_cons, ih]
    by_cases hk : k = n
    · subst hk
      rw [Tbl.lookD_put_self, ite_self, if_pos List.mem_cons_self]
    · rw [Tbl.lookD_put_ne _ _ _ _ hk]
      simp only [List.mem_cons, hk, false_or]

/-- From a to b the field's snapshot is taken. -/
structure State.FieldSnap (a b : State) : Prop where
  rest : b = { a with tw := { a.tw with feeds := b.tw.feeds, lines := b.tw.lines }, lw := b.lw }
  feeds : ∀ n, n < 8 → Tbl.lookD b.tw.feeds n {} = (a.feed n).pub
  errs : ∀ c, c < 16 → (b.line c).errs = 0

theorem State.snapField_spec (a : State) : State.FieldSnap a a.snapField := by
  have hfeeds : ∀ n, n < 8 → Tbl.lookD ((List.range 8).foldl (fun (t : Tbl FeedMeas) n => Tbl.put t n {} (a.feed n).pub) a.tw.feeds) n {} =
      (a.feed n).pub := fun n hn => by
    rw [lookD_foldl_put (fun n => (a.feed n).pub), if_pos (List.mem_range.2 hn)]
  unfold State.snapField
  simp only
  generalize (List.range 8).foldl (fun (t : Tbl FeedMeas) n => Tbl.put t n {} (a.feed n).pub) a.tw.feeds = fs at hfeeds ⊢
  generalize channels.foldl (fun (t : Tbl (List Int)) c => Tbl.put t c [] (a.lineItems c)) a.tw.lines = ls
  obtain ⟨u, hu⟩ : ∃ u : State, { a with tw := { a.tw with feeds := fs, lines := ls } } = u := ⟨_, rfl⟩
  obtain ⟨h1, -, h3⟩ := foldl_units (get := State.line) (f := fun (a : State) c => a.modLine c (fun v => { v with errs := 0 }))
    (I := fun b => b = { u with lw := b.lw }) (Q := fun _ _ v => v.errs = 0)
    (fun b k j hj => Tbl.lookD_put_ne _ _ _ _ hj) (fun b k hb => by
      rw [hb]
      rfl)
    (fun b k _ => by
      show LineCh.errs (Tbl.lookD (Tbl.put b.lw k {} { b.line k with errs := 0 }) k {}) = 0
      rw [Tbl.lookD_put_self]) channels (by decide) u rfl
  rw [hu]
  generalize List.foldl (fun (a : State) c => a.modLine c (fun v => { v with errs := 0 })) u channels = w at h1 h3 ⊢
  refine ⟨?_, fun n hn => ?_, fun c hc => h1 c (List.mem_range.2 hc)⟩
  · rw [h3, ← hu]
  · rw [h3, ← hu]
    exact hfeeds n hn

/-- From a to b the conversions of the loop I/O begin. -/
structure State.Strobes (a b : State) : Prop where
  rest : b = { a with fa := b.fa, lio := b.lio }
  wait : b.lio.wait = a.lio.wait
  capAt : b.lio.capAt = a.lio.capAt

theorem State.Strobes.refl (a : State) : State.Strobes a a := ⟨rfl, rfl, rfl⟩

theorem State.Strobes.trans {a b c : State} (h : State.Strobes a b) (g : State.Strobes b c) : State.Strobes a c :=
  ⟨by rw [g.rest, h.rest], g.wait.trans h.wait, g.capAt.trans h.capAt⟩

theorem State.Strobes.foldl {α : Type} {f : State → α → State} (hf : ∀ b x, State.Strobes b (f b x)) (l : List α) (a : State) :
    State.Strobes a (l.foldl f a) := by
  induction l generalizing a with
  | nil => exact .refl a
  | cons x l ih => exact (hf a x).trans (ih _)

theorem State.strobe_spec (a : State) : a.strobe = { a with fa := a.strobe.fa, lio := a.strobe.lio } ∧ a.strobe.lio.wait = true ∧
    a.strobe.lio.capAt = a.clock := by
  have hs := (a.sendOver_sendsOver .strobe).rest
  obtain ⟨u, hu⟩ : ∃ u : State, { a.sendOver .strobe with lio := { a.lio with wait := true, capAt := a.clock } } = u := ⟨_, rfl⟩
  have huo : u = { a with fa := u.fa, lio := u.lio } := by rw [← hu, hs]
  have huw : u.lio.wait = true ∧ u.lio.capAt = a.clock := hu ▸ ⟨rfl, rfl⟩
  unfold State.strobe
  simp only
  rw [hu]
  have hend : ∀ w, State.Strobes u w → w = { a with fa := w.fa, lio := w.lio } ∧ w.lio.wait = true ∧ w.lio.capAt = a.clock := fun w h =>
    ⟨by rw [h.rest, huo], h.wait.trans huw.1, h.capAt.trans huw.2⟩
  refine hend _ (State.Strobes.trans (State.Strobes.foldl ?_ a.lio.ins u) (State.Strobes.foldl ?_ outputs _))
  case refine_2 => exact fun _ _ => ⟨rfl, rfl, rfl⟩
  intro b e
  split
  · split
    · exact ⟨rfl, rfl, rfl⟩
    · exact .refl b
  · exact .refl b

theorem State.snapTrip_spec (a : State) (pins : BitVec 4) :
    a.snapTrip pins = { a with pl := (a.snapTrip pins).pl, rep := (a.snapTrip pins).rep } ∧ (a.snapTrip pins).pl.tripIn = pins.toNat ∧
    Rep.Grows a.rep (a.snapTrip pins).rep ∧ (a.snapTrip pins).rep.whOld = a.rep.whOld := by
  unfold State.snapTrip
  simp only
  split
  · exact ⟨rfl, rfl, State.raise_grows _ _, (State.raise_same _ _).whOld⟩
  · exact ⟨rfl, rfl, .refl _, rfl⟩

/-! ## The capture point -/

theorem exec_capturePoint (s : State) (pins : BitVec 4) : exec (.capturePoint pins) s =
    s.sched (s.offsetAt s.capUs) (fun u => if u.tm.capDone then u else u.capture pins) := rfl

/-- The capture point is reported. -/
def State.captureOpened (u : State) : State := ({ u with tm := { u.tm with capDone := true } } : State).raise 0x041

theorem State.captureOpened_spec (u : State) :
    u.captureOpened = { u with tm := { u.tm with capDone := true }, rep := u.captureOpened.rep } := rfl

/-- The snapshots of the streams and of the twist slots. -/
def State.snapsTaken (u : State) (cut : BitVec 64) : State :=
  let v := u.streamNums.foldl (fun (a : State) n => a.snapStream cut n) u
  (v.tw.slots.map (fun e => e.1)).foldl (fun (a : State) k => a.snapSlot cut k) v

theorem State.capture_eq (u : State) (pins : BitVec 4) : u.capture pins =
    (State.snapField { u.captureOpened.snapsTaken (u.offsetAt u.capUs - 2000) with
      tm := { (u.captureOpened.snapsTaken (u.offsetAt u.capUs - 2000)).tm with cut := some (u.offsetAt u.capUs - 2000) } }).strobe.snapTrip pins := rfl

theorem State.slot_of_held {s : State} {k i : Nat} (h : (s.twSlot k).held = some i) : k ∈ s.tw.slots.map (fun e => e.1) := by
  by_contra hn
  have hnone : ∀ t : Tbl TwistSlot, k ∉ t.map (fun e => e.1) → Tbl.look t k = none := fun t => by
    induction t with
    | nil => exact fun _ => rfl
    | cons e t ih =>
      intro ht
      rw [List.map_cons, List.mem_cons, not_or] at ht
      unfold Tbl.look
      rw [if_neg ht.1]
      exact ih ht.2
  unfold State.twSlot Tbl.lookD at h
  rw [hnone _ hn] at h
  cases h

/-- The snapshots change streams, slots and bobbins; a slot that alone holds its bobbin takes it where it belongs to the snapshot. -/
theorem State.snapsTaken_spec (u : State) (cut : BitVec 64) : ∃ v, u.snapsTaken cut = v ∧
    v = { u with dr := v.dr, tw := { u.tw with slots := v.tw.slots }, cr := v.cr, rep := v.rep } ∧ Rep.Grows u.rep v.rep ∧
    v.rep.whOld = u.rep.whOld ∧ ((u.tw.slots.map (fun e => e.1)).Nodup → ∀ k i x, (u.twSlot k).held = some i →
      (∀ j, j ≠ k → (u.twSlot j).held ≠ some i) → u.bob i = some x → v.twSlot k = (u.twSlot k).after u.tm.cut cut i x) := by
  have h1 := (State.drOnly_frame).foldl (State.snapStream_dr cut) u.streamNums u
  unfold State.snapsTaken
  simp only
  generalize List.foldl (fun (a : State) n => a.snapStream cut n) u u.streamNums = a at h1 ⊢
  obtain ⟨e1, e2, e3⟩ := h1
  obtain ⟨htw, hcr, htm⟩ : a.tw = u.tw ∧ a.cr = u.cr ∧ a.tm = u.tm := by
    rw [e1]
    exact ⟨rfl, rfl, rfl⟩
  have hslot : ∀ k, a.twSlot k = u.twSlot k := fun k => by unfold State.twSlot; rw [htw]
  have hbob : ∀ i, a.bob i = u.bob i := fun i => by unfold State.bob; rw [hcr]
  have hfold := State.foldl_snapSlot cut (a.tw.slots.map (fun e => e.1)) a
  refine ⟨_, rfl, ?_, e2.trans hfold.2.1, hfold.2.2.trans e3, fun hnd k i x hh hu hx => ?_⟩
  · rw [hfold.1, e1]
  · obtain ⟨-, h3⟩ := State.snapSlots_spec cut (a.tw.slots.map (fun e => e.1)) (htw ▸ hnd) a
    rw [h3 k (htw ▸ State.slot_of_held hh) i x (by rw [hslot]; exact hh) (fun j hj => by rw [hslot]; exact hu j hj) (by rw [hbob]; exact hx),
      hslot, htm]

section
variable {v : TwistSlot} {low : Option (BitVec 64)} {cut : BitVec 64} {i : Nat} {b : Bobbin}

theorem TwistSlot.after_late (h : earlier b.time cut = false) : (v.after low cut i b).held = some i := by
  unfold TwistSlot.after
  rw [if_pos h, TwistSlot.older_held]

theorem TwistSlot.after_poisoned (h : earlier b.time cut = true) (hp : b.poison = true) (hv : v.prior = none) :
    (v.after low cut i b).held = none ∧ (v.after low cut i b).snap = v.snap := by
  unfold TwistSlot.after
  rw [if_neg (by rw [h]; exact Bool.false_ne_true.symm), hp, Bool.true_or, if_pos rfl]
  refine ⟨TwistSlot.older_held _ _ _ _, ?_⟩
  unfold TwistSlot.older
  rw [hv]
  rfl

theorem TwistSlot.after_taken (h : earlier b.time cut = true) (hp : b.poison = false) (hl : ∀ c, low = some c → earlier b.time c = false) :
    v.after low cut i b = { held := none, snap := some b.frame, age := 0 } := by
  have hin : inSnapshot low cut b.time = true := by
    unfold inSnapshot
    rw [h]
    cases low with
    | none => rfl
    | some c =>
      simp only [hl c rfl]
      rfl
  unfold TwistSlot.after
  rw [if_neg (by rw [h]; exact Bool.false_ne_true.symm), hp, hin]
  rfl

end

section
variable {s : State} (hs : s.ready)
include hs

theorem answers_capturePoint (pins : BitVec 4) (hdone : s.tm.capDone = false) : Answers (.capturePoint pins) s (fun t =>
    t.now = (s.advanceTo (s.offsetAt s.capUs)).now ∧ t.clock = (s.advanceTo (s.offsetAt s.capUs)).clock ∧
    t.tm.capDone = true ∧ s.raises t 0x041 ∧ t.pl.tripIn = pins.toNat ∧ t.lio.wait = true ∧ t.lio.capAt = t.clock ∧
    t.regs.live = s.regs.live ∧ (∀ n, n < 8 → Tbl.lookD t.tw.feeds n {} = (s.feed n).pub) ∧ (∀ c, c < 16 → (t.line c).errs = 0) ∧
    t.tm.cut = some (s.offsetAt s.capUs - 2000) ∧ ((s.tw.slots.map (fun e => e.1)).Nodup → ∀ k i x, (s.twSlot k).held = some i →
      (∀ j, j ≠ k → (s.twSlot j).held ≠ some i) → s.bob i = some x →
      t.twSlot k = (s.twSlot k).after s.tm.cut (s.offsetAt s.capUs - 2000) i x)) := by
  have htells := State.Tells.advance hs (s.offsetAt s.capUs)
  have heq := s.advanceTo_eq (s.offsetAt s.capUs)
  generalize hv : s.advanceTo (s.offsetAt s.capUs) = v at htells heq ⊢
  obtain ⟨htm, hregs, htw, hcr, hfd⟩ : v.tm = s.tm ∧ v.regs = s.regs ∧ v.tw = s.tw ∧ v.cr = s.cr ∧ v.fd = s.fd := by
    rw [heq]
    exact ⟨rfl, rfl, rfl, rfl, rfl⟩
  have hcut : v.offsetAt v.capUs = s.offsetAt s.capUs := by
    unfold State.offsetAt State.capUs State.fld State.live
    rw [htm, hregs]
  have hg : (if v.tm.capDone then v else v.capture pins) = v.capture pins := by
    rw [htm, hdone]
    rfl
  have hrow := v.capture_eq pins
  rw [hcut] at hrow
  obtain ⟨cut, hcutv⟩ : ∃ x, s.offsetAt s.capUs - 2000 = x := ⟨_, rfl⟩
  rw [hcutv] at hrow ⊢
  -- the report, and the state that the snapshots are taken in
  have h1 : s.Tells { srcs := [0x041] } v.captureOpened.rep := htells.raise 0x041 (congrArg RegSt.live hregs)
  have e1 := v.captureOpened_spec
  generalize v.captureOpened = u1 at h1 e1 hrow
  obtain ⟨u2, hu2, e2, g2, w2, slots2⟩ := u1.snapsTaken_spec cut
  rw [hu2] at hrow
  obtain ⟨u3, hu3⟩ : ∃ x : State, { u2 with tm := { u2.tm with cut := some cut } } = x := ⟨_, rfl⟩
  rw [hu3] at hrow
  have h4 := u3.snapField_spec
  generalize u3.snapField = u4 at h4 hrow
  obtain ⟨e5, wait5, cap5⟩ := u4.strobe_spec
  generalize u4.strobe = u5 at e5 wait5 cap5 hrow
  obtain ⟨e6, trip6, g6, w6⟩ := u5.snapTrip_spec pins
  generalize u5.snapTrip pins = u6 at e6 trip6 g6 w6 hrow
  obtain ⟨tm1, tw1, cr1⟩ : u1.tm = { s.tm with capDone := true } ∧ u1.tw = s.tw ∧ u1.cr = s.cr := by
    rw [e1, ← htm, ← htw, ← hcr]
    exact ⟨rfl, rfl, rfl⟩
  have e3 : u3 = { u1 with dr := u3.dr, tw := { u1.tw with slots := u3.tw.slots }, cr := u3.cr, rep := u3.rep, tm := { u1.tm with cut := some cut } } := by
    rw [← hu3, e2]
  have r3 : u3.rep = u2.rep := hu3 ▸ rfl
  have s3 : ∀ k, u3.twSlot k = u2.twSlot k := fun k => hu3 ▸ rfl
  have c5 : u5.clock = u4.clock := by rw [e5]
  have now6 : u6.now = v.now ∧ u6.clock = v.clock ∧ u6.clock = u4.clock ∧ u6.regs = v.regs ∧ u6.fd = v.fd := by
    rw [e6, e5, h4.rest, e3, e1]
    exact ⟨rfl, rfl, rfl, rfl, rfl⟩
  have tm6 : u6.tm = { s.tm with capDone := true, cut := some cut } := by
    rw [e6, e5, h4.rest, e3, tm1]
  have lio6 : u6.lio = u5.lio := by rw [e6]
  have tw6 : u6.tw = u4.tw := by rw [e6, e5]
  have lw6 : u6.lw = u4.lw := by rw [e6, e5]
  have fd3 : u3.fd = s.fd := by
    rw [e3, e1]
    exact hfd
  have r5 : u5.rep = u2.rep := by rw [e5, h4.rest, ← r3]
  have hear : s.Hears { srcs := [0x041] } u6.rep := (h1.hears.mono g2 w2).mono (r5 ▸ g6) (r5 ▸ w6)
  refine answers_sched_hears hs (exec_capturePoint s pins) (hv ▸ hg.trans hrow) hear fun r heard => ⟨now6.1, now6.2.1, ?_, heard.raises _ List.mem_cons_self,
    trip6, ?_, ?_, ?_, fun n hn => ?_, fun c hc => ?_, ?_, fun hnd k i x hh hu hb => ?_⟩
  · exact congrArg (·.capDone) tm6
  · exact (congrArg (·.wait) lio6).trans wait5
  · exact ((congrArg (·.capAt) lio6).trans cap5).trans now6.2.2.1.symm
  · exact congrArg RegSt.live (now6.2.2.2.1.trans hregs)
  · have := h4.feeds n hn
    rw [← tw6] at this
    exact this.trans (congrArg (fun f : FieldSt => (Tbl.lookD f.feeds n {}).pub) fd3)
  · exact (congrArg (fun l => LineCh.errs (Tbl.lookD l c {})) lw6).trans (h4.errs c hc)
  · exact congrArg (·.cut) tm6
  · have hslot : ∀ j, u1.twSlot j = s.twSlot j := fun j => congrArg (fun w : TwistSt => Tbl.lookD w.slots j {}) tw1
    have hlow : u1.tm.cut = s.tm.cut := congrArg (·.cut) tm1
    have hx : u1.bob i = some x := (congrArg (fun w : CreelSt => Tbl.look w.bobs i) cr1).trans hb
    have hk := slots2 (tw1 ▸ hnd) k i x ((hslot k).symm ▸ hh) (fun j hj => (hslot j).symm ▸ hu j hj) hx
    rw [hslot, hlow] at hk
    have htwk : u4.twSlot k = u3.twSlot k := by
      rw [h4.rest]
      rfl
    exact (congrArg (fun w : TwistSt => Tbl.lookD w.slots k {}) tw6).trans (htwk.trans ((s3 k).trans hk))

end

/-! ## The obligation -/

/-- Settles O40: each point of a turn comes at its offset, once, and does what is due there. -/
theorem pointsOfATurn : Obligations.PointsOfATurn := by
  unfold Obligations.PointsOfATurn
  intro s hs
  have hat : ∀ (t : State) (us : Nat), t.now = (s.advanceTo (s.offsetAt us)).now → t.clock = (s.advanceTo (s.offsetAt us)).clock →
      (s.offsetAt us - s.now).toNat ≠ 0 → (s.offsetAt us - s.now).toNat < 2 ^ 63 →
      t.now = s.offsetAt us ∧ t.clock = s.clock + s.refTime (s.offsetAt us - s.now).toNat := fun t us hn hc h0 h1 => by
    rw [hn, hc]
    exact State.advanceTo_ahead h0 h1
  refine ⟨fun pins hd => ?_, fun hd => ?_, fun hd => ?_, fun hd => ?_, fun hd pins => ?_, fun hd => ?_, fun hd => ?_, fun hd => ?_⟩
  · refine Answers.mono (answers_capturePoint hs pins hd) ?_
    rintro t ⟨hn, hc, hdone, hr, htrip, hw, hcap, hlive, hfeeds, herrs, hcut, hslot⟩
    refine ⟨hat t _ hn hc, hdone, hr, htrip, hw, hcap, hlive, hfeeds, herrs, hcut, fun hnd k i b hh hu hb => ?_⟩
    rw [hslot hnd k i b hh hu hb]
    exact ⟨TwistSlot.after_taken, TwistSlot.after_poisoned, TwistSlot.after_late⟩
  · refine Answers.mono (answers_agreementWindowEnd hs hd) ?_
    rintro t ⟨hn, hc, h⟩
    exact ⟨hat t _ hn hc, h⟩
  · refine Answers.mono (answers_twistWindowStart hs hd) ?_
    rintro t ⟨hn, hc, h⟩
    exact ⟨hat t _ hn hc, h⟩
  · refine Answers.mono (answers_releasePoint hs hd) ?_
    rintro t ⟨hn, hc, h⟩
    exact ⟨hat t _ hn hc, h⟩
  · exact answers_phaseDone hs (exec_capturePoint s pins) (by rw [State.advanceTo_tm, if_pos hd])
  · exact answers_phaseDone hs (exec_agreementWindowEnd s) (by rw [State.advanceTo_tm, if_pos hd])
  · exact answers_phaseDone hs (exec_twistWindowStart s) (by rw [State.advanceTo_tm, if_pos hd])
  · exact answers_phaseDone hs (exec_releasePoint s) (by rw [State.advanceTo_tm, if_pos hd])

end Sys2Proof.Machine
end

section
/-!
PROOFS. Wilist links: what changes one link, how a link starts and ends its training, and how it fails (R475, R477 to R480).
-/

namespace Sys2Proof.Machine

/-! ## One link -/

/-- From a to b one link, the up link in use, the parts of relayed frames and the reports change. -/
structure State.LinkStep (l : Nat) (a b : State) : Prop where
  rest : b = { a with cs := { a.cs with links := b.cs.links, upLink := b.cs.upLink, relPart := b.cs.relPart }, rep := b.rep }
  others : ∀ k, k ≠ l → b.link k = a.link k

theorem State.setLink_self (a : State) (l : Nat) (v : LinkSt) : (a.setLink l v).link l = v := Tbl.lookD_put_self _ _ _ _

theorem State.setLink_ne (a : State) {k l : Nat} (v : LinkSt) (h : k ≠ l) : (a.setLink l v).link k = a.link k :=
  Tbl.lookD_put_ne _ _ _ _ h

theorem State.modLink_link (a : State) (l : Nat) (f : LinkSt → LinkSt) : (a.modLink l f).link l = f (a.link l) := a.setLink_self l _

theorem State.elapse_link (s : State) (dt l : Nat) : (s.elapse dt).link l = s.link l := by
  rw [State.elapse_eq]
  rfl

section
variable {a b c s : State} {l : Nat} {k : Account}

theorem State.LinkStep.refl (l : Nat) (a : State) : State.LinkStep l a a := ⟨rfl, fun _ _ => rfl⟩

theorem State.LinkStep.trans (h : State.LinkStep l a b) (g : State.LinkStep l b c) : State.LinkStep l a c :=
  ⟨by rw [g.rest, h.rest], fun k hk => (g.others k hk).trans (h.others k hk)⟩

theorem State.linkStep_set (a : State) (l : Nat) (v : LinkSt) : State.LinkStep l a (a.setLink l v) := ⟨rfl, fun _ hk => a.setLink_ne v hk⟩

theorem State.linkStep_reports (h : State.RepOnly a b) : State.LinkStep l a b := by
  rw [h]
  exact ⟨rfl, fun _ _ => rfl⟩

/-- The answer's claim about everything but the link. -/
theorem State.LinkStep.only {dt : Nat} (h : State.LinkStep l (s.elapse dt) b) (r : Rep) :
    ({ b with rep := r } : State) = { s.elapse dt with
      cs := { s.cs with links := b.cs.links, upLink := b.cs.upLink, relPart := b.cs.relPart }, rep := r } ∧
    ∀ k, k ≠ l → b.link k = s.link k := by
  have hcs : (s.elapse dt).cs = s.cs := by rw [State.elapse_eq]
  exact ⟨by rw [h.rest, hcs], fun k hk => (h.others k hk).trans (s.elapse_link dt k)⟩

/-! ## The up link in use -/

theorem State.refreshUp_spec (a : State) (l : Nat) : State.LinkStep l a a.refreshUp ∧ (∀ k, a.refreshUp.link k = a.link k) ∧
    a.refreshUp.cs.relPart = a.cs.relPart := by
  unfold State.refreshUp
  simp only
  split
  · exact ⟨.refl l a, fun _ => rfl, rfl⟩
  · exact ⟨⟨rfl, fun _ _ => rfl⟩, fun _ => rfl, rfl⟩

theorem State.Tells.refreshUp (h : s.Tells k a.rep) : s.Tells k a.refreshUp.rep := by
  unfold State.refreshUp
  simp only
  split
  · exact h
  · generalize hb : ({ a with cs := { a.cs with upLink := a.chooseUp } } : State) = b
    have hr : b.rep = a.rep := hb ▸ rfl
    rw [← hr] at h
    exact h.fires (b.raise_grows _) (b.raise_same _) (b.raise_fires _)

/-- A link changes, and the up link follows. -/
theorem State.modLink_refreshUp (a : State) (l : Nat) (f : LinkSt → LinkSt) : State.LinkStep l a (a.modLink l f).refreshUp ∧
    (a.modLink l f).refreshUp.link l = f (a.link l) := by
  obtain ⟨h1, h2, -⟩ := (a.modLink l f).refreshUp_spec l
  exact ⟨(a.linkStep_set l _).trans h1, (h2 l).trans (a.setLink_self l _)⟩

/-! ## Training starts -/

/-- A link that starts training. -/
def LinkSt.inTraining (v : LinkSt) (clock : Nat) : LinkSt :=
  { v with st := .training, reason := 0, lanes := 0, trained := none, trainRun := 0, leftUp := if v.st = .up then some clock else v.leftUp }

theorem State.train_spec (a : State) (l : Nat) : State.LinkStep l a (a.train l) ∧ (a.train l).link l = (a.link l).inTraining a.clock ∧
    ∀ e ∈ (a.train l).cs.relPart, e.1 / 4096 ≠ l := by
  have h1 := (a.linkStep_set l ((a.link l).inTraining a.clock))
  have hself := a.setLink_self l ((a.link l).inTraining a.clock)
  unfold State.train
  simp only
  generalize hb : State.setLink a l _ = b
  change a.setLink l ((a.link l).inTraining a.clock) = b at hb
  rw [hb] at h1 hself
  obtain ⟨u1, u2, u3⟩ := ((b.count (5952 + 16 * l + 3)).dropParts l).refreshUp_spec l
  have hdrop : State.LinkStep l b ((b.count (5952 + 16 * l + 3)).dropParts l) := ⟨rfl, fun _ _ => rfl⟩
  refine ⟨(h1.trans hdrop).trans u1, (u2 l).trans hself, fun e he => ?_⟩
  rw [u3] at he
  exact of_decide_eq_true (List.mem_filter.1 he).2

theorem State.Tells.train (h : s.Tells k a.rep) (l : Nat) : s.Tells { k with cts := (5952 + 16 * l + 3, 1) :: k.cts } (a.train l).rep := by
  unfold State.train
  simp only
  generalize hb : State.setLink a l _ = b
  have hr : b.rep = a.rep := hb ▸ rfl
  rw [← hr] at h
  exact State.Tells.refreshUp (a := (b.count (5952 + 16 * l + 3)).dropParts l) (h.count _)

end

/-! ## Training cells -/

/-- What a training cell does to a link that the cell finds, or that its signal has set to train (R477, R478). -/
def State.trainCell (s : State) (h : CellHdr) (t : TrainRun) : State :=
  if h.crcOk = false then (s.modLink h.link.val (fun v => { v with trainRun := 0 })).countN (5952 + 16 * h.link.val) t.n
  else
    match (s.link h.link.val).st with
    | .training | .failed => s.modLink h.link.val (fun v => { v with trained := some t.info, trainRun := v.trainCells t.info t.n })
    | .up => (s.modLink h.link.val (fun v => { v with lastCell := s.clock, peerActing := h.acting })).refreshUp
    | _ => s

theorem exec_trainCell (s : State) (dt : Nat) (h : CellHdr) (t : TrainRun) : exec (.trainCell dt h t) s = s.at_ dt (fun u =>
    if u.linkOn h.link.val = false then u
    else (if (u.link h.link.val).st = .down then u.train h.link.val else u).trainCell h t) := rfl

section
variable {s : State} (hs : s.ready) (dt : Nat) (h : CellHdr) (t : TrainRun)
include hs

theorem answers_trainCell_off (hl : s.linkOn h.link.val = false) : Answers (.trainCell dt h t) s (fun u => u = s.elapse dt) := by
  have hon : (s.elapse dt).linkOn h.link.val = s.linkOn h.link.val := by rw [State.elapse_eq]; rfl
  exact answers_becomes hs (exec_trainCell s dt h t) (if_pos (hon.trans hl)) rfl rfl

omit hs in
theorem State.trainCell_trains {a : State} (hst : (a.link h.link.val).st = .training ∨ (a.link h.link.val).st = .failed) :
    State.LinkStep h.link.val a (a.trainCell h t) ∧ ((a.trainCell h t).link h.link.val).st = (a.link h.link.val).st ∧
    (h.crcOk = true → ((a.trainCell h t).link h.link.val).trained = some t.info ∧
      ((a.trainCell h t).link h.link.val).trainRun = (a.link h.link.val).trainCells t.info t.n) ∧
    (h.crcOk = false → ((a.trainCell h t).link h.link.val).trainRun = 0) := by
  unfold State.trainCell
  by_cases hc : h.crcOk = false
  · rw [if_pos hc]
    have hrun : ((a.modLink h.link.val (fun v => { v with trainRun := 0 })).link h.link.val) = { a.link h.link.val with trainRun := 0 } :=
      a.modLink_link _ _
    obtain ⟨b, hb⟩ : ∃ b, a.modLink h.link.val (fun v => { v with trainRun := 0 }) = b := ⟨_, rfl⟩
    have h1 : State.LinkStep h.link.val a b := hb ▸ a.linkStep_set _ _
    rw [hb] at hrun ⊢
    have h2 : ((b.countN (5952 + 16 * h.link.val) t.n).link h.link.val) = { a.link h.link.val with trainRun := 0 } := hrun
    rw [h2]
    exact ⟨h1.trans ⟨rfl, fun _ _ => rfl⟩, rfl, fun hc' => absurd hc (by rw [hc']; exact Bool.false_ne_true.symm), fun _ => rfl⟩
  · have hrun : (a.modLink h.link.val (fun v => { v with trained := some t.info, trainRun := v.trainCells t.info t.n })).link h.link.val =
      { a.link h.link.val with trained := some t.info, trainRun := (a.link h.link.val).trainCells t.info t.n } := a.modLink_link _ _
    have h1 : State.LinkStep h.link.val a (a.modLink h.link.val (fun v => { v with trained := some t.info, trainRun := v.trainCells t.info t.n })) :=
      a.linkStep_set _ _
    rw [if_neg hc]
    rcases hst with hst | hst
    all_goals
      rw [hst]
      simp only
      rw [hrun]
      exact ⟨h1, hst, fun _ => ⟨rfl, rfl⟩, fun hc' => absurd hc' hc⟩

omit hs in
/-- A cell with an error is counted. -/
theorem State.Tells.trainCell_bad {a : State} {k : Account} (htell : s.Tells k a.rep) (hc : h.crcOk = false) :
    s.Tells { k with cts := (5952 + 16 * h.link.val, t.n) :: k.cts } (a.trainCell h t).rep := by
  unfold State.trainCell
  rw [if_pos hc]
  generalize hb : a.modLink h.link.val (fun v => { v with trainRun := 0 }) = b
  have hr : b.rep = a.rep := hb ▸ rfl
  rw [← hr] at htell
  exact htell.countN _ _

omit hs in
/-- One without an error is not. -/
theorem State.Tells.trainCell_good {a : State} {k : Account} (htell : s.Tells k a.rep) (hc : h.crcOk = true) :
    s.Tells k (a.trainCell h t).rep := by
  unfold State.trainCell
  rw [if_neg (by rw [hc]; exact Bool.false_ne_true.symm)]
  split
  · exact htell
  · exact htell
  · exact State.Tells.refreshUp (a := a.modLink h.link.val _) htell
  · exact htell

theorem answers_trainCell_trains (hl : s.linkOn h.link.val = true)
    (hst : (s.link h.link.val).st = .down ∨ (s.link h.link.val).st = .training ∨ (s.link h.link.val).st = .failed) :
    Answers (.trainCell dt h t) s (fun u =>
      (u = { s.elapse dt with cs := { s.cs with links := u.cs.links, upLink := u.cs.upLink, relPart := u.cs.relPart }, rep := u.rep } ∧
        ∀ k, k ≠ h.link.val → u.link k = s.link k) ∧
      (u.link h.link.val).st = (if (s.link h.link.val).st = .down then .training else (s.link h.link.val).st) ∧
      (h.crcOk = true → (u.link h.link.val).trained = some t.info ∧
        (u.link h.link.val).trainRun = min 8 (t.n +
          if (s.link h.link.val).st ≠ .down ∧ (s.link h.link.val).trained.map (fun y => y.lanes) = some t.info.lanes then
            (s.link h.link.val).trainRun else 0)) ∧
      (h.crcOk = false → (u.link h.link.val).trainRun = 0 ∧ s.counts u (5952 + 16 * h.link.val) t.n) ∧
      ((s.link h.link.val).st = .down → s.counts u (5952 + 16 * h.link.val + 3) 1)) := by
  have hon : (s.elapse dt).linkOn h.link.val = true := by rw [← hl, State.elapse_eq]; rfl
  have hlink := s.elapse_link dt h.link.val
  have htell := State.Tells.elapse hs dt
  -- the link when the cell is looked at
  obtain ⟨a, ha⟩ : ∃ a, (if ((s.elapse dt).link h.link.val).st = .down then (s.elapse dt).train h.link.val else s.elapse dt) = a := ⟨_, rfl⟩
  obtain ⟨K, hstep, hst', hcells, hK, hdown⟩ : ∃ K, State.LinkStep h.link.val (s.elapse dt) a ∧
      (a.link h.link.val).st = (if (s.link h.link.val).st = .down then .training else (s.link h.link.val).st) ∧
      (a.link h.link.val).trainCells t.info t.n = min 8 (t.n +
        if (s.link h.link.val).st ≠ .down ∧ (s.link h.link.val).trained.map (fun y => y.lanes) = some t.info.lanes then
          (s.link h.link.val).trainRun else 0) ∧
      s.Tells K a.rep ∧ ((s.link h.link.val).st = .down → (5952 + 16 * h.link.val + 3, 1) ∈ K.cts) := by
    by_cases hd : (s.link h.link.val).st = .down
    · rw [hlink, if_pos hd] at ha
      obtain ⟨h1, h2, -⟩ := (s.elapse dt).train_spec h.link.val
      have h3 := htell.train h.link.val
      rw [ha] at h1 h2 h3
      refine ⟨_, h1, by rw [h2, if_pos hd]; rfl, ?_, h3, fun _ => List.mem_cons_self⟩
      rw [h2, if_neg fun hn => hn.1 hd]
      rfl
    · rw [hlink, if_neg hd] at ha
      subst ha
      refine ⟨_, .refl _ _, by rw [hlink, if_neg hd], ?_, htell, fun h => absurd h hd⟩
      rw [hlink]
      unfold LinkSt.trainCells
      by_cases hm : (s.link h.link.val).trained.map (fun y => y.lanes) = some t.info.lanes
      · rw [if_pos hm, if_pos ⟨hd, hm⟩, Nat.add_comm]
      · rw [if_neg hm, if_neg fun hn => hm hn.2]
        rfl
  have htr : (a.link h.link.val).st = .training ∨ (a.link h.link.val).st = .failed := by
    rw [hst']
    split
    · exact .inl rfl
    · rcases hst with hd | hd
      · contradiction
      · exact hd
  obtain ⟨c1, c2, c3, c4⟩ := State.trainCell_trains h t htr
  have hg : (if (s.elapse dt).linkOn h.link.val = false then s.elapse dt
      else (if ((s.elapse dt).link h.link.val).st = .down then (s.elapse dt).train h.link.val else s.elapse dt).trainCell h t) =
      a.trainCell h t := by
    rw [hon, ha]
    rfl
  cases hc : h.crcOk with
  | false =>
    have hbad := hK.trainCell_bad (h := h) (t := t) hc
    have hrun := c4 hc
    generalize a.trainCell h t = w at c1 c2 hrun hg hbad
    refine answers_tells hs (exec_trainCell s dt h t) (v := w) (r := w.rep) hg hbad fun r told => ⟨(hstep.trans c1).only r, c2.trans hst',
      fun h' => absurd h' Bool.false_ne_true, fun _ => ⟨hrun, told.counts _ List.mem_cons_self⟩,
      fun hd => told.counts _ (List.mem_cons_of_mem _ (hdown hd))⟩
  | true =>
    have hgood := hK.trainCell_good (h := h) (t := t) hc
    obtain ⟨g1, g2⟩ := c3 hc
    generalize a.trainCell h t = w at c1 c2 g1 g2 hg hgood
    refine answers_tells hs (exec_trainCell s dt h t) (v := w) (r := w.rep) hg hgood fun r told => ⟨(hstep.trans c1).only r, c2.trans hst',
      fun _ => ⟨g1, g2.trans hcells⟩, fun h' => absurd h'.symm Bool.false_ne_true, fun hd => told.counts _ (hdown hd)⟩

omit hs in
/-- A link that is not DOWN does not start to train. -/
theorem State.trainCell_run (hl : s.linkOn h.link.val = true) (hd : (s.link h.link.val).st ≠ .down) :
    (if (s.elapse dt).linkOn h.link.val = false then s.elapse dt
      else (if ((s.elapse dt).link h.link.val).st = .down then (s.elapse dt).train h.link.val else s.elapse dt).trainCell h t) =
      (s.elapse dt).trainCell h t := by
  have hon : (s.elapse dt).linkOn h.link.val = true := by rw [← hl, State.elapse_eq]; rfl
  rw [hon, s.elapse_link, if_neg hd]
  rfl

theorem answers_trainCell_up (hl : s.linkOn h.link.val = true) (hst : (s.link h.link.val).st = .up) (hc : h.crcOk = true) :
    Answers (.trainCell dt h t) s (fun u =>
      (u = { s.elapse dt with cs := { s.cs with links := u.cs.links, upLink := u.cs.upLink, relPart := u.cs.relPart }, rep := u.rep } ∧
        ∀ k, k ≠ h.link.val → u.link k = s.link k) ∧
      u.link h.link.val = { s.link h.link.val with lastCell := s.clock + dt, peerActing := h.acting }) := by
  have hg := s.trainCell_run dt h t hl (by rw [hst]; decide)
  have htell := (State.Tells.elapse hs dt).trainCell_good (h := h) (t := t) hc
  have hrow : (s.elapse dt).trainCell h t = ((s.elapse dt).modLink h.link.val (fun v =>
      { v with lastCell := (s.elapse dt).clock, peerActing := h.acting })).refreshUp := by
    unfold State.trainCell
    rw [if_neg (by rw [hc]; exact Bool.false_ne_true.symm), s.elapse_link, hst]
  obtain ⟨h1, h2⟩ := (s.elapse dt).modLink_refreshUp h.link.val (fun v => { v with lastCell := (s.elapse dt).clock, peerActing := h.acting })
  rw [← hrow] at h1 h2
  generalize (s.elapse dt).trainCell h t = w at h1 h2 hg htell
  refine answers_tells hs (exec_trainCell s dt h t) (v := w) (r := w.rep) hg htell fun r told => ⟨h1.only r, ?_⟩
  rw [s.elapse_link, State.elapse_clock] at h2
  exact h2

theorem answers_trainCell_incompatible (hl : s.linkOn h.link.val = true) (hst : (s.link h.link.val).st = .incompatible)
    (hc : h.crcOk = true) : Answers (.trainCell dt h t) s (fun u => u = s.elapse dt) := by
  refine answers_becomes hs (exec_trainCell s dt h t) ((s.trainCell_run dt h t hl (by rw [hst]; decide)).trans ?_) rfl rfl
  unfold State.trainCell
  rw [if_neg (by rw [hc]; exact Bool.false_ne_true.symm), s.elapse_link, hst]

theorem answers_trainCell_bad (hl : s.linkOn h.link.val = true) (hst : (s.link h.link.val).st ≠ .down) (hc : h.crcOk = false) :
    Answers (.trainCell dt h t) s (fun u =>
      (u = { s.elapse dt with cs := { s.cs with links := u.cs.links, upLink := u.cs.upLink, relPart := u.cs.relPart }, rep := u.rep } ∧
        ∀ k, k ≠ h.link.val → u.link k = s.link k) ∧
      u.link h.link.val = { s.link h.link.val with trainRun := 0 } ∧ s.counts u (5952 + 16 * h.link.val) t.n) := by
  have hg := s.trainCell_run dt h t hl hst
  have htell := (State.Tells.elapse hs dt).trainCell_bad (h := h) (t := t) hc
  have hrow : (s.elapse dt).trainCell h t = ((s.elapse dt).modLink h.link.val (fun v =>
      { v with trainRun := 0 })).countN (5952 + 16 * h.link.val) t.n := by
    unfold State.trainCell
    rw [if_pos hc]
  have h1 := (s.elapse dt).linkStep_set h.link.val { (s.elapse dt).link h.link.val with trainRun := 0 }
  have h2 : ((s.elapse dt).modLink h.link.val (fun v => { v with trainRun := 0 })).link h.link.val =
    { (s.elapse dt).link h.link.val with trainRun := 0 } := (s.elapse dt).modLink_link _ _
  rw [s.elapse_link] at h2
  change State.LinkStep _ _ ((s.elapse dt).modLink h.link.val (fun v => { v with trainRun := 0 })) at h1
  generalize (s.elapse dt).modLink h.link.val (fun v => { v with trainRun := 0 }) = b at h1 h2 hrow
  have h3 : State.LinkStep h.link.val (s.elapse dt) (b.countN (5952 + 16 * h.link.val) t.n) := h1.trans ⟨rfl, fun _ _ => rfl⟩
  have h4 : (b.countN (5952 + 16 * h.link.val) t.n).link h.link.val = { s.link h.link.val with trainRun := 0 } := h2
  rw [← hrow] at h3 h4
  generalize (s.elapse dt).trainCell h t = w at h3 h4 hg htell
  exact answers_tells hs (exec_trainCell s dt h t) (v := w) (r := w.rep) hg htell fun r told => ⟨h3.only r, h4, told.counts _ List.mem_cons_self⟩

end

end Sys2Proof.Machine
end

section
/-!
PROOFS. Wilist links: how training ends, and how a link that is UP is lost (R478 to R480, R495).
-/

namespace Sys2Proof.Machine

section
variable {s : State} (hs : s.ready) (dt : Nat) (l : Fin 4)
include hs

/-! ## Training completes -/

omit hs in
theorem exec_wilistTrainingComplete (s : State) (dt : Nat) (l : Fin 4) : exec (.wilistTrainingComplete dt l) s = s.at_ dt (fun u =>
    match (u.link l.val).trained with
    | some t => if u.linkOn l.val && decide ((u.link l.val).st = .training ∨ (u.link l.val).st = .failed) && (u.link l.val).pairFound t then
        u.trained l.val t else u
    | none => u) := rfl

omit hs in
theorem State.elapse_linkOn (s : State) (dt l : Nat) : (s.elapse dt).linkOn l = s.linkOn l := by
  rw [State.elapse_eq]
  rfl

omit hs in
theorem State.elapse_peerReason (s : State) (dt l : Nat) (x : TrainInfo) : (s.elapse dt).peerReason l x = s.peerReason l x := by
  rw [State.elapse_eq]
  rfl

/-- Training does not end while the row of cells or the pair of lanes is wanting. -/
theorem answers_trainingWants {x : TrainInfo} (hx : (s.link l.val).trained = some x)
    (hn : (s.link l.val).trainRun < 8 ∨ (x.lanes % 8 ≠ 3 ∧ x.lanes % 8 ≠ 5 ∧ x.lanes % 8 ≠ 6)) :
    Answers (.wilistTrainingComplete dt l) s (fun t => t = s.elapse dt) := by
  have hpair : (s.link l.val).pairFound x = false := by
    unfold LinkSt.pairFound
    rw [Bool.and_eq_false_iff, decide_eq_false_iff_not, decide_eq_false_iff_not]
    rcases hn with hn | ⟨h3, h5, h6⟩
    · exact .inl (by omega)
    · exact .inr fun h => by
        rcases h with h | h | h
        · exact h3 h
        · exact h5 h
        · exact h6 h
  refine answers_becomes hs (exec_wilistTrainingComplete s dt l) ?_ rfl rfl
  simp only [s.elapse_link, hx, hpair, Bool.and_false]
  rfl

/-- A link whose training has ended (R479, R480). -/
def LinkSt.afterTraining (v : LinkSt) (r : Nat) (t : TrainInfo) (clock : Nat) : LinkSt :=
  { v with
    st := if r = 0 then .up else .incompatible, reason := r, lanes := t.lanes % 8, ver := sharedVer 1 1 t.vmin t.vmax
    peerPos := t.pos, peerMember := t.member, peerPly := t.ply, trained := none, trainRun := 0
    leftUp := if r = 0 then none else v.leftUp, lastCell := clock }

omit hs in
theorem State.trained_spec (a : State) (l : Nat) (t : TrainInfo) : State.LinkStep l a (a.trained l t) ∧
    (a.trained l t).link l = (a.link l).afterTraining (a.peerReason l t) t a.clock := by
  have h1 := a.linkStep_set l ((a.link l).afterTraining (a.peerReason l t) t a.clock)
  have h2 := a.setLink_self l ((a.link l).afterTraining (a.peerReason l t) t a.clock)
  have hrow : a.trained l t = (
      let b := a.setLink l ((a.link l).afterTraining (a.peerReason l t) t a.clock)
      let c := if a.peerReason l t = 0 then b.raise 0x320 else b.raise 0x322
      (if t.lanes / 4 % 2 = 1 then (c.slub 0x0F05 l 0 0).raise 0x323 else c).refreshUp) := rfl
  simp only at hrow
  generalize a.setLink l ((a.link l).afterTraining (a.peerReason l t) t a.clock) = b at h1 h2 hrow
  obtain ⟨c, hc⟩ : ∃ c, (if a.peerReason l t = 0 then b.raise 0x320 else b.raise 0x322) = c := ⟨_, rfl⟩
  have hbc : State.RepOnly b c := by
    rw [← hc]
    split
    · exact (State.RepOnly.refl b).raise _
    · exact (State.RepOnly.refl b).raise _
  rw [hc] at hrow
  obtain ⟨d, hd⟩ : ∃ d, (if t.lanes / 4 % 2 = 1 then (c.slub 0x0F05 l 0 0).raise 0x323 else c) = d := ⟨_, rfl⟩
  have hbd : State.RepOnly b d := by
    rw [← hd]
    split
    · exact hbc.trans rfl
    · exact hbc
  rw [hd] at hrow
  obtain ⟨u1, u2, -⟩ := d.refreshUp_spec l
  rw [hrow]
  refine ⟨(h1.trans (State.linkStep_reports hbd)).trans u1, (u2 l).trans (Eq.trans ?_ h2)⟩
  rw [hbd]
  rfl

omit hs in
theorem State.Tells.trained {a : State} {k : Account} (h : s.Tells k a.rep) (hlive : a.regs.live = s.regs.live) (l : Nat) (t : TrainInfo) :
    ∃ K, s.Tells K (a.trained l t).rep ∧ (a.peerReason l t = 0 → 0x320 ∈ K.srcs) ∧ (a.peerReason l t ≠ 0 → 0x322 ∈ K.srcs) ∧
      (t.lanes / 4 % 2 = 1 → 0x323 ∈ K.srcs ∧ K.slubs = k.slubs ++ [a.slubReq 0x0F05 l 0 0]) := by
  unfold State.trained
  simp only
  generalize hb : State.modLink a l _ = b
  have hbo : b = { a with cs := b.cs } := hb ▸ rfl
  have hbr : b.rep = a.rep := by rw [hbo]
  have hbl : b.regs.live = s.regs.live := by rw [hbo]; exact hlive
  have hreq : b.slubReq 0x0F05 l 0 0 = a.slubReq 0x0F05 l 0 0 := by rw [hbo]; rfl
  rw [← hbr] at h
  obtain ⟨c, hc⟩ : ∃ c, (if a.peerReason l t = 0 then b.raise 0x320 else b.raise 0x322) = c := ⟨_, rfl⟩
  rw [hc]
  obtain ⟨K, hK, hreason, hbc, hslubs⟩ : ∃ K, s.Tells K c.rep ∧
      ((a.peerReason l t = 0 → 0x320 ∈ K.srcs) ∧ (a.peerReason l t ≠ 0 → 0x322 ∈ K.srcs)) ∧ State.RepOnly b c ∧ K.slubs = k.slubs := by
    rw [← hc]
    split
    · rename_i h0
      exact ⟨_, h.raise 0x320 hbl, ⟨fun _ => List.mem_cons_self, fun hn => absurd h0 hn⟩, (State.RepOnly.refl b).raise _, rfl⟩
    · rename_i h0
      exact ⟨_, h.raise 0x322 hbl, ⟨fun hy => absurd hy h0, fun _ => List.mem_cons_self⟩, (State.RepOnly.refl b).raise _, rfl⟩
  have hcl : c.regs.live = s.regs.live := hbc.live.trans hbl
  have hcreq : c.slubReq 0x0F05 l 0 0 = b.slubReq 0x0F05 l 0 0 := by rw [hbc]; rfl
  split
  · have h3 := State.Tells.raise (b := c.slub 0x0F05 l 0 0) (hK.slub 0x0F05 l 0 0) 0x323 hcl
    refine ⟨_, h3.refreshUp, fun h0 => List.mem_cons_of_mem _ (hreason.1 h0), fun h0 => List.mem_cons_of_mem _ (hreason.2 h0),
      fun _ => ⟨List.mem_cons_self, ?_⟩⟩
    show K.slubs ++ [c.slubReq 0x0F05 l 0 0] = _
    rw [hslubs, hcreq, hreq]
  · rename_i hn
    exact ⟨K, hK.refreshUp, hreason.1, hreason.2, fun hy => absurd hy hn⟩

theorem answers_trainingComplete {x : TrainInfo} (hx : (s.link l.val).trained = some x) (hrun : 8 ≤ (s.link l.val).trainRun)
    (hlanes : x.lanes % 8 = 3 ∨ x.lanes % 8 = 5 ∨ x.lanes % 8 = 6) (hon : s.linkOn l.val = true)
    (hst : (s.link l.val).st = .training ∨ (s.link l.val).st = .failed) :
    Answers (.wilistTrainingComplete dt l) s (fun t =>
      (t = { s.elapse dt with cs := { s.cs with links := t.cs.links, upLink := t.cs.upLink, relPart := t.cs.relPart }, rep := t.rep } ∧
        ∀ k, k ≠ l.val → t.link k = s.link k) ∧
      t.link l.val = (s.link l.val).afterTraining (s.peerReason l.val x) x (s.clock + dt) ∧
      (s.peerReason l.val x = 0 → s.raises t 0x320) ∧ (s.peerReason l.val x ≠ 0 → s.raises t 0x322) ∧
      (x.lanes / 4 % 2 = 1 → s.raises t 0x323 ∧ s.logs t 0x0F05 l.val 0 0)) := by
  have hpair : (s.link l.val).pairFound x = true := by
    unfold LinkSt.pairFound
    rw [decide_eq_true hrun, decide_eq_true hlanes]
    rfl
  obtain ⟨h1, h2⟩ := (s.elapse dt).trained_spec l.val x
  obtain ⟨K, htell, hup, hinc, hlane⟩ := (State.Tells.elapse hs dt).trained (a := s.elapse dt) (State.elapse_live ..) l.val x
  have hg : (match ((s.elapse dt).link l.val).trained with
      | some t => if (s.elapse dt).linkOn l.val && decide (((s.elapse dt).link l.val).st = .training ∨ ((s.elapse dt).link l.val).st = .failed) &&
          ((s.elapse dt).link l.val).pairFound t then (s.elapse dt).trained l.val t else s.elapse dt
      | none => s.elapse dt) = (s.elapse dt).trained l.val x := by
    simp only [s.elapse_link, s.elapse_linkOn, hx, hon, decide_eq_true hst, hpair]
    rfl
  rw [s.elapse_link, s.elapse_peerReason, State.elapse_clock] at h2
  rw [s.elapse_peerReason] at hup hinc
  generalize (s.elapse dt).trained l.val x = w at h1 h2 hg htell
  refine answers_tells hs (exec_wilistTrainingComplete s dt l) (v := w) (r := w.rep) hg htell fun r told => ⟨h1.only r, h2,
    fun h0 => told.raises _ (hup h0), fun h0 => told.raises _ (hinc h0), fun hy => ⟨told.raises _ (hlane hy).1, told.logs _ _ _ _ ?_⟩⟩
  rw [(hlane hy).2, h1.rest]
  rfl

/-! ## A link is lost -/

omit hs in
theorem exec_wilistCellTimeout (s : State) (dt : Nat) (l : Fin 4) : exec (.wilistCellTimeout dt l) s = s.at_ dt (fun u =>
    if decide ((u.link l.val).st = .up) && decide (u.clock - (u.link l.val).lastCell ≥ 8000) then u.train l.val else u) := rfl

omit hs in
/-- What the answer of a link that starts training claims. -/
def State.trainsLink (s : State) (dt l : Nat) (t : State) : Prop :=
  (t = { s.elapse dt with cs := { s.cs with links := t.cs.links, upLink := t.cs.upLink, relPart := t.cs.relPart }, rep := t.rep } ∧
    ∀ k, k ≠ l → t.link k = s.link k) ∧
  t.link l = (s.link l).inTraining (s.clock + dt) ∧ s.counts t (5952 + 16 * l + 3) 1 ∧ ∀ e ∈ t.cs.relPart, e.1 / 4096 ≠ l

/-- A row whose meaning is that a link starts training. -/
theorem answers_trains {c : Instr} {g : State → State} (hc : exec c s = s.at_ dt g) (hg : g (s.elapse dt) = (s.elapse dt).train l.val) :
    Answers c s (s.trainsLink dt l.val) := by
  obtain ⟨h1, h2, h3⟩ := (s.elapse dt).train_spec l.val
  have htell := (State.Tells.elapse hs dt).train (a := s.elapse dt) l.val
  rw [s.elapse_link, State.elapse_clock] at h2
  generalize (s.elapse dt).train l.val = w at h1 h2 h3 hg htell
  exact answers_tells hs hc (v := w) (r := w.rep) hg htell fun r told => ⟨h1.only r, h2, told.counts _ List.mem_cons_self, h3⟩

theorem answers_cellTimeout (hst : (s.link l.val).st = .up) (ht : 8000 ≤ s.clock + dt - (s.link l.val).lastCell) :
    Answers (.wilistCellTimeout dt l) s (s.trainsLink dt l.val) := by
  refine answers_trains hs dt l (exec_wilistCellTimeout s dt l) ?_
  simp only [s.elapse_link, State.elapse_clock, decide_eq_true hst, decide_eq_true (p := s.clock + dt - _ ≥ 8000) ht]
  rfl

theorem answers_cellInTime (h : (s.link l.val).st ≠ .up ∨ s.clock + dt - (s.link l.val).lastCell < 8000) :
    Answers (.wilistCellTimeout dt l) s (fun t => t = s.elapse dt) := by
  refine answers_becomes hs (exec_wilistCellTimeout s dt l) (if_neg fun hc => ?_) rfl rfl
  rw [s.elapse_link, State.elapse_clock, Bool.and_eq_true, decide_eq_true_eq, decide_eq_true_eq] at hc
  rcases h with h | h
  · exact h hc.1
  · omega

omit hs in
theorem exec_wilistLinkFailed (s : State) (dt : Nat) (l : Fin 4) : exec (.wilistLinkFailed dt l) s = s.at_ dt (fun u =>
    match (u.link l.val).leftUp with
    | some t => if decide ((u.link l.val).st = .training) && decide (u.clock - t ≥ 100000000) then
        ((u.setLink l.val { u.link l.val with st := .failed }).slub 0x0E02 l.val 0 0).raise 0x321 else u
    | none => u) := rfl

theorem answers_linkFailed {a : Nat} (hst : (s.link l.val).st = .training) (ha : (s.link l.val).leftUp = some a)
    (ht : 100000000 ≤ s.clock + dt - a) : Answers (.wilistLinkFailed dt l) s (fun t =>
      (t = { s.elapse dt with cs := { s.cs with links := t.cs.links, upLink := t.cs.upLink, relPart := t.cs.relPart }, rep := t.rep } ∧
        ∀ k, k ≠ l.val → t.link k = s.link k) ∧
      t.link l.val = { s.link l.val with st := .failed } ∧ s.raises t 0x321 ∧ s.logs t 0x0E02 l.val 0 0) := by
  have h1 := (s.elapse dt).linkStep_set l.val { s.link l.val with st := .failed }
  have h2 := (s.elapse dt).setLink_self l.val { s.link l.val with st := .failed }
  have hrep : ((s.elapse dt).setLink l.val { s.link l.val with st := .failed }).rep = (s.elapse dt).rep := rfl
  have hlive : ((s.elapse dt).setLink l.val { s.link l.val with st := .failed }).regs.live = s.regs.live :=
    congrArg RegSt.live (State.elapse_regs s dt)
  have hg : (match ((s.elapse dt).link l.val).leftUp with
      | some t => if decide (((s.elapse dt).link l.val).st = .training) && decide ((s.elapse dt).clock - t ≥ 100000000) then
          (((s.elapse dt).setLink l.val { (s.elapse dt).link l.val with st := .failed }).slub 0x0E02 l.val 0 0).raise 0x321 else s.elapse dt
      | none => s.elapse dt) = (((s.elapse dt).setLink l.val { s.link l.val with st := .failed }).slub 0x0E02 l.val 0 0).raise 0x321 := by
    simp only [s.elapse_link, ha, State.elapse_clock, decide_eq_true hst, decide_eq_true (p := s.clock + dt - a ≥ 100000000) ht]
    rfl
  have htell := State.Tells.elapse hs dt
  generalize (s.elapse dt).setLink l.val { s.link l.val with st := .failed } = b at h1 h2 hrep hlive hg
  rw [← hrep] at htell
  have h3 := State.Tells.raise (b := b.slub 0x0E02 l.val 0 0) (htell.slub 0x0E02 l.val 0 0) 0x321 hlive
  have hbw : State.RepOnly b ((b.slub 0x0E02 l.val 0 0).raise 0x321) := ((State.RepOnly.refl b).slub _ _ _ _).raise _
  obtain ⟨w, hw⟩ : ∃ w, (b.slub 0x0E02 l.val 0 0).raise 0x321 = w := ⟨_, rfl⟩
  rw [hw] at h3 hbw hg
  refine answers_tells hs (exec_wilistLinkFailed s dt l) (v := b) (r := w.rep) (hg.trans hbw) h3 fun r told => ⟨h1.only r, h2,
    told.raises _ List.mem_cons_self, told.logs _ _ _ _ rfl⟩

/-! ## RETRAIN -/

omit hs in
theorem exec_retrain (s : State) (dt : Nat) (l : Fin 4) (w : Wr) : exec (.retrain dt l w) s = s.at_ dt (fun u =>
    u.wr (0xB840C + 64 * l.val) w (fun u =>
      if bitOf w.data 0 && decide ((u.link l.val).st ≠ .down) then
        if (u.link l.val).st = .failed then
          (u.modLink l.val (fun v => { v with trained := none, trainRun := 0 })).count (5952 + 16 * l.val + 3)
        else u.train l.val
      else u)) := rfl

section
variable {w : Wr} (hw : s.passes (0xB840C + 64 * l.val) w) (hbit : bitOf w.data 0 = true)
include hw

theorem answers_retrain_down (hst : (s.link l.val).st = .down) : Answers (.retrain dt l w) s (fun t => t = s.elapse dt) := by
  refine answers_wr_becomes hs hw (exec_retrain s dt l w) (if_neg ?_) rfl rfl
  rw [s.elapse_link, hst]
  simp

include hbit

theorem answers_retrain_trains (hd : (s.link l.val).st ≠ .down) (hf : (s.link l.val).st ≠ .failed) :
    Answers (.retrain dt l w) s (s.trainsLink dt l.val) := by
  refine answers_trains hs dt l (exec_retrain s dt l w) ?_
  rw [State.wr_pass ((State.wrReason_elapse hs.2.2 dt _ w).trans hw), s.elapse_link, if_pos (by rw [hbit, decide_eq_true hd]; rfl), if_neg hf]

theorem answers_retrain_failed (hst : (s.link l.val).st = .failed) : Answers (.retrain dt l w) s (fun t =>
      (t = { s.elapse dt with cs := { s.cs with links := t.cs.links, upLink := t.cs.upLink, relPart := t.cs.relPart }, rep := t.rep } ∧
        ∀ k, k ≠ l.val → t.link k = s.link k) ∧
      t.link l.val = { s.link l.val with trained := none, trainRun := 0 } ∧ s.counts t (5952 + 16 * l.val + 3) 1) := by
  obtain ⟨b, hb⟩ : ∃ b, (s.elapse dt).modLink l.val (fun v => { v with trained := none, trainRun := 0 }) = b := ⟨_, rfl⟩
  have h1 : State.LinkStep l.val (s.elapse dt) b := hb ▸ (s.elapse dt).linkStep_set l.val _
  have h2 : b.link l.val = { s.link l.val with trained := none, trainRun := 0 } := by
    rw [← hb, State.modLink_link, s.elapse_link]
  have hrep : b.rep = (s.elapse dt).rep := hb ▸ rfl
  obtain ⟨z, hz⟩ : ∃ z, b.count (5952 + 16 * l.val + 3) = z := ⟨_, rfl⟩
  have hg : (if bitOf w.data 0 && decide (((s.elapse dt).link l.val).st ≠ .down) then
        if ((s.elapse dt).link l.val).st = .failed then
          ((s.elapse dt).modLink l.val (fun v => { v with trained := none, trainRun := 0 })).count (5952 + 16 * l.val + 3)
        else (s.elapse dt).train l.val
      else s.elapse dt) = z := by
    rw [s.elapse_link, hst, if_pos (by rw [hbit]; rfl), if_pos rfl, hb, hz]
  have htell := State.Tells.elapse hs dt
  rw [← hrep] at htell
  have hbz : State.RepOnly b z := hz ▸ (State.RepOnly.refl b).count _
  exact answers_wr_tells hs hw (exec_retrain s dt l w) (v := b) (r := z.rep) (hg.trans hbz) (hz ▸ htell.count _) fun r told =>
    ⟨h1.only r, h2, told.counts _ List.mem_cons_self⟩

end

end

end Sys2Proof.Machine
end

section
/-!
PROOFS. What a device sends over its Wilist links: doorbells of other positions and the cells of the slots (R482 to R489, R495).
-/

namespace Sys2Proof.Machine

/-! ## Cells that leave -/

/-- From a to b cells leave, and nothing else changes. -/
structure State.SendsCells (a b : State) : Prop where
  rest : b = { a with rep := b.rep }
  grows : Rep.Grows a.rep b.rep
  whOld : b.rep.whOld = a.rep.whOld

section
variable {a b c s u : State} {k : Account}

theorem State.SendsCells.refl (a : State) : State.SendsCells a a := ⟨rfl, .refl _, rfl⟩

theorem State.SendsCells.trans (h : State.SendsCells a b) (g : State.SendsCells b c) : State.SendsCells a c :=
  ⟨by rw [g.rest, h.rest], h.grows.trans g.grows, g.whOld.trans h.whOld⟩

theorem State.sendCell_cells (a : State) (l : Nat) (x : CellOut) : State.SendsCells a (a.sendCell l x) :=
  ⟨rfl, a.emit_grows _, (a.emit_same _).whOld⟩

theorem State.count_cells (a : State) (i : Nat) : State.SendsCells a (a.count i) := ⟨rfl, a.countN_grows i 1, (a.countN_same i 1).whOld⟩

/-- A list of steps keeps what each step keeps. -/
theorem foldl_keeps {α β : Type} {f : β → α → β} {R : β → β → Prop} (hrefl : ∀ a, R a a) (htrans : ∀ {a b c}, R a b → R b c → R a c)
    (hf : ∀ a x, R a (f a x)) (l : List α) (a : β) : R a (l.foldl f a) := by
  induction l generalizing a with
  | nil => exact hrefl a
  | cons x l ih => exact htrans (hf a x) (ih _)

/-- What the step of one unit of a list brings about stays to the end, where the others take nothing back. -/
theorem foldl_reaches {α : Type} {f : State → α → State} {P : State → Prop} (hf : ∀ a x, State.SendsCells a (f a x))
    (hmono : ∀ a b, State.SendsCells a b → P a → P b) {l : List α} {x : α} (hx : x ∈ l) (hP : ∀ a, State.SendsCells u a → P (f a x)) :
    P (l.foldl f u) := by
  obtain ⟨l1, l2, rfl⟩ := List.append_of_mem hx
  rw [List.foldl_append, List.foldl_cons]
  exact hmono _ _ (foldl_keeps .refl .trans hf l2 _) (hP _ (foldl_keeps .refl .trans hf l1 u))

theorem State.Hears.cells (h : s.Hears k a.rep) (g : State.SendsCells a b) : s.Hears k b.rep := h.mono g.grows g.whOld

theorem finOf_val {n : Nat} (h : 0 < n) (l : Fin n) : finOf n h l.val = l := Fin.ext (Nat.mod_eq_of_lt l.isLt)

/-- A cell that leaves is heard, whatever has left before it. -/
theorem State.Hears.sendCell (h : s.Hears k u.rep) (g : State.SendsCells u a) (l : Fin 4) (x : CellOut) :
    s.Hears { k with outs := .cell l (u.cellHead l.val) x :: k.outs } (a.sendCell l.val x).rep := by
  have hhead : a.cellHead l.val = u.cellHead l.val := by
    rw [g.rest]
    rfl
  unfold State.sendCell
  rw [finOf_val, hhead]
  exact (h.cells g).emit _

/-! ## Doorbells of other positions (R495) -/

/-- A link after a MGMT message joins its queue (R482). -/
def LinkSt.withMgmt (v : LinkSt) (m : MgmtBody) : LinkSt :=
  { v with seqOut := (v.seqOut + 1) % 256, mgmt := v.mgmt ++ [{ seq := (v.seqOut + 1) % 256, body := m, sent := true }] }

/-- From a to b messages join the queues of links. -/
def State.Queues (a b : State) : Prop :=
  b = { a with cs := { a.cs with links := b.cs.links }, rep := b.rep } ∧ Rep.Grows a.rep b.rep ∧ b.rep.whOld = a.rep.whOld

theorem State.Queues.trans (h : State.Queues a b) (g : State.Queues b c) : State.Queues a c := by
  obtain ⟨h1, h2, h3⟩ := h
  obtain ⟨g1, g2, g3⟩ := g
  exact ⟨by rw [g1, h1], h2.trans g2, g3.trans h3⟩

theorem State.sendMgmt_queues (a : State) (l : Nat) (m : MgmtBody) : State.Queues a (a.sendMgmt l m) :=
  ⟨rfl, State.emit_grows (a.setLink l ((a.link l).withMgmt m)) _, (State.emit_same (a.setLink l ((a.link l).withMgmt m)) _).whOld⟩

theorem State.sendMgmt_self (a : State) (l : Nat) (m : MgmtBody) : (a.sendMgmt l m).link l = (a.link l).withMgmt m := a.setLink_self l _

theorem State.sendMgmt_ne (a : State) {j l : Nat} (m : MgmtBody) (h : j ≠ l) : (a.sendMgmt l m).link j = a.link j := a.setLink_ne _ h

theorem State.Hears.sendMgmt (h : s.Hears k a.rep) (l : Fin 4) (m : MgmtBody) :
    s.Hears { k with outs := .cell l (a.cellHead l.val) (.mgmt (((a.link l.val).seqOut + 1) % 256) m) :: k.outs }
      (a.sendMgmt l.val m).rep := by
  have hb : s.Hears k (a.setLink l.val ((a.link l.val).withMgmt m)).rep := h
  have hhead : (a.setLink l.val ((a.link l.val).withMgmt m)).cellHead l.val = a.cellHead l.val := by
    unfold State.cellHead
    rw [State.setLink_self]
    rfl
  have := hb.sendCell (.refl _) l (.mgmt (((a.link l.val).seqOut + 1) % 256) m)
  rw [hhead] at this
  exact this

/-- Messages join the queues of the links of a list, each once. -/
theorem State.foldl_sendMgmt (m : MgmtBody) {ls : List Nat} (hls : ls.Nodup) (a : State) :
    State.Queues a (ls.foldl (fun (a : State) l => a.sendMgmt l m) a) ∧
    (∀ j, j ∉ ls → (ls.foldl (fun (a : State) l => a.sendMgmt l m) a).link j = a.link j) ∧
    (∀ l ∈ ls, (ls.foldl (fun (a : State) l => a.sendMgmt l m) a).link l = (a.link l).withMgmt m) ∧
    ∀ l : Fin 4, l.val ∈ ls → ∀ K, s.Hears K a.rep →
      s.Hears { K with outs := .cell l (a.cellHead l.val) (.mgmt (((a.link l.val).seqOut + 1) % 256) m) :: K.outs }
        (ls.foldl (fun (a : State) l => a.sendMgmt l m) a).rep := by
  have hq : ∀ (l : List Nat) (a : State), State.Queues a (l.foldl (fun (a : State) l => a.sendMgmt l m) a) :=
    foldl_keeps (fun a => ⟨rfl, .refl _, rfl⟩) .trans fun a l => a.sendMgmt_queues l m
  obtain ⟨h1, h2, -⟩ := foldl_units (get := State.link) (f := fun (a : State) l => a.sendMgmt l m) (I := fun _ => True)
    (Q := fun _ v w => w = v.withMgmt m) (fun a l j hj => a.sendMgmt_ne m hj) (fun _ _ h => h) (fun a l _ => a.sendMgmt_self l m) ls hls a trivial
  refine ⟨hq ls a, h2, h1, fun l hl K hK => ?_⟩
  obtain ⟨l1, l2, rfl⟩ := List.append_of_mem hl
  have hnot : l.val ∉ l1 := fun h => (List.nodup_append.1 hls).2.2 _ h _ List.mem_cons_self rfl
  obtain ⟨-, g2, -⟩ := foldl_units (get := State.link) (f := fun (a : State) l => a.sendMgmt l m) (I := fun _ => True)
    (Q := fun _ _ _ => True) (fun a l j hj => a.sendMgmt_ne m hj) (fun _ _ h => h) (fun _ _ _ => trivial) l1 (List.nodup_append.1 hls).1 a trivial
  have hlink := g2 l.val hnot
  obtain ⟨q1, q2, q3⟩ := hq l1 a
  rw [List.foldl_append, List.foldl_cons]
  generalize l1.foldl (fun (a : State) l => a.sendMgmt l m) a = b at hlink q1 q2 q3
  have hhead : b.cellHead l.val = a.cellHead l.val := by
    unfold State.cellHead
    rw [hlink, q1]
    rfl
  have hsend := (hK.mono q2 q3).sendMgmt l m
  rw [hlink, hhead] at hsend
  obtain ⟨-, r2, r3⟩ := hq l2 (b.sendMgmt l.val m)
  exact hsend.mono r2 r3

end

/-- A register whose fields are all of type RWI is stored at once (R380). -/
theorem State.storeFields_atOnce (u : State) (off : Nat) (w : Wr) {d : RegDef} (hrw : d.maskOf (fun t => decide (t = .rw)) = 0)
    (hwm : d.maskOf (fun t => decide (t = .wm)) = 0) : ∃ x, u.storeFields off w d = { u with regs := { u.regs with rwi := x } } := by
  unfold State.storeFields
  simp only [hrw, hwm]
  rw [show u.guardMask off &&& 0 = 0 from BitVec.and_zero, show (0 : Word) &&& ~~~0 = 0 from BitVec.zero_and]
  have h1 : ∀ (u : State) p, u.storeGuarded off p 0 = u := fun _ _ => rfl
  have h2 : ∀ (u : State) v, u.storeShadow off 0 v = u := fun _ _ => rfl
  have h3 : ∀ (u : State) v, u.storePosted off 0 v = u := fun u v => if_neg (by simp)
  have h4 : ∀ (u : State) v, u.storeMasked off 0 v = u := fun _ _ => rfl
  rw [h1, h2, h3, h4]
  unfold State.storeAtOnce
  split
  · exact ⟨_, rfl⟩
  · exact ⟨_, rfl⟩

theorem State.regStore_doorbell (u : State) (w : Wr) : ∃ x, u.regStore 0xB8030 w = { u with regs := { u.regs with rwi := x } } := by
  obtain ⟨d, hd, hrw, hwm⟩ : ∃ d, regAt 0xB8030 = some (d, []) ∧ d.maskOf (fun t => decide (t = .rw)) = 0 ∧
      d.maskOf (fun t => decide (t = .wm)) = 0 :=
    ⟨⟨0xB8030, [], .none, [⟨0, 10, .rwi, 0⟩, ⟨10, 4, .rwi, 0⟩, ⟨16, 1, .cmd, 0⟩]⟩, by decide, by decide, by decide⟩
  rw [State.regStore_plain (by decide) (by decide) (.inl (by decide)) hd, if_neg (by decide)]
  exact u.storeFields_atOnce _ w hrw hwm

section
variable {s : State} (hs : s.ready) (dt : Nat) (l : Fin 4)

theorem exec_csPeerdbGo (s : State) (dt : Nat) (w : Wr) : exec (.csPeerdbGo dt w) s = s.at_ dt (fun u => u.wr 0xB8030 w (fun u =>
    if bitOf w.data 16 then
      ((List.range 4).filter (fun l => bitOf w.data (10 + l) && (u.regStore 0xB8030 w).linkIsUp l)).foldl
        (fun (a : State) l => a.sendMgmt l (.doorbell (fieldOf w.data 0 10))) (u.regStore 0xB8030 w)
    else u.regStore 0xB8030 w)) := rfl

include hs

theorem answers_csPeerdbGo {w : Wr} (hw : s.passes 0xB8030 w) (hbit : bitOf w.data 16 = true) : Answers (.csPeerdbGo dt w) s (fun t =>
    t = { s.elapse dt with cs := { s.cs with links := t.cs.links }, regs := { s.regs with rwi := t.regs.rwi }, rep := t.rep } ∧
    (bitOf w.data (10 + l.val) = true → (s.link l.val).st = .up →
      s.putsOut t (.cell l (s.cellHead l.val) (.mgmt (((s.link l.val).seqOut + 1) % 256) (.doorbell (fieldOf w.data 0 10)))) ∧
      t.link l.val = (s.link l.val).withMgmt (.doorbell (fieldOf w.data 0 10))) ∧
    (bitOf w.data (10 + l.val) = false ∨ (s.link l.val).st ≠ .up → t.link l.val = s.link l.val)) := by
  obtain ⟨x, hx⟩ := (s.elapse dt).regStore_doorbell w
  obtain ⟨u, hu⟩ : ∃ u, (s.elapse dt).regStore 0xB8030 w = u := ⟨_, rfl⟩
  rw [hu] at hx
  obtain ⟨ls, hls⟩ : ∃ ls, (List.range 4).filter (fun l => bitOf w.data (10 + l) && u.linkIsUp l) = ls := ⟨_, rfl⟩
  have hg : (if bitOf w.data 16 then
      ((List.range 4).filter (fun l => bitOf w.data (10 + l) && ((s.elapse dt).regStore 0xB8030 w).linkIsUp l)).foldl
        (fun (a : State) l => a.sendMgmt l (.doorbell (fieldOf w.data 0 10))) ((s.elapse dt).regStore 0xB8030 w)
    else (s.elapse dt).regStore 0xB8030 w) = ls.foldl (fun (a : State) l => a.sendMgmt l (.doorbell (fieldOf w.data 0 10))) u := by
    rw [if_pos hbit, hu, hls]
  have hnd : ls.Nodup := hls ▸ List.nodup_range.filter _
  have hlink : ∀ k, u.link k = s.link k := fun k => by
    rw [hx]
    exact s.elapse_link dt k
  have hhead : u.cellHead l.val = s.cellHead l.val := by
    rw [hx, State.elapse_eq]
    rfl
  have hmem : l.val ∈ ls ↔ bitOf w.data (10 + l.val) = true ∧ (s.link l.val).st = .up := by
    rw [← hls, List.mem_filter, List.mem_range, Bool.and_eq_true]
    unfold State.linkIsUp
    rw [hlink, decide_eq_true_eq]
    exact ⟨fun h => h.2, fun h => ⟨l.isLt, h⟩⟩
  have hstart : s.Hears {} u.rep := by
    rw [hx]
    exact .start hs dt
  obtain ⟨⟨q1, q2, q3⟩, f2, f3, f4⟩ := State.foldl_sendMgmt (s := s) (.doorbell (fieldOf w.data 0 10)) hnd u
  generalize ls.foldl (fun (a : State) l => a.sendMgmt l (.doorbell (fieldOf w.data 0 10))) u = v at hg q1 q2 q3 f2 f3 f4
  have hrest : ∀ r, ({ v with rep := r } : State) = { s.elapse dt with
      cs := { s.cs with links := v.cs.links }, regs := { s.regs with rwi := v.regs.rwi }, rep := r } := fun r => by
    rw [q1, hx, State.elapse_eq]
  have hrun := (State.wr_pass (f := fun u => if bitOf w.data 16 then
      ((List.range 4).filter (fun l => bitOf w.data (10 + l) && (u.regStore 0xB8030 w).linkIsUp l)).foldl
        (fun (a : State) l => a.sendMgmt l (.doorbell (fieldOf w.data 0 10))) (u.regStore 0xB8030 w)
    else u.regStore 0xB8030 w) ((State.wrReason_elapse hs.2.2 dt 0xB8030 w).trans hw)).trans hg
  by_cases hl : l.val ∈ ls
  · have hout := f4 l hl _ hstart
    rw [hlink, hhead] at hout
    refine answers_hears hs (exec_csPeerdbGo s dt w) hrun hout fun r heard => ⟨hrest r, fun _ _ => ⟨heard.outs _ List.mem_cons_self, ?_⟩, fun h => ?_⟩
    · exact (f3 _ hl).trans (by rw [hlink])
    · obtain ⟨h1, h2⟩ := hmem.1 hl
      rcases h with h | h
      · rw [h1] at h
        cases h
      · exact absurd h2 h
  · refine answers_hears hs (exec_csPeerdbGo s dt w) hrun (hstart.mono q2 q3) fun r heard => ⟨hrest r, fun h1 h2 => absurd (hmem.2 ⟨h1, h2⟩) hl, fun _ => ?_⟩
    exact (f2 _ hl).trans (hlink _)

end

end Sys2Proof.Machine
end

section
/-!
PROOFS. The slots of the Wilist: TIME, AGREE, HEART, RELAY and MGMT entries (R482 to R489, R456, R440).
-/

namespace Sys2Proof.Machine

/-! ## TIME, AGREE, HEART and MGMT entries -/

section
variable {a s u : State} {k : Account}

theorem State.toPly_cells (a : State) (x : CellOut) : State.SendsCells a (a.toPly x) :=
  foldl_keeps .refl .trans (fun a l => a.sendCell_cells l x) _ a

theorem State.Hears.toPly (h : s.Hears k a.rep) (l : Fin 4) (hl : a.plyLink l.val = true ∧ (a.link l.val).st = .up) (x : CellOut) :
    s.Hears { k with outs := .cell l (a.cellHead l.val) x :: k.outs } (a.toPly x).rep := by
  have hlt : l.val < 2 := of_decide_eq_true (Bool.and_eq_true_iff.1 hl.1).2
  have hmem : l.val ∈ a.plyUp := by
    unfold State.plyUp State.linkIsUp
    rw [List.mem_filter, hl.1, decide_eq_true hl.2]
    refine ⟨?_, rfl⟩
    simp only [List.mem_cons, List.not_mem_nil, or_false]
    omega
  exact foldl_reaches (P := fun b => s.Hears { k with outs := .cell l (a.cellHead l.val) x :: k.outs } b.rep)
    (fun a j => a.sendCell_cells j x) (fun _ _ g h => h.cells g) hmem fun b g => h.sendCell g l x

theorem State.sendTime_cells (a : State) : State.SendsCells a a.sendTime :=
  foldl_keeps .refl .trans (fun a l => a.sendCell_cells l _) _ a

theorem State.mem_linksUp (l : Fin 4) (hl : (a.link l.val).st = .up) : l.val ∈ links.filter (fun l => a.linkIsUp l) := by
  unfold State.linkIsUp
  rw [List.mem_filter, decide_eq_true hl]
  refine ⟨?_, rfl⟩
  unfold links
  simp only [List.mem_cons, List.not_mem_nil, or_false]
  omega

theorem State.Hears.sendTime (h : s.Hears k a.rep) (l : Fin 4) (hl : (a.link l.val).st = .up) :
    s.Hears { k with outs := .cell l (a.cellHead l.val) (.time a.now a.tm.turn (a.link l.val).lastTx
      (if (a.link l.val).lastTx = 0 then 0 else (a.now - (a.link l.val).lastRx).toNat % 2 ^ 32)) :: k.outs } a.sendTime.rep := by
  obtain ⟨o, ho⟩ : ∃ o : Output, .cell l (a.cellHead l.val) (.time a.now a.tm.turn (a.link l.val).lastTx
      (if (a.link l.val).lastTx = 0 then 0 else (a.now - (a.link l.val).lastRx).toNat % 2 ^ 32)) = o := ⟨_, rfl⟩
  rw [ho]
  refine foldl_reaches (P := fun b => s.Hears { k with outs := o :: k.outs } b.rep)
    (fun a j => a.sendCell_cells j _) (fun _ _ g h => h.cells g) (State.mem_linksUp l hl) fun b g => ?_
  have := h.sendCell g l (.time b.now b.tm.turn (b.link l.val).lastTx
    (if (b.link l.val).lastTx = 0 then 0 else (b.now - (b.link l.val).lastRx).toNat % 2 ^ 32))
  rw [← ho, g.rest]
  rw [g.rest] at this
  exact this

theorem State.resendMgmt_step (a : State) (l : Nat) (m : MgmtOut) :
    State.SendsCells a ((if m.sent then a.count (5952 + 16 * l + 2) else a).sendCell l (.mgmt m.seq m.body)) := by
  refine .trans ?_ (State.sendCell_cells _ _ _)
  split
  · exact a.count_cells _
  · exact .refl a

theorem State.resendMgmt_cells (a : State) (l n : Nat) : State.SendsCells a (a.resendMgmt l n) :=
  foldl_keeps .refl .trans (fun a m => a.resendMgmt_step l m) _ a

theorem State.Hears.resendMgmt (h : s.Hears k u.rep) (g : State.SendsCells u a) (l : Fin 4) (n : Nat) {m : MgmtOut}
    (hm : m ∈ (u.link l.val).mgmt.take n) :
    s.Hears { k with outs := .cell l (u.cellHead l.val) (.mgmt m.seq m.body) :: k.outs } (a.resendMgmt l.val n).rep := by
  have hlist : (a.link l.val).mgmt = (u.link l.val).mgmt := by
    rw [g.rest]
    rfl
  unfold State.resendMgmt
  rw [hlist]
  refine foldl_reaches (P := fun b => s.Hears { k with outs := .cell l (u.cellHead l.val) (.mgmt m.seq m.body) :: k.outs } b.rep)
    (fun a m => a.resendMgmt_step l.val m) (fun _ _ g h => h.cells g) hm fun b hb => ?_
  refine h.sendCell (g.trans (hb.trans ?_)) l _
  split
  · exact b.count_cells _
  · exact .refl b

end

/-! ## A slot starts -/

/-- What an entry of the slot table sends (R483). -/
def State.slotStart (s : State) (slot : Nat) : State :=
  let e := s.live (0xB8100 + 4 * slot)
  if s.reached (s.offsetAt (fieldOf e 4 14)) = false then s
  else if fieldOf e 0 3 = 1 then s.sendTime
  else if fieldOf e 0 3 = 2 then s.sendAgree
  else if fieldOf e 0 3 = 3 then s.sendHeart
  else if fieldOf e 0 3 = 4 then s.sendRelay (fieldOf e 20 12)
  else if fieldOf e 0 3 = 5 then s.sendMgmtSlot (fieldOf e 20 12)
  else s

theorem exec_wilistSlotStart (s : State) (dt : Nat) (slot : Fin 32) :
    exec (.wilistSlotStart dt slot) s = s.at_ dt (fun u => u.slotStart slot.val) := rfl

theorem State.elapse_plyLink (s : State) (dt l : Nat) : (s.elapse dt).plyLink l = s.plyLink l := by
  rw [State.elapse_eq]
  rfl

theorem State.elapse_cellHead (s : State) (dt l : Nat) : (s.elapse dt).cellHead l = s.cellHead l := by
  rw [State.elapse_eq]
  rfl

section
variable {a : State}

theorem State.sendAgree_taps (hrun : a.dev.st = .run) (hcap : a.tm.capDone = true) (hagree : a.tm.agreeDone = false)
    (hsent : a.pl.sentAgree = false) :
    a.sendAgree = ({ a with pl := { a.pl with sentAgree := true } } : State).toPly (.agree a.ownAgree.taps a.ownAgree.comps) := by
  unfold State.sendAgree
  rw [if_neg (not_not.2 hrun), if_pos (by rw [hcap, hagree, hsent]; rfl)]

theorem State.sendAgree_outs (hrun : a.dev.st = .run) (hagree : a.tm.agreeDone = true) (heval : a.evalComplete = true)
    (hrel : a.tm.releaseDone = false) (hsent : a.pl.sentOuts = false) :
    a.sendAgree = ({ a with pl := { a.pl with sentOuts := true } } : State).toPly (.outputs a.ownOuts) := by
  unfold State.sendAgree
  rw [if_neg (not_not.2 hrun), if_neg (by rw [hagree, Bool.not_true, Bool.and_false, Bool.false_and]; exact Bool.false_ne_true),
    if_pos (by rw [heval, hrel, hsent]; rfl)]

theorem State.sendAgree_idle (h : a.dev.st ≠ .run ∨ (a.tm.capDone = false ∧ a.evalComplete = false)) : a.sendAgree = a := by
  unfold State.sendAgree
  rcases h with h | ⟨h1, h2⟩
  · exact if_pos h
  · rw [h1, h2]
    simp only [Bool.false_and]
    exact ite_self _

end

section
variable {s : State} (hs : s.ready) (dt : Nat) (slot : Fin 32) (l : Fin 4)

theorem State.slotStart_idle (h : ¬(s.elapse dt).reached (s.offsetAt (fieldOf (s.live (0xB8100 + 4 * slot.val)) 4 14)) = true ∨
    fieldOf (s.live (0xB8100 + 4 * slot.val)) 0 3 = 0 ∨ 6 ≤ fieldOf (s.live (0xB8100 + 4 * slot.val)) 0 3) :
    (s.elapse dt).slotStart slot.val = s.elapse dt := by
  have hlive : (s.elapse dt).live (0xB8100 + 4 * slot.val) = s.live (0xB8100 + 4 * slot.val) := by rw [State.elapse_eq]; rfl
  have hoff : ∀ us, (s.elapse dt).offsetAt us = s.offsetAt us := fun us => by rw [State.elapse_eq]; rfl
  unfold State.slotStart
  simp only [hlive, hoff]
  generalize fieldOf (s.live (0xB8100 + 4 * slot.val)) 0 3 = kind at h ⊢
  rcases h with h | h
  · rw [if_pos (Bool.not_eq_true _ ▸ h)]
  · rw [if_neg (show kind ≠ 1 by omega), if_neg (show kind ≠ 2 by omega), if_neg (show kind ≠ 3 by omega), if_neg (show kind ≠ 4 by omega),
      if_neg (show kind ≠ 5 by omega), ite_self]

variable (hdue : (s.elapse dt).reached (s.offsetAt (fieldOf (s.live (0xB8100 + 4 * slot.val)) 4 14)) = true) {kind : Nat}
  (hkind : fieldOf (s.live (0xB8100 + 4 * slot.val)) 0 3 = kind)

include hdue hkind

theorem State.slotStart_due : (s.elapse dt).slotStart slot.val =
    if kind = 1 then (s.elapse dt).sendTime
    else if kind = 2 then (s.elapse dt).sendAgree
    else if kind = 3 then (s.elapse dt).sendHeart
    else if kind = 4 then (s.elapse dt).sendRelay (fieldOf (s.live (0xB8100 + 4 * slot.val)) 20 12)
    else if kind = 5 then (s.elapse dt).sendMgmtSlot (fieldOf (s.live (0xB8100 + 4 * slot.val)) 20 12)
    else s.elapse dt := by
  have hlive : (s.elapse dt).live (0xB8100 + 4 * slot.val) = s.live (0xB8100 + 4 * slot.val) := by rw [State.elapse_eq]; rfl
  have hoff : ∀ us, (s.elapse dt).offsetAt us = s.offsetAt us := fun us => by rw [State.elapse_eq]; rfl
  unfold State.slotStart
  simp only [hlive, hoff, hkind]
  rw [if_neg (by rw [hdue]; exact Bool.false_ne_true.symm)]

end

section
variable {s : State} (hs : s.ready) (dt : Nat) (slot : Fin 32) (l : Fin 4)
  (hdue : (s.elapse dt).reached (s.offsetAt (fieldOf (s.live (0xB8100 + 4 * slot.val)) 4 14)) = true)
include hs hdue

/-- A TIME entry (R486). -/
theorem answers_timeSlot (hkind : fieldOf (s.live (0xB8100 + 4 * slot.val)) 0 3 = 1) : Answers (.wilistSlotStart dt slot) s (fun t =>
    t = { s.elapse dt with rep := t.rep } ∧ ((s.link l.val).st = .up → s.putsOut t (.cell l (s.cellHead l.val)
      (.time t.now t.tm.turn (s.link l.val).lastTx
        (if (s.link l.val).lastTx = 0 then 0 else (t.now - (s.link l.val).lastRx).toNat % 2 ^ 32))))) := by
  have hg := (State.slotStart_due dt slot hdue hkind).trans (if_pos rfl)
  have h1 := (s.elapse dt).sendTime_cells
  have hstart := State.Hears.start hs dt
  by_cases hup : (s.link l.val).st = .up
  · have h2 := hstart.sendTime l (by rw [s.elapse_link]; exact hup)
    rw [s.elapse_link, s.elapse_cellHead] at h2
    generalize (s.elapse dt).sendTime = w at h1 h2 hg
    refine answers_hears hs (exec_wilistSlotStart s dt slot) hg h2 fun r heard => ⟨by rw [h1.rest], fun _ => ?_⟩
    have hout := heard.outs _ List.mem_cons_self
    rw [h1.rest]
    exact hout
  · have h2 := hstart.cells h1
    generalize (s.elapse dt).sendTime = w at h1 h2 hg
    exact answers_hears hs (exec_wilistSlotStart s dt slot) hg h2 fun r heard => ⟨by rw [h1.rest], fun h => absurd h hup⟩

omit hdue in
/-- A row that sends one cell on the links of the ply. -/
theorem answers_toPly {c : Instr} {g : State → State} {p : PlySt} {x : CellOut} (hc : exec c s = s.at_ dt g)
    (hg : g (s.elapse dt) = ({ s.elapse dt with pl := p } : State).toPly x) (hrole : p.role = s.pl.role) :
    Answers c s (fun t => t = { s.elapse dt with pl := p, rep := t.rep } ∧
      (s.plyLink l.val = true ∧ (s.link l.val).st = .up → s.putsOut t (.cell l (s.cellHead l.val) x))) := by
  obtain ⟨u, hu⟩ : ∃ u : State, { s.elapse dt with pl := p } = u := ⟨_, rfl⟩
  have hstart : s.Hears {} u.rep := by
    rw [← hu]
    exact .start hs dt
  have hlink : u.link l.val = s.link l.val := by
    rw [← hu]
    exact s.elapse_link dt l.val
  have hply : u.plyLink l.val = s.plyLink l.val := by
    rw [← hu]
    exact s.elapse_plyLink dt l.val
  have hhead : u.cellHead l.val = s.cellHead l.val := by
    rw [← s.elapse_cellHead dt l.val, ← hu]
    have hpl : (s.elapse dt).pl = s.pl := by rw [State.elapse_eq]
    unfold State.cellHead State.acts
    simp only [hrole, hpl]
    rfl
  rw [hu] at hg
  have h1 := u.toPly_cells x
  by_cases hup : s.plyLink l.val = true ∧ (s.link l.val).st = .up
  · have h2 := hstart.toPly l (by rw [hlink, hply]; exact hup) x
    rw [hhead] at h2
    generalize u.toPly x = w at h1 h2 hg
    exact answers_hears hs hc hg h2 fun r heard => ⟨by rw [h1.rest, ← hu], fun _ => heard.outs _ List.mem_cons_self⟩
  · have h2 := hstart.cells h1
    generalize u.toPly x = w at h1 h2 hg
    exact answers_hears hs hc hg h2 fun r heard => ⟨by rw [h1.rest, ← hu], fun h => absurd h hup⟩

/-- An AGREE entry in the agreement window (R456). -/
theorem answers_agreeSlot (hkind : fieldOf (s.live (0xB8100 + 4 * slot.val)) 0 3 = 2) (hrun : s.dev.st = .run) (hcap : s.tm.capDone = true)
    (hagree : s.tm.agreeDone = false) (hsent : s.pl.sentAgree = false) : Answers (.wilistSlotStart dt slot) s (fun t =>
      t = { s.elapse dt with pl := { s.pl with sentAgree := true }, rep := t.rep } ∧
      (s.plyLink l.val = true ∧ (s.link l.val).st = .up → s.putsOut t (.cell l (s.cellHead l.val)
        (.agree (s.elapse dt).ownAgree.taps (s.elapse dt).ownAgree.comps)))) := by
  refine answers_toPly hs dt l (exec_wilistSlotStart s dt slot) ((State.slotStart_due dt slot hdue hkind).trans ((if_neg (by decide)).trans ?_)) rfl
  obtain ⟨hdev, htm, hpl⟩ : (s.elapse dt).dev = s.dev ∧ (s.elapse dt).tm = s.tm ∧ (s.elapse dt).pl = s.pl := by
    rw [State.elapse_eq]
    exact ⟨rfl, rfl, rfl⟩
  rw [if_pos rfl, State.sendAgree_taps (hdev ▸ hrun) (htm ▸ hcap) (htm ▸ hagree) (hpl ▸ hsent), hpl]

omit hs hdue in
theorem State.elapse_evalComplete (s : State) (dt : Nat) : (s.elapse dt).evalComplete = s.evalComplete := by
  rw [State.elapse_eq]
  rfl

/-- One after the evaluation is complete. -/
theorem answers_outputsSlot (hkind : fieldOf (s.live (0xB8100 + 4 * slot.val)) 0 3 = 2) (hrun : s.dev.st = .run)
    (hagree : s.tm.agreeDone = true) (heval : s.evalComplete = true) (hrel : s.tm.releaseDone = false) (hsent : s.pl.sentOuts = false) :
    Answers (.wilistSlotStart dt slot) s (fun t =>
      t = { s.elapse dt with pl := { s.pl with sentOuts := true }, rep := t.rep } ∧
      (s.plyLink l.val = true ∧ (s.link l.val).st = .up → s.putsOut t (.cell l (s.cellHead l.val) (.outputs (s.elapse dt).ownOuts)))) := by
  refine answers_toPly hs dt l (exec_wilistSlotStart s dt slot) ((State.slotStart_due dt slot hdue hkind).trans ((if_neg (by decide)).trans ?_)) rfl
  obtain ⟨hdev, htm, hpl⟩ : (s.elapse dt).dev = s.dev ∧ (s.elapse dt).tm = s.tm ∧ (s.elapse dt).pl = s.pl := by
    rw [State.elapse_eq]
    exact ⟨rfl, rfl, rfl⟩
  rw [if_pos rfl, State.sendAgree_outs (hdev ▸ hrun) (htm ▸ hagree) ((s.elapse_evalComplete dt).trans heval) (htm ▸ hrel) (hpl ▸ hsent), hpl]

/-- One that has nothing to send. -/
theorem answers_agreeSlot_idle (hkind : fieldOf (s.live (0xB8100 + 4 * slot.val)) 0 3 = 2)
    (h : s.dev.st ≠ .run ∨ (s.tm.capDone = false ∧ s.evalComplete = false)) :
    Answers (.wilistSlotStart dt slot) s (fun t => t = s.elapse dt) := by
  refine answers_becomes hs (exec_wilistSlotStart s dt slot) ((State.slotStart_due dt slot hdue hkind).trans ((if_neg (by decide)).trans
    ((if_pos rfl).trans (State.sendAgree_idle ?_)))) rfl rfl
  rw [s.elapse_evalComplete, State.elapse_eq]
  exact h

/-- A HEART entry (R440). -/
theorem answers_heartSlot (hkind : fieldOf (s.live (0xB8100 + 4 * slot.val)) 0 3 = 3) {b : Beat} (hb : s.pl.beat = some b) :
    Answers (.wilistSlotStart dt slot) s (fun t => t = { s.elapse dt with rep := t.rep } ∧
      (s.plyLink l.val = true ∧ (s.link l.val).st = .up → s.putsOut t (.cell l (s.cellHead l.val)
        (.heart b s.regs.crcLast s.syncNextShown (s.pl.installed.length % 256))))) := by
  have hpl : (s.elapse dt).pl = s.pl := by rw [State.elapse_eq]
  have hrow : (s.elapse dt).sendHeart = ({ s.elapse dt with pl := s.pl } : State).toPly
      (.heart b s.regs.crcLast s.syncNextShown (s.pl.installed.length % 256)) := by
    unfold State.sendHeart
    rw [hpl, hb, State.elapse_eq]
    rfl
  refine Answers.mono (answers_toPly hs dt l (exec_wilistSlotStart s dt slot) ((State.slotStart_due dt slot hdue hkind).trans
    ((if_neg (by decide)).trans ((if_neg (by decide)).trans ((if_pos rfl).trans hrow)))) rfl) fun t ⟨h1, h2⟩ => ⟨?_, h2⟩
  rw [h1, ← hpl]

/-- A MGMT entry of a device that has nothing to send as the acting member (R482). -/
theorem answers_mgmtSlot (hkind : fieldOf (s.live (0xB8100 + 4 * slot.val)) 0 3 = 5) (hact : s.acts = false ∨ s.plyMember = false) :
    Answers (.wilistSlotStart dt slot) s (fun t => t = { s.elapse dt with rep := t.rep } ∧
      ((s.link l.val).st = .up → ∀ m ∈ (s.link l.val).mgmt.take (fieldOf (s.live (0xB8100 + 4 * slot.val)) 20 12),
        s.putsOut t (.cell l (s.cellHead l.val) (.mgmt m.seq m.body)))) := by
  obtain ⟨n, hn⟩ : ∃ n, fieldOf (s.live (0xB8100 + 4 * slot.val)) 20 12 = n := ⟨_, rfl⟩
  obtain ⟨w, hw⟩ : ∃ w, (links.filter (fun l => (s.elapse dt).linkIsUp l)).foldl (fun (a : State) l => a.resendMgmt l n) (s.elapse dt) = w :=
    ⟨_, rfl⟩
  have h1 : State.SendsCells (s.elapse dt) w := hw ▸ foldl_keeps .refl .trans (fun a l => a.resendMgmt_cells l n) _ _
  have hnot : (w.plyMember && decide (w.pl.role = .acting)) = false := by
    have : (s.plyMember && decide (s.pl.role = .acting)) = false := by
      rcases hact with h | h
      · unfold State.acts at h
        rw [Bool.or_eq_false_iff] at h
        rw [h.2, Bool.and_false]
      · rw [h, Bool.false_and]
    rw [h1.rest, State.elapse_eq]
    exact this
  have hg : (s.elapse dt).slotStart slot.val = w := by
    refine (State.slotStart_due dt slot hdue hkind).trans ?_
    rw [if_neg (by decide), if_neg (by decide), if_neg (by decide), if_neg (by decide), if_pos rfl, hn]
    unfold State.sendMgmtSlot
    simp only
    rw [hw, hnot]
    rfl
  rw [hn]
  refine answers_at hs (exec_wilistSlotStart s dt slot) ?_
  rw [hg]
  have hheard : ∀ k, s.Hears k w.rep → s.Heard k w.flush := fun k h => h.heard
  have hrest : w.flush = { s.elapse dt with rep := w.flush.rep } := (show w.flush = { w with rep := w.flush.rep } from rfl).trans (by rw [h1.rest])
  refine ⟨hrest, fun hup m hm => ?_⟩
  have hout : s.Hears { outs := [.cell l (s.cellHead l.val) (.mgmt m.seq m.body)] } w.rep := by
    rw [← hw]
    refine foldl_reaches (P := fun b => s.Hears { outs := [.cell l (s.cellHead l.val) (.mgmt m.seq m.body)] } b.rep)
      (fun a l => a.resendMgmt_cells l n) (fun _ _ g h => h.cells g) (State.mem_linksUp l (by rw [s.elapse_link]; exact hup)) fun b hb => ?_
    have := (State.Hears.start hs dt).resendMgmt hb l n (m := m) (by rw [s.elapse_link]; exact hm)
    rwa [s.elapse_cellHead] at this
  exact (hheard _ hout).outs _ List.mem_cons_self

end

end Sys2Proof.Machine
end

section
/-!
PROOFS. RELAY entries of the slot table (R489, R492), and the obligation about Wilist links.
-/

namespace Sys2Proof.Machine

/-- A frame leaves the queue of its link: from a to b bobbins, cells and counts change. -/
structure State.Relays (a b : State) : Prop where
  rest : b = { a with cr := b.cr, rep := b.rep }
  grows : Rep.Grows a.rep b.rep
  whOld : b.rep.whOld = a.rep.whOld

section
variable {a s : State} {k : Account} {r i : Nat} {b : Bobbin}

theorem State.dropHolder_frees (hb : a.bob i = some b) (hh : b.holders ≤ 1) : (a.dropHolder i).bob i = none := by
  unfold State.dropHolder
  rw [hb]
  simp only
  rw [if_pos hh]
  unfold State.freeBob
  rw [hb]
  simp only
  obtain ⟨u, hu⟩ : ∃ u : State, { a with cr := { a.cr with
    bobs := Tbl.del a.cr.bobs i, use := Tbl.put a.cr.use b.ch {} ((a.use b.ch).upd b.cls (· - 1)) } } = u := ⟨_, rfl⟩
  have hn : u.bob i = none := by
    rw [← hu]
    exact Tbl.look_del_self _ _
  rw [hu]
  exact (u.refreshLow_spec.2.1 i).trans hn

theorem State.dropHolder_relays (a : State) (i : Nat) : State.Relays a (a.dropHolder i) := by
  have h := a.dropHolder_spec i
  exact ⟨h.rest, h.grows, h.whOld⟩

/-- A queued frame leaves on its link. -/
theorem State.relaySend_spec (a : State) (l : Fin 4) (hb : a.bob i = some b) (hh : b.holders ≤ 1) :
    State.Relays a (a.relaySend l.val (r, i)) ∧ (a.relaySend l.val (r, i)).bob i = none ∧
    (a.acts = true → s.Hears k a.rep →
      s.Hears { k with outs := .cell l (a.cellHead l.val) (.relay r b.frame b.tag) :: k.outs } (a.relaySend l.val (r, i)).rep) := by
  unfold State.relaySend
  simp only
  rw [hb]
  simp only
  split
  · rename_i hact
    exact ⟨a.dropHolder_relays i, State.dropHolder_frees hb hh, fun h => absurd h (by rw [hact]; exact Bool.false_ne_true)⟩
  · obtain ⟨c, hc⟩ : ∃ c, a.sendCell l.val (.relay r b.frame b.tag) = c := ⟨_, rfl⟩
    have hac : State.SendsCells a c := hc ▸ a.sendCell_cells _ _
    have hcb : c.bob i = some b := by
      rw [hac.rest]
      exact hb
    have h1 := c.dropHolder_relays i
    rw [hc]
    refine ⟨⟨by rw [h1.rest, hac.rest], hac.grows.trans h1.grows, h1.whOld.trans hac.whOld⟩, State.dropHolder_frees hcb hh, fun _ h => ?_⟩
    have hsend := h.sendCell (.refl a) l (.relay r b.frame b.tag)
    rw [hc] at hsend
    exact hsend.mono h1.grows h1.whOld

theorem State.slubOnce_cells (a : State) (g c x y z : Nat) : State.SendsCells a (a.slubOnce g c x y z) := by
  refine ⟨rfl, ?_, ?_⟩
  all_goals
    unfold State.slubOnce
    simp only
    split
  · exact .refl _
  · exact ⟨⟨[], (List.append_nil _).symm⟩, fun _ => Nat.min_le_right _ _, fun _ _ h => h⟩
  · rfl
  · rfl

theorem State.relayDrop_cells (a : State) (r link why : Nat) : State.SendsCells a (a.relayDrop r link why) := by
  unfold State.relayDrop
  simp only
  split
  · exact a.count_cells _
  · have h1 := a.count_cells (5952 + 16 * link + 4)
    generalize a.count (5952 + 16 * link + 4) = c at h1
    have h2 := h1.trans (c.slubOnce_cells (0x20000 + r) 0x0E03 r why 0)
    generalize c.slubOnce (0x20000 + r) 0x0E03 r why 0 = d at h2
    exact h2.trans ⟨rfl, d.raise_grows _, (d.raise_same _).whOld⟩

theorem State.Hears.relayDrop (h : s.Hears k a.rep) (r link why : Nat) :
    s.Hears { k with cts := (5952 + 16 * link + 4, 1) :: k.cts } (a.relayDrop r link why).rep := by
  have h1 := h.count (5952 + 16 * link + 4)
  unfold State.relayDrop
  simp only
  split
  · exact h1
  · generalize a.count (5952 + 16 * link + 4) = c at h1
    have h2 := h1.cells (c.slubOnce_cells (0x20000 + r) 0x0E03 r why 0)
    generalize c.slubOnce (0x20000 + r) 0x0E03 r why 0 = d at h2
    exact h2.mono (d.raise_grows _) (d.raise_same _).whOld

/-! ## A RELAY entry -/

/-- What a link does with the queue in a RELAY entry of n cells. -/
def State.relayLink (n : Nat) (a : State) (l : Nat) : State :=
  let out := a.fitting l n a.cs.queue
  let b := { a with cs := { a.cs with queue := a.cs.queue.filter (fun e => !out.contains e) } }
  out.foldl (fun (c : State) e => c.relaySend l e) b

theorem State.sendRelay_eq (a : State) (n : Nat) : a.sendRelay n = links.foldl (State.relayLink n) a.relayLost := rfl

/-- A link on which nothing queued leaves does nothing. -/
theorem State.relayLink_none {n l : Nat} (h : a.fitting l n a.cs.queue = []) : a.relayLink n l = a := by
  unfold State.relayLink
  simp only
  have hf : a.cs.queue.filter (fun e => !([] : List (Nat × Nat)).contains e) = a.cs.queue := List.filter_eq_self.2 fun _ _ => rfl
  rw [h, List.foldl_nil, hf]

theorem State.relayLink_empty {n l : Nat} (h : a.cs.queue = []) : a.relayLink n l = a :=
  State.relayLink_none (by rw [h]; rfl)

theorem State.relayLink_other {n l : Nat} {out : Nat} (hq : a.cs.queue = [(r, i)]) (ho : a.relayOut r = some out) (hne : out ≠ l) :
    a.relayLink n l = a := by
  refine State.relayLink_none ?_
  rw [hq]
  unfold State.fitting
  rw [ho, if_neg fun h => hne (Option.some.inj h)]
  rfl

theorem State.relayLink_own {n l : Nat} (hq : a.cs.queue = [(r, i)]) (ho : a.relayOut r = some l) (hb : a.bob i = some b)
    (hn : relayCells b.frame ≤ n) : a.relayLink n l = ({ a with cs := { a.cs with queue := [] } } : State).relaySend l (r, i) := by
  have hfit : a.fitting l n a.cs.queue = [(r, i)] := by
    rw [hq]
    unfold State.fitting
    rw [ho, hb, if_pos rfl]
    simp only
    rw [if_pos hn]
    rfl
  unfold State.relayLink
  simp only
  rw [hfit, hq]
  simp

theorem State.foldl_relayLink_empty {n : Nat} (h : a.cs.queue = []) (ls : List Nat) : ls.foldl (State.relayLink n) a = a := by
  induction ls with
  | nil => rfl
  | cons l ls ih => rw [List.foldl_cons, State.relayLink_empty h, ih]

/-- One frame waits, and it is sent on its link. -/
theorem State.foldl_relayLink {n : Nat} (l : Nat) {ls : List Nat} (hl : l ∈ ls) (hq : a.cs.queue = [(r, i)]) (ho : a.relayOut r = some l)
    (hb : a.bob i = some b) (hn : relayCells b.frame ≤ n)
    (hempty : (({ a with cs := { a.cs with queue := [] } } : State).relaySend l (r, i)).cs.queue = []) :
    ls.foldl (State.relayLink n) a = ({ a with cs := { a.cs with queue := [] } } : State).relaySend l (r, i) := by
  induction ls with
  | nil => cases hl
  | cons j ls ih =>
    rw [List.foldl_cons]
    by_cases hj : j = l
    · rw [hj, State.relayLink_own hq ho hb hn]
      exact State.foldl_relayLink_empty hempty ls
    · rw [State.relayLink_other hq ho fun h => hj h.symm]
      exact ih ((List.mem_cons.1 hl).resolve_left fun h => hj h.symm)

/-- Nothing queued is lost while its link is UP. -/
theorem State.relayLost_up {l : Nat} (hq : a.cs.queue = [(r, i)]) (ho : a.relayOut r = some l) : a.relayLost = a := by
  unfold State.relayLost
  simp only
  have h1 : [(r, i)].filter (fun e => (a.relayOut e.1).isNone) = [] := by simp [ho]
  have h2 : [(r, i)].filter (fun e => (a.relayOut e.1).isSome) = [(r, i)] := by simp [ho]
  rw [hq, h1, h2, List.foldl_nil, ← hq]

/-- What is queued for a link that is not UP is dropped. -/
theorem State.relayLost_down (hq : a.cs.queue = [(r, i)]) (ho : a.relayOut r = none) :
    a.relayLost = (({ a with cs := { a.cs with queue := [] } } : State).relayDrop r (a.relaySide r) 0).dropHolder i := by
  unfold State.relayLost
  simp only
  have h1 : [(r, i)].filter (fun e => (a.relayOut e.1).isNone) = [(r, i)] := by simp [ho]
  have h2 : [(r, i)].filter (fun e => (a.relayOut e.1).isSome) = [] := by simp [ho]
  rw [hq, h1, h2, List.foldl_cons, List.foldl_nil]
  rfl

end

section
variable {s : State} (hs : s.ready) (dt : Nat) (slot : Fin 32) (l : Fin 4)
  (hdue : (s.elapse dt).reached (s.offsetAt (fieldOf (s.live (0xB8100 + 4 * slot.val)) 4 14)) = true)
  (hkind : fieldOf (s.live (0xB8100 + 4 * slot.val)) 0 3 = 4)
  {r i : Nat} {b : Bobbin} (hq : s.cs.queue = [(r, i)]) (hb : s.bob i = some b) (hh : b.holders ≤ 1)
include hs hdue hkind hq hb hh

/-- A RELAY entry sends the frame that waits for a link in service (R489). -/
theorem answers_relaySlot (ho : s.relayOut r = some l.val) (hn : relayCells b.frame ≤ fieldOf (s.live (0xB8100 + 4 * slot.val)) 20 12) :
    Answers (.wilistSlotStart dt slot) s (fun t =>
      t = { s.elapse dt with cs := { s.cs with queue := [] }, cr := t.cr, rep := t.rep } ∧
      (s.acts = true → s.putsOut t (.cell l (s.cellHead l.val) (.relay r b.frame b.tag))) ∧ t.bob i = none) := by
  obtain ⟨hcs, hout, hbob⟩ : (s.elapse dt).cs = s.cs ∧ (s.elapse dt).relayOut r = s.relayOut r ∧ (s.elapse dt).bob i = s.bob i := by
    rw [State.elapse_eq]
    exact ⟨rfl, rfl, rfl⟩
  obtain ⟨u, hu⟩ : ∃ u : State, { s.elapse dt with cs := { s.cs with queue := [] } } = u := ⟨_, rfl⟩
  have hub : u.bob i = some b := by
    rw [← hu]
    exact hbob.trans hb
  have huq : u.cs.queue = [] := by rw [← hu]
  obtain ⟨hact, hhead⟩ : u.acts = s.acts ∧ u.cellHead l.val = s.cellHead l.val := by
    rw [← hu, State.elapse_eq]
    exact ⟨rfl, rfl⟩
  have hstart : s.Hears {} u.rep := by
    rw [← hu]
    exact .start hs dt
  obtain ⟨h1, h2, h3⟩ := u.relaySend_spec (s := s) (k := {}) (r := r) l hub hh
  have hg : (s.elapse dt).slotStart slot.val = u.relaySend l.val (r, i) := by
    refine (State.slotStart_due dt slot hdue hkind).trans ?_
    rw [if_neg (by decide), if_neg (by decide), if_neg (by decide), if_pos rfl, State.sendRelay_eq,
      State.relayLost_up (by rw [hcs]; exact hq) (hout.trans ho),
      State.foldl_relayLink l.val (b := b) (r := r) (i := i) (by unfold links; simp only [List.mem_cons, List.not_mem_nil, or_false]; omega)
        (by rw [hcs]; exact hq) (hout.trans ho) (hbob.trans hb) hn ?_, hcs, hu]
    rw [hcs, hu, h1.rest]
    exact huq
  rw [hact, hhead] at h3
  generalize u.relaySend l.val (r, i) = w at h1 h2 h3 hg
  by_cases ha : s.acts = true
  · refine answers_hears hs (exec_wilistSlotStart s dt slot) hg (h3 ha hstart) fun x heard => ⟨by rw [h1.rest, ← hu], fun _ =>
      heard.outs _ List.mem_cons_self, h2⟩
  · exact answers_hears hs (exec_wilistSlotStart s dt slot) hg (hstart.mono h1.grows h1.whOld) fun x heard => ⟨by rw [h1.rest, ← hu],
      fun h => absurd h ha, h2⟩

/-- It drops the frame that waits for a link out of service (R492). -/
theorem answers_relaySlot_lost (ho : s.relayOut r = none) : Answers (.wilistSlotStart dt slot) s (fun t =>
      t = { s.elapse dt with cs := { s.cs with queue := [] }, cr := t.cr, rep := t.rep } ∧
      s.counts t (5952 + 16 * s.relaySide r + 4) 1 ∧ t.bob i = none) := by
  obtain ⟨hcs, hout, hside, hbob⟩ : (s.elapse dt).cs = s.cs ∧ (s.elapse dt).relayOut r = s.relayOut r ∧
      (s.elapse dt).relaySide r = s.relaySide r ∧ (s.elapse dt).bob i = s.bob i := by
    rw [State.elapse_eq]
    exact ⟨rfl, rfl, rfl, rfl⟩
  obtain ⟨u, hu⟩ : ∃ u : State, { s.elapse dt with cs := { s.cs with queue := [] } } = u := ⟨_, rfl⟩
  have hstart : s.Hears {} u.rep := by
    rw [← hu]
    exact .start hs dt
  have h1 := u.relayDrop_cells r (s.relaySide r) 0
  have h2 := hstart.relayDrop r (s.relaySide r) 0
  obtain ⟨c, hc⟩ : ∃ c, u.relayDrop r (s.relaySide r) 0 = c := ⟨_, rfl⟩
  rw [hc] at h1 h2
  have hcb : c.bob i = some b := by
    rw [h1.rest, ← hu]
    exact hbob.trans hb
  have h3 := c.dropHolder_relays i
  have h4 := State.dropHolder_frees hcb hh
  have hcq : (c.dropHolder i).cs.queue = [] := by rw [h3.rest, h1.rest, ← hu]
  have hg : (s.elapse dt).slotStart slot.val = c.dropHolder i := by
    refine (State.slotStart_due dt slot hdue hkind).trans ?_
    rw [if_neg (by decide), if_neg (by decide), if_neg (by decide), if_pos rfl, State.sendRelay_eq,
      State.relayLost_down (by rw [hcs]; exact hq) (hout.trans ho), hcs, hu, hside, hc]
    exact State.foldl_relayLink_empty hcq _
  generalize c.dropHolder i = w at h3 h4 hg
  exact answers_hears hs (exec_wilistSlotStart s dt slot) hg (h2.mono h3.grows h3.whOld) fun x heard => ⟨by rw [h3.rest, h1.rest, ← hu],
    heard.counts _ List.mem_cons_self, h4⟩

end

/-! ## The obligation -/

/-- Settles O52: a link trains, ends its training, fails and is trained anew by its rows, and each kind of slot sends its cells. -/
theorem linksTrainAndSend : Obligations.LinksTrainAndSend := by
  unfold Obligations.LinksTrainAndSend
  intro s dt l hs
  have htrains : ∀ t, s.trainsLink dt l.val t → (t = { s.elapse dt with
      cs := { s.cs with links := t.cs.links, upLink := t.cs.upLink, relPart := t.cs.relPart }, rep := t.rep } ∧
        ∀ k, k ≠ l.val → t.link k = s.link k) ∧ (t.link l.val).st = .training ∧ (t.link l.val).reason = 0 ∧ (t.link l.val).trained = none ∧
      (t.link l.val).trainRun = 0 ∧ (t.link l.val).leftUp = (if (s.link l.val).st = .up then some (s.clock + dt) else (s.link l.val).leftUp) ∧
      s.counts t (5952 + 16 * l.val + 3) 1 ∧ ∀ e ∈ t.cs.relPart, e.1 / 4096 ≠ l.val := by
    rintro t ⟨h1, h2, h3, h4⟩
    rw [h2]
    exact ⟨h1, rfl, rfl, rfl, rfl, rfl, h3, h4⟩
  refine ⟨fun h x n hl => ?_, fun x hx hn => answers_trainingWants hs dt l hx hn, fun x hx hrun hlanes hon hst => ?_,
    fun hst ht => (answers_cellTimeout hs dt l hst ht).mono htrains, fun h => answers_cellInTime hs dt l h,
    fun a hst ha ht => answers_linkFailed hs dt l hst ha ht, fun w hw hbit => ⟨fun hst => answers_retrain_down hs dt l hw hst,
      fun hst => answers_retrain_failed hs dt l hw hbit hst, fun hd hf => (answers_retrain_trains hs dt l hw hbit hd hf).mono htrains⟩,
    fun w hw hbit => ?_, fun slot => ⟨fun h => ?_, fun hdue hk => answers_timeSlot hs dt slot l hdue hk,
      fun hdue hk hrun hcap hag hsent => answers_agreeSlot hs dt slot l hdue hk hrun hcap hag hsent,
      fun hdue hk hrun hag hev hrel hsent => answers_outputsSlot hs dt slot l hdue hk hrun hag hev hrel hsent,
      fun hdue hk h => answers_agreeSlot_idle hs dt slot hdue hk h, fun b hdue hk hb => answers_heartSlot hs dt slot l hdue hk hb,
      fun r i b hdue hk hq ho hb hn hh => answers_relaySlot hs dt slot l hdue hk hq hb hh ho hn,
      fun r i b hdue hk hq ho hb hh => answers_relaySlot_lost hs dt slot hdue hk hq hb hh ho,
      fun hdue hk h => answers_mgmtSlot hs dt slot l hdue hk h⟩⟩
  · subst hl
    exact ⟨fun hon => answers_trainCell_off hs dt h _ hon, fun hon hst => answers_trainCell_trains hs dt h _ hon hst,
      fun hon hst hc => answers_trainCell_up hs dt h _ hon hst hc, fun hon hst hc => answers_trainCell_incompatible hs dt h _ hon hst hc,
      fun hon hst hc => answers_trainCell_bad hs dt h _ hon (by rcases hst with e | e <;> rw [e] <;> decide) hc⟩
  · refine (answers_trainingComplete hs dt l hx hrun hlanes hon hst).mono ?_
    rintro t ⟨h1, h2, h3, h4, h5⟩
    rw [h2]
    exact ⟨h1, rfl, rfl, rfl, rfl, fun h0 => ⟨if_pos h0, rfl, if_pos h0, h3 h0⟩, fun h0 => ⟨if_neg h0, h4 h0⟩, h5⟩
  · exact answers_csPeerdbGo hs dt l hw hbit
  · exact answers_becomes hs (exec_wilistSlotStart s dt slot) (State.slotStart_idle dt slot h) rfl rfl

end Sys2Proof.Machine
end

section
/-!
PROOFS. Cells of the Wilist: what every cell does before its kind is looked at, and TIME cells (R66, R438, R481, R486, R487).
-/

namespace Sys2Proof.Machine

/-! ## A cell is taken -/

/-- State b is state s, time having passed, after a cell has been taken on its link. -/
structure State.TakesCell (s : State) (dt : Nat) (h : CellHdr) (b : State) : Prop where
  rest : b = { s.elapse dt with cs := { s.cs with links := b.cs.links, upLink := b.cs.upLink }, rep := b.rep }
  link : b.link h.link.val = { s.link h.link.val with
    lastCell := s.clock + dt, peerActing := h.acting, mgmt := ackMgmt h.ack (s.link h.link.val).mgmt }
  st : ∀ k, (b.link k).st = (s.link k).st
  tells : s.Tells {} b.rep
  up : s.chooseUp = s.cs.upLink → (s.link h.link.val).peerActing = h.acting → b.cs.upLink = s.cs.upLink

/-- The sender's ACTING and ACK are taken over (R475, R482). -/
def State.cellTaken (u : State) (h : CellHdr) : State :=
  (u.modLink h.link.val (fun v => { v with lastCell := u.clock, peerActing := h.acting, mgmt := ackMgmt h.ack v.mgmt })).refreshUp

section
variable {a b : State}

theorem State.chooseUp_congr (hrest : b = { a with cs := b.cs, rep := b.rep }) (hst : ∀ k, (b.link k).st = (a.link k).st)
    (hact : ∀ k, (b.link k).peerActing = (a.link k).peerActing) : b.chooseUp = a.chooseUp := by
  have hups : b.upLinks = a.upLinks := by
    rw [hrest]
    rfl
  have hisUp : (fun e : Nat × Nat => b.linkIsUp e.2) = fun e => a.linkIsUp e.2 := funext fun e => by
    unfold State.linkIsUp
    rw [hst]
  have hacts : (fun e : Nat × Nat => (b.link e.2).peerActing) = fun e => (a.link e.2).peerActing := funext fun e => hact e.2
  unfold State.chooseUp
  rw [hups, hisUp, hacts]

theorem State.refreshUp_same (h : a.chooseUp = a.cs.upLink) : a.refreshUp = a := by
  unfold State.refreshUp
  simp only
  rw [if_pos h]

end

section
variable {s : State} (hs : s.ready) (dt : Nat) (h : CellHdr)

include hs in
theorem State.cellTaken_takes : s.TakesCell dt h ((s.elapse dt).cellTaken h) := by
  obtain ⟨c, hc⟩ : ∃ c, (s.elapse dt).modLink h.link.val
      (fun v => { v with lastCell := (s.elapse dt).clock, peerActing := h.acting, mgmt := ackMgmt h.ack v.mgmt }) = c := ⟨_, rfl⟩
  have hlink : c.link h.link.val = { s.link h.link.val with
      lastCell := s.clock + dt, peerActing := h.acting, mgmt := ackMgmt h.ack (s.link h.link.val).mgmt } := by
    rw [← hc, State.modLink_link, s.elapse_link, State.elapse_clock]
  have hne : ∀ k, k ≠ h.link.val → c.link k = s.link k := fun k hk => by
    rw [← hc]
    exact ((s.elapse dt).setLink_ne _ hk).trans (s.elapse_link dt k)
  have hrest : c = { s.elapse dt with cs := { s.cs with links := c.cs.links } } := by
    rw [← hc, State.elapse_eq]
    rfl
  have hst : ∀ k, (c.link k).st = (s.link k).st := fun k => by
    by_cases hk : k = h.link.val
    · rw [hk, hlink]
    · rw [hne k hk]
  have htells : s.Tells {} c.rep := by
    rw [← hc]
    exact .elapse hs dt
  obtain ⟨u1, u2, u3⟩ := c.refreshUp_spec h.link.val
  have hdone := htells.refreshUp
  have hrow : (s.elapse dt).cellTaken h = c.refreshUp := by
    rw [← hc]
    rfl
  refine hrow ▸ ⟨?_, (u2 _).trans hlink, fun k => by rw [u2, hst], hdone, fun h1 h2 => ?_⟩
  · have : c.refreshUp = { c with cs := { c.cs with links := c.refreshUp.cs.links, upLink := c.refreshUp.cs.upLink }, rep := c.refreshUp.rep } := by
      rw [u1.rest, u3]
    rw [this, hrest]
  · have hup : c.cs.upLink = s.cs.upLink := by rw [hrest]
    have hact : ∀ k, (c.link k).peerActing = (s.link k).peerActing := fun k => by
      by_cases hk : k = h.link.val
      · rw [hk, hlink]
        exact h2.symm
      · rw [hne k hk]
    have hchoose : c.chooseUp = (s.elapse dt).chooseUp :=
      State.chooseUp_congr (by rw [hrest]) (fun k => (hst k).trans (congrArg LinkSt.st (s.elapse_link dt k).symm))
        fun k => (hact k).trans (congrArg LinkSt.peerActing (s.elapse_link dt k).symm)
    have hsame : (s.elapse dt).chooseUp = s.chooseUp := by
      rw [State.elapse_eq]
      rfl
    rw [State.refreshUp_same (by rw [hchoose, hsame, h1, hup])]
    exact hup

/-- A cell that comes where it may come, without an error, and from this ply (R438, R481). -/
def State.goodCell (s : State) (dt : Nat) (h : CellHdr) : Prop :=
  (s.link h.link.val).st = .up ∧ h.crcOk = true ∧ h.kindOk = true ∧
  (s.plyLink h.link.val = true → h.tag = s.plTag ∧ h.turn16 = (s.elapse dt).turnSent h.link.val)

variable {dt h}

theorem State.TakesCell.plyLink {b : State} (hb : s.TakesCell dt h b) (l : Nat) : b.plyLink l = s.plyLink l := by
  rw [← s.elapse_plyLink dt l, hb.rest]
  rfl

theorem State.TakesCell.plTag {b : State} (hb : s.TakesCell dt h b) : b.plTag = s.plTag := by
  rw [hb.rest, State.elapse_eq]
  rfl

theorem State.TakesCell.turnSent {b : State} (hb : s.TakesCell dt h b) : b.turnSent h.link.val = (s.elapse dt).turnSent h.link.val := by
  unfold State.turnSent
  rw [hb.link, s.elapse_link, hb.rest]
  rfl

/-- What a cell on an UP link of the right form does. -/
theorem State.cell_up {f : State → State} (hst : (s.link h.link.val).st = .up) (hcrc : h.crcOk = true) (hkind : h.kindOk = true) :
    (s.elapse dt).cell h f = if ((s.elapse dt).cellTaken h).plyLink h.link.val then
      ((s.elapse dt).cellTaken h).plyCheck h.tag (decide (h.turn16 = ((s.elapse dt).cellTaken h).turnSent h.link.val)) f
      else f ((s.elapse dt).cellTaken h) := by
  unfold State.cell
  simp only
  rw [s.elapse_link, if_neg (not_not.2 hst), if_neg (by rw [hcrc]; exact Bool.false_ne_true.symm),
    if_neg (by rw [hkind]; exact Bool.false_ne_true.symm)]
  rfl

include hs

/-- A good cell is taken, and its kind is looked at. -/
theorem State.cell_good (hg : s.goodCell dt h) : ∃ b, s.TakesCell dt h b ∧ ∀ f, (s.elapse dt).cell h f = f b := by
  obtain ⟨hst, hcrc, hkind, hply⟩ := hg
  have hb := State.cellTaken_takes hs dt h
  refine ⟨_, hb, fun f => ?_⟩
  rw [State.cell_up hst hcrc hkind, hb.plyLink, hb.turnSent]
  split
  · rename_i hl
    obtain ⟨htag, hturn⟩ := hply hl
    unfold State.plyCheck
    rw [if_neg (not_not.2 (htag.trans hb.plTag.symm)), decide_eq_true hturn]
    rfl
  · rfl

variable {c : Instr}

omit hs in
/-- Each row of a cell runs what its kind asks for inside the checks of every cell. -/
theorem exec_cell (hc : c.cell = some (dt, h)) : ∃ f, exec c s = s.at_ dt (fun u => u.cell h f) := by
  cases c with
  | timeCell dt' h' tTx turn echo res =>
    obtain ⟨rfl, rfl⟩ := Prod.mk.inj (Option.some.inj hc)
    exact ⟨_, rfl⟩
  | heartCell dt' h' b crc x y =>
    obtain ⟨rfl, rfl⟩ := Prod.mk.inj (Option.some.inj hc)
    exact ⟨_, rfl⟩
  | agreeCell dt' h' b cont =>
    obtain ⟨rfl, rfl⟩ := Prod.mk.inj (Option.some.inj hc)
    exact ⟨_, rfl⟩
  | mgmtCell dt' h' q m =>
    obtain ⟨rfl, rfl⟩ := Prod.mk.inj (Option.some.inj hc)
    exact ⟨_, rfl⟩
  | relayCell dt' h' r second f =>
    obtain ⟨rfl, rfl⟩ := Prod.mk.inj (Option.some.inj hc)
    exact ⟨_, rfl⟩
  | _ => cases hc

variable (hc : c.cell = some (dt, h))
include hc

/-- A cell on a link that is not UP does nothing. -/
theorem answers_cell_down (hst : (s.link h.link.val).st ≠ .up) : Answers c s (fun t => t = s.elapse dt) := by
  obtain ⟨f, hf⟩ := exec_cell hc
  refine answers_becomes hs hf ?_ rfl rfl
  unfold State.cell
  simp only
  rw [s.elapse_link, if_pos hst]

/-- A cell with a wrong CRC is counted. -/
theorem answers_cell_crc (hst : (s.link h.link.val).st = .up) (hcrc : h.crcOk = false) : Answers c s (fun t =>
    t = { s.elapse dt with rep := t.rep } ∧ s.counts t (5952 + 16 * h.link.val) 1) := by
  obtain ⟨f, hf⟩ := exec_cell hc
  have hg : (s.elapse dt).cell h f = (s.elapse dt).count (5952 + 16 * h.link.val) := by
    unfold State.cell
    simp only
    rw [s.elapse_link, if_neg (not_not.2 hst), if_pos hcrc]
  exact answers_tells hs hf hg ((State.Tells.elapse hs dt).count _) fun r told => ⟨rfl, told.counts _ List.mem_cons_self⟩

/-- So is one of an unknown KIND. -/
theorem answers_cell_kind (hst : (s.link h.link.val).st = .up) (hcrc : h.crcOk = true) (hkind : h.kindOk = false) : Answers c s (fun t =>
    t = { s.elapse dt with rep := t.rep } ∧ s.counts t (5952 + 16 * h.link.val + 1) 1) := by
  obtain ⟨f, hf⟩ := exec_cell hc
  have hg : (s.elapse dt).cell h f = (s.elapse dt).count (5952 + 16 * h.link.val + 1) := by
    unfold State.cell
    simp only
    rw [s.elapse_link, if_neg (not_not.2 hst), if_neg (by rw [hcrc]; exact Bool.false_ne_true.symm), if_pos hkind]
  exact answers_tells hs hf hg ((State.Tells.elapse hs dt).count _) fun r told => ⟨rfl, told.counts _ List.mem_cons_self⟩

/-- One of another ply or of another turn is ignored and counted (R438). -/
theorem answers_cell_foreign (hst : (s.link h.link.val).st = .up) (hcrc : h.crcOk = true) (hkind : h.kindOk = true)
    (hl : s.plyLink h.link.val = true) (hn : ¬(h.tag = s.plTag ∧ h.turn16 = (s.elapse dt).turnSent h.link.val)) : Answers c s (fun t =>
    t = { s.elapse dt with cs := { s.cs with links := t.cs.links, upLink := t.cs.upLink }, rep := t.rep } ∧
    t.link h.link.val = { s.link h.link.val with
      lastCell := s.clock + dt, peerActing := h.acting, mgmt := ackMgmt h.ack (s.link h.link.val).mgmt } ∧
    s.counts t 5888 1 ∧ (h.tag ≠ s.plTag → s.raises t 0x30F)) := by
  obtain ⟨f, hf⟩ := exec_cell hc
  have hb := State.cellTaken_takes hs dt h
  have hrow := State.cell_up (f := f) (dt := dt) hst hcrc hkind
  rw [hb.plyLink, hb.turnSent, if_pos hl] at hrow
  generalize (s.elapse dt).cellTaken h = b at hb hrow
  have hlive : b.regs.live = s.regs.live := by
    rw [hb.rest]
    exact congrArg RegSt.live (State.elapse_regs s dt)
  have hcount := hb.tells.count 5888
  unfold State.plyCheck at hrow
  rw [hb.plTag] at hrow
  by_cases htag : h.tag = s.plTag
  · have hturn : ¬h.turn16 = (s.elapse dt).turnSent h.link.val := fun e => hn ⟨htag, e⟩
    rw [if_neg (not_not.2 htag), if_pos (by rw [decide_eq_false hturn]; rfl)] at hrow
    exact answers_tells hs hf (v := b) hrow hcount fun r told => ⟨by rw [hb.rest], hb.link, told.counts _ List.mem_cons_self,
      fun hne => absurd htag hne⟩
  · rw [if_pos htag] at hrow
    have hraise := hcount.raise 0x30F (b := b.plyIgnore) hlive
    have hbw : State.RepOnly b (b.plyIgnore.raise 0x30F) := ((State.RepOnly.refl b).count 5888).raise _
    generalize b.plyIgnore.raise 0x30F = w at hrow hraise hbw
    exact answers_tells hs hf (v := b) (r := w.rep) (hrow.trans hbw) hraise fun r told => ⟨by rw [hb.rest], hb.link,
      told.counts (5888, 1) List.mem_cons_self, fun _ => told.raises _ List.mem_cons_self⟩

end

end Sys2Proof.Machine
end

section
/-!
PROOFS. TIME cells: the round trip of a link and the reference event that a time cell is (R64, R66, R486, R487).
-/

namespace Sys2Proof.Machine

/-! ## A time cell as a reference event -/

section
variable {u s : State} {a : Account} {turn : BitVec 48} {sent target : BitVec 64} {p : Nat}

theorem State.refEvent_cell_accepted (hload : u.tm.loadClk ≠ some u.clock)
    (h : (u.dev.st ≠ .run ∧ u.dev.st ≠ .safe) ∨ ¬(turn ≠ u.turnAt sent ∨ u.lenUs * 1000 ≤ 2 * (target - u.now).toInt.natAbs)) :
    u.refEvent (.cell turn sent) target p = u.acceptEvent (.cell turn sent) target (target - u.now).toInt p := by
  unfold State.refEvent
  simp only
  rw [if_neg hload, if_neg]
  rw [Bool.and_eq_true, Bool.or_eq_true, Bool.or_eq_true, decide_eq_true_eq, decide_eq_true_eq, decide_eq_true_eq, decide_eq_true_eq]
  rintro ⟨h1, h2⟩
  rcases h with ⟨h3, h4⟩ | h3
  · exact h1.elim h3 h4
  · exact h3 h2

/-- A time cell of another turn, or half a turn off, is not used (R66). -/
def State.unusedCell (u : State) (e : Int) : State :=
  if u.tm.mismatch then ({ u with tm := u.tm.unused e } : State).count 5122 else (({ u with tm := u.tm.unused e } : State).count 5122).raise 0x049

theorem State.refEvent_cell_unused (hload : u.tm.loadClk ≠ some u.clock) (hrun : u.dev.st = .run)
    (h : turn ≠ u.turnAt sent ∨ u.lenUs * 1000 ≤ 2 * (target - u.now).toInt.natAbs) :
    u.refEvent (.cell turn sent) target p = u.unusedCell (target - u.now).toInt := by
  unfold State.refEvent
  simp only
  rw [if_neg hload, if_pos]
  · rfl
  · rw [hrun, Bool.and_eq_true, Bool.or_eq_true, Bool.or_eq_true, decide_eq_true_eq, decide_eq_true_eq, decide_eq_true_eq]
    exact ⟨.inl rfl, h.imp_right (decide_eq_true (p := 2 * (target - u.now).toInt.natAbs ≥ u.lenUs * 1000))⟩

theorem State.unusedCell_spec (h : s.Tells a u.rep) (hlive : u.regs.live = s.regs.live) (e : Int) :
    u.unusedCell e = { u with tm := u.tm.unused e, rep := (u.unusedCell e).rep } ∧
    ∃ K, s.Tells K (u.unusedCell e).rep ∧ (5122, 1) ∈ K.cts ∧ (u.tm.mismatch = false → 0x049 ∈ K.srcs) := by
  obtain ⟨v, hv⟩ : ∃ v : State, { u with tm := u.tm.unused e } = v := ⟨_, rfl⟩
  have hvr : v.rep = u.rep := hv ▸ rfl
  have hvl : v.regs.live = s.regs.live := by rw [← hv]; exact hlive
  rw [← hvr] at h
  unfold State.unusedCell
  rw [hv]
  split
  · rename_i hm
    have hw := (State.RepOnly.refl v).count 5122
    exact ⟨by rw [hw, ← hv], _, h.count 5122, List.mem_cons_self, fun hm' => absurd hm (by rw [hm']; exact Bool.false_ne_true)⟩
  · have hw := ((State.RepOnly.refl v).count 5122).raise 0x049
    exact ⟨by rw [hw, ← hv], _, (h.count 5122).raise 0x049 (b := v.count 5122) hvl, List.mem_cons_self, fun _ => List.mem_cons_self⟩

/-- In SET-UP the first accepted event steps the time base, and the next boundary takes the cell's turn (R64, R487). -/
theorem State.acceptEvent_step (h : s.Tells a u.rep) (hst : u.dev.st = .setUp) (hstep : u.tm.stepped = false) {e : Int} (he : 1000 < e.natAbs) :
    ∃ w, u.acceptEvent (.cell turn sent) target e p = w ∧ w = { u with now := target, frac := 0, tm := w.tm, rep := w.rep } ∧
      s.Tells a w.rep ∧ w.tm.stepped = true ∧ w.tm.cellTurn = some turn ∧ w.tm.mismatch = false ∧ w.tm.turn = u.tm.turn := by
  obtain ⟨v, hv⟩ : ∃ v : State, { u with tm := u.tm.accept true e p u.clock } = v := ⟨_, rfl⟩
  have hvr : v.rep = u.rep := hv ▸ rfl
  rw [← hvr] at h
  -- LOCKED is reported
  obtain ⟨x, hx⟩ : ∃ x, (if v.tm.locked && !u.tm.locked then v.raise 0x044 else v) = x := ⟨_, rfl⟩
  have hvx : State.RepOnly v x := by
    rw [← hx]
    split
    · exact (State.RepOnly.refl v).raise _
    · exact .refl v
  have hxt : s.Tells a x.rep := by
    rw [← hx]
    split
    · exact h.fires (v.raise_grows _) (v.raise_same _) (v.raise_fires _)
    · exact h
  -- the time base steps
  obtain ⟨y, hy⟩ : ∃ y : State, { x.setTime target with
      tm := { (x.setTime target).tm with cellTurn := some turn, mismatch := x.tm.mismatch && !true } } = y := ⟨_, rfl⟩
  have hyr : y.rep = x.rep := hy ▸ rfl
  have hxm : x.tm = u.tm.accept true e p u.clock := by rw [hvx, ← hv]
  have hytm : y.tm = { u.tm.accept true e p u.clock with
      origin := (u.tm.accept true e p u.clock).origin + (target - x.now), cut := none, cellTurn := some turn, mismatch := false } := by
    rw [← hxm, ← hy]
    show TurnSt.mk .. = _
    simp only [State.setTime, Bool.not_true, Bool.and_false]
  have hyo : y = { u with now := target, frac := 0, tm := y.tm, rep := y.rep } := by
    rw [← hy]
    unfold State.setTime
    rw [hvx, ← hv]
  have hz := y.reschedule_eq
  have hzt : s.Tells a y.reschedule.rep := by
    rw [← hyr] at hxt
    unfold State.reschedule
    simp only
    generalize hq : ({ y with tm := { y.tm with nextBound := _, stretch := _ } } : State) = q
    have hqr : q.rep = y.rep := hq ▸ rfl
    rw [← hqr] at hxt
    split
    · have h1 : s.Tells a (q.count 5121).rep := hxt.fires (q.countN_grows 5121 1) (q.countN_same 5121 1) (Rep.fires_count _ _ _ _)
      generalize q.count 5121 = q1 at h1
      exact h1.fires (q1.raise_grows _) (q1.raise_same _) (q1.raise_fires _)
    · exact hxt
  have hstepped : x.stepTime (.cell turn sent) target = y.reschedule := by
    rw [← hy]
    rfl
  have haccept : u.acceptEvent (.cell turn sent) target e p =
      (if decide (u.dev.st = .setUp) && !u.tm.stepped && decide (e.natAbs > 1000) then
        (if v.tm.locked && !u.tm.locked then v.raise 0x044 else v).stepTime (.cell turn sent) target
      else if v.tm.locked && !u.tm.locked then v.raise 0x044 else v).refreshLimit := by
    rw [← hv]
    rfl
  have hrow : u.acceptEvent (.cell turn sent) target e p = y.reschedule.refreshLimit := by
    rw [haccept, hx, if_pos (by rw [hst, hstep]; simpa using he), hstepped]
  have hlim := y.reschedule.refreshLimit_eq
  have hdone := hzt.refreshLimit
  generalize y.reschedule = z at hz hdone hrow hlim
  refine ⟨_, hrow, ?_, hdone, ?_, ?_, ?_, ?_⟩
  · rw [hlim, hz, hyo]
  · rw [hlim, hz]
    exact congrArg TurnSt.stepped hytm
  · rw [hlim, hz]
    exact congrArg TurnSt.cellTurn hytm
  · rw [hlim, hz]
    exact congrArg TurnSt.mismatch hytm
  · rw [hlim, hz]
    exact (congrArg TurnSt.turn hytm).trans rfl

end

/-! ## TIME cells -/

section
variable {s : State} {dt : Nat} {h : CellHdr}

/-- What a TIME cell brings of its link (R486). -/
def LinkSt.timed (v : LinkSt) (now tTx echo : BitVec 64) (rtt : Nat) : LinkSt :=
  { v with lastTx := tTx, lastRx := now, rtt := if echo = 0 then v.rtt else BitVec.ofNat 32 rtt }

/-- The round trip that a TIME cell gives (R486). -/
def roundTrip (now echo : BitVec 64) (residence : Word) : Nat := (now - echo).toNat - residence.toNat

/-- What a TIME cell does. -/
def State.takeTime (u : State) (h : CellHdr) (tTx : BitVec 64) (turn : BitVec 48) (echo : BitVec 64) (residence : Word) : State :=
  let c := u.modLink h.link.val (fun v => v.timed u.now tTx echo (roundTrip u.now echo residence))
  if decide (echo ≠ 0) && c.timeLink h.link.val h.acting then
    c.refEvent (.cell turn tTx) (tTx + BitVec.ofNat 64 (roundTrip u.now echo residence / 2)) (c.lenUs * 1000)
  else c

theorem exec_timeCell (s : State) (dt : Nat) (h : CellHdr) (tTx : BitVec 64) (turn : BitVec 48) (echo : BitVec 64) (residence : Word) :
    exec (.timeCell dt h tTx turn echo residence) s = s.at_ dt (fun u => u.cell h (fun u => u.takeTime h tTx turn echo residence)) := rfl

theorem State.timeLink_congr {a b : State} (htm : b.tm = a.tm) (hup : b.cs.upLink = a.cs.upLink) (l : Nat) (acting : Bool) :
    b.timeLink l acting = a.timeLink l acting := by
  unfold State.timeLink
  rw [htm, hup]

variable (hs : s.ready) (hg : s.goodCell dt h) (tTx : BitVec 64) (turn : BitVec 48) (echo : BitVec 64) (res : Word)
include hs hg

/-- The state in which a TIME cell's reference event is judged. -/
theorem State.takeTime_link : ∃ c : State, c = { s.elapse dt with cs := { s.cs with links := c.cs.links, upLink := c.cs.upLink }, rep := c.rep } ∧
    c.link h.link.val = ({ s.link h.link.val with
      lastCell := s.clock + dt, peerActing := h.acting, mgmt := ackMgmt h.ack (s.link h.link.val).mgmt } : LinkSt).timed
        (s.elapse dt).now tTx echo (roundTrip (s.elapse dt).now echo res) ∧
    s.Tells {} c.rep ∧ (s.chooseUp = s.cs.upLink → (s.link h.link.val).peerActing = h.acting → c.cs.upLink = s.cs.upLink) ∧
    (s.elapse dt).cell h (fun u => u.takeTime h tTx turn echo res) =
      if decide (echo ≠ 0) && c.timeLink h.link.val h.acting then
        c.refEvent (.cell turn tTx) (tTx + BitVec.ofNat 64 (roundTrip (s.elapse dt).now echo res / 2)) (s.lenUs * 1000)
      else c := by
  obtain ⟨b, hb, hf⟩ := State.cell_good hs hg
  obtain ⟨c, hc⟩ : ∃ c, b.modLink h.link.val (fun v => v.timed b.now tTx echo (roundTrip b.now echo res)) = c := ⟨_, rfl⟩
  have hnow : b.now = (s.elapse dt).now := by rw [hb.rest]
  have hlen : c.lenUs = s.lenUs := by
    rw [← State.elapse_lenUs s dt, ← hc, hb.rest]
    rfl
  refine ⟨c, ?_, ?_, ?_, fun h1 h2 => ?_, ?_⟩
  · rw [← hc, hb.rest]
    rfl
  · rw [← hc, State.modLink_link, hb.link, hnow]
  · rw [← hc]
    exact hb.tells
  · rw [← hc]
    exact hb.up h1 h2
  · rw [hf]
    unfold State.takeTime
    simp only
    rw [hc, hnow, hlen]

/-- A TIME cell that is no reference event (R61, R70, R486). -/
theorem answers_timeCell_noEvent (hn : echo = 0 ∨ s.tm.srcActive ≠ 3 ∨
    ((s.chooseUp = s.cs.upLink ∧ (s.link h.link.val).peerActing = h.acting) ∧ s.timeLink h.link.val h.acting = false) ∨
    s.tm.loadClk = some (s.clock + dt)) :
    Answers (.timeCell dt h tTx turn echo res) s (fun t =>
      t = { s.elapse dt with cs := { s.cs with links := t.cs.links, upLink := t.cs.upLink }, rep := t.rep } ∧
      t.link h.link.val = ({ s.link h.link.val with
        lastCell := s.clock + dt, peerActing := h.acting, mgmt := ackMgmt h.ack (s.link h.link.val).mgmt } : LinkSt).timed
          (s.elapse dt).now tTx echo (roundTrip (s.elapse dt).now echo res)) := by
  obtain ⟨c, hrest, hlink, htells, hup, hrow⟩ := State.takeTime_link hs hg tTx turn echo res
  have htm : c.tm = s.tm := by
    rw [hrest]
    exact State.elapse_tm s dt
  have hload : c.tm.loadClk = some c.clock ↔ s.tm.loadClk = some (s.clock + dt) := by
    rw [htm, hrest]
    show s.tm.loadClk = some (s.elapse dt).clock ↔ _
    rw [State.elapse_clock]
  have hrun : (s.elapse dt).cell h (fun u => u.takeTime h tTx turn echo res) = c := by
    rw [hrow]
    split
    · rename_i hc
      rw [Bool.and_eq_true, decide_eq_true_eq] at hc
      rcases hn with h0 | hsrc | ⟨⟨h1, h2⟩, h3⟩ | hl
      · exact absurd h0 hc.1
      · have := hc.2
        unfold State.timeLink at this
        rw [htm, decide_eq_false hsrc, Bool.false_and] at this
        cases this
      · rw [State.timeLink_congr htm (hup h1 h2), h3] at hc
        cases hc.2
      · exact State.refEvent_loaded (hload.2 hl)
    · rfl
  exact answers_tells hs (exec_timeCell s dt h tTx turn echo res) (v := c) hrun htells fun r told => ⟨by rw [hrest], hlink⟩

section
variable (hused : (s.chooseUp = s.cs.upLink ∧ (s.link h.link.val).peerActing = h.acting) ∧ echo ≠ 0 ∧
  s.timeLink h.link.val h.acting = true ∧ s.tm.loadClk ≠ some (s.clock + dt))
include hused

/-- One that is judged as a reference event. -/
theorem State.takeTime_event : ∃ c : State, c = { s.elapse dt with cs := { s.cs with links := c.cs.links, upLink := c.cs.upLink }, rep := c.rep } ∧
    c.link h.link.val = ({ s.link h.link.val with
      lastCell := s.clock + dt, peerActing := h.acting, mgmt := ackMgmt h.ack (s.link h.link.val).mgmt } : LinkSt).timed
        (s.elapse dt).now tTx echo (roundTrip (s.elapse dt).now echo res) ∧
    s.Tells {} c.rep ∧ c.tm.loadClk ≠ some c.clock ∧ (s.elapse dt).cell h (fun u => u.takeTime h tTx turn echo res) =
      c.refEvent (.cell turn tTx) (tTx + BitVec.ofNat 64 (roundTrip (s.elapse dt).now echo res / 2)) (s.lenUs * 1000) := by
  obtain ⟨⟨h1, h2⟩, h0, htime, hload⟩ := hused
  obtain ⟨c, hrest, hlink, htells, hup, hrow⟩ := State.takeTime_link hs hg tTx turn echo res
  have htm : c.tm = s.tm := by
    rw [hrest]
    exact State.elapse_tm s dt
  refine ⟨c, hrest, hlink, htells, ?_, ?_⟩
  · rw [htm, hrest]
    show s.tm.loadClk ≠ some (s.elapse dt).clock
    rw [State.elapse_clock]
    exact hload
  · rw [hrow, State.timeLink_congr htm (hup h1 h2), htime, decide_eq_true h0]
    rfl

variable {e : Int} (he : e = (tTx + BitVec.ofNat 64 (roundTrip (s.elapse dt).now echo res / 2) - (s.elapse dt).now).toInt)
include he

/-- In RUN a time cell of another turn, or half a turn off, is not used (R66). -/
theorem answers_timeCell_unused (hrun : s.dev.st = .run) (hoff : turn ≠ s.turnAt tTx ∨ s.lenUs * 1000 ≤ 2 * e.natAbs) :
    Answers (.timeCell dt h tTx turn echo res) s (fun t =>
      t = { s.elapse dt with cs := { s.cs with links := t.cs.links, upLink := t.cs.upLink }, tm := t.tm, rep := t.rep } ∧
      t.link h.link.val = ({ s.link h.link.val with
        lastCell := s.clock + dt, peerActing := h.acting, mgmt := ackMgmt h.ack (s.link h.link.val).mgmt } : LinkSt).timed
          (s.elapse dt).now tTx echo (roundTrip (s.elapse dt).now echo res) ∧
      t.tm = s.tm.unused e ∧ s.counts t 5122 1 ∧ (s.tm.mismatch = false → s.raises t 0x049)) := by
  obtain ⟨c, hrest, hlink, htells, hload, hrow⟩ := State.takeTime_event hs hg tTx turn echo res hused
  obtain ⟨htm, hlive, hdev, hnow, hturn, hlen⟩ : c.tm = s.tm ∧ c.regs.live = s.regs.live ∧ c.dev = s.dev ∧ c.now = (s.elapse dt).now ∧
      c.turnAt tTx = s.turnAt tTx ∧ c.lenUs = s.lenUs := by
    rw [hrest, State.elapse_eq]
    exact ⟨rfl, rfl, rfl, rfl, rfl, rfl⟩
  have hec : (tTx + BitVec.ofNat 64 (roundTrip (s.elapse dt).now echo res / 2) - c.now).toInt = e := by rw [hnow, he]
  rw [State.refEvent_cell_unused hload (by rw [hdev]; exact hrun) (by rw [hturn, hlen, hec]; exact hoff), hec] at hrow
  obtain ⟨hw, K, hK, hcount, hraise⟩ := State.unusedCell_spec htells hlive e
  generalize c.unusedCell e = w at hw hK hrow
  rw [htm] at hw
  refine answers_tells hs (exec_timeCell s dt h tTx turn echo res) (v := w) (r := w.rep) hrow hK fun r told => ⟨?_, ?_, ?_,
    told.counts _ hcount, fun hm => told.raises _ (hraise (by rw [htm]; exact hm))⟩
  · rw [hw, hrest]
  · rw [hw]
    exact hlink
  · rw [hw]

/-- In RUN another one is accepted (R63, R67, R486). -/
theorem answers_timeCell_accepted (hrun : s.dev.st = .run) (hoff : ¬(turn ≠ s.turnAt tTx ∨ s.lenUs * 1000 ≤ 2 * e.natAbs)) :
    Answers (.timeCell dt h tTx turn echo res) s (fun t =>
      t = { s.elapse dt with cs := { s.cs with links := t.cs.links, upLink := t.cs.upLink }, tm := t.tm, rep := t.rep } ∧
      t.link h.link.val = ({ s.link h.link.val with
        lastCell := s.clock + dt, peerActing := h.acting, mgmt := ackMgmt h.ack (s.link h.link.val).mgmt } : LinkSt).timed
          (s.elapse dt).now tTx echo (roundTrip (s.elapse dt).now echo res) ∧
      t.tm.phaseTerm = (e : Rat) / (16 * (s.lenUs * 1000 : Nat)) ∧
      t.tm.freqTerm = (if s.tm.locked then s.tm.freqTerm + (e : Rat) / (256 * (s.lenUs * 1000 : Nat)) else s.tm.freqTerm) ∧
      t.tm.phaseErr = satErr e ∧ t.tm.holdover = false ∧ t.tm.acceptedAt = t.clock ∧ t.tm.turn = s.tm.turn ∧
      t.tm.mismatch = s.tm.mismatch) := by
  obtain ⟨c, hrest, hlink, htells, hload, hrow⟩ := State.takeTime_event hs hg tTx turn echo res hused
  obtain ⟨htm, hdev, hnow, hturn, hlen⟩ : c.tm = s.tm ∧ c.dev = s.dev ∧ c.now = (s.elapse dt).now ∧
      c.turnAt tTx = s.turnAt tTx ∧ c.lenUs = s.lenUs := by
    rw [hrest, State.elapse_eq]
    exact ⟨rfl, rfl, rfl, rfl, rfl⟩
  have hrun' : c.dev.st = .run := by rw [hdev]; exact hrun
  have hec : (tTx + BitVec.ofNat 64 (roundTrip (s.elapse dt).now echo res / 2) - c.now).toInt = e := by rw [hnow, he]
  rw [State.refEvent_cell_accepted hload (.inr (by rw [hturn, hlen, hec]; exact hoff)), hec] at hrow
  have hw := State.acceptEvent_run hrun' e (k := .cell turn tTx)
    (target := tTx + BitVec.ofNat 64 (roundTrip (s.elapse dt).now echo res / 2)) (p := s.lenUs * 1000)
  have hK := htells.acceptEvent_run hrun' e (k := .cell turn tTx)
    (target := tTx + BitVec.ofNat 64 (roundTrip (s.elapse dt).now echo res / 2)) (p := s.lenUs * 1000)
  generalize c.acceptEvent _ _ e (s.lenUs * 1000) = w at hw hK hrow
  rw [htm] at hw
  have hwtm : w.tm = { s.tm.accept true e (s.lenUs * 1000) c.clock with devLimit := w.tm.devLimit } := (congrArg (fun x : State => x.tm) hw).trans rfl
  have hwclock : w.clock = c.clock := (congrArg (fun x : State => x.clock) hw).trans rfl
  refine answers_tells hs (exec_timeCell s dt h tTx turn echo res) (v := w) (r := w.rep) hrow hK fun r told => ⟨?_, ?_, ?_⟩
  · rw [hw, hrest]
  · rw [hw]
    exact hlink
  · show w.tm.phaseTerm = _ ∧ w.tm.freqTerm = _ ∧ w.tm.phaseErr = _ ∧ w.tm.holdover = _ ∧ w.tm.acceptedAt = w.clock ∧ w.tm.turn = _ ∧
      w.tm.mismatch = _
    rw [hwtm, hwclock]
    exact ⟨rfl, rfl, rfl, rfl, rfl, rfl, rfl⟩

/-- In SET-UP the first one that is more than 1 µs off steps the time base (R64, R487). -/
theorem answers_timeCell_step (hst : s.dev.st = .setUp) (hstep : s.tm.stepped = false) (hfar : 1000 < e.natAbs) :
    Answers (.timeCell dt h tTx turn echo res) s (fun t =>
      t = { s.elapse dt with
        cs := { s.cs with links := t.cs.links, upLink := t.cs.upLink }, tm := t.tm, rep := t.rep
        now := tTx + BitVec.ofNat 64 (roundTrip (s.elapse dt).now echo res / 2), frac := 0 } ∧
      t.link h.link.val = ({ s.link h.link.val with
        lastCell := s.clock + dt, peerActing := h.acting, mgmt := ackMgmt h.ack (s.link h.link.val).mgmt } : LinkSt).timed
          (s.elapse dt).now tTx echo (roundTrip (s.elapse dt).now echo res) ∧
      t.tm.stepped = true ∧ t.tm.cellTurn = some turn ∧ t.tm.mismatch = false ∧ t.tm.turn = s.tm.turn) := by
  obtain ⟨c, hrest, hlink, htells, hload, hrow⟩ := State.takeTime_event hs hg tTx turn echo res hused
  obtain ⟨htm, hdev, hnow⟩ : c.tm = s.tm ∧ c.dev = s.dev ∧ c.now = (s.elapse dt).now := by
    rw [hrest, State.elapse_eq]
    exact ⟨rfl, rfl, rfl⟩
  have hec : (tTx + BitVec.ofNat 64 (roundTrip (s.elapse dt).now echo res / 2) - c.now).toInt = e := by rw [hnow, he]
  rw [State.refEvent_cell_accepted hload (.inl (by rw [hdev, hst]; decide)), hec] at hrow
  obtain ⟨w, hw, hwo, hK, h1, h2, h3, h4⟩ := State.acceptEvent_step (turn := turn) (sent := tTx) (p := s.lenUs * 1000)
    (target := tTx + BitVec.ofNat 64 (roundTrip (s.elapse dt).now echo res / 2)) htells (by rw [hdev]; exact hst) (by rw [htm]; exact hstep) hfar
  rw [hw] at hrow
  refine answers_tells hs (exec_timeCell s dt h tTx turn echo res) (v := w) (r := w.rep) hrow hK fun r told => ⟨?_, ?_, h1, h2, h3,
    h4.trans (congrArg TurnSt.turn htm)⟩
  · rw [hwo, hrest]
  · rw [hwo]
    exact hlink

end

end

end Sys2Proof.Machine
end

section
/-!
PROOFS. HEART, AGREE and MGMT cells (R438 to R440, R456, R464, R468, R482, R495).
-/

namespace Sys2Proof.Machine

section
variable {s : State} {dt : Nat} {h : CellHdr}

/-- The link of a cell that has been taken. -/
def State.linkTaken (s : State) (dt : Nat) (h : CellHdr) : LinkSt :=
  { s.link h.link.val with lastCell := s.clock + dt, peerActing := h.acting, mgmt := ackMgmt h.ack (s.link h.link.val).mgmt }

theorem State.setMem_self (a : State) (j : Nat) (m : PlyMem) : (a.setMem j m).mem j = m := Tbl.lookD_put_self _ _ _ _

theorem State.setMem_ne (a : State) {i j : Nat} (m : PlyMem) (h : i ≠ j) : (a.setMem j m).mem i = a.mem i := Tbl.lookD_put_ne _ _ _ _ h

/-- From a to b what one member is known to be becomes m. -/
structure State.MemStep (j : Nat) (m : PlyMem) (a b : State) : Prop where
  rest : b = { a with pl := { a.pl with mems := b.pl.mems } }
  self : b.mem j = m
  others : ∀ i, i ≠ j → b.mem i = a.mem i

theorem State.memStep_set (a : State) (j : Nat) (m : PlyMem) : State.MemStep j m a (a.setMem j m) :=
  ⟨rfl, a.setMem_self j m, fun _ hi => a.setMem_ne m hi⟩

theorem State.MemStep.modMem {a b : State} {j : Nat} {m : PlyMem} (h : State.MemStep j m a b) (f : PlyMem → PlyMem) :
    State.MemStep j (f m) a (b.modMem j f) := by
  have hs := b.memStep_set j (f (b.mem j))
  have hb : b.modMem j f = b.setMem j (f (b.mem j)) := rfl
  rw [hb]
  refine ⟨by rw [hs.rest, h.rest], by rw [hs.self, h.self], fun i hi => (hs.others i hi).trans (h.others i hi)⟩

theorem State.TakesCell.mem {b : State} (hb : s.TakesCell dt h b) (j : Nat) : b.mem j = s.mem j := by
  rw [hb.rest, State.elapse_eq]
  rfl

theorem State.TakesCell.pl {b : State} (hb : s.TakesCell dt h b) : b.pl = s.pl := by rw [hb.rest, State.elapse_eq]

theorem State.TakesCell.tm {b : State} (hb : s.TakesCell dt h b) : b.tm = s.tm := by
  rw [hb.rest]
  exact State.elapse_tm s dt

theorem State.TakesCell.live {b : State} (hb : s.TakesCell dt h b) : b.regs.live = s.regs.live := by
  rw [hb.rest]
  exact congrArg RegSt.live (State.elapse_regs s dt)

/-- What a cell of the ply leaves where it changes what one member is known to be. -/
def State.memCell (s : State) (dt : Nat) (h : CellHdr) (j : Nat) (m : PlyMem) (t : State) : Prop :=
  t = { s.elapse dt with
    cs := { s.cs with links := t.cs.links, upLink := t.cs.upLink }, rep := t.rep, pl := { s.pl with mems := t.pl.mems } } ∧
  t.link h.link.val = s.linkTaken dt h ∧ t.mem j = m ∧ ∀ i, i ≠ j → t.mem i = s.mem i

variable (hs : s.ready) (hg : s.goodCell dt h) {c : Instr} {f : State → State} (hc : exec c s = s.at_ dt (fun u => u.cell h f))
include hs hg hc

/-- A cell whose kind asks for nothing. -/
theorem answers_cell_alone (hf : ∀ b, s.TakesCell dt h b → f b = b) : Answers c s (fun t =>
    t = { s.elapse dt with cs := { s.cs with links := t.cs.links, upLink := t.cs.upLink }, rep := t.rep } ∧
    t.link h.link.val = s.linkTaken dt h) := by
  obtain ⟨b, hb, hrun⟩ := State.cell_good hs hg
  exact answers_tells hs hc (v := b) ((hrun f).trans (hf b hb)) hb.tells fun r told => ⟨by rw [hb.rest], hb.link⟩

/-- A cell that changes what one member is known to be. -/
theorem answers_cell_mem {j : Nat} {m : PlyMem} (hf : ∀ b, s.TakesCell dt h b → State.MemStep j m b (f b)) :
    Answers c s (s.memCell dt h j m) := by
  obtain ⟨b, hb, hrun⟩ := State.cell_good hs hg
  obtain ⟨hrest, hself, hne⟩ := hf b hb
  have hrow := hrun f
  generalize f b = w at hrest hself hne hrow
  rw [hb.pl] at hrest
  have htells : s.Tells {} w.rep := by
    rw [hrest]
    exact hb.tells
  refine answers_tells hs hc (v := w) (r := w.rep) hrow htells fun r told => ⟨?_, ?_, hself, fun i hi => (hne i hi).trans (hb.mem i)⟩
  · rw [hrest, hb.rest]
  · rw [hrest]
    exact hb.link

/-- A cell whose kind only reports. -/
theorem answers_cell_reports {k : Account} (hf : ∀ b, s.TakesCell dt h b → State.RepOnly b (f b) ∧ s.Tells k (f b).rep) {P : State → Prop}
    (hP : ∀ t, t = { s.elapse dt with cs := { s.cs with links := t.cs.links, upLink := t.cs.upLink }, rep := t.rep } →
      t.link h.link.val = s.linkTaken dt h → s.Told k t → P t) : Answers c s P := by
  obtain ⟨b, hb, hrun⟩ := State.cell_good hs hg
  obtain ⟨hrep, htells⟩ := hf b hb
  have hrow := hrun f
  generalize f b = w at hrep htells hrow
  exact answers_tells hs hc (v := b) (r := w.rep) (hrow.trans hrep) htells fun r told => hP _ (by rw [hb.rest]) hb.link told

end

/-! ## HEART cells -/

/-- What a HEART cell does. -/
def State.takeHeart (u : State) (h : CellHdr) (b : Beat) (crc : Word) (x y : Fin 256) : State :=
  if u.plyLink h.link.val then
    if (u.hear false b).others.contains b.member then
      (u.hear false b).modMem b.member (fun m => { m with crc := crc, syncNext := x.val, syncDone := y.val })
    else u.hear false b
  else u

theorem exec_heartCell (s : State) (dt : Nat) (h : CellHdr) (b : Beat) (crc : Word) (x y : Fin 256) :
    exec (.heartCell dt h b crc x y) s = s.at_ dt (fun u => u.cell h (fun u => u.takeHeart h b crc x y)) := rfl

/-- A member that is heard over a link. -/
def PlyMem.heard (m : PlyMem) (b : Beat) : PlyMem :=
  { m with last := some b, lease := if b.role = 3 then some b.leaseEnd else m.lease, link := some b }

section
variable {s : State} {dt : Nat} {h : CellHdr} (hs : s.ready) (hg : s.goodCell dt h) (b : Beat) (crc : Word) (x y : Fin 256)

/-- A heartbeat of this ply and turn makes its member heard (R438 to R440). -/
theorem State.hear_link {u : State} (htag : b.tag = u.plTag) (hturn : b.turn = u.tm.turn) (hrole : b.role ≤ 4)
    (hmem : u.others.contains b.member = true) : u.hear false b = u.setMem b.member ((u.mem b.member).heard b) := by
  unfold State.hear State.plyCheck
  rw [if_neg (not_not.2 htag), decide_eq_true hturn, if_neg (by decide)]
  simp only
  rw [if_neg (by rw [hmem, decide_eq_false (Nat.not_lt.2 hrole)]; decide)]
  rfl

include hs hg

theorem answers_heartCell_off (hl : s.plyLink h.link.val = false) : Answers (.heartCell dt h b crc x y) s (fun t =>
    t = { s.elapse dt with cs := { s.cs with links := t.cs.links, upLink := t.cs.upLink }, rep := t.rep } ∧
    t.link h.link.val = s.linkTaken dt h) := by
  refine answers_cell_alone hs hg (exec_heartCell s dt h b crc x y) fun a ha => ?_
  unfold State.takeHeart
  rw [if_neg (by rw [ha.plyLink, hl]; exact Bool.false_ne_true)]

theorem answers_heartCell (hl : s.plyLink h.link.val = true) (htag : b.tag = s.plTag) (hturn : b.turn = s.tm.turn) (hrole : b.role ≤ 4)
    (hmem : s.others.contains b.member = true) : Answers (.heartCell dt h b crc x y) s (s.memCell dt h b.member
      { (s.mem b.member).heard b with crc := crc, syncNext := x.val, syncDone := y.val }) := by
  refine answers_cell_mem hs hg (exec_heartCell s dt h b crc x y) fun a ha => ?_
  have hothers : a.others = s.others := by
    rw [ha.rest, State.elapse_eq]
    rfl
  have hear := State.hear_link (u := a) b (htag.trans ha.plTag.symm) (hturn.trans (congrArg TurnSt.turn ha.tm.symm)) hrole (hothers ▸ hmem)
  have hstep := a.memStep_set b.member ((s.mem b.member).heard b)
  rw [ha.mem] at hear
  have hmem' : (a.setMem b.member ((s.mem b.member).heard b)).others.contains b.member = true := hothers ▸ hmem
  unfold State.takeHeart
  rw [if_pos (by rw [ha.plyLink, hl]), hear, if_pos hmem']
  exact hstep.modMem (fun m => { m with crc := crc, syncNext := x.val, syncDone := y.val })

end

/-! ## AGREE cells -/

/-- What an AGREE cell does. -/
def State.takeAgree (u : State) (h : CellHdr) (b : AgreeBody) (cont : Bool) : State :=
  if u.plyLink h.link.val = false then u
  else
    match b with
    | .taps l x =>
      if u.tm.agreeDone then (if cont then u else u.lateSet)
      else
        u.modMem (u.peerOf h.link.val) (fun m =>
          let p : AgreeSet := { taps := m.agreePart.taps ++ l, comps := m.agreePart.comps ++ x }
          if cont then { m with agreePart := p } else { m with agreePart := {}, agree := some p })
    | .outs l =>
      if u.tm.releaseDone then (if cont then u else u.lateSet)
      else
        u.modMem (u.peerOf h.link.val) (fun m =>
          let p := m.outPart ++ l
          if cont then { m with outPart := p } else { m with outPart := [], outs := some p })

theorem exec_agreeCell (s : State) (dt : Nat) (h : CellHdr) (b : AgreeBody) (cont : Bool) :
    exec (.agreeCell dt h b cont) s = s.at_ dt (fun u => u.cell h (fun u => u.takeAgree h b cont)) := rfl

section
variable {s : State} {dt : Nat} {h : CellHdr} (hs : s.ready) (hg : s.goodCell dt h)

theorem State.TakesCell.peerOf {b : State} (hb : s.TakesCell dt h b) (l : Nat) : b.peerOf l = s.peerOf l := by
  rw [hb.rest, State.elapse_eq]
  rfl

include hs hg

theorem answers_agreeCell_off (b : AgreeBody) (cont : Bool) (hl : s.plyLink h.link.val = false) : Answers (.agreeCell dt h b cont) s (fun t =>
    t = { s.elapse dt with cs := { s.cs with links := t.cs.links, upLink := t.cs.upLink }, rep := t.rep } ∧
    t.link h.link.val = s.linkTaken dt h) := by
  refine answers_cell_alone hs hg (exec_agreeCell s dt h b cont) fun a ha => ?_
  unfold State.takeAgree
  rw [if_pos (by rw [ha.plyLink, hl])]

variable (hl : s.plyLink h.link.val = true)
include hl

/-- The last AGREE cell completes the set of its member (R456). -/
theorem answers_agreeCell_taps (v : List (Word × Bool)) (x : List Bool) (hdone : s.tm.agreeDone = false) :
    Answers (.agreeCell dt h (.taps v x) false) s (s.memCell dt h (s.peerOf h.link.val)
      { s.mem (s.peerOf h.link.val) with
        agreePart := {}
        agree := some { taps := (s.mem (s.peerOf h.link.val)).agreePart.taps ++ v, comps := (s.mem (s.peerOf h.link.val)).agreePart.comps ++ x } }) := by
  refine answers_cell_mem hs hg (exec_agreeCell s dt h _ _) fun a ha => ?_
  unfold State.takeAgree
  rw [if_neg (by rw [ha.plyLink, hl]; decide)]
  simp only
  rw [if_neg (by rw [ha.tm, hdone]; decide), ha.peerOf, ← ha.mem]
  exact a.memStep_set _ _

theorem answers_agreeCell_outs (v : List SinkVal) (hdone : s.tm.releaseDone = false) :
    Answers (.agreeCell dt h (.outs v) false) s (s.memCell dt h (s.peerOf h.link.val)
      { s.mem (s.peerOf h.link.val) with outPart := [], outs := some ((s.mem (s.peerOf h.link.val)).outPart ++ v) }) := by
  refine answers_cell_mem hs hg (exec_agreeCell s dt h _ _) fun a ha => ?_
  unfold State.takeAgree
  rw [if_neg (by rw [ha.plyLink, hl]; decide)]
  simp only
  rw [if_neg (by rw [ha.tm, hdone]; decide), ha.peerOf, ← ha.mem]
  exact a.memStep_set _ _

/-- A set that is complete too late is discarded (R456). -/
theorem answers_agreeCell_late (b : AgreeBody) (hdone : (∃ v x, b = .taps v x ∧ s.tm.agreeDone = true) ∨ ∃ v, b = .outs v ∧ s.tm.releaseDone = true) :
    Answers (.agreeCell dt h b false) s (fun t =>
      t = { s.elapse dt with cs := { s.cs with links := t.cs.links, upLink := t.cs.upLink }, rep := t.rep } ∧
      t.link h.link.val = s.linkTaken dt h ∧ s.counts t 5889 1 ∧ (s.rep.first.contains 0x30B = false → s.raises t 0x30B)) := by
  refine answers_cell_reports hs hg (exec_agreeCell s dt h b false) (k := { cts := [(5889, 1)], once := [(0x30B, 0x30B)], tags := [0x30B] })
    (fun a ha => ?_) fun t h1 h2 told => ⟨h1, h2, told.counts _ List.mem_cons_self, told.once _ List.mem_cons_self⟩
  have hlate : a.takeAgree h b false = a.lateSet := by
    unfold State.takeAgree
    rw [if_neg (by rw [ha.plyLink, hl]; decide)]
    rcases hdone with ⟨v, x, rfl, hd⟩ | ⟨v, rfl, hd⟩
    · simp only
      rw [if_pos (by rw [ha.tm, hd])]
      rfl
    · simp only
      rw [if_pos (by rw [ha.tm, hd])]
      rfl
  rw [hlate]
  exact ⟨((State.RepOnly.refl a).count 5889).raiseOnce _ _, State.Tells.raiseFirst (b := a.count 5889) (ha.tells.count 5889) 0x30B 0x30B ha.live (by simp)⟩

end

/-! ## MGMT cells -/

/-- What a MGMT cell does. -/
def State.takeMgmtCell (u : State) (h : CellHdr) (q : Fin 256) (m : MgmtBody) : State :=
  if q.val = ((u.link h.link.val).ackIn + 1) % 256 then
    (u.modLink h.link.val (fun v => { v with ackIn := q.val })).takeMgmt h.link.val m
  else u

theorem exec_mgmtCell (s : State) (dt : Nat) (h : CellHdr) (q : Fin 256) (m : MgmtBody) :
    exec (.mgmtCell dt h q m) s = s.at_ dt (fun u => u.cell h (fun u => u.takeMgmtCell h q m)) := rfl

section
variable {s : State} {dt : Nat} {h : CellHdr} (hs : s.ready) (hg : s.goodCell dt h) (q : Fin 256) (m : MgmtBody)
include hs hg

/-- One out of order is not taken (R482). -/
theorem answers_mgmtCell_skipped (hq : q.val ≠ ((s.link h.link.val).ackIn + 1) % 256) : Answers (.mgmtCell dt h q m) s (fun t =>
    t = { s.elapse dt with cs := { s.cs with links := t.cs.links, upLink := t.cs.upLink }, rep := t.rep } ∧
    t.link h.link.val = s.linkTaken dt h) := by
  refine answers_cell_alone hs hg (exec_mgmtCell s dt h q m) fun a ha => ?_
  unfold State.takeMgmtCell
  rw [if_neg (by rw [ha.link]; exact hq)]

variable (hq : q.val = ((s.link h.link.val).ackIn + 1) % 256)
include hq

/-- One in order is acknowledged, and its message is taken. -/
theorem State.takeMgmtCell_inOrder : ∃ b : State,
    b = { s.elapse dt with cs := { s.cs with links := b.cs.links, upLink := b.cs.upLink }, rep := b.rep } ∧
    b.link h.link.val = { s.linkTaken dt h with ackIn := q.val } ∧ s.Tells {} b.rep ∧
    (s.elapse dt).cell h (fun u => u.takeMgmtCell h q m) = b.takeMgmt h.link.val m := by
  obtain ⟨a, ha, hrun⟩ := State.cell_good hs hg
  obtain ⟨b, hb⟩ : ∃ b, a.modLink h.link.val (fun v => { v with ackIn := q.val }) = b := ⟨_, rfl⟩
  refine ⟨b, ?_, ?_, ?_, ?_⟩
  · rw [← hb, ha.rest]
    rfl
  · rw [← hb, State.modLink_link, ha.link]
    rfl
  · rw [← hb]
    exact ha.tells
  · rw [hrun]
    unfold State.takeMgmtCell
    rw [if_pos (by rw [ha.link]; exact hq), hb]

/-- A message that only reports. -/
theorem answers_mgmtCell_reports {k : Account} (hf : ∀ b : State, b.regs.live = s.regs.live → s.Tells {} b.rep →
      State.RepOnly b (b.takeMgmt h.link.val m) ∧ s.Tells k (b.takeMgmt h.link.val m).rep) {P : State → Prop}
    (hP : ∀ t, t = { s.elapse dt with cs := { s.cs with links := t.cs.links, upLink := t.cs.upLink }, rep := t.rep } →
      t.link h.link.val = { s.linkTaken dt h with ackIn := q.val } → s.Told k t → P t) : Answers (.mgmtCell dt h q m) s P := by
  obtain ⟨b, hrest, hlink, htells, hrow⟩ := State.takeMgmtCell_inOrder hs hg q m hq
  have hlive : b.regs.live = s.regs.live := by
    rw [hrest]
    exact congrArg RegSt.live (State.elapse_regs s dt)
  obtain ⟨hrep, hK⟩ := hf b hlive htells
  generalize b.takeMgmt h.link.val m = w at hrow hrep hK
  exact answers_tells hs (exec_mgmtCell s dt h q m) (v := b) (r := w.rep) (hrow.trans hrep) hK fun r told => hP _ (by rw [hrest]) hlink told

/-- A message that changes the ply. -/
theorem answers_mgmtCell_ply {p : PlySt} (hf : ∀ b : State, b.plyLink h.link.val = s.plyLink h.link.val → b.pl = s.pl →
      b.takeMgmt h.link.val m = { b with pl := p }) : Answers (.mgmtCell dt h q m) s (fun t =>
    t.link h.link.val = { s.linkTaken dt h with ackIn := q.val } ∧
    t = { s.elapse dt with cs := { s.cs with links := t.cs.links, upLink := t.cs.upLink }, rep := t.rep, pl := p }) := by
  obtain ⟨b, hrest, hlink, htells, hrow⟩ := State.takeMgmtCell_inOrder hs hg q m hq
  have hply : b.plyLink h.link.val = s.plyLink h.link.val := by
    rw [← s.elapse_plyLink dt, hrest]
    rfl
  have hpl : b.pl = s.pl := by rw [hrest, State.elapse_eq]
  rw [hf b hply hpl] at hrow
  exact answers_tells hs (exec_mgmtCell s dt h q m) (v := { b with pl := p }) hrow htells fun r told => ⟨hlink, by rw [hrest]⟩

end

end Sys2Proof.Machine
end

section
/-!
PROOFS. RELAY cells (R487, R489, R490, R492), and the obligation about cells.
-/

namespace Sys2Proof.Machine

/-! ## A relayed frame arrives -/

/-- State c is state s, time having passed, when a relayed frame has arrived whole with a cell. -/
structure State.RelayAt (s : State) (dt : Nat) (h : CellHdr) (c : State) : Prop where
  rest : c = { s.elapse dt with cs := { s.cs with links := c.cs.links, upLink := c.cs.upLink, relPart := c.cs.relPart }, rep := c.rep }
  st : ∀ k, (c.link k).st = (s.link k).st
  hears : s.Hears {} c.rep
  up : s.chooseUp = s.cs.upLink → (s.link h.link.val).peerActing = h.acting → c.cs.upLink = s.cs.upLink

section
variable {s b c : State} {dt : Nat} {h : CellHdr}

theorem State.TakesCell.relayAt (hb : s.TakesCell dt h b) : s.RelayAt dt h b :=
  ⟨by rw [hb.rest], hb.st, hb.tells.hears, hb.up⟩

theorem State.RelayAt.part (hc : s.RelayAt dt h c) (p : Tbl (Sys2Proof.Frame × FrameTag)) :
    s.RelayAt dt h { c with cs := { c.cs with relPart := p } } := by
  refine ⟨?_, hc.st, hc.hears, hc.up⟩
  have := hc.rest
  rw [this]

variable (hc : s.RelayAt dt h c) {r : Nat}
include hc

theorem State.RelayAt.rly0 (r : Nat) : c.rly0 r = s.rly0 r := by
  rw [hc.rest]
  rfl

theorem State.RelayAt.relayOn (r : Nat) : c.relayOn r = s.relayOn r := congrArg (fun w => bitOf w 0) (hc.rly0 r)

theorem State.RelayAt.relaySide (r : Nat) : c.relaySide r = s.relaySide r := by
  unfold State.relaySide
  rw [hc.rly0]

theorem State.RelayAt.relayOut (h1 : s.chooseUp = s.cs.upLink) (h2 : (s.link h.link.val).peerActing = h.acting) (r : Nat) :
    c.relayOut r = s.relayOut r := by
  have hup : ∀ k, c.linkIsUp k = s.linkIsUp k := fun k => by
    unfold State.linkIsUp
    rw [hc.st]
  unfold State.relayOut
  simp only [hc.rly0, hc.up h1 h2, hup]

theorem State.RelayAt.creel : c.cr = s.cr ∧ c.sharedFree = s.sharedFree ∧ c.bobFree = s.bobFree ∧ c.nextBob = s.nextBob ∧
    c.cs.queue = s.cs.queue ∧ c.stream = s.stream ∧ c.acts = s.acts := by
  rw [hc.rest, State.elapse_eq]
  exact ⟨rfl, rfl, rfl, rfl, rfl, rfl, rfl⟩

/-- It is dropped where its entry is disabled. -/
theorem State.RelayAt.arrive_off (hon : s.relayOn r = false) (l : Nat) (f : Sys2Proof.Frame) (g : FrameTag) :
    c.relayArrive r l f g = c.relayDrop r l 2 := by
  unfold State.relayArrive
  rw [if_pos (by rw [hc.relayOn, hon])]

/-- It is taken as the data of a stream, by a device that acts, where its entry is LOCAL. -/
theorem State.RelayAt.arrive_local (hon : s.relayOn r = true) (hl : fieldOf (s.rly0 r) 1 2 = 2) (l : Nat) (f : Sys2Proof.Frame) (g : FrameTag) :
    c.relayArrive r l f g = c.relayLocal r l f := by
  unfold State.relayArrive
  rw [if_neg (by rw [hc.relayOn, hon]; decide), if_pos (by rw [hc.rly0]; exact hl)]

section
variable (h1 : s.chooseUp = s.cs.upLink) (h2 : (s.link h.link.val).peerActing = h.acting) (hon : s.relayOn r = true)
  (hsend : fieldOf (s.rly0 r) 1 2 ≠ 2)
include h1 h2 hon hsend

/-- It is dropped where its link is not UP. -/
theorem State.RelayAt.arrive_noLink (ho : s.relayOut r = none) (l : Nat) (f : Sys2Proof.Frame) (g : FrameTag) :
    c.relayArrive r l f g = c.relayDrop r (s.relaySide r) 0 := by
  unfold State.relayArrive
  rw [if_neg (by rw [hc.relayOn, hon]; decide), if_neg (by rw [hc.rly0]; exact hsend), hc.relayOut h1 h2, ho, hc.relaySide]

/-- It is dropped where no bobbin is free. -/
theorem State.RelayAt.arrive_noRoom {k : Nat} (ho : s.relayOut r = some k) (hn : ¬(0 < s.sharedFree ∧ 0 < s.bobFree)) (l : Nat) (f : Sys2Proof.Frame)
    (g : FrameTag) : c.relayArrive r l f g = c.relayDrop r l 1 := by
  obtain ⟨-, hsh, hfree, -⟩ := hc.creel
  unfold State.relayArrive
  rw [if_neg (by rw [hc.relayOn, hon]; decide), if_neg (by rw [hc.rly0]; exact hsend), hc.relayOut h1 h2, ho]
  simp only
  rw [if_neg (by rw [hsh, hfree]; exact hn)]

/-- Else it joins the queue of its entry with a bobbin that keeps what the cell says of it. -/
theorem State.RelayAt.arrive_queued {k : Nat} (ho : s.relayOut r = some k) (hroom : 0 < s.sharedFree ∧ 0 < s.bobFree) (l : Nat) (f : Sys2Proof.Frame)
    (g : FrameTag) : ∃ w, c.relayArrive r l f g = w ∧
      w = { c with cs := { c.cs with queue := w.cs.queue }, cr := w.cr, rep := w.rep } ∧ s.Hears {} w.rep ∧
      w.cs.queue = s.cs.queue ++ [(r, s.nextBob)] ∧
      ∃ x, w.bob s.nextBob = some x ∧ x.frame = f ∧ x.tag = g ∧ x.holders = 1 := by
  obtain ⟨-, hsh, hfree, hnext, hq, -⟩ := hc.creel
  obtain ⟨x, hx⟩ : ∃ x : Bobbin,
    { frame := f, dur := g.dur, poison := g.poison, errt := g.errt, time := g.time, ch := 0, loopback := false, cls := .relay
      holders := 1 } = x := ⟨_, rfl⟩
  obtain ⟨u, hu⟩ : ∃ u : State, { c with cr := { c.cr with
    bobs := Tbl.ins c.cr.bobs c.nextBob x, use := Tbl.put c.cr.use x.ch {} ((c.use x.ch).upd x.cls (· + 1)) } } = u := ⟨_, rfl⟩
  have hrow : c.relayArrive r l f g = u.refreshLow.relayQueue r s.nextBob := by
    unfold State.relayArrive
    rw [if_neg (by rw [hc.relayOn, hon]; decide), if_neg (by rw [hc.rly0]; exact hsend), hc.relayOut h1 h2, ho]
    simp only
    rw [if_pos (by rw [hsh, hfree]; exact hroom), hx, ← hu, ← hnext]
    rfl
  have hbob : u.bob s.nextBob = some x := by
    rw [← hu, ← hnext]
    exact Tbl.look_ins_self _ _ _
  have hur : u.rep = c.rep := hu ▸ rfl
  have huo : u = { c with cr := u.cr } := hu ▸ rfl
  obtain ⟨e1, e2, e3, e4⟩ := u.refreshLow_spec
  rw [hur] at e3 e4
  have hq' : u.refreshLow.cs.queue = s.cs.queue := by rw [e1, huo]; exact hq
  have hbob' := (e2 s.nextBob).trans hbob
  have hrest : u.refreshLow = { c with cr := u.refreshLow.cr, rep := u.refreshLow.rep } := by rw [e1, huo]
  have hear := hc.hears.mono e3 e4
  generalize u.refreshLow = v at hrow hq' hbob' hrest hear
  refine ⟨_, hrow, ?_, hear, congrArg (· ++ [(r, s.nextBob)]) hq', x, hbob', ?_⟩
  · rw [hrest]
    rfl
  · rw [← hx]
    exact ⟨rfl, rfl, rfl⟩

end

end

/-! ## RELAY cells -/

/-- What a RELAY cell does. -/
def State.takeRelay (u : State) (h : CellHdr) (entry : Nat) (second : Bool) (f : Sys2Proof.Frame) (g : FrameTag) : State :=
  let key := 4096 * h.link.val + entry
  if u.plyLink h.link.val then u
  else if second then
    match Tbl.look u.cs.relPart key with
    | none => u
    | some x =>
      ({ u with cs := { u.cs with relPart := Tbl.del u.cs.relPart key } } : State).relayArrive entry h.link.val
        { x.1 with data := (x.1.data ++ f.data).take 64 } x.2
  else if (if f.rtr then 0 else dlcBytes f.fdf f.dlc.toNat) > 32 then
    { u with cs := { u.cs with relPart := Tbl.ins u.cs.relPart key (f, g) } }
  else u.relayArrive entry h.link.val f g

theorem exec_relayCell (s : State) (dt : Nat) (h : CellHdr) (r : Fin 4096) (second : Bool) (f : Sys2Proof.Frame) (g : FrameTag) :
    exec (.relayCell dt h r second { frame := f, tag := g }) s = s.at_ dt (fun u => u.cell h (fun u => u.takeRelay h r.val second f g)) := rfl

section
variable {b : State} {h : CellHdr} {e : Nat} {f : Sys2Proof.Frame} {g : FrameTag} (hl : b.plyLink h.link.val = false)
include hl

theorem State.takeRelay_long (hlong : f.rtr = false ∧ 32 < dlcBytes f.fdf f.dlc.toNat) : b.takeRelay h e false f g =
    { b with cs := { b.cs with relPart := Tbl.ins b.cs.relPart (4096 * h.link.val + e) (f, g) } } := by
  refine (if_neg (by rw [hl]; exact Bool.false_ne_true)).trans ((if_neg Bool.false_ne_true).trans (if_pos ?_))
  rw [hlong.1]
  exact hlong.2

theorem State.takeRelay_short (hshort : ¬(f.rtr = false ∧ 32 < dlcBytes f.fdf f.dlc.toNat)) :
    b.takeRelay h e false f g = b.relayArrive e h.link.val f g := by
  refine (if_neg (by rw [hl]; exact Bool.false_ne_true)).trans ((if_neg Bool.false_ne_true).trans (if_neg fun hc => ?_))
  cases hr : f.rtr with
  | false =>
    rw [hr] at hc
    exact hshort ⟨hr, hc⟩
  | true =>
    rw [hr] at hc
    exact Nat.not_lt_zero _ hc

theorem State.takeRelay_second : b.takeRelay h e true f g =
    match Tbl.look b.cs.relPart (4096 * h.link.val + e) with
    | none => b
    | some x => ({ b with cs := { b.cs with relPart := Tbl.del b.cs.relPart (4096 * h.link.val + e) } } : State).relayArrive e h.link.val
        { x.1 with data := (x.1.data ++ f.data).take 64 } x.2 := by
  refine (if_neg (by rw [hl]; exact Bool.false_ne_true)).trans (if_pos rfl)

end

section
variable {s : State} {dt : Nat} {h : CellHdr} (hs : s.ready) (hg : s.goodCell dt h) (hl : s.plyLink h.link.val = false)
  {r : Fin 4096} {f : Sys2Proof.Frame} {g : FrameTag}
include hs hg hl

/-- The first of two cells is kept (R490). -/
theorem answers_relayCell_long (hlong : f.rtr = false ∧ 32 < dlcBytes f.fdf f.dlc.toNat) :
    Answers (.relayCell dt h r false { frame := f, tag := g }) s (fun t =>
      t = { s.elapse dt with cs := { s.cs with links := t.cs.links, upLink := t.cs.upLink, relPart := t.cs.relPart }, rep := t.rep } ∧
      Tbl.look t.cs.relPart (4096 * h.link.val + r.val) = some (f, g)) := by
  obtain ⟨b, hb, hf⟩ := State.cell_good hs hg
  have hrow := (hf fun u => u.takeRelay h r.val false f g).trans (State.takeRelay_long ((hb.plyLink _).trans hl) hlong)
  refine answers_tells hs (exec_relayCell s dt h r false f g)
    (v := { b with cs := { b.cs with relPart := Tbl.ins b.cs.relPart (4096 * h.link.val + r.val) (f, g) } }) hrow hb.tells
    fun x told => ⟨?_, Tbl.look_ins_self _ _ _⟩
  rw [hb.rest]

/-- A frame that comes in one cell arrives. -/
theorem State.relayCell_short (hshort : ¬(f.rtr = false ∧ 32 < dlcBytes f.fdf f.dlc.toNat)) :
    ∃ c, s.RelayAt dt h c ∧ c.cs.relPart = s.cs.relPart ∧
      (s.elapse dt).cell h (fun u => u.takeRelay h r.val false f g) = c.relayArrive r.val h.link.val f g := by
  obtain ⟨b, hb, hf⟩ := State.cell_good hs hg
  exact ⟨b, hb.relayAt, by rw [hb.rest], (hf _).trans (State.takeRelay_short ((hb.plyLink _).trans hl) hshort)⟩

/-- The second of two cells without a first is nothing. -/
theorem answers_relayCell_orphan (hp : Tbl.look s.cs.relPart (4096 * h.link.val + r.val) = none) :
    Answers (.relayCell dt h r true { frame := f, tag := g }) s (fun t =>
      t = { s.elapse dt with cs := { s.cs with links := t.cs.links, upLink := t.cs.upLink }, rep := t.rep }) := by
  obtain ⟨b, hb, hf⟩ := State.cell_good hs hg
  have hpart : b.cs.relPart = s.cs.relPart := by rw [hb.rest]
  have hrow := (hf fun u => u.takeRelay h r.val true f g).trans (State.takeRelay_second ((hb.plyLink _).trans hl))
  rw [hpart, hp] at hrow
  exact answers_tells hs (exec_relayCell s dt h r true f g) (v := b) hrow hb.tells fun x told => by rw [hb.rest]

/-- With the first one the frame is whole, and arrives. -/
theorem State.relayCell_second {x : Sys2Proof.Frame} {y : FrameTag} (hp : Tbl.look s.cs.relPart (4096 * h.link.val + r.val) = some (x, y)) :
    ∃ c, s.RelayAt dt h c ∧ Tbl.look c.cs.relPart (4096 * h.link.val + r.val) = none ∧
      (s.elapse dt).cell h (fun u => u.takeRelay h r.val true f g) =
        c.relayArrive r.val h.link.val { x with data := (x.data ++ f.data).take 64 } y := by
  obtain ⟨b, hb, hf⟩ := State.cell_good hs hg
  have hpart : b.cs.relPart = s.cs.relPart := by rw [hb.rest]
  refine ⟨_, hb.relayAt.part (Tbl.del b.cs.relPart (4096 * h.link.val + r.val)), Tbl.look_del_self _ _,
    (hf _).trans ((State.takeRelay_second ((hb.plyLink _).trans hl)).trans ?_)⟩
  rw [hpart, hp]

end

/-! ## What becomes of a frame that has arrived -/

section
variable {s c : State} {dt : Nat} {h : CellHdr} (hs : s.ready) {i : Instr} {f : State → State} (hi : exec i s = s.at_ dt f)
  (hc : s.RelayAt dt h c)
include hs hi hc

/-- It is dropped, and counted at a link. -/
theorem answers_relay_drop {r l why : Nat} (hf : f (s.elapse dt) = c.relayDrop r l why) {P : State → Prop}
    (hP : ∀ t, State.RepOnly c t → s.counts t (5952 + 16 * l + 4) 1 → P t) : Answers i s P := by
  have h1 := hc.hears.relayDrop r l why
  have h2 := c.relayDrop_cells r l why
  generalize c.relayDrop r l why = w at h1 h2 hf
  refine answers_hears hs hi hf h1 fun x heard => hP _ ?_ (heard.counts _ List.mem_cons_self)
  rw [h2.rest]
  rfl

/-- It joins the queue of its entry. -/
theorem answers_relay_queued {r k : Nat} {fr : Sys2Proof.Frame} {g : FrameTag} (hsame : s.chooseUp = s.cs.upLink ∧ (s.link h.link.val).peerActing = h.acting)
    (hsend : s.relayOn r = true ∧ fieldOf (s.rly0 r) 1 2 ≠ 2) (ho : s.relayOut r = some k) (hroom : 0 < s.sharedFree ∧ 0 < s.bobFree) {l : Nat}
    (hf : f (s.elapse dt) = c.relayArrive r l fr g) {P : State → Prop}
    (hP : ∀ t, t = { c with cs := { c.cs with queue := t.cs.queue }, cr := t.cr, rep := t.rep } →
      t.cs.queue = s.cs.queue ++ [(r, s.nextBob)] → (∃ x, t.bob s.nextBob = some x ∧ x.frame = fr ∧ x.tag = g ∧ x.holders = 1) → P t) :
    Answers i s P := by
  obtain ⟨w, hw, hrest, hear, hq, hb⟩ := hc.arrive_queued hsame.1 hsame.2 hsend.1 hsend.2 ho hroom l fr g
  rw [hw] at hf
  exact answers_hears hs hi hf hear fun x heard => hP _ (by rw [hrest]) hq hb

/-- Nothing becomes of it. -/
theorem answers_relay_nothing (hf : f (s.elapse dt) = c) {P : State → Prop} (hP : ∀ t, State.RepOnly c t → P t) : Answers i s P :=
  answers_hears hs hi hf hc.hears fun _ _ => hP _ rfl

end

/-! ## The data of a stream -/

section
variable {s c : State} {dt : Nat} {h : CellHdr} (hc : s.RelayAt dt h c) {r l : Nat} {f : Sys2Proof.Frame}
include hc

/-- A device that does not act takes no data of a stream from a cell. -/
theorem State.RelayAt.local_idle (hact : s.acts = false) : c.relayLocal r l f = c := by
  obtain ⟨-, -, -, -, -, -, ha⟩ := hc.creel
  exact if_pos (ha.trans hact)

/-- What does not fit its stream is dropped. -/
theorem State.RelayAt.local_drop (hact : s.acts = true) (h : s.stream (fieldOf (s.rly0 r) 4 12) = none ∨
    ∃ x, s.stream (fieldOf (s.rly0 r) 4 12) = some x ∧
      (f.data.length ≠ fieldOf (s.rly0 r) 16 7 ∨ x.cfg.len.toNat ≠ fieldOf (s.rly0 r) 16 7 ∨ x.st ≠ .live)) :
    c.relayLocal r l f = c.relayDrop r l 2 := by
  obtain ⟨-, -, -, -, -, hstr, ha⟩ := hc.creel
  unfold State.relayLocal
  simp only
  rw [if_neg (by rw [ha, hact]; exact Bool.false_ne_true.symm), hstr, hc.rly0]
  rcases h with h | ⟨x, hx, h⟩
  · rw [h]
  · rw [hx]
    simp only
    rw [if_pos]
    simp only [Bool.or_eq_true, decide_eq_true_eq]
    rcases h with h | h | h
    · exact .inl (.inr h)
    · exact .inl (.inl (.inr h))
    · exact .inl (.inl (.inl (.inl (.inl (.inl h)))))

end

end Sys2Proof.Machine
end

section
/-!
PROOFS. The obligation about cells (chapters 14 and 15).
-/

namespace Sys2Proof.Machine

section
variable {s : State} {dt : Nat} {h : CellHdr} (hs : s.ready) (hg : s.goodCell dt h) (hl : s.plyLink h.link.val = false)
  {r : Fin 4096} {f : Sys2Proof.Frame} {g : FrameTag}

/-- The answer's claim about a frame that joins its queue. -/
def State.queuedWhole (s t : State) (r : Nat) (x : Sys2Proof.Frame) (y : FrameTag) : Prop :=
  t.cs.queue = s.cs.queue ++ [(r, s.nextBob)] ∧ ∃ b, t.bob s.nextBob = some b ∧ b.frame = x ∧ b.tag = y ∧ b.holders = 1

/-- The answer's claim about everything else where a frame in one cell is dropped or not taken. -/
theorem State.RelayAt.only {c t : State} (hc : s.RelayAt dt h c) (hpart : c.cs.relPart = s.cs.relPart) (ht : State.RepOnly c t) :
    t = { s.elapse dt with cs := { s.cs with links := t.cs.links, upLink := t.cs.upLink }, rep := t.rep } := by
  rw [ht, hc.rest, hpart]

theorem State.RelayAt.held {c t : State} (hc : s.RelayAt dt h c) (ht : State.RepOnly c t) :
    t = { s.elapse dt with cs := { s.cs with links := t.cs.links, upLink := t.cs.upLink, relPart := t.cs.relPart }, rep := t.rep } := by
  rw [ht, hc.rest]

include hs hg hl

section
variable (hshort : ¬(f.rtr = false ∧ 32 < dlcBytes f.fdf f.dlc.toNat))
include hshort

/-- A frame in one cell that a rule of its entry drops. -/
theorem answers_relayCell_drop {link why : Nat} (hrule : ∀ c, s.RelayAt dt h c → c.relayArrive r.val h.link.val f g = c.relayDrop r.val link why) :
    Answers (.relayCell dt h r false { frame := f, tag := g }) s (fun t =>
      t = { s.elapse dt with cs := { s.cs with links := t.cs.links, upLink := t.cs.upLink }, rep := t.rep } ∧
      s.counts t (5952 + 16 * link + 4) 1) := by
  obtain ⟨c, hc, hpart, hrow⟩ := State.relayCell_short hs hg hl (r := r) (g := g) hshort
  exact answers_relay_drop hs (exec_relayCell s dt h r false f g) hc (hrow.trans (hrule c hc)) fun t ht hcount => ⟨hc.only hpart ht, hcount⟩

/-- A frame in one cell for a stream of a device that does not act. -/
theorem answers_relayCell_idle (hlocal : s.relayOn r.val = true ∧ fieldOf (s.rly0 r.val) 1 2 = 2) (hact : s.acts = false) :
    Answers (.relayCell dt h r false { frame := f, tag := g }) s (fun t =>
      t = { s.elapse dt with cs := { s.cs with links := t.cs.links, upLink := t.cs.upLink }, rep := t.rep }) := by
  obtain ⟨c, hc, hpart, hrow⟩ := State.relayCell_short hs hg hl (r := r) (g := g) hshort
  exact answers_relay_nothing hs (exec_relayCell s dt h r false f g) hc
    (hrow.trans ((hc.arrive_local hlocal.1 hlocal.2 _ _ _).trans (hc.local_idle hact))) fun t ht => hc.only hpart ht

/-- A frame in one cell that joins the queue of its entry. -/
theorem answers_relayCell_queued (hsame : s.chooseUp = s.cs.upLink ∧ (s.link h.link.val).peerActing = h.acting)
    (hsend : s.relayOn r.val = true ∧ fieldOf (s.rly0 r.val) 1 2 ≠ 2) {k : Nat} (ho : s.relayOut r.val = some k)
    (hroom : 0 < s.sharedFree ∧ 0 < s.bobFree) : Answers (.relayCell dt h r false { frame := f, tag := g }) s (fun t =>
      t = { s.elapse dt with
        cs := { s.cs with links := t.cs.links, upLink := t.cs.upLink, queue := t.cs.queue }, cr := t.cr, rep := t.rep } ∧
      s.queuedWhole t r.val f g) := by
  obtain ⟨c, hc, hpart, hrow⟩ := State.relayCell_short hs hg hl (r := r) (g := g) hshort
  refine answers_relay_queued hs (exec_relayCell s dt h r false f g) hc hsame hsend ho hroom hrow fun t ht hq hb => ⟨?_, hq, hb⟩
  rw [ht, hc.rest, hpart]

end

section
variable {x : Sys2Proof.Frame} {y : FrameTag} (hp : Tbl.look s.cs.relPart (4096 * h.link.val + r.val) = some (x, y))
include hp

/-- A frame in two cells of an entry that is disabled. -/
theorem answers_relayCell_second_off (hoff : s.relayOn r.val = false) :
    Answers (.relayCell dt h r true { frame := f, tag := g }) s (fun t =>
      (t = { s.elapse dt with cs := { s.cs with links := t.cs.links, upLink := t.cs.upLink, relPart := t.cs.relPart }, rep := t.rep } ∧
        Tbl.look t.cs.relPart (4096 * h.link.val + r.val) = none) ∧ s.counts t (5952 + 16 * h.link.val + 4) 1) := by
  obtain ⟨c, hc, hpart, hrow⟩ := State.relayCell_second hs hg hl (f := f) (g := g) hp
  refine answers_relay_drop hs (exec_relayCell s dt h r true f g) hc (hrow.trans (hc.arrive_off hoff _ _ _)) fun t ht hcount =>
    ⟨⟨hc.held ht, ?_⟩, hcount⟩
  rw [ht]
  exact hpart

/-- A frame in two cells that joins the queue of its entry. -/
theorem answers_relayCell_second_queued (hsame : s.chooseUp = s.cs.upLink ∧ (s.link h.link.val).peerActing = h.acting)
    (hsend : s.relayOn r.val = true ∧ fieldOf (s.rly0 r.val) 1 2 ≠ 2) {k : Nat} (ho : s.relayOut r.val = some k)
    (hroom : 0 < s.sharedFree ∧ 0 < s.bobFree) : Answers (.relayCell dt h r true { frame := f, tag := g }) s (fun t =>
      t = { s.elapse dt with
        cs := { s.cs with links := t.cs.links, upLink := t.cs.upLink, relPart := t.cs.relPart, queue := t.cs.queue }
        cr := t.cr, rep := t.rep } ∧
      Tbl.look t.cs.relPart (4096 * h.link.val + r.val) = none ∧
      s.queuedWhole t r.val { x with data := (x.data ++ f.data).take 64 } y) := by
  obtain ⟨c, hc, hpart, hrow⟩ := State.relayCell_second hs hg hl (f := f) (g := g) hp
  refine answers_relay_queued hs (exec_relayCell s dt h r true f g) hc hsame hsend ho hroom hrow fun t ht hq hb => ⟨?_, ?_, hq, hb⟩
  · rw [ht, hc.rest]
  · rw [ht]
    exact hpart

end

end

/-- Settles O51: a cell is judged, its link's record kept, and each kind does what the chapters say. -/
theorem cellsAreTaken : Obligations.CellsAreTaken := by
  unfold Obligations.CellsAreTaken
  intro s dt h hs
  refine ⟨fun c hc => ⟨answers_cell_down hs hc, answers_cell_crc hs hc, answers_cell_kind hs hc, answers_cell_foreign hs hc⟩,
    fun tTx turn echo res hg => ⟨fun hn => answers_timeCell_noEvent hs hg tTx turn echo res hn, fun hused hrun => ⟨fun hoff => ?_, fun hoff => ?_⟩,
      fun hused hst hstep hfar => ?_⟩,
    fun b crc x y => ⟨fun hg hl => answers_heartCell_off hs hg b crc x y hl, fun hg htag hturn hrole hmem => ?_⟩,
    fun b => ⟨fun hg hl => answers_agreeCell_off hs hg b false hl, fun v cmp hg hb => ⟨fun hd => ?_, fun hd => ?_⟩,
      fun v hg hb => ⟨fun hd => ?_, fun hd => ?_⟩⟩,
    fun q m hg => ⟨fun hq => answers_mgmtCell_skipped hs hg q m hq, fun hq => ⟨fun n hm h1 h2 => ?_, fun n hm hn => ?_, fun hm => ?_,
      fun n a hm hl hrole => ?_, fun x hm hl hrole => ?_⟩⟩,
    fun r f g hg hl => ⟨fun hlong => answers_relayCell_long hs hg hl hlong,
      fun hshort hsame hsend => ⟨fun k ho hroom => answers_relayCell_queued hs hg hl hshort hsame hsend ho hroom, fun k ho hn => ?_, fun ho => ?_⟩,
      fun hshort hoff => ?_, fun hshort hlocal hact => answers_relayCell_idle hs hg hl hshort hlocal hact,
      fun hshort hlocal hact => ⟨fun hn => ?_, fun x hx hn => ?_⟩, fun hp => answers_relayCell_orphan hs hg hl hp,
      fun x y hp => ⟨fun hoff => answers_relayCell_second_off hs hg hl hp hoff,
        fun k hsame hsend ho hroom => answers_relayCell_second_queued hs hg hl hp hsame hsend ho hroom⟩⟩⟩
  · exact (answers_timeCell_unused hs hg tTx turn echo res hused rfl hrun hoff).mono fun t ⟨h1, h2, h3⟩ => ⟨h1, h2, h3⟩
  · exact answers_timeCell_accepted hs hg tTx turn echo res hused rfl hrun hoff
  · exact answers_timeCell_step hs hg tTx turn echo res hused rfl hst hstep hfar
  · exact (answers_heartCell hs hg.1 b crc x y hg.2 htag hturn hrole hmem).mono fun t ⟨h1, h2, h3, h4⟩ => ⟨h1, h2, h3, h4⟩
  · subst hb
    exact (answers_agreeCell_taps hs hg.1 hg.2 v cmp hd).mono fun t ⟨h1, h2, h3, h4⟩ => ⟨⟨h1, h2, h4⟩, h3⟩
  · exact answers_agreeCell_late hs hg.1 hg.2 b (.inl ⟨v, cmp, hb, hd⟩)
  · subst hb
    exact (answers_agreeCell_outs hs hg.1 hg.2 v hd).mono fun t ⟨h1, h2, h3, h4⟩ => ⟨⟨h1, h2, h4⟩, h3⟩
  · exact answers_agreeCell_late hs hg.1 hg.2 b (.inr ⟨v, hb, hd⟩)
  · subst hm
    refine answers_mgmtCell_reports hs hg q _ hq (k := { srcs := [n] }) (fun b hlive hb => ?_) fun t ht hlink told =>
      ⟨ht, hlink, told.raises _ List.mem_cons_self⟩
    have hrow : b.takeMgmt h.link.val (.doorbell n) = b.raise n := if_pos ⟨h1, h2⟩
    rw [hrow]
    exact ⟨(State.RepOnly.refl b).raise n, hb.raise n hlive⟩
  · subst hm
    refine answers_mgmtCell_reports hs hg q _ hq (k := { cts := [(5952 + 16 * h.link.val + 1, 1)] }) (fun b hlive hb => ?_) fun t ht hlink told =>
      ⟨ht, hlink, told.counts _ List.mem_cons_self⟩
    have hrow : b.takeMgmt h.link.val (.doorbell n) = b.count (5952 + 16 * h.link.val + 1) := if_neg (by omega)
    rw [hrow]
    exact ⟨(State.RepOnly.refl b).count _, hb.count _⟩
  · subst hm
    exact answers_mgmtCell_reports hs hg q .other hq (k := { cts := [(5952 + 16 * h.link.val + 1, 1)] })
      (fun b hlive hb => ⟨(State.RepOnly.refl b).count _, hb.count _⟩) fun t ht hlink told => ⟨ht, hlink, told.counts _ List.mem_cons_self⟩
  · subst hm
    refine answers_mgmtCell_ply hs hg q _ hq fun b hply hpl => ?_
    have hrow : b.takeMgmt h.link.val (.desc n a) =
        { b with pl := { b.pl with descs := b.pl.descs ++ [{ turn := n, desc := none, act := a, sent := true }] } } :=
      if_pos (by rw [hply, hl, hpl, decide_eq_true hrole]; rfl)
    rw [hrow, hpl]
  · subst hm
    refine answers_mgmtCell_ply hs hg q _ hq fun b hply hpl => ?_
    have hrow : b.takeMgmt h.link.val (.loop x) = { b with pl := { b.pl with install := b.pl.install ++ [x] } } :=
      if_pos (by rw [hply, hl, hpl, decide_eq_true hrole]; rfl)
    rw [hrow, hpl]
  · exact answers_relayCell_drop hs hg hl hshort fun c hc => hc.arrive_noRoom hsame.1 hsame.2 hsend.1 hsend.2 ho hn _ _ _
  · exact answers_relayCell_drop hs hg hl hshort fun c hc => hc.arrive_noLink hsame.1 hsame.2 hsend.1 hsend.2 ho _ _ _
  · exact answers_relayCell_drop hs hg hl hshort fun c hc => hc.arrive_off hoff _ _ _
  · exact answers_relayCell_drop hs hg hl hshort fun c hc => (hc.arrive_local hlocal.1 hlocal.2 _ _ _).trans (hc.local_drop hact (.inl hn))
  · exact answers_relayCell_drop hs hg hl hshort fun c hc =>
      (hc.arrive_local hlocal.1 hlocal.2 _ _ _).trans (hc.local_drop hact (.inr ⟨x, hx, hn⟩))

end Sys2Proof.Machine
end

section
/-!
PROOFS. What a turn boundary keeps: relations that the steps of a boundary keep, for the boundary's own obligations (chapters 1, 2, 7
and 12). A relation is given by the parts of the state that may change; each step is shown to change no others.
-/

namespace Sys2Proof.Machine

/-! ## Relations that a boundary's steps keep -/

/-- The turn that is in progress and its phases stay. -/
def TurnSt.sameTurn (a b : TurnSt) : Prop :=
  b.turn = a.turn ∧ b.turnLoad = a.turnLoad ∧ b.cellTurn = a.cellTurn ∧ b.bound = a.bound ∧ b.pulse = a.pulse ∧
  b.capDone = a.capDone ∧ b.agreeDone = a.agreeDone ∧ b.twistDone = a.twistDone ∧ b.releaseDone = a.releaseDone

/-- The configuration and the commit in flight stay. -/
def RegSt.sameConfig (a b : RegSt) : Prop :=
  b.live = a.live ∧ b.shadow = a.shadow ∧ b.phase = a.phase ∧ b.pend = a.pend ∧ b.dirty = a.dirty ∧ b.refused = a.refused

/-- A relation that a step of a boundary keeps: the queue, the lock bits, what a FENCE holds, the turn, the configuration, the loops and
the waiting loop descriptors stay. -/
structure BaseFrame (R : State → State → Prop) : Prop where
  refl : ∀ a, R a a
  trans : ∀ {a b c}, R a b → R b c → R a c
  rep : ∀ a r, r.whOld = a.rep.whOld → R a { a with rep := r }
  dr : ∀ a x, R a { a with dr := x }
  cr : ∀ a x, R a { a with cr := x }
  ks : ∀ a x, R a { a with ks := x }
  mm : ∀ a x, R a { a with mm := x }
  chs : ∀ a x, R a { a with chs := x }
  sps : ∀ a x, R a { a with sps := x }
  lw : ∀ a x, R a { a with lw := x }
  pl : ∀ a x, R a { a with pl := x }
  fa : ∀ a x, R a { a with fa := x }
  fd : ∀ a x, R a { a with fd := x }
  cs : ∀ a x, R a { a with cs := x }
  lio : ∀ a x, R a { a with lio := x }
  rp : ∀ a x, R a { a with rp := x }
  regs : ∀ a x, RegSt.sameConfig a.regs x → R a { a with regs := x }
  tm : ∀ a x, TurnSt.sameTurn a.tm x → R a { a with tm := x }
  tw : ∀ a x, x.loops = a.tw.loops → x.cmds = a.tw.cmds → R a { a with tw := x }
  dev : ∀ a x, x.plyId = a.dev.plyId → (x.st = .setUp → a.dev.st = .setUp) → R a { a with dev := x }

section
variable {R : State → State → Prop} (F : BaseFrame R)
include F

theorem BaseFrame.bus (ch : Nat) : BusFrame ch R where
  refl := F.refl
  trans := F.trans
  rep a r _ hw := F.rep a r hw
  dr := F.dr
  cr := F.cr
  ks := F.ks
  grace a _ _ _ := F.regs a _ (by exact ⟨rfl, rfl, rfl, rfl, rfl, rfl⟩)
  mm := F.mm
  chan a _ := F.chs a _
  lw := F.lw
  pl := F.pl

theorem BaseFrame.wire (ch : Nat) : WireFrame ch R := (F.bus ch).toWireFrame

theorem BaseFrame.free : FreeFrame R := (F.wire 0).toFreeFrame

theorem BaseFrame.drs : DrFrame R := F.free.toDrFrame

theorem BaseFrame.line : LineFrame R := (F.bus 0).air.toLineFrame

theorem BaseFrame.reports : Frame R := F.drs.toFrame

theorem BaseFrame.ply : PlyFrame R where
  toDrFrame := F.drs
  pl := F.pl
  src a _ _ _ _ _ _ := F.tm a _ (by exact ⟨rfl, rfl, rfl, rfl, rfl, rfl, rfl, rfl, rfl⟩)
  sends {a b} h := by
    rw [h.rest]
    exact F.trans (F.fa a b.fa) (F.lio _ b.lio)

variable {a b : State}

/-! ## The configuration CRC and SAFE (R405 to R408, R512) -/

theorem BaseFrame.commitMode (a : State) (ch : Nat) (m : ChMode) : R a (a.commitMode ch m) :=
  F.reports.ite (F.chs a _) (F.reports.ite (F.reports.ite ((F.wire ch).modeFrame.setMode a m) (F.chs a _))
    (F.reports.ite ((F.wire ch).modeFrame.setMode a m) (F.chs a _)))

theorem BaseFrame.outFail (a : State) (n cause : Nat) : R a (a.outFail n cause) :=
  F.reports.ite (F.reports.raise (F.reports.slub (F.lio a _) _ _ _ _) _) (F.lio a _)

theorem BaseFrame.feedCause (a : State) (n cause : Nat) : R a (a.feedCause n cause) := F.reports.slub (F.fd a _) _ _ _ _

theorem BaseFrame.gateOff (a : State) (n cause : Nat) (st : FeedMode) : R a (a.gateOff n cause st) := by
  unfold State.gateOff
  simp only
  generalize hu : a.setFeed n _ = u
  have h0 : R a u := hu ▸ F.fd a _
  have h2 : R a ((u.feedCause n cause).count (feedCounter n cause)) := F.reports.count (F.trans h0 (F.feedCause u n cause)) _
  generalize (u.feedCause n cause).count (feedCounter n cause) = v at h2 ⊢
  have h3 : R a (if (a.feed n).pg then v.raise (0x1E0 + 4 * n) else v) := F.reports.ite (F.reports.raise h2 _) h2
  generalize (if (a.feed n).pg then v.raise (0x1E0 + 4 * n) else v) = w at h3 ⊢
  have h4 : R a (if 1 ≤ cause ∧ cause ≤ 6 then w.raise (0x1E1 + 4 * n) else if cause = 7 ∨ cause = 8 then w.raise (0x1E2 + 4 * n) else w) :=
    F.reports.ite (F.reports.raise h3 _) (F.reports.ite (F.reports.raise h3 _) h3)
  generalize (if 1 ≤ cause ∧ cause ≤ 6 then w.raise (0x1E1 + 4 * n) else if cause = 7 ∨ cause = 8 then w.raise (0x1E2 + 4 * n) else w) = z at h4 ⊢
  exact F.reports.ite (F.reports.raise h4 _) h4

theorem BaseFrame.feedHold (a : State) (n cause : Nat) : R a (a.feedHold n cause) :=
  F.reports.ite (F.gateOff a n cause .held) (F.reports.ite (F.reports.count (F.refl a) _) (F.reports.ite (F.refl a)
    (F.trans (F.fd a _) (F.feedCause _ n cause))))

theorem BaseFrame.feedOff (a : State) (n : Nat) : R a (a.feedOff n) := F.trans (F.fd a _) (F.feedHold _ n 9)

theorem BaseFrame.toState (a : State) {d : DevState} (hd : d ≠ .setUp) : R a (a.toState d) :=
  F.reports.raise (F.reports.slub (F.dev a _ (by rfl) (by exact fun h => absurd h hd)) _ _ _ _) _

theorem BaseFrame.enterSafe (a : State) (cause : Nat) : R a (a.enterSafe cause) := by
  unfold State.enterSafe
  simp only
  split
  · generalize hu : ({ a with fa := _, dev := { a.dev with runPend := false } } : State) = u
    have h1 : R a u := by
      rw [← hu]
      exact F.trans (F.fa a { a.fa with safeCause := cause })
        (F.dev { a with fa := { a.fa with safeCause := cause } } { a.dev with runPend := false } rfl id)
    have h2 : R a (((u.toState .safe).slub 0x0002 cause 0 0).raise 0x000) :=
      F.reports.raise (F.reports.slub (F.trans h1 (F.toState u (by decide))) _ _ _ _) _
    generalize ((u.toState .safe).slub 0x0002 cause 0 0).raise 0x000 = v at h2 ⊢
    have h3 := F.trans h2 (F.reports.foldl (fun b c => F.commitMode b c .listenOnly) channels v)
    generalize List.foldl _ v channels = w at h3 ⊢
    have h4 := F.trans h3 (F.reports.foldl (fun b n => F.outFail b n 5) outputs w)
    generalize List.foldl _ w outputs = x at h4 ⊢
    have h5 := F.trans h4 (F.reports.foldl (fun b n => F.feedOff b n) ((List.range 8).filter (fun n => x.bit 0x1034 (8 + n))) x)
    generalize List.foldl State.feedOff x _ = y at h5 ⊢
    exact F.trans (F.reports.ite (F.trans h5 (F.ply.setRole y .out)) h5) (F.ply.refreshTrip _)
  · exact F.refl a

theorem BaseFrame.crcMiss (a : State) (crc : Word) : R a (a.crcMiss crc) := by
  unfold State.crcMiss State.crcAct
  simp only
  split
  · exact F.reports.raise (F.regs a _ (by exact ⟨rfl, rfl, rfl, rfl, rfl, rfl⟩)) _
  · generalize hu : State.raise _ 0x050 = u
    have h1 : R a u := hu ▸ F.reports.raise (F.reports.slub (F.regs a _ (by exact ⟨rfl, rfl, rfl, rfl, rfl, rfl⟩)) _ _ _ _) _
    exact F.trans h1 (F.reports.ite (F.reports.ite (F.pl u _) (F.refl u)) (F.reports.ite (F.enterSafe u 1) (F.refl u)))

theorem BaseFrame.crcEnd (a : State) (crc : Word) : R a (a.crcEnd crc) :=
  F.trans (F.regs a { a.regs with crcLast := crc } (by exact ⟨rfl, rfl, rfl, rfl, rfl, rfl⟩))
    (F.reports.ite (F.regs _ _ (by exact ⟨rfl, rfl, rfl, rfl, rfl, rfl⟩)) (F.crcMiss _ crc))

theorem BaseFrame.crcStop (a : State) (turn : BitVec 48) (loaded : Bool) : R a (a.crcStop turn loaded) := by
  unfold State.crcStop
  simp only
  generalize hu : (if loaded && a.regs.passOn && a.regs.passValid then
      ({ a with regs := { a.regs with passValid := false } } : State).count 5729 else a) = u
  have h1 : R a u := hu ▸ F.reports.ite (F.reports.count (F.regs a _ (by exact ⟨rfl, rfl, rfl, rfl, rfl, rfl⟩)) _) (F.refl a)
  have h2 : R u { u with regs := { u.regs with passOn := false } } := F.regs u _ (by exact ⟨rfl, rfl, rfl, rfl, rfl, rfl⟩)
  exact F.trans h1 (F.reports.ite (F.reports.ite (F.trans h2 (F.crcEnd _ _)) h2) (F.refl u))

theorem BaseFrame.crcStart (a : State) (turn : BitVec 48) : R a (a.crcStart turn) :=
  F.reports.ite (F.regs a _ (by exact ⟨rfl, rfl, rfl, rfl, rfl, rfl⟩)) (F.refl a)

/-! ## Streams, channels and declarations -/

theorem BaseFrame.closeTurn (a : State) : R a a.closeTurn := by
  have h1 : R a { a with tw := { a.tw with
      lastCyc := a.tw.cyc, lastAbandoned := a.tw.abandoned, cyc := 0, abandoned := false, opened := false } } := F.tw a _ rfl rfl
  exact F.trans h1 (F.trans (F.rep _ _ (by rfl)) (F.dr _ _))

theorem BaseFrame.missingOver (a : State) : R a a.missingOver := F.reports.foldl (fun b _ => F.lio b _) inputs a

theorem BaseFrame.chBoundary (a : State) : R a a.chBoundary := by
  refine F.reports.foldl (fun b c => F.trans (b := (b.denySlub c).modCh c Channel.boundary) (F.trans ?_ (F.chs _ _)) ?_) channels a
  · exact F.reports.ite (F.refl b) (F.trans (F.chs b _) (F.rep _ _ (by rfl)))
  · exact F.reports.ite (F.dr _ _) (F.refl _)

theorem BaseFrame.missReports (a : State) (turn : BitVec 48) : R a (a.missReports turn) :=
  F.reports.foldl (fun b (e : Nat × Stream) => F.reports.ite (F.refl b) (F.reports.status (F.drs.modStream b e.1 _) _)) a.dr.streams a

theorem BaseFrame.liveStep (a : State) (n : Nat) : R a (a.liveStep n) := by
  unfold State.liveStep
  split
  · exact F.refl a
  · exact F.reports.ite (F.reports.ite (F.reports.status (F.dr a _) _) (F.dr a _)) (F.refl a)

theorem BaseFrame.refreshConflict (a : State) (ch : Nat) : R a (a.refreshConflict ch) :=
  F.reports.ite (F.reports.raise (F.lw a _) _) (F.lw a _)

theorem BaseFrame.refreshR (a : State) (ch : Nat) : R a (a.refreshR ch) := F.dr a _

theorem BaseFrame.foreignStep (a : State) : R a a.foreignStep := by
  unfold State.foreignStep
  simp only
  generalize hu : ({ a with dr := { a.dr with foreign := _ } } : State) = u
  have h1 : R a u := hu ▸ F.dr a _
  have h2 := F.trans h1 (F.reports.foldl (fun b c => F.refreshConflict b c) (channels.filter (fun c =>
    ((a.dr.foreign.filter (fun e => e.2.leaving && decide (e.2.toLive ≤ 1))).map (fun e => e.2.cfg.ch.val)).contains c ||
    ((a.dr.foreign.filter (fun e => !e.2.leaving && decide (e.2.toLive = 1))).map (fun e => e.2.cfg.ch.val)).contains c)) u)
  generalize List.foldl State.refreshConflict u _ = v at h2 ⊢
  exact F.reports.ite h2 (F.trans (F.trans h2 (F.reports.foldl (fun b c => F.refreshR b c) _ v)) (F.free.coverChange _))

theorem BaseFrame.closeStep (a : State) (n : Nat) : R a (a.closeStep n) := by
  unfold State.closeStep
  split
  · exact F.refl a
  · refine F.reports.ite ?_ (F.refl a)
    refine F.trans ?_ (F.free.closeDone _ n)
    split
    · exact F.reports.complete (F.reports.count (F.dr a _) _) _ _
    · exact F.dr a _

theorem BaseFrame.releaseStep (a : State) : R a a.releaseStep := F.reports.ite (F.dr a _) (F.refl a)

theorem BaseFrame.breachBoundary (a : State) (ch : Nat) (last : BitVec 48) : R a (a.breachBoundary ch last) :=
  F.reports.ite (F.refl a) (F.reports.ite
    (F.reports.raise (F.reports.status (F.trans (F.trans (F.dr a _) (F.dr _ _)) (F.drs.mapRels _ ch _)) _) _) (F.refl a))

/-! ## The line watch, lanes, rows, doffs and fuses -/

theorem BaseFrame.lineBoundary (a : State) (ch : Nat) : R a (a.lineBoundary ch) :=
  F.reports.ite (F.reports.lineRecord (F.lw a _) _) (F.lw a _)

theorem BaseFrame.refreshBudget (a : State) : R a a.refreshBudget := F.tw a _ rfl rfl

theorem BaseFrame.laneBoundary (a : State) : R a a.laneBoundary := by
  unfold State.laneBoundary
  split
  · exact F.refl a
  · rename_i x _
    have h1 : R a { a with tw := { a.tw with
      lanes := a.tw.lanes.filter (fun l => decide (some l ≠ a.tw.leaving)) ++ [x], joining := none, leaving := none } } := F.tw a _ rfl rfl
    exact F.trans (F.reports.raise (F.reports.slub (F.reports.ite (F.reports.raise h1 _) h1) _ _ _ _) _) (F.refreshBudget _)

theorem BaseFrame.spareOut (a : State) (kind unit_ : Nat) : R a (a.spareOut kind unit_) :=
  F.reports.ite (F.refl a) (F.reports.raise (F.reports.slub (F.rp a _) _ _ _ _) _)

theorem BaseFrame.burnNext (a : State) : R a a.burnNext := by
  unfold State.burnNext
  split
  · exact F.rp a _
  · exact F.reports.ite (F.reports.ite (F.rp a _) (F.trans (F.rp a _) (F.spareOut _ _ _))) (F.refl a)

theorem BaseFrame.startRow (a : State) (row : Nat) : R a (a.startRow row) := by
  unfold State.startRow
  split
  · exact F.rp a _
  · exact F.spareOut a 2 row

theorem BaseFrame.rowBoundary (a : State) : R a a.rowBoundary := by
  unfold State.rowBoundary
  split
  · refine F.reports.ite ?_ (F.refl a)
    exact F.trans (F.reports.count (F.reports.raise (F.reports.slub (F.trans (F.rp a _) (F.mm _ _)) _ _ _ _) _) _)
      (F.trans (F.rp _ _) (F.burnNext _))
  · split
    · exact F.refl a
    · exact F.trans (F.rp a _) (F.startRow _ _)

theorem BaseFrame.doffBoundary (a : State) : R a a.doffBoundary := by
  unfold State.doffBoundary
  split
  · exact F.rp a _
  · exact F.refl a

/-! ## Hanks and reports -/

theorem BaseFrame.hank (a : State) (k x y : Nat) (w : BitVec 64) : R a (a.hank k x y w) := by
  refine F.rep a _ ?_
  unfold Rep.hank
  split <;> rfl

theorem BaseFrame.sampleHanks (a : State) : R a a.sampleHanks :=
  F.reports.ite (F.trans (F.reports.foldl (fun b _ => F.hank b _ _ _ _) _ a) (F.reports.foldl (fun b _ => F.hank b _ _ _ _) _ _)) (F.refl a)

theorem BaseFrame.portBoundary (a : State) (p : Port) (body : EntryBody) : R a (a.portBoundary p body) :=
  F.trans (F.trans (F.rep a _ (by cases p <;> rfl)) (F.reports.ite (F.rep _ _ (by exact State.entry_whOld _ _ _ _)) (F.refl _)))
    (F.rep _ _ (by exact (Rep.same_writeHeader _ _ _).whOld))

theorem BaseFrame.snapBoundary (a : State) : R a a.snapBoundary :=
  F.reports.ite (F.regs a _ (by exact ⟨rfl, rfl, rfl, rfl, rfl, rfl⟩)) (F.refl a)

/-! ## The steps of a boundary in their order -/

/-- The blocks of a boundary behind the ply and the loop descriptors. -/
theorem BaseFrame.blocks (a : State) (last : BitVec 48) : R a (channels.foldl (fun (a : State) c => a.breachBoundary c last)
    (channels.foldl State.lineBoundary (a.streamNums.foldl State.closeStep a).releaseStep).laneBoundary.rowBoundary.doffBoundary.burnNext) := by
  have h1 := F.trans (F.reports.foldl F.closeStep a.streamNums a) (F.releaseStep _)
  have h2 := F.trans h1 (F.reports.foldl F.lineBoundary channels _)
  have h3 := F.trans h2 (F.laneBoundary _)
  have h4 := F.trans h3 (F.rowBoundary _)
  have h5 := F.trans h4 (F.trans (F.doffBoundary _) (F.burnNext _))
  exact F.trans h5 (F.reports.foldl (fun b c => F.breachBoundary b c last) channels _)

/-- What a boundary reports behind its FENCEs. -/
theorem BaseFrame.boundaryReports (a : State) : R a
    (((a.refreshSource.refreshTrip.turnHank.sampleHanks.portBoundary .a a.refreshSource.refreshTrip.turnHank.sampleHanks.turnReport).portBoundary .b
      a.refreshSource.refreshTrip.turnHank.sampleHanks.turnReport).snapBoundary) := by
  have h1 : R a a.refreshSource.refreshTrip.turnHank.sampleHanks :=
    F.trans (F.trans (F.ply.refreshSource a) (F.ply.refreshTrip _)) (F.trans (F.hank _ _ _ _ _) (F.sampleHanks _))
  exact F.trans h1 (F.trans (F.trans (F.portBoundary _ _ _) (F.portBoundary _ _ _)) (F.snapBoundary _))

end

end Sys2Proof.Machine
end

section
/-!
PROOFS. LOOP_MODE and LOOP_PARAM wait for the boundary, which applies them; a lane that fails (R32, R231, R241, R251).
-/

namespace Sys2Proof.Machine

/-! ## LOOP_MODE and LOOP_PARAM at acceptance -/

theorem State.plyWide_single {u : State} (h : u.plyMember = false) (d : Desc) (op : Nat) (act : PlyAct) (f : State → State) :
    u.plyWide d op act f = f u := if_neg (by rw [h]; exact Bool.false_ne_true)

/-- A loop descriptor of a single device waits for the boundary (R241). -/
theorem answers_loopDescriptor {s : State} {dt : Nat} {c : Instr} {d : Desc} {b : DescBody} {op : Nat} {act : PlyAct} (hp : s.plyMember = false)
    (hd : s.admits d) (hc : exec c s = s.descRow dt d b (fun u => u.acceptFor d op 0 (fun u => u.plyWide d op act (fun u => u.queueLoop d act))))
    (hb : ∀ u : State, u.prefetch d b = u) (hop : op < 14) :
    Answers c s (fun t => t = { s.elapse dt with tw := { s.tw with cmds := s.tw.cmds ++ [(d, act)] }, rep := t.rep }) := by
  have hply : (s.fetchedAt dt d).plyMember = false := by
    rw [State.fetchedAt_eq]
    exact hp
  have htw : (s.fetchedAt dt d).tw = s.tw := by rw [State.fetchedAt_eq]
  have hrep := State.fetchedAt_repOnly (s := s) (dt := dt) (d := d)
  refine answers_desc_settles hd hc hb hop ((State.plyWide_single hply d op act _).trans rfl)
    (v := (s.fetchedAt dt d).queueLoop d act) (State.fetchedAt_settled hd.1) ?_
  unfold State.queueLoop
  rw [htw]
  exact congrArg (fun x : State => { x with tw := { s.tw with cmds := s.tw.cmds ++ [(d, act)] } }) hrep

/-! ## A LOOP_MODE is applied -/

theorem latch_lookD {t : Tbl StageSt} (h : ∀ e ∈ t, e.2.latch = false) (i : Nat) : (Tbl.lookD t i {}).latch = false := by
  induction t with
  | nil => rfl
  | cons e t ih =>
    obtain ⟨k, v⟩ := e
    have htail := ih fun x hx => h x (List.mem_cons_of_mem _ hx)
    show StageSt.latch ((if i = k then some v else Tbl.look t i).getD {}) = false
    split
    · exact h (k, v) List.mem_cons_self
    · exact htail

theorem latch_clearLatches (t : Tbl StageSt) : ∀ e ∈ clearLatches t, e.2.latch = false := by
  intro e he
  obtain ⟨x, -, rfl⟩ := List.mem_map.1 (List.mem_of_mem_filter he)
  show StageSt.latch (if x.2.latch then { x.2 with latch := false, y := 0, cnt := 0 } else x.2) = false
  split
  · rfl
  · rename_i h
    exact Bool.not_eq_true _ ▸ h

theorem latch_dropHistory {t : Tbl StageSt} (h : ∀ e ∈ t, e.2.latch = false) : ∀ e ∈ dropHistory t, e.2.latch = false := by
  intro e he
  obtain ⟨x, hx, rfl⟩ := List.mem_map.1 (List.mem_of_mem_filter he)
  exact h x hx

/-- The loop that a LOOP_MODE leaves (R231, R245). -/
def loopModeApplied (b : LoopModeBody) (v : Loop) : Loop :=
  { v with
    mode := loopMdOf b.mode.toNat, cause := 0, man := if loopMdOf b.mode.toNat = .manual then b.man else v.man, freshRun := 0, noMaj := 0
    staleRun := if v.mode = .off then 0 else v.staleRun
    stages := if v.mode = .off then dropHistory (clearLatches v.stages) else clearLatches v.stages }

/-- What a LOOP_MODE of a configured loop leaves (R231). -/
theorem State.runLoopCmd_mode (u : State) (d : Desc) (b : LoopModeBody) (hon : loopOn u.regs.live b.loop.val = true) (hm : b.mode ≠ 3)
    (hf : fFinite b.man = true) : ∃ w, u.runLoopCmd (some d) (.loopMode b) = w ∧ w.tw.cmds = u.tw.cmds ∧ w.holds = u.holds ∧
      (w.loop b.loop.val).mode = loopMdOf b.mode.toNat ∧ (w.loop b.loop.val).cause = 0 ∧ (b.mode = 2 → (w.loop b.loop.val).man = b.man) ∧
      ∀ i, (Tbl.lookD (w.loop b.loop.val).stages i {}).latch = false := by
  have hneg : ¬(loopOn u.regs.live b.loop.val = false ∨ b.mode = 3 ∨ fFinite b.man = false) := by
    rw [hon, hf]
    rintro (h | h | h)
    · cases h
    · exact hm h
    · cases h
  obtain ⟨f, hrun, hmode, hcause, hman, hlatch⟩ : ∃ f : Loop → Loop, (u.applyLoopMode b).1 = u.modLoop b.loop.val f ∧
      (∀ v, (f v).mode = loopMdOf b.mode.toNat) ∧ (∀ v, (f v).cause = 0) ∧ (b.mode = 2 → ∀ v, (f v).man = b.man) ∧
      ∀ v i, (Tbl.lookD (f v).stages i {}).latch = false := by
    unfold State.applyLoopMode
    simp only
    rw [if_neg hneg]
    refine ⟨loopModeApplied b, rfl, fun v => rfl, fun v => rfl, fun h v => ?_, fun v i => latch_lookD ?_ i⟩
    · show (if loopMdOf b.mode.toNat = .manual then b.man else v.man) = b.man
      rw [h]
      rfl
    · show ∀ e ∈ (if v.mode = .off then dropHistory (clearLatches v.stages) else clearLatches v.stages), e.2.latch = false
      split
      · exact latch_dropHistory (latch_clearLatches _)
      · exact latch_clearLatches _
  obtain ⟨x, hx⟩ : ∃ x, u.modLoop b.loop.val f = x := ⟨_, rfl⟩
  have hloop : x.loop b.loop.val = f (u.loop b.loop.val) := by
    rw [← hx]
    exact u.modLoop_self _ _
  have hcmds : x.tw.cmds = u.tw.cmds := by
    rw [← hx]
    rfl
  have hrow : u.runLoopCmd (some d) (.loopMode b) =
      x.complete d { complOf d 7 (u.applyLoopMode b).2 with timeA := u.tm.bound, turn := u.tm.turn } := by
    unfold State.runLoopCmd
    simp only
    rw [hrun, hx]
  have hsame : (x.complete d { complOf d 7 (u.applyLoopMode b).2 with timeA := u.tm.bound, turn := u.tm.turn }).tw = x.tw := rfl
  have hholds : x.holds = u.holds := by
    rw [← hx]
    rfl
  refine ⟨_, hrow, congrArg (·.cmds) hsame |>.trans hcmds, hholds, ?_⟩
  have hl := State.loop_of_tw (congrArg (·.loops) hsame) b.loop.val
  rw [hl, hloop]
  exact ⟨hmode _, hcause _, fun h => hman h _, hlatch _⟩

/-! ## The boundary of a single device keeps the loops -/

/-- From a to b the loops, the waiting loop descriptors, the configuration and what a FENCE holds stay. -/
structure State.LoopsStay (a b : State) : Prop where
  loops : b.tw.loops = a.tw.loops
  cmds : b.tw.cmds = a.tw.cmds
  holds : b.holds = a.holds
  live : b.regs.live = a.regs.live
  phase : b.regs.phase = a.regs.phase
  plyId : b.dev.plyId = a.dev.plyId
  setUp : b.dev.st = .setUp → a.dev.st = .setUp

theorem State.loopsStay_frame : BaseFrame State.LoopsStay where
  refl _ := ⟨rfl, rfl, rfl, rfl, rfl, rfl, id⟩
  trans h g := ⟨g.loops.trans h.loops, g.cmds.trans h.cmds, g.holds.trans h.holds, g.live.trans h.live, g.phase.trans h.phase,
    g.plyId.trans h.plyId, fun hs => h.setUp (g.setUp hs)⟩
  rep _ _ _ := ⟨rfl, rfl, rfl, rfl, rfl, rfl, id⟩
  dr _ _ := ⟨rfl, rfl, rfl, rfl, rfl, rfl, id⟩
  cr _ _ := ⟨rfl, rfl, rfl, rfl, rfl, rfl, id⟩
  ks _ _ := ⟨rfl, rfl, rfl, rfl, rfl, rfl, id⟩
  mm _ _ := ⟨rfl, rfl, rfl, rfl, rfl, rfl, id⟩
  chs _ _ := ⟨rfl, rfl, rfl, rfl, rfl, rfl, id⟩
  sps _ _ := ⟨rfl, rfl, rfl, rfl, rfl, rfl, id⟩
  lw _ _ := ⟨rfl, rfl, rfl, rfl, rfl, rfl, id⟩
  pl _ _ := ⟨rfl, rfl, rfl, rfl, rfl, rfl, id⟩
  fa _ _ := ⟨rfl, rfl, rfl, rfl, rfl, rfl, id⟩
  fd _ _ := ⟨rfl, rfl, rfl, rfl, rfl, rfl, id⟩
  cs _ _ := ⟨rfl, rfl, rfl, rfl, rfl, rfl, id⟩
  lio _ _ := ⟨rfl, rfl, rfl, rfl, rfl, rfl, id⟩
  rp _ _ := ⟨rfl, rfl, rfl, rfl, rfl, rfl, id⟩
  regs _ _ h := ⟨rfl, rfl, rfl, h.1, h.2.2.1, rfl, id⟩
  tm _ _ _ := ⟨rfl, rfl, rfl, rfl, rfl, rfl, id⟩
  tw _ _ h g := ⟨h, g, rfl, rfl, rfl, rfl, id⟩
  dev _ _ h g := ⟨rfl, rfl, rfl, rfl, rfl, h, g⟩

section
variable {u : State}

theorem State.LoopsStay.plyMember {a b : State} (h : State.LoopsStay a b) : b.plyMember = a.plyMember := by
  unfold State.plyMember State.bit State.live
  rw [h.live, h.plyId]

theorem State.openTurn_loopsStay (a : State) : State.LoopsStay a a.openTurn := ⟨rfl, rfl, rfl, rfl, rfl, rfl, id⟩

theorem State.layTurn_loopsStay (a : State) : State.LoopsStay a a.layTurn := by
  have F := State.loopsStay_frame
  unfold State.layTurn
  simp only
  generalize boundaryAfter a.lenUs a.tm.bound.toNat = n
  generalize hx : ({ a with tm := _ } : State) = x
  have h1 : State.LoopsStay a x := by
    rw [← hx]
    exact ⟨rfl, rfl, rfl, rfl, rfl, rfl, id⟩
  exact F.reports.ite (F.reports.raise (F.reports.count h1 _) _) h1

/-- Time and configuration of a boundary without a commit, in RUN. -/
theorem State.boundConfig_loopsStay (hphase : u.regs.phase = .idle) (hrun : u.dev.st = .run) : State.LoopsStay u u.boundConfig := by
  have F := State.loopsStay_frame
  unfold State.boundConfig
  simp only
  have h1 := F.trans (F.trans (F.trans (F.closeTurn u) (F.missingOver _)) (State.openTurn_loopsStay _)) (F.chBoundary _)
  generalize u.closeTurn.missingOver.openTurn.chBoundary = a at h1 ⊢
  have h2 := F.trans h1 (F.crcStop a a.tm.turn (u.tm.turnLoad || u.tm.cellTurn.isSome))
  generalize a.crcStop a.tm.turn (u.tm.turnLoad || u.tm.cellTurn.isSome) = b at h2 ⊢
  have hcommit : b.commitBoundary = b := if_neg (by rw [h2.phase, hphase]; decide)
  rw [hcommit]
  have h3 := F.reports.raise (F.trans h2 (F.missReports b u.tm.turn)) 0x040
  generalize (b.missReports u.tm.turn).raise 0x040 = c at h3 ⊢
  have h4 := F.trans (F.trans h3 (F.reports.foldl F.liveStep c.streamNums c)) (F.foreignStep _)
  generalize (c.streamNums.foldl State.liveStep c).foreignStep = e at h4 ⊢
  have hentry : e.runEntry = e := by
    refine if_neg fun h => ?_
    rw [Bool.and_eq_true, Bool.and_eq_true, decide_eq_true_eq] at h
    have := h4.setUp h.1.2
    rw [hrun] at this
    cases this
  rw [hentry]
  exact F.trans (F.trans h4 (F.crcStart e _)) (State.layTurn_loopsStay _)

/-- The blocks of a boundary of a single device for which one loop descriptor waits. -/
theorem State.boundBlocks_one {d : Desc} {act : PlyAct} (hp : u.plyMember = false) (hc : u.tw.cmds = [(d, act)]) :
    State.LoopsStay (({ u with tw := { u.tw with cmds := [] } } : State).runLoopCmd (some d) act) u.boundBlocks := by
  have hply : u.plyBoundary = u := if_neg (by rw [hp]; exact Bool.false_ne_true)
  have hloop : u.loopCmds = ({ u with tw := { u.tw with cmds := [] } } : State).runLoopCmd (some d) act := by
    unfold State.loopCmds
    rw [hc]
    rfl
  unfold State.boundBlocks
  simp only
  rw [hply, hloop]
  exact State.loopsStay_frame.blocks _ _

/-- What a boundary reports where no FENCE holds anything. -/
theorem State.boundReports_loopsStay (hh : u.holds = []) : State.LoopsStay u u.boundReports := by
  have F := State.loopsStay_frame
  have h1 : State.LoopsStay u u.fenceBoundary := by
    unfold State.fenceBoundary
    simp only
    rw [hh]
    have h0 : State.LoopsStay u { u with fences := u.fences.filter (fun x => !u.turnBegun x.turn), holds := [] } :=
      ⟨rfl, rfl, hh.symm, rfl, rfl, rfl, id⟩
    exact F.trans h0 (F.reports.foldl (fun b (x : FenceSt) => F.reports.complete (F.refl b) _ _) _ _)
  exact F.trans h1 (F.boundaryReports _)

end

/-- The boundary applies a LOOP_MODE that waits for it. -/
theorem answers_boundary_loopMode {s : State} {d : Desc} {b : LoopModeBody} (hp : s.plyMember = false) (hs : s.ready) (hrun : s.dev.st = .run)
    (hphase : s.regs.phase = .idle) (hh : s.holds = []) (hc : s.tw.cmds = [(d, .loopMode b)])
    (hon : loopOn s.regs.live b.loop.val = true) (hm : b.mode ≠ 3) (hf : fFinite b.man = true) : Answers .turnBoundary s (fun t =>
      t.tw.cmds = [] ∧ (t.loop b.loop.val).mode = loopMdOf b.mode.toNat ∧ (t.loop b.loop.val).cause = 0 ∧
      (b.mode = 2 → (t.loop b.loop.val).man = b.man) ∧ ∀ i, (Tbl.lookD (t.loop b.loop.val).stages i {}).latch = false) := by
  have heq := s.advanceTo_eq s.tm.nextBound
  obtain ⟨u, hu⟩ : ∃ u, s.advanceTo s.tm.nextBound = u := ⟨_, rfl⟩
  rw [hu] at heq
  obtain ⟨hregs, hdev, htw, hholds⟩ : u.regs = s.regs ∧ u.dev = s.dev ∧ u.tw = s.tw ∧ u.holds = s.holds := by
    rw [heq]
    exact ⟨rfl, rfl, rfl, rfl⟩
  have hply : u.plyMember = false := by
    rw [heq]
    exact hp
  have h1 := State.boundConfig_loopsStay (u := u) (by rw [hregs]; exact hphase) (by rw [hdev]; exact hrun)
  have hrow : exec .turnBoundary s = s.sched s.tm.nextBound (fun u => u.boundConfig.boundBlocks.boundReports) := rfl
  obtain ⟨v, hv⟩ : ∃ v, u.boundConfig = v := ⟨_, rfl⟩
  rw [hv] at h1
  have h2 := State.boundBlocks_one (u := v) (d := d) (act := .loopMode b) (h1.plyMember.trans hply)
    (h1.cmds.trans ((congrArg (·.cmds) htw).trans hc))
  obtain ⟨w, hw, hcmds, hholdsw, hmode, hcause, hman, hlatch⟩ := State.runLoopCmd_mode { v with tw := { v.tw with cmds := [] } } d b
    (by show loopOn v.regs.live b.loop.val = true; rw [h1.live, hregs]; exact hon) hm hf
  rw [hw] at h2
  have hwh : w.holds = [] := hholdsw.trans (h1.holds.trans (hholds.trans hh))
  obtain ⟨x, hx⟩ : ∃ x, v.boundBlocks = x := ⟨_, rfl⟩
  rw [hx] at h2
  have h3 := State.loopsStay_frame.trans h2 (State.boundReports_loopsStay (h2.holds.trans hwh))
  refine answers_sched hs hrow ?_
  rw [hu, hv, hx]
  generalize x.boundReports = y at h3
  have hl : y.flush.loop b.loop.val = w.loop b.loop.val := State.loop_of_tw h3.loops b.loop.val
  rw [hl]
  exact ⟨h3.cmds.trans hcmds, hmode, hcause, hman, hlatch⟩

/-! ## A lane fails -/

/-- From a to b the counters of the twist budget, what the lanes run, the repair state and the reports change; no report is taken
back. -/
structure State.LaneRest (a b : State) : Prop where
  rest : b = { a with tw := b.tw, rp := b.rp, rep := b.rep }
  lanes : b.tw.lanes = a.tw.lanes
  loops : b.tw.loops = a.tw.loops
  spare : b.tw.spare = a.tw.spare
  joining : b.tw.joining = a.tw.joining
  gone : ∀ e ∈ a.rp.exhausted, e ∈ b.rp.exhausted
  grows : Rep.Grows a.rep b.rep
  whOld : b.rep.whOld = a.rep.whOld

theorem State.laneRest_frame : Frame State.LaneRest where
  refl _ := ⟨rfl, rfl, rfl, rfl, rfl, fun _ h => h, .refl _, rfl⟩
  trans h g := ⟨g.rest.trans (by rw [h.rest]), g.lanes.trans h.lanes, g.loops.trans h.loops, g.spare.trans h.spare,
    g.joining.trans h.joining, fun e he => g.gone e (h.gone e he), h.grows.trans g.grows, g.whOld.trans h.whOld⟩
  rep _ _ hg hw := ⟨rfl, rfl, rfl, rfl, rfl, fun _ h => h, hg, hw⟩

section
variable (a : State)

theorem State.LaneRest.rp {q : RepairSt} (h : ∀ e ∈ a.rp.exhausted, e ∈ q.exhausted) : State.LaneRest a { a with rp := q } :=
  ⟨rfl, rfl, rfl, rfl, rfl, h, .refl _, rfl⟩

theorem State.spareOut_laneRest (k n : Nat) : State.LaneRest a (a.spareOut k n) ∧ (k, n) ∈ (a.spareOut k n).rp.exhausted := by
  have F := State.laneRest_frame
  unfold State.spareOut
  split
  · next h => exact ⟨F.refl a, List.contains_iff_mem.1 h⟩
  · generalize hx : ({ a with rp := { a.rp with exhausted := a.rp.exhausted ++ [(k, n)] } } : State) = x
    have h1 : State.LaneRest a x := by
      rw [← hx]
      exact .rp a fun e he => List.mem_append_left _ he
    have h2 := F.raise (F.slub (F.refl x) 0x0F09 k 0 0) 0x018
    refine ⟨F.trans h1 h2, h2.gone _ ?_⟩
    rw [← hx]
    exact List.mem_append_right _ List.mem_cons_self

theorem State.queueBurn_laneRest (w : Word) : State.LaneRest a (a.queueBurn w) := by
  have F := State.laneRest_frame
  have hqueue := State.LaneRest.rp a (q := { a.rp with queue := a.rp.queue ++ [w] }) fun _ h => h
  unfold State.queueBurn
  obtain ⟨u, hu⟩ : ∃ u, ({ a with rp := { a.rp with queue := a.rp.queue ++ [w] } } : State) = u := ⟨_, rfl⟩
  rw [hu] at hqueue ⊢
  refine F.trans hqueue ?_
  have hq := fun q b n => State.LaneRest.rp u (q := { u.rp with queue := q, burn := b, burnNow := n }) fun _ h => h
  unfold State.burnNext
  simp only
  split
  · exact hq _ _ _
  · next w rest _ =>
    exact F.ite (F.ite (hq _ _ _) (F.trans (hq rest u.rp.burn u.rp.burnNow) (State.spareOut_laneRest _ _ _).1)) (F.refl u)

theorem State.recheckBudget_laneRest : State.LaneRest a a.recheckBudget := by
  have F := State.laneRest_frame
  have hcost : ∀ n w, State.LaneRest a { a with tw := { a.tw with need := n, win := w } } := fun _ _ =>
    ⟨rfl, rfl, rfl, rfl, rfl, fun _ h => h, .refl _, rfl⟩
  have h1 : State.LaneRest a a.refreshBudget := hcost _ _
  unfold State.recheckBudget
  simp only
  generalize a.refreshBudget = b at h1 ⊢
  have h2 : State.LaneRest b { b with tw := { b.tw with over_ := true } } := ⟨rfl, rfl, rfl, rfl, rfl, fun _ h => h, .refl _, rfl⟩
  exact F.ite h1 (F.raise (F.slub (F.trans h1 h2) _ _ _ _) _)

theorem State.issueLoops_laneRest : State.LaneRest a a.issueLoops := by
  have h := (State.issueLoops_spec a).1
  have hrest := h.rest
  refine ⟨by rw [hrest], by rw [hrest], h.loops, by rw [hrest], by rw [hrest], ?_, ?_, by rw [hrest]⟩
  · rw [hrest]
    exact fun _ he => he
  · rw [hrest]
    exact .refl _

end

/-- The lane is out of service and its loop goes back to those that may start. -/
def State.laneOut (s : State) (lane : Nat) : State :=
  { s with tw := { s.tw with lanes := s.tw.lanes.filter (fun x => decide (x ≠ lane)), running := Tbl.del s.tw.running lane } }

/-- The spare lane is to enter for a lane, or the inventory has none. -/
def State.spareEnters (s : State) (lane : Nat) : State :=
  match s.tw.spare with
  | some x => { s with tw := { s.tw with spare := none, joining := some x, leaving := some lane } }
  | none => s.spareOut 4 lane

theorem State.laneFails_eq {s : State} {lane : Nat} (h : lane ∈ s.tw.lanes) : s.laneFails lane =
    (((((s.laneOut lane).slub 0x0605 lane 0 0).raise 0x224).queueBurn (fuseWord 4 lane 0)).spareEnters lane).recheckBudget.issueLoops :=
  if_pos (List.contains_iff_mem.2 h)

/-- The spare is to enter, or is missed (R251, R518). -/
theorem State.spareEnters_spec (u : State) (lane : Nat) : ∃ v, u.spareEnters lane = v ∧ v = { u with tw := v.tw, rp := v.rp, rep := v.rep } ∧
    v.tw.lanes = u.tw.lanes ∧ v.tw.loops = u.tw.loops ∧ Rep.Grows u.rep v.rep ∧ v.rep.whOld = u.rep.whOld ∧
    (∀ x, u.tw.spare = some x → v.tw.joining = some x ∧ v.tw.spare = none) ∧
    (u.tw.spare = none → (4, lane) ∈ v.rp.exhausted) := by
  refine ⟨_, rfl, ?_⟩
  unfold State.spareEnters
  split
  · next x hx =>
    rw [hx]
    refine ⟨rfl, rfl, rfl, .refl _, rfl, fun y hy => ⟨hy, rfl⟩, fun h => by cases h⟩
  · next hx =>
    rw [hx]
    obtain ⟨h, hmem⟩ := State.spareOut_laneRest u 4 lane
    exact ⟨h.rest, h.lanes, h.loops, h.grows, h.whOld, fun y hy => by (cases hy), fun _ => hmem⟩

/-- A lane in service that fails leaves at once (R251). -/
theorem answers_laneFailure {s : State} {dt : Nat} {lane : Fin 5} (hs : s.ready) (hl : lane.val ∈ s.tw.lanes) :
    Answers (.laneFailure dt lane) s (fun t =>
      t = { s.elapse dt with tw := t.tw, rp := t.rp, rep := t.rep } ∧ lane.val ∉ t.tw.lanes ∧ s.raises t 0x224 ∧
      (∀ l, l ≠ lane.val → (l ∈ t.tw.lanes ↔ l ∈ s.tw.lanes)) ∧ t.tw.loops = s.tw.loops ∧
      (∀ x, s.tw.spare = some x → t.tw.joining = some x ∧ t.tw.spare = none) ∧
      (s.tw.spare = none → (4, lane.val) ∈ t.rp.exhausted)) := by
  have hrow : exec (.laneFailure dt lane) s = s.at_ dt (fun u => u.laneFails lane.val) := rfl
  have htell := State.Hears.start hs dt
  obtain ⟨u, hu⟩ : ∃ u, s.elapse dt = u := ⟨_, rfl⟩
  have htw : u.tw = s.tw := by rw [← hu, State.elapse_tw]
  have hregs : u.regs = s.regs := by rw [← hu, State.elapse_regs]
  rw [hu] at htell
  have hmem : lane.val ∈ u.tw.lanes := by rwa [htw]
  obtain ⟨a, ha⟩ : ∃ a, u.laneOut lane.val = a := ⟨_, rfl⟩
  have hlanes : a.tw.lanes = u.tw.lanes.filter (fun x => decide (x ≠ lane.val)) := by rw [← ha]; rfl
  have hloops : a.tw.loops = u.tw.loops := by rw [← ha]; rfl
  have hspare : a.tw.spare = u.tw.spare := by rw [← ha]; rfl
  have harest : a = { u with tw := a.tw } := by rw [← ha]; rfl
  have F := State.laneRest_frame
  have hhears : s.Hears {} a.rep := by
    rw [harest]
    exact htell
  have hslub := F.slub (F.refl a) 0x0605 lane.val 0 0
  have hslive : (a.slub 0x0605 lane.val 0 0).regs.live = s.regs.live := by
    rw [hslub.rest, ← hregs, harest]
  have hraised := (hhears.mono hslub.grows hslub.whOld).raise 0x224 hslive
  have hb := F.trans (F.raise hslub 0x224) (State.queueBurn_laneRest _ (fuseWord 4 lane.val 0))
  have hhb := State.queueBurn_laneRest ((a.slub 0x0605 lane.val 0 0).raise 0x224) (fuseWord 4 lane.val 0)
  have hbhears := hraised.mono hhb.grows hhb.whOld
  obtain ⟨b, hbe⟩ : ∃ b, ((a.slub 0x0605 lane.val 0 0).raise 0x224).queueBurn (fuseWord 4 lane.val 0) = b := ⟨_, rfl⟩
  rw [hbe] at hb hbhears
  obtain ⟨c, hc, hcrest, hclanes, hcloops, hcgrows, hcold, hspareIn, hnone⟩ := State.spareEnters_spec b lane.val
  have hd := F.trans (State.recheckBudget_laneRest c) (State.issueLoops_laneRest _)
  obtain ⟨d, hde⟩ : ∃ d, c.recheckBudget.issueLoops = d := ⟨_, rfl⟩
  rw [hde] at hd
  have hval : u.laneFails lane.val = d := by rw [State.laneFails_eq hmem, ha, hbe, hc, hde]
  have hl : d.tw.lanes = s.tw.lanes.filter (fun x => decide (x ≠ lane.val)) := by
    rw [hd.lanes, hclanes, hb.lanes, hlanes, htw]
  have hrest : d = { s.elapse dt with tw := d.tw, rp := d.rp, rep := d.rep } := by
    rw [hu]
    calc d = { c with tw := d.tw, rp := d.rp, rep := d.rep } := hd.rest
      _ = { b with tw := d.tw, rp := d.rp, rep := d.rep } := by rw [hcrest]
      _ = { a with tw := d.tw, rp := d.rp, rep := d.rep } := by rw [hb.rest]
      _ = { u with tw := d.tw, rp := d.rp, rep := d.rep } := by rw [harest]
  refine answers_hears hs hrow (by rw [hu]; exact hval) (hbhears.mono (hcgrows.trans hd.grows) (hd.whOld.trans hcold)) fun r' hheard => ?_
  have hbspare : b.tw.spare = s.tw.spare := by rw [hb.spare, hspare, htw]
  refine ⟨congrArg (fun x : State => { x with rep := r' }) hrest, ?_, hheard.raises 0x224 List.mem_cons_self, fun l hne => ?_, ?_, fun x hx => ?_,
    fun hx => hd.gone _ (hnone (hbspare.trans hx))⟩
  · show lane.val ∉ d.tw.lanes
    rw [hl]
    simp
  · show l ∈ d.tw.lanes ↔ _
    rw [hl]
    simp [hne]
  · show d.tw.loops = _
    rw [hd.loops, hcloops, hb.loops, hloops, htw]
  · obtain ⟨h1, h2⟩ := hspareIn x (hbspare.trans hx)
    exact ⟨hd.joining.trans h1, hd.spare.trans h2⟩

/-- Settles O42: loop descriptors wait and are applied at the boundary, whose other parts keep the loops of a single device, and a
lane that fails leaves. -/
theorem loopDescriptorsWaitForTheBoundary : Obligations.LoopDescriptorsWaitForTheBoundary := by
  intro s dt hp
  refine ⟨fun d b hd => ?_, fun d b hd => ?_, fun d b hs hrun hphase hh hc hon hm hf => ?_, fun lane hs hl => answers_laneFailure hs hl⟩
  · exact answers_loopDescriptor (op := 7) hp hd rfl (fun _ => rfl) (by decide)
  · exact answers_loopDescriptor (op := 6) hp hd rfl (fun _ => rfl) (by decide)
  · exact answers_boundary_loopMode hp hs hrun hphase hh hc hon hm hf

end Sys2Proof.Machine
end

section
/-!
PROOFS. What the application of a commit keeps beside the configuration (R394, R31): the effects of its groups, step by step.
-/

namespace Sys2Proof.Machine

/-- A relation that the application of a commit keeps, once the images are live: that of a boundary's steps, with every change of the
twist engine. -/
structure CommitFrame (R : State → State → Prop) : Prop extends BaseFrame R where
  twist : ∀ a x, R a { a with tw := x }

/-! ## Group effects in two parts -/

/-- Committed modes take effect and WARN follows (R86, R101). -/
def State.modeEffects (s : State) (mask : Word) : State :=
  channels.foldl (fun (a : State) c =>
    if bitOf mask c then
      (if s.dev.st = .safe then a else a.commitMode c (modeOf (a.fld (spChBase c) 0 3))).warnUpd c
    else a) s

/-- The schedule of the turn, the LOW bit and the TERM bits follow (R54, R141, R201). -/
def State.timeEffects (s : State) (mask : Word) (o : Img) (now : Bool) : State :=
  let s2 := if bitOf mask 16 then s.refreshSource.refreshBudget else s
  let s3 := if bitOf mask 16 && now && decide (s2.lenUs ≠ o.fld 0x10004 0 14) then s2.reschedule else s2
  let s4a := if bitOf mask 17 then s3.refreshLow else s3
  if bitOf mask 19 then channels.foldl State.judgeTerm s4a else s4a

/-- The loops, their budget and the loop outputs follow (R231, R250, R261). -/
def State.loopEffects (s : State) (mask : Word) (o : Img) : State :=
  let s5 := if bitOf mask 20 then (s.commitLoops o).refreshBudget else s
  let s6 :=
    if (bitOf mask 16 || bitOf mask 20 || bitOf mask 25) && budgetOk s5.regs.live s5.plyMember s5.tw.lanes.length then
      { s5.refreshBudget with tw := { s5.refreshBudget.tw with over_ := false } }
    else s5
  if bitOf mask 21 then s6.commitOutputs o else s6

/-- What the groups of a mask change before the whorl and the ply take part. -/
def State.effectsBefore (s : State) (mask : Word) (o : Img) (now : Bool) : State :=
  ((s.modeEffects mask).timeEffects mask o now).loopEffects mask o

/-- What they change behind the whorl. -/
def State.effectsAfter (s : State) (mask : Word) : State :=
  let on := fun (g : Nat) => bitOf mask g
  let s9a := if on 16 || on 25 || on 26 then s.plyCommit else s
  let s9 := if on 21 || on 22 then s9a.sendOver .commit else s9a
  if on 31 && !s9.bit 0x1020 0 then
    { (if s9.regs.passOn && s9.regs.passValid then s9.count 5729 else s9) with
      regs := { s9.regs with passOn := false, passValid := false } }
  else s9

theorem State.groupEffects_eq (s : State) (mask : Word) (o : Img) (now : Bool) : s.groupEffects mask o now =
    (if bitOf mask 24 then (s.effectsBefore mask o now).whorlCommit o else s.effectsBefore mask o now).effectsAfter mask := rfl

section
variable {R : State → State → Prop} (F : CommitFrame R)
include F

theorem CommitFrame.reschedule (a : State) : R a a.reschedule := by
  unfold State.reschedule
  simp only
  generalize boundaryAfter a.lenUs a.now.toNat = n
  generalize (decide ((a.now - a.tm.origin).toNat + (n - a.now.toNat) > a.lenUs * 1000)) = long
  have h1 : R a { a with tm := { a.tm with nextBound := BitVec.ofNat 64 n, stretch := a.tm.stretch || long } } :=
    F.tm a _ (by exact ⟨rfl, rfl, rfl, rfl, rfl, rfl, rfl, rfl, rfl⟩)
  exact F.reports.ite (F.reports.raise (F.reports.count h1 _) _) h1

theorem CommitFrame.commitLoops (a : State) (o : Img) : R a (a.commitLoops o) :=
  F.reports.foldl (fun b _ => F.reports.ite (F.twist b _) (F.reports.ite (F.twist b _) (F.refl b))) _ a

theorem CommitFrame.commitOutputs (a : State) (o : Img) : R a (a.commitOutputs o) := F.reports.foldl (fun b _ => F.lio b _) _ a

theorem CommitFrame.sendOver (a : State) (k : XferKind) : R a (a.sendOver k) := by
  rw [State.sendOver_eq]
  exact F.fa a _

theorem CommitFrame.refreshUp (a : State) : R a a.refreshUp := F.reports.ite (F.refl a) (F.reports.raise (F.cs a _) _)

theorem CommitFrame.linkDown (a : State) (l : Nat) : R a (a.linkDown l) :=
  F.trans (F.trans (F.cs a _) (F.cs _ _)) (F.refreshUp _)

theorem CommitFrame.joinBreach (a : State) (n : Nat) : R a (a.joinBreach n) := by
  unfold State.joinBreach
  split
  · exact F.refl a
  · simp only
    split
    · split
      · exact F.refl a
      · exact F.reports.status (F.reports.slub (F.drs.cover a n _) _ _ _ _) _
    · exact F.reports.foldl (fun b c => F.reports.ite
        (F.reports.foldl (fun b f => F.reports.ite (F.drs.detect b _ 5 _ f) (F.refl b)) _ b) (F.drs.detect b _ c 0 0)) _ a

theorem CommitFrame.admitStream (a : State) (b : OpenBody) (v : Verdict) (hb : Option Nat) : R a (a.admitStream b v hb) :=
  F.trans (F.trans (F.trans (F.trans (F.cr a _) (F.dr _ _)) (F.refreshR _ _)) (F.joinBreach _ _)) (F.free.coverChange _)

theorem CommitFrame.openHb (a : State) : R a a.openHb.st := by
  unfold State.openHb
  suffices h : ∀ (l : List Nat) (t : HbTry), R a t.st → R a (l.foldl (fun (a : HbTry) m =>
      let b := hbBody a.st.regs.live m
      let v := a.st.hbVerdict b
      if a.ok = false then a
      else if v.reason = 0 then { a with st := a.st.admitStream b v (some m), drafts := a.drafts ++ [(b.stream.val, v)] }
      else { a with drafts := a.drafts ++ [(b.stream.val, v)], ok := false }) t).st from h [0, 1, 2] { st := a } (F.refl a)
  intro l
  induction l with
  | nil => exact fun _ h => h
  | cons m l ih =>
    intro t h
    refine ih _ ?_
    simp only
    split
    · exact h
    · split
      · exact F.trans h (F.admitStream _ _ _ _)
      · exact h

theorem CommitFrame.plyCommit (a : State) : R a a.plyCommit := by
  have h1 : R a { a with cs := { a.cs with gapUs := gapOf a.regs.live, hopUs := hopOf a.regs.live } } := F.cs a _
  have h2 := F.trans h1 (F.reports.ite (F.refl _) (F.ply.setRole _ .out) : R _ (State.outIfNoMember _))
  have h3 := F.trans h2 (F.reports.ite (F.openHb _) (F.refl _) : R _ (State.hbOpenStep _))
  have h4 := F.trans h3 (F.reports.ite (F.refl _) (F.dr _ _) : R _ (State.hbCloseStep _))
  have h5 := F.trans h4 (F.reports.foldl (fun b l => F.reports.ite (F.linkDown b l) (F.refl b)) (List.range 4) _ : R _ (State.dropLinks _))
  exact F.trans h5 (F.trans (F.refreshUp _) (F.trans (F.ply.refreshSource _) (F.ply.refreshTrip _)))

theorem CommitFrame.newReserves (a : State) (chs : List Nat) : R a (a.newReserves chs) := by
  unfold State.newReserves
  simp only
  generalize hx : ({ a with dr := _ } : State) = x
  exact F.trans (hx ▸ F.dr a _) (F.reports.foldl (fun b c => F.trans (F.cr b _) (F.refreshR _ c)) chs x)

theorem CommitFrame.modeEffects (a : State) (mask : Word) : R a (a.modeEffects mask) :=
  F.reports.foldl (fun b c => F.reports.ite
    (F.trans (F.reports.ite (F.refl b) (F.commitMode b c _)) ((F.bus c).air.chanFrame.warnUpd _)) (F.refl b)) channels a

theorem CommitFrame.timeEffects (a : State) (mask : Word) (o : Img) (now : Bool) : R a (a.timeEffects mask o now) := by
  unfold State.timeEffects
  simp only
  have h2 : R a (if bitOf mask 16 then a.refreshSource.refreshBudget else a) :=
    F.reports.ite (F.trans (F.ply.refreshSource _) (F.refreshBudget _)) (F.refl a)
  generalize (if bitOf mask 16 then a.refreshSource.refreshBudget else a) = b at h2 ⊢
  have h3 : R a (if (bitOf mask 16 && now && decide (b.lenUs ≠ o.fld 0x10004 0 14)) = true then b.reschedule else b) :=
    F.reports.ite (F.trans h2 (F.reschedule _)) h2
  generalize (if (bitOf mask 16 && now && decide (b.lenUs ≠ o.fld 0x10004 0 14)) = true then b.reschedule else b) = c at h3 ⊢
  have h4 : R a (if bitOf mask 17 then c.refreshLow else c) := F.reports.ite (F.trans h3 (F.free.refreshLow _)) h3
  generalize (if bitOf mask 17 then c.refreshLow else c) = d at h4 ⊢
  exact F.reports.ite (F.trans h4 (F.reports.foldl (fun b _ => F.line.judgeTerm b) _ _)) h4

theorem CommitFrame.loopEffects (a : State) (mask : Word) (o : Img) : R a (a.loopEffects mask o) := by
  unfold State.loopEffects
  simp only
  have h1 : R a (if bitOf mask 20 then (a.commitLoops o).refreshBudget else a) :=
    F.reports.ite (F.trans (F.commitLoops _ _) (F.refreshBudget _)) (F.refl a)
  generalize (if bitOf mask 20 then (a.commitLoops o).refreshBudget else a) = b at h1 ⊢
  have h2 : R a (if ((bitOf mask 16 || bitOf mask 20 || bitOf mask 25) && budgetOk b.regs.live b.plyMember b.tw.lanes.length) = true then
      { b.refreshBudget with tw := { b.refreshBudget.tw with over_ := false } } else b) :=
    F.reports.ite (F.trans h1 (F.trans (F.refreshBudget _) (F.twist _ _))) h1
  exact F.reports.ite (F.trans h2 (F.commitOutputs _ _)) h2

theorem CommitFrame.effectsBefore (a : State) (mask : Word) (o : Img) (now : Bool) : R a (a.effectsBefore mask o now) :=
  F.trans (F.modeEffects a mask) (F.trans (F.timeEffects _ mask o now) (F.loopEffects _ mask o))

theorem CommitFrame.effectsAfter (a : State) (mask : Word) : R a (a.effectsAfter mask) := by
  unfold State.effectsAfter
  simp only
  have h1 : R a (if (bitOf mask 16 || bitOf mask 25 || bitOf mask 26) = true then a.plyCommit else a) := F.reports.ite (F.plyCommit a) (F.refl a)
  generalize (if (bitOf mask 16 || bitOf mask 25 || bitOf mask 26) = true then a.plyCommit else a) = b at h1 ⊢
  have h2 : R a (if (bitOf mask 21 || bitOf mask 22) = true then b.sendOver .commit else b) := F.reports.ite (F.trans h1 (F.sendOver _ _)) h1
  generalize (if (bitOf mask 21 || bitOf mask 22) = true then b.sendOver .commit else b) = c at h2 ⊢
  have h3 : R c (if (c.regs.passOn && c.regs.passValid) = true then c.count 5729 else c) := F.reports.ite (F.reports.count (F.refl c) _) (F.refl c)
  have hregs : (if (c.regs.passOn && c.regs.passValid) = true then c.count 5729 else c).regs = c.regs := by
    split <;> rfl
  generalize (if (c.regs.passOn && c.regs.passValid) = true then c.count 5729 else c) = d at h3 hregs ⊢
  refine F.reports.ite (F.trans h2 (F.trans h3 ?_)) h2
  rw [← hregs]
  exact F.regs d _ (by exact ⟨rfl, rfl, rfl, rfl, rfl, rfl⟩)

theorem CommitFrame.coverIfChanged (a old : State) : R a (a.coverIfChanged old) := F.reports.ite (F.refl a) (F.free.coverChange a)

end

end Sys2Proof.Machine
end

section
/-!
PROOFS. DV_COMMIT_NOW: the groups that pass the checks are live with the acceptance (R388, R394, R395), and the firing of 0x057 in the
instant of a commit (R375).
-/

namespace Sys2Proof.Machine

/-! ## A firing in the instant of a commit of group WHORL (R375) -/

/-- A source fires under the WH_SRC register in force for the instant. -/
theorem Rep.pends_fire_srcReg {c : Ctx} {r : Rep} {i : Nat} {p : Port} (hi : i < 0x3F0)
    (ht : bitOf (r.srcReg c i) (8 + p.idx) = true) (he : bitOf (r.srcReg c i) 12 = true) : (r.fire c i).pends p i := by
  unfold Rep.fire
  rw [Rep.fireN_succ, if_pos hi]
  simp only
  cases p
  · have ha : bitOf (r.srcReg c i) 8 = true := ht
    rw [if_pos ha]
    split
    · exact (Rep.grows_fireOne _ _ _ _ _ _).pends .a i (Rep.pends_fireOne he)
    · exact Rep.pends_fireOne he
  · have hb : bitOf (r.srcReg c i) 9 = true := ht
    rw [if_pos hb]
    exact Rep.pends_fireOne he

theorem Tbl.look_map_filter {α : Type} {f : Nat × α → Nat × α} {P : Nat × α → Bool} (hf : ∀ e, (f e).1 = e.1) {k : Nat} {x : α}
    (hk : ∀ v, f (k, v) = (k, v)) (hP : P (k, x) = true) {t : Tbl α} (h : Tbl.look t k = some x) :
    Tbl.look ((t.map f).filter P) k = some x := by
  induction t with
  | nil => cases h
  | cons e t ih =>
    obtain ⟨j, v⟩ := e
    by_cases hj : k = j
    · subst hj
      have hv : v = x := by simpa [Tbl.look] using h
      subst hv
      simp [hk, hP, Tbl.look]
    · have htail : Tbl.look t k = some x := by simpa [Tbl.look, hj] using h
      obtain ⟨w, hw⟩ : ∃ w, f (j, v) = (j, w) := ⟨(f (j, v)).2, Prod.ext (hf _) rfl⟩
      simp only [List.map_cons, hw, List.filter_cons]
      split
      · simp only [Tbl.look, if_neg hj]
        exact ih htail
      · exact ih htail

/-- A port keeps in its view a source that the committed configuration routes to it. -/
theorem PortSt.lookD_whorlView {q : PortSt} {c : Ctx} {p : Port} {i : Nat} {x : SrcState}
    (he : bitOf (c.src i) 12 = true) (ht : bitOf (c.src i) (8 + p.idx) = true) (hx : x ≠ .inactive)
    (h : Tbl.lookD q.src i .inactive = x) : Tbl.lookD (q.whorlView c p).src i .inactive = x := by
  have hsome : Tbl.look q.src i = some x := by
    unfold Tbl.lookD at h
    cases hl : Tbl.look q.src i with
    | none =>
      rw [hl] at h
      exact absurd h.symm hx
    | some y =>
      rw [hl] at h
      exact congrArg some h
  have hkeep : (bitOf (c.src i) 12 && bitOf (c.src i) (8 + p.idx)) = true := by rw [he, ht]; rfl
  refine congrArg (fun o : Option SrcState => o.getD .inactive) (Tbl.look_map_filter (fun e => ?_) (fun v => if_pos hkeep) (decide_eq_true hx) hsome)
  split <;> rfl

theorem Rep.port_whorlViews {r : Rep} {c : Ctx} (h : r.whOld.isSome = true) (p : Port) :
    (r.whorlViews c).port p = (r.port p).whorlView c p := by
  have hv : r.whorlViews c =
      { (r.setPort .a ((r.port .a).whorlView c .a)).setPort .b (((r.setPort .a ((r.port .a).whorlView c .a)).port .b).whorlView c .b) with
        whOld := none, whDue := true } := if_pos h
  have hport : (r.whorlViews c).port p = ((r.setPort .a ((r.port .a).whorlView c .a)).setPort .b
      (((r.setPort .a ((r.port .a).whorlView c .a)).port .b).whorlView c .b)).port p := by
    rw [hv]
    rfl
  rw [hport]
  cases p with
  | a => rw [Rep.port_setPort_ne _ _ (by simp), Rep.port_setPort_self]
  | b => rw [Rep.port_setPort_self, Rep.port_setPort_ne _ _ (by simp)]

/-- What pends under the committed configuration still pends at the end of the instant. -/
theorem Rep.pends_flush {r : Rep} {c : Ctx} {p : Port} {i : Nat} (he : bitOf (c.src i) 12 = true) (ht : bitOf (c.src i) (8 + p.idx) = true)
    (h : r.pends p i) : (r.flush c).pends p i := by
  refine (Rep.grows_whorlReqs _ c).pends p i ?_
  have hw : (r.writeAll c).pends p i := (Rep.writeAll_spec r c).1.pends p i h
  generalize r.writeAll c = b at hw
  cases hold : b.whOld with
  | none => rwa [Rep.whorlViews_none c hold]
  | some o =>
    unfold Rep.pends
    rw [Rep.port_whorlViews (by rw [hold]; rfl)]
    exact hw.imp (PortSt.lookD_whorlView he ht (by simp)) (PortSt.lookD_whorlView he ht (by simp))

/-- A source raised last in the instant of a commit reaches the ports to which the configurations before and behind the commit
route it (R375). -/
theorem State.pends_raise_flush {s v : State} {i : Nat} (hw : v.rep.whOld = none ∨ v.rep.whOld = some s.regs.live) {p : Port}
    (hs : s.routed p i) (hv : v.routed p i) : (v.raise i).flush.rep.pends p i := by
  obtain ⟨hi, hst, hse⟩ := hs
  obtain ⟨-, hvt, hve⟩ := hv
  refine Rep.pends_flush (c := (v.raise i).ctx) hve hvt (Rep.pends_fire_srcReg hi ?_ ?_)
  · unfold Rep.srcReg
    rcases hw with hw | hw
    · rw [hw]
      exact hvt
    · rw [hw]
      exact hst
  · unfold Rep.srcReg
    rcases hw with hw | hw
    · rw [hw]
      exact hve
    · rw [hw]
      exact hse

/-! ## What the refusals leave -/

/-- From a to b only reports are made, and no configuration before the commit is remembered or forgotten. -/
structure State.Says (a b : State) : Prop where
  rest : b = { a with rep := b.rep }
  whOld : b.rep.whOld = a.rep.whOld

theorem State.says_frame : Frame State.Says where
  refl _ := ⟨rfl, rfl⟩
  trans h g := ⟨g.rest.trans (by rw [h.rest]), g.whOld.trans h.whOld⟩
  rep _ _ _ hw := ⟨rfl, hw⟩

section
variable (a : State)

theorem State.draftHank_says (n st r x : Nat) : State.Says a (a.draftHank n st r x) := by
  refine ⟨rfl, ?_⟩
  show Rep.whOld (Rep.hank _ _ _ _ _ _) = _
  unfold Rep.hank
  split <;> rfl

theorem State.decided_says (b : Bool) : State.Says a (a.decided b) := by
  have F := State.says_frame
  exact F.ite (F.raise (F.raise (F.refl a) _) _) (F.raise (F.refl a) _)

theorem State.reportHb_says (acc : Word) : State.Says a (a.reportHb acc) := by
  have F := State.says_frame
  have hone : ∀ (b : State) (d : Nat × Verdict), State.Says b (b.hbReport d) := fun b d =>
    F.ite (b.draftHank_says _ _ _ _) (F.ite (F.trans (b.draftHank_says _ _ _ _) (State.decided_says _ _))
      (F.trans (b.draftHank_says _ _ _ _) (State.decided_says _ _)))
  exact F.ite (F.foldl hone _ a) (F.refl a)

/-- The refusals in DV_REFUSED and TW_REFUSE (R389, R252). -/
def State.refusalsShown (s : State) (o : ChkOut) : State :=
  { s with
    regs := { s.regs with refused := s.regs.pend &&& ~~~o.acc }
    tw := match o.tw with
      | some (k, r, st) => if bitOf (s.regs.pend &&& ~~~o.acc) 20 then { s.tw with refLoop := k, refReason := r, refStage := st } else s.tw
      | none => s.tw }

/-- The slubs and sources of the refusals (R389, R497, R393, R484). -/
def State.refusalsTold (s : State) (o : ChkOut) (refused : Word) : State :=
  let s2 := (groupsOf refused).foldl State.refuseGroup s
  let s3 := if o.rean && !bitOf refused 18 then s2.raise 0x1A8 else s2
  let s4 := if o.slots && !bitOf refused 26 then s3.raise 0x058 else s3
  if o.wd && !bitOf refused 21 then s4.raise 0x219 else s4

theorem State.reportRefusals_eq (o : ChkOut) : a.reportRefusals o = (a.refusalsShown o).refusalsTold o (a.regs.pend &&& ~~~o.acc) := rfl

theorem State.refusalsTold_says (o : ChkOut) (refused : Word) : State.Says a (a.refusalsTold o refused) := by
  have F := State.says_frame
  unfold State.refusalsTold
  simp only
  have hone : ∀ (b : State) (g : Nat), State.Says b (b.refuseGroup g) := fun b g => F.raise (F.slub (F.refl b) _ _ _ _) _
  have h1 := F.foldl hone (groupsOf refused) a
  generalize List.foldl State.refuseGroup a _ = b at h1 ⊢
  have h2 : State.Says a (if (o.rean && !bitOf refused 18) = true then b.raise 0x1A8 else b) := F.ite (F.raise h1 _) h1
  generalize (if (o.rean && !bitOf refused 18) = true then b.raise 0x1A8 else b) = c at h2 ⊢
  have h3 : State.Says a (if (o.slots && !bitOf refused 26) = true then c.raise 0x058 else c) := F.ite (F.raise h2 _) h2
  generalize (if (o.slots && !bitOf refused 26) = true then c.raise 0x058 else c) = d at h3 ⊢
  exact F.ite (F.raise h3 _) h3

/-- The refusals are shown and reported (R389). -/
theorem State.reportRefusals_spec (o : ChkOut) : ∃ b, a.reportRefusals o = b ∧
    b.regs = { a.regs with refused := a.regs.pend &&& ~~~o.acc } ∧ b.locks = a.locks ∧ b.rep.whOld = a.rep.whOld := by
  rw [State.reportRefusals_eq]
  have h := State.refusalsTold_says (a.refusalsShown o) o (a.regs.pend &&& ~~~o.acc)
  exact ⟨_, rfl, congrArg (·.regs) h.rest, congrArg (·.locks) h.rest, h.whOld⟩

end

/-! ## What the application leaves -/

/-- From a to b the configuration, the lock bits and what is remembered of a commit stay. -/
structure State.ConfigStays (a b : State) : Prop where
  regs : RegSt.sameConfig a.regs b.regs
  whOld : b.rep.whOld = a.rep.whOld

theorem RegSt.sameConfig.trans {a b c : RegSt} (h : RegSt.sameConfig a b) (g : RegSt.sameConfig b c) : RegSt.sameConfig a c := by
  obtain ⟨h1, h2, h3, h4, h5, h6⟩ := h
  obtain ⟨g1, g2, g3, g4, g5, g6⟩ := g
  exact ⟨g1.trans h1, g2.trans h2, g3.trans h3, g4.trans h4, g5.trans h5, g6.trans h6⟩

theorem RegSt.sameConfig.refl (a : RegSt) : RegSt.sameConfig a a := ⟨rfl, rfl, rfl, rfl, rfl, rfl⟩

theorem State.configStays_frame : CommitFrame State.ConfigStays where
  refl _ := ⟨.refl _, rfl⟩
  trans h g := ⟨h.regs.trans g.regs, g.whOld.trans h.whOld⟩
  rep _ _ hw := ⟨.refl _, hw⟩
  dr _ _ := ⟨.refl _, rfl⟩
  cr _ _ := ⟨.refl _, rfl⟩
  ks _ _ := ⟨.refl _, rfl⟩
  mm _ _ := ⟨.refl _, rfl⟩
  chs _ _ := ⟨.refl _, rfl⟩
  sps _ _ := ⟨.refl _, rfl⟩
  lw _ _ := ⟨.refl _, rfl⟩
  pl _ _ := ⟨.refl _, rfl⟩
  fa _ _ := ⟨.refl _, rfl⟩
  fd _ _ := ⟨.refl _, rfl⟩
  cs _ _ := ⟨.refl _, rfl⟩
  lio _ _ := ⟨.refl _, rfl⟩
  rp _ _ := ⟨.refl _, rfl⟩
  regs _ _ h := ⟨h, rfl⟩
  tm _ _ _ := ⟨.refl _, rfl⟩
  tw _ _ _ _ := ⟨.refl _, rfl⟩
  dev _ _ _ _ := ⟨.refl _, rfl⟩
  twist _ _ := ⟨.refl _, rfl⟩

/-- The effects of the groups leave the configuration; that of group WHORL remembers the configuration before. -/
theorem State.groupEffects_config (a : State) (mask : Word) (o : Img) (now : Bool) (hw : a.rep.whOld = none) :
    RegSt.sameConfig a.regs (a.groupEffects mask o now).regs ∧
    ((a.groupEffects mask o now).rep.whOld = none ∨ (a.groupEffects mask o now).rep.whOld = some o) := by
  have F := State.configStays_frame
  rw [State.groupEffects_eq]
  have h1 := F.effectsBefore a mask o now
  generalize a.effectsBefore mask o now = b at h1 ⊢
  split
  · have h2 := F.effectsAfter (b.whorlCommit o) mask
    exact ⟨h1.regs.trans h2.regs, .inr h2.whOld⟩
  · have h2 := F.effectsAfter b mask
    exact ⟨h1.regs.trans h2.regs, .inl (h2.whOld.trans (h1.whOld.trans hw))⟩

/-- An application makes its groups live and raises 0x057 last (R394). -/
theorem State.applyGroups_spec (s : State) (mask : Word) (hw : s.rep.whOld = none) : ∃ v : State, s.applyGroups mask = v.raise 0x057 ∧
    RegSt.sameConfig (s.makeLive mask).regs v.regs ∧ (v.rep.whOld = none ∨ v.rep.whOld = some s.regs.live) := by
  have F := State.configStays_frame
  refine ⟨_, rfl, ?_⟩
  have h1 := F.newReserves (s.makeLive mask) (s.reanChannels mask)
  generalize (s.makeLive mask).newReserves (s.reanChannels mask) = b at h1 ⊢
  obtain ⟨h2, hold⟩ := State.groupEffects_config b mask s.regs.live s.regs.commitNow (h1.whOld.trans hw)
  generalize b.groupEffects mask s.regs.live s.regs.commitNow = c at h2 hold ⊢
  have h3 := F.trans (F.coverIfChanged c s) (F.ply.refreshTrip _)
  exact ⟨(h1.regs.trans h2).trans h3.regs, by rwa [h3.whOld]⟩

/-- The groups that passed the checks wait for their application (R391, R392). -/
def State.groupsAccepted (s : State) (acc : Word) : State :=
  { s with regs := { s.regs with pend := acc, phase := if acc = 0 then .idle else .accepted } }

/-- The end of the checks of a DV_COMMIT_NOW (R395). -/
theorem State.finishChecks_now {s : State} {o : ChkOut} {a b : State} (hchk : s.checkAll false 33 s.regs.pend = o) (ha : s.reportHb o.acc = a)
    (hb : a.reportRefusals o = b) (hnow : b.regs.commitNow = true) (hacc : o.acc ≠ 0) :
    s.finishChecks false = (b.groupsAccepted o.acc).applyGroups o.acc := by
  have h : s.finishChecks false =
      if ((((s.reportHb (s.checkAll false 33 s.regs.pend).acc).reportRefusals (s.checkAll false 33 s.regs.pend)).groupsAccepted
          (s.checkAll false 33 s.regs.pend).acc).regs.commitNow && decide ((s.checkAll false 33 s.regs.pend).acc ≠ 0)) = true
      then (((s.reportHb (s.checkAll false 33 s.regs.pend).acc).reportRefusals (s.checkAll false 33 s.regs.pend)).groupsAccepted
          (s.checkAll false 33 s.regs.pend).acc).applyGroups (s.checkAll false 33 s.regs.pend).acc
      else ((s.reportHb (s.checkAll false 33 s.regs.pend).acc).reportRefusals (s.checkAll false 33 s.regs.pend)).groupsAccepted
          (s.checkAll false 33 s.regs.pend).acc := rfl
  rw [hchk, ha, hb] at h
  refine h.trans (if_pos ?_)
  have hbnow : (b.groupsAccepted o.acc).regs.commitNow = true := hnow
  rw [hbnow, Bool.true_and, decide_eq_true_eq]
  exact hacc

theorem State.candImg_congr {a b : State} (hlive : b.regs.live = a.regs.live) (hshadow : b.regs.shadow = a.regs.shadow) (hlocks : b.locks = a.locks)
    (mask : Word) : b.candImg mask = a.candImg mask := by
  unfold State.candImg State.guardMask State.lock State.live State.shadow
  rw [hlive, hshadow, hlocks]

/-- The commit at its acceptance after DV_COMMIT_NOW. -/
theorem exec_commitAcceptance (dt : Nat) (s : State) :
    exec (.commitAcceptance dt) s = s.at_ dt (fun s => if s.regs.phase = .checking then s.finishChecks false else s) := rfl

/-- Settles O15: the checks leave the configuration, the application makes the accepted groups live, and 0x057 fires last. -/
theorem commitNowAppliesAtAcceptance : Obligations.CommitNowAppliesAtAcceptance := by
  intro s dt hs hphase hnow acc hacc
  refine answers_at hs (exec_commitAcceptance dt s) ?_
  have hacc' : ((s.elapse dt).checkAll false 33 s.regs.pend).acc = acc := rfl
  clear_value acc
  have hregs := State.elapse_regs (s := s) (dt := dt)
  have hlocks : (s.elapse dt).locks = s.locks := by rw [State.elapse_eq]
  have hold := State.elapse_whOld (s := s) (dt := dt) hs
  generalize s.elapse dt = u at *
  rw [if_pos (by rw [hregs]; exact hphase)]
  generalize ho : u.checkAll false 33 s.regs.pend = o at hacc'
  subst hacc'
  have hhb := u.reportHb_says o.acc
  obtain ⟨a, ha⟩ : ∃ a, u.reportHb o.acc = a := ⟨_, rfl⟩
  rw [ha] at hhb
  obtain ⟨b, hb, hbregs, hblocks, hbold⟩ := a.reportRefusals_spec o
  have haregs : a.regs = s.regs := (congrArg (·.regs) hhb.rest).trans hregs
  have halocks : a.locks = s.locks := (congrArg (·.locks) hhb.rest).trans hlocks
  rw [State.finishChecks_now (by rw [hregs]; exact ho) ha hb (by rw [hbregs, haregs]; exact hnow) hacc]
  obtain ⟨c, hc⟩ : ∃ c, b.groupsAccepted o.acc = c := ⟨_, rfl⟩
  rw [hc]
  have hcregs : c.regs = { s.regs with pend := o.acc, phase := if o.acc = 0 then .idle else .accepted, refused := s.regs.pend &&& ~~~o.acc } := by
    rw [← hc]
    show ({ b.regs with pend := o.acc, phase := _ } : RegSt) = _
    rw [hbregs, haregs]
  have hcand : c.candImg o.acc = s.candImg o.acc :=
    State.candImg_congr (by rw [hcregs]) (by rw [hcregs]) ((congrArg (·.locks) hc.symm).trans (hblocks.trans halocks)) o.acc
  have hcold : c.rep.whOld = none := by
    rw [← hc]
    exact hbold.trans (hhb.whOld.trans hold)
  obtain ⟨v, hv, ⟨hlive, hshadow, hph, hpend, hdirty, href⟩, hvold⟩ := State.applyGroups_spec c o.acc hcold
  rw [hv]
  rw [hcregs] at hvold
  have hregs : (v.raise 0x057).flush.regs = v.regs := rfl
  rw [hregs]
  refine ⟨hph, hpend, hdirty.trans ?_, href.trans ?_, hlive.trans hcand, hshadow.trans ?_, fun p hs ht =>
    State.pends_raise_flush hvold hs ht⟩
  · show c.regs.dirty &&& ~~~o.acc = _
    rw [hcregs]
  · show c.regs.refused = _
    rw [hcregs]
  · show c.regs.shadow = _
    rw [hcregs]

end Sys2Proof.Machine
end

section
/-!
PROOFS. What a descriptor that a FENCE held keeps when it is offered again at a boundary (R342, chapter 10).
-/

namespace Sys2Proof.Machine

/-- A relation that every step of a boundary keeps but the opening of the turn: the queue, the lock bits and the turn stay. -/
structure TurnFrame (R : State → State → Prop) : Prop extends CommitFrame R where
  config : ∀ a x, R a { a with regs := x }
  report : ∀ a x, R a { a with rep := x }
  fences : ∀ a x, R a { a with fences := x }
  holds : ∀ a x, R a { a with holds := x }

section
variable {R : State → State → Prop} (F : TurnFrame R) {a b : State}
include F

/-! ## Bobbins and releases -/

theorem TurnFrame.poisoned (a : State) (sl n : Nat) : R a (a.poisoned sl n) :=
  F.trans (F.reports.countN (F.refl a) _ _) (F.rep _ _ (by split <;> rfl))

theorem TurnFrame.abort (a : State) (ch : Nat) (e : Ready) : R a (a.abort ch e) := (F.wire ch).abort a e

theorem TurnFrame.choose (a : State) (ch : Nat) (poison : Bool) : R a (a.choose ch poison) := by
  have hbad : ∀ (b : State) (e : Ready), R b ((b.poisoned (b.txSliver ch) 1).abort ch e) := fun b e => F.trans (F.poisoned b _ _) (F.abort _ ch e)
  unfold State.choose
  simp only
  split
  · exact F.refl a
  · split
    · split
      · exact F.reports.ite (hbad a _) (F.refl a)
      · exact F.refl a
    · split
      · exact F.refl a
      · split
        · exact F.refl a
        · generalize hx : State.setSliver _ _ _ = x
          have h1 : R a x := hx ▸ F.trans (F.chs a _) (F.mm _ _)
          exact F.reports.ite (F.trans h1 (hbad x _)) (F.reports.ite h1 (F.reports.emit h1 _))

theorem TurnFrame.enterReady (a : State) (ch bob : Nat) (key : Word) (kind : ReadyKind) : R a (a.enterReady ch bob key kind) := by
  unfold State.enterReady
  simp only
  generalize hx : a.setCh ch _ = x
  have h1 : R a x := hx ▸ F.chs a _
  exact F.reports.ite (F.trans h1 (F.choose x ch false)) h1

theorem TurnFrame.takeBob (a : State) (b : Bobbin) : R a (a.takeBob b) := F.trans (F.cr a _) (F.free.refreshLow _)

theorem TurnFrame.makeRelease (a : State) (n : Nat) (t : BitVec 64) (given : Option (List Byte)) (d : Option Desc) :
    R a (a.makeRelease n t given d) := by
  have hgone : ∀ {b : State} id st, R a b → R a (b.relGone n id st) := fun id st h => F.trans h (F.drs.relGone _ _ id st)
  have hset : ∀ {b : State} x, R a b → R a (b.setStream n x) := fun x h => F.trans h (F.dr _ _)
  unfold State.makeRelease
  split
  · exact F.refl a
  · next x _ =>
    simp only
    refine F.reports.ite ?_ ?_
    · refine hgone _ _ ?_
      generalize hy : a.setStream n _ = y
      have h1 : R a y := hy ▸ hset _ (F.refl a)
      exact F.reports.ite h1 (F.reports.raise (F.reports.count h1 _) _)
    · generalize hy : (if (decide (x.cfg.source = 2) && given.isNone && x.valueLater) = true then a.count (5184 + 64 * x.cfg.vport.idx + 4) else a) = y
      have h0 : R a y := hy ▸ F.reports.ite (F.reports.count (F.refl a) _) (F.refl a)
      refine F.reports.ite (hgone _ _ (hset _ h0)) (F.reports.ite (hset _ h0) (F.reports.ite (hgone _ _ (F.reports.slub (hset _ h0) _ _ _ _)) ?_))
      exact F.trans (F.trans (hset _ h0) (F.takeBob _ _)) (F.enterReady _ _ _ _ _)

theorem TurnFrame.acceptHeld (a : State) (n : Nat) : R a (a.acceptHeld n) := by
  unfold State.acceptHeld
  split
  · exact F.refl a
  · split
    · exact F.refl a
    · exact F.trans (F.dr a _) (F.makeRelease _ _ _ _ _)

theorem TurnFrame.startValue (a : State) (n : Nat) (x : Stream) : R a (a.startValue n x).1 := by
  unfold State.startValue
  simp only
  split
  · split
    · exact F.reports.emit (F.dr a _) _
    · exact F.trans (F.dr a _) (F.rep _ _ (by cases x.cfg.vport <;> rfl))
  · exact F.refl a

theorem TurnFrame.valueRead (a : State) (n : Nat) : R a (a.valueRead n) := by
  unfold State.valueRead
  split
  · exact F.refl a
  · exact F.trans (F.startValue a n _) (F.drs.modStream _ _ _)

theorem TurnFrame.holdData (a : State) (n : Nat) (x : Stream) (d : Option Desc) (b : DataBody) (pre : Option (Option Nat)) :
    R a (a.holdData n x d b pre) := by
  unfold State.holdData
  simp only
  generalize hy : a.setStream n _ = y
  have h1 : R a y := hy ▸ F.dr a _
  have h2 : R a (if fromValueLine x b = true then
      match pre with
      | some r => y.modStream n (fun y => { y with vFor := y.vFor ++ [r] })
      | none => y.valueRead n
    else y) := by
    split
    · split
      · exact F.trans h1 (F.drs.modStream _ _ _)
      · exact F.trans h1 (F.valueRead _ _)
    · exact h1
  exact F.reports.ite (F.trans h2 (F.acceptHeld _ n)) h2

/-! ## Feeds, channels and drafts -/

theorem TurnFrame.leaveOff (a : State) (n : Nat) : R a (a.leaveOff n) := F.reports.ite (F.fd a _) (F.reports.ite (F.fd a _) (F.fd a _))

theorem TurnFrame.feedOn (a : State) (n : Nat) : R a (a.feedOn n) := by
  unfold State.feedOn
  simp only
  generalize hx : List.foldl _ a channels = x
  have h1 : R a x := hx ▸ F.reports.foldl (fun b _ => F.lw b _) channels a
  exact F.trans h1 (F.trans (F.fd x _) (F.reports.ite (F.leaveOff _ n) (F.refl _)))

theorem TurnFrame.feedQuar (a : State) (n : Nat) : R a (a.feedQuar n) := by
  unfold State.feedQuar
  split
  · next c _ =>
    split
    · next q _ =>
      refine F.reports.ite (F.reports.quarRecord (F.reports.count (F.lw a _) _) _ _ _ _ _) ?_
      refine F.trans (F.reports.quarRecord (F.reports.count (F.reports.raise ?_ _) _) _ _ _ _ _) (F.drs.quarBreach _ _)
      exact F.trans (F.trans (F.lw a _) (F.fd _ _)) (F.feedHold _ _ _)
    · exact F.feedOff a n
  · exact F.feedOff a n

theorem TurnFrame.feedAct (a : State) (n act off : Nat) : R a (a.feedAct n act off) := by
  have hcycle : R a (a.feedCycle n off) := F.trans (F.fd a _) (F.feedHold _ n 9)
  have hclear : R a (a.feedClear n) := F.reports.ite (F.trans (F.fd a _) (F.leaveOff _ n)) (F.reports.count (F.refl a) _)
  exact F.reports.ite (F.feedOn a n) (F.reports.ite (F.feedOff a n) (F.reports.ite hcycle (F.reports.ite (F.feedQuar a n) hclear)))

theorem TurnFrame.noEffect (a : State) (ch : Nat) : R a (a.noEffect ch) := F.reports.spEvent (F.reports.chCount (F.refl a) _ _) _ _

theorem TurnFrame.recoverCmd (a : State) (ch : Nat) : R a (a.recoverCmd ch) :=
  F.reports.ite (F.trans (F.chs a _) ((F.bus ch).air.chanFrame.enterSt _ _)) (F.reports.ite (F.chs a _) (F.noEffect a ch))

theorem TurnFrame.releaseCmd (a : State) (ch : Nat) : R a (a.releaseCmd ch) := by
  have C := (F.bus ch).air.chanFrame
  exact F.reports.ite (F.trans (F.trans (F.chs a _) (C.warnUpd _)) (C.enterSt _ _)) (F.noEffect a ch)

theorem TurnFrame.refuse (h : R a b) (d : Desc) (op n st : Nat) : R a (b.refuse d op n st) := F.reports.complete h _ _

theorem TurnFrame.completeSt (h : R a b) (d : Desc) (op st : Nat) : R a (b.completeSt d op st) := F.reports.complete h _ _

theorem TurnFrame.enqueue (a : State) (q : DraftReq) : R a (a.enqueue q) := F.dr a _

theorem TurnFrame.takeClose (a : State) (o : Origin) (n : Nat) : R a (a.takeClose o n) := by
  refine F.reports.ite ?_ (F.enqueue a _)
  unfold State.judgeClose
  simp only
  refine F.reports.ite (F.drs.modStream _ _ _) ?_
  split
  · exact F.refuse (F.refl a) _ _ _ _
  · exact F.refl a

theorem TurnFrame.plyDone (a : State) (o : Option Desc) (st : Nat) : R a (a.plyDone o st) := by
  cases o with
  | none => exact F.refl a
  | some d => exact F.reports.complete (F.refl a) _ _

/-! ## Acceptance -/

theorem TurnFrame.acceptFor (a : State) (d : Desc) (op n : Nat) {f : State → State} (hf : R a (f a)) : R a (a.acceptFor d op n f) :=
  F.reports.ite (F.refuse (F.refl a) _ _ _ _) (F.reports.ite (F.refuse (F.refl a) _ _ _ _) (F.reports.ite (F.refuse (F.refl a) _ _ _ _)
    (F.reports.ite (F.refuse (F.refl a) _ _ _ _) hf)))

theorem TurnFrame.plyWide (a : State) (d : Desc) (op : Nat) (act : PlyAct) {f : State → State} (hf : R a (f a)) : R a (a.plyWide d op act f) :=
  F.reports.ite (F.reports.ite (F.pl a _) (F.completeSt (F.refl a) _ _ _)) hf

theorem TurnFrame.acceptNop (a : State) (d : Desc) : R a (a.acceptNop d) := by
  unfold State.acceptNop
  refine F.acceptFor a d 0 0 ?_
  exact F.completeSt (F.refl a) _ _ _

theorem TurnFrame.acceptSend (a : State) (d : Desc) (b : SendBody) : R a (a.acceptSend d b) := by
  unfold State.acceptSend
  refine F.acceptFor a d 1 0 ?_
  refine F.reports.ite (F.completeSt (F.refl a) _ _ _) (F.reports.ite (F.completeSt (F.refl a) _ _ _)
    (F.reports.ite (F.completeSt (F.reports.chCount (F.refl a) _ _) _ _ _) ?_))
  have h1 := F.takeBob a (txBobbin b.ch.val (SendBody.frame b) .send)
  generalize a.takeBob _ = x at h1 ⊢
  refine F.reports.ite (F.trans h1 ?_) (F.trans h1 (F.chs _ _))
  unfold State.enterSend
  split
  · exact F.refl x
  · exact F.trans (F.chs x _) (F.enterReady _ _ _ _ _)

theorem TurnFrame.acceptData (a : State) (d : Desc) (b : DataBody) : R a (a.acceptData d b) := by
  unfold State.acceptData
  simp only
  generalize a.prefetched d b.stream.val = pre
  have h1 := F.drs.modStream a b.stream.val
    (fun y => { y with vPre := y.vPre.filter (fun e => decide (e.1 ≠ (d.port, d.distaff, d.index))) })
  generalize a.modStream b.stream.val _ = x at h1 ⊢
  refine F.trans h1 (F.acceptFor x d 4 _ ?_)
  split
  · exact F.refuse (F.refl x) _ _ _ _
  · refine F.reports.ite (F.refuse (F.refl x) _ _ _ _) (F.reports.ite (F.refuse (F.dr x _) _ _ _ _)
      (F.reports.ite (F.refuse (F.refl x) _ _ _ _) (F.reports.ite (F.refuse (F.refl x) _ _ _ _) (F.holdData x _ _ _ _ _))))

theorem TurnFrame.acceptOpen (a : State) (d : Desc) (b : OpenBody) : R a (a.acceptOpen d b) := by
  unfold State.acceptOpen
  refine F.acceptFor a d 2 _ ?_
  exact F.reports.ite (F.refuse (F.refl a) _ _ _ _) (F.reports.ite (F.refuse (F.refl a) _ _ _ _)
    (F.reports.ite (F.refuse (F.refl a) _ _ _ _) (F.plyWide a d 2 _ (by exact F.enqueue a _))))

theorem TurnFrame.acceptClose (a : State) (d : Desc) (n : Fin 4096) : R a (a.acceptClose d n) := by
  unfold State.acceptClose
  refine F.acceptFor a d 3 _ ?_
  exact F.reports.ite (F.refuse (F.refl a) _ _ _ _) (F.plyWide a d 3 _ (by exact F.takeClose a _ _))

theorem TurnFrame.acceptForeign (a : State) (d : Desc) (b : ForeignBody) : R a (a.acceptForeign d b) := by
  unfold State.acceptForeign
  refine F.acceptFor a d 5 _ ?_
  exact F.reports.ite (F.refuse (F.refl a) _ _ _ _) (F.reports.ite (F.refuse (F.refl a) _ _ _ _)
    (F.plyWide a d 5 _ (by exact F.enqueue a _)))

theorem TurnFrame.acceptLoop (a : State) (d : Desc) (op : Nat) (act : PlyAct) :
    R a (a.accept d op (fun s => s.plyWide d op act (fun s => s.queueLoop d act))) :=
  F.acceptFor a d op 0 (by exact F.plyWide a d op act (by exact F.twist a _))

theorem TurnFrame.acceptFeed (a : State) (d : Desc) (act n off : Nat) : R a (a.acceptFeed d act n off) := by
  unfold State.acceptFeed
  refine F.acceptFor a d 8 0 ?_
  exact F.reports.ite (F.reports.complete (F.refl a) _ _) (F.reports.ite (F.reports.complete (F.refl a) _ _)
    (F.reports.complete (F.feedAct a n act off) _ _))

theorem TurnFrame.acceptCapture (a : State) (d : Desc) (b : CaptureBody) : R a (a.acceptCapture d b) := by
  unfold State.acceptCapture
  refine F.acceptFor a d 9 0 ?_
  exact F.reports.ite (F.completeSt (F.refl a) _ _ _) (F.reports.ite (F.completeSt (F.refl a) _ _ _)
    (F.reports.ite (F.completeSt (F.refl a) _ _ _) (F.lw a _)))

theorem TurnFrame.acceptPly (a : State) (d : Desc) (act m : Nat) : R a (a.acceptPly d act m) := by
  unfold State.acceptPly
  refine F.acceptFor a d 10 0 ?_
  exact F.reports.ite (F.plyDone a _ _) (F.reports.ite (F.reports.ite (F.pl a _) (F.plyDone a _ _))
    (F.reports.ite (F.plyDone a _ _) (F.reports.ite (F.plyDone a _ _) (F.plyWide a d 10 _ (by exact F.refl a)))))

theorem TurnFrame.acceptFence (a : State) (d : Desc) (turn : BitVec 48) (hold : Bool) : R a (a.acceptFence d turn hold) := by
  unfold State.acceptFence
  refine F.acceptFor a d 11 0 ?_
  exact F.reports.ite (F.reports.complete (F.refl a) _ _) (F.reports.ite (F.fences a _) (F.completeSt (F.refl a) _ _ _))

theorem TurnFrame.acceptKeyLoad (a : State) (d : Desc) (b : KeyBody) : R a (a.acceptKeyLoad d b) := by
  unfold State.acceptKeyLoad
  refine F.acceptFor a d 12 0 ?_
  exact F.reports.ite (F.completeSt (F.ks a _) _ _ _)
    (F.reports.ite (F.completeSt (F.reports.raise (F.reports.count (F.ks a _) _) _) _ _ _)
      (F.reports.ite (F.completeSt (F.reports.raise (F.reports.slub (F.reports.count (F.ks a _) _) _ _ _ _) _) _ _ _) (F.ks a _)))

theorem TurnFrame.acceptChCmd (a : State) (d : Desc) (act ch : Nat) : R a (a.acceptChCmd d act ch) := by
  unfold State.acceptChCmd
  refine F.acceptFor a d 13 0 ?_
  exact F.reports.ite (F.reports.complete (F.recoverCmd a ch) _ _)
    (F.reports.ite (F.reports.complete (F.releaseCmd a ch) _ _) (F.completeSt (F.refl a) _ _ _))

/-- Any descriptor at acceptance. -/
theorem TurnFrame.acceptAny (a : State) (d : Desc) (b : DescBody) : R a (a.acceptAny d b) := by
  cases b with
  | nop => exact F.acceptNop a d
  | send b => exact F.acceptSend a d b
  | open_ b => exact F.acceptOpen a d b
  | close n => exact F.acceptClose a d n
  | data b => exact F.acceptData a d b
  | foreign b => exact F.acceptForeign a d b
  | loopParam b => exact F.acceptLoop a d 6 (.loopParam b)
  | loopMode b => exact F.acceptLoop a d 7 (.loopMode b)
  | feedCmd act f off => exact F.acceptFeed a d act f.val off.toNat
  | capture b => exact F.acceptCapture a d b
  | plyCmd act m => exact F.acceptPly a d act m.val
  | fence turn hold => exact F.acceptFence a d turn hold
  | keyLoad b => exact F.acceptKeyLoad a d b
  | chCmd act ch => exact F.acceptChCmd a d act ch.val
  | bad n => exact F.acceptFor a d n 0 (by exact F.refl a)

/-- FENCEs whose turn has begun complete, and what they held is offered again. -/
theorem TurnFrame.fenceBoundary (a : State) : R a a.fenceBoundary := by
  unfold State.fenceBoundary
  simp only
  have h1 : R a { a with fences := a.fences.filter (fun x => !a.turnBegun x.turn), holds := [] } :=
    F.trans (F.fences a _) (F.holds { a with fences := a.fences.filter (fun x => !a.turnBegun x.turn) } [])
  generalize ({ a with fences := a.fences.filter (fun x => !a.turnBegun x.turn), holds := [] } : State) = b at h1 ⊢
  have hok : ∀ (c : State) (x : FenceSt), R c (c.fenceOk x.desc x.turn) := fun c _ => F.reports.complete (F.refl c) _ _
  have hoffer : ∀ (c : State) (h : HeldDesc), R c (c.offerAny h.desc h.body) := fun c h => F.reports.ite (F.holds c _) (F.acceptAny c h.desc h.body)
  exact F.trans h1 (F.trans (F.reports.foldl hok _ b) (F.reports.foldl hoffer _ _))

end

end Sys2Proof.Machine
end

section
/-!
PROOFS. What the ply's part of a boundary, its loop descriptors, the commit of a boundary and the entry of RUN keep (R471, R241, R394, R569).
-/

namespace Sys2Proof.Machine

/-! ## The ply's part of a boundary in steps -/

/-- The holder of the view is shown, and whether another than this member took the flyer. -/
def State.holderShown (s : State) (h : Nat) (seen : Bool) : State :=
  { s with
    pl := { s.pl with
      holder := h, hadActor := decide (h ≠ 3), lastHolder := if h = 3 then s.pl.lastHolder else h
      epoch := if seen then s.pl.epoch + 1 else s.pl.epoch
      switchTo := if seen then none else s.pl.switchTo } }

/-- A lapse of the lease is shown and reported (source 0x308). -/
def State.lapseShown (s : State) : State :=
  let bare := (match s.actor with | none => true | some a => s.leaseOver a) && s.lastLeaseOver
  let gone := bare && decide (s.pl.lastHolder ≠ 3)
  let n := if bare then min 15 (s.pl.orphan + 1) else 0
  let s3 := { s with pl := { s.pl with lapsed := gone, orphan := n } }
  if gone && !s.pl.lapsed then s3.raise 0x308 else s3

theorem State.holderStep_eq (s : State) : s.holderStep =
    ((if s.actor.getD 3 = s.pl.holder then s else s.raise 0x300).holderShown (s.actor.getD 3)
      (decide (s.actor.getD 3 ≠ 3) && decide (s.actor.getD 3 ≠ s.own) && decide (s.actor.getD 3 ≠ s.pl.holder))).lapseShown := rfl

/-- The shadow of the turn just ended is kept for the heartbeat. -/
def State.plyBegins (s : State) : State := { s with pl := { s.pl with shadowPrev := s.pl.shadowNow, shadowNow := false } }

/-- A member in RUN is not OUT. -/
def State.plyJoins (s : State) : State := if s.dev.st = .run ∧ s.pl.role = .out then s.join else s

/-- Steps 2 to 4: the descriptors, the loop state that has arrived, and what the heartbeats say. -/
def State.plyHears (s : State) : State :=
  let s2 := s.plyDescStep.installStep
  s2.others.foldl State.viewStep s2.shadowRuns

/-- Steps 5 and 6: the lease, and the flyer that is taken. -/
def State.plyDecides (s : State) (s0 : PlySt) : State := (s.leaseStep.releasingStep s0).takeStep

theorem State.plyBoundary_eq (s : State) : s.plyBoundary =
    if s.plyMember then
      (((s.plyBegins.plyJoins.plyHears.plyDecides s.pl).holderStep.noActorStep (decide (s.plyBegins.plyJoins.pl.role = .acting))
        s.plyBegins.plyJoins.plyHears.heardActing).buildBeat).clearTurn
    else s := rfl

section
variable {R : State → State → Prop} (F : TurnFrame R) {a b : State}
include F

/-! ## Loop descriptors -/

theorem TurnFrame.applyLoopMode (a : State) (b : LoopModeBody) : R a (a.applyLoopMode b).1 := by
  unfold State.applyLoopMode
  simp only
  split
  · exact F.refl a
  · exact F.twist a _

theorem TurnFrame.applyLoopParam (a : State) (b : LoopParamBody) : R a (a.applyLoopParam b).1 := by
  unfold State.applyLoopParam
  simp only
  split
  · exact F.refl a
  · generalize hx : List.foldl _ a [0, 1, 2, 3, 4] = x
    have h1 : R a x := hx ▸ F.reports.foldl (fun b _ => F.config b _) _ a
    exact F.trans h1 (F.free.coverChange x)

theorem TurnFrame.runLoopCmd (a : State) (d : Option Desc) (act : PlyAct) : R a (a.runLoopCmd d act) := by
  cases d with
  | none =>
    cases act with
    | loopMode b => exact F.applyLoopMode a b
    | loopParam b => exact F.applyLoopParam a b
    | _ => exact F.refl a
  | some d =>
    cases act with
    | loopMode b => exact F.reports.complete (F.applyLoopMode a b) _ _
    | loopParam b => exact F.reports.complete (F.applyLoopParam a b) _ _
    | _ => exact F.reports.complete (F.refl a) _ _

theorem TurnFrame.loopCmds (a : State) : R a a.loopCmds := by
  have h1 : R a { a with tw := { a.tw with cmds := [] } } := F.twist a _
  exact F.trans h1 (F.reports.foldl (fun b (e : Desc × PlyAct) => F.runLoopCmd b (some e.1) e.2) _ _)

/-! ## The ply (R471) -/

theorem TurnFrame.plyAction (a : State) (o : Option Desc) (act m : Nat) : R a (a.plyAction o act m) := by
  unfold State.plyAction
  simp only
  generalize hx : (if act = 1 then _ else _ : State) = x
  have h1 : R a x := by
    rw [← hx]
    refine F.reports.ite ?_ (F.reports.ite (F.ply.demote a m) (F.reports.ite (F.reports.ite (F.ply.join a) (F.refl a)) (F.pl a _)))
    exact F.reports.ite (F.trans (F.pl a _) (F.pl _ _)) (F.pl a _)
  exact F.trans (F.reports.raise h1 _) (F.plyDone _ o 0)

theorem TurnFrame.runPly (a : State) (p : PlyDesc) : R a (a.runPly p) := by
  unfold State.runPly
  simp only
  split
  · exact F.enqueue a _
  · exact F.enqueue a _
  · exact F.takeClose a _ _
  · exact F.runLoopCmd a _ _
  · exact F.runLoopCmd a _ _
  · exact F.plyAction a _ _ _

theorem TurnFrame.plyDescStep (a : State) : R a a.plyDescStep := by
  unfold State.plyDescStep
  simp only
  generalize hx : ({ a with pl := _ } : State) = x
  have h1 : R a x := hx ▸ F.pl a _
  refine F.trans h1 (F.reports.foldl (fun b p => ?_) _ x)
  split
  · exact F.reports.ite (F.runPly b p) (F.trans (F.reports.raise (F.refl b) _) (F.ply.demote _ _))
  · refine F.reports.ite (F.refl b) (F.reports.ite ?_ (F.runPly b p))
    split
    · exact F.plyDone b _ _
    · exact F.runPly b p

theorem TurnFrame.installLoop (a : State) (x : LoopImage) : R a (a.installLoop x) := by
  unfold State.installLoop
  simp only
  generalize hy : a.modLoop x.loop _ = y
  have h1 : R a y := hy ▸ F.twist a _
  generalize hz : List.foldl _ y x.streams = z
  have h2 : R a z := hz ▸ F.trans h1 (F.reports.foldl (fun b e => F.drs.modStream b _ _) _ y)
  exact F.reports.ite h2 (F.trans h2 (F.pl z _))

theorem TurnFrame.installStep (a : State) : R a a.installStep := by
  have h1 : R a { a with pl := { a.pl with install := [], syncTurns := a.pl.syncTurns + 1 } } := F.pl a _
  exact F.reports.ite (F.trans h1 (F.reports.foldl F.installLoop _ _)) h1

theorem TurnFrame.shadowRuns (a : State) : R a a.shadowRuns := F.reports.foldl (fun b _ => F.pl b _) _ a

theorem TurnFrame.viewStep (a : State) (j : Nat) : R a (a.viewStep j) := by
  unfold State.viewStep
  simp only
  generalize hx : a.setMem j _ = x
  have h1 : R a x := hx ▸ F.pl a _
  generalize (!(a.mem j).inView && decide ((if a.heard j = true then (a.mem j).heardRun + 1 else 0) ≥ 2)) = enters
  generalize hy : (if enters = true then x.raise 0x305 else x) = y
  have h2 : R a y := hy ▸ F.reports.ite (F.reports.raise h1 _) h1
  refine F.reports.ite (F.trans ?_ (F.ply.join _)) ?_
  all_goals
    refine F.reports.ite (F.reports.raise ?_ _) (F.reports.ite (F.reports.raise ?_ _) ?_)
    all_goals exact F.reports.ite (F.reports.raise h2 _) h2

theorem TurnFrame.leaseStep (a : State) : R a a.leaseStep :=
  F.reports.ite (F.refl a) (F.reports.ite (F.ply.setRole a _) (F.reports.ite (F.pl a _) (F.reports.ite (F.ply.setRole a _) (F.refl a))))

theorem TurnFrame.grant (a : State) : R a a.grant := F.trans (F.reports.count (F.pl a _) _) (F.ply.setRole _ _)

theorem TurnFrame.takeStep (a : State) : R a a.takeStep := by
  unfold State.takeStep
  split
  · simp only
    generalize hx : ({ a with pl := { a.pl with force := none } } : State) = x
    have h1 : R a x := hx ▸ F.pl a _
    exact F.reports.ite (F.trans h1 (F.trans (F.reports.raise (F.grant x) _) (F.plyDone _ _ _))) (F.trans h1 (F.plyDone _ _ _))
  · exact F.reports.ite (F.grant a) (F.refl a)

theorem TurnFrame.holderStep (a : State) : R a a.holderStep := by
  rw [State.holderStep_eq]
  have h1 : R a (if a.actor.getD 3 = a.pl.holder then a else a.raise 0x300) := F.reports.ite (F.refl a) (F.reports.raise (F.refl a) _)
  generalize (if a.actor.getD 3 = a.pl.holder then a else a.raise 0x300) = x at h1 ⊢
  have h2 : R a (x.holderShown (a.actor.getD 3) (decide (a.actor.getD 3 ≠ 3) && decide (a.actor.getD 3 ≠ a.own) && decide (a.actor.getD 3 ≠ a.pl.holder))) :=
    F.trans h1 (F.pl x _)
  generalize x.holderShown _ _ = y at h2 ⊢
  exact F.trans h2 (F.reports.ite (F.reports.raise (F.pl y _) _) (F.pl y _))

theorem TurnFrame.noActorStep (a : State) (acted heard : Bool) : R a (a.noActorStep acted heard) :=
  F.reports.ite (F.trans (F.dr a _) (F.reports.foldl (fun b c => F.drs.detect b c 6 0 0) _ _)) (F.dr a _)

theorem TurnFrame.clearTurn (a : State) : R a a.clearTurn :=
  F.trans (F.reports.foldl (fun b _ => F.pl b _) plyMembers a) (F.pl _ _)

theorem TurnFrame.plyBoundary (a : State) : R a a.plyBoundary := by
  rw [State.plyBoundary_eq]
  refine F.reports.ite ?_ (F.refl a)
  have h1 : R a a.plyBegins.plyJoins := F.trans (F.pl a _) (F.reports.ite (F.ply.join _) (F.refl _))
  generalize a.plyBegins.plyJoins = x at h1 ⊢
  have h2 : R x x.plyHears :=
    F.trans (F.trans (F.plyDescStep x) (F.installStep _)) (F.trans (F.shadowRuns _) (F.reports.foldl F.viewStep _ _))
  generalize x.plyHears = y at h2 ⊢
  have h3 : R y (y.plyDecides a.pl) := F.trans (F.leaseStep y) (F.trans (F.reports.ite (F.pl _ _) (F.refl _)) (F.takeStep _))
  exact F.trans (F.trans h1 (F.trans h2 h3)) (F.trans (F.holderStep _) (F.trans (F.noActorStep _ _ _) (F.trans (F.pl _ _) (F.clearTurn _))))

/-! ## The commit of a boundary, and RUN -/

theorem TurnFrame.commitBoundary (a : State) : R a a.commitBoundary := by
  refine F.reports.ite ?_ (F.refl a)
  have h0 : R a { a with regs := (a.makeLive a.regs.pend).regs } := F.config a _
  have h1 : R a (a.makeLive a.regs.pend) := F.trans h0 (F.cs { a with regs := (a.makeLive a.regs.pend).regs } _)
  have h2 := F.trans h1 (F.newReserves _ (a.reanChannels a.regs.pend))
  unfold State.applyGroups
  simp only
  rw [State.groupEffects_eq]
  generalize (a.makeLive a.regs.pend).newReserves (a.reanChannels a.regs.pend) = b at h2 ⊢
  have h3 := F.trans h2 (F.effectsBefore b a.regs.pend a.regs.live a.regs.commitNow)
  generalize b.effectsBefore a.regs.pend a.regs.live a.regs.commitNow = c at h3 ⊢
  have h4 : R a (if bitOf a.regs.pend 24 then c.whorlCommit a.regs.live else c) := F.reports.ite (F.trans h3 (F.report c _)) h3
  generalize (if bitOf a.regs.pend 24 then c.whorlCommit a.regs.live else c) = d at h4 ⊢
  have h5 := F.trans h4 (F.effectsAfter d a.regs.pend)
  exact F.reports.raise (F.trans h5 (F.trans (F.coverIfChanged _ a) (F.ply.refreshTrip _))) _

theorem TurnFrame.runEntry (a : State) : R a a.runEntry := by
  refine F.reports.ite ?_ (F.refl a)
  simp only
  have h1 : R a { a with dev := { a.dev with runPend := false } } := F.dev a _ rfl id
  have h2 := F.trans h1 (F.toState _ (d := .run) (by decide))
  generalize State.toState _ .run = x at h2 ⊢
  have hloop : ∀ (b : State) (k : Nat), R b (b.modLoop k (fun v => { v with stages := dropHistory v.stages })) := fun b _ => F.twist b _
  have hout : ∀ (b : State) (n : Nat), R b (b.modLoopOut n (fun o => { o with cmdAt := b.clock })) := fun b _ => F.lio b _
  have h3 := F.trans h2 (F.reports.foldl hloop (loopsOf x.regs.live) x)
  generalize List.foldl _ x (loopsOf x.regs.live) = y at h3 ⊢
  have h4 := F.trans h3 (F.reports.foldl hout outputs y)
  exact F.trans h4 (F.ply.refreshTrip _)

end

end Sys2Proof.Machine
end

section
/-!
PROOFS. A boundary opens its turn: the number, the boundary's time base value and the phases are those of the opening whatever the boundary
does on the blocks (R56, R57, R64, R71).
-/

namespace Sys2Proof.Machine

/-! ## What no step behind the opening changes -/

/-- From a to b the queue, the lock bits and the turn in progress stay. -/
structure State.TurnStays (a b : State) : Prop where
  pending : b.pending = a.pending
  locks : b.locks = a.locks
  turn : TurnSt.sameTurn a.tm b.tm

theorem TurnSt.sameTurn.refl (a : TurnSt) : TurnSt.sameTurn a a := ⟨rfl, rfl, rfl, rfl, rfl, rfl, rfl, rfl, rfl⟩

theorem TurnSt.sameTurn.trans {a b c : TurnSt} (h : TurnSt.sameTurn a b) (g : TurnSt.sameTurn b c) : TurnSt.sameTurn a c := by
  obtain ⟨h1, h2, h3, h4, h5, h6, h7, h8, h9⟩ := h
  obtain ⟨g1, g2, g3, g4, g5, g6, g7, g8, g9⟩ := g
  exact ⟨g1.trans h1, g2.trans h2, g3.trans h3, g4.trans h4, g5.trans h5, g6.trans h6, g7.trans h7, g8.trans h8, g9.trans h9⟩

theorem State.turnStays_frame : TurnFrame State.TurnStays where
  refl _ := ⟨rfl, rfl, .refl _⟩
  trans h g := ⟨g.pending.trans h.pending, g.locks.trans h.locks, h.turn.trans g.turn⟩
  rep _ _ _ := ⟨rfl, rfl, .refl _⟩
  dr _ _ := ⟨rfl, rfl, .refl _⟩
  cr _ _ := ⟨rfl, rfl, .refl _⟩
  ks _ _ := ⟨rfl, rfl, .refl _⟩
  mm _ _ := ⟨rfl, rfl, .refl _⟩
  chs _ _ := ⟨rfl, rfl, .refl _⟩
  sps _ _ := ⟨rfl, rfl, .refl _⟩
  lw _ _ := ⟨rfl, rfl, .refl _⟩
  pl _ _ := ⟨rfl, rfl, .refl _⟩
  fa _ _ := ⟨rfl, rfl, .refl _⟩
  fd _ _ := ⟨rfl, rfl, .refl _⟩
  cs _ _ := ⟨rfl, rfl, .refl _⟩
  lio _ _ := ⟨rfl, rfl, .refl _⟩
  rp _ _ := ⟨rfl, rfl, .refl _⟩
  regs _ _ _ := ⟨rfl, rfl, .refl _⟩
  tm _ _ h := ⟨rfl, rfl, h⟩
  tw _ _ _ _ := ⟨rfl, rfl, .refl _⟩
  dev _ _ _ _ := ⟨rfl, rfl, .refl _⟩
  twist _ _ := ⟨rfl, rfl, .refl _⟩
  config _ _ := ⟨rfl, rfl, .refl _⟩
  report _ _ := ⟨rfl, rfl, .refl _⟩
  fences _ _ := ⟨rfl, rfl, .refl _⟩
  holds _ _ := ⟨rfl, rfl, .refl _⟩

/-- What closes a turn leaves its time and the registers. -/
theorem State.missingOver_keeps (u : State) : u.closeTurn.missingOver.tm = u.tm ∧ u.closeTurn.missingOver.regs = u.regs ∧
    u.closeTurn.missingOver.pending = u.pending ∧ u.closeTurn.missingOver.locks = u.locks := by
  have hfold : ∀ (l : List Nat) (a : State), (l.foldl (fun (a : State) n => a.setLoopIn n { a.loopIn n with missing := false }) a).tm = a.tm ∧
      (l.foldl (fun (a : State) n => a.setLoopIn n { a.loopIn n with missing := false }) a).regs = a.regs ∧
      (l.foldl (fun (a : State) n => a.setLoopIn n { a.loopIn n with missing := false }) a).pending = a.pending ∧
      (l.foldl (fun (a : State) n => a.setLoopIn n { a.loopIn n with missing := false }) a).locks = a.locks := by
    intro l
    induction l with
    | nil => exact fun a => ⟨rfl, rfl, rfl, rfl⟩
    | cons n l ih => exact fun a => ih _
  exact hfold inputs u.closeTurn

/-- The schedule starts the pulse and leaves the rest of the opening. -/
theorem State.layTurn_spec (a : State) : a.layTurn.tm.pulse = true ∧
    State.TurnStays a { a.layTurn with tm := { a.layTurn.tm with pulse := a.tm.pulse } } := by
  unfold State.layTurn
  simp only
  generalize boundaryAfter a.lenUs a.tm.bound.toNat = n
  split <;> exact ⟨rfl, rfl, rfl, .refl _⟩

/-- The commit, the streams, RUN and the schedule behind the opening of a turn (`last` is the turn that ends). -/
def State.boundOpened (s : State) (last : BitVec 48) (loaded : Bool) : State :=
  let s1 := s.chBoundary
  let s2 := (s1.crcStop s1.tm.turn loaded).commitBoundary
  let s3 := (s2.missReports last).raise 0x040
  let s4 := (s3.streamNums.foldl State.liveStep s3).foreignStep
  s4.runEntry.crcStart s4.tm.turn

theorem State.boundConfig_eq (s : State) :
    s.boundConfig = (s.closeTurn.missingOver.openTurn.boundOpened s.tm.turn (s.tm.turnLoad || s.tm.cellTurn.isSome)).layTurn := rfl

theorem State.boundOpened_turnStays (a : State) (last : BitVec 48) (loaded : Bool) : State.TurnStays a (a.boundOpened last loaded) := by
  have F := State.turnStays_frame
  unfold State.boundOpened
  simp only
  have h1 := F.trans (F.chBoundary a) (F.crcStop _ a.chBoundary.tm.turn loaded)
  generalize a.chBoundary.crcStop a.chBoundary.tm.turn loaded = b at h1 ⊢
  have h2 := F.reports.raise (F.trans h1 (F.trans (F.commitBoundary b) (F.missReports _ last))) 0x040
  generalize (b.commitBoundary.missReports last).raise 0x040 = c at h2 ⊢
  have h3 := F.trans h2 (F.trans (F.reports.foldl F.liveStep c.streamNums c) (F.foreignStep _))
  generalize (c.streamNums.foldl State.liveStep c).foreignStep = d at h3 ⊢
  exact F.trans h3 (F.trans (F.runEntry d) (F.crcStart _ _))

theorem State.boundBlocks_turnStays (a : State) : State.TurnStays a a.boundBlocks := by
  have F := State.turnStays_frame
  unfold State.boundBlocks
  simp only
  have h1 := F.trans (F.plyBoundary a) (F.loopCmds _)
  generalize a.plyBoundary.loopCmds = b at h1 ⊢
  exact F.trans h1 (F.blocks b _)

theorem State.boundReports_turnStays (a : State) : State.TurnStays a a.boundReports := by
  have F := State.turnStays_frame
  unfold State.boundReports
  simp only
  have h1 := F.fenceBoundary a
  generalize a.fenceBoundary = b at h1 ⊢
  exact F.trans h1 (F.boundaryReports b)

/-- The opening of a turn. -/
theorem State.openTurn_spec (a : State) : a.openTurn.tm.turn = a.nextTurn ∧ a.openTurn.tm.turnLoad = false ∧ a.openTurn.tm.cellTurn = none ∧
    a.openTurn.tm.bound = a.tm.nextBound ∧ a.openTurn.tm.capDone = false ∧ a.openTurn.tm.agreeDone = false ∧
    a.openTurn.tm.twistDone = false ∧ a.openTurn.tm.releaseDone = false ∧ a.openTurn.pending = a.pending ∧ a.openTurn.locks = a.locks :=
  ⟨rfl, rfl, rfl, rfl, rfl, rfl, rfl, rfl, rfl, rfl⟩

/-- A boundary leaves the turn as its opening does, with the pulse. -/
theorem State.boundary_spec (u : State) : ∃ t, u.boundConfig.boundBlocks.boundReports = t ∧ t.tm.turn = u.nextTurn ∧ t.tm.turnLoad = false ∧
    t.tm.cellTurn = none ∧ t.tm.bound = u.tm.nextBound ∧ t.tm.pulse = true ∧ t.tm.capDone = false ∧ t.tm.agreeDone = false ∧
    t.tm.twistDone = false ∧ t.tm.releaseDone = false ∧ t.pending = u.pending ∧ t.locks = u.locks := by
  obtain ⟨htm, hregs, hpend, hlocks⟩ := State.missingOver_keeps u
  rw [State.boundConfig_eq]
  generalize u.closeTurn.missingOver = a at htm hregs hpend hlocks ⊢
  have hnext : a.nextTurn = u.nextTurn := by
    unfold State.nextTurn State.rwi
    rw [htm, hregs]
  obtain ⟨o1, o2, o3, o4, o6, o7, o8, o9, op, ol⟩ := a.openTurn_spec
  generalize a.openTurn = o at o1 o2 o3 o4 o6 o7 o8 o9 op ol ⊢
  have h1 := State.boundOpened_turnStays o u.tm.turn (u.tm.turnLoad || u.tm.cellTurn.isSome)
  generalize o.boundOpened u.tm.turn (u.tm.turnLoad || u.tm.cellTurn.isSome) = b at h1 ⊢
  obtain ⟨hpulse, h2⟩ := State.layTurn_spec b
  generalize b.layTurn = c at hpulse h2 ⊢
  have h3 := State.turnStays_frame.trans (State.boundBlocks_turnStays c) (State.boundReports_turnStays _)
  generalize c.boundBlocks.boundReports = t at h3 ⊢
  obtain ⟨p1, l1, a1, a2, a3, a4, -, a6, a7, a8, a9⟩ := h1
  obtain ⟨p2, l2, b1, b2, b3, b4, -, b6, b7, b8, b9⟩ := h2
  obtain ⟨p3, l3, c1, c2, c3, c4, c5, c6, c7, c8, c9⟩ := h3
  exact ⟨t, rfl, (c1.trans (b1.trans a1)).trans (o1.trans hnext), (c2.trans (b2.trans a2)).trans o2, (c3.trans (b3.trans a3)).trans o3,
    ((c4.trans (b4.trans a4)).trans o4).trans (congrArg (·.nextBound) htm), c5.trans hpulse, (c6.trans (b6.trans a6)).trans o6,
    (c7.trans (b7.trans a7)).trans o7, (c8.trans (b8.trans a8)).trans o8, (c9.trans (b9.trans a9)).trans o9,
    ((p3.trans (p2.trans p1)).trans op).trans hpend, ((l3.trans (l2.trans l1)).trans ol).trans hlocks⟩

theorem exec_turnBoundary (s : State) : exec .turnBoundary s = s.sched s.tm.nextBound (fun u => u.boundConfig.boundBlocks.boundReports) := rfl

/-- Settles O10: the opening sets the turn, and every other step of the boundary, down to what a FENCE held, leaves it. -/
theorem boundaryAdvancesTheTurn : Obligations.BoundaryAdvancesTheTurn := by
  intro s hs
  have heq := s.advanceTo_eq s.tm.nextBound
  refine answers_sched hs (exec_turnBoundary s) ?_
  generalize s.advanceTo s.tm.nextBound = u at heq ⊢
  obtain ⟨htm, hregs, hpend, hlocks⟩ : u.tm = s.tm ∧ u.regs = s.regs ∧ u.pending = s.pending ∧ u.locks = s.locks := by
    rw [heq]
    exact ⟨rfl, rfl, rfl, rfl⟩
  obtain ⟨t, ht, hturn, hload, hcell, hbound, hpulse, hcap, hagree, htwist, hrel, hp, hl⟩ := State.boundary_spec u
  rw [ht]
  have hnext : u.nextTurn = s.nextTurn := by
    unfold State.nextTurn State.rwi
    rw [htm, hregs]
  refine ⟨fun hc => (hturn.trans hnext).trans ?_, fun n hc => (hturn.trans hnext).trans ?_, hload, hcell,
    hbound.trans (congrArg (·.nextBound) htm), hpulse, hcap, hagree, htwist, hrel, hp.trans hpend, hl.trans hlocks⟩
  · unfold State.nextTurn
    rw [hc]
  · unfold State.nextTurn
    rw [hc]

end Sys2Proof.Machine
end
